-- ==== Sys2Proof/Word.lean ====
section
/-! DEFINITION. Words of the chipset (R14, R15) and the two containers the state is made of:
a sparse map in canonical form, and a register field by name (access codes R17). -/

namespace Sys2Proof

/-- A 64-bit word of an uplink, a queue or a link (R127). -/
abbrev Word64 := BitVec 64

/-- A byte. -/
abbrev Byte := BitVec 8

/-- A sparse map: keys strictly rising, an unlisted key at its default. -/
abbrev SMap (α : Type) := List (Nat × α)

/-- The access codes of R17 (RC: a normal read clears to the reset value; RWA: writable in HELD and
ADMITTED only). -/
inductive Acc where
  | ro | rw | wo | w1c | rc | rwa
  deriving DecidableEq, Repr

/-- One field of one register: the register's byte address, the bits [hi:lo], access and reset. -/
structure Fld where
  addr : Nat
  hi : Nat
  lo : Nat
  acc : Acc
  reset : Nat
  deriving DecidableEq, Repr

/-- One row of a register index: a family of `count × count2` registers at two strides, with the
fields of instance 0. -/
structure RegRow where
  name : String
  addr : Nat
  stride : Nat
  count : Nat
  stride2 : Nat
  count2 : Nat
  flds : List Fld
  deriving DecidableEq, Repr

/-- The register file of a chip: field values by bit address (32 × byte address + lowest bit); a
field that is not listed holds its reset value. -/
abbrev RegFile := SMap Nat

end Sys2Proof
end

