-- ==== Sys2Proof/Syntax.lean ====
section
/-! DEFINITION. The commands of the chipset: one constructor for each row of spec/opcode_table.json, in its
order, with the operands that the environment of the chips supplies. What the operands mean stands at the
meaning of each, `exec<Name>` under Machine/. Chip 0 of a TAP is Wonan, 1 + p the Tladon of port `p`. -/

namespace Sys2Proof

/-- A command. -/
inductive Instr where
  /-- TLADON_PLL_LOCK (R40) -/
  | tladonPllLock (port : Nat)
  /-- TLADON_PLL_LOCK_LOST (R41) -/
  | tladonPllLockLost (port : Nat)
  /-- EPOCH (R42) -/
  | epoch (port : Nat) (dl : Bool) (j : Nat)
  /-- EPOCH_TAKE_EFFECT (R41) -/
  | epochTakeEffect (port : Nat)
  /-- MARKER_SEND (R48) -/
  | markerSend (port : Nat)
  /-- TRI_STAMP_RX (R49) -/
  | triStampRx (port : Nat) (dl : Bool) (num tick fine : Nat)
  /-- TRI_STAMP_MISSED (R50) -/
  | triStampMissed (port num : Nat)
  /-- TRI_CTRL_WRITE (R53) -/
  | triCtrlWrite (port value : Nat)
  /-- TRI_ALPHA_WRITE (R53) -/
  | triAlphaWrite (port value : Nat)
  /-- TRI_KDOWN_WRITE (R53) -/
  | triKdownWrite (port value : Nat)
  /-- TRI_KUP_WRITE (R53) -/
  | triKupWrite (port value : Nat)
  /-- HIT_WORD_RX (R57) -/
  | hitWordRx (lane word : Nat) (err : Bool)
  /-- WONAN_FRAME_BOUNDARY (R59) -/
  | wonanFrameBoundary (span meas loop : Nat)
  /-- HOLDOVER_LIMIT (R64) -/
  | holdoverLimit (port : Nat)
  /-- CLKSW_RX (R62) -/
  | clkswRx (lane dep body : Nat)
  /-- HOLD_WORD_RX (R65) -/
  | holdWordRx (lane dep body : Nat)
  /-- EPOCH_DONE_RX (R289) -/
  | epochDoneRx (lane : Nat)
  /-- MER_RATE_HI_WRITE (R73) -/
  | merRateHiWrite (value : Nat)
  /-- MER_ADJ_WRITE (R74) -/
  | merAdjWrite (value : Nat)
  /-- ADJ_CANCEL (R74) -/
  | adjCancel
  /-- MER_STEP (R75) -/
  | merStep
  /-- MER_STEP_NS_WRITE (R76) -/
  | merStepNsWrite (value : Nat)
  /-- MER_STEP_APPLY (R77) -/
  | merStepApply
  /-- MER_LOCK (R79) -/
  | merLock (refOk : Bool)
  /-- MER_RELOCK (R82) -/
  | merRelock (refOk : Bool)
  /-- MER_SRC_WRITE (R79) -/
  | merSrcWrite (src : Nat)
  /-- SYNC_LOST (R85) -/
  | syncLost
  /-- MER_PTP_PARENT_PORT_WRITE (R86) -/
  | merPtpParentPortWrite (value : Nat)
  /-- SYNCE_LOST (R88) -/
  | synceLost
  /-- REF_LOST (R88) -/
  | refLost
  /-- PPS_IN_EDGE (R89) -/
  | ppsInEdge (fall : Bool) (fine : Nat)
  /-- PPS_LOST (R89) -/
  | ppsLost
  /-- PPS_OUT_PULSE (R90) -/
  | ppsOutPulse
  /-- PTP_FRAME_RX (R93) -/
  | ptpFrameRx (port : Nat) (bytes : List Nat) (fine : Nat)
  /-- TX_STAMP_CAPTURE (R96) -/
  | txStampCapture (port id fine : Nat)
  /-- MER_TXTS_ID_READ (R97) -/
  | merTxtsIdRead
  /-- TX_STAMP_AGE_OUT (R98) -/
  | txStampAgeOut
  /-- ALARM_ARM (R102) -/
  | alarmArm (n value : Nat)
  /-- MER_ALARM_PARAM_WRITE (R108) -/
  | merAlarmParamWrite (n reg value : Nat)
  /-- ALARM_FIRE (R103) -/
  | alarmFire (n : Nat)
  /-- DISCRIMINATOR_LEADING_EDGE (R119) -/
  | discriminatorLeadingEdge (port ch raw sraw : Nat) (dith : Bool)
  /-- DISCRIMINATOR_TRAILING_EDGE (R120) -/
  | discriminatorTrailingEdge (port ch raw : Nat)
  /-- TOT_SATURATION (R120) -/
  | totSaturation (port ch : Nat)
  /-- HIT_WORD_COMPLETE (R124) -/
  | hitWordComplete (port ch : Nat)
  /-- CHANNEL_REARM (R122) -/
  | channelRearm (port ch : Nat)
  /-- CLAMP_ENGAGE (R115) -/
  | clampEngage (port ch : Nat)
  /-- CLAMP_RELEASE (R114) -/
  | clampRelease (port ch : Nat)
  /-- CH_CFG_WRITE (R117) -/
  | chCfgWrite (port ch value : Nat)
  /-- CH_THR_WRITE (R117) -/
  | chThrWrite (port ch value : Nat)
  /-- SETTLING_END (R118) -/
  | settlingEnd (port ch : Nat)
  /-- CONFIG_SCRUB (R126) -/
  | configScrub (port n : Nat)
  /-- INTERVAL_START_EDGE (R131) -/
  | intervalStartEdge (port g raw : Nat)
  /-- INTERVAL_STOP_EDGE (R131) -/
  | intervalStopEdge (port ch raw : Nat)
  /-- INTERVAL_TIMEOUT (R131) -/
  | intervalTimeout (port g : Nat)
  /-- CHN_INT_WRITE (R135) -/
  | chnIntWrite (port addr value : Nat)
  /-- WALK_TABLE_WRITE (R141) -/
  | walkTableWrite (offset value : Nat)
  /-- SURVEY_START (R151) -/
  | surveyStart (port : Nat)
  /-- SURVEY_ARM (R151) -/
  | surveyArm (port : Nat)
  /-- SURVEY_GATE_OPEN (R151) -/
  | surveyGateOpen (port : Nat)
  /-- SURVEY_ABORT (R158) -/
  | surveyAbort (port : Nat)
  /-- SURVEY_CFG_WRITE (R175) -/
  | surveyCfgWrite (port addr value : Nat)
  /-- SURVEY_GATE_END (R152) -/
  | surveyGateEnd (port : Nat)
  /-- SURVEY_RESULT (R156) -/
  | surveyResult (port : Nat)
  /-- DITHER_CONVERSION (R164) -/
  | ditherConversion (port interp raw : Nat)
  /-- CAL_SWAP (R166) -/
  | calSwap (port : Nat)
  /-- CAL_RETIRE (R167) -/
  | calRetire (port : Nat)
  /-- CAL_TIMEOUT (R168) -/
  | calTimeout (port : Nat)
  /-- CAL_CTRL_WRITE (R169) -/
  | calCtrlWrite (port value : Nat)
  /-- SAMP_REF_WRITE (R181) -/
  | sampRefWrite (port : Nat) (en : Bool)
  /-- SAMP_REF_READY (R181) -/
  | sampRefReady (port : Nat)
  /-- SAMP_EN_WRITE (R183) -/
  | sampEnWrite (port g : Nat) (en : Bool)
  /-- SAMP_CFG_WRITE (R185) -/
  | sampCfgWrite (port g ofs value : Nat)
  /-- SAMP_ARM (R183) -/
  | sampArm (port mask : Nat)
  /-- SAMP_FORCE (R188) -/
  | sampForce (port mask : Nat)
  /-- SAMP_DISARM (R194) -/
  | sampDisarm (port mask : Nat)
  /-- PULSE_WIDTH_EVENT (R187) -/
  | pulseWidthEvent (port ch : Nat)
  /-- SAMP_TIMER_EVENT (R188) -/
  | sampTimerEvent (port g : Nat)
  /-- SAMP_TRIGGER_TICK (R189) -/
  | sampTriggerTick (port g : Nat)
  /-- SAMP_FREEZE (R192) -/
  | sampFreeze (port g : Nat)
  /-- SAMP_WORD_OFFER (R199) -/
  | sampWordOffer (port x0 x1 x2 x3 : Nat)
  /-- SAMP_HOLDOFF_END (R193) -/
  | sampHoldoffEnd (port g : Nat)
  /-- SAMP_TRIM_WRITE (R179) -/
  | sampTrimWrite (port g ofs value : Nat)
  /-- MON_GO (R203) -/
  | monGo (port : Nat)
  /-- MON_TIMER_SWEEP (R203) -/
  | monTimerSweep (port : Nat)
  /-- MON_CONVERSION_DONE (R205) -/
  | monConversionDone (port code : Nat)
  /-- HIT_QUEUE_DRAIN (R210) -/
  | hitQueueDrain (port g err : Nat)
  /-- SLOT_CLOSE (R212) -/
  | slotClose (port slot corr : Nat) (bad : List Nat)
  /-- SLOT_RELEASE (R214) -/
  | slotRelease (port slot : Nat)
  /-- ACCEPT_TAKE_EFFECT (R217) -/
  | acceptTakeEffect (port : Nat)
  /-- FRAGMENT_BUILD (R219) -/
  | fragmentBuild (port corr : Nat) (bad : List Nat)
  /-- TLADON_FRAME_BOUNDARY (R231) -/
  | tladonFrameBoundary (port : Nat)
  /-- PAD_CTRL_WRITE (R235) -/
  | padCtrlWrite (port : Nat) (hold : Bool)
  /-- PAD_HOLD_CHANGE (R235) -/
  | padHoldChange (port : Nat)
  /-- PAD_CONFIG_WRITE (R243) -/
  | padConfigWrite (port addr value : Nat)
  /-- PRIMITIVE_FORM (R238) -/
  | primitiveForm (port slot : Nat)
  /-- PRIMITIVE_WINDOW (R253) -/
  | primitiveWindow (port slot : Nat)
  /-- RS_BLOCK_RX (R259) -/
  | rsBlockRx (lane num : Nat) (replay : Bool) (fix bad : Nat)
  /-- REPLAY_NACK_RX (R259) -/
  | replayNackRx (lane num : Nat)
  /-- FRAME_HEAD_RX (R249) -/
  | frameHeadRx (lane frame offset fine : Nat)
  /-- LANE_ID_RX (R262) -/
  | laneIdRx (lane body : Nat)
  /-- LANE_CDR_LOCK (R262) -/
  | laneCdrLock (lane : Nat)
  /-- LANE_CDR_LOSS (R262) -/
  | laneCdrLoss (lane : Nat)
  /-- PRIMITIVE_WINDOW_RX (R254) -/
  | primitiveWindowRx (lane slot ph w0 w1 : Nat)
  /-- ING_LANE_CLEAR (R261) -/
  | ingLaneClear (lane : Nat)
  /-- ATTACH_EPOCH (R287) -/
  | attachEpoch (port : Nat)
  /-- PORT_ATTACH_WRITE (R287) -/
  | portAttachWrite (port : Nat)
  /-- PORT_DETACH_WRITE (R290) -/
  | portDetachWrite (port : Nat)
  /-- PORT_DETACHED (R290) -/
  | portDetached (port : Nat)
  /-- DOWNLINK_CELL_RX (R267) -/
  | downlinkCellRx (port : Nat) (dl : Bool) (cell raw : Nat)
  /-- TLADON_DL_CDR_LOCK (R268) -/
  | tladonDlCdrLock (port : Nat) (dl : Bool)
  /-- TLADON_DL_CDR_LOSS (R268) -/
  | tladonDlCdrLoss (port : Nat) (dl : Bool)
  /-- REG_WRITE (R272) -/
  | regWrite (port : Nat) (dl : Bool) (tag addr value : Nat)
  /-- REG_READ (R275) -/
  | regRead (port : Nat) (dl : Bool) (tag addr : Nat)
  /-- REG_PEEK (R275) -/
  | regPeek (port : Nat) (dl : Bool) (tag addr : Nat)
  /-- MON_SWEEP (R203) -/
  | monSweep (port : Nat) (dl : Bool)
  /-- HOLD (R235) -/
  | hold (port : Nat) (dl : Bool)
  /-- RELEASE (R235) -/
  | release (port : Nat) (dl : Bool)
  /-- STATE_LISTEN (R283) -/
  | stateListen (port : Nat) (dl : Bool)
  /-- STATE_CONFIGURE (R284) -/
  | stateConfigure (port : Nat) (dl : Bool)
  /-- STATE_ACQUIRE (R284) -/
  | stateAcquire (port : Nat) (dl : Bool)
  /-- STATE_QUIET (R284) -/
  | stateQuiet (port : Nat) (dl : Bool)
  /-- STATE_ACQUIRE_EFFECT (R284) -/
  | stateAcquireEffect (port : Nat)
  /-- STATE_CONFIGURE_EFFECT (R284) -/
  | stateConfigureEffect (port : Nat)
  /-- QUIET_POWER_DOWN (R284) -/
  | quietPowerDown (port : Nat)
  /-- RESET (R272) -/
  | reset (port : Nat) (dl : Bool)
  /-- CLAIM (R280) -/
  | claim (port : Nat) (dl : Bool) (value : Nat)
  /-- REPLAY (R258) -/
  | replay (port : Nat) (dl : Bool) (k num : Nat)
  /-- RELINK (R263) -/
  | relink (port : Nat) (dl : Bool) (mask : Nat)
  /-- REG_DATA_RX (R275) -/
  | regDataRx (port tag data : Nat)
  /-- STATE_WORD_RX (R276) -/
  | stateWordRx (lane body : Nat)
  /-- CLAIM_EXPIRY (R280) -/
  | claimExpiry (port : Nat) (dl : Bool)
  /-- OBEY_CHANGE (R282) -/
  | obeyChange (port phase : Nat)
  /-- CLAIM_SEND (R279) -/
  | claimSend (port : Nat)
  /-- DOWNLINK_COMMAND_SLOT (R277) -/
  | downlinkCommandSlot (port : Nat)
  /-- POWERED_TO_LISTENING (R283) -/
  | poweredToListening (port : Nat)
  /-- PROXY_LOAD (R291) -/
  | proxyLoad (port addr : Nat) (quiet : Bool)
  /-- PROXY_STORE (R291) -/
  | proxyStore (port addr data : Nat)
  /-- PROXY_TIMEOUT (R291) -/
  | proxyTimeout (port : Nat)
  /-- LINK_CFG_WRITE (R293) -/
  | linkCfgWrite (port value : Nat)
  /-- TL_DECISION_RX (R300) -/
  | tlDecisionRx (link : Bool) (hdr word : Nat)
  /-- ACCEPT_FORWARD (R301) -/
  | acceptForward
  /-- SELF_TRIGGER_ACCEPT (R304) -/
  | selfTriggerAccept (slot : Nat)
  /-- SELF_TRIGGER_CONTENT_TEST (R305) -/
  | selfTriggerContentTest (slot : Nat)
  /-- FRAG_HEAD_RX (R306) -/
  | fragHeadRx (lane acc start : Nat)
  /-- FRAG_TAIL_RX (R313) -/
  | fragTailRx (lane body : Nat)
  /-- STREAM_HEAD_RX (R689) -/
  | streamHeadRx (lane frame : Nat)
  /-- STREAM_END_RX (R308) -/
  | streamEndRx (lane body : Nat)
  /-- EVENT_DEADLINE (R313) -/
  | eventDeadline (key : Nat)
  /-- EVENT_COMMIT (R320) -/
  | eventCommit (lost : Nat)
  /-- CANDIDATE_COMPLETE (R324) -/
  | candidateComplete (slot : Nat)
  /-- HORIZON_EXPIRY (R327) -/
  | horizonExpiry (slot : Nat)
  /-- STALL_RELEASE (R325) -/
  | stallRelease
  /-- MUS_VIEW_SEL_WRITE (R332) -/
  | musViewSelWrite (lo : Bool) (value : Nat)
  /-- MUS_VIEW_DATA_READ (R332) -/
  | musViewDataRead
  /-- QUEUE_WRITE (R340) -/
  | queueWrite (n data : Nat) (eop bad : Bool)
  /-- QUEUE_READ (R344) -/
  | queueRead (n err : Nat)
  /-- QUEUE_FLUSH (R351) -/
  | queueFlush (n : Nat)
  /-- QUEUE_STAGED_WRITE (R352) -/
  | queueStagedWrite (n : Nat) (v : Bool)
  /-- Q_WTAG_WRITE (R357) -/
  | qWtagWrite (n value : Nat)
  /-- CMP_DISPATCH (R359) -/
  | cmpDispatch (poison : Bool)
  /-- CMP_FORM_DONE (R373) -/
  | cmpFormDone (engine : Nat) (ok : Bool)
  /-- CMP_STORED_DONE (R371) -/
  | cmpStoredDone (engine : Nat) (ok err : Bool)
  /-- FORMER_RECORD_DONE (R374) -/
  | formerRecordDone (bad : Nat)
  /-- CMP_REORDER_RELEASE (R362) -/
  | cmpReorderRelease
  /-- CMP_RATIO_WINDOW (R380) -/
  | cmpRatioWindow (sec : Bool)
  /-- CMP_ENG_EN_WRITE (R381) -/
  | cmpEngEnWrite (engine : Nat) (v : Bool)
  /-- CMP_REENABLE (R382) -/
  | cmpReenable (engine : Nat)
  /-- CMP_REENABLE_DONE (R382) -/
  | cmpReenableDone (engine : Nat) (pass : Bool)
  /-- CMP_BYPASS_WRITE (R381) -/
  | cmpBypassWrite (value : Nat)
  /-- PORT_LINK_UP (R386) -/
  | portLinkUp (port : Nat) (stable : Bool)
  /-- PORT_LINK_DOWN (R386) -/
  | portLinkDown (port cause : Nat)
  /-- EP_FRAME_RX (R388) -/
  | epFrameRx (port : Nat) (fcs : Bool) (bytes : List Nat) (fine : Nat)
  /-- RECORD_STEER (R398) -/
  | recordSteer (bad : Nat)
  /-- DATAGRAM_SENT (R390) -/
  | datagramSent (port : Nat)
  /-- STEER_ADD (R402) -/
  | steerAdd (port : Nat)
  /-- STEER_REMOVE (R404) -/
  | steerRemove (port : Nat)
  /-- STEER_COMMIT (R402) -/
  | steerCommit
  /-- STEER_OP_INVALID (R403) -/
  | steerOpInvalid
  /-- STEER_BOUNDARY (R402) -/
  | steerBoundary
  /-- PORT_LINK_TIMEOUT (R404) -/
  | portLinkTimeout (port : Nat)
  /-- PACE_RING_SAMPLE (R414) -/
  | paceRingSample (counts : List Nat)
  /-- SHED_STEP (R433) -/
  | shedStep
  /-- HOLD_CYCLE_TOGGLE (R433) -/
  | holdCycleToggle
  /-- DEGRADED_RECOVER_STEP (R435) -/
  | degradedRecoverStep
  /-- PRIMITIVE_CAPTURE (R420) -/
  | primitiveCapture (slot : Nat)
  /-- PO_CELL_RELEASE (R417) -/
  | poCellRelease (slot : Nat)
  /-- ADM_CHECK (R428) -/
  | admCheck
  /-- ADMISSION_CHECKS_DONE (R431) -/
  | admissionChecksDone
  /-- ADM_RUN (R429) -/
  | admRun
  /-- ADM_STOP (R429) -/
  | admStop
  /-- ADM_STORE (R430) -/
  | admStore
  /-- ADM_STORE_DONE (R430) -/
  | admStoreDone (ok : Bool)
  /-- ADM_RELOAD (R426) -/
  | admReload
  /-- GROOM_VISIT (R453) -/
  | groomVisit (m flip path again : Nat)
  /-- GROOM_CONFIRM_VISIT (R445) -/
  | groomConfirmVisit (flip path again : Nat)
  /-- MEM_FAR_DATA_WRITE (R460) -/
  | memFarDataWrite (value : Nat)
  /-- MEM_LOG_READ (R467) -/
  | memLogRead
  /-- GROOM_EN_WRITE (R456) -/
  | groomEnWrite (en : Bool)
  /-- SCH_SETFLAG_WRITE (R476) -/
  | schSetflagWrite (value : Nat)
  /-- UNIT_EVENT_ROUTE (R476) -/
  | unitEventRoute (e : Nat)
  /-- SCH_POST (R479) -/
  | schPost (value : Nat)
  /-- SCH_RESERVE (R482) -/
  | schReserve
  /-- SCH_NEXT_READ (R484) -/
  | schNextRead (core : Nat)
  /-- SCH_END_WRITE (R485) -/
  | schEndWrite (core : Nat)
  /-- SCH_NOPREEMPT_WRITE (R486) -/
  | schNopreemptWrite (core : Nat) (v : Bool)
  /-- NP_SPAN_OVER (R486) -/
  | npSpanOver (core : Nat)
  /-- SCH_CORE_CTRL_WRITE (R494) -/
  | schCoreCtrlWrite (core value : Nat)
  /-- SCH_TASK_DISABLE (R480) -/
  | schTaskDisable (task : Nat)
  /-- SPILL_REFILL (R487) -/
  | spillRefill (level : Nat) (lost : Bool)
  /-- ITEM_AGE_STEP (R490) -/
  | itemAgeStep (level : Nat)
  /-- PERIODIC_SLOT_ENABLE (R491) -/
  | periodicSlotEnable (k value : Nat)
  /-- PERIODIC_RELEASE (R491) -/
  | periodicRelease (k : Nat)
  /-- DEADLINE_MISS (R492) -/
  | deadlineMiss (k : Nat)
  /-- STANDSTILL (R493) -/
  | standstill
  /-- SCH_TRACE_MARK_WRITE (R496) -/
  | schTraceMarkWrite (agent value : Nat)
  /-- MTIME_TIMER_INTERRUPT (R473) -/
  | mtimeTimerInterrupt (core : Nat)
  /-- MTIMECMP_WRITE (R473) -/
  | mtimecmpWrite (core : Nat) (hi : Bool) (value : Nat)
  /-- SCH_MSIP_WRITE (R473) -/
  | schMsipWrite (value : Nat)
  /-- DMA_GO (R500) -/
  | dmaGo (c : Nat)
  /-- DMA_UNIT_TRANSFER (R501) -/
  | dmaUnitTransfer (f1 p1 a1 f2 p2 a2 f3 p3 a3 : Nat)
  /-- DMA_RESUME (R502) -/
  | dmaResume (c : Nat)
  /-- DMA_SKIP (R502) -/
  | dmaSkip (c : Nat)
  /-- DMA_ABORT (R502) -/
  | dmaAbort (c : Nat)
  /-- MBX_DATA_WRITE (R505) -/
  | mbxDataWrite (agent m j value : Nat)
  /-- MBX_SEND (R506) -/
  | mbxSend (agent m : Nat)
  /-- MBX_ACK (R507) -/
  | mbxAck (m : Nat)
  /-- MBX_LOCK_READ (R509) -/
  | mbxLockRead (agent m : Nat)
  /-- MBX_LOCK_WRITE (R510) -/
  | mbxLockWrite (agent m value : Nat)
  /-- LOCK_LEASE_LAPSE (R511) -/
  | lockLeaseLapse (m : Nat)
  /-- MBX_LOCK_FORCE (R512) -/
  | mbxLockForce (agent m : Nat)
  /-- FENCE_WRITE (R517) -/
  | fenceWrite (agent row reg value : Nat)
  /-- QUIET_ALIAS_WRITE (R520) -/
  | quietAliasWrite (agent addr : Nat)
  /-- LOFT_RELEASE (R531) -/
  | loftRelease
  /-- UART_START_EDGE (R533) -/
  | uartStartEdge (sample : Bool)
  /-- UART_CHAR_RX (R534) -/
  | uartCharRx (data : Nat) (par stop : Bool)
  /-- UART_TX_WRITE (R536) -/
  | uartTxWrite (data : Nat)
  /-- UART_RX_READ (R536) -/
  | uartRxRead
  /-- DEBUG_HALT (R522) -/
  | debugHalt (core : Nat)
  /-- DEBUG_RESUME (R518) -/
  | debugResume (core : Nat)
  /-- DEBUG_ABSTRACT_COMMAND (R518) -/
  | debugAbstractCommand (core command data : Nat)
  /-- DEBUG_SYSBUS_ACCESS (R521) -/
  | debugSysbusAccess (clear write : Bool) (k addr data : Nat) (inc : Bool) (err f p a : Nat)
  /-- NDMRESET (R637) -/
  | ndmreset
  /-- IDCODE (R678) -/
  | idcode (chip : Nat)
  /-- SAMPLE_PRELOAD (R678) -/
  | samplePreload (chip pins cells : Nat)
  /-- EXTEST (R679) -/
  | extest (chip pins cells : Nat)
  /-- CLAMP (R678) -/
  | clamp (chip : Nat)
  /-- HIGHZ (R678) -/
  | highz (chip : Nat)
  /-- BYPASS (R678) -/
  | bypass (chip code : Nat)
  /-- DTMCS (R518) -/
  | dtmcs (chip : Nat)
  /-- DMI (R518) -/
  | dmi (chip op addr data : Nat)
  /-- TAP_RESET (R637) -/
  | tapReset (chip : Nat)
  /-- TICK_COUNT_ALIGN (R543) -/
  | tickCountAlign
  /-- PAIR_HEARTBEAT_SEND (R557) -/
  | pairHeartbeatSend
  /-- PAIR_HEARTBEAT_RX (R554) -/
  | pairHeartbeatRx (hdr : Nat) (ws : List Nat)
  /-- PARTNER_LOST (R557) -/
  | partnerLost
  /-- PAIR_DECISION_RX (R549) -/
  | pairDecisionRx (hdr : Nat) (ws : List Nat)
  /-- PAIR_ANCHOR_RX (R546) -/
  | pairAnchorRx (hdr : Nat) (ws : List Nat)
  /-- ANCHOR_WAIT_EXPIRY (R545) -/
  | anchorWaitExpiry
  /-- PAIR_THETA_RX (R547) -/
  | pairThetaRx (hdr : Nat) (ws : List Nat)
  /-- EPOCH_NOTE_RX (R548) -/
  | epochNoteRx (hdr : Nat) (ws : List Nat)
  /-- PAIR_DIGEST_RX (R562) -/
  | pairDigestRx (hdr : Nat) (ws : List Nat)
  /-- DIGEST_ENTRY_EXPIRY (R562) -/
  | digestEntryExpiry
  /-- JOIN_REQUEST_RX (R560) -/
  | joinRequestRx (hdr : Nat) (ws : List Nat)
  /-- JOIN_AT_RX (R560) -/
  | joinAtRx (hdr : Nat) (ws : List Nat)
  /-- JOIN_SEQ_RX (R560) -/
  | joinSeqRx (hdr : Nat) (ws : List Nat)
  /-- PAIR_FW_RX (R556) -/
  | pairFwRx (hdr : Nat) (ws : List Nat)
  /-- PAIR_REJOIN (R559) -/
  | pairRejoin
  /-- PAIR_GO_ALONE (R561) -/
  | pairGoAlone
  /-- PAIR_MUTE_WRITE (R563) -/
  | pairMuteWrite (v : Bool)
  /-- PAIR_EN_WRITE (R566) -/
  | pairEnWrite (en : Bool)
  /-- PAIR_CLAIM_WRITE (R564) -/
  | pairClaimWrite (value : Nat)
  /-- DICT_READ (R587) -/
  | dictRead (err : Nat) (us : List Nat)
  /-- DICT_WRITE (R587) -/
  | dictWrite (err : Nat) (us : List Nat)
  /-- USDO_DOWNLOAD (R573) -/
  | usdoDownload (node cmd index sub : Nat) (data us : List Nat) (ack : Bool)
  /-- USDO_UPLOAD (R573) -/
  | usdoUpload (node cmd index sub : Nat) (us : List Nat) (ack : Bool)
  /-- USDO_TIMEOUT (R574) -/
  | usdoTimeout (node : Nat)
  /-- RPDO_INBAND (R584) -/
  | rpdoInband (err : Nat)
  /-- CAN_RPDO_RX (R576) -/
  | canRpdoRx (n : Nat) (data : List Nat)
  /-- CAN_SYNC_RX (R573) -/
  | canSyncRx (ack : Bool)
  /-- TPDO_EVENT (R573) -/
  | tpdoEvent (n : Nat) (ack : Bool)
  /-- CAN_HEARTBEAT_SEND (R573) -/
  | canHeartbeatSend (ack : Bool)
  /-- NMT_START (R575) -/
  | nmtStart
  /-- NMT_STOP (R575) -/
  | nmtStop
  /-- NMT_ENTER_PREOPERATIONAL (R575) -/
  | nmtEnterPreoperational
  /-- NMT_RESET_NODE (R575) -/
  | nmtResetNode
  /-- NMT_RESET_COMMUNICATION (R572) -/
  | nmtResetCommunication
  /-- CAN_ACK_ERROR (R578) -/
  | canAckError
  /-- BUS_OFF_RECOVERY (R577) -/
  | busOffRecovery
  /-- IMAGE_DATA_WRITE (R595) -/
  | imageDataWrite (node off : Nat) (data us : List Nat) (ack : Bool)
  /-- IMAGE_OWNER_TIMEOUT (R595) -/
  | imageOwnerTimeout
  /-- DICT_WARM_RESET (R656) -/
  | dictWarmReset
  /-- ENV_GO (R604) -/
  | envGo
  /-- ENV_TIMER_SWEEP (R604) -/
  | envTimerSweep
  /-- ENV_CONVERSION_DONE (R605) -/
  | envConversionDone (vp vn : Nat)
  /-- ENV_REF_WRITE (R603) -/
  | envRefWrite (en : Bool)
  /-- ENV_REF_READY (R603) -/
  | envRefReady
  /-- ENV_RANGE_WRITE (R607) -/
  | envRangeWrite (ch range : Nat)
  /-- RANGE_SWITCH (R607) -/
  | rangeSwitch (ch : Nat)
  /-- RANGE_RAMP_DONE (R607) -/
  | rangeRampDone (ch : Nat)
  /-- OPEN_DETECT (R609) -/
  | openDetect (ch : Nat)
  /-- OPEN_CLEAR (R609) -/
  | openClear (ch : Nat)
  /-- PROBE_CLAMP_ENGAGE (R610) -/
  | probeClampEngage (ch : Nat)
  /-- PROBE_CLAMP_RELEASE (R610) -/
  | probeClampRelease (ch : Nat)
  /-- SOURCE_FED (R611) -/
  | sourceFed (ch : Nat)
  /-- ENV_RETRY (R611) -/
  | envRetry (ch : Nat)
  /-- CONTEND_SET (R612) -/
  | contendSet (a b : Nat)
  /-- CONTEND_CLEAR (R612) -/
  | contendClear (a b : Nat)
  /-- IL_REQ_WRITE (R614) -/
  | ilReqWrite (agent k value : Nat)
  /-- ENV_KICK_WRITE (R616) -/
  | envKickWrite (agent : Nat)
  /-- KICK_EXPIRY (R616) -/
  | kickExpiry
  /-- RESULT_AGE_EXPIRY (R616) -/
  | resultAgeExpiry
  /-- IL_OVERTEMP (R618) -/
  | ilOvertemp (k : Nat)
  /-- IL_OVERTEMP_CLEAR (R618) -/
  | ilOvertempClear (k : Nat)
  /-- IL_SHORT (R618) -/
  | ilShort (k : Nat)
  /-- VIN_UVLO_RELEASE (R622) -/
  | vinUvloRelease
  /-- VIN_UVLO_ASSERT (R622) -/
  | vinUvloAssert
  /-- VIN_OVLO_ASSERT (R622) -/
  | vinOvloAssert
  /-- VIN_OVLO_RELEASE (R622) -/
  | vinOvloRelease
  /-- VINT_REGULATION (R623) -/
  | vintRegulation (rise : Nat)
  /-- RAIL_START (R627) -/
  | railStart (rise : Nat)
  /-- PG_RELEASE (R629) -/
  | pgRelease
  /-- RAIL_FAULT (R630) -/
  | railFault (rail : Nat)
  /-- POWER_STAGE_OVERTEMP (R630) -/
  | powerStageOvertemp
  /-- POWER_RESTART (R630) -/
  | powerRestart (cool : Bool)
  /-- VIN_BELOW_12V (R632) -/
  | vinBelow12v
  /-- PWR_MEASURE (R654) -/
  | pwrMeasure (vin iin : Nat) (volts amps : List Nat) (pdie cdie ok flags : Nat)
  /-- RESET_N_ASSERT (R637) -/
  | resetNAssert
  /-- SYS_RESET_WARM (R637) -/
  | sysResetWarm (agent : Nat)
  /-- RESET_ASSERT (R639) -/
  | resetAssert
  /-- SELF_TEST_START (R640) -/
  | selfTestStart
  /-- XO_IN_PRESENT (R640) -/
  | xoInPresent (words spares : List Nat) (checks queues engs : Nat) (counts : List Nat)
  /-- SELF_TEST_COMPLETE (R641) -/
  | selfTestComplete
  /-- FIRMWARE_LOADED (R644) -/
  | firmwareLoaded (ok0 ok1 : Bool)
  /-- AUTO_RUN_ENTRY (R645) -/
  | autoRunEntry
  /-- WATCHDOG_KICK (R649) -/
  | watchdogKick (agent : Nat)
  /-- WATCHDOG_EXPIRY (R649) -/
  | watchdogExpiry
  /-- SYS_FATAL_ENTER (R648) -/
  | sysFatalEnter (agent code : Nat)
  /-- FATAL_TIMER (R650) -/
  | fatalTimer
  /-- FATAL_RUN_CLEAR (R651) -/
  | fatalRunClear
  /-- TLADON_POR_RELEASE (R634) -/
  | tladonPorRelease (port : Nat)
  /-- TLADON_RAIL_DROP (R634) -/
  | tladonRailDrop (port : Nat)
  /-- REGISTER_WRITE (R17) -/
  | registerWrite (agent addr value : Nat)
  /-- UPLINK_BLOCK_SEND (R250) -/
  | uplinkBlockSend (port k offset : Nat)
  /-- SURVEY_IN_EDGE (R154) -/
  | surveyInEdge (port raw : Nat)
  /-- REGISTER_READ (R17) -/
  | registerRead (agent addr err : Nat)
  /-- CORE_MEMORY_ACCESS (R472) -/
  | coreMemoryAccess (n kind k : Nat) (sgn : Bool) (addr data rd err f p a : Nat)
  /-- CAN_BUS_ERROR (R577) -/
  | canBusError (tx eight : Bool)
  /-- CAN_EXTENDED_FRAME_RX (R571) -/
  | canExtendedFrameRx
  /-- PL_LOCK_SET (R552) -/
  | plLockSet
  /-- PL_LOCK_CLEAR (R552) -/
  | plLockClear
  /-- UART_CHAR_TX_DONE (R532) -/
  | uartCharTxDone
  /-- NOR_IMAGE_COPY_DONE (R426) -/
  | norImageCopyDone
  /-- SCH_WINDOW_PUBLISH (R495) -/
  | schWindowPublish (sec : Bool)
  deriving DecidableEq, Repr

end Sys2Proof
end

