-- ==== Sys2Proof/Decode.lean ====
section
/-! DEFINITION. The commands that a word spells. No row of spec/opcode_table.json gives bits: the block has no
encoded commands, so no word spells one. -/

namespace Sys2Proof

/-- The command that the `nbits` bits of `w` spell by the table's bits: none. -/
def decodeTableWord (_nbits _w : Nat) : Option Instr := none

end Sys2Proof
end

