-- ==== Sys2Proof/Config.lean ====
section
/-! DEFINITION. What an implementation fixes and what the spec leaves open. An opaque constant has no
body: a claim about it holds whatever it is. -/

namespace Sys2Proof.Config

/-- Model ticks (Wonan ticks) per microsecond at DATUM 40.000 MHz (R35, R39). -/
def usTicks : Nat := 1280

/-- Model ticks per millisecond. -/
def msTicks : Nat := 1280000

/-- Model ticks per second. -/
def secTicks : Nat := 1280000000

/-- The factory bin table of an interpolator of a Tladon by its serial number (R170): the spec gives
no entry of it (log entry 6). -/
opaque factoryBin (serial interp raw : Nat) : Nat

/-- The `n`-th value the spec leaves open, of any width: the reader cuts it (log entry 2). `n` is the
counter `State.freeCnt`, which the step that reads it advances. -/
opaque freeValue (n : Nat) : Nat

/-- The dynamic Huffman block of a run of LZ tokens, as its bits in the order sent: the spec fixes neither
how its codes are built nor how its header codes them (R368; log entry 9). A token is (0, literal) or
(length, distance). -/
opaque dynamicBlock (final : Bool) (tokens : List (Nat × Nat)) : List Bool

end Sys2Proof.Config
end

