-- ==== Sys2Proof/Machine/RegsTladon.lean ====
section
/-! DEFINITION. The registers of Tladon (R663, R664), each with the fields of its own chapter. -/

namespace Sys2Proof.TR

/-! ### spec/08_tladon_links_and_commands.md -/
def ID_SERIAL : Nat := 0
def ID_SERIAL_SERIAL : Fld := ⟨ID_SERIAL, 31, 0, .ro, 0⟩
/-! ### spec/00_scope.md -/
def ID_CAP : Nat := 4
def ID_CAP_VARIANT : Fld := ⟨ID_CAP, 31, 28, .ro, 0⟩
def ID_CAP_CH_COUNT : Fld := ⟨ID_CAP, 25, 16, .ro, 0x200⟩
def ID_CAP_SAMP_COUNT : Fld := ⟨ID_CAP, 15, 8, .ro, 0⟩
def ID_CAP_MON : Fld := ⟨ID_CAP, 1, 1, .ro, 1⟩
def ID_CAP_SAMP : Fld := ⟨ID_CAP, 0, 0, .ro, 0⟩
/-! ### spec/08_tladon_links_and_commands.md -/
def ID_STATE : Nat := 8
def ID_STATE_CAUSE : Fld := ⟨ID_STATE, 15, 8, .ro, 1⟩
def ID_STATE_STATE : Fld := ⟨ID_STATE, 2, 0, .ro, 0⟩
def LINK_CFG : Nat := 0x100
def LINK_CFG_MIRROR : Fld := ⟨LINK_CFG, 2, 2, .rw, 0⟩
def LINK_CFG_BOND : Fld := ⟨LINK_CFG, 1, 0, .rw, 0⟩
def LINK_STATUS : Nat := 0x104
def LINK_STATUS_UP_ACTIVE : Fld := ⟨LINK_STATUS, 11, 8, .ro, 0⟩
def LINK_STATUS_OBEY_SWITCH : Fld := ⟨LINK_STATUS, 7, 7, .w1c, 0⟩
def LINK_STATUS_CLAIM_TIE : Fld := ⟨LINK_STATUS, 6, 6, .w1c, 0⟩
def LINK_STATUS_NONE : Fld := ⟨LINK_STATUS, 5, 5, .ro, 1⟩
def LINK_STATUS_OBEYED : Fld := ⟨LINK_STATUS, 4, 4, .ro, 0⟩
def LINK_STATUS_CLAIM_B : Fld := ⟨LINK_STATUS, 3, 3, .ro, 0⟩
def LINK_STATUS_CLAIM_A : Fld := ⟨LINK_STATUS, 2, 2, .ro, 0⟩
def LINK_STATUS_LOCK_B : Fld := ⟨LINK_STATUS, 1, 1, .ro, 0⟩
def LINK_STATUS_LOCK_A : Fld := ⟨LINK_STATUS, 0, 0, .ro, 0⟩
def LINK_CLAIM_A : Nat := 0x108
def LINK_CLAIM_A_CLAIM : Fld := ⟨LINK_CLAIM_A, 31, 0, .ro, 0⟩
def LINK_CLAIM_B : Nat := 0x10C
def LINK_CLAIM_B_CLAIM : Fld := ⟨LINK_CLAIM_B, 31, 0, .ro, 0⟩
def LINK_DL_ERR_A : Nat := 0x110
def LINK_DL_ERR_A_CORR : Fld := ⟨LINK_DL_ERR_A, 31, 16, .rc, 0⟩
def LINK_DL_ERR_A_UNCORR : Fld := ⟨LINK_DL_ERR_A, 15, 8, .rc, 0⟩
def LINK_DL_ERR_A_CMD_CRC : Fld := ⟨LINK_DL_ERR_A, 7, 0, .rc, 0⟩
def LINK_DL_ERR_B : Nat := 0x114
def LINK_DL_ERR_B_CORR : Fld := ⟨LINK_DL_ERR_B, 31, 16, .rc, 0⟩
def LINK_DL_ERR_B_UNCORR : Fld := ⟨LINK_DL_ERR_B, 15, 8, .rc, 0⟩
def LINK_DL_ERR_B_CMD_CRC : Fld := ⟨LINK_DL_ERR_B, 7, 0, .rc, 0⟩
def LINK_CMD_CNT : Nat := 0x118
def LINK_CMD_CNT_OBEYED : Fld := ⟨LINK_CMD_CNT, 31, 16, .rc, 0⟩
def LINK_CMD_CNT_REFUSED : Fld := ⟨LINK_CMD_CNT, 15, 8, .rc, 0⟩
def LINK_CMD_CNT_ABANDONED : Fld := ⟨LINK_CMD_CNT, 7, 0, .rc, 0⟩
def LINK_UP_CNT (n : Nat) : Nat := 0x120 + 4 * n
def LINK_UP_CNT_REPLAYED (n : Nat) : Fld := ⟨LINK_UP_CNT n, 31, 24, .rc, 0⟩
def LINK_UP_CNT_NACKED (n : Nat) : Fld := ⟨LINK_UP_CNT n, 23, 16, .rc, 0⟩
def LINK_UP_CNT_PRIM_SUPPRESSED (n : Nat) : Fld := ⟨LINK_UP_CNT n, 15, 0, .rc, 0⟩
/-! ### spec/02_time_base.md -/
def TIME_CTRL : Nat := 0x200
def TIME_CTRL_HOLD_MAX : Fld := ⟨TIME_CTRL, 23, 20, .rw, 2⟩
def TIME_CTRL_SLOT_SHIFT : Fld := ⟨TIME_CTRL, 13, 8, .rw, 0⟩
def TIME_CTRL_MARK_B_EN : Fld := ⟨TIME_CTRL, 1, 1, .rw, 1⟩
def TIME_CTRL_MARK_A_EN : Fld := ⟨TIME_CTRL, 0, 0, .rw, 1⟩
def TIME_STATUS : Nat := 0x204
def TIME_STATUS_EPOCH_COUNT : Fld := ⟨TIME_STATUS, 15, 8, .ro, 0⟩
def TIME_STATUS_EPOCH_REFUSED : Fld := ⟨TIME_STATUS, 7, 7, .w1c, 0⟩
def TIME_STATUS_HOLD_EXIT : Fld := ⟨TIME_STATUS, 6, 6, .w1c, 0⟩
def TIME_STATUS_CLKSW : Fld := ⟨TIME_STATUS, 5, 5, .w1c, 0⟩
def TIME_STATUS_LOCK_LOST : Fld := ⟨TIME_STATUS, 4, 4, .w1c, 0⟩
def TIME_STATUS_HOLDOVER : Fld := ⟨TIME_STATUS, 3, 3, .ro, 0⟩
def TIME_STATUS_SRC : Fld := ⟨TIME_STATUS, 2, 2, .ro, 0⟩
def TIME_STATUS_PLL_LOCK : Fld := ⟨TIME_STATUS, 1, 1, .ro, 0⟩
def TIME_STATUS_CDR_LOCK : Fld := ⟨TIME_STATUS, 0, 0, .ro, 0⟩
def TIME_COUNT_LO : Nat := 0x208
def TIME_COUNT_LO_COUNT_LO : Fld := ⟨TIME_COUNT_LO, 31, 0, .ro, 0⟩
def TIME_COUNT_HI : Nat := 0x20C
def TIME_COUNT_HI_COUNT_HI : Fld := ⟨TIME_COUNT_HI, 9, 0, .ro, 0⟩
def TIME_EPOCH_J_LO : Nat := 0x210
def TIME_EPOCH_J_LO_J_LO : Fld := ⟨TIME_EPOCH_J_LO, 31, 0, .ro, 0⟩
def TIME_EPOCH_J_HI : Nat := 0x214
def TIME_EPOCH_J_HI_J_HI : Fld := ⟨TIME_EPOCH_J_HI, 9, 0, .ro, 0⟩
def TIME_MARK_A : Nat := 0x218
def TIME_MARK_A_TICK : Fld := ⟨TIME_MARK_A, 31, 8, .ro, 0⟩
def TIME_MARK_A_FINE : Fld := ⟨TIME_MARK_A, 7, 0, .ro, 0⟩
def TIME_MARK_B : Nat := 0x21C
def TIME_MARK_B_TICK : Fld := ⟨TIME_MARK_B, 31, 8, .ro, 0⟩
def TIME_MARK_B_FINE : Fld := ⟨TIME_MARK_B, 7, 0, .ro, 0⟩
def TIME_CLKSW : Nat := 0x220
def TIME_CLKSW_SW_TICK : Fld := ⟨TIME_CLKSW, 31, 16, .ro, 0⟩
def TIME_CLKSW_SW_PHASE : Fld := ⟨TIME_CLKSW, 15, 0, .ro, 0⟩
/-! ### spec/05_survey_and_calibration.md -/
def SURVEY_CTRL : Nat := 0x300
def SURVEY_CTRL_CONT : Fld := ⟨SURVEY_CTRL, 3, 3, .rw, 0⟩
def SURVEY_CTRL_ARM : Fld := ⟨SURVEY_CTRL, 2, 2, .wo, 0⟩
def SURVEY_CTRL_ABORT : Fld := ⟨SURVEY_CTRL, 1, 1, .wo, 0⟩
def SURVEY_CTRL_START : Fld := ⟨SURVEY_CTRL, 0, 0, .wo, 0⟩
def SURVEY_CFG : Nat := 0x304
def SURVEY_CFG_SAMPLES_LOG2 : Fld := ⟨SURVEY_CFG, 24, 20, .rw, 0x10⟩
def SURVEY_CFG_PRESC : Fld := ⟨SURVEY_CFG, 19, 16, .rw, 0⟩
def SURVEY_CFG_CHANNEL : Fld := ⟨SURVEY_CFG, 12, 4, .rw, 0⟩
def SURVEY_CFG_SRC : Fld := ⟨SURVEY_CFG, 1, 0, .rw, 3⟩
def SURVEY_GATE : Nat := 0x308
def SURVEY_GATE_GATE : Fld := ⟨SURVEY_GATE, 23, 0, .rw, 0x1312D0⟩
def SURVEY_START_LO : Nat := 0x30C
def SURVEY_START_LO_START_LO : Fld := ⟨SURVEY_START_LO, 31, 0, .rw, 0⟩
def SURVEY_START_HI : Nat := 0x310
def SURVEY_START_HI_START_HI : Fld := ⟨SURVEY_START_HI, 9, 0, .rw, 0⟩
def SURVEY_STATUS : Nat := 0x314
def SURVEY_STATUS_SEQ : Fld := ⟨SURVEY_STATUS, 31, 24, .ro, 0⟩
def SURVEY_STATUS_ABORT : Fld := ⟨SURVEY_STATUS, 9, 8, .ro, 0⟩
def SURVEY_STATUS_LATE : Fld := ⟨SURVEY_STATUS, 7, 7, .w1c, 0⟩
def SURVEY_STATUS_HOLDOVER : Fld := ⟨SURVEY_STATUS, 6, 6, .ro, 0⟩
def SURVEY_STATUS_CLKSW : Fld := ⟨SURVEY_STATUS, 5, 5, .ro, 0⟩
def SURVEY_STATUS_OVERRATE : Fld := ⟨SURVEY_STATUS, 4, 4, .ro, 0⟩
def SURVEY_STATUS_NO_SIGNAL : Fld := ⟨SURVEY_STATUS, 3, 3, .ro, 0⟩
def SURVEY_STATUS_CFG_ERR : Fld := ⟨SURVEY_STATUS, 2, 2, .ro, 0⟩
def SURVEY_STATUS_VALID : Fld := ⟨SURVEY_STATUS, 1, 1, .ro, 0⟩
def SURVEY_STATUS_BUSY : Fld := ⟨SURVEY_STATUS, 0, 0, .ro, 0⟩
def SURVEY_RATIO_LO : Nat := 0x318
def SURVEY_RATIO_LO_RATIO : Fld := ⟨SURVEY_RATIO_LO, 31, 0, .ro, 0⟩
def SURVEY_RATIO_HI : Nat := 0x31C
def SURVEY_RATIO_HI_RATIO : Fld := ⟨SURVEY_RATIO_HI, 15, 0, .ro, 0⟩
def SURVEY_RESID : Nat := 0x320
def SURVEY_RESID_RESID : Fld := ⟨SURVEY_RESID, 15, 0, .ro, 0⟩
def SURVEY_EDGES : Nat := 0x324
def SURVEY_EDGES_EDGES : Fld := ⟨SURVEY_EDGES, 16, 0, .ro, 0⟩
def SURVEY_FIRST_LO : Nat := 0x328
def SURVEY_FIRST_LO_TICK : Fld := ⟨SURVEY_FIRST_LO, 31, 8, .ro, 0⟩
def SURVEY_FIRST_LO_FINE : Fld := ⟨SURVEY_FIRST_LO, 7, 0, .ro, 0⟩
def SURVEY_FIRST_HI : Nat := 0x32C
def SURVEY_FIRST_HI_TICK_HI : Fld := ⟨SURVEY_FIRST_HI, 17, 0, .ro, 0⟩
def CAL_CTRL : Nat := 0x340
def CAL_CTRL_CAL_TMO : Fld := ⟨CAL_CTRL, 23, 16, .rw, 0xC8⟩
def CAL_CTRL_CD_LOG2 : Fld := ⟨CAL_CTRL, 12, 8, .rw, 0x10⟩
def CAL_CTRL_FREEZE : Fld := ⟨CAL_CTRL, 1, 1, .rw, 0⟩
def CAL_CTRL_EN : Fld := ⟨CAL_CTRL, 0, 0, .rw, 1⟩
def CAL_STATUS : Nat := 0x344
def CAL_STATUS_SWAPS : Fld := ⟨CAL_STATUS, 15, 8, .rc, 0⟩
def CAL_STATUS_READY : Fld := ⟨CAL_STATUS, 4, 4, .ro, 0⟩
def CAL_STATUS_REJECT : Fld := ⟨CAL_STATUS, 3, 3, .w1c, 0⟩
def CAL_STATUS_CAL_STALL : Fld := ⟨CAL_STATUS, 2, 2, .w1c, 0⟩
def CAL_STATUS_EPOCH : Fld := ⟨CAL_STATUS, 1, 0, .ro, 0⟩
def CAL_CNT : Nat := 0x348
def CAL_CNT_REJECTS : Fld := ⟨CAL_CNT, 31, 16, .rc, 0⟩
def CAL_CNT_ABORTED : Fld := ⟨CAL_CNT, 15, 0, .rc, 0⟩
def CAL_TAB_SEL : Nat := 0x34C
def CAL_TAB_SEL_SHADOW : Fld := ⟨CAL_TAB_SEL, 31, 31, .rw, 0⟩
def CAL_TAB_SEL_RAW : Fld := ⟨CAL_TAB_SEL, 24, 16, .rw, 0⟩
def CAL_TAB_SEL_INTERP : Fld := ⟨CAL_TAB_SEL, 10, 0, .rw, 0⟩
def CAL_TAB_DATA : Nat := 0x350
def CAL_TAB_DATA_COUNT : Fld := ⟨CAL_TAB_DATA, 31, 8, .ro, 0⟩
def CAL_TAB_DATA_BIN : Fld := ⟨CAL_TAB_DATA, 7, 0, .ro, 0⟩
/-! ### spec/04_tladon_timing_channels.md -/
def CHN_INT_CFG (n : Nat) : Nat := 0x400 + 0x20 * n
def CHN_INT_CFG_STOPS (n : Nat) : Fld := ⟨CHN_INT_CFG n, 11, 8, .rw, 1⟩
def CHN_INT_CFG_EN (n : Nat) : Fld := ⟨CHN_INT_CFG n, 6, 6, .rw, 0⟩
def CHN_INT_CFG_START (n : Nat) : Fld := ⟨CHN_INT_CFG n, 5, 0, .rw, 0⟩
def CHN_INT_WIN (n : Nat) : Nat := 0x404 + 0x20 * n
def CHN_INT_WIN_WINDOW (n : Nat) : Fld := ⟨CHN_INT_WIN n, 19, 0, .rw, 0⟩
def CHN_INT_STOP_LO (n : Nat) : Nat := 0x408 + 0x20 * n
def CHN_INT_STOP_LO_STOP (n : Nat) : Fld := ⟨CHN_INT_STOP_LO n, 31, 0, .rw, 0⟩
def CHN_INT_STOP_HI (n : Nat) : Nat := 0x40C + 0x20 * n
def CHN_INT_STOP_HI_STOP (n : Nat) : Fld := ⟨CHN_INT_STOP_HI n, 31, 0, .rw, 0⟩
def CHN_INT_STATUS (n : Nat) : Nat := 0x410 + 0x20 * n
def CHN_INT_STATUS_TIMEOUTS (n : Nat) : Fld := ⟨CHN_INT_STATUS n, 31, 24, .rc, 0⟩
def CHN_INT_STATUS_STRAY_STOPS (n : Nat) : Fld := ⟨CHN_INT_STATUS n, 23, 16, .rc, 0⟩
def CHN_INT_STATUS_BUSY_STARTS (n : Nat) : Fld := ⟨CHN_INT_STATUS n, 15, 8, .rc, 0⟩
def CHN_INT_STATUS_CFG_ERR (n : Nat) : Fld := ⟨CHN_INT_STATUS n, 1, 1, .ro, 0⟩
def CHN_INT_STATUS_OPEN (n : Nat) : Fld := ⟨CHN_INT_STATUS n, 0, 0, .ro, 0⟩
def CHN_SEU : Nat := 0x500
def CHN_SEU_CORRECTED : Fld := ⟨CHN_SEU, 15, 0, .rc, 0⟩
/-! ### spec/07_paddock_and_triggers.md -/
def PAD_CFG : Nat := 0x800
def PAD_CFG_MODE : Fld := ⟨PAD_CFG, 0, 0, .rw, 0⟩
def PAD_WIN : Nat := 0x804
def PAD_WIN_W_PRE : Fld := ⟨PAD_WIN, 27, 16, .rw, 0x20⟩
def PAD_WIN_W_POST : Fld := ⟨PAD_WIN, 12, 0, .rw, 0x20⟩
def PAD_HOLDOFF : Nat := 0x808
def PAD_HOLDOFF_HO_MODE : Fld := ⟨PAD_HOLDOFF, 31, 31, .rw, 0⟩
def PAD_HOLDOFF_HO : Fld := ⟨PAD_HOLDOFF, 23, 0, .rw, 0⟩
def PAD_FRAG : Nat := 0x80C
def PAD_FRAG_MAX_WORDS : Fld := ⟨PAD_FRAG, 15, 0, .rw, 0⟩
def PAD_PRIM : Nat := 0x810
def PAD_PRIM_CLIP : Fld := ⟨PAD_PRIM, 13, 8, .rw, 0x20⟩
def PAD_PRIM_UNIT : Fld := ⟨PAD_PRIM, 6, 4, .rw, 2⟩
def PAD_PRIM_DENSE : Fld := ⟨PAD_PRIM, 1, 1, .rw, 0⟩
def PAD_PRIM_EN : Fld := ⟨PAD_PRIM, 0, 0, .rw, 0⟩
def PAD_CTRL : Nat := 0x814
def PAD_CTRL_HOLD : Fld := ⟨PAD_CTRL, 0, 0, .rw, 0⟩
def PAD_STATUS : Nat := 0x818
def PAD_STATUS_WR_IGNORED : Fld := ⟨PAD_STATUS, 31, 31, .w1c, 0⟩
def PAD_STATUS_CFG_ERR : Fld := ⟨PAD_STATUS, 30, 30, .ro, 0⟩
def PAD_STATUS_HOLD : Fld := ⟨PAD_STATUS, 29, 29, .ro, 0⟩
def PAD_STATUS_ACC_DEPTH : Fld := ⟨PAD_STATUS, 23, 17, .ro, 0⟩
def PAD_STATUS_FILL : Fld := ⟨PAD_STATUS, 16, 0, .ro, 0⟩
def PAD_HWM : Nat := 0x81C
def PAD_HWM_HWM : Fld := ⟨PAD_HWM, 16, 0, .rc, 0⟩
def PAD_ACC_CNT : Nat := 0x820
def PAD_ACC_CNT_ACCEPTS : Fld := ⟨PAD_ACC_CNT, 31, 0, .ro, 0⟩
def PAD_FLAG_CNT0 : Nat := 0x824
def PAD_FLAG_CNT0_HELDOFF : Fld := ⟨PAD_FLAG_CNT0, 31, 24, .rc, 0⟩
def PAD_FLAG_CNT0_DROPPED : Fld := ⟨PAD_FLAG_CNT0, 23, 16, .rc, 0⟩
def PAD_FLAG_CNT0_EXPIRED : Fld := ⟨PAD_FLAG_CNT0, 15, 8, .rc, 0⟩
def PAD_FLAG_CNT0_TRUNC : Fld := ⟨PAD_FLAG_CNT0, 7, 0, .rc, 0⟩
def PAD_FLAG_CNT1 : Nat := 0x828
def PAD_FLAG_CNT1_OVERLAP : Fld := ⟨PAD_FLAG_CNT1, 31, 24, .rc, 0⟩
def PAD_FLAG_CNT1_HELD : Fld := ⟨PAD_FLAG_CNT1, 23, 16, .rc, 0⟩
def PAD_FLAG_CNT1_LOSSY : Fld := ⟨PAD_FLAG_CNT1, 15, 8, .rc, 0⟩
def PAD_FLAG_CNT1_STRAY : Fld := ⟨PAD_FLAG_CNT1, 7, 0, .rc, 0⟩
def PAD_LOSS : Nat := 0x82C
def PAD_LOSS_FULL : Fld := ⟨PAD_LOSS, 31, 16, .rc, 0⟩
def PAD_LOSS_HELD_WORDS : Fld := ⟨PAD_LOSS, 15, 0, .rc, 0⟩
def PAD_LOSS_TR : Nat := 0x830
def PAD_LOSS_TR_TRUNC_WORDS : Fld := ⟨PAD_LOSS_TR, 15, 0, .rc, 0⟩
def PAD_ECC : Nat := 0x834
def PAD_ECC_CORR : Fld := ⟨PAD_ECC, 31, 16, .rc, 0⟩
def PAD_ECC_UNCORR : Fld := ⟨PAD_ECC, 15, 0, .rc, 0⟩
def PAD_GRP (n : Nat) : Nat := 0x840 + 4 * n
def PAD_GRP_QFULL (n : Nat) : Fld := ⟨PAD_GRP n, 31, 24, .rc, 0⟩
def PAD_GRP_UNCORR (n : Nat) : Fld := ⟨PAD_GRP n, 23, 16, .rc, 0⟩
def PAD_GRP_CORR (n : Nat) : Fld := ⟨PAD_GRP n, 15, 0, .rc, 0⟩
/-! ### spec/06_twin_samplers.md -/
def SAMP_CTRL : Nat := 0x900
def SAMP_CTRL_DISARM : Fld := ⟨SAMP_CTRL, 23, 16, .wo, 0⟩
def SAMP_CTRL_FORCE : Fld := ⟨SAMP_CTRL, 15, 8, .wo, 0⟩
def SAMP_CTRL_ARM : Fld := ⟨SAMP_CTRL, 7, 0, .wo, 0⟩
def SAMP_REF : Nat := 0x904
def SAMP_REF_READY : Fld := ⟨SAMP_REF, 1, 1, .ro, 0⟩
def SAMP_REF_EN : Fld := ⟨SAMP_REF, 0, 0, .rw, 0⟩
def SAMP_STATUS : Nat := 0x908
def SAMP_STATUS_REF_COLD : Fld := ⟨SAMP_STATUS, 16, 16, .w1c, 0⟩
def SAMP_STATUS_FROZEN : Fld := ⟨SAMP_STATUS, 15, 8, .ro, 0⟩
def SAMP_STATUS_ARMED : Fld := ⟨SAMP_STATUS, 7, 0, .ro, 0⟩
def SAMP_RDOUT : Nat := 0x90C
def SAMP_RDOUT_SPACING : Fld := ⟨SAMP_RDOUT, 7, 0, .rw, 0x40⟩
def SAMPG_TRIM (n : Nat) : Nat := 0x940 + 0x10 * n
def SAMPG_TRIM_OFFS (n : Nat) : Fld := ⟨SAMPG_TRIM n, 25, 16, .rw, 0⟩
def SAMPG_TRIM_GAIN (n : Nat) : Fld := ⟨SAMPG_TRIM n, 11, 0, .rw, 0⟩
def SAMPG_SKEW (n : Nat) : Nat := 0x944 + 0x10 * n
def SAMPG_SKEW_AP_DELAY (n : Nat) : Fld := ⟨SAMPG_SKEW n, 31, 16, .ro, 0⟩
def SAMPG_SKEW_SKEW (n : Nat) : Fld := ⟨SAMPG_SKEW n, 7, 0, .rw, 0⟩
def SAMPG_CNT (n : Nat) : Nat := 0x948 + 0x10 * n
def SAMPG_CNT_MISSED (n : Nat) : Fld := ⟨SAMPG_CNT n, 31, 16, .rc, 0⟩
def SAMPG_CNT_CAPTURES (n : Nat) : Fld := ⟨SAMPG_CNT n, 15, 8, .rc, 0⟩
def SAMPG_CNT_OVERRANGE (n : Nat) : Fld := ⟨SAMPG_CNT n, 7, 0, .rc, 0⟩
def SAMPG_CFG (n : Nat) : Nat := 0xA00 + 0x20 * n
def SAMPG_CFG_CH (n : Nat) : Fld := ⟨SAMPG_CFG n, 15, 10, .rw, 0⟩
def SAMPG_CFG_INPUT (n : Nat) : Fld := ⟨SAMPG_CFG n, 8, 8, .rw, 0⟩
def SAMPG_CFG_SINGLE (n : Nat) : Fld := ⟨SAMPG_CFG n, 4, 4, .rw, 0⟩
def SAMPG_CFG_HO_EVENTS (n : Nat) : Fld := ⟨SAMPG_CFG n, 3, 3, .rw, 0⟩
def SAMPG_CFG_TIMER_EN (n : Nat) : Fld := ⟨SAMPG_CFG n, 2, 2, .rw, 0⟩
def SAMPG_CFG_PW_EN (n : Nat) : Fld := ⟨SAMPG_CFG n, 1, 1, .rw, 0⟩
def SAMPG_CFG_EN (n : Nat) : Fld := ⟨SAMPG_CFG n, 0, 0, .rw, 0⟩
def SAMPG_LEN (n : Nat) : Nat := 0xA04 + 0x20 * n
def SAMPG_LEN_POST4 (n : Nat) : Fld := ⟨SAMPG_LEN n, 25, 16, .rw, 0x100⟩
def SAMPG_LEN_PRE4 (n : Nat) : Fld := ⟨SAMPG_LEN n, 9, 0, .rw, 0x100⟩
def SAMPG_PW (n : Nat) : Nat := 0xA08 + 0x20 * n
def SAMPG_PW_DELAY (n : Nat) : Fld := ⟨SAMPG_PW n, 27, 16, .rw, 0⟩
def SAMPG_PW_WIDTH (n : Nat) : Fld := ⟨SAMPG_PW n, 9, 0, .rw, 0x40⟩
def SAMPG_CHMASK_LO (n : Nat) : Nat := 0xA0C + 0x20 * n
def SAMPG_CHMASK_LO_MASK (n : Nat) : Fld := ⟨SAMPG_CHMASK_LO n, 31, 0, .rw, 0⟩
def SAMPG_CHMASK_HI (n : Nat) : Nat := 0xA10 + 0x20 * n
def SAMPG_CHMASK_HI_MASK (n : Nat) : Fld := ⟨SAMPG_CHMASK_HI n, 31, 0, .rw, 0⟩
def SAMPG_TIMER (n : Nat) : Nat := 0xA14 + 0x20 * n
def SAMPG_TIMER_PERIOD (n : Nat) : Fld := ⟨SAMPG_TIMER n, 31, 0, .rw, 0x138800⟩
def SAMPG_HOLDOFF (n : Nat) : Nat := 0xA18 + 0x20 * n
def SAMPG_HOLDOFF_HOLDOFF (n : Nat) : Fld := ⟨SAMPG_HOLDOFF n, 23, 0, .rw, 0⟩
def SAMPG_STATE (n : Nat) : Nat := 0xA1C + 0x20 * n
def SAMPG_STATE_RECORD (n : Nat) : Fld := ⟨SAMPG_STATE n, 10, 8, .ro, 0⟩
def SAMPG_STATE_WR_IGNORED (n : Nat) : Fld := ⟨SAMPG_STATE n, 4, 4, .w1c, 0⟩
def SAMPG_STATE_CFG_ERR (n : Nat) : Fld := ⟨SAMPG_STATE n, 3, 3, .ro, 0⟩
def SAMPG_STATE_STATE (n : Nat) : Fld := ⟨SAMPG_STATE n, 2, 0, .ro, 0⟩
def MON_CTRL : Nat := 0xB00
def MON_CTRL_SEND : Fld := ⟨MON_CTRL, 2, 2, .rw, 0⟩
def MON_CTRL_TIMER_EN : Fld := ⟨MON_CTRL, 1, 1, .rw, 0⟩
def MON_CTRL_GO : Fld := ⟨MON_CTRL, 0, 0, .wo, 0⟩
def MON_MASK : Nat := 0xB04
def MON_MASK_MASK : Fld := ⟨MON_MASK, 15, 0, .rw, 0xFFFF⟩
def MON_PERIOD : Nat := 0xB08
def MON_PERIOD_PERIOD : Fld := ⟨MON_PERIOD, 15, 0, .rw, 0x4C4B⟩
def MON_STATUS : Nat := 0xB0C
def MON_STATUS_OVERLAP : Fld := ⟨MON_STATUS, 31, 16, .rc, 0⟩
def MON_STATUS_SWEEPS : Fld := ⟨MON_STATUS, 15, 8, .ro, 0⟩
def MON_STATUS_SOURCE : Fld := ⟨MON_STATUS, 4, 1, .ro, 0⟩
def MON_STATUS_BUSY : Fld := ⟨MON_STATUS, 0, 0, .ro, 0⟩
def MON_RESULT (n : Nat) : Nat := 0xB40 + 4 * n
def MON_RESULT_SWEEP (n : Nat) : Fld := ⟨MON_RESULT n, 31, 24, .ro, 0⟩
def MON_RESULT_VALID (n : Nat) : Fld := ⟨MON_RESULT n, 16, 16, .ro, 0⟩
def MON_RESULT_CODE (n : Nat) : Fld := ⟨MON_RESULT n, 11, 0, .ro, 0⟩
/-! ### spec/04_tladon_timing_channels.md -/
def CH_CFG (n : Nat) : Nat := 0x1000 + 0x10 * n
def CH_CFG_PRIM_EN (n : Nat) : Fld := ⟨CH_CFG n, 24, 24, .rw, 1⟩
def CH_CFG_MIN_TOT (n : Nat) : Fld := ⟨CH_CFG n, 23, 20, .rw, 0⟩
def CH_CFG_PILEUP_WIN (n : Nat) : Fld := ⟨CH_CFG n, 15, 8, .rw, 0x10⟩
def CH_CFG_RANGE (n : Nat) : Fld := ⟨CH_CFG n, 4, 3, .rw, 0⟩
def CH_CFG_POL (n : Nat) : Fld := ⟨CH_CFG n, 2, 2, .rw, 0⟩
def CH_CFG_MODE (n : Nat) : Fld := ⟨CH_CFG n, 1, 0, .rw, 0⟩
def CH_THR (n : Nat) : Nat := 0x1004 + 0x10 * n
def CH_THR_TRIM (n : Nat) : Fld := ⟨CH_THR n, 21, 16, .rw, 0⟩
def CH_THR_THR (n : Nat) : Fld := ⟨CH_THR n, 9, 0, .rw, 0x3FF⟩
def CH_STATUS (n : Nat) : Nat := 0x1008 + 0x10 * n
def CH_STATUS_PILEUP_SEEN (n : Nat) : Fld := ⟨CH_STATUS n, 3, 3, .w1c, 0⟩
def CH_STATUS_SETTLING (n : Nat) : Fld := ⟨CH_STATUS n, 2, 2, .ro, 0⟩
def CH_STATUS_CLAMP_NOW (n : Nat) : Fld := ⟨CH_STATUS n, 1, 1, .ro, 0⟩
def CH_STATUS_CLAMP (n : Nat) : Fld := ⟨CH_STATUS n, 0, 0, .w1c, 0⟩
def CH_CNT (n : Nat) : Nat := 0x100C + 0x10 * n
def CH_CNT_CLAMP_EVENTS (n : Nat) : Fld := ⟨CH_CNT n, 31, 24, .rc, 0⟩
def CH_CNT_SHORT (n : Nat) : Fld := ⟨CH_CNT n, 23, 16, .rc, 0⟩
def CH_CNT_LOST (n : Nat) : Fld := ⟨CH_CNT n, 15, 0, .rc, 0⟩

/-- Rows 0–39 of the index. -/
def rows0 : List RegRow := [
  ⟨"ID_SERIAL", 0, 0, 1, 0, 1, [ID_SERIAL_SERIAL]⟩,
  ⟨"ID_CAP", 4, 0, 1, 0, 1, [ID_CAP_VARIANT, ID_CAP_CH_COUNT, ID_CAP_SAMP_COUNT, ID_CAP_MON, ID_CAP_SAMP]⟩,
  ⟨"ID_STATE", 8, 0, 1, 0, 1, [ID_STATE_CAUSE, ID_STATE_STATE]⟩,
  ⟨"LINK_CFG", 0x100, 0, 1, 0, 1, [LINK_CFG_MIRROR, LINK_CFG_BOND]⟩,
  ⟨"LINK_STATUS", 0x104, 0, 1, 0, 1, [LINK_STATUS_UP_ACTIVE, LINK_STATUS_OBEY_SWITCH, LINK_STATUS_CLAIM_TIE, LINK_STATUS_NONE, LINK_STATUS_OBEYED, LINK_STATUS_CLAIM_B, LINK_STATUS_CLAIM_A, LINK_STATUS_LOCK_B, LINK_STATUS_LOCK_A]⟩,
  ⟨"LINK_CLAIM_A", 0x108, 0, 1, 0, 1, [LINK_CLAIM_A_CLAIM]⟩,
  ⟨"LINK_CLAIM_B", 0x10C, 0, 1, 0, 1, [LINK_CLAIM_B_CLAIM]⟩,
  ⟨"LINK_DL_ERR_A", 0x110, 0, 1, 0, 1, [LINK_DL_ERR_A_CORR, LINK_DL_ERR_A_UNCORR, LINK_DL_ERR_A_CMD_CRC]⟩,
  ⟨"LINK_DL_ERR_B", 0x114, 0, 1, 0, 1, [LINK_DL_ERR_B_CORR, LINK_DL_ERR_B_UNCORR, LINK_DL_ERR_B_CMD_CRC]⟩,
  ⟨"LINK_CMD_CNT", 0x118, 0, 1, 0, 1, [LINK_CMD_CNT_OBEYED, LINK_CMD_CNT_REFUSED, LINK_CMD_CNT_ABANDONED]⟩,
  ⟨"LINK_UP_CNT", 0x120, 4, 4, 0, 1, [LINK_UP_CNT_REPLAYED 0, LINK_UP_CNT_NACKED 0, LINK_UP_CNT_PRIM_SUPPRESSED 0]⟩,
  ⟨"TIME_CTRL", 0x200, 0, 1, 0, 1, [TIME_CTRL_HOLD_MAX, TIME_CTRL_SLOT_SHIFT, TIME_CTRL_MARK_B_EN, TIME_CTRL_MARK_A_EN]⟩,
  ⟨"TIME_STATUS", 0x204, 0, 1, 0, 1, [TIME_STATUS_EPOCH_COUNT, TIME_STATUS_EPOCH_REFUSED, TIME_STATUS_HOLD_EXIT, TIME_STATUS_CLKSW, TIME_STATUS_LOCK_LOST, TIME_STATUS_HOLDOVER, TIME_STATUS_SRC, TIME_STATUS_PLL_LOCK, TIME_STATUS_CDR_LOCK]⟩,
  ⟨"TIME_COUNT_LO", 0x208, 0, 1, 0, 1, [TIME_COUNT_LO_COUNT_LO]⟩,
  ⟨"TIME_COUNT_HI", 0x20C, 0, 1, 0, 1, [TIME_COUNT_HI_COUNT_HI]⟩,
  ⟨"TIME_EPOCH_J_LO", 0x210, 0, 1, 0, 1, [TIME_EPOCH_J_LO_J_LO]⟩,
  ⟨"TIME_EPOCH_J_HI", 0x214, 0, 1, 0, 1, [TIME_EPOCH_J_HI_J_HI]⟩,
  ⟨"TIME_MARK_A", 0x218, 0, 1, 0, 1, [TIME_MARK_A_TICK, TIME_MARK_A_FINE]⟩,
  ⟨"TIME_MARK_B", 0x21C, 0, 1, 0, 1, [TIME_MARK_B_TICK, TIME_MARK_B_FINE]⟩,
  ⟨"TIME_CLKSW", 0x220, 0, 1, 0, 1, [TIME_CLKSW_SW_TICK, TIME_CLKSW_SW_PHASE]⟩,
  ⟨"SURVEY_CTRL", 0x300, 0, 1, 0, 1, [SURVEY_CTRL_CONT, SURVEY_CTRL_ARM, SURVEY_CTRL_ABORT, SURVEY_CTRL_START]⟩,
  ⟨"SURVEY_CFG", 0x304, 0, 1, 0, 1, [SURVEY_CFG_SAMPLES_LOG2, SURVEY_CFG_PRESC, SURVEY_CFG_CHANNEL, SURVEY_CFG_SRC]⟩,
  ⟨"SURVEY_GATE", 0x308, 0, 1, 0, 1, [SURVEY_GATE_GATE]⟩,
  ⟨"SURVEY_START_LO", 0x30C, 0, 1, 0, 1, [SURVEY_START_LO_START_LO]⟩,
  ⟨"SURVEY_START_HI", 0x310, 0, 1, 0, 1, [SURVEY_START_HI_START_HI]⟩,
  ⟨"SURVEY_STATUS", 0x314, 0, 1, 0, 1, [SURVEY_STATUS_SEQ, SURVEY_STATUS_ABORT, SURVEY_STATUS_LATE, SURVEY_STATUS_HOLDOVER, SURVEY_STATUS_CLKSW, SURVEY_STATUS_OVERRATE, SURVEY_STATUS_NO_SIGNAL, SURVEY_STATUS_CFG_ERR, SURVEY_STATUS_VALID, SURVEY_STATUS_BUSY]⟩,
  ⟨"SURVEY_RATIO_LO", 0x318, 0, 1, 0, 1, [SURVEY_RATIO_LO_RATIO]⟩,
  ⟨"SURVEY_RATIO_HI", 0x31C, 0, 1, 0, 1, [SURVEY_RATIO_HI_RATIO]⟩,
  ⟨"SURVEY_RESID", 0x320, 0, 1, 0, 1, [SURVEY_RESID_RESID]⟩,
  ⟨"SURVEY_EDGES", 0x324, 0, 1, 0, 1, [SURVEY_EDGES_EDGES]⟩,
  ⟨"SURVEY_FIRST_LO", 0x328, 0, 1, 0, 1, [SURVEY_FIRST_LO_TICK, SURVEY_FIRST_LO_FINE]⟩,
  ⟨"SURVEY_FIRST_HI", 0x32C, 0, 1, 0, 1, [SURVEY_FIRST_HI_TICK_HI]⟩,
  ⟨"CAL_CTRL", 0x340, 0, 1, 0, 1, [CAL_CTRL_CAL_TMO, CAL_CTRL_CD_LOG2, CAL_CTRL_FREEZE, CAL_CTRL_EN]⟩,
  ⟨"CAL_STATUS", 0x344, 0, 1, 0, 1, [CAL_STATUS_SWAPS, CAL_STATUS_READY, CAL_STATUS_REJECT, CAL_STATUS_CAL_STALL, CAL_STATUS_EPOCH]⟩,
  ⟨"CAL_CNT", 0x348, 0, 1, 0, 1, [CAL_CNT_REJECTS, CAL_CNT_ABORTED]⟩,
  ⟨"CAL_TAB_SEL", 0x34C, 0, 1, 0, 1, [CAL_TAB_SEL_SHADOW, CAL_TAB_SEL_RAW, CAL_TAB_SEL_INTERP]⟩,
  ⟨"CAL_TAB_DATA", 0x350, 0, 1, 0, 1, [CAL_TAB_DATA_COUNT, CAL_TAB_DATA_BIN]⟩,
  ⟨"CHN_INT_CFG", 0x400, 0x20, 8, 0, 1, [CHN_INT_CFG_STOPS 0, CHN_INT_CFG_EN 0, CHN_INT_CFG_START 0]⟩,
  ⟨"CHN_INT_WIN", 0x404, 0x20, 8, 0, 1, [CHN_INT_WIN_WINDOW 0]⟩,
  ⟨"CHN_INT_STOP_LO", 0x408, 0x20, 8, 0, 1, [CHN_INT_STOP_LO_STOP 0]⟩]

/-- Rows 40–79 of the index. -/
def rows1 : List RegRow := [
  ⟨"CHN_INT_STOP_HI", 0x40C, 0x20, 8, 0, 1, [CHN_INT_STOP_HI_STOP 0]⟩,
  ⟨"CHN_INT_STATUS", 0x410, 0x20, 8, 0, 1, [CHN_INT_STATUS_TIMEOUTS 0, CHN_INT_STATUS_STRAY_STOPS 0, CHN_INT_STATUS_BUSY_STARTS 0, CHN_INT_STATUS_CFG_ERR 0, CHN_INT_STATUS_OPEN 0]⟩,
  ⟨"CHN_SEU", 0x500, 0, 1, 0, 1, [CHN_SEU_CORRECTED]⟩,
  ⟨"PAD_CFG", 0x800, 0, 1, 0, 1, [PAD_CFG_MODE]⟩,
  ⟨"PAD_WIN", 0x804, 0, 1, 0, 1, [PAD_WIN_W_PRE, PAD_WIN_W_POST]⟩,
  ⟨"PAD_HOLDOFF", 0x808, 0, 1, 0, 1, [PAD_HOLDOFF_HO_MODE, PAD_HOLDOFF_HO]⟩,
  ⟨"PAD_FRAG", 0x80C, 0, 1, 0, 1, [PAD_FRAG_MAX_WORDS]⟩,
  ⟨"PAD_PRIM", 0x810, 0, 1, 0, 1, [PAD_PRIM_CLIP, PAD_PRIM_UNIT, PAD_PRIM_DENSE, PAD_PRIM_EN]⟩,
  ⟨"PAD_CTRL", 0x814, 0, 1, 0, 1, [PAD_CTRL_HOLD]⟩,
  ⟨"PAD_STATUS", 0x818, 0, 1, 0, 1, [PAD_STATUS_WR_IGNORED, PAD_STATUS_CFG_ERR, PAD_STATUS_HOLD, PAD_STATUS_ACC_DEPTH, PAD_STATUS_FILL]⟩,
  ⟨"PAD_HWM", 0x81C, 0, 1, 0, 1, [PAD_HWM_HWM]⟩,
  ⟨"PAD_ACC_CNT", 0x820, 0, 1, 0, 1, [PAD_ACC_CNT_ACCEPTS]⟩,
  ⟨"PAD_FLAG_CNT0", 0x824, 0, 1, 0, 1, [PAD_FLAG_CNT0_HELDOFF, PAD_FLAG_CNT0_DROPPED, PAD_FLAG_CNT0_EXPIRED, PAD_FLAG_CNT0_TRUNC]⟩,
  ⟨"PAD_FLAG_CNT1", 0x828, 0, 1, 0, 1, [PAD_FLAG_CNT1_OVERLAP, PAD_FLAG_CNT1_HELD, PAD_FLAG_CNT1_LOSSY, PAD_FLAG_CNT1_STRAY]⟩,
  ⟨"PAD_LOSS", 0x82C, 0, 1, 0, 1, [PAD_LOSS_FULL, PAD_LOSS_HELD_WORDS]⟩,
  ⟨"PAD_LOSS_TR", 0x830, 0, 1, 0, 1, [PAD_LOSS_TR_TRUNC_WORDS]⟩,
  ⟨"PAD_ECC", 0x834, 0, 1, 0, 1, [PAD_ECC_CORR, PAD_ECC_UNCORR]⟩,
  ⟨"PAD_GRP", 0x840, 4, 8, 0, 1, [PAD_GRP_QFULL 0, PAD_GRP_UNCORR 0, PAD_GRP_CORR 0]⟩,
  ⟨"SAMP_CTRL", 0x900, 0, 1, 0, 1, [SAMP_CTRL_DISARM, SAMP_CTRL_FORCE, SAMP_CTRL_ARM]⟩,
  ⟨"SAMP_REF", 0x904, 0, 1, 0, 1, [SAMP_REF_READY, SAMP_REF_EN]⟩,
  ⟨"SAMP_STATUS", 0x908, 0, 1, 0, 1, [SAMP_STATUS_REF_COLD, SAMP_STATUS_FROZEN, SAMP_STATUS_ARMED]⟩,
  ⟨"SAMP_RDOUT", 0x90C, 0, 1, 0, 1, [SAMP_RDOUT_SPACING]⟩,
  ⟨"SAMPG_TRIM", 0x940, 0x10, 8, 0, 1, [SAMPG_TRIM_OFFS 0, SAMPG_TRIM_GAIN 0]⟩,
  ⟨"SAMPG_SKEW", 0x944, 0x10, 8, 0, 1, [SAMPG_SKEW_AP_DELAY 0, SAMPG_SKEW_SKEW 0]⟩,
  ⟨"SAMPG_CNT", 0x948, 0x10, 8, 0, 1, [SAMPG_CNT_MISSED 0, SAMPG_CNT_CAPTURES 0, SAMPG_CNT_OVERRANGE 0]⟩,
  ⟨"SAMPG_CFG", 0xA00, 0x20, 8, 0, 1, [SAMPG_CFG_CH 0, SAMPG_CFG_INPUT 0, SAMPG_CFG_SINGLE 0, SAMPG_CFG_HO_EVENTS 0, SAMPG_CFG_TIMER_EN 0, SAMPG_CFG_PW_EN 0, SAMPG_CFG_EN 0]⟩,
  ⟨"SAMPG_LEN", 0xA04, 0x20, 8, 0, 1, [SAMPG_LEN_POST4 0, SAMPG_LEN_PRE4 0]⟩,
  ⟨"SAMPG_PW", 0xA08, 0x20, 8, 0, 1, [SAMPG_PW_DELAY 0, SAMPG_PW_WIDTH 0]⟩,
  ⟨"SAMPG_CHMASK_LO", 0xA0C, 0x20, 8, 0, 1, [SAMPG_CHMASK_LO_MASK 0]⟩,
  ⟨"SAMPG_CHMASK_HI", 0xA10, 0x20, 8, 0, 1, [SAMPG_CHMASK_HI_MASK 0]⟩,
  ⟨"SAMPG_TIMER", 0xA14, 0x20, 8, 0, 1, [SAMPG_TIMER_PERIOD 0]⟩,
  ⟨"SAMPG_HOLDOFF", 0xA18, 0x20, 8, 0, 1, [SAMPG_HOLDOFF_HOLDOFF 0]⟩,
  ⟨"SAMPG_STATE", 0xA1C, 0x20, 8, 0, 1, [SAMPG_STATE_RECORD 0, SAMPG_STATE_WR_IGNORED 0, SAMPG_STATE_CFG_ERR 0, SAMPG_STATE_STATE 0]⟩,
  ⟨"MON_CTRL", 0xB00, 0, 1, 0, 1, [MON_CTRL_SEND, MON_CTRL_TIMER_EN, MON_CTRL_GO]⟩,
  ⟨"MON_MASK", 0xB04, 0, 1, 0, 1, [MON_MASK_MASK]⟩,
  ⟨"MON_PERIOD", 0xB08, 0, 1, 0, 1, [MON_PERIOD_PERIOD]⟩,
  ⟨"MON_STATUS", 0xB0C, 0, 1, 0, 1, [MON_STATUS_OVERLAP, MON_STATUS_SWEEPS, MON_STATUS_SOURCE, MON_STATUS_BUSY]⟩,
  ⟨"MON_RESULT", 0xB40, 4, 16, 0, 1, [MON_RESULT_SWEEP 0, MON_RESULT_VALID 0, MON_RESULT_CODE 0]⟩,
  ⟨"CH_CFG", 0x1000, 0x10, 512, 0, 1, [CH_CFG_PRIM_EN 0, CH_CFG_MIN_TOT 0, CH_CFG_PILEUP_WIN 0, CH_CFG_RANGE 0, CH_CFG_POL 0, CH_CFG_MODE 0]⟩,
  ⟨"CH_THR", 0x1004, 0x10, 512, 0, 1, [CH_THR_TRIM 0, CH_THR_THR 0]⟩]

/-- Rows 80–81 of the index. -/
def rows2 : List RegRow := [
  ⟨"CH_STATUS", 0x1008, 0x10, 512, 0, 1, [CH_STATUS_PILEUP_SEEN 0, CH_STATUS_SETTLING 0, CH_STATUS_CLAMP_NOW 0, CH_STATUS_CLAMP 0]⟩,
  ⟨"CH_CNT", 0x100C, 0x10, 512, 0, 1, [CH_CNT_CLAMP_EVENTS 0, CH_CNT_SHORT 0, CH_CNT_LOST 0]⟩]

/-- The register index (R657, R663). -/
def rows : List RegRow := rows0 ++ rows1 ++ rows2

end Sys2Proof.TR
end

