-- ==== Sys2Proof/Machine/Bits.lean ====
section
/-! DEFINITION. Shared bit-field, sparse-map, register-file and check-code operations. -/

namespace Sys2Proof

/-! ### Sparse maps -/

/-- What the map holds at key `k`. -/
def SMap.find {α : Type} (k : Nat) : SMap α → Option α
  | [] => none
  | (a, v) :: m => if a = k then some v else SMap.find k m

/-- What the map holds at key `k`, or the default. -/
def SMap.getD {α : Type} (d : α) (k : Nat) (m : SMap α) : α := (SMap.find k m).getD d

/-- Store `v` at `k`, keeping the keys strictly rising. -/
def SMap.insert {α : Type} (k : Nat) (v : α) : SMap α → SMap α
  | [] => [(k, v)]
  | (a, w) :: m =>
    if k < a then (k, v) :: (a, w) :: m
    else if k = a then (k, v) :: m
    else (a, w) :: SMap.insert k v m

/-- Remove the entry of `k`. -/
def SMap.erase {α : Type} (k : Nat) : SMap α → SMap α
  | [] => []
  | (a, w) :: m => if a = k then SMap.erase k m else (a, w) :: SMap.erase k m

/-- Change the entry of `k`, starting from the default where there is none. -/
def SMap.modify {α : Type} (d : α) (k : Nat) (f : α → α) (m : SMap α) : SMap α :=
  SMap.insert k (f (SMap.getD d k m)) m

/-- The keys are strictly rising. -/
def SMap.sorted {α : Type} : SMap α → Bool
  | [] => true
  | (a, _) :: m => (m.all fun p => decide (a < p.1)) && SMap.sorted m

/-! ### Sorting -/

/-- Insert `x` before the first element that `le` puts after it. -/
def insertBy {α : Type} (le : α → α → Bool) (x : α) : List α → List α
  | [] => [x]
  | y :: r => if le y x then y :: insertBy le x r else x :: y :: r

/-- A stable sort by `le`. -/
def sortBy {α : Type} (le : α → α → Bool) (l : List α) : List α :=
  l.foldl (fun acc x => insertBy le x acc) []

/-! ### Bit fields -/

/-- Bits [hi:lo] of a number. -/
def bits (hi lo : Nat) (w : Nat) : Nat := w / 2 ^ lo % 2 ^ (hi + 1 - lo)

/-- Bit `i` of a number. -/
def bit (i : Nat) (w : Nat) : Bool := w / 2 ^ i % 2 = 1

/-- 1 for true, 0 for false. -/
def b2n (b : Bool) : Nat := if b then 1 else 0

/-- The number whose fields are the listed values, each at its lowest bit and cut to its width:
(hi, lo, value). -/
def pack : List (Nat × Nat × Nat) → Nat
  | [] => 0
  | (hi, lo, v) :: r => v % 2 ^ (hi + 1 - lo) * 2 ^ lo + pack r

/-- A 64-bit word from its fields. -/
def word64 (l : List (Nat × Nat × Nat)) : Word64 := BitVec.ofNat 64 (pack l)

/-- The signed value of an `n`-bit field. -/
def signed (n v : Nat) : Int := if v % 2 ^ n < 2 ^ (n - 1) then (v % 2 ^ n : Nat) else (v % 2 ^ n : Nat) - (2 ^ n : Nat)

/-- The `n`-bit two's-complement code of an integer. -/
def unsigned (n : Nat) (v : Int) : Nat := (v % (2 ^ n : Nat)).toNat

/-- Rounded division, halves up. -/
def divRound (a b : Int) : Int := (2 * a + b) / (2 * b)

/-- The largest `r` below `2 ^ n` with `r * r ≤ x`. -/
def isqrtBits (x : Nat) : Nat → Nat → Nat
  | 0, r => r
  | n + 1, r => if (r + 2 ^ n) * (r + 2 ^ n) ≤ x then isqrtBits x n (r + 2 ^ n) else isqrtBits x n r

/-- The whole square root. -/
def isqrt (x : Nat) : Nat := isqrtBits x (x.log2 / 2 + 1) 0

/-- The big-endian bytes of an `n`-byte number. -/
def beBytes : Nat → Nat → List Nat
  | 0, _ => []
  | n + 1, w => w / 256 ^ n % 256 :: beBytes n w

/-- The little-endian bytes of an `n`-byte number (R15). -/
def leBytes : Nat → Nat → List Nat
  | 0, _ => []
  | n + 1, w => w % 256 :: leBytes n (w / 256)

/-- The number whose little-endian bytes these are. -/
def ofLe : List Nat → Nat
  | [] => 0
  | b :: r => b % 256 + 256 * ofLe r

/-- The number whose big-endian bytes these are. -/
def ofBe (l : List Nat) : Nat := l.foldl (fun a b => a * 256 + b % 256) 0

/-! ### Check codes -/

/-- One bit of CRC-16 with polynomial 0x1021, no reflection. -/
def crc16Bit (c : Nat) : Nat :=
  if c / 0x8000 % 2 = 1 then (c * 2 % 0x10000) ^^^ 0x1021 else c * 2 % 0x10000

/-- One byte of the CRC of R197. -/
def crc16Byte (c b : Nat) : Nat :=
  (List.range 8).foldl (fun c _ => crc16Bit c) (c ^^^ (b % 256 * 256))

/-- The CRC of R197: CRC-16, polynomial 0x1021, initial value 0xFFFF, no final exclusive-or. -/
def crc16 (l : List Nat) : Nat := l.foldl crc16Byte 0xFFFF

/-- One bit of CRC-8 with polynomial 0x07, no reflection (R299). -/
def crc8Bit (c : Nat) : Nat :=
  if c / 0x80 % 2 = 1 then (c * 2 % 0x100) ^^^ 0x07 else c * 2 % 0x100

/-- CRC-8 of R299: initial value 0. -/
def crc8 (l : List Nat) : Nat :=
  l.foldl (fun c b => (List.range 8).foldl (fun c _ => crc8Bit c) (c ^^^ (b % 256))) 0

/-- One bit of the reflected CRC-32 (polynomial 0xEDB88320). -/
def crc32Bit (c : Nat) : Nat := if c % 2 = 1 then (c / 2) ^^^ 0xEDB88320 else c / 2

/-- One byte of CRC-32. -/
def crc32Byte (c b : Nat) : Nat :=
  (List.range 8).foldl (fun c _ => crc32Bit c) (c ^^^ (b % 256))

/-- CRC-32 of IEEE 802.3: initial value and final exclusive-or all ones. -/
def crc32 (l : List Nat) : Nat := (l.foldl crc32Byte 0xFFFFFFFF) ^^^ 0xFFFFFFFF

/-- One bit of the reflected CRC-32C (polynomial 0x1EDC6F41, R375). -/
def crc32cBit (c : Nat) : Nat := if c % 2 = 1 then (c / 2) ^^^ 0x82F63B78 else c / 2

/-- One byte of CRC-32C. -/
def crc32cByte (c b : Nat) : Nat :=
  (List.range 8).foldl (fun c _ => crc32cBit c) (c ^^^ (b % 256))

/-- CRC-32C: initial value and final exclusive-or all ones (R375). -/
def crc32c (l : List Nat) : Nat := (l.foldl crc32cByte 0xFFFFFFFF) ^^^ 0xFFFFFFFF

/-- The parity of a number of up to 64 bits. -/
def parity (w : Nat) : Bool := (List.range 64).foldl (fun p i => p ^^ bit i w) false

/-- The number of ones among the low `n` bits. -/
def popcount (n w : Nat) : Nat := ((List.range n).filter fun i => bit i w).length

/-! ### Register files -/

/-- The bit address that keys a field. -/
def Fld.key (f : Fld) : Nat := 32 * f.addr + f.lo

/-- The number of values of a field. -/
def Fld.size (f : Fld) : Nat := 2 ^ (f.hi + 1 - f.lo)

/-- The value a field holds. -/
def RegFile.get (f : Fld) (m : RegFile) : Nat := (SMap.find f.key m).getD f.reset

/-- Whether a field is not zero. -/
def RegFile.on (f : Fld) (m : RegFile) : Bool := m.get f != 0

/-- Store a value in a field, cut to its width; a field at its reset value is not listed. -/
def RegFile.set (f : Fld) (v : Nat) (m : RegFile) : RegFile :=
  if v % f.size = f.reset then SMap.erase f.key m else SMap.insert f.key (v % f.size) m

/-- Store several fields, in order. -/
def RegFile.sets : List (Fld × Nat) → RegFile → RegFile
  | [], m => m
  | (f, v) :: r, m => RegFile.sets r (RegFile.set f v m)

/-- Count `n` in a field that saturates at its largest value. -/
def RegFile.add (f : Fld) (n : Nat) (m : RegFile) : RegFile :=
  m.set f (min (m.get f + n) (f.size - 1))

/-- Count `n` in a field that wraps. -/
def RegFile.addMod (f : Fld) (n : Nat) (m : RegFile) : RegFile := m.set f (m.get f + n)

/-- Keep the largest value seen in a field. -/
def RegFile.raise (f : Fld) (v : Nat) (m : RegFile) : RegFile :=
  m.set f (max (m.get f) (min v (f.size - 1)))

/-- A field of instance `(n, j)` of a family, from that of instance 0. -/
def Fld.shift (d : Nat) (f : Fld) : Fld := { f with addr := f.addr + d }

/-- Whether a family holds address `a`; the fields of that register if so. -/
def RegRow.at (r : RegRow) (a : Nat) : Option (List Fld) :=
  let d := a - r.addr
  let n := if r.stride = 0 then 0 else d / r.stride
  let e := d - n * r.stride
  let j := if r.stride2 = 0 then 0 else e / r.stride2
  if a < r.addr then none
  else if n < r.count ∧ j < r.count2 ∧ n * r.stride + j * r.stride2 = d then
    some (r.flds.map (Fld.shift d))
  else none

/-- The fields of the register at an address, if the index names one. -/
def regAt : List RegRow → Nat → Option (List Fld)
  | [], _ => none
  | r :: rs, a => match r.at a with
    | some fs => some fs
    | none => regAt rs a

/-- The 32-bit value a register reads: WO fields and reserved bits read zero (R16, R17). -/
def RegFile.word (fs : List Fld) (m : RegFile) : Nat :=
  fs.foldl (fun w f => if f.acc = .wo then w else w + m.get f * 2 ^ f.lo) 0

/-- A read at the normal address returns every RC field to its reset value (R17). -/
def RegFile.clearRC (fs : List Fld) (m : RegFile) : RegFile :=
  fs.foldl (fun m f => if f.acc = .rc then m.set f f.reset else m) m

/-- A write of a 32-bit value by the access codes of R17: RW takes the value, RWA only while it is
open, W1C clears where a 1 is written, the others ignore it. -/
def RegFile.write (open' : Bool) (fs : List Fld) (v : Nat) (m : RegFile) : RegFile :=
  fs.foldl (fun m f =>
    let x := bits f.hi f.lo v
    match f.acc with
    | .rw => m.set f x
    | .rwa => if open' then m.set f x else m
    | .w1c => m.set f (m.get f &&& (f.size - 1 - x))
    | _ => m) m

end Sys2Proof
end

