-- ==== Sys2Proof/Machine/State.lean ====
section
/-! DEFINITION. The state of the chipset as plain data: Wonan's and every Tladon's registers, and
every piece of state the spec names beside them; the reasons a command can stop; the state after
reset. -/

namespace Sys2Proof.Machine

open Sys2Proof

/-! ### Tladon: channels and interval units (spec/04) -/

/-- A leading edge whose hit is not complete (R119–R123): the model tick and the full tick count of
the edge, its fine bin and calibration epoch, the CLAMP and PILEUP flags, the part it plays (0 hit,
1 interval start, 2 interval stop, 3 no word), its stop number, and whether the channel's second
interpolator stamped it (R163). -/
structure Edge where
  t0 : Nat
  tick : Nat
  fine : Nat
  epoch : Nat
  clamp : Bool
  pile : Bool
  role : Nat
  stop : Nat
  alt : Bool
  deriving DecidableEq, Repr

/-- A completed hit that waits to enter its hit queue (step 5 of the table under *The TDC*). -/
structure DoneHit where
  edge : Edge
  t1 : Nat
  tot : Nat
  deriving DecidableEq, Repr

/-- A word of a timing channel with the full tick count of its leading edge. -/
structure HWord where
  tick : Nat
  word : Word64
  deriving DecidableEq, Repr

/-- What a channel holds beyond its registers: both ends of settling (R118), the edge in progress,
completed hits on their way, the time the output rose while it is high, whether its trailing edge
is to be ignored (R122), the re-arm time, the last trailing edge, the loss since the last word
(R123), the clamp (R115) and the hit queue (R208). -/
structure Chan where
  modeEnd : Nat
  cntEnd : Nat
  edge : Option Edge
  done : List DoneHit
  high : Option Nat
  ignore : Bool
  rearm : Nat
  lastTrail : Option Nat
  lost : Bool
  clampOn : Bool
  clampRel : Option Nat
  q : List HWord
  deriving DecidableEq, Repr

/-- A channel at rest. -/
def Chan.idle : Chan := ⟨0, 0, none, [], none, false, 0, none, false, false, none, []⟩

/-- An open interval window (R131): its start in model ticks and in the tick count, and its stops. -/
structure IntWin where
  t0 : Nat
  tick : Nat
  stops : Nat
  deriving DecidableEq, Repr

/-! ### Tladon: survey and calibration (spec/05) -/

/-- An open gate (R150–R154): start (model tick, tick count), length, the number of sampling
instants, instants already past, the cycle counter, the stamped edges newest first as (count,
stamp in fine bins since the gate's start), the last edge, and the flags of R155 and R158. -/
structure Gate where
  t0 : Nat
  tick : Nat
  len : Nat
  ns : Nat
  inst : Nat
  cycles : Nat
  edges : List (Nat × Int)
  last : Option Nat
  tooMany : Bool
  clksw : Bool
  holdover : Bool
  deriving DecidableEq, Repr

/-- A published survey result (R156), as latched by a read of SURVEY_RATIO_LO or as current. -/
structure SurveyRes where
  ratio : Nat
  resid : Nat
  edges : Nat
  first : Nat
  firstFine : Nat
  flags : Nat
  deriving DecidableEq, Repr

/-- Code-density calibration (R161–R170): shadow histograms and completed shadow tables, active and
retired tables by interpolator (one that is not listed uses the factory table), the tick at which
the retired tables go, and the frame count at the start of the histograms. -/
structure Cal where
  hist : SMap (SMap Nat)
  shadow : SMap (List Nat)
  active : SMap (List Nat)
  activeHist : SMap (SMap Nat)
  retired : SMap (List Nat)
  retireAt : Option Nat
  started : Nat
  deriving DecidableEq, Repr

/-! ### Tladon: samplers and monitor (spec/06) -/

/-- A capture or a frozen record (R189–R199). -/
structure Capture where
  tt : Nat
  first : Nat
  cause : Nat
  ch : Nat
  num : Nat
  pre : Nat
  post : Nat
  cold : Bool
  tooMany : Bool
  trim : Bool
  clksw : Bool
  holdover : Bool
  epoch : Bool
  frozenAt : Nat
  sent : Nat
  crc : Nat
  deriving DecidableEq, Repr

/-- A sampler (R183): state 0–6, the pending trigger as (trigger tick, cause, channel), the capture,
since when the memory is written, whether a DISARM waits, the hold-off (tick, events still to come),
the start of the timer, the last tick an event counted in MISSED, the next record number (R198),
whether READY was 0 at arming (R182) and the last trim write (R179). -/
structure Sampler where
  st : Nat
  trig : Option (Nat × Nat × Nat)
  cap : Option Capture
  since : Nat
  disarm : Bool
  holdTick : Nat
  holdEv : Nat
  timer : Nat
  missAt : Option Nat
  num : Nat
  cold : Bool
  trimAt : Option Nat
  deriving DecidableEq, Repr

/-- A sampler after reset. -/
def Sampler.off : Sampler := ⟨0, none, none, 0, false, 0, 0, 0, none, 0, false, none⟩

/-- A monitor sweep in progress: sources still to convert, the running one first, and the tick
count at the start of its conversion (R203–R205). -/
structure Sweep where
  srcs : List Nat
  t0 : Nat
  start : Nat
  deriving DecidableEq, Repr

/-! ### Tladon: Paddock (spec/07) -/

/-- A slot of the Paddock (R211–R216). -/
structure Slot where
  words : List HWord
  loss : Bool
  ecc : Bool
  closed : Bool
  pins : Nat
  deriving DecidableEq, Repr

/-- An open slot without words. -/
def Slot.empty : Slot := ⟨[], false, false, false, 0⟩

/-- An accept in the queue (R217–R226): its number, its window in ticks, and the form decided when
it took effect (0 from the Paddock, 1 CFG_ERR, 2 queue full, 3 HOLD, 4 held off), with the flags of
those four rows and EXPIRED and OVERLAP. -/
structure Accept where
  num : Nat
  t0 : Nat
  t1 : Nat
  form : Nat
  dropped : Bool
  held : Bool
  heldoff : Bool
  expired : Bool
  overlap : Bool
  deriving DecidableEq, Repr

/-- A discriminator pulse that counts in the primitives of its slot (R236): its channel and slot,
its leading edge, and its clipped length once known. -/
structure PrimHit where
  ch : Nat
  slot : Nat
  t0 : Nat
  len : Option Nat
  deriving DecidableEq, Repr

/-- The stream of one frame (R231): words sent per uplink, the flags of STREAM_END. -/
structure FrameStat where
  counts : List Nat
  loss : Bool
  ecc : Bool
  held : Bool
  deriving DecidableEq, Repr

/-- The Paddock beside its registers. -/
structure Paddock where
  slots : SMap Slot
  rr : List Nat
  arriving : List (Nat × Nat)
  accQ : List Accept
  windows : List (Nat × Nat)
  lastTrig : Option Nat
  skip : Nat
  entry : Nat
  holdDue : Option Nat
  prims : List PrimHit
  formed : SMap (Option Word64 × Option Word64)
  frames : SMap FrameStat
  deriving DecidableEq, Repr

/-! ### Tladon: links (spec/08) -/

/-- A word that waits for an uplink, with the slot it pins (R214). -/
structure UpItem where
  word : Word64
  pin : Option Nat
  deriving DecidableEq, Repr

/-- One uplink of Tladon: the RS block in progress and the bits of it sent, the replay buffer as
(number, already replayed) newest first (R258), replays and NACKs that wait, the three class queues
(R256), the block index in the frame (R250), the frame whose FRAME_HEAD is due, the word blocks
since the last FRAME_HEAD and the end of window suppression (R263). -/
structure Uplink where
  rs : Nat
  bits : Nat
  held : List (Nat × Bool)
  replays : List Nat
  nacks : List Nat
  c1 : List UpItem
  c2 : List UpItem
  c3 : List UpItem
  idx : Nat
  head : Option Nat
  words : Nat
  mute : Nat
  deriving DecidableEq, Repr

/-- An uplink at PLL lock. -/
def Uplink.start : Uplink := ⟨0, 0, [(0, false)], [], [], [], [], [], 0, none, 0, 0⟩

/-- A command being received (R271): its words so far, oldest first, and when its first cell began. -/
structure CmdRx where
  words : List Nat
  t0 : Nat
  deriving DecidableEq, Repr

/-- One downlink receiver (R268, R280): CDR lock, consecutive good and bad cells, the command in
progress, and when the last correct CLAIM came. -/
structure Downlink where
  cdr : Bool
  good : Nat
  bad : Nat
  cmd : Option CmdRx
  claimAt : Option Nat
  deriving DecidableEq, Repr

/-- A downlink receiver without signal. -/
def Downlink.idle : Downlink := ⟨false, 0, 0, none, none⟩

/-- One Tladon. `clk` is the offset of its tick counter from the model's tick (R40, R41); `tl512t`
is the part (R6); `sched` is a state change that waits (R284), as (new state, due tick); `latch`
holds the companion values a read has latched. -/
structure Tladon where
  tl512t : Bool
  straps : Nat
  powered : Bool
  regs : RegFile
  clk : Nat
  epoch : Option (Nat × Nat)
  holdAt : Option Nat
  obeyed : Option Bool
  sched : Option (Nat × Nat)
  linkDue : Option (Nat × Nat)
  dls : List Downlink
  ups : List Uplink
  chans : SMap Chan
  ints : SMap IntWin
  gate : Option Gate
  arm : Option Nat
  computing : List Gate
  res : SurveyRes
  cal : Cal
  samps : SMap Sampler
  refAt : Option Nat
  sweep : Option Sweep
  monFrames : Nat
  sampNext : Nat
  pad : Paddock
  deriving DecidableEq, Repr

/-- A Paddock at entry to ACQUIRING (R227). -/
def Paddock.empty : Paddock :=
  ⟨[], [0, 0, 0, 0, 0, 0, 0, 0], [], [], [], none, 0, 0, none, [], [], []⟩

/-- No survey result yet. -/
def SurveyRes.none : SurveyRes := ⟨0, 0, 0, 0, 0, 0⟩

/-- A Tladon after its power-on reset (R634, R283): POWERED, every register at its reset value. -/
def Tladon.reset : Tladon :=
  ⟨false, 0, false, [], 0, none, none, none, none, none, [Downlink.idle, Downlink.idle],
    [Uplink.start, Uplink.start, Uplink.start, Uplink.start], [], [], none, none, [],
    SurveyRes.none, ⟨[], [], [], [], [], none, 0⟩, [], none, none, 0, 0, Paddock.empty⟩
/-! ### Wonan: Meridian and triangulation (spec/02, spec/03) -/

/-- The anchor of a Wonan frame (R59): its number, the Meridian time at its start in units of 2^-16 ns,
its P in units of 2^-32 ns, whether a step took effect at its start (R60) and whether HOLDOVER was 1
in it (R83). -/
structure Anchor where
  frame : Nat
  time : Nat
  p : Nat
  step : Bool
  hold : Bool
  deriving DecidableEq, Repr

/-- An entry of the transmit time-stamp queue (R96). -/
structure TxStamp where
  port : Nat
  id : Nat
  stamp : Nat
  arrived : Nat
  deriving DecidableEq, Repr

/-- Meridian beside its registers: anchors newest first (R59), the frame of the last step, a pending
step (R77), the targets and values of the rate and slew terms in steps of 2^-48 (R72), the remaining
adjustment with its carry (R74), the held MER_RATE_LO, loss conditions armed and present (R80), the
time of the last Sync and PPS, the parent identity, the last PPS stamp, the transmit stamps, the
upper target seconds and late marks of the alarms (R102, R105) and the tick of the last pulse of PPS_OUT. -/
structure Mer where
  anchors : List Anchor
  lastStep : Option Nat
  step : Option Int
  rateT : Int
  rateE : Int
  slewE : Int
  rem : Int
  carry : Int
  cancel : Bool
  rateLo : Nat
  armSync : Bool
  armFreq : Bool
  armPps : Bool
  lostSync : Bool
  lostFreq : Bool
  lostPps : Bool
  lastSync : Option Nat
  lastPps : Option Nat
  parent : Nat
  pps : Nat
  txts : List TxStamp
  almHi : List Nat
  almLate : List Bool
  ppsOut : Option Nat
  deriving DecidableEq, Repr

/-- Meridian at reset (R77): 0 s, 0 ns, fraction 0. -/
def Mer.reset (frame : Nat) : Mer :=
  ⟨[⟨frame, 0, 3355443200, false, false⟩], none, none, 0, 0, 0, 0, 0, false, 0, false, false, false, false,
    false, false, none, none, 0, 0, [], [0, 0, 0, 0, 0, 0, 0, 0],
    [false, false, false, false, false, false, false, false], none⟩

/-- A triangulation sample (R49): the Wonan ticks at which its TRI_STAMP and its frame start arrived,
θ and F in units of 2^-8 fine bin, and the Tladon frame of its upward marker. -/
structure TriSample where
  stampAt : Nat
  startAt : Nat
  theta : Int
  f : Int
  frame : Int
  deriving DecidableEq, Repr

/-- Triangulation of a port (R48–R55, R289): the next marker number and the Wonan frame from which it may
be sent, markers whose stamp is awaited as (number, departure tick), stamps that wait for their frame
start as (arrival tick, departure tick, extended a in fine bins), the last frame starts as (arrival tick,
frame, b in fine bins), the samples of the partial average, the averages as (first Tladon frame,
extended; θ) newest first, whether the port restarts after VALID and AVERAGED were both 1 (R54), the
EPOCHs sent as (tick, J), and the tick of the last EPOCH_DONE. -/
structure Tri where
  mark : Nat
  markAt : Nat
  sent : List (Nat × Nat)
  stamps : List (Nat × Nat × Int)
  starts : List (Nat × Nat × Int)
  part : List TriSample
  avgs : List (Int × Int)
  grace : Bool
  epochs : List (Nat × Int)
  epochAt : Option Nat
  deriving DecidableEq, Repr

/-- Triangulation of a port after reset. -/
def Tri.reset : Tri := ⟨0, 0, [], [], [], [], [], false, [], none⟩

/-! ### Wonan: ingress lanes, ports and downlink queues (spec/08) -/

/-- The identity a LANE_ID carries (R251). -/
structure LaneIdent where
  serial : Nat
  bond : Nat
  pos : Nat
  copy : Nat
  deriving DecidableEq, Repr

/-- A lane beside its registers (R259, R262): CDR lock, consecutive blocks with rising numbers, the
last number, consecutive uncorrectable blocks, the last valid LANE_ID, whether one came since reset (R7), replays awaited as (number,
blocks received since), ticks of the uncorrectable blocks without a retry, and since when the lane is
DOWN or in HUNT. -/
structure Lane where
  cdr : Bool
  good : Nat
  num : Option Nat
  bad : Nat
  ident : Option LaneIdent
  seen : Bool
  wait : List (Nat × Nat)
  norep : List Nat
  lostAt : Nat
  deriving DecidableEq, Repr

/-- A lane after reset. -/
def Lane.reset : Lane := ⟨false, 0, none, 0, none, false, [], [], 0⟩

/-- A command that waits for a downlink (R271, R277). -/
structure DlCmd where
  op : Nat
  tag : Nat
  arg : Nat
  data : Nat
  deriving DecidableEq, Repr

/-- Who awaits a REG_DATA (R275, R291): 0 nobody, 1 the attach sequence, 2 a load, 3 a store, 4 the
dictionary, 16 + 32 × rd + n the load of agent n into register rd. -/
structure Access where
  tag : Nat
  addr : Nat
  kind : Nat
  due : Nat
  deriving DecidableEq, Repr

/-- A downlink transmitter (R277, R279): waiting commands of the first and third priority, whether a
CLAIM is due, the tick of the last CLAIM, the end of the command in progress, the next tag and the
accesses awaited. -/
structure Dlink where
  p1 : List DlCmd
  claimDue : Bool
  claimAt : Option Nat
  p3 : List DlCmd
  busy : Nat
  tag : Nat
  waits : List Access
  deriving DecidableEq, Repr

/-- A downlink transmitter after reset. -/
def Dlink.reset : Dlink := ⟨[], false, none, [], 0, 0, []⟩

/-- A port of ingress beside its registers (R286–R290, R62, R65): the lanes its Tladon bonds (0 while
none was attached), the step of R287 (0 none, 1 ID_CAP awaited, 2 ID_CAP read, 3 configured, 4 ACQUIRE
sent), the extended Tladon tick of its entry to ACQUIRING, the extended ticks of clock switches, the
extended ticks of holdover as (from, before), the Wonan ticks of the RELINKs sent (R420) and the
SLOT_SHIFT written (R45). -/
structure Port where
  group : Nat
  step : Nat
  entry : Option Int
  clksw : List Int
  holds : List (Int × Option Int)
  relink : Option Nat
  shift : Int
  deriving DecidableEq, Repr

/-- A port after reset. -/
def Port.reset : Port := ⟨0, 0, none, [], [], none, 0⟩
/-! ### Wonan: control cores and scheduler (spec/15) -/

/-- An item (R475–R490): task, kind, whether it was pre-empted, flow, base priority, class, argument,
current level, mtime at entry to the level and to a ready queue, time run before its last
pre-emption, mtime at its last claim, the releases whose flag it consumed as (slot, release in µs),
and the READY detail. -/
structure Item where
  task : Nat
  isFlag : Bool
  resume : Bool
  flow : Option Nat
  prio : Nat
  sys : Bool
  arg : Nat
  level : Nat
  entered : Nat
  born : Nat
  ran : Nat
  start : Nat
  rels : List (Nat × Nat)
  why : Nat
  deriving DecidableEq, Repr

/-- The scheduler's side of a core (R482–R486, R495): its reservation and whether it is a
pre-emption, its running item, the start of a non-pre-emptible span, and the sums of the 1 ms and 1 s
windows: busy time, waits and claims, with the mtime from which busy time is still to be added. -/
structure SchCore where
  res : Option Item
  preempt : Bool
  run : Option Item
  np : Option Nat
  busyMs : Nat
  busyS : Nat
  waitMs : Nat
  claimsMs : Nat
  waitS : Nat
  claimsS : Nat
  since : Nat
  deriving DecidableEq, Repr

/-- The scheduler's side of a core after reset. -/
def SchCore.reset : SchCore := ⟨none, false, none, none, 0, 0, 0, 0, 0, 0, 0⟩

/-- The scheduler beside its registers: on-chip and spilled items by level (R487), the cores, the
next release of each enabled periodic slot and the earliest release not yet consumed, in µs of mtime
(R491, R492), the trace entries by index (R497), the mtime of the last break of the standstill
conditions and whether STANDSTILL was raised since an item ran (R493). -/
structure Sch where
  chip : List (List Item)
  spill : List (List Item)
  cores : List SchCore
  perNext : SMap Nat
  perRel : SMap Nat
  trace : SMap (Nat × Nat)
  standBreak : Nat
  standDone : Bool
  deriving DecidableEq, Repr

/-- The scheduler after reset. -/
def Sch.reset : Sch :=
  ⟨List.replicate 16 [], List.replicate 16 [], List.replicate 4 SchCore.reset, [], [], [], 0, false⟩

/-- A control core (R470–R474, R518): the registers x0 to x31, the pc, control and status registers
that were written, user mode, whether the debug module halts it, the latched timer interrupt, and the
LR reservation as (word address, end in model ticks). -/
structure Core where
  x : List Nat
  pc : Nat
  csr : SMap Nat
  user : Bool
  halted : Bool
  mtip : Bool
  lr : Option (Nat × Nat)
  deriving DecidableEq, Repr

/-- A core after reset (R474). -/
def Core.reset : Core := ⟨List.replicate 32 0, 0, [], false, false, false, none⟩

/-! ### Wonan: packet queues (spec/10) -/

/-- A stored word with its tags (R337, R338). -/
structure QWord where
  data : Nat
  eop : Bool
  broken : Bool
  deriving DecidableEq, Repr

/-- A packet queue beside its registers (R339–R349): the words oldest first, how many of them are
committed, the words of the packet in progress that entered, whether a packet is in progress, whether
its further words are ignored, and the words a waiting producer still holds. -/
structure Queue where
  words : List QWord
  visible : Nat
  packet : Nat
  inPacket : Bool
  discard : Bool
  held : List QWord
  deriving DecidableEq, Repr

/-- An empty queue. -/
def Queue.empty : Queue := ⟨[], 0, 0, false, false, []⟩


/-! ### Wonan: the configuration image (spec/13) -/

/-- A TPORT section (R423): port, required ID_CAP, BOND n and the writes at attach. -/
structure TPort where
  port : Nat
  cap : Nat
  bond : Nat
  writes : List (Nat × Nat)
  deriving DecidableEq, Repr

/-- An entry of a TASK section (R423). -/
structure ImgTask where
  task : Nat
  core : Nat
  prio : Nat
  ceil : Nat
  t : Nat
  c : Nat
  d : Nat
  deriving DecidableEq, Repr

/-- A configuration image as the host wrote it, read into its sections (R422–R424): partitions as (code,
base, size) in units of 64 KiB and declarations as (identifier, index, value). -/
structure Image where
  variant : Nat
  gen : Nat
  len : Nat
  crc : Nat
  wreg : List (Nat × Nat)
  tports : List TPort
  parts : List (Nat × Nat × Nat)
  decl : List (Nat × Nat × Nat)
  tasks : List ImgTask
  deriving DecidableEq, Repr

/-! ### Wonan: the pair (spec/17) -/

/-- A received average of a port (R547): first Tladon frame (extended), θ, VALID and AVERAGED. -/
structure PairTheta where
  start : Int
  theta : Int
  valid : Bool
  averaged : Bool
  deriving DecidableEq, Repr

/-- An entry of the digest table (R562): sequence number, digest, whether it is the partner's, and the
tick at which it entered. -/
structure Digest where
  seq : Nat
  dig : Nat
  partner : Bool
  born : Nat
  deriving DecidableEq, Repr

/-- The pair agent beside its registers (R543–R562): messages sent, the MSEQ last received, whether the
tick count was aligned, the tick and the words of the partner's latest HEARTBEAT, the NEXT of its last
HEARTBEAT in RUNNING or DEGRADED, the tick of the own last HEARTBEAT, anchors received as (frame, time,
MERIDIAN_HOLDOVER, TIME_STEP), averages received by port, the digest table oldest first, the step of a
join (R560: 1 REQUEST sent, 2 AT received, 3 SEQ received), on the host the join slot not yet answered
by JOIN SEQ, and the image pair digest and walk CRC of the unit. -/
structure Pair where
  mseq : Nat
  rxSeq : Option Nat
  aligned : Bool
  hbAt : Option Nat
  hb : List Nat
  runNext : Option Nat
  sentAt : Option Nat
  anchors : List (Nat × Nat × Bool × Bool)
  thetas : SMap (List PairTheta)
  digs : List Digest
  join : Nat
  host : Option Nat
  imgDigest : Nat
  walkCrc : Nat
  deriving DecidableEq, Repr

/-- The pair agent after reset. -/
def Pair.reset : Pair := ⟨0, none, false, none, [], none, none, [], [], [], 0, none, 0, 0⟩

/-! ### Wonan: the Muster, triggers and primitives (spec/09, spec/13) -/

/-- A port's fragment of an event (R306–R316): its section flags at the bits of R315, accept number, words
as (Wonan time in units of 2^-8 fine bin, word as received), whether any word or head arrived, whether
it holds a descriptor of the Ledger, and 0 open, 1 closed, 2 missing. -/
structure Sec where
  port : Nat
  flags : Nat
  acc : Nat
  words : List (Int × Nat)
  arrived : Bool
  stored : Bool
  settled : Nat
  deriving DecidableEq, Repr

/-- An open event (R297, R320): its place in the order of commits, event number, slot, CLASS, T_ref, the
Wonan tick from which EVT_TMO runs, the model tick of its first decision (R550), the expected sources at
its opening, its fragments in port order, the ports that supplied a FRAG_HEAD, whether its window data is
complete (R324), and whether an own decision named it (R549). -/
structure Ev where
  key : Int
  num : Nat
  slot : Int
  cls : Nat
  tref : Nat
  due : Int
  first : Nat
  expect : Nat
  secs : List Sec
  sup : List Nat
  ready : Bool
  own : Bool
  deriving DecidableEq, Repr

/-- A fragment in progress on an uplink (R306, R230): its event, accept number, T_start, words so far and
their CRC, and whether words of it were lost with an RS block. -/
structure RxFrag where
  ev : Option Int
  acc : Nat
  ts : Nat
  count : Nat
  crc : Nat
  lost : Bool
  deriving DecidableEq, Repr

/-- What the Muster keeps of a port (R307, R308, R689), by uplink where a map: fragments in progress, frame
contexts, words of the frame; uplinks that lost words of the frame; STREAM_ENDs as (frame, uplinks
mask); section flags of the last frames; events that the port owes; last accept numbers by uplink; heads
not yet in accept order; and the next accept number. -/
structure PortRx where
  frag : SMap RxFrag
  cur : SMap Nat
  cnt : SMap Nat
  lost : List Nat
  ends : List (Nat × Nat)
  fflags : List (Nat × Nat)
  owed : List Int
  accs : SMap Nat
  heads : List (Nat × Option Int)
  nextAcc : Nat
  deriving DecidableEq, Repr

/-- What the Muster keeps of a port at entry to ACQUIRING. -/
def PortRx.reset : PortRx := ⟨[], [], [], [], [], [], [], [], [], 0⟩

/-- A candidate (R323, R324): its slot and whether its data is complete. -/
structure Cand where
  slot : Int
  complete : Bool
  deriving DecidableEq, Repr

/-- An accept on its way to the downlinks (R25, R301, R304): the cell in which it leaves, its source (0 TL0,
1 TL1, 2 self-trigger), slot and CLASS. -/
structure AccIn where
  cell : Nat
  src : Nat
  slot : Int
  cls : Nat
  deriving DecidableEq, Repr

/-- A word of the speculative stalls (R323–R325): its slot, extended leading-edge tick, Wonan time and the
word. -/
structure StallWord where
  slot : Int
  full : Int
  w : Int
  word : Nat
  deriving DecidableEq, Repr

/-- A port's contribution to a slot (R238, R419): the groups' counts, the sum of the sum fields, and the
tick at which it entered the combination. -/
structure Prim where
  port : Nat
  counts : List Nat
  sum : Nat
  ready : Nat
  deriving DecidableEq, Repr

/-- A captured slot (R417–R420): the contributions in time and the ports that were late. -/
structure PrimCap where
  prims : List Prim
  late : List Nat
  deriving DecidableEq, Repr

/-- The Muster beside its registers: the next event number (next slice in streaming), open events in commit
order, ports, accepts on their way, self-trigger firings as (slot, test passed), the first slot at which
the self-trigger may fire again, candidates, content tests awaited, the stalls by port, the slot of the
last commit, bytes used in the EVENT partition, storage held by committed records as (sequence number,
descriptors, bytes), the word index of the view, the windows of primitives by slot and the captured
slots. -/
structure Mus where
  nextEv : Nat
  evs : List Ev
  rx : SMap PortRx
  accs : List AccIn
  fired : List (Int × Bool)
  selfFrom : Option Int
  cands : List Cand
  stall : SMap (List StallWord)
  lastSlot : Option Int
  yard : Nat
  held : List (Nat × Nat × Nat)
  view : Nat
  prims : SMap (List Prim)
  caps : SMap PrimCap
  deriving DecidableEq, Repr

/-- The Muster after reset. -/
def Mus.reset : Mus := ⟨0, [], [], [], [], none, [], [], none, 0, [], 0, [], []⟩
/-! ### Wonan: compression (spec/11) -/

/-- A record in compression (R358, R365–R374): its context words, body words, whether a word was
delivered or read with an error, whether it was dispatched with PRECODE, the VERIFY_FAIL flag of its
stored form, and whether the engine goes FAULTY after it. -/
structure CmpJob where
  ctx0 : Nat
  ctx1 : Nat
  body : List Nat
  poison : Bool
  pre : Bool
  vfail : Bool
  lasting : Bool
  deriving DecidableEq, Repr

/-- An output area (R360, R363, R375): the context words, the payload's bytes, the engine (31 the former),
the POISONED, VERIFY_FAIL, STORED and UNVERIFIED flags and its Yard address in 16-byte units. -/
structure Area where
  ctx0 : Nat
  ctx1 : Nat
  payload : List Nat
  engine : Nat
  poison : Bool
  vfail : Bool
  stored : Bool
  unver : Bool
  addr : Nat
  deriving DecidableEq, Repr

/-- Compression beside its registers: records by engine, the former's, records to be dispatched again
(R373), completed records by engine that wait for the reorder table, the table (R362), released records,
and the body and payload bytes of the 1 ms and 1 s windows (R380). -/
structure Cmp where
  engs : SMap CmpJob
  former : Option CmpJob
  redo : List CmpJob
  waiting : List Area
  table : List Area
  areas : List Area
  inMs : Nat
  outMs : Nat
  inS : Nat
  outS : Nat
  deriving DecidableEq, Repr

/-- Compression after reset. -/
def Cmp.reset : Cmp := ⟨[], none, [], [], [], [], 0, 0, 0, 0⟩

/-! ### Wonan: egress (spec/12) -/

/-- A steered record (R390, R404): its number, area, port, destination entry, the frames that have not left
(empty where one never starts), whether it was re-steered and whether a word of it was bad. -/
structure Steered where
  seq : Nat
  area : Area
  port : Nat
  dest : Nat
  frames : List (List Nat)
  again : Bool
  broken : Bool
  deriving DecidableEq, Repr

/-- Egress beside its registers (R398–R404, R582): the steering set, O, the number after the highest steered
one, withdrawn records by number, records in port queues in order, the active steering table, the
pending ADD (with its port) or COMMIT with its boundary, since when each port is DOWN, and responses that
wait for a port. -/
structure Eth where
  active : List Nat
  origin : Nat
  front : Nat
  back : List Area
  sent : List Steered
  tab : List Nat
  pend : Option (Option Nat × Nat)
  down : SMap Nat
  resp : SMap (List (List Nat))
  deriving DecidableEq, Repr

/-- Egress after reset. -/
def Eth.reset : Eth := ⟨[], 0, 0, [], [], List.replicate 256 0, none, [], []⟩

/-! ### Wonan: protected memory (spec/14) -/

/-- An entry of the error log (R467). -/
structure MemErr where
  mem : Nat
  cls : Nat
  outcome : Nat
  source : Nat
  channel : Nat
  syndrome : Nat
  index : Nat
  time : Nat
  deriving DecidableEq, Repr

/-- A Farrier entry (R457): in force, spare and row. -/
structure FarEntry where
  valid : Bool
  spare : Nat
  row : Nat
  deriving DecidableEq, Repr

/-- Memory protection beside its registers: the wrong stored bits of words by memory and index, data bits
first, then check bits (R440, R443); Groom's cursors and the memories whose cursor wrapped in this pass,
with its start (R453, R454); the confirm list oldest first as (memory, index) (R445); the log; the Farrier
entries and unusable spares by memory, group and number (R457, R459). -/
structure Mems where
  flips : SMap Nat
  cursors : List Nat
  wrapped : List Nat
  passAt : Nat
  confirm : List (Nat × Nat)
  log : List MemErr
  far : SMap FarEntry
  bad : List Nat
  deriving DecidableEq, Repr

/-- Memory protection after power-on. -/
def Mems.reset : Mems := ⟨[], [0, 0, 0, 0, 0, 0], [], 0, [], [], [], []⟩

/-! ### Wonan: the field network and the dictionary (spec/18) -/

/-- A USDO session that waits for its next segment (R573, R574): client, whether it uploads, object, the
bytes received or still to send, and the tick of the last segment. -/
structure Usdo where
  client : Nat
  up : Bool
  index : Nat
  sub : Nat
  data : List Nat
  since : Nat
  deriving DecidableEq, Repr

/-- Who asked the dictionary (R585): a CAN node-ID, or in band the port, the request frame and its kept
key (source address and UDP port, UDP payload, R583). -/
inductive Client where
  | can (node : Nat)
  | inband (port : Nat) (frame : List Nat) (addr : List Nat) (udp : Nat) (payload : List Nat)
  deriving DecidableEq, Repr

/-- A dictionary access to a Tladon that awaits its REG_DATA (R593): the client, whether it writes, and
object. -/
structure DictWait where
  client : Client
  write : Bool
  index : Nat
  sub : Nat
  port : Nat
  tag : Nat
  deriving DecidableEq, Repr

/-- A kept response (R583): the client's address and UDP port, the request's payload and the response. -/
structure Kept where
  addr : List Nat
  udp : Nat
  request : List Nat
  response : List Nat
  deriving DecidableEq, Repr

/-- The CAN controller and the dictionary agent beside their registers: NODE_ID and CAN_NBT, CAN_DBT, CAN_TDC in
force (R572), written
communication-profile and offset objects by 256 × index + sub, the EMCYs that wait and the tick of the
last, whether a reported condition holds (R579), heartbeats and TPDOs last sent, SYNC counts, USDO
sessions, the access that awaits a Tladon, kept responses oldest first, the owner of the image domain with
its last write (R595), and a warm reset to make after the response (R656). -/
structure Can where
  node : Nat
  timing : List Nat
  objs : SMap Nat
  emcys : List Nat
  emcyAt : Option Nat
  alarm : Bool
  hbAt : Nat
  tpdoAt : SMap Nat
  syncs : SMap Nat
  rpdos : SMap (List Nat)
  sessions : List Usdo
  wait : Option DictWait
  kept : List Kept
  owner : Option (Client × Nat)
  warm : Bool
  deriving DecidableEq, Repr

/-- The field network after reset; the straps CANID0–CANID6 give NODE_ID. -/
def Can.reset (node : Nat) : Can := ⟨node, [0x017F2020, 0x011F0808, 0x80000018], [], [], none, false, 0, [], [], [], [], none, [], none, false⟩

/-! ### Wonan: pace, shedding, images, start-up (spec/13, spec/20) -/

/-- The pace governor and shedding beside their registers (R415, R416, R432–R435): whether SELF_TEST has
ended, samples without decision, the run at target + HYST, the runs for PACE and BACKLOG, the unit's own
step, whether a cause was present, the tick of the last step or reappearance, since when no cause is
present (or the last withdrawal), and the phase of the hold cycle with its start. -/
structure Gov where
  live : Bool
  pause : Nat
  good : Nat
  paceRun : Nat
  fillRun : Nat
  step : Nat
  cause : Bool
  since : Nat
  quiet : Option Nat
  cycle : Option (Bool × Nat)
  deriving DecidableEq, Repr

/-- Pace and shedding after reset. -/
def Gov.reset : Gov := ⟨false, 0, 0, 0, 0, 0, false, 0, none, none⟩

/-- A reset in progress (R637–R640): of power-on kind, its cause, when its source came, whether Wonan was
reset, and when that was. -/
structure Rst where
  power : Bool
  cause : Nat
  since : Nat
  done : Bool
  deriving DecidableEq, Repr

/-- The system agent beside its registers: the reset in progress and whether the last one was warm; the next
step of SELF_TEST (R640: 0 not begun, 1 waiting for XO_IN, 2 complete but for its end); the boot ROM (R644:
0 the cores in reset, 1 choosing firmware, 2 done); the SPI NOR flash by address, an unlisted byte erased
(R642); whether the NOR copy was read or written; a selection or check in progress (0 none, 1 copying from
NOR, 2 checking) with its source; the bytes of the image in use; a STORE in progress; whether firmware was
entered (R649); the tick of entry to RUNNING or DEGRADED (R651); the watchdog's count and running segment and
whether it has expired; the fatal timer's count and running segment. -/
structure Sys where
  rst : Option Rst
  warmBoot : Bool
  test : Nat
  boot : Nat
  nor : List Host.Cell
  norKnown : Bool
  busy : Nat
  src : Nat
  raw : List Nat
  store : Option Nat
  fw : Bool
  runAt : Option Nat
  wdCnt : Nat
  wdSeg : Option Nat
  wdOnce : Bool
  ftCnt : Nat
  ftSeg : Option Nat
  deriving DecidableEq, Repr

/-- The system agent after reset with power good. -/
def Sys.reset : Sys :=
  ⟨none, false, 1, 0, [], false, 0, 0, [], none, false, none, 0, none, false, 0, none⟩

/-- The power stage (R622–R631): its lockouts; VINT in regulation; the rails that are on, in the order of
R626; the tick from which the next rail waits or at which the last became good; PG; the ticks of faults
within a second; the tick of a shutdown by a fault; whether it was over-temperature; latched off. -/
structure Pwr where
  uvlo : Bool
  ovlo : Bool
  vint : Bool
  rails : Nat
  goodAt : Nat
  pg : Bool
  faults : List Nat
  offAt : Option Nat
  hot : Bool
  latched : Bool
  deriving DecidableEq, Repr

/-- The power stage once PG is released. -/
def Pwr.reset : Pwr := ⟨false, false, true, 4, 0, true, [], none, false, false⟩

/-! ### Wonan: mailboxes, DMA turn, UART and debug (spec/15, spec/16) -/

/-- Mailboxes, locks and the console UART beside their registers (R499, R501, R506, R511, R532–R536): the
agents that wrote data words of each mailbox since its last ACK; the mtime at which each held lock lapses;
the DMA channel served last; the receive FIFO oldest first, each as the low half of UART_RX; whether a
character is being received; the transmit FIFO and the end of the character that leaves. -/
structure Mbx where
  writers : SMap (List Nat)
  leases : SMap Nat
  dmaLast : Nat
  uartRx : List Nat
  uartIn : Bool
  uartTx : List Nat
  uartEnd : Option Nat
  deriving DecidableEq, Repr

/-- Mailboxes, DMA and UART after reset. -/
def Mbx.reset : Mbx := ⟨[], [], 15, [], false, [], none⟩

/-! ### Wonan: environment (spec/19) -/

/-- A conversion in progress (R601–R605): its channel, its end in model ticks, and the flags it carries so
far, at the bits of ENV_CHn_RES less 24. -/
structure EnvConv where
  ch : Nat
  due : Nat
  flags : Nat
  deriving DecidableEq, Repr

/-- The environment block beside its registers: the conversion in progress and the channels that follow, the
microsecond of the last start of a sweep, when the timer starts the next one (R604), when the reference was
enabled (R603), by channel the full tick count at the end of its last conversion (R605), the step of a range
change (1 down, 2 up, R607), clamps engaged and the time of the last release (R610), and the time of the last
kick (R616). -/
structure Env where
  conv : Option EnvConv
  todo : List Nat
  startUs : Option Nat
  timerAt : Option Nat
  refAt : Option Nat
  ended : SMap Nat
  ramp : SMap Nat
  clamped : List Nat
  clampRel : SMap Nat
  kickAt : Option Nat
  deriving DecidableEq, Repr

/-- The environment block after reset. -/
def Env.reset : Env := ⟨none, [], none, none, none, [], [], [], [], none⟩
/-! ### Debug (spec/16 R518–R522, spec/22 R678, R679) -/

/-- The debug module: dmactive, hartsel, harts to halt when they leave reset, cmderr, data0, the program
buffer, sbcs (its access bits as written), sberror, sbaddress0 and sbdata0. -/
structure Dbg where
  active : Bool
  hartsel : Nat
  resetHalt : List Nat
  cmderr : Nat
  data0 : Nat
  progbuf : List Nat
  sbcs : Nat
  sberror : Nat
  sbaddr : Nat
  sbdata : Nat
  deriving DecidableEq, Repr

/-- The debug module after power-on. -/
def Dbg.reset : Dbg := ⟨false, 0, [], 0, 0, [0, 0], 0x20040000, 0, 0, 0⟩

/-- A TAP (R678, R679): the instruction, what the selected data register captured, and the boundary cells'
outputs. -/
structure Tap where
  ir : Nat
  dr : Nat
  cells : Nat
  deriving DecidableEq, Repr

/-- A TAP in Test-Logic-Reset: IDCODE is selected. -/
def Tap.reset : Tap := ⟨1, 0, 0⟩
/-! ### The whole state -/

/-- What leaves the chips' pins and links, in order (log entry 5). -/
inductive Out where
  /-- a 66-bit block of uplink `k` of the Tladon of a port: header and body (R248) -/
  | upBlock (port k hdr : Nat) (body : Word64)
  /-- an RS block sent again on an uplink (R258) -/
  | upReplay (port k num : Nat)
  /-- a primitive window: its header byte and its words (R253) -/
  | window (port k slot ph : Nat) (words : List Word64)
  /-- a word that a consumer takes from a packet queue, with EOP, BROKEN and POISON (R337) -/
  | word (n data : Nat) (eop broken poison : Bool)
  /-- a message on the pair link: its header word and payload words (R553) -/
  | pl (words : List Nat)
  /-- an edge of PPS_OUT: the pulse begins (R90) -/
  | pps
  /-- a downward marker with its number on DLx (R48) -/
  | dlMark (x num : Nat)
  /-- a command begins on DLx (R271, R277) -/
  | dlCmd (x op tag arg data : Nat)
  /-- a PO cell of R418, before scrambling -/
  | po (n cell : Nat)
  /-- the answer to a load or store through the proxy window of a port: an access fault, or the data
  (R291) -/
  | proxy (port addr : Nat) (data : Option Nat)
  /-- an Ethernet frame leaves port `k`: its bytes without the FCS (R394, R582) -/
  | frame (k : Nat) (bytes : List Nat)
  /-- a frame on CAN_TX: identifier and payload (R573, R579) -/
  | can (id : Nat) (data : List Nat)
  /-- the response to a USDO request of a node, for an object: its data, or its abort code (R573, R587; the
  frames are those of CiA 1301) -/
  | usdo (node index sub : Nat) (data : List Nat) (abort : Option Nat)
  /-- a trigger accept of a slot on DLx (R301) -/
  | dlAccept (x slot : Nat)
  /-- a character on UART_TX: its line levels from the start bit to the last stop bit (R532) -/
  | uart (levels : List Bool)
  /-- what an agent's load returns: the value, or the code of its fault (R658, R659: mcause for a core,
  sberror for the debug agent) -/
  | load (agent addr value : Nat) (fault : Option Nat)
  /-- the fault of an agent's store -/
  | storeFault (agent addr code : Nat)
  /-- reset: every output stops (R639) -/
  | stop
  deriving DecidableEq, Repr

/-- The state of the chipset. `held` is what companion registers keep from the last read that latched them,
by address (R519). -/
structure State where
  pending : List Instr
  freeCnt : Nat
  now : Nat
  out : List Out
  wr : RegFile
  tl : SMap Tladon
  variant : Nat
  wclk : Nat
  mtime0 : Nat
  mem : List Host.Cell
  mer : Mer
  tri : SMap Tri
  lanes : SMap Lane
  ports : SMap Port
  dlinks : SMap Dlink
  sch : Sch
  cores : List Core
  queues : SMap Queue
  image : Option Image
  pair : Pair
  mus : Mus
  cmp : Cmp
  eth : Eth
  mems : Mems
  canid : Nat
  can : Can
  gov : Gov
  sys : Sys
  mbx : Mbx
  env : Env
  pwr : Pwr
  dbg : Dbg
  taps : SMap Tap
  held : SMap Nat
  deriving DecidableEq, Repr

/-- No command of the table stops the block: the spec gives every one an effect or says that it is
ignored. -/
inductive Fault where
  deriving DecidableEq, Repr

/-- Why a command is not run. -/
inductive Refusal where
  /-- the command has no meaning in this model yet (safe) -/
  | notModelled (mnemonic : String)
  deriving DecidableEq, Repr

/-- What running a command answers. -/
abbrev Res := Host.Outcome State Fault Refusal

/-- The state after reset: every register at its reset value (R17), nothing waiting, no time passed. -/
def State.reset : State :=
  { pending := [], freeCnt := 0, now := 0, out := [], wr := [], tl := []
    variant := 1, wclk := 0, mtime0 := 0, mem := [], mer := Mer.reset 0, tri := [], lanes := []
    ports := [], dlinks := [], sch := Sch.reset, cores := List.replicate 4 Core.reset
    queues := [], image := none, pair := Pair.reset, mus := Mus.reset, cmp := Cmp.reset, eth := Eth.reset
    mems := Mems.reset, canid := 0, can := Can.reset 0, gov := Gov.reset, sys := Sys.reset, mbx := Mbx.reset, env := Env.reset
    pwr := Pwr.reset, dbg := Dbg.reset, taps := [], held := [] }

end Sys2Proof.Machine
end

