-- ==== Sys2Proof/Machine/TlOps.lean ====
section
/-! DEFINITION. Operations over one Tladon that several commands share: its registers, its tick
counter, its uplinks and its changes of state. Every time is a model tick unless it is called a
tick count. -/

namespace Sys2Proof.Machine

open Sys2Proof

namespace Tladon

/-- The value of a register field. -/
def get (f : Fld) (t : Tladon) : Nat := t.regs.get f

/-- Whether a register field is not zero. -/
def on (f : Fld) (t : Tladon) : Bool := t.regs.on f

/-- Store a register field. -/
def set (f : Fld) (v : Nat) (t : Tladon) : Tladon := { t with regs := t.regs.set f v }

/-- Store several register fields. -/
def sets (l : List (Fld × Nat)) (t : Tladon) : Tladon := { t with regs := t.regs.sets l }

/-- Count in a saturating field. -/
def add (f : Fld) (n : Nat) (t : Tladon) : Tladon := { t with regs := t.regs.add f n }

/-- Count in a field that wraps. -/
def addMod (f : Fld) (n : Nat) (t : Tladon) : Tladon := { t with regs := t.regs.addMod f n }

/-- Tladon's state (R283): 0 POWERED, 1 LISTENING, 2 CONFIGURED, 3 ACQUIRING, 4 QUIET. -/
def state (t : Tladon) : Nat := t.get TR.ID_STATE_STATE

/-- The PLL is locked. -/
def locked (t : Tladon) : Bool := t.on TR.TIME_STATUS_PLL_LOCK

/-- The tick counter (R39, R40), 42 bits. -/
def count (now : Nat) (t : Tladon) : Nat := (now + t.clk) % 2 ^ 42

/-- The signed distance of two tick counts, in −2^41 .. 2^41 − 1. -/
def dist (a b : Nat) : Int := signed 42 ((a + (2 ^ 42 - b % 2 ^ 42)) % 2 ^ 42)

/-- SLOT_SHIFT, limited to −16 .. 16 ticks (R45, TIME_CTRL). -/
def slotShift (t : Tladon) : Int := max (-16) (min 16 (signed 6 (t.get TR.TIME_CTRL_SLOT_SHIFT)))

/-- The bunch slot of a tick count (R45, R211). -/
def slotOf (t : Tladon) (tick : Nat) : Nat := unsigned 42 ((tick : Int) + t.slotShift) / 32

/-- The tick count of the first tick of a slot (R211). -/
def slotTick (t : Tladon) (s : Nat) : Nat := unsigned 42 (32 * (s : Int) - t.slotShift)

/-- Mirror mode (R265). -/
def mirror (t : Tladon) : Bool := t.on TR.LINK_CFG_MIRROR

/-- The number of bonded lanes of one copy (LINK_CFG, R265). -/
def lanes (t : Tladon) : Nat :=
  if t.mirror then 2 else match t.get TR.LINK_CFG_BOND with
    | 0 => 1
    | 1 => 2
    | _ => 4

/-- The uplinks that carry what uplink `k` of copy 0 carries (R255, R265). -/
def copies (t : Tladon) (k : Nat) : List Nat := if t.mirror then [k, k + 2] else [k]

/-- Every uplink in use: 0 to n − 1, and 2–3 in mirror mode (R23). -/
def active (t : Tladon) : List Nat := if t.mirror then [0, 1, 2, 3] else List.range t.lanes

/-- A STATE QUIET waits for its power-down (R284). -/
def quieting (t : Tladon) : Bool := t.state == 4 && t.sched.isSome

/-- The uplinks run: LISTENING, CONFIGURED or ACQUIRING with the PLL locked, and QUIET until its
power-down (R244, R283, R284). -/
def upOn (t : Tladon) : Bool :=
  t.locked && (t.state == 1 || t.state == 2 || t.state == 3 || t.quieting)

/-- Change uplink `k`. -/
def modUp (k : Nat) (f : Uplink → Uplink) (t : Tladon) : Tladon :=
  { t with ups := t.ups.mapIdx fun i u => if i = k then f u else u }

/-- Change downlink 0 (A) or 1 (B). -/
def modDl (dl : Bool) (f : Downlink → Downlink) (t : Tladon) : Tladon :=
  { t with dls := t.dls.mapIdx fun i d => if i = b2n dl then f d else d }

/-- Downlink A (false) or B (true). -/
def dl (dl : Bool) (t : Tladon) : Downlink := t.dls.getD (b2n dl) Downlink.idle

/-- Uplink `k`. -/
def up (k : Nat) (t : Tladon) : Uplink := t.ups.getD k Uplink.start

/-- Append a word to the class queue (1, 2 or 3, R256) of uplink `k`. -/
def enqueue (cls : Nat) (i : UpItem) (k : Nat) (t : Tladon) : Tladon :=
  t.modUp k fun u => match cls with
    | 1 => { u with c1 := u.c1 ++ [i] }
    | 2 => { u with c2 := u.c2 ++ [i] }
    | _ => { u with c3 := u.c3 ++ [i] }

/-- Send a word on the given uplinks while the uplinks run (R255, R256). -/
def sendOn (cls : Nat) (i : UpItem) (ks : List Nat) (t : Tladon) : Tladon :=
  if t.upOn then ks.foldl (fun t k => t.enqueue cls i k) t else t

/-- Send a word on the lowest uplink of each copy. -/
def sendLow (cls : Nat) (w : Word64) (t : Tladon) : Tladon := t.sendOn cls ⟨w, none⟩ (t.copies 0)

/-- Send a class 1 word on every bonded uplink (R255). -/
def sendAll (w : Word64) (t : Tladon) : Tladon := t.sendOn 1 ⟨w, none⟩ t.active

/-- A type 11 control word: code in [61:56] and the fields of [55:0] (R66). -/
def control (code : Nat) (fields : List (Nat × Nat × Nat)) : Word64 :=
  word64 ((63, 62, 3) :: (61, 56, code) :: fields)

/-- The STATE word (R276). -/
def stateWord (now new old cause : Nat) (t : Tladon) : Word64 :=
  control 0x22 [(55, 53, new), (52, 50, old), (49, 42, cause), (41, 0, t.count now)]

/-- A channel's data. -/
def chan (c : Nat) (t : Tladon) : Chan := SMap.getD Chan.idle c t.chans

/-- Change a channel. -/
def modChan (c : Nat) (f : Chan → Chan) (t : Tladon) : Tladon :=
  { t with chans := SMap.modify Chan.idle c f t.chans }

/-- A sampler. -/
def samp (g : Nat) (t : Tladon) : Sampler := SMap.getD Sampler.off g t.samps

/-- Change a sampler, and keep its state visible in SAMP_g_STATE. -/
def modSamp (g : Nat) (f : Sampler → Sampler) (t : Tladon) : Tladon :=
  let s := f (t.samp g)
  { t with samps := SMap.insert g s t.samps, regs := t.regs.set (TR.SAMPG_STATE_STATE g) s.st }

/-- Mark the running captures for which `f` says so (R195). -/
def markCaptures (f : Capture → Capture) (t : Tladon) : Tladon :=
  { t with samps := t.samps.map fun p =>
      (p.1, if p.2.st = 4 then { p.2 with cap := p.2.cap.map f } else p.2) }

/-- Abort an open survey gate or a scheduled one with a cause (R158): VALID reads 0. -/
def abortGate (cause : Nat) (t : Tladon) : Tladon :=
  match t.gate with
  | none => t
  | some _ => { t with gate := none }.sets
      [(TR.SURVEY_STATUS_ABORT, cause), (TR.SURVEY_STATUS_VALID, 0),
        (TR.SURVEY_STATUS_BUSY, b2n (!t.computing.isEmpty))]

/-- What leaving ACQUIRING discards (R227): the accept queue, the Paddock and any fragment in
progress; the channels' edges and queued words with them (R125). -/
def discard (t : Tladon) : Tladon :=
  { t with
    pad := Paddock.empty
    ups := t.ups.map fun u => { u with c2 := [] }
    chans := t.chans.map fun p => (p.1, { p.2 with edge := none, done := [], q := [] })
    ints := [] }

/-- What leaving CONFIGURED and ACQUIRING both does to samplers, survey and sweeps (R184, R158,
R203). -/
def quiesce (t : Tladon) : Tladon :=
  let t := t.abortGate 2
  let t := { t with arm := none, sweep := none }.set TR.MON_STATUS_BUSY 0
  (List.range 8).foldl (fun t g =>
    if (t.samp g).st = 0 then t
    else t.modSamp g fun s => { s with st := 1, trig := none, cap := none, disarm := false }) t

/-- A change of state (R276, R283–R285): the STATE word is sent, then the state and its cause are
recorded; leaving ACQUIRING discards by R227 and entering it starts empty. -/
def changeState (now new cause : Nat) (t : Tladon) : Tladon :=
  let old := t.state
  let t := t.sendLow 1 (t.stateWord now new old cause)
  let t := if old = 3 ∧ new ≠ 3 then t.discard else t
  let t := if (old = 2 ∨ old = 3) ∧ new ≠ 2 ∧ new ≠ 3 then t.quiesce else t
  let t := { t with sched := none }.sets [(TR.ID_STATE_STATE, new), (TR.ID_STATE_CAUSE, cause)]
  if new = 3 then
    { t with pad := { Paddock.empty with entry := now } }.sets [(TR.PAD_ACC_CNT_ACCEPTS, 0)]
  else t

/-- The mask of bonded uplinks (R23). -/
def upMask (t : Tladon) : Nat := (t.active.map fun k => 2 ^ k).sum

/-- Power the uplinks the state and the PLL call for (LINK_STATUS.UP_ACTIVE). -/
def showUps (t : Tladon) : Tladon := t.set TR.LINK_STATUS_UP_ACTIVE (if t.upOn then t.upMask else 0)

/-- The frame number of the tick counter. -/
def frame (now : Nat) (t : Tladon) : Nat := t.count now / 65536

end Tladon

/-- The Tladon on a port; a port where nothing has happened holds one after its reset. -/
def State.tladon (p : Nat) (s : State) : Tladon := SMap.getD Tladon.reset p s.tl

/-- Change the Tladon on a port. -/
def State.modTl (p : Nat) (f : Tladon → Tladon) (s : State) : State :=
  { s with tl := SMap.insert p (f (s.tladon p)) s.tl }

/-- Something leaves a pin or a link. -/
def State.emit (o : Out) (s : State) : State := { s with out := s.out ++ [o] }

end Sys2Proof.Machine
end

