-- ==== Sys2Proof/Machine/TlTime.lean ====
section
/-! DEFINITION. Tladon's clock: PLL lock, the epoch command, clock switch and holdover (spec/02
R36–R45, R61–R66; spec/08 R281, R282). -/

namespace Sys2Proof.Machine

open Sys2Proof

namespace Tladon

/-- The downlink that R281 decides from the valid claims: the higher claim, A on a tie. -/
def claimed (t : Tladon) : Option Bool :=
  match t.on TR.LINK_STATUS_CLAIM_A, t.on TR.LINK_STATUS_CLAIM_B with
  | true, true => some (t.get TR.LINK_CLAIM_A_CLAIM < t.get TR.LINK_CLAIM_B_CLAIM)
  | true, false => some false
  | false, true => some true
  | false, false => none

/-- Both claims are valid and equal (R281). -/
def tie (t : Tladon) : Bool :=
  t.on TR.LINK_STATUS_CLAIM_A && t.on TR.LINK_STATUS_CLAIM_B
    && t.get TR.LINK_CLAIM_A_CLAIM == t.get TR.LINK_CLAIM_B_CLAIM

/-- A tie sets the sticky flag (R281). -/
def markTie (t : Tladon) : Tladon := if t.tie then t.set TR.LINK_STATUS_CLAIM_TIE 1 else t

/-- The sampler reference buffer is ready at a tick (R181). -/
def refReady (now : Nat) (t : Tladon) : Bool :=
  t.locked && match t.refAt with
    | some d => decide (d ≤ now)
    | none => false

/-- The PLL no longer counts as locked (R41, R64): a pending epoch is dropped, the uplinks go off
and the sampler reference is not ready. -/
def unlock (t : Tladon) : Tladon :=
  { t with epoch := none, holdAt := none }.sets
    [(TR.TIME_STATUS_PLL_LOCK, 0), (TR.TIME_STATUS_HOLDOVER, 0), (TR.LINK_STATUS_UP_ACTIVE, 0),
      (TR.SAMP_REF_READY, 0)]

/-- PLL lock (R40, R244, R247): the counter restarts from zero and the uplinks start afresh. -/
def lock (now : Nat) (d : Bool) (t : Tladon) : Tladon :=
  let t : Tladon := { t with
    clk := (2 ^ 42 - now % 2 ^ 42) % 2 ^ 42
    epoch := none
    holdAt := none
    ups := List.replicate 4 { Uplink.start with head := some 0 } }
  let t := t.sets
    [(TR.TIME_STATUS_PLL_LOCK, 1), (TR.TIME_STATUS_CDR_LOCK, 1), (TR.TIME_STATUS_SRC, b2n d),
      (TR.TIME_STATUS_EPOCH_COUNT, 0), (TR.TIME_STATUS_HOLDOVER, 0)]
  (t.set TR.SAMP_REF_READY (b2n (t.refReady now))).showUps

/-- A CLKSW word (R66). -/
def clkswWord (now phase : Nat) (new : Bool) (t : Tladon) : Word64 :=
  control 0x09 [(55, 55, b2n new), (54, 39, t.count now % 65536), (38, 23, phase)]

/-- A HOLD word (R66). -/
def holdWord (now : Nat) (start : Bool) (t : Tladon) : Word64 :=
  control 0x0A [(55, 55, b2n start), (54, 39, t.count now % 65536)]

/-- A clock switch to a downlink with a measured phase step (R61, R62, R158, R195). -/
def clockSwitch (now phase : Nat) (new : Bool) (t : Tladon) : Tladon :=
  let t := t.sendAll (t.clkswWord now phase new)
  let t := t.sets [(TR.TIME_STATUS_CLKSW, 1), (TR.TIME_STATUS_SRC, b2n new),
    (TR.TIME_CLKSW_SW_TICK, t.count now % 65536), (TR.TIME_CLKSW_SW_PHASE, phase)]
  let t : Tladon := { t with gate := t.gate.map fun g => { g with clksw := true } }
  t.markCaptures fun c => { c with clksw := true }

/-- Holdover begins or ends: the flag of an open gate and of running captures (R158, R195). -/
def markHoldover (t : Tladon) : Tladon :=
  let t : Tladon := { t with gate := t.gate.map fun g => { g with holdover := true } }
  t.markCaptures fun c => { c with holdover := true }

/-- Entry to holdover (R63). -/
def enterHoldover (now : Nat) (t : Tladon) : Tladon :=
  let t := t.sendAll (t.holdWord now true)
  ({ t with holdAt := some now }.sets [(TR.TIME_STATUS_HOLDOVER, 1),
    (TR.TIME_STATUS_CDR_LOCK, 0)]).markHoldover

/-- Exit from holdover to a downlink (R64): a clock switch only when it is not the one followed. -/
def leaveHoldover (now phase : Nat) (new : Bool) (t : Tladon) : Tladon :=
  let t := t.sendAll (t.holdWord now false)
  let t := ({ t with holdAt := none }.sets [(TR.TIME_STATUS_HOLDOVER, 0),
    (TR.TIME_STATUS_CDR_LOCK, 1)]).markHoldover
  if t.get TR.TIME_STATUS_SRC = b2n new then t else t.clockSwitch now phase new

/-- Discard the command in progress of a downlink and count it (R282). -/
def abandon (d : Bool) (t : Tladon) : Tladon :=
  match (t.dl d).cmd with
  | none => t
  | some _ => (t.modDl d fun x => { x with cmd := none }).add TR.LINK_CMD_CNT_ABANDONED 1

/-- The clock follows a change of the obeyed downlink (R282). -/
def followClock (now phase : Nat) (old new : Option Bool) (t : Tladon) : Tladon :=
  if t.locked then match old, new with
    | some _, some b => t.clockSwitch now phase b
    | some _, none => t.enterHoldover now
    | none, some b => if t.holdAt.isSome then t.leaveHoldover now phase b else t
    | none, none => t
  else t

/-- The obeyed downlink becomes what R281 decides (R282). -/
def obeyChange (now phase : Nat) (t : Tladon) : Tladon :=
  let t := t.markTie
  let new := t.claimed
  if new = t.obeyed then t
  else
    let old := t.obeyed
    let t := match old with
      | some d => t.abandon d
      | none => t
    let t : Tladon := { t with obeyed := new }.sets
      [(TR.LINK_STATUS_OBEY_SWITCH, 1), (TR.LINK_STATUS_NONE, b2n new.isNone),
        (TR.LINK_STATUS_OBEYED, b2n (new == some true))]
    t.followClock now phase old new

/-- An EPOCH obeyed or ignored by R42: the pending jump is due 64 Datum cycles after its marker. -/
def epochCmd (marker j : Nat) (t : Tladon) : Tladon :=
  if t.state = 2 ∧ j % 32 = 0 then { t with epoch := some (j % 2 ^ 42, marker + 2048) }
  else t.set TR.TIME_STATUS_EPOCH_REFUSED 1

/-- The pending epoch takes effect at its Datum edge (R41, R43, R158, R195, R688). -/
def epochEffect (now : Nat) (t : Tladon) : Tladon :=
  match t.epoch with
  | none => t
  | some (j, due) =>
    if due ≤ now then
      let before := t.count due
      let t : Tladon := { t with epoch := none, clk := (t.clk + j) % 2 ^ 42 }
      let t := (t.addMod TR.TIME_STATUS_EPOCH_COUNT 1).sets
        [(TR.TIME_EPOCH_J_LO_J_LO, j), (TR.TIME_EPOCH_J_HI_J_HI, j / 2 ^ 32)]
      let t := t.sendAll (control 0x0B [(55, 14, before)])
      let g := t.count due / 65536
      let t := if g = before / 65536 then t
        else { t with ups := t.ups.map fun u => { u with head := some g } }
      (t.abortGate 1).markCaptures fun c => { c with epoch := true }
    else t

/-- The holdover limit in ticks (R64). -/
def holdLimit (t : Tladon) : Nat := max 1 (t.get TR.TIME_CTRL_HOLD_MAX) * 65536

/-- Holdover has lasted beyond its limit (R64). -/
def holdExit (now : Nat) (t : Tladon) : Tladon :=
  match t.holdAt with
  | none => t
  | some h =>
    if h + t.holdLimit < now then
      let t := t.set TR.TIME_STATUS_HOLD_EXIT 1
      let t := if t.state = 2 ∨ t.state = 3 then t.changeState now 1 4 else t
      t.unlock
    else t

end Tladon

/-- TLADON_PLL_LOCK (R36, R40, R282): a powered Tladon whose PLL is not locked locks to the obeyed
downlink while its CDR is locked. -/
def execTladonPllLock (port : Nat) (s : State) : Res :=
  .next <| s.modTl port fun t =>
    match t.obeyed with
    | some d => if t.powered && !t.locked && (t.dl d).cdr then t.lock s.now d else t
    | none => t

/-- TLADON_PLL_LOCK_LOST (R41). -/
def execTladonPllLockLost (port : Nat) (s : State) : Res :=
  .next <| s.modTl port fun t =>
    if t.locked then (t.set TR.TIME_STATUS_LOCK_LOST 1).unlock else t

/-- EPOCH_TAKE_EFFECT (R41, R43). -/
def execEpochTakeEffect (port : Nat) (s : State) : Res :=
  .next <| s.modTl port (Tladon.epochEffect s.now)

/-- HOLDOVER_LIMIT (R64). -/
def execHoldoverLimit (port : Nat) (s : State) : Res :=
  .next <| s.modTl port (Tladon.holdExit s.now)

/-- OBEY_CHANGE (R281, R282): `phase` is the measured phase step of a switch, signed, 16 bits. -/
def execObeyChange (port phase : Nat) (s : State) : Res :=
  .next <| s.modTl port (Tladon.obeyChange s.now phase)

end Sys2Proof.Machine
end

