-- ==== Sys2Proof/Machine/TlSurvey.lean ====
section
/-! DEFINITION. The survey unit and code-density calibration (spec/05). -/

namespace Sys2Proof.Machine

open Sys2Proof

namespace Tladon

/-! ### Bin tables -/

/-- The bin table of an interpolator applied to a raw code (R119): the active table of the epoch, the
retired one for an earlier epoch, the factory table where none was built (R170). -/
def fineBin (interp raw epoch : Nat) (t : Tladon) : Nat :=
  let look (m : SMap (List Nat)) : Nat := match SMap.find interp m with
    | some tab => tab.getD raw 0
    | none => Config.factoryBin (t.get TR.ID_SERIAL_SERIAL) interp raw % 256
  if epoch = t.get TR.CAL_STATUS_EPOCH then look t.cal.active else look t.cal.retired

/-- The fine bin in the current epoch. -/
def fineNow (interp raw : Nat) (t : Tladon) : Nat :=
  t.fineBin interp raw (t.get TR.CAL_STATUS_EPOCH)

/-- A channel is OFF: MODE 0 or 3 (CH_CFG). -/
def off (c : Nat) (t : Tladon) : Bool :=
  t.get (TR.CH_CFG_MODE c) == 0 || t.get (TR.CH_CFG_MODE c) == 3

/-- An interpolator takes part in calibration (R162). -/
def participates (i : Nat) (t : Tladon) : Bool :=
  if i < 1024 then !t.off (i / 2) else decide (i < 1027)

/-- Every participating interpolator holds a completed shadow table (R166). -/
def shadowsDone (t : Tladon) : Bool :=
  (List.range 1027).all fun i => !t.participates i || (SMap.find i t.cal.shadow).isSome

/-- Samples per histogram H (CAL_CTRL.CD_LOG2, limited to 12–20). -/
def calH (t : Tladon) : Nat := 2 ^ max 12 (min 20 (t.get TR.CAL_CTRL_CD_LOG2))

/-- The bin table built from a histogram (R164). -/
def buildTable (h : SMap Nat) (hh : Nat) : List Nat :=
  ((List.range 384).foldl (fun (acc : Nat × List Nat) c =>
    let n := SMap.getD 0 c h
    (acc.1 + n, min 255 (256 * (2 * acc.1 + n) / (2 * hh)) :: acc.2)) (0, [])).2.reverse

/-- A histogram is rejected (R165). -/
def rejectHist (h : SMap Nat) (hh : Nat) : Bool :=
  let used := (h.filter fun p => p.2 != 0).length
  decide (used < 256) || decide (352 < used) || h.any fun p => decide (4 * hh / 256 < p.2)

/-- Calibration runs (R162). -/
def calRuns (t : Tladon) : Bool :=
  t.on TR.CAL_CTRL_EN && t.locked && (t.state == 2 || t.state == 3) && t.cal.retireAt.isNone

/-- A completed dither conversion (R162, R164, R165). -/
def dither (i raw : Nat) (t : Tladon) : Tladon :=
  if t.calRuns && t.participates i && (SMap.find i t.cal.shadow).isNone && decide (raw < 384) then
    let h := SMap.modify 0 raw (· + 1) (SMap.getD [] i t.cal.hist)
    let hh := t.calH
    let cal := t.cal
    if (h.map (·.2)).sum < hh then { t with cal := { cal with hist := SMap.insert i h cal.hist } }
    else if rejectHist h hh then
      let t : Tladon := { t with cal := { cal with hist := SMap.erase i cal.hist } }
      (t.add TR.CAL_CNT_REJECTS 1).set TR.CAL_STATUS_REJECT 1
    else
      let t : Tladon := { t with cal := { cal with
        hist := SMap.insert i h cal.hist
        shadow := SMap.insert i (buildTable h hh) cal.shadow } }
      t.set TR.CAL_STATUS_READY (b2n t.shadowsDone)
  else t

/-- The swap of all tables at a frame boundary (R166, R167, R169). -/
def calSwap (now : Nat) (t : Tladon) : Tladon :=
  if t.calRuns && t.shadowsDone && !t.on TR.CAL_CTRL_FREEZE && t.count now % 65536 == 0 then
    let cal := t.cal
    let t : Tladon := { t with cal := { cal with
      shadow := []
      retired := cal.active
      active := cal.shadow.foldl (fun m p => SMap.insert p.1 p.2 m) cal.active
      activeHist := cal.hist.foldl (fun m p => SMap.insert p.1 p.2 m) cal.activeHist
      retireAt := some (now + 1040) } }
    ((t.addMod TR.CAL_STATUS_EPOCH 1).add TR.CAL_STATUS_SWAPS 1).set TR.CAL_STATUS_READY 0
  else t

/-- The retired tables are released and new histograms start (R167). -/
def calRetire (now : Nat) (t : Tladon) : Tladon :=
  match t.cal.retireAt with
  | none => t
  | some d =>
    if d ≤ now then
      let cal := t.cal
      { t with cal := { cal with hist := [], retired := [], retireAt := none, started := d } }
    else t

/-- Every shadow histogram is discarded and starts again (R168). -/
def calTimeout (now : Nat) (t : Tladon) : Tladon :=
  if t.calRuns && decide (t.cal.started + max 1 (t.get TR.CAL_CTRL_CAL_TMO) * 65536 ≤ now) then
    let cal := t.cal
    let t : Tladon := { t with cal := { cal with hist := [], shadow := [], started := now } }
    t.sets [(TR.CAL_STATUS_CAL_STALL, 1), (TR.CAL_STATUS_READY, 0)]
  else t

/-- A write to CAL_CTRL: EN written from 0 to 1 starts the histograms (R162, R168, R169). -/
def calCtrlWrite (now v : Nat) (t : Tladon) : Tladon :=
  let was := t.on TR.CAL_CTRL_EN
  let t := t.sets [(TR.CAL_CTRL_CAL_TMO, bits 23 16 v), (TR.CAL_CTRL_CD_LOG2, bits 12 8 v),
    (TR.CAL_CTRL_FREEZE, bits 1 1 v), (TR.CAL_CTRL_EN, bits 0 0 v)]
  let cal := t.cal
  if !was && bit 0 v then
    { t with cal := { cal with hist := [], shadow := [], started := now } }
  else t

/-! ### The survey measurement -/

/-- The gate length in ticks (R150). -/
def gateLen (t : Tladon) : Nat := max 1 (t.get TR.SURVEY_GATE_GATE) * 1024

/-- The number of sampling instants (R153). -/
def gateNs (t : Tladon) : Nat := 2 ^ max 2 (min 16 (t.get TR.SURVEY_CFG_SAMPLES_LOG2))

/-- START and ARM are obeyed (R147, R149, R153, R158). -/
def surveyReady (t : Tladon) : Bool :=
  (t.state == 2 || t.state == 3) && t.get TR.SURVEY_CFG_SRC != 3
    && !t.on TR.SURVEY_STATUS_CFG_ERR && t.gate.isNone

/-- The gate opens at a tick (R150–R154). -/
def openGate (at' now : Nat) (t : Tladon) : Tladon :=
  { t with
    gate := some ⟨at', (t.count now + (at' - now)) % 2 ^ 42, t.gateLen, t.gateNs, 0, 0, [], none,
      false, false, false⟩
    arm := none }.set TR.SURVEY_STATUS_BUSY 1

/-- START (R151). -/
def surveyStart (now : Nat) (t : Tladon) : Tladon :=
  if t.surveyReady then t.openGate (now + 1) now else t

/-- The tick count in SURVEY_START_LO and _HI. -/
def startTick (t : Tladon) : Nat :=
  t.get TR.SURVEY_START_LO_START_LO + 2 ^ 32 * t.get TR.SURVEY_START_HI_START_HI

/-- ARM (R151): a start tick that has passed opens the gate at the next tick, late. -/
def surveyArm (now : Nat) (t : Tladon) : Tladon :=
  if t.surveyReady then
    if 0 < dist t.startTick (t.count now) then { t with arm := some t.startTick }
    else (t.openGate (now + 1) now).set TR.SURVEY_STATUS_LATE 1
  else t

/-- The tick counter reaches the armed start tick (R151). -/
def surveyGateOpen (now : Nat) (t : Tladon) : Tladon :=
  match t.arm with
  | some a => if t.count now = a ∧ t.gate.isNone then t.openGate now now else t
  | none => t

/-- A gate ends: its result is to be computed, and CONT opens the next (R152). -/
def surveyGateEnd (now : Nat) (t : Tladon) : Tladon :=
  match t.gate with
  | none => t
  | some g =>
    if g.t0 + g.len ≤ now then
      let t : Tladon := { t with gate := none, computing := t.computing ++ [g] }
      if t.on TR.SURVEY_CTRL_CONT then t.openGate (g.t0 + g.len) (g.t0 + g.len) else t
    else t

/-- An edge of the surveyed input with its fine bin (R154, R155). -/
def surveyEdge (now fine : Nat) (t : Tladon) : Tladon :=
  match t.gate with
  | none => t
  | some g =>
    if g.t0 ≤ now ∧ now < g.t0 + g.len then
      let past := ((List.range g.ns).filter fun j => g.t0 + j * g.len / g.ns ≤ now).length
      let edge := (g.cycles + 1, (((now - g.t0) * 256 + fine : Nat) : Int))
      { t with gate := some { g with
        cycles := g.cycles + 1
        tooMany := g.tooMany || match g.last with
          | some l => decide (now < l + 6)
          | none => false
        last := some now
        inst := past
        edges := if g.inst < past then edge :: g.edges else g.edges } }
    else t

/-- The sums of R156 over the edges, counted and stamped from edge 0:
(N, Sn, St, Snn, Snt, Stt). -/
def surveySums (n0 t0 : Int) : List (Nat × Int) → Int × Int × Int × Int × Int × Int
  | [] => (0, 0, 0, 0, 0, 0)
  | (n, x) :: r =>
    let a := (n : Int) - n0
    let b := x - t0
    let (c, sn, st, snn, snt, stt) := surveySums n0 t0 r
    (c + 1, sn + a, st + b, snn + a * a, snt + a * b, stt + b * b)

/-- The regression of R156 and R157 on stamped edges, oldest first: RATIO, RESID and whether it
exists. -/
def regress (edges : List (Nat × Int)) : Nat × Nat × Bool :=
  match edges with
  | [] => (0, 0, false)
  | (n0, x0) :: _ =>
    let (n, sn, st, snn, snt, stt) := surveySums n0 x0 edges
    let a := n * snn - sn * sn
    let b := n * snt - sn * st
    let c := n * stt - st * st
    if n < 3 ∨ a = 0 ∨ b = 0 then (0, 0, false)
    else
      let ratio := divRound (2 ^ 56 * a) b
      let q := 2 ^ 18 * (a * c - b * b) / (n * a * (n - 2))
      (ratio.toNat % 2 ^ 48, min 65535 ((isqrt q.toNat + 1) / 2), true)

/-- The oldest ended gate publishes its result (R155–R157). -/
def surveyResult (t : Tladon) : Tladon :=
  match t.computing with
  | [] => t
  | g :: rest =>
    let edges := g.edges.reverse
    let (ratio, resid, ok) := regress edges
    let first := match edges with
      | [] => 0
      | (_, x) :: _ => x.toNat
    let t : Tladon := { t with
      computing := rest
      res := ⟨ratio, resid, edges.length, (g.tick + first / 256) % 2 ^ 42, first % 256,
        pack [(1, 1, b2n (ok && !g.tooMany)), (3, 3, b2n !ok), (4, 4, b2n g.tooMany),
          (5, 5, b2n g.clksw), (6, 6, b2n g.holdover)]⟩ }
    (t.addMod TR.SURVEY_STATUS_SEQ 1).sets
      [(TR.SURVEY_STATUS_VALID, b2n (ok && !g.tooMany)), (TR.SURVEY_STATUS_NO_SIGNAL, b2n !ok),
        (TR.SURVEY_STATUS_OVERRATE, b2n g.tooMany), (TR.SURVEY_STATUS_CLKSW, b2n g.clksw),
        (TR.SURVEY_STATUS_HOLDOVER, b2n g.holdover), (TR.SURVEY_RATIO_LO_RATIO, ratio),
        (TR.SURVEY_STATUS_BUSY, b2n (t.gate.isSome || !rest.isEmpty))]

/-- A read of SURVEY_RATIO_LO latches its companions (SURVEY_RATIO_LO). -/
def surveyLatch (t : Tladon) : Tladon :=
  let r := t.res
  t.sets [(TR.SURVEY_RATIO_HI_RATIO, r.ratio / 2 ^ 32), (TR.SURVEY_RESID_RESID, r.resid),
    (TR.SURVEY_EDGES_EDGES, r.edges), (TR.SURVEY_FIRST_LO_TICK, r.first),
    (TR.SURVEY_FIRST_LO_FINE, r.firstFine), (TR.SURVEY_FIRST_HI_TICK_HI, r.first / 2 ^ 24),
    (TR.SURVEY_STATUS_VALID, bits 1 1 r.flags), (TR.SURVEY_STATUS_NO_SIGNAL, bits 3 3 r.flags),
    (TR.SURVEY_STATUS_OVERRATE, bits 4 4 r.flags), (TR.SURVEY_STATUS_CLKSW, bits 5 5 r.flags),
    (TR.SURVEY_STATUS_HOLDOVER, bits 6 6 r.flags)]

/-- A write to SURVEY_CFG, _GATE, _START_LO or _HI (R153, R158, R175). -/
def surveyCfgWrite (a v : Nat) (t : Tladon) : Tladon :=
  if t.gate.isSome then t
  else
    let t := match regAt TR.rows a with
      | some fs => { t with regs := t.regs.write false fs v }
      | none => t
    t.set TR.SURVEY_STATUS_CFG_ERR (b2n (decide (t.gateLen < 16 * t.gateNs)))

end Tladon

/-- SURVEY_START (R151). -/
def execSurveyStart (port : Nat) (s : State) : Res :=
  .next <| s.modTl port (Tladon.surveyStart s.now)

/-- SURVEY_ARM (R151). -/
def execSurveyArm (port : Nat) (s : State) : Res :=
  .next <| s.modTl port (Tladon.surveyArm s.now)

/-- SURVEY_GATE_OPEN (R151). -/
def execSurveyGateOpen (port : Nat) (s : State) : Res :=
  .next <| s.modTl port (Tladon.surveyGateOpen s.now)

/-- SURVEY_ABORT (R158): cause 3 HOST. -/
def execSurveyAbort (port : Nat) (s : State) : Res :=
  .next <| s.modTl port (Tladon.abortGate 3)

/-- SURVEY_CFG_WRITE (R153, R175): `addr` is 0x0304, 0x0308, 0x030C or 0x0310. -/
def execSurveyCfgWrite (port addr value : Nat) (s : State) : Res :=
  .next <| s.modTl port (Tladon.surveyCfgWrite addr value)

/-- SURVEY_GATE_END (R152). -/
def execSurveyGateEnd (port : Nat) (s : State) : Res :=
  .next <| s.modTl port (Tladon.surveyGateEnd s.now)

/-- SURVEY_RESULT (R156, R157). -/
def execSurveyResult (port : Nat) (s : State) : Res :=
  .next <| s.modTl port Tladon.surveyResult

/-- SURVEY_IN_EDGE (R154, R155): a prescaled edge of the selected input, SRC 0 or 1, with the raw
code of the survey interpolator 1,024. -/
def execSurveyInEdge (port raw : Nat) (s : State) : Res :=
  .next <| s.modTl port fun t =>
    if t.get TR.SURVEY_CFG_SRC ≤ 1 then t.surveyEdge s.now (t.fineNow 1024 raw) else t

/-- DITHER_CONVERSION (R164, R165). -/
def execDitherConversion (port interp raw : Nat) (s : State) : Res :=
  .next <| s.modTl port (Tladon.dither interp raw)

/-- CAL_SWAP (R166). -/
def execCalSwap (port : Nat) (s : State) : Res :=
  .next <| s.modTl port (Tladon.calSwap s.now)

/-- CAL_RETIRE (R167). -/
def execCalRetire (port : Nat) (s : State) : Res :=
  .next <| s.modTl port (Tladon.calRetire s.now)

/-- CAL_TIMEOUT (R168). -/
def execCalTimeout (port : Nat) (s : State) : Res :=
  .next <| s.modTl port (Tladon.calTimeout s.now)

/-- CAL_CTRL_WRITE (R169). -/
def execCalCtrlWrite (port value : Nat) (s : State) : Res :=
  .next <| s.modTl port (Tladon.calCtrlWrite s.now value)

end Sys2Proof.Machine
end

