-- ==== Sys2Proof/Machine/TlSampler.lean ====
section
/-! DEFINITION. Twin samplers, their reference buffer and the monitor converter (spec/06). -/

namespace Sys2Proof.Machine

open Sys2Proof

namespace Tladon

/-! ### Reference buffer -/

/-- Whether the part has samplers (R201). -/
def hasSamp (t : Tladon) : Bool := !t.tl512t

/-- Samples taken while READY is 0 make the running captures cold (R182). -/
def markCold (t : Tladon) : Tladon := t.markCaptures fun c => { c with cold := true }

/-- A write of SAMP_REF.EN (R181). -/
def refWrite (now : Nat) (en : Bool) (t : Tladon) : Tladon :=
  if !t.hasSamp then t
  else if en then
    if t.on TR.SAMP_REF_EN then t
    else { t with refAt := some (now + 270336) }.sets [(TR.SAMP_REF_EN, 1), (TR.SAMP_REF_READY, 0)]
  else ({ t with refAt := none }.sets [(TR.SAMP_REF_EN, 0), (TR.SAMP_REF_READY, 0)]).markCold

/-! ### Capture triggers -/

/-- PRE and POST in samples (R192, SAMP_g_LEN). -/
def preOf (g : Nat) (t : Tladon) : Nat := 4 * t.get (TR.SAMPG_LEN_PRE4 g)

/-- POST in samples; POST4 = 0 means 1,024. -/
def postOf (g : Nat) (t : Tladon) : Nat :=
  let p := t.get (TR.SAMPG_LEN_POST4 g)
  4 * if p = 0 then 1024 else p

/-- CONFIGURED or ACQUIRING. -/
def running (t : Tladon) : Bool := t.state == 2 || t.state == 3

/-- Count a missed event, once per tick (R190), and towards a hold-off in events (R193). -/
def missEvent (now g : Nat) (t : Tladon) : Tladon :=
  let s := t.samp g
  if s.missAt = some now then t
  else
    let frozen := s.st = 5 ∨ s.st = 6
    (t.modSamp g fun s => { s with
      missAt := some now
      holdEv := if frozen then s.holdEv - 1 else s.holdEv }).add (TR.SAMPG_CNT_MISSED g) 1

/-- The event tick of a trigger: a pulse-width trigger lies DELAY ticks after its event (R189). -/
def eventTick (g : Nat) (t : Tladon) (tr : Nat × Nat × Nat) : Nat :=
  if tr.2.1 = 0 then tr.1 - t.get (TR.SAMPG_PW_DELAY g) else tr.1

/-- Of two events of one tick the earlier trigger tick wins, then the lower cause, then the lower
channel (R189). -/
def triggerBefore (a b : Nat × Nat × Nat) : Bool :=
  decide (a.1 < b.1) || (a.1 == b.1 && (decide (a.2.1 < b.2.1) ||
    (a.2.1 == b.2.1 && decide (a.2.2 < b.2.2))))

/-- An event of an enabled kind at tick `e` with its trigger (R189–R191). -/
def sampEvent (g e : Nat) (tr : Nat × Nat × Nat) (t : Tladon) : Tladon :=
  let s := t.samp g
  let take (t : Tladon) : Tladon := t.modSamp g fun s =>
    { s with trig := some tr, st := if e < tr.1 then 3 else 2 }
  match s.trig with
  | some old =>
    if (s.st = 2 ∨ s.st = 3) ∧ t.eventTick g old = e then
      let t := t.missEvent e g
      if triggerBefore tr old ∧ t.preOf g / 2 ≤ tr.1 - s.since then take t else t
    else t.missEvent e g
  | none =>
    if s.st = 2 ∧ t.preOf g / 2 ≤ tr.1 - s.since then take t else t.missEvent e g

/-- The group's channel mask selects channel `k` of the group (SAMP_g_CHMASK). -/
def chMask (g k : Nat) (t : Tladon) : Bool :=
  if k < 32 then bit k (t.get (TR.SAMPG_CHMASK_LO_MASK g))
  else bit (k - 32) (t.get (TR.SAMPG_CHMASK_HI_MASK g))

/-- The width of the pulse-width trigger; 0 acts as 1 (SAMP_g_PW). -/
def pwWidth (g : Nat) (t : Tladon) : Nat := max 1 (t.get (TR.SAMPG_PW_WIDTH g))

/-- The discriminator output of a channel of a group is still high at L + WIDTH + 1 (R187). -/
def pulseWidth (now c : Nat) (t : Tladon) : Tladon :=
  let g := c / 64
  match (t.chan c).high with
  | some l =>
    if t.hasSamp && t.running && t.on (TR.SAMPG_CFG_PW_EN g) && t.chMask g (c % 64) && !t.off c
        && now == l + t.pwWidth g + 1 then
      t.sampEvent g now (now + t.get (TR.SAMPG_PW_DELAY g), 0, c % 64)
    else t
  | none => t

/-- The timer of a sampler produces an event (R188). -/
def timerEvent (now g : Nat) (t : Tladon) : Tladon :=
  let b := (t.samp g).timer
  let per := max 2048 (t.get (TR.SAMPG_TIMER_PERIOD g))
  if t.hasSamp && t.running && t.on (TR.SAMPG_CFG_TIMER_EN g) && decide (b < now)
      && (now - b) % per == 0 then t.sampEvent g now (now, 1, 0)
  else t

/-- FORCE (R188): a command event at the next tick for every sampler of the mask. -/
def forceMask (now mask : Nat) (t : Tladon) : Tladon :=
  if t.hasSamp && t.running then
    (List.range 8).foldl (fun t g =>
      if bit g mask then t.sampEvent g (now + 1) (now + 1, 2, 0) else t) t
  else t

/-- ARM (R183, R184, R186): RUNNING goes to ARMED unless CFG_ERR is set. -/
def armMask (now mask : Nat) (t : Tladon) : Tladon :=
  if t.hasSamp && t.running then
    (List.range 8).foldl (fun t g =>
      if bit g mask && (t.samp g).st == 1 && !t.on (TR.SAMPG_STATE_CFG_ERR g) then
        t.modSamp g fun s => { s with st := 2, trig := none, cold := !t.refReady now }
      else t) t
  else t

/-- DISARM of one sampler (R194). -/
def disarm (s : Sampler) : Sampler :=
  if s.st = 2 ∨ s.st = 3 then { s with st := 1, trig := none }
  else if s.st = 4 ∨ s.st = 5 ∨ s.st = 6 then { s with disarm := true }
  else s

/-- DISARM (R194). -/
def disarmMask (mask : Nat) (t : Tladon) : Tladon :=
  (List.range 8).foldl (fun t g => if bit g mask then t.modSamp g Tladon.disarm else t) t

/-- The trigger tick is reached (R189, R192, R198, R182, R179). -/
def triggerTick (now g : Nat) (t : Tladon) : Tladon :=
  let s := t.samp g
  match s.trig with
  | some (tt, cause, ch) =>
    if (s.st = 2 ∨ s.st = 3) ∧ tt ≤ now then
      let pre := t.preOf g
      let t0 := tt - pre / 2
      let cold := s.cold || !t.refReady t0
      let cap : Capture :=
        { tt := tt, first := (t.count now + (2 ^ 42 - (now - tt) - pre / 2)) % 2 ^ 42
          cause := cause, ch := ch, num := s.num, pre := pre, post := t.postOf g, cold := cold
          tooMany := false
          trim := match s.trimAt with
            | some w => decide (t0 ≤ w)
            | none => false
          clksw := false, holdover := false, epoch := false, frozenAt := 0, sent := 0
          crc := 0xFFFF }
      let t := t.modSamp g fun s =>
        { s with st := 4, trig := none, cap := some cap, num := (s.num + 1) % 8 }
      let t := (t.set (TR.SAMPG_STATE_RECORD g) s.num).add (TR.SAMPG_CNT_CAPTURES g) 1
      if cold then t.set TR.SAMP_STATUS_REF_COLD 1 else t
    else t
  | none => t

/-- The memory freezes after the last post-trigger sample and the hold-off starts (R192, R193). -/
def freeze (now g : Nat) (t : Tladon) : Tladon :=
  let s := t.samp g
  match s.cap with
  | some c =>
    let due := c.tt + c.post / 2
    if s.st = 4 ∧ due ≤ now then
      let cold := c.cold || !t.refReady now
      let ho := t.get (TR.SAMPG_HOLDOFF_HOLDOFF g)
      let ev := t.on (TR.SAMPG_CFG_HO_EVENTS g)
      let t := t.modSamp g fun s => { s with
        st := 5
        cap := some { c with frozenAt := due, cold := cold }
        holdTick := if ev then due else due + ho
        holdEv := if ev then ho else 0 }
      if cold then t.set TR.SAMP_STATUS_REF_COLD 1 else t
    else t
  | none => t

/-! ### Readout -/

/-- A converter B sample after its trims (R178). -/
def trimSample (offs gain : Int) (x : Nat) : Nat :=
  if x = 0 ∨ 4095 ≤ x then x % 4096
  else
    let y := 2048 + divRound ((8 * ((x : Int) - 2048) - offs) * (2 ^ 14 + gain)) (2 ^ 17)
    (max 0 (min 4095 y)).toNat

/-- The record being read out: one already begun, else the earliest frozen, lowest group (R199). -/
def readout (t : Tladon) : Option Nat :=
  let frozen := t.samps.filterMap fun p => match p.2.cap with
    | some c => if p.2.st = 5 then some (p.1, c) else none
    | none => none
  match frozen.find? (fun p => p.2.sent != 0) with
  | some p => some p.1
  | none => (frozen.foldl (fun (b : Option (Nat × Nat)) p => match b with
      | none => some (p.1, p.2.frozenAt)
      | some (g, f) => if p.2.frozenAt < f then some (p.1, p.2.frozenAt) else some (g, f))
      none).map (·.1)

/-- The next sample word of the shared readout (R196, R197, R199); `x` holds the four raw codes of a
SAMP_DATA word. -/
def sampWord (now : Nat) (x : List Nat) (t : Tladon) : Tladon :=
  match t.readout with
  | none => t
  | some g =>
    match (t.samp g).cap with
    | none => t
    | some c =>
      let sp := max 16 (t.get TR.SAMP_RDOUT_SPACING)
      let n := (c.pre + c.post) / 4
      if c.frozenAt + (c.sent + 1) * sp ≤ now ∧ t.sampNext ≤ now then
        let t : Tladon := { t with sampNext := now + sp }
        if c.sent = 0 then
          (t.sendLow 3 (control 0x14 [(55, 53, g), (52, 50, c.num), (49, 48, c.cause),
            (47, 42, if c.cause = 0 then c.ch else 0), (41, 0, c.first)])).modSamp g
            fun s => { s with cap := some { c with sent := 1 } }
        else if c.sent ≤ n then
          let offs := signed 10 (t.get (TR.SAMPG_TRIM_OFFS g))
          let gain := signed 12 (t.get (TR.SAMPG_TRIM_GAIN g))
          let raw := (List.range 4).map fun i => x.getD i 0 % 4096
          let y := raw.mapIdx fun i v => if i % 2 = 1 then trimSample offs gain v else v
          let w := y.foldl (fun a v => a * 4096 + v) 0
          (t.sendLow 3 (control 0x15 [(55, 53, g), (52, 50, c.num), (47, 0, w)])).modSamp g
            fun s => { s with cap := some { c with
              sent := c.sent + 1
              tooMany := c.tooMany || raw.any fun v => v == 0 || v == 4095
              crc := (beBytes 6 w).foldl crc16Byte c.crc } }
        else
          let t := t.sendLow 3 (control 0x16 [(55, 53, g), (52, 50, c.num),
            (49, 37, c.pre + c.post), (36, 25, c.pre), (24, 24, b2n c.cold), (23, 23, b2n c.tooMany),
            (22, 22, b2n c.trim), (21, 21, b2n c.clksw), (20, 20, b2n c.holdover),
            (19, 19, b2n c.epoch), (15, 0, c.crc)])
          let t := t.modSamp g fun s => { s with st := 6, cap := none, since := now }
          if c.tooMany then t.add (TR.SAMPG_CNT_OVERRANGE g) 1 else t
      else t

/-- The hold-off ends after the tail word (R193). -/
def holdoffEnd (now g : Nat) (t : Tladon) : Tladon :=
  let s := t.samp g
  if s.st = 6 ∧ s.holdTick ≤ now ∧ s.holdEv = 0 ∧ s.since < now then
    let back := s.disarm || t.on (TR.SAMPG_CFG_SINGLE g)
    t.modSamp g fun s => { s with
      st := if back then 1 else 2
      disarm := false
      cold := !t.refReady now }
  else t

/-! ### Register writes -/

/-- A write of SAMP_g_CFG.EN (R183, R184). -/
def sampEn (now g : Nat) (en : Bool) (t : Tladon) : Tladon :=
  if !t.hasSamp then t
  else
    let t := t.set (TR.SAMPG_CFG_EN g) (b2n en)
    if en then
      if (t.samp g).st = 0 then t.modSamp g fun s => { s with st := 1, since := now } else t
    else t.modSamp g fun s =>
      { s with st := 0, trig := none, cap := none, disarm := false }

/-- A write to a configuration register of sampler `g` at offset `o` (R185, R186). -/
def sampCfg (now g o v : Nat) (t : Tladon) : Tladon :=
  if !t.hasSamp then t
  else
    let s := t.samp g
    let en := o == 0
    let keep := t.get (TR.SAMPG_CFG_EN g)
    let t :=
      if s.st = 0 ∨ s.st = 1 then
        let was := t.on (TR.SAMPG_CFG_TIMER_EN g)
        let t := match regAt TR.rows (TR.SAMPG_CFG g + o) with
          | some fs => { t with regs := t.regs.write false fs v }
          | none => t
        let t := if en && bit 2 v && !was then t.modSamp g fun s => { s with timer := now + 1 } else t
        let t := if en then t.set (TR.SAMPG_CFG_EN g) keep else t
        if o = 4 then
          t.set (TR.SAMPG_STATE_CFG_ERR g) (b2n (decide (4096 < t.preOf g + t.postOf g)))
        else t
      else if en && v / 2 == t.regs.word [TR.SAMPG_CFG_CH g, TR.SAMPG_CFG_INPUT g,
          TR.SAMPG_CFG_SINGLE g, TR.SAMPG_CFG_HO_EVENTS g, TR.SAMPG_CFG_TIMER_EN g,
          TR.SAMPG_CFG_PW_EN g] / 2 then t
      else t.set (TR.SAMPG_STATE_WR_IGNORED g) 1
    if en && bit 0 v != (keep == 1) then t.sampEn now g (bit 0 v) else t

/-- A write to SAMP_g_TRIM (offset 0) or SAMP_g_SKEW (offset 4) (R179). -/
def trimWrite (now g o v : Nat) (t : Tladon) : Tladon :=
  if !t.hasSamp then t
  else
    let t := if o = 0 then t.sets [(TR.SAMPG_TRIM_OFFS g, bits 25 16 v),
        (TR.SAMPG_TRIM_GAIN g, bits 11 0 v)] else t.set (TR.SAMPG_SKEW_SKEW g) (bits 7 0 v)
    t.modSamp g fun s => { s with
      trimAt := some now
      cap := if s.st = 4 then s.cap.map (fun c => { c with trim := true }) else s.cap }

/-! ### Monitor converter -/

/-- A start of a sweep at the next tick (R203, R204). -/
def monStart (now : Nat) (t : Tladon) : Tladon :=
  if !t.running then t
  else if t.sweep.isSome then t.add TR.MON_STATUS_OVERLAP 1
  else
    match (List.range 16).filter fun n => bit n (t.get TR.MON_MASK_MASK) with
    | [] => t.addMod TR.MON_STATUS_SWEEPS 1
    | n :: r => { t with sweep := some ⟨n :: r, now + 1, (t.count now + 1) % 2 ^ 42⟩ }.sets
        [(TR.MON_STATUS_BUSY, 1), (TR.MON_STATUS_SOURCE, n)]

/-- A timed sweep at a frame boundary (R203). -/
def monTimer (now : Nat) (t : Tladon) : Tladon :=
  if t.on TR.MON_CTRL_TIMER_EN && t.count now % 65536 == 0
      && decide (t.monFrames + max 1 (t.get TR.MON_PERIOD_PERIOD) * 65536 ≤ now) then
    ({ t with monFrames := now } : Tladon).monStart now
  else t

/-- A write to MON_CTRL: TIMER_EN restarts the period, GO starts a sweep (R203). -/
def monCtrlWrite (now v : Nat) (t : Tladon) : Tladon :=
  let t : Tladon := if bit 1 v && !t.on TR.MON_CTRL_TIMER_EN then { t with monFrames := now } else t
  let t := t.sets [(TR.MON_CTRL_SEND, bits 2 2 v), (TR.MON_CTRL_TIMER_EN, bits 1 1 v)]
  if bit 0 v then t.monStart now else t

/-- The code of a source: 0 for the sampler reference where it is absent or off (R201, R202). -/
def monCode (n code : Nat) (t : Tladon) : Nat :=
  if n = 7 ∧ (t.tl512t ∨ ¬ t.on TR.SAMP_REF_EN) then 0 else code % 4096

/-- A conversion ends (R205). -/
def monDone (now code : Nat) (t : Tladon) : Tladon :=
  match t.sweep with
  | none => t
  | some sw =>
    if sw.t0 + 12800 ≤ now then
      match sw.srcs with
      | [] => { t with sweep := none }
      | n :: r =>
        let c := t.monCode n code
        let num := t.get TR.MON_STATUS_SWEEPS
        let t := t.sets [(TR.MON_RESULT_SWEEP n, num), (TR.MON_RESULT_VALID n, 1),
          (TR.MON_RESULT_CODE n, c)]
        let t := if t.on TR.MON_CTRL_SEND && t.state == 3 then
          t.sendLow 3 (control 0x18 [(55, 52, n), (51, 40, c), (39, 32, num), (31, 0, sw.start)])
          else t
        match r with
        | [] => (({ t with sweep := none } : Tladon).addMod TR.MON_STATUS_SWEEPS 1).set
            TR.MON_STATUS_BUSY 0
        | m :: _ => ({ t with sweep := some ⟨r, sw.t0 + 12800, (sw.start + 12800) % 2 ^ 42⟩
            } : Tladon).set TR.MON_STATUS_SOURCE m
    else t

end Tladon

/-- SAMP_REF_WRITE (R181). -/
def execSampRefWrite (port : Nat) (en : Bool) (s : State) : Res :=
  .next <| s.modTl port (Tladon.refWrite s.now en)

/-- SAMP_REF_READY (R181). -/
def execSampRefReady (port : Nat) (s : State) : Res :=
  .next <| s.modTl port fun t => if t.refReady s.now then t.set TR.SAMP_REF_READY 1 else t

/-- SAMP_EN_WRITE (R183, R184). -/
def execSampEnWrite (port g : Nat) (en : Bool) (s : State) : Res :=
  .next <| s.modTl port (Tladon.sampEn s.now g en)

/-- SAMP_CFG_WRITE (R185): `ofs` is the offset within sampler `g`'s configuration. -/
def execSampCfgWrite (port g ofs value : Nat) (s : State) : Res :=
  .next <| s.modTl port (Tladon.sampCfg s.now g ofs value)

/-- SAMP_ARM (R183). -/
def execSampArm (port mask : Nat) (s : State) : Res :=
  .next <| s.modTl port (Tladon.armMask s.now mask)

/-- SAMP_FORCE (R188). -/
def execSampForce (port mask : Nat) (s : State) : Res :=
  .next <| s.modTl port (Tladon.forceMask s.now mask)

/-- SAMP_DISARM (R194). -/
def execSampDisarm (port mask : Nat) (s : State) : Res :=
  .next <| s.modTl port (Tladon.disarmMask mask)

/-- PULSE_WIDTH_EVENT (R187). -/
def execPulseWidthEvent (port ch : Nat) (s : State) : Res :=
  .next <| s.modTl port (Tladon.pulseWidth s.now ch)

/-- SAMP_TIMER_EVENT (R188). -/
def execSampTimerEvent (port g : Nat) (s : State) : Res :=
  .next <| s.modTl port (Tladon.timerEvent s.now g)

/-- SAMP_TRIGGER_TICK (R189). -/
def execSampTriggerTick (port g : Nat) (s : State) : Res :=
  .next <| s.modTl port (Tladon.triggerTick s.now g)

/-- SAMP_FREEZE (R192). -/
def execSampFreeze (port g : Nat) (s : State) : Res :=
  .next <| s.modTl port (Tladon.freeze s.now g)

/-- SAMP_WORD_OFFER (R199): the operands are the raw codes of the four samples a data word takes. -/
def execSampWordOffer (port x0 x1 x2 x3 : Nat) (s : State) : Res :=
  .next <| s.modTl port (Tladon.sampWord s.now [x0, x1, x2, x3])

/-- SAMP_HOLDOFF_END (R193). -/
def execSampHoldoffEnd (port g : Nat) (s : State) : Res :=
  .next <| s.modTl port (Tladon.holdoffEnd s.now g)

/-- SAMP_TRIM_WRITE (R179). -/
def execSampTrimWrite (port g ofs value : Nat) (s : State) : Res :=
  .next <| s.modTl port (Tladon.trimWrite s.now g ofs value)

/-- MON_GO (R203). -/
def execMonGo (port : Nat) (s : State) : Res :=
  .next <| s.modTl port (Tladon.monStart s.now)

/-- MON_TIMER_SWEEP (R203). -/
def execMonTimerSweep (port : Nat) (s : State) : Res :=
  .next <| s.modTl port (Tladon.monTimer s.now)

/-- MON_CONVERSION_DONE (R205): `code` is the converted code. -/
def execMonConversionDone (port code : Nat) (s : State) : Res :=
  .next <| s.modTl port (Tladon.monDone s.now code)

end Sys2Proof.Machine
end

