-- ==== Sys2Proof/Machine/TlChannels.lean ====
section
/-! DEFINITION. Timing channels and interval units (spec/04 R110–R136). -/

namespace Sys2Proof.Machine

open Sys2Proof

namespace Tladon

/-! ### Hit queues -/

/-- A slot of the Paddock. -/
def slot (k : Nat) (t : Tladon) : Slot := SMap.getD Slot.empty k t.pad.slots

/-- Change a slot. -/
def modSlot (k : Nat) (f : Slot → Slot) (t : Tladon) : Tladon :=
  { t with pad := { t.pad with slots := SMap.modify Slot.empty k f t.pad.slots } }

/-- A word arrives at its channel's hit queue; a full queue of 16 discards it and marks its slot
(R208, R209, R213). -/
def pushWord (c : Nat) (w : HWord) (t : Tladon) : Tladon :=
  if (t.chan c).q.length < 16 then t.modChan c fun x => { x with q := x.q ++ [w] }
  else (t.add (TR.PAD_GRP_QFULL (c / 64)) 1).modSlot (t.slotOf w.tick)
    fun x => { x with loss := true }

/-! ### Interval units -/

/-- The window of an interval unit in ticks; 0 means 2^20 (CHN_INTg_WIN). -/
def winLen (g : Nat) (t : Tladon) : Nat :=
  let w := t.get (TR.CHN_INT_WIN_WINDOW g)
  if w = 0 then 2 ^ 20 else w

/-- Stops per window; 0 acts as 1. -/
def winStops (g : Nat) (t : Tladon) : Nat := max 1 (t.get (TR.CHN_INT_CFG_STOPS g))

/-- Channel `k` of group `g` is a stop channel. -/
def isStop (g k : Nat) (t : Tladon) : Bool :=
  if k < 32 then bit k (t.get (TR.CHN_INT_STOP_LO_STOP g))
  else bit (k - 32) (t.get (TR.CHN_INT_STOP_HI_STOP g))

/-- The configuration of an interval unit is refused (R130). -/
def intErr (g : Nat) (t : Tladon) : Bool :=
  let n := popcount 32 (t.get (TR.CHN_INT_STOP_LO_STOP g))
    + popcount 32 (t.get (TR.CHN_INT_STOP_HI_STOP g))
  decide (8 < n) || t.isStop g (t.get (TR.CHN_INT_CFG_START g))
    || (t.on (TR.CHN_INT_CFG_EN g) && n == 0)

/-- The start channel of unit `g`. -/
def startCh (g : Nat) (t : Tladon) : Nat := 64 * g + t.get (TR.CHN_INT_CFG_START g)

/-- The window of unit `g` closes by timeout at a model tick: its close word (R131, R133, R135). -/
def closeWindow (at' g : Nat) (t : Tladon) : Tladon :=
  match SMap.find g t.ints with
  | none => t
  | some w =>
    let tick := (w.tick + (at' - w.t0)) % 2 ^ 42
    let word := word64 [(63, 62, 1), (61, 53, t.startCh g), (52, 37, tick % 65536),
      (28, 13, w.stops), (12, 11, t.get TR.CAL_STATUS_EPOCH), (8, 8, 1)]
    let t : Tladon := { t with ints := SMap.erase g t.ints }
    let t := (t.add (TR.CHN_INT_STATUS_TIMEOUTS g) 1).set (TR.CHN_INT_STATUS_OPEN g) 0
    if t.state = 3 then t.pushWord (t.startCh g) ⟨tick, word⟩ else t

/-- A window that has reached S + W closes by timeout (R131). -/
def intTimeout (now g : Nat) (t : Tladon) : Tladon :=
  match SMap.find g t.ints with
  | none => t
  | some w => if w.t0 + t.winLen g ≤ now then t.closeWindow (w.t0 + t.winLen g) g else t

/-- A write to a register of interval unit `g` (R130, R135). -/
def intWrite (now a v : Nat) (t : Tladon) : Tladon :=
  let g := (a - 0x400) / 0x20
  let t := t.closeWindow now g
  let t := match regAt TR.rows a with
    | some fs => { t with regs := t.regs.write false fs v }
    | none => t
  t.set (TR.CHN_INT_STATUS_CFG_ERR g) (b2n (t.intErr g))

/-- The part an edge of an INTERVAL channel plays, with its effect on the window (R131–R134):
(role, stop number). -/
def intEdge (now c : Nat) (t : Tladon) : Nat × Nat × Tladon :=
  let g := c / 64
  let t := t.intTimeout now g
  if c = t.startCh g then
    match SMap.find g t.ints with
    | some _ => (3, 0, t.add (TR.CHN_INT_STATUS_BUSY_STARTS g) 1)
    | none => (1, 0, { t with ints := SMap.insert g ⟨now, t.count now, 0⟩ t.ints }.set
        (TR.CHN_INT_STATUS_OPEN g) 1)
  else
    match SMap.find g t.ints with
    | none => (3, 0, t.add (TR.CHN_INT_STATUS_STRAY_STOPS g) 1)
    | some w =>
      let n := w.stops + 1
      if n = t.winStops g then
        (2, n, { t with ints := SMap.erase g t.ints }.set (TR.CHN_INT_STATUS_OPEN g) 0)
      else (2, n, { t with ints := SMap.insert g { w with stops := n } t.ints })

/-- An INTERVAL channel takes part: its unit is enabled and names it (R129). -/
def inUnit (c : Nat) (t : Tladon) : Bool :=
  let g := c / 64
  t.on (TR.CHN_INT_CFG_EN g) && (c == t.startCh g || t.isStop g (c % 64))

/-! ### Edges -/

/-- A channel behaves as OFF: MODE, or INTERVAL outside its unit (R116, R129). -/
def dead (c : Nat) (t : Tladon) : Bool :=
  t.off c || (t.get (TR.CH_CFG_MODE c) == 2 && !t.inUnit c)

/-- A channel is settling (R117, R118). -/
def settling (now c : Nat) (t : Tladon) : Bool :=
  decide (now < (t.chan c).modeEnd) || decide (now < (t.chan c).cntEnd)

/-- The clamp flags a leading edge now (R115). -/
def clampFlag (now : Nat) (x : Chan) : Bool :=
  x.clampOn || match x.clampRel with
    | some r => decide (now ≤ r + 1280)
    | none => false

/-- The PILEUP flag of a leading edge now (R123). -/
def pileFlag (now c : Nat) (t : Tladon) : Bool :=
  let x := t.chan c
  x.lost || match x.lastTrail with
    | some l => decide (now ≤ l + max 16 (t.get (TR.CH_CFG_PILEUP_WIN c)))
    | none => false

/-- A stamped leading edge (R119, R123, R163), and its part in the slot's primitives (R236). -/
def stampEdge (now c raw : Nat) (dith : Bool) (t : Tladon) : Tladon :=
  let t := if dith then t.add TR.CAL_CNT_ABORTED 1 else t
  let (role, stop, t) :=
    if t.get (TR.CH_CFG_MODE c) = 2 then
      if t.on (TR.CHN_INT_STATUS_CFG_ERR (c / 64)) then (3, 0, t) else t.intEdge now c
    else (0, 0, t)
  let e : Edge :=
    { t0 := now, tick := t.count now, fine := t.fineNow (2 * c + b2n dith) raw
      epoch := t.get TR.CAL_STATUS_EPOCH, clamp := clampFlag now (t.chan c)
      pile := t.pileFlag now c, role := role, stop := stop, alt := dith }
  let t := t.modChan c fun x => { x with edge := some e, high := some now, lost := false }
  if t.on TR.PAD_PRIM_EN && t.on (TR.CH_CFG_PRIM_EN c) then
    { t with pad := { t.pad with
        prims := t.pad.prims ++ [⟨c, t.slotOf (t.count now), now, none⟩] } }
  else t

/-- A channel's discriminator rises (R112, R117–R125, R148): `raw` is the code of the channel's
interpolator, `sraw` that of the survey interpolator, `dith` that a dither conversion was running. -/
def leadEdge (now c raw sraw : Nat) (dith : Bool) (t : Tladon) : Tladon :=
  let x := t.chan c
  if t.dead c || t.get (TR.CH_THR_THR c) == 1023 || !t.running || x.high.isSome then t
  else if t.settling now c then
    if x.modeEnd ≤ now ∧ t.state = 3 then t.add (TR.CH_CNT_LOST c) 1 else t
  else
    let t := if t.get TR.SURVEY_CFG_SRC = 2 ∧ t.get TR.SURVEY_CFG_CHANNEL = c then
      t.surveyEdge now (t.fineNow 1024 sraw) else t
    if t.state ≠ 3 then t.modChan c fun x => { x with high := some now }
    else if now < x.rearm then
      (t.modChan c fun x => { x with high := some now, ignore := true, lost := true }).add
        (TR.CH_CNT_LOST c) 1
    else t.stampEdge now c raw dith

/-- The clip of the primitives in ticks (PAD_PRIM.CLIP: 0 acts as 1, above 32 as 32). -/
def clip (t : Tladon) : Nat := max 1 (min 32 (t.get TR.PAD_PRIM_CLIP))

/-- The falling output fixes the length of its primitive contribution (R236). -/
def closePrim (now c : Nat) (t : Tladon) : Tladon :=
  let k := t.clip
  { t with pad := { t.pad with prims := t.pad.prims.map fun p =>
      if p.ch = c ∧ p.len = none then { p with len := some (min k (now - p.t0 + 1)) } else p } }

/-- The discriminator output falls (R120–R122). -/
def trailEdge (now c raw : Nat) (t : Tladon) : Tladon :=
  let x := t.chan c
  match x.high with
  | none => t
  | some _ =>
    let t := t.closePrim now c
    if x.ignore then t.modChan c fun x => { x with high := none, ignore := false }
    else match x.edge with
      | none => t.modChan c fun x => { x with
          high := none
          lastTrail := if t.state = 3 then some now else x.lastTrail }
      | some e =>
        let fine := t.fineBin (2 * c + b2n (!e.alt)) raw e.epoch
        let tot := min 65535 (((now - e.t0) * 256 + fine - e.fine) / 4)
        t.modChan c fun x => { x with
          high := none
          edge := none
          done := x.done ++ [⟨e, now, tot⟩]
          rearm := now + 16
          lastTrail := some now }

/-- No trailing edge within 1,024 ticks (R120, R122). -/
def saturate (now c : Nat) (t : Tladon) : Tladon :=
  match (t.chan c).edge with
  | none => t
  | some e =>
    if e.t0 + 1024 ≤ now then
      t.modChan c fun x => { x with
        edge := none
        done := x.done ++ [⟨e, e.t0 + 1024, 0xFFFF⟩]
        rearm := e.t0 + 1024 + 16 }
    else t

/-- The word of a completed hit (R127, R133). -/
def hitWord (c : Nat) (d : DoneHit) : Word64 :=
  let e := d.edge
  word64 [(63, 62, if e.role = 0 then 0 else 1), (61, 53, c), (52, 37, e.tick % 65536),
    (36, 29, e.fine), (28, 13, d.tot), (12, 11, e.epoch), (10, 10, b2n e.clamp),
    (9, 9, b2n e.pile), (7, 4, e.stop)]

/-- A completed hit leaves the channel 24 ticks after its end: filtered by MIN_TOT, then queued
(R124, R125, R133). -/
def hitComplete (now c : Nat) (t : Tladon) : Tladon :=
  match (t.chan c).done with
  | [] => t
  | d :: r =>
    if d.t1 + 24 ≤ now then
      let t := t.modChan c fun x => { x with done := r }
      if t.state ≠ 3 then t
      else if d.tot < t.get (TR.CH_CFG_MIN_TOT c) * 64 then t.add (TR.CH_CNT_SHORT c) 1
      else if d.edge.role = 3 then t
      else
        let t := if d.edge.pile then t.set (TR.CH_STATUS_PILEUP_SEEN c) 1 else t
        t.pushWord c ⟨d.edge.tick, hitWord c d⟩
    else t

/-! ### Configuration -/

/-- A write to CH_CFG (R117, R118, R135). -/
def chCfg (now c v : Nat) (t : Tladon) : Tladon :=
  let t := if t.get (TR.CH_CFG_MODE c) = 2 ∧ t.inUnit c then t.closeWindow now (c / 64) else t
  let wasOff := t.off c
  let ana := t.get (TR.CH_CFG_RANGE c) ≠ bits 4 3 v ∨ t.get (TR.CH_CFG_POL c) ≠ bits 2 2 v
  let t := t.sets [(TR.CH_CFG_PRIM_EN c, bits 24 24 v), (TR.CH_CFG_MIN_TOT c, bits 23 20 v),
    (TR.CH_CFG_PILEUP_WIN c, bits 15 8 v), (TR.CH_CFG_RANGE c, bits 4 3 v),
    (TR.CH_CFG_POL c, bits 2 2 v), (TR.CH_CFG_MODE c, bits 1 0 v)]
  let isOff := t.off c
  t.modChan c fun x => { x with
    modeEnd := if wasOff && !isOff then max x.modeEnd (now + 1 + 25600) else x.modeEnd
    cntEnd := if ana then max x.cntEnd (now + 1 + 2560) else x.cntEnd
    edge := if isOff then none else x.edge
    high := if isOff then none else x.high
    ignore := x.ignore && !isOff }

/-- A write to CH_THR (R117, R118). -/
def chThr (now c v : Nat) (t : Tladon) : Tladon :=
  let new := t.get (TR.CH_THR_THR c) ≠ bits 9 0 v ∨ t.get (TR.CH_THR_TRIM c) ≠ bits 21 16 v
  let t := t.sets [(TR.CH_THR_TRIM c, bits 21 16 v), (TR.CH_THR_THR c, bits 9 0 v)]
  if new then t.modChan c fun x => { x with cntEnd := max x.cntEnd (now + 1 + 256) } else t

/-- Settling has ended (R118). -/
def settleEnd (now c : Nat) (t : Tladon) : Tladon :=
  if t.settling now c then t else t.modChan c fun x => { x with modeEnd := 0, cntEnd := 0 }

/-- The clamp engages (R115). -/
def clampEngage (c : Nat) (t : Tladon) : Tladon :=
  if (t.chan c).clampOn then t
  else ((t.modChan c fun x => { x with
      clampOn := true
      edge := x.edge.map fun e => { e with clamp := true } }).set (TR.CH_STATUS_CLAMP c) 1).add
    (TR.CH_CNT_CLAMP_EVENTS c) 1

/-- The clamp releases (R114, R115). -/
def clampRelease (now c : Nat) (t : Tladon) : Tladon :=
  if (t.chan c).clampOn then
    t.modChan c fun x => { x with clampOn := false, clampRel := some now }
  else t

end Tladon

/-- DISCRIMINATOR_LEADING_EDGE (R119, R122, R163). -/
def execDiscriminatorLeadingEdge (port ch raw sraw : Nat) (dith : Bool) (s : State) : Res :=
  .next <| s.modTl port (Tladon.leadEdge s.now ch raw sraw dith)

/-- DISCRIMINATOR_TRAILING_EDGE (R120, R122). -/
def execDiscriminatorTrailingEdge (port ch raw : Nat) (s : State) : Res :=
  .next <| s.modTl port (Tladon.trailEdge s.now ch raw)

/-- TOT_SATURATION (R120). -/
def execTotSaturation (port ch : Nat) (s : State) : Res :=
  .next <| s.modTl port (Tladon.saturate s.now ch)

/-- HIT_WORD_COMPLETE (R124). -/
def execHitWordComplete (port ch : Nat) (s : State) : Res :=
  .next <| s.modTl port (Tladon.hitComplete s.now ch)

/-- CHANNEL_REARM (R122): the channel is armed again from its re-arm tick on. -/
def execChannelRearm (port ch : Nat) (s : State) : Res :=
  .next <| s.modTl port fun t =>
    if (t.chan ch).rearm ≤ s.now then t.modChan ch fun x => { x with rearm := 0 } else t

/-- CLAMP_ENGAGE (R115). -/
def execClampEngage (port ch : Nat) (s : State) : Res :=
  .next <| s.modTl port (Tladon.clampEngage ch)

/-- CLAMP_RELEASE (R114). -/
def execClampRelease (port ch : Nat) (s : State) : Res :=
  .next <| s.modTl port (Tladon.clampRelease s.now ch)

/-- CH_CFG_WRITE (R117). -/
def execChCfgWrite (port ch value : Nat) (s : State) : Res :=
  .next <| s.modTl port (Tladon.chCfg s.now ch value)

/-- CH_THR_WRITE (R117). -/
def execChThrWrite (port ch value : Nat) (s : State) : Res :=
  .next <| s.modTl port (Tladon.chThr s.now ch value)

/-- SETTLING_END (R118). -/
def execSettlingEnd (port ch : Nat) (s : State) : Res :=
  .next <| s.modTl port (Tladon.settleEnd s.now ch)

/-- CONFIG_SCRUB (R126): `n` is the number of copies found to disagree and rewritten. -/
def execConfigScrub (port n : Nat) (s : State) : Res :=
  .next <| s.modTl port (Tladon.add TR.CHN_SEU_CORRECTED n)

/-- INTERVAL_START_EDGE (R131, R134): an edge of the start channel of unit `g`. -/
def execIntervalStartEdge (port g raw : Nat) (s : State) : Res :=
  .next <| s.modTl port fun t => t.leadEdge s.now (t.startCh g) raw 0 false

/-- INTERVAL_STOP_EDGE (R131, R134): an edge of stop channel `ch`. -/
def execIntervalStopEdge (port ch raw : Nat) (s : State) : Res :=
  .next <| s.modTl port fun t => t.leadEdge s.now ch raw 0 false

/-- INTERVAL_TIMEOUT (R131). -/
def execIntervalTimeout (port g : Nat) (s : State) : Res :=
  .next <| s.modTl port (Tladon.intTimeout s.now g)

/-- CHN_INT_WRITE (R135): `addr` names a register of an interval unit. -/
def execChnIntWrite (port addr value : Nat) (s : State) : Res :=
  .next <| s.modTl port (Tladon.intWrite s.now addr value)

end Sys2Proof.Machine
end

