-- ==== Sys2Proof/Machine/TlPaddock.lean ====
section
/-! DEFINITION. The Paddock: hit queues and slots, accepts and fragments, streaming, hold requests and
trigger primitives (spec/07). -/

namespace Sys2Proof.Machine

open Sys2Proof

namespace Tladon

/-- Change the Paddock. -/
def modPad (f : Paddock → Paddock) (t : Tladon) : Tladon := { t with pad := f t.pad }

/-- Streaming operation (PAD_CFG.MODE). -/
def streaming (t : Tladon) : Bool := t.on TR.PAD_CFG_MODE

/-- The words the Paddock holds (PAD_STATUS.FILL). -/
def fill (t : Tladon) : Nat := (t.pad.slots.map fun p => p.2.words.length).sum

/-- A tick count lies at or before the current one. -/
def passed (now tick : Nat) (t : Tladon) : Bool := decide (0 ≤ dist (t.count now) tick)

/-- The oldest slot that is not yet closed (R212, R213). -/
def oldestOpen (now : Nat) (t : Tladon) : Nat :=
  t.slotOf (unsigned 42 ((t.count now : Int) - 2560))

/-! ### Draining the hit queues -/

/-- The first channel of group `g` with a word, round robin after the last one served (R210). -/
def drainFrom (g : Nat) (t : Tladon) : Option Nat :=
  let last := t.pad.rr.getD g 0
  ((List.range 64).map fun i => 64 * g + (last + i) % 64).find? fun c => !(t.chan c).q.isEmpty

/-- A group drain takes one word (R208, R210, R211, R213, R216): `err` is 0 for a clean word, 1 for a
corrected one, 2 for an uncorrectable one. -/
def drain (now g err : Nat) (t : Tladon) : Tladon :=
  match t.drainFrom g with
  | none => t
  | some c =>
    match (t.chan c).q with
    | [] => t
    | w :: r =>
      let t := t.modChan c fun x => { x with q := r }
      let t := t.modPad fun p => { p with
        rr := p.rr.mapIdx fun i v => if i = g then (c % 64 + 1) % 64 else v }
      if err = 2 then
        (t.add (TR.PAD_GRP_UNCORR g) 1).modSlot (t.oldestOpen now) fun x => { x with loss := true }
      else
        let t := if err = 1 then t.add (TR.PAD_GRP_CORR g) 1 else t
        let k := t.slotOf w.tick
        if 98304 ≤ t.fill then (t.add TR.PAD_LOSS_FULL 1).modSlot k fun x => { x with loss := true }
        else
          let t := t.modSlot k fun x => { x with words := x.words ++ [w] }
          { t with regs := t.regs.raise TR.PAD_HWM_HWM t.fill }

/-! ### Reading stored words -/

/-- The words left of a read in which the words at the places `bad` are uncorrectable (R215). -/
def readWords (bad : List Nat) (ws : List HWord) : List HWord :=
  (ws.mapIdx fun i w => (i, w)).filterMap fun p => if bad.contains p.1 then none else some p.2

/-- Count the memory errors of a read of `n` words (R215). -/
def countEcc (n corr : Nat) (bad : List Nat) (t : Tladon) : Tladon :=
  (t.add TR.PAD_ECC_CORR corr).add TR.PAD_ECC_UNCORR ((bad.eraseDups.filter (· < n)).length)

/-- Put a list of hit words into the class 2 queue of an uplink and its copy, pinning their slots
(R214, R255). -/
def sendHits (k : Nat) (ws : List HWord) (t : Tladon) : Tladon :=
  if t.upOn then ws.foldl (fun t w =>
    let s := t.slotOf w.tick
    let t := t.modSlot s fun x => { x with pins := x.pins + (t.copies k).length }
    t.sendOn 2 ⟨w.word, some s⟩ (t.copies k)) t
  else t

/-! ### Streaming -/

/-- The frame a slot belongs to (R689). -/
def slotFrame (k : Nat) (t : Tladon) : Nat := t.slotTick k / 65536

/-- STREAM_HEAD of a frame on every bonded uplink (R231, R255). -/
def streamHead (f : Nat) (t : Tladon) : Tladon :=
  (t.sendOn 2 ⟨control 0x03 [(55, 30, f)], none⟩ t.active).modPad fun p =>
    { p with frames := SMap.insert f ⟨[0, 0, 0, 0], false, false, false⟩ p.frames }

/-- STREAM_END of a frame on every bonded uplink, each with its own count (R231, R255). -/
def streamEnd (f : Nat) (x : FrameStat) (t : Tladon) : Tladon :=
  let t := t.active.foldl (fun t k => t.sendOn 2 ⟨control 0x04 [(55, 30, f),
    (29, 13, x.counts.getD (k % 2 ^ (if t.mirror then 1 else 2)) 0), (12, 12, b2n x.loss),
    (11, 11, b2n x.ecc), (10, 10, b2n x.held)], none⟩ [k]) t
  let t := if x.loss || x.ecc then t.add TR.PAD_FLAG_CNT1_LOSSY 1 else t
  t.modPad fun p => { p with frames := SMap.erase f p.frames }

/-- A closed slot leaves in streaming, or is discarded under HOLD (R231, R233, R689). -/
def streamSlot (k corr : Nat) (bad : List Nat) (t : Tladon) : Tladon :=
  let f := t.slotFrame k
  match SMap.find f t.pad.frames with
  | none => t
  | some x =>
    let sl := t.slot k
    let n := sl.words.length
    let hold := t.on TR.PAD_STATUS_HOLD
    let t := if hold then
        (t.add TR.PAD_LOSS_HELD_WORDS n).modSlot k fun y => { y with words := [] }
      else t.countEcc n corr bad
    let ws := if hold then [] else readWords bad sl.words
    let u := k % t.lanes
    let t := t.sendHits u ws
    let x := { x with
      counts := x.counts.mapIdx fun i c => if i = u then c + ws.length else c
      loss := x.loss || sl.loss
      ecc := x.ecc || sl.ecc || decide (ws.length < n && !hold)
      held := x.held || hold }
    let t := t.modPad fun p => { p with frames := SMap.insert f x p.frames }
    if t.slotFrame (k + 1) = f then t
    else (t.streamEnd f x).streamHead ((f + 1) % 2 ^ 26)

/-! ### Closing and release -/

/-- The order of R212: ascending channel, and for each channel ascending leading-edge tick. -/
def wordBefore (a b : HWord) : Bool :=
  let ca := bits 61 53 a.word.toNat
  let cb := bits 61 53 b.word.toNat
  decide (ca < cb) || (ca == cb && decide (dist a.tick b.tick ≤ 0))

/-- Slot `k` closes (R212, R231, R233). -/
def slotClose (now k corr : Nat) (bad : List Nat) (t : Tladon) : Tladon :=
  if t.state = 3 ∧ t.passed now ((t.slotTick (k + 1) + 2560) % 2 ^ 42) ∧ (t.slot k).closed = false then
    let t := t.modSlot k fun x =>
      { x with closed := true, words := sortBy wordBefore x.words }
    if t.streaming then t.streamSlot k corr bad else t
  else t

/-- The window of an accept shares ticks with a range of ticks (all as tick counts). -/
def overlaps (a0 a1 b0 b1 : Nat) : Bool := decide (dist a0 b1 < 0) && decide (dist b0 a1 < 0)

/-- A closed slot is released once nothing needs it (R214, R232). -/
def slotRelease (now k : Nat) (t : Tladon) : Tladon :=
  let sl := t.slot k
  let t0 := t.slotTick k
  let old := t.streaming || decide (0 < dist (t.count now) ((t0 + 31 + 65536) % 2 ^ 42))
  let needed := t.pad.accQ.any fun a => a.form == 0 && overlaps a.t0 a.t1 t0 ((t0 + 32) % 2 ^ 42)
  if sl.closed && sl.pins == 0 && old && !needed then
    t.modPad fun p => { p with slots := SMap.erase k p.slots }
  else t

/-! ### Accepts -/

/-- Count a flag once where it is set. -/
def countIf (b : Bool) (f : Fld) (t : Tladon) : Tladon := if b then t.add f 1 else t

/-- An accept takes effect (R217, R218, R220–R223, R226, R234). -/
def acceptEffect (now : Nat) (t : Tladon) : Tladon :=
  match t.pad.arriving with
  | [] => t
  | (due, q) :: r =>
    if now < due then t
    else
      let t := t.modPad fun p => { p with arriving := r }
      if t.state ≠ 3 then t
      else
        let num := t.get TR.PAD_ACC_CNT_ACCEPTS
        let t := t.addMod TR.PAD_ACC_CNT_ACCEPTS 1
        if t.streaming then t.add TR.PAD_FLAG_CNT1_STRAY 1
        else
          let cur := t.slotOf (t.count now)
          let s := (cur + 2 ^ 37 - (cur + 65536 - q % 65536) % 65536) % 2 ^ 37
          let trig := t.slotTick s
          let t0 := unsigned 42 ((trig : Int) - t.get TR.PAD_WIN_W_PRE)
          let t1 := (trig + t.get TR.PAD_WIN_W_POST) % 2 ^ 42
          let err := t.on TR.PAD_STATUS_CFG_ERR
          let full := decide (64 ≤ (t.pad.accQ.filter (·.form != 2)).length)
          let hold := t.on TR.PAD_STATUS_HOLD
          let ho := t.get TR.PAD_HOLDOFF_HO
          let off := if t.on TR.PAD_HOLDOFF_HO_MODE then decide (0 < t.pad.skip)
            else match t.pad.lastTrig with
              | some l => decide ((dist trig l).natAbs < ho)
              | none => false
          let form := if err then 1 else if full then 2 else if hold then 3 else if off then 4 else 0
          let oldest := t.count now + 2 ^ 42 - 65536
          let entry := t.count now + 2 ^ 42 - (now - t.pad.entry)
          let a : Accept :=
            { num := num, t0 := t0, t1 := t1, form := form
              dropped := err || full, held := hold, heldoff := off
              expired := decide (dist t0 oldest < 0) || decide (dist t0 entry < 0)
              overlap := t.pad.windows.any fun w => overlaps w.1 w.2 t0 t1 }
          let t := t.modPad fun p => { p with
            accQ := p.accQ ++ [a]
            windows := if form = 0 then p.windows ++ [(t0, t1)] else p.windows
            lastTrig := if form = 0 then some trig else p.lastTrig
            skip := if form = 0 then ho else p.skip - 1 }
          ((((t.countIf a.dropped TR.PAD_FLAG_CNT0_DROPPED).countIf hold
            TR.PAD_FLAG_CNT1_HELD).countIf off TR.PAD_FLAG_CNT0_HELDOFF).countIf a.expired
            TR.PAD_FLAG_CNT0_EXPIRED).countIf a.overlap TR.PAD_FLAG_CNT1_OVERLAP

/-- The slots that hold ticks of a window, in slot order. -/
def windowSlots (a : Accept) (t : Tladon) : List (Nat × Slot) :=
  t.pad.slots.filter fun p =>
    let t0 := t.slotTick p.1
    overlaps a.t0 a.t1 t0 ((t0 + 32) % 2 ^ 42)

/-- The window of an accept is closed (R219). -/
def windowClosed (now : Nat) (a : Accept) (t : Tladon) : Bool :=
  let last := t.slotOf ((a.t1 + 2 ^ 42 - 1) % 2 ^ 42)
  t.passed now ((t.slotTick (last + 1) + 2560) % 2 ^ 42) && (t.windowSlots a).all (·.2.closed)

/-- The stored words whose leading edge lies in a window (R219). -/
def windowWords (a : Accept) (t : Tladon) : List HWord :=
  (((t.windowSlots a).map (·.2.words)).flatten).filter fun w =>
    decide (0 ≤ dist w.tick a.t0) && decide (dist w.tick a.t1 < 0)

/-- The fragment of the oldest accept is built and sent (R219, R224–R229). -/
def fragmentBuild (now corr : Nat) (bad : List Nat) (t : Tladon) : Tladon :=
  match t.pad.accQ with
  | [] => t
  | a :: r =>
    if t.state = 3 ∧ (a.form ≠ 0 ∨ t.windowClosed now a) then
      let slots := t.windowSlots a
      let all := if a.form = 0 then t.windowWords a else []
      let max' := t.get TR.PAD_FRAG_MAX_WORDS
      let cut := decide (max' ≠ 0) && decide (max' < all.length)
      let taken := if cut then all.take max' else all
      let ws := readWords bad taken
      let badN := taken.length - ws.length
      let loss := slots.any (·.2.loss)
      let ecc := slots.any (·.2.ecc) || decide (0 < badN)
      let t := if a.form = 0 then t.countEcc taken.length corr bad else t
      let u := a.num % t.lanes
      let t := t.sendOn 2 ⟨control 0x01 [(55, 42, a.num), (41, 0, a.t0)], none⟩ (t.copies u)
      let t := t.sendHits u ws
      let crc := crc16 ((ws.map fun w => beBytes 8 w.word.toNat).flatten)
      let t := t.sendOn 2 ⟨control 0x02 [(55, 40, ws.length), (39, 39, b2n loss), (38, 38, b2n ecc),
        (37, 37, b2n a.expired), (36, 36, b2n cut), (35, 35, b2n a.overlap),
        (34, 34, b2n a.heldoff), (33, 33, b2n a.held), (32, 32, b2n a.dropped), (31, 18, a.num),
        (15, 0, crc)], none⟩ (t.copies u)
      let t := (t.countIf cut TR.PAD_FLAG_CNT0_TRUNC).add TR.PAD_LOSS_TR_TRUNC_WORDS
        (all.length - taken.length)
      let t := t.countIf (loss || ecc) TR.PAD_FLAG_CNT1_LOSSY
      t.modPad fun p => { p with accQ := r }
    else t

/-! ### Frame boundary, hold and configuration -/

/-- A change of bonding takes effect (LINK_CFG, R293). -/
def linkApply (now : Nat) (t : Tladon) : Tladon :=
  match t.linkDue with
  | some (v, due) =>
    if due ≤ now then
      let t : Tladon := { t with linkDue := none }.sets [(TR.LINK_CFG_MIRROR, bits 2 2 v),
        (TR.LINK_CFG_BOND, bits 1 0 v)]
      t.showUps
    else t
  | none => t

/-- A frame boundary (R231, R245, R250): FRAME_HEAD is due on every uplink, and in streaming the
first frame's STREAM_HEAD is sent; later frames' follow the STREAM_END before them (R689). -/
def frameBoundary (now : Nat) (t : Tladon) : Tladon :=
  if t.locked && t.count now % 65536 == 0 then
    let f := t.frame now
    let t : Tladon := { t with ups := t.ups.map fun u => { u with head := some f } }
    let t := t.linkApply now
    if t.state == 3 && t.streaming && t.pad.frames.isEmpty then t.streamHead f else t
  else t

/-- A hold request takes effect at the next slot boundary (R235). -/
def holdRequest (now : Nat) (v : Bool) (t : Tladon) : Tladon :=
  let c := t.count now
  let next := t.slotTick (t.slotOf c + 1)
  (t.set TR.PAD_CTRL_HOLD (b2n v)).modPad fun p => { p with
    holdDue := some (now + (dist next c).toNat) }

/-- The requested hold takes effect (R235). -/
def holdChange (now : Nat) (t : Tladon) : Tladon :=
  match t.pad.holdDue with
  | some d =>
    if d ≤ now then
      (t.set TR.PAD_STATUS_HOLD (t.get TR.PAD_CTRL_HOLD)).modPad fun p => { p with holdDue := none }
    else t
  | none => t

/-- A write to PAD_CFG, _WIN, _HOLDOFF, _FRAG or _PRIM (R218, R243). -/
def padConfig (a v : Nat) (t : Tladon) : Tladon :=
  if t.state = 3 then t.set TR.PAD_STATUS_WR_IGNORED 1
  else
    let t := match regAt TR.rows a with
      | some fs => { t with regs := t.regs.write false fs v }
      | none => t
    t.set TR.PAD_STATUS_CFG_ERR (b2n (decide (4096 < t.get TR.PAD_WIN_W_PRE + t.get TR.PAD_WIN_W_POST)
      || t.get TR.PAD_WIN_W_POST == 0))

/-! ### Primitives -/

/-- Primitives are formed for a slot: in ACQUIRING with EN = 1, whole slots after entry (R236,
R242). -/
def primSlot (now k : Nat) (t : Tladon) : Bool :=
  t.state == 3 && t.on TR.PAD_PRIM_EN
    && decide (0 ≤ dist (t.slotTick k) (t.count now + 2 ^ 42 - (now - t.pad.entry)))

/-- Count and sum of one group in a slot, as the 14 bits COUNT, SUM (R236, R238). -/
def primGroup (k g : Nat) (t : Tladon) : Nat :=
  let hits := t.pad.prims.filter fun p => p.slot == k && p.ch / 64 == g
  let sum := (hits.map fun p => p.len.getD t.clip).sum
  min 127 hits.length * 128 + min 127 (sum / 2 ^ min 4 (t.get TR.PAD_PRIM_UNIT))

/-- The primitive word of half `h` of a slot (R238), absent where DENSE = 0 and no group counts
(R239). -/
def primWord (k h : Nat) (t : Tladon) : Option Word64 :=
  let g (i : Nat) : Nat := t.primGroup k (4 * h + i)
  if t.on TR.PAD_PRIM_DENSE || (List.range 4).any fun i => g i / 128 != 0 then
    some (word64 [(63, 62, 2), (61, 61, h), (60, 56, k), (55, 42, g 0), (41, 28, g 1),
      (27, 14, g 2), (13, 0, g 3)])
  else none

/-- The primitive words of a slot are packed, 64 ticks after its first tick (R236–R239). -/
def primForm (now k : Nat) (t : Tladon) : Tladon :=
  if t.primSlot now k && t.passed now ((t.slotTick k + 64) % 2 ^ 42) then
    let ws := (t.primWord k 0, t.primWord k 1)
    t.modPad fun p => { p with
      prims := p.prims.filter (·.slot != k)
      formed := SMap.insert k ws p.formed }
  else t

/-- The primitive header byte (R253). -/
def primHeader (ws : Option Word64 × Option Word64) : Nat :=
  (if ws.1.isSome then 0x0F else 0) + (if ws.2.isSome then 0xF0 else 0)

end Tladon

/-- HIT_QUEUE_DRAIN (R210). -/
def execHitQueueDrain (port g err : Nat) (s : State) : Res :=
  .next <| s.modTl port (Tladon.drain s.now g err)

/-- SLOT_CLOSE (R212): `corr` and `bad` are the memory errors the read of a streamed slot meets. -/
def execSlotClose (port slot corr : Nat) (bad : List Nat) (s : State) : Res :=
  .next <| s.modTl port (Tladon.slotClose s.now slot corr bad)

/-- SLOT_RELEASE (R214, R232). -/
def execSlotRelease (port slot : Nat) (s : State) : Res :=
  .next <| s.modTl port (Tladon.slotRelease s.now slot)

/-- ACCEPT_TAKE_EFFECT (R217). -/
def execAcceptTakeEffect (port : Nat) (s : State) : Res :=
  .next <| s.modTl port (Tladon.acceptEffect s.now)

/-- FRAGMENT_BUILD (R219): `corr` and `bad` are the memory errors its reads meet (R215). -/
def execFragmentBuild (port corr : Nat) (bad : List Nat) (s : State) : Res :=
  .next <| s.modTl port (Tladon.fragmentBuild s.now corr bad)

/-- TLADON_FRAME_BOUNDARY (R231, R245). -/
def execTladonFrameBoundary (port : Nat) (s : State) : Res :=
  .next <| s.modTl port (Tladon.frameBoundary s.now)

/-- PAD_CTRL_WRITE (R235). -/
def execPadCtrlWrite (port : Nat) (hold : Bool) (s : State) : Res :=
  .next <| s.modTl port (Tladon.holdRequest s.now hold)

/-- PAD_HOLD_CHANGE (R235). -/
def execPadHoldChange (port : Nat) (s : State) : Res :=
  .next <| s.modTl port (Tladon.holdChange s.now)

/-- PAD_CONFIG_WRITE (R243): `addr` is 0x0800 to 0x0810. -/
def execPadConfigWrite (port addr value : Nat) (s : State) : Res :=
  .next <| s.modTl port (Tladon.padConfig addr value)

/-- PRIMITIVE_FORM (R238). -/
def execPrimitiveForm (port slot : Nat) (s : State) : Res :=
  .next <| s.modTl port (Tladon.primForm s.now slot)

/-- PRIMITIVE_WINDOW (R253, R263): at the slot's gate tick the header and the words leave on uplink 0,
and on uplink 2 in mirror mode, unless RELINK suppresses the window there. -/
def execPrimitiveWindow (port slot : Nat) (s : State) : Res :=
  let t := s.tladon port
  let gate := (t.slotTick slot + 127) % 2 ^ 42
  if t.primSlot s.now slot && t.count s.now == gate && t.upOn then
    let ws := SMap.getD (none, none) slot t.pad.formed
    let words := [ws.1, ws.2].filterMap id
    let s := (t.copies 0).foldl (fun s k =>
      if s.now < (t.up k).mute then s.modTl port (Tladon.add (TR.LINK_UP_CNT_PRIM_SUPPRESSED k) 1)
      else s.emit (.window port k slot (Tladon.primHeader ws) words)) s
    .next <| s.modTl port (Tladon.modPad fun p => { p with formed := SMap.erase slot p.formed })
  else .next s

end Sys2Proof.Machine
end

