-- ==== Sys2Proof/Machine/TlBus.lean ====
section
/-! DEFINITION. Tladon's register space: reads with their live values, clears and latches, and writes
with the rule of each block (R17, R271–R275, R292, R293, R663, R664). -/

namespace Sys2Proof.Machine

open Sys2Proof

namespace Tladon

/-- The registers of the SAMP block (R663). -/
def isSamp (a : Nat) : Bool :=
  (decide (0x900 ≤ a) && decide (a < 0x9C0)) || (decide (0xA00 ≤ a) && decide (a < 0xB00))

/-- The fields of the register at an address; none where it names no register (R664), or where its
unit is absent (R201). -/
def fields (a : Nat) (t : Tladon) : Option (List Fld) :=
  if a % 4 != 0 || (isSamp a && t.tl512t) then none else regAt TR.rows a

/-- CAL_TAB_DATA: the count and the table entry that CAL_TAB_SEL selects; larger selectors read
zero. -/
def calData (t : Tladon) : Nat × Nat :=
  let i := t.get TR.CAL_TAB_SEL_INTERP
  let r := t.get TR.CAL_TAB_SEL_RAW
  if 1026 < i ∨ 383 < r then (0, 0)
  else if t.on TR.CAL_TAB_SEL_SHADOW then
    (min (2 ^ 24 - 1) (SMap.getD 0 r (SMap.getD [] i t.cal.hist)),
      (SMap.getD [] i t.cal.shadow).getD r 0)
  else (min (2 ^ 24 - 1) (SMap.getD 0 r (SMap.getD [] i t.cal.activeHist)), t.fineNow i r)

/-- The mask of samplers in the given states. -/
def sampMask (f : Nat → Bool) (t : Tladon) : Nat :=
  ((List.range 8).filter fun g => f (t.samp g).st).foldl (fun m g => m + 2 ^ g) 0

/-- The registers with the fields that follow the machine at address `a`; `free` is the value the
spec leaves open (R40). -/
def live (now free a : Nat) (t : Tladon) : RegFile :=
  let m := t.regs
  if a = TR.ID_CAP then
    m.sets [(TR.ID_CAP_VARIANT, if t.tl512t then 2 else 1),
      (TR.ID_CAP_SAMP_COUNT, if t.tl512t then 0 else 8), (TR.ID_CAP_SAMP, b2n (!t.tl512t))]
  else if a = TR.TIME_COUNT_LO then
    m.set TR.TIME_COUNT_LO_COUNT_LO (if t.locked then t.count now else free)
  else if a = TR.CAL_TAB_DATA then
    m.sets [(TR.CAL_TAB_DATA_COUNT, t.calData.1), (TR.CAL_TAB_DATA_BIN, t.calData.2)]
  else if a = TR.PAD_STATUS then
    m.sets [(TR.PAD_STATUS_FILL, t.fill), (TR.PAD_STATUS_ACC_DEPTH, t.pad.accQ.length)]
  else if a = TR.SAMP_STATUS then
    m.sets [(TR.SAMP_STATUS_ARMED, t.sampMask (· == 2)),
      (TR.SAMP_STATUS_FROZEN, t.sampMask (· == 5))]
  else if 0x1000 ≤ a ∧ a < 0x3000 ∧ a % 16 = 8 then
    let c := (a - 0x1000) / 16
    m.sets [(TR.CH_STATUS_SETTLING c, b2n (t.settling now c)),
      (TR.CH_STATUS_CLAMP_NOW c, b2n (t.chan c).clampOn)]
  else m

/-- The value a register reads, without side effects (REG_PEEK, R272). -/
def peek (now free a : Nat) (t : Tladon) : Nat :=
  match t.fields a with
  | some fs => (t.live now free a).word fs
  | none => 0

/-- What a normal read changes: RC fields clear and companions are latched (R17, TIME_COUNT_LO,
SURVEY_RATIO_LO). -/
def readEffect (now free a : Nat) (t : Tladon) : Tladon :=
  match t.fields a with
  | none => t
  | some fs =>
    let t : Tladon := { t with regs := t.regs.clearRC fs }
    if a = TR.TIME_COUNT_LO then
      t.set TR.TIME_COUNT_HI_COUNT_HI ((if t.locked then t.count now else free) / 2 ^ 32)
    else if a = TR.SURVEY_RATIO_LO then t.surveyLatch
    else t

/-- A write to SURVEY_CTRL (R151, R158). -/
def surveyCtrl (now v : Nat) (t : Tladon) : Tladon :=
  let t := t.set TR.SURVEY_CTRL_CONT (bits 3 3 v)
  let t := if bit 1 v then t.abortGate 3 else t
  let t := if bit 0 v then t.surveyStart now else t
  if bit 2 v then t.surveyArm now else t

/-- A write to SAMP_CTRL (R183, R188, R194). -/
def sampCtrl (now v : Nat) (t : Tladon) : Tladon :=
  ((t.disarmMask (bits 23 16 v)).forceMask now (bits 15 8 v)).armMask now (bits 7 0 v)

/-- A write to LINK_CFG: it takes effect at the next frame boundary (R293). -/
def linkCfg (now v : Nat) (t : Tladon) : Tladon :=
  if t.state == 1 || t.state == 2 then
    { t with linkDue := some (v, if t.locked then now + (65536 - t.count now % 65536) else now) }
  else t

/-- A write to a register by the rule of its block (R17, R274). -/
def write (now a v : Nat) (t : Tladon) : Tladon :=
  match t.fields a with
  | none => t
  | some fs =>
    if a = TR.LINK_CFG then t.linkCfg now v
    else if a = TR.SURVEY_CTRL then t.surveyCtrl now v
    else if 0x304 ≤ a ∧ a ≤ 0x310 then t.surveyCfgWrite a v
    else if a = TR.CAL_CTRL then t.calCtrlWrite now v
    else if 0x400 ≤ a ∧ a < 0x500 then t.intWrite now a v
    else if 0x800 ≤ a ∧ a ≤ 0x810 then t.padConfig a v
    else if a = TR.PAD_CTRL then t.holdRequest now (bit 0 v)
    else if a = TR.SAMP_CTRL then t.sampCtrl now v
    else if a = TR.SAMP_REF then t.refWrite now (bit 0 v)
    else if 0x940 ≤ a ∧ a < 0x9C0 ∧ a % 16 < 8 then t.trimWrite now ((a - 0x940) / 16) (a % 16) v
    else if 0xA00 ≤ a ∧ a < 0xB00 ∧ a % 32 < 28 then t.sampCfg now ((a - 0xA00) / 32) (a % 32) v
    else if a = TR.MON_CTRL then t.monCtrlWrite now v
    else if 0x1000 ≤ a ∧ a < 0x3000 ∧ a % 16 = 0 then t.chCfg now ((a - 0x1000) / 16) v
    else if 0x1000 ≤ a ∧ a < 0x3000 ∧ a % 16 = 4 then t.chThr now ((a - 0x1000) / 16) v
    else { t with regs := t.regs.write false fs v }

end Tladon

/-- LINK_CFG_WRITE (R293). -/
def execLinkCfgWrite (port value : Nat) (s : State) : Res :=
  .next <| s.modTl port (Tladon.linkCfg s.now value)

end Sys2Proof.Machine
end

