-- ==== Sys2Proof/Machine/TlLinks.lean ====
section
/-! DEFINITION. Tladon's links: downlink cells and commands, claims, changes of state, and the blocks of
its uplinks (spec/08 R244–R285; spec/20 R634). -/

namespace Sys2Proof.Machine

open Sys2Proof

namespace Tladon

/-! ### Changes of state -/

/-- STATE LISTEN (R283). -/
def stateListen (now : Nat) (t : Tladon) : Tladon :=
  if t.state = 1 then t else (t.changeState now 1 2).showUps

/-- STATE CONFIGURE (R284): from LISTENING at once, from ACQUIRING at the next slot boundary. -/
def stateConfigure (now : Nat) (t : Tladon) : Tladon :=
  if t.state = 1 then t.changeState now 2 2
  else if t.state = 3 then
    { t with sched := some (2, now + (dist (t.slotTick (t.slotOf (t.count now) + 1))
      (t.count now)).toNat) }
  else t

/-- STATE ACQUIRE (R284): due 128 Datum cycles after the command's CRC cell. -/
def stateAcquire (now : Nat) (t : Tladon) : Tladon :=
  if t.state = 2 then { t with sched := some (3, now + 4096) } else t

/-- STATE QUIET (R284): the STATE word is sent, and power-down waits for the next frame boundary. -/
def stateQuiet (now : Nat) (t : Tladon) : Tladon :=
  { t.changeState now 4 2 with
    sched := some (4, now + (65536 - t.count now % 65536)) }

/-- STATE ACQUIRE takes effect at the first frame boundary that satisfies R284. -/
def acquireEffect (now : Nat) (t : Tladon) : Tladon :=
  match t.sched with
  | some (3, due) =>
    if due ≤ now ∧ t.locked ∧ t.count now % 65536 = 0 ∧ t.epoch.isNone then t.changeState now 3 2
    else t
  | _ => t

/-- STATE CONFIGURE from ACQUIRING takes effect (R284). -/
def configureEffect (now : Nat) (t : Tladon) : Tladon :=
  match t.sched with
  | some (2, due) => if due ≤ now then t.changeState now 2 2 else t
  | _ => t

/-- A quiet Tladon powers down its uplinks (R284). -/
def powerDown (now : Nat) (t : Tladon) : Tladon :=
  match t.sched with
  | some (4, due) => if due ≤ now then ({ t with sched := none } : Tladon).showUps else t
  | _ => t

/-- The fields that RESET leaves: LINK_CFG, the serial, the state, and those that report the clock,
the downlinks and their claims (R272; log entry 7). -/
def resetKeeps : List Fld :=
  [TR.LINK_CFG_MIRROR, TR.LINK_CFG_BOND, TR.ID_SERIAL_SERIAL, TR.ID_STATE_CAUSE, TR.ID_STATE_STATE,
    TR.LINK_STATUS_NONE, TR.LINK_STATUS_OBEYED, TR.LINK_STATUS_CLAIM_A, TR.LINK_STATUS_CLAIM_B,
    TR.LINK_STATUS_LOCK_A, TR.LINK_STATUS_LOCK_B, TR.LINK_CLAIM_A_CLAIM, TR.LINK_CLAIM_B_CLAIM,
    TR.TIME_STATUS_PLL_LOCK, TR.TIME_STATUS_CDR_LOCK, TR.TIME_STATUS_SRC, TR.TIME_STATUS_HOLDOVER]

/-- Registers after a reset that keeps some fields. -/
def keepOnly (keep : List Fld) (m : RegFile) : RegFile :=
  m.filter fun p => keep.any fun f => f.key == p.1

/-- RESET (R272): every register but LINK_CFG returns to its reset value, the state is LISTENING. -/
def resetCmd (now : Nat) (t : Tladon) : Tladon :=
  let t := t.changeState now 1 3
  let t : Tladon := { t with
    regs := keepOnly resetKeeps t.regs
    pad := Paddock.empty
    samps := []
    refAt := none
    gate := none
    arm := none
    sweep := none
    ints := []
    chans := t.chans.map fun p => (p.1, { Chan.idle with
      modeEnd := p.2.modeEnd, cntEnd := p.2.cntEnd, clampOn := p.2.clampOn
      clampRel := p.2.clampRel }) }
  t.showUps

/-! ### Claims -/

/-- CLAIM (R280): the claim of that downlink becomes valid. -/
def claim (now : Nat) (d : Bool) (v : Nat) (t : Tladon) : Tladon :=
  let t := t.modDl d fun x => { x with claimAt := some now }
  if d then t.sets [(TR.LINK_CLAIM_B_CLAIM, v), (TR.LINK_STATUS_CLAIM_B, 1)]
  else t.sets [(TR.LINK_CLAIM_A_CLAIM, v), (TR.LINK_STATUS_CLAIM_A, 1)]

/-- The claim of a downlink becomes invalid (R280). -/
def dropClaim (d : Bool) (t : Tladon) : Tladon :=
  (t.modDl d fun x => { x with claimAt := none }).set
    (if d then TR.LINK_STATUS_CLAIM_B else TR.LINK_STATUS_CLAIM_A) 0

/-- No correct CLAIM within 4,096 Datum cycles (R280). -/
def claimExpiry (now : Nat) (d : Bool) (t : Tladon) : Tladon :=
  match (t.dl d).claimAt with
  | some c => if c + 131072 ≤ now then t.dropClaim d else t
  | none => t

/-! ### Which commands are obeyed -/

/-- A downlink is in cell lock (R268). -/
def cellLock (d : Bool) (t : Tladon) : Bool := t.on (if d then TR.LINK_STATUS_LOCK_B else TR.LINK_STATUS_LOCK_A)

/-- Downlink receivers run in every state but POWERED, in cell lock (R268, R283). -/
def hears (d : Bool) (t : Tladon) : Bool := t.powered && t.state != 0 && t.cellLock d

/-- The states in which an opcode is obeyed, with the STATE argument (R274). -/
def allowed (op arg : Nat) (t : Tladon) : Bool :=
  let st := t.state
  let run := st == 1 || st == 2 || st == 3
  if op = 0x04 then st == 2
  else if op = 0x05 then st == 2 || st == 3
  else if op = 0x08 then
    let a := arg % 8
    if st = 1 then a == 1 || a == 4 || (a == 2 && t.locked)
    else if st = 4 then a == 1
    else run && (a == 1 || a == 2 || a == 3 || a == 4)
  else if op = 0x0A then true
  else run

/-- Refuse a command (R272–R274). -/
def refuse (t : Tladon) : Tladon := t.add TR.LINK_CMD_CNT_REFUSED 1

/-- The rules of R273 and R274 applied to a command from a downlink: refused and counted, or obeyed,
counted and given its effect. -/
def gate' (d : Bool) (op arg : Nat) (f : Tladon → Tladon) (t : Tladon) : Tladon :=
  if !t.hears d then t
  else
    let from' :=
      if op = 0x0A then true
      else if op = 0x10 ∨ op = 0x11 then !d || t.mirror
      else t.obeyed == some d
    if from' && t.allowed op arg then f (t.add TR.LINK_CMD_CNT_OBEYED 1) else t.refuse

/-! ### Commands -/

/-- A REG_DATA word (R275). -/
def regData (tag a v : Nat) : Word64 :=
  control 0x20 [(55, 48, tag), (47, 32, a), (31, 0, v)]

/-- REG_WRITE: the value read back is returned (R272). -/
def regWrite (now free tag a v : Nat) (t : Tladon) : Tladon :=
  let t := t.write now a v
  t.sendLow 1 (regData tag a (t.peek now free a))

/-- REG_READ (R275). -/
def regRead (now free tag a : Nat) (t : Tladon) : Tladon :=
  let v := t.peek now free a
  (t.readEffect now free a).sendLow 1 (regData tag a v)

/-- REG_PEEK (R272). -/
def regPeek (now free tag a : Nat) (t : Tladon) : Tladon :=
  t.sendLow 1 (regData tag a (t.peek now free a))

/-- REPLAY of RS block `n` on uplink `k` of the copy of downlink `d` (R258, R273). -/
def replayCmd (d : Bool) (k n : Nat) (t : Tladon) : Tladon :=
  let j := k + 2 * b2n d
  if t.active.contains j then
    t.modUp j fun u =>
      if u.held.contains (n % 128, false) then { u with
        held := u.held.map fun p => if p.1 = n % 128 then (p.1, true) else p
        replays := u.replays ++ [n % 128] }
      else { u with nacks := u.nacks ++ [n % 128] }
  else t

/-- RELINK: no windows on the masked uplinks until the end of the following frame (R263). -/
def relinkCmd (now : Nat) (d : Bool) (mask : Nat) (t : Tladon) : Tladon :=
  { t with ups := t.ups.mapIdx fun j u =>
      let k := j - 2 * b2n d
      if 2 * b2n d ≤ j ∧ bit k (mask % 16) then
        { u with mute := now + 131072 - t.count now % 65536 }
      else u }

/-- EPOCH from a downlink (R41, R42): a refusal by state sets the flag and counts; low bits of J that
are not zero only set the flag. -/
def epochFrom (now : Nat) (d : Bool) (j : Nat) (t : Tladon) : Tladon :=
  if !t.hears d then t
  else if t.obeyed != some d then t.refuse
  else if t.state != 2 then t.refuse.set TR.TIME_STATUS_EPOCH_REFUSED 1
  else if j % 32 != 0 then t.set TR.TIME_STATUS_EPOCH_REFUSED 1
  else (t.add TR.LINK_CMD_CNT_OBEYED 1).epochCmd (now - 96) j

/-- STATE with an argument (R283, R284). -/
def stateCmd (now arg : Nat) (t : Tladon) : Tladon :=
  match arg % 8 with
  | 1 => t.stateListen now
  | 2 => t.stateConfigure now
  | 3 => t.stateAcquire now
  | 4 => t.stateQuiet now
  | _ => t

/-- A command whose CRC is correct, from its header and payload (R271–R275). -/
def runCommand (now free : Nat) (d : Bool) (h p : Nat) (t : Tladon) : Tladon :=
  let op := bits 31 24 h
  let tag := bits 23 16 h
  let arg := bits 15 0 h
  if op = 0x04 then t.epochFrom now d (bits 9 0 arg * 2 ^ 32 + p)
  else t.gate' d op arg fun t =>
    if op = 0x01 then t.regWrite now free tag arg p
    else if op = 0x02 then t.regRead now free tag arg
    else if op = 0x03 then t.regPeek now free tag arg
    else if op = 0x05 then t.monStart now
    else if op = 0x06 then t.holdRequest now true
    else if op = 0x07 then t.holdRequest now false
    else if op = 0x08 then t.stateCmd now arg
    else if op = 0x09 then t.resetCmd now
    else if op = 0x0A then t.claim now d p
    else if op = 0x10 then t.replayCmd d (bits 8 7 arg) (bits 6 0 arg)
    else t.relinkCmd now d (bits 3 0 arg)

/-- The cells of a command by its opcode (R272). -/
def cmdCells (op : Nat) : Option Nat :=
  if op = 0x01 ∨ op = 0x04 ∨ op = 0x0A then some 3
  else if op = 0x02 ∨ op = 0x03 ∨ (0x05 ≤ op ∧ op ≤ 0x09) ∨ op = 0x10 ∨ op = 0x11 then some 2
  else none

/-- LINK_DL_ERR of a downlink. -/
def errCorr (d : Bool) : Fld := if d then TR.LINK_DL_ERR_B_CORR else TR.LINK_DL_ERR_A_CORR
def errUncorr (d : Bool) : Fld := if d then TR.LINK_DL_ERR_B_UNCORR else TR.LINK_DL_ERR_A_UNCORR
def errCrc (d : Bool) : Fld := if d then TR.LINK_DL_ERR_B_CMD_CRC else TR.LINK_DL_ERR_A_CMD_CRC

/-- The command words received so far are complete: the CRC decides (R271). -/
def finishCommand (now free : Nat) (d : Bool) (ws : List Nat) (t : Tladon) : Tladon :=
  let t := t.modDl d fun x => { x with cmd := none }
  let body := ws.dropLast
  if bits 31 16 (ws.getLastD 0) = crc16 ((body.map (beBytes 4)).flatten) then
    t.runCommand now free d (body.headD 0) (body.getD 1 0)
  else t.add (errCrc d) 1

/-- The command field of a good cell (R271, R272). -/
def commandWord (now free : Nat) (d : Bool) (start : Bool) (w : Nat) (t : Tladon) : Tladon :=
  if start then
    let t := if (t.dl d).cmd.isSome then t.add (errCrc d) 1 else t
    match cmdCells (bits 31 24 w) with
    | none => (t.modDl d fun x => { x with cmd := none }).refuse
    | some _ => t.modDl d fun x => { x with cmd := some ⟨[w], now - 32⟩ }
  else match (t.dl d).cmd with
    | none => t
    | some c =>
      let ws := c.words ++ [w]
      if cmdCells (bits 31 24 (ws.headD 0)) = some ws.length then t.finishCommand now free d ws
      else t.modDl d fun x => { x with cmd := some { c with words := ws } }

/-! ### Downlink cells -/

/-- The position of data bit `i` in the code of R267: the (i + 1)-th that is no power of two. -/
def hammingPos (i : Nat) : Nat :=
  let p := i + 3
  if p < 4 then 3 else if i < 4 then i + 4 else if i < 11 then i + 5 else if i < 26 then i + 6
  else i + 7

/-- CHECK[5:0] of D (R267). -/
def hamming (d : Nat) : Nat :=
  (List.range 55).foldl (fun a i => if bit i d then a ^^^ hammingPos i else a) 0

/-- CHECK of D, seven bits (R267). -/
def cellCheck (d : Nat) : Nat :=
  let c := hamming d
  c + 64 * b2n (parity d ^^ parity c)

/-- A cell decoded by R267: the data bits, and whether one was corrected; none if uncorrectable. -/
def decodeCell (cell : Nat) : Option (Nat × Bool) :=
  let d := bits 54 0 cell
  let c := bits 61 55 cell
  let s := (c % 64) ^^^ hamming d
  let q := parity d ^^ parity c
  if s = 0 then some (d, q)
  else if !q then none
  else if popcount 6 s = 1 then some (d, true)
  else match (List.range 55).find? fun i => hammingPos i == s with
    | some i => some (d ^^^ 2 ^ i, true)
    | none => none

/-- A cell is good for cell lock: SYNC = 10 and clean or correctable (R268). -/
def goodCell (cell : Nat) : Bool := bits 63 62 cell == 2 && (decodeCell cell).isSome

/-- A marker is stamped on its downlink and returned (R48, R270). -/
def marker (now : Nat) (d : Bool) (num raw : Nat) (t : Tladon) : Tladon :=
  if t.locked && t.on (if d then TR.TIME_CTRL_MARK_B_EN else TR.TIME_CTRL_MARK_A_EN) then
    let tick := t.count now
    let fine := t.fineNow (1025 + b2n d) raw
    let t := if d then t.sets [(TR.TIME_MARK_B_TICK, tick), (TR.TIME_MARK_B_FINE, fine)]
      else t.sets [(TR.TIME_MARK_A_TICK, tick), (TR.TIME_MARK_A_FINE, fine)]
    t.sendLow 1 (control 0x08 [(55, 55, b2n d), (54, 51, num), (50, 9, tick), (8, 1, fine)])
  else t

/-- Cell lock is lost: the claim ends with it, and the command in progress is discarded; it counts
in ABANDONED when the obeyed downlink changes by it (R268, R280, R282). -/
def loseLock (d : Bool) (t : Tladon) : Tladon :=
  let t := (t.dropClaim d).set (if d then TR.LINK_STATUS_LOCK_B else TR.LINK_STATUS_LOCK_A) 0
  let t := match (t.dl d).cmd with
    | none => t
    | some _ =>
      let t := t.modDl d fun x => { x with cmd := none }
      if t.claimed = t.obeyed then t.add (errCrc d) 1 else t.add TR.LINK_CMD_CNT_ABANDONED 1
  t.modDl d fun x => { x with good := 0, bad := 0 }

/-- The contents of a good cell in cell lock, whose last bit arrives now (R266–R271). -/
def cellBody (now free : Nat) (d : Bool) (data raw : Nat) (t : Tladon) : Tladon :=
  let t := if bit 37 data then t.marker (now - 32) d (bits 36 33 data) raw else t
  let t := if bit 54 data ∧ t.obeyed = some d then
      t.modPad fun p => { p with arriving := p.arriving ++ [(now + 32, bits 53 38 data)] }
    else t
  t.commandWord now free d (bit 32 data) (bits 31 0 data)

/-- A downlink cell (R267, R268). -/
def cell (now free : Nat) (d : Bool) (w raw : Nat) (t : Tladon) : Tladon :=
  if t.powered && t.state != 0 && (t.dl d).cdr then
    if t.cellLock d then
      if goodCell w then
        let t := t.modDl d fun x => { x with bad := 0 }
        match decodeCell w with
        | some (data, corr) =>
          (if corr then t.add (errCorr d) 1 else t).cellBody now free d data raw
        | none => t
      else
        let t := t.add (errUncorr d) 1
        let bad := (t.dl d).bad + 1
        if bad = 8 then t.loseLock d else t.modDl d fun x => { x with bad := bad }
    else if goodCell w then
      let good := (t.dl d).good + 1
      if good = 16 then (t.modDl d fun x => { x with good := 0, bad := 0 }).set
          (if d then TR.LINK_STATUS_LOCK_B else TR.LINK_STATUS_LOCK_A) 1
      else t.modDl d fun x => { x with good := good }
    else t.modDl d fun x => { x with good := 0 }
  else t

/-! ### Uplink blocks -/

/-- The block stream advances by 66 bits; at the end of an RS block the waiting replays and the next
original block follow (R246–R248, R258): the uplink and the RS blocks replayed. -/
def advance (u : Uplink) : Uplink × List Nat :=
  let n := u.bits + 66
  if n < 1904 then ({ u with bits := n }, [])
  else
    let rs := (u.rs + 1) % 128
    ({ u with bits := n - 1904, rs := rs, held := ((rs, false) :: u.held).take 64, replays := [] },
      u.replays)

/-- The LANE_ID body of uplink `k` (R251). -/
def laneId (k : Nat) (t : Tladon) : Word64 :=
  let m := if t.mirror then 2 else 4
  word64 [(63, 56, 0x02), (55, 24, t.get TR.ID_SERIAL_SERIAL),
    (23, 22, if t.lanes = 1 then 0 else if t.lanes = 2 then 1 else 2),
    (21, 20, k % m), (19, 19, k / m), (18, 16, t.state), (15, 15, b2n (t.obeyed == some true)),
    (14, 14, b2n t.obeyed.isNone), (13, 13, b2n t.tie), (12, 12, t.get TR.PAD_STATUS_HOLD),
    (11, 11, b2n t.hasSamp)]

/-- FRAME_HEAD of frame `f` (R249). -/
def frameHead (f offset : Nat) (u : Uplink) : Word64 :=
  word64 [(63, 56, 0x01), (55, 30, f), (29, 21, offset), (20, 7, u.words), (6, 0, u.rs)]

/-- What the next block position of an uplink carries (R249, R250, R256, R258): header, body, the
uplink without it, and the slot it no longer pins. -/
def nextBlock (k offset : Nat) (t : Tladon) : Nat × Word64 × Uplink × Option Nat :=
  let u := t.up k
  let next : Uplink := { u with idx := u.idx + 1 }
  match u.head with
  | some f => (2, frameHead f offset u, { u with head := none, idx := 1, words := 0 }, none)
  | none =>
    if u.idx % 181 = 0 ∧ u.idx ≠ 0 then (2, t.laneId k, next, none)
    else match u.nacks, u.c1, u.c2, u.c3 with
      | n :: r, _, _, _ => (2, word64 [(63, 56, 0x03), (55, 49, n)], { next with nacks := r }, none)
      | [], i :: r, _, _ => (1, i.word, { next with c1 := r, words := u.words + 1 }, i.pin)
      | [], [], i :: r, _ => (1, i.word, { next with c2 := r, words := u.words + 1 }, i.pin)
      | [], [], [], i :: r => (1, i.word, { next with c3 := r, words := u.words + 1 }, i.pin)
      | [], [], [], [] => (2, 0, next, none)

end Tladon

/-- A command that arrives on a downlink of the Tladon of a port; a read of an open value advances the
counter of free values. -/
def State.tlCmd (port : Nat) (f : Nat → Nat → Tladon → Tladon) (s : State) : Res :=
  let s' := s.modTl port (f s.now (Config.freeValue s.freeCnt))
  .next { s' with freeCnt := s.freeCnt + 1 }

/-- EPOCH (R41, R42): `dl` is the downlink it arrives on; its CRC cell ends now. -/
def execEpoch (port : Nat) (dl : Bool) (j : Nat) (s : State) : Res :=
  .next <| s.modTl port (Tladon.epochFrom s.now dl j)

/-- REG_WRITE (R272, R274, R275). -/
def execRegWrite (port : Nat) (dl : Bool) (tag addr value : Nat) (s : State) : Res :=
  s.tlCmd port fun now free t => t.gate' dl 0x01 addr (Tladon.regWrite now free tag addr value)

/-- REG_READ (R272, R275). -/
def execRegRead (port : Nat) (dl : Bool) (tag addr : Nat) (s : State) : Res :=
  s.tlCmd port fun now free t => t.gate' dl 0x02 addr (Tladon.regRead now free tag addr)

/-- REG_PEEK (R272, R275). -/
def execRegPeek (port : Nat) (dl : Bool) (tag addr : Nat) (s : State) : Res :=
  s.tlCmd port fun now free t => t.gate' dl 0x03 addr (Tladon.regPeek now free tag addr)

/-- MON_SWEEP (R203, R274). -/
def execMonSweep (port : Nat) (dl : Bool) (s : State) : Res :=
  .next <| s.modTl port fun t => t.gate' dl 0x05 0 (Tladon.monStart s.now)

/-- HOLD (R235). -/
def execHold (port : Nat) (dl : Bool) (s : State) : Res :=
  .next <| s.modTl port fun t => t.gate' dl 0x06 0 (Tladon.holdRequest s.now true)

/-- RELEASE (R235). -/
def execRelease (port : Nat) (dl : Bool) (s : State) : Res :=
  .next <| s.modTl port fun t => t.gate' dl 0x07 0 (Tladon.holdRequest s.now false)

/-- STATE_LISTEN (R283). -/
def execStateListen (port : Nat) (dl : Bool) (s : State) : Res :=
  .next <| s.modTl port fun t => t.gate' dl 0x08 1 (Tladon.stateListen s.now)

/-- STATE_CONFIGURE (R284). -/
def execStateConfigure (port : Nat) (dl : Bool) (s : State) : Res :=
  .next <| s.modTl port fun t => t.gate' dl 0x08 2 (Tladon.stateConfigure s.now)

/-- STATE_ACQUIRE (R284). -/
def execStateAcquire (port : Nat) (dl : Bool) (s : State) : Res :=
  .next <| s.modTl port fun t => t.gate' dl 0x08 3 (Tladon.stateAcquire s.now)

/-- STATE_QUIET (R284). -/
def execStateQuiet (port : Nat) (dl : Bool) (s : State) : Res :=
  .next <| s.modTl port fun t => t.gate' dl 0x08 4 (Tladon.stateQuiet s.now)

/-- STATE_ACQUIRE_EFFECT (R284). -/
def execStateAcquireEffect (port : Nat) (s : State) : Res :=
  .next <| s.modTl port (Tladon.acquireEffect s.now)

/-- STATE_CONFIGURE_EFFECT (R284). -/
def execStateConfigureEffect (port : Nat) (s : State) : Res :=
  .next <| s.modTl port (Tladon.configureEffect s.now)

/-- QUIET_POWER_DOWN (R284). -/
def execQuietPowerDown (port : Nat) (s : State) : Res :=
  .next <| s.modTl port (Tladon.powerDown s.now)

/-- RESET (R272). -/
def execReset (port : Nat) (dl : Bool) (s : State) : Res :=
  .next <| s.modTl port fun t => t.gate' dl 0x09 0 (Tladon.resetCmd s.now)

/-- CLAIM (R280). -/
def execClaim (port : Nat) (dl : Bool) (value : Nat) (s : State) : Res :=
  .next <| s.modTl port fun t => t.gate' dl 0x0A 0 (Tladon.claim s.now dl value)

/-- REPLAY (R258). -/
def execReplay (port : Nat) (dl : Bool) (k num : Nat) (s : State) : Res :=
  .next <| s.modTl port fun t => t.gate' dl 0x10 0 (Tladon.replayCmd dl k num)

/-- RELINK (R263). -/
def execRelink (port : Nat) (dl : Bool) (mask : Nat) (s : State) : Res :=
  .next <| s.modTl port fun t => t.gate' dl 0x11 0 (Tladon.relinkCmd s.now dl mask)

/-- CLAIM_EXPIRY (R280). -/
def execClaimExpiry (port : Nat) (dl : Bool) (s : State) : Res :=
  .next <| s.modTl port (Tladon.claimExpiry s.now dl)

/-- DOWNLINK_CELL_RX (R266–R272): the cell, descrambled, whose last bit arrives now, and the raw code
of the marker's stamp. -/
def execDownlinkCellRx (port : Nat) (dl : Bool) (cell raw : Nat) (s : State) : Res :=
  s.tlCmd port fun now free t => t.cell now free dl cell raw

/-- TLADON_DL_CDR_LOCK (R268). -/
def execTladonDlCdrLock (port : Nat) (dl : Bool) (s : State) : Res :=
  .next <| s.modTl port fun t =>
    if t.powered && t.state != 0 then t.modDl dl fun x => { x with cdr := true, good := 0 } else t

/-- TLADON_DL_CDR_LOSS (R268). -/
def execTladonDlCdrLoss (port : Nat) (dl : Bool) (s : State) : Res :=
  .next <| s.modTl port fun t =>
    (if t.cellLock dl then t.loseLock dl else t).modDl dl fun x =>
      { x with cdr := false, good := 0, bad := 0 }

/-- POWERED_TO_LISTENING (R276, R283). -/
def execPoweredToListening (port : Nat) (s : State) : Res :=
  .next <| s.modTl port fun t =>
    if t.powered && t.state == 0 then (t.changeState s.now 1 1).showUps else t

/-- TLADON_POR_RELEASE (R634): every rail is good and the Tladon enters POWERED, its LINK_CFG at the
strap pins (R265). -/
def execTladonPorRelease (port : Nat) (s : State) : Res :=
  .next <| s.modTl port fun t =>
    if t.powered then t
    else { Tladon.reset with tl512t := t.tl512t, straps := t.straps, powered := true }.sets
      [(TR.LINK_CFG_MIRROR, bits 2 2 t.straps), (TR.LINK_CFG_BOND, bits 1 0 t.straps)]

/-- TLADON_RAIL_DROP (R634): every register returns to its reset value, the tick counter stops and
the uplinks turn off. -/
def execTladonRailDrop (port : Nat) (s : State) : Res :=
  .next <| s.modTl port fun t => { Tladon.reset with tl512t := t.tl512t, straps := t.straps }

/-- UPLINK_BLOCK_SEND (R246–R251, R256, R258): the next 66-bit block position of uplink `k`; `offset`
is the count of bits from the frame start that a FRAME_HEAD carries. -/
def execUplinkBlockSend (port k offset : Nat) (s : State) : Res :=
  let t := s.tladon port
  if t.upOn && t.active.contains k then
    let (hdr, body, u, pin) := t.nextBlock k offset
    let (u, again) := Tladon.advance u
    let nack := hdr = 2 ∧ bits 63 56 body.toNat = 3
    let s := s.modTl port fun t =>
      let t := t.modUp k fun _ => u
      let t := match pin with
        | some sl => t.modSlot sl fun x => { x with pins := x.pins - 1 }
        | none => t
      (t.countIf nack (TR.LINK_UP_CNT_NACKED k)).add (TR.LINK_UP_CNT_REPLAYED k) again.length
    let s := s.emit (.upBlock port k hdr body)
    .next <| again.foldl (fun s n => s.emit (.upReplay port k n)) s
  else .next s

end Sys2Proof.Machine
end

