-- ==== Sys2Proof/Machine/WnDeflate.lean ====
section
/-! DEFINITION. The pre-coder, the DEFLATE coder and the stored form (spec/11 R365–R371). Block layout and
the fixed code are those of RFC 1951, to which R368 refers. -/

namespace Sys2Proof.Machine

open Sys2Proof

/-! ### The pre-coder (R365, R366) -/

/-- The words of a section after its section word: `n` of them are still transformed. -/
def precodeFrom : Nat → Nat → Nat → List Nat → List Nat
  | _, _, _, [] => []
  | 0, _, _, w :: r => w :: precodeFrom (bits 57 41 w) 511 0 r
  | n + 1, chPrev, relPrev, w :: r =>
    let ch := bits 61 53 w
    let rel := bits 52 29 w
    (w - ch * 2 ^ 53 - rel * 2 ^ 29 + (ch + 1024 - chPrev - 1) % 512 * 2 ^ 53
      + (rel + 2 ^ 24 - relPrev) % 2 ^ 24 * 2 ^ 29) :: precodeFrom n ch rel r

/-- The body as the engines code it. -/
def precode (l : List Nat) : List Nat := precodeFrom 0 511 0 l

/-- The inverse of the words of a section (R366). -/
def unprecodeFrom : Nat → Nat → Nat → List Nat → List Nat
  | _, _, _, [] => []
  | 0, _, _, w :: r => w :: unprecodeFrom (bits 57 41 w) 511 0 r
  | n + 1, chPrev, relPrev, w :: r =>
    let ch := (chPrev + 1 + bits 61 53 w) % 512
    let rel := (relPrev + bits 52 29 w) % 2 ^ 24
    (w - bits 61 53 w * 2 ^ 53 - bits 52 29 w * 2 ^ 29 + ch * 2 ^ 53 + rel * 2 ^ 29) ::
      unprecodeFrom n ch rel r

/-- The inverse of the pre-coder. -/
def unprecode (l : List Nat) : List Nat := unprecodeFrom 0 511 0 l

/-! ### LZ matching (R368) -/

/-- The hash of the 3 bytes at a position. -/
def lzHash (d : Array Nat) (p : Nat) : Nat :=
  (((d.getD p 0 * 256) ^^^ (d.getD (p + 1) 0 * 16)) ^^^ d.getD (p + 2) 0) % 4096

/-- The length of the match of positions `p` and `j`, at most the fuel. -/
def matchLen (d : Array Nat) (j p : Nat) : Nat → Nat
  | 0 => 0
  | n + 1 => if d.getD j 0 = d.getD p 0 then 1 + matchLen d (j + 1) (p + 1) n else 0

/-- Among candidates, nearest first, the longest match; the search stops at NICE_LEN. -/
def bestMatch (d : Array Nat) (p lim nice : Nat) : List Nat → Nat × Nat → Nat × Nat
  | [], b => b
  | j :: r, b =>
    let m := matchLen d j p lim
    let b := if b.1 < m then (m, p - j) else b
    if nice ≤ b.1 then b else bestMatch d p lim nice r b

/-- The match at a position before `stop`: (length, distance), or length 0. -/
def findMatch (d : Array Nat) (chain nice stop p : Nat) : Nat × Nat :=
  let lim := min 258 (stop - p)
  if lim < 3 then (0, 0)
  else
    let h := lzHash d p
    let cs := (((List.range (min p 32768)).map fun k => p - 1 - k).filter fun j => lzHash d j == h).take chain
    let b := bestMatch d p lim nice cs (0, 0)
    if b.1 < 3 then (0, 0) else b

/-- The tokens of the input from `p` to `stop`: (0, literal) or (length, distance). -/
def tokens (d : Array Nat) (chain nice : Nat) (lazy' : Bool) (stop : Nat) : Nat → Nat → List (Nat × Nat)
  | 0, _ => []
  | fuel + 1, p =>
    if stop ≤ p then []
    else
      let m := findMatch d chain nice stop p
      let n := findMatch d chain nice stop (p + 1)
      if m.1 = 0 then (0, d.getD p 0) :: tokens d chain nice lazy' stop fuel (p + 1)
      else if lazy' && decide (m.1 < n.1) then
        (0, d.getD p 0) :: n :: tokens d chain nice lazy' stop fuel (p + 1 + n.1)
      else m :: tokens d chain nice lazy' stop fuel (p + m.1)

/-! ### The fixed code (RFC 1951) -/

/-- A Huffman code of `n` bits, most significant bit first. -/
def huffBits (n v : Nat) : List Bool := (List.range n).map fun i => bit (n - 1 - i) v

/-- Extra bits, least significant bit first. -/
def extraBits (n v : Nat) : List Bool := (List.range n).map fun i => bit i v

/-- The fixed code of a literal or length symbol. -/
def fixedSym (s : Nat) : List Bool :=
  if s < 144 then huffBits 8 (0x30 + s)
  else if s < 256 then huffBits 9 (0x190 + (s - 144))
  else if s < 280 then huffBits 7 (s - 256)
  else huffBits 8 (0xC0 + (s - 280))

/-- The length symbols: first length and extra bits, from 257 on. -/
def lenTable : List (Nat × Nat) :=
  [(3, 0), (4, 0), (5, 0), (6, 0), (7, 0), (8, 0), (9, 0), (10, 0), (11, 1), (13, 1), (15, 1), (17, 1),
   (19, 2), (23, 2), (27, 2), (31, 2), (35, 3), (43, 3), (51, 3), (59, 3), (67, 4), (83, 4), (99, 4),
   (115, 4), (131, 5), (163, 5), (195, 5), (227, 5), (258, 0)]

/-- The distance symbols: first distance and extra bits. -/
def distTable : List (Nat × Nat) :=
  (List.range 30).map fun c =>
    if c < 4 then (c + 1, 0) else ((2 + c % 2) * 2 ^ (c / 2 - 1) + 1, c / 2 - 1)

/-- The last row of a table whose first value is at most `v`: its index, first value and extra bits. -/
def symOf (t : List (Nat × Nat)) (v : Nat) : Nat × Nat × Nat :=
  (t.foldl (fun (a : Nat × Nat × Nat × Nat) x =>
    if x.1 ≤ v then (a.1 + 1, a.1, x.1, x.2) else (a.1 + 1, a.2)) (0, 0, 0, 0)).2

/-- A token in the fixed code. -/
def fixedToken (t : Nat × Nat) : List Bool :=
  if t.1 = 0 then fixedSym t.2
  else
    let (l, lb, le) := symOf lenTable t.1
    let (c, db, de) := symOf distTable t.2
    fixedSym (257 + l) ++ extraBits le (t.1 - lb) ++ huffBits 5 c ++ extraBits de (t.2 - db)

/-- A block in the fixed code. -/
def fixedBlock (final : Bool) (ts : List (Nat × Nat)) : List Bool :=
  final :: true :: false :: ((ts.map fixedToken).flatten ++ fixedSym 256)

/-- A block: dynamic only where it takes fewer bits (R368). -/
def codeBlock (final : Bool) (ts : List (Nat × Nat)) : List Bool :=
  let f := fixedBlock final ts
  let d := Config.dynamicBlock final ts
  if d.length < f.length then d else f

/-- Bits to bytes, least significant bit first; the last byte is padded with zeros. -/
def packBits : Nat → List Bool → List Nat
  | 0, _ => []
  | _, [] => []
  | n + 1, l => ((List.range 8).foldl (fun a i => a + (if (l[i]?).getD false then 2 ^ i else 0)) 0) ::
    packBits n (l.drop 8)

/-- The raw DEFLATE stream of a body (R368): blocks of 16,384 input bytes. -/
def deflate (chain nice : Nat) (lazy' : Bool) (d : List Nat) : List Nat :=
  let a := d.toArray
  let n := max 1 ((d.length + 16383) / 16384)
  let bs := ((List.range n).map fun k =>
    codeBlock (k + 1 == n) (tokens a chain nice lazy' (min d.length (16384 * (k + 1))) 16384 (16384 * k))).flatten
  packBits (bs.length / 8 + 1) bs

/-! ### The stored form (R371) -/

/-- Stored blocks of what is left of a body. -/
def storedBlocks : Nat → List Nat → List Nat
  | 0, _ => []
  | n + 1, d =>
    let c := d.take 65535
    (if n = 0 then 1 else 0) :: (leBytes 2 c.length ++ leBytes 2 (c.length ^^^ 0xFFFF) ++ c)
      ++ storedBlocks n (d.drop 65535)

/-- The number of stored blocks of `n` bytes. -/
def storedCount (n : Nat) : Nat := max 1 ((n + 65534) / 65535)

/-- The stored form of a body. -/
def storedForm (d : List Nat) : List Nat := storedBlocks (storedCount d.length) d

/-- S of R370. -/
def storedSize (n : Nat) : Nat := n + 5 * storedCount n

end Sys2Proof.Machine
end

