-- ==== Sys2Proof/Machine/RegsWonan.lean ====
section
/-! DEFINITION. The registers of Wonan: every register of the index of spec/21 with the fields of its own chapter, access code and reset value. Factory values, part values and pin values reset as log entries 3 and 4 say. -/

namespace Sys2Proof.WR

/-! ### spec/00_scope.md -/
def SYS_CAP : Nat := 0x40000000
def SYS_CAP_VARIANT : Fld := ⟨SYS_CAP, 31, 28, .ro, 0⟩
def SYS_CAP_EP_COUNT : Fld := ⟨SYS_CAP, 27, 24, .ro, 0⟩
def SYS_CAP_IN_COUNT : Fld := ⟨SYS_CAP, 23, 16, .ro, 0⟩
def SYS_CAP_CMP_COUNT : Fld := ⟨SYS_CAP, 15, 8, .ro, 0⟩
def SYS_CAP_HIGH_LANES : Fld := ⟨SYS_CAP, 2, 2, .ro, 0⟩
def SYS_CAP_HIGH_PORTS : Fld := ⟨SYS_CAP, 1, 1, .ro, 0⟩
def SYS_CAP_CMP : Fld := ⟨SYS_CAP, 0, 0, .ro, 0⟩
/-! ### spec/20_power_and_startup.md -/
def SYS_SERIAL_LO : Nat := 0x40000004
def SYS_SERIAL_LO_SERIAL : Fld := ⟨SYS_SERIAL_LO, 31, 0, .ro, 0⟩
def SYS_SERIAL_HI : Nat := 0x40000008
def SYS_SERIAL_HI_SERIAL : Fld := ⟨SYS_SERIAL_HI, 31, 0, .ro, 0⟩
def SYS_STATE : Nat := 0x4000000C
def SYS_STATE_WAS_ADMITTED : Fld := ⟨SYS_STATE, 8, 8, .ro, 0⟩
def SYS_STATE_PREV : Fld := ⟨SYS_STATE, 6, 4, .ro, 0⟩
def SYS_STATE_STATE : Fld := ⟨SYS_STATE, 2, 0, .ro, 1⟩
def SYS_RESET : Nat := 0x40000010
def SYS_RESET_WARM : Fld := ⟨SYS_RESET, 31, 31, .wo, 0⟩
def SYS_RESET_WARM_COUNT : Fld := ⟨SYS_RESET, 15, 8, .ro, 0⟩
def SYS_RESET_CAUSE : Fld := ⟨SYS_RESET, 7, 4, .ro, 0⟩
def SYS_BOOT : Nat := 0x40000014
def SYS_BOOT_AUTO_RUN : Fld := ⟨SYS_BOOT, 31, 31, .rw, 0⟩
def SYS_BOOT_STORM : Fld := ⟨SYS_BOOT, 30, 30, .ro, 0⟩
def SYS_BOOT_NO_FW : Fld := ⟨SYS_BOOT, 29, 29, .ro, 0⟩
def SYS_BOOT_FW_SLOT : Fld := ⟨SYS_BOOT, 28, 28, .ro, 0⟩
def SYS_BOOT_FATAL_RUN : Fld := ⟨SYS_BOOT, 27, 24, .ro, 0⟩
def SYS_FATAL : Nat := 0x40000018
def SYS_FATAL_ENTER : Fld := ⟨SYS_FATAL, 31, 31, .wo, 0⟩
def SYS_FATAL_SOURCE : Fld := ⟨SYS_FATAL, 30, 28, .ro, 0⟩
def SYS_FATAL_CODE : Fld := ⟨SYS_FATAL, 15, 0, .rw, 0⟩
def SYS_FATAL_TMO : Nat := 0x4000001C
def SYS_FATAL_TMO_RESET_MS : Fld := ⟨SYS_FATAL_TMO, 15, 0, .rw, 0x2710⟩
def SYS_WDOG : Nat := 0x40000020
def SYS_WDOG_KICK : Fld := ⟨SYS_WDOG, 31, 31, .wo, 0⟩
def SYS_WDOG_LOCK : Fld := ⟨SYS_WDOG, 30, 30, .rw, 0⟩
def SYS_WDOG_EN : Fld := ⟨SYS_WDOG, 29, 29, .rw, 1⟩
def SYS_WDOG_EXPIRED : Fld := ⟨SYS_WDOG, 28, 28, .w1c, 0⟩
def SYS_WDOG_PERIOD : Fld := ⟨SYS_WDOG, 15, 0, .rw, 0x7D0⟩
def SYS_BIST : Nat := 0x40000024
def SYS_BIST_DONE : Fld := ⟨SYS_BIST, 31, 31, .ro, 0⟩
def SYS_BIST_CRITICAL : Fld := ⟨SYS_BIST, 30, 30, .ro, 0⟩
def SYS_BIST_XO_WAIT : Fld := ⟨SYS_BIST, 29, 29, .ro, 0⟩
def SYS_BIST_CMP : Fld := ⟨SYS_BIST, 28, 28, .ro, 0⟩
def SYS_BIST_RINGS : Fld := ⟨SYS_BIST, 23, 16, .ro, 0⟩
def SYS_BIST_QUEUE : Fld := ⟨SYS_BIST, 15, 0, .ro, 0⟩
/-! ### spec/10_packet_queues.md -/
def Q_CTRL (n : Nat) : Nat := 0x40008000 + 0x40 * n
def Q_CTRL_NOTIFY_EN (n : Nat) : Fld := ⟨Q_CTRL n, 31, 31, .rw, 0⟩
def Q_CTRL_FLAG (n : Nat) : Fld := ⟨Q_CTRL n, 29, 25, .rw, 0⟩
def Q_CTRL_TASK (n : Nat) : Fld := ⟨Q_CTRL n, 24, 15, .rw, 0⟩
def Q_CTRL_KEEP_STAGED (n : Nat) : Fld := ⟨Q_CTRL n, 2, 2, .rw, 0⟩
def Q_CTRL_FLUSH (n : Nat) : Fld := ⟨Q_CTRL n, 1, 1, .wo, 0⟩
def Q_CTRL_STAGED (n : Nat) : Fld := ⟨Q_CTRL n, 0, 0, .rw, 1⟩
def Q_STATUS (n : Nat) : Nat := 0x40008004 + 0x40 * n
def Q_STATUS_OPEN (n : Nat) : Fld := ⟨Q_STATUS n, 7, 7, .ro, 0⟩
def Q_STATUS_WR_IGNORED (n : Nat) : Fld := ⟨Q_STATUS n, 6, 6, .w1c, 0⟩
def Q_STATUS_POISON_SEEN (n : Nat) : Fld := ⟨Q_STATUS n, 5, 5, .w1c, 0⟩
def Q_STATUS_OVERRUN (n : Nat) : Fld := ⟨Q_STATUS n, 4, 4, .w1c, 0⟩
def Q_STATUS_DISCARDING (n : Nat) : Fld := ⟨Q_STATUS n, 3, 3, .ro, 0⟩
def Q_STATUS_FULL (n : Nat) : Fld := ⟨Q_STATUS n, 2, 2, .ro, 0⟩
def Q_STATUS_EMPTY (n : Nat) : Fld := ⟨Q_STATUS n, 1, 1, .ro, 1⟩
def Q_LEVEL (n : Nat) : Nat := 0x40008008 + 0x40 * n
def Q_LEVEL_PKTS (n : Nat) : Fld := ⟨Q_LEVEL n, 31, 16, .ro, 0⟩
def Q_LEVEL_WORDS (n : Nat) : Fld := ⟨Q_LEVEL n, 15, 0, .ro, 0⟩
def Q_VIS (n : Nat) : Nat := 0x4000800C + 0x40 * n
def Q_VIS_HWM (n : Nat) : Fld := ⟨Q_VIS n, 31, 16, .rc, 0⟩
def Q_VIS_VISIBLE (n : Nat) : Fld := ⟨Q_VIS n, 15, 0, .ro, 0⟩
def Q_ERR (n : Nat) : Nat := 0x40008010 + 0x40 * n
def Q_ERR_CORR (n : Nat) : Fld := ⟨Q_ERR n, 31, 16, .rc, 0⟩
def Q_ERR_UNCORR (n : Nat) : Fld := ⟨Q_ERR n, 15, 0, .rc, 0⟩
def Q_LOSS (n : Nat) : Nat := 0x40008014 + 0x40 * n
def Q_LOSS_BROKEN (n : Nat) : Fld := ⟨Q_LOSS n, 31, 24, .rc, 0⟩
def Q_LOSS_REWOUND (n : Nat) : Fld := ⟨Q_LOSS n, 23, 16, .rc, 0⟩
def Q_LOSS_DROPPED (n : Nat) : Fld := ⟨Q_LOSS n, 15, 0, .rc, 0⟩
def Q_DATA_LO (n : Nat) : Nat := 0x40008018 + 0x40 * n
def Q_DATA_LO_DATA (n : Nat) : Fld := ⟨Q_DATA_LO n, 31, 0, .ro, 0⟩
def Q_DATA_HI (n : Nat) : Nat := 0x4000801C + 0x40 * n
def Q_DATA_HI_DATA (n : Nat) : Fld := ⟨Q_DATA_HI n, 31, 0, .ro, 0⟩
def Q_TAG (n : Nat) : Nat := 0x40008020 + 0x40 * n
def Q_TAG_VALID (n : Nat) : Fld := ⟨Q_TAG n, 31, 31, .ro, 0⟩
def Q_TAG_EOP (n : Nat) : Fld := ⟨Q_TAG n, 2, 2, .ro, 0⟩
def Q_TAG_BROKEN (n : Nat) : Fld := ⟨Q_TAG n, 1, 1, .ro, 0⟩
def Q_TAG_POISON (n : Nat) : Fld := ⟨Q_TAG n, 0, 0, .ro, 0⟩
def Q_WDATA_LO (n : Nat) : Nat := 0x40008024 + 0x40 * n
def Q_WDATA_LO_WDATA (n : Nat) : Fld := ⟨Q_WDATA_LO n, 31, 0, .rw, 0⟩
def Q_WDATA_HI (n : Nat) : Nat := 0x40008028 + 0x40 * n
def Q_WDATA_HI_WDATA (n : Nat) : Fld := ⟨Q_WDATA_HI n, 31, 0, .rw, 0⟩
def Q_WTAG (n : Nat) : Nat := 0x4000802C + 0x40 * n
def Q_WTAG_BAD (n : Nat) : Fld := ⟨Q_WTAG n, 1, 1, .wo, 0⟩
def Q_WTAG_EOP (n : Nat) : Fld := ⟨Q_WTAG n, 0, 0, .wo, 0⟩
def Q_CFG (n : Nat) : Nat := 0x40008030 + 0x40 * n
def Q_CFG_DOMAIN (n : Nat) : Fld := ⟨Q_CFG n, 29, 29, .ro, 0⟩
def Q_CFG_WAITS (n : Nat) : Fld := ⟨Q_CFG n, 28, 28, .ro, 0⟩
def Q_CFG_CHECK (n : Nat) : Fld := ⟨Q_CFG n, 27, 26, .ro, 0⟩
def Q_CFG_WIDTH (n : Nat) : Fld := ⟨Q_CFG n, 25, 16, .ro, 0⟩
def Q_CFG_DEPTH (n : Nat) : Fld := ⟨Q_CFG n, 15, 0, .ro, 0⟩
/-! ### spec/15_control_cores_and_scheduler.md -/
def DMA_SRC (n : Nat) : Nat := 0x4000C000 + 0x20 * n
def DMA_SRC_SRC (n : Nat) : Fld := ⟨DMA_SRC n, 31, 0, .rw, 0⟩
def DMA_DST (n : Nat) : Nat := 0x4000C004 + 0x20 * n
def DMA_DST_DST (n : Nat) : Fld := ⟨DMA_DST n, 31, 0, .rw, 0⟩
def DMA_LEN (n : Nat) : Nat := 0x4000C008 + 0x20 * n
def DMA_LEN_LEN (n : Nat) : Fld := ⟨DMA_LEN n, 23, 0, .rw, 0⟩
def DMA_CTRL (n : Nat) : Nat := 0x4000C00C + 0x20 * n
def DMA_CTRL_ABORT (n : Nat) : Fld := ⟨DMA_CTRL n, 3, 3, .wo, 0⟩
def DMA_CTRL_SKIP (n : Nat) : Fld := ⟨DMA_CTRL n, 2, 2, .wo, 0⟩
def DMA_CTRL_RESUME (n : Nat) : Fld := ⟨DMA_CTRL n, 1, 1, .wo, 0⟩
def DMA_CTRL_GO (n : Nat) : Fld := ⟨DMA_CTRL n, 0, 0, .wo, 0⟩
def DMA_EVT (n : Nat) : Nat := 0x4000C010 + 0x20 * n
def DMA_EVT_EN (n : Nat) : Fld := ⟨DMA_EVT n, 31, 31, .rw, 0⟩
def DMA_EVT_FLAG (n : Nat) : Fld := ⟨DMA_EVT n, 29, 25, .rw, 0⟩
def DMA_EVT_TASK (n : Nat) : Fld := ⟨DMA_EVT n, 24, 15, .rw, 0⟩
def DMA_STATUS (n : Nat) : Nat := 0x4000C014 + 0x20 * n
def DMA_STATUS_REMAIN (n : Nat) : Fld := ⟨DMA_STATUS n, 31, 8, .ro, 0⟩
def DMA_STATUS_CAUSE (n : Nat) : Fld := ⟨DMA_STATUS n, 7, 5, .ro, 0⟩
def DMA_STATUS_STATE (n : Nat) : Fld := ⟨DMA_STATUS n, 1, 0, .ro, 0⟩
def DMA_ADDR (n : Nat) : Nat := 0x4000C018 + 0x20 * n
def DMA_ADDR_ADDR (n : Nat) : Fld := ⟨DMA_ADDR n, 31, 0, .ro, 0⟩
/-! ### spec/20_power_and_startup.md -/
def PWR_STATUS : Nat := 0x40010000
def PWR_STATUS_RAIL_OK : Fld := ⟨PWR_STATUS, 15, 12, .ro, 0⟩
def PWR_STATUS_HOT : Fld := ⟨PWR_STATUS, 4, 4, .w1c, 0⟩
def PWR_STATUS_RAIL_WARN : Fld := ⟨PWR_STATUS, 3, 3, .w1c, 0⟩
def PWR_STATUS_VIN_LOW : Fld := ⟨PWR_STATUS, 2, 2, .w1c, 0⟩
def PWR_STATUS_VIN_HIGH : Fld := ⟨PWR_STATUS, 1, 1, .w1c, 0⟩
def PWR_STATUS_PG : Fld := ⟨PWR_STATUS, 0, 0, .ro, 0⟩
def PWR_VIN : Nat := 0x40010004
def PWR_VIN_VIN : Fld := ⟨PWR_VIN, 31, 16, .ro, 0⟩
def PWR_VIN_IIN : Fld := ⟨PWR_VIN, 15, 0, .ro, 0⟩
def PWR_RAIL (n : Nat) : Nat := 0x40010008 + 4 * n
def PWR_RAIL_V (n : Nat) : Fld := ⟨PWR_RAIL n, 31, 16, .ro, 0⟩
def PWR_RAIL_I (n : Nat) : Fld := ⟨PWR_RAIL n, 15, 0, .ro, 0⟩
def PWR_TEMP : Nat := 0x40010018
def PWR_TEMP_POWER_DIE : Fld := ⟨PWR_TEMP, 31, 16, .ro, 0⟩
def PWR_TEMP_CORE_DIE : Fld := ⟨PWR_TEMP, 15, 0, .ro, 0⟩
def PWR_LAST : Nat := 0x4001001C
def PWR_LAST_CAUSE : Fld := ⟨PWR_LAST, 31, 28, .ro, 0⟩
def PWR_LAST_RAIL : Fld := ⟨PWR_LAST, 25, 24, .ro, 0⟩
def PWR_CNT : Nat := 0x40010020
def PWR_CNT_RAIL_FAULTS : Fld := ⟨PWR_CNT, 31, 24, .rc, 0⟩
def PWR_CNT_THERMAL : Fld := ⟨PWR_CNT, 23, 16, .rc, 0⟩
def PWR_CNT_LOCKOUTS : Fld := ⟨PWR_CNT, 15, 8, .rc, 0⟩
/-! ### spec/03_meridian_network_time.md -/
def MER_CTRL : Nat := 0x40020000
def MER_CTRL_SLEW_MAX : Fld := ⟨MER_CTRL, 31, 24, .rw, 0xA⟩
def MER_CTRL_LOCK : Fld := ⟨MER_CTRL, 11, 11, .wo, 0⟩
def MER_CTRL_RELOCK : Fld := ⟨MER_CTRL, 10, 10, .wo, 0⟩
def MER_CTRL_STEP : Fld := ⟨MER_CTRL, 9, 9, .wo, 0⟩
def MER_CTRL_ADJ_CANCEL : Fld := ⟨MER_CTRL, 8, 8, .wo, 0⟩
def MER_CTRL_SRC : Fld := ⟨MER_CTRL, 2, 0, .rwa, 0⟩
def MER_STATUS : Nat := 0x40020004
def MER_STATUS_LATE : Fld := ⟨MER_STATUS, 15, 15, .w1c, 0⟩
def MER_STATUS_STEP_DONE : Fld := ⟨MER_STATUS, 14, 14, .w1c, 0⟩
def MER_STATUS_QUEUE_OVF : Fld := ⟨MER_STATUS, 13, 13, .w1c, 0⟩
def MER_STATUS_PARENT_CHANGE : Fld := ⟨MER_STATUS, 12, 12, .w1c, 0⟩
def MER_STATUS_PPS_LOST : Fld := ⟨MER_STATUS, 11, 11, .w1c, 0⟩
def MER_STATUS_REF_LOST : Fld := ⟨MER_STATUS, 10, 10, .w1c, 0⟩
def MER_STATUS_SYNCE_LOST : Fld := ⟨MER_STATUS, 9, 9, .w1c, 0⟩
def MER_STATUS_SYNC_LOST : Fld := ⟨MER_STATUS, 8, 8, .w1c, 0⟩
def MER_STATUS_SLEWING : Fld := ⟨MER_STATUS, 5, 5, .ro, 0⟩
def MER_STATUS_TIME_VALID : Fld := ⟨MER_STATUS, 4, 4, .ro, 0⟩
def MER_STATUS_HOLDOVER : Fld := ⟨MER_STATUS, 3, 3, .ro, 0⟩
def MER_STATUS_STATE : Fld := ⟨MER_STATUS, 2, 0, .ro, 0⟩
def MER_DATUM_CFG : Nat := 0x40020008
def MER_DATUM_CFG_DATUM_SRC : Fld := ⟨MER_DATUM_CFG, 31, 31, .rwa, 0⟩
def MER_DATUM_CFG_FREQ : Fld := ⟨MER_DATUM_CFG, 25, 0, .rwa, 0x2625A00⟩
def MER_DATUM_MEAS : Nat := 0x4002000C
def MER_DATUM_MEAS_FREQ : Fld := ⟨MER_DATUM_MEAS, 31, 0, .ro, 0⟩
def MER_TIME_SEC_LO : Nat := 0x40020010
def MER_TIME_SEC_LO_SEC_LO : Fld := ⟨MER_TIME_SEC_LO, 31, 0, .ro, 0⟩
def MER_TIME_SEC_HI : Nat := 0x40020014
def MER_TIME_SEC_HI_SEC_HI : Fld := ⟨MER_TIME_SEC_HI, 31, 0, .ro, 0⟩
def MER_TIME_NS : Nat := 0x40020018
def MER_TIME_NS_NS : Fld := ⟨MER_TIME_NS, 29, 0, .ro, 0⟩
def MER_TIME_FRAC : Nat := 0x4002001C
def MER_TIME_FRAC_FRAC : Fld := ⟨MER_TIME_FRAC, 15, 0, .ro, 0⟩
def MER_RATE_LO : Nat := 0x40020020
def MER_RATE_LO_RATE : Fld := ⟨MER_RATE_LO, 31, 0, .rw, 0⟩
def MER_RATE_HI : Nat := 0x40020024
def MER_RATE_HI_RATE : Fld := ⟨MER_RATE_HI, 15, 0, .rw, 0⟩
def MER_ADJ : Nat := 0x40020028
def MER_ADJ_ADJ : Fld := ⟨MER_ADJ, 31, 0, .wo, 0⟩
def MER_ADJ_REM : Nat := 0x4002002C
def MER_ADJ_REM_REM : Fld := ⟨MER_ADJ_REM, 31, 0, .ro, 0⟩
def MER_STEP_SEC_LO : Nat := 0x40020030
def MER_STEP_SEC_LO_SEC_LO : Fld := ⟨MER_STEP_SEC_LO, 31, 0, .rw, 0⟩
def MER_STEP_SEC_HI : Nat := 0x40020034
def MER_STEP_SEC_HI_SEC_HI : Fld := ⟨MER_STEP_SEC_HI, 15, 0, .rw, 0⟩
def MER_STEP_NS : Nat := 0x40020038
def MER_STEP_NS_NS : Fld := ⟨MER_STEP_NS, 31, 0, .rw, 0⟩
def MER_STEP_FRAC : Nat := 0x4002003C
def MER_STEP_FRAC_FRAC : Fld := ⟨MER_STEP_FRAC, 15, 0, .rw, 0⟩
def MER_PPS_CTRL : Nat := 0x40020040
def MER_PPS_CTRL_WIDTH : Fld := ⟨MER_PPS_CTRL, 31, 16, .rw, 0x64⟩
def MER_PPS_CTRL_IN_EDGE : Fld := ⟨MER_PPS_CTRL, 2, 2, .rw, 0⟩
def MER_PPS_CTRL_OUT_POL : Fld := ⟨MER_PPS_CTRL, 1, 1, .rw, 0⟩
def MER_PPS_CTRL_OUT_EN : Fld := ⟨MER_PPS_CTRL, 0, 0, .rw, 0⟩
def MER_PPS_OUT_DELAY : Nat := 0x40020044
def MER_PPS_OUT_DELAY_DELAY : Fld := ⟨MER_PPS_OUT_DELAY, 31, 0, .rw, 0⟩
def MER_PPS_IN_SEC_LO : Nat := 0x40020048
def MER_PPS_IN_SEC_LO_SEC_LO : Fld := ⟨MER_PPS_IN_SEC_LO, 31, 0, .ro, 0⟩
def MER_PPS_IN_NS : Nat := 0x4002004C
def MER_PPS_IN_NS_NS : Fld := ⟨MER_PPS_IN_NS, 29, 0, .ro, 0⟩
def MER_PPS_IN_FRAC : Nat := 0x40020050
def MER_PPS_IN_FRAC_FRAC : Fld := ⟨MER_PPS_IN_FRAC, 15, 0, .ro, 0⟩
def MER_PPS_NEXT_SEC : Nat := 0x40020054
def MER_PPS_NEXT_SEC_NEXT : Fld := ⟨MER_PPS_NEXT_SEC, 31, 0, .rw, 0⟩
def MER_SYNCE_CTRL : Nat := 0x40020060
def MER_SYNCE_CTRL_OPT : Fld := ⟨MER_SYNCE_CTRL, 4, 4, .rwa, 0⟩
def MER_SYNCE_CTRL_PORT : Fld := ⟨MER_SYNCE_CTRL, 2, 0, .rwa, 0⟩
def MER_PTP_CTRL : Nat := 0x40020070
def MER_PTP_CTRL_SYNC_TMO : Fld := ⟨MER_PTP_CTRL, 31, 28, .rw, 3⟩
def MER_PTP_CTRL_LOG_SYNC : Fld := ⟨MER_PTP_CTRL, 27, 24, .rw, 0xD⟩
def MER_PTP_CTRL_DOMAIN : Fld := ⟨MER_PTP_CTRL, 23, 16, .rw, 0⟩
def MER_PTP_CTRL_DREQ_UC : Fld := ⟨MER_PTP_CTRL, 6, 6, .rw, 0⟩
def MER_PTP_CTRL_ONE_STEP_DREQ : Fld := ⟨MER_PTP_CTRL, 5, 5, .rw, 0⟩
def MER_PTP_CTRL_TRANSPORT : Fld := ⟨MER_PTP_CTRL, 4, 4, .rw, 0⟩
def MER_PTP_CTRL_PORT : Fld := ⟨MER_PTP_CTRL, 2, 0, .rwa, 0⟩
def MER_PTP_PARENT_LO : Nat := 0x40020074
def MER_PTP_PARENT_LO_ID_LO : Fld := ⟨MER_PTP_PARENT_LO, 31, 0, .rw, 0⟩
def MER_PTP_PARENT_HI : Nat := 0x40020078
def MER_PTP_PARENT_HI_ID_HI : Fld := ⟨MER_PTP_PARENT_HI, 31, 0, .rw, 0⟩
def MER_PTP_PARENT_PORT : Nat := 0x4002007C
def MER_PTP_PARENT_PORT_PORT : Fld := ⟨MER_PTP_PARENT_PORT, 15, 0, .rw, 0⟩
def MER_PTP_RX_LAT : Nat := 0x40020080
def MER_PTP_RX_LAT_LAT : Fld := ⟨MER_PTP_RX_LAT, 31, 0, .rw, 0⟩
def MER_PTP_TX_LAT : Nat := 0x40020084
def MER_PTP_TX_LAT_LAT : Fld := ⟨MER_PTP_TX_LAT, 31, 0, .rw, 0⟩
def MER_TXTS_CTRL : Nat := 0x40020090
def MER_TXTS_CTRL_AGE : Fld := ⟨MER_TXTS_CTRL, 7, 0, .rw, 0x14⟩
def MER_TXTS_ID : Nat := 0x40020094
def MER_TXTS_ID_VALID : Fld := ⟨MER_TXTS_ID, 31, 31, .ro, 0⟩
def MER_TXTS_ID_PORT : Fld := ⟨MER_TXTS_ID, 18, 16, .ro, 0⟩
def MER_TXTS_ID_ID : Fld := ⟨MER_TXTS_ID, 15, 0, .ro, 0⟩
def MER_TXTS_SEC_LO : Nat := 0x40020098
def MER_TXTS_SEC_LO_SEC_LO : Fld := ⟨MER_TXTS_SEC_LO, 31, 0, .ro, 0⟩
def MER_TXTS_SEC_HI : Nat := 0x4002009C
def MER_TXTS_SEC_HI_SEC_HI : Fld := ⟨MER_TXTS_SEC_HI, 31, 0, .ro, 0⟩
def MER_TXTS_NS : Nat := 0x400200A0
def MER_TXTS_NS_NS : Fld := ⟨MER_TXTS_NS, 29, 0, .ro, 0⟩
def MER_TXTS_FRAC : Nat := 0x400200A4
def MER_TXTS_FRAC_FRAC : Fld := ⟨MER_TXTS_FRAC, 15, 0, .ro, 0⟩
def MER_TXTS_CNT : Nat := 0x400200A8
def MER_TXTS_CNT_DROPPED : Fld := ⟨MER_TXTS_CNT, 23, 16, .rc, 0⟩
def MER_TXTS_CNT_AGED : Fld := ⟨MER_TXTS_CNT, 15, 8, .rc, 0⟩
def MER_TXTS_CNT_DEPTH : Fld := ⟨MER_TXTS_CNT, 4, 0, .ro, 0⟩
def MER_ALM_CTRL (n : Nat) : Nat := 0x40020100 + 0x20 * n
def MER_ALM_CTRL_EN (n : Nat) : Fld := ⟨MER_ALM_CTRL n, 31, 31, .rw, 0⟩
def MER_ALM_CTRL_LATE (n : Nat) : Fld := ⟨MER_ALM_CTRL n, 30, 30, .w1c, 0⟩
def MER_ALM_CTRL_FLAG (n : Nat) : Fld := ⟨MER_ALM_CTRL n, 29, 25, .rw, 0⟩
def MER_ALM_CTRL_TASK (n : Nat) : Fld := ⟨MER_ALM_CTRL n, 24, 15, .rw, 0⟩
def MER_ALM_CTRL_KIND (n : Nat) : Fld := ⟨MER_ALM_CTRL n, 3, 0, .rw, 0⟩
def MER_ALM_SEC (n : Nat) : Nat := 0x40020104 + 0x20 * n
def MER_ALM_SEC_SEC (n : Nat) : Fld := ⟨MER_ALM_SEC n, 31, 0, .rw, 0⟩
def MER_ALM_NS (n : Nat) : Nat := 0x40020108 + 0x20 * n
def MER_ALM_NS_NS (n : Nat) : Fld := ⟨MER_ALM_NS n, 29, 0, .rw, 0⟩
def MER_ALM_PERIOD_NS (n : Nat) : Nat := 0x4002010C + 0x20 * n
def MER_ALM_PERIOD_NS_PERIOD (n : Nat) : Fld := ⟨MER_ALM_PERIOD_NS n, 31, 0, .rw, 0⟩
def MER_ALM_PMASK_LO (n : Nat) : Nat := 0x40020110 + 0x20 * n
def MER_ALM_PMASK_LO_PMASK_LO (n : Nat) : Fld := ⟨MER_ALM_PMASK_LO n, 31, 0, .rw, 0⟩
def MER_ALM_PMASK_HI (n : Nat) : Nat := 0x40020114 + 0x20 * n
def MER_ALM_PMASK_HI_PMASK_HI (n : Nat) : Fld := ⟨MER_ALM_PMASK_HI n, 15, 0, .rw, 0⟩
/-! ### spec/08_tladon_links_and_commands.md -/
def ING_CTRL : Nat := 0x40030000
def ING_CTRL_PROXY_TMO : Fld := ⟨ING_CTRL, 15, 8, .rwa, 0x40⟩
def ING_CTRL_REPLAY_EN : Fld := ⟨ING_CTRL, 1, 1, .rwa, 1⟩
def ING_CTRL_AUTO_ATTACH : Fld := ⟨ING_CTRL, 0, 0, .rwa, 1⟩
def ING_STATUS : Nat := 0x40030004
def ING_STATUS_ATTACHED : Fld := ⟨ING_STATUS, 15, 8, .ro, 0⟩
def ING_STATUS_IN_BUILD : Fld := ⟨ING_STATUS, 7, 0, .ro, 0⟩
def ING_LANE_CTRL (n : Nat) : Nat := 0x40030100 + 0x20 * n
def ING_LANE_CTRL_CLEAR (n : Nat) : Fld := ⟨ING_LANE_CTRL n, 1, 1, .wo, 0⟩
def ING_LANE_CTRL_EN (n : Nat) : Fld := ⟨ING_LANE_CTRL n, 0, 0, .rw, 1⟩
def ING_LANE_STATUS (n : Nat) : Nat := 0x40030104 + 0x20 * n
def ING_LANE_STATUS_PORT (n : Nat) : Fld := ⟨ING_LANE_STATUS n, 21, 16, .ro, 0⟩
def ING_LANE_STATUS_CAUSE (n : Nat) : Fld := ⟨ING_LANE_STATUS n, 11, 10, .ro, 0⟩
def ING_LANE_STATUS_REACH (n : Nat) : Fld := ⟨ING_LANE_STATUS n, 9, 9, .ro, 0⟩
def ING_LANE_STATUS_COPY (n : Nat) : Fld := ⟨ING_LANE_STATUS n, 8, 8, .ro, 0⟩
def ING_LANE_STATUS_POS (n : Nat) : Fld := ⟨ING_LANE_STATUS n, 7, 6, .ro, 0⟩
def ING_LANE_STATUS_BOND (n : Nat) : Fld := ⟨ING_LANE_STATUS n, 5, 4, .ro, 0⟩
def ING_LANE_STATUS_STATE (n : Nat) : Fld := ⟨ING_LANE_STATUS n, 2, 0, .ro, 0⟩
def ING_LANE_SERIAL (n : Nat) : Nat := 0x40030108 + 0x20 * n
def ING_LANE_SERIAL_SERIAL (n : Nat) : Fld := ⟨ING_LANE_SERIAL n, 31, 0, .ro, 0⟩
def ING_LANE_CW (n : Nat) : Nat := 0x4003010C + 0x20 * n
def ING_LANE_CW_CW_CORR (n : Nat) : Fld := ⟨ING_LANE_CW n, 31, 16, .rc, 0⟩
def ING_LANE_CW_BYTE_CORR (n : Nat) : Fld := ⟨ING_LANE_CW n, 15, 0, .rc, 0⟩
def ING_LANE_FAULT (n : Nat) : Nat := 0x40030110 + 0x20 * n
def ING_LANE_FAULT_TRANSIENT (n : Nat) : Fld := ⟨ING_LANE_FAULT n, 31, 24, .rc, 0⟩
def ING_LANE_FAULT_NACKED (n : Nat) : Fld := ⟨ING_LANE_FAULT n, 23, 16, .rc, 0⟩
def ING_LANE_FAULT_NO_REPLAY (n : Nat) : Fld := ⟨ING_LANE_FAULT n, 15, 8, .rc, 0⟩
def ING_LANE_FAULT_BAD_BLOCK (n : Nat) : Fld := ⟨ING_LANE_FAULT n, 7, 0, .rc, 0⟩
def ING_LANE_PRIM (n : Nat) : Nat := 0x40030114 + 0x20 * n
def ING_LANE_PRIM_PH_CORR (n : Nat) : Fld := ⟨ING_LANE_PRIM n, 31, 16, .rc, 0⟩
def ING_LANE_PRIM_BAD (n : Nat) : Fld := ⟨ING_LANE_PRIM n, 15, 0, .rc, 0⟩
def ING_PORT_CTRL (n : Nat) : Nat := 0x40031000 + 0x20 * n
def ING_PORT_CTRL_ATTACH (n : Nat) : Fld := ⟨ING_PORT_CTRL n, 1, 1, .wo, 0⟩
def ING_PORT_CTRL_DETACH (n : Nat) : Fld := ⟨ING_PORT_CTRL n, 0, 0, .wo, 0⟩
def ING_PORT_STATUS (n : Nat) : Nat := 0x40031004 + 0x20 * n
def ING_PORT_STATUS_MIRROR (n : Nat) : Fld := ⟨ING_PORT_STATUS n, 15, 15, .ro, 0⟩
def ING_PORT_STATUS_BOND (n : Nat) : Fld := ⟨ING_PORT_STATUS n, 14, 13, .ro, 0⟩
def ING_PORT_STATUS_TSTATE (n : Nat) : Fld := ⟨ING_PORT_STATUS n, 12, 10, .ro, 0⟩
def ING_PORT_STATUS_TIE (n : Nat) : Fld := ⟨ING_PORT_STATUS n, 9, 9, .ro, 0⟩
def ING_PORT_STATUS_REMOTE (n : Nat) : Fld := ⟨ING_PORT_STATUS n, 8, 8, .ro, 0⟩
def ING_PORT_STATUS_PROXY_TMO (n : Nat) : Fld := ⟨ING_PORT_STATUS n, 7, 7, .w1c, 0⟩
def ING_PORT_STATUS_BOND_ERR (n : Nat) : Fld := ⟨ING_PORT_STATUS n, 6, 6, .w1c, 0⟩
def ING_PORT_STATUS_CAP_MISMATCH (n : Nat) : Fld := ⟨ING_PORT_STATUS n, 5, 5, .w1c, 0⟩
def ING_PORT_STATUS_STATE (n : Nat) : Fld := ⟨ING_PORT_STATUS n, 2, 0, .ro, 0⟩
def ING_PORT_CAP (n : Nat) : Nat := 0x40031008 + 0x20 * n
def ING_PORT_CAP_CAP (n : Nat) : Fld := ⟨ING_PORT_CAP n, 31, 0, .ro, 0⟩
def ING_PORT_CMD (n : Nat) : Nat := 0x4003100C + 0x20 * n
def ING_PORT_CMD_SENT (n : Nat) : Fld := ⟨ING_PORT_CMD n, 31, 16, .rc, 0⟩
def ING_PORT_CMD_TIMEOUTS (n : Nat) : Fld := ⟨ING_PORT_CMD n, 15, 0, .rc, 0⟩
/-! ### spec/02_time_base.md -/
def TRI_CTRL (n : Nat) : Nat := 0x40038000 + 0x20 * n
def TRI_CTRL_AVG_LOG2 (n : Nat) : Fld := ⟨TRI_CTRL n, 11, 8, .rw, 8⟩
def TRI_CTRL_MARK_DIV (n : Nat) : Fld := ⟨TRI_CTRL n, 7, 4, .rw, 0⟩
def TRI_CTRL_EN (n : Nat) : Fld := ⟨TRI_CTRL n, 0, 0, .rw, 1⟩
def TRI_ALPHA (n : Nat) : Nat := 0x40038004 + 0x20 * n
def TRI_ALPHA_ALPHA (n : Nat) : Fld := ⟨TRI_ALPHA n, 31, 0, .rwa, 0⟩
def TRI_KDOWN (n : Nat) : Nat := 0x40038008 + 0x20 * n
def TRI_KDOWN_K (n : Nat) : Fld := ⟨TRI_KDOWN n, 31, 0, .rw, 0⟩
def TRI_KUP (n : Nat) : Nat := 0x4003800C + 0x20 * n
def TRI_KUP_K (n : Nat) : Fld := ⟨TRI_KUP n, 31, 0, .rw, 0⟩
def TRI_THETA_LO (n : Nat) : Nat := 0x40038010 + 0x20 * n
def TRI_THETA_LO_THETA (n : Nat) : Fld := ⟨TRI_THETA_LO n, 31, 0, .ro, 0⟩
def TRI_THETA_HI (n : Nat) : Nat := 0x40038014 + 0x20 * n
def TRI_THETA_HI_THETA (n : Nat) : Fld := ⟨TRI_THETA_HI n, 15, 0, .ro, 0⟩
def TRI_RTT (n : Nat) : Nat := 0x40038018 + 0x20 * n
def TRI_RTT_F (n : Nat) : Fld := ⟨TRI_RTT n, 31, 0, .ro, 0⟩
def TRI_STATUS (n : Nat) : Nat := 0x4003801C + 0x20 * n
def TRI_STATUS_MISSED (n : Nat) : Fld := ⟨TRI_STATUS n, 31, 16, .rc, 0⟩
def TRI_STATUS_CLKSW_SEEN (n : Nat) : Fld := ⟨TRI_STATUS n, 4, 4, .w1c, 0⟩
def TRI_STATUS_THETA_JUMP (n : Nat) : Fld := ⟨TRI_STATUS n, 3, 3, .w1c, 0⟩
def TRI_STATUS_FIBRE_MISMATCH (n : Nat) : Fld := ⟨TRI_STATUS n, 2, 2, .w1c, 0⟩
def TRI_STATUS_AVERAGED (n : Nat) : Fld := ⟨TRI_STATUS n, 1, 1, .ro, 0⟩
def TRI_STATUS_VALID (n : Nat) : Fld := ⟨TRI_STATUS n, 0, 0, .ro, 0⟩
/-! ### spec/04_tladon_timing_channels.md -/
def WALK_CTRL (n : Nat) : Nat := 0x40039000 + 0x10 * n
def WALK_CTRL_TOT_BASE (n : Nat) : Fld := ⟨WALK_CTRL n, 31, 16, .rwa, 0⟩
def WALK_CTRL_SHIFT (n : Nat) : Fld := ⟨WALK_CTRL n, 11, 8, .rwa, 6⟩
def WALK_CTRL_PILEUP_SKIP (n : Nat) : Fld := ⟨WALK_CTRL n, 1, 1, .rwa, 0⟩
def WALK_CTRL_EN (n : Nat) : Fld := ⟨WALK_CTRL n, 0, 0, .rwa, 0⟩
def WALK_ADDR (n : Nat) : Nat := 0x40039004 + 0x10 * n
def WALK_ADDR_BASE (n : Nat) : Fld := ⟨WALK_ADDR n, 23, 16, .rwa, 0⟩
def WALK_STATUS (n : Nat) : Nat := 0x40039008 + 0x10 * n
def WALK_STATUS_READ_ERR (n : Nat) : Fld := ⟨WALK_STATUS n, 31, 16, .rc, 0⟩
def WALK_STATUS_WRITE_REFUSED (n : Nat) : Fld := ⟨WALK_STATUS n, 1, 1, .w1c, 0⟩
def WALK_STATUS_ACTIVE (n : Nat) : Fld := ⟨WALK_STATUS n, 0, 0, .ro, 0⟩
/-! ### spec/09_muster_event_building.md -/
def MUS_CFG : Nat := 0x40040000
def MUS_CFG_TL1_EN : Fld := ⟨MUS_CFG, 9, 9, .rwa, 1⟩
def MUS_CFG_TL0_EN : Fld := ⟨MUS_CFG, 8, 8, .rwa, 1⟩
def MUS_CFG_MODE : Fld := ⟨MUS_CFG, 1, 0, .rwa, 0⟩
def MUS_STATUS : Nat := 0x40040004
def MUS_STATUS_SHED_SELF : Fld := ⟨MUS_STATUS, 9, 9, .ro, 0⟩
def MUS_STATUS_SHED_SPEC : Fld := ⟨MUS_STATUS, 8, 8, .ro, 0⟩
def MUS_STATUS_HORIZON_MISS : Fld := ⟨MUS_STATUS, 7, 7, .w1c, 0⟩
def MUS_STATUS_EARLY_RELEASE : Fld := ⟨MUS_STATUS, 6, 6, .w1c, 0⟩
def MUS_STATUS_ORDER_LATE : Fld := ⟨MUS_STATUS, 5, 5, .w1c, 0⟩
def MUS_STATUS_TL_COLLIDE : Fld := ⟨MUS_STATUS, 4, 4, .w1c, 0⟩
def MUS_STATUS_ALIGN_ERR : Fld := ⟨MUS_STATUS, 3, 3, .w1c, 0⟩
def MUS_STATUS_YARD_FULL : Fld := ⟨MUS_STATUS, 2, 2, .w1c, 0⟩
def MUS_STATUS_LEDGER_FULL : Fld := ⟨MUS_STATUS, 1, 1, .w1c, 0⟩
def MUS_STATUS_BUILDING : Fld := ⟨MUS_STATUS, 0, 0, .ro, 0⟩
def MUS_EXPECT_LO : Nat := 0x40040008
def MUS_EXPECT_LO_EXPECT : Fld := ⟨MUS_EXPECT_LO, 31, 0, .rwa, 0⟩
def MUS_EXPECT_HI : Nat := 0x4004000C
def MUS_EXPECT_HI_EXPECT : Fld := ⟨MUS_EXPECT_HI, 15, 0, .rwa, 0⟩
def MUS_SEQ_BASE_LO : Nat := 0x40040010
def MUS_SEQ_BASE_LO_BASE : Fld := ⟨MUS_SEQ_BASE_LO, 31, 0, .rwa, 0⟩
def MUS_SEQ_BASE_HI : Nat := 0x40040014
def MUS_SEQ_BASE_HI_BASE : Fld := ⟨MUS_SEQ_BASE_HI, 31, 0, .rwa, 0⟩
def MUS_SEQ_NEXT_LO : Nat := 0x40040018
def MUS_SEQ_NEXT_LO_NEXT : Fld := ⟨MUS_SEQ_NEXT_LO, 31, 0, .ro, 0⟩
def MUS_SEQ_NEXT_HI : Nat := 0x4004001C
def MUS_SEQ_NEXT_HI_NEXT : Fld := ⟨MUS_SEQ_NEXT_HI, 31, 0, .ro, 0⟩
def MUS_WIN : Nat := 0x40040028
def MUS_WIN_W_PRE : Fld := ⟨MUS_WIN, 27, 16, .rwa, 0x20⟩
def MUS_WIN_W_POST : Fld := ⟨MUS_WIN, 12, 0, .rwa, 0x20⟩
def MUS_TMO : Nat := 0x4004002C
def MUS_TMO_EVT_TMO : Fld := ⟨MUS_TMO, 15, 0, .rwa, 0xC8⟩
def MUS_FRAG_MAX : Nat := 0x40040030
def MUS_FRAG_MAX_MAX : Fld := ⟨MUS_FRAG_MAX, 16, 0, .rwa, 0x1000⟩
def MUS_LEDGER : Nat := 0x40040034
def MUS_LEDGER_IN_USE : Fld := ⟨MUS_LEDGER, 18, 0, .ro, 0⟩
def MUS_LEDGER_HWM : Nat := 0x40040038
def MUS_LEDGER_HWM_HWM : Fld := ⟨MUS_LEDGER_HWM, 18, 0, .rc, 0⟩
def MUS_SPEC_CFG : Nat := 0x40040040
def MUS_SPEC_CFG_HZN : Fld := ⟨MUS_SPEC_CFG, 26, 16, .rwa, 0⟩
def MUS_SPEC_CFG_OPEN_COUNT : Fld := ⟨MUS_SPEC_CFG, 15, 0, .rwa, 1⟩
def MUS_SPEC_CNT (n : Nat) : Nat := 0x40040050 + 4 * n
def MUS_SPEC_CNT_COUNT (n : Nat) : Fld := ⟨MUS_SPEC_CNT n, 31, 0, .rc, 0⟩
def MUS_SELF_CFG : Nat := 0x40040080
def MUS_SELF_CFG_HO : Fld := ⟨MUS_SELF_CFG, 26, 16, .rwa, 0⟩
def MUS_SELF_CFG_CLASS : Fld := ⟨MUS_SELF_CFG, 15, 8, .rwa, 0x80⟩
def MUS_SELF_CFG_CONTENT : Fld := ⟨MUS_SELF_CFG, 1, 1, .rwa, 0⟩
def MUS_SELF_CFG_EN : Fld := ⟨MUS_SELF_CFG, 0, 0, .rwa, 0⟩
def MUS_SELF_THR0 : Nat := 0x40040084
def MUS_SELF_THR0_MIN_SUM : Fld := ⟨MUS_SELF_THR0, 31, 16, .rwa, 0⟩
def MUS_SELF_THR0_MIN_COUNT : Fld := ⟨MUS_SELF_THR0, 15, 0, .rwa, 0⟩
def MUS_SELF_THR1 : Nat := 0x40040088
def MUS_SELF_THR1_MIN_GROUPS : Fld := ⟨MUS_SELF_THR1, 24, 16, .rwa, 0⟩
def MUS_SELF_THR1_MIN_HITS : Fld := ⟨MUS_SELF_THR1, 15, 0, .rwa, 0⟩
def MUS_SELF_TOT : Nat := 0x4004008C
def MUS_SELF_TOT_TOT_MIN : Fld := ⟨MUS_SELF_TOT, 15, 0, .rwa, 0⟩
def MUS_SELF_CNT : Nat := 0x40040090
def MUS_SELF_CNT_SHED : Fld := ⟨MUS_SELF_CNT, 31, 0, .rc, 0⟩
def MUS_SRC_CNT (n : Nat) : Nat := 0x400400A0 + 4 * n
def MUS_SRC_CNT_DECISIONS (n : Nat) : Fld := ⟨MUS_SRC_CNT n, 31, 16, .rc, 0⟩
def MUS_SRC_CNT_CRC_ERR (n : Nat) : Fld := ⟨MUS_SRC_CNT n, 15, 8, .rc, 0⟩
def MUS_SRC_CNT_COLLIDED (n : Nat) : Fld := ⟨MUS_SRC_CNT n, 7, 0, .rc, 0⟩
def MUS_VIEW_SLOT_LO : Nat := 0x40040100
def MUS_VIEW_SLOT_LO_SLOT_LO : Fld := ⟨MUS_VIEW_SLOT_LO, 31, 0, .rw, 0⟩
def MUS_VIEW_SEL : Nat := 0x40040104
def MUS_VIEW_SEL_PORT : Fld := ⟨MUS_VIEW_SEL, 31, 26, .rw, 0⟩
def MUS_VIEW_SEL_SLOT_HI : Fld := ⟨MUS_VIEW_SEL, 7, 0, .rw, 0⟩
def MUS_VIEW_DATA_LO : Nat := 0x40040108
def MUS_VIEW_DATA_LO_DATA : Fld := ⟨MUS_VIEW_DATA_LO, 31, 0, .ro, 0⟩
def MUS_VIEW_DATA_HI : Nat := 0x4004010C
def MUS_VIEW_DATA_HI_DATA : Fld := ⟨MUS_VIEW_DATA_HI, 31, 0, .ro, 0⟩
def MUS_VIEW_TAG : Nat := 0x40040110
def MUS_VIEW_TAG_SPEC : Fld := ⟨MUS_VIEW_TAG, 31, 31, .ro, 1⟩
def MUS_VIEW_TAG_VALID : Fld := ⟨MUS_VIEW_TAG, 30, 30, .ro, 0⟩
def MUS_VIEW_TAG_GONE : Fld := ⟨MUS_VIEW_TAG, 29, 29, .ro, 0⟩
def MUS_VIEW_TAG_INDEX : Fld := ⟨MUS_VIEW_TAG, 16, 0, .ro, 0⟩
def MUS_PORT_CNT0 (n : Nat) : Nat := 0x40040400 + 0x10 * n
def MUS_PORT_CNT0_PARTIAL (n : Nat) : Fld := ⟨MUS_PORT_CNT0 n, 31, 24, .rc, 0⟩
def MUS_PORT_CNT0_MISSING (n : Nat) : Fld := ⟨MUS_PORT_CNT0 n, 23, 16, .rc, 0⟩
def MUS_PORT_CNT0_SKIPPED (n : Nat) : Fld := ⟨MUS_PORT_CNT0 n, 15, 8, .rc, 0⟩
def MUS_PORT_CNT0_CORRUPT (n : Nat) : Fld := ⟨MUS_PORT_CNT0 n, 7, 0, .rc, 0⟩
def MUS_PORT_CNT1 (n : Nat) : Nat := 0x40040404 + 0x10 * n
def MUS_PORT_CNT1_TRUNC_WORDS (n : Nat) : Fld := ⟨MUS_PORT_CNT1 n, 31, 16, .rc, 0⟩
def MUS_PORT_CNT1_LEDGER_FULL (n : Nat) : Fld := ⟨MUS_PORT_CNT1 n, 15, 8, .rc, 0⟩
def MUS_PORT_CNT1_YARD_FULL (n : Nat) : Fld := ⟨MUS_PORT_CNT1 n, 7, 0, .rc, 0⟩
/-! ### spec/11_compression.md -/
def CMP_CTRL : Nat := 0x40050000
def CMP_CTRL_NICE_LEN : Fld := ⟨CMP_CTRL, 24, 16, .rwa, 0x80⟩
def CMP_CTRL_CHAIN_MAX : Fld := ⟨CMP_CTRL, 15, 8, .rwa, 0x20⟩
def CMP_CTRL_LAZY : Fld := ⟨CMP_CTRL, 2, 2, .rwa, 1⟩
def CMP_CTRL_BYPASS : Fld := ⟨CMP_CTRL, 1, 1, .rwa, 0⟩
def CMP_CTRL_PRECODE : Fld := ⟨CMP_CTRL, 0, 0, .rwa, 1⟩
def CMP_STATUS : Nat := 0x40050004
def CMP_STATUS_POISON_SEEN : Fld := ⟨CMP_STATUS, 20, 20, .w1c, 0⟩
def CMP_STATUS_FORMER_FAULT : Fld := ⟨CMP_STATUS, 19, 19, .w1c, 0⟩
def CMP_STATUS_RATIO_LOW : Fld := ⟨CMP_STATUS, 18, 18, .w1c, 0⟩
def CMP_STATUS_ENG_FAULT : Fld := ⟨CMP_STATUS, 17, 17, .w1c, 0⟩
def CMP_STATUS_ALL_OFF : Fld := ⟨CMP_STATUS, 16, 16, .ro, 0⟩
def CMP_STATUS_ENABLED : Fld := ⟨CMP_STATUS, 15, 0, .ro, 0xFFFF⟩
def CMP_RATIO : Nat := 0x40050008
def CMP_RATIO_RATIO_1S : Fld := ⟨CMP_RATIO, 31, 16, .ro, 0⟩
def CMP_RATIO_RATIO_1MS : Fld := ⟨CMP_RATIO, 15, 0, .ro, 0⟩
def CMP_IN_LO : Nat := 0x40050010
def CMP_IN_LO_COUNT : Fld := ⟨CMP_IN_LO, 31, 0, .ro, 0⟩
def CMP_IN_HI : Nat := 0x40050014
def CMP_IN_HI_COUNT : Fld := ⟨CMP_IN_HI, 31, 0, .ro, 0⟩
def CMP_OUT_LO : Nat := 0x40050018
def CMP_OUT_LO_COUNT : Fld := ⟨CMP_OUT_LO, 31, 0, .ro, 0⟩
def CMP_OUT_HI : Nat := 0x4005001C
def CMP_OUT_HI_COUNT : Fld := ⟨CMP_OUT_HI, 31, 0, .ro, 0⟩
def CMP_FALLBACK : Nat := 0x40050020
def CMP_FALLBACK_VERIFY_FAIL : Fld := ⟨CMP_FALLBACK, 31, 16, .rc, 0⟩
def CMP_FALLBACK_OVERSIZE : Fld := ⟨CMP_FALLBACK, 15, 0, .rc, 0⟩
def CMP_FORMER : Nat := 0x40050024
def CMP_FORMER_RECORDS : Fld := ⟨CMP_FORMER, 31, 16, .rc, 0⟩
def CMP_FORMER_REWRITES : Fld := ⟨CMP_FORMER, 15, 8, .rc, 0⟩
def CMP_FORMER_UNVERIFIED : Fld := ⟨CMP_FORMER, 7, 0, .rc, 0⟩
def CMP_LOSS : Nat := 0x40050028
def CMP_LOSS_POISONED : Fld := ⟨CMP_LOSS, 31, 16, .rc, 0⟩
def CMP_LOSS_SKIPPED_SEQ : Fld := ⟨CMP_LOSS, 15, 0, .rc, 0⟩
def CMP_REORDER : Nat := 0x4005002C
def CMP_REORDER_HWM : Fld := ⟨CMP_REORDER, 15, 8, .rc, 0⟩
def CMP_REORDER_DEPTH : Fld := ⟨CMP_REORDER, 6, 0, .ro, 0⟩
def CMP_REL_LO : Nat := 0x40050030
def CMP_REL_LO_REL : Fld := ⟨CMP_REL_LO, 31, 0, .ro, 0⟩
def CMP_REL_HI : Nat := 0x40050034
def CMP_REL_HI_REL : Fld := ⟨CMP_REL_HI, 31, 0, .ro, 0⟩
def CMP_ENG_CTRL (n : Nat) : Nat := 0x40050100 + 0x20 * n
def CMP_ENG_CTRL_REENABLE (n : Nat) : Fld := ⟨CMP_ENG_CTRL n, 1, 1, .wo, 0⟩
def CMP_ENG_CTRL_EN (n : Nat) : Fld := ⟨CMP_ENG_CTRL n, 0, 0, .rw, 1⟩
def CMP_ENG_STATUS (n : Nat) : Nat := 0x40050104 + 0x20 * n
def CMP_ENG_STATUS_CAUSE (n : Nat) : Fld := ⟨CMP_ENG_STATUS n, 11, 8, .ro, 0⟩
def CMP_ENG_STATUS_SELFTEST_FAIL (n : Nat) : Fld := ⟨CMP_ENG_STATUS n, 4, 4, .w1c, 0⟩
def CMP_ENG_STATUS_MISMATCH_RUN (n : Nat) : Fld := ⟨CMP_ENG_STATUS n, 3, 3, .ro, 0⟩
def CMP_ENG_STATUS_STATE (n : Nat) : Fld := ⟨CMP_ENG_STATUS n, 2, 0, .ro, 0⟩
def CMP_ENG_CNT (n : Nat) : Nat := 0x40050108 + 0x20 * n
def CMP_ENG_CNT_RECORDS (n : Nat) : Fld := ⟨CMP_ENG_CNT n, 31, 16, .rc, 0⟩
def CMP_ENG_CNT_VERIFY_FAIL (n : Nat) : Fld := ⟨CMP_ENG_CNT n, 15, 8, .rc, 0⟩
def CMP_ENG_CNT_OVERSIZE (n : Nat) : Fld := ⟨CMP_ENG_CNT n, 7, 0, .rc, 0⟩
def CMP_ENG_FAIL_LO (n : Nat) : Nat := 0x4005010C + 0x20 * n
def CMP_ENG_FAIL_LO_SEQ (n : Nat) : Fld := ⟨CMP_ENG_FAIL_LO n, 31, 0, .ro, 0⟩
def CMP_ENG_FAIL_HI (n : Nat) : Nat := 0x40050110 + 0x20 * n
def CMP_ENG_FAIL_HI_SEQ (n : Nat) : Fld := ⟨CMP_ENG_FAIL_HI n, 31, 0, .ro, 0⟩
/-! ### spec/12_egress_ports.md -/
def ETH_CFG : Nat := 0x40060000
def ETH_CFG_STREAM_ID : Fld := ⟨ETH_CFG, 31, 16, .rwa, 0⟩
def ETH_CFG_LINK_TMO : Fld := ⟨ETH_CFG, 15, 8, .rw, 0x32⟩
def ETH_CFG_TAB_VIEW : Fld := ⟨ETH_CFG, 2, 2, .rw, 0⟩
def ETH_CFG_UNIT : Fld := ⟨ETH_CFG, 1, 1, .rwa, 0⟩
def ETH_CFG_STEER_MODE : Fld := ⟨ETH_CFG, 0, 0, .rwa, 0⟩
def ETH_STATUS : Nat := 0x40060004
def ETH_STATUS_UP : Fld := ⟨ETH_STATUS, 23, 16, .ro, 0⟩
def ETH_STATUS_ACTIVE : Fld := ⟨ETH_STATUS, 15, 8, .ro, 0⟩
def ETH_STATUS_PENDING : Fld := ⟨ETH_STATUS, 4, 4, .ro, 0⟩
def ETH_STATUS_STEER_WAIT : Fld := ⟨ETH_STATUS, 3, 3, .ro, 0⟩
def ETH_STATUS_CMD_REFUSED : Fld := ⟨ETH_STATUS, 2, 2, .w1c, 0⟩
def ETH_STATUS_BOUND_LATE : Fld := ⟨ETH_STATUS, 1, 1, .w1c, 0⟩
def ETH_STATUS_NO_PORT : Fld := ⟨ETH_STATUS, 0, 0, .ro, 1⟩
def ETH_STEER_CMD : Nat := 0x40060008
def ETH_STEER_CMD_OP : Fld := ⟨ETH_STEER_CMD, 31, 30, .wo, 0⟩
def ETH_STEER_CMD_PORT : Fld := ⟨ETH_STEER_CMD, 2, 0, .wo, 0⟩
def ETH_STEER_LEN : Nat := 0x4006000C
def ETH_STEER_LEN_ACTIVE_LEN : Fld := ⟨ETH_STEER_LEN, 24, 16, .ro, 1⟩
def ETH_STEER_LEN_LEN : Fld := ⟨ETH_STEER_LEN, 8, 0, .rw, 1⟩
def ETH_BOUND_LO : Nat := 0x40060010
def ETH_BOUND_LO_BOUND : Fld := ⟨ETH_BOUND_LO, 31, 0, .rw, 0⟩
def ETH_BOUND_HI : Nat := 0x40060014
def ETH_BOUND_HI_BOUND : Fld := ⟨ETH_BOUND_HI, 31, 0, .rw, 0⟩
def ETH_ORIGIN_LO : Nat := 0x40060018
def ETH_ORIGIN_LO_ORIGIN : Fld := ⟨ETH_ORIGIN_LO, 31, 0, .ro, 0⟩
def ETH_ORIGIN_HI : Nat := 0x4006001C
def ETH_ORIGIN_HI_ORIGIN : Fld := ⟨ETH_ORIGIN_HI, 31, 0, .ro, 0⟩
def ETH_NEXT_LO : Nat := 0x40060020
def ETH_NEXT_LO_NEXT : Fld := ⟨ETH_NEXT_LO, 31, 0, .ro, 0⟩
def ETH_NEXT_HI : Nat := 0x40060024
def ETH_NEXT_HI_NEXT : Fld := ⟨ETH_NEXT_HI, 31, 0, .ro, 0⟩
def ETH_LOST : Nat := 0x40060028
def ETH_LOST_ABANDONED : Fld := ⟨ETH_LOST, 31, 16, .rc, 0⟩
def ETH_LOST_RESTEERED : Fld := ⟨ETH_LOST, 15, 0, .rc, 0⟩
def ETH_STEER_TAB (n : Nat) : Nat := 0x40060100 + 4 * n
def ETH_STEER_TAB_T3 (n : Nat) : Fld := ⟨ETH_STEER_TAB n, 31, 24, .rw, 0⟩
def ETH_STEER_TAB_T2 (n : Nat) : Fld := ⟨ETH_STEER_TAB n, 23, 16, .rw, 0⟩
def ETH_STEER_TAB_T1 (n : Nat) : Fld := ⟨ETH_STEER_TAB n, 15, 8, .rw, 0⟩
def ETH_STEER_TAB_T0 (n : Nat) : Fld := ⟨ETH_STEER_TAB n, 7, 0, .rw, 0⟩
def ETH_P_CFG (n : Nat) : Nat := 0x40060800 + 0x80 * n
def ETH_P_CFG_START (n : Nat) : Fld := ⟨ETH_P_CFG n, 31, 31, .rwa, 0⟩
def ETH_P_CFG_MTU (n : Nat) : Fld := ⟨ETH_P_CFG n, 29, 16, .rwa, 0x2328⟩
def ETH_P_CFG_DEST (n : Nat) : Fld := ⟨ETH_P_CFG n, 15, 8, .rw, 0⟩
def ETH_P_CFG_MODE (n : Nat) : Fld := ⟨ETH_P_CFG n, 2, 0, .rwa, 0⟩
def ETH_P_STATUS (n : Nat) : Nat := 0x40060804 + 0x80 * n
def ETH_P_STATUS_LINK_LOST (n : Nat) : Fld := ⟨ETH_P_STATUS n, 10, 10, .w1c, 0⟩
def ETH_P_STATUS_CAUSE (n : Nat) : Fld := ⟨ETH_P_STATUS n, 9, 8, .ro, 0⟩
def ETH_P_STATUS_FEC_ALIGN (n : Nat) : Fld := ⟨ETH_P_STATUS n, 7, 7, .ro, 0⟩
def ETH_P_STATUS_HI_BER (n : Nat) : Fld := ⟨ETH_P_STATUS n, 6, 6, .ro, 0⟩
def ETH_P_STATUS_BLOCK_LOCK (n : Nat) : Fld := ⟨ETH_P_STATUS n, 5, 5, .ro, 0⟩
def ETH_P_STATUS_STATE (n : Nat) : Fld := ⟨ETH_P_STATUS n, 2, 0, .ro, 0⟩
def ETH_P_MAC_HI (n : Nat) : Nat := 0x40060808 + 0x80 * n
def ETH_P_MAC_HI_MAC_HI (n : Nat) : Fld := ⟨ETH_P_MAC_HI n, 15, 0, .rwa, 0⟩
def ETH_P_MAC_LO (n : Nat) : Nat := 0x4006080C + 0x80 * n
def ETH_P_MAC_LO_MAC_LO (n : Nat) : Fld := ⟨ETH_P_MAC_LO n, 31, 0, .rwa, 0⟩
def ETH_P_IP4 (n : Nat) : Nat := 0x40060810 + 0x80 * n
def ETH_P_IP4_IP4 (n : Nat) : Fld := ⟨ETH_P_IP4 n, 31, 0, .rwa, 0⟩
def ETH_P_IP6 (n j : Nat) : Nat := 0x40060814 + 0x80 * n + 4 * j
def ETH_P_IP6_IP6 (n j : Nat) : Fld := ⟨ETH_P_IP6 n j, 31, 0, .rwa, 0⟩
def ETH_P_IPCFG (n : Nat) : Nat := 0x40060824 + 0x80 * n
def ETH_P_IPCFG_TTL (n : Nat) : Fld := ⟨ETH_P_IPCFG n, 31, 24, .rw, 0x40⟩
def ETH_P_IPCFG_DSCP (n : Nat) : Fld := ⟨ETH_P_IPCFG n, 23, 18, .rw, 0⟩
def ETH_P_IPCFG_UDP_SRC (n : Nat) : Fld := ⟨ETH_P_IPCFG n, 15, 0, .rw, 0x132E⟩
def ETH_P_TX_DG (n : Nat) : Nat := 0x40060828 + 0x80 * n
def ETH_P_TX_DG_COUNT (n : Nat) : Fld := ⟨ETH_P_TX_DG n, 31, 0, .rc, 0⟩
def ETH_P_TX_REC (n : Nat) : Nat := 0x4006082C + 0x80 * n
def ETH_P_TX_REC_COUNT (n : Nat) : Fld := ⟨ETH_P_TX_REC n, 31, 0, .rc, 0⟩
def ETH_P_FEC (n : Nat) : Nat := 0x40060830 + 0x80 * n
def ETH_P_FEC_CORR (n : Nat) : Fld := ⟨ETH_P_FEC n, 31, 16, .rc, 0⟩
def ETH_P_FEC_UNCORR (n : Nat) : Fld := ⟨ETH_P_FEC n, 15, 0, .rc, 0⟩
def ETH_P_RX (n : Nat) : Nat := 0x40060834 + 0x80 * n
def ETH_P_RX_FCS_ERR (n : Nat) : Fld := ⟨ETH_P_RX n, 31, 24, .rc, 0⟩
def ETH_P_RX_PAUSE (n : Nat) : Fld := ⟨ETH_P_RX n, 23, 16, .rc, 0⟩
def ETH_P_RX_DROPPED (n : Nat) : Fld := ⟨ETH_P_RX n, 15, 8, .rc, 0⟩
def ETH_P_RX_ACCEPTED (n : Nat) : Fld := ⟨ETH_P_RX n, 7, 0, .rc, 0⟩
def DEST_CTRL (n : Nat) : Nat := 0x40061000 + 0x20 * n
def DEST_CTRL_VALID (n : Nat) : Fld := ⟨DEST_CTRL n, 31, 31, .rw, 0⟩
def DEST_CTRL_IPV6 (n : Nat) : Fld := ⟨DEST_CTRL n, 30, 30, .rw, 0⟩
def DEST_CTRL_VLAN_EN (n : Nat) : Fld := ⟨DEST_CTRL n, 29, 29, .rw, 0⟩
def DEST_CTRL_PCP (n : Nat) : Fld := ⟨DEST_CTRL n, 28, 26, .rw, 0⟩
def DEST_CTRL_ALT (n : Nat) : Fld := ⟨DEST_CTRL n, 23, 16, .rw, 0⟩
def DEST_CTRL_PORT (n : Nat) : Fld := ⟨DEST_CTRL n, 14, 12, .rw, 0⟩
def DEST_CTRL_VID (n : Nat) : Fld := ⟨DEST_CTRL n, 11, 0, .rw, 0⟩
def DEST_MAC_HI (n : Nat) : Nat := 0x40061004 + 0x20 * n
def DEST_MAC_HI_UDP_DST (n : Nat) : Fld := ⟨DEST_MAC_HI n, 31, 16, .rw, 0x132E⟩
def DEST_MAC_HI_MAC_HI (n : Nat) : Fld := ⟨DEST_MAC_HI n, 15, 0, .rw, 0⟩
def DEST_MAC_LO (n : Nat) : Nat := 0x40061008 + 0x20 * n
def DEST_MAC_LO_MAC_LO (n : Nat) : Fld := ⟨DEST_MAC_LO n, 31, 0, .rw, 0⟩
def DEST_IP (n j : Nat) : Nat := 0x4006100C + 0x20 * n + 4 * j
def DEST_IP_IP (n j : Nat) : Fld := ⟨DEST_IP n j, 31, 0, .rw, 0⟩
def DEST_REC (n : Nat) : Nat := 0x4006101C + 0x20 * n
def DEST_REC_REC (n : Nat) : Fld := ⟨DEST_REC n, 31, 0, .rc, 0⟩
/-! ### spec/13_pace_and_admission.md -/
def ADM_CTRL : Nat := 0x40070000
def ADM_CTRL_RELOAD : Fld := ⟨ADM_CTRL, 4, 4, .wo, 0⟩
def ADM_CTRL_STORE : Fld := ⟨ADM_CTRL, 3, 3, .wo, 0⟩
def ADM_CTRL_STOP : Fld := ⟨ADM_CTRL, 2, 2, .wo, 0⟩
def ADM_CTRL_RUN : Fld := ⟨ADM_CTRL, 1, 1, .wo, 0⟩
def ADM_CTRL_CHECK : Fld := ⟨ADM_CTRL, 0, 0, .wo, 0⟩
def ADM_STATUS : Nat := 0x40070004
def ADM_STATUS_STORE_ERR : Fld := ⟨ADM_STATUS, 15, 15, .w1c, 0⟩
def ADM_STATUS_STORING : Fld := ⟨ADM_STATUS, 14, 14, .ro, 0⟩
def ADM_STATUS_DEGRADED : Fld := ⟨ADM_STATUS, 13, 13, .ro, 0⟩
def ADM_STATUS_CHECKING : Fld := ⟨ADM_STATUS, 12, 12, .ro, 0⟩
def ADM_STATUS_ADMITTED : Fld := ⟨ADM_STATUS, 11, 11, .ro, 0⟩
def ADM_STATUS_REFUSED : Fld := ⟨ADM_STATUS, 10, 10, .ro, 0⟩
def ADM_STATUS_DISAGREE : Fld := ⟨ADM_STATUS, 9, 9, .ro, 0⟩
def ADM_STATUS_HALF : Fld := ⟨ADM_STATUS, 8, 8, .ro, 0⟩
def ADM_STATUS_IMG_SRC : Fld := ⟨ADM_STATUS, 7, 6, .ro, 0⟩
def ADM_STATUS_NOR_VALID : Fld := ⟨ADM_STATUS, 5, 5, .ro, 0⟩
def ADM_STATUS_YARD_VALID : Fld := ⟨ADM_STATUS, 4, 4, .ro, 0⟩
def ADM_REFUSE : Nat := 0x40070008
def ADM_REFUSE_CLASS : Fld := ⟨ADM_REFUSE, 7, 0, .ro, 0⟩
def ADM_DETAIL : Nat := 0x4007000C
def ADM_DETAIL_INDEX : Fld := ⟨ADM_DETAIL, 31, 20, .ro, 0⟩
def ADM_DETAIL_SUB : Fld := ⟨ADM_DETAIL, 19, 16, .ro, 0⟩
def ADM_DETAIL_VALUE : Fld := ⟨ADM_DETAIL, 15, 0, .ro, 0⟩
def ADM_IMG_GEN : Nat := 0x40070010
def ADM_IMG_GEN_GEN : Fld := ⟨ADM_IMG_GEN, 31, 0, .ro, 0⟩
def ADM_IMG_LEN : Nat := 0x40070014
def ADM_IMG_LEN_LEN : Fld := ⟨ADM_IMG_LEN, 31, 0, .ro, 0⟩
def ADM_IMG_CRC : Nat := 0x40070018
def ADM_IMG_CRC_CRC : Fld := ⟨ADM_IMG_CRC, 31, 0, .ro, 0⟩
def ADM_PACE_CFG : Nat := 0x40070020
def ADM_PACE_CFG_HYST : Fld := ⟨ADM_PACE_CFG, 31, 24, .rwa, 0x28⟩
def ADM_PACE_CFG_GUARD : Fld := ⟨ADM_PACE_CFG, 23, 16, .rwa, 0x19⟩
def ADM_PACE_CFG_ADMIT_PACE : Fld := ⟨ADM_PACE_CFG, 9, 0, .rwa, 0x1F4⟩
def ADM_PACE : Nat := 0x40070024
def ADM_PACE_PACE_MIN : Fld := ⟨ADM_PACE, 31, 16, .rc, 0xFFFF⟩
def ADM_PACE_PACE_NOW : Fld := ⟨ADM_PACE, 15, 0, .ro, 0⟩
def ADM_VCORE_LIM : Nat := 0x40070028
def ADM_VCORE_LIM_VMAX : Fld := ⟨ADM_VCORE_LIM, 26, 16, .rwa, 0x44C⟩
def ADM_VCORE_LIM_VMIN : Fld := ⟨ADM_VCORE_LIM, 10, 0, .rwa, 0x320⟩
def ADM_VCORE : Nat := 0x4007002C
def ADM_VCORE_GOV_EN : Fld := ⟨ADM_VCORE, 31, 31, .rw, 1⟩
def ADM_VCORE_SET : Fld := ⟨ADM_VCORE, 10, 0, .ro, 0x44C⟩
def ADM_PRIM_CFG : Nat := 0x40070030
def ADM_PRIM_CFG_UPMAX : Fld := ⟨ADM_PRIM_CFG, 31, 16, .rwa, 0⟩
def ADM_PRIM_CFG_LAT : Fld := ⟨ADM_PRIM_CFG, 8, 0, .rwa, 0x100⟩
def ADM_PRIM_STAT : Nat := 0x40070034
def ADM_PRIM_STAT_LATE : Fld := ⟨ADM_PRIM_STAT, 31, 16, .rc, 0⟩
def ADM_PRIM_STAT_MARGIN_MIN : Fld := ⟨ADM_PRIM_STAT, 7, 0, .rc, 0xFF⟩
def ADM_PO_MASK0_LO : Nat := 0x40070038
def ADM_PO_MASK0_LO_MASK : Fld := ⟨ADM_PO_MASK0_LO, 31, 0, .rwa, 0xFFFFFFFF⟩
def ADM_PO_MASK0_HI : Nat := 0x4007003C
def ADM_PO_MASK0_HI_MASK : Fld := ⟨ADM_PO_MASK0_HI, 15, 0, .rwa, 0xFFFF⟩
def ADM_PO_MASK1_LO : Nat := 0x40070040
def ADM_PO_MASK1_LO_MASK : Fld := ⟨ADM_PO_MASK1_LO, 31, 0, .rwa, 0xFFFFFFFF⟩
def ADM_PO_MASK1_HI : Nat := 0x40070044
def ADM_PO_MASK1_HI_MASK : Fld := ⟨ADM_PO_MASK1_HI, 15, 0, .rwa, 0xFFFF⟩
def ADM_PO_CTRL : Nat := 0x40070048
def ADM_PO_CTRL_PO1_EN : Fld := ⟨ADM_PO_CTRL, 1, 1, .rwa, 1⟩
def ADM_PO_CTRL_PO0_EN : Fld := ⟨ADM_PO_CTRL, 0, 0, .rwa, 1⟩
def ADM_SHED_CFG : Nat := 0x40070050
def ADM_SHED_CFG_DEG_FILL : Fld := ⟨ADM_SHED_CFG, 31, 24, .rwa, 0x4B⟩
def ADM_SHED_CFG_RECOVER_MS : Fld := ⟨ADM_SHED_CFG, 23, 16, .rwa, 0xA⟩
def ADM_SHED_CFG_STEP_US : Fld := ⟨ADM_SHED_CFG, 15, 0, .rwa, 0x64⟩
def ADM_HOLD_CFG : Nat := 0x40070054
def ADM_HOLD_CFG_HOLD_ON : Fld := ⟨ADM_HOLD_CFG, 31, 16, .rwa, 0x14⟩
def ADM_HOLD_CFG_HOLD_OFF : Fld := ⟨ADM_HOLD_CFG, 15, 0, .rwa, 0x50⟩
def ADM_DEG_STATUS : Nat := 0x40070058
def ADM_DEG_STATUS_CAPACITY : Fld := ⟨ADM_DEG_STATUS, 7, 7, .ro, 0⟩
def ADM_DEG_STATUS_BACKLOG : Fld := ⟨ADM_DEG_STATUS, 6, 6, .ro, 0⟩
def ADM_DEG_STATUS_RINGS : Fld := ⟨ADM_DEG_STATUS, 5, 5, .ro, 0⟩
def ADM_DEG_STATUS_PACE : Fld := ⟨ADM_DEG_STATUS, 4, 4, .ro, 0⟩
def ADM_DEG_STATUS_STEP : Fld := ⟨ADM_DEG_STATUS, 1, 0, .ro, 0⟩
def ADM_DEG_CNT : Nat := 0x4007005C
def ADM_DEG_CNT_ENTRIES : Fld := ⟨ADM_DEG_CNT, 31, 16, .rc, 0⟩
def ADM_DEG_CNT_HOLD_CYCLES : Fld := ⟨ADM_DEG_CNT, 15, 0, .rc, 0⟩
def ADM_RING (n : Nat) : Nat := 0x40070080 + 4 * n
def ADM_RING_EN (n : Nat) : Fld := ⟨ADM_RING n, 31, 31, .rw, 1⟩
def ADM_RING_FAULT (n : Nat) : Fld := ⟨ADM_RING n, 30, 30, .ro, 0⟩
def ADM_RING_COUNT (n : Nat) : Fld := ⟨ADM_RING n, 15, 0, .ro, 0⟩
/-! ### spec/14_protected_memory.md -/
def MEM_CTRL : Nat := 0x40080000
def MEM_CTRL_PERIOD : Fld := ⟨MEM_CTRL, 15, 8, .rw, 0xA⟩
def MEM_CTRL_AUTO_REMAP : Fld := ⟨MEM_CTRL, 1, 1, .rw, 1⟩
def MEM_CTRL_GROOM_EN : Fld := ⟨MEM_CTRL, 0, 0, .rw, 1⟩
def MEM_STATUS : Nat := 0x40080004
def MEM_STATUS_CONFIRM : Fld := ⟨MEM_STATUS, 11, 8, .ro, 0⟩
def MEM_STATUS_FAR_REFUSED : Fld := ⟨MEM_STATUS, 6, 6, .w1c, 0⟩
def MEM_STATUS_FARRIER_FULL : Fld := ⟨MEM_STATUS, 5, 5, .w1c, 0⟩
def MEM_STATUS_LOG_OVF : Fld := ⟨MEM_STATUS, 4, 4, .w1c, 0⟩
def MEM_STATUS_GROOM_LATE : Fld := ⟨MEM_STATUS, 3, 3, .w1c, 0⟩
def MEM_STATUS_ADDR_SEEN : Fld := ⟨MEM_STATUS, 2, 2, .w1c, 0⟩
def MEM_STATUS_UE_SEEN : Fld := ⟨MEM_STATUS, 1, 1, .w1c, 0⟩
def MEM_STATUS_GROOM_BUSY : Fld := ⟨MEM_STATUS, 0, 0, .ro, 0⟩
def MEM_GROOM : Nat := 0x40080008
def MEM_GROOM_PASSES : Fld := ⟨MEM_GROOM, 31, 16, .ro, 0⟩
def MEM_GROOM_PROGRESS : Fld := ⟨MEM_GROOM, 7, 0, .ro, 0⟩
def MEM_BIST : Nat := 0x4008000C
def MEM_BIST_CHECK_FAIL : Fld := ⟨MEM_BIST, 21, 16, .ro, 0⟩
def MEM_BIST_MARCH_FAIL : Fld := ⟨MEM_BIST, 13, 8, .ro, 0⟩
def MEM_BIST_DONE : Fld := ⟨MEM_BIST, 0, 0, .ro, 0⟩
def MEM_CNTA (n : Nat) : Nat := 0x40080040 + 0x10 * n
def MEM_CNTA_CORR (n : Nat) : Fld := ⟨MEM_CNTA n, 31, 16, .rc, 0⟩
def MEM_CNTA_UNCORR (n : Nat) : Fld := ⟨MEM_CNTA n, 15, 0, .rc, 0⟩
def MEM_CNTB (n : Nat) : Nat := 0x40080044 + 0x10 * n
def MEM_CNTB_TRANSIENT (n : Nat) : Fld := ⟨MEM_CNTB n, 31, 16, .rc, 0⟩
def MEM_CNTB_LASTING (n : Nat) : Fld := ⟨MEM_CNTB n, 15, 8, .rc, 0⟩
def MEM_CNTB_ADDRESS (n : Nat) : Fld := ⟨MEM_CNTB n, 7, 0, .rc, 0⟩
def MEM_SPARES (n : Nat) : Nat := 0x40080048 + 0x10 * n
def MEM_SPARES_UNUSABLE (n : Nat) : Fld := ⟨MEM_SPARES n, 26, 16, .ro, 0⟩
def MEM_SPARES_MAPPED (n : Nat) : Fld := ⟨MEM_SPARES n, 10, 0, .ro, 0⟩
def MEM_LOG_INFO : Nat := 0x40080100
def MEM_LOG_INFO_VALID : Fld := ⟨MEM_LOG_INFO, 31, 31, .ro, 0⟩
def MEM_LOG_INFO_MEM : Fld := ⟨MEM_LOG_INFO, 30, 28, .ro, 0⟩
def MEM_LOG_INFO_CLASS : Fld := ⟨MEM_LOG_INFO, 27, 25, .ro, 0⟩
def MEM_LOG_INFO_OUTCOME : Fld := ⟨MEM_LOG_INFO, 24, 22, .ro, 0⟩
def MEM_LOG_INFO_SOURCE : Fld := ⟨MEM_LOG_INFO, 21, 17, .ro, 0⟩
def MEM_LOG_INFO_CHANNEL : Fld := ⟨MEM_LOG_INFO, 16, 13, .ro, 0⟩
def MEM_LOG_INFO_SYNDROME : Fld := ⟨MEM_LOG_INFO, 8, 0, .ro, 0⟩
def MEM_LOG_ADDR : Nat := 0x40080104
def MEM_LOG_ADDR_INDEX : Fld := ⟨MEM_LOG_ADDR, 19, 0, .ro, 0⟩
def MEM_LOG_TIME_LO : Nat := 0x40080108
def MEM_LOG_TIME_LO_TIME : Fld := ⟨MEM_LOG_TIME_LO, 31, 0, .ro, 0⟩
def MEM_LOG_TIME_HI : Nat := 0x4008010C
def MEM_LOG_TIME_HI_TIME : Fld := ⟨MEM_LOG_TIME_HI, 31, 0, .ro, 0⟩
def MEM_LOG_CNT : Nat := 0x40080110
def MEM_LOG_CNT_LOST : Fld := ⟨MEM_LOG_CNT, 31, 16, .rc, 0⟩
def MEM_LOG_CNT_DEPTH : Fld := ⟨MEM_LOG_CNT, 5, 0, .ro, 0⟩
def MEM_FAR_SEL : Nat := 0x40080200
def MEM_FAR_SEL_MEM : Fld := ⟨MEM_FAR_SEL, 13, 11, .rw, 0⟩
def MEM_FAR_SEL_GROUP : Fld := ⟨MEM_FAR_SEL, 10, 4, .rw, 0⟩
def MEM_FAR_SEL_ENTRY : Fld := ⟨MEM_FAR_SEL, 3, 0, .rw, 0⟩
def MEM_FAR_DATA : Nat := 0x40080204
def MEM_FAR_DATA_VALID : Fld := ⟨MEM_FAR_DATA, 31, 31, .rw, 0⟩
def MEM_FAR_DATA_SPARE_BAD : Fld := ⟨MEM_FAR_DATA, 30, 30, .ro, 0⟩
def MEM_FAR_DATA_SPARE : Fld := ⟨MEM_FAR_DATA, 19, 16, .rw, 0⟩
def MEM_FAR_DATA_ROW : Fld := ⟨MEM_FAR_DATA, 15, 0, .rw, 0⟩
def MEM_INJECT : Nat := 0x40080300
def MEM_INJECT_ARM : Fld := ⟨MEM_INJECT, 31, 31, .rwa, 0⟩
def MEM_INJECT_MEM : Fld := ⟨MEM_INJECT, 30, 28, .rwa, 0⟩
def MEM_INJECT_KIND : Fld := ⟨MEM_INJECT, 27, 26, .rwa, 0⟩
def MEM_INJECT_BIT_B : Fld := ⟨MEM_INJECT, 14, 8, .rwa, 0⟩
def MEM_INJECT_BIT_A : Fld := ⟨MEM_INJECT, 7, 0, .rwa, 0⟩
def MEM_INJECT_ADDR : Nat := 0x40080304
def MEM_INJECT_ADDR_INDEX : Fld := ⟨MEM_INJECT_ADDR, 19, 0, .rwa, 0⟩
/-! ### spec/15_control_cores_and_scheduler.md -/
def SCH_CTRL : Nat := 0x40090000
def SCH_CTRL_STAND_US : Fld := ⟨SCH_CTRL, 31, 16, .rw, 0x3E8⟩
def SCH_CTRL_AGE_MS : Fld := ⟨SCH_CTRL, 15, 0, .rw, 0xA⟩
def SCH_STATUS : Nat := 0x40090004
def SCH_STATUS_SPILLED : Fld := ⟨SCH_STATUS, 31, 16, .ro, 0⟩
def SCH_STATUS_MISS : Fld := ⟨SCH_STATUS, 4, 4, .w1c, 0⟩
def SCH_STATUS_NP_OVER : Fld := ⟨SCH_STATUS, 3, 3, .w1c, 0⟩
def SCH_STATUS_LOST : Fld := ⟨SCH_STATUS, 2, 2, .w1c, 0⟩
def SCH_STATUS_POST_REFUSED : Fld := ⟨SCH_STATUS, 1, 1, .w1c, 0⟩
def SCH_STATUS_STANDSTILL : Fld := ⟨SCH_STATUS, 0, 0, .w1c, 0⟩
def SCH_SETFLAG : Nat := 0x40090008
def SCH_SETFLAG_FLAG : Fld := ⟨SCH_SETFLAG, 29, 25, .wo, 0⟩
def SCH_SETFLAG_TASK : Fld := ⟨SCH_SETFLAG, 24, 15, .wo, 0⟩
def SCH_POST_LO : Nat := 0x4009000C
def SCH_POST_LO_ARG : Fld := ⟨SCH_POST_LO, 31, 0, .rw, 0⟩
def SCH_POST_HI : Nat := 0x40090010
def SCH_POST_HI_TASK : Fld := ⟨SCH_POST_HI, 24, 15, .wo, 0⟩
def SCH_POST_HI_FLOW_SEL : Fld := ⟨SCH_POST_HI, 13, 12, .wo, 0⟩
def SCH_POST_HI_FLOW : Fld := ⟨SCH_POST_HI, 11, 0, .wo, 0⟩
def SCH_CNT : Nat := 0x40090014
def SCH_CNT_POSTS_REFUSED : Fld := ⟨SCH_CNT, 31, 16, .rc, 0⟩
def SCH_CNT_LOST : Fld := ⟨SCH_CNT, 15, 8, .rc, 0⟩
def SCH_CNT_STANDSTILLS : Fld := ⟨SCH_CNT, 7, 0, .rc, 0⟩
def SCH_MTIME_LO : Nat := 0x40090018
def SCH_MTIME_LO_MTIME : Fld := ⟨SCH_MTIME_LO, 31, 0, .ro, 0⟩
def SCH_MTIME_HI : Nat := 0x4009001C
def SCH_MTIME_HI_MTIME : Fld := ⟨SCH_MTIME_HI, 31, 0, .ro, 0⟩
def SCH_MSIP : Nat := 0x40090020
def SCH_MSIP_MSIP : Fld := ⟨SCH_MSIP, 4, 1, .rw, 0⟩
def SCH_LVL (n : Nat) : Nat := 0x40090040 + 4 * n
def SCH_LVL_SPILLED (n : Nat) : Fld := ⟨SCH_LVL n, 31, 16, .ro, 0⟩
def SCH_LVL_ON_CHIP (n : Nat) : Fld := ⟨SCH_LVL n, 8, 0, .ro, 0⟩
def SCH_TRACE_CTRL : Nat := 0x40090080
def SCH_TRACE_CTRL_EN : Fld := ⟨SCH_TRACE_CTRL, 31, 31, .rw, 1⟩
def SCH_TRACE_CTRL_FREEZE : Fld := ⟨SCH_TRACE_CTRL, 30, 30, .rw, 0⟩
def SCH_TRACE_CTRL_FREEZE_ON_FATAL : Fld := ⟨SCH_TRACE_CTRL, 29, 29, .rw, 1⟩
def SCH_TRACE_CTRL_LOST : Fld := ⟨SCH_TRACE_CTRL, 23, 16, .rc, 0⟩
def SCH_TRACE_CTRL_WRAPPED : Fld := ⟨SCH_TRACE_CTRL, 14, 14, .ro, 0⟩
def SCH_TRACE_CTRL_WPTR : Fld := ⟨SCH_TRACE_CTRL, 13, 0, .ro, 0⟩
def SCH_TRACE_MARK : Nat := 0x40090084
def SCH_TRACE_MARK_MARK : Fld := ⟨SCH_TRACE_MARK, 29, 0, .wo, 0⟩
def SCH_WIN_PAGE : Nat := 0x40090088
def SCH_WIN_PAGE_AREA : Fld := ⟨SCH_WIN_PAGE, 3, 3, .rw, 0⟩
def SCH_WIN_PAGE_PAGE : Fld := ⟨SCH_WIN_PAGE, 2, 0, .rw, 0⟩
def SCH_C_CTRL (n : Nat) : Nat := 0x40090100 + 0x40 * n
def SCH_C_CTRL_BC (n : Nat) : Fld := ⟨SCH_C_CTRL n, 31, 16, .rwa, 0x14⟩
def SCH_C_CTRL_NOPREEMPT (n : Nat) : Fld := ⟨SCH_C_CTRL n, 1, 1, .rw, 0⟩
def SCH_C_CTRL_EN (n : Nat) : Fld := ⟨SCH_C_CTRL n, 0, 0, .rw, 0⟩
def SCH_C_NEXT (n : Nat) : Nat := 0x40090104 + 0x40 * n
def SCH_C_NEXT_VALID (n : Nat) : Fld := ⟨SCH_C_NEXT n, 31, 31, .ro, 0⟩
def SCH_C_NEXT_RESUME (n : Nat) : Fld := ⟨SCH_C_NEXT n, 30, 30, .ro, 0⟩
def SCH_C_NEXT_PRIO (n : Nat) : Fld := ⟨SCH_C_NEXT n, 29, 26, .ro, 0⟩
def SCH_C_NEXT_TASK (n : Nat) : Fld := ⟨SCH_C_NEXT n, 25, 16, .ro, 0⟩
def SCH_C_NEXT_FLOW_EN (n : Nat) : Fld := ⟨SCH_C_NEXT n, 15, 15, .ro, 0⟩
def SCH_C_NEXT_FLOW (n : Nat) : Fld := ⟨SCH_C_NEXT n, 11, 0, .ro, 0⟩
def SCH_C_ARG (n : Nat) : Nat := 0x40090108 + 0x40 * n
def SCH_C_ARG_ARG (n : Nat) : Fld := ⟨SCH_C_ARG n, 31, 0, .ro, 0⟩
def SCH_C_END (n : Nat) : Nat := 0x4009010C + 0x40 * n
def SCH_C_END_END (n : Nat) : Fld := ⟨SCH_C_END n, 0, 0, .wo, 0⟩
def SCH_C_STATE (n : Nat) : Nat := 0x40090110 + 0x40 * n
def SCH_C_STATE_TASK (n : Nat) : Fld := ⟨SCH_C_STATE n, 25, 16, .ro, 0⟩
def SCH_C_STATE_PRIO (n : Nat) : Fld := ⟨SCH_C_STATE n, 15, 12, .ro, 0⟩
def SCH_C_STATE_NP_OVER (n : Nat) : Fld := ⟨SCH_C_STATE n, 7, 7, .w1c, 0⟩
def SCH_C_STATE_WFI (n : Nat) : Fld := ⟨SCH_C_STATE n, 6, 6, .ro, 0⟩
def SCH_C_STATE_HALTED (n : Nat) : Fld := ⟨SCH_C_STATE n, 5, 5, .ro, 0⟩
def SCH_C_STATE_STATE (n : Nat) : Fld := ⟨SCH_C_STATE n, 1, 0, .ro, 0⟩
def SCH_C_DEPTH (n : Nat) : Nat := 0x40090114 + 0x40 * n
def SCH_C_DEPTH_DEPTH_MAX (n : Nat) : Fld := ⟨SCH_C_DEPTH n, 31, 16, .rc, 0⟩
def SCH_C_DEPTH_DEPTH (n : Nat) : Fld := ⟨SCH_C_DEPTH n, 15, 0, .ro, 0⟩
def SCH_C_WAIT (n : Nat) : Nat := 0x40090118 + 0x40 * n
def SCH_C_WAIT_WAIT_1S (n : Nat) : Fld := ⟨SCH_C_WAIT n, 31, 16, .ro, 0⟩
def SCH_C_WAIT_WAIT_1MS (n : Nat) : Fld := ⟨SCH_C_WAIT n, 15, 0, .ro, 0⟩
def SCH_C_LOAD (n : Nat) : Nat := 0x4009011C + 0x40 * n
def SCH_C_LOAD_LOAD_1S (n : Nat) : Fld := ⟨SCH_C_LOAD n, 31, 16, .ro, 0⟩
def SCH_C_LOAD_LOAD_1MS (n : Nat) : Fld := ⟨SCH_C_LOAD n, 15, 0, .ro, 0⟩
def SCH_C_NP (n : Nat) : Nat := 0x40090120 + 0x40 * n
def SCH_C_NP_NP_MAX (n : Nat) : Fld := ⟨SCH_C_NP n, 15, 0, .rc, 0⟩
def SCH_C_MTIMECMP_LO (n : Nat) : Nat := 0x40090124 + 0x40 * n
def SCH_C_MTIMECMP_LO_CMP (n : Nat) : Fld := ⟨SCH_C_MTIMECMP_LO n, 31, 0, .rw, 0xFFFFFFFF⟩
def SCH_C_MTIMECMP_HI (n : Nat) : Nat := 0x40090128 + 0x40 * n
def SCH_C_MTIMECMP_HI_CMP (n : Nat) : Fld := ⟨SCH_C_MTIMECMP_HI n, 31, 0, .rw, 0xFFFFFFFF⟩
def SCH_ROUTE (n : Nat) : Nat := 0x40090300 + 4 * n
def SCH_ROUTE_EN (n : Nat) : Fld := ⟨SCH_ROUTE n, 31, 31, .rw, 0⟩
def SCH_ROUTE_FLAG (n : Nat) : Fld := ⟨SCH_ROUTE n, 29, 25, .rw, 0⟩
def SCH_ROUTE_TASK (n : Nat) : Fld := ⟨SCH_ROUTE n, 24, 15, .rw, 0⟩
def SCH_PER_CFG (n : Nat) : Nat := 0x40090800 + 0x10 * n
def SCH_PER_CFG_EN (n : Nat) : Fld := ⟨SCH_PER_CFG n, 31, 31, .rwa, 0⟩
def SCH_PER_CFG_MISS (n : Nat) : Fld := ⟨SCH_PER_CFG n, 30, 30, .w1c, 0⟩
def SCH_PER_CFG_TASK (n : Nat) : Fld := ⟨SCH_PER_CFG n, 25, 16, .rwa, 0⟩
def SCH_PER_T (n : Nat) : Nat := 0x40090804 + 0x10 * n
def SCH_PER_T_T (n : Nat) : Fld := ⟨SCH_PER_T n, 23, 0, .rwa, 0⟩
def SCH_PER_D (n : Nat) : Nat := 0x40090808 + 0x10 * n
def SCH_PER_D_D (n : Nat) : Fld := ⟨SCH_PER_D n, 23, 0, .rwa, 0⟩
def SCH_PER_CNT (n : Nat) : Nat := 0x4009080C + 0x10 * n
def SCH_PER_CNT_RELEASES (n : Nat) : Fld := ⟨SCH_PER_CNT n, 31, 16, .rc, 0⟩
def SCH_PER_CNT_MISSES (n : Nat) : Fld := ⟨SCH_PER_CNT n, 15, 0, .rc, 0⟩
def SCH_T_CFG (n : Nat) : Nat := 0x40094000 + 0x10 * n
def SCH_T_CFG_EN (n : Nat) : Fld := ⟨SCH_T_CFG n, 31, 31, .rw, 0⟩
def SCH_T_CFG_CLASS (n : Nat) : Fld := ⟨SCH_T_CFG n, 30, 30, .rw, 0⟩
def SCH_T_CFG_ALL (n : Nat) : Fld := ⟨SCH_T_CFG n, 29, 29, .rw, 0⟩
def SCH_T_CFG_FLOW_EN (n : Nat) : Fld := ⟨SCH_T_CFG n, 28, 28, .rw, 0⟩
def SCH_T_CFG_FLOW (n : Nat) : Fld := ⟨SCH_T_CFG n, 27, 16, .rw, 0⟩
def SCH_T_CFG_PRIO (n : Nat) : Fld := ⟨SCH_T_CFG n, 15, 12, .rw, 0⟩
def SCH_T_CFG_CEIL (n : Nat) : Fld := ⟨SCH_T_CFG n, 11, 8, .rw, 0⟩
def SCH_T_CFG_CORES (n : Nat) : Fld := ⟨SCH_T_CFG n, 7, 4, .rw, 0xF⟩
def SCH_T_MASK (n : Nat) : Nat := 0x40094004 + 0x10 * n
def SCH_T_MASK_MASK (n : Nat) : Fld := ⟨SCH_T_MASK n, 31, 0, .rw, 0⟩
def SCH_T_FLAGS (n : Nat) : Nat := 0x40094008 + 0x10 * n
def SCH_T_FLAGS_FLAGS (n : Nat) : Fld := ⟨SCH_T_FLAGS n, 31, 0, .w1c, 0⟩
def SCH_T_STAT (n : Nat) : Nat := 0x4009400C + 0x10 * n
def SCH_T_STAT_QUEUED (n : Nat) : Fld := ⟨SCH_T_STAT n, 31, 16, .ro, 0⟩
def SCH_T_STAT_RUNNING (n : Nat) : Fld := ⟨SCH_T_STAT n, 6, 4, .ro, 0⟩
def SCH_T_STAT_FLAG_ITEM (n : Nat) : Fld := ⟨SCH_T_STAT n, 3, 3, .ro, 0⟩
/-! ### spec/16_mailboxes_debug_dump.md -/
def MBX_DATA (n j : Nat) : Nat := 0x400A0000 + 0x40 * n + 4 * j
def MBX_DATA_DATA (n j : Nat) : Fld := ⟨MBX_DATA n j, 31, 0, .rw, 0⟩
def MBX_STATUS (n : Nat) : Nat := 0x400A0020 + 0x40 * n
def MBX_STATUS_FULL (n : Nat) : Fld := ⟨MBX_STATUS n, 31, 31, .ro, 0⟩
def MBX_STATUS_MIXED (n : Nat) : Fld := ⟨MBX_STATUS n, 30, 30, .ro, 0⟩
def MBX_STATUS_SENDER (n : Nat) : Fld := ⟨MBX_STATUS n, 29, 26, .ro, 0⟩
def MBX_STATUS_WR_REFUSED (n : Nat) : Fld := ⟨MBX_STATUS n, 21, 21, .w1c, 0⟩
def MBX_STATUS_SEND_REFUSED (n : Nat) : Fld := ⟨MBX_STATUS n, 20, 20, .w1c, 0⟩
def MBX_STATUS_OWNER (n : Nat) : Fld := ⟨MBX_STATUS n, 19, 16, .ro, 0⟩
def MBX_STATUS_BROKEN (n : Nat) : Fld := ⟨MBX_STATUS n, 15, 15, .ro, 0⟩
def MBX_STATUS_LAPSED (n : Nat) : Fld := ⟨MBX_STATUS n, 14, 14, .ro, 0⟩
def MBX_STATUS_STALE_RELEASE (n : Nat) : Fld := ⟨MBX_STATUS n, 13, 13, .w1c, 0⟩
def MBX_STATUS_LAPSES (n : Nat) : Fld := ⟨MBX_STATUS n, 11, 8, .rc, 0⟩
def MBX_STATUS_SENDS (n : Nat) : Fld := ⟨MBX_STATUS n, 7, 0, .rc, 0⟩
def MBX_CTRL (n : Nat) : Nat := 0x400A0024 + 0x40 * n
def MBX_CTRL_ACK (n : Nat) : Fld := ⟨MBX_CTRL n, 1, 1, .wo, 0⟩
def MBX_CTRL_SEND (n : Nat) : Fld := ⟨MBX_CTRL n, 0, 0, .wo, 0⟩
def MBX_LOCK (n : Nat) : Nat := 0x400A0028 + 0x40 * n
def MBX_LOCK_LOCK (n : Nat) : Fld := ⟨MBX_LOCK n, 3, 0, .rw, 0⟩
def MBX_LKCFG (n : Nat) : Nat := 0x400A002C + 0x40 * n
def MBX_LKCFG_FORCE (n : Nat) : Fld := ⟨MBX_LKCFG n, 31, 31, .wo, 0⟩
def MBX_LKCFG_LEASE (n : Nat) : Fld := ⟨MBX_LKCFG n, 15, 0, .rw, 0⟩
def FENCE_BASE (n : Nat) : Nat := 0x400A0400 + 0x10 * n
def FENCE_BASE_ADDR (n : Nat) : Fld := ⟨FENCE_BASE n, 31, 6, .rw, 0⟩
def FENCE_LIMIT (n : Nat) : Nat := 0x400A0404 + 0x10 * n
def FENCE_LIMIT_ADDR (n : Nat) : Fld := ⟨FENCE_LIMIT n, 31, 6, .rw, 0⟩
def FENCE_CFG (n : Nat) : Nat := 0x400A0408 + 0x10 * n
def FENCE_CFG_VALID (n : Nat) : Fld := ⟨FENCE_CFG n, 31, 31, .rw, 0⟩
def FENCE_CFG_DICT_W (n : Nat) : Fld := ⟨FENCE_CFG n, 9, 9, .rw, 0⟩
def FENCE_CFG_DICT_R (n : Nat) : Fld := ⟨FENCE_CFG n, 8, 8, .rw, 0⟩
def FENCE_CFG_DMA_W (n : Nat) : Fld := ⟨FENCE_CFG n, 1, 1, .rw, 0⟩
def FENCE_CFG_DMA_R (n : Nat) : Fld := ⟨FENCE_CFG n, 0, 0, .rw, 0⟩
def FENCE_STATUS : Nat := 0x400A0500
def FENCE_STATUS_REFUSED : Fld := ⟨FENCE_STATUS, 31, 16, .rc, 0⟩
def FENCE_STATUS_LAST_AGENT : Fld := ⟨FENCE_STATUS, 15, 12, .ro, 0⟩
def FENCE_STATUS_WR_REFUSED : Fld := ⟨FENCE_STATUS, 0, 0, .w1c, 0⟩
def FENCE_ADDR : Nat := 0x400A0504
def FENCE_ADDR_ADDR : Fld := ⟨FENCE_ADDR, 31, 0, .ro, 0⟩
/-! ### spec/17_paired_operation.md -/
def PAIR_CFG : Nat := 0x400B0000
def PAIR_CFG_MBX_IN : Fld := ⟨PAIR_CFG, 31, 28, .rwa, 0⟩
def PAIR_CFG_MBX_OUT : Fld := ⟨PAIR_CFG, 27, 24, .rwa, 0⟩
def PAIR_CFG_DWIN : Fld := ⟨PAIR_CFG, 23, 16, .rwa, 4⟩
def PAIR_CFG_HB_MISS : Fld := ⟨PAIR_CFG, 15, 12, .rwa, 8⟩
def PAIR_CFG_HB_US : Fld := ⟨PAIR_CFG, 11, 4, .rwa, 0xA⟩
def PAIR_CFG_FW_EN : Fld := ⟨PAIR_CFG, 3, 3, .rwa, 0⟩
def PAIR_CFG_LEAD_B : Fld := ⟨PAIR_CFG, 2, 2, .rwa, 0⟩
def PAIR_CFG_SIDE : Fld := ⟨PAIR_CFG, 1, 1, .rwa, 0⟩
def PAIR_CFG_EN : Fld := ⟨PAIR_CFG, 0, 0, .rwa, 0⟩
def PAIR_CTRL : Nat := 0x400B0004
def PAIR_CTRL_GO_ALONE : Fld := ⟨PAIR_CTRL, 2, 2, .wo, 0⟩
def PAIR_CTRL_REJOIN : Fld := ⟨PAIR_CTRL, 1, 1, .wo, 0⟩
def PAIR_CTRL_MUTE : Fld := ⟨PAIR_CTRL, 0, 0, .rw, 0⟩
def PAIR_STATUS : Nat := 0x400B0008
def PAIR_STATUS_P_WSTATE : Fld := ⟨PAIR_STATUS, 31, 29, .ro, 0⟩
def PAIR_STATUS_P_PSTATE : Fld := ⟨PAIR_STATUS, 28, 26, .ro, 0⟩
def PAIR_STATUS_P_STEP : Fld := ⟨PAIR_STATUS, 25, 24, .ro, 0⟩
def PAIR_STATUS_STEP : Fld := ⟨PAIR_STATUS, 23, 22, .ro, 0⟩
def PAIR_STATUS_PL_LOCK : Fld := ⟨PAIR_STATUS, 21, 21, .ro, 0⟩
def PAIR_STATUS_PARTNER : Fld := ⟨PAIR_STATUS, 20, 20, .ro, 0⟩
def PAIR_STATUS_JOIN_ABANDONED : Fld := ⟨PAIR_STATUS, 11, 11, .w1c, 0⟩
def PAIR_STATUS_DWIN_SHORT : Fld := ⟨PAIR_STATUS, 10, 10, .w1c, 0⟩
def PAIR_STATUS_CFG_MISMATCH : Fld := ⟨PAIR_STATUS, 9, 9, .w1c, 0⟩
def PAIR_STATUS_WALK_MISMATCH : Fld := ⟨PAIR_STATUS, 8, 8, .w1c, 0⟩
def PAIR_STATUS_IMG_MISMATCH : Fld := ⟨PAIR_STATUS, 7, 7, .w1c, 0⟩
def PAIR_STATUS_JOIN_REFUSED : Fld := ⟨PAIR_STATUS, 6, 6, .w1c, 0⟩
def PAIR_STATUS_TIME_SPLIT : Fld := ⟨PAIR_STATUS, 5, 5, .w1c, 0⟩
def PAIR_STATUS_PARTNER_LOST : Fld := ⟨PAIR_STATUS, 4, 4, .w1c, 0⟩
def PAIR_STATUS_DIVERGE : Fld := ⟨PAIR_STATUS, 3, 3, .w1c, 0⟩
def PAIR_STATUS_STATE : Fld := ⟨PAIR_STATUS, 2, 0, .ro, 0⟩
def PAIR_CLAIM : Nat := 0x400B000C
def PAIR_CLAIM_CLAIM : Fld := ⟨PAIR_CLAIM, 31, 0, .rw, 0⟩
def PAIR_PCLAIM : Nat := 0x400B0010
def PAIR_PCLAIM_PCLAIM : Fld := ⟨PAIR_PCLAIM, 31, 0, .ro, 0⟩
def PAIR_PL_DELAY : Nat := 0x400B0014
def PAIR_PL_DELAY_DELAY : Fld := ⟨PAIR_PL_DELAY, 15, 0, .ro, 0⟩
def PAIR_DIV_FIRST_LO : Nat := 0x400B0018
def PAIR_DIV_FIRST_LO_SEQ : Fld := ⟨PAIR_DIV_FIRST_LO, 31, 0, .ro, 0⟩
def PAIR_DIV_FIRST_HI : Nat := 0x400B001C
def PAIR_DIV_FIRST_HI_SEQ : Fld := ⟨PAIR_DIV_FIRST_HI, 31, 0, .ro, 0⟩
def PAIR_DIV_LAST_LO : Nat := 0x400B0020
def PAIR_DIV_LAST_LO_SEQ : Fld := ⟨PAIR_DIV_LAST_LO, 31, 0, .ro, 0⟩
def PAIR_DIV_LAST_HI : Nat := 0x400B0024
def PAIR_DIV_LAST_HI_SEQ : Fld := ⟨PAIR_DIV_LAST_HI, 31, 0, .ro, 0⟩
def PAIR_JOIN_SLOT_LO : Nat := 0x400B0028
def PAIR_JOIN_SLOT_LO_SLOT : Fld := ⟨PAIR_JOIN_SLOT_LO, 31, 0, .ro, 0⟩
def PAIR_JOIN_SLOT_HI : Nat := 0x400B002C
def PAIR_JOIN_SLOT_HI_SLOT : Fld := ⟨PAIR_JOIN_SLOT_HI, 7, 0, .ro, 0⟩
def PAIR_JOIN_SEQ_LO : Nat := 0x400B0030
def PAIR_JOIN_SEQ_LO_SEQ : Fld := ⟨PAIR_JOIN_SEQ_LO, 31, 0, .ro, 0⟩
def PAIR_JOIN_SEQ_HI : Nat := 0x400B0034
def PAIR_JOIN_SEQ_HI_SEQ : Fld := ⟨PAIR_JOIN_SEQ_HI, 31, 0, .ro, 0⟩
def PAIR_DIG_CNT : Nat := 0x400B0038
def PAIR_DIG_CNT_DIVERGED : Fld := ⟨PAIR_DIG_CNT, 31, 16, .rc, 0⟩
def PAIR_DIG_CNT_UNCHECKED : Fld := ⟨PAIR_DIG_CNT, 15, 0, .rc, 0⟩
def PAIR_MATCHED : Nat := 0x400B003C
def PAIR_MATCHED_MATCHED : Fld := ⟨PAIR_MATCHED, 31, 0, .rc, 0⟩
def PAIR_PL_CNT : Nat := 0x400B0040
def PAIR_PL_CNT_CRC_ERR : Fld := ⟨PAIR_PL_CNT, 31, 16, .rc, 0⟩
def PAIR_PL_CNT_GAPS : Fld := ⟨PAIR_PL_CNT, 15, 8, .rc, 0⟩
def PAIR_PL_CNT_FW_DROP : Fld := ⟨PAIR_PL_CNT, 7, 0, .rc, 0⟩
def PAIR_EVT_CNT : Nat := 0x400B0044
def PAIR_EVT_CNT_FROM_PARTNER : Fld := ⟨PAIR_EVT_CNT, 31, 16, .rc, 0⟩
def PAIR_EVT_CNT_DEC_LATE : Fld := ⟨PAIR_EVT_CNT, 15, 8, .rc, 0⟩
def PAIR_EVT_CNT_THETA_LATE : Fld := ⟨PAIR_EVT_CNT, 7, 0, .rc, 0⟩
def PAIR_TIME_CNT : Nat := 0x400B0048
def PAIR_TIME_CNT_OWN_ANCHOR : Fld := ⟨PAIR_TIME_CNT, 31, 16, .rc, 0⟩
def PAIR_TIME_CNT_MUTED : Fld := ⟨PAIR_TIME_CNT, 15, 0, .rc, 0⟩
def PAIR_PORT_TRIM (n : Nat) : Nat := 0x400B0100 + 8 * n
def PAIR_PORT_TRIM_TRIM (n : Nat) : Fld := ⟨PAIR_PORT_TRIM n, 31, 0, .rw, 0⟩
def PAIR_PORT_DIFF (n : Nat) : Nat := 0x400B0104 + 8 * n
def PAIR_PORT_DIFF_DIFF (n : Nat) : Fld := ⟨PAIR_PORT_DIFF n, 31, 0, .ro, 0⟩
/-! ### spec/18_object_dictionary.md -/
def CAN_CFG : Nat := 0x400C0000
def CAN_CFG_EN : Fld := ⟨CAN_CFG, 31, 31, .rw, 1⟩
def CAN_CFG_NODE_ID : Fld := ⟨CAN_CFG, 22, 16, .rw, 0⟩
def CAN_NBT : Nat := 0x400C0004
def CAN_NBT_BRP : Fld := ⟨CAN_NBT, 31, 24, .rw, 1⟩
def CAN_NBT_TSEG1 : Fld := ⟨CAN_NBT, 23, 16, .rw, 0x7F⟩
def CAN_NBT_TSEG2 : Fld := ⟨CAN_NBT, 14, 8, .rw, 0x20⟩
def CAN_NBT_SJW : Fld := ⟨CAN_NBT, 6, 0, .rw, 0x20⟩
def CAN_DBT : Nat := 0x400C0008
def CAN_DBT_BRP : Fld := ⟨CAN_DBT, 31, 24, .rw, 1⟩
def CAN_DBT_TSEG1 : Fld := ⟨CAN_DBT, 21, 16, .rw, 0x1F⟩
def CAN_DBT_TSEG2 : Fld := ⟨CAN_DBT, 12, 8, .rw, 8⟩
def CAN_DBT_SJW : Fld := ⟨CAN_DBT, 4, 0, .rw, 8⟩
def CAN_TDC : Nat := 0x400C000C
def CAN_TDC_TDC_EN : Fld := ⟨CAN_TDC, 31, 31, .rw, 1⟩
def CAN_TDC_TDCO : Fld := ⟨CAN_TDC, 6, 0, .rw, 0x18⟩
def CAN_STATUS : Nat := 0x400C0010
def CAN_STATUS_SOLITARY : Fld := ⟨CAN_STATUS, 15, 15, .ro, 0⟩
def CAN_STATUS_SOLITARY_SEEN : Fld := ⟨CAN_STATUS, 14, 14, .w1c, 0⟩
def CAN_STATUS_BUS_OFF_SEEN : Fld := ⟨CAN_STATUS, 13, 13, .w1c, 0⟩
def CAN_STATUS_PASSIVE_SEEN : Fld := ⟨CAN_STATUS, 12, 12, .w1c, 0⟩
def CAN_STATUS_RX_OVF : Fld := ⟨CAN_STATUS, 11, 11, .w1c, 0⟩
def CAN_STATUS_TPDO_LOST : Fld := ⟨CAN_STATUS, 10, 10, .w1c, 0⟩
def CAN_STATUS_ERR_STATE : Fld := ⟨CAN_STATUS, 9, 8, .ro, 0⟩
def CAN_STATUS_NODE_ID_ERR : Fld := ⟨CAN_STATUS, 7, 7, .ro, 0⟩
def CAN_STATUS_NMT : Fld := ⟨CAN_STATUS, 6, 4, .ro, 0⟩
def CAN_ERR : Nat := 0x400C0014
def CAN_ERR_TEC : Fld := ⟨CAN_ERR, 24, 16, .ro, 0⟩
def CAN_ERR_REC : Fld := ⟨CAN_ERR, 15, 8, .ro, 0⟩
def CAN_ERR_NOACK_RUN : Fld := ⟨CAN_ERR, 7, 0, .ro, 0⟩
def CAN_CNT : Nat := 0x400C0018
def CAN_CNT_NOACK : Fld := ⟨CAN_CNT, 31, 16, .rc, 0⟩
def CAN_CNT_BUS_OFF : Fld := ⟨CAN_CNT, 15, 8, .rc, 0⟩
def CAN_CNT_RX_LOST : Fld := ⟨CAN_CNT, 7, 0, .rc, 0⟩
def DICT_CNT : Nat := 0x400C001C
def DICT_CNT_REQUESTS : Fld := ⟨DICT_CNT, 31, 16, .rc, 0⟩
def DICT_CNT_ABORTS : Fld := ⟨DICT_CNT, 15, 8, .rc, 0⟩
def DICT_CNT_MALFORMED : Fld := ⟨DICT_CNT, 7, 4, .rc, 0⟩
def DICT_CNT_RESP_LOST : Fld := ⟨DICT_CNT, 3, 0, .rc, 0⟩
def DICT_LAST : Nat := 0x400C0020
def DICT_LAST_ABORT : Fld := ⟨DICT_LAST, 31, 0, .ro, 0⟩
def DICT_FWID : Nat := 0x400C0024
def DICT_FWID_FWID : Fld := ⟨DICT_FWID, 31, 0, .rw, 0⟩
def DICT_OPT : Nat := 0x400C0028
def DICT_OPT_NMT_RESET_APP : Fld := ⟨DICT_OPT, 8, 8, .rwa, 0⟩
def DICT_OPT_INBAND_EN : Fld := ⟨DICT_OPT, 7, 0, .rw, 0xFF⟩
def CAN_CLI_CTRL (n : Nat) : Nat := 0x400C0100 + 0x20 * n
def CAN_CLI_CTRL_VALID (n : Nat) : Fld := ⟨CAN_CLI_CTRL n, 31, 31, .rwa, 0⟩
def CAN_CLI_CTRL_KIND (n : Nat) : Fld := ⟨CAN_CLI_CTRL n, 30, 30, .rwa, 0⟩
def CAN_CLI_CTRL_IPV6 (n : Nat) : Fld := ⟨CAN_CLI_CTRL n, 29, 29, .rwa, 0⟩
def CAN_CLI_CTRL_PRIV (n : Nat) : Fld := ⟨CAN_CLI_CTRL n, 25, 24, .rwa, 0⟩
def CAN_CLI_CTRL_NODE_ID (n : Nat) : Fld := ⟨CAN_CLI_CTRL n, 6, 0, .rwa, 0⟩
def CAN_CLI_ADDR (n j : Nat) : Nat := 0x400C0104 + 0x20 * n + 4 * j
def CAN_CLI_ADDR_ADDR (n j : Nat) : Fld := ⟨CAN_CLI_ADDR n j, 31, 0, .rwa, 0⟩
/-! ### spec/19_environment_sensing.md -/
def ENV_CTRL : Nat := 0x400D0000
def ENV_CTRL_TIMER_EN : Fld := ⟨ENV_CTRL, 1, 1, .rw, 0⟩
def ENV_CTRL_GO : Fld := ⟨ENV_CTRL, 0, 0, .wo, 0⟩
def ENV_STATUS : Nat := 0x400D0004
def ENV_STATUS_IL_WR_REFUSED : Fld := ⟨ENV_STATUS, 7, 7, .w1c, 0⟩
def ENV_STATUS_REF_COLD : Fld := ⟨ENV_STATUS, 6, 6, .w1c, 0⟩
def ENV_STATUS_ANY_FAULT : Fld := ⟨ENV_STATUS, 5, 5, .ro, 0⟩
def ENV_STATUS_EXC_LIVE : Fld := ⟨ENV_STATUS, 4, 4, .ro, 0⟩
def ENV_STATUS_IL_ON : Fld := ⟨ENV_STATUS, 3, 0, .ro, 0⟩
def ENV_MASK : Nat := 0x400D0008
def ENV_MASK_MASK : Fld := ⟨ENV_MASK, 15, 0, .rwa, 0⟩
def ENV_PERIOD : Nat := 0x400D000C
def ENV_PERIOD_PERIOD : Fld := ⟨ENV_PERIOD, 15, 0, .rw, 0x3E8⟩
def ENV_REF : Nat := 0x400D0010
def ENV_REF_READY : Fld := ⟨ENV_REF, 1, 1, .ro, 0⟩
def ENV_REF_EN : Fld := ⟨ENV_REF, 0, 0, .rw, 0⟩
def ENV_SWEEP : Nat := 0x400D0014
def ENV_SWEEP_OVERLAP : Fld := ⟨ENV_SWEEP, 31, 16, .rc, 0⟩
def ENV_SWEEP_SWEEPS : Fld := ⟨ENV_SWEEP, 15, 8, .ro, 0⟩
def ENV_SWEEP_CHANNEL : Fld := ⟨ENV_SWEEP, 4, 1, .ro, 0⟩
def ENV_SWEEP_BUSY : Fld := ⟨ENV_SWEEP, 0, 0, .ro, 0⟩
def ENV_KICK : Nat := 0x400D0018
def ENV_KICK_KICK : Fld := ⟨ENV_KICK, 31, 31, .wo, 0⟩
def ENV_KICK_KICK_MS : Fld := ⟨ENV_KICK, 15, 0, .rwa, 0x64⟩
def ENV_CH_CFG (n : Nat) : Nat := 0x400D0100 + 0x20 * n
def ENV_CH_CFG_RATE (n : Nat) : Fld := ⟨ENV_CH_CFG n, 11, 10, .rwa, 2⟩
def ENV_CH_CFG_GAIN (n : Nat) : Fld := ⟨ENV_CH_CFG n, 9, 7, .rwa, 0⟩
def ENV_CH_CFG_BURN_EN (n : Nat) : Fld := ⟨ENV_CH_CFG n, 6, 6, .rwa, 0⟩
def ENV_CH_CFG_EXC_EN (n : Nat) : Fld := ⟨ENV_CH_CFG n, 5, 5, .rwa, 0⟩
def ENV_CH_CFG_RANGE (n : Nat) : Fld := ⟨ENV_CH_CFG n, 4, 3, .rwa, 0⟩
def ENV_CH_CFG_MODE (n : Nat) : Fld := ⟨ENV_CH_CFG n, 1, 0, .rwa, 0⟩
def ENV_CH_CTRL (n : Nat) : Nat := 0x400D0104 + 0x20 * n
def ENV_CH_CTRL_RETRY (n : Nat) : Fld := ⟨ENV_CH_CTRL n, 0, 0, .wo, 0⟩
def ENV_CH_STATUS (n : Nat) : Nat := 0x400D0108 + 0x20 * n
def ENV_CH_STATUS_RAMPING (n : Nat) : Fld := ⟨ENV_CH_STATUS n, 7, 7, .ro, 0⟩
def ENV_CH_STATUS_DRIVING (n : Nat) : Fld := ⟨ENV_CH_STATUS n, 6, 6, .ro, 0⟩
def ENV_CH_STATUS_CONTEND (n : Nat) : Fld := ⟨ENV_CH_STATUS n, 5, 5, .ro, 0⟩
def ENV_CH_STATUS_FED_NOW (n : Nat) : Fld := ⟨ENV_CH_STATUS n, 4, 4, .ro, 0⟩
def ENV_CH_STATUS_FED (n : Nat) : Fld := ⟨ENV_CH_STATUS n, 3, 3, .w1c, 0⟩
def ENV_CH_STATUS_CLAMP (n : Nat) : Fld := ⟨ENV_CH_STATUS n, 2, 2, .w1c, 0⟩
def ENV_CH_STATUS_OPEN_NOW (n : Nat) : Fld := ⟨ENV_CH_STATUS n, 1, 1, .ro, 0⟩
def ENV_CH_STATUS_OPEN (n : Nat) : Fld := ⟨ENV_CH_STATUS n, 0, 0, .w1c, 0⟩
def ENV_CH_RES (n : Nat) : Nat := 0x400D010C + 0x20 * n
def ENV_CH_RES_VALID (n : Nat) : Fld := ⟨ENV_CH_RES n, 31, 31, .ro, 0⟩
def ENV_CH_RES_OVER (n : Nat) : Fld := ⟨ENV_CH_RES n, 30, 30, .ro, 0⟩
def ENV_CH_RES_OPEN (n : Nat) : Fld := ⟨ENV_CH_RES n, 29, 29, .ro, 0⟩
def ENV_CH_RES_CLAMP (n : Nat) : Fld := ⟨ENV_CH_RES n, 28, 28, .ro, 0⟩
def ENV_CH_RES_RANGING (n : Nat) : Fld := ⟨ENV_CH_RES n, 27, 27, .ro, 0⟩
def ENV_CH_RES_REF_COLD (n : Nat) : Fld := ⟨ENV_CH_RES n, 26, 26, .ro, 0⟩
def ENV_CH_RES_FED (n : Nat) : Fld := ⟨ENV_CH_RES n, 25, 25, .ro, 0⟩
def ENV_CH_RES_CONTEND (n : Nat) : Fld := ⟨ENV_CH_RES n, 24, 24, .ro, 0⟩
def ENV_CH_RES_CODE (n : Nat) : Fld := ⟨ENV_CH_RES n, 23, 0, .ro, 0⟩
def ENV_CH_TIME (n : Nat) : Nat := 0x400D0110 + 0x20 * n
def ENV_CH_TIME_SWEEP (n : Nat) : Fld := ⟨ENV_CH_TIME n, 31, 24, .ro, 0⟩
def ENV_CH_TIME_TICK (n : Nat) : Fld := ⟨ENV_CH_TIME n, 23, 0, .ro, 0⟩
def ENV_CH_LIM_LO (n : Nat) : Nat := 0x400D0114 + 0x20 * n
def ENV_CH_LIM_LO_LIM (n : Nat) : Fld := ⟨ENV_CH_LIM_LO n, 23, 0, .rwa, 0x800000⟩
def ENV_CH_LIM_HI (n : Nat) : Nat := 0x400D0118 + 0x20 * n
def ENV_CH_LIM_HI_LIM (n : Nat) : Fld := ⟨ENV_CH_LIM_HI n, 23, 0, .rwa, 0x7FFFFF⟩
def ENV_CH_IEXC (n : Nat) : Nat := 0x400D011C + 0x20 * n
def ENV_CH_IEXC_IEXC (n : Nat) : Fld := ⟨ENV_CH_IEXC n, 31, 0, .ro, 0⟩
def ENV_CH_CNT (n : Nat) : Nat := 0x400D0300 + 4 * n
def ENV_CH_CNT_FEDS (n : Nat) : Fld := ⟨ENV_CH_CNT n, 15, 8, .rc, 0⟩
def ENV_CH_CNT_CLAMPS (n : Nat) : Fld := ⟨ENV_CH_CNT n, 7, 0, .rc, 0⟩
def ENV_IL_CTRL (n : Nat) : Nat := 0x400D0400 + 0x10 * n
def ENV_IL_CTRL_LATCH (n : Nat) : Fld := ⟨ENV_IL_CTRL n, 1, 1, .rw, 1⟩
def ENV_IL_CTRL_REQ (n : Nat) : Fld := ⟨ENV_IL_CTRL n, 0, 0, .rw, 0⟩
def ENV_IL_RULE (n : Nat) : Nat := 0x400D0404 + 0x10 * n
def ENV_IL_RULE_KICK_EN (n : Nat) : Fld := ⟨ENV_IL_RULE n, 31, 31, .rwa, 0⟩
def ENV_IL_RULE_MAX_AGE (n : Nat) : Fld := ⟨ENV_IL_RULE n, 30, 16, .rwa, 0x7D0⟩
def ENV_IL_RULE_CH_MASK (n : Nat) : Fld := ⟨ENV_IL_RULE n, 15, 0, .rwa, 0⟩
def ENV_IL_STATUS (n : Nat) : Nat := 0x400D0408 + 0x10 * n
def ENV_IL_STATUS_CAUSE (n : Nat) : Fld := ⟨ENV_IL_STATUS n, 11, 8, .ro, 0⟩
def ENV_IL_STATUS_LINE (n : Nat) : Fld := ⟨ENV_IL_STATUS n, 4, 4, .ro, 0⟩
def ENV_IL_STATUS_OVERTEMP (n : Nat) : Fld := ⟨ENV_IL_STATUS n, 3, 3, .ro, 0⟩
def ENV_IL_STATUS_SHORT (n : Nat) : Fld := ⟨ENV_IL_STATUS n, 2, 2, .w1c, 0⟩
def ENV_IL_STATUS_PERMIT (n : Nat) : Fld := ⟨ENV_IL_STATUS n, 1, 1, .ro, 0⟩
def ENV_IL_STATUS_ON (n : Nat) : Fld := ⟨ENV_IL_STATUS n, 0, 0, .ro, 0⟩
def ENV_IL_CNT (n : Nat) : Nat := 0x400D040C + 0x10 * n
def ENV_IL_CNT_DROPS (n : Nat) : Fld := ⟨ENV_IL_CNT n, 15, 0, .rc, 0⟩
/-! ### spec/16_mailboxes_debug_dump.md -/
def UART_CTRL : Nat := 0x400E0000
def UART_CTRL_TWO_STOP : Fld := ⟨UART_CTRL, 4, 4, .rw, 0⟩
def UART_CTRL_ODD : Fld := ⟨UART_CTRL, 3, 3, .rw, 0⟩
def UART_CTRL_PAR_EN : Fld := ⟨UART_CTRL, 2, 2, .rw, 0⟩
def UART_CTRL_TX_EN : Fld := ⟨UART_CTRL, 1, 1, .rw, 1⟩
def UART_CTRL_RX_EN : Fld := ⟨UART_CTRL, 0, 0, .rw, 1⟩
def UART_BAUD : Nat := 0x400E0004
def UART_BAUD_DIV_INT : Fld := ⟨UART_BAUD, 11, 4, .rw, 0xD9⟩
def UART_BAUD_DIV_FRAC : Fld := ⟨UART_BAUD, 3, 0, .rw, 0⟩
def UART_STATUS : Nat := 0x400E0008
def UART_STATUS_TX_LEVEL : Fld := ⟨UART_STATUS, 22, 16, .ro, 0⟩
def UART_STATUS_RX_LEVEL : Fld := ⟨UART_STATUS, 14, 8, .ro, 0⟩
def UART_STATUS_BREAK : Fld := ⟨UART_STATUS, 4, 4, .w1c, 0⟩
def UART_STATUS_OVERRUN : Fld := ⟨UART_STATUS, 3, 3, .w1c, 0⟩
def UART_STATUS_NOISE : Fld := ⟨UART_STATUS, 2, 2, .w1c, 0⟩
def UART_STATUS_TX_IDLE : Fld := ⟨UART_STATUS, 1, 1, .ro, 1⟩
def UART_TX : Nat := 0x400E000C
def UART_TX_DATA : Fld := ⟨UART_TX, 7, 0, .wo, 0⟩
def UART_RX : Nat := 0x400E0010
def UART_RX_VALID : Fld := ⟨UART_RX, 31, 31, .ro, 0⟩
def UART_RX_BREAK : Fld := ⟨UART_RX, 10, 10, .ro, 0⟩
def UART_RX_FE : Fld := ⟨UART_RX, 9, 9, .ro, 0⟩
def UART_RX_PE : Fld := ⟨UART_RX, 8, 8, .ro, 0⟩
def UART_RX_DATA : Fld := ⟨UART_RX, 7, 0, .ro, 0⟩
def UART_CNT : Nat := 0x400E0014
def UART_CNT_FE : Fld := ⟨UART_CNT, 31, 24, .rc, 0⟩
def UART_CNT_PE : Fld := ⟨UART_CNT, 23, 16, .rc, 0⟩
def UART_CNT_RX_LOST : Fld := ⟨UART_CNT, 15, 8, .rc, 0⟩
def UART_CNT_TX_DROP : Fld := ⟨UART_CNT, 7, 0, .rc, 0⟩
def DBG_LOFT : Nat := 0x400E0020
def DBG_LOFT_KEEP : Fld := ⟨DBG_LOFT, 31, 31, .ro, 0⟩
def DBG_LOFT_VALID : Fld := ⟨DBG_LOFT, 30, 30, .ro, 0⟩
def DBG_LOFT_RELEASE : Fld := ⟨DBG_LOFT, 29, 29, .wo, 0⟩
def DBG_LOFT_DUMPS : Fld := ⟨DBG_LOFT, 15, 0, .ro, 0⟩
def DBG_STATUS : Nat := 0x400E0024
def DBG_STATUS_TAP_ACTIVE : Fld := ⟨DBG_STATUS, 5, 5, .ro, 0⟩
def DBG_STATUS_HALTED : Fld := ⟨DBG_STATUS, 4, 1, .ro, 0⟩
def DBG_STATUS_DMACTIVE : Fld := ⟨DBG_STATUS, 0, 0, .ro, 0⟩

/-- Rows 0–39 of the index. -/
def rows0 : List RegRow := [
  ⟨"SYS_CAP", 0x40000000, 0, 1, 0, 1, [SYS_CAP_VARIANT, SYS_CAP_EP_COUNT, SYS_CAP_IN_COUNT, SYS_CAP_CMP_COUNT, SYS_CAP_HIGH_LANES, SYS_CAP_HIGH_PORTS, SYS_CAP_CMP]⟩,
  ⟨"SYS_SERIAL_LO", 0x40000004, 0, 1, 0, 1, [SYS_SERIAL_LO_SERIAL]⟩,
  ⟨"SYS_SERIAL_HI", 0x40000008, 0, 1, 0, 1, [SYS_SERIAL_HI_SERIAL]⟩,
  ⟨"SYS_STATE", 0x4000000C, 0, 1, 0, 1, [SYS_STATE_WAS_ADMITTED, SYS_STATE_PREV, SYS_STATE_STATE]⟩,
  ⟨"SYS_RESET", 0x40000010, 0, 1, 0, 1, [SYS_RESET_WARM, SYS_RESET_WARM_COUNT, SYS_RESET_CAUSE]⟩,
  ⟨"SYS_BOOT", 0x40000014, 0, 1, 0, 1, [SYS_BOOT_AUTO_RUN, SYS_BOOT_STORM, SYS_BOOT_NO_FW, SYS_BOOT_FW_SLOT, SYS_BOOT_FATAL_RUN]⟩,
  ⟨"SYS_FATAL", 0x40000018, 0, 1, 0, 1, [SYS_FATAL_ENTER, SYS_FATAL_SOURCE, SYS_FATAL_CODE]⟩,
  ⟨"SYS_FATAL_TMO", 0x4000001C, 0, 1, 0, 1, [SYS_FATAL_TMO_RESET_MS]⟩,
  ⟨"SYS_WDOG", 0x40000020, 0, 1, 0, 1, [SYS_WDOG_KICK, SYS_WDOG_LOCK, SYS_WDOG_EN, SYS_WDOG_EXPIRED, SYS_WDOG_PERIOD]⟩,
  ⟨"SYS_BIST", 0x40000024, 0, 1, 0, 1, [SYS_BIST_DONE, SYS_BIST_CRITICAL, SYS_BIST_XO_WAIT, SYS_BIST_CMP, SYS_BIST_RINGS, SYS_BIST_QUEUE]⟩,
  ⟨"Q_CTRL", 0x40008000, 0x40, 16, 0, 1, [Q_CTRL_NOTIFY_EN 0, Q_CTRL_FLAG 0, Q_CTRL_TASK 0, Q_CTRL_KEEP_STAGED 0, Q_CTRL_FLUSH 0, Q_CTRL_STAGED 0]⟩,
  ⟨"Q_STATUS", 0x40008004, 0x40, 16, 0, 1, [Q_STATUS_OPEN 0, Q_STATUS_WR_IGNORED 0, Q_STATUS_POISON_SEEN 0, Q_STATUS_OVERRUN 0, Q_STATUS_DISCARDING 0, Q_STATUS_FULL 0, Q_STATUS_EMPTY 0]⟩,
  ⟨"Q_LEVEL", 0x40008008, 0x40, 16, 0, 1, [Q_LEVEL_PKTS 0, Q_LEVEL_WORDS 0]⟩,
  ⟨"Q_VIS", 0x4000800C, 0x40, 16, 0, 1, [Q_VIS_HWM 0, Q_VIS_VISIBLE 0]⟩,
  ⟨"Q_ERR", 0x40008010, 0x40, 16, 0, 1, [Q_ERR_CORR 0, Q_ERR_UNCORR 0]⟩,
  ⟨"Q_LOSS", 0x40008014, 0x40, 16, 0, 1, [Q_LOSS_BROKEN 0, Q_LOSS_REWOUND 0, Q_LOSS_DROPPED 0]⟩,
  ⟨"Q_DATA_LO", 0x40008018, 0x40, 16, 0, 1, [Q_DATA_LO_DATA 0]⟩,
  ⟨"Q_DATA_HI", 0x4000801C, 0x40, 16, 0, 1, [Q_DATA_HI_DATA 0]⟩,
  ⟨"Q_TAG", 0x40008020, 0x40, 16, 0, 1, [Q_TAG_VALID 0, Q_TAG_EOP 0, Q_TAG_BROKEN 0, Q_TAG_POISON 0]⟩,
  ⟨"Q_WDATA_LO", 0x40008024, 0x40, 16, 0, 1, [Q_WDATA_LO_WDATA 0]⟩,
  ⟨"Q_WDATA_HI", 0x40008028, 0x40, 16, 0, 1, [Q_WDATA_HI_WDATA 0]⟩,
  ⟨"Q_WTAG", 0x4000802C, 0x40, 16, 0, 1, [Q_WTAG_BAD 0, Q_WTAG_EOP 0]⟩,
  ⟨"Q_CFG", 0x40008030, 0x40, 16, 0, 1, [Q_CFG_DOMAIN 0, Q_CFG_WAITS 0, Q_CFG_CHECK 0, Q_CFG_WIDTH 0, Q_CFG_DEPTH 0]⟩,
  ⟨"DMA_SRC", 0x4000C000, 0x20, 16, 0, 1, [DMA_SRC_SRC 0]⟩,
  ⟨"DMA_DST", 0x4000C004, 0x20, 16, 0, 1, [DMA_DST_DST 0]⟩,
  ⟨"DMA_LEN", 0x4000C008, 0x20, 16, 0, 1, [DMA_LEN_LEN 0]⟩,
  ⟨"DMA_CTRL", 0x4000C00C, 0x20, 16, 0, 1, [DMA_CTRL_ABORT 0, DMA_CTRL_SKIP 0, DMA_CTRL_RESUME 0, DMA_CTRL_GO 0]⟩,
  ⟨"DMA_EVT", 0x4000C010, 0x20, 16, 0, 1, [DMA_EVT_EN 0, DMA_EVT_FLAG 0, DMA_EVT_TASK 0]⟩,
  ⟨"DMA_STATUS", 0x4000C014, 0x20, 16, 0, 1, [DMA_STATUS_REMAIN 0, DMA_STATUS_CAUSE 0, DMA_STATUS_STATE 0]⟩,
  ⟨"DMA_ADDR", 0x4000C018, 0x20, 16, 0, 1, [DMA_ADDR_ADDR 0]⟩,
  ⟨"PWR_STATUS", 0x40010000, 0, 1, 0, 1, [PWR_STATUS_RAIL_OK, PWR_STATUS_HOT, PWR_STATUS_RAIL_WARN, PWR_STATUS_VIN_LOW, PWR_STATUS_VIN_HIGH, PWR_STATUS_PG]⟩,
  ⟨"PWR_VIN", 0x40010004, 0, 1, 0, 1, [PWR_VIN_VIN, PWR_VIN_IIN]⟩,
  ⟨"PWR_RAIL", 0x40010008, 4, 4, 0, 1, [PWR_RAIL_V 0, PWR_RAIL_I 0]⟩,
  ⟨"PWR_TEMP", 0x40010018, 0, 1, 0, 1, [PWR_TEMP_POWER_DIE, PWR_TEMP_CORE_DIE]⟩,
  ⟨"PWR_LAST", 0x4001001C, 0, 1, 0, 1, [PWR_LAST_CAUSE, PWR_LAST_RAIL]⟩,
  ⟨"PWR_CNT", 0x40010020, 0, 1, 0, 1, [PWR_CNT_RAIL_FAULTS, PWR_CNT_THERMAL, PWR_CNT_LOCKOUTS]⟩,
  ⟨"MER_CTRL", 0x40020000, 0, 1, 0, 1, [MER_CTRL_SLEW_MAX, MER_CTRL_LOCK, MER_CTRL_RELOCK, MER_CTRL_STEP, MER_CTRL_ADJ_CANCEL, MER_CTRL_SRC]⟩,
  ⟨"MER_STATUS", 0x40020004, 0, 1, 0, 1, [MER_STATUS_LATE, MER_STATUS_STEP_DONE, MER_STATUS_QUEUE_OVF, MER_STATUS_PARENT_CHANGE, MER_STATUS_PPS_LOST, MER_STATUS_REF_LOST, MER_STATUS_SYNCE_LOST, MER_STATUS_SYNC_LOST, MER_STATUS_SLEWING, MER_STATUS_TIME_VALID, MER_STATUS_HOLDOVER, MER_STATUS_STATE]⟩,
  ⟨"MER_DATUM_CFG", 0x40020008, 0, 1, 0, 1, [MER_DATUM_CFG_DATUM_SRC, MER_DATUM_CFG_FREQ]⟩,
  ⟨"MER_DATUM_MEAS", 0x4002000C, 0, 1, 0, 1, [MER_DATUM_MEAS_FREQ]⟩]

/-- Rows 40–79 of the index. -/
def rows1 : List RegRow := [
  ⟨"MER_TIME_SEC_LO", 0x40020010, 0, 1, 0, 1, [MER_TIME_SEC_LO_SEC_LO]⟩,
  ⟨"MER_TIME_SEC_HI", 0x40020014, 0, 1, 0, 1, [MER_TIME_SEC_HI_SEC_HI]⟩,
  ⟨"MER_TIME_NS", 0x40020018, 0, 1, 0, 1, [MER_TIME_NS_NS]⟩,
  ⟨"MER_TIME_FRAC", 0x4002001C, 0, 1, 0, 1, [MER_TIME_FRAC_FRAC]⟩,
  ⟨"MER_RATE_LO", 0x40020020, 0, 1, 0, 1, [MER_RATE_LO_RATE]⟩,
  ⟨"MER_RATE_HI", 0x40020024, 0, 1, 0, 1, [MER_RATE_HI_RATE]⟩,
  ⟨"MER_ADJ", 0x40020028, 0, 1, 0, 1, [MER_ADJ_ADJ]⟩,
  ⟨"MER_ADJ_REM", 0x4002002C, 0, 1, 0, 1, [MER_ADJ_REM_REM]⟩,
  ⟨"MER_STEP_SEC_LO", 0x40020030, 0, 1, 0, 1, [MER_STEP_SEC_LO_SEC_LO]⟩,
  ⟨"MER_STEP_SEC_HI", 0x40020034, 0, 1, 0, 1, [MER_STEP_SEC_HI_SEC_HI]⟩,
  ⟨"MER_STEP_NS", 0x40020038, 0, 1, 0, 1, [MER_STEP_NS_NS]⟩,
  ⟨"MER_STEP_FRAC", 0x4002003C, 0, 1, 0, 1, [MER_STEP_FRAC_FRAC]⟩,
  ⟨"MER_PPS_CTRL", 0x40020040, 0, 1, 0, 1, [MER_PPS_CTRL_WIDTH, MER_PPS_CTRL_IN_EDGE, MER_PPS_CTRL_OUT_POL, MER_PPS_CTRL_OUT_EN]⟩,
  ⟨"MER_PPS_OUT_DELAY", 0x40020044, 0, 1, 0, 1, [MER_PPS_OUT_DELAY_DELAY]⟩,
  ⟨"MER_PPS_IN_SEC_LO", 0x40020048, 0, 1, 0, 1, [MER_PPS_IN_SEC_LO_SEC_LO]⟩,
  ⟨"MER_PPS_IN_NS", 0x4002004C, 0, 1, 0, 1, [MER_PPS_IN_NS_NS]⟩,
  ⟨"MER_PPS_IN_FRAC", 0x40020050, 0, 1, 0, 1, [MER_PPS_IN_FRAC_FRAC]⟩,
  ⟨"MER_PPS_NEXT_SEC", 0x40020054, 0, 1, 0, 1, [MER_PPS_NEXT_SEC_NEXT]⟩,
  ⟨"MER_SYNCE_CTRL", 0x40020060, 0, 1, 0, 1, [MER_SYNCE_CTRL_OPT, MER_SYNCE_CTRL_PORT]⟩,
  ⟨"MER_PTP_CTRL", 0x40020070, 0, 1, 0, 1, [MER_PTP_CTRL_SYNC_TMO, MER_PTP_CTRL_LOG_SYNC, MER_PTP_CTRL_DOMAIN, MER_PTP_CTRL_DREQ_UC, MER_PTP_CTRL_ONE_STEP_DREQ, MER_PTP_CTRL_TRANSPORT, MER_PTP_CTRL_PORT]⟩,
  ⟨"MER_PTP_PARENT_LO", 0x40020074, 0, 1, 0, 1, [MER_PTP_PARENT_LO_ID_LO]⟩,
  ⟨"MER_PTP_PARENT_HI", 0x40020078, 0, 1, 0, 1, [MER_PTP_PARENT_HI_ID_HI]⟩,
  ⟨"MER_PTP_PARENT_PORT", 0x4002007C, 0, 1, 0, 1, [MER_PTP_PARENT_PORT_PORT]⟩,
  ⟨"MER_PTP_RX_LAT", 0x40020080, 0, 1, 0, 1, [MER_PTP_RX_LAT_LAT]⟩,
  ⟨"MER_PTP_TX_LAT", 0x40020084, 0, 1, 0, 1, [MER_PTP_TX_LAT_LAT]⟩,
  ⟨"MER_TXTS_CTRL", 0x40020090, 0, 1, 0, 1, [MER_TXTS_CTRL_AGE]⟩,
  ⟨"MER_TXTS_ID", 0x40020094, 0, 1, 0, 1, [MER_TXTS_ID_VALID, MER_TXTS_ID_PORT, MER_TXTS_ID_ID]⟩,
  ⟨"MER_TXTS_SEC_LO", 0x40020098, 0, 1, 0, 1, [MER_TXTS_SEC_LO_SEC_LO]⟩,
  ⟨"MER_TXTS_SEC_HI", 0x4002009C, 0, 1, 0, 1, [MER_TXTS_SEC_HI_SEC_HI]⟩,
  ⟨"MER_TXTS_NS", 0x400200A0, 0, 1, 0, 1, [MER_TXTS_NS_NS]⟩,
  ⟨"MER_TXTS_FRAC", 0x400200A4, 0, 1, 0, 1, [MER_TXTS_FRAC_FRAC]⟩,
  ⟨"MER_TXTS_CNT", 0x400200A8, 0, 1, 0, 1, [MER_TXTS_CNT_DROPPED, MER_TXTS_CNT_AGED, MER_TXTS_CNT_DEPTH]⟩,
  ⟨"MER_ALM_CTRL", 0x40020100, 0x20, 8, 0, 1, [MER_ALM_CTRL_EN 0, MER_ALM_CTRL_LATE 0, MER_ALM_CTRL_FLAG 0, MER_ALM_CTRL_TASK 0, MER_ALM_CTRL_KIND 0]⟩,
  ⟨"MER_ALM_SEC", 0x40020104, 0x20, 8, 0, 1, [MER_ALM_SEC_SEC 0]⟩,
  ⟨"MER_ALM_NS", 0x40020108, 0x20, 8, 0, 1, [MER_ALM_NS_NS 0]⟩,
  ⟨"MER_ALM_PERIOD_NS", 0x4002010C, 0x20, 8, 0, 1, [MER_ALM_PERIOD_NS_PERIOD 0]⟩,
  ⟨"MER_ALM_PMASK_LO", 0x40020110, 0x20, 8, 0, 1, [MER_ALM_PMASK_LO_PMASK_LO 0]⟩,
  ⟨"MER_ALM_PMASK_HI", 0x40020114, 0x20, 8, 0, 1, [MER_ALM_PMASK_HI_PMASK_HI 0]⟩,
  ⟨"ING_CTRL", 0x40030000, 0, 1, 0, 1, [ING_CTRL_PROXY_TMO, ING_CTRL_REPLAY_EN, ING_CTRL_AUTO_ATTACH]⟩,
  ⟨"ING_STATUS", 0x40030004, 0, 1, 0, 1, [ING_STATUS_ATTACHED, ING_STATUS_IN_BUILD]⟩]

/-- Rows 80–119 of the index. -/
def rows2 : List RegRow := [
  ⟨"ING_LANE_CTRL", 0x40030100, 0x20, 48, 0, 1, [ING_LANE_CTRL_CLEAR 0, ING_LANE_CTRL_EN 0]⟩,
  ⟨"ING_LANE_STATUS", 0x40030104, 0x20, 48, 0, 1, [ING_LANE_STATUS_PORT 0, ING_LANE_STATUS_CAUSE 0, ING_LANE_STATUS_REACH 0, ING_LANE_STATUS_COPY 0, ING_LANE_STATUS_POS 0, ING_LANE_STATUS_BOND 0, ING_LANE_STATUS_STATE 0]⟩,
  ⟨"ING_LANE_SERIAL", 0x40030108, 0x20, 48, 0, 1, [ING_LANE_SERIAL_SERIAL 0]⟩,
  ⟨"ING_LANE_CW", 0x4003010C, 0x20, 48, 0, 1, [ING_LANE_CW_CW_CORR 0, ING_LANE_CW_BYTE_CORR 0]⟩,
  ⟨"ING_LANE_FAULT", 0x40030110, 0x20, 48, 0, 1, [ING_LANE_FAULT_TRANSIENT 0, ING_LANE_FAULT_NACKED 0, ING_LANE_FAULT_NO_REPLAY 0, ING_LANE_FAULT_BAD_BLOCK 0]⟩,
  ⟨"ING_LANE_PRIM", 0x40030114, 0x20, 48, 0, 1, [ING_LANE_PRIM_PH_CORR 0, ING_LANE_PRIM_BAD 0]⟩,
  ⟨"ING_PORT_CTRL", 0x40031000, 0x20, 48, 0, 1, [ING_PORT_CTRL_ATTACH 0, ING_PORT_CTRL_DETACH 0]⟩,
  ⟨"ING_PORT_STATUS", 0x40031004, 0x20, 48, 0, 1, [ING_PORT_STATUS_MIRROR 0, ING_PORT_STATUS_BOND 0, ING_PORT_STATUS_TSTATE 0, ING_PORT_STATUS_TIE 0, ING_PORT_STATUS_REMOTE 0, ING_PORT_STATUS_PROXY_TMO 0, ING_PORT_STATUS_BOND_ERR 0, ING_PORT_STATUS_CAP_MISMATCH 0, ING_PORT_STATUS_STATE 0]⟩,
  ⟨"ING_PORT_CAP", 0x40031008, 0x20, 48, 0, 1, [ING_PORT_CAP_CAP 0]⟩,
  ⟨"ING_PORT_CMD", 0x4003100C, 0x20, 48, 0, 1, [ING_PORT_CMD_SENT 0, ING_PORT_CMD_TIMEOUTS 0]⟩,
  ⟨"TRI_CTRL", 0x40038000, 0x20, 48, 0, 1, [TRI_CTRL_AVG_LOG2 0, TRI_CTRL_MARK_DIV 0, TRI_CTRL_EN 0]⟩,
  ⟨"TRI_ALPHA", 0x40038004, 0x20, 48, 0, 1, [TRI_ALPHA_ALPHA 0]⟩,
  ⟨"TRI_KDOWN", 0x40038008, 0x20, 48, 0, 1, [TRI_KDOWN_K 0]⟩,
  ⟨"TRI_KUP", 0x4003800C, 0x20, 48, 0, 1, [TRI_KUP_K 0]⟩,
  ⟨"TRI_THETA_LO", 0x40038010, 0x20, 48, 0, 1, [TRI_THETA_LO_THETA 0]⟩,
  ⟨"TRI_THETA_HI", 0x40038014, 0x20, 48, 0, 1, [TRI_THETA_HI_THETA 0]⟩,
  ⟨"TRI_RTT", 0x40038018, 0x20, 48, 0, 1, [TRI_RTT_F 0]⟩,
  ⟨"TRI_STATUS", 0x4003801C, 0x20, 48, 0, 1, [TRI_STATUS_MISSED 0, TRI_STATUS_CLKSW_SEEN 0, TRI_STATUS_THETA_JUMP 0, TRI_STATUS_FIBRE_MISMATCH 0, TRI_STATUS_AVERAGED 0, TRI_STATUS_VALID 0]⟩,
  ⟨"WALK_CTRL", 0x40039000, 0x10, 48, 0, 1, [WALK_CTRL_TOT_BASE 0, WALK_CTRL_SHIFT 0, WALK_CTRL_PILEUP_SKIP 0, WALK_CTRL_EN 0]⟩,
  ⟨"WALK_ADDR", 0x40039004, 0x10, 48, 0, 1, [WALK_ADDR_BASE 0]⟩,
  ⟨"WALK_STATUS", 0x40039008, 0x10, 48, 0, 1, [WALK_STATUS_READ_ERR 0, WALK_STATUS_WRITE_REFUSED 0, WALK_STATUS_ACTIVE 0]⟩,
  ⟨"MUS_CFG", 0x40040000, 0, 1, 0, 1, [MUS_CFG_TL1_EN, MUS_CFG_TL0_EN, MUS_CFG_MODE]⟩,
  ⟨"MUS_STATUS", 0x40040004, 0, 1, 0, 1, [MUS_STATUS_SHED_SELF, MUS_STATUS_SHED_SPEC, MUS_STATUS_HORIZON_MISS, MUS_STATUS_EARLY_RELEASE, MUS_STATUS_ORDER_LATE, MUS_STATUS_TL_COLLIDE, MUS_STATUS_ALIGN_ERR, MUS_STATUS_YARD_FULL, MUS_STATUS_LEDGER_FULL, MUS_STATUS_BUILDING]⟩,
  ⟨"MUS_EXPECT_LO", 0x40040008, 0, 1, 0, 1, [MUS_EXPECT_LO_EXPECT]⟩,
  ⟨"MUS_EXPECT_HI", 0x4004000C, 0, 1, 0, 1, [MUS_EXPECT_HI_EXPECT]⟩,
  ⟨"MUS_SEQ_BASE_LO", 0x40040010, 0, 1, 0, 1, [MUS_SEQ_BASE_LO_BASE]⟩,
  ⟨"MUS_SEQ_BASE_HI", 0x40040014, 0, 1, 0, 1, [MUS_SEQ_BASE_HI_BASE]⟩,
  ⟨"MUS_SEQ_NEXT_LO", 0x40040018, 0, 1, 0, 1, [MUS_SEQ_NEXT_LO_NEXT]⟩,
  ⟨"MUS_SEQ_NEXT_HI", 0x4004001C, 0, 1, 0, 1, [MUS_SEQ_NEXT_HI_NEXT]⟩,
  ⟨"MUS_WIN", 0x40040028, 0, 1, 0, 1, [MUS_WIN_W_PRE, MUS_WIN_W_POST]⟩,
  ⟨"MUS_TMO", 0x4004002C, 0, 1, 0, 1, [MUS_TMO_EVT_TMO]⟩,
  ⟨"MUS_FRAG_MAX", 0x40040030, 0, 1, 0, 1, [MUS_FRAG_MAX_MAX]⟩,
  ⟨"MUS_LEDGER", 0x40040034, 0, 1, 0, 1, [MUS_LEDGER_IN_USE]⟩,
  ⟨"MUS_LEDGER_HWM", 0x40040038, 0, 1, 0, 1, [MUS_LEDGER_HWM_HWM]⟩,
  ⟨"MUS_SPEC_CFG", 0x40040040, 0, 1, 0, 1, [MUS_SPEC_CFG_HZN, MUS_SPEC_CFG_OPEN_COUNT]⟩,
  ⟨"MUS_SPEC_CNT", 0x40040050, 4, 9, 0, 1, [MUS_SPEC_CNT_COUNT 0]⟩,
  ⟨"MUS_SELF_CFG", 0x40040080, 0, 1, 0, 1, [MUS_SELF_CFG_HO, MUS_SELF_CFG_CLASS, MUS_SELF_CFG_CONTENT, MUS_SELF_CFG_EN]⟩,
  ⟨"MUS_SELF_THR0", 0x40040084, 0, 1, 0, 1, [MUS_SELF_THR0_MIN_SUM, MUS_SELF_THR0_MIN_COUNT]⟩,
  ⟨"MUS_SELF_THR1", 0x40040088, 0, 1, 0, 1, [MUS_SELF_THR1_MIN_GROUPS, MUS_SELF_THR1_MIN_HITS]⟩,
  ⟨"MUS_SELF_TOT", 0x4004008C, 0, 1, 0, 1, [MUS_SELF_TOT_TOT_MIN]⟩]

/-- Rows 120–159 of the index. -/
def rows3 : List RegRow := [
  ⟨"MUS_SELF_CNT", 0x40040090, 0, 1, 0, 1, [MUS_SELF_CNT_SHED]⟩,
  ⟨"MUS_SRC_CNT", 0x400400A0, 4, 3, 0, 1, [MUS_SRC_CNT_DECISIONS 0, MUS_SRC_CNT_CRC_ERR 0, MUS_SRC_CNT_COLLIDED 0]⟩,
  ⟨"MUS_VIEW_SLOT_LO", 0x40040100, 0, 1, 0, 1, [MUS_VIEW_SLOT_LO_SLOT_LO]⟩,
  ⟨"MUS_VIEW_SEL", 0x40040104, 0, 1, 0, 1, [MUS_VIEW_SEL_PORT, MUS_VIEW_SEL_SLOT_HI]⟩,
  ⟨"MUS_VIEW_DATA_LO", 0x40040108, 0, 1, 0, 1, [MUS_VIEW_DATA_LO_DATA]⟩,
  ⟨"MUS_VIEW_DATA_HI", 0x4004010C, 0, 1, 0, 1, [MUS_VIEW_DATA_HI_DATA]⟩,
  ⟨"MUS_VIEW_TAG", 0x40040110, 0, 1, 0, 1, [MUS_VIEW_TAG_SPEC, MUS_VIEW_TAG_VALID, MUS_VIEW_TAG_GONE, MUS_VIEW_TAG_INDEX]⟩,
  ⟨"MUS_PORT_CNT0", 0x40040400, 0x10, 48, 0, 1, [MUS_PORT_CNT0_PARTIAL 0, MUS_PORT_CNT0_MISSING 0, MUS_PORT_CNT0_SKIPPED 0, MUS_PORT_CNT0_CORRUPT 0]⟩,
  ⟨"MUS_PORT_CNT1", 0x40040404, 0x10, 48, 0, 1, [MUS_PORT_CNT1_TRUNC_WORDS 0, MUS_PORT_CNT1_LEDGER_FULL 0, MUS_PORT_CNT1_YARD_FULL 0]⟩,
  ⟨"CMP_CTRL", 0x40050000, 0, 1, 0, 1, [CMP_CTRL_NICE_LEN, CMP_CTRL_CHAIN_MAX, CMP_CTRL_LAZY, CMP_CTRL_BYPASS, CMP_CTRL_PRECODE]⟩,
  ⟨"CMP_STATUS", 0x40050004, 0, 1, 0, 1, [CMP_STATUS_POISON_SEEN, CMP_STATUS_FORMER_FAULT, CMP_STATUS_RATIO_LOW, CMP_STATUS_ENG_FAULT, CMP_STATUS_ALL_OFF, CMP_STATUS_ENABLED]⟩,
  ⟨"CMP_RATIO", 0x40050008, 0, 1, 0, 1, [CMP_RATIO_RATIO_1S, CMP_RATIO_RATIO_1MS]⟩,
  ⟨"CMP_IN_LO", 0x40050010, 0, 1, 0, 1, [CMP_IN_LO_COUNT]⟩,
  ⟨"CMP_IN_HI", 0x40050014, 0, 1, 0, 1, [CMP_IN_HI_COUNT]⟩,
  ⟨"CMP_OUT_LO", 0x40050018, 0, 1, 0, 1, [CMP_OUT_LO_COUNT]⟩,
  ⟨"CMP_OUT_HI", 0x4005001C, 0, 1, 0, 1, [CMP_OUT_HI_COUNT]⟩,
  ⟨"CMP_FALLBACK", 0x40050020, 0, 1, 0, 1, [CMP_FALLBACK_VERIFY_FAIL, CMP_FALLBACK_OVERSIZE]⟩,
  ⟨"CMP_FORMER", 0x40050024, 0, 1, 0, 1, [CMP_FORMER_RECORDS, CMP_FORMER_REWRITES, CMP_FORMER_UNVERIFIED]⟩,
  ⟨"CMP_LOSS", 0x40050028, 0, 1, 0, 1, [CMP_LOSS_POISONED, CMP_LOSS_SKIPPED_SEQ]⟩,
  ⟨"CMP_REORDER", 0x4005002C, 0, 1, 0, 1, [CMP_REORDER_HWM, CMP_REORDER_DEPTH]⟩,
  ⟨"CMP_REL_LO", 0x40050030, 0, 1, 0, 1, [CMP_REL_LO_REL]⟩,
  ⟨"CMP_REL_HI", 0x40050034, 0, 1, 0, 1, [CMP_REL_HI_REL]⟩,
  ⟨"CMP_ENG_CTRL", 0x40050100, 0x20, 16, 0, 1, [CMP_ENG_CTRL_REENABLE 0, CMP_ENG_CTRL_EN 0]⟩,
  ⟨"CMP_ENG_STATUS", 0x40050104, 0x20, 16, 0, 1, [CMP_ENG_STATUS_CAUSE 0, CMP_ENG_STATUS_SELFTEST_FAIL 0, CMP_ENG_STATUS_MISMATCH_RUN 0, CMP_ENG_STATUS_STATE 0]⟩,
  ⟨"CMP_ENG_CNT", 0x40050108, 0x20, 16, 0, 1, [CMP_ENG_CNT_RECORDS 0, CMP_ENG_CNT_VERIFY_FAIL 0, CMP_ENG_CNT_OVERSIZE 0]⟩,
  ⟨"CMP_ENG_FAIL_LO", 0x4005010C, 0x20, 16, 0, 1, [CMP_ENG_FAIL_LO_SEQ 0]⟩,
  ⟨"CMP_ENG_FAIL_HI", 0x40050110, 0x20, 16, 0, 1, [CMP_ENG_FAIL_HI_SEQ 0]⟩,
  ⟨"ETH_CFG", 0x40060000, 0, 1, 0, 1, [ETH_CFG_STREAM_ID, ETH_CFG_LINK_TMO, ETH_CFG_TAB_VIEW, ETH_CFG_UNIT, ETH_CFG_STEER_MODE]⟩,
  ⟨"ETH_STATUS", 0x40060004, 0, 1, 0, 1, [ETH_STATUS_UP, ETH_STATUS_ACTIVE, ETH_STATUS_PENDING, ETH_STATUS_STEER_WAIT, ETH_STATUS_CMD_REFUSED, ETH_STATUS_BOUND_LATE, ETH_STATUS_NO_PORT]⟩,
  ⟨"ETH_STEER_CMD", 0x40060008, 0, 1, 0, 1, [ETH_STEER_CMD_OP, ETH_STEER_CMD_PORT]⟩,
  ⟨"ETH_STEER_LEN", 0x4006000C, 0, 1, 0, 1, [ETH_STEER_LEN_ACTIVE_LEN, ETH_STEER_LEN_LEN]⟩,
  ⟨"ETH_BOUND_LO", 0x40060010, 0, 1, 0, 1, [ETH_BOUND_LO_BOUND]⟩,
  ⟨"ETH_BOUND_HI", 0x40060014, 0, 1, 0, 1, [ETH_BOUND_HI_BOUND]⟩,
  ⟨"ETH_ORIGIN_LO", 0x40060018, 0, 1, 0, 1, [ETH_ORIGIN_LO_ORIGIN]⟩,
  ⟨"ETH_ORIGIN_HI", 0x4006001C, 0, 1, 0, 1, [ETH_ORIGIN_HI_ORIGIN]⟩,
  ⟨"ETH_NEXT_LO", 0x40060020, 0, 1, 0, 1, [ETH_NEXT_LO_NEXT]⟩,
  ⟨"ETH_NEXT_HI", 0x40060024, 0, 1, 0, 1, [ETH_NEXT_HI_NEXT]⟩,
  ⟨"ETH_LOST", 0x40060028, 0, 1, 0, 1, [ETH_LOST_ABANDONED, ETH_LOST_RESTEERED]⟩,
  ⟨"ETH_STEER_TAB", 0x40060100, 4, 64, 0, 1, [ETH_STEER_TAB_T3 0, ETH_STEER_TAB_T2 0, ETH_STEER_TAB_T1 0, ETH_STEER_TAB_T0 0]⟩,
  ⟨"ETH_P_CFG", 0x40060800, 0x80, 8, 0, 1, [ETH_P_CFG_START 0, ETH_P_CFG_MTU 0, ETH_P_CFG_DEST 0, ETH_P_CFG_MODE 0]⟩]

/-- Rows 160–199 of the index. -/
def rows4 : List RegRow := [
  ⟨"ETH_P_STATUS", 0x40060804, 0x80, 8, 0, 1, [ETH_P_STATUS_LINK_LOST 0, ETH_P_STATUS_CAUSE 0, ETH_P_STATUS_FEC_ALIGN 0, ETH_P_STATUS_HI_BER 0, ETH_P_STATUS_BLOCK_LOCK 0, ETH_P_STATUS_STATE 0]⟩,
  ⟨"ETH_P_MAC_HI", 0x40060808, 0x80, 8, 0, 1, [ETH_P_MAC_HI_MAC_HI 0]⟩,
  ⟨"ETH_P_MAC_LO", 0x4006080C, 0x80, 8, 0, 1, [ETH_P_MAC_LO_MAC_LO 0]⟩,
  ⟨"ETH_P_IP4", 0x40060810, 0x80, 8, 0, 1, [ETH_P_IP4_IP4 0]⟩,
  ⟨"ETH_P_IP6", 0x40060814, 0x80, 8, 4, 4, [ETH_P_IP6_IP6 0 0]⟩,
  ⟨"ETH_P_IPCFG", 0x40060824, 0x80, 8, 0, 1, [ETH_P_IPCFG_TTL 0, ETH_P_IPCFG_DSCP 0, ETH_P_IPCFG_UDP_SRC 0]⟩,
  ⟨"ETH_P_TX_DG", 0x40060828, 0x80, 8, 0, 1, [ETH_P_TX_DG_COUNT 0]⟩,
  ⟨"ETH_P_TX_REC", 0x4006082C, 0x80, 8, 0, 1, [ETH_P_TX_REC_COUNT 0]⟩,
  ⟨"ETH_P_FEC", 0x40060830, 0x80, 8, 0, 1, [ETH_P_FEC_CORR 0, ETH_P_FEC_UNCORR 0]⟩,
  ⟨"ETH_P_RX", 0x40060834, 0x80, 8, 0, 1, [ETH_P_RX_FCS_ERR 0, ETH_P_RX_PAUSE 0, ETH_P_RX_DROPPED 0, ETH_P_RX_ACCEPTED 0]⟩,
  ⟨"DEST_CTRL", 0x40061000, 0x20, 256, 0, 1, [DEST_CTRL_VALID 0, DEST_CTRL_IPV6 0, DEST_CTRL_VLAN_EN 0, DEST_CTRL_PCP 0, DEST_CTRL_ALT 0, DEST_CTRL_PORT 0, DEST_CTRL_VID 0]⟩,
  ⟨"DEST_MAC_HI", 0x40061004, 0x20, 256, 0, 1, [DEST_MAC_HI_UDP_DST 0, DEST_MAC_HI_MAC_HI 0]⟩,
  ⟨"DEST_MAC_LO", 0x40061008, 0x20, 256, 0, 1, [DEST_MAC_LO_MAC_LO 0]⟩,
  ⟨"DEST_IP", 0x4006100C, 0x20, 256, 4, 4, [DEST_IP_IP 0 0]⟩,
  ⟨"DEST_REC", 0x4006101C, 0x20, 256, 0, 1, [DEST_REC_REC 0]⟩,
  ⟨"ADM_CTRL", 0x40070000, 0, 1, 0, 1, [ADM_CTRL_RELOAD, ADM_CTRL_STORE, ADM_CTRL_STOP, ADM_CTRL_RUN, ADM_CTRL_CHECK]⟩,
  ⟨"ADM_STATUS", 0x40070004, 0, 1, 0, 1, [ADM_STATUS_STORE_ERR, ADM_STATUS_STORING, ADM_STATUS_DEGRADED, ADM_STATUS_CHECKING, ADM_STATUS_ADMITTED, ADM_STATUS_REFUSED, ADM_STATUS_DISAGREE, ADM_STATUS_HALF, ADM_STATUS_IMG_SRC, ADM_STATUS_NOR_VALID, ADM_STATUS_YARD_VALID]⟩,
  ⟨"ADM_REFUSE", 0x40070008, 0, 1, 0, 1, [ADM_REFUSE_CLASS]⟩,
  ⟨"ADM_DETAIL", 0x4007000C, 0, 1, 0, 1, [ADM_DETAIL_INDEX, ADM_DETAIL_SUB, ADM_DETAIL_VALUE]⟩,
  ⟨"ADM_IMG_GEN", 0x40070010, 0, 1, 0, 1, [ADM_IMG_GEN_GEN]⟩,
  ⟨"ADM_IMG_LEN", 0x40070014, 0, 1, 0, 1, [ADM_IMG_LEN_LEN]⟩,
  ⟨"ADM_IMG_CRC", 0x40070018, 0, 1, 0, 1, [ADM_IMG_CRC_CRC]⟩,
  ⟨"ADM_PACE_CFG", 0x40070020, 0, 1, 0, 1, [ADM_PACE_CFG_HYST, ADM_PACE_CFG_GUARD, ADM_PACE_CFG_ADMIT_PACE]⟩,
  ⟨"ADM_PACE", 0x40070024, 0, 1, 0, 1, [ADM_PACE_PACE_MIN, ADM_PACE_PACE_NOW]⟩,
  ⟨"ADM_VCORE_LIM", 0x40070028, 0, 1, 0, 1, [ADM_VCORE_LIM_VMAX, ADM_VCORE_LIM_VMIN]⟩,
  ⟨"ADM_VCORE", 0x4007002C, 0, 1, 0, 1, [ADM_VCORE_GOV_EN, ADM_VCORE_SET]⟩,
  ⟨"ADM_PRIM_CFG", 0x40070030, 0, 1, 0, 1, [ADM_PRIM_CFG_UPMAX, ADM_PRIM_CFG_LAT]⟩,
  ⟨"ADM_PRIM_STAT", 0x40070034, 0, 1, 0, 1, [ADM_PRIM_STAT_LATE, ADM_PRIM_STAT_MARGIN_MIN]⟩,
  ⟨"ADM_PO_MASK0_LO", 0x40070038, 0, 1, 0, 1, [ADM_PO_MASK0_LO_MASK]⟩,
  ⟨"ADM_PO_MASK0_HI", 0x4007003C, 0, 1, 0, 1, [ADM_PO_MASK0_HI_MASK]⟩,
  ⟨"ADM_PO_MASK1_LO", 0x40070040, 0, 1, 0, 1, [ADM_PO_MASK1_LO_MASK]⟩,
  ⟨"ADM_PO_MASK1_HI", 0x40070044, 0, 1, 0, 1, [ADM_PO_MASK1_HI_MASK]⟩,
  ⟨"ADM_PO_CTRL", 0x40070048, 0, 1, 0, 1, [ADM_PO_CTRL_PO1_EN, ADM_PO_CTRL_PO0_EN]⟩,
  ⟨"ADM_SHED_CFG", 0x40070050, 0, 1, 0, 1, [ADM_SHED_CFG_DEG_FILL, ADM_SHED_CFG_RECOVER_MS, ADM_SHED_CFG_STEP_US]⟩,
  ⟨"ADM_HOLD_CFG", 0x40070054, 0, 1, 0, 1, [ADM_HOLD_CFG_HOLD_ON, ADM_HOLD_CFG_HOLD_OFF]⟩,
  ⟨"ADM_DEG_STATUS", 0x40070058, 0, 1, 0, 1, [ADM_DEG_STATUS_CAPACITY, ADM_DEG_STATUS_BACKLOG, ADM_DEG_STATUS_RINGS, ADM_DEG_STATUS_PACE, ADM_DEG_STATUS_STEP]⟩,
  ⟨"ADM_DEG_CNT", 0x4007005C, 0, 1, 0, 1, [ADM_DEG_CNT_ENTRIES, ADM_DEG_CNT_HOLD_CYCLES]⟩,
  ⟨"ADM_RING", 0x40070080, 4, 8, 0, 1, [ADM_RING_EN 0, ADM_RING_FAULT 0, ADM_RING_COUNT 0]⟩,
  ⟨"MEM_CTRL", 0x40080000, 0, 1, 0, 1, [MEM_CTRL_PERIOD, MEM_CTRL_AUTO_REMAP, MEM_CTRL_GROOM_EN]⟩,
  ⟨"MEM_STATUS", 0x40080004, 0, 1, 0, 1, [MEM_STATUS_CONFIRM, MEM_STATUS_FAR_REFUSED, MEM_STATUS_FARRIER_FULL, MEM_STATUS_LOG_OVF, MEM_STATUS_GROOM_LATE, MEM_STATUS_ADDR_SEEN, MEM_STATUS_UE_SEEN, MEM_STATUS_GROOM_BUSY]⟩]

/-- Rows 200–239 of the index. -/
def rows5 : List RegRow := [
  ⟨"MEM_GROOM", 0x40080008, 0, 1, 0, 1, [MEM_GROOM_PASSES, MEM_GROOM_PROGRESS]⟩,
  ⟨"MEM_BIST", 0x4008000C, 0, 1, 0, 1, [MEM_BIST_CHECK_FAIL, MEM_BIST_MARCH_FAIL, MEM_BIST_DONE]⟩,
  ⟨"MEM_CNTA", 0x40080040, 0x10, 6, 0, 1, [MEM_CNTA_CORR 0, MEM_CNTA_UNCORR 0]⟩,
  ⟨"MEM_CNTB", 0x40080044, 0x10, 6, 0, 1, [MEM_CNTB_TRANSIENT 0, MEM_CNTB_LASTING 0, MEM_CNTB_ADDRESS 0]⟩,
  ⟨"MEM_SPARES", 0x40080048, 0x10, 6, 0, 1, [MEM_SPARES_UNUSABLE 0, MEM_SPARES_MAPPED 0]⟩,
  ⟨"MEM_LOG_INFO", 0x40080100, 0, 1, 0, 1, [MEM_LOG_INFO_VALID, MEM_LOG_INFO_MEM, MEM_LOG_INFO_CLASS, MEM_LOG_INFO_OUTCOME, MEM_LOG_INFO_SOURCE, MEM_LOG_INFO_CHANNEL, MEM_LOG_INFO_SYNDROME]⟩,
  ⟨"MEM_LOG_ADDR", 0x40080104, 0, 1, 0, 1, [MEM_LOG_ADDR_INDEX]⟩,
  ⟨"MEM_LOG_TIME_LO", 0x40080108, 0, 1, 0, 1, [MEM_LOG_TIME_LO_TIME]⟩,
  ⟨"MEM_LOG_TIME_HI", 0x4008010C, 0, 1, 0, 1, [MEM_LOG_TIME_HI_TIME]⟩,
  ⟨"MEM_LOG_CNT", 0x40080110, 0, 1, 0, 1, [MEM_LOG_CNT_LOST, MEM_LOG_CNT_DEPTH]⟩,
  ⟨"MEM_FAR_SEL", 0x40080200, 0, 1, 0, 1, [MEM_FAR_SEL_MEM, MEM_FAR_SEL_GROUP, MEM_FAR_SEL_ENTRY]⟩,
  ⟨"MEM_FAR_DATA", 0x40080204, 0, 1, 0, 1, [MEM_FAR_DATA_VALID, MEM_FAR_DATA_SPARE_BAD, MEM_FAR_DATA_SPARE, MEM_FAR_DATA_ROW]⟩,
  ⟨"MEM_INJECT", 0x40080300, 0, 1, 0, 1, [MEM_INJECT_ARM, MEM_INJECT_MEM, MEM_INJECT_KIND, MEM_INJECT_BIT_B, MEM_INJECT_BIT_A]⟩,
  ⟨"MEM_INJECT_ADDR", 0x40080304, 0, 1, 0, 1, [MEM_INJECT_ADDR_INDEX]⟩,
  ⟨"SCH_CTRL", 0x40090000, 0, 1, 0, 1, [SCH_CTRL_STAND_US, SCH_CTRL_AGE_MS]⟩,
  ⟨"SCH_STATUS", 0x40090004, 0, 1, 0, 1, [SCH_STATUS_SPILLED, SCH_STATUS_MISS, SCH_STATUS_NP_OVER, SCH_STATUS_LOST, SCH_STATUS_POST_REFUSED, SCH_STATUS_STANDSTILL]⟩,
  ⟨"SCH_SETFLAG", 0x40090008, 0, 1, 0, 1, [SCH_SETFLAG_FLAG, SCH_SETFLAG_TASK]⟩,
  ⟨"SCH_POST_LO", 0x4009000C, 0, 1, 0, 1, [SCH_POST_LO_ARG]⟩,
  ⟨"SCH_POST_HI", 0x40090010, 0, 1, 0, 1, [SCH_POST_HI_TASK, SCH_POST_HI_FLOW_SEL, SCH_POST_HI_FLOW]⟩,
  ⟨"SCH_CNT", 0x40090014, 0, 1, 0, 1, [SCH_CNT_POSTS_REFUSED, SCH_CNT_LOST, SCH_CNT_STANDSTILLS]⟩,
  ⟨"SCH_MTIME_LO", 0x40090018, 0, 1, 0, 1, [SCH_MTIME_LO_MTIME]⟩,
  ⟨"SCH_MTIME_HI", 0x4009001C, 0, 1, 0, 1, [SCH_MTIME_HI_MTIME]⟩,
  ⟨"SCH_MSIP", 0x40090020, 0, 1, 0, 1, [SCH_MSIP_MSIP]⟩,
  ⟨"SCH_LVL", 0x40090040, 4, 16, 0, 1, [SCH_LVL_SPILLED 0, SCH_LVL_ON_CHIP 0]⟩,
  ⟨"SCH_TRACE_CTRL", 0x40090080, 0, 1, 0, 1, [SCH_TRACE_CTRL_EN, SCH_TRACE_CTRL_FREEZE, SCH_TRACE_CTRL_FREEZE_ON_FATAL, SCH_TRACE_CTRL_LOST, SCH_TRACE_CTRL_WRAPPED, SCH_TRACE_CTRL_WPTR]⟩,
  ⟨"SCH_TRACE_MARK", 0x40090084, 0, 1, 0, 1, [SCH_TRACE_MARK_MARK]⟩,
  ⟨"SCH_WIN_PAGE", 0x40090088, 0, 1, 0, 1, [SCH_WIN_PAGE_AREA, SCH_WIN_PAGE_PAGE]⟩,
  ⟨"SCH_C_CTRL", 0x40090100, 0x40, 4, 0, 1, [SCH_C_CTRL_BC 0, SCH_C_CTRL_NOPREEMPT 0, SCH_C_CTRL_EN 0]⟩,
  ⟨"SCH_C_NEXT", 0x40090104, 0x40, 4, 0, 1, [SCH_C_NEXT_VALID 0, SCH_C_NEXT_RESUME 0, SCH_C_NEXT_PRIO 0, SCH_C_NEXT_TASK 0, SCH_C_NEXT_FLOW_EN 0, SCH_C_NEXT_FLOW 0]⟩,
  ⟨"SCH_C_ARG", 0x40090108, 0x40, 4, 0, 1, [SCH_C_ARG_ARG 0]⟩,
  ⟨"SCH_C_END", 0x4009010C, 0x40, 4, 0, 1, [SCH_C_END_END 0]⟩,
  ⟨"SCH_C_STATE", 0x40090110, 0x40, 4, 0, 1, [SCH_C_STATE_TASK 0, SCH_C_STATE_PRIO 0, SCH_C_STATE_NP_OVER 0, SCH_C_STATE_WFI 0, SCH_C_STATE_HALTED 0, SCH_C_STATE_STATE 0]⟩,
  ⟨"SCH_C_DEPTH", 0x40090114, 0x40, 4, 0, 1, [SCH_C_DEPTH_DEPTH_MAX 0, SCH_C_DEPTH_DEPTH 0]⟩,
  ⟨"SCH_C_WAIT", 0x40090118, 0x40, 4, 0, 1, [SCH_C_WAIT_WAIT_1S 0, SCH_C_WAIT_WAIT_1MS 0]⟩,
  ⟨"SCH_C_LOAD", 0x4009011C, 0x40, 4, 0, 1, [SCH_C_LOAD_LOAD_1S 0, SCH_C_LOAD_LOAD_1MS 0]⟩,
  ⟨"SCH_C_NP", 0x40090120, 0x40, 4, 0, 1, [SCH_C_NP_NP_MAX 0]⟩,
  ⟨"SCH_C_MTIMECMP_LO", 0x40090124, 0x40, 4, 0, 1, [SCH_C_MTIMECMP_LO_CMP 0]⟩,
  ⟨"SCH_C_MTIMECMP_HI", 0x40090128, 0x40, 4, 0, 1, [SCH_C_MTIMECMP_HI_CMP 0]⟩,
  ⟨"SCH_ROUTE", 0x40090300, 4, 64, 0, 1, [SCH_ROUTE_EN 0, SCH_ROUTE_FLAG 0, SCH_ROUTE_TASK 0]⟩,
  ⟨"SCH_PER_CFG", 0x40090800, 0x10, 64, 0, 1, [SCH_PER_CFG_EN 0, SCH_PER_CFG_MISS 0, SCH_PER_CFG_TASK 0]⟩]

/-- Rows 240–279 of the index. -/
def rows6 : List RegRow := [
  ⟨"SCH_PER_T", 0x40090804, 0x10, 64, 0, 1, [SCH_PER_T_T 0]⟩,
  ⟨"SCH_PER_D", 0x40090808, 0x10, 64, 0, 1, [SCH_PER_D_D 0]⟩,
  ⟨"SCH_PER_CNT", 0x4009080C, 0x10, 64, 0, 1, [SCH_PER_CNT_RELEASES 0, SCH_PER_CNT_MISSES 0]⟩,
  ⟨"SCH_T_CFG", 0x40094000, 0x10, 1024, 0, 1, [SCH_T_CFG_EN 0, SCH_T_CFG_CLASS 0, SCH_T_CFG_ALL 0, SCH_T_CFG_FLOW_EN 0, SCH_T_CFG_FLOW 0, SCH_T_CFG_PRIO 0, SCH_T_CFG_CEIL 0, SCH_T_CFG_CORES 0]⟩,
  ⟨"SCH_T_MASK", 0x40094004, 0x10, 1024, 0, 1, [SCH_T_MASK_MASK 0]⟩,
  ⟨"SCH_T_FLAGS", 0x40094008, 0x10, 1024, 0, 1, [SCH_T_FLAGS_FLAGS 0]⟩,
  ⟨"SCH_T_STAT", 0x4009400C, 0x10, 1024, 0, 1, [SCH_T_STAT_QUEUED 0, SCH_T_STAT_RUNNING 0, SCH_T_STAT_FLAG_ITEM 0]⟩,
  ⟨"MBX_DATA", 0x400A0000, 0x40, 16, 4, 8, [MBX_DATA_DATA 0 0]⟩,
  ⟨"MBX_STATUS", 0x400A0020, 0x40, 16, 0, 1, [MBX_STATUS_FULL 0, MBX_STATUS_MIXED 0, MBX_STATUS_SENDER 0, MBX_STATUS_WR_REFUSED 0, MBX_STATUS_SEND_REFUSED 0, MBX_STATUS_OWNER 0, MBX_STATUS_BROKEN 0, MBX_STATUS_LAPSED 0, MBX_STATUS_STALE_RELEASE 0, MBX_STATUS_LAPSES 0, MBX_STATUS_SENDS 0]⟩,
  ⟨"MBX_CTRL", 0x400A0024, 0x40, 16, 0, 1, [MBX_CTRL_ACK 0, MBX_CTRL_SEND 0]⟩,
  ⟨"MBX_LOCK", 0x400A0028, 0x40, 16, 0, 1, [MBX_LOCK_LOCK 0]⟩,
  ⟨"MBX_LKCFG", 0x400A002C, 0x40, 16, 0, 1, [MBX_LKCFG_FORCE 0, MBX_LKCFG_LEASE 0]⟩,
  ⟨"FENCE_BASE", 0x400A0400, 0x10, 16, 0, 1, [FENCE_BASE_ADDR 0]⟩,
  ⟨"FENCE_LIMIT", 0x400A0404, 0x10, 16, 0, 1, [FENCE_LIMIT_ADDR 0]⟩,
  ⟨"FENCE_CFG", 0x400A0408, 0x10, 16, 0, 1, [FENCE_CFG_VALID 0, FENCE_CFG_DICT_W 0, FENCE_CFG_DICT_R 0, FENCE_CFG_DMA_W 0, FENCE_CFG_DMA_R 0]⟩,
  ⟨"FENCE_STATUS", 0x400A0500, 0, 1, 0, 1, [FENCE_STATUS_REFUSED, FENCE_STATUS_LAST_AGENT, FENCE_STATUS_WR_REFUSED]⟩,
  ⟨"FENCE_ADDR", 0x400A0504, 0, 1, 0, 1, [FENCE_ADDR_ADDR]⟩,
  ⟨"PAIR_CFG", 0x400B0000, 0, 1, 0, 1, [PAIR_CFG_MBX_IN, PAIR_CFG_MBX_OUT, PAIR_CFG_DWIN, PAIR_CFG_HB_MISS, PAIR_CFG_HB_US, PAIR_CFG_FW_EN, PAIR_CFG_LEAD_B, PAIR_CFG_SIDE, PAIR_CFG_EN]⟩,
  ⟨"PAIR_CTRL", 0x400B0004, 0, 1, 0, 1, [PAIR_CTRL_GO_ALONE, PAIR_CTRL_REJOIN, PAIR_CTRL_MUTE]⟩,
  ⟨"PAIR_STATUS", 0x400B0008, 0, 1, 0, 1, [PAIR_STATUS_P_WSTATE, PAIR_STATUS_P_PSTATE, PAIR_STATUS_P_STEP, PAIR_STATUS_STEP, PAIR_STATUS_PL_LOCK, PAIR_STATUS_PARTNER, PAIR_STATUS_JOIN_ABANDONED, PAIR_STATUS_DWIN_SHORT, PAIR_STATUS_CFG_MISMATCH, PAIR_STATUS_WALK_MISMATCH, PAIR_STATUS_IMG_MISMATCH, PAIR_STATUS_JOIN_REFUSED, PAIR_STATUS_TIME_SPLIT, PAIR_STATUS_PARTNER_LOST, PAIR_STATUS_DIVERGE, PAIR_STATUS_STATE]⟩,
  ⟨"PAIR_CLAIM", 0x400B000C, 0, 1, 0, 1, [PAIR_CLAIM_CLAIM]⟩,
  ⟨"PAIR_PCLAIM", 0x400B0010, 0, 1, 0, 1, [PAIR_PCLAIM_PCLAIM]⟩,
  ⟨"PAIR_PL_DELAY", 0x400B0014, 0, 1, 0, 1, [PAIR_PL_DELAY_DELAY]⟩,
  ⟨"PAIR_DIV_FIRST_LO", 0x400B0018, 0, 1, 0, 1, [PAIR_DIV_FIRST_LO_SEQ]⟩,
  ⟨"PAIR_DIV_FIRST_HI", 0x400B001C, 0, 1, 0, 1, [PAIR_DIV_FIRST_HI_SEQ]⟩,
  ⟨"PAIR_DIV_LAST_LO", 0x400B0020, 0, 1, 0, 1, [PAIR_DIV_LAST_LO_SEQ]⟩,
  ⟨"PAIR_DIV_LAST_HI", 0x400B0024, 0, 1, 0, 1, [PAIR_DIV_LAST_HI_SEQ]⟩,
  ⟨"PAIR_JOIN_SLOT_LO", 0x400B0028, 0, 1, 0, 1, [PAIR_JOIN_SLOT_LO_SLOT]⟩,
  ⟨"PAIR_JOIN_SLOT_HI", 0x400B002C, 0, 1, 0, 1, [PAIR_JOIN_SLOT_HI_SLOT]⟩,
  ⟨"PAIR_JOIN_SEQ_LO", 0x400B0030, 0, 1, 0, 1, [PAIR_JOIN_SEQ_LO_SEQ]⟩,
  ⟨"PAIR_JOIN_SEQ_HI", 0x400B0034, 0, 1, 0, 1, [PAIR_JOIN_SEQ_HI_SEQ]⟩,
  ⟨"PAIR_DIG_CNT", 0x400B0038, 0, 1, 0, 1, [PAIR_DIG_CNT_DIVERGED, PAIR_DIG_CNT_UNCHECKED]⟩,
  ⟨"PAIR_MATCHED", 0x400B003C, 0, 1, 0, 1, [PAIR_MATCHED_MATCHED]⟩,
  ⟨"PAIR_PL_CNT", 0x400B0040, 0, 1, 0, 1, [PAIR_PL_CNT_CRC_ERR, PAIR_PL_CNT_GAPS, PAIR_PL_CNT_FW_DROP]⟩,
  ⟨"PAIR_EVT_CNT", 0x400B0044, 0, 1, 0, 1, [PAIR_EVT_CNT_FROM_PARTNER, PAIR_EVT_CNT_DEC_LATE, PAIR_EVT_CNT_THETA_LATE]⟩,
  ⟨"PAIR_TIME_CNT", 0x400B0048, 0, 1, 0, 1, [PAIR_TIME_CNT_OWN_ANCHOR, PAIR_TIME_CNT_MUTED]⟩,
  ⟨"PAIR_PORT_TRIM", 0x400B0100, 8, 48, 0, 1, [PAIR_PORT_TRIM_TRIM 0]⟩,
  ⟨"PAIR_PORT_DIFF", 0x400B0104, 8, 48, 0, 1, [PAIR_PORT_DIFF_DIFF 0]⟩,
  ⟨"CAN_CFG", 0x400C0000, 0, 1, 0, 1, [CAN_CFG_EN, CAN_CFG_NODE_ID]⟩,
  ⟨"CAN_NBT", 0x400C0004, 0, 1, 0, 1, [CAN_NBT_BRP, CAN_NBT_TSEG1, CAN_NBT_TSEG2, CAN_NBT_SJW]⟩]

/-- Rows 280–318 of the index. -/
def rows7 : List RegRow := [
  ⟨"CAN_DBT", 0x400C0008, 0, 1, 0, 1, [CAN_DBT_BRP, CAN_DBT_TSEG1, CAN_DBT_TSEG2, CAN_DBT_SJW]⟩,
  ⟨"CAN_TDC", 0x400C000C, 0, 1, 0, 1, [CAN_TDC_TDC_EN, CAN_TDC_TDCO]⟩,
  ⟨"CAN_STATUS", 0x400C0010, 0, 1, 0, 1, [CAN_STATUS_SOLITARY, CAN_STATUS_SOLITARY_SEEN, CAN_STATUS_BUS_OFF_SEEN, CAN_STATUS_PASSIVE_SEEN, CAN_STATUS_RX_OVF, CAN_STATUS_TPDO_LOST, CAN_STATUS_ERR_STATE, CAN_STATUS_NODE_ID_ERR, CAN_STATUS_NMT]⟩,
  ⟨"CAN_ERR", 0x400C0014, 0, 1, 0, 1, [CAN_ERR_TEC, CAN_ERR_REC, CAN_ERR_NOACK_RUN]⟩,
  ⟨"CAN_CNT", 0x400C0018, 0, 1, 0, 1, [CAN_CNT_NOACK, CAN_CNT_BUS_OFF, CAN_CNT_RX_LOST]⟩,
  ⟨"DICT_CNT", 0x400C001C, 0, 1, 0, 1, [DICT_CNT_REQUESTS, DICT_CNT_ABORTS, DICT_CNT_MALFORMED, DICT_CNT_RESP_LOST]⟩,
  ⟨"DICT_LAST", 0x400C0020, 0, 1, 0, 1, [DICT_LAST_ABORT]⟩,
  ⟨"DICT_FWID", 0x400C0024, 0, 1, 0, 1, [DICT_FWID_FWID]⟩,
  ⟨"DICT_OPT", 0x400C0028, 0, 1, 0, 1, [DICT_OPT_NMT_RESET_APP, DICT_OPT_INBAND_EN]⟩,
  ⟨"CAN_CLI_CTRL", 0x400C0100, 0x20, 16, 0, 1, [CAN_CLI_CTRL_VALID 0, CAN_CLI_CTRL_KIND 0, CAN_CLI_CTRL_IPV6 0, CAN_CLI_CTRL_PRIV 0, CAN_CLI_CTRL_NODE_ID 0]⟩,
  ⟨"CAN_CLI_ADDR", 0x400C0104, 0x20, 16, 4, 4, [CAN_CLI_ADDR_ADDR 0 0]⟩,
  ⟨"ENV_CTRL", 0x400D0000, 0, 1, 0, 1, [ENV_CTRL_TIMER_EN, ENV_CTRL_GO]⟩,
  ⟨"ENV_STATUS", 0x400D0004, 0, 1, 0, 1, [ENV_STATUS_IL_WR_REFUSED, ENV_STATUS_REF_COLD, ENV_STATUS_ANY_FAULT, ENV_STATUS_EXC_LIVE, ENV_STATUS_IL_ON]⟩,
  ⟨"ENV_MASK", 0x400D0008, 0, 1, 0, 1, [ENV_MASK_MASK]⟩,
  ⟨"ENV_PERIOD", 0x400D000C, 0, 1, 0, 1, [ENV_PERIOD_PERIOD]⟩,
  ⟨"ENV_REF", 0x400D0010, 0, 1, 0, 1, [ENV_REF_READY, ENV_REF_EN]⟩,
  ⟨"ENV_SWEEP", 0x400D0014, 0, 1, 0, 1, [ENV_SWEEP_OVERLAP, ENV_SWEEP_SWEEPS, ENV_SWEEP_CHANNEL, ENV_SWEEP_BUSY]⟩,
  ⟨"ENV_KICK", 0x400D0018, 0, 1, 0, 1, [ENV_KICK_KICK, ENV_KICK_KICK_MS]⟩,
  ⟨"ENV_CH_CFG", 0x400D0100, 0x20, 16, 0, 1, [ENV_CH_CFG_RATE 0, ENV_CH_CFG_GAIN 0, ENV_CH_CFG_BURN_EN 0, ENV_CH_CFG_EXC_EN 0, ENV_CH_CFG_RANGE 0, ENV_CH_CFG_MODE 0]⟩,
  ⟨"ENV_CH_CTRL", 0x400D0104, 0x20, 16, 0, 1, [ENV_CH_CTRL_RETRY 0]⟩,
  ⟨"ENV_CH_STATUS", 0x400D0108, 0x20, 16, 0, 1, [ENV_CH_STATUS_RAMPING 0, ENV_CH_STATUS_DRIVING 0, ENV_CH_STATUS_CONTEND 0, ENV_CH_STATUS_FED_NOW 0, ENV_CH_STATUS_FED 0, ENV_CH_STATUS_CLAMP 0, ENV_CH_STATUS_OPEN_NOW 0, ENV_CH_STATUS_OPEN 0]⟩,
  ⟨"ENV_CH_RES", 0x400D010C, 0x20, 16, 0, 1, [ENV_CH_RES_VALID 0, ENV_CH_RES_OVER 0, ENV_CH_RES_OPEN 0, ENV_CH_RES_CLAMP 0, ENV_CH_RES_RANGING 0, ENV_CH_RES_REF_COLD 0, ENV_CH_RES_FED 0, ENV_CH_RES_CONTEND 0, ENV_CH_RES_CODE 0]⟩,
  ⟨"ENV_CH_TIME", 0x400D0110, 0x20, 16, 0, 1, [ENV_CH_TIME_SWEEP 0, ENV_CH_TIME_TICK 0]⟩,
  ⟨"ENV_CH_LIM_LO", 0x400D0114, 0x20, 16, 0, 1, [ENV_CH_LIM_LO_LIM 0]⟩,
  ⟨"ENV_CH_LIM_HI", 0x400D0118, 0x20, 16, 0, 1, [ENV_CH_LIM_HI_LIM 0]⟩,
  ⟨"ENV_CH_IEXC", 0x400D011C, 0x20, 16, 0, 1, [ENV_CH_IEXC_IEXC 0]⟩,
  ⟨"ENV_CH_CNT", 0x400D0300, 4, 16, 0, 1, [ENV_CH_CNT_FEDS 0, ENV_CH_CNT_CLAMPS 0]⟩,
  ⟨"ENV_IL_CTRL", 0x400D0400, 0x10, 4, 0, 1, [ENV_IL_CTRL_LATCH 0, ENV_IL_CTRL_REQ 0]⟩,
  ⟨"ENV_IL_RULE", 0x400D0404, 0x10, 4, 0, 1, [ENV_IL_RULE_KICK_EN 0, ENV_IL_RULE_MAX_AGE 0, ENV_IL_RULE_CH_MASK 0]⟩,
  ⟨"ENV_IL_STATUS", 0x400D0408, 0x10, 4, 0, 1, [ENV_IL_STATUS_CAUSE 0, ENV_IL_STATUS_LINE 0, ENV_IL_STATUS_OVERTEMP 0, ENV_IL_STATUS_SHORT 0, ENV_IL_STATUS_PERMIT 0, ENV_IL_STATUS_ON 0]⟩,
  ⟨"ENV_IL_CNT", 0x400D040C, 0x10, 4, 0, 1, [ENV_IL_CNT_DROPS 0]⟩,
  ⟨"UART_CTRL", 0x400E0000, 0, 1, 0, 1, [UART_CTRL_TWO_STOP, UART_CTRL_ODD, UART_CTRL_PAR_EN, UART_CTRL_TX_EN, UART_CTRL_RX_EN]⟩,
  ⟨"UART_BAUD", 0x400E0004, 0, 1, 0, 1, [UART_BAUD_DIV_INT, UART_BAUD_DIV_FRAC]⟩,
  ⟨"UART_STATUS", 0x400E0008, 0, 1, 0, 1, [UART_STATUS_TX_LEVEL, UART_STATUS_RX_LEVEL, UART_STATUS_BREAK, UART_STATUS_OVERRUN, UART_STATUS_NOISE, UART_STATUS_TX_IDLE]⟩,
  ⟨"UART_TX", 0x400E000C, 0, 1, 0, 1, [UART_TX_DATA]⟩,
  ⟨"UART_RX", 0x400E0010, 0, 1, 0, 1, [UART_RX_VALID, UART_RX_BREAK, UART_RX_FE, UART_RX_PE, UART_RX_DATA]⟩,
  ⟨"UART_CNT", 0x400E0014, 0, 1, 0, 1, [UART_CNT_FE, UART_CNT_PE, UART_CNT_RX_LOST, UART_CNT_TX_DROP]⟩,
  ⟨"DBG_LOFT", 0x400E0020, 0, 1, 0, 1, [DBG_LOFT_KEEP, DBG_LOFT_VALID, DBG_LOFT_RELEASE, DBG_LOFT_DUMPS]⟩,
  ⟨"DBG_STATUS", 0x400E0024, 0, 1, 0, 1, [DBG_STATUS_TAP_ACTIVE, DBG_STATUS_HALTED, DBG_STATUS_DMACTIVE]⟩]

/-- The register index (R657, R663). -/
def rows : List RegRow := rows0 ++ rows1 ++ rows2 ++ rows3 ++ rows4 ++ rows5 ++ rows6 ++ rows7

end Sys2Proof.WR
end

