-- ==== Sys2Proof/Machine/WnOps.lean ====
section
/-! DEFINITION. Operations over Wonan that several commands share: its registers, its state, its
clocks and its bytes of memory. -/

namespace Sys2Proof.Machine

open Sys2Proof

namespace State

/-! ### Registers -/

/-- The value of a register field of Wonan. -/
def wget (f : Fld) (s : State) : Nat := s.wr.get f

/-- Whether a register field is not zero. -/
def won (f : Fld) (s : State) : Bool := s.wr.on f

/-- Store a register field. -/
def wset (f : Fld) (v : Nat) (s : State) : State := { s with wr := s.wr.set f v }

/-- Store several register fields. -/
def wsets (l : List (Fld × Nat)) (s : State) : State := { s with wr := s.wr.sets l }

/-- Count in a saturating field. -/
def wadd (f : Fld) (n : Nat) (s : State) : State := { s with wr := s.wr.add f n }

/-- Keep the largest value seen in a field. -/
def wraise (f : Fld) (v : Nat) (s : State) : State := { s with wr := s.wr.raise f v }

/-- Count once where a condition holds. -/
def wcountIf (b : Bool) (f : Fld) (s : State) : State := if b then s.wadd f 1 else s

/-- Store the fields of the register at an address by the access codes of R17; RWA fields take the
value in HELD and ADMITTED. -/
def wstore (a v : Nat) (s : State) : State :=
  match regAt WR.rows a with
  | some fs => { s with wr := s.wr.write (s.wget WR.SYS_STATE_STATE == 2 ||
      s.wget WR.SYS_STATE_STATE == 3) fs v }
  | none => s

/-- A value the spec leaves open (log entry 2): the next one. -/
def fresh (n : Nat) (s : State) : Nat × State :=
  (Config.freeValue s.freeCnt % 2 ^ n, { s with freeCnt := s.freeCnt + 1 })

/-! ### The state of Wonan (R636) -/

/-- SYS_STATE.STATE: 0 OFF, 1 SELF_TEST, 2 HELD, 3 ADMITTED, 4 RUNNING, 5 DEGRADED, 6 HALTED_FATAL. -/
def ws (s : State) : Nat := s.wget WR.SYS_STATE_STATE

/-- HELD or ADMITTED: RWA registers are open. -/
def isOpen (s : State) : Bool := s.ws == 2 || s.ws == 3

/-- RUNNING or DEGRADED. -/
def isRun (s : State) : Bool := s.ws == 4 || s.ws == 5

/-- The variant of Wonan (R5): 1 QWN-48, 2 QWN-48L, 3 QWN-24. -/
def lanesCount (s : State) : Nat := if s.variant = 3 then 24 else 48

/-- Egress ports present (R5). -/
def epCount (s : State) : Nat := if s.variant = 2 then 4 else 8

/-- Compression engines present (R5). -/
def engCount (s : State) : Nat := if s.variant = 2 then 0 else 16

/-! ### Clocks -/

/-- The Wonan tick counter, 64 bits (R39). -/
def tick (s : State) : Nat := (s.now + s.wclk) % 2 ^ 64

/-- The Wonan frame. -/
def wframe (s : State) : Nat := s.tick / 65536

/-- mtime, 25 MHz from reset (R474). -/
def mtime (s : State) : Nat := (s.now - s.mtime0) * 5 / 256

/-- The number of Meridian times in units of 2^-16 ns: 2^64 seconds (R46). -/
def timeMod : Nat := 2 ^ 64 * 1000000000 * 65536

/-- A Meridian time moved by a span, by the carry rule of R47. -/
def timeAdd (t : Nat) (d : Int) : Nat := (((t : Int) + d) % (timeMod : Nat)).toNat

/-- Seconds of a Meridian time. -/
def timeSec (t : Nat) : Nat := t / 65536000000000

/-- Nanoseconds of a Meridian time. -/
def timeNs (t : Nat) : Nat := t / 65536 % 1000000000

/-- The 112 bits of a Meridian stamp (R46). -/
def stampBits (t : Nat) : Nat := timeSec t * 2 ^ 48 + timeNs t * 2 ^ 16 + t % 65536

/-- The newest anchor (R59). -/
def anchorNow (s : State) : Anchor := s.mer.anchors.headD ⟨0, 0, 3355443200, false, false⟩

/-- The Meridian time at a Wonan tick of the current frame or later (R58). -/
def timeAt (w : Nat) (s : State) : Nat :=
  let a := s.anchorNow
  timeAdd a.time (((w - 65536 * a.frame) * a.p + 2 ^ 15) / 2 ^ 16 : Nat)

/-- The Meridian time now. -/
def timeNow (s : State) : Nat := s.timeAt s.tick

/-- MER_STATUS.TIME_VALID. -/
def timeValid (s : State) : Bool := s.won WR.MER_STATUS_TIME_VALID

/-! ### Memory -/

/-- A byte of memory; one that is not listed reads zero (R461; log entry 8). -/
def byte (a : Nat) (s : State) : Byte := (SMap.find a s.mem).getD 0

/-- Store a byte; a zero byte is not listed. -/
def setByte (a : Nat) (v : Byte) (s : State) : State :=
  { s with mem := if v = 0 then SMap.erase a s.mem else SMap.insert a v s.mem }

/-- `n` bytes from an address. -/
def bytes (a n : Nat) (s : State) : List Nat := (List.range n).map fun i => (s.byte (a + i)).toNat

/-- Store a list of bytes from an address. -/
def setBytes : Nat → List Nat → State → State
  | _, [], s => s
  | a, b :: r, s => setBytes (a + 1) r (s.setByte a (BitVec.ofNat 8 b))

/-- A little-endian number of `n` bytes (R15). -/
def load (a n : Nat) (s : State) : Nat := ofLe (s.bytes a n)

/-- Store a little-endian number of `n` bytes. -/
def store (a n v : Nat) (s : State) : State := s.setBytes a (leBytes n v)

/-! ### Boundary scan (R679) -/

/-- The TAP of a chip: 0 Wonan, 1 + p the Tladon of port `p`. -/
def tap (c : Nat) (s : State) : Tap := SMap.getD Tap.reset c s.taps

/-- EXTEST, CLAMP or HIGHZ: Wonan sees its LVCMOS inputs held, and its outputs show the cells. -/
def pinsHeld (s : State) : Bool := decide (3 ≤ (s.tap 0).ir) && decide ((s.tap 0).ir ≤ 5)

/-- Something leaves on an LVCMOS pin. -/
def emitPin (o : Out) (s : State) : State := if s.pinsHeld then s else s.emit o

/-! ### Units -/

/-- A port of ingress. -/
def port (p : Nat) (s : State) : Port := SMap.getD Port.reset p s.ports

/-- Change a port. -/
def modPort (p : Nat) (f : Port → Port) (s : State) : State :=
  { s with ports := SMap.modify Port.reset p f s.ports }

/-- ING_PORT_STATUS.STATE (R286). -/
def portState (p : Nat) (s : State) : Nat := s.wget (WR.ING_PORT_STATUS_STATE p)

/-- Triangulation of a port. -/
def tri' (p : Nat) (s : State) : Tri := SMap.getD Tri.reset p s.tri

/-- Change the triangulation of a port. -/
def modTri (p : Nat) (f : Tri → Tri) (s : State) : State :=
  { s with tri := SMap.modify Tri.reset p f s.tri }

/-- A lane. -/
def lane (l : Nat) (s : State) : Lane := SMap.getD Lane.reset l s.lanes

/-- Change a lane. -/
def modLane (l : Nat) (f : Lane → Lane) (s : State) : State :=
  { s with lanes := SMap.modify Lane.reset l f s.lanes }

/-- A lane has RS block alignment: LOCKED or IDENTIFIED (R262). -/
def laneUp (l : Nat) (s : State) : Bool :=
  s.wget (WR.ING_LANE_STATUS_STATE l) == 2 || s.wget (WR.ING_LANE_STATUS_STATE l) == 3

/-- The port of a lane: as grouped, or as its position says. -/
def lanePort (l : Nat) (s : State) : Nat :=
  if s.wget (WR.ING_LANE_STATUS_STATE l) = 3 then s.wget (WR.ING_LANE_STATUS_PORT l)
  else l - s.wget (WR.ING_LANE_STATUS_POS l)

/-- The uplink of a lane within its copy (R255). -/
def laneK (l : Nat) (s : State) : Nat := s.wget (WR.ING_LANE_STATUS_POS l)

/-- A downlink transmitter. -/
def dlink (p : Nat) (s : State) : Dlink := SMap.getD Dlink.reset p s.dlinks

/-- Change a downlink transmitter. -/
def modDlink (p : Nat) (f : Dlink → Dlink) (s : State) : State :=
  { s with dlinks := SMap.modify Dlink.reset p f s.dlinks }

/-- The commands of R278 that stay within safe defaults. -/
def safeCmd (c : DlCmd) : Bool :=
  c.op == 0x02 || c.op == 0x03 || c.op == 0x0A || c.op == 0x10 || c.op == 0x11 || c.op == 0x07
    || (c.op == 0x08 && (c.arg % 8 == 1 || c.arg % 8 == 4))

/-- Queue a command for DLp (R277); in HELD and ADMITTED one beyond the safe defaults is not sent
(R427). -/
def dlSend (p : Nat) (c : DlCmd) (s : State) : State :=
  if s.isRun || safeCmd c then
    s.modDlink p fun d =>
      if c.op = 0x10 ∨ c.op = 0x11 then { d with p1 := d.p1 ++ [c] } else { d with p3 := d.p3 ++ [c] }
  else s

/-- Queue a command without operands. -/
def dlOp (p op arg : Nat) (s : State) : State := s.dlSend p ⟨op, 0, arg, 0⟩

/-- Queue a register access whose REG_DATA somebody awaits (R275, R291): its tag is the next one of
the port, and PROXY_TMO limits the wait. -/
def dlAccess (p op addr data kind : Nat) (s : State) : State :=
  let c : DlCmd := ⟨op, (s.dlink p).tag, addr, data⟩
  if s.isRun || safeCmd c then
    let s := s.dlSend p c
    s.modDlink p fun d => { d with
      tag := (d.tag + 1) % 256
      waits := d.waits ++ [⟨d.tag, addr, kind,
        s.now + max 1 (s.wget WR.ING_CTRL_PROXY_TMO) * Config.usTicks⟩] }
  else s

end State

end Sys2Proof.Machine
end

