-- ==== Sys2Proof/Machine/WnEnvOps.lean ====
section
/-! DEFINITION. Excitation and interlock outputs of the environment block, as the Wonan state and every event
of the block move them (spec/19 R598–R618). -/

namespace Sys2Proof.Machine

open Sys2Proof

namespace State

/-- Change the environment block. -/
def modEnv (f : Env → Env) (s : State) : State := { s with env := f s.env }

/-- Channel `n` is the sense pair of a channel in FOUR_WIRE (R599). -/
def envSense (n : Nat) (s : State) : Bool := n % 2 == 1 && s.wget (WR.ENV_CH_CFG_MODE (n - 1)) == 2

/-- The use of channel `n` (R598, R599). -/
def envMode (n : Nat) (s : State) : Nat :=
  let m := s.wget (WR.ENV_CH_CFG_MODE n)
  if s.envSense n || m == 2 && n % 2 == 1 then 0 else m

/-- Sources may drive (R606). -/
def envLive (s : State) : Bool := s.won WR.SYS_STATE_WAS_ADMITTED && s.ws != 0 && s.ws != 1 && s.ws != 6

/-- The source of channel `n` drives (R606, R611). -/
def envDrives (n : Nat) (s : State) : Bool :=
  s.envLive && (s.envMode n == 1 || s.envMode n == 2) && s.won (WR.ENV_CH_CFG_EXC_EN n)
    && !s.won (WR.ENV_CH_STATUS_FED_NOW n)

/-- Sweeps run (R605). -/
def envSweeps (s : State) : Bool :=
  s.ws == 3 || s.ws == 4 || s.ws == 5 || (s.ws == 2 && s.won WR.SYS_STATE_WAS_ADMITTED)

/-- A channel has OPEN_NOW, FED or CONTEND in effect (R613). -/
def envFault (n : Nat) (s : State) : Bool :=
  s.won (WR.ENV_CH_STATUS_OPEN_NOW n) || s.won (WR.ENV_CH_STATUS_FED_NOW n) || s.won (WR.ENV_CH_STATUS_CONTEND n)

/-- The result of a channel is good (R613). -/
def envGood (n : Nat) (s : State) : Bool :=
  s.won (WR.ENV_CH_RES_VALID n) && !(s.won (WR.ENV_CH_RES_OVER n) || s.won (WR.ENV_CH_RES_OPEN n)
    || s.won (WR.ENV_CH_RES_CLAMP n) || s.won (WR.ENV_CH_RES_RANGING n) || s.won (WR.ENV_CH_RES_REF_COLD n)
    || s.won (WR.ENV_CH_RES_FED n) || s.won (WR.ENV_CH_RES_CONTEND n))

/-- The input of a rule is missing, or older than MAX_AGE (R616, R617). -/
def envStale (k n : Nat) (s : State) : Bool :=
  s.envMode n == 0 || !s.won (WR.ENV_CH_RES_VALID n) ||
    (match SMap.find n s.env.ended with
      | some t => decide (t + max 1 (s.wget (WR.ENV_IL_RULE_MAX_AGE k)) * Config.msTicks < s.tick)
      | none => true)

/-- The code of a result lies within the limits (R616). -/
def envWithin (n : Nat) (s : State) : Bool :=
  let c := signed 24 (s.wget (WR.ENV_CH_RES_CODE n))
  decide (signed 24 (s.wget (WR.ENV_CH_LIM_LO_LIM n)) ≤ c) && decide (c ≤ signed 24 (s.wget (WR.ENV_CH_LIM_HI_LIM n)))

/-- No kick within the period (R616). -/
def kickLate (s : State) : Bool :=
  match s.env.kickAt with
  | some t => decide (t + max 1 (s.wget WR.ENV_KICK_KICK_MS) * Config.msTicks ≤ s.now)
  | none => true

/-- The rule of output `k` (R616, R617): 0 where it permits, else the CAUSE of its first failure. -/
def ilRule (k : Nat) (s : State) : Nat :=
  let chs := (List.range 16).filter fun n => bit n (s.wget (WR.ENV_IL_RULE_CH_MASK k))
  if chs.any fun n => s.envFault n then 4
  else if chs.any fun n => s.envStale k n then 5
  else if chs.any fun n => !s.envGood n then 4
  else if chs.any fun n => !s.envWithin n then 3
  else if s.won (WR.ENV_IL_RULE_KICK_EN k) && s.kickLate then 6
  else 0

/-- The first condition of R614 that fails for output `k`; 0 where it conducts. -/
def ilFails (k : Nat) (s : State) : Nat :=
  if !s.isRun then 1
  else if !s.won (WR.ENV_IL_CTRL_REQ k) then 2
  else if s.ilRule k ≠ 0 then s.ilRule k
  else if s.won (WR.ENV_IL_STATUS_OVERTEMP k) then 7
  else 0

/-- Output `k` takes the state its conditions give it (R614–R617). -/
def ilEval (k : Nat) (s : State) : State :=
  let was := s.won (WR.ENV_IL_STATUS_ON k)
  let c := s.ilFails k
  let s := s.wset (WR.ENV_IL_STATUS_PERMIT k) (b2n (s.ilRule k == 0))
  if c = 0 then s.wsets [(WR.ENV_IL_STATUS_ON k, 1), (WR.ENV_IL_STATUS_CAUSE k, 0)]
  else if was then
    let s := (s.wsets [(WR.ENV_IL_STATUS_ON k, 0), (WR.ENV_IL_STATUS_CAUSE k, c)]).wadd (WR.ENV_IL_CNT_DROPS k) 1
    if s.won (WR.ENV_IL_CTRL_LATCH k) && c != 2 then s.wset (WR.ENV_IL_CTRL_REQ k) 0 else s
  else if 2 < c ∧ s.wget (WR.ENV_IL_STATUS_CAUSE k) = 0 then s.wset (WR.ENV_IL_STATUS_CAUSE k) c
  else s

/-- A sweep in progress is abandoned where sweeps do not run (R605). -/
def envAbandon (s : State) : State :=
  if s.env.conv.isSome && !s.envSweeps then
    (s.modEnv fun e => { e with conv := none, todo := [] }).wset WR.ENV_SWEEP_BUSY 0
  else s

/-- Everything that follows the Wonan state, the configuration and the flags of the channels: sources,
sweeps, outputs and what ENV_STATUS shows. -/
def envShow (s : State) : State :=
  let s := (List.range 16).foldl (fun s n => s.wset (WR.ENV_CH_STATUS_DRIVING n) (b2n (s.envDrives n))) s.envAbandon
  let s := (List.range 4).foldl (fun s k => s.ilEval k) s
  s.wsets [(WR.ENV_STATUS_EXC_LIVE, b2n s.envLive),
    (WR.ENV_STATUS_ANY_FAULT, b2n ((List.range 16).any fun n => s.envFault n)),
    (WR.ENV_STATUS_IL_ON, pack ((List.range 4).map fun k => (k, k, s.wget (WR.ENV_IL_STATUS_ON k))))]

end State

end Sys2Proof.Machine
end

