-- ==== Sys2Proof/Machine/WnMem.lean ====
section
/-! DEFINITION. Protected memory: the codes, retry, Groom and the Farrier table (spec/14). -/

namespace Sys2Proof.Machine

open Sys2Proof

/-! ### Codes (R438–R441) -/

/-- Data bits, address bits and check bits of memory `m` (R438). -/
def memSpec (m : Nat) : Nat × Nat × Nat :=
  if m = 0 then (128, 20, 9)
  else if m = 1 then (96, 18, 8)
  else if m = 2 then (128, 17, 9)
  else if m = 3 then (32, 19, 7)
  else if m = 4 then (64, 16, 8)
  else (32, 14, 7)

/-- Words of memory `m` (R438). -/
def memWords (m : Nat) : Nat :=
  if m = 0 then 1048576
  else if m = 1 then 262144
  else if m = 2 then 131072
  else if m = 3 then 393216
  else if m = 4 then 65536
  else 16384

/-- The `r`-bit values of one weight, ascending. -/
def weights (r k : Nat) : List Nat := (List.range (2 ^ r)).filter fun v => popcount r v == k

/-- The columns of memory `m` (R440): data bits, check bits, address bits. -/
def memCols (m : Nat) : List Nat :=
  let (d, a, r) := memSpec m
  ((weights r 3 ++ weights r 5 ++ weights r 7 ++ weights r 9).take d) ++ (List.range r).map (2 ^ ·)
    ++ (weights r 4).take a

/-- The exclusive-or of the columns whose bits are set in a mask. -/
def synOf : List Nat → Nat → Nat
  | [], _ => 0
  | c :: r, mask => (if mask % 2 = 1 then c else 0) ^^^ synOf r (mask / 2)

/-- The syndrome of a set of wrong bits of memory `m` (R440). -/
def syndrome (m mask : Nat) : Nat := synOf (memCols m) mask

/-- The class of a syndrome (R441): 0 CLEAN, 1 SINGLE, 2 ADDRESS, 3 DOUBLE, 4 MULTI. -/
def memClass (m s : Nat) : Nat :=
  let (d, a, r) := memSpec m
  let cols := memCols m
  let adr := (cols.drop (d + r)).take a
  if s = 0 then 0
  else if (cols.take (d + r)).contains s then 1
  else if adr.contains s || adr.any fun c => adr.contains (c ^^^ s) && c ^^^ s != c then 2
  else if popcount r s % 2 = 0 then 3
  else 4

/-- The bit that a SINGLE syndrome names, as a mask over data and check bits. -/
def fixMask (m s : Nat) : Nat :=
  let (d, _, r) := memSpec m
  2 ^ ((memCols m).take (d + r)).findIdx fun c => c == s

/-- What comes over a word at an access: bits of the stored word upset before it, bits wrong in its first
read only (wrong address bits stand above data and check bits), and bits wrong in its second read. -/
structure Upset where
  flip : Nat
  path : Nat
  again : Nat
  deriving DecidableEq, Repr

/-- No upset. -/
def Upset.none : Upset := ⟨0, 0, 0⟩

/-- The memory and logical word index of a byte address (R438, R439). -/
def memAt (a : Nat) : Option (Nat × Nat) :=
  if a < 0x10000 then some (5, a / 4)
  else if 0x10000000 ≤ a ∧ a < 0x10180000 then some (3, (a - 0x10000000) / 4)
  else if 0x20000000 ≤ a ∧ a < 0x21000000 then some (0, (a - 0x20000000) / 16)
  else if 0x30000000 ≤ a ∧ a < 0x30200000 then some (2, (a - 0x30000000) / 16)
  else if 0x38000000 ≤ a ∧ a < 0x38300000 then some (1, (a - 0x38000000) / 12)
  else none

/-- The byte address of a word and its bytes; memory 4 has no range of its own (R657). -/
def memByte (m i : Nat) : Option (Nat × Nat) :=
  if m = 0 then some (0x20000000 + 16 * i, 16)
  else if m = 1 then some (0x38000000 + 12 * i, 12)
  else if m = 2 then some (0x30000000 + 16 * i, 16)
  else if m = 3 then some (0x10000000 + 4 * i, 4)
  else if m = 5 then some (4 * i, 4)
  else none

/-- The key of a word. -/
def memKey (m i : Nat) : Nat := m * 2 ^ 24 + i

/-- The macro group of a word and its row in it (R438, R439). -/
def memGroup (m i : Nat) : Nat × Nat :=
  if m = 0 then (i % 64, i / 64)
  else if m = 2 then (i / 8192, i % 8192)
  else if m = 3 then (i / 65536, i % 65536)
  else (i / 32768, i % 32768)

/-- Macro groups of a memory. -/
def memGroups (m : Nat) : Nat :=
  if m = 0 then 64 else if m = 1 then 8 else if m = 2 then 16 else if m = 3 then 6 else if m = 4 then 2 else 0

/-- The key of a Farrier entry or spare of a group. -/
def farKey (m g e : Nat) : Nat := m * 4096 + g * 16 + e

namespace State

/-- Change memory protection. -/
def modMems (f : Mems → Mems) (s : State) : State := { s with mems := f s.mems }

/-- The wrong stored bits of a word. -/
def flipsOf (m i : Nat) (s : State) : Nat := SMap.getD 0 (memKey m i) s.mems.flips

/-- Store the wrong bits of a word. -/
def setFlips (m i v : Nat) (s : State) : State :=
  s.modMems fun x => { x with
    flips := if v = 0 then SMap.erase (memKey m i) x.flips else SMap.insert (memKey m i) v x.flips }

/-- Show the confirm list and the log in their registers. -/
def showMem (s : State) : State :=
  s.wsets [(WR.MEM_STATUS_CONFIRM, s.mems.confirm.length), (WR.MEM_LOG_CNT_DEPTH, s.mems.log.length)]

/-! ### Log, confirm list, Farrier table (R445, R452, R457–R460, R467, R468) -/

/-- A detection enters the log. -/
def memLog (m i cls outcome src ch syn : Nat) (s : State) : State :=
  if s.mems.log.length < 32 then
    (s.modMems fun x => { x with log := x.log ++ [⟨m, cls, outcome, src, ch, syn, i, s.tick⟩] }).showMem
  else (s.wset WR.MEM_STATUS_LOG_OVF 1).wadd WR.MEM_LOG_CNT_LOST 1

/-- A word enters the confirm list of 8 words. -/
def confirm (m i : Nat) (s : State) : State :=
  if s.mems.confirm.length < 8 ∧ (m, i) ∉ s.mems.confirm then
    (s.modMems fun x => { x with confirm := x.confirm ++ [(m, i)] }).showMem
  else s

/-- A Farrier entry. -/
def farEntry (m g e : Nat) (s : State) : FarEntry := SMap.getD ⟨false, 0, 0⟩ (farKey m g e) s.mems.far

/-- Store a Farrier entry. -/
def setFar (m g e : Nat) (f : FarEntry) (s : State) : State :=
  s.modMems fun x => { x with far := SMap.insert (farKey m g e) f x.far }

/-- MEM_SPARES of a memory: valid entries and unusable spares. -/
def showSpares (m : Nat) (s : State) : State :=
  s.wsets [(WR.MEM_SPARES_MAPPED m, (s.mems.far.filter fun p => p.1 / 4096 == m && p.2.valid).length),
    (WR.MEM_SPARES_UNUSABLE m, (s.mems.bad.filter fun k => k / 4096 == m).length)]

/-- A spare of a group is free: tested, usable and in no valid entry. -/
def spareFree (m g sp : Nat) (s : State) : Bool :=
  decide (farKey m g sp ∉ s.mems.bad) &&
    !(List.range 16).any fun e => (s.farEntry m g e).valid && (s.farEntry m g e).spare == sp

/-- The copy of R458: the corrected word, or an uncorrectable word raw. -/
def farCopy (m i : Nat) (s : State) : State :=
  let f := s.flipsOf m i
  if memClass m (syndrome m f) ≤ 1 then s.setFlips m i 0 else s

/-- Remap a Farrier candidate (R458, R459): the state and whether an entry took it. -/
def remap (m i : Nat) (s : State) : Bool × State :=
  let (g, row) := memGroup m i
  let old := (List.range 16).find? fun e => (s.farEntry m g e).valid && (s.farEntry m g e).row == row
  let s := match old with
    | some e => (s.setFar m g e ⟨false, (s.farEntry m g e).spare, row⟩).modMems fun x => { x with
        bad := farKey m g (s.farEntry m g e).spare :: x.bad }
    | none => s
  match (List.range 16).find? fun sp => s.spareFree m g sp,
      (List.range 16).find? fun e => !(s.farEntry m g e).valid with
  | some sp, some e => (true, ((s.setFar m g e ⟨true, sp, row⟩).farCopy m i).showSpares m)
  | _, _ => (false, (s.wset WR.MEM_STATUS_FARRIER_FULL 1).showSpares m)

/-- A word is LASTING (R447, R458): the outcome that the log shows. -/
def lasting (m i : Nat) (s : State) : Nat × State :=
  let s := s.wadd (WR.MEM_CNTB_LASTING m) 1
  if m = 5 ∨ !s.won WR.MEM_CTRL_AUTO_REMAP then (2, s)
  else
    let (ok, s) := s.remap m i
    (if ok then 3 else 4, s)

/-! ### Reading a word (R441–R446) -/

/-- The data bits of a word change by a mask. -/
def xorWord (m i mask : Nat) (s : State) : State :=
  match memByte m i with
  | some (a, n) =>
    if mask = 0 then s
    else (List.range n).foldl (fun s k => s.setByte (a + k)
      (s.byte (a + k) ^^^ BitVec.ofNat 8 (mask / 2 ^ (8 * k)))) s
  | none => s

/-- The correctable end of a read (R444): write-back and second read. `groom` where Groom reads. -/
def retrySingle (m i src ch cls syn fix again : Nat) (groom : Bool) (s : State) : State :=
  let (d, _, r) := memSpec m
  let s := s.wadd (WR.MEM_CNTA_CORR m) 1
  let quiet := m == 5 || s.ws == 6 && groom
  let s := if quiet then s
    else (s.xorWord m i ((s.flipsOf m i ^^^ fix) % 2 ^ d)).setFlips m i (again % 2 ^ (d + r))
  let clean := syndrome m (if quiet then s.flipsOf m i ^^^ again else again) == 0
  if clean then (s.wadd (WR.MEM_CNTB_TRANSIENT m) 1).memLog m i cls 0 src ch syn
  else if m = 5 ∨ groom && !quiet then
    let (o, s) := s.lasting m i
    s.memLog m i cls o src ch syn
  else (if quiet then s else s.confirm m i).memLog m i cls 1 src ch syn

/-- An uncorrectable error stands (R446, R452). -/
def memStand (m i src ch cls syn : Nat) (s : State) : State :=
  let s := (s.wadd (WR.MEM_CNTA_UNCORR m) 1).wset WR.MEM_STATUS_UE_SEEN 1
  let s := if cls = 2 then (s.wadd (WR.MEM_CNTB_ADDRESS m) 1).wset WR.MEM_STATUS_ADDR_SEEN 1 else s
  s.memLog m i cls 5 src ch syn

/-- A read of a word (R441–R446): whether the error stands, the wrong data bits of what is delivered, and
the state after the retry. -/
def readWord (m i src ch : Nat) (groom : Bool) (u : Upset) (s : State) : Bool × Nat × State :=
  let (d, _, r) := memSpec m
  let s := s.setFlips m i ((s.flipsOf m i ^^^ u.flip) % 2 ^ (d + r))
  let f := s.flipsOf m i
  let s1 := syndrome m (f ^^^ u.path)
  let c1 := memClass m s1
  if c1 = 0 then (false, (f ^^^ u.path) % 2 ^ d, s)
  else if c1 = 1 then
    (false, (f ^^^ u.path ^^^ fixMask m s1) % 2 ^ d, s.retrySingle m i src ch c1 s1 (fixMask m s1 ^^^ u.path)
      u.again groom)
  else
    let s2 := syndrome m (f ^^^ u.again)
    let c2 := memClass m s2
    if c2 = 0 then
      (false, (f ^^^ u.again) % 2 ^ d, (s.wadd (WR.MEM_CNTB_TRANSIENT m) 1).memLog m i c1 0 src ch s1)
    else if c2 = 1 then
      (false, (f ^^^ u.again ^^^ fixMask m s2) % 2 ^ d,
        s.retrySingle m i src ch c1 s1 (fixMask m s2 ^^^ u.again) 0 groom)
    else (true, (f ^^^ u.path) % 2 ^ d, (s.memStand m i src ch c1 s1).confirm m i)

/-- A unit other than these reads a word that cannot be corrected; which word, class and syndrome are free
values (R451, R452). -/
def unitStand (m src : Nat) (s : State) : State :=
  let (a, s) := s.fresh 20
  let (b, s) := s.fresh 20
  let (c, s) := s.fresh 20
  s.memStand m (a % memWords m) src 0 (2 + b % 3) (c % 2 ^ (memSpec m).2.2)

/-! ### Bytes of memory as an agent reads and writes them (R448, R449) -/

/-- `n` bytes within one word: nothing where an uncorrectable error stands; the raw bytes beside it. -/
def memRead (a n src ch : Nat) (u : Upset) (s : State) : Bool × List Nat × State :=
  match memAt a with
  | none => (false, s.bytes a n, s)
  | some (m, i) =>
    let base := ((memByte m i).map (·.1)).getD a
    let (bad, x, t) := s.readWord m i src ch false u
    (bad, (List.range n).map fun k =>
      ((s.byte (a + k)).toNat ^^^ (x / 2 ^ (8 * (a + k - base)) % 256)), t)

/-- The fault that MEM_INJECT arms, as wrong bits (KIND 0 to 3). -/
def injectMask (s : State) : Nat :=
  let m := s.wget WR.MEM_INJECT_MEM
  let (d, _, r) := memSpec m
  let k := s.wget WR.MEM_INJECT_KIND
  let a := s.wget WR.MEM_INJECT_BIT_A
  if k = 0 then 2 ^ a
  else if k = 1 then 2 ^ (d + a)
  else if k = 2 then 2 ^ a ^^^ 2 ^ s.wget WR.MEM_INJECT_BIT_B
  else ((memCols m).getD (d + r + a) 0) * 2 ^ d

/-- A whole word is written (R443, R466): no error stays, unless MEM_INJECT is armed for it. -/
def fullWrite (m i : Nat) (s : State) : State :=
  let (d, _, r) := memSpec m
  let s := (s.modMems fun x => { x with confirm := x.confirm.erase (m, i) }).showMem
  if s.won WR.MEM_INJECT_ARM && s.wget WR.MEM_INJECT_MEM == m && s.wget WR.MEM_INJECT_ADDR_INDEX == i then
    (s.setFlips m i (s.injectMask % 2 ^ (d + r))).wset WR.MEM_INJECT_ARM 0
  else s.setFlips m i 0

/-- Bytes within one word are written (R448, R449): whether the write was performed. -/
def memWrite (a : Nat) (bs : List Nat) (src ch : Nat) (u : Upset) (s : State) : Bool × State :=
  match memAt a with
  | none => (true, s.setBytes a bs)
  | some (m, i) =>
    match memByte m i with
    | none => (true, s)
    | some (_, n) =>
      if bs.length = n then (true, (s.fullWrite m i).setBytes a bs)
      else
        let (bad, _, t) := s.readWord m i (if src = 0 then 14 else src) ch false u
        if bad then (false, t) else (true, t.setBytes a bs)

/-! ### Groom (R445, R453–R456) -/

/-- Groom runs (R453, R456). -/
def groomRuns (s : State) : Bool := s.won WR.MEM_CTRL_GROOM_EN && 2 ≤ s.ws

/-- MEM_CTRL.PERIOD in ticks; 0 acts as 1. -/
def groomPeriod (s : State) : Nat := max 1 (s.wget WR.MEM_CTRL_PERIOD) * Config.secTicks

/-- A cursor moves on; a pass ends when every cursor has wrapped (R453, R454). -/
def groomMove (m : Nat) (s : State) : State :=
  let i := s.mems.cursors.getD m 0
  let j := if i + 1 < memWords m then i + 1 else 0
  let s := s.modMems fun x => { x with
    cursors := x.cursors.set m j
    wrapped := if j = 0 ∧ m ∉ x.wrapped then m :: x.wrapped else x.wrapped }
  let s := s.wset WR.MEM_GROOM_PROGRESS (s.mems.cursors.getD 0 0 / 4096)
  if s.mems.wrapped.length = 6 then
    let late := decide (s.groomPeriod + Config.secTicks < s.now - s.mems.passAt)
    let s := s.modMems fun x => { x with wrapped := [], passAt := s.now }
    let s := s.wset WR.MEM_GROOM_PASSES (s.wget WR.MEM_GROOM_PASSES + 1)
    if late then s.wset WR.MEM_STATUS_GROOM_LATE 1 else s
  else s

/-- Groom reads the next word of a memory. -/
def groomVisit (m : Nat) (u : Upset) (s : State) : State :=
  if s.groomRuns && m < 6 then
    (s.readWord m (s.mems.cursors.getD m 0) 0 0 true u).2.2.groomMove m
  else s

/-- Groom visits the first word of the confirm list (R445, R446). -/
def groomConfirm (u : Upset) (s : State) : State :=
  match s.mems.confirm with
  | [] => s
  | (m, i) :: _ =>
    if !s.groomRuns then s
    else
      let (d, _, r) := memSpec m
      let c := memClass m (syndrome m (((s.flipsOf m i ^^^ u.flip) % 2 ^ (d + r)) ^^^ u.path))
      let (bad, _, t) := s.readWord m i 0 0 true u
      let t := (t.modMems fun x => { x with confirm := x.confirm.erase (m, i) }).showMem
      if bad then
        let (o, t) := t.lasting m i
        { t with mems := { t.mems with log := t.mems.log.dropLast ++
          (t.mems.log.getLast?.toList.map fun e => if e.index = i ∧ e.mem = m then { e with outcome := o } else e) } }
      else if c = 0 then t.wadd (WR.MEM_CNTB_TRANSIENT m) 1
      else t

/-! ### Registers (R459, R460, R467, R469) -/

/-- The head of the log in MEM_LOG_INFO, with its companions. -/
def showLog (s : State) : State :=
  match s.mems.log with
  | [] => s.wset WR.MEM_LOG_INFO_VALID 0
  | e :: _ => s.wsets [(WR.MEM_LOG_INFO_VALID, 1), (WR.MEM_LOG_INFO_MEM, e.mem), (WR.MEM_LOG_INFO_CLASS, e.cls),
      (WR.MEM_LOG_INFO_OUTCOME, e.outcome), (WR.MEM_LOG_INFO_SOURCE, e.source),
      (WR.MEM_LOG_INFO_CHANNEL, e.channel), (WR.MEM_LOG_INFO_SYNDROME, e.syndrome),
      (WR.MEM_LOG_ADDR_INDEX, e.index), (WR.MEM_LOG_TIME_LO_TIME, e.time),
      (WR.MEM_LOG_TIME_HI_TIME, e.time / 2 ^ 32)]

/-- A read of MEM_LOG_INFO at the normal address removes the head entry. -/
def readLog (s : State) : State :=
  (s.showLog.modMems fun x => { x with log := x.log.drop 1 }).showMem

/-- The selected Farrier entry, as MEM_FAR_DATA shows it. -/
def farSel (s : State) : Nat × Nat × Nat :=
  (s.wget WR.MEM_FAR_SEL_MEM, s.wget WR.MEM_FAR_SEL_GROUP, s.wget WR.MEM_FAR_SEL_ENTRY)

/-- MEM_FAR_DATA shows the selected entry. -/
def showFar (s : State) : State :=
  let (m, g, e) := s.farSel
  let f := if m < 5 ∧ g < memGroups m then s.farEntry m g e else ⟨false, 0, 0⟩
  s.wsets [(WR.MEM_FAR_DATA_VALID, b2n f.valid), (WR.MEM_FAR_DATA_SPARE, f.spare),
    (WR.MEM_FAR_DATA_ROW, f.row), (WR.MEM_FAR_DATA_SPARE_BAD, b2n (decide (farKey m g f.spare ∈ s.mems.bad)))]

/-- The logical word index of a row of a group. -/
def memIndex (m g row : Nat) : Nat :=
  if m = 0 then row * 64 + g
  else if m = 2 then g * 8192 + row
  else if m = 3 then g * 65536 + row
  else g * 32768 + row

/-- A write of MEM_FAR_DATA (R458, R460). -/
def writeFar (v : Nat) (s : State) : State :=
  let (m, g, e) := s.farSel
  let sp := bits 19 16 v
  let row := bits 15 0 v
  if m < 5 ∧ g < memGroups m then
    let old := s.farEntry m g e
    let mapped := (List.range 16).any fun k =>
      k != e && (s.farEntry m g k).valid && (s.farEntry m g k).row == row
    let taken := (List.range 16).any fun k =>
      k != e && (s.farEntry m g k).valid && (s.farEntry m g k).spare == sp
    if bit 31 v && (mapped || taken || decide (farKey m g sp ∈ s.mems.bad) || old.valid) then
      s.wset WR.MEM_STATUS_FAR_REFUSED 1
    else
      let s := s.setFar m g e ⟨bit 31 v, sp, row⟩
      ((if bit 31 v then s.farCopy m (memIndex m g row) else s).showSpares m).showFar
  else s

/-- Groom's cursors and the log start afresh at the end of SELF_TEST (R465). -/
def memClear (s : State) : State :=
  let s := s.modMems fun x => { x with log := [], confirm := [], passAt := s.now, wrapped := [] }
  ((List.range 6).foldl (fun s m => s.wsets [(WR.MEM_CNTA_CORR m, 0), (WR.MEM_CNTA_UNCORR m, 0),
    (WR.MEM_CNTB_TRANSIENT m, 0), (WR.MEM_CNTB_LASTING m, 0), (WR.MEM_CNTB_ADDRESS m, 0)]) s).wset
      WR.MEM_LOG_CNT_LOST 0 |>.showMem

end State

/-- GROOM_VISIT (R453–R456): Groom reads the next word of memory `m`, over which an upset came. -/
def execGroomVisit (m flip path again : Nat) (s : State) : Res := .next <| s.groomVisit m ⟨flip, path, again⟩

/-- GROOM_CONFIRM_VISIT (R445): Groom reads the first word of the confirm list again. -/
def execGroomConfirmVisit (flip path again : Nat) (s : State) : Res :=
  .next <| s.groomConfirm ⟨flip, path, again⟩

/-- MEM_FAR_DATA_WRITE (R458, R460). -/
def execMemFarDataWrite (value : Nat) (s : State) : Res := .next <| s.writeFar value

/-- MEM_LOG_READ (R467): a read of MEM_LOG_INFO at the normal address. -/
def execMemLogRead (s : State) : Res := .next s.readLog

/-- GROOM_EN_WRITE (R456): GROOM_EN written; the cursors and the confirm list stay. -/
def execGroomEnWrite (en : Bool) (s : State) : Res := .next <| s.wset WR.MEM_CTRL_GROOM_EN (b2n en)

end Sys2Proof.Machine
end

