-- ==== Sys2Proof/Machine/WnCanOps.lean ====
section
/-! DEFINITION. What other units ask of the CAN controller: emergency messages, and the Wonan state
(spec/18 R571–R579, spec/20 R636). -/

namespace Sys2Proof.Machine

open Sys2Proof

namespace State

/-- Change the field network. -/
def modCan (f : Can → Can) (s : State) : State := { s with can := f s.can }

/-- A written object, by index and sub, or its default. -/
def canObj (index sub dflt : Nat) (s : State) : Nat := SMap.getD dflt (index * 256 + sub) s.can.objs

/-- CAN_NBT, CAN_DBT and CAN_TDC as written, which reset communication puts in force (R572). -/
def canTiming (s : State) : List Nat :=
  [WR.CAN_NBT, WR.CAN_DBT, WR.CAN_TDC].map fun a => s.wr.word ((regAt WR.rows a).getD [])

/-- NMT state: 0 initialising, 1 pre-operational, 2 operational, 3 stopped. -/
def nmt (s : State) : Nat := s.wget WR.CAN_STATUS_NMT

/-- The controller may send a frame (R571, R572, R577). -/
def canOn (s : State) : Bool :=
  s.won WR.CAN_CFG_EN && s.can.node != 0 && s.wget WR.CAN_STATUS_ERR_STATE != 2 && s.nmt != 0

/-- SOLITARY (R578). -/
def solitary (s : State) : Bool := s.won WR.CAN_STATUS_SOLITARY

/-- Object 0x1001, the error register of CiA 1301: generic, communication and manufacturer-specific
conditions of R579. -/
def errReg (s : State) : Nat :=
  let com := s.won WR.CAN_STATUS_RX_OVF || s.won WR.CAN_STATUS_BUS_OFF_SEEN
  let man := s.ws == 5 || s.won WR.PAIR_STATUS_DIVERGE || s.won WR.ADM_STATUS_REFUSED
  b2n (com || man || s.ws == 6) + 16 * b2n com + 128 * b2n man

/-- Send the EMCYs that wait, by the inhibit time of object 0x1015 (units of 100 µs). -/
def sendEmcy (s : State) : State :=
  match s.can.emcys with
  | [] => s
  | code :: r =>
    let gap := s.canObj 0x1015 0 0 * 100 * Config.usTicks
    let clear := match s.can.emcyAt with
      | some t => decide (t + gap ≤ s.now)
      | none => true
    if !(s.canOn && (s.nmt == 1 || s.nmt == 2)) || s.solitary then s
    else if !clear then s
    else
      (s.modCan fun c => { c with emcys := r, emcyAt := some s.now }).emitPin
        (.can (s.canObj 0x1014 0 (0x80 + s.can.node) % 2048)
          (leBytes 2 code ++ [s.errReg, s.ws, 0, 0, 0, 0]))

/-- Wonan sends an EMCY (R579); one that it may not send is not kept. -/
def emcy (code : Nat) (s : State) : State :=
  let s := s.modCan fun c => { c with alarm := code != 0 }
  if !(s.canOn && (s.nmt == 1 || s.nmt == 2)) || s.solitary || s.canObj 0x1014 0 0 / 2 ^ 31 % 2 == 1 then s
  else (s.modCan fun c => { c with emcys := c.emcys ++ [code] }).sendEmcy

/-- EMCY 0x0000 once every condition of R579 has ended. -/
def emcyEnd (s : State) : State :=
  if s.can.alarm && s.errReg == 0 then s.emcy 0 else s

/-- SYS_STATE takes a new state (R636): the previous one, WAS_ADMITTED, the EMCYs of R579. -/
def setWs (n : Nat) (s : State) : State :=
  let old := s.ws
  if old = n then s
  else
    let run := (old == 4 || old == 5)
    let s := s.wsets [(WR.SYS_STATE_STATE, n), (WR.SYS_STATE_PREV, old),
      (WR.ADM_STATUS_DEGRADED, b2n (n == 5))]
    let s := if n = 3 then s.wset WR.SYS_STATE_WAS_ADMITTED 1 else s
    let s := { s with sys := { s.sys with
      runAt := if n = 4 ∨ n = 5 then if run then s.sys.runAt else some s.now else none } }
    let s := s.envShow
    if n = 6 then s.emcy 0x5000 else if n = 5 then s.emcy 0xFF01 else s.emcyEnd

end State

end Sys2Proof.Machine
end

