-- ==== Sys2Proof/Machine/WnSch.lean ====
section
/-! DEFINITION. The hardware scheduler and the cores' interrupts (spec/15 R473–R498). -/

namespace Sys2Proof.Machine

open Sys2Proof

namespace State

/-! ### Tasks -/

/-- A task takes part in scheduling; task 0 always does (R475). -/
def taskEn (t : Nat) (s : State) : Bool := t == 0 || s.won (WR.SCH_T_CFG_EN t)

/-- System class. -/
def taskSys (t : Nat) (s : State) : Bool := t == 0 || s.won (WR.SCH_T_CFG_CLASS t)

/-- Priority, ceiling and core mask of a task; task 0 has 15, 15 and every core (R475). -/
def taskPrio (t : Nat) (s : State) : Nat := if t = 0 then 15 else s.wget (WR.SCH_T_CFG_PRIO t)
def taskCeil (t : Nat) (s : State) : Nat := if t = 0 then 15 else s.wget (WR.SCH_T_CFG_CEIL t)
def taskCores (t : Nat) (s : State) : Nat := if t = 0 then 15 else s.wget (WR.SCH_T_CFG_CORES t)

/-- The task's flow. -/
def taskFlow (t : Nat) (s : State) : Option Nat :=
  if s.won (WR.SCH_T_CFG_FLOW_EN t) then some (s.wget (WR.SCH_T_CFG_FLOW t)) else none

/-- Change the scheduler. -/
def modSch (f : Sch → Sch) (s : State) : State := { s with sch := f s.sch }

/-- The scheduler's side of core `n`, 0 for CC1. -/
def schCore (n : Nat) (s : State) : SchCore := s.sch.cores.getD n SchCore.reset

/-- Change the scheduler's side of core `n`. -/
def modSchCore (n : Nat) (f : SchCore → SchCore) (s : State) : State :=
  s.modSch fun x => { x with cores := x.cores.mapIdx fun i c => if i = n then f c else c }

/-- Core `n`. -/
def core (n : Nat) (s : State) : Core := s.cores.getD n Core.reset

/-- Change core `n`. -/
def modCore (n : Nat) (f : Core → Core) (s : State) : State :=
  { s with cores := s.cores.mapIdx fun i c => if i = n then f c else c }

/-! ### Items -/

/-- The items that wait in a level, on chip first. -/
def levelItems (l : Nat) (s : State) : List Item := s.sch.chip.getD l [] ++ s.sch.spill.getD l []

/-- Every waiting item. -/
def waiting (s : State) : List Item := ((List.range 16).map fun l => s.levelItems l).flatten

/-- Items reserved or running on a core. -/
def onCores (s : State) : List Item :=
  (s.sch.cores.map fun c => c.res.toList ++ c.run.toList).flatten

/-- Every item. -/
def items (s : State) : List Item := s.waiting ++ s.onCores

/-- Items that hold a flow: reserved, running or pre-empted (R481). -/
def holders (f : Nat) (s : State) : Nat :=
  ((s.onCores ++ s.waiting.filter (·.resume)).filter fun i => i.flow == some f).length

/-- A waiting item whose flow no other item holds (R481). -/
def flowFree (i : Item) (s : State) : Bool :=
  match i.flow with
  | none => true
  | some f => s.holders f == b2n i.resume

/-- Eligible for core `n` (R481): the mask is read now (R480). -/
def eligible (n : Nat) (i : Item) (s : State) : Bool := bit n (s.taskCores i.task) && s.flowFree i

/-! ### The decision trace -/

/-- Write a trace entry (R496–R498): kind, core 0–4, task, level, RESUME, flow and detail. -/
def traceEntry (kind core task prio : Nat) (resume : Bool) (flow : Option Nat) (detail : Nat)
    (s : State) : State :=
  if s.won WR.SCH_TRACE_CTRL_EN && !s.won WR.SCH_TRACE_CTRL_FREEZE && s.ws != 0 && s.ws != 1 then
    let t := s.timeNow
    let w0 := pack [(63, 32, timeSec t), (31, 2, timeNs t)]
    let w1 := pack [(63, 60, kind), (59, 57, core), (56, 47, task), (46, 43, prio),
      (42, 42, b2n resume), (41, 30, flow.getD 0), (29, 0, min detail (2 ^ 30 - 1))]
    let p := s.wget WR.SCH_TRACE_CTRL_WPTR
    let s := s.modSch fun x => { x with trace := SMap.insert p (w0, w1) x.trace }
    let s := if p = 16383 then s.wset WR.SCH_TRACE_CTRL_WRAPPED 1 else s
    s.wset WR.SCH_TRACE_CTRL_WPTR (p + 1)
  else s

/-- An event of an item: traced where its task is of system class (R496). -/
def traceItem (kind core : Nat) (i : Item) (detail : Nat) (s : State) : State :=
  if i.sys then s.traceEntry kind core i.task i.level i.resume i.flow detail else s

/-! ### Queues of the levels -/

/-- Something breaks the standstill conditions now (R493). -/
def standTouch (s : State) : State := s.modSch fun x => { x with standBreak := s.mtime }

/-- An item enters the tail of its level (R481, R487). -/
def pushTail (i : Item) (s : State) : State :=
  let l := i.level
  let i := { i with entered := s.mtime }
  if (s.sch.chip.getD l []).length < 256 ∧ (s.sch.spill.getD l []).isEmpty then
    s.modSch fun x => { x with chip := x.chip.mapIdx fun k q => if k = l then q ++ [i] else q }
  else s.modSch fun x => { x with spill := x.spill.mapIdx fun k q => if k = l then q ++ [i] else q }

/-- An item enters the head of its level; a full on-chip queue pushes its last item to the head of
the spill (R487). -/
def pushHead (i : Item) (s : State) : State :=
  let l := i.level
  let q := i :: s.sch.chip.getD l []
  let spilt := q.drop 256
  s.modSch fun x => { x with
    chip := x.chip.mapIdx fun k c => if k = l then q.take 256 else c
    spill := x.spill.mapIdx fun k c => if k = l then spilt ++ c else c }

/-- Take the first on-chip item of a level that satisfies `f` out of it. -/
def takeItem (l : Nat) (f : Item → Bool) (s : State) : Option (Item × State) :=
  let q := s.sch.chip.getD l []
  match q.find? f with
  | none => none
  | some i =>
    some (i, s.modSch fun x => { x with chip := x.chip.mapIdx fun k c => if k = l then q.erase i else c })

/-- Items whose core mask includes core `n` (DEPTH, R495). -/
def depth (n : Nat) (s : State) : Nat := (s.waiting.filter fun i => bit n (s.taskCores i.task)).length

/-- Keep the highest DEPTH of every core (R495). -/
def raiseDepths (s : State) : State :=
  (List.range 4).foldl (fun s n => s.wraise (WR.SCH_C_DEPTH_DEPTH_MAX n) (s.depth n)) s

/-- Create an item in its ready queue (R480, R496). -/
def newItem (t : Nat) (isFlag : Bool) (flow : Option Nat) (arg why : Nat) (s : State) : State :=
  let i : Item := ⟨t, isFlag, false, flow, s.taskPrio t, s.taskSys t, arg, s.taskPrio t, s.mtime,
    s.mtime, 0, 0, [], why⟩
  ((s.pushTail i).traceItem 1 0 i why).standTouch.raiseDepths

/-- A flag item of a task is queued, reserved or running (R477). -/
def hasFlagItem (t : Nat) (s : State) : Bool := s.items.any fun i => i.isFlag && i.task == t

/-- The task's flags meet its mask (R477). -/
def flagsMeet (t : Nat) (s : State) : Bool :=
  let m := s.wget (WR.SCH_T_MASK_MASK t)
  let f := s.wget (WR.SCH_T_FLAGS_FLAGS t) &&& m
  if s.won (WR.SCH_T_CFG_ALL t) then m != 0 && f == m else f != 0

/-- R477: create the pending flag item; `why` is the flag that completed readiness. -/
def evalTask (t why : Nat) (s : State) : State :=
  if s.taskEn t && s.flagsMeet t && !s.hasFlagItem t then s.newItem t true (s.taskFlow t) 0 why
  else s

/-- Set an event flag of a task (R476). -/
def setFlag (t f : Nat) (s : State) : State :=
  if s.taskEn t then
    (s.wset (WR.SCH_T_FLAGS_FLAGS t) (s.wget (WR.SCH_T_FLAGS_FLAGS t) ||| 2 ^ f)).evalTask t f
  else s

/-- The free item places (R479, R487). -/
def freePlaces (s : State) : Nat := 36864 - s.waiting.length

/-- Post an item (R479); `sel` is FLOW_SEL. -/
def post (t sel flow arg : Nat) (s : State) : State :=
  if s.taskEn t && decide (1024 < s.freePlaces) then
    s.newItem t false (if sel = 0 then s.taskFlow t else if sel = 2 then some flow else none) arg 32
  else (s.wset WR.SCH_STATUS_POST_REFUSED 1).wadd WR.SCH_CNT_POSTS_REFUSED 1

/-- A post to task 0 that draws on the reserved places (R489, R493). -/
def postRecovery (arg : Nat) (s : State) : State := s.newItem 0 false none arg 32

/-! ### Reservation and dispatch -/

/-- Core `n` may receive items: enabled and not halted (R482). -/
def coreUp (n : Nat) (s : State) : Bool := s.won (WR.SCH_C_CTRL_EN (n)) && !(s.core n).halted

/-- Core `n` is free (R482). -/
def coreFree (n : Nat) (s : State) : Bool :=
  s.coreUp n && (s.schCore n).res.isNone && (s.schCore n).run.isNone

/-- The reservation of core `n` returns to the head of its level (R483). -/
def unreserve (n : Nat) (s : State) : State :=
  match (s.schCore n).res with
  | none => s
  | some i => (s.modSchCore n fun c => { c with res := none, preempt := false }).pushHead i

/-- Reserve an item for core `n`. -/
def reserve (n : Nat) (i : Item) (s : State) : State :=
  s.modSchCore n fun c => { c with res := some i, preempt := c.run.isSome }

/-- The best eligible item for a free core: the earliest of the highest level (R482). -/
def bestFor (n : Nat) (s : State) : Nat → Option (Item × State)
  | 0 => none
  | l + 1 => match s.takeItem l fun i => s.eligible n i with
    | some r => some r
    | none => bestFor n s l

/-- R482 for the four cores in ascending order. -/
def reserveFree (s : State) : State :=
  (List.range 4).foldl (fun s n =>
    if s.coreFree n then match s.bestFor n 16 with
      | some (i, s) => s.reserve n i
      | none => s
    else s) s

/-- The base priority or level that an item must exceed to take core `n`, where it may (R483). -/
def bar (n : Nat) (s : State) : Option Nat :=
  let c := s.schCore n
  if !s.coreUp n then none
  else match c.res, c.run with
    | some r, none => some r.level
    | none, some r => if s.won (WR.SCH_C_CTRL_NOPREEMPT n) then none else some r.prio
    | some q, some r => if s.won (WR.SCH_C_CTRL_NOPREEMPT n) then none else some (max q.level r.prio)
    | none, none => none

/-- The core that an item takes by pre-emption or displacement: the lowest bar below its level, the
highest-numbered of equals; none while its mask holds a free core (R483). -/
def victim (i : Item) (s : State) : Option Nat :=
  let mask := s.taskCores i.task
  if !s.flowFree i || (List.range 4).any (fun n => bit n mask && s.coreFree n) then none
  else
    ((List.range 4).foldl (fun (best : Option (Nat × Nat)) n =>
      match s.bar n with
      | none => best
      | some b =>
        if bit n mask ∧ b < i.level then match best with
          | some (m, x) => if b ≤ x then some (n, b) else some (m, x)
          | none => some (n, b)
        else best) none).map (·.1)

/-- The items of a level in turn take cores by R483. -/
def preemptLevel (s : State) (l : Nat) : State :=
  (s.sch.chip.getD l []).foldl (fun s i =>
    match s.victim i with
    | none => s
    | some n =>
      let s := s.modSch fun x => { x with
        chip := x.chip.mapIdx fun k c => if k = l then c.erase i else c }
      (s.unreserve n).reserve n i) s

/-- SCH_RESERVE: reservations for free cores, then pre-emption from the highest level down (R482,
R483). -/
def reserveAll (s : State) : State :=
  (List.range 16).reverse.foldl preemptLevel s.reserveFree

/-- The tick at which a window of `n` counts of mtime began. -/
def winStart (n : Nat) (s : State) : Nat := s.mtime / n * n

/-- Busy time of core `n` up to now is added to its windows (R495). -/
def addBusy (n : Nat) (s : State) : State :=
  let d := s.mtime - (s.schCore n).since
  s.modSchCore n fun c =>
    if c.run.isSome then { c with busyMs := c.busyMs + d, busyS := c.busyS + d, since := s.mtime }
    else { c with since := s.mtime }

/-- A flag item is claimed: its argument, its flags and the releases it consumes (R478, R492). -/
def consume (i : Item) (s : State) : Item × State :=
  if i.isFlag && !i.resume then
    let m := s.wget (WR.SCH_T_MASK_MASK i.task)
    let f := s.wget (WR.SCH_T_FLAGS_FLAGS i.task)
    let mine := s.sch.perRel.filter fun p =>
      s.wget (WR.SCH_PER_CFG_TASK p.1) == i.task && bit 31 (f &&& m)
    let s := s.wset (WR.SCH_T_FLAGS_FLAGS i.task) (f &&& (2 ^ 32 - 1 - m))
    let s := s.modSch fun x => { x with perRel := x.perRel.filter fun p => !mine.contains p }
    ({ i with arg := f &&& m, rels := mine }, s)
  else (i, s)

/-- SCH_Cn_NEXT as it reads for an item. -/
def nextFields (n : Nat) (i : Item) : List (Fld × Nat) :=
  [(WR.SCH_C_NEXT_VALID n, 1), (WR.SCH_C_NEXT_RESUME n, b2n i.resume),
    (WR.SCH_C_NEXT_PRIO n, i.level), (WR.SCH_C_NEXT_TASK n, i.task),
    (WR.SCH_C_NEXT_FLOW_EN n, b2n i.flow.isSome), (WR.SCH_C_NEXT_FLOW n, i.flow.getD 0)]

/-- A running item is pre-empted: it returns to the head of its base level (R484). -/
def preemptRun (n by' : Nat) (s : State) : State :=
  match (s.schCore n).run with
  | none => s
  | some r =>
    let s := s.addBusy n
    let r := { r with ran := r.ran + (s.mtime - r.start), level := r.prio, resume := true
                      entered := s.mtime, born := s.mtime }
    ((s.modSchCore n fun c => { c with run := none }).pushHead r).traceItem 3 (n + 1)
      { r with resume := false } by'

/-- A claim of core `n` (R478, R484). -/
def claim (n : Nat) (s : State) : State :=
  match (s.schCore n).res with
  | none => s.wset (WR.SCH_C_NEXT_VALID n) 0
  | some i =>
    let idle := (s.schCore n).run.isNone
    let s := s.preemptRun n i.task
    let s := if idle then s.traceEntry 7 (n + 1) 0 0 false none 0 else s
    let (i, s) := s.consume i
    let wait := s.mtime - i.born
    let s := s.traceItem 2 (n + 1) i (wait / 25)
    let s := s.addBusy n
    let s := s.modSchCore n fun c => { c with
      res := none, preempt := false, run := some { i with start := s.mtime }
      waitMs := c.waitMs + wait, waitS := c.waitS + wait
      claimsMs := c.claimsMs + 1, claimsS := c.claimsS + 1
      np := if s.won (WR.SCH_C_CTRL_NOPREEMPT n) then some s.mtime else none }
    ((s.wsets (nextFields n i)).wset (WR.SCH_C_ARG_ARG n) i.arg).modSch
      fun x => { x with standDone := false }

/-- A non-pre-emptible span ends: its length is published (R486). -/
def npEnd (n : Nat) (s : State) : State :=
  match (s.schCore n).np with
  | none => s
  | some t => (s.modSchCore n fun c => { c with np := none }).wraise (WR.SCH_C_NP_NP_MAX n)
      ((s.mtime - t) / 25)

/-- END of the item running on core `n` (R485). -/
def endItem (n : Nat) (s : State) : State :=
  match (s.schCore n).run with
  | none => s
  | some i =>
    let s := (s.npEnd n).addBusy n
    let s := s.modSchCore n fun c => { c with run := none, preempt := false }
    let s := s.traceItem 4 (n + 1) i ((i.ran + (s.mtime - i.start)) / 25)
    let s := if (s.schCore n).res.isNone then s.traceEntry 6 (n + 1) 0 0 false none 0 else s
    (s.evalTask i.task 0).standTouch

/-- NOPREEMPT of core `n` is written (R486). -/
def writeNp (n : Nat) (v : Bool) (s : State) : State :=
  let s := s.wset (WR.SCH_C_CTRL_NOPREEMPT n) (b2n v)
  if v then
    let s := if (s.schCore n).preempt then s.unreserve n else s
    if (s.schCore n).run.isSome ∧ (s.schCore n).np.isNone then
      s.modSchCore n fun c => { c with np := some s.mtime }
    else s
  else s.npEnd n

/-- A write of SCH_Cn_CTRL (R486, R494). -/
def writeCoreCtrl (n v : Nat) (s : State) : State :=
  let s := if s.isOpen then s.wset (WR.SCH_C_CTRL_BC n) (bits 31 16 v) else s
  let s := s.writeNp n (bit 1 v)
  let s := s.wset (WR.SCH_C_CTRL_EN n) (bits 0 0 v)
  if bit 0 v then s else s.unreserve n

/-- A queued or reserved item is discarded (R480, R496). -/
def discardItem (s : State) (i : Item) : State := s.traceItem 10 0 i 0

/-- EN = 0 of a task discards its queued and reserved items (R480). -/
def disableTask (t : Nat) (s : State) : State :=
  if t = 0 then s
  else
    let gone := (s.waiting ++ (s.sch.cores.map fun c => c.res.toList).flatten).filter (·.task == t)
    let s := s.wset (WR.SCH_T_CFG_EN t) 0
    let s := s.modSch fun x => { x with
      chip := x.chip.map fun q => q.filter (·.task != t)
      spill := x.spill.map fun q => q.filter (·.task != t)
      cores := x.cores.map fun c => match c.res with
        | some i => if i.task = t then { c with res := none, preempt := false } else c
        | none => c }
    gone.foldl discardItem s.standTouch

/-- A write of SCH_T_CFG (R475, R480). -/
def writeTaskCfg (t v : Nat) (s : State) : State :=
  let s := s.wsets [(WR.SCH_T_CFG_ALL t, bits 29 29 v), (WR.SCH_T_CFG_FLOW_EN t, bits 28 28 v),
    (WR.SCH_T_CFG_FLOW t, bits 27 16 v)]
  if t = 0 then s.evalTask 0 0
  else
    let s := s.wsets [(WR.SCH_T_CFG_CLASS t, bits 30 30 v), (WR.SCH_T_CFG_PRIO t, bits 15 12 v),
      (WR.SCH_T_CFG_CEIL t, bits 11 8 v), (WR.SCH_T_CFG_CORES t, bits 7 4 v)]
    if bit 31 v then (s.wset (WR.SCH_T_CFG_EN t) 1).evalTask t 0 else s.disableTask t

/-! ### Spill, aging, periodic slots -/

/-- A spilled item moves on chip, or is lost to an uncorrectable word (R487, R489). -/
def refill (l : Nat) (lost : Bool) (s : State) : State :=
  match s.sch.spill.getD l [] with
  | [] => s
  | i :: r =>
    if (s.sch.chip.getD l []).length < 256 then
      let s := s.modSch fun x => { x with spill := x.spill.mapIdx fun k q => if k = l then r else q }
      if lost then
        let s := (((s.unitStand 4 13).wadd WR.SCH_CNT_LOST 1).wset WR.SCH_STATUS_LOST 1).traceItem 11 0 i 0
        let s := if i.isFlag && !i.resume then s.evalTask i.task 0 else s
        if !i.isFlag || i.resume then s.postRecovery (2 + i.task * 2 ^ 16) else s
      else s.modSch fun x => { x with chip := x.chip.mapIdx fun k q => if k = l then q ++ [i] else q }
    else s

/-- The earliest item of a level that is due for an aging step rises one level (R490). -/
def ageStep (l : Nat) (s : State) : State :=
  let age := s.wget WR.SCH_CTRL_AGE_MS * 25000
  let due (i : Item) : Bool := age != 0 && decide (i.entered + age ≤ s.mtime)
    && decide (l < max i.prio (s.taskCeil i.task))
  match (s.levelItems l).find? due with
  | none => s
  | some i =>
    let s := s.modSch fun x => { x with
      chip := x.chip.mapIdx fun k q => if k = l then q.erase i else q
      spill := x.spill.mapIdx fun k q =>
        if k = l then (if (s.sch.chip.getD l []).contains i then q else q.erase i) else q }
    (s.pushTail { i with level := l + 1 }).traceItem 5 0 { i with level := l } (l + 1)

/-- A write of SCH_PER_k_CFG; EN written 1 fixes r_0 at the first whole microsecond after (R491). -/
def writePeriodic (k v : Nat) (s : State) : State :=
  let was := s.won (WR.SCH_PER_CFG_EN k)
  let s := if bit 30 v then s.wset (WR.SCH_PER_CFG_MISS k) 0 else s
  if s.isOpen then
    let s := s.wsets [(WR.SCH_PER_CFG_EN k, bits 31 31 v), (WR.SCH_PER_CFG_TASK k, bits 25 16 v)]
    if bit 31 v && !was then
      s.modSch fun x => { x with perNext := SMap.insert k (s.mtime / 25 + 1) x.perNext }
    else if bit 31 v then s
    else s.modSch fun x => { x with perNext := SMap.erase k x.perNext, perRel := SMap.erase k x.perRel }
  else s

/-- A miss of slot `k` (R492). -/
def countMiss (k core level : Nat) (s : State) : State :=
  ((s.wadd (WR.SCH_PER_CNT_MISSES k) 1).wsets
    [(WR.SCH_PER_CFG_MISS k, 1), (WR.SCH_STATUS_MISS, 1)]).traceEntry 9 core
    (s.wget (WR.SCH_PER_CFG_TASK k)) level false none k

/-- A release of slot `k` (R491, R492). -/
def release (k : Nat) (s : State) : State :=
  match SMap.find k s.sch.perNext with
  | none => s
  | some r =>
    if r * 25 ≤ s.mtime then
      let t := s.wget (WR.SCH_PER_CFG_TASK k)
      let again := bit 31 (s.wget (WR.SCH_T_FLAGS_FLAGS t))
      let s := if again then s.countMiss k 0 0 else s
      let s := (s.wadd (WR.SCH_PER_CNT_RELEASES k) 1).modSch fun x => { x with
        perNext := SMap.insert k (r + max 1 (s.wget (WR.SCH_PER_T_T k))) x.perNext
        perRel := if (SMap.find k x.perRel).isSome then x.perRel else SMap.insert k r x.perRel }
      s.setFlag t 31
    else s

/-- An item has passed the deadline of a release of slot `k` it consumed (R492): counted once. -/
def deadlineMiss (k : Nat) (s : State) : State :=
  let late (i : Item) : Bool := i.rels.any fun p =>
    p.1 == k && decide ((p.2 + max 1 (s.wget (WR.SCH_PER_D_D k))) * 25 < s.mtime)
  if s.items.any late then
    let strip (i : Item) : Item := if late i then { i with rels := i.rels.filter (·.1 != k) } else i
    let s' := s.modSch fun x => { x with
      chip := x.chip.map fun q => q.map strip
      spill := x.spill.map fun q => q.map strip
      cores := x.cores.map fun c => { c with res := c.res.map strip, run := c.run.map strip } }
    s'.countMiss k 0 0
  else s

/-! ### STANDSTILL -/

/-- The event flags that an armed source targets, as (task, flag) (R493). -/
def armedSources (s : State) : List (Nat × Nat) :=
  ((List.range 32).filterMap fun e =>
    if s.won (WR.SCH_ROUTE_EN e) then some (s.wget (WR.SCH_ROUTE_TASK e), s.wget (WR.SCH_ROUTE_FLAG e))
    else none) ++
  ((List.range 16).filterMap fun n =>
    if s.won (WR.Q_CTRL_NOTIFY_EN n) then some (s.wget (WR.Q_CTRL_TASK n), s.wget (WR.Q_CTRL_FLAG n))
    else none) ++
  ((List.range 8).filterMap fun n =>
    if s.won (WR.MER_ALM_CTRL_EN n) && s.wget (WR.MER_ALM_CTRL_KIND n) == 2 then
      some (s.wget (WR.MER_ALM_CTRL_TASK n), s.wget (WR.MER_ALM_CTRL_FLAG n)) else none) ++
  ((List.range 64).filterMap fun k =>
    if s.won (WR.SCH_PER_CFG_EN k) then some (s.wget (WR.SCH_PER_CFG_TASK k), 31) else none) ++
  ((List.range 16).filterMap fun c =>
    if s.won (WR.DMA_EVT_EN c) && s.wget (WR.DMA_STATUS_STATE c) == 1 then
      some (s.wget (WR.DMA_EVT_TASK c), s.wget (WR.DMA_EVT_FLAG c)) else none)

/-- The two conditions of R493 hold. -/
def standing (s : State) : Bool :=
  s.items.isEmpty && !s.armedSources.any fun p =>
    s.taskEn p.1 && bit p.2 (s.wget (WR.SCH_T_MASK_MASK p.1))

/-- STANDSTILL is raised (R493). -/
def standstill (s : State) : State :=
  if s.standing && !s.sch.standDone
      && decide (s.sch.standBreak + max 1 (s.wget WR.SCH_CTRL_STAND_US) * 25 ≤ s.mtime) then
    let s := (s.wset WR.SCH_STATUS_STANDSTILL 1).wadd WR.SCH_CNT_STANDSTILLS 1
    let s := s.traceEntry 8 0 0 0 false none 0
    (s.modSch fun x => { x with standDone := true }).postRecovery 1
  else s

/-! ### Windows and timers -/

/-- The end of a 1 ms or 1 s window: WAIT and LOAD of every core are published (R495). -/
def publish (sec : Bool) (s : State) : State :=
  let len := if sec then 25000000 else 25000
  if s.mtime % len = 0 then
    (List.range 4).foldl (fun s n =>
      let s := s.addBusy n
      let c := s.schCore n
      let w (sum k : Nat) : Nat := if k = 0 then 0 else min 65535 (sum * 2 / (5 * k))
      let l (busy : Nat) : Nat := min 65535 (busy * 65536 / len)
      if sec then
        (s.wsets [(WR.SCH_C_WAIT_WAIT_1S n, w c.waitS c.claimsS), (WR.SCH_C_LOAD_LOAD_1S n, l c.busyS)]).modSchCore
          n fun c => { c with waitS := 0, claimsS := 0, busyS := 0 }
      else
        (s.wsets [(WR.SCH_C_WAIT_WAIT_1MS n, w c.waitMs c.claimsMs), (WR.SCH_C_LOAD_LOAD_1MS n, l c.busyMs)]).modSchCore
          n fun c => { c with waitMs := 0, claimsMs := 0, busyMs := 0 }) s
  else s

/-- mtimecmp of core `n`. -/
def mtimecmp (n : Nat) (s : State) : Nat :=
  s.wget (WR.SCH_C_MTIMECMP_LO_CMP n) + 2 ^ 32 * s.wget (WR.SCH_C_MTIMECMP_HI_CMP n)

/-- Once firmware runs, a core of CC2 to CC4 that still waits in the boot ROM starts at 0x10000000 when its MSIP
bit is set (R644). -/
def msipStart (s : State) : State :=
  if s.sys.fw then
    (List.range 3).foldl (fun s n =>
      if bit (n + 1) (s.wget WR.SCH_MSIP_MSIP) && (s.core (n + 1)).pc == 0 && !(s.core (n + 1)).halted then
        s.modCore (n + 1) fun c => { c with pc := 0x10000000 }
      else s) s
  else s

/-- A write of SCH_MSIP (R473). -/
def writeMsip (v : Nat) (s : State) : State := (s.wset WR.SCH_MSIP_MSIP (bits 4 1 v)).msipStart

/-- MTIP of core `n` follows mtime and mtimecmp (R473). -/
def timerCheck (n : Nat) (s : State) : State :=
  s.modCore n fun c => { c with mtip := decide (s.mtimecmp n ≤ s.mtime) }

end State

/-- SCH_SETFLAG_WRITE (R476). -/
def execSchSetflagWrite (value : Nat) (s : State) : Res :=
  .next <| s.setFlag (bits 24 15 value) (bits 29 25 value)

/-- UNIT_EVENT_ROUTE (R476): the condition of route `e` rises; 32 to 63 never rise. -/
def execUnitEventRoute (e : Nat) (s : State) : Res :=
  if e < 32 ∧ s.won (WR.SCH_ROUTE_EN e) then
    .next <| s.setFlag (s.wget (WR.SCH_ROUTE_TASK e)) (s.wget (WR.SCH_ROUTE_FLAG e))
  else .next s

/-- SCH_POST (R479): a write of SCH_POST_HI. -/
def execSchPost (value : Nat) (s : State) : Res :=
  .next <| s.post (bits 24 15 value) (bits 13 12 value) (bits 11 0 value) (s.wget WR.SCH_POST_LO_ARG)

/-- SCH_RESERVE (R482, R483). -/
def execSchReserve (s : State) : Res := .next s.reserveAll

/-- SCH_NEXT_READ (R484): `core` is 0 for CC1. -/
def execSchNextRead (core : Nat) (s : State) : Res := .next <| s.claim core

/-- SCH_END_WRITE (R485). -/
def execSchEndWrite (core : Nat) (s : State) : Res := .next <| s.endItem core

/-- SCH_NOPREEMPT_WRITE (R486). -/
def execSchNopreemptWrite (core : Nat) (v : Bool) (s : State) : Res := .next <| s.writeNp core v

/-- NP_SPAN_OVER (R486). -/
def execNpSpanOver (core : Nat) (s : State) : Res :=
  match (s.schCore core).np with
  | some t =>
    if t + s.wget (WR.SCH_C_CTRL_BC core) * 25 < s.mtime then
      .next <| s.wsets [(WR.SCH_C_STATE_NP_OVER core, 1), (WR.SCH_STATUS_NP_OVER, 1)]
    else .next s
  | none => .next s

/-- SCH_CORE_CTRL_WRITE (R494). -/
def execSchCoreCtrlWrite (core value : Nat) (s : State) : Res :=
  .next <| s.writeCoreCtrl core value

/-- SCH_TASK_DISABLE (R480). -/
def execSchTaskDisable (task : Nat) (s : State) : Res := .next <| s.disableTask task

/-- SPILL_REFILL (R487, R489): `lost` where the spill word reads uncorrectable. -/
def execSpillRefill (level : Nat) (lost : Bool) (s : State) : Res := .next <| s.refill level lost

/-- ITEM_AGE_STEP (R490). -/
def execItemAgeStep (level : Nat) (s : State) : Res := .next <| s.ageStep level

/-- PERIODIC_SLOT_ENABLE (R491): a write of SCH_PER_k_CFG. -/
def execPeriodicSlotEnable (k value : Nat) (s : State) : Res := .next <| s.writePeriodic k value

/-- PERIODIC_RELEASE (R491, R492). -/
def execPeriodicRelease (k : Nat) (s : State) : Res := .next <| s.release k

/-- DEADLINE_MISS (R492). -/
def execDeadlineMiss (k : Nat) (s : State) : Res := .next <| s.deadlineMiss k

/-- STANDSTILL (R493). -/
def execStandstill (s : State) : Res := .next s.standstill

/-- SCH_TRACE_MARK_WRITE (R496): by agent 1 to 4; the writes of others are ignored. -/
def execSchTraceMarkWrite (agent value : Nat) (s : State) : Res :=
  if 1 ≤ agent ∧ agent ≤ 4 then .next <| s.traceEntry 12 agent 0 0 false none (bits 29 0 value)
  else .next s

/-- MTIME_TIMER_INTERRUPT (R473). -/
def execMtimeTimerInterrupt (core : Nat) (s : State) : Res := .next <| s.timerCheck core

/-- MTIMECMP_WRITE (R473): the low or the high half is written. -/
def execMtimecmpWrite (core : Nat) (hi : Bool) (value : Nat) (s : State) : Res :=
  .next <| (s.wset (if hi then WR.SCH_C_MTIMECMP_HI_CMP core else WR.SCH_C_MTIMECMP_LO_CMP core)
    value).timerCheck core

/-- SCH_MSIP_WRITE (R473, R644). -/
def execSchMsipWrite (value : Nat) (s : State) : Res := .next <| s.writeMsip value

/-- SCH_WINDOW_PUBLISH (R495): of the 1 ms windows, or of the 1 s windows. -/
def execSchWindowPublish (sec : Bool) (s : State) : Res := .next <| s.publish sec

end Sys2Proof.Machine
end

