-- ==== Sys2Proof/Machine/WnQueue.lean ====
section
/-! DEFINITION. Packet queues (spec/10). -/

namespace Sys2Proof.Machine

open Sys2Proof

namespace State

/-- DEPTH, WIDTH, whether the producer waits, fabric domain, lane parity (R335). -/
def qSpec (n : Nat) : Nat × Nat × Bool × Bool × Bool :=
  if n = 0 then (1024, 256, true, true, true)
  else if n = 1 then (2048, 128, true, true, false)
  else if n < 10 then (1024, 128, true, false, false)
  else if n = 12 then (128, 64, false, false, false)
  else if n = 13 then (1024, 64, false, false, false)
  else if n = 15 then (1024, 64, true, false, false)
  else (512, 64, false, false, false)

/-- DEPTH of queue `n`. -/
def qDepth (n : Nat) : Nat := (qSpec n).1

/-- The producer of queue `n` waits. -/
def qWaits (n : Nat) : Bool := (qSpec n).2.2.1

/-- Queue `n` is present (R335). -/
def qHere (n : Nat) (s : State) : Bool :=
  decide (n < 16) && !(s.variant == 2 && (n == 1 || (6 ≤ n && n ≤ 9)))

/-- Queue `n`. -/
def queue (n : Nat) (s : State) : Queue := SMap.getD Queue.empty n s.queues

/-- Staged mode. -/
def staged (n : Nat) (s : State) : Bool := s.won (WR.Q_CTRL_STAGED n)

/-- The words of queue `n` that its consumer sees (R344, R347). -/
def qVisible (n : Nat) (s : State) : Nat :=
  if s.staged n then (s.queue n).visible else (s.queue n).words.length

/-- PKTS (R344, R347). -/
def qPkts (n : Nat) (s : State) : Nat :=
  (((s.queue n).words.take (s.qVisible n)).filter (·.eop)).length

/-- FULL (R339). -/
def qFull (n : Nat) (q : Queue) : Bool := decide (qDepth n - 1 ≤ q.words.length)

/-- Store queue `n` and what its registers show: EMPTY, FULL, OPEN, DISCARDING, WORDS, VISIBLE, PKTS
and HWM; PKTS rising from 0 notifies (R339, R343, R344, Qn_CTRL). -/
def putQueue (n : Nat) (q : Queue) (s : State) : State :=
  let before := s.qPkts n
  let s := { s with queues := SMap.insert n q s.queues }
  let s := s.wsets [(WR.Q_STATUS_EMPTY n, b2n q.words.isEmpty), (WR.Q_STATUS_FULL n, b2n (qFull n q)),
    (WR.Q_STATUS_OPEN n, b2n q.inPacket), (WR.Q_STATUS_DISCARDING n, b2n q.discard),
    (WR.Q_LEVEL_WORDS n, q.words.length), (WR.Q_VIS_VISIBLE n, s.qVisible n),
    (WR.Q_LEVEL_PKTS n, s.qPkts n)]
  let s := s.wraise (WR.Q_VIS_HWM n) q.words.length
  if before = 0 ∧ 0 < s.qPkts n ∧ s.won (WR.Q_CTRL_NOTIFY_EN n) then
    s.setFlag (s.wget (WR.Q_CTRL_TASK n)) (s.wget (WR.Q_CTRL_FLAG n))
  else s

/-- An overrun of a queue; of queue 12 it is a loss on CAN (R339, R579). -/
def qOverrun (n : Nat) (s : State) : State :=
  let s := s.wset (WR.Q_STATUS_OVERRUN n) 1
  if n = 12 then ((s.wset WR.CAN_STATUS_RX_OVF 1).wadd WR.CAN_CNT_RX_LOST 1).emcy 0x8110 else s

/-- The packet in progress is rewound in staged mode (R348, R349). -/
def qRewind (n : Nat) (eop : Bool) (q : Queue) (s : State) : State :=
  (s.wadd (WR.Q_LOSS_REWOUND n) 1).putQueue n { q with
    words := q.words.take q.visible, packet := 0, inPacket := !eop, discard := !eop }

/-- A word is offered to a queue in staged mode (R347–R349). -/
def offerStaged (n data : Nat) (eop bad : Bool) (q : Queue) (s : State) : State :=
  if qFull n q then
    if qWaits n && q.visible != 0 then
      s.putQueue n { q with held := q.held ++ [⟨data, eop, bad⟩] }
    else (s.qOverrun n).qRewind n eop q
  else if eop && bad then s.qRewind n true q
  else
    let words := q.words ++ [⟨data, eop, false⟩]
    s.putQueue n { q with
      words := words
      visible := if eop then words.length else q.visible
      packet := if eop then 0 else q.packet + 1
      inPacket := !eop }

/-- A word is offered to a queue in normal service (R340–R345). -/
def offerNormal (n data : Nat) (eop bad : Bool) (q : Queue) (s : State) : State :=
  if qFull n q then
    if qWaits n then s.putQueue n { q with held := q.held ++ [⟨data, eop, bad⟩] }
    else
      let s := s.qOverrun n
      if q.packet = 0 then
        (s.wadd (WR.Q_LOSS_DROPPED n) 1).putQueue n { q with discard := !eop, inPacket := !eop }
      else
        (s.wadd (WR.Q_LOSS_BROKEN n) 1).putQueue n { q with
          words := q.words ++ [⟨0, true, true⟩], packet := 0, discard := !eop, inPacket := !eop }
  else
    let s := s.wcountIf (eop && bad) (WR.Q_LOSS_BROKEN n)
    let words := q.words ++ [⟨data, eop, eop && bad⟩]
    s.putQueue n { q with
      words := words, visible := words.length
      packet := if eop then 0 else q.packet + 1
      inPacket := !eop }

/-- A producer offers a word (R340–R349). -/
def offer (n data : Nat) (eop bad : Bool) (s : State) : State :=
  let q := s.queue n
  if !s.qHere n then s
  else if q.discard then
    if eop then s.putQueue n { q with discard := false, inPacket := false } else s
  else if !q.held.isEmpty then s.putQueue n { q with held := q.held ++ [⟨data, eop, bad⟩] }
  else if s.staged n then s.offerStaged n data eop bad q
  else s.offerNormal n data eop bad q

/-- A packet is offered word by word; its last word carries EOP, and BAD where it is declared bad. -/
def offerPacket (n : Nat) (bad : Bool) : List Nat → State → State
  | [], s => s
  | [w], s => s.offer n w true bad
  | w :: r, s => offerPacket n bad r (s.offer n w false false)

/-- A waiting producer goes on as room frees (R340). -/
def offerHeld (n : Nat) (s : State) : State :=
  let q := s.queue n
  match q.held with
  | [] => s
  | w :: r =>
    if qFull n q then s
    else ({ s with queues := SMap.insert n { q with held := [] } s.queues }.offer n w.data w.eop
      w.broken) |> fun s =>
        { s with queues := SMap.insert n { s.queue n with held := (s.queue n).held ++ r } s.queues }

/-- A read of the head word: the word and its POISON tag; `err` is 0 clean, 1 corrected, 2
uncorrectable (R344, R350, R354, R355). -/
def pop (n err : Nat) (s : State) : Option QWord × Bool × State :=
  let q := s.queue n
  match q.words with
  | [] => (none, false, s)
  | w :: r =>
    if s.qVisible n = 0 then (none, false, s)
    else
      let poison := err == 2 || (n == 0 && err != 0)
      let s := if poison then
          (s.wadd (WR.Q_ERR_UNCORR n) 1).wset (WR.Q_STATUS_POISON_SEEN n) 1
        else s.wcountIf (err == 1) (WR.Q_ERR_CORR n)
      let s := s.putQueue n { q with
        words := r
        visible := q.visible - 1
        packet := if s.staged n then q.packet else min q.packet r.length }
      (some w, poison, s.offerHeld n)

/-- FLUSH (R351): every word goes; a packet in progress counts once in DROPPED and its remaining
words are ignored. -/
def flush (n : Nat) (s : State) : State :=
  let q := s.queue n
  let open' := q.inPacket && !q.discard
  (s.wcountIf open' (WR.Q_LOSS_DROPPED n)).putQueue n
    { Queue.empty with inPacket := q.inPacket, discard := q.inPacket }

/-- A write of Qn_CTRL.STAGED (R352). -/
def writeStaged (n : Nat) (v : Bool) (s : State) : State :=
  let q := s.queue n
  if b2n v = s.wget (WR.Q_CTRL_STAGED n) then s
  else if q.words.isEmpty && !q.inPacket then (s.wset (WR.Q_CTRL_STAGED n) (b2n v)).putQueue n q
  else s.wset (WR.Q_STATUS_WR_IGNORED n) 1

/-- A write of Qn_CTRL (R351, R352). -/
def writeQCtrl (n v : Nat) (s : State) : State :=
  if !s.qHere n then s
  else
    let s := s.wsets [(WR.Q_CTRL_NOTIFY_EN n, bits 31 31 v), (WR.Q_CTRL_FLAG n, bits 29 25 v),
      (WR.Q_CTRL_TASK n, bits 24 15 v), (WR.Q_CTRL_KEEP_STAGED n, bits 2 2 v)]
    let s := if bit 1 v then s.flush n else s
    s.writeStaged n (bit 0 v)

/-- Entry to RUNNING (R353): queues not kept staged are flushed and put in normal service. -/
def queuesRun (s : State) : State :=
  (List.range 16).foldl (fun s n =>
    if s.qHere n && !s.won (WR.Q_CTRL_KEEP_STAGED n) then
      let s := (s.flush n).wset (WR.Q_CTRL_STAGED n) 0
      s.putQueue n (s.queue n)
    else s) s

/-- Entry to SELF_TEST or HELD (R353): every queue is flushed and staged. -/
def queuesStage (s : State) : State :=
  (List.range 16).foldl (fun s n =>
    if s.qHere n then
      let s := (s.flush n).wset (WR.Q_CTRL_STAGED n) 1
      s.putQueue n (s.queue n)
    else s) s

/-- The head word shown in Qn_DATA_HI and Qn_TAG, as a read of Qn_DATA_LO latches it (R357). -/
def latchHead (n : Nat) (w : Option QWord) (poison : Bool) (s : State) : State :=
  match w with
  | some w => s.wsets [(WR.Q_DATA_LO_DATA n, w.data), (WR.Q_DATA_HI_DATA n, w.data / 2 ^ 32),
      (WR.Q_TAG_VALID n, 1), (WR.Q_TAG_EOP n, b2n w.eop), (WR.Q_TAG_BROKEN n, b2n w.broken),
      (WR.Q_TAG_POISON n, b2n poison)]
  | none => s.wsets [(WR.Q_DATA_LO_DATA n, 0), (WR.Q_DATA_HI_DATA n, 0), (WR.Q_TAG_VALID n, 0),
      (WR.Q_TAG_EOP n, 0), (WR.Q_TAG_BROKEN n, 0), (WR.Q_TAG_POISON n, 0)]

/-- A read of Qn_DATA_LO at the normal address: queue 10 gives up its head word (R357). -/
def readQData (n err : Nat) (s : State) : State :=
  if n = 10 then
    let (w, poison, s) := s.pop 10 err
    s.latchHead 10 w poison
  else s

/-- A read of Qn_DATA_LO through the quiet alias: the head word of queues 10 to 15 stays (R357). -/
def peekQData (n : Nat) (s : State) : State :=
  if 10 ≤ n ∧ n < 16 then
    s.latchHead n (if s.qVisible n = 0 then none else (s.queue n).words.head?) false
  else s

end State

/-- QUEUE_WRITE (R340–R349): the producer of queue `n` offers a word with EOP and BAD. -/
def execQueueWrite (n data : Nat) (eop bad : Bool) (s : State) : Res :=
  .next <| s.offer n data eop bad

/-- QUEUE_READ (R344, R354, R355): the consumer takes the head word, which leaves with its tags; on
queue 10 firmware finds it in the data registers. -/
def execQueueRead (n err : Nat) (s : State) : Res :=
  if n = 10 then .next <| s.readQData 10 err
  else if s.qHere n then
    let (w, poison, s) := s.pop n err
    match w with
    | some w => .next <| s.emit (.word n w.data w.eop w.broken poison)
    | none => .next s
  else .next s

/-- QUEUE_FLUSH (R351). -/
def execQueueFlush (n : Nat) (s : State) : Res :=
  .next <| if s.qHere n then s.flush n else s

/-- QUEUE_STAGED_WRITE (R352). -/
def execQueueStagedWrite (n : Nat) (v : Bool) (s : State) : Res :=
  .next <| if s.qHere n then s.writeStaged n v else s

/-- Q_WTAG_WRITE (R357): Q14_WTAG offers WDATA; on every other queue the write is ignored. -/
def execQWtagWrite (n value : Nat) (s : State) : Res :=
  if n = 14 then
    .next <| s.offer 14 (s.wget (WR.Q_WDATA_LO_WDATA 14) + 2 ^ 32 * s.wget (WR.Q_WDATA_HI_WDATA 14))
      (bit 0 value) (bit 1 value)
  else .next s

end Sys2Proof.Machine
end

