-- ==== Sys2Proof/Machine/WnPairOps.lean ====
section
/-! DEFINITION. What the other units of Wonan ask of the pair agent (spec/17 R539, R545, R547, R553,
R558, R564). -/

namespace Sys2Proof.Machine

open Sys2Proof

namespace State

/-- Paired operation is in force (R539). -/
def pairOn (s : State) : Bool := s.won WR.PAIR_CFG_EN

/-- Side B of a pair (R539). -/
def sideB (s : State) : Bool := s.pairOn && s.won WR.PAIR_CFG_SIDE

/-- PAIR_STATUS.STATE: 0 OFF, 1 ALONE, 2 JOINING, 3 IN_STEP (R558). -/
def pairState (s : State) : Nat := s.wget WR.PAIR_STATUS_STATE

/-- IN_STEP. -/
def inStep (s : State) : Bool := s.pairOn && s.pairState == 3

/-- The time lead (R545). -/
def isLead (s : State) : Bool := s.won WR.PAIR_CFG_LEAD_B == s.won WR.PAIR_CFG_SIDE

/-- The unit holds a port: its Tladon obeys this unit's downlink (R547). -/
def holds (p : Nat) (s : State) : Bool := !s.won (WR.ING_PORT_STATUS_REMOTE p)

/-- The partner holds a port (R548). -/
def partnerHolds (p : Nat) (s : State) : Bool := s.pairOn && !s.holds p

/-- PAIR_CFG.DWIN in ticks; 0 acts as 1. -/
def dwin (s : State) : Nat := max 1 (s.wget WR.PAIR_CFG_DWIN) * Config.usTicks

/-- Change the pair agent. -/
def modPair (f : Pair → Pair) (s : State) : State := { s with pair := f s.pair }

/-- The bytes of payload words, most significant first (R553). -/
def wordBytes (ws : List Nat) : List Nat := (ws.map fun w => beBytes 8 w).flatten

/-- A message leaves on the pair link (R553); in HALTED_FATAL only heartbeats do (R650). -/
def plSend (code src : Nat) (ws : List Nat) (s : State) : State :=
  if s.pairOn && (s.ws != 6 || code == 1) then
    let h := pack [(63, 56, code), (55, 52, ws.length), (51, 36, s.pair.mseq), (35, 34, src),
      (31, 0, crc32c (wordBytes ws))]
    (s.modPair fun a => { a with mseq := (a.mseq + 1) % 65536 }).emit (.pl (h :: ws))
  else s

/-- PAIR_CLAIM; 0 acts as 2 − SIDE (R564). -/
def ownClaim (s : State) : Nat :=
  let c := s.wget WR.PAIR_CLAIM_CLAIM
  if c = 0 then 2 - s.wget WR.PAIR_CFG_SIDE else c

/-- The claim that Wonan sends (R558, R564, R650). -/
def claimSent (s : State) : Nat :=
  if s.ws = 6 then 0
  else if s.pairState = 0 ∨ s.pairState = 3 then s.ownClaim
  else if s.pairState = 1 ∧ s.isRun then s.ownClaim
  else 0

/-- The Wonan state of the partner's latest HEARTBEAT shows RUNNING or DEGRADED. -/
def partnerRuns (s : State) : Bool :=
  s.won WR.PAIR_STATUS_PARTNER &&
    (s.wget WR.PAIR_STATUS_P_WSTATE == 4 || s.wget WR.PAIR_STATUS_P_WSTATE == 5)

/-- Digests of a sequence number differ (R562). -/
def diverge (seq : Nat) (s : State) : State :=
  let s := if s.won WR.PAIR_STATUS_DIVERGE then s
    else s.wsets [(WR.PAIR_STATUS_DIVERGE, 1), (WR.PAIR_DIV_FIRST_LO_SEQ, seq),
      (WR.PAIR_DIV_FIRST_HI_SEQ, seq / 2 ^ 32)] |>.emcy 0xFF02
  (s.wsets [(WR.PAIR_DIV_LAST_LO_SEQ, seq), (WR.PAIR_DIV_LAST_HI_SEQ, seq / 2 ^ 32)]).wadd
    WR.PAIR_DIG_CNT_DIVERGED 1

/-- A digest, own or the partner's, meets the table of 4,096 entries (R562). -/
def digestEnter (seq dig : Nat) (partner : Bool) (s : State) : State :=
  match s.pair.digs.find? fun e => e.seq == seq && e.partner != partner with
  | some e =>
    let s := s.modPair fun a => { a with digs := a.digs.erase e }
    if e.dig = dig then s.wadd WR.PAIR_MATCHED_MATCHED 1 else s.diverge seq
  | none =>
    let all := s.pair.digs ++ [⟨seq, dig, partner, s.now⟩]
    if 4096 < all.length then
      (s.modPair fun a => { a with digs := all.drop 1 }).wadd WR.PAIR_DIG_CNT_UNCHECKED 1
    else s.modPair fun a => { a with digs := all }

/-- The ticks by which the pair-link delay and 1 µs must stay within DWIN (R551). -/
def dwinShort (s : State) : Bool := decide (s.dwin < s.wget WR.PAIR_PL_DELAY_DELAY + Config.usTicks)

/-- The join of a unit in JOINING that has not sent its REQUEST, judged on the partner's latest HEARTBEAT
(R539, R542, R551, R560): JOIN REQUEST, or JOIN_REFUSED with the failing flags. -/
def joinTry (s : State) : State :=
  if s.pairState = 2 ∧ s.pair.join = 0 ∧ s.partnerRuns
      ∧ (s.wget WR.PAIR_STATUS_P_PSTATE = 1 ∨ s.wget WR.PAIR_STATUS_P_PSTATE = 3) then
    let w0 := s.pair.hb.getD 0 0
    let w2 := s.pair.hb.getD 2 0
    let cfg := bits 55 55 w0 == s.wget WR.PAIR_CFG_SIDE || bits 54 54 w0 != s.wget WR.PAIR_CFG_LEAD_B
    let img := bits 63 32 w2 != s.pair.imgDigest
    let walk := bits 31 0 w2 != s.pair.walkCrc
    let s := (([(WR.PAIR_STATUS_CFG_MISMATCH, cfg), (WR.PAIR_STATUS_IMG_MISMATCH, img),
      (WR.PAIR_STATUS_WALK_MISMATCH, walk), (WR.PAIR_STATUS_DWIN_SHORT, s.dwinShort)].filter (·.2)).foldl
        (fun s x => s.wset x.1 1) s)
    if cfg || img || walk || s.dwinShort then s.wset WR.PAIR_STATUS_JOIN_REFUSED 1
    else (s.plSend 0x07 0 [0, 0]).modPair fun a => { a with join := 1 }
  else s

/-- A declaration of the image in use, or its default (R424). -/
def decl (id index dflt : Nat) (s : State) : Nat :=
  match s.image with
  | none => dflt
  | some i => ((i.decl.find? fun d => d.1 == id && d.2.1 == index).map (·.2.2)).getD dflt

/-- The TPORT section of a port in the image in use (R423). -/
def tport (p : Nat) (s : State) : Option TPort :=
  match s.image with
  | none => none
  | some i => i.tports.find? fun t => t.port == p

end State

end Sys2Proof.Machine
end

