-- ==== Sys2Proof/Machine/WnTime.lean ====
section
/-! DEFINITION. The Meridian clock, its sources, the transmit time-stamp queue and PPS (spec/02 R58–R60,
spec/03 R68–R108). -/

namespace Sys2Proof.Machine

open Sys2Proof

namespace State

/-- Change Meridian. -/
def modMer (f : Mer → Mer) (s : State) : State := { s with mer := f s.mer }

/-! ### Rate and slew (R70–R74) -/

/-- FREQ in Hz. -/
def freq (s : State) : Nat := s.wget WR.MER_DATUM_CFG_FREQ

/-- P of the MERIDIAN source: the span of one tick in units of 2^-32 ns (R58). -/
def pNom (s : State) : Nat := (divRound (2 ^ 32 * 1000000000) (32 * s.freq : Nat)).toNat

/-- The TRIGGER source drives the Datum (R34). -/
def trigger (s : State) : Bool := s.won WR.MER_DATUM_CFG_DATUM_SRC

/-- 1×10^-7 in steps of 2^-48, rounded down: ρ moves by at most this per frame (R72). -/
def rampStep : Int := 28147497

/-- 200×10^-6 in steps of 2^-48, rounded down (R71). -/
def rhoMax : Int := 56294995342

/-- An integer limited to [-m, m]. -/
def clampAbs (m v : Int) : Int := max (-m) (min m v)

/-- SLEW_MAX in steps of 2^-48 (R74). -/
def slewMax (s : State) : Int :=
  (max 1 (min 100 (s.wget WR.MER_CTRL_SLEW_MAX)) : Nat) * (2 ^ 48 : Int) / 1000000

/-- The sum of the slew term over the frames of a ramp from `e` down to zero, after the present frame. -/
def slewTail (e : Int) : Int :=
  let n := e / rampStep
  n * e - rampStep * (n * (n + 1) / 2)

/-- The largest slew below `lo + 2 ^ n` for which one frame and the ramp that follows it stay within the
remainder `m`, in units of 2^-64 ns per unit of P (R74). -/
def slewFit (m p : Int) : Nat → Int → Int
  | 0, lo => lo
  | n + 1, lo =>
    let e := lo + (2 ^ n : Nat)
    if (e + slewTail e) * p ≤ m then slewFit m p n e else slewFit m p n lo

/-- The slew term of the next frame (R71, R72, R74): towards ±SLEW_MAX while the remainder is not zero,
down early enough that the remainder ends at zero. -/
def nextSlew (s : State) : Int :=
  let g := s.mer
  let room := max 0 (rhoMax - max g.rateT g.rateE)
  let below := max 0 (rhoMax + min g.rateT g.rateE)
  let want : Int :=
    if g.cancel || g.rem == 0 then 0
    else
      let fit := min (slewFit (g.rem.natAbs * (2 ^ 48 : Int)) s.pNom 35 0) s.slewMax
      if 0 < g.rem then min fit room else -(min fit below)
  g.slewE + clampAbs rampStep (want - g.slewE)

/-- Leave a remainder as MER_ADJ_REM reads it. -/
def showRem (s : State) : State := s.wset WR.MER_ADJ_REM_REM (unsigned 32 s.mer.rem)

/-- The slew of the frame that ends is taken from the remainder (R74). -/
def slewAccount (s : State) : State :=
  let g := s.mer
  if g.slewE = 0 || g.cancel then s
  else
    let total := g.slewE * s.pNom + g.carry
    let rem := g.rem - total.tdiv (2 ^ 48)
    let ended := rem.natAbs ≤ 1 && decide ((g.slewE.natAbs : Int) ≤ rampStep)
    s.modMer fun g => { g with
      rem := if ended then 0 else rem
      carry := if ended then 0 else total.tmod (2 ^ 48) }

/-- ρ moves towards its target by at most 1×10^-7: first the slew term, then the rate term (R72). -/
def ramp (s : State) : State :=
  let e := s.nextSlew
  let left := rampStep - ((e - s.mer.slewE).natAbs : Int)
  let s := s.modMer fun g => { g with
    slewE := e
    cancel := g.cancel && e != 0
    rateE := g.rateE + clampAbs left (g.rateT - g.rateE) }
  s.wset WR.MER_STATUS_SLEWING (b2n (e != 0))

/-! ### The frame boundary (R59, R60, R70–R77) -/

/-- HOLDOVER (R79). -/
def inHoldover (s : State) : Bool := s.wget WR.MER_STATUS_STATE == 4

/-- Latch the anchor of the frame that begins (R59): `span` is the Meridian span of the frame that ends,
in units of 2^-16 ns, as measured in the TRIGGER source. -/
def latchAnchor (span : Nat) (s : State) : State :=
  let a := s.anchorNow
  let k := s.wframe
  let p := if s.trigger then span else s.pNom
  let t := timeAdd a.time (if s.trigger then span + (k - a.frame - 1) * a.p else (k - a.frame) * a.p : Nat)
  s.modMer fun g => { g with
    anchors := (⟨k, t, p, false, s.inHoldover⟩ ::
      (match g.anchors with
        | [] => []
        | b :: r => { b with p := if s.trigger then span else b.p } :: r)).take 1024 }

/-- The lead of a pair sends the anchor of the frame (R545). -/
def sendAnchor (s : State) : State :=
  if s.pairOn && s.isLead then
    let a := s.anchorNow
    s.plSend 0x03 0 [a.frame % 2 ^ 64, timeSec a.time,
      pack [(63, 32, timeNs a.time), (31, 16, a.time % 65536), (15, 15, b2n a.hold),
        (14, 14, b2n a.step)]]
  else s

/-- Two anchors of a frame differ by more than 200 ps (R546). -/
def anchorSplit (a b : Nat) : Bool := decide (131072 < 10 * ((a : Int) - b).natAbs)

/-- A received anchor of the frame meets the own one (R546). -/
def checkSplit (s : State) : State :=
  let a := s.anchorNow
  match s.pair.anchors.find? fun x => x.1 == a.frame with
  | some x => if anchorSplit x.2.1 a.time then s.wset WR.PAIR_STATUS_TIME_SPLIT 1 else s
  | none => s

/-- A Wonan frame boundary that has not been latched (R59, R70, R72–R74, R81): in the PTP_SYNCE and REF
sources the hardware loop sets the rate term (R73). -/
def frameBoundary (span meas : Nat) (loop : Option Int) (s : State) : State :=
  let s := s.latchAnchor span
  let s := s.wset WR.MER_DATUM_MEAS_FREQ meas
  let s := if s.inHoldover then s
    else
      let src := s.wget WR.MER_CTRL_SRC
      let s := match loop with
        | some r => if src = 2 ∨ src = 3 then s.modMer fun g => { g with rateT := clampAbs rhoMax r } else s
        | none => s
      (s.slewAccount.ramp).showRem
  s.checkSplit.sendAnchor

/-- The tick is a frame boundary whose anchor is still to be latched. -/
def boundaryDue (s : State) : Bool := s.tick % 65536 == 0 && decide (s.anchorNow.frame < s.wframe)

/-! ### Alarm targets (R102) -/

/-- The Meridian time of an alarm's target. -/
def almTarget (n : Nat) (s : State) : Nat :=
  ((s.mer.almHi.getD n 0 * 2 ^ 32 + s.wget (WR.MER_ALM_SEC_SEC n)) * 1000000000
    + s.wget (WR.MER_ALM_NS_NS n)) * 65536

/-- Change the late mark of an alarm. -/
def setLate (n : Nat) (v : Bool) (s : State) : State :=
  s.modMer fun g => { g with almLate := g.almLate.mapIdx fun i b => if i = n then v else b }

/-- The pending step takes effect at the boundary whose anchor was latched (R60, R75, R77); a forward
step carries the time over targets, which then fire late (R105). -/
def applyStep (s : State) : State :=
  match s.mer.step, s.mer.anchors with
  | some d, a :: r =>
    let t := timeAdd a.time d
    let s := s.modMer fun g => { g with
      step := none, anchors := { a with time := t, step := true } :: r, lastStep := some a.frame }
    let s := s.wsets [(WR.MER_STATUS_STEP_DONE, 1), (WR.MER_STATUS_TIME_VALID, 1)]
    (List.range 8).foldl (fun s n =>
      if s.won (WR.MER_ALM_CTRL_EN n) then
        let x := s.almTarget n
        if a.time < x ∧ x ≤ t then s.setLate n true
        else if t < x then s.setLate n false
        else s
      else s) s
  | _, _ => s

/-! ### Conversion of stamps (R58, R59) -/

/-- The anchor of a Wonan frame (R59): older than the oldest retained one by its P, coming from the
newest. -/
def anchorOf (k : Int) (s : State) : Anchor :=
  match s.mer.anchors.find? fun a => (a.frame : Int) == k with
  | some a => a
  | none =>
    let n := s.anchorNow
    if (n.frame : Int) < k then
      { n with frame := k.toNat, step := false, time := timeAdd n.time ((k - n.frame) * n.p) }
    else
      let o := s.mer.anchors.getLastD n
      { o with frame := k.toNat, step := false, time := timeAdd o.time (-((o.frame - k) * o.p)) }

/-- The Meridian time of a Wonan time `w` in units of 2^-8 fine bin (R58). -/
def stampOf (w : Int) (s : State) : Nat :=
  let k := w / 2 ^ 32
  let a := s.anchorOf k
  timeAdd a.time (((w - k * 2 ^ 32) * a.p + 2 ^ 31) / 2 ^ 32)

/-- A stamp of a Wonan frame is converted from before the last step with the oldest anchor (R59). -/
def oldStep (k : Int) (s : State) : Bool :=
  match s.mer.lastStep with
  | some f => decide (k < (f : Int)) && decide (k < ((s.mer.anchors.getLastD s.anchorNow).frame : Int))
  | none => false

/-! ### Sources and clock states (R79–R90) -/

/-- SRC. -/
def merSrc (s : State) : Nat := s.wget WR.MER_CTRL_SRC

/-- ACQUIRING or LOCKED. -/
def tracking (s : State) : Bool := s.wget WR.MER_STATUS_STATE == 1 || s.wget WR.MER_STATUS_STATE == 2

/-- A loss condition of the source persists (R82, R84). -/
def lossPersists (s : State) : Bool :=
  let g := s.mer
  match s.merSrc with
  | 1 => g.lostSync
  | 2 => g.lostSync || g.lostFreq
  | 3 => g.lostFreq || g.lostPps
  | _ => false

/-- Set STATE with HOLDOVER. -/
def setMerState (n : Nat) (s : State) : State :=
  s.wsets [(WR.MER_STATUS_STATE, n), (WR.MER_STATUS_HOLDOVER, b2n (n == 4))]

/-- Entry to HOLDOVER (R81, R83): the frame in progress counts as held. -/
def enterMerHoldover (s : State) : State :=
  (s.setMerState 4).modMer fun g => { g with
    anchors := match g.anchors with
      | [] => []
      | a :: r => { a with hold := true } :: r }

/-- Leaving HOLDOVER: the remaining adjustment reads zero and the slew term ramps to zero (R82). -/
def leaveMerHoldover (s : State) : State :=
  if s.inHoldover then
    (s.modMer fun g => { g with rem := 0, carry := 0, cancel := g.slewE != 0 }).showRem
  else s

/-- Entry to ACQUIRING: every loss condition is unarmed (R79, R80). -/
def enterAcquiring (s : State) : State :=
  (s.leaveMerHoldover.setMerState 1).modMer fun g => { g with
    armSync := false, armFreq := false, armPps := false }

/-- The Sync timeout of R85 in ticks. -/
def syncLimit (s : State) : Nat :=
  let n := max 2 (s.wget WR.MER_PTP_CTRL_SYNC_TMO)
  let l := signed 4 (s.wget WR.MER_PTP_CTRL_LOG_SYNC)
  if 0 ≤ l then n * Config.secTicks * 2 ^ l.toNat else n * Config.secTicks / 2 ^ (-l).toNat

/-- A Sync message from the committed parent arrives (R80, R85). -/
def syncArrives (s : State) : State :=
  s.modMer fun g => { g with
    lastSync := some s.now, lostSync := false, armSync := g.armSync || s.tracking }

/-- The loss of the source of a condition, with its flag (R80, R81, R88). -/
def loss (flag : Fld) (mine armed : Bool) (s : State) : State :=
  let s := s.wset flag 1
  if mine && armed && s.tracking then s.enterMerHoldover else s

/-- A write of SRC (R79, R84), obeyed in HELD and ADMITTED. -/
def writeSrc (v : Nat) (s : State) : State :=
  if !s.isOpen || 4 ≤ v || v == s.merSrc then s
  else
    let s := s.wset WR.MER_CTRL_SRC v
    if v = 0 then (s.leaveMerHoldover).setMerState 0 else s.enterAcquiring

/-- STEP (R75, R77): the offset of the step registers is added to a pending step. -/
def writeStep (s : State) : State :=
  let sec := signed 48 (s.wget WR.MER_STEP_SEC_LO_SEC_LO + 2 ^ 32 * s.wget WR.MER_STEP_SEC_HI_SEC_HI)
  let d := (sec * 1000000000 + signed 32 (s.wget WR.MER_STEP_NS_NS)) * 65536
    + (s.wget WR.MER_STEP_FRAC_FRAC : Nat)
  s.modMer fun g => { g with step := some (g.step.getD 0 + d) }

/-- ADJ_CANCEL (R74). -/
def adjCancel (s : State) : State :=
  if s.inHoldover then s
  else (s.modMer fun g => { g with rem := 0, carry := 0, cancel := g.slewE != 0 }).showRem

/-- RELOCK (R82). -/
def relock (s : State) : State :=
  if s.inHoldover && !s.lossPersists then s.enterAcquiring else s

/-- LOCK (R79). -/
def lock (s : State) : State :=
  if s.wget WR.MER_STATUS_STATE == 1 && s.timeValid && !s.lossPersists then s.setMerState 2 else s

/-- A write of MER_CTRL (R74, R75, R79, R82). -/
def writeMerCtrl (v : Nat) (s : State) : State :=
  let s := s.wset WR.MER_CTRL_SLEW_MAX (bits 31 24 v)
  let s := s.writeSrc (bits 2 0 v)
  let s := if bit 9 v then s.writeStep else s
  let s := if bit 8 v then s.adjCancel else s
  let s := if bit 10 v then s.relock else s
  if bit 11 v then s.lock else s

/-- A write of MER_RATE_HI commits the rate term (R71, R73, R81). -/
def writeRateHi (v : Nat) (s : State) : State :=
  if s.inHoldover || s.merSrc == 2 || s.merSrc == 3 then s
  else s.modMer fun g => { g with rateT := clampAbs rhoMax (signed 48 (g.rateLo + 2 ^ 32 * v)) }

/-- A write of MER_ADJ (R74, R81). -/
def writeAdj (v : Nat) (s : State) : State :=
  if s.inHoldover then s
  else (s.modMer fun g => { g with rem := g.rem + signed 32 v, cancel := false }).showRem

/-- A write of MER_STEP_NS (R76). -/
def writeStepNs (v : Nat) (s : State) : State :=
  if (signed 32 v).natAbs < 1000000000 then s.wset WR.MER_STEP_NS_NS v else s

/-- A write of MER_DATUM_CFG: FREQ outside its range is ignored. -/
def writeDatumCfg (v : Nat) (s : State) : State :=
  if s.isOpen then
    let f := bits 25 0 v
    let s := s.wset WR.MER_DATUM_CFG_DATUM_SRC (bits 31 31 v)
    if 38000000 ≤ f ∧ f ≤ 42000000 then s.wset WR.MER_DATUM_CFG_FREQ f else s
  else s

/-- A write of MER_PTP_PARENT_PORT commits the parent identity (R80, R86). -/
def commitParent (v : Nat) (s : State) : State :=
  let s := s.wset WR.MER_PTP_PARENT_PORT_PORT v
  let id := (s.wget WR.MER_PTP_PARENT_HI_ID_HI * 2 ^ 32 + s.wget WR.MER_PTP_PARENT_LO_ID_LO) * 65536
    + s.wget WR.MER_PTP_PARENT_PORT_PORT
  if id = s.mer.parent then s
  else
    let s := s.modMer fun g => { g with parent := id }
    if (s.merSrc == 1 || s.merSrc == 2) && s.tracking && s.mer.armSync then
      (s.wset WR.MER_STATUS_PARENT_CHANGE 1).enterMerHoldover
    else s

/-! ### Transmit time stamps (R96–R100) -/

/-- The age limit in ticks. -/
def txAge (s : State) : Nat := max 1 (s.wget WR.MER_TXTS_CTRL_AGE) * Config.msTicks

/-- Show DEPTH. -/
def showTx (s : State) : State := s.wset WR.MER_TXTS_CNT_DEPTH s.mer.txts.length

/-- Age-out (R98). -/
def txAgeOut (s : State) : State :=
  let keep := s.mer.txts.filter fun x => decide (s.now < x.arrived + s.txAge)
  let n := s.mer.txts.length - keep.length
  if n = 0 then s
  else (((s.modMer fun g => { g with txts := keep }).wset WR.MER_STATUS_QUEUE_OVF 1).wadd
    WR.MER_TXTS_CNT_AGED n).showTx

/-- A stamp arrives (R96, R99, R100). -/
def txArrive (x : TxStamp) (s : State) : State :=
  let s := s.txAgeOut
  if s.mer.txts.length < 16 then (s.modMer fun g => { g with txts := g.txts ++ [x] }).showTx
  else (s.wset WR.MER_STATUS_QUEUE_OVF 1).wadd WR.MER_TXTS_CNT_DROPPED 1

/-- The head entry as MER_TXTS_ID reads it. -/
def txHead (s : State) : State :=
  match s.mer.txts with
  | [] => s.wsets [(WR.MER_TXTS_ID_VALID, 0), (WR.MER_TXTS_ID_PORT, 0), (WR.MER_TXTS_ID_ID, 0)]
  | x :: _ => s.wsets [(WR.MER_TXTS_ID_VALID, 1), (WR.MER_TXTS_ID_PORT, x.port), (WR.MER_TXTS_ID_ID, x.id)]

/-- A read of MER_TXTS_ID at the normal address (R97): the head entry goes and its stamp is latched. -/
def txRead (s : State) : State :=
  let s := s.txHead
  match s.mer.txts with
  | [] => s
  | x :: r =>
    ((s.modMer fun g => { g with txts := r }).wsets [(WR.MER_TXTS_SEC_LO_SEC_LO, timeSec x.stamp),
      (WR.MER_TXTS_SEC_HI_SEC_HI, timeSec x.stamp / 2 ^ 32), (WR.MER_TXTS_NS_NS, timeNs x.stamp),
      (WR.MER_TXTS_FRAC_FRAC, x.stamp % 65536)]).showTx

/-! ### PPS (R89, R90) -/

/-- The Meridian time of PPS_IN or of a frame edge: the tick and the fine bins within it (R39). -/
def timeFine (fine : Nat) (s : State) : Nat := timeAdd s.timeNow (fine * s.anchorNow.p / 2 ^ 24 : Nat)

/-- The seconds of Meridian as the shifted PPS_OUT sees them, `d` units of 2^-16 ns ago. -/
def ppsSecond (d : Int) (s : State) : Nat :=
  timeSec (timeAdd s.timeNow
    (-(signed 32 (s.wget WR.MER_PPS_OUT_DELAY_DELAY) * s.anchorNow.p / 2 ^ 24) - d))

/-- A shifted second begins in this tick and its pulse has not begun (R90). -/
def ppsDue (s : State) : Bool :=
  s.ppsSecond 0 != s.ppsSecond (s.anchorNow.p / 65536) && s.mer.ppsOut != some s.tick

/-- An alarm is armed (R102, R105): the upper target seconds are fixed and a passed target is late. -/
def armAlarm (n : Nat) (s : State) : State :=
  let sec := timeSec s.timeNow
  let lo := s.wget (WR.MER_ALM_SEC_SEC n)
  let hi := ((sec : Int) + ((lo : Int) - sec + 2 ^ 31) % 2 ^ 32 - 2 ^ 31) / 2 ^ 32
  let s := s.modMer fun g => { g with
    almHi := g.almHi.mapIdx fun i x => if i = n then (hi % 2 ^ 32).toNat else x }
  s.setLate n (decide (s.almTarget n ≤ s.timeNow))

/-- A write of MER_ALMn_CTRL (R102, R105). -/
def writeAlmCtrl (n v : Nat) (s : State) : State :=
  let was := s.won (WR.MER_ALM_CTRL_EN n)
  let s := s.wstore (WR.MER_ALM_CTRL n) v
  if bit 31 v && !was then s.armAlarm n
  else if !bit 31 v then s.setLate n false
  else s

/-- A write of a target, period or mask (R108). -/
def writeAlmParam (n a v : Nat) (s : State) : State :=
  if s.won (WR.MER_ALM_CTRL_EN n) then s else s.wstore a v

end State

/-- WONAN_FRAME_BOUNDARY (R59, R70–R74, R545): it acts at a tick that is a multiple of 65,536. `span` is the
measured Meridian span of the frame that ended (TRIGGER source), `meas` the measured Datum, `loop` the
rate term of the hardware loop. -/
def execWonanFrameBoundary (span meas loop : Nat) (s : State) : Res :=
  .next <| if s.boundaryDue then s.frameBoundary span meas (some (signed 48 loop)) else s

/-- MER_STEP_APPLY (R60, R75, R77, R105): at a frame boundary, after its anchor was latched. -/
def execMerStepApply (s : State) : Res :=
  let s := if s.boundaryDue && s.mer.step.isSome then
      s.frameBoundary s.anchorNow.p (s.wget WR.MER_DATUM_MEAS_FREQ) none
    else s
  .next <| if s.tick = 65536 * s.anchorNow.frame then s.applyStep else s

/-- MER_RATE_HI_WRITE (R73, R81). -/
def execMerRateHiWrite (value : Nat) (s : State) : Res := .next <| s.writeRateHi (value % 65536)

/-- MER_ADJ_WRITE (R74, R81). -/
def execMerAdjWrite (value : Nat) (s : State) : Res := .next <| s.writeAdj value

/-- ADJ_CANCEL (R74). -/
def execAdjCancel (s : State) : Res := .next s.adjCancel

/-- MER_STEP (R75, R77). -/
def execMerStep (s : State) : Res := .next s.writeStep

/-- MER_STEP_NS_WRITE (R76). -/
def execMerStepNsWrite (value : Nat) (s : State) : Res := .next <| s.writeStepNs value

/-- MER_LOCK (R79): `refOk` where the frequency reference of the source is present. -/
def execMerLock (refOk : Bool) (s : State) : Res :=
  .next (s.modMer fun g => { g with lostFreq := !refOk }).lock

/-- MER_RELOCK (R82): `refOk` where the frequency reference of the source is present. -/
def execMerRelock (refOk : Bool) (s : State) : Res :=
  .next (s.modMer fun g => { g with lostFreq := !refOk }).relock

/-- MER_SRC_WRITE (R79, R84). -/
def execMerSrcWrite (src : Nat) (s : State) : Res := .next <| s.writeSrc src

/-- SYNC_LOST (R85): due when no Sync arrived from the parent for the timeout. -/
def execSyncLost (s : State) : Res :=
  match s.mer.lastSync with
  | none => .next s
  | some t =>
    .next <| if t + s.syncLimit ≤ s.now ∧ s.mer.lostSync = false then
      (s.modMer fun g => { g with lostSync := true }).loss WR.MER_STATUS_SYNC_LOST
        (s.merSrc == 1 || s.merSrc == 2) s.mer.armSync
    else s

/-- MER_PTP_PARENT_PORT_WRITE (R80, R86). -/
def execMerPtpParentPortWrite (value : Nat) (s : State) : Res := .next <| s.commitParent value

/-- SYNCE_LOST (R88): the recovered clock of the selected port was there and is lost. -/
def execSynceLost (s : State) : Res :=
  .next <| (s.modMer fun g => { g with lostFreq := true }).loss WR.MER_STATUS_SYNCE_LOST
    (s.merSrc == 2) true

/-- REF_LOST (R88): REF10M_IN was there and is lost. -/
def execRefLost (s : State) : Res :=
  .next <| (s.modMer fun g => { g with lostFreq := true }).loss WR.MER_STATUS_REF_LOST
    (s.merSrc == 3) true

/-- PPS_IN_EDGE (R80, R89): an edge, `fall` where it falls, `fine` bins after the tick. -/
def execPpsInEdge (fall : Bool) (fine : Nat) (s : State) : Res :=
  if fall = s.won WR.MER_PPS_CTRL_IN_EDGE ∧ s.pinsHeld = false then
    .next <| s.modMer fun g => { g with
      pps := s.timeFine fine
      lastPps := some s.now
      lostPps := false
      armPps := g.armPps || s.tracking }
  else .next s

/-- PPS_LOST (R89): due 1.001 s after the last edge. -/
def execPpsLost (s : State) : Res :=
  match s.mer.lastPps with
  | none => .next s
  | some t =>
    .next <| if t + 1001 * Config.msTicks ≤ s.now ∧ s.mer.lostPps = false then
      (s.modMer fun g => { g with lostPps := true }).loss WR.MER_STATUS_PPS_LOST (s.merSrc == 3)
        s.mer.armPps
    else s

/-- PPS_OUT_PULSE (R90): a pulse begins in the tick in which a shifted second begins. -/
def execPpsOutPulse (s : State) : Res :=
  if s.won WR.MER_PPS_CTRL_OUT_EN && s.timeValid && s.ppsDue then
    .next <| (s.modMer fun g => { g with ppsOut := some s.tick }).emitPin .pps
  else .next s

/-- TX_STAMP_CAPTURE (R94, R96, R99, R100): a frame with a stamp request leaves port `port`, `fine` bins
after the tick. -/
def execTxStampCapture (port id fine : Nat) (s : State) : Res :=
  .next <| s.txArrive ⟨port, id,
    State.timeAdd (s.timeFine fine) (signed 32 (s.wget WR.MER_PTP_TX_LAT_LAT)), s.now⟩

/-- MER_TXTS_ID_READ (R97, R100). -/
def execMerTxtsIdRead (s : State) : Res := .next s.txRead

/-- TX_STAMP_AGE_OUT (R98). -/
def execTxStampAgeOut (s : State) : Res := .next s.txAgeOut

/-- ALARM_ARM (R102, R105): a write of MER_ALMn_CTRL. -/
def execAlarmArm (n value : Nat) (s : State) : Res := .next <| s.writeAlmCtrl n value

/-- MER_ALARM_PARAM_WRITE (R108): register `reg` (1 SEC, 2 NS, 3 PERIOD_NS, 4 PMASK_LO, 5 PMASK_HI) of
alarm `n`. -/
def execMerAlarmParamWrite (n reg value : Nat) (s : State) : Res :=
  if 1 ≤ reg ∧ reg ≤ 5 then .next <| s.writeAlmParam n (WR.MER_ALM_CTRL n + 4 * reg) value
  else .next s

end Sys2Proof.Machine
end

