-- ==== Sys2Proof/Machine/WnTri.lean ====
section
/-! DEFINITION. Triangulation, epochs, walk correction and the mapping of Tladon stamps (spec/02 R44–R58,
R67; spec/04 R137–R141; spec/08 R289; spec/17 R547). -/

namespace Sys2Proof.Machine

open Sys2Proof

namespace State

/-- A port that is a lane of another port's bonded group (R22, R67). -/
def nonFirst (p : Nat) (s : State) : Bool :=
  (List.range p).any fun b => decide (p < b + (s.port b).group) && s.portState b != 0

/-- A port number that the variant has and that can be the first lane of a group (R67). -/
def portHere (p : Nat) (s : State) : Bool := decide (p < s.lanesCount) && !s.nonFirst p

/-- The value congruent to `t` modulo `m` in [w − m/2, w + m/2) (R57, R300). -/
def extend (m : Nat) (t w : Int) : Int := w - m / 2 + (t - (w - m / 2)) % m

/-- A 42-bit Tladon tick extended to 64 bits (R57). -/
def ext42 (t : Nat) (s : State) : Int := extend (2 ^ 42) t s.tick

/-- A 26-bit Tladon frame number extended by R57. -/
def extFrame (f : Nat) (s : State) : Int := s.ext42 (f * 65536) / 65536

/-! ### θ of a port -/

/-- TRI_THETA, 48-bit two's complement (R50). -/
def triTheta (p : Nat) (s : State) : Int :=
  signed 48 (s.wget (WR.TRI_THETA_LO_THETA p) + 2 ^ 32 * s.wget (WR.TRI_THETA_HI_THETA p))

/-- Publish θ. -/
def putTheta (p : Nat) (v : Int) (s : State) : State :=
  let c := unsigned 48 v
  s.wsets [(WR.TRI_THETA_LO_THETA p, c % 2 ^ 32), (WR.TRI_THETA_HI_THETA p, c / 2 ^ 32)]

/-- PAIR_PORT_TRIM_p, added to the published θ in paired operation (R547). -/
def trim (p : Nat) (s : State) : Int :=
  if s.pairOn then signed 32 (s.wget (WR.PAIR_PORT_TRIM_TRIM p)) else 0

/-- The own averages in use from a Tladon frame on (R50, R51): before the first full average after a
restart, the running mean. -/
def ownTheta (p : Nat) (f : Int) (s : State) : Int :=
  let a := (s.tri' p).avgs
  if !s.won (WR.TRI_STATUS_AVERAGED p) && s.won (WR.TRI_STATUS_VALID p) then s.triTheta p
  else match a.find? fun x => decide (x.1 ≤ f) with
    | some x => x.2
    | none => match a.getLast? with
      | some x => x.2
      | none => s.triTheta p

/-- The averages received for a port, newest first. -/
def pairThetas (p : Nat) (s : State) : List PairTheta := SMap.getD [] p s.pair.thetas

/-- θ of a port for the stamps of a Tladon frame (R51, R547). -/
def thetaFor (p : Nat) (f : Int) (s : State) : Int :=
  if s.inStep && s.partnerHolds p then
    match (s.pairThetas p).find? fun x => decide (x.start ≤ f) with
    | some x => x.theta
    | none => match (s.pairThetas p).getLast? with
      | some x => x.theta
      | none => s.ownTheta p f + s.trim p
  else s.ownTheta p f + s.trim p

/-- R54: the port may be in event building. -/
def r54 (p : Nat) (s : State) : Bool :=
  if s.inStep && s.partnerHolds p then
    match (s.pairThetas p).head? with
    | some x => x.valid && x.averaged
    | none => false
  else (s.won (WR.TRI_STATUS_VALID p) && s.won (WR.TRI_STATUS_AVERAGED p)) || (s.tri' p).grace

/-- J and SLOT_SHIFT for an offset θ in units of 2^-8 fine bin (R44, R45). -/
def chooseEpoch (theta : Int) : Int × Int :=
  let j := 32 * ((theta + 2 ^ 20) / 2 ^ 21)
  (j, ((theta - 65536 * j) + 2 ^ 15) / 2 ^ 16)

/-! ### Samples and averages -/

/-- Restart averaging (R53): the partial average is discarded. -/
def triRestart (p : Nat) (s : State) : State :=
  let both := s.won (WR.TRI_STATUS_VALID p) && s.won (WR.TRI_STATUS_AVERAGED p)
  (s.modTri p fun t => { t with part := [], grace := t.grace || both }).wsets
    [(WR.TRI_STATUS_VALID p, 0), (WR.TRI_STATUS_AVERAGED p, 0)]

/-- The mean of a list, rounded to the nearest unit, halves up (R50). -/
def meanOf (l : List Int) : Int := divRound (l.foldl (· + ·) 0) (max 1 l.length : Nat)

/-- F measured disagrees with the declared f_DL + f_UP (R55). -/
def fibreBad (p : Nat) (f : Int) (s : State) : Bool :=
  if s.image.isNone then false
  else
    let d : Int := (s.decl 0x02 p 0 + s.decl 0x03 p 0 : Nat)
    let k : Int := (65536 * 32 * s.freq : Nat)
    decide ((200 + d) * k < ((100 * (f * 1000000000 - d * k)).natAbs : Int))

/-- The holder sends THETA with each new average (R547). -/
def sendTheta (p : Nat) (start : Int) (s : State) : State :=
  if s.pairOn && s.holds p then
    s.plSend 0x04 0 [pack [(63, 58, p), (57, 32, unsigned 26 start),
        (31, 31, s.wget (WR.TRI_STATUS_VALID p)), (30, 30, s.wget (WR.TRI_STATUS_AVERAGED p))],
      unsigned 64 (s.triTheta p + s.trim p)]
  else s

/-- Samples per full average (R50). -/
def avgLen (p : Nat) (s : State) : Nat := 2 ^ min 10 (s.wget (WR.TRI_CTRL_AVG_LOG2 p))

/-- A full average is published (R50–R52, R55): it applies from F_last + 2, or + 4 in a pair. -/
def publishAvg (p : Nat) (all : List TriSample) (last : Int) (s : State) : State :=
  let v := meanOf (all.map (·.theta))
  let f := meanOf (all.map (·.f))
  let jump := match (s.tri' p).avgs.head? with
    | some x => decide (8 * 256 < (v - x.2).natAbs)
    | none => false
  let start := last + (if s.pairOn then 4 else 2)
  let s := s.modTri p fun t => { t with part := [], avgs := ((start, v) :: t.avgs).take 4, grace := false }
  let s := (s.putTheta p v).wset (WR.TRI_RTT_F p) (unsigned 32 f)
  let s := s.wset (WR.TRI_STATUS_AVERAGED p) 1
  let s := if jump then s.wset (WR.TRI_STATUS_THETA_JUMP p) 1 else s
  let s := if s.fibreBad p f then s.wset (WR.TRI_STATUS_FIBRE_MISMATCH p) 1 else s
  s.sendTheta p start

/-- A sample from a marker (departure tick, extended stamp a) and the frame start paired with it (R49,
R50, R289). -/
def triSample (p : Nat) (stamp : Nat × Nat × Int) (start : Nat × Nat × Int) (s : State) : State :=
  let (stampAt, dep, a) := stamp
  let (startAt, raw, b) := start
  let fr := (a + (2 ^ 24 - 1)) / 2 ^ 24
  let kd : Int := s.wget (WR.TRI_KDOWN_K p)
  let ku : Int := s.wget (WR.TRI_KUP_K p)
  let ts : Int := (dep : Int) * 256
  let f := ((a - ts) + (b - fr * 2 ^ 24)) * 256 - kd - ku
  let down := divRound (f * (2 ^ 31 + signed 32 (s.wget (WR.TRI_ALPHA_ALPHA p)))) (2 ^ 32)
  let x : TriSample := ⟨stampAt, startAt, (ts - a) * 256 + down + kd, f, fr⟩
  let all := (s.tri' p).part ++ [x]
  if raw = unsigned 26 fr then
    let s := s.wset (WR.TRI_STATUS_VALID p) 1
    if s.avgLen p ≤ all.length then s.publishAvg p all fr
    else
      let s := s.modTri p fun t => { t with part := all }
      if s.won (WR.TRI_STATUS_AVERAGED p) then s else s.putTheta p (meanOf (all.map (·.theta)))
  else s

/-- A TRI_STAMP or frame start that arrives within 65,536 ticks after an EPOCH_DONE forms no sample
(R289). -/
def triBlocked (p : Nat) (s : State) : Bool :=
  match (s.tri' p).epochAt with
  | some t => decide (s.tick ≤ t + 65536)
  | none => false

/-- The frame whose start is paired with a marker stamp (R49), modulo 2^26. -/
def pairedFrame (a : Int) : Nat := unsigned 26 ((a + (2 ^ 24 - 1)) / 2 ^ 24)

/-- A TRI_STAMP word of this Wonan's downlink (R48–R50). -/
def triStamp (p : Nat) (num tick fine : Nat) (s : State) : State :=
  match (s.tri' p).sent.find? fun x => x.1 == num with
  | none => s
  | some (_, dep) =>
    let s := s.modTri p fun t => { t with sent := t.sent.filter fun x => x.1 != num }
    if dep + 65536 < s.tick then s.wadd (WR.TRI_STATUS_MISSED p) 1
    else if !s.won (WR.TRI_CTRL_EN p) || s.triBlocked p then s
    else
      let a := s.ext42 tick * 256 + fine
      match (s.tri' p).starts.find? fun x => x.2.1 == pairedFrame a with
      | some st => s.triSample p (s.tick, dep, a) st
      | none => s.modTri p fun t => { t with stamps := t.stamps ++ [(s.tick, dep, a)] }

/-- The start of a Tladon frame arrives on the lowest uplink at `b` fine bins of Wonan time (R49, R245). -/
def triStart (p frame : Nat) (b : Int) (s : State) : State :=
  if s.triBlocked p then s
  else
    let st := (s.tick, frame, b)
    let hits := (s.tri' p).stamps.filter fun x => pairedFrame x.2.2 == frame
    let s := s.modTri p fun t => { t with
      starts := (st :: t.starts).take 4
      stamps := t.stamps.filter fun x => pairedFrame x.2.2 != frame &&
        decide (unsigned 26 ((pairedFrame x.2.2 : Int) - frame) < 2 ^ 25) }
    hits.foldl (fun s x => s.triSample p x st) s

/-- Every sample, retained average and θ of a port moves by `d` units of 2^-8 fine bin, and its frames by
`j` ticks (R289, R544). -/
def triMove (p : Nat) (d j : Int) (s : State) : State :=
  let s := s.modTri p fun t => { t with
    part := t.part.map fun x => { x with theta := x.theta + d, frame := (x.frame * 65536 + j) / 65536 }
    avgs := t.avgs.map fun x => ((x.1 * 65536 + j) / 65536, x.2 + d) }
  s.putTheta p (s.triTheta p + d)

/-- An epoch of increment `j` took effect, as EPOCH_DONE reports now (R289). -/
def triEpoch (p : Nat) (j : Int) (s : State) : State :=
  let s := s.modTri p fun t => { t with
    part := t.part.filter fun x => decide (x.stampAt + 65536 < s.tick ∧ x.startAt + 65536 < s.tick)
    stamps := []
    starts := []
    epochAt := some s.tick }
  let s := s.triMove p (-(65536 * j)) j
  if !s.won (WR.TRI_STATUS_AVERAGED p) && !(s.tri' p).part.isEmpty then
    s.putTheta p (meanOf ((s.tri' p).part.map (·.theta)))
  else s

/-- EPOCH_DONE of a port: the latest EPOCH sent at least 64 Datum cycles ago took effect (R41, R43). -/
def epochDone (p : Nat) (s : State) : State :=
  match (s.tri' p).epochs.find? fun x => decide (x.1 + 2048 ≤ s.tick) with
  | none => s
  | some (t, j) =>
    (s.modTri p fun x => { x with epochs := x.epochs.filter fun y => decide (t < y.1) }).triEpoch p j

/-! ### Registers (R53, R67) -/

/-- A write of TRI_CTRL (R53). -/
def writeTriCtrl (p v : Nat) (s : State) : State :=
  if !s.portHere p then s
  else
    let was := s.won (WR.TRI_CTRL_EN p)
    let s := s.wstore (WR.TRI_CTRL p) v
    if bit 0 v && !was then s.triRestart p else s

/-- A write of TRI_ALPHA, TRI_KDOWN or TRI_KUP that takes effect and changes the value (R53). -/
def writeTriParam (p : Nat) (f : Fld) (v : Nat) (s : State) : State :=
  if !s.portHere p || (f.acc == .rwa && !s.isOpen) || v % 2 ^ 32 == s.wget f then s
  else (s.wset f v).triRestart p

/-! ### Walk correction and mapping (R57, R58, R137–R140) -/

/-- Entry `i` of the walk table of a channel (R137). -/
def walkEntry (p ch i : Nat) (s : State) : Int :=
  signed 16 (s.load (0x20000000 + s.wget (WR.WALK_ADDR_BASE p) * 65536 + 128 * ch + 2 * i) 2)

/-- The walk of a TOT (R138). -/
def walkOf (p ch tot : Nat) (s : State) : Int :=
  let base := s.wget (WR.WALK_CTRL_TOT_BASE p)
  let sh := min 12 (s.wget (WR.WALK_CTRL_SHIFT p))
  if tot < base then s.walkEntry p ch 0
  else
    let x := tot - base
    let i := x / 2 ^ sh
    if 63 ≤ i then s.walkEntry p ch 63
    else
      let e := s.walkEntry p ch i
      let half : Int := if sh = 0 then 0 else 2 ^ (sh - 1)
      e + ((s.walkEntry p ch (i + 1) - e) * (x - i * 2 ^ sh : Nat) + half) / 2 ^ sh

/-- A word to which R139 gives walk 0. -/
def walkNone (p w : Nat) (s : State) : Bool :=
  (bits 63 62 w == 1 && bit 8 w) || !s.won (WR.WALK_CTRL_EN p)
    || (bit 9 w && s.won (WR.WALK_CTRL_PILEUP_SKIP p))

/-- A word of the walk table that the interpolation of a TOT reads is stored with an uncorrectable error
(R443). -/
def walkBad (p ch tot : Nat) (s : State) : Bool :=
  let i := min 63 ((tot - s.wget (WR.WALK_CTRL_TOT_BASE p)) / 2 ^ min 12 (s.wget (WR.WALK_CTRL_SHIFT p)))
  [i, min 63 (i + 1)].any fun j =>
    let w := (s.wget (WR.WALK_ADDR_BASE p) * 65536 + 128 * ch + 2 * j) / 16
    1 < memClass 0 (syndrome 0 (s.flipsOf 0 w))

/-- The walk applied to a word; `err` where the table read is uncorrectable (R138–R140). -/
def walk (p w : Nat) (err : Bool) (s : State) : Int × State :=
  if s.walkNone p w then (0, s)
  else if err || s.walkBad p (bits 61 53 w) (bits 28 13 w) then
    (0, (s.wadd (WR.WALK_STATUS_READ_ERR p) 1).unitStand 0 8)
  else (s.walkOf p (bits 61 53 w) (bits 28 13 w), s)

/-- The Wonan time of a word of a Tladon frame, in units of 2^-8 fine bin (R57, R58). -/
def mapWord (p frame w : Nat) (walk : Int) (s : State) : Int :=
  let t := s.ext42 (frame % 2 ^ 26 * 65536 + bits 52 37 w)
  ((t * 256 + bits 36 29 w) - walk) * 256 + s.thetaFor p (t / 65536)

/-- A write into the walk partition that R141 refuses: the flag of every port whose tables hold the
address. -/
def walkRefused (a : Nat) (s : State) : State :=
  (List.range s.lanesCount).foldl (fun s p =>
    let b := 0x20000000 + s.wget (WR.WALK_ADDR_BASE p) * 65536
    if b ≤ a ∧ a < b + 65536 ∧ s.portHere p then s.wset (WR.WALK_STATUS_WRITE_REFUSED p) 1 else s) s

/-- An address lies in the WALK partition of the image in use (R137). -/
def inPart (code a : Nat) (s : State) : Bool :=
  match s.image with
  | none => false
  | some i => i.parts.any fun x => x.1 == code && decide (0x20000000 + x.2.1 * 65536 ≤ a)
      && decide (a < 0x20000000 + (x.2.1 + x.2.2) * 65536)

end State

/-- MARKER_SEND (R48): at a cell boundary of a frame in which a marker is due. -/
def execMarkerSend (port : Nat) (s : State) : Res :=
  let t := s.tri' port
  if s.portHere port && decide (2 ≤ s.ws) && s.tick % 32 == 0 && decide (t.markAt ≤ s.wframe) then
    .next <| (s.modTri port fun t => { t with
      mark := (t.mark + 1) % 16
      markAt := s.wframe + 2 ^ min 4 (s.wget (WR.TRI_CTRL_MARK_DIV port))
      sent := (t.sent.filter fun x => x.1 != t.mark) ++ [(t.mark, s.tick)] }).emit (.dlMark port t.mark)
  else .next s

/-- TRI_STAMP_RX (R48–R52, R55): a TRI_STAMP word of downlink `dl` (false A). -/
def execTriStampRx (port : Nat) (dl : Bool) (num tick fine : Nat) (s : State) : Res :=
  if s.portHere port && s.laneUp port && dl == s.sideB then .next <| s.triStamp port num tick fine else .next s

/-- TRI_STAMP_MISSED (R50): due 65,536 ticks after the marker left. -/
def execTriStampMissed (port num : Nat) (s : State) : Res :=
  match (s.tri' port).sent.find? fun x => x.1 == num with
  | some (_, dep) =>
    .next <| if dep + 65536 < s.tick then
      (s.modTri port fun t => { t with sent := t.sent.filter fun x => x.1 != num }).wadd
        (WR.TRI_STATUS_MISSED port) 1
    else s
  | none => .next s

/-- TRI_CTRL_WRITE (R53). -/
def execTriCtrlWrite (port value : Nat) (s : State) : Res := .next <| s.writeTriCtrl port value

/-- TRI_ALPHA_WRITE (R53). -/
def execTriAlphaWrite (port value : Nat) (s : State) : Res :=
  .next <| s.writeTriParam port (WR.TRI_ALPHA_ALPHA port) value

/-- TRI_KDOWN_WRITE (R53). -/
def execTriKdownWrite (port value : Nat) (s : State) : Res :=
  .next <| s.writeTriParam port (WR.TRI_KDOWN_K port) value

/-- TRI_KUP_WRITE (R53). -/
def execTriKupWrite (port value : Nat) (s : State) : Res :=
  .next <| s.writeTriParam port (WR.TRI_KUP_K port) value

/-- WALK_TABLE_WRITE (R137, R141): a 16-bit entry of the WALK partition is written, in HELD and ADMITTED. -/
def execWalkTableWrite (offset value : Nat) (s : State) : Res :=
  let a := 0x20000000 + offset
  if s.inPart 1 a then
    .next <| if s.isOpen then s.store a 2 value else s.walkRefused a
  else .next s

end Sys2Proof.Machine
end

