-- ==== Sys2Proof/Machine/WnMus.lean ====
section
/-! DEFINITION. The Muster: events, fragments, slices, stalls and commits (spec/09 R295–R322, R324, R325,
R329–R332; spec/12 R389, R391, R392; spec/17 R545, R549, R550, R560, R562). -/

namespace Sys2Proof.Machine

open Sys2Proof

namespace State

/-- Change the Muster. -/
def modMus (f : Mus → Mus) (s : State) : State := { s with mus := f s.mus }

/-- MODE: 0 triggered, 1 streaming, 2 speculative; 3 acts as 0. -/
def musMode (s : State) : Nat := s.wget WR.MUS_CFG_MODE % 3

/-- Events are being built. -/
def building' (s : State) : Bool := s.won WR.MUS_STATUS_BUILDING

/-- The expected sources (R295). -/
def expectMask (s : State) : Nat := s.wget WR.MUS_EXPECT_LO_EXPECT + 2 ^ 32 * s.wget WR.MUS_EXPECT_HI_EXPECT

/-- The window extents. -/
def wPre (s : State) : Nat := s.wget WR.MUS_WIN_W_PRE
def wPost (s : State) : Nat := s.wget WR.MUS_WIN_W_POST

/-- The lanes that a port bonds. -/
def bonded (p : Nat) (s : State) : Nat := max 1 (s.port p).group

/-- A port is in event building (R54, R261, R286). -/
def inBuild (p : Nat) (s : State) : Bool :=
  s.portState p == 4 && s.r54 p &&
    (List.range (s.bonded p)).all fun i => s.wget (WR.ING_LANE_STATUS_STATE (p + i)) != 4

/-- What the Muster keeps of a port. -/
def prx (p : Nat) (s : State) : PortRx := SMap.getD PortRx.reset p s.mus.rx

/-- Change what the Muster keeps of a port. -/
def modPrx (p : Nat) (f : PortRx → PortRx) (s : State) : State :=
  s.modMus fun m => { m with rx := SMap.modify PortRx.reset p f m.rx }

/-! ### Storage (R310, R311, R321) -/

/-- The size of a Yard partition of the image in use, in bytes (R423). -/
def partSize (code : Nat) (s : State) : Nat :=
  match s.image with
  | none => 0
  | some i => ((i.parts.find? fun x => x.1 == code).map fun x => x.2.2 * 65536).getD 0

/-- Give back descriptors and bytes. -/
def giveBack (desc bytes : Nat) (s : State) : State :=
  (s.modMus fun m => { m with yard := m.yard - bytes }).wset WR.MUS_LEDGER_IN_USE
    (s.wget WR.MUS_LEDGER_IN_USE - desc)

/-- The storage of a committed record is freed (R321, R361). -/
def freeRecord (seq : Nat) (s : State) : State :=
  match s.mus.held.find? fun x => x.1 == seq with
  | some x => (s.giveBack x.2.1 x.2.2).modMus fun m => { m with held := m.held.filter fun y => y.1 != seq }
  | none => s

/-! ### Events -/

/-- The event of a key. -/
def ev (k : Int) (s : State) : Option Ev := s.mus.evs.find? fun e => e.key == k

/-- Change the event of a key. -/
def modEv (k : Int) (f : Ev → Ev) (s : State) : State :=
  s.modMus fun m => { m with evs := m.evs.map fun e => if e.key = k then f e else e }

/-- The fragment of a port in an event. -/
def sec (k : Int) (p : Nat) (s : State) : Option Sec :=
  match s.ev k with
  | none => none
  | some e => e.secs.find? fun x => x.port == p

/-- Change the fragment of a port in an event. -/
def modSec (k : Int) (p : Nat) (f : Sec → Sec) (s : State) : State :=
  s.modEv k fun e => { e with secs := e.secs.map fun x => if x.port = p then f x else x }

/-- An open fragment of a port in an event. -/
def openSec (k : Int) (p : Nat) (s : State) : Option Sec :=
  match s.sec k p with
  | some x => if x.settled = 0 then some x else none
  | none => none

/-- The port becomes missing from an event: what it stored is given back (R311, R313). -/
def makeMissing (k : Int) (p : Nat) (s : State) : State :=
  match s.openSec k p with
  | none => s
  | some x =>
    (s.giveBack (b2n x.stored) (8 * x.words.length)).modSec k p fun x => { x with
      words := [], flags := 0, stored := false, settled := 2 }

/-- A fragment closes with further flags (R313). -/
def closeSec (k : Int) (p flags : Nat) (s : State) : State :=
  match s.openSec k p with
  | none => s
  | some _ => s.modSec k p fun x => { x with flags := x.flags ||| flags, settled := 1 }

/-- The section flags of R315. -/
def fPartial : Nat := 2 ^ 40
def fTruncated : Nat := 2 ^ 39
def fHeld : Nat := 2 ^ 33
def fCorrupt : Nat := 2 ^ 32
def fClockSwitch : Nat := 2 ^ 31
def fTimeHoldover : Nat := 2 ^ 30

/-- A fragment that is not stored: the port is missing (R311). -/
def noRoom (k : Int) (p : Nat) (cnt flag : Fld) (s : State) : State :=
  ((s.wadd cnt 1).wset flag 1).makeMissing k p

/-- A fragment takes a descriptor (R310, R311). -/
def takeDesc (k : Int) (p : Nat) (s : State) : State :=
  match s.openSec k p with
  | none => s
  | some x =>
    if x.stored then s
    else if 262144 ≤ s.wget WR.MUS_LEDGER_IN_USE then
      s.noRoom k p (WR.MUS_PORT_CNT1_LEDGER_FULL p) WR.MUS_STATUS_LEDGER_FULL
    else
      let n := s.wget WR.MUS_LEDGER_IN_USE + 1
      ((s.wset WR.MUS_LEDGER_IN_USE n).wraise WR.MUS_LEDGER_HWM_HWM n).modSec k p fun x => { x with
        stored := true, arrived := true }

/-- CLOCK_SWITCH and TIME_HOLDOVER of a word by its extended tick (R62, R65). -/
def timeFlags (p : Nat) (full : Int) (s : State) : Nat :=
  let t := s.port p
  (if t.clksw.any fun c => decide (c ≤ full ∧ full < c + 12800) then fClockSwitch else 0) +
    (if t.holds.any fun h => decide (h.1 ≤ full) && (match h.2 with
        | some e => decide (full < e)
        | none => true) then fTimeHoldover else 0)

/-- A word enters a fragment (R311, R312). -/
def addWord (k : Int) (p : Nat) (full w : Int) (word : Nat) (s : State) : State :=
  match (s.takeDesc k p).openSec k p with
  | none => s.takeDesc k p
  | some x =>
    let s := s.takeDesc k p
    if max 1 (s.wget WR.MUS_FRAG_MAX_MAX) ≤ x.words.length then
      (s.wadd (WR.MUS_PORT_CNT1_TRUNC_WORDS p) 1).modSec k p fun x => { x with
        flags := x.flags ||| fTruncated }
    else if s.partSize 2 < s.mus.yard + 8 then
      s.noRoom k p (WR.MUS_PORT_CNT1_YARD_FULL p) WR.MUS_STATUS_YARD_FULL
    else
      (s.modMus fun m => { m with yard := m.yard + 8 }).modSec k p fun x => { x with
        words := x.words ++ [(w, word)], flags := x.flags ||| s.timeFlags p full }

/-- The port joined event building before an event (R288). -/
def joined (p : Nat) (slot : Int) (tref : Nat) (s : State) : Bool :=
  match (s.port p).entry with
  | none => false
  | some e =>
    s.inBuild p && (if s.musMode = 1 then decide (e ≤ (tref : Int))
      else decide (e ≤ 32 * slot - (s.port p).shift - s.wPre))

/-- T_ref of an event of a slot (R317). -/
def slotRef (slot : Int) (s : State) : Nat := (32 * slot - s.wPre - 1024).toNat

/-- Open an event in its place (R295, R297, R302, R328, R549, R550). -/
def openEv (key : Int) (num : Nat) (slot : Int) (cls tref : Nat) (due : Int) (own : Bool)
    (s : State) : State :=
  let mask := s.expectMask
  let ports := (List.range 48).filter fun p => bit p mask && s.joined p slot tref
  let e : Ev := ⟨key, num, slot, cls, tref, due, s.now, mask,
    ports.map fun p => ⟨p, 0, 0, [], false, false, 0⟩, [], false, own⟩
  let s := s.modMus fun m => { m with evs := insertBy (fun a b => decide (a.key ≤ b.key)) e m.evs }
  if s.musMode = 0 then
    ports.foldl (fun s p => s.modPrx p fun r => { r with
      owed := insertBy (fun a b => decide (a ≤ b)) key r.owed }) s
  else s

/-- Open the slices whose frames have begun (R297). -/
def openSlices (s : State) : State :=
  if s.building' && s.musMode == 1 then
    (List.range (s.wframe + 1 - s.mus.nextEv)).foldl (fun s _ =>
      let k := s.mus.nextEv
      (s.openEv k k (2048 * k) 0 (65536 * k) (65536 * (k + 2)) true).modMus fun m => { m with
        nextEv := k + 1 }) s
  else s

/-- Every open fragment of a port closes at once (R313). -/
def leaveBuilding (p : Nat) (s : State) : State :=
  let s := s.modPrx p fun r => { r with frag := [] }
  s.mus.evs.foldl (fun s e => match s.openSec e.key p with
    | none => s
    | some x => if x.arrived then s.closeSec e.key p fPartial else s.makeMissing e.key p) s

/-! ### Triggered fragments (R306, R307, R313) -/

/-- The event that a FRAG_HEAD belongs to (R306). -/
def matchEv (p ts : Nat) (s : State) : Option Ev :=
  s.mus.evs.find? fun e => !e.sup.contains p &&
    ((32 * e.slot - (s.port p).shift - s.wPre) % 2 ^ 42 == (ts : Int))

/-- Take up the heads of a port that are in accept order (R307): the events that it owes before the one
matched are missing, but for as many as heads were lost on the line. -/
def takeHeads (p : Nat) (s : State) : Nat → State
  | 0 => s
  | fuel + 1 =>
    let r := s.prx p
    let n := s.bonded p
    let mark := (List.range n).foldl (fun m k => min m (match SMap.find k r.accs with
      | none => k
      | some a => a + n)) (2 ^ 64)
    match r.heads with
    | [] => s
    | (a, e) :: rest =>
      if mark ≤ a then s
      else
        let lost := a - r.nextAcc
        let s := s.modPrx p fun r => { r with heads := rest, nextAcc := a + 1 }
        match e with
        | none => (s.modPrx p fun r => { r with owed := r.owed.drop 1 }).takeHeads p fuel
        | some key =>
          let before := r.owed.filter fun x => decide (x < key)
          let s := s.modPrx p fun r => { r with owed := r.owed.filter fun x => decide (key < x) }
          ((before.take (before.length - lost)).foldl (fun s k =>
            ((s.wadd (WR.MUS_PORT_CNT0_SKIPPED p) 1).makeMissing k p).modEv k fun e => { e with
              sup := p :: e.sup }) s).takeHeads p fuel

/-- FRAG_HEAD (R306, R307, R313). -/
def fragHead (p k acc ts : Nat) (s : State) : State :=
  let s := match SMap.find k (s.prx p).frag with
    | some ⟨some key, _, _, _, _, _⟩ => s.closeSec key p fPartial
    | _ => s
  let m := s.matchEv p ts
  let n := s.bonded p
  let prev : Int := match SMap.find (α := Nat) k (s.prx p).accs with
    | some a => (a : Int)
    | none => (k : Int) - n
  let full := (prev + ((acc : Int) - prev) % 16384).toNat
  let s := match m with
    | none => (s.wadd (WR.MUS_PORT_CNT0_CORRUPT p) 1).wset WR.MUS_STATUS_ALIGN_ERR 1
    | some e => s.modEv e.key fun e => { e with sup := p :: e.sup }
  let s := s.modPrx p fun r => { r with
    accs := SMap.insert k full r.accs
    heads := insertBy (fun a b => decide (a.1 ≤ b.1)) (full, m.map (·.key)) r.heads }
  let s := s.takeHeads p 64
  let s := match m with
    | none => s
    | some e => s.takeDesc e.key p
  let key := match m with
    | none => none
    | some e => if (s.openSec e.key p).isSome then some e.key else none
  let s := match key with
    | some key => s.modSec key p fun x => { x with acc := acc }
    | none => s
  s.modPrx p fun r => { r with frag := SMap.insert k ⟨key, acc, ts, 0, 0xFFFF, false⟩ r.frag }

/-- A hit or interval word of a fragment (R57, R219, R229). -/
def fragWord (p k w : Nat) (err : Bool) (s : State) : State :=
  match SMap.find k (s.prx p).frag with
  | none => s
  | some f =>
    let s := s.modPrx p fun r => { r with frag := SMap.insert k { f with
      count := f.count + 1, crc := (beBytes 8 w).foldl crc16Byte f.crc } r.frag }
    match f.ev with
    | none => s
    | some key =>
      let t := f.ts + (bits 52 37 w + 65536 - f.ts % 65536) % 65536
      let full := s.ext42 (t % 2 ^ 42)
      let (wk, s) := s.walk p w err
      s.addWord key p full (s.mapWord p (t / 65536) w wk) w

/-- FRAG_TAIL: [55:0] of the word (R228, R230, R313, R315). -/
def fragTail (p k body : Nat) (s : State) : State :=
  match SMap.find k (s.prx p).frag with
  | none => s
  | some f =>
    let s := s.modPrx p fun r => { r with frag := SMap.erase k r.frag }
    match f.ev with
    | none => s
    | some key =>
      if (s.openSec key p).isNone then s
      else if f.lost then s.closeSec key p fPartial
      else if bits 31 18 body ≠ f.acc ∨ bits 55 40 body ≠ f.count % 65536 ∨ bits 15 0 body ≠ f.crc then
        (s.wadd (WR.MUS_PORT_CNT0_CORRUPT p) 1).closeSec key p fCorrupt
      else s.closeSec key p (bits 39 35 body * 2 ^ 34 + (if bits 34 32 body = 0 then 0 else fHeld))

/-- Words of an uplink were lost with an RS block (R259, R313). -/
def wordsLost (p k : Nat) (s : State) : State :=
  s.modPrx p fun r => { r with
    frag := match SMap.find k r.frag with
      | some f => SMap.insert k { f with lost := true } r.frag
      | none => r.frag
    lost := if r.lost.contains k then r.lost else k :: r.lost }

/-! ### Streams (R308, R325, R689) -/

/-- STREAM_HEAD (R689): the frame context of the words that follow. -/
def streamHead (p k frame : Nat) (s : State) : State :=
  s.modPrx p fun r => { r with cur := SMap.insert k frame r.cur, cnt := SMap.insert k 0 r.cnt }

/-- The full tick of a stream word, extended (R57, R689). -/
def streamTick (p frame w : Nat) (s : State) : Int :=
  let b := ((-(s.port p).shift) % 32).toNat
  s.ext42 ((frame * 65536 + b + (bits 52 37 w + 65536 - b) % 65536) % 2 ^ 42)

/-- Add section flags to a frame of a port. -/
def frameFlags (p frame f : Nat) (s : State) : State :=
  s.modPrx p fun r => { r with fflags := ((frame, f ||| ((r.fflags.find? fun x => x.1 == frame).map
    (·.2)).getD 0) :: r.fflags.filter fun x => x.1 != frame).take 64 }

/-- The section flags of the frames from `a` to `b` (R330). -/
def flagsOf (p : Nat) (a b : Int) (s : State) : Nat :=
  (s.prx p).fflags.foldl (fun f x =>
    if (unsigned 26 ((x.1 : Int) - a) : Int) ≤ b - a then f ||| x.2 else f) 0

/-- Bytes in the stalls. -/
def stallBytes (s : State) : Nat := 8 * (s.mus.stall.map fun x => x.2.length).foldl (· + ·) 0

/-- The first slot that an accepted event or an undecided candidate still needs (R325). -/
def pinned (s : State) : Option Int :=
  let pre : Int := (s.wPre + 31) / 32
  (s.mus.evs.map fun e => e.slot - pre).foldl (fun m x => match m with
    | none => some x
    | some y => some (min x y)) none

/-- The horizon in slots (R326). -/
def horizon (s : State) : Nat :=
  let h := s.wget WR.MUS_SPEC_CFG_HZN
  if h = 0 then 2048 else h

/-- Count in MUS_SPEC_CNT_n. -/
def specCount (n : Nat) (s : State) : State := s.wadd (WR.MUS_SPEC_CNT_COUNT n) 1

/-- A candidate vanishes undecided (R327). -/
def expireCand (slot : Int) (s : State) : State :=
  if s.mus.cands.any fun c => c.slot == slot then
    ((s.modMus fun m => { m with cands := m.cands.filter fun c => c.slot != slot }).specCount 3).wset
      WR.MUS_STATUS_HORIZON_MISS 1
  else s

/-- The oldest unpinned slot is released at once (R325); candidates whose window it holds expire. -/
def releaseEarly (s : State) : Option State :=
  let heads := (s.mus.stall.map fun x => x.2.map (·.slot)).flatten
  match heads with
  | [] => none
  | h :: r =>
    let s0 := r.foldl min h
    let free := match s.pinned with
      | none => true
      | some x => decide (s0 < x)
    if free then
      let s := s.modMus fun m => { m with
        stall := m.stall.map fun x => (x.1, x.2.filter fun y => y.slot != s0) }
      let s := (s.specCount 7).wset WR.MUS_STATUS_EARLY_RELEASE 1
      let gone := s.mus.cands.filter fun c =>
        decide (s0 * 32 + 31 ≥ 32 * c.slot - s.wPre ∧ s0 * 32 < 32 * c.slot + s.wPost)
      some (gone.foldl (fun s c => s.expireCand c.slot) s)
    else none

/-- Room for one more stall word, releasing slots early as needed (R325). -/
def stallRoom (s : State) : Nat → State
  | 0 => s
  | fuel + 1 =>
    if s.stallBytes + 8 ≤ s.partSize 3 then s
    else match s.releaseEarly with
      | some s => stallRoom s fuel
      | none => s

/-- A word enters the stalls (R323, R325): with no slot to release it is lost and its frame carries LOSS. -/
def stallWord (p frame w : Nat) (full t : Int) (s : State) : State :=
  let s := s.stallRoom 2048
  if s.stallBytes + 8 ≤ s.partSize 3 then
    let x : StallWord := ⟨(full + (s.port p).shift) / 32, full, t, w⟩
    s.modMus fun m => { m with stall := SMap.modify [] p (fun l => l ++ [x]) m.stall }
  else s.frameFlags p frame (2 ^ 38)

/-- A hit or interval word of a stream (R308, R323). -/
def streamWord (p k w : Nat) (err : Bool) (s : State) : State :=
  match SMap.find k (s.prx p).cur with
  | none => s
  | some frame =>
    let s := s.modPrx p fun r => { r with cnt := SMap.modify 0 k (· + 1) r.cnt }
    let full := s.streamTick p frame w
    let (wk, s) := s.walk p w err
    let t := s.mapWord p (unsigned 26 (full / 65536)) w wk
    if s.musMode = 2 then s.stallWord p frame w full t
    else s.openSlices.addWord (t / 2 ^ 32) p full t w

/-- STREAM_END: [55:0] of the word (R230, R231, R308, R313). -/
def streamEnd (p k body : Nat) (s : State) : State :=
  let frame := bits 55 30 body
  let r := s.prx p
  let bad := !r.lost.contains k && SMap.getD 0 k r.cnt != bits 29 13 body
  let f := bit 12 body |> fun l => b2n l * 2 ^ 38 + b2n (bit 11 body) * 2 ^ 37 + b2n (bit 10 body) * fHeld
    + (if bad then fCorrupt else 0) + (if r.lost.contains k then fPartial else 0)
  let s := s.wcountIf bad (WR.MUS_PORT_CNT0_CORRUPT p)
  let s := s.frameFlags p frame f
  let mask := ((r.ends.find? fun x => x.1 == frame).map (·.2)).getD 0 ||| 2 ^ k
  let s := s.modPrx p fun r => { r with
    lost := r.lost.filter (· != k)
    cur := SMap.erase k r.cur
    ends := ((frame, mask) :: r.ends.filter fun x => x.1 != frame).take 8 }
  if s.musMode = 1 ∧ mask = 2 ^ s.bonded p - 1 then
    let s := s.openSlices
    let fr := s.extFrame frame
    match s.openSec (fr - 1) p with
    | none => s
    | some x =>
      let fl := s.flagsOf p (fr - 2) fr
      if x.arrived || fl == 0 then s.closeSec (fr - 1) p fl
      else (s.takeDesc (fr - 1) p).closeSec (fr - 1) p fl
  else s

/-- The words of a slot's window at a port, in the order of R324. -/
def window (p : Nat) (slot : Int) (s : State) : List StallWord :=
  let lo := 32 * slot - (s.port p).shift - s.wPre
  let l := (SMap.getD [] p s.mus.stall).filter fun x => decide (lo ≤ x.full ∧ x.full < lo + s.wPre + s.wPost)
  sortBy (fun a b => decide (a.slot < b.slot) || (a.slot == b.slot &&
    decide (bits 61 53 a.word < bits 61 53 b.word)) || (a.slot == b.slot &&
    bits 61 53 a.word == bits 61 53 b.word && decide (a.full ≤ b.full))) l

/-- A port's fragment of an accepted slot is taken from the stalls and closes (R324, R330). -/
def specClose (k : Int) (p extra : Nat) (s : State) : State :=
  match s.ev k with
  | none => s
  | some e =>
    let l := s.window p e.slot
    let lo := 32 * e.slot - (s.port p).shift - s.wPre
    if extra != 0 && l.isEmpty then s.makeMissing k p
    else
      let s := s.takeDesc k p
      let s := l.foldl (fun s x => s.addWord k p x.full x.w x.word) s
      s.closeSec k p (extra ||| s.flagsOf p (lo / 65536) ((lo + s.wPre + s.wPost - 1) / 65536))

/-- The data of an event's window is complete on every port (R324, R329). -/
def evComplete (k : Int) (s : State) : State :=
  match s.ev k with
  | none => s
  | some e => (e.secs.foldl (fun s x => if x.settled = 0 then s.specClose k x.port 0 else s) s).modEv k
      fun e => { e with ready := true }

/-- EVT_TMO in ticks; 0 acts as 1 (R313). -/
def evtTmo (s : State) : Nat := max 1 (s.wget WR.MUS_TMO_EVT_TMO) * Config.usTicks

/-- The deadline of an event (R313, R314). -/
def evDeadline (k : Int) (s : State) : State :=
  match s.ev k with
  | none => s
  | some e =>
    if e.due + s.evtTmo ≤ (s.tick : Int) then
      e.secs.foldl (fun s x =>
        if x.settled != 0 then s
        else if s.musMode = 2 then s.specClose k x.port fPartial
        else if x.arrived then
          s.closeSec k x.port (fPartial ||| (if s.musMode = 1 then
            s.flagsOf x.port (k - 1) (k + 1) else 0))
        else s.makeMissing k x.port) s
    else s

/-! ### Commit (R296, R315–R320, R389–R392) -/

/-- The section word of a closed fragment (R315). -/
def secWord (mode : Nat) (x : Sec) : Nat :=
  x.port * 2 ^ 58 + x.words.length * 2 ^ 41 + x.flags + (if mode = 0 then x.acc % 16384 * 2 ^ 14 else 0)

/-- A record word (R316, R317). -/
def recWord (tref : Nat) (x : Int × Nat) : Nat :=
  let r := x.1 / 16 - 4096 * tref
  (x.2 - bits 52 29 x.2 * 2 ^ 29 - x.2 % 16) + unsigned 24 (r / 16) * 2 ^ 29 + unsigned 4 r

/-- The body of an event's record (R315, R319). -/
def recBody (mode : Nat) (e : Ev) : List Nat :=
  ((e.secs.filter fun x => x.settled == 1).map fun x =>
    if x.words.isEmpty && x.flags == 0 then []
    else secWord mode x :: x.words.map (recWord e.tref)).flatten

/-- Record flags 1 to 11 from the section flags [40:30] (R315, R391). -/
def recFlags (f : Nat) : Nat :=
  ((List.range 11).map fun i => b2n (bit (40 - i) f) * 2 ^ (i + 1)).foldl (· + ·) 0

/-- The anchor whose stamp a record takes: the lead's in a pair that is IN_STEP (R545). -/
def leadAnchor (frame : Nat) (s : State) : Option (Nat × Nat × Bool × Bool) :=
  s.pair.anchors.find? fun a => a.1 == frame

/-- The record takes the lead's anchor (R545). -/
def needLead (s : State) : Bool := s.inStep && !s.isLead

/-- The anchor of a frame is still awaited (R545). -/
def anchorAwaited (frame : Nat) (s : State) : Bool :=
  s.needLead && (s.leadAnchor frame).isNone && decide (s.tick < 65536 * frame + s.dwin)

/-- STAMP of T_ref with MERIDIAN_HOLDOVER and TIME_STEP (R59, R60, R83, R317, R545). -/
def recStamp (tref : Nat) (frames : List Int) (s : State) : Nat × Bool × Bool :=
  let k := tref / 65536
  match if s.needLead then s.leadAnchor k else none with
  | some (_, t, hold, step) =>
    (timeAdd t (((tref - 65536 * k) * (s.anchorOf k).p + 2 ^ 15) / 2 ^ 16 : Nat), hold, step)
  | none =>
    let hi := frames.foldl max (k : Int)
    let mine := s.mer.anchors.filter fun a => decide ((k : Int) ≤ a.frame ∧ (a.frame : Int) ≤ hi)
    (s.stampOf (tref * 65536), mine.any (·.hold),
      (mine.any fun a => a.step && decide (k < a.frame)) || s.oldStep k)

/-- Bytes 0–47 of the record header (R391). -/
def recHeader (mode cls num seq stamp sid sources missing flags : Nat) : List Nat :=
  beBytes 2 0xC5A6 ++ [16 + 4 * mode, cls % 256] ++ beBytes 4 num ++ beBytes 8 seq ++ beBytes 14 stamp
    ++ beBytes 2 sid ++ beBytes 6 sources ++ beBytes 6 missing ++ beBytes 4 flags

/-- Body words four to a queue word, the last one zero-padded (R358). -/
def packBody : Nat → List Nat → List Nat
  | _, [] => []
  | 0, _ => []
  | fuel + 1, l =>
    let a := l.take 4
    ((a ++ List.replicate (4 - a.length) 0).foldl (fun x w => x * 2 ^ 64 + w) 0) :: packBody fuel (l.drop 4)

/-- The next sequence number (R296). -/
def seqNext (s : State) : Nat := s.wget WR.MUS_SEQ_NEXT_LO_NEXT + 2 ^ 32 * s.wget WR.MUS_SEQ_NEXT_HI_NEXT

/-- Set the next sequence number. -/
def setSeq (n : Nat) (s : State) : State :=
  s.wsets [(WR.MUS_SEQ_NEXT_LO_NEXT, n % 2 ^ 32), (WR.MUS_SEQ_NEXT_HI_NEXT, n / 2 ^ 32 % 2 ^ 32)]

/-- An event that waits for nothing but its turn (R320, R329, R545, R550, R558, R560). -/
def evReady (e : Ev) (s : State) : Bool :=
  (e.secs.all fun x => x.settled != 0)
    && !(s.musMode == 2 && (s.mus.cands.any fun c => decide (c.slot < e.slot)))
    && (s.queue 0).held.isEmpty
    && (if s.pairOn then
          (s.musMode == 1 || decide (e.first + s.dwin ≤ s.now))
            && !(s.pairState == 2 && s.pair.join != 3)
            && !s.anchorAwaited (e.tref / 65536)
        else true)

/-- In a pair, the first joint record of a join (R560): the host sends JOIN SEQ, the joiner numbers by it;
both become IN_STEP. -/
def joinCommit (e : Ev) (s : State) : State :=
  match s.pair.host with
  | some sj =>
    if (sj : Int) ≤ e.slot then
      let n := s.seqNext
      let s := s.plSend 0x07 0 [2 * 2 ^ 62 + sj % 2 ^ 40, n]
      (s.modPair fun a => { a with host := none }).wsets [(WR.PAIR_STATUS_STATE, 3),
        (WR.PAIR_JOIN_SEQ_LO_SEQ, n), (WR.PAIR_JOIN_SEQ_HI_SEQ, n / 2 ^ 32)]
    else s
  | none =>
    if s.pairState = 2 ∧ s.pair.join = 3 then
      let n := s.wget WR.PAIR_JOIN_SEQ_LO_SEQ + 2 ^ 32 * s.wget WR.PAIR_JOIN_SEQ_HI_SEQ
      ((s.modPair fun a => { a with join := 0 }).wset WR.PAIR_STATUS_STATE 3).setSeq n
    else s

/-- The event that is first in order commits (R296, R320). -/
def commitEv (e : Ev) (s : State) : State :=
  let s := s.joinCommit e
  let mode := s.musMode
  let renum := s.pairOn && mode == 0
  let num := (if renum then s.mus.nextEv else e.num) % 2 ^ 32
  let seq := s.seqNext
  let s := s.setSeq (seq + 1)
  let closed := e.secs.filter fun x => x.settled == 1
  let sources := closed.foldl (fun m x => m + 2 ^ x.port) 0
  let missing := (List.range 48).foldl (fun m p =>
    if bit p e.expect && !bit p sources then m + 2 ^ p else m) 0
  let frames := (closed.map fun x => x.words.map fun w => w.1 / 2 ^ 32).flatten
  let own := s.needLead && (s.leadAnchor (e.tref / 65536)).isNone
  let s := (s.wcountIf own WR.PAIR_TIME_CNT_OWN_ANCHOR).wcountIf (!e.own) WR.PAIR_EVT_CNT_FROM_PARTNER
  let (stamp, hold, step) := s.recStamp e.tref frames
  let flags := recFlags (closed.foldl (fun f x => f ||| x.flags) 0) + b2n (missing != 0)
    + b2n step * 2 ^ 12 + b2n hold * 2 ^ 13
  let body := recBody mode e
  let bytes := wordBytes body
  let sid := s.wget WR.ETH_CFG_STREAM_ID
  let bits' := stampBits stamp
  let digest := crc32c (recHeader mode e.cls num seq bits' sid sources missing flags ++ bytes)
  let ctx0 := pack [(255, 192, seq), (191, 160, bytes.length), (159, 48, bits'), (47, 0, sources)]
  let ctx1 := pack [(255, 208, missing), (207, 176, flags), (175, 144, num), (143, 136, e.cls),
    (135, 134, mode), (127, 112, sid), (111, 80, digest)]
  let s := (List.range 48).foldl (fun s p => s.wcountIf (bit p missing) (WR.MUS_PORT_CNT0_MISSING p)) s
  let s := closed.foldl (fun s x => s.wcountIf (bit 40 x.flags) (WR.MUS_PORT_CNT0_PARTIAL x.port)) s
  let s := s.modMus fun m => { m with
    evs := m.evs.filter fun x => x.key != e.key
    nextEv := if renum then m.nextEv + 1 else m.nextEv
    lastSlot := if mode = 1 then m.lastSlot else some e.slot
    held := m.held ++ [(seq, (closed.filter (·.stored)).length,
      8 * (closed.map fun x => x.words.length).foldl (· + ·) 0)] }
  let s := s.offerPacket 0 false (ctx0 :: ctx1 :: packBody body.length body)
  if s.inStep then (s.plSend 0x06 0 [seq, digest]).digestEnter seq digest false else s

/-- A Ledger descriptor that reads uncorrectable loses its fragment (R451): its space is freed when the
event commits. -/
def loseDesc (k : Int) (p : Nat) (s : State) : State :=
  match s.sec k p with
  | some x =>
    if x.stored && x.settled == 1 then
      (((s.unitStand 1 9).giveBack 1 (8 * x.words.length)).modSec k p fun x => { x with
        words := [], flags := 0, stored := false, settled := 2 })
    else s
  | none => s

/-- Commit the first event if it waits for nothing (R320); `lost` masks the ports whose descriptor reads
uncorrectable. -/
def commitFront (lost : Nat) (s : State) : State :=
  let s := s.openSlices
  match s.mus.evs with
  | [] => s
  | e :: _ =>
    if s.building' && s.evReady e then
      let s := (List.range 48).foldl (fun s p => if bit p lost then s.loseDesc e.key p else s) s
      match s.ev e.key with
      | some e => s.commitEv e
      | none => s
    else s

/-- Entry to RUNNING (R296, R297): events start afresh. -/
def musRun (s : State) : State :=
  let s := { s with mus := { Mus.reset with
    rx := s.mus.rx, nextEv := if s.musMode = 1 then (s.tick + 65535) / 65536 else 0
    prims := s.mus.prims, held := [] } }
  let base := s.wget WR.MUS_SEQ_BASE_LO_BASE + 2 ^ 32 * s.wget WR.MUS_SEQ_BASE_HI_BASE
  (s.setSeq base).wsets [(WR.MUS_STATUS_BUILDING, 1), (WR.MUS_LEDGER_IN_USE, 0)]

/-- Leaving RUNNING and DEGRADED: open events go. -/
def musStop (s : State) : State :=
  let s := { s with mus := { Mus.reset with nextEv := s.mus.nextEv } }
  s.wsets [(WR.MUS_STATUS_BUILDING, 0), (WR.MUS_LEDGER_IN_USE, 0), (WR.MUS_STATUS_SHED_SPEC, 0),
    (WR.MUS_STATUS_SHED_SELF, 0)]

/-! ### The view (R332) -/

/-- The viewed slot. -/
def viewSlot (s : State) : Int :=
  extend (2 ^ 40) (s.wget WR.MUS_VIEW_SLOT_LO_SLOT_LO + 2 ^ 32 * s.wget WR.MUS_VIEW_SEL_SLOT_HI : Nat)
    (s.tick / 32 : Nat)

/-- The word of the view at its index, as DATA_LO, DATA_HI and TAG read it. -/
def viewLatch (s : State) : State :=
  if s.mus.cands.any fun c => c.slot == s.viewSlot then
    match (s.window (s.wget WR.MUS_VIEW_SEL_PORT) s.viewSlot)[s.mus.view]? with
    | some x => s.wsets [(WR.MUS_VIEW_DATA_LO_DATA, x.word % 2 ^ 32), (WR.MUS_VIEW_DATA_HI_DATA, x.word / 2 ^ 32),
        (WR.MUS_VIEW_TAG_VALID, 1), (WR.MUS_VIEW_TAG_GONE, 0), (WR.MUS_VIEW_TAG_INDEX, s.mus.view)]
    | none => s.wsets [(WR.MUS_VIEW_DATA_LO_DATA, 0), (WR.MUS_VIEW_DATA_HI_DATA, 0),
        (WR.MUS_VIEW_TAG_VALID, 0), (WR.MUS_VIEW_TAG_GONE, 0), (WR.MUS_VIEW_TAG_INDEX, s.mus.view)]
  else s.wsets [(WR.MUS_VIEW_DATA_LO_DATA, 0), (WR.MUS_VIEW_DATA_HI_DATA, 0), (WR.MUS_VIEW_TAG_VALID, 0),
    (WR.MUS_VIEW_TAG_GONE, 1)]

/-- A read of MUS_VIEW_DATA_LO at the normal address: the word, then the next. -/
def viewRead (s : State) : State :=
  let s := s.viewLatch
  if s.won WR.MUS_VIEW_TAG_VALID then s.modMus fun m => { m with view := m.view + 1 } else s

end State

/-- HIT_WORD_RX (R57, R58, R138–R140, R308, R323): a type 00 or 01 word of a lane; `err` where its walk
table read is uncorrectable. -/
def execHitWordRx (lane word : Nat) (err : Bool) (s : State) : Res :=
  if s.laneUp lane && s.building' && decide (word / 2 ^ 62 < 2) then
    .next <| if s.musMode = 0 then s.fragWord (s.lanePort lane) (s.laneK lane) word err
      else s.streamWord (s.lanePort lane) (s.laneK lane) word err
  else .next s

/-- FRAG_HEAD_RX (R306, R307, R313). -/
def execFragHeadRx (lane acc start : Nat) (s : State) : Res :=
  if s.laneUp lane && s.building' && s.musMode == 0 then
    .next <| s.fragHead (s.lanePort lane) (s.laneK lane) acc start
  else .next s

/-- FRAG_TAIL_RX (R230, R313). -/
def execFragTailRx (lane body : Nat) (s : State) : Res :=
  if s.laneUp lane && s.building' && s.musMode == 0 then
    .next <| s.fragTail (s.lanePort lane) (s.laneK lane) body
  else .next s

/-- STREAM_HEAD_RX (R689). -/
def execStreamHeadRx (lane frame : Nat) (s : State) : Res :=
  if s.laneUp lane then .next <| s.streamHead (s.lanePort lane) (s.laneK lane) frame else .next s

/-- STREAM_END_RX (R308, R313). -/
def execStreamEndRx (lane body : Nat) (s : State) : Res :=
  if s.laneUp lane && s.building' && s.musMode != 0 then
    .next <| s.streamEnd (s.lanePort lane) (s.laneK lane) body
  else .next s

/-- EVENT_DEADLINE (R313, R314): of the event with key `key` (event number, slice or slot). -/
def execEventDeadline (key : Nat) (s : State) : Res := .next <| s.openSlices.evDeadline key

/-- EVENT_COMMIT (R296, R315–R321, R392, R451). -/
def execEventCommit (lost : Nat) (s : State) : Res := .next <| s.commitFront lost

/-- ANCHOR_WAIT_EXPIRY (R545): the own anchor is used once DWIN is over. -/
def execAnchorWaitExpiry (s : State) : Res := .next <| s.commitFront 0

/-- CANDIDATE_COMPLETE (R309, R324): every expected port's data of a slot's window has arrived. -/
def execCandidateComplete (slot : Nat) (s : State) : Res :=
  .next <| (s.modMus fun m => { m with
    cands := m.cands.map fun c => if c.slot = (slot : Int) then { c with complete := true } else c }).evComplete
      slot

/-- STALL_RELEASE (R325): slots whose last covering horizon has ended and that no event awaits. -/
def execStallRelease (s : State) : Res :=
  let last : Int := (s.tick / 32 : Nat) - s.horizon - (s.wPre + 31) / 32 - 1
    - (if s.pairOn then s.dwin / 32 else 0)
  let lim := match s.pinned with
    | some x => min last x
    | none => last
  .next <| s.modMus fun m => { m with
    stall := m.stall.map fun x => (x.1, x.2.filter fun y => decide (lim ≤ y.slot)) }

/-- HORIZON_EXPIRY (R327): due when the horizon of a candidate's slot ends. -/
def execHorizonExpiry (slot : Nat) (s : State) : Res :=
  let h := s.horizon * 32 + (if s.pairOn then s.dwin else 0)
  .next <| if 32 * slot + h ≤ s.tick then s.expireCand slot else s

/-- MUS_VIEW_SEL_WRITE (R332): SEL, or SLOT_LO where `lo`. -/
def execMusViewSelWrite (lo : Bool) (value : Nat) (s : State) : Res :=
  .next <| (s.wstore (if lo then WR.MUS_VIEW_SLOT_LO else WR.MUS_VIEW_SEL) value).modMus fun m => { m with
    view := 0 }

/-- MUS_VIEW_DATA_READ (R332). -/
def execMusViewDataRead (s : State) : Res := .next s.viewRead

end Sys2Proof.Machine
end

