-- ==== Sys2Proof/Machine/WnTrig.lean ====
section
/-! DEFINITION. Trigger decisions, the self-trigger, the primitive re-timer and candidates (spec/09
R298–R305, R323, R326–R329, R333; spec/13 R417–R421; spec/17 R549, R550, R560). -/

namespace Sys2Proof.Machine

open Sys2Proof

namespace State

/-! ### Events from decisions -/

/-- S_j, the join slot (R560), extended by R300. -/
def joinSlot (s : State) : Int :=
  extend (2 ^ 40) (s.wget WR.PAIR_JOIN_SLOT_LO_SLOT + 2 ^ 32 * s.wget WR.PAIR_JOIN_SLOT_HI_SLOT : Nat)
    (s.tick / 32 : Nat)

/-- A joiner opens events only from S_j on (R560). -/
def mayOpen (slot : Int) (s : State) : Bool :=
  if s.pairOn && s.pairState == 2 then decide (2 ≤ s.pair.join) && decide (s.joinSlot ≤ slot) else true

/-- A unit applies R549 to a partner decision IN_STEP, and from S_j on while a join runs (R549, R560). -/
def mayHear (slot : Int) (s : State) : Bool :=
  s.inStep || (s.pairOn && s.pairState == 2 && s.mayOpen slot) ||
    (match s.pair.host with
      | some sj => s.pairOn && decide ((sj : Int) ≤ slot)
      | none => false)

/-- The open event of a slot. -/
def evOfSlot (slot : Int) (s : State) : Option Ev := s.mus.evs.find? fun e => e.slot == slot

/-- A further accept merges into the open event of its slot (R301, R328, R549). -/
def mergeEv (e : Ev) (cls : Nat) (own : Bool) (s : State) : State :=
  s.modEv e.key fun e => { e with cls := e.cls ||| cls, own := e.own || own }

/-- An accept of a slot at or below the slot of the last committed event comes too late (R329, R550). -/
def behind (slot : Int) (s : State) : Bool :=
  match s.mus.lastSlot with
  | some l => decide (slot ≤ l)
  | none => false

/-- A forwarded accept, or in a pair a partner's, opens the next event (R297, R302, R549, R550). -/
def openTriggered (slot : Int) (cls : Nat) (own : Bool) (s : State) : State :=
  if !s.building' || !s.mayOpen slot then s
  else if s.pairOn then
    match s.evOfSlot slot with
    | some e => s.mergeEv e cls own
    | none =>
      if s.behind slot then s.wcountIf (!own) WR.PAIR_EVT_CNT_DEC_LATE
      else s.openEv slot 0 slot cls (s.slotRef slot) s.tick own
  else
    let n := s.mus.nextEv
    (s.openEv n n slot cls (s.slotRef slot) s.tick own).modMus fun m => { m with nextEv := n + 1 }

/-- A decision for a slot comes after its horizon (R326); a partner's may come DWIN later (R550). -/
def decisionLate (slot : Int) (own : Bool) (s : State) : Bool :=
  decide (32 * (slot + s.horizon) + (if own then 0 else (s.dwin : Int)) ≤ (s.tick : Int))

/-- A candidate's slot is decided: it leaves the table. -/
def dropCand (slot : Int) (s : State) : State :=
  s.modMus fun m => { m with cands := m.cands.filter fun c => c.slot != slot }

/-- A decision in speculative operation (R326–R329, R549, R550): `code` 1 ACCEPT, 2 REJECT. -/
def specDecide (code : Nat) (slot : Int) (cls : Nat) (own : Bool) (s : State) : State :=
  if !s.building' then s
  else if s.decisionLate slot own then s.specCount 4
  else if code = 2 then
    if s.mus.cands.any fun c => c.slot == slot then (s.dropCand slot).specCount 2 else s
  else
    match s.evOfSlot slot with
    | some e => s.mergeEv e cls own
    | none =>
      if s.behind slot then
        if own then (s.specCount 6).wset WR.MUS_STATUS_ORDER_LATE 1 else s.wadd WR.PAIR_EVT_CNT_DEC_LATE 1
      else if !s.mayOpen slot then s
      else
        let cand := s.mus.cands.find? fun c => c.slot == slot
        let s := ((if cand.isNone then s.specCount 5 else s).specCount 1).dropCand slot
        let s := s.openEv slot slot.toNat slot cls (s.slotRef slot) s.tick own
        match cand with
        | some c => if c.complete then s.evComplete slot else s
        | none => s

/-- The partner's copy of a decision leaves (R549). -/
def tellPartner (src word : Nat) (s : State) : State := s.plSend 0x02 src [word]

/-- A decision word of the partner (R549, R550). -/
def partnerDecision (word : Nat) (s : State) : State :=
  let slot := extend (2 ^ 40) (bits 39 0 word : Nat) (s.tick / 32 : Nat)
  if !s.mayHear slot then s
  else if s.musMode = 0 then
    if bits 63 60 word = 1 then s.openTriggered slot (bits 59 52 word) false else s
  else if s.musMode = 2 then s.specDecide (bits 63 60 word) slot (bits 59 52 word) false
  else s

/-! ### TL links (R298–R302) -/

/-- The CRC of a decision word holds (R299). -/
def decisionOk (w : Nat) : Bool :=
  crc8 ((beBytes 8 w).take 2 ++ (beBytes 8 w).drop 3) == bits 47 40 w

/-- A decision word from its fields (R299). -/
def decisionWord (code cls : Nat) (slot : Int) : Nat :=
  let w := pack [(63, 60, code), (59, 52, cls), (39, 0, unsigned 40 slot)]
  w + crc8 ((beBytes 8 w).take 2 ++ (beBytes 8 w).drop 3) * 2 ^ 40

/-- The link delivers decisions (MUS_CFG). -/
def tlEn (t : Nat) (s : State) : Bool := if t = 0 then s.won WR.MUS_CFG_TL0_EN else s.won WR.MUS_CFG_TL1_EN

/-- An accept on its way to the downlinks leaves 192 ticks after it came, in the first cell from then on
(R25, R301). -/
def queueAccept (src : Nat) (slot : Int) (cls at' : Nat) (s : State) : State :=
  s.modMus fun m => { m with accs := m.accs ++ [⟨(at' + 31) / 32, src, slot, cls⟩] }

/-- A block of TLt (R298–R302). -/
def tlBlock (t hdr word : Nat) (s : State) : State :=
  if hdr = 2 ∧ word = 0 then s
  else if hdr ≠ 1 ∨ !decisionOk word ∨ (bits 63 60 word ≠ 1 ∧ bits 63 60 word ≠ 2) then
    s.wadd (WR.MUS_SRC_CNT_CRC_ERR t) 1
  else
    let s := s.wadd (WR.MUS_SRC_CNT_DECISIONS t) 1
    if !s.tlEn t then s
    else
      let slot := extend (2 ^ 40) (bits 39 0 word : Nat) (s.tick / 32 : Nat)
      let cls := bits 59 52 word
      let s := s.tellPartner t word
      if !s.isRun then s
      else if s.musMode = 0 then
        if bits 63 60 word = 1 then s.queueAccept t slot cls (s.tick + 192) else s
      else if s.musMode = 2 then s.specDecide (bits 63 60 word) slot cls true
      else s

/-- A port that receives accepts (R301): IN_BUILD, or ATTACHING once STATE ACQUIRE was sent. -/
def takesAccept (p : Nat) (s : State) : Bool :=
  s.portState p == 4 || (s.portState p == 1 && (s.port p).step == 4)

/-- The accepts of the cell that begins (R301, R302): one is forwarded and opens an event. -/
def forwardCell (s : State) : State :=
  let cell := s.tick / 32
  let mine := sortBy (fun a b => decide (a.src ≤ b.src)) (s.mus.accs.filter fun a => decide (a.cell ≤ cell))
  let s := s.modMus fun m => { m with accs := m.accs.filter fun a => decide (cell < a.cell) }
  match mine with
  | [] => s
  | a :: r =>
    let cls := r.foldl (fun c x => if x.slot = a.slot then c ||| x.cls else c) a.cls
    let lost := r.filter fun x => x.slot != a.slot
    let s := lost.foldl (fun s x => s.wadd (WR.MUS_SRC_CNT_COLLIDED x.src) 1) s
    let s := if lost.isEmpty then s else s.wset WR.MUS_STATUS_TL_COLLIDE 1
    let s := (List.range 48).foldl (fun s p =>
      if s.takesAccept p then s.emit (.dlAccept p (unsigned 16 a.slot)) else s) s
    s.openTriggered a.slot cls true

/-! ### Primitives (R417–R421) -/

/-- LAT, clamped (R417). -/
def lat (s : State) : Nat := max 205 (min 256 (s.wget WR.ADM_PRIM_CFG_LAT))

/-- The tick at which the PO cell of a slot leaves (R417). -/
def releaseTick (slot : Nat) (s : State) : Nat := 32 * slot + s.wget WR.ADM_PRIM_CFG_UPMAX + s.lat

/-- The PO mask (R419). -/
def poMask (n : Nat) (s : State) : Nat :=
  if n = 0 then s.wget WR.ADM_PO_MASK0_LO_MASK + 2 ^ 32 * s.wget WR.ADM_PO_MASK0_HI_MASK
  else s.wget WR.ADM_PO_MASK1_LO_MASK + 2 ^ 32 * s.wget WR.ADM_PO_MASK1_HI_MASK

/-- The Tladon of a port sends a window for a slot (R420). -/
def sendsWindow (p slot : Nat) (s : State) : Bool :=
  s.laneUp p &&
    (match (s.port p).entry with
      | none => false
      | some e => decide (e ≤ 32 * (slot : Int) - (s.port p).shift)) &&
    (match (s.port p).relink with
      | none => true
      | some t => decide (32 * slot + 127 < t ∨ (t / 65536 + 3) * 65536 ≤ 32 * slot + 127))

/-- The contribution of two words of a window (R238): counts of the eight groups and the sum. -/
def primOf (ws : List Nat) : List Nat × Nat :=
  let half (h : Nat) : Nat := (ws.find? fun w => bits 61 61 w == h).getD 0
  let one (w : Nat) : List Nat := [bits 55 49 w, bits 41 35 w, bits 27 21 w, bits 13 7 w]
  let sums (w : Nat) : Nat := bits 48 42 w + bits 34 28 w + bits 20 14 w + bits 6 0 w
  (one (half 0) ++ one (half 1), sums (half 0) + sums (half 1))

/-- A window of a slot enters the combination (R420); once the slot is captured it is too late. -/
def offerPrim (p slot : Nat) (ws : List Nat) (s : State) : State :=
  if (SMap.find slot s.mus.caps).isSome || decide (s.releaseTick slot < s.tick + 10) then s
  else
    let (c, sum) := primOf ws
    s.modMus fun m => { m with prims := SMap.modify [] slot (fun l => l ++ [⟨p, c, sum, s.tick⟩]) m.prims }

/-- The totals C, Σ and G of contributions (R303, R418). -/
def primSum (l : List Prim) : Nat × Nat × Nat :=
  let cs := (l.map (·.counts)).flatten
  (cs.foldl (· + ·) 0, (l.map (·.sum)).foldl (· + ·) 0, (cs.filter fun c => c != 0).length)

/-- The conditions of R303. -/
def selfMeets (l : List Prim) (s : State) : Bool :=
  let (c, sum, g) := primSum l
  let a := s.wget WR.MUS_SELF_THR0_MIN_COUNT
  let b := s.wget WR.MUS_SELF_THR0_MIN_SUM
  let d := s.wget WR.MUS_SELF_THR1_MIN_GROUPS
  decide (a + b + d ≠ 0 ∧ a ≤ c ∧ b ≤ sum ∧ d ≤ g)

/-- The hold-off of R303 has passed for a slot. -/
def selfFree (slot : Int) (s : State) : Bool :=
  match s.mus.selfFrom with
  | none => true
  | some f => decide (f ≤ slot)

/-- The self-trigger fires, or the firing is withheld (R303, R333). -/
def selfFire (slot : Int) (s : State) : State :=
  if !s.selfFree slot then s
  else
    let s := s.modMus fun m => { m with selfFrom := some (slot + s.wget WR.MUS_SELF_CFG_HO + 1) }
    if s.won WR.MUS_STATUS_SHED_SELF ||
        (s.won WR.MUS_STATUS_SHED_SPEC && s.won WR.MUS_SELF_CFG_CONTENT && s.musMode == 2) then
      s.wadd WR.MUS_SELF_CNT_SHED 1
    else s.modMus fun m => { m with fired := m.fired ++ [(slot, true)] }

/-- The self-trigger evaluates a captured slot (R303, R305, R333). -/
def selfEval (slot : Nat) (l : List Prim) (s : State) : State :=
  if !(s.won WR.MUS_SELF_CFG_EN && s.isRun && s.selfMeets l && s.selfFree slot) then s
  else if s.musMode == 2 && s.won WR.MUS_SELF_CFG_CONTENT && !s.won WR.MUS_STATUS_SHED_SPEC then
    s.modMus fun m => { m with fired := m.fired ++ [((slot : Int), false)] }
  else s.selfFire slot

/-- The re-timer captures a slot (R420). -/
def capture (slot : Nat) (s : State) : State :=
  let got := (SMap.getD [] slot s.mus.prims).filter fun x => s.portState x.port == 4
  let late := (List.range 48).filter fun p => s.portState p == 4 && s.sendsWindow p slot
    && !(got.any fun x => x.port == p)
  let n := (late.filter fun p => bit p (s.poMask 0) || bit p (s.poMask 1)).length
  let margin := got.foldl (fun m x => min m (s.tick - x.ready)) (s.wget WR.ADM_PRIM_STAT_MARGIN_MIN)
  let s := (s.wadd WR.ADM_PRIM_STAT_LATE n).wset WR.ADM_PRIM_STAT_MARGIN_MIN margin
  let s := s.modMus fun m => { m with
    prims := SMap.erase slot m.prims, caps := SMap.insert slot ⟨got, late⟩ m.caps }
  s.selfEval slot got

/-- The PO cell of a slot (R418). -/
def poCell (n slot : Nat) (cap : PrimCap) (s : State) : Nat :=
  let mask := s.poMask n
  let on := s.isRun && (if n = 0 then s.won WR.ADM_PO_CTRL_PO0_EN else s.won WR.ADM_PO_CTRL_PO1_EN)
  let l := cap.prims.filter fun x => bit x.port mask
  let (c, sum, g) := primSum l
  let late := (cap.late.filter fun p => bit p mask).length
  let body := if on then
      pack [(253, 214, slot), (213, 200, min c 16383), (199, 186, min sum 16383), (185, 177, g),
        (176, 171, min late 63), (122, 122, 1)]
        + l.foldl (fun m x => if bit (x.port + 123) m then m else m + 2 ^ (x.port + 123)) 0
    else pack [(253, 214, slot)]
  let w := 2 ^ 255 + body
  w + crc16 (beBytes 30 (w / 65536))

/-- A candidate opens for a slot whose combined count reaches OPEN_COUNT (R323, R333). -/
def openCand (slot : Nat) (l : List Prim) (s : State) : State :=
  if !(s.building' && s.musMode == 2) then s
  else if (primSum l).1 < max 1 (s.wget WR.MUS_SPEC_CFG_OPEN_COUNT) then s
  else if s.won WR.MUS_STATUS_SHED_SPEC then s.specCount 8
  else if (s.mus.cands.any fun c => c.slot == (slot : Int)) || (s.evOfSlot slot).isSome then s
  else (s.modMus fun m => { m with cands := m.cands ++ [⟨slot, false⟩] }).specCount 0

/-- The cells of a slot leave PO0 and PO1 (R417–R419). -/
def releaseCell (slot : Nat) (s : State) : State :=
  let cap := SMap.getD ⟨[], []⟩ slot s.mus.caps
  let s := (s.emit (.po 0 (s.poCell 0 slot cap))).emit (.po 1 (s.poCell 1 slot cap))
  let s := s.modMus fun m => { m with
    prims := m.prims.filter fun x => decide (slot < x.1), caps := m.caps.filter fun x => decide (slot < x.1) }
  s.openCand slot cap.prims

/-! ### Self-trigger accepts (R304, R305) -/

/-- The self-trigger's accept of a slot (R304, R301, R328, R549). -/
def selfAccept (slot : Int) (s : State) : State :=
  let cls := s.wget WR.MUS_SELF_CFG_CLASS
  let s := (s.wadd (WR.MUS_SRC_CNT_DECISIONS 2) 1).tellPartner 2 (decisionWord 1 cls slot)
  if s.musMode = 0 then s.queueAccept 2 slot cls (s.releaseTick slot.toNat + 224)
  else if s.musMode = 2 then s.specDecide 1 slot cls true
  else s

/-- The hits of a slot's window that the content test counts (R305). -/
def contentHits (slot : Int) (s : State) : Nat :=
  (((List.range 48).filter fun p => bit p s.expectMask && s.inBuild p).map fun p =>
    ((s.window p slot).filter fun x => bits 63 62 x.word == 0 &&
      decide (s.wget WR.MUS_SELF_TOT_TOT_MIN ≤ bits 28 13 x.word)).length).foldl (· + ·) 0

end State

/-- TL_DECISION_RX (R298–R302, R326–R329, R549): a block of TL0 or TL1, its 2-bit header and its body. -/
def execTlDecisionRx (link : Bool) (hdr word : Nat) (s : State) : Res := .next <| s.tlBlock (b2n link) hdr word

/-- ACCEPT_FORWARD (R301, R302): at a cell boundary of the downlinks. -/
def execAcceptForward (s : State) : Res :=
  .next <| if s.isRun && s.musMode == 0 && s.tick % 32 == 0 then s.forwardCell else s

/-- PRIMITIVE_CAPTURE (R420): 10 ticks before the release of a slot. -/
def execPrimitiveCapture (slot : Nat) (s : State) : Res :=
  .next <| if s.tick + 10 = s.releaseTick slot then s.capture slot else s

/-- PO_CELL_RELEASE (R417–R419, R323). -/
def execPoCellRelease (slot : Nat) (s : State) : Res :=
  .next <| if s.tick = s.releaseTick slot ∧ 2 ≤ s.ws then s.releaseCell slot else s

/-- SELF_TRIGGER_ACCEPT (R304): a slot that fired, once its primitives have left. -/
def execSelfTriggerAccept (slot : Nat) (s : State) : Res :=
  if s.isRun && (s.mus.fired.any fun x => x.1 == (slot : Int) && x.2) && decide (s.releaseTick slot ≤ s.tick) then
    .next <| (s.modMus fun m => { m with fired := m.fired.filter fun x => x.1 != (slot : Int) }).selfAccept slot
  else .next s

/-- SELF_TRIGGER_CONTENT_TEST (R305): once the data of a slot whose firing waits for it is complete. -/
def execSelfTriggerContentTest (slot : Nat) (s : State) : Res :=
  let wait := s.mus.fired.any fun x => x.1 == (slot : Int) && !x.2
  let done := s.mus.cands.any fun c => c.slot == (slot : Int) && c.complete
  if wait && done then
    let t := s.modMus fun m => { m with fired := m.fired.filter fun x => x.1 != (slot : Int) }
    .next <| if s.won WR.MUS_STATUS_SHED_SPEC || decide (s.wget WR.MUS_SELF_THR1_MIN_HITS ≤ s.contentHits slot) then
      t.selfFire slot else t
  else .next s

end Sys2Proof.Machine
end

