-- ==== Sys2Proof/Machine/WnIng.lean ====
section
/-! DEFINITION. Ingress lanes, ports, the attach sequence, downlink transmitters and the proxy windows
(spec/00 R13; spec/01 R20–R22; spec/02 R41–R45, R49, R62, R65, R66; spec/08 R247–R251, R254, R258–R264,
R271–R279, R286–R291; spec/17 R548). -/

namespace Sys2Proof.Machine

open Sys2Proof

namespace State

/-! ### Ports and lanes -/

/-- Store the state of a port and what ING_STATUS counts. -/
def setPort (p st : Nat) (s : State) : State :=
  let s := s.wset (WR.ING_PORT_STATUS_STATE p) st
  let l := (List.range 48).map fun q => s.portState q
  s.wsets [(WR.ING_STATUS_ATTACHED, (l.filter fun x => x == 3 || x == 4).length),
    (WR.ING_STATUS_IN_BUILD, (l.filter (· == 4)).length)]

/-- The lanes of a port. -/
def portLanes (p : Nat) (s : State) : List Nat := (List.range (s.bonded p)).map (p + ·)

/-- RELINK for a lane's uplink (R261, R263). -/
def relink (l : Nat) (s : State) : State := s.dlOp (s.lanePort l) 0x11 (2 ^ s.laneK l)

/-- A lane goes to DOWN (0) or HUNT (1): outstanding replays count as NACKED (R262) and words on their way
are lost. -/
def laneDrop (l st : Nat) (s : State) : State :=
  let n := (s.lane l).wait.length
  let was := s.wget (WR.ING_LANE_STATUS_STATE l)
  let s := s.wadd (WR.ING_LANE_FAULT_NACKED l) n
  let s := if was = 0 ∨ was = 1 then s else s.wordsLost (s.lanePort l) (s.laneK l)
  let at0 := if was = 0 ∨ was = 1 then (s.lane l).lostAt else s.tick
  (s.modLane l fun x => { x with
    good := 0, num := none, bad := 0, ident := none, wait := [], norep := [], lostAt := at0 }).wset
      (WR.ING_LANE_STATUS_STATE l) st

/-- A lane enters HUNT; of a port in ACQUIRING, its uplink is sent RELINK (R263). -/
def laneHunt (l : Nat) (s : State) : State :=
  let p := s.lanePort l
  let s := s.laneDrop l 1
  if s.wget (WR.ING_PORT_STATUS_TSTATE p) = 3 ∧ s.portState p ≠ 0 ∧ s.portState p ≠ 6 then s.relink l else s

/-- A lane becomes FAULTY (R259, R261). -/
def laneFaulty (l cause : Nat) (s : State) : State :=
  let p := s.lanePort l
  let s := (s.wsets [(WR.ING_LANE_STATUS_STATE l, 4), (WR.ING_LANE_STATUS_CAUSE l, cause)]).modLane l
    fun x => { x with wait := [] }
  s.leaveBuilding p

/-- REACH (R260): F in use is at most 11.0 µs. -/
def reach (l : Nat) (s : State) : Bool :=
  let p := s.lanePort l
  let t := s.tri' p
  let f : Int := if s.won (WR.TRI_STATUS_AVERAGED p) || t.part.isEmpty then
      signed 32 (s.wget (WR.TRI_RTT_F p))
    else meanOf (t.part.map (·.f))
  s.won WR.ING_CTRL_REPLAY_EN && s.won (WR.TRI_STATUS_VALID p)
    && decide (f * 10000000 ≤ 110 * 65536 * 32 * s.freq)

/-- The words of an RS block are lost (R259, NACKED). -/
def blockLost (l num : Nat) (s : State) : State :=
  ((s.wadd (WR.ING_LANE_FAULT_NACKED l) 1).modLane l fun x => { x with
    wait := x.wait.filter fun y => y.1 != num }).wordsLost (s.lanePort l) (s.laneK l)

/-! ### RS blocks (R246, R247, R259, R262) -/

/-- A block in HUNT: 8 consecutive blocks with rising numbers lock the lane (R262, R53). -/
def huntBlock (l num : Nat) (ok : Bool) (s : State) : State :=
  let x := s.lane l
  let good := if !ok then 0 else if x.num = some ((num + 127) % 128) then x.good + 1 else 1
  let s := s.modLane l fun x => { x with num := if ok then some num else none, good := good }
  if 8 ≤ good then
    ((s.wset (WR.ING_LANE_STATUS_STATE l) 2).modLane l fun x => { x with bad := 0 }).triRestart (s.lanePort l)
  else s

/-- An uncorrectable original block of a lane that is locked (R259, R262). -/
def badBlock (l num : Nat) (s : State) : State :=
  let bad := (s.lane l).bad + 1
  let s := s.modLane l fun x => { x with bad := bad }
  if 16 ≤ bad then s.laneHunt l
  else if s.reach l then
    (s.modLane l fun x => { x with wait := x.wait ++ [(num, 0)] }).dlOp (s.lanePort l) 0x10
      (s.laneK l * 128 + num)
  else
    let recent := (s.lane l).norep.filter fun t => decide (s.tick < t + 65536)
    let s := ((s.wadd (WR.ING_LANE_FAULT_NO_REPLAY l) 1).modLane l fun x => { x with
      norep := recent ++ [s.tick] }).wordsLost (s.lanePort l) (s.laneK l)
    if 8 ≤ recent.length + 1 then s.laneFaulty l 2 else s

/-- An RS block of a lane (R259): its number, whether it is a replay, and `fix`: bytes corrected, 9 for
uncorrectable. -/
def rsBlock (l num : Nat) (replay : Bool) (fix : Nat) (s : State) : State :=
  let st := s.wget (WR.ING_LANE_STATUS_STATE l)
  if st = 0 ∨ st = 4 then s
  else
    let ok := decide (fix ≤ 8)
    let s := if ok && decide (0 < fix) then
        (s.wadd (WR.ING_LANE_CW_CW_CORR l) 1).wadd (WR.ING_LANE_CW_BYTE_CORR l) fix
      else s
    if st = 1 then if replay then s else s.huntBlock l num ok
    else if replay then
      if (s.lane l).wait.any fun y => y.1 == num then
        if ok then
          (s.wadd (WR.ING_LANE_FAULT_TRANSIENT l) 1).modLane l fun x => { x with
            wait := x.wait.filter fun y => y.1 != num }
        else s.laneFaulty l 1
      else s
    else
      let s := s.modLane l fun x => { x with
        num := some num, wait := x.wait.map fun y => (y.1, y.2 + 1) }
      let gone := (s.lane l).wait.filter fun y => decide (64 ≤ y.2)
      let s := gone.foldl (fun s y => s.blockLost l y.1) s
      if ok then s.modLane l fun x => { x with bad := 0 } else s.badBlock l num

/-! ### Attach (R13, R264, R286, R287) -/

/-- R287 step 1. -/
def attach (p n : Nat) (s : State) : State :=
  ((s.modPort p fun t => { t with group := n, step := 1 }).setPort p 1).dlAccess p 0x02 0x0004 0 1

/-- R287 steps 1 (R13), 2 and 3, once Wonan runs; R548 leaves them to the holder. -/
def configure (p : Nat) (s : State) : State :=
  if !s.isRun || (s.port p).step != 2 || s.partnerHolds p then s
  else
    let need := ((s.tport p).map (·.cap)).getD 0
    let have' := s.wget (WR.ING_PORT_CAP_CAP p)
    if (bit 0 need && !bit 0 have') || (bit 1 need && !bit 1 have') then
      ((s.wset (WR.ING_PORT_STATUS_CAP_MISMATCH p) 1).modPort p fun t => { t with step := 0 }).setPort p 2
    else
      let ws := ((s.tport p).map (·.writes)).getD []
      let s := ws.foldl (fun s w => s.dlAccess p 0x01 w.1 w.2 1) s
      let s := (s.dlOp p 0x08 2).modPort p fun t => { t with step := 3 }
      if s.won WR.ING_CTRL_AUTO_ATTACH then s else s.setPort p 3

/-- EPOCH by R44 and SLOT_SHIFT by R45, with the EPOCH_NOTE of R548. -/
def sendEpoch (p : Nat) (s : State) : State :=
  let (j, shift) := chooseEpoch (s.thetaFor p (s.tick / 65536 : Nat))
  let c := unsigned 42 j
  let base := ((((s.tport p).map (·.writes)).getD []).reverse.find? fun w => w.1 == 0x0200).map (·.2)
    |>.getD 0x00200003
  let s := s.dlSend p ⟨0x04, 0, c / 2 ^ 32, c % 2 ^ 32⟩
  let s := s.dlAccess p 0x01 0x0200 (base - bits 13 8 base * 256 + unsigned 6 shift * 256) 1
  let s := s.modPort p fun t => { t with shift := shift }
  s.plSend 0x05 0 [pack [(63, 58, p), (57, 32, (s.tick + 2048) / 65536), (5, 0, unsigned 6 shift)], c]

/-- R287 steps 4 to 6. -/
def acquire (p : Nat) (s : State) : State :=
  if s.isRun && s.portState p == 1 && (s.port p).step == 3 && s.r54 p && !s.partnerHolds p then
    (((s.sendEpoch p).dlOp p 0x08 3).modPort p fun t => { t with step := 4 }).setPort p 4
  else s

/-- A lane's place satisfies R20: its first lane is a multiple of n, with every lane of the group present. -/
def placeOk (l : Nat) (i : LaneIdent) (s : State) : Bool :=
  decide (i.pos ≤ l) && (l - i.pos) % i.bond == 0 && decide (l - i.pos + i.bond ≤ s.lanesCount)

/-- R264, when lane `l` became IDENTIFIED. -/
def regroup (l : Nat) (s : State) : State :=
  match (s.lane l).ident with
  | none => s
  | some me =>
    let mates := (List.range 48).filter fun x => s.wget (WR.ING_LANE_STATUS_STATE x) == 3 &&
      (match (s.lane x).ident with
        | some i => i.serial == me.serial && i.copy == me.copy
        | none => false)
    let ident (x : Nat) : LaneIdent := ((s.lane x).ident).getD me
    let wrong := mates.filter fun x => !s.placeOk x (ident x) || (ident x).bond != me.bond
      || x - (ident x).pos != l - me.pos
    match wrong with
    | x :: _ => s.wset (WR.ING_PORT_STATUS_BOND_ERR (x - (ident x).pos)) 1
    | [] =>
      let b := l - me.pos
      if !((List.range me.bond).all fun k => mates.contains (b + k)) then s
      else
        let st := s.portState b
        let s := s.wsets [(WR.ING_PORT_STATUS_BOND b, me.bond.log2), (WR.ING_PORT_STATUS_MIRROR b, me.copy)]
        if st = 0 ∨ st = 6 ∨ (st = 1 ∧ (s.port b).step = 0) then s.attach b me.bond else s

/-- The port's lanes are all identified as one group, so that R264 allows an attach. -/
def attachable (p : Nat) (s : State) : Bool :=
  (s.portLanes p).all fun l => s.wget (WR.ING_LANE_STATUS_STATE l) == 3

/-- A valid LANE_ID (R251), or nothing. -/
def laneIdOf (body : Nat) : Option LaneIdent :=
  let n := if bits 23 22 body = 0 then 1 else if bits 23 22 body = 1 then 2 else 4
  if bits 23 22 body = 3 ∨ n ≤ bits 21 20 body ∨ (bit 19 body ∧ n ≠ 2) then none
  else some ⟨bits 55 24 body, n, bits 21 20 body, bits 19 19 body⟩

/-- The Tladon of a port obeys no downlink of this Wonan (R251, ING_PORT_STATUS.REMOTE). -/
def remoteOf (body : Nat) (s : State) : Bool := bit 14 body || bit 15 body != s.sideB

/-- What a LANE_ID says of a port. -/
def laneIdPort (p body : Nat) (s : State) : State :=
  s.wsets [(WR.ING_PORT_STATUS_TSTATE p, bits 18 16 body), (WR.ING_PORT_STATUS_TIE p, bits 13 13 body),
    (WR.ING_PORT_STATUS_REMOTE p, b2n (s.remoteOf body))]

/-- A port that the partner holds goes to IN_BUILD once its Tladon is in ACQUIRING (R548, R288). -/
def followAcquire (p : Nat) (s : State) : State :=
  if s.partnerHolds p && s.isRun && (s.portState p == 1 || s.portState p == 3) then s.setPort p 4 else s

/-- LANE_ID (R251, R262, R264). -/
def laneId (l body : Nat) (s : State) : State :=
  let st := s.wget (WR.ING_LANE_STATUS_STATE l)
  if st ≠ 2 ∧ st ≠ 3 then s
  else match laneIdOf body with
    | none => s
    | some i =>
      let old := (s.lane l).ident
      let s := (s.modLane l fun x => { x with ident := some i, seen := true }).wset
        (WR.ING_LANE_SERIAL_SERIAL l) i.serial
      if st = 3 then
        if old = some i then
          if i.pos = 0 then
            let s := s.laneIdPort l body
            if bits 18 16 body = 3 ∧ (s.port l).entry = none ∧ s.partnerHolds l then
              (s.modPort l fun t => { t with entry := some s.tick }).followAcquire l
            else s
          else s
        else s.laneHunt l
      else if old = some i then
        let s := s.wsets [(WR.ING_LANE_STATUS_STATE l, 3), (WR.ING_LANE_STATUS_PORT l, l - i.pos),
          (WR.ING_LANE_STATUS_POS l, i.pos), (WR.ING_LANE_STATUS_BOND l, i.bond.log2),
          (WR.ING_LANE_STATUS_COPY l, i.copy)]
        (if i.pos = 0 then s.laneIdPort l body else s).regroup l
      else s

/-- A port is DETACHED once all its lanes have been DOWN or in HUNT for 4,096 ticks (R290). -/
def detached (p : Nat) (s : State) : State :=
  let st := s.portState p
  if st ≠ 0 ∧ st ≠ 5 ∧ st ≠ 6 ∧ (s.portLanes p).all fun l =>
      decide (s.wget (WR.ING_LANE_STATUS_STATE l) < 2) && decide ((s.lane l).lostAt + 4096 ≤ s.tick) then
    let s := s.leaveBuilding p
    (s.modPort p fun t => { t with step := 0, entry := none }).setPort p 6
  else s

/-- DETACH (R290). -/
def detach (p : Nat) (s : State) : State :=
  let st := s.portState p
  if st = 0 ∨ st = 5 ∨ st = 6 then s
  else
    let s := (s.leaveBuilding p).dlOp p 0x08 4
    (s.modPort p fun t => { t with step := 0 }).setPort p 5

/-- ATTACH (R287, R290). -/
def attachWrite (p : Nat) (s : State) : State :=
  if s.portState p = 3 then s.setPort p 1
  else if s.portState p = 5 then
    let s := ((s.dlOp p 0x08 1).modPort p fun t => { t with step := 0, entry := none }).setPort p 1
    if s.attachable p then s.attach p (s.bonded p) else s
  else s

/-- Entry to RUNNING: ports whose ID_CAP was read go on (R287, R429). -/
def portsRun (s : State) : State := (List.range 48).foldl (fun s p => s.configure p) s

/-- STOP (R429): RELEASE and STATE LISTEN on every port that is not EMPTY, unless the partner runs (R564:
`tell` false); each attaches again. -/
def portsStop (tell : Bool) (s : State) : State :=
  (List.range 48).foldl (fun s p =>
    let st := s.portState p
    if st = 0 then s
    else
      let s := if tell then (s.dlOp p 0x07 0).dlOp p 0x08 1 else s
      let s := s.modPort p fun t => { t with entry := none }
      if st = 6 then s else s.attach p (s.bonded p)) s

/-! ### Words of a port (R62, R65, R66, R275, R276) -/

/-- The full tick of an event from its tick-in-frame and the tick at which its word left (R257). -/
def eventTick (dep tif : Nat) (s : State) : Int :=
  let d := s.ext42 dep
  d - (d - tif) % 65536

/-- CLKSW (R53, R62): its copies on the other uplinks say the same. -/
def clksw (p dep body : Nat) (s : State) : State :=
  let t := s.eventTick dep (bits 54 39 body)
  if (s.port p).clksw.contains t then s
  else ((s.modPort p fun x => { x with clksw := (t :: x.clksw).take 16 }).triRestart p).wset
    (WR.TRI_STATUS_CLKSW_SEEN p) 1

/-- HOLD (R53, R65): the span ends 12,800 ticks after an end word. -/
def holdWord (p dep body : Nat) (s : State) : State :=
  let t := s.eventTick dep (bits 54 39 body)
  if bit 55 body then
    if (s.port p).holds.any fun h => h.1 == t then s
    else (s.modPort p fun x => { x with holds := ((t, none) :: x.holds).take 16 }).triRestart p
  else if (s.port p).holds.any fun h => h.2 == none then
    (s.modPort p fun x => { x with
      holds := x.holds.map fun h => if h.2 = none then (h.1, some (t + 12800)) else h }).triRestart p
  else s

/-- A STATE word (R276, R227, R288, R313). -/
def stateWord (p body : Nat) (s : State) : State :=
  let t := s.ext42 (bits 41 0 body)
  let s := s.wset (WR.ING_PORT_STATUS_TSTATE p) (bits 55 53 body)
  if bits 55 53 body = 3 then
    ((s.modPort p fun x => { x with entry := some t }).modPrx p fun _ => PortRx.reset).followAcquire p
  else if bits 52 50 body = 3 then
    (s.leaveBuilding p).modPort p fun x => { x with
      entry := none
      holds := x.holds.map fun h => if h.2 = none then (h.1, some t) else h }
  else s

/-- REG_DATA (R275): the access it completes. -/
def takeWait (p tag : Nat) (s : State) : Option Access × State :=
  match (s.dlink p).waits.find? fun a => a.tag == tag with
  | none => (none, s)
  | some a => (some a, s.modDlink p fun d => { d with waits := d.waits.erase a })

/-- REG_DATA of the attach sequence and of the proxy window (R275, R287, R291). -/
def regData (p : Nat) (a : Access) (data : Nat) (s : State) : State :=
  if a.kind = 1 then
    if a.addr = 4 ∧ (s.port p).step = 1 then
      ((s.wset (WR.ING_PORT_CAP_CAP p) data).modPort p fun t => { t with step := 2 }).configure p
    else s
  else if a.kind = 2 then s.emit (.proxy p a.addr (some data))
  else s

/-! ### Downlink transmitters (R271, R277–R279) -/

/-- Every DLx owes a CLAIM in its next command slot (R564). -/
def claimNow (s : State) : State :=
  (List.range s.lanesCount).foldl (fun s p => s.modDlink p fun d => { d with claimDue := true }) s

/-- The command that a downlink sends next, by priority (R277). -/
def nextCmd (x : Nat) (s : State) : Option (DlCmd × Dlink) :=
  let d := s.dlink x
  match d.p1 with
  | c :: r => some (c, { d with p1 := r })
  | [] =>
    if d.claimDue then some (⟨0x0A, 0, 0, s.claimSent⟩, { d with claimDue := false, claimAt := some s.tick })
    else match d.p3 with
      | c :: r => some (c, { d with p3 := r })
      | [] => none

/-- Cells of a command (R272). -/
def cmdCells (op : Nat) : Nat := if op = 0x01 ∨ op = 0x04 ∨ op = 0x0A then 3 else 2

/-- What Wonan notes of a command that leaves (R289, R420). -/
def noteCmd (x : Nat) (c : DlCmd) (s : State) : State :=
  if c.op = 0x04 then s.modTri x fun t => { t with
    epochs := (s.tick, signed 42 (c.arg * 2 ^ 32 + c.data)) :: t.epochs }
  else if c.op = 0x11 then s.modPort x fun t => { t with relink := some s.tick }
  else s

/-- A command starts on DLx (R22, R277, R427). -/
def commandSlot (x : Nat) (s : State) : State :=
  if s.nonFirst x then s.modDlink x fun d => { d with p1 := [], p3 := [], claimDue := false }
  else match s.nextCmd x with
    | none => s
    | some (c, d) =>
      let s := { s with dlinks := SMap.insert x d s.dlinks }
      if !(s.isRun || safeCmd c) then s
      else
        let s := s.modDlink x fun d => { d with busy := s.tick + 32 * cmdCells c.op }
        ((s.wadd (WR.ING_PORT_CMD_SENT x) 1).noteCmd x c).emit (.dlCmd x c.op c.tag c.arg c.data)

/-! ### The proxy window (R291) -/

/-- The port answers proxy accesses (R291). -/
def proxyOk (p : Nat) (s : State) : Bool :=
  let st := s.portState p
  decide (p < s.lanesCount) && st != 0 && st != 5 && st != 6

/-- Accesses whose REG_DATA is overdue (R291): a load ends with an access fault. -/
def proxyTimeout (p : Nat) (s : State) : State :=
  let late := (s.dlink p).waits.filter fun a => a.kind != 1 && decide (a.due ≤ s.now)
  let s := s.modDlink p fun d => { d with waits := d.waits.filter fun a => !(a.kind != 1 && decide (a.due ≤ s.now)) }
  late.foldl (fun s a =>
    let s := (s.wset (WR.ING_PORT_STATUS_PROXY_TMO p) 1).wadd (WR.ING_PORT_CMD_TIMEOUTS p) 1
    if a.kind = 2 then s.emit (.proxy p a.addr none) else s) s

/-- A load from the proxy window (R291, R662); `kind` is 2, or names the agent that stalls. The window of an
absent port reads zero. -/
def proxyLoad (p addr kind : Nat) (quiet : Bool) (s : State) : State :=
  if s.lanesCount ≤ p then s.emit (.proxy p addr (some 0))
  else if s.proxyOk p then s.dlAccess p (if quiet then 0x03 else 0x02) addr 0 kind else s.emit (.proxy p addr none)

/-- A store to the proxy window (R291, R662). -/
def proxyStore (p addr data : Nat) (s : State) : State :=
  if s.lanesCount ≤ p then s
  else if s.proxyOk p && s.isRun then (s.dlAccess p 0x01 addr data 3).emit (.proxy p addr (some data))
  else s.emit (.proxy p addr none)

/-! ### Primitive windows (R254) -/

/-- The number of bits in which two bytes differ. -/
def hamming (a b : Nat) : Nat := popcount 8 (a ^^^ b)

/-- PH decoded to the nearest of its four values, if one is nearest (R254). -/
def decodePh (ph : Nat) : Option Nat :=
  let d := [0x00, 0x0F, 0xF0, 0xFF].map fun v => (hamming ph v, v)
  let m := d.foldl (fun m x => min m x.1) 8
  match d.filter fun x => x.1 == m with
  | [x] => some x.2
  | _ => none

/-- A window of a slot on a lane (R253, R254): PH and the words that follow it. -/
def windowRx (l slot ph w0 w1 : Nat) (s : State) : State :=
  match decodePh ph with
  | none => s.laneHunt l
  | some v =>
    let s := s.wcountIf (v != ph) (WR.ING_LANE_PRIM_PH_CORR l)
    let ws : List (Nat × Nat) := if v = 0 then [] else if v = 0x0F then [(0, w0)]
      else if v = 0xF0 then [(1, w0)] else [(0, w0), (1, w1)]
    let good := ws.filter fun x => bits 63 62 x.2 == 2 && bits 61 61 x.2 == x.1 && bits 60 56 x.2 == slot % 32
    let s := s.wadd (WR.ING_LANE_PRIM_BAD l) (ws.length - good.length)
    let full := extend (2 ^ 37) slot (s.tick / 32 : Nat)
    s.offerPrim (s.lanePort l) full.toNat (good.map (·.2))

end State

/-- RS_BLOCK_RX (R247, R259, R261–R263): an RS block decoded on a lane, with `fix` bytes corrected, 9 for an
uncorrectable one. -/
def execRsBlockRx (lane num : Nat) (replay : Bool) (fix bad : Nat) (s : State) : Res :=
  let s := if s.laneUp lane && decide (fix ≤ 8) then s.wadd (WR.ING_LANE_FAULT_BAD_BLOCK lane) bad else s
  .next <| s.rsBlock lane num replay fix

/-- REPLAY_NACK_RX (R249, R259). -/
def execReplayNackRx (lane num : Nat) (s : State) : Res :=
  .next <| if s.laneUp lane && (s.lane lane).wait.any fun y => y.1 == num then s.blockLost lane num else s

/-- FRAME_HEAD_RX (R245, R249, R49): the block's first bit arrived now, `fine` fine bins into the tick. -/
def execFrameHeadRx (lane frame offset fine : Nat) (s : State) : Res :=
  .next <| if s.laneUp lane && s.laneK lane == 0 then
    s.triStart (s.lanePort lane) frame ((s.tick * 256 + fine : Nat) - 32 * (offset : Int))
  else s

/-- LANE_ID_RX (R251, R262, R264, R287). -/
def execLaneIdRx (lane body : Nat) (s : State) : Res := .next <| s.laneId lane body

/-- LANE_CDR_LOCK (R262). -/
def execLaneCdrLock (lane : Nat) (s : State) : Res :=
  let s := s.modLane lane fun x => { x with cdr := true }
  .next <| if lane < s.lanesCount ∧ s.wget (WR.ING_LANE_STATUS_STATE lane) = 0 ∧ s.won (WR.ING_LANE_CTRL_EN lane)
    then s.laneHunt lane else s

/-- LANE_CDR_LOSS (R262). -/
def execLaneCdrLoss (lane : Nat) (s : State) : Res :=
  let s := s.modLane lane fun x => { x with cdr := false }
  .next <| if s.wget (WR.ING_LANE_STATUS_STATE lane) = 4 then s else s.laneDrop lane 0

/-- ING_LANE_CLEAR (R261, R262). -/
def execIngLaneClear (lane : Nat) (s : State) : Res :=
  if s.wget (WR.ING_LANE_STATUS_STATE lane) = 4 then
    let st := if (s.lane lane).cdr && s.won (WR.ING_LANE_CTRL_EN lane) then 1 else 0
    .next <| ((s.laneDrop lane st).wset (WR.ING_LANE_STATUS_CAUSE lane) 0).relink lane
  else .next s

/-- A write of ING_LANE_CTRL.EN (R262). -/
def State.writeLaneEn (l : Nat) (v : Bool) (s : State) : State :=
  let s := s.wset (WR.ING_LANE_CTRL_EN l) (b2n v)
  let st := s.wget (WR.ING_LANE_STATUS_STATE l)
  if st = 4 then s
  else if !v then s.laneDrop l 0
  else if st = 0 ∧ (s.lane l).cdr then s.laneHunt l
  else s

/-- CLKSW_RX (R53, R62, R257): the word's block left the Tladon at tick `dep`. -/
def execClkswRx (lane dep body : Nat) (s : State) : Res :=
  .next <| if s.laneUp lane then s.clksw (s.lanePort lane) dep body else s

/-- HOLD_WORD_RX (R53, R65, R257). -/
def execHoldWordRx (lane dep body : Nat) (s : State) : Res :=
  .next <| if s.laneUp lane then s.holdWord (s.lanePort lane) dep body else s

/-- EPOCH_DONE_RX (R43, R66, R289). -/
def execEpochDoneRx (lane : Nat) (s : State) : Res :=
  .next <| if s.laneUp lane && s.laneK lane == 0 then s.epochDone (s.lanePort lane) else s

/-- STATE_WORD_RX (R276, R227, R288, R313, R548). -/
def execStateWordRx (lane body : Nat) (s : State) : Res :=
  .next <| if s.laneUp lane && s.laneK lane == 0 then s.stateWord (s.lanePort lane) body else s

/-- ATTACH_EPOCH (R287 steps 4 to 6, R44, R45). -/
def execAttachEpoch (port : Nat) (s : State) : Res := .next <| s.acquire port

/-- PORT_ATTACH_WRITE (R287, R290). -/
def execPortAttachWrite (port : Nat) (s : State) : Res :=
  .next <| if s.portHere port then s.attachWrite port else s

/-- PORT_DETACH_WRITE (R290, R313). -/
def execPortDetachWrite (port : Nat) (s : State) : Res :=
  .next <| if s.portHere port then s.detach port else s

/-- PORT_DETACHED (R290, R313). -/
def execPortDetached (port : Nat) (s : State) : Res := .next <| s.detached port

/-- CLAIM_SEND (R279): due every 1,024 cells. -/
def execClaimSend (port : Nat) (s : State) : Res :=
  let due := match (s.dlink port).claimAt with
    | none => true
    | some t => decide (t + 32768 ≤ s.tick)
  .next <| if due && decide (2 ≤ s.ws) && s.portHere port then
    s.modDlink port fun d => { d with claimDue := true } else s

/-- DOWNLINK_COMMAND_SLOT (R22, R271, R277, R427, R646): at a cell boundary after the command in progress. -/
def execDownlinkCommandSlot (port : Nat) (s : State) : Res :=
  .next <| if decide (2 ≤ s.ws) && decide (port < s.lanesCount) && s.tick % 32 == 0
      && decide ((s.dlink port).busy ≤ s.tick) then s.commandSlot port else s

/-- PROXY_LOAD (R291): REG_READ, or REG_PEEK through the quiet alias. -/
def execProxyLoad (port addr : Nat) (quiet : Bool) (s : State) : Res := .next <| s.proxyLoad port addr 2 quiet

/-- PROXY_STORE (R291). -/
def execProxyStore (port addr data : Nat) (s : State) : Res := .next <| s.proxyStore port addr data

/-- PRIMITIVE_WINDOW_RX (R253, R254, R262, R420): a window enters the combination; `w1` is the second of two
words. -/
def execPrimitiveWindowRx (lane slot ph w0 w1 : Nat) (s : State) : Res :=
  .next <| if s.laneUp lane && s.laneK lane == 0 then s.windowRx lane slot ph w0 w1 else s

end Sys2Proof.Machine
end

