-- ==== Sys2Proof/Machine/WnCmp.lean ====
section
/-! DEFINITION. Compression and verification (spec/11 R358–R364, R367–R376, R380–R384). -/

namespace Sys2Proof.Machine

open Sys2Proof

namespace State

/-- Change compression. -/
def modCmp (f : Cmp → Cmp) (s : State) : State := { s with cmp := f s.cmp }

/-- The sequence number of a record (R358). -/
def recSeq (ctx0 : Nat) : Nat := bits 255 192 ctx0

/-! ### Engines -/

/-- Engine STATE. -/
def engState (e : Nat) (s : State) : Nat := s.wget (WR.CMP_ENG_STATUS_STATE e)

/-- Set an engine's state, with ENABLED and ALL_OFF. -/
def setEng (e st : Nat) (s : State) : State :=
  let s := s.wset (WR.CMP_ENG_STATUS_STATE e) st
  let m := (List.range 16).foldl (fun m i =>
    if i < s.engCount ∧ s.engState i < 3 then m + 2 ^ i else m) 0
  s.wsets [(WR.CMP_STATUS_ENABLED, m), (WR.CMP_STATUS_ALL_OFF, b2n (m == 0))]

/-- An engine goes FAULTY (R373, R382). -/
def engFault (e cause : Nat) (s : State) : State :=
  (s.setEng e 4).wsets [(WR.CMP_ENG_STATUS_CAUSE e, cause), (WR.CMP_STATUS_ENG_FAULT, 1)]

/-- An engine without a record: IDLE or OFF (R381). -/
def engRest (e : Nat) (s : State) : State := s.setEng e (if s.won (WR.CMP_ENG_CTRL_EN e) then 0 else 3)

/-- BYPASS; the former serves everything on QWN-48L (R383). -/
def bypass (s : State) : Bool := s.won WR.CMP_CTRL_BYPASS || s.engCount == 0

/-- The stored-block former serves the records (R374). -/
def formerServes (s : State) : Bool := s.bypass || !s.won WR.CMP_STATUS_ENABLED

/-- A record is dispatched (R359, R374), if somebody can take it. -/
def dispatchJob (j : CmpJob) (s : State) : Option State :=
  if s.formerServes then
    if s.cmp.former.isNone then some (s.modCmp fun c => { c with former := some { j with pre := false } })
    else none
  else match (List.range s.engCount).find? fun e => s.engState e == 0 with
    | some e => some ((s.modCmp fun c => { c with
        engs := SMap.insert e { j with pre := s.won WR.CMP_CTRL_PRECODE } c.engs }).setEng e 1)
    | none => none

/-- Take the words of the packet at the head of queue 0; `err` marks its first word. -/
def takePacket (err : Nat) : Nat → State → List Nat × State
  | 0, s => ([], s)
  | fuel + 1, s =>
    match s.pop 0 err with
    | (some w, _, s) =>
      if w.eop then ([w.data], s)
      else
        let (r, s) := takePacket 0 fuel s
        (w.data :: r, s)
    | (none, _, s) => ([], s)

/-- The body words of queue words (R358). -/
def bodyWords (n : Nat) (ws : List Nat) : List Nat :=
  ((ws.map fun w => [bits 255 192 w, bits 191 128 w, bits 127 64 w, bits 63 0 w]).flatten).take n

/-- The record at the head of queue 0 as it is dispatched (R358, R372). -/
def headJob (poison : Bool) (s : State) : Option (CmpJob × State) :=
  let q := s.queue 0
  match s.takePacket (if poison then 2 else 0) (q.words.length + q.held.length) with
  | (c0 :: c1 :: ws, s) =>
    let s := if poison then
        ((s.wadd WR.CMP_LOSS_POISONED 1).wset WR.CMP_STATUS_POISON_SEEN 1).unitStand 0 9
      else s
    some (⟨c0, c1, bodyWords (bits 191 160 c0 / 8) ws, poison, false, false, false⟩, s)
  | _ => none

/-- Whether a record could be dispatched now. -/
def canDispatch (s : State) : Bool :=
  if s.formerServes then s.cmp.former.isNone else (List.range s.engCount).any fun e => s.engState e == 0

/-- CMP_DISPATCH: a record to be dispatched again first, else the head of queue 0. -/
def dispatch (poison : Bool) (s : State) : State :=
  if !s.canDispatch then s
  else match s.cmp.redo with
    | j :: r => ((s.modCmp fun c => { c with redo := r }).dispatchJob j).getD s
    | [] =>
      if s.qPkts 0 = 0 ∧ (s.queue 0).words.length + (s.queue 0).held.length < 2 then s
      else match s.headJob poison with
        | some (j, s) => (s.dispatchJob j).getD s
        | none => s

/-! ### Completion and release (R361–R364, R375) -/

/-- The payload header (R375). -/
def payloadHeader (a : Area) (pre : Bool) (bodyLen len crc : Nat) : List Nat :=
  beBytes 2 0xC5A7 ++ [16 + 8 * b2n pre + 4 * b2n a.stored + 2 * b2n a.vfail + b2n a.unver,
    128 * b2n a.poison + a.engine] ++ beBytes 4 bodyLen ++ beBytes 4 len ++ beBytes 4 crc

/-- Add to a 64-bit byte counter. -/
def addBytes (lo hi : Fld) (n : Nat) (s : State) : State :=
  let v := s.wget lo + 2 ^ 32 * s.wget hi + n
  s.wsets [(lo, v % 2 ^ 32), (hi, v / 2 ^ 32 % 2 ^ 32)]

/-- The depth of the reorder table as its register shows it. -/
def showReorder (s : State) : State :=
  (s.wset WR.CMP_REORDER_DEPTH s.cmp.table.length).wraise WR.CMP_REORDER_HWM s.cmp.table.length

/-- The unit that made a record is free again (R373, R381). -/
def freeUnit (engine : Nat) (s : State) : State :=
  if engine = 31 then s.modCmp fun c => { c with former := none }
  else
    let bad := match SMap.find engine s.cmp.engs with
      | some j => j.lasting
      | none => false
    let s := s.modCmp fun c => { c with engs := SMap.erase engine c.engs }
    if bad then s.engFault engine 1 else s.engRest engine

/-- Completed records enter the reorder table while it has room (R362). -/
def fillTable (s : State) : State :=
  match s.cmp.waiting with
  | [] => s
  | a :: r =>
    if s.cmp.table.length < 64 then
      ((s.modCmp fun c => { c with
        waiting := r
        table := insertBy (fun x y => decide (recSeq x.ctx0 ≤ recSeq y.ctx0)) a c.table }).showReorder).freeUnit
          a.engine
    else s

/-- A form of a record passed: the record is complete (R361, R362, R375, R380). -/
def complete (engine : Nat) (j : CmpJob) (stored unver : Bool) (stream : List Nat) (s : State) : State :=
  let body := wordBytes j.body
  let (addr, s) := s.fresh 20
  let a : Area := ⟨j.ctx0, j.ctx1, [], engine, j.poison, j.vfail, stored, unver, addr⟩
  let pre := j.pre && !stored
  let pay := payloadHeader a pre body.length stream.length (crc32c body) ++ stream
  let s := (s.addBytes WR.CMP_IN_LO_COUNT WR.CMP_IN_HI_COUNT body.length).addBytes WR.CMP_OUT_LO_COUNT
    WR.CMP_OUT_HI_COUNT pay.length
  let s := s.modCmp fun c => { c with
    waiting := c.waiting ++ [{ a with payload := pay }]
    inMs := c.inMs + body.length, outMs := c.outMs + pay.length
    inS := c.inS + body.length, outS := c.outS + pay.length }
  let s := if engine = 31 then s.wadd WR.CMP_FORMER_RECORDS 1 else s.wadd (WR.CMP_ENG_CNT_RECORDS engine) 1
  (s.freeRecord (recSeq j.ctx0)).fillTable

/-- The release packet (R363). -/
def releaseWord (a : Area) : Nat :=
  pack [(127, 64, recSeq a.ctx0), (63, 44, a.addr), (43, 20, 64 + a.payload.length), (19, 15, a.engine),
    (3, 3, b2n a.poison), (2, 2, b2n a.vfail), (1, 1, b2n a.stored), (0, 0, b2n a.unver)]

/-- CMP_REL. -/
def relNext (s : State) : Nat := s.wget WR.CMP_REL_LO_REL + 2 ^ 32 * s.wget WR.CMP_REL_HI_REL

/-- Set CMP_REL. -/
def setRel (n : Nat) (s : State) : State :=
  s.wsets [(WR.CMP_REL_LO_REL, n % 2 ^ 32), (WR.CMP_REL_HI_REL, n / 2 ^ 32 % 2 ^ 32)]

/-- The sequence numbers of the packets that begin in a run of queue words. -/
def packetSeqs : Bool → List QWord → List Nat
  | _, [] => []
  | start, w :: r => (if start then [recSeq w.data] else []) ++ packetSeqs w.eop r

/-- Sequence numbers that will still reach the reorder table, or are in it. -/
def liveSeqs (s : State) : List Nat :=
  let c := s.cmp
  (c.table.map fun a => recSeq a.ctx0) ++ (c.waiting.map fun a => recSeq a.ctx0)
    ++ (c.engs.map fun x => recSeq x.2.ctx0) ++ (c.redo.map fun j => recSeq j.ctx0)
    ++ (match c.former with
      | some j => [recSeq j.ctx0]
      | none => []) ++ packetSeqs true ((s.queue 0).words ++ (s.queue 0).held)

/-- The table passes over numbers that nobody holds (R364). -/
def passOver (s : State) : State :=
  let r := s.relNext
  let d (x : Nat) : Nat := (x + 2 ^ 64 - r) % 2 ^ 64
  let n := (s.liveSeqs.map d).foldl min (d s.seqNext)
  (s.wadd WR.CMP_LOSS_SKIPPED_SEQ n).setRel ((r + n) % 2 ^ 64)

/-- CMP_REORDER_RELEASE (R362, R363, R383): without queue 1, egress takes the record at once. -/
def releaseNext (s : State) : State :=
  let s := s.passOver
  let r := s.relNext
  match s.cmp.table.find? fun a => recSeq a.ctx0 == r with
  | none => s
  | some a =>
    let s := (s.modCmp fun c => { c with
      table := c.table.filter fun x => recSeq x.ctx0 != r, areas := c.areas ++ [a] }).setRel ((r + 1) % 2 ^ 64)
    let s := s.showReorder.fillTable
    s.offer 1 (releaseWord a) true false

/-! ### Forms (R369–R374) -/

/-- NICE_LEN and CHAIN_MAX as they act (R384). -/
def niceLen (s : State) : Nat := max 3 (min 258 (s.wget WR.CMP_CTRL_NICE_LEN))
def chainMax (s : State) : Nat := max 1 (s.wget WR.CMP_CTRL_CHAIN_MAX)

/-- The compressed form of a record. -/
def formOf (j : CmpJob) (s : State) : List Nat :=
  deflate s.chainMax s.niceLen (s.won WR.CMP_CTRL_LAZY) (wordBytes (if j.pre then precode j.body else j.body))

/-- The engine builds the stored form. -/
def fallBack (e : Nat) (j : CmpJob) (s : State) : State :=
  (s.modCmp fun c => { c with engs := SMap.insert e j c.engs }).setEng e 2

/-- The compressed form of an engine's record is done and was verified (R370, R373). -/
def formDone (e : Nat) (ok : Bool) (s : State) : State :=
  match SMap.find e s.cmp.engs with
  | none => s
  | some j =>
    if s.engState e ≠ 1 then s
    else
      let form := s.formOf j
      if storedSize (8 * j.body.length) < form.length then
        ((s.wadd (WR.CMP_ENG_CNT_OVERSIZE e) 1).wadd WR.CMP_FALLBACK_OVERSIZE 1).fallBack e j
      else if ok then (s.wset (WR.CMP_ENG_STATUS_MISMATCH_RUN e) 0).complete e j false false form
      else
        let lasting := s.won (WR.CMP_ENG_STATUS_MISMATCH_RUN e)
        let s := ((s.wadd (WR.CMP_ENG_CNT_VERIFY_FAIL e) 1).wadd WR.CMP_FALLBACK_VERIFY_FAIL 1).wsets
          [(WR.CMP_ENG_STATUS_MISMATCH_RUN e, 1), (WR.CMP_ENG_FAIL_LO_SEQ e, recSeq j.ctx0),
           (WR.CMP_ENG_FAIL_HI_SEQ e, recSeq j.ctx0 / 2 ^ 32)]
        s.fallBack e { j with vfail := true, lasting := lasting }

/-- An uncorrectable word of the fallback read (R372); a record counts once. -/
def poisonJob (j : CmpJob) (err : Bool) (s : State) : CmpJob × State :=
  let s := if err then s.unitStand 0 10 else s
  if err && !j.poison then
    ({ j with poison := true }, (s.wadd WR.CMP_LOSS_POISONED 1).wset WR.CMP_STATUS_POISON_SEEN 1)
  else (j, s)

/-- The stored form of an engine's record is done (R371–R373). -/
def storedDone (e : Nat) (ok err : Bool) (s : State) : State :=
  match SMap.find e s.cmp.engs with
  | none => s
  | some j =>
    if s.engState e ≠ 2 ∨ (s.cmp.waiting.any fun a => a.engine == e) then s
    else
      let (j, s) := s.poisonJob j err
      if ok then s.complete e j true false (storedForm (wordBytes j.body))
      else
        let s := s.modCmp fun c => { c with
          engs := SMap.erase e c.engs, redo := c.redo ++ [{ j with vfail := false, lasting := false }] }
        s.engFault e 2

/-- The former's record is done after `bad` mismatches, at most 2 (R374). -/
def formerDone (bad : Nat) (s : State) : State :=
  match s.cmp.former with
  | none => s
  | some j =>
    if s.cmp.waiting.any fun a => a.engine == 31 then s
    else
      let s := s.wcountIf (bad != 0) WR.CMP_FORMER_REWRITES
      let s := if bad = 2 then (s.wadd WR.CMP_FORMER_UNVERIFIED 1).wset WR.CMP_STATUS_FORMER_FAULT 1 else s
      s.complete 31 j true (bad == 2) (storedForm (wordBytes j.body))

/-! ### Ratio, enables and state changes (R380–R382) -/

/-- A window's ratio in 1/256; the spec states none for a window without payload. -/
def ratioOf (i o : Nat) (s : State) : Nat × State := if o = 0 then s.fresh 16 else (min 65535 (i * 256 / o), s)

/-- The end of a 1 ms or 1 s window (R380). -/
def ratioWindow (sec : Bool) (s : State) : State :=
  if sec then
    let (r, s) := s.ratioOf s.cmp.inS s.cmp.outS
    (s.wset WR.CMP_RATIO_RATIO_1S r).modCmp fun c => { c with inS := 0, outS := 0 }
  else
    let (r, s) := s.ratioOf s.cmp.inMs s.cmp.outMs
    let s := (s.wset WR.CMP_RATIO_RATIO_1MS r).modCmp fun c => { c with inMs := 0, outMs := 0 }
    if r < s.decl 0x0B 0 256 then s.wset WR.CMP_STATUS_RATIO_LOW 1 else s

/-- A write of CMP_ENG_CTRL.EN (R381). -/
def writeEngEn (e : Nat) (v : Bool) (s : State) : State :=
  if s.engCount ≤ e then s
  else
    let s := s.wset (WR.CMP_ENG_CTRL_EN e) (b2n v)
    if s.engState e = 0 ∨ s.engState e = 3 then s.engRest e else s

/-- Leaving RUNNING and DEGRADED (R381). -/
def cmpStop (s : State) : State :=
  let s := { s with cmp := Cmp.reset }
  ((List.range s.engCount).foldl (fun s e =>
    let s := s.wset (WR.CMP_ENG_STATUS_MISMATCH_RUN e) 0
    if s.engState e < 4 then s.engRest e else s) s).showReorder

/-- Entry to RUNNING: the byte counters start and the release number is the first sequence number. -/
def cmpRun (s : State) : State :=
  (s.wsets [(WR.CMP_IN_LO_COUNT, 0), (WR.CMP_IN_HI_COUNT, 0), (WR.CMP_OUT_LO_COUNT, 0),
    (WR.CMP_OUT_HI_COUNT, 0)]).setRel s.seqNext

end State

/-- CMP_DISPATCH (R359, R372, R374): `poison` where queue 0 delivers a word of the record with POISON. -/
def execCmpDispatch (poison : Bool) (s : State) : Res := .next <| if s.isRun then s.dispatch poison else s

/-- CMP_FORM_DONE (R368–R370, R373): `ok` where the inflater found the body again. -/
def execCmpFormDone (engine : Nat) (ok : Bool) (s : State) : Res := .next <| s.formDone engine ok

/-- CMP_STORED_DONE (R371–R373): `err` where the fallback read met an uncorrectable word. -/
def execCmpStoredDone (engine : Nat) (ok err : Bool) (s : State) : Res := .next <| s.storedDone engine ok err

/-- FORMER_RECORD_DONE (R374): `bad` mismatches were found. -/
def execFormerRecordDone (bad : Nat) (s : State) : Res := .next <| s.formerDone bad

/-- CMP_REORDER_RELEASE (R362–R364). -/
def execCmpReorderRelease (s : State) : Res := .next <| if s.isRun then s.releaseNext else s

/-- CMP_RATIO_WINDOW (R380): the end of a 1 ms window, or where `sec` of a 1 s window. -/
def execCmpRatioWindow (sec : Bool) (s : State) : Res := .next <| s.ratioWindow sec

/-- CMP_ENG_EN_WRITE (R381). -/
def execCmpEngEnWrite (engine : Nat) (v : Bool) (s : State) : Res := .next <| s.writeEngEn engine v

/-- CMP_REENABLE (R382). -/
def execCmpReenable (engine : Nat) (s : State) : Res :=
  .next <| if engine < s.engCount ∧ s.engState engine = 4 then s.setEng engine 5 else s

/-- CMP_REENABLE_DONE (R382). -/
def execCmpReenableDone (engine : Nat) (pass : Bool) (s : State) : Res :=
  if s.engState engine = 5 then
    .next <| if pass then (s.wset (WR.CMP_ENG_STATUS_CAUSE engine) 0).engRest engine
      else (s.engFault engine 3).wset (WR.CMP_ENG_STATUS_SELFTEST_FAIL engine) 1
  else .next s

/-- CMP_BYPASS_WRITE (R381, R383): a write of CMP_CTRL. -/
def execCmpBypassWrite (value : Nat) (s : State) : Res := .next <| s.wstore WR.CMP_CTRL value

end Sys2Proof.Machine
end

