-- ==== Sys2Proof/Machine/WnEth.lean ====
section
/-! DEFINITION. Egress ports, steering, datagrams, received frames and PTP (spec/12 R385–R406; spec/03
R85, R91–R95; spec/17 R563; spec/18 R580, R582, R584). -/

namespace Sys2Proof.Machine

open Sys2Proof

namespace State

/-- Change egress. -/
def modEth (f : Eth → Eth) (s : State) : State := { s with eth := f s.eth }

/-! ### Ports (R385, R386) -/

/-- ETH_Pk_STATUS.STATE: 0 OFF, 1 DOWN, 2 UP, 3 PENDING, 4 ACTIVE. -/
def epState (k : Nat) (s : State) : Nat := s.wget (WR.ETH_P_STATUS_STATE k)

/-- The record datagrams of a port go through queue k + 2. -/
def epQueue (k : Nat) : Nat := k + 2

/-- N_s (R398). -/
def steerNext (s : State) : Nat :=
  match s.eth.back with
  | a :: _ => min (recSeq a.ctx0) s.eth.front
  | [] => s.eth.front

/-- What ETH_STATUS and the number registers show (R399, R402, R409). -/
def showEth (s : State) : State :=
  let up := (List.range 8).foldl (fun m k => if 2 ≤ s.epState k then m + 2 ^ k else m) 0
  let act := s.eth.active.foldl (fun m k => m + 2 ^ k) 0
  let o := match s.eth.pend with
    | some (_, b) => b
    | none => s.eth.origin
  s.wsets [(WR.ETH_STATUS_UP, up), (WR.ETH_STATUS_ACTIVE, act), (WR.ETH_STATUS_PENDING, b2n s.eth.pend.isSome),
    (WR.ETH_STATUS_NO_PORT, b2n s.eth.active.isEmpty),
    (WR.ETH_ORIGIN_LO_ORIGIN, o % 2 ^ 32), (WR.ETH_ORIGIN_HI_ORIGIN, o / 2 ^ 32),
    (WR.ETH_NEXT_LO_NEXT, s.steerNext % 2 ^ 32), (WR.ETH_NEXT_HI_NEXT, s.steerNext / 2 ^ 32)]

/-- Set a port's STATE. -/
def setEp (k st : Nat) (s : State) : State := (s.wset (WR.ETH_P_STATUS_STATE k) st).showEth

/-- The steering set, ascending. -/
def putActive (l : List Nat) (s : State) : State := s.modEth fun e => { e with active := l }

/-- A write that changes ETH_Pk_CFG.MODE (R385, R386). -/
def epMode (k : Nat) (s : State) : State :=
  let m := s.wget (WR.ETH_P_CFG_MODE k)
  if k < s.epCount ∧ 1 ≤ m ∧ m ≤ 3 then
    if s.epState k = 0 then (s.setEp k 1).modEth fun e => { e with down := SMap.insert k s.now e.down } else s
  else ((s.putActive (s.eth.active.filter (· != k))).wsets [(WR.ETH_P_STATUS_BLOCK_LOCK k, 0),
    (WR.ETH_P_STATUS_FEC_ALIGN k, 0), (WR.ETH_P_STATUS_HI_BER k, 0)]).setEp k 0

/-- The port's MTU, clamped (R396). -/
def mtu (k : Nat) (s : State) : Nat := max 1280 (min 9000 (s.wget (WR.ETH_P_CFG_MTU k)))

/-! ### Frames (R394) -/

/-- The ones' complement sum of 16-bit words, as a checksum field carries it. -/
def inetSum (l : List Nat) : Nat :=
  let rec go : List Nat → Nat
    | [] => 0
    | [a] => a * 256
    | a :: b :: r => a * 256 + b + go r
  let n := go l
  65535 - (if n = 0 then 0 else (n - 1) % 65535 + 1)

/-- The source addresses of a port: MAC, IPv4 and IPv6. -/
def epMac (k : Nat) (s : State) : List Nat :=
  beBytes 2 (s.wget (WR.ETH_P_MAC_HI_MAC_HI k)) ++ beBytes 4 (s.wget (WR.ETH_P_MAC_LO_MAC_LO k))
def epIp (k : Nat) (v6 : Bool) (s : State) : List Nat :=
  if v6 then ((List.range 4).map fun j => beBytes 4 (s.wget (WR.ETH_P_IP6_IP6 k j))).flatten
  else beBytes 4 (s.wget (WR.ETH_P_IP4_IP4 k))

/-- A UDP frame of a port: destination MAC, tag control, IP version and address, ports, data (R394). -/
def udpFrame (k : Nat) (mac : List Nat) (tag : Option Nat) (v6 : Bool) (ip : List Nat) (sport dport : Nat)
    (data : List Nat) (s : State) : List Nat :=
  let src := s.epIp k v6
  let len := 8 + data.length
  let udp (c : Nat) : List Nat := beBytes 2 sport ++ beBytes 2 dport ++ beBytes 2 len ++ beBytes 2 c
  let pseudo := src ++ ip ++ (if v6 then beBytes 4 len ++ [0, 0, 0, 17] else [0, 17] ++ beBytes 2 len)
  let c0 := inetSum (pseudo ++ udp 0 ++ data)
  let ttl := max 1 (s.wget (WR.ETH_P_IPCFG_TTL k))
  let tos := 4 * s.wget (WR.ETH_P_IPCFG_DSCP k)
  let v4h (c : Nat) : List Nat := [0x45, tos] ++ beBytes 2 (20 + len) ++ [0, 0, 0x40, 0, ttl, 17]
    ++ beBytes 2 c ++ src ++ ip
  let iph := if v6 then beBytes 4 (6 * 2 ^ 28 + tos * 2 ^ 20) ++ beBytes 2 len ++ [17, ttl] ++ src ++ ip
    else v4h (inetSum (v4h 0))
  mac ++ s.epMac k ++ (match tag with
      | some t => [0x81, 0x00] ++ beBytes 2 t
      | none => []) ++ (if v6 then [0x86, 0xDD] else [0x08, 0x00]) ++ iph
    ++ udp (if c0 = 0 then 65535 else c0) ++ data

/-! ### Records as datagrams (R391–R396, R400) -/

/-- The record header (R391, R393). -/
def header64 (a : Area) : List Nat :=
  recHeader (bits 135 134 a.ctx1) (bits 143 136 a.ctx1) (bits 175 144 a.ctx1) (recSeq a.ctx0)
      (bits 159 48 a.ctx0) (bits 127 112 a.ctx1) (bits 47 0 a.ctx0) (bits 255 208 a.ctx1) (bits 207 176 a.ctx1)
    ++ beBytes 4 (8 * b2n a.poison + 4 * b2n a.vfail + 2 * b2n a.stored + b2n a.unver)
    ++ beBytes 4 a.payload.length ++ [0, 0, 0, 0] ++ beBytes 4 (bits 111 80 a.ctx1)

/-- The segment header (R395). -/
def segHeader (sid seq i off n : Nat) (again unit : Bool) : List Nat :=
  [0xC5, 0xA5, 16 + 8 * b2n again + 4 * b2n unit, 0] ++ beBytes 2 sid ++ beBytes 2 i ++ beBytes 8 seq
    ++ beBytes 4 off ++ beBytes 2 n ++ [0, 0]

/-- D of R396. -/
def segSize (k : Nat) (v6 : Bool) (s : State) : Nat := (s.mtu k - (if v6 then 40 else 20) - 32) / 8 * 8

/-- The frames of a record on a port to a destination entry (R394–R396, R400). -/
def recFrames (k d : Nat) (a : Area) (again : Bool) (s : State) : List (List Nat) :=
  let v6 := s.won (WR.DEST_CTRL_IPV6 d)
  let rec' := header64 a ++ a.payload
  let size := s.segSize k v6
  let n := (rec'.length + size - 1) / size
  let mac := beBytes 2 (s.wget (WR.DEST_MAC_HI_MAC_HI d)) ++ beBytes 4 (s.wget (WR.DEST_MAC_LO_MAC_LO d))
  let ip := if v6 then ((List.range 4).map fun j => beBytes 4 (s.wget (WR.DEST_IP_IP d j))).flatten
    else beBytes 4 (s.wget (WR.DEST_IP_IP d 0))
  let tag := if s.won (WR.DEST_CTRL_VLAN_EN d) then
      some (s.wget (WR.DEST_CTRL_PCP d) * 2 ^ 13 + s.wget (WR.DEST_CTRL_VID d)) else none
  (List.range n).map fun i =>
    s.udpFrame k mac tag v6 ip (s.wget (WR.ETH_P_IPCFG_UDP_SRC k)) (s.wget (WR.DEST_MAC_HI_UDP_DST d))
      (segHeader (bits 127 112 a.ctx1) (recSeq a.ctx0) i (i * size) n again (s.won WR.ETH_CFG_UNIT)
        ++ (rec'.drop (i * size)).take size)

/-- A frame as 128-bit words of the port's queue, the first byte in the most significant bits. -/
def frameWords : Nat → List Nat → List Nat
  | 0, _ => []
  | _, [] => []
  | n + 1, l =>
    let c := l.take 16
    ofBe (c ++ List.replicate (16 - c.length) 0) :: frameWords n (l.drop 16)

/-! ### Steering (R397–R406) -/

/-- The destination entry is usable (R397). -/
def usable (d : Nat) (s : State) : Bool :=
  s.won (WR.DEST_CTRL_VALID d) && s.eth.active.contains (s.wget (WR.DEST_CTRL_PORT d))

/-- Port and destination of record `q` by MODULO (R399). -/
def modulo (q : Nat) (s : State) : Nat × Nat :=
  let l := s.eth.active
  let k := l.getD ((q + 2 ^ 64 - s.eth.origin % 2 ^ 64) % 2 ^ 64 % max 1 l.length) 0
  (k, s.wget (WR.ETH_P_CFG_DEST k))

/-- Port and destination of record `q` (R399). -/
def route (q : Nat) (s : State) : Nat × Nat :=
  if s.won WR.ETH_CFG_STEER_MODE then
    let len := max 1 (s.wget WR.ETH_STEER_LEN_ACTIVE_LEN)
    let d := s.eth.tab.getD ((q + 2 ^ 64 - s.eth.origin % 2 ^ 64) % 2 ^ 64 % len) 0
    let alt := s.wget (WR.DEST_CTRL_ALT d)
    if s.usable d then (s.wget (WR.DEST_CTRL_PORT d), d)
    else if s.usable alt then (s.wget (WR.DEST_CTRL_PORT alt), alt)
    else s.modulo q
  else s.modulo q

/-- The shadow table (R402). -/
def shadowTab (s : State) : List Nat :=
  ((List.range 64).map fun m => [s.wget (WR.ETH_STEER_TAB_T0 m), s.wget (WR.ETH_STEER_TAB_T1 m),
    s.wget (WR.ETH_STEER_TAB_T2 m), s.wget (WR.ETH_STEER_TAB_T3 m)]).flatten

/-- The shadow table and length become active. -/
def takeTab (s : State) : State :=
  (s.modEth fun e => { e with tab := s.shadowTab }).wset WR.ETH_STEER_LEN_ACTIVE_LEN
    (max 1 (min 256 (s.wget WR.ETH_STEER_LEN_LEN)))

/-- The pending ADD or COMMIT takes effect once N_s reaches its boundary (R402). -/
def boundary (s : State) : State :=
  match s.eth.pend with
  | none => s
  | some (p, b) =>
    if s.steerNext < b then s
    else
      let s := s.modEth fun e => { e with pend := none, origin := b }
      match p with
      | some k => (s.putActive (insertBy (fun a b => decide (a ≤ b)) k s.eth.active)).setEp k 4
      | none => s.takeTab.showEth

/-- Steering waits for room in a queue (R398). -/
def qBlocked (n : Nat) (s : State) : Bool := qFull n (s.queue n) || !(s.queue n).held.isEmpty

/-- The next record to steer: the lowest withdrawn one, or the one at the head of queue 1 (R398, R404). -/
def nextArea (s : State) : Option (Area × Bool × State) :=
  let fromBack : Option (Area × Bool × State) := match s.eth.back with
    | a :: r => some (a, true, s.modEth fun e => { e with back := r })
    | [] => none
  let new : Option (Area × Bool × State) :=
    if s.qHere 1 then
      match s.pop 1 0 with
      | (some w, _, t) =>
        match s.cmp.areas.find? fun a => recSeq a.ctx0 == bits 127 64 w.data with
        | some a => some (a, false, t.modCmp fun c => { c with areas := c.areas.erase a })
        | none => none
      | (none, _, _) => none
    else match s.cmp.areas with
      | a :: r => some (a, false, s.modCmp fun c => { c with areas := r })
      | [] => none
  match fromBack with
  | some x => if recSeq x.1.ctx0 < s.eth.front then some x else match new with
    | some y => if recSeq y.1.ctx0 < recSeq x.1.ctx0 then some y else some x
    | none => some x
  | none => new

/-- RECORD_STEER (R398–R400, R563); `bad` masks the segments that hold an uncorrectable word of the output
area: offered with BAD, they never start (R394, R451). -/
def steer (bad : Nat) (s : State) : State :=
  let s := s.boundary
  match s.nextArea with
  | none => s.showEth
  | some (a, again, t) =>
    let q := recSeq a.ctx0
    let t := t.modEth fun e => { e with front := if again then e.front else q + 1 }
    if s.won WR.PAIR_CTRL_MUTE && s.pairOn then (t.wadd WR.PAIR_TIME_CNT_MUTED 1).boundary.showEth
    else if s.eth.active.isEmpty then s.showEth
    else
      let (k, d) := s.route q
      if s.qBlocked (epQueue k) then (s.wset WR.ETH_STATUS_STEER_WAIT 1).showEth
      else
        let frames := (s.recFrames k d a again).zipIdx
        let broken := frames.any fun x => bit x.2 bad
        let t := if broken then t.unitStand 0 11 else t
        let t := frames.foldl (fun t x =>
          t.offerPacket (epQueue k) (bit x.2 bad) (frameWords (x.1.length + 1) x.1)) t
        let kept := frames.filter fun x => !(bit x.2 bad && t.staged (epQueue k))
        let t := t.modEth fun e => { e with
          sent := e.sent ++ [⟨q, a, k, d, kept.map fun x => if bit x.2 bad then [] else x.1, again, broken⟩] }
        (t.wset WR.ETH_STATUS_STEER_WAIT (b2n (!(t.queue (epQueue k)).held.isEmpty))).boundary.showEth

/-- Drop the packet at the head of a queue. -/
def dropPacket (n : Nat) : Nat → State → State
  | 0, s => s
  | fuel + 1, s =>
    match s.pop n 0 with
    | (some w, _, s) => if w.eop then s else dropPacket n fuel s
    | (none, _, s) => s

/-- DATAGRAM_SENT (R390, R394): the next record datagram of a port leaves. -/
def datagram (k : Nat) (s : State) : State :=
  if s.epState k ≠ 4 ∨ s.qPkts (epQueue k) = 0 then s
  else match s.eth.sent.find? fun x => x.port == k && !x.frames.isEmpty with
    | none => s
    | some x =>
      match x.frames with
      | [] => s
      | f :: r =>
        let s := if f.isEmpty then s else (s.emit (.frame k f)).wadd (WR.ETH_P_TX_DG_COUNT k) 1
        let s := s.dropPacket (epQueue k) 1024
        let s := if (s.queue (epQueue k)).held.isEmpty then s.wset WR.ETH_STATUS_STEER_WAIT 0 else s
        if r.isEmpty then
          let s := s.modEth fun e => { e with sent := e.sent.filter fun y => y.seq != x.seq }
          if x.broken then s else (s.wadd (WR.ETH_P_TX_REC_COUNT k) 1).wadd (WR.DEST_REC_REC x.dest) 1
        else s.modEth fun e => { e with sent := e.sent.map fun y =>
          if y.seq = x.seq then { y with frames := r } else y }

/-- A pending ADD of a port is cancelled (R404, R406). -/
def cancelAdd (k : Nat) (s : State) : State :=
  match s.eth.pend with
  | some (some j, _) => if j = k then s.modEth fun e => { e with pend := none } else s
  | _ => s

/-- A port leaves the steering set (R404): its unsent records are withdrawn. -/
def removePort (k cause : Nat) (up : Bool) (s : State) : State :=
  let s := s.flush (epQueue k)
  let s := { s with queues := SMap.modify Queue.empty (epQueue k) (fun q => { q with
    held := [], inPacket := false, discard := false }) s.queues }
  let mine := s.eth.sent.filter fun x => x.port == k
  let s := s.modEth fun e => { e with
    active := e.active.filter (· != k)
    sent := e.sent.filter fun x => x.port != k
    back := mine.foldl (fun b x => insertBy (fun a b => decide (recSeq a.ctx0 ≤ recSeq b.ctx0)) x.area b) e.back }
  let s := s.modEth fun e => { e with origin := s.steerNext }
  let s := (s.wadd WR.ETH_LOST_RESTEERED mine.length).wsets [(WR.ETH_P_STATUS_CAUSE k, cause),
    (WR.ETH_STATUS_STEER_WAIT, 0)]
  (s.setEp k (if up then 2 else 1)).boundary.showEth

/-- A boundary stated by ADD or COMMIT (R402). -/
def stateBound (p : Option Nat) (s : State) : State :=
  let b := s.wget WR.ETH_BOUND_LO_BOUND + 2 ^ 32 * s.wget WR.ETH_BOUND_HI_BOUND
  let s := if b < s.steerNext then s.wset WR.ETH_STATUS_BOUND_LATE 1 else s
  (s.modEth fun e => { e with pend := some (p, max b s.steerNext) }).showEth.boundary

/-- A command that is refused (R403). -/
def refuseCmd (s : State) : State := s.wset WR.ETH_STATUS_CMD_REFUSED 1

/-- A write of ETH_STEER_CMD (R402–R404). -/
def steerCmd (op k : Nat) (s : State) : State :=
  if op = 1 then
    if s.epState k ≠ 2 ∨ s.eth.pend.isSome then s.refuseCmd
    else (s.setEp k 3).stateBound (some k)
  else if op = 2 then
    if s.eth.active.contains k then s.removePort k 1 (s.epState k == 4)
    else if s.epState k = 3 then (s.cancelAdd k).setEp k 2
    else s.refuseCmd
  else if op = 3 then if s.eth.pend.isSome then s.refuseCmd else s.stateBound none
  else s.refuseCmd

/-- Entry to RUNNING (R401). -/
def ethRun (s : State) : State :=
  let l := (List.range s.epCount).filter fun k => s.won (WR.ETH_P_CFG_START k) && s.epState k == 2
  let s := s.takeTab
  let s := { s with eth := { s.eth with
    active := l, origin := s.seqNext, front := s.seqNext, back := [], sent := [], pend := none } }
  (l.foldl (fun s k => s.setEp k 4) s).showEth

/-- Leaving RUNNING and DEGRADED (R406): every record not completely sent is lost. -/
def ethStop (s : State) : State :=
  let n := s.eth.back.length + s.eth.sent.length + s.cmp.areas.length
  let s := (s.wadd WR.ETH_LOST_ABANDONED n).modEth fun e => { e with
    active := [], back := [], sent := [], pend := none }
  let s := (List.range 8).foldl (fun s k => if 3 ≤ s.epState k then s.setEp k 2 else s) s
  (s.wset WR.ETH_STATUS_STEER_WAIT 0).showEth

/-! ### Links (R386, R404, R406) -/

/-- The responses of a port leave (R582). -/
def sendResp (k : Nat) (s : State) : State :=
  let l := SMap.getD [] k s.eth.resp
  (l.foldl (fun s f => s.emit (.frame k f)) s).modEth fun e => { e with resp := SMap.erase k e.resp }

/-- A response of the dictionary agent to a port with a buffer of two (R582). -/
def respond (k : Nat) (f : List Nat) (s : State) : State :=
  if 2 ≤ s.epState k then s.emit (.frame k f)
  else if 2 ≤ (SMap.getD [] k s.eth.resp).length then s.wadd WR.DICT_CNT_RESP_LOST 1
  else s.modEth fun e => { e with resp := SMap.modify [] k (fun l => l ++ [f]) e.resp }

/-- The link of a port is good: for 1 ms where `stable` (R386, R406). -/
def linkUp (k : Nat) (stable : Bool) (s : State) : State :=
  if s.epState k = 0 then s
  else
    let s := s.wsets [(WR.ETH_P_STATUS_BLOCK_LOCK k, 1), (WR.ETH_P_STATUS_HI_BER k, 0),
      (WR.ETH_P_STATUS_FEC_ALIGN k, b2n (s.wget (WR.ETH_P_CFG_MODE k) == 2))]
    if s.epState k ≠ 1 then s
    else if s.eth.active.contains k then (s.setEp k 4).sendResp k
    else if stable then (s.setEp k 2).sendResp k
    else s

/-- The link of a port fails: 0 block lock, 1 hi_ber, 2 RS-FEC alignment (R386, R406). -/
def linkDown (k cause : Nat) (s : State) : State :=
  if s.epState k = 0 then s
  else
    let s := if cause = 1 then s.wset (WR.ETH_P_STATUS_HI_BER k) 1
      else if cause = 2 then s.wset (WR.ETH_P_STATUS_FEC_ALIGN k) 0
      else s.wsets [(WR.ETH_P_STATUS_BLOCK_LOCK k, 0), (WR.ETH_P_STATUS_FEC_ALIGN k, 0)]
    if s.epState k = 1 then s
    else ((s.cancelAdd k).modEth fun e => { e with down := SMap.insert k s.now e.down }).setEp k 1

/-- An ACTIVE port has been DOWN for LINK_TMO (R404). -/
def linkTimeout (k : Nat) (s : State) : State :=
  let t := max 1 (s.wget WR.ETH_CFG_LINK_TMO) * Config.usTicks
  if s.eth.active.contains k && s.epState k == 1 && decide (SMap.getD 0 k s.eth.down + t ≤ s.now) then
    (s.removePort k 2 false).wset (WR.ETH_P_STATUS_LINK_LOST k) 1
  else s

/-! ### Received frames (R338, R387, R388) -/

end State

/-- A received UDP datagram (R388). -/
structure UdpIn where
  v6 : Bool
  mac : List Nat
  tag : Option Nat
  src : List Nat
  dst : List Nat
  sport : Nat
  dport : Nat
  len : Nat
  data : List Nat
  deriving DecidableEq, Repr

/-- A frame without its single VLAN tag: the tag, the Ethertype and what follows. -/
def untag (b : List Nat) : Option Nat × Nat × List Nat :=
  if ofBe ((b.drop 12).take 2) = 0x8100 then
    (some (ofBe ((b.drop 14).take 2)), ofBe ((b.drop 16).take 2), b.drop 18)
  else (none, ofBe ((b.drop 12).take 2), b.drop 14)

/-- The UDP datagram of a frame. -/
def udpOf (b : List Nat) : Option UdpIn :=
  let (tag, et, r) := untag b
  let mac := (b.drop 6).take 6
  let mk (v6 : Bool) (src dst u : List Nat) : UdpIn :=
    ⟨v6, mac, tag, src, dst, ofBe (u.take 2), ofBe ((u.drop 2).take 2), ofBe ((u.drop 4).take 2),
      (u.drop 8).take (ofBe ((u.drop 4).take 2) - 8)⟩
  if et = 0x0800 ∧ r.headD 0 / 16 = 4 ∧ r.getD 9 0 = 17 then
    some (mk false ((r.drop 12).take 4) ((r.drop 16).take 4) (r.drop (r.headD 0 % 16 * 4)))
  else if et = 0x86DD ∧ r.headD 0 / 16 = 6 ∧ r.getD 6 0 = 17 then
    some (mk true ((r.drop 8).take 16) ((r.drop 24).take 16) (r.drop 40))
  else none

namespace State

/-- The PTP message of a frame that matches MER_PTP_CTRL (R91–R93). -/
def ptpOf (k : Nat) (b : List Nat) (s : State) : Option (List Nat) :=
  if k ≠ s.wget WR.MER_PTP_CTRL_PORT then none
  else
    let m : Option (List Nat) := if s.won WR.MER_PTP_CTRL_TRANSPORT then
        match udpOf b with
        | some u => if !u.v6 && (u.dport == 319 || u.dport == 320) &&
            (u.dst == [224, 0, 1, 129] || (s.won WR.MER_PTP_CTRL_DREQ_UC && u.dst == s.epIp k false)) then
            some u.data else none
        | none => none
      else if (untag b).2.1 = 0x88F7 ∧ b.take 6 = [0x01, 0x1B, 0x19, 0, 0, 0] then some (untag b).2.2
      else none
    match m with
    | none => none
    | some d => if [0, 1, 8, 9, 11].contains (d.headD 0 % 16) && d.getD 4 0 == s.wget WR.MER_PTP_CTRL_DOMAIN then
        some d else none

/-- Bytes packed into 64-bit words, most significant byte first, zero-padded (R338). -/
def packBytes : Nat → List Nat → List Nat
  | 0, _ => []
  | _, [] => []
  | n + 1, l =>
    let c := l.take 8
    ofBe (c ++ List.replicate (8 - c.length) 0) :: packBytes n (l.drop 8)

/-- The packet of a received frame (R338). -/
def rxPacket (k : Nat) (b : List Nat) : List Nat :=
  pack [(46, 44, k), (13, 0, b.length)] :: packBytes (b.length + 1) b

/-- A PTP message is stamped and delivered; a Sync of the parent counts for R85. -/
def ptpDeliver (k fine : Nat) (b msg : List Nat) (s : State) : State :=
  let event := msg.headD 0 % 16 < 2
  let stamp := if event then
      stampBits (timeAdd (s.timeFine fine) (signed 32 (s.wget WR.MER_PTP_RX_LAT_LAT))) else 0
  let s := s.wadd (WR.ETH_P_RX_ACCEPTED k) 1
  let s := if msg.headD 0 % 16 = 0 ∧ ofBe ((msg.drop 20).take 10) = s.mer.parent then s.syncArrives else s
  s.offerPacket 10 false (rxPacket k b ++ [stamp / 2 ^ 48, stamp % 2 ^ 48 * 2 ^ 16])

/-- A datagram for the dictionary agent (R388, R584). -/
def dictFrame (k : Nat) (b : List Nat) (s : State) : Bool :=
  match udpOf b with
  | none => false
  | some u => u.dport == 4911 && bit k (s.wget WR.DICT_OPT_INBAND_EN) && u.dst == s.epIp k u.v6

/-- A frame reaches a port (R387, R388). -/
def frameRx (k : Nat) (fcs : Bool) (b : List Nat) (fine : Nat) (s : State) : State :=
  if s.epState k < 2 then s
  else if !fcs then s.wadd (WR.ETH_P_RX_FCS_ERR k) 1
  else if (untag b).2.1 = 0x8808 then s.wadd (WR.ETH_P_RX_PAUSE k) 1
  else match s.ptpOf k b with
    | some m => s.ptpDeliver k fine b m
    | none =>
      if s.dictFrame k b then (s.wadd (WR.ETH_P_RX_ACCEPTED k) 1).offerPacket 11 false (rxPacket k b)
      else s.wadd (WR.ETH_P_RX_DROPPED k) 1

end State

/-- PORT_LINK_UP (R386, R406): `stable` once the link has been good for 1 ms. -/
def execPortLinkUp (port : Nat) (stable : Bool) (s : State) : Res := .next <| s.linkUp port stable

/-- PORT_LINK_DOWN (R386, R406): 0 block lock, 1 hi_ber, 2 RS-FEC alignment lost. -/
def execPortLinkDown (port cause : Nat) (s : State) : Res := .next <| s.linkDown port cause

/-- EP_FRAME_RX (R387, R388): a frame's bytes without FCS; its timestamp point is `fine` bins past the tick. -/
def execEpFrameRx (port : Nat) (fcs : Bool) (bytes : List Nat) (fine : Nat) (s : State) : Res :=
  .next <| s.frameRx port fcs bytes fine

/-- PTP_FRAME_RX (R85, R91–R94): a PTP frame with a good FCS. -/
def execPtpFrameRx (port : Nat) (bytes : List Nat) (fine : Nat) (s : State) : Res :=
  if 2 ≤ s.epState port then
    match s.ptpOf port bytes with
    | some m => .next <| s.ptpDeliver port fine bytes m
    | none => .next s
  else .next s

/-- RECORD_STEER (R398–R400, R451, R563). -/
def execRecordSteer (bad : Nat) (s : State) : Res := .next <| if s.isRun then s.steer bad else s

/-- DATAGRAM_SENT (R390, R394). -/
def execDatagramSent (port : Nat) (s : State) : Res := .next <| s.datagram port

/-- STEER_ADD (R402, R403). -/
def execSteerAdd (port : Nat) (s : State) : Res := .next <| s.steerCmd 1 port

/-- STEER_REMOVE (R403–R406). -/
def execSteerRemove (port : Nat) (s : State) : Res := .next <| s.steerCmd 2 port

/-- STEER_COMMIT (R402, R403). -/
def execSteerCommit (s : State) : Res := .next <| s.steerCmd 3 0

/-- STEER_OP_INVALID (R403). -/
def execSteerOpInvalid (s : State) : Res := .next <| s.steerCmd 0 0

/-- STEER_BOUNDARY (R402). -/
def execSteerBoundary (s : State) : Res := .next s.boundary

/-- PORT_LINK_TIMEOUT (R404): due once an ACTIVE port has been DOWN for LINK_TMO. -/
def execPortLinkTimeout (port : Nat) (s : State) : Res := .next <| s.linkTimeout port

end Sys2Proof.Machine
end

