-- ==== Sys2Proof/Machine/WnImage.lean ====
section
/-! DEFINITION. Configuration images and the admission checks (spec/13 R422–R431, with R11, R27, R28, R304,
R322, R421, R541). -/

namespace Sys2Proof.Machine

open Sys2Proof

/-! ### The image as bytes (R422–R425) -/

/-- A big-endian number of `n` bytes from offset `o`. -/
def beAt (l : List Nat) (o n : Nat) : Nat := ofBe ((l.drop o).take n)

/-- MAGIC is right. -/
def imgMagic (l : List Nat) : Bool := beAt l 0 2 == 0xC5A3

/-- LENGTH is in range. -/
def imgLenOk (n : Nat) : Bool := decide (48 ≤ n) && decide (n ≤ 524288) && n % 8 == 0

/-- A copy is valid (R425). -/
def imgValid (l : List Nat) : Bool :=
  let n := beAt l 8 4
  imgMagic l && beAt l 2 1 == 1 && imgLenOk n && l.length == n && beAt l (n - 8) 4 == 0x5EA1C5A3
    && crc32c (l.take (n - 4)) == beAt l (n - 4) 4

/-- A copy is half-written (R425). -/
def imgHalf (l : List Nat) : Bool := imgMagic l && !imgValid l

/-- A section: offset, TYPE, INDEX and body (R422). -/
structure ImgSec where
  off : Nat
  typ : Nat
  index : Nat
  body : List Nat
  deriving DecidableEq, Repr

/-- `n` sections from offset `off`; the offset where they do not fit or a TYPE is unknown. -/
def imgSecs : Nat → Nat → List Nat → List ImgSec × Option Nat
  | 0, off, l => ([], if l.isEmpty then none else some off)
  | n + 1, off, l =>
    let typ := l.headD 0
    let len := beAt l 4 4
    let unit := if typ = 5 then 16 else 8
    if l.length < 8 + len ∨ typ = 0 ∨ 5 < typ ∨ len % unit ≠ 0 ∨ (typ = 2 ∧ len = 0) then ([], some off)
    else
      let (r, e) := imgSecs n (off + 8 + len) (l.drop (8 + len))
      (⟨off, typ, beAt l 2 2, (l.drop 8).take len⟩ :: r, e)

/-- The entries of a body of `n` entries, each with its offset. -/
def imgEntries (unit : Nat) : Nat → Nat → List Nat → List (Nat × List Nat)
  | 0, _, _ => []
  | n + 1, off, l => (off, l.take unit) :: imgEntries unit n (off + unit) (l.drop unit)

/-- The entries of a section. -/
def ImgSec.entries (x : ImgSec) : List (Nat × List Nat) :=
  let unit := if x.typ = 5 then 16 else 8
  imgEntries unit (x.body.length / unit) (x.off + 8) x.body

/-- Entries of a type, with their section's INDEX. -/
def ofType (typ : Nat) (l : List ImgSec) : List (Nat × Nat × List Nat) :=
  ((l.filter fun x => x.typ == typ).map fun x => x.entries.map fun e => (e.1, x.index, e.2)).flatten

/-- A declaration whose INDEX counts (R424). -/
def declIndexed (id : Nat) : Bool := id == 2 || id == 3 || id == 7 || id == 8 || id == 9 || id == 0xC

/-- What the checks read of an image, later entries first where the last one stands (R423). -/
structure ImgRead where
  bytes : List Nat
  bad : Option Nat
  secs : List ImgSec
  wreg : List (Nat × Nat × Nat)
  tports : List (Nat × TPort)
  parts : List (Nat × Nat × Nat × Nat)
  decl : List (Nat × Nat × Nat × Nat)
  tasks : List (Nat × ImgTask)
  deriving DecidableEq, Repr

/-- Read an image into its sections. -/
def readImage (l : List Nat) : ImgRead :=
  let (secs, e) := imgSecs (beAt l 12 2) 32 ((l.take (l.length - 8)).drop 32)
  let decl := (ofType 4 secs).map fun x =>
    let id := beAt x.2.2 0 2
    (x.1, id, if declIndexed id then beAt x.2.2 2 2 else 0, beAt x.2.2 4 4)
  let unknown := (decl.find? fun d => d.2.1 = 0 ∨ 0xD < d.2.1).map (·.1)
  { bytes := l
    bad := if e.isSome then e else unknown
    secs := secs
    wreg := (ofType 1 secs).map fun x => (x.1, beAt x.2.2 0 4, beAt x.2.2 4 4)
    tports := ((secs.filter fun x => x.typ == 2).map fun x =>
      (x.off + 8, (⟨x.index, beAt x.body 0 4, beAt x.body 4 1,
        (x.entries.drop 1).map fun e => (beAt e.2 0 2, beAt e.2 4 4)⟩ : TPort))).reverse
    parts := ((ofType 3 secs).map fun x => (x.1, beAt x.2.2 0 1, beAt x.2.2 2 2, beAt x.2.2 4 2)).reverse
    decl := decl.reverse
    tasks := (ofType 5 secs).map fun x => (x.1, (⟨beAt x.2.2 0 2, beAt x.2.2 2 1, beAt x.2.2 3 1, beAt x.2.2 4 1,
      beAt x.2.2 5 3, beAt x.2.2 8 3, beAt x.2.2 11 3⟩ : ImgTask)) }

/-- The image in use, from what the checks read. -/
def ImgRead.image (r : ImgRead) : Image :=
  ⟨beAt r.bytes 3 1, beAt r.bytes 4 4, r.bytes.length, beAt r.bytes (r.bytes.length - 4) 4,
    r.wreg.map (·.2), r.tports.map (·.2), r.parts.map (·.2), r.decl.map (·.2), r.tasks.map (·.2)⟩

/-- The image pair digest (R542): the sections in order without WREG entries of MER, ETH, PAIR and CAN. -/
def ImgRead.digest (r : ImgRead) : Nat :=
  crc32c ((r.secs.map fun x =>
    let keep (e : Nat × List Nat) : Bool :=
      x.typ != 1 || !List.contains [0x4002, 0x4006, 0x400B, 0x400C] (beAt e.2 0 2)
    [x.typ, 0] ++ beBytes 2 x.index ++ beBytes 4 x.body.length
      ++ ((x.entries.filter keep).map (·.2)).flatten).flatten)

/-! ### What a check reads (R424, R431) -/

/-- The image with the registers as they stand once its WREG entries are applied. -/
structure Adm where
  r : ImgRead
  wr : RegFile
  variant : Nat
  lanes : Nat
  ports : Nat
  engines : Nat

namespace Adm

/-- A register field after the image. -/
def f (c : Adm) (x : Fld) : Nat := c.wr.get x

/-- Whether a field is not zero after the image. -/
def on (c : Adm) (x : Fld) : Bool := c.wr.on x

/-- A declared value or its default (R424). -/
def decl (c : Adm) (id index dflt : Nat) : Nat :=
  ((c.r.decl.find? fun d => d.2.1 == id && d.2.2.1 == index).map (·.2.2.2)).getD dflt

/-- The offset of the last WREG entry of a register. -/
def off (c : Adm) (a : Nat) : Option Nat := (c.r.wreg.reverse.find? fun w => w.2.1 == a).map (·.1)

/-- The TPORT section of a port, with the offset of its first entry. -/
def tport (c : Adm) (p : Nat) : Option (Nat × TPort) := c.r.tports.find? fun t => t.2.port == p

/-- The value a TPORT section leaves at a Tladon address. -/
def tl (c : Adm) (p a reset : Nat) : Nat :=
  match c.tport p with
  | some t => ((t.2.writes.reverse.find? fun w => w.1 == a).map (·.2)).getD reset
  | none => reset

/-- Expected ports. -/
def expect (c : Adm) : List Nat :=
  (List.range 48).filter fun p => bit p (c.f WR.MUS_EXPECT_LO_EXPECT + 2 ^ 32 * c.f WR.MUS_EXPECT_HI_EXPECT)

/-- The ports of the image: expected or with a TPORT section. -/
def all (c : Adm) : List Nat := (List.range 48).filter fun p => c.expect.contains p || (c.tport p).isSome

/-- The size of a partition in bytes. -/
def part (c : Adm) (code : Nat) : Nat :=
  ((c.r.parts.find? fun x => x.2.1 == code).map fun x => x.2.2.2 * 65536).getD 0

/-- The Muster mode: 0 triggered, 1 streaming, 2 speculative. -/
def mode (c : Adm) : Nat := c.f WR.MUS_CFG_MODE % 3

/-- The tick in ns at the configured Datum (R35). -/
def tick (c : Adm) : Rat := 1000000000 / (32 * c.f WR.MER_DATUM_CFG_FREQ : Nat)

/-- The frame time in seconds. -/
def tf (c : Adm) : Rat := 65536 * c.tick / 1000000000

/-- R_rec in Hz (R431). -/
def rec' (c : Adm) : Rat := if c.mode = 1 then 1 / c.tf else c.decl 6 0 0

/-- N_p in words. -/
def np (c : Adm) (p : Nat) : Rat := (c.decl 7 p 0 : Rat) / 256

/-- ADMIT_PACE as declared, in the range of R437. -/
def pace (c : Adm) : Nat := max 250 (min 640 (c.decl 0xD 0 500))

/-- π of R431. -/
def pi (c : Adm) : Rat := (c.pace : Rat) / 500

/-- B in bytes. -/
def body (c : Adm) : Nat := c.decl 0xA 0 0

/-- L in bytes; ρ_min of 0 counts as 1/256. -/
def len (c : Adm) : Nat :=
  let r := max 1 (c.decl 0xB 0 256)
  80 + (c.body * 256 + r - 1) / r + 5 * max 1 ((c.body + 65534) / 65535)

/-- R_in in bytes per second. -/
def rin (c : Adm) : Rat := c.rec' * (c.expect.map fun p => c.np p + 2).foldl (· + ·) 0 * 8

/-- LAT in its range. -/
def lat (c : Adm) : Nat := max 205 (min 256 (c.f WR.ADM_PRIM_CFG_LAT))

/-- UPMAX. -/
def upmax (c : Adm) : Nat := c.f WR.ADM_PRIM_CFG_UPMAX

/-- EVT_TMO in seconds, with DWIN in a pair (R550). -/
def evt (c : Adm) : Rat :=
  ((max 1 (c.f WR.MUS_TMO_EVT_TMO) +
    (if c.on WR.PAIR_CFG_EN then max 1 (c.f WR.PAIR_CFG_DWIN) else 0) : Nat) : Rat) / 1000000

/-- T_c in seconds (R379). -/
def tc (c : Adm) : Rat := 2 * ((c.body : Rat) / (2000000000 * c.pi) + 1 / 1000000)

/-- MTU of a port. -/
def mtu (c : Adm) (k : Nat) : Nat := max 1280 (min 9000 (c.f (WR.ETH_P_CFG_MTU k)))

/-- LB of a record on port `k` to destination `d` (R431). -/
def lb (c : Adm) (k d : Nat) : Nat :=
  let h := if c.on (WR.DEST_CTRL_IPV6 d) then 40 else 20
  let size := (c.mtu k - h - 32) / 8 * 8
  c.len + (c.len + size - 1) / size * (h + 70 + 4 * c.f (WR.DEST_CTRL_VLAN_EN d))

/-- What each port carries, as (port, destination, records per second) (R399, R401, R431). -/
def shares (c : Adm) : List (Nat × Nat × Rat) :=
  if c.on WR.ETH_CFG_STEER_MODE then
    let n := max 1 (min 256 (c.f WR.ETH_STEER_LEN_LEN))
    (List.range n).map fun i =>
      let m := i / 4
      let d := [c.f (WR.ETH_STEER_TAB_T0 m), c.f (WR.ETH_STEER_TAB_T1 m), c.f (WR.ETH_STEER_TAB_T2 m),
        c.f (WR.ETH_STEER_TAB_T3 m)].getD (i % 4) 0
      (c.f (WR.DEST_CTRL_PORT d), d, c.rec' / n)
  else
    let l := (List.range c.ports).filter fun k =>
      c.on (WR.ETH_P_CFG_START k) && decide (c.f (WR.ETH_P_CFG_MODE k) % 4 != 0) &&
        decide (c.f (WR.ETH_P_CFG_MODE k) < 4)
    l.map fun k => (k, c.f (WR.ETH_P_CFG_DEST k), c.rec' / l.length)

/-- The MAC rate of a port in bit/s (R385). -/
def rate (c : Adm) (k : Nat) : Nat :=
  let m := c.f (WR.ETH_P_CFG_MODE k)
  if c.ports ≤ k then 0 else if m = 1 ∨ m = 2 then 25000000000 else if m = 3 then 10000000000 else 0

end Adm

/-! ### The checks (R431) -/

/-- A failed check: class, INDEX, SUB where the spec states one, and VALUE before saturation. -/
structure Refused where
  cls : Nat
  index : Nat
  sub : Option Nat
  value : Nat
  deriving DecidableEq, Repr

/-- A shortfall as VALUE shows it. -/
def short (x : Rat) : Nat := x.ceil.toNat

/-- Fields whose tables state a range outside which a value clamps or is ignored. -/
def rangedFields : List (Fld × Nat × Nat) :=
  [(WR.MER_CTRL_SRC, 0, 3), (WR.MER_DATUM_CFG_FREQ, 38000000, 42000000), (WR.ADM_PACE_CFG_ADMIT_PACE, 250, 640),
    (WR.ADM_VCORE_LIM_VMAX, 800, 1100), (WR.ADM_VCORE_LIM_VMIN, 800, 1100), (WR.ADM_PRIM_CFG_LAT, 205, 256),
    (WR.ADM_SHED_CFG_DEG_FILL, 50, 95), (WR.CAN_NBT_BRP, 1, 32), (WR.CAN_NBT_TSEG1, 2, 255),
    (WR.CAN_NBT_TSEG2, 1, 127), (WR.CAN_NBT_SJW, 1, 127), (WR.CAN_DBT_BRP, 1, 32), (WR.CAN_DBT_TSEG1, 1, 32),
    (WR.CAN_DBT_TSEG2, 1, 16), (WR.CAN_DBT_SJW, 1, 16), (WR.MEM_INJECT_MEM, 0, 4)]
    ++ (List.range 8).map fun k => (WR.ETH_P_CFG_MTU k, 1280, 9000)

/-- A register value that a WREG entry may give (class 0x02). -/
def wregOk (a v : Nat) : Bool :=
  match regAt WR.rows a with
  | none => false
  | some fs =>
    let open' := fs.filter fun x => x.acc == .rw || x.acc == .rwa
    let m := open'.foldl (fun m x => m ||| ((x.size - 1) * 2 ^ x.lo)) 0
    !open'.isEmpty && a % 4 == 0 && (v &&& m) == v &&
      rangedFields.all fun x => x.1.addr != a ||
        (decide (x.2.1 ≤ bits x.1.hi x.1.lo v) && decide (bits x.1.hi x.1.lo v ≤ x.2.2))

/-- A register of an absent unit (R8, R9, R294, R334, R357, R383, R409, R567). -/
def absentReg (variant a : Nat) : Bool :=
  let inR (lo hi : Nat) : Bool := decide (lo ≤ a) && decide (a < hi)
  if variant = 3 then
    inR 0x40030400 0x40030700 || inR 0x40031300 0x40031600 || inR 0x40038300 0x40038600
      || inR 0x40039180 0x40039300 || inR 0x40040580 0x40040700 || inR 0x400B01C0 0x400B0280
  else if variant = 2 then
    inR 0x40008040 0x40008080 || inR 0x40008180 0x40008280 || inR 0x40050100 0x40050300
      || inR 0x40060A00 0x40060C00
  else false

namespace Adm

/-- Class 0x01 FORMAT. -/
def format (c : Adm) : Option Refused :=
  if !imgValid c.r.bytes || beAt c.r.bytes 3 1 != c.variant then some ⟨1, 0, none, 0⟩
  else c.r.bad.map fun o => ⟨1, 0, none, o / 8⟩

/-- Class 0x02 RANGE. -/
def range (c : Adm) : Option Refused :=
  let at' (o : Nat) : Refused := ⟨2, 0, none, o / 8⟩
  match c.r.wreg.find? fun w => !wregOk w.2.1 w.2.2 with
  | some w => some (at' w.1)
  | none => match c.r.secs.find? fun x => (x.typ != 2 && x.index != 0) || (x.typ == 2 && decide (48 ≤ x.index)) with
    | some x => some (at' x.off)
    | none => match c.r.parts.reverse.find? fun x => x.2.1 = 0 ∨ 4 < x.2.1 with
      | some x => some (at' x.1)
      | none => match c.r.tasks.drop 64 with
        | t :: _ => some (at' t.1)
        | [] => (c.r.tasks.find? fun t => 1024 ≤ t.2.task ∨ t.2.core = 0 ∨ 4 < t.2.core ∨ 15 < t.2.prio
            ∨ 15 < t.2.ceil).map fun t => at' t.1

/-- Class 0x03 ABSENT (R11). -/
def absent (c : Adm) : Option Refused :=
  let bad (i o : Nat) : Refused := ⟨3, i, none, o / 8⟩
  match c.r.wreg.find? fun w => absentReg c.variant w.2.1 with
  | some w => some (bad 0 w.1)
  | none => match c.r.tports.reverse.find? fun t => decide (c.lanes ≤ t.2.port) || (!bit 0 t.2.cap &&
      ((t.2.writes.any fun w => decide (0x0900 ≤ w.1) && decide (w.1 < 0x0B00)) || c.decl 9 t.2.port 0 != 0)) with
    | some t => some (bad t.2.port t.1)
    | none => match c.expect.find? fun p => decide (c.lanes ≤ p) with
      | some p => some (bad p ((c.off WR.MUS_EXPECT_HI).getD 0))
      | none =>
        let pt := c.f WR.MER_PTP_CTRL_PORT
        let sy := c.f WR.MER_SYNCE_CTRL_PORT
        if c.ports ≤ pt then some (bad pt ((c.off WR.MER_PTP_CTRL).getD 0))
        else if c.ports ≤ sy then some (bad sy ((c.off WR.MER_SYNCE_CTRL).getD 0))
        else ((List.range 256).find? fun d =>
          c.on (WR.DEST_CTRL_VALID d) && decide (c.ports ≤ c.f (WR.DEST_CTRL_PORT d))).map fun d =>
            bad (c.f (WR.DEST_CTRL_PORT d)) ((c.off (WR.DEST_CTRL d)).getD 0)

/-- A partition of the list that overlaps an earlier one or enters the Yard reserve (R425). -/
def badPart : List (Nat × Nat × Nat × Nat) → Option (Nat × Nat)
  | [] => none
  | x :: earlier =>
    match badPart earlier with
    | some r => some r
    | none =>
      let hi := x.2.2.1 + x.2.2.2
      if 0xF8 < hi ∨ earlier.any fun y => decide (x.2.2.1 < y.2.2.1 + y.2.2.2) && decide (y.2.2.1 < hi) then
        some (x.2.1, x.1)
      else none

/-- The WALK partition does not hold the tables of a port (R137, R431). -/
def badWalk (c : Adm) (p : Nat) : Bool :=
  c.on (WR.WALK_CTRL_EN p) && !(c.r.parts.any fun x => x.2.1 == 1 &&
    decide (x.2.2.1 ≤ c.f (WR.WALK_ADDR_BASE p)) &&
    decide (c.f (WR.WALK_ADDR_BASE p) < x.2.2.1 + x.2.2.2))

/-- Class 0x04 CONSISTENCY. -/
def consistency (c : Adm) : Option Refused :=
  let bad (i o : Nat) : Refused := ⟨4, i, none, o / 8⟩
  match badPart c.r.parts with
  | some x => some (bad x.1 x.2)
  | none => match (List.range c.lanes).find? c.badWalk with
    | some p => some (bad p (((c.off (WR.WALK_ADDR p)).or (c.off (WR.WALK_CTRL p))).getD 0))
    | none => match c.r.tports.reverse.find? fun t =>
        !(t.2.bond == 1 || t.2.bond == 2 || t.2.bond == 4) || t.2.port % max 1 t.2.bond != 0
          || decide (c.lanes < t.2.port + t.2.bond) with
      | some t => some (bad t.2.port t.1)
      | none => match c.expect.find? fun p =>
          let w := c.tl p TR.PAD_WIN 0x00200020
          bits 27 16 w != c.f WR.MUS_WIN_W_PRE || bits 12 0 w != c.f WR.MUS_WIN_W_POST with
        | some p => some (bad p (((c.off WR.MUS_WIN).or ((c.tport p).map (·.1))).getD 0))
        | none =>
          if c.part 2 < 32 * max 1 (c.f WR.MUS_FRAG_MAX_MAX) then
            some (bad 2 ((c.off WR.MUS_FRAG_MAX).getD 0))
          else if !c.on WR.PAIR_CFG_EN then none
          else if c.on WR.MER_DATUM_CFG_DATUM_SRC then some (bad 0 ((c.off WR.MER_DATUM_CFG).getD 0))
          else match c.r.tports.reverse.find? fun t => t.2.port % 2 == 1 || t.2.bond != 2 with
            | some t => some (bad t.2.port t.1)
            | none => if c.f WR.ETH_CFG_UNIT ≠ c.f WR.PAIR_CFG_SIDE then
                some (bad 0 (((c.off WR.ETH_CFG).or (c.off WR.PAIR_CFG)).getD 0)) else none

/-- Class 0x05 LOOP (R27, R28, R304, R417). -/
def loop (c : Adm) : Option Refused :=
  let d (id p : Nat) : Rat := c.decl id p 0
  let need (p : Nat) (ns : Rat) : Nat :=
    c.upmax + c.lat + (ns / c.tick).ceil.toNat + bits 27 16 (c.tl p TR.PAD_WIN 0x00200020)
  let own (p : Nat) : Nat := need p (d 1 0 + d 4 0 + d 5 0 + 200 + d 3 p)
  let self (p : Nat) : Nat := if c.on WR.MUS_SELF_CFG_EN then need p (225 + d 3 p) else 0
  (c.all.find? fun p => decide (65536 < max (own p) (self p))).map fun p =>
    ⟨5, p, none, max (own p) (self p) - 65536⟩

/-- The ports that feed primitives. -/
def feeds (c : Adm) : List Nat :=
  let m := (c.f WR.ADM_PO_MASK0_LO_MASK ||| c.f WR.ADM_PO_MASK1_LO_MASK)
    + 2 ^ 32 * (c.f WR.ADM_PO_MASK0_HI_MASK ||| c.f WR.ADM_PO_MASK1_HI_MASK)
  c.all.filter fun p => c.on WR.MUS_SELF_CFG_EN || bit p m

/-- Class 0x06 PRIM (R421). -/
def prim (c : Adm) : Option Refused :=
  let need := 168 + (16 * (1000 / (c.pace : Rat)) / c.tick).ceil.toNat
  let up (p : Nat) : Nat := ((c.decl 2 p 0 : Rat) / c.tick).ceil.toNat
  if c.lat < need then some ⟨6, 0, none, need - c.lat⟩
  else (c.feeds.find? fun p => decide (c.upmax < up p)).map fun p => ⟨6, p, none, up p - c.upmax⟩

/-- W_0 of R254 with the declared fractions. -/
def w0 (c : Adm) (p : Nat) : Rat :=
  let v := c.decl 8 p (2 ^ 32)
  let ff : Rat := if v = 2 ^ 32 then 2 else ((v % 65536 + v / 65536 : Nat) : Rat) / 65536
  let win : Rat := if bit 0 (c.tl p TR.PAD_PRIM 0x00002020) then 2048 * (1 + 8 * ff) else 0
  (65536 - win) * 238 / 255 * 8 / 66 * 180 / 181

/-- By how much uplink `k` of a port is short (R431). -/
def upShort (c : Adm) (t : TPort) (k : Nat) : Rat :=
  let d := c.rec' * c.tf * (c.np t.port + 2) / max 1 t.bond
  if k = 0 then d + (c.decl 9 t.port 0 : Rat) * c.tf + 64 - 95 * c.w0 t.port / 100
  else d - 95 * 7373 / 100

/-- Class 0x07 UPLINK. -/
def uplink (c : Adm) : Option Refused :=
  let all := (((List.range 48).filterMap c.tport).map fun t => (List.range t.2.bond).map fun k => (t.2, k)).flatten
  (all.find? fun x => decide (0 < c.upShort x.1 x.2)).map fun x =>
    ⟨7, x.1.port, some x.2, short (c.upShort x.1 x.2)⟩

/-- Class 0x08 FABRIC. -/
def fabric (c : Adm) : Option Refused :=
  let cap : Rat := (if c.variant = 2 ∨ c.on WR.CMP_CTRL_BYPASS then 128 else 16 * c.engines : Nat)
  let a := c.rec' * c.body * 8 - cap * 1000000000 * c.pi
  let walked := ((c.expect.filter fun p => c.on (WR.WALK_CTRL_EN p)).map c.np).foldl (· + ·) 0
  let ty := c.rin + 32 * c.rec' * walked + 2 * c.rec' * c.body + 2 * c.rec' * c.len
    + (if c.mode = 2 then 2 * c.rin else 0)
  let b := ty - 512000000000 * c.pi
  if 0 < a then some ⟨8, 0, some 0, short (a / 1000000)⟩
  else if 0 < b then some ⟨8, 0, some 1, short (b / 1000000)⟩
  else none

/-- Class 0x09 EGRESS. -/
def egress (c : Adm) : Option Refused :=
  let excess (k : Nat) : Rat :=
    ((c.shares.filter fun x => x.1 == k).map fun x =>
      x.2.2 * ((c.lb x.1 x.2.1 * 8 : Nat) : Rat)).foldl (· + ·) (0 : Rat)
      - 98 * (c.rate k : Rat) / 100
  ((List.range 8).find? fun k => decide (0 < excess k)).map fun k => ⟨9, k, none, short (excess k / 1000000)⟩

/-- Class 0x0A RESIDENCY. -/
def residency (c : Adm) : Option Refused :=
  let ev := 2 * c.rin * (c.evt + c.tc) - (c.part 2 : Rat)
  let led := 2 * c.rec' * c.expect.length * (c.evt + c.tc) - 262144
  let h : Nat := (if c.f WR.MUS_SPEC_CFG_HZN = 0 then 2048 else c.f WR.MUS_SPEC_CFG_HZN) * 32
  let sp := 2 * c.rin * ((h + 2592 + c.upmax : Nat) * c.tick / 1000000000 + c.tc) - (c.part 3 : Rat)
  let lb : Nat := (c.shares.map fun x => c.lb x.1 x.2.1).foldl max 0
  let eg := 2 * c.rec' * lb * (((max 1 (c.f WR.ETH_CFG_LINK_TMO) + 20 : Nat) : Rat) / 1000000) - (c.part 4 : Rat)
  if 0 < ev then some ⟨0xA, 2, some 0, short (ev / 1024)⟩
  else if 0 < led then some ⟨0xA, 0, some 1, short led⟩
  else if c.mode = 2 ∧ 0 < sp then some ⟨0xA, 3, some 2, short (sp / 1024)⟩
  else if 0 < eg then some ⟨0xA, 4, some 3, short (eg / 1024)⟩
  else none

/-- Class 0x0B FRAGMENT. -/
def fragment (c : Adm) : Option Refused :=
  let n := max 1 (c.f WR.MUS_FRAG_MAX_MAX)
  let (code, size) := if c.mode = 2 ∧ c.part 3 < c.part 2 then (3, c.part 3) else (2, c.part 2)
  if size < 32 * n then some ⟨0xB, code, none, n - size / 32⟩ else none

/-- The response-time iteration of R431: the amount by which a task misses D, if it does. -/
def respond (cost d : Nat) (hp : List ImgTask) : Nat → Nat → Option Nat
  | 0, _ => none
  | fuel + 1, r =>
    let r' := cost + (hp.map fun j => (r + max 1 j.t - 1) / max 1 j.t * j.c).foldl (· + ·) 0
    if d < r' then some (r' - d)
    else if r' = r then none
    else respond cost d hp fuel r'

/-- The interfering tasks of entry `i`. -/
def interfere (ts : List ImgTask) (i : Nat) (t : ImgTask) : List ImgTask :=
  (ts.zipIdx.filter fun x => x.2 != i && x.1.core == t.core && decide (t.prio ≤ x.1.ceil)).map (·.1)

/-- Class 0x0C SCHEDULER. -/
def scheduler (c : Adm) : Option Refused :=
  let ts := c.r.tasks.map (·.2)
  ts.zipIdx.findSome? fun x =>
    let t := x.1
    let cost := t.c + c.decl 0xC t.core 20
    let d := max 1 t.d
    (respond cost d (interfere ts x.2 t) (d + 1) cost).map fun v => ⟨0xC, t.task, none, v⟩

/-- The first check that fails, in the order of the class codes (R431). -/
def check (c : Adm) : Option Refused :=
  [format, range, absent, consistency, loop, prim, uplink, fabric, egress, residency, fragment,
    scheduler].findSome? fun k => k c

end Adm

end Sys2Proof.Machine
end

