-- ==== Sys2Proof/Machine/WnAdm.lean ====
section
/-! DEFINITION. Pace, the governor, DEGRADED and shedding; image selection, RUN and STOP (spec/13 R410–R437,
spec/17 R542, R559, R564, R565, spec/20 R636, R645). -/

namespace Sys2Proof.Machine

open Sys2Proof

namespace State

/-- Change pace and shedding. -/
def modGov (f : Gov → Gov) (s : State) : State := { s with gov := f s.gov }

/-- Change the system agent. -/
def modSys (f : Sys → Sys) (s : State) : State := { s with sys := f s.sys }

/-! ### Pace (R413–R416) -/

/-- VMAX in its range. -/
def vmax (s : State) : Nat := max 800 (min 1100 (s.wget WR.ADM_VCORE_LIM_VMAX))

/-- VMIN in its range, and not above VMAX. -/
def vmin (s : State) : Nat := min s.vmax (max 800 (min 1100 (s.wget WR.ADM_VCORE_LIM_VMIN)))

/-- ADMIT_PACE in its range. -/
def admitPace (s : State) : Nat := max 250 (min 640 (s.wget WR.ADM_PACE_CFG_ADMIT_PACE))

/-- Twice the median of sorted counts. -/
def median2 (l : List Nat) : Nat := l.getD ((l.length - 1) / 2) 0 + l.getD (l.length / 2) 0

/-- The enabled rings that are not excluded (R414). -/
def ringsUsed (counts : List Nat) (s : State) : List Nat :=
  let en := (List.range 8).filter fun n => s.won (WR.ADM_RING_EN n)
  let m := median2 (sortBy (fun a b => decide (a ≤ b)) (en.map fun n => counts.getD n 0))
  en.filter fun n => decide (4 * (2 * (counts.getD n 0 : Int) - m).natAbs ≤ m)

/-- The counts of the rings and PACE_NOW (R413, R414): the state and whether pace is known. -/
def ringCounts (counts : List Nat) (s : State) : Bool × State :=
  let used := s.ringsUsed counts
  let s := (List.range 8).foldl (fun s n => s.wsets [(WR.ADM_RING_COUNT n, min 65535 (counts.getD n 0)),
    (WR.ADM_RING_FAULT n, b2n (s.won (WR.ADM_RING_EN n) && !used.contains n))]) s
  match used.map fun n => counts.getD n 0 with
  | [] => (false, s.wset WR.ADM_PACE_PACE_NOW 0)
  | c :: r =>
    let p := r.foldl min c
    (decide (5 ≤ used.length), s.wsets [(WR.ADM_PACE_PACE_NOW, min 65535 p),
      (WR.ADM_PACE_PACE_MIN, min (s.wget WR.ADM_PACE_PACE_MIN) p)])

/-- The setpoint of VCORE. -/
def setVcore (v : Nat) (s : State) : State := s.wset WR.ADM_VCORE_SET v

/-- The governor's decision of one sample (R414–R416). -/
def govern (known : Bool) (s : State) : State :=
  let set := max s.vmin (min s.vmax (s.wget WR.ADM_VCORE_SET))
  let pace := s.wget WR.ADM_PACE_PACE_NOW
  let target := s.admitPace + s.wget WR.ADM_PACE_CFG_GUARD
  let good := if known && decide (target + s.wget WR.ADM_PACE_CFG_HYST ≤ pace) then s.gov.good + 1 else 0
  if !s.gov.live then s.setVcore 1100
  else if !s.won WR.ADM_VCORE_GOV_EN || !known then (s.setVcore s.vmax).modGov fun g => { g with good := 0 }
  else if s.gov.pause ≠ 0 then
    (s.setVcore set).modGov fun g => { g with pause := g.pause - 1, good := good }
  else if pace < target ∧ set < s.vmax then
    (s.setVcore (min s.vmax (set + 10))).modGov fun g => { g with pause := 4, good := good }
  else if 1000 ≤ good then
    (s.setVcore (max s.vmin (set - 5))).modGov fun g => { g with good := 0 }
  else (s.setVcore set).modGov fun g => { g with good := good }

/-! ### Shedding (R432–R435, R565) -/

/-- Bytes that records hold in the egress partition. -/
def egressUsed (s : State) : Nat :=
  ((s.cmp.waiting ++ s.cmp.table ++ s.cmp.areas ++ s.eth.back ++ s.eth.sent.map (·.area)).map fun a =>
    64 + a.payload.length).foldl (· + ·) 0

/-- A partition or the Ledger is filled above DEG_FILL (R432). -/
def backlogged (s : State) : Bool :=
  let f := max 50 (min 95 (s.wget WR.ADM_SHED_CFG_DEG_FILL))
  [(s.mus.yard, s.partSize 2), (s.egressUsed, s.partSize 4), (s.wget WR.MUS_LEDGER_IN_USE, 262144)].any fun x =>
    decide (f * x.2 < 100 * x.1)

/-- The declared rate exceeds the capacity of the engines that serve, at ADMIT_PACE (R432). -/
def overCapacity (s : State) : Bool :=
  let n := ((List.range s.engCount).filter fun e => decide (s.engState e < 3)).length
  let cap : Rat := ((if s.bypass then 128 else 16 * n : Nat) : Rat) * 1000000000 * s.admitPace / 500
  let rate : Rat := if s.musMode = 1 then 32 * (s.wget WR.MER_DATUM_CFG_FREQ : Rat) / 65536 else s.decl 6 0 0
  decide (cap < rate * (s.decl 0xA 0 0 : Rat) * 8)

/-- The shedding step in effect (R565). -/
def shedStep (s : State) : Nat :=
  if !s.isRun then 0
  else if s.pairOn && s.won WR.PAIR_STATUS_PARTNER then max s.gov.step (s.wget WR.PAIR_STATUS_P_STEP)
  else s.gov.step

/-- HOLD or RELEASE to every port in event building, or to every port; in a pair to those it holds
(R433–R435, R565). -/
def holdPorts (op : Nat) (every : Bool) (s : State) : State :=
  (List.range 48).foldl (fun s p =>
    if (s.inBuild p || every && s.portState p != 0) && !s.partnerHolds p then s.dlOp p op 0 else s) s

/-- What the shedding step in effect means for the other units (R333, R433, R565). -/
def applyShed (s : State) : State :=
  let n := s.shedStep
  let s := s.wsets [(WR.MUS_STATUS_SHED_SPEC, b2n (decide (1 ≤ n))), (WR.MUS_STATUS_SHED_SELF, b2n (decide (2 ≤ n))),
    (WR.ADM_DEG_STATUS_STEP, n), (WR.PAIR_STATUS_STEP, n)]
  match s.gov.cycle with
  | none => if n = 3 then (s.holdPorts 0x06 false).modGov fun g => { g with cycle := some (true, s.now) } else s
  | some _ => if n = 3 then s else (s.holdPorts 0x07 true).modGov fun g => { g with cycle := none }

/-- A shedding step has something to shed (R433). -/
def canShed (n : Nat) (s : State) : Bool :=
  if n = 1 then s.musMode == 2 else if n = 2 then s.won WR.MUS_SELF_CFG_EN else true

/-- Take the next shedding step, and pass those with nothing to shed (R433). -/
def shedNext : Nat → State → State
  | 0, s => s
  | fuel + 1, s =>
    if 3 ≤ s.gov.step then s
    else
      let n := s.gov.step + 1
      let s := (s.modGov fun g => { g with step := n, since := s.now }).applyShed
      if s.canShed n then s else shedNext fuel s

/-- The causes of DEGRADED at a sample (R432). -/
def causes (known : Bool) (low : Bool) (s : State) : State :=
  let s := s.modGov fun g => { g with
    paceRun := if low then g.paceRun + 1 else 0
    fillRun := if s.backlogged then g.fillRun + 1 else 0 }
  s.wsets [(WR.ADM_DEG_STATUS_PACE, b2n (decide (8 ≤ s.gov.paceRun))), (WR.ADM_DEG_STATUS_RINGS, b2n !known),
    (WR.ADM_DEG_STATUS_BACKLOG, b2n (decide (8 ≤ s.gov.fillRun))),
    (WR.ADM_DEG_STATUS_CAPACITY, b2n s.overCapacity)]

/-- A cause of DEGRADED is in effect. -/
def hasCause (s : State) : Bool :=
  s.won WR.ADM_DEG_STATUS_PACE || s.won WR.ADM_DEG_STATUS_RINGS || s.won WR.ADM_DEG_STATUS_BACKLOG
    || s.won WR.ADM_DEG_STATUS_CAPACITY

/-- What a sample's causes do in RUNNING and DEGRADED (R432, R433, R435). -/
def degrade (s : State) : State :=
  let c := s.hasCause
  let was := s.gov.cause
  let s := s.modGov fun g => { g with cause := c }
  if s.ws = 4 ∧ c then
    let s := (s.wadd WR.ADM_DEG_CNT_ENTRIES 1).setWs 5
    (s.modGov fun g => { g with step := 0, quiet := none }).shedNext 3
  else if s.ws = 5 then
    if c then s.modGov fun g => { g with since := if was then g.since else s.now, quiet := none }
    else s.modGov fun g => { g with quiet := some (g.quiet.getD s.now) }
  else s

/-- PACE_RING_SAMPLE (R413–R416, R432). -/
def ringSample (counts : List Nat) (s : State) : State :=
  let atMax := decide (s.vmax ≤ s.wget WR.ADM_VCORE_SET)
  let (known, s) := s.ringCounts counts
  let low := known && atMax && decide (s.wget WR.ADM_PACE_PACE_NOW < s.admitPace)
  ((s.causes known low).govern known).degrade

/-- SHED_STEP (R433). -/
def shedDue (s : State) : State :=
  if s.ws = 5 ∧ s.gov.cause ∧ s.gov.step < 3 ∧
      s.gov.since + max 1 (s.wget WR.ADM_SHED_CFG_STEP_US) * Config.usTicks ≤ s.now then s.shedNext 3
  else s

/-- HOLD_CYCLE_TOGGLE (R433, R434). -/
def toggleHold (s : State) : State :=
  match s.gov.cycle with
  | some (true, t) =>
    if t + max 1 (s.wget WR.ADM_HOLD_CFG_HOLD_ON) * Config.usTicks ≤ s.now then
      ((s.holdPorts 0x07 false).wadd WR.ADM_DEG_CNT_HOLD_CYCLES 1).modGov fun g => { g with
        cycle := some (false, s.now) }
    else s
  | some (false, t) =>
    if t + max 1 (s.wget WR.ADM_HOLD_CFG_HOLD_OFF) * Config.usTicks ≤ s.now then
      (s.holdPorts 0x06 false).modGov fun g => { g with cycle := some (true, s.now) }
    else s
  | none => s

/-- DEGRADED_RECOVER_STEP (R435). -/
def recoverStep (s : State) : State :=
  match s.gov.quiet with
  | some t =>
    if s.ws = 5 ∧ t + max 1 (s.wget WR.ADM_SHED_CFG_RECOVER_MS) * Config.msTicks ≤ s.now then
      let s := (s.modGov fun g => { g with step := g.step - 1, quiet := some s.now }).applyShed
      if s.gov.step = 0 then (s.setWs 4).modGov fun g => { g with quiet := none } else s
    else s
  | none => s

/-! ### The copies of the image (R425, R426, R430) -/

/-- The address of the Yard reserve. -/
def yardReserve : Nat := 0x20F80000

/-- Bytes of the SPI NOR flash; an erased byte reads as ones (R642). -/
def norBytes (o n : Nat) (s : State) : List Nat :=
  (List.range n).map fun i => ((SMap.find (o + i) s.sys.nor).getD 255).toNat

/-- Write bytes to the SPI NOR flash. -/
def setNor : Nat → List Nat → State → State
  | _, [], s => s
  | o, b :: r, s =>
    setNor (o + 1) r (s.modSys fun y => { y with
      nor := if b % 256 = 255 then SMap.erase o y.nor else SMap.insert o (BitVec.ofNat 8 b) y.nor })

/-- A copy as its LENGTH delimits it. -/
def copyOf (rd : Nat → Nat → List Nat) : List Nat :=
  let n := beAt (rd 0 32) 8 4
  rd 0 (if imgLenOk n then n else 32)

/-- A word of the Yard copy is stored with an uncorrectable error (R443, R451). -/
def reserveBad (n : Nat) (s : State) : Bool :=
  s.mems.flips.any fun x => decide (0xF8000 ≤ x.1) && decide (x.1 < 0xF8000 + (n + 15) / 16)
    && decide (1 < memClass 0 (syndrome 0 x.2))

/-- The Yard copy; a word that reads uncorrectable makes its CRC fail. -/
def yardCopy (s : State) : List Nat :=
  let l := copyOf fun o n => s.bytes (yardReserve + o) n
  if s.reserveBad l.length then l.take 4 else l

/-- The NOR copy. -/
def norCopy (s : State) : List Nat := copyOf fun o n => s.norBytes o n

/-- The Yard reserve takes a copy. -/
def putYard (l : List Nat) (s : State) : State :=
  (s.setBytes yardReserve l).modMems fun x => { x with
    flips := x.flips.filter fun f => decide (f.1 < 0xF8000) || decide (0xF8000 + l.length / 16 ≤ f.1) }

/-- The checks begin on the Yard copy (R428). -/
def startChecks (src : Nat) (s : State) : State :=
  (s.modSys fun y => { y with busy := 2, src := src }).wset WR.ADM_STATUS_CHECKING 1

/-- The selection of R426. -/
def selectImage (s : State) : State :=
  let y := s.yardCopy
  let n := s.norCopy
  let s := s.modSys fun y => { y with norKnown := true, busy := 0 }
  let differ := imgValid y && imgValid n && y != n
  let same := differ && beAt y 4 4 == beAt n 4 4
  let s := s.wset WR.ADM_STATUS_DISAGREE (b2n same)
  if same then s
  else if imgValid y && !(differ && decide (beAt y 4 4 < beAt n 4 4)) then
    s.startChecks (if imgValid n && !differ then 3 else 1)
  else if imgValid n then s.modSys fun y => { y with busy := 1, src := 2 }
  else s

/-- ADM_CTRL.CHECK (R428). -/
def admCheck (s : State) : State := if s.ws = 2 ∧ s.sys.busy = 0 then s.startChecks 1 else s

/-- ADM_CTRL.RELOAD (R426). -/
def admReload (s : State) : State := if s.ws = 2 ∧ s.sys.busy = 0 then s.selectImage else s

/-- NOR_IMAGE_COPY_DONE (R426). -/
def norCopied (s : State) : State :=
  if s.sys.busy = 1 then (s.putYard s.norCopy).startChecks 2 else s

/-- ADM_CTRL.STORE (R430): the copy begins; COMMIT is written last. -/
def admStore (s : State) : State :=
  if (s.ws = 3 ∨ s.ws = 4) ∧ s.image.isSome ∧ s.sys.store.isNone then
    let l := s.sys.raw
    let n := l.length
    let s := s.setNor 0 (l.take (n - 8) ++ [255, 255, 255, 255] ++ l.drop (n - 4))
    (s.modSys fun y => { y with store := some s.now, norKnown := true }).wset WR.ADM_STATUS_STORING 1
  else s

/-- ADM_STORE_DONE (R430): COMMIT is written, or a write or read-back failed. -/
def admStored (ok : Bool) (s : State) : State :=
  if s.sys.store.isSome then
    let l := s.sys.raw
    let s := if ok then s.setNor (l.length - 8) ((l.drop (l.length - 8)).take 4)
      else s.wset WR.ADM_STATUS_STORE_ERR 1
    (s.modSys fun y => { y with store := none }).wset WR.ADM_STATUS_STORING 0
  else s

/-! ### RUN and STOP (R429, R542, R559, R564) -/

/-- The walk CRC (R542). -/
def walkCrc (s : State) : Nat :=
  match s.image with
  | some i => match i.parts.find? fun x => x.1 == 1 with
    | some x => crc32c (s.bytes (0x20000000 + x.2.1 * 65536) (x.2.2 * 65536))
    | none => crc32c []
  | none => crc32c []

/-- The unit becomes JOINING (R559). -/
def becomeJoining (s : State) : State :=
  ((s.wset WR.PAIR_STATUS_STATE 2).modPair fun a => { a with join := 0, host := none }).claimNow.joinTry

/-- Entry to RUNNING in a pair (R559). -/
def pairRun (s : State) : State :=
  if !s.pairOn then s
  else
    let s := s.modPair fun a => { a with walkCrc := s.walkCrc, join := 0, host := none }
    let partner := s.won WR.PAIR_STATUS_PARTNER
    let built := s.wget WR.PAIR_STATUS_P_PSTATE = 1 ∨ s.wget WR.PAIR_STATUS_P_PSTATE = 3
    if s.partnerRuns && decide built || s.sideB && partner && !s.partnerRuns then s.becomeJoining
    else s.claimNow

/-- Leaving RUNNING and DEGRADED in a pair (R558, R564). -/
def pairStop (s : State) : State :=
  if s.pairOn then
    ((s.wset WR.PAIR_STATUS_STATE 1).modPair fun a => { a with join := 0, host := none }).claimNow
  else s

/-- Entry to RUNNING (R78, R296, R353, R401, R429, R559). -/
def enterRun (s : State) : State :=
  if s.ws = 3 ∧ s.timeValid then
    let s := (s.setWs 4).queuesRun
    let s := ((s.musRun).cmpRun).ethRun
    let s := s.modGov fun g => { g with step := 0, cause := false, quiet := none, cycle := none }
    (s.pairRun.applyShed).portsRun
  else s

/-- What the units do when RUNNING or DEGRADED ends (R381, R406, R432). -/
def leaveRun (s : State) : State :=
  if s.isRun then
    let s := (s.ethStop.cmpStop).musStop
    let s := s.modGov fun g => { g with step := 0, cause := false, quiet := none, cycle := none }
    s.pairStop.wsets [(WR.ADM_DEG_STATUS_STEP, 0), (WR.PAIR_STATUS_STEP, 0)]
  else s

/-- STOP (R353, R429, R564). -/
def admStop (s : State) : State :=
  if s.isRun then
    let tell := !(s.pairOn && s.partnerRuns)
    ((s.portsStop tell).leaveRun.setWs 2).queuesStage
  else s

/-- Entry to RUNNING by AUTO_RUN (R645). -/
def autoRun (s : State) : State :=
  if s.won WR.SYS_BOOT_AUTO_RUN && !s.won WR.SYS_BOOT_STORM then s.enterRun else s

/-- A write of ADM_CTRL, as the state stood before it. -/
def writeAdmCtrl (v : Nat) (s : State) : State :=
  if bit 0 v && s.ws == 2 then s.admCheck
  else if bit 4 v && s.ws == 2 then s.admReload
  else
    let t := if bit 3 v then s.admStore else s
    if bit 1 v && s.ws == 3 then t.enterRun
    else if bit 2 v && s.isRun then t.admStop
    else t

/-- Anything writes the Yard reserve (R428, R660): ADMITTED returns to HELD. -/
def reserveWritten (s : State) : State :=
  let s := if s.ws = 3 then s.setWs 2 else s
  if s.ws = 2 then s.wset WR.ADM_STATUS_ADMITTED 0 else s

end State

/-- PACE_RING_SAMPLE (R413–R416, R432): the counts of the eight rings. -/
def execPaceRingSample (counts : List Nat) (s : State) : Res := .next <| s.ringSample counts

/-- SHED_STEP (R433). -/
def execShedStep (s : State) : Res := .next s.shedDue

/-- HOLD_CYCLE_TOGGLE (R433, R434). -/
def execHoldCycleToggle (s : State) : Res := .next s.toggleHold

/-- DEGRADED_RECOVER_STEP (R435). -/
def execDegradedRecoverStep (s : State) : Res := .next s.recoverStep

/-- ADM_CHECK (R428). -/
def execAdmCheck (s : State) : Res := .next s.admCheck

/-- ADM_RUN (R78, R429, R559). -/
def execAdmRun (s : State) : Res := .next s.enterRun

/-- ADM_STOP (R429, R564). -/
def execAdmStop (s : State) : Res := .next s.admStop

/-- ADM_STORE (R430). -/
def execAdmStore (s : State) : Res := .next s.admStore

/-- ADM_STORE_DONE (R430): `ok` where the flash was written and read back. -/
def execAdmStoreDone (ok : Bool) (s : State) : Res := .next <| s.admStored ok

/-- ADM_RELOAD (R426). -/
def execAdmReload (s : State) : Res := .next s.admReload

/-- NOR_IMAGE_COPY_DONE (R426). -/
def execNorImageCopyDone (s : State) : Res := .next s.norCopied

/-- AUTO_RUN_ENTRY (R645). -/
def execAutoRunEntry (s : State) : Res := .next s.autoRun

end Sys2Proof.Machine
end

