-- ==== Sys2Proof/Machine/WnMap.lean ====
section
/-! DEFINITION. The physical map, who may reach what, traps of the cores, PMP and the fence table
(spec/21 R657–R661; spec/16 R514–R517, R519–R521, R531; spec/15 R470–R474; spec/09 R331; spec/04 R141). -/

namespace Sys2Proof.Machine

open Sys2Proof

/-- The regions of the map (R657). -/
inductive Region where
  | unmapped | rom | core | yard | history | ledger | regs | regsQuiet | proxy | proxyQuiet
  deriving DecidableEq, Repr

/-- The region of an address (R657). -/
def regionOf (a : Nat) : Region :=
  if a < 0x10000 then .rom
  else if 0x10000000 ≤ a ∧ a < 0x10180000 then .core
  else if 0x20000000 ≤ a ∧ a < 0x21000000 then .yard
  else if 0x30000000 ≤ a ∧ a < 0x30200000 then .history
  else if 0x38000000 ≤ a ∧ a < 0x38300000 then .ledger
  else if 0x40000000 ≤ a ∧ a < 0x400F0000 then .regs
  else if 0x48000000 ≤ a ∧ a < 0x480F0000 then .regsQuiet
  else if 0x50000000 ≤ a ∧ a < 0x50300000 then .proxy
  else if 0x58000000 ≤ a ∧ a < 0x58300000 then .proxyQuiet
  else .unmapped

/-- The region is a memory. -/
def Region.isMem (r : Region) : Bool :=
  r == .rom || r == .core || r == .yard || r == .history || r == .ledger

/-- `n` bytes from `a` touch the Loft (R523). -/
def inLoft (a n : Nat) : Bool := decide (0x10140000 < a + n) && decide (a < 0x10180000)

/-- `n` bytes from `a` touch the Yard reserve (R425). -/
def inReserve (a n : Nat) : Bool := decide (0x20F80000 < a + n) && decide (a < 0x21000000)

/-! ### Traps and PMP (R470, R472, R514) -/

/-- mstatus, mtvec, mepc, mcause, mtval, dcsr and dpc. -/
def csrMstatus : Nat := 0x300
def csrMtvec : Nat := 0x305
def csrMepc : Nat := 0x341
def csrMcause : Nat := 0x342
def csrMtval : Nat := 0x343
def csrDcsr : Nat := 0x7B0
def csrDpc : Nat := 0x7B1

/-- A control and status register of a core; one never written reads zero (log entry 4). -/
def Core.csrGet (r : Nat) (c : Core) : Nat := SMap.getD 0 r c.csr

/-- Write a control and status register of a core. -/
def Core.csrSet (r v : Nat) (c : Core) : Core :=
  { c with csr := if v % 2 ^ 32 = 0 then SMap.erase r c.csr else SMap.insert r (v % 2 ^ 32) c.csr }

/-- A core takes an exception (RISC-V privileged specification): mepc, mcause, mtval, MPIE, MPP, MIE, machine
mode, pc at mtvec; its reservation is cleared (R472). -/
def Core.trap (cause tval : Nat) (c : Core) : Core :=
  let st := c.csrGet csrMstatus
  let c := (c.csrSet csrMepc (c.pc / 2 * 2)).csrSet csrMcause cause |>.csrSet csrMtval tval
  let c := c.csrSet csrMstatus (st - bits 12 11 st * 2 ^ 11 - bits 7 7 st * 2 ^ 7 - bits 3 3 st * 2 ^ 3
    + (if c.user then 0 else 3) * 2 ^ 11 + bits 3 3 st * 2 ^ 7)
  { c with user := false, lr := none, pc := c.csrGet csrMtvec / 4 * 4 }

/-- The byte of a PMP entry's configuration (pmpcfg0 to pmpcfg3). -/
def Core.pmpCfg (i : Nat) (c : Core) : Nat := c.csrGet (0x3A0 + i / 4) / 2 ^ (8 * (i % 4)) % 256

/-- The pmpaddr register of an entry. -/
def Core.pmpAddr (i : Nat) (c : Core) : Nat := c.csrGet (0x3B0 + i)

/-- Trailing ones of a number, counted up to a limit. -/
def trailingOnes : Nat → Nat → Nat
  | 0, _ => 0
  | n + 1, v => if v % 2 = 1 then trailingOnes n (v / 2) + 1 else 0

/-- The bytes that a PMP entry covers, as first and one past last; OFF and NA4 cover none (R514). -/
def Core.pmpRange (i : Nat) (c : Core) : Nat × Nat :=
  let m := bits 4 3 (c.pmpCfg i)
  if m = 1 then (if i = 0 then 0 else c.pmpAddr (i - 1) / 2 * 8, c.pmpAddr i / 2 * 8)
  else if m = 3 then
    let k := trailingOnes 32 (c.pmpAddr i)
    let size := 2 ^ (k + 3)
    let base := c.pmpAddr i * 4 / size * size
    (base, base + size)
  else (0, 0)

/-- The PMP allows an access of `n` bytes at `a` (R514): `x` fetch, `r` read, `w` write, in user mode or not. -/
def Core.pmpOk (a n : Nat) (x r w user : Bool) (c : Core) : Bool :=
  match (List.range 16).find? fun i =>
      let (lo, hi) := c.pmpRange i
      decide (lo < a + n) && decide (a < hi) with
  | none => !user
  | some i =>
    let (lo, hi) := c.pmpRange i
    let g := c.pmpCfg i
    decide (lo ≤ a) && decide (a + n ≤ hi) &&
      (!user && !bit 7 g || (!x || bit 2 g) && (!r || bit 0 g) && (!w || bit 1 g))

/-- The mode in which a core's loads and stores are checked: that of MPP while MPRV is 1. -/
def Core.dataUser (c : Core) : Bool :=
  let st := c.csrGet csrMstatus
  if bit 17 st then bits 12 11 st == 0 else c.user

namespace State

/-- Core `n` of 0 to 3 takes an exception. -/
def trap (n cause tval : Nat) (s : State) : State := s.modCore n (Core.trap cause tval)

/-- A write to core memory by an agent clears the other cores' reservations on its words (R472). -/
def breakLr (a n agent : Nat) (s : State) : State :=
  { s with cores := s.cores.mapIdx fun k c =>
      match c.lr with
      | some (w, _) => if k + 1 ≠ agent ∧ w < a + n ∧ a < w + 4 then { c with lr := none } else c
      | none => c }

/-! ### The fence table (R515–R517) -/

/-- A programmable row covers the bytes and grants the direction to the agent. -/
def fenceRow (k agent : Nat) (write : Bool) (a n : Nat) (s : State) : Bool :=
  let grant := if agent = 6 then if write then WR.FENCE_CFG_DMA_W k else WR.FENCE_CFG_DMA_R k
    else if write then WR.FENCE_CFG_DICT_W k else WR.FENCE_CFG_DICT_R k
  s.won (WR.FENCE_CFG_VALID k) && s.won grant && decide (s.wget (WR.FENCE_BASE_ADDR k) * 64 ≤ a)
    && decide (a + n ≤ s.wget (WR.FENCE_LIMIT_ADDR k) * 64 + 64)

/-- The fence table permits an access of the DMA (6) or the dictionary agent (8) (R515). -/
def fenceOk (agent : Nat) (write : Bool) (a n : Nat) (s : State) : Bool :=
  agent == 8 && decide (0x20F80000 ≤ a) && decide (a + n ≤ 0x21000000)
    || agent == 8 && !write && decide (0x10140000 ≤ a) && decide (a + n ≤ 0x10180000)
    || (List.range 16).any fun k => s.fenceRow k agent write a n

/-- A refused access is recorded (R516). -/
def fenceRefuse (agent a : Nat) (s : State) : State :=
  (s.wsets [(WR.FENCE_ADDR_ADDR, a), (WR.FENCE_STATUS_LAST_AGENT, agent)]).wadd WR.FENCE_STATUS_REFUSED 1

/-! ### Writing rules (R141, R331, R531, R660) -/

/-- An address of the speculative stalls (R331). -/
def inStall (a : Nat) (s : State) : Bool := s.inPart 3 a

/-- Whether a core or the debug agent may write at an address, and what a refusal marks (R141, R660). -/
def mayWrite (agent a n : Nat) (s : State) : Bool × State :=
  match regionOf a with
  | .core => (!(inLoft a n && s.won WR.DBG_LOFT_KEEP && agent != 9), s)
  | .history => (s.isOpen, s)
  | .ledger => (s.isOpen, s)
  | .yard =>
    if inReserve a n then (s.isOpen, s)
    else if s.inStall a then (false, s)
    else if s.inPart 1 a && !s.isOpen then (false, s.walkRefused a)
    else (true, s)
  | _ => (false, s)

/-- Whether the DMA or the dictionary agent may write at an address that is not refused to it by name; a
refusal is recorded (R141, R428, R515, R516, R531). -/
def mayWriteFenced (agent a n : Nat) (s : State) : Bool × State :=
  if s.inPart 1 a && !inReserve a n && !s.isOpen then (false, (s.walkRefused a).fenceRefuse agent a)
  else if inReserve a n && !s.isOpen || inLoft a n && s.won WR.DBG_LOFT_KEEP
      || !s.fenceOk agent true a n then (false, s.fenceRefuse agent a)
  else (true, s)

/-- SOURCE of the error log for an agent (R467). -/
def memSource (agent : Nat) : Nat :=
  if agent = 6 then 5 else if agent = 8 then 6 else if agent = 9 then 7 else agent

/-- Bytes within one word are stored by an agent that may write them: whether the write was performed
(R449), with what a write means for reservations (R472) and for the image (R428, R660). -/
def storeBytes (a : Nat) (bs : List Nat) (agent ch : Nat) (u : Upset) (s : State) : Bool × State :=
  let (ok, s) := s.memWrite a bs (memSource agent) ch u
  if ok then
    let s := s.breakLr a bs.length agent
    (true, if inReserve a bs.length then s.reserveWritten else s)
  else (false, s)

end State

/-- FENCE_WRITE (R517): a write of register `reg` (0 BASE, 1 LIMIT, 2 CFG) of fence row `row` by an agent. -/
def execFenceWrite (agent row reg value : Nat) (s : State) : Res :=
  let may := agent == 9 || (decide (1 ≤ agent) && decide (agent ≤ 4) && !(s.core (agent - 1)).user)
  .next <| if may then s.wstore (0x400A0400 + 0x10 * row + 4 * reg) value
    else s.wset WR.FENCE_STATUS_WR_REFUSED 1

end Sys2Proof.Machine
end

