-- ==== Sys2Proof/Machine/WnDma.lean ====
section
/-! DEFINITION. DMA channels (spec/15 R499–R502, R504; spec/14 R448, R449, R451). -/

namespace Sys2Proof.Machine

open Sys2Proof

namespace State

/-- DMA_c_STATUS.STATE: 0 IDLE, 1 BUSY, 2 HALTED, 3 DONE. -/
def dmaState (c : Nat) (s : State) : Nat := s.wget (WR.DMA_STATUS_STATE c)

/-- The channel's event flag (R499). -/
def dmaFlag (c : Nat) (s : State) : State :=
  if s.won (WR.DMA_EVT_EN c) then s.setFlag (s.wget (WR.DMA_EVT_TASK c)) (s.wget (WR.DMA_EVT_FLAG c)) else s

/-- A channel halts (R502). -/
def dmaHalt (c cause a : Nat) (s : State) : State :=
  (s.wsets [(WR.DMA_STATUS_STATE c, 2), (WR.DMA_STATUS_CAUSE c, cause), (WR.DMA_ADDR_ADDR c, a)]).dmaFlag c

/-- A channel has moved all its bytes (R499). -/
def dmaDone (c : Nat) (s : State) : State := (s.wset (WR.DMA_STATUS_STATE c) 3).dmaFlag c

/-- `n` bytes from `a` lie within core memory or within the Yard (R500). -/
def dmaRange (a n : Nat) : Bool :=
  decide (0x10000000 ≤ a) && decide (a + n ≤ 0x10180000) || decide (0x20000000 ≤ a) && decide (a + n ≤ 0x21000000)

/-- The failing address of a bad configuration (R500); none where it is good. -/
def dmaBad (src dst n : Nat) : Option Nat :=
  if src % 8 ≠ 0 ∨ !dmaRange src n then some src
  else if dst % 8 ≠ 0 ∨ !dmaRange dst n then some dst
  else if n = 0 ∨ n % 8 ≠ 0 then some src
  else if src < dst ∧ dst < src + n then some dst
  else none

/-- A channel goes on with the bytes that REMAIN, or halts with CONFIG (R500, R502). -/
def dmaRun (c : Nat) (s : State) : State :=
  match dmaBad (s.wget (WR.DMA_SRC_SRC c)) (s.wget (WR.DMA_DST_DST c)) (s.wget (WR.DMA_STATUS_REMAIN c)) with
  | some a => s.dmaHalt c 4 a
  | none => s.wsets [(WR.DMA_STATUS_STATE c, 1), (WR.DMA_STATUS_CAUSE c, 0)]

/-- GO (R500). -/
def dmaGo (c : Nat) (s : State) : State :=
  if s.dmaState c = 0 ∨ s.dmaState c = 3 then
    (s.wset (WR.DMA_STATUS_REMAIN c) (s.wget (WR.DMA_LEN_LEN c))).dmaRun c
  else s

/-- SRC, DST and REMAIN pass a unit (R502). -/
def dmaAdvance (c : Nat) (s : State) : State :=
  s.wsets [(WR.DMA_SRC_SRC c, s.wget (WR.DMA_SRC_SRC c) + 8), (WR.DMA_DST_DST c, s.wget (WR.DMA_DST_DST c) + 8),
    (WR.DMA_STATUS_REMAIN c, s.wget (WR.DMA_STATUS_REMAIN c) - 8)]

/-- RESUME (R502). -/
def dmaResume (c : Nat) (s : State) : State := if s.dmaState c = 2 then s.dmaRun c else s

/-- SKIP (R502). -/
def dmaSkip (c : Nat) (s : State) : State :=
  if s.dmaState c = 2 then
    let s := s.dmaAdvance c
    if s.wget (WR.DMA_STATUS_REMAIN c) = 0 then s.dmaDone c else s.dmaRun c
  else s

/-- ABORT (R502). -/
def dmaAbort (c : Nat) (s : State) : State :=
  if s.dmaState c = 1 then s.dmaHalt c 5 (s.wget (WR.DMA_SRC_SRC c))
  else if s.dmaState c = 2 then s.wsets [(WR.DMA_STATUS_STATE c, 0), (WR.DMA_STATUS_CAUSE c, 0)]
  else s

/-- A write of DMA_c_CTRL: ABORT before the others, each in the states where it acts (R500, R502). -/
def writeDmaCtrl (c v : Nat) (s : State) : State :=
  if bit 3 v then s.dmaAbort c
  else if bit 1 v && s.dmaState c == 2 then s.dmaResume c
  else if bit 2 v && s.dmaState c == 2 then s.dmaSkip c
  else if bit 0 v then s.dmaGo c
  else s

/-- The words of a unit: 8 bytes are two words of core memory, or half a word of the Yard. -/
def dmaParts (a : Nat) : List (Nat × Nat) := if a < 0x20000000 then [(a, 4), (a + 4, 4)] else [(a, 8)]

/-- A unit is read from its source: the address of a word that cannot be corrected, or the bytes (R451). -/
def dmaRead (c : Nat) : List (Nat × Nat) → List Upset → State → Option Nat × List Nat × State
  | [], _, s => (none, [], s)
  | (a, n) :: r, us, s =>
    let (bad, bs, s) := s.memRead a n 5 c (us.headD Upset.none)
    if bad then (some a, [], s)
    else
      let (e, more, s) := dmaRead c r us.tail s
      (e, bs ++ more, s)

/-- A unit is written to its destination (R449, R502): refused where the Yard word cannot be corrected. -/
def dmaStore (c : Nat) : List (Nat × Nat) → List Nat → Upset → State → Bool × State
  | [], _, _, s => (true, s)
  | (a, n) :: r, bs, u, s =>
    let (ok, s) := s.storeBytes a (bs.take n) 6 c u
    if ok then dmaStore c r (bs.drop n) u s else (false, s)

/-- A busy channel copies one unit (R499, R501, R502, R516). -/
def dmaUnit (c : Nat) (us : List Upset) (s : State) : State :=
  let src := s.wget (WR.DMA_SRC_SRC c)
  let dst := s.wget (WR.DMA_DST_DST c)
  if s.inStall src then s.dmaHalt c 3 src
  else if !s.fenceOk 6 false src 8 then (s.fenceRefuse 6 src).dmaHalt c 2 src
  else
    let (may, s) := s.mayWriteFenced 6 dst 8
    if !may then s.dmaHalt c 2 dst
    else
      let (bad, bs, s) := s.dmaRead c (dmaParts src) us
      match bad with
      | some a => s.dmaHalt c 1 a
      | none =>
        let (ok, s) := s.dmaStore c (dmaParts dst) bs (us.getD 2 Upset.none)
        if !ok then s.dmaHalt c 1 dst
        else
          let s := s.dmaAdvance c
          if s.wget (WR.DMA_STATUS_REMAIN c) = 0 then s.dmaDone c else s

/-- The busy channel whose turn is next (R501). -/
def dmaNext (s : State) : Option Nat :=
  ((List.range 16).map fun k => (s.mbx.dmaLast + 1 + k) % 16).find? fun c => s.dmaState c == 1

end State

/-- DMA_GO (R500). -/
def execDmaGo (c : Nat) (s : State) : Res := .next <| s.dmaGo c

/-- DMA_UNIT_TRANSFER (R499, R501, R502): the busy channel next in turn copies a unit. Upsets come over the
first and the second word read, and over the word of a partial write. -/
def execDmaUnitTransfer (f1 p1 a1 f2 p2 a2 f3 p3 a3 : Nat) (s : State) : Res :=
  match s.dmaNext with
  | none => .next s
  | some c => .next <| ({ s with mbx := { s.mbx with dmaLast := c } }).dmaUnit c
      [⟨f1, p1, a1⟩, ⟨f2, p2, a2⟩, ⟨f3, p3, a3⟩]

/-- DMA_RESUME (R502). -/
def execDmaResume (c : Nat) (s : State) : Res := .next <| s.dmaResume c

/-- DMA_SKIP (R502). -/
def execDmaSkip (c : Nat) (s : State) : Res := .next <| s.dmaSkip c

/-- DMA_ABORT (R502). -/
def execDmaAbort (c : Nat) (s : State) : Res := .next <| s.dmaAbort c

end Sys2Proof.Machine
end

