-- ==== Sys2Proof/Machine/WnMbx.lean ====
section
/-! DEFINITION. Mailboxes, locks, the Loft and the console UART (spec/16 R505–R513, R531–R538; spec/17
R556). -/

namespace Sys2Proof.Machine

open Sys2Proof

namespace State

/-- Change mailboxes, locks and the UART. -/
def modMbx (f : Mbx → Mbx) (s : State) : State := { s with mbx := f s.mbx }

/-! ### Mailboxes (R505–R508) -/

/-- FULL of a mailbox. -/
def mbxFull (m : Nat) (s : State) : Bool := s.won (WR.MBX_STATUS_FULL m)

/-- An agent writes a data word (R505). -/
def mbxData (agent m j v : Nat) (s : State) : State :=
  if s.mbxFull m then s.wset (WR.MBX_STATUS_WR_REFUSED m) 1
  else (s.wset (WR.MBX_DATA_DATA m j) v).modMbx fun x => { x with
    writers := SMap.modify [] m (fun l => if agent ∈ l then l else l ++ [agent]) x.writers }

/-- ACK (R507). -/
def mbxAck (m : Nat) (s : State) : State :=
  if s.mbxFull m then
    (s.wsets [(WR.MBX_STATUS_FULL m, 0), (WR.MBX_STATUS_MIXED m, 0)]).modMbx fun x => { x with
      writers := SMap.erase m x.writers }
  else s

/-- The pair agent takes a message of MBX_OUT (R556). -/
def fwSend (m : Nat) (s : State) : State :=
  if s.pairOn && s.won WR.PAIR_CFG_FW_EN && s.wget WR.PAIR_CFG_MBX_OUT == m then
    let w (j : Nat) : Nat := s.wget (WR.MBX_DATA_DATA m (2 * j)) * 2 ^ 32 + s.wget (WR.MBX_DATA_DATA m (2 * j + 1))
    (s.plSend 0x10 0 [w 0, w 1, w 2, w 3]).mbxAck m
  else s

/-- SEND (R506). -/
def mbxSend (agent m : Nat) (s : State) : State :=
  if s.mbxFull m then s.wset (WR.MBX_STATUS_SEND_REFUSED m) 1
  else
    let mixed := (SMap.getD [] m s.mbx.writers).any fun x => x != agent
    ((s.wsets [(WR.MBX_STATUS_FULL m, 1), (WR.MBX_STATUS_SENDER m, agent),
      (WR.MBX_STATUS_MIXED m, b2n mixed)]).wadd (WR.MBX_STATUS_SENDS m) 1).fwSend m

/-- A write of MBX_m_CTRL: ACK before SEND (R508). -/
def writeMbxCtrl (agent m v : Nat) (s : State) : State :=
  let s := if bit 1 v then s.mbxAck m else s
  if bit 0 v then s.mbxSend agent m else s

/-! ### Locks (R509–R513) -/

/-- The owner of a lock, 0 where it is free. -/
def lockOwner (m : Nat) (s : State) : Nat := s.wget (WR.MBX_STATUS_OWNER m)

/-- Store the owner of a lock. -/
def setOwner (m v : Nat) (s : State) : State :=
  (s.wsets [(WR.MBX_STATUS_OWNER m, v), (WR.MBX_LOCK_LOCK m, v)]).modMbx fun x => { x with
    leases := SMap.erase m x.leases }

/-- A lease that has run out lapses (R511). -/
def lockLapse (m : Nat) (s : State) : State :=
  match SMap.find m s.mbx.leases with
  | some t =>
    if s.lockOwner m ≠ 0 ∧ t ≤ s.mtime then
      ((s.setOwner m 0).wset (WR.MBX_STATUS_LAPSED m) 1).wadd (WR.MBX_STATUS_LAPSES m) 1
    else s
  | none => s

/-- The mtime at which a lease that begins now ends: the first count at or after it (R511). -/
def leaseEnd (us : Nat) (s : State) : Nat := ((s.now - s.mtime0) * 5 + 255) / 256 + 25 * us

/-- A normal read of MBX_m_LOCK (R509, R513). -/
def lockRead (agent m : Nat) (s : State) : Nat × State :=
  let s := s.lockLapse m
  let o := s.lockOwner m
  if o = 0 then
    let l := s.wget (WR.MBX_LKCFG_LEASE m)
    let s := s.setOwner m agent
    (0, if l = 0 then s else s.modMbx fun x => { x with leases := SMap.insert m (s.leaseEnd l) x.leases })
  else (o, s)

/-- A write of MBX_m_LOCK (R510, R513). -/
def lockWrite (agent m v : Nat) (s : State) : State :=
  let s := s.lockLapse m
  if v = 0 ∧ s.lockOwner m = agent then
    (s.setOwner m 0).wsets [(WR.MBX_STATUS_BROKEN m, 0), (WR.MBX_STATUS_LAPSED m, 0)]
  else s.wset (WR.MBX_STATUS_STALE_RELEASE m) 1

/-- FORCE (R512, R513). -/
def lockForce (agent m : Nat) (s : State) : State :=
  let s := s.lockLapse m
  if agent = 9 ∧ s.lockOwner m ≠ 0 then (s.setOwner m 0).wset (WR.MBX_STATUS_BROKEN m) 1 else s

/-- A write of MBX_m_LKCFG (R511, R512). -/
def writeLkcfg (agent m v : Nat) (s : State) : State :=
  let s := s.wset (WR.MBX_LKCFG_LEASE m) v
  if bit 31 v then s.lockForce agent m else s

/-! ### The Loft (R531) -/

/-- DBG_LOFT.RELEASE. -/
def loftRelease (s : State) : State := s.wsets [(WR.DBG_LOFT_VALID, 0), (WR.DBG_LOFT_KEEP, 0)]

/-! ### The console UART (R532–R536) -/

/-- The divisor in sixteenths, clamped to the range of R532. -/
def uartDiv (s : State) : Nat := max 133 (min 3472 (s.wget WR.UART_BAUD_DIV_INT * 16 + s.wget WR.UART_BAUD_DIV_FRAC))

/-- Show the FIFOs in their registers. -/
def showUart (s : State) : State :=
  let c := s.mbx.uartRx.headD 0
  s.wsets [(WR.UART_STATUS_TX_LEVEL, s.mbx.uartTx.length), (WR.UART_STATUS_RX_LEVEL, s.mbx.uartRx.length),
    (WR.UART_STATUS_TX_IDLE, b2n (s.mbx.uartTx.isEmpty && s.mbx.uartEnd.isNone)),
    (WR.UART_RX_VALID, b2n !s.mbx.uartRx.isEmpty), (WR.UART_RX_DATA, c), (WR.UART_RX_PE, bits 8 8 c),
    (WR.UART_RX_FE, bits 9 9 c), (WR.UART_RX_BREAK, bits 10 10 c)]

/-- The parity bit of a character. -/
def uartParity (c : Nat) (s : State) : Bool := parity (c % 256) != s.won WR.UART_CTRL_ODD

/-- The line levels of a character (R532). -/
def uartLevels (c : Nat) (s : State) : List Bool :=
  [false] ++ (List.range 8).map (fun i => bit i c)
    ++ (if s.won WR.UART_CTRL_PAR_EN then [s.uartParity c] else [])
    ++ (if s.won WR.UART_CTRL_TWO_STOP then [true, true] else [true])

/-- The idle transmitter takes the next character. -/
def uartStart (s : State) : State :=
  match s.mbx.uartEnd, s.mbx.uartTx with
  | none, c :: r =>
    if s.won WR.UART_CTRL_TX_EN then
      let l := s.uartLevels c
      ((s.modMbx fun x => { x with
        uartTx := r, uartEnd := some (s.now + (l.length * s.uartDiv * 16 + 4) / 5) }).emitPin (.uart l)).showUart
    else s.showUart
  | _, _ => s.showUart

/-- A write of UART_TX (R536). -/
def uartWrite (c : Nat) (s : State) : State :=
  if 64 ≤ s.mbx.uartTx.length then s.wadd WR.UART_CNT_TX_DROP 1
  else (s.modMbx fun x => { x with uartTx := x.uartTx ++ [c % 256] }).uartStart

/-- The character in transmission ends. -/
def uartSent (s : State) : State :=
  match s.mbx.uartEnd with
  | some t => if t ≤ s.now then (s.modMbx fun x => { x with uartEnd := none }).uartStart else s
  | none => s

/-- A start edge and the sample at its tick 8 (R533). -/
def uartEdge (sample : Bool) (s : State) : State :=
  if !s.won WR.UART_CTRL_RX_EN || s.mbx.uartIn then s
  else if sample then s.wset WR.UART_STATUS_NOISE 1
  else s.modMbx fun x => { x with uartIn := true }

/-- The stop midpoint of a character (R534, R536). -/
def uartChar (data : Nat) (par stop : Bool) (s : State) : State :=
  if !s.mbx.uartIn then s
  else
    let s := s.modMbx fun x => { x with uartIn := false }
    if !s.won WR.UART_CTRL_RX_EN then s
    else
      let parEn := s.won WR.UART_CTRL_PAR_EN
      let pe := parEn && par != s.uartParity data
      let brk := !stop && data % 256 == 0 && !(parEn && par)
      let s := (s.wcountIf (!stop) WR.UART_CNT_FE).wcountIf pe WR.UART_CNT_PE
      let s := if brk then s.wset WR.UART_STATUS_BREAK 1 else s
      if 64 ≤ s.mbx.uartRx.length then (s.wset WR.UART_STATUS_OVERRUN 1).wadd WR.UART_CNT_RX_LOST 1
      else
        let c := data % 256 + 256 * b2n pe + 512 * b2n (!stop) + 1024 * b2n brk
        (s.modMbx fun x => { x with uartRx := x.uartRx ++ [c] }).showUart

/-- A normal read of UART_RX: what it shows stays in the register, and the head goes (R536). -/
def uartRead (s : State) : State :=
  let t := s.showUart
  (t.modMbx fun x => { x with uartRx := x.uartRx.drop 1 }).wset WR.UART_STATUS_RX_LEVEL (t.mbx.uartRx.length - 1)

end State

/-- MBX_DATA_WRITE (R505). -/
def execMbxDataWrite (agent m j value : Nat) (s : State) : Res := .next <| s.mbxData agent m j value

/-- MBX_SEND (R506, R556). -/
def execMbxSend (agent m : Nat) (s : State) : Res := .next <| s.mbxSend agent m

/-- MBX_ACK (R507). -/
def execMbxAck (m : Nat) (s : State) : Res := .next <| s.mbxAck m

/-- MBX_LOCK_READ (R509): the agent gets 0 with the lock, or the owner. -/
def execMbxLockRead (agent m : Nat) (s : State) : Res :=
  let (v, s) := s.lockRead agent m
  .next <| s.emit (.load agent (WR.MBX_LOCK m) v none)

/-- MBX_LOCK_WRITE (R510). -/
def execMbxLockWrite (agent m value : Nat) (s : State) : Res := .next <| s.lockWrite agent m value

/-- LOCK_LEASE_LAPSE (R511). -/
def execLockLeaseLapse (m : Nat) (s : State) : Res := .next <| s.lockLapse m

/-- MBX_LOCK_FORCE (R512). -/
def execMbxLockForce (agent m : Nat) (s : State) : Res := .next <| s.lockForce agent m

/-- LOFT_RELEASE (R531). -/
def execLoftRelease (s : State) : Res := .next s.loftRelease

/-- UART_START_EDGE (R533): `sample` is the start bit's sample at tick 8. -/
def execUartStartEdge (sample : Bool) (s : State) : Res := .next <| if s.pinsHeld then s else s.uartEdge sample

/-- UART_CHAR_RX (R534): the samples of a character up to its stop midpoint. -/
def execUartCharRx (data : Nat) (par stop : Bool) (s : State) : Res := .next <| if s.pinsHeld then s else s.uartChar data par stop

/-- UART_TX_WRITE (R536). -/
def execUartTxWrite (data : Nat) (s : State) : Res := .next <| s.uartWrite data

/-- UART_RX_READ (R536). -/
def execUartRxRead (s : State) : Res := .next s.uartRead

/-- UART_CHAR_TX_DONE (R532, R536). -/
def execUartCharTxDone (s : State) : Res := .next s.uartSent

end Sys2Proof.Machine
end

