-- ==== Sys2Proof/Machine/WnPair.lean ====
section
/-! DEFINITION. The pair agent: heartbeats, messages, joining, digests, claims (spec/17). -/

namespace Sys2Proof.Machine

open Sys2Proof

namespace State

/-! ### Pair states (R556–R561, R564–R566) -/

/-- HB_US in ticks; 0 acts as 1. -/
def hbTicks (s : State) : Nat := max 1 (s.wget WR.PAIR_CFG_HB_US) * Config.usTicks

/-- HB_MISS; smaller values act as 2 (R557). -/
def hbMiss (s : State) : Nat := max 2 (s.wget WR.PAIR_CFG_HB_MISS)

/-- The unit becomes ALONE (R558). -/
def goAlone (s : State) : State :=
  ((s.wset WR.PAIR_STATUS_STATE 1).modPair fun a => { a with join := 0, host := none }).claimNow

/-- A joiner becomes ALONE (R561). -/
def abandonJoin (s : State) : State :=
  let n := match s.pair.runNext with
    | some n => n + 2 ^ 24
    | none => s.wget WR.MUS_SEQ_BASE_LO_BASE + 2 ^ 32 * s.wget WR.MUS_SEQ_BASE_HI_BASE
  (s.setSeq n).goAlone.wset WR.PAIR_STATUS_JOIN_ABANDONED 1

/-- HEARTBEAT (R554, R557). -/
def sendHb (s : State) : State :=
  let due := match s.pair.sentAt with
    | some t => decide (t + s.hbTicks ≤ s.now)
    | none => true
  if s.pairOn && due then
    let w0 := pack [(63, 61, s.ws), (60, 58, s.pairState), (57, 56, if s.isRun then s.gov.step else 0),
      (55, 55, s.wget WR.PAIR_CFG_SIDE), (54, 54, s.wget WR.PAIR_CFG_LEAD_B),
      (53, 53, s.wget WR.PAIR_CTRL_MUTE), (31, 0, s.claimSent)]
    (s.plSend 0x01 0 [w0, s.seqNext, s.pair.imgDigest * 2 ^ 32 + s.pair.walkCrc, s.tick]).modPair fun a => { a with
      sentAt := some s.now }
  else s

/-- The partner's state as the latest HEARTBEAT shows it, against the one before (R558). -/
def partnerMoved (run joining : Bool) (s : State) : State :=
  let runs := s.partnerRuns
  let joins := s.wget WR.PAIR_STATUS_P_PSTATE == 2
  let s := if s.pairState = 3 ∧ (run && !runs || joins && !joining) then s.goAlone else s
  if runs then s else s.modPair fun a => { a with join := 0, host := none }

/-- A HEARTBEAT of the partner (R551, R554, R558, R560, R565). -/
def hbRx (ws : List Nat) (s : State) : State :=
  let w0 := ws.getD 0 0
  let run := s.partnerRuns
  let joining := s.won WR.PAIR_STATUS_PARTNER && s.wget WR.PAIR_STATUS_P_PSTATE == 2
  let s := s.wsets [(WR.PAIR_STATUS_P_WSTATE, bits 63 61 w0), (WR.PAIR_STATUS_P_PSTATE, bits 60 58 w0),
    (WR.PAIR_STATUS_P_STEP, bits 57 56 w0), (WR.PAIR_STATUS_PARTNER, 1), (WR.PAIR_PCLAIM_PCLAIM, w0),
    (WR.PAIR_PL_DELAY_DELAY, min 65535 ((s.tick + 2 ^ 64 - ws.getD 3 0 % 2 ^ 64) % 2 ^ 64))]
  let s := s.modPair fun a => { a with
    hbAt := some s.now, hb := ws, runNext := if s.partnerRuns then some (ws.getD 1 0) else a.runNext }
  let s := if s.inStep && s.dwinShort then s.wset WR.PAIR_STATUS_DWIN_SHORT 1 else s
  ((s.partnerMoved run joining).joinTry).applyShed

/-- The partner is lost (R557, R558, R561, R566). -/
def partnerLost (s : State) : State :=
  match s.pair.hbAt with
  | some t =>
    if s.pairOn && s.won WR.PAIR_STATUS_PARTNER && decide (t + s.hbMiss * s.hbTicks ≤ s.now) then
      let s := s.wsets [(WR.PAIR_STATUS_PARTNER, 0), (WR.PAIR_STATUS_PARTNER_LOST, 1)]
      let s := if s.pairState = 2 then s.abandonJoin else if s.pairState = 3 then s.goAlone
        else s.modPair fun a => { a with host := none }
      s.applyShed
    else s
  | none => s

/-- Every uncommitted event is discarded with its storage (R559). -/
def dropEvents (s : State) : State :=
  let secs := ((s.mus.evs.map (·.secs)).flatten).filter (·.stored)
  let s := s.giveBack secs.length (8 * (secs.map fun x => x.words.length).foldl (· + ·) 0)
  s.modMus fun m => { m with
    evs := []
    rx := m.rx.map fun x => (x.1, { x.2 with frag := [], owed := [], heads := [] }) }

/-- PAIR_CTRL.REJOIN (R559, R566). -/
def rejoin (s : State) : State :=
  if s.pairOn && s.isRun && (s.pairState == 1 || s.pairState == 3) then s.dropEvents.becomeJoining else s

/-- PAIR_CTRL.GO_ALONE (R561). -/
def goAloneWrite (s : State) : State := if s.pairOn && s.pairState == 2 then s.abandonJoin else s

/-- A write of PAIR_CTRL. -/
def writePairCtrl (v : Nat) (s : State) : State :=
  let s := s.wset WR.PAIR_CTRL_MUTE (bits 0 0 v)
  let s := if bit 1 v then s.rejoin else s
  if bit 2 v then s.goAloneWrite else s

/-- A write of PAIR_CFG.EN (R558, R566). -/
def writePairEn (en : Bool) (s : State) : State :=
  if !s.isOpen then s
  else if en then
    let s := (s.wset WR.PAIR_CFG_EN 1).goAlone
    if s.ws = 3 then (s.setWs 2).wset WR.ADM_STATUS_ADMITTED 0 else s
  else
    ((s.wsets [(WR.PAIR_CFG_EN, 0), (WR.PAIR_STATUS_STATE, 0), (WR.PAIR_STATUS_PARTNER, 0)]).modPair fun a => { a with
      sentAt := none, hbAt := none, join := 0, host := none }).claimNow

/-- A write of PAIR_CLAIM (R564). -/
def writeClaim (v : Nat) (s : State) : State := (s.wset WR.PAIR_CLAIM_CLAIM v).claimNow

/-! ### Messages of the partner (R545–R549, R553–R556, R560, R562) -/

/-- ANCHOR (R545, R546). -/
def anchorRx (ws : List Nat) (s : State) : State :=
  let k := ws.getD 0 0
  let w2 := ws.getD 2 0
  let t := (ws.getD 1 0 * 1000000000 + bits 63 32 w2) * 65536 + bits 31 16 w2
  let s := s.modPair fun a => { a with
    anchors := ((k, t, bit 15 w2, bit 14 w2) :: a.anchors.filter fun x => x.1 != k).take 64 }
  match s.mer.anchors.find? fun a => a.frame == k with
  | some a => if anchorSplit t a.time then s.wset WR.PAIR_STATUS_TIME_SPLIT 1 else s
  | none => s

/-- A signed value held within 32 bits. -/
def sat32 (v : Int) : Int := max (-(2 ^ 31)) (min (2 ^ 31 - 1) v)

/-- THETA (R547). -/
def thetaRx (ws : List Nat) (s : State) : State :=
  let w0 := ws.getD 0 0
  let p := bits 63 58 w0
  let v := signed 64 (ws.getD 1 0)
  let now := ((s.tick : Int) * 65536 - v) / 2 ^ 32
  let f := extend (2 ^ 26) (bits 57 32 w0 : Nat) now
  let late := decide (f ≤ now)
  let x : PairTheta := ⟨if late then now + 1 else f, v, bit 31 w0, bit 30 w0⟩
  let s := s.wcountIf late WR.PAIR_EVT_CNT_THETA_LATE
  (s.modPair fun a => { a with thetas := SMap.modify [] p (fun l => (x :: l).take 4) a.thetas }).wset
    (WR.PAIR_PORT_DIFF_DIFF p) (unsigned 32 (sat32 (v - (s.triTheta p + s.trim p))))

/-- EPOCH_NOTE (R548): the port's EPOCH_DONE then moves the own samples (R289). -/
def noteRx (ws : List Nat) (s : State) : State :=
  let w0 := ws.getD 0 0
  let p := bits 63 58 w0
  (s.modTri p fun t => { t with epochs := (s.tick - 2048, signed 42 (ws.getD 1 0)) :: t.epochs }).modPort p
    fun t => { t with shift := signed 6 w0 }

/-- DIGEST (R562, R566). -/
def digestRx (ws : List Nat) (s : State) : State :=
  if s.won WR.PAIR_STATUS_PARTNER then s.digestEnter (ws.getD 0 0) (ws.getD 1 0 % 2 ^ 32) true else s

/-- Entries of the digest table unmatched for 1 ms (R562). -/
def digestExpire (s : State) : State :=
  let old := s.pair.digs.filter fun e => decide (e.born + Config.msTicks ≤ s.now)
  (s.modPair fun a => { a with digs := a.digs.filter fun e => !decide (e.born + Config.msTicks ≤ s.now) }).wadd
    WR.PAIR_DIG_CNT_UNCHECKED old.length

/-- Store S_j. -/
def setJoinSlot (sj : Nat) (s : State) : State :=
  s.wsets [(WR.PAIR_JOIN_SLOT_LO_SLOT, sj % 2 ^ 32), (WR.PAIR_JOIN_SLOT_HI_SLOT, sj / 2 ^ 32 % 256)]

/-- JOIN REQUEST (R560 step 2): JOIN AT, and THETA for every port that the unit holds. -/
def joinRequest (s : State) : State :=
  if s.isRun && (s.pairState == 1 || s.pairState == 3) then
    let sj := s.tick / 32 + 4096
    let s := (s.setJoinSlot sj).modPair fun a => { a with host := some sj }
    let s := s.plSend 0x07 0 [2 ^ 62 + sj % 2 ^ 40, 0]
    (List.range 48).foldl (fun s p =>
      if s.portHere p && s.portState p != 0 then
        s.sendTheta p (((s.tri' p).avgs.head?.map (·.1)).getD
          (((s.tick : Int) * 65536 - s.thetaFor p (s.tick / 65536 : Nat)) / 2 ^ 32 + 1))
      else s) s
  else s

/-- JOIN AT (R560 step 3). -/
def joinAt (w0 : Nat) (s : State) : State :=
  if s.pairState = 2 ∧ s.pair.join = 1 then
    (s.setJoinSlot (w0 % 2 ^ 40)).modPair fun a => { a with join := 2 }
  else s

/-- JOIN SEQ (R560 steps 4 and 5). -/
def joinSeq (seq : Nat) (s : State) : State :=
  if s.pairState = 2 ∧ s.pair.join = 2 then
    ((s.wsets [(WR.PAIR_JOIN_SEQ_LO_SEQ, seq % 2 ^ 32), (WR.PAIR_JOIN_SEQ_HI_SEQ, seq / 2 ^ 32)]).modPair
      fun a => { a with join := 3 }).commitFront 0
  else s

/-- FW (R556). -/
def fwRx (ws : List Nat) (s : State) : State :=
  let m := s.wget WR.PAIR_CFG_MBX_IN
  if s.mbxFull m then s.wadd WR.PAIR_PL_CNT_FW_DROP 1
  else
    ((List.range 8).foldl (fun s j => s.mbxData 10 m j
      (if j % 2 = 0 then ws.getD (j / 2) 0 / 2 ^ 32 % 2 ^ 32 else ws.getD (j / 2) 0 % 2 ^ 32)) s).mbxSend 10 m

/-- A message that the link delivers: it is consumed where its CRC and length hold (R553, R555). -/
def plReceive (code hdr : Nat) (ws : List Nat) (eff : List Nat → State → State) (s : State) : State :=
  let words := ws.map (· % 2 ^ 64)
  if !s.pairOn then s
  else if words.length ≠ bits 55 52 hdr ∨ crc32c (wordBytes words) ≠ bits 31 0 hdr then
    s.wadd WR.PAIR_PL_CNT_CRC_ERR 1
  else
    let n := bits 51 36 hdr
    let gap := match s.pair.rxSeq with
      | some m => n != (m + 1) % 65536
      | none => false
    let s := (s.wcountIf gap WR.PAIR_PL_CNT_GAPS).modPair fun a => { a with rxSeq := some n }
    if bits 63 56 hdr = code then eff words s else s

/-! ### One tick count (R543, R544) -/

/-- Triangulation of a port moves with the tick count by `d` ticks (R544). -/
def alignTri (d : Int) (p : Nat) (s : State) : State :=
  let th := s.triTheta p
  let move := extend (2 ^ 58) (th + 65536 * d) 0 - th
  let j := d - move / 65536
  let at' (t : Nat) : Nat := ((t : Int) + d).toNat
  let s := s.modTri p fun t => { t with
    markAt := 0
    sent := t.sent.map fun x => (x.1, at' x.2)
    stamps := t.stamps.map fun x => (at' x.1, at' x.2.1, x.2.2 + 256 * j)
    starts := t.starts.map fun x => (at' x.1, x.2.1, x.2.2 + 256 * d)
    part := t.part.map fun x => { x with stampAt := at' x.stampAt, startAt := at' x.startAt }
    epochs := t.epochs.map fun x => (at' x.1, x.2)
    epochAt := t.epochAt.map at' }
  s.triMove p move j

/-- Marks in Wonan ticks of lanes, ports and downlinks move with the tick count. -/
def alignMarks (d : Int) (s : State) : State :=
  let at' (t : Nat) : Nat := ((t : Int) + d).toNat
  { s with
    lanes := s.lanes.map fun x => (x.1, { x.2 with lostAt := at' x.2.lostAt, norep := x.2.norep.map at' })
    dlinks := s.dlinks.map fun x => (x.1, { x.2 with claimAt := x.2.claimAt.map at', busy := at' x.2.busy })
    ports := s.ports.map fun x => (x.1, { x.2 with
      entry := none, clksw := [], holds := [], relink := x.2.relink.map at' })
    mus := { s.mus with prims := [], caps := [] } }

/-- A port whose Tladon reports CONFIGURED or ACQUIRING leaves event building and attaches again (R544). -/
def alignPort (p : Nat) (s : State) : State :=
  let t := s.wget (WR.ING_PORT_STATUS_TSTATE p)
  if s.portState p ≠ 0 ∧ s.portState p ≠ 6 ∧ (t = 2 ∨ t = 3) then
    ((s.leaveBuilding p).dlOp p 0x08 1).attach p (s.bonded p)
  else s

/-- The tick counter is set from Meridian time at a frame boundary (R543, R544). -/
def alignTick (s : State) : State :=
  if s.pairOn && !s.pair.aligned && s.timeValid && s.tick % 65536 == 0 then
    let t := s.timeNow
    let p : Nat := s.anchorNow.p
    let moved : Nat := t * 32 * s.freq / 65536000000000 % 2 ^ 64
    let d : Int := (moved : Int) - s.tick
    let s := { s with wclk := (moved + 2 ^ 64 - s.now % 2 ^ 64) % 2 ^ 64 }
    let s := s.modMer fun g => { g with
      anchors := [⟨moved / 65536, timeAdd t (-((((moved % 65536) * p + 2 ^ 15) / 2 ^ 16 : Nat) : Int)), p, false, s.inHoldover⟩]
      lastStep := g.lastStep.map fun _ => moved / 65536
      ppsOut := none }
    let s := s.modPair fun a => { a with
      aligned := true
      thetas := a.thetas.map fun x => (x.1, x.2.map fun y => { y with start := s.extFrame (unsigned 26 y.start) }) }
    let s := (List.range s.lanesCount).foldl (fun s p => s.alignTri d p) s
    let s := s.alignMarks d
    ((List.range s.lanesCount).foldl (fun s p => s.alignPort p) s).checkSplit.sendAnchor
  else s

end State

/-- TICK_COUNT_ALIGN (R543, R544). -/
def execTickCountAlign (s : State) : Res := .next s.alignTick

/-- PAIR_HEARTBEAT_SEND (R554, R557). -/
def execPairHeartbeatSend (s : State) : Res := .next s.sendHb

/-- PAIR_HEARTBEAT_RX (R542, R551, R554, R555, R558, R560, R565). -/
def execPairHeartbeatRx (hdr : Nat) (ws : List Nat) (s : State) : Res :=
  .next <| s.plReceive 0x01 hdr ws State.hbRx

/-- PARTNER_LOST (R557, R558, R561). -/
def execPartnerLost (s : State) : Res := .next s.partnerLost

/-- PAIR_DECISION_RX (R549, R550, R555). -/
def execPairDecisionRx (hdr : Nat) (ws : List Nat) (s : State) : Res :=
  .next <| s.plReceive 0x02 hdr ws fun w s => s.partnerDecision (w.getD 0 0)

/-- PAIR_ANCHOR_RX (R545, R546, R555). -/
def execPairAnchorRx (hdr : Nat) (ws : List Nat) (s : State) : Res :=
  .next <| s.plReceive 0x03 hdr ws State.anchorRx

/-- PAIR_THETA_RX (R547, R555). -/
def execPairThetaRx (hdr : Nat) (ws : List Nat) (s : State) : Res :=
  .next <| s.plReceive 0x04 hdr ws State.thetaRx

/-- EPOCH_NOTE_RX (R548, R289). -/
def execEpochNoteRx (hdr : Nat) (ws : List Nat) (s : State) : Res :=
  .next <| s.plReceive 0x05 hdr ws State.noteRx

/-- PAIR_DIGEST_RX (R562). -/
def execPairDigestRx (hdr : Nat) (ws : List Nat) (s : State) : Res :=
  .next <| s.plReceive 0x06 hdr ws State.digestRx

/-- DIGEST_ENTRY_EXPIRY (R562). -/
def execDigestEntryExpiry (s : State) : Res := .next s.digestExpire

/-- JOIN_REQUEST_RX (R560). -/
def execJoinRequestRx (hdr : Nat) (ws : List Nat) (s : State) : Res :=
  .next <| s.plReceive 0x07 hdr ws fun w s => if bits 63 62 (w.getD 0 0) = 0 then s.joinRequest else s

/-- JOIN_AT_RX (R560). -/
def execJoinAtRx (hdr : Nat) (ws : List Nat) (s : State) : Res :=
  .next <| s.plReceive 0x07 hdr ws fun w s => if bits 63 62 (w.getD 0 0) = 1 then s.joinAt (w.getD 0 0) else s

/-- JOIN_SEQ_RX (R560). -/
def execJoinSeqRx (hdr : Nat) (ws : List Nat) (s : State) : Res :=
  .next <| s.plReceive 0x07 hdr ws fun w s => if bits 63 62 (w.getD 0 0) = 2 then s.joinSeq (w.getD 1 0) else s

/-- PAIR_FW_RX (R556). -/
def execPairFwRx (hdr : Nat) (ws : List Nat) (s : State) : Res :=
  .next <| s.plReceive 0x10 hdr ws State.fwRx

/-- PAIR_REJOIN (R559, R566). -/
def execPairRejoin (s : State) : Res := .next s.rejoin

/-- PAIR_GO_ALONE (R561). -/
def execPairGoAlone (s : State) : Res := .next s.goAloneWrite

/-- PAIR_MUTE_WRITE (R563). -/
def execPairMuteWrite (v : Bool) (s : State) : Res := .next <| s.wset WR.PAIR_CTRL_MUTE (b2n v)

/-- PAIR_EN_WRITE (R558, R566). -/
def execPairEnWrite (en : Bool) (s : State) : Res := .next <| s.writePairEn en

/-- PAIR_CLAIM_WRITE (R564). -/
def execPairClaimWrite (value : Nat) (s : State) : Res := .next <| s.writeClaim value

/-- PL_LOCK_SET (R552). -/
def execPlLockSet (s : State) : Res := .next <| s.wset WR.PAIR_STATUS_PL_LOCK 1

/-- PL_LOCK_CLEAR (R552): the 16 invalid blocks count in CRC_ERR. -/
def execPlLockClear (s : State) : Res :=
  .next <| (s.wset WR.PAIR_STATUS_PL_LOCK 0).wadd WR.PAIR_PL_CNT_CRC_ERR 16

end Sys2Proof.Machine
end

