-- ==== Sys2Proof/Machine/WnEnv.lean ====
section
/-! DEFINITION. Sweeps, conversions, range changes, fault detection and the kick of the environment block
(spec/19). -/

namespace Sys2Proof.Machine

open Sys2Proof

namespace State

/-! ### Sweeps and conversions (R601–R605) -/

/-- Conversion time in ticks (R602). -/
def envTime (n : Nat) (s : State) : Nat := 5 * 4 ^ s.wget (WR.ENV_CH_CFG_RATE n) * Config.msTicks / 2

/-- A conversion of a channel marks the flags of what is in effect at its start. -/
def envStartFlags (n at' : Nat) (s : State) : Nat :=
  let rel := match SMap.find n s.env.clampRel with
    | some t => decide (at' < t + Config.msTicks)
    | none => false
  b2n (s.won (WR.ENV_CH_STATUS_CONTEND n)) + 4 * b2n (!s.won WR.ENV_REF_READY)
    + 8 * b2n (s.won (WR.ENV_CH_STATUS_RAMPING n))
    + 16 * b2n (rel || s.env.clamped.contains n) + 32 * b2n (s.won (WR.ENV_CH_STATUS_OPEN_NOW n))

/-- The sweep goes on with the next channel, or ends (R604). -/
def envNext (at' : Nat) (todo : List Nat) (s : State) : State :=
  match todo with
  | [] => ((s.modEnv fun e => { e with conv := none, todo := [] }).wset WR.ENV_SWEEP_BUSY 0).wset
      WR.ENV_SWEEP_SWEEPS (s.wget WR.ENV_SWEEP_SWEEPS + 1)
  | n :: r => (s.modEnv fun e => { e with
      conv := some ⟨n, at' + s.envTime n, s.envStartFlags n at'⟩, todo := r }).wsets
      [(WR.ENV_SWEEP_BUSY, 1), (WR.ENV_SWEEP_CHANNEL, n)]

/-- The channels of a sweep (R599, R604). -/
def envList (s : State) : List Nat :=
  (List.range 16).filter fun n => bit n (s.wget WR.ENV_MASK_MASK) && s.envMode n != 0

/-- A start of a sweep at a time (R604, R605). -/
def envStart (at' : Nat) (s : State) : State :=
  let us := at' / Config.usTicks
  if !s.envSweeps || s.env.startUs = some us then s
  else if s.env.conv.isSome then s.wadd WR.ENV_SWEEP_OVERLAP 1
  else (s.modEnv fun e => { e with startUs := some us }).envNext at' s.envList

/-- ENV_CTRL.GO: at the next microsecond. -/
def envGo (s : State) : State := s.envStart ((s.now / Config.usTicks + 1) * Config.usTicks)

/-- PERIOD in ticks; 0 acts as 1. -/
def envPeriod (s : State) : Nat := max 1 (s.wget WR.ENV_PERIOD_PERIOD) * Config.msTicks

/-- A write of ENV_CTRL. -/
def writeEnvCtrl (v : Nat) (s : State) : State :=
  let was := s.won WR.ENV_CTRL_TIMER_EN
  let s := s.wset WR.ENV_CTRL_TIMER_EN (bits 1 1 v)
  let s := s.modEnv fun e => { e with
    timerAt := if bit 1 v then if was then e.timerAt else some (s.now + s.envPeriod) else none }
  if bit 0 v then s.envGo else s

/-- The sweep timer is due (R604). -/
def envTimer (s : State) : State :=
  match s.env.timerAt with
  | some t =>
    if t ≤ s.now then (s.modEnv fun e => { e with timerAt := some (t + s.envPeriod) }).envStart s.now else s
  | none => s

/-- A measured difference in pV, held within the converter's range for GAIN 2^g: a half of R601. -/
def envHalf (g v : Nat) : Int :=
  let lim : Int := 2500000000000
  max (-lim) (min lim (signed 64 v * 2 ^ g))

/-- The code of a conversion (R601, R602): from both halves, or from the one measurement of VOLT. -/
def envCode (volt : Bool) (g vp vn : Nat) : Int :=
  let x := if volt then 2 * envHalf g vp else envHalf g vp - envHalf g vn
  max (-(2 ^ 23)) (min (2 ^ 23 - 1) (divRound (x * 2 ^ 23) 5000000000000))

/-- Both halves, or the one measurement, reach the positive limit (R608). -/
def envHigh (volt : Bool) (g vp vn : Nat) : Bool :=
  let top (v : Nat) : Bool := decide (2 ^ 23 - 1 ≤ divRound (envHalf g v * 2 ^ 23) 2500000000000)
  top vp && (volt || top vn)

/-- A conversion marks flags (R605, R609–R612). -/
def envMark (n f : Nat) (s : State) : State :=
  s.modEnv fun e => { e with
    conv := e.conv.map fun c => if c.ch = n then { c with flags := c.flags ||| f } else c }

/-- The conversion in progress marks flags. -/
def envMarkAny (f : Nat) (s : State) : State :=
  s.modEnv fun e => { e with conv := e.conv.map fun c => { c with flags := c.flags ||| f } }

/-- The conversion in progress ends (R602, R605, R608, R613). -/
def envConvEnd (vp vn : Nat) (s : State) : State :=
  match s.env.conv with
  | some c =>
    if c.due ≤ s.now ∧ s.envSweeps then
      let n := c.ch
      let g := s.wget (WR.ENV_CH_CFG_GAIN n)
      let volt := s.envMode n == 3
      let code := envCode volt g vp vn
      let open' := s.won (WR.ENV_CH_CFG_BURN_EN n) && envHigh volt g vp vn
      let sat := !open' && (code == 2 ^ 23 - 1 || code == -(2 ^ 23))
      let f := c.flags ||| (32 * b2n open') ||| (64 * b2n sat)
      let s := s.wsets [(WR.ENV_CH_RES_VALID n, 1), (WR.ENV_CH_RES_OVER n, bits 6 6 f),
        (WR.ENV_CH_RES_OPEN n, bits 5 5 f), (WR.ENV_CH_RES_CLAMP n, bits 4 4 f),
        (WR.ENV_CH_RES_RANGING n, bits 3 3 f), (WR.ENV_CH_RES_REF_COLD n, bits 2 2 f),
        (WR.ENV_CH_RES_FED n, bits 1 1 f), (WR.ENV_CH_RES_CONTEND n, bits 0 0 f),
        (WR.ENV_CH_RES_CODE n, unsigned 24 code), (WR.ENV_CH_TIME_SWEEP n, s.wget WR.ENV_SWEEP_SWEEPS),
        (WR.ENV_CH_TIME_TICK n, s.tick / 256)]
      let s := if bit 2 f then s.wset WR.ENV_STATUS_REF_COLD 1 else s
      let s := s.modEnv fun e => { e with ended := SMap.insert n s.tick e.ended }
      (s.envNext s.now s.env.todo).envShow
    else s
  | none => s

/-! ### Reference, sources, range changes (R603, R606, R607, R611) -/

/-- ENV_REF.EN (R603). -/
def envRefWrite (en : Bool) (s : State) : State :=
  if en then
    if s.won WR.ENV_REF_EN then s
    else (s.wset WR.ENV_REF_EN 1).modEnv fun e => { e with refAt := some s.now }
  else ((s.wsets [(WR.ENV_REF_EN, 0), (WR.ENV_REF_READY, 0)]).modEnv fun e => { e with refAt := none }).envMarkAny 4

/-- READY, 5.0 ms after EN (R603). -/
def envRefReady (s : State) : State :=
  match s.env.refAt with
  | some t => if t + 5 * Config.msTicks ≤ s.now then s.wset WR.ENV_REF_READY 1 else s
  | none => s

/-- The step of a range change: 0 none, 1 the ramp down, 2 the ramp up. -/
def envRamp (n : Nat) (s : State) : Nat := SMap.getD 0 n s.env.ramp

/-- Set the step of a range change. -/
def setEnvRamp (n v : Nat) (s : State) : State :=
  ((s.modEnv fun e => { e with ramp := if v = 0 then SMap.erase n e.ramp else SMap.insert n v e.ramp }).wset
    (WR.ENV_CH_STATUS_RAMPING n) (b2n (v != 0))).envMark n (if v = 0 then 0 else 8)

/-- A write of RANGE (R607); ignored outside HELD and ADMITTED. -/
def envRange (n r : Nat) (s : State) : State :=
  if !s.isOpen || r % 4 == s.wget (WR.ENV_CH_CFG_RANGE n) then s
  else
    let s := s.wset (WR.ENV_CH_CFG_RANGE n) r
    if s.envDrives n then s.setEnvRamp n 1 else s

/-- The current reaches zero and the range switches (R607). -/
def envSwitch (n : Nat) (s : State) : State := if s.envRamp n = 1 then s.setEnvRamp n 2 else s

/-- The range change ends (R607). -/
def envRampEnd (n : Nat) (s : State) : State := if s.envRamp n = 2 then s.setEnvRamp n 0 else s

/-- A write of ENV_CHn_CFG (R606, R607, R619). -/
def writeEnvCfg (n v : Nat) (s : State) : State :=
  if !s.isOpen then s
  else
    let was := s.envDrives n
    let s := s.envRange n (bits 4 3 v)
    let s := s.wsets [(WR.ENV_CH_CFG_RATE n, bits 11 10 v), (WR.ENV_CH_CFG_GAIN n, bits 9 7 v),
      (WR.ENV_CH_CFG_BURN_EN n, bits 6 6 v), (WR.ENV_CH_CFG_EXC_EN n, bits 5 5 v),
      (WR.ENV_CH_CFG_MODE n, bits 1 0 v)]
    let s := if was && !s.envDrives n then (s.setEnvRamp n 0).envMark n 8 else s
    s.envShow

/-- A source fed from outside is disconnected (R611). -/
def envFed (n : Nat) (s : State) : State :=
  if s.envDrives n then
    (((s.wsets [(WR.ENV_CH_STATUS_FED n, 1), (WR.ENV_CH_STATUS_FED_NOW n, 1)]).wadd (WR.ENV_CH_CNT_FEDS n) 1).setEnvRamp
      n 0).envMark n 2 |>.envShow
  else s

/-- RETRY (R611): the source comes back through the ramp. -/
def envRetry (n : Nat) (s : State) : State :=
  if s.won (WR.ENV_CH_STATUS_FED_NOW n) then
    let s := s.wset (WR.ENV_CH_STATUS_FED_NOW n) 0
    (if s.envDrives n then s.setEnvRamp n 2 else s).envShow
  else s

/-! ### Open watch, clamps, contention (R609, R610, R612) -/

/-- OPEN_NOW of a driving source (R609). -/
def envOpen (n : Nat) (s : State) : State :=
  if s.envDrives n then
    ((s.wsets [(WR.ENV_CH_STATUS_OPEN n, 1), (WR.ENV_CH_STATUS_OPEN_NOW n, 1)]).envMark n 32).envShow
  else s

/-- A probe pin's clamp engages (R610). -/
def envClamp (n : Nat) (s : State) : State :=
  (((s.wset (WR.ENV_CH_STATUS_CLAMP n) 1).wadd (WR.ENV_CH_CNT_CLAMPS n) 1).modEnv fun e => { e with
    clamped := if n ∈ e.clamped then e.clamped else n :: e.clamped }).envMark n 16

/-- A clamp releases; the flag span is 1 ms more (R610). -/
def envUnclamp (n : Nat) (s : State) : State :=
  if n ∈ s.env.clamped then
    s.modEnv fun e => { e with clamped := e.clamped.erase n, clampRel := SMap.insert n s.now e.clampRel }
  else s

/-- CONTEND of two driving sources (R612). -/
def envContend (a b : Nat) (s : State) : State :=
  if s.envDrives a && s.envDrives b && a != b then
    (((s.wsets [(WR.ENV_CH_STATUS_CONTEND a, 1), (WR.ENV_CH_STATUS_CONTEND b, 1)]).envMark a 1).envMark b 1).envShow
  else s

/-! ### Interlocks (R614–R618) -/

/-- A write of ENV_IL_k_CTRL by an agent (R614, R615, R619). -/
def ilWrite (agent k v : Nat) (s : State) : State :=
  if 1 ≤ agent ∧ agent ≤ 4 then
    let was := s.won (WR.ENV_IL_STATUS_ON k)
    let s := s.ilEval k
    let lost := was && !s.won (WR.ENV_IL_STATUS_ON k)
    let req := bit 0 v && !(lost && bit 1 v)
    let fresh' := req && !s.won (WR.ENV_IL_CTRL_REQ k) && !lost
    let s := s.wsets [(WR.ENV_IL_CTRL_LATCH k, bits 1 1 v), (WR.ENV_IL_CTRL_REQ k, b2n req)]
    (if fresh' then s.wset (WR.ENV_IL_STATUS_CAUSE k) 0 else s).envShow
  else s.wset WR.ENV_STATUS_IL_WR_REFUSED 1

/-- A write of ENV_KICK by an agent (R616, R619): an expiry comes before the kick. -/
def envKick (agent v : Nat) (s : State) : State :=
  let s := s.envShow
  let s := if s.isOpen then s.wset WR.ENV_KICK_KICK_MS v else s
  if bit 31 v && decide (1 ≤ agent) && decide (agent ≤ 4) then
    (s.modEnv fun e => { e with kickAt := some s.now }).envShow
  else s

end State

/-- ENV_GO (R604, R605). -/
def execEnvGo (s : State) : Res := .next s.envGo

/-- ENV_TIMER_SWEEP (R604). -/
def execEnvTimerSweep (s : State) : Res := .next s.envTimer

/-- ENV_CONVERSION_DONE (R601–R605, R608, R613, R616): the differences measured in the two halves in pV,
signed; VOLT has the first only. -/
def execEnvConversionDone (vp vn : Nat) (s : State) : Res := .next <| s.envConvEnd vp vn

/-- ENV_REF_WRITE (R603). -/
def execEnvRefWrite (en : Bool) (s : State) : Res := .next <| s.envRefWrite en

/-- ENV_REF_READY (R603). -/
def execEnvRefReady (s : State) : Res := .next s.envRefReady

/-- ENV_RANGE_WRITE (R607, R619). -/
def execEnvRangeWrite (ch range : Nat) (s : State) : Res := .next <| s.envRange ch range

/-- RANGE_SWITCH (R607). -/
def execRangeSwitch (ch : Nat) (s : State) : Res := .next <| s.envSwitch ch

/-- RANGE_RAMP_DONE (R607). -/
def execRangeRampDone (ch : Nat) (s : State) : Res := .next <| s.envRampEnd ch

/-- OPEN_DETECT (R609). -/
def execOpenDetect (ch : Nat) (s : State) : Res := .next <| s.envOpen ch

/-- OPEN_CLEAR (R609). -/
def execOpenClear (ch : Nat) (s : State) : Res := .next <| (s.wset (WR.ENV_CH_STATUS_OPEN_NOW ch) 0).envShow

/-- PROBE_CLAMP_ENGAGE (R610). -/
def execProbeClampEngage (ch : Nat) (s : State) : Res := .next <| s.envClamp ch

/-- PROBE_CLAMP_RELEASE (R610). -/
def execProbeClampRelease (ch : Nat) (s : State) : Res := .next <| s.envUnclamp ch

/-- SOURCE_FED (R611). -/
def execSourceFed (ch : Nat) (s : State) : Res := .next <| s.envFed ch

/-- ENV_RETRY (R611). -/
def execEnvRetry (ch : Nat) (s : State) : Res := .next <| s.envRetry ch

/-- CONTEND_SET (R612): of two channels. -/
def execContendSet (a b : Nat) (s : State) : Res := .next <| s.envContend a b

/-- CONTEND_CLEAR (R612). -/
def execContendClear (a b : Nat) (s : State) : Res :=
  .next <| (s.wsets [(WR.ENV_CH_STATUS_CONTEND a, 0), (WR.ENV_CH_STATUS_CONTEND b, 0)]).envShow

/-- IL_REQ_WRITE (R614, R615). -/
def execIlReqWrite (agent k value : Nat) (s : State) : Res := .next <| s.ilWrite agent k value

/-- ENV_KICK_WRITE (R616): a write with KICK = 1 that leaves KICK_MS. -/
def execEnvKickWrite (agent : Nat) (s : State) : Res :=
  .next <| s.envKick agent (2 ^ 31 + s.wget WR.ENV_KICK_KICK_MS % 2 ^ 16)

/-- KICK_EXPIRY (R616). -/
def execKickExpiry (s : State) : Res := .next s.envShow

/-- RESULT_AGE_EXPIRY (R616). -/
def execResultAgeExpiry (s : State) : Res := .next s.envShow

/-- IL_OVERTEMP (R618). -/
def execIlOvertemp (k : Nat) (s : State) : Res := .next <| (s.wset (WR.ENV_IL_STATUS_OVERTEMP k) 1).envShow

/-- IL_OVERTEMP_CLEAR (R618). -/
def execIlOvertempClear (k : Nat) (s : State) : Res := .next <| (s.wset (WR.ENV_IL_STATUS_OVERTEMP k) 0).envShow

/-- IL_SHORT (R618): of a conducting output. -/
def execIlShort (k : Nat) (s : State) : Res :=
  .next <| if s.won (WR.ENV_IL_STATUS_ON k) then s.wset (WR.ENV_IL_STATUS_SHORT k) 1 else s

end Sys2Proof.Machine
end

