-- ==== Sys2Proof/Machine/WnAlarm.lean ====
section
/-! DEFINITION. Alarms: firing, actions and re-arming (spec/03 R102–R107). -/

namespace Sys2Proof.Machine

open Sys2Proof

namespace State

/-- The ports of an alarm's mask; a port that is no first lane has no Tladon. -/
def almPorts (n : Nat) (s : State) : List Nat :=
  (List.range 48).filter fun p =>
    bit p (s.wget (WR.MER_ALM_PMASK_LO_PMASK_LO n) + 2 ^ 32 * s.wget (WR.MER_ALM_PMASK_HI_PMASK_HI n))
      && s.portHere p

/-- The action of an alarm by its kind (R103). -/
def almAct (n : Nat) (s : State) : State :=
  let k := s.wget (WR.MER_ALM_CTRL_KIND n)
  if k = 1 then s.envStart s.now
  else if k = 2 then s.setFlag (s.wget (WR.MER_ALM_CTRL_TASK n)) (s.wget (WR.MER_ALM_CTRL_FLAG n))
  else if k = 3 then (s.almPorts n).foldl (fun s p => s.dlOp p 0x05 0) s
  else if k = 4 then (s.almPorts n).foldl (fun s p => s.sendEpoch p) s
  else s

/-- The alarm's target becomes a Meridian time (R104). -/
def setTarget (n t : Nat) (s : State) : State :=
  let s := s.wsets [(WR.MER_ALM_SEC_SEC n, timeSec t % 2 ^ 32), (WR.MER_ALM_NS_NS n, timeNs t)]
  s.modMer fun g => { g with almHi := g.almHi.mapIdx fun i x => if i = n then timeSec t / 2 ^ 32 else x }

/-- A periodic alarm re-arms, after a late firing beyond the current time (R105); a one-shot alarm clears EN
(R104). -/
def rearm (n : Nat) (late : Bool) (s : State) : State :=
  let d := s.wget (WR.MER_ALM_PERIOD_NS_PERIOD n) * 65536
  let t := s.almTarget n
  if d = 0 then s.wset (WR.MER_ALM_CTRL_EN n) 0
  else s.setTarget n (timeAdd t (if late then ((s.timeNow - t) / d + 1) * d else d : Nat))

/-- Alarm `n` fires where its time has come (R102, R105). -/
def fireAlarm (n : Nat) (s : State) : State :=
  if s.timeValid && s.won (WR.MER_ALM_CTRL_EN n) && decide (s.almTarget n ≤ s.timeNow) then
    let late := s.mer.almLate.getD n false
    let s := if late then s.wsets [(WR.MER_ALM_CTRL_LATE n, 1), (WR.MER_STATUS_LATE, 1)] else s
    ((s.almAct n).rearm n late).setLate n false
  else s

end State

/-- ALARM_FIRE (R102–R105). -/
def execAlarmFire (n : Nat) (s : State) : Res := .next <| s.fireAlarm n

end Sys2Proof.Machine
end

