-- ==== Sys2Proof/Machine/WnPwr.lean ====
section
/-! DEFINITION. The power stage, resets, self-test, firmware, the watchdog and HALTED_FATAL (spec/20
R622–R656; spec/14 R457–R465; spec/16 R530). -/

namespace Sys2Proof.Machine

open Sys2Proof

namespace State

/-- Change the power stage. -/
def modPwr (f : Pwr → Pwr) (s : State) : State := { s with pwr := f s.pwr }

/-- The debug module holds a hart halted. -/
def anyHalted (s : State) : Bool := s.cores.any (·.halted)

/-! ### Sources of reset (R637, R652) -/

/-- A source asks for a reset: a power-on source stands over a warm reset; a warm source is ignored while
reset is asserted and in SELF_TEST, and takes the place of the fatal timer in one cycle. -/
def askReset (power : Bool) (cause : Nat) (s : State) : State :=
  let r : Rst := ⟨power, cause, s.now, false⟩
  if power then s.modSys fun y => { y with rst := some r }
  else match s.sys.rst with
    | some x =>
      if !x.power && !x.done && x.cause == 7 && x.since == s.now then s.modSys fun y => { y with rst := some r }
      else s
    | none => if s.ws ≤ 1 then s else s.modSys fun y => { y with rst := some r }

/-- The wrong stored bits that a warm reset keeps: those of the Loft and of the Yard reserve (R638). -/
def keptFlips (s : State) : SMap Nat :=
  s.mems.flips.filter fun f => decide (memKey 0 0xF8000 ≤ f.1) && decide (f.1 < memKey 1 0)
    || decide (memKey 3 0x50000 ≤ f.1) && decide (f.1 < memKey 3 0x60000)

/-- The registers that a reset keeps, with their values after it (R632, R637, R638, R651). -/
def keptRegs (r : Rst) (s : State) : List (Fld × Nat) :=
  let run := s.wget WR.SYS_BOOT_FATAL_RUN
  [(WR.SYS_STATE_STATE, 0), (WR.SYS_RESET_CAUSE, r.cause), (WR.PWR_STATUS_PG, b2n s.pwr.pg),
    (WR.DBG_STATUS_DMACTIVE, b2n (!r.power && s.dbg.active)),
    (WR.PWR_LAST_CAUSE, s.wget WR.PWR_LAST_CAUSE), (WR.PWR_LAST_RAIL, s.wget WR.PWR_LAST_RAIL),
    (WR.PWR_CNT_RAIL_FAULTS, s.wget WR.PWR_CNT_RAIL_FAULTS), (WR.PWR_CNT_THERMAL, s.wget WR.PWR_CNT_THERMAL),
    (WR.PWR_CNT_LOCKOUTS, s.wget WR.PWR_CNT_LOCKOUTS)] ++
  if r.power then []
  else [(WR.SYS_RESET_WARM_COUNT, s.wget WR.SYS_RESET_WARM_COUNT + 1),
    (WR.SYS_BOOT_AUTO_RUN, s.wget WR.SYS_BOOT_AUTO_RUN),
    (WR.SYS_BOOT_FATAL_RUN, if r.cause = 7 then min 15 (run + 1) else 0),
    (WR.SYS_BOOT_STORM, b2n (decide (r.cause = 7) && decide (4 ≤ run))),
    (WR.SYS_FATAL_SOURCE, s.wget WR.SYS_FATAL_SOURCE), (WR.SYS_FATAL_CODE, s.wget WR.SYS_FATAL_CODE),
    (WR.DBG_LOFT_DUMPS, s.wget WR.DBG_LOFT_DUMPS)]

/-- Wonan as a reset leaves it (R637–R639, R474, R668): everything at its reset value but what the reset
keeps; every output stops. The Tladons, the flash, the straps and the power stage are not reset. -/
def resetWonan (r : Rst) (s : State) : State :=
  let t := State.reset
  let t := { t with
    pending := s.pending, freeCnt := s.freeCnt, now := s.now, out := s.out ++ [Out.stop], tl := s.tl
    variant := s.variant, wclk := (2 ^ 64 - s.now % 2 ^ 64) % 2 ^ 64, mtime0 := s.now
    mem := s.mem.filter fun c => decide (c.1 < 0x10000) || !r.power && (inLoft c.1 1 || inReserve c.1 1)
    mems := if r.power then Mems.reset else { Mems.reset with
      flips := s.keptFlips, far := s.mems.far, bad := s.mems.bad }
    canid := s.canid, can := Can.reset s.canid, pwr := s.pwr
    dbg := if r.power then Dbg.reset else s.dbg
    taps := if r.power then SMap.erase 0 s.taps else s.taps
    wr := RegFile.sets (s.keptRegs r) [] }
  let t := { t with sys := { Sys.reset with
    nor := s.sys.nor, test := 0, warmBoot := !r.power, rst := some { r with done := true } } }
  let t := t.wset WR.CAN_CFG_NODE_ID s.canid
  (List.range 5).foldl (fun t m => t.showSpares m) t

/-- RESET_ASSERT. -/
def resetAssert (s : State) : State :=
  match s.sys.rst with
  | some r => if r.done then s else s.resetWonan r
  | none => s

/-! ### The power stage (R622–R632, R654) -/

/-- The rails turn off, PG falls and reset is asserted (R622, R629, R630); the reset's cause is that of the
restart. -/
def powerOff (cause : Nat) (s : State) : State :=
  ((s.modPwr fun p => { p with vint := false, rails := 0, pg := false }).wset WR.PWR_STATUS_PG 0).askReset true cause

/-- A lockout asserts (R622, R632). -/
def lockout (cause : Nat) (s : State) : State :=
  ((s.wsets [(WR.PWR_LAST_CAUSE, cause), (WR.PWR_LAST_RAIL, 0)]).wadd WR.PWR_CNT_LOCKOUTS 1).powerOff 0

/-- The converter is on. -/
def converterOn (s : State) : Bool := !s.pwr.uvlo && !s.pwr.ovlo && !s.pwr.latched && s.pwr.offAt.isNone

/-- A fault of the power stage: a third within 1 s latches it off (R630, R631). -/
def powerFault (cause rail : Nat) (hot : Bool) (s : State) : State :=
  if !s.converterOn then s
  else
    let recent := s.pwr.faults.filter fun t => decide (s.now < t + Config.secTicks)
    let s := s.wsets [(WR.PWR_LAST_CAUSE, cause), (WR.PWR_LAST_RAIL, rail)]
    let s := s.wadd (if hot then WR.PWR_CNT_THERMAL else WR.PWR_CNT_RAIL_FAULTS) 1
    (s.modPwr fun p => { p with
      faults := recent ++ [s.now], latched := decide (2 ≤ recent.length), offAt := some s.now, hot := hot }).powerOff 1

/-- VIN rises through the UVLO release (R622, R631, R637). -/
def uvloRelease (s : State) : State :=
  if s.pwr.uvlo || s.pwr.latched then
    (s.modPwr fun p => { p with uvlo := false, latched := false, offAt := none, hot := false, faults := [] }).askReset
      true 0
  else s

/-- VIN falls through the UVLO. -/
def uvloAssert (s : State) : State :=
  if s.pwr.uvlo then s
  else (s.modPwr fun p => { p with uvlo := true, offAt := none, hot := false }).lockout 1

/-- VIN rises through the OVLO. -/
def ovloAssert (s : State) : State :=
  if s.pwr.ovlo then s else (s.modPwr fun p => { p with ovlo := true }).lockout 2

/-- VIN falls through the OVLO release: the cause of the reset that follows is 0 or 1, and the spec does not
say which (log entry 2). -/
def ovloRelease (s : State) : State :=
  if s.pwr.ovlo then
    let (c, s) := s.fresh 1
    (s.modPwr fun p => { p with ovlo := false }).askReset true c
  else s

/-- VINT is in regulation and the first rail rises within 0.5 ms (R623, R627). -/
def vintGood (rise : Nat) (s : State) : State :=
  if s.converterOn && !s.pwr.vint then
    s.modPwr fun p => { p with vint := true, rails := 1, goodAt := s.now + min rise (Config.msTicks / 2) }
  else s

/-- The next rail starts 0.5 ms after the one before it is good (R627). -/
def railStart (rise : Nat) (s : State) : State :=
  if s.pwr.vint && decide (s.pwr.rails < 4) && decide (s.pwr.goodAt + Config.msTicks / 2 ≤ s.now) then
    s.modPwr fun p => { p with rails := p.rails + 1, goodAt := s.now + min rise (Config.msTicks / 2) }
  else s

/-- PG is released 1.0 ms after every rail is good (R629). -/
def pgRelease (s : State) : State :=
  if s.pwr.vint && s.pwr.rails == 4 && !s.pwr.pg && decide (s.pwr.goodAt + Config.msTicks ≤ s.now) then
    (s.modPwr fun p => { p with pg := true }).wset WR.PWR_STATUS_PG 1
  else s

/-- The power stage restarts 20 ms after a fault, after over-temperature once it has cooled as well (R630,
R631). -/
def powerRestart (cool : Bool) (s : State) : State :=
  match s.pwr.offAt with
  | some t =>
    if t + 20 * Config.msTicks ≤ s.now ∧ (s.pwr.hot = false ∨ cool = true) ∧ s.pwr.latched = false
        ∧ s.pwr.uvlo = false ∧ s.pwr.ovlo = false then
      (s.modPwr fun p => { p with offAt := none, hot := false }).askReset true 1
    else s
  | none => s

/-- The measurements of one millisecond and the warnings that hold (R654). -/
def measure (vin iin : Nat) (v i : List Nat) (pdie cdie ok flags : Nat) (s : State) : State :=
  let s := s.wsets [(WR.PWR_VIN_VIN, vin), (WR.PWR_VIN_IIN, iin), (WR.PWR_TEMP_POWER_DIE, pdie),
    (WR.PWR_TEMP_CORE_DIE, cdie), (WR.PWR_STATUS_RAIL_OK, ok), (WR.PWR_STATUS_PG, b2n s.pwr.pg)]
  let s := (List.range 4).foldl (fun s r => s.wsets [(WR.PWR_RAIL_V r, v.getD r 0), (WR.PWR_RAIL_I r, i.getD r 0)]) s
  ([(0, WR.PWR_STATUS_VIN_HIGH), (1, WR.PWR_STATUS_VIN_LOW), (2, WR.PWR_STATUS_RAIL_WARN),
    (3, WR.PWR_STATUS_HOT)].filter fun x => bit x.1 flags).foldl (fun s x => s.wset x.2 1) s

/-! ### HALTED_FATAL, watchdog and fatal timer (R648–R651) -/

/-- The watchdog counts (R649). -/
def wdRuns (s : State) : Bool :=
  s.sys.fw && s.won WR.SYS_WDOG_EN && !s.won WR.SYS_BOOT_NO_FW && !s.won WR.SYS_BOOT_STORM && !s.anyHalted

/-- The fatal timer counts (R650). -/
def ftRuns (s : State) : Bool := s.ws == 6 && !s.anyHalted

/-- What a count holds now. -/
def counted (cnt : Nat) (seg : Option Nat) (s : State) : Nat :=
  match seg with
  | some t => cnt + (s.now - t)
  | none => cnt

/-- The watchdog and the fatal timer go on or pause as the state now says. -/
def syncTimers (s : State) : State :=
  s.modSys fun y => { y with
    wdCnt := s.counted y.wdCnt y.wdSeg
    wdSeg := if s.wdRuns then some s.now else none
    ftCnt := s.counted y.ftCnt y.ftSeg
    ftSeg := if s.ftRuns then some s.now else none }

/-- A hart enters debug mode (R518, R522): its pc and privilege are kept in dpc and dcsr, with the cause; its LR
reservation is lost and its reserved item goes back; the watchdog pauses. -/
def haltHart (n cause : Nat) (s : State) : State :=
  if (s.core n).halted then s
  else
    let s := (s.unreserve n).modCore n fun c =>
      let d := c.csrGet csrDcsr
      { (c.csrSet csrDpc c.pc).csrSet csrDcsr (2 ^ 30 + (d &&& 0x9E14) + cause * 64 + if c.user then 0 else 3) with
        halted := true, lr := none }
    s.syncTimers

/-- A hart leaves debug mode: at dpc, in the privilege of dcsr. -/
def resumeHart (n : Nat) (s : State) : State :=
  if (s.core n).halted then
    (s.modCore n fun c => { c with
      pc := c.csrGet csrDpc, user := c.csrGet csrDcsr % 4 == 0, halted := false }).msipStart.syncTimers
  else s

/-- The watchdog starts its count afresh. -/
def wdRestart (s : State) : State :=
  (s.modSys fun y => { y with wdCnt := 0, wdSeg := if s.wdRuns then some s.now else none })

/-- A kick (R649): by a core. -/
def wdKick (agent : Nat) (s : State) : State :=
  if 1 ≤ agent ∧ agent ≤ 4 then s.wdRestart.modSys fun y => { y with wdOnce := false } else s

/-- A write of SYS_WDOG by an agent (R649). -/
def writeWdog (agent v : Nat) (s : State) : State :=
  let lock := s.won WR.SYS_WDOG_LOCK
  let s := if bit 28 v then s.wset WR.SYS_WDOG_EXPIRED 0 else s
  let s := if lock then s else s.wsets [(WR.SYS_WDOG_LOCK, bits 30 30 v), (WR.SYS_WDOG_EN, bits 29 29 v),
    (WR.SYS_WDOG_PERIOD, bits 15 0 v)]
  let s := s.syncTimers
  if bit 31 v then s.wdKick agent else s

/-- Entry to HALTED_FATAL (R648–R650): outputs as in HELD, claim 0, the trace frozen where asked, the fatal
timer starts. -/
def enterFatal (source : Nat) (s : State) : State :=
  let run := s.isRun
  let s := if run then (s.portsStop false).leaveRun else s
  let s := (s.wset WR.SYS_FATAL_SOURCE source).setWs 6
  let s := if s.won WR.SCH_TRACE_CTRL_FREEZE_ON_FATAL then s.wset WR.SCH_TRACE_CTRL_FREEZE 1 else s
  ((s.modSys fun y => { y with ftCnt := 0, ftSeg := none, busy := 0 }).wset WR.ADM_STATUS_CHECKING 0).claimNow.syncTimers

/-- ENTER by an agent (R648). -/
def fatalEnter (agent code : Nat) (s : State) : State :=
  let may := agent == 9 || (decide (1 ≤ agent) && decide (agent ≤ 4) && !(s.core (agent - 1)).user)
  if may && decide (2 ≤ s.ws) && decide (s.ws ≤ 5) && s.sys.rst.isNone then
    (s.wset WR.SYS_FATAL_CODE code).enterFatal 1
  else s

/-- The watchdog's count reaches PERIOD (R649). -/
def wdExpiry (s : State) : State :=
  if max 1 (s.wget WR.SYS_WDOG_PERIOD) * Config.msTicks ≤ s.counted s.sys.wdCnt s.sys.wdSeg then
    let again := s.sys.wdOnce
    let s := s.wset WR.SYS_WDOG_EXPIRED 1
    if again then s.askReset false 6
    else
      let s := if 2 ≤ s.ws ∧ s.ws ≤ 5 then s.enterFatal 2 else s
      s.wdRestart.modSys fun y => { y with wdOnce := true }
  else s

/-- The fatal timer reaches RESET_MS (R650). -/
def fatalTimer (s : State) : State :=
  let ms := s.wget WR.SYS_FATAL_TMO_RESET_MS
  if s.ws = 6 ∧ ms ≠ 0 ∧ ms * Config.msTicks ≤ s.counted s.sys.ftCnt s.sys.ftSeg then s.askReset false 7 else s

/-- 10 s without a break in RUNNING or DEGRADED (R651). -/
def fatalRunClear (s : State) : State :=
  match s.sys.runAt with
  | some t => if s.isRun ∧ t + 10 * Config.secTicks ≤ s.now then s.wset WR.SYS_BOOT_FATAL_RUN 0 else s
  | none => s

/-- A write of SYS_RESET by an agent (R637). -/
def writeReset (agent v : Nat) (s : State) : State :=
  let may := agent == 9 || (decide (1 ≤ agent) && decide (agent ≤ 4) && !(s.core (agent - 1)).user)
  if bit 31 v && may then s.askReset false 3 else s

/-! ### Self-test (R461–R465, R640, R641) -/

/-- SELF_TEST begins 10 µs after reset was asserted, with power good. -/
def testStart (s : State) : State :=
  match s.sys.rst with
  | some r =>
    if r.done && s.pwr.pg && decide (r.since + 10 * Config.usTicks ≤ s.now) then
      let s := ((s.modSys fun y => { y with rst := none, test := 1 }).setWs 1).wset WR.SYS_BIST_XO_WAIT 1
      { s with mtime0 := s.now }.queuesStage
    else s
  | none => s

/-- A word is in the Yard reserve or the Loft, which the march after a warm reset skips (R464). -/
def marchSkips (m i : Nat) (s : State) : Bool :=
  s.sys.warmBoot && (decide (m = 0) && decide (0xF8000 ≤ i) || decide (m = 3) && decide (0x50000 ≤ i))

/-- A word fails the march (R461, R462). -/
def marchWord (s : State) (key : Nat) : State :=
  let m := key / 2 ^ 24
  let i := key % 2 ^ 24
  if 5 ≤ m ∨ memWords m ≤ i ∨ s.marchSkips m i then s
  else
    let full := s.wget WR.MEM_STATUS_FARRIER_FULL
    let (ok, t) := s.remap m i
    if ok then t
    else t.wsets [(WR.MEM_STATUS_FARRIER_FULL, full),
      (WR.MEM_BIST_MARCH_FAIL, t.wget WR.MEM_BIST_MARCH_FAIL ||| 2 ^ m)]

/-- A spare fails the march (R461; after a warm reset R459, R464). -/
def marchSpare (s : State) (key : Nat) : State :=
  let m := key / 4096
  let g := key / 16 % 256
  if 5 ≤ m ∨ memGroups m ≤ g then s
  else match (List.range 16).find? fun e => (s.farEntry m g e).valid && (s.farEntry m g e).spare == key % 16 with
    | some e => (s.remap m (memIndex m g (s.farEntry m g e).row)).2
    | none => if s.mems.bad.contains key then s else (s.modMems fun x => { x with bad := key :: x.bad }).showSpares m

/-- After a warm reset the Loft and the Yard reserve receive one read pass (R464). -/
def readPass (s : State) : State :=
  s.keptFlips.foldl (fun s f => (s.readWord (f.1 / 2 ^ 24) (f.1 % 2 ^ 24) 15 0 false Upset.none).2.2) s

/-- The rings that miss the median of all rings by more than 25 % (R640). -/
def ringsBad (counts : List Nat) : Nat :=
  let all := (List.range 8).map fun n => counts.getD n 0
  let m := median2 (sortBy (fun a b => decide (a ≤ b)) all)
  (((List.range 8).filter fun n => decide (m < 4 * (2 * (counts.getD n 0 : Int) - m).natAbs)).map (2 ^ ·)).foldl (· + ·) 0

/-- XO_IN is there and the PLLs lock: steps 2 to 6 (R461–R464, R640), with the words and spares that fail
the march, the checkers, queues and engines that fail, and the counts of the rings. -/
def selfTest (words spares : List Nat) (checks queues engs : Nat) (counts : List Nat) (s : State) : State :=
  if s.ws = 1 ∧ s.sys.test = 1 then
    let s := s.wset WR.SYS_BIST_XO_WAIT 0
    let s := words.foldl marchWord (spares.foldl marchSpare s)
    let s := if s.sys.warmBoot then s.readPass else s
    let s := s.wsets [(WR.MEM_BIST_CHECK_FAIL, checks), (WR.MEM_BIST_DONE, 1)]
    let here := (List.range 16).filter fun n => s.qHere n
    let s := s.wset WR.SYS_BIST_QUEUE ((here.filter fun n => bit n queues).map (2 ^ ·) |>.foldl (· + ·) 0)
    let bad := (List.range s.engCount).filter fun e => bit e engs
    let s := (bad.foldl (fun s e => s.engFault e 3) s).wset WR.SYS_BIST_CMP (b2n !bad.isEmpty)
    (s.wset WR.SYS_BIST_RINGS (ringsBad counts)).modSys fun y => { y with test := 2 }
  else s

/-! ### The boot ROM (R530, R643, R644) -/

/-- CC1 leaves reset in the boot ROM, and harts that are to halt on reset halt there (R518). -/
def bootRom (s : State) : State :=
  s.dbg.resetHalt.foldl (fun s n => s.haltHart n 5) (s.modSys fun y => { y with boot := 1 })

/-- The Loft holds a dump: MAGIC and CRC are good, and no word of it reads uncorrectable (R530). -/
def loftGood (s : State) : Bool :=
  s.load 0x10140000 4 == 0xC5A4D0F7
    && !(s.mems.flips.any fun f => decide (memKey 3 0x50000 ≤ f.1) && decide (f.1 < memKey 3 0x60000)
      && decide (1 < memClass 3 (syndrome 3 f.2)))
    && s.load 0x10140004 4 == crc32c (s.bytes 0x10140008 0x3FFF8)

/-- The boot ROM checks the Loft after a warm reset (R530). -/
def loftCheck (s : State) : State :=
  if s.sys.warmBoot && s.loftGood then
    s.wsets [(WR.DBG_LOFT_VALID, 1), (WR.DBG_LOFT_KEEP, 1), (WR.DBG_LOFT_DUMPS, s.wget WR.DBG_LOFT_DUMPS + 1)]
  else s

/-- A firmware slot: its GENERATION and code, where it is valid (R642, R643). -/
def fwSlot (k : Nat) (s : State) : Option (Nat × List Nat) :=
  let o := if k = 0 then 0x100000 else 0x240000
  let h := s.norBytes o 16
  let n := beAt h 8 4
  if beAt h 0 2 = 0xC5A1 ∧ h.getD 2 0 = 1 ∧ n % 8 = 0 ∧ 8 ≤ n ∧ n ≤ 1310720 then
    let code := s.norBytes (o + 16) n
    if crc32c (h.take 12 ++ code) = beAt h 12 4 then some (beAt h 4 4, code) else none
  else none

/-- A slot's code is copied into core memory (R644). -/
def copyCode (code : List Nat) (s : State) : State :=
  (s.setBytes 0x10000000 code).modMems fun x => { x with
    flips := x.flips.filter fun f => decide (f.1 < memKey 3 0) || decide (memKey 3 (code.length / 4) ≤ f.1) }

/-- CC1 enters firmware from slot `k` (R644, R649). -/
def enterFw (k : Nat) (s : State) : State :=
  let s := (s.wset WR.SYS_BOOT_FW_SLOT k).modCore 0 fun c => { c with pc := 0x10000000 }
  (s.modSys fun y => { y with fw := true }).wdRestart

/-- The boot ROM tries slots in order: `ok` says which pass their second check. -/
def tryFw (ok : List Bool) : List Nat → State → State
  | [], s => s.wset WR.SYS_BOOT_NO_FW 1
  | k :: r, s => match s.fwSlot k with
    | some (_, code) =>
      let s := s.copyCode code
      if ok.getD k false then s.enterFw k else tryFw ok r s
    | none => tryFw ok r s

/-- FIRMWARE_LOADED (R643, R644, R651). -/
def firmware (ok0 ok1 : Bool) (s : State) : State :=
  if s.sys.boot = 1 ∧ s.sys.busy ≠ 1 ∧ (s.core 0).halted = false then
    let s := s.modSys fun y => { y with boot := 2 }
    if s.won WR.SYS_BOOT_STORM then s
    else
      let g (k : Nat) : Nat := ((s.fwSlot k).map (·.1)).getD 0
      s.tryFw [ok0, ok1] (if (s.fwSlot 1).isSome ∧ g 0 < g 1 then [1, 0] else [0, 1])
  else s

/-- Wonan appears on the field network: boot-up, and pre-operational (R573). -/
def canBoot (s : State) : State :=
  let s := s.wsets [(WR.CAN_STATUS_NMT, 1), (WR.CAN_STATUS_NODE_ID_ERR, b2n (s.can.node == 0))]
  let s := s.modCan fun c => { c with
    hbAt := s.now, timing := s.canTiming }
  if s.canOn then s.emitPin (.can (0x700 + s.can.node) [0]) else s

/-- SELF_TEST ends (R416, R426, R465, R641, R644). -/
def testEnd (s : State) : State :=
  if s.ws = 1 ∧ s.sys.test = 2 then
    let crit := s.won WR.MEM_BIST_MARCH_FAIL || s.won WR.MEM_BIST_CHECK_FAIL || s.won WR.SYS_BIST_QUEUE
    let s := (s.memClear.modSys fun y => { y with test := 0 }).wsets [(WR.SYS_BIST_DONE, 1),
      (WR.SYS_BIST_CRITICAL, b2n crit)]
    let s := s.canBoot
    if crit then s.enterFatal 3
    else
      let s := ((s.setWs 2).queuesStage).modGov fun g => { g with live := true }
      s.claimNow.selectImage.loftCheck.bootRom
  else s

end State

/-- VIN_UVLO_RELEASE (R622, R631, R637). -/
def execVinUvloRelease (s : State) : Res := .next s.uvloRelease

/-- VIN_UVLO_ASSERT (R622). -/
def execVinUvloAssert (s : State) : Res := .next s.uvloAssert

/-- VIN_OVLO_ASSERT (R622). -/
def execVinOvloAssert (s : State) : Res := .next s.ovloAssert

/-- VIN_OVLO_RELEASE (R622). -/
def execVinOvloRelease (s : State) : Res := .next s.ovloRelease

/-- VINT_REGULATION (R623, R627): `rise` ticks until VIO is within its accuracy. -/
def execVintRegulation (rise : Nat) (s : State) : Res := .next <| s.vintGood rise

/-- RAIL_START (R627): `rise` ticks until the rail is within its accuracy. -/
def execRailStart (rise : Nat) (s : State) : Res := .next <| s.railStart rise

/-- PG_RELEASE (R629). -/
def execPgRelease (s : State) : Res := .next s.pgRelease

/-- RAIL_FAULT (R630, R631): rail 0 to 3 of PWR_RAIL, or 4 for VINT. -/
def execRailFault (rail : Nat) (s : State) : Res :=
  .next <| if rail < 4 then s.powerFault 3 rail false else s.powerFault 5 0 false

/-- POWER_STAGE_OVERTEMP (R630, R631). -/
def execPowerStageOvertemp (s : State) : Res := .next <| s.powerFault 4 0 true

/-- POWER_RESTART (R630): `cool` where the die is below 130 °C. -/
def execPowerRestart (cool : Bool) (s : State) : Res := .next <| s.powerRestart cool

/-- VIN_BELOW_12V (R632). -/
def execVinBelow12v (s : State) : Res :=
  .next <| s.wsets [(WR.PWR_LAST_CAUSE, 0), (WR.PWR_LAST_RAIL, 0), (WR.PWR_CNT_RAIL_FAULTS, 0),
    (WR.PWR_CNT_THERMAL, 0), (WR.PWR_CNT_LOCKOUTS, 0)]

/-- PWR_MEASURE (R654): the measurements, the rails within their accuracy, and the conditions of VIN_HIGH,
VIN_LOW, RAIL_WARN and HOT in bits 0 to 3 of `flags`. -/
def execPwrMeasure (vin iin : Nat) (v i : List Nat) (pdie cdie ok flags : Nat) (s : State) : Res :=
  .next <| s.measure vin iin v i pdie cdie ok flags

/-- RESET_N_ASSERT (R637, R679). -/
def execResetNAssert (s : State) : Res := .next <| if s.pinsHeld then s else s.askReset true 2

/-- SYS_RESET_WARM (R637): a write of 1 to WARM by an agent. -/
def execSysResetWarm (agent : Nat) (s : State) : Res := .next <| s.writeReset agent (2 ^ 31)

/-- RESET_ASSERT (R638, R639). -/
def execResetAssert (s : State) : Res := .next s.resetAssert

/-- SELF_TEST_START (R637, R640). -/
def execSelfTestStart (s : State) : Res := .next s.testStart

/-- XO_IN_PRESENT (R461–R464, R640). -/
def execXoInPresent (words spares : List Nat) (checks queues engs : Nat) (counts : List Nat) (s : State) : Res :=
  .next <| s.selfTest words spares checks queues engs counts

/-- SELF_TEST_COMPLETE (R641, R644). -/
def execSelfTestComplete (s : State) : Res := .next s.testEnd

/-- FIRMWARE_LOADED (R644): which slots pass their second check. -/
def execFirmwareLoaded (ok0 ok1 : Bool) (s : State) : Res := .next <| s.firmware ok0 ok1

/-- WATCHDOG_KICK (R649). -/
def execWatchdogKick (agent : Nat) (s : State) : Res := .next <| s.wdKick agent

/-- WATCHDOG_EXPIRY (R649). -/
def execWatchdogExpiry (s : State) : Res := .next s.wdExpiry

/-- SYS_FATAL_ENTER (R648). -/
def execSysFatalEnter (agent code : Nat) (s : State) : Res := .next <| s.fatalEnter agent code

/-- FATAL_TIMER (R650). -/
def execFatalTimer (s : State) : Res := .next s.fatalTimer

/-- FATAL_RUN_CLEAR (R651). -/
def execFatalRunClear (s : State) : Res := .next s.fatalRunClear

/-- NDMRESET (R518, R637). -/
def execNdmreset (s : State) : Res := .next <| s.askReset false 4

end Sys2Proof.Machine
end

