-- ==== Sys2Proof/Machine/WnBus.lean ====
section
/-! DEFINITION. The register blocks as an agent reads and writes them: live values, companion latches, RC
clears, and the rule of each register that has one (spec/21 R657–R661, spec/00 R8, R9, R16, R17, spec/16
R519, R520, and the register sections of each chapter). -/

namespace Sys2Proof.Machine

open Sys2Proof

/-- The state a command leaves. -/
def stateOf (d : State) : Res → State
  | .next s => s
  | .fault _ => d
  | .refused _ => d

/-- The instance of a family of registers and the offset in it. -/
def instOf (base stride count a : Nat) : Option (Nat × Nat) :=
  if base ≤ a ∧ a < base + stride * count then some ((a - base) / stride, (a - base) % stride) else none

/-- The instance whose register at offset `o` stands at an address. -/
def instAt (base stride count o a : Nat) : Option Nat :=
  match instOf base stride count a with
  | some (n, x) => if x = o then some n else none
  | none => none

namespace State

/-! ### Live values -/

/-- The units that a variant has (R5). -/
def showCap (s : State) : State :=
  s.wsets [(WR.SYS_CAP_VARIANT, s.variant), (WR.SYS_CAP_EP_COUNT, s.epCount), (WR.SYS_CAP_IN_COUNT, s.lanesCount),
    (WR.SYS_CAP_CMP_COUNT, s.engCount), (WR.SYS_CAP_HIGH_LANES, b2n (s.lanesCount == 48)),
    (WR.SYS_CAP_HIGH_PORTS, b2n (s.epCount == 8)), (WR.SYS_CAP_CMP, b2n (s.engCount != 0))]

/-- Qn_CFG (R335). -/
def showQCfg (n : Nat) (s : State) : State :=
  let (d, w, waits, fabric, lanes) := qSpec n
  s.wsets [(WR.Q_CFG_DOMAIN n, b2n fabric), (WR.Q_CFG_WAITS n, b2n waits), (WR.Q_CFG_CHECK n, b2n lanes),
    (WR.Q_CFG_WIDTH n, w), (WR.Q_CFG_DEPTH n, d)]

/-- The copies of the image as ADM_STATUS reports them (R425). -/
def showCopies (s : State) : State :=
  let y := s.yardCopy
  let n := if s.sys.norKnown then s.norCopy else []
  s.wsets [(WR.ADM_STATUS_YARD_VALID, b2n (imgValid y)), (WR.ADM_STATUS_NOR_VALID, b2n (imgValid n)),
    (WR.ADM_STATUS_HALF, b2n (imgHalf y || imgHalf n))]

/-- SCH_Cn_STATE (R495) and SCH_Cn_DEPTH. -/
def showCore (n : Nat) (s : State) : State :=
  let c := s.schCore n
  let st := if c.run.isSome then if c.preempt && c.res.isSome then 3 else 2 else if c.res.isSome then 1 else 0
  s.wsets [(WR.SCH_C_STATE_TASK n, (c.run.map (·.task)).getD 0), (WR.SCH_C_STATE_PRIO n, (c.run.map (·.prio)).getD 0),
    (WR.SCH_C_STATE_HALTED n, b2n (s.core n).halted), (WR.SCH_C_STATE_STATE n, st),
    (WR.SCH_C_DEPTH_DEPTH n, min 65535 (s.depth n))]

/-- SCH_T_STAT of a task. -/
def showTask (t : Nat) (s : State) : State :=
  let busy := (s.onCores.filter fun i => i.task == t).length + (s.waiting.filter fun i => i.task == t && i.resume).length
  s.wsets [(WR.SCH_T_STAT_QUEUED t, min 65535 (s.waiting.filter fun i => i.task == t).length),
    (WR.SCH_T_STAT_RUNNING t, min 7 busy), (WR.SCH_T_STAT_FLAG_ITEM t, b2n (s.hasFlagItem t))]

/-- The Meridian time in MER_TIME. -/
def showTime (s : State) : State :=
  let t := s.timeNow
  s.wsets [(WR.MER_TIME_SEC_LO_SEC_LO, timeSec t), (WR.MER_TIME_SEC_HI_SEC_HI, timeSec t / 2 ^ 32),
    (WR.MER_TIME_NS_NS, timeNs t), (WR.MER_TIME_FRAC_FRAC, t % 65536)]

/-- The stamp of PPS_IN in MER_PPS_IN. -/
def showPps (s : State) : State :=
  let t := s.mer.pps
  s.wsets [(WR.MER_PPS_IN_SEC_LO_SEC_LO, timeSec t), (WR.MER_PPS_IN_NS_NS, timeNs t), (WR.MER_PPS_IN_FRAC_FRAC, t % 65536)]

/-- The rate term in MER_RATE (R73). -/
def showRate (s : State) : State :=
  let r := unsigned 48 s.mer.rateT
  s.wsets [(WR.MER_RATE_LO_RATE, r), (WR.MER_RATE_HI_RATE, r / 2 ^ 32)]

/-- The pin level of an interlock (R618): low while it conducts; else what the equipment makes it, a value
the spec leaves open. -/
def showLine (k : Nat) (s : State) : State :=
  if s.won (WR.ENV_IL_STATUS_ON k) && !s.won (WR.ENV_IL_STATUS_SHORT k) then s.wset (WR.ENV_IL_STATUS_LINE k) 0
  else
    let (v, s) := s.fresh 1
    s.wset (WR.ENV_IL_STATUS_LINE k) v

/-- DBG_STATUS. -/
def showDbg (s : State) : State :=
  s.wsets [(WR.DBG_STATUS_HALTED, ((List.range 4).filter fun n => (s.core n).halted).foldl (fun m n => m + 2 ^ n) 0),
    (WR.DBG_STATUS_DMACTIVE, b2n s.dbg.active)]

/-- The fields of a register that follow the machine take their present values, and a read that acts on the
register's unit does so: the removal of an entry, a claim, an advance (R519). -/
def refresh (a err : Nat) (s : State) : State :=
  if a = WR.SYS_CAP then s.showCap
  else if a = WR.ADM_STATUS then s.showCopies
  else if a = WR.MEM_STATUS then s.wset WR.MEM_STATUS_GROOM_BUSY (b2n s.groomRuns)
  else if a = WR.MEM_LOG_INFO then s.showLog
  else if a = WR.MEM_FAR_DATA then s.showFar
  else if a = WR.SCH_STATUS then
    s.wset WR.SCH_STATUS_SPILLED (min 65535 ((s.sch.spill.map (·.length)).foldl (· + ·) 0))
  else if a = WR.SCH_MTIME_LO then
    s.wsets [(WR.SCH_MTIME_LO_MTIME, s.mtime), (WR.SCH_MTIME_HI_MTIME, s.mtime / 2 ^ 32)]
  else if a = WR.MER_TIME_SEC_LO then s.showTime
  else if a = WR.MER_PPS_IN_SEC_LO then s.showPps
  else if a = WR.MER_RATE_LO ∨ a = WR.MER_RATE_HI then s.showRate
  else if a = WR.MER_TXTS_ID then s.txRead
  else if a = WR.MUS_VIEW_DATA_LO then s.viewRead
  else if a = WR.UART_RX ∨ a = WR.UART_STATUS then s.showUart
  else if a = WR.DBG_STATUS then s.showDbg
  else match instAt 0x40008000 0x40 16 0x18 a with
    | some n => if n = 10 then s.readQData 10 err else s
    | none => match instAt 0x40008000 0x40 16 0x30 a with
      | some n => s.showQCfg n
      | none => match instAt 0x40030100 0x20 48 4 a with
        | some l => s.wset (WR.ING_LANE_STATUS_REACH l) (b2n (s.reach l))
        | none => match instAt 0x40039000 0x10 48 8 a with
          | some p => s.wset (WR.WALK_STATUS_ACTIVE p) (b2n (s.won (WR.WALK_CTRL_EN p) && s.inBuild p))
          | none => match instOf 0x40090100 0x40 4 a with
            | some (n, o) => if o = 4 then s.claim n else if o = 0x10 ∨ o = 0x14 then s.showCore n else s
            | none => match instAt 0x40094000 0x10 1024 0xC a with
              | some t => s.showTask t
              | none => match instAt 0x40090040 4 16 0 a with
                | some l => s.wsets [(WR.SCH_LVL_SPILLED l, min 65535 (s.sch.spill.getD l []).length),
                    (WR.SCH_LVL_ON_CHIP l, (s.sch.chip.getD l []).length)]
                | none => match instAt 0x400D0400 0x10 4 8 a with
                  | some k => s.showLine k
                  | none => s

/-! ### Companion registers (R519) -/

/-- The registers that a read at an address latches and that hold what was latched. -/
def latchedBy (a : Nat) : List Nat :=
  if a = WR.MER_TIME_SEC_LO then [WR.MER_TIME_SEC_HI, WR.MER_TIME_NS, WR.MER_TIME_FRAC]
  else if a = WR.MER_PPS_IN_SEC_LO then [WR.MER_PPS_IN_NS, WR.MER_PPS_IN_FRAC]
  else if a = WR.SYS_SERIAL_LO ∨ a = WR.MUS_SEQ_NEXT_LO ∨ a = WR.CMP_IN_LO ∨ a = WR.CMP_OUT_LO ∨ a = WR.CMP_REL_LO
      ∨ a = WR.ETH_ORIGIN_LO ∨ a = WR.ETH_NEXT_LO ∨ a = WR.SCH_MTIME_LO ∨ a = WR.PAIR_DIV_FIRST_LO
      ∨ a = WR.PAIR_DIV_LAST_LO ∨ a = WR.PAIR_JOIN_SEQ_LO then [a + 4]
  else if (instAt 0x40038000 0x20 48 0x10 a).isSome || (instAt 0x40050100 0x20 16 0xC a).isSome then [a + 4]
  else []

/-- The register is one that holds what was latched. -/
def isLatched (a : Nat) : Bool :=
  (latchedBy (a - 4)).contains a || a == WR.MER_TIME_NS || a == WR.MER_TIME_FRAC || a == WR.MER_PPS_IN_FRAC

/-- The companions that a read's own action fills (R97, R332, R357, R467, R484). -/
def companions (a : Nat) : List Nat :=
  if a = WR.MEM_LOG_INFO then [WR.MEM_LOG_ADDR, WR.MEM_LOG_TIME_LO, WR.MEM_LOG_TIME_HI]
  else if a = WR.MER_TXTS_ID then [WR.MER_TXTS_SEC_LO, WR.MER_TXTS_SEC_HI, WR.MER_TXTS_NS, WR.MER_TXTS_FRAC]
  else if a = WR.MUS_VIEW_DATA_LO then [WR.MUS_VIEW_DATA_HI, WR.MUS_VIEW_TAG]
  else match instAt 0x40090100 0x40 4 4 a with
    | some n => [WR.SCH_C_ARG n]
    | none => []

/-- The fields of a register take the values they have in another state. -/
def copyReg (t : State) (s : State) (a : Nat) : State :=
  match regAt WR.rows a with
  | some fs => fs.foldl (fun s f => s.wset f (t.wget f)) s
  | none => s

/-- The word of a register as its fields stand; the upper copies of bit 47 of R67 and R73. -/
def regWord (a : Nat) (s : State) : Nat :=
  match regAt WR.rows a with
  | some fs =>
    let w := s.wr.word fs
    if (a = WR.MER_RATE_HI ∨ (instAt 0x40038000 0x20 48 0x14 a).isSome) ∧ bit 15 w then w + 0xFFFF0000 else w
  | none => 0

/-- The window of the trace and spill areas (R498): the trace entry's words, upper half first; where a
spilled item lies in its area the spec does not say (log entry 2). -/
def windowWord (a : Nat) (s : State) : Nat × State :=
  if s.wget WR.SCH_WIN_PAGE_AREA = 1 then
    let o := s.wget WR.SCH_WIN_PAGE_PAGE * 32768 + (a - 0x40098000)
    let e := SMap.getD (0, 0) (o / 16) s.sch.trace
    let w := if o % 16 < 8 then e.1 else e.2
    (if o % 8 = 0 then w % 2 ^ 32 else w / 2 ^ 32, s)
  else s.fresh 32

/-- The register exists for this variant and is meaningful (R8, R67, R146). -/
def regHere (a : Nat) (s : State) : Bool :=
  !absentReg s.variant a &&
    (match instOf 0x40038000 0x20 48 a with
      | some (p, _) => s.portHere p
      | none => match instOf 0x40039000 0x10 48 a with
        | some (p, _) => s.portHere p
        | none => true)

/-! ### Reads -/

/-- An agent reads the register at a normal address: the word, and the state with every side effect (R8, R17,
R519, R659). `err` says how the word of queue 10 or of the window was read. -/
def regRead (agent a err : Nat) (s : State) : Nat × State :=
  if !s.regHere a then (0, s)
  else if 0x40098000 ≤ a ∧ a < 0x400A0000 then s.windowWord a
  else match instAt 0x400A0000 0x40 16 0x28 a with
    | some m => s.lockRead agent m
    | none =>
      let s := s.refresh a err
      let v :=
        if isLatched a then SMap.getD 0 a s.held
        else match instOf 0x40060100 4 64 a with
          | some (m, _) =>
            if s.won WR.ETH_CFG_TAB_VIEW then
              ofLe ((List.range 4).map fun j => s.eth.tab.getD (4 * m + j) 0)
            else s.regWord a
          | none => s.regWord a
      let s := { s with held := (latchedBy a).foldl (fun h c => SMap.insert c (s.regWord c) h) s.held }
      let s := match regAt WR.rows a with
        | some fs => { s with wr := s.wr.clearRC fs }
        | none => s
      if a = WR.UART_RX then (v, s.uartRead)
      else if a = WR.MEM_LOG_INFO then (v, s.readLog)
      else (v, s)

/-- An agent reads the register through the quiet alias of a normal address: the same word, no side effect but
the latches (R357, R519). -/
def regQuiet (agent a : Nat) (s : State) : Nat × State :=
  match instAt 0x40008000 0x40 16 0x18 a with
  | some n =>
    if s.regHere a then
      let s := s.peekQData n
      (if 10 ≤ n then s.regWord a else 0, s)
    else (0, s)
  | none =>
    let (v, t) := s.regRead agent a 0
    let s := { s with held := t.held, freeCnt := t.freeCnt }
    (v, (companions a).foldl (copyReg t) s)

/-! ### Writes -/

/-- A write in the SYS block. -/
def writeSys (agent a v : Nat) (s : State) : State :=
  if a = WR.SYS_RESET then s.writeReset agent v
  else if a = WR.SYS_FATAL then if bit 31 v then s.fatalEnter agent (bits 15 0 v) else s
  else if a = WR.SYS_WDOG then s.writeWdog agent v
  else match instOf 0x40008000 0x40 16 a with
    | some (n, o) =>
      if o = 0 then s.writeQCtrl n v
      else if o = 0x24 ∨ o = 0x28 then if n = 14 then s.wstore a v else s
      else if o = 0x2C then stateOf s (execQWtagWrite n v s)
      else s.wstore a v
    | none => match instOf 0x4000C000 0x20 16 a with
      | some (c, o) => if o = 0xC then s.writeDmaCtrl c v else s.wstore a v
      | none => s.wstore a v

/-- A write in the MER block. -/
def writeMer (a v : Nat) (s : State) : State :=
  if a = WR.MER_CTRL then s.writeMerCtrl v
  else if a = WR.MER_DATUM_CFG then s.writeDatumCfg v
  else if a = WR.MER_RATE_LO then s.modMer fun g => { g with rateLo := v % 2 ^ 32 }
  else if a = WR.MER_RATE_HI then s.writeRateHi (v % 65536)
  else if a = WR.MER_ADJ then s.writeAdj v
  else if a = WR.MER_STEP_NS then s.writeStepNs v
  else if a = WR.MER_PTP_PARENT_PORT then s.commitParent v
  else match instOf 0x40020100 0x20 8 a with
    | some (n, o) => if o = 0 then s.writeAlmCtrl n v else if o ≤ 0x14 then s.writeAlmParam n a v else s
    | none => s.wstore a v

/-- A write in the ING block. -/
def writeIng (a v : Nat) (s : State) : State :=
  match instOf 0x40030100 0x20 48 a with
  | some (l, o) =>
    if o = 0 then
      let s := s.writeLaneEn l (bit 0 v)
      if bit 1 v then stateOf s (execIngLaneClear l s) else s
    else s.wstore a v
  | none => match instOf 0x40031000 0x20 48 a with
    | some (p, o) =>
      if o = 0 then
        let s := if bit 0 v then stateOf s (execPortDetachWrite p s) else s
        if bit 1 v then stateOf s (execPortAttachWrite p s) else s
      else s.wstore a v
    | none => match instOf 0x40038000 0x20 48 a with
      | some (p, o) =>
        if o = 0 then s.writeTriCtrl p v
        else if o = 4 then s.writeTriParam p (WR.TRI_ALPHA_ALPHA p) v
        else if o = 8 then s.writeTriParam p (WR.TRI_KDOWN_K p) v
        else if o = 0xC then s.writeTriParam p (WR.TRI_KUP_K p) v
        else s.wstore a v
      | none => s.wstore a v

/-- A write in the MUS block. -/
def writeMus (a v : Nat) (s : State) : State :=
  if a = WR.MUS_VIEW_SLOT_LO then stateOf s (execMusViewSelWrite true v s)
  else if a = WR.MUS_VIEW_SEL then stateOf s (execMusViewSelWrite false v s)
  else s.wstore a v

/-- A write in the CMP block. -/
def writeCmp (a v : Nat) (s : State) : State :=
  match instOf 0x40050100 0x20 16 a with
  | some (e, o) =>
    if o = 0 then
      let s := s.writeEngEn e (bit 0 v)
      if bit 1 v then stateOf s (execCmpReenable e s) else s
    else s.wstore a v
  | none => s.wstore a v

/-- A write in the ETH block. -/
def writeEth (a v : Nat) (s : State) : State :=
  if a = WR.ETH_STEER_CMD then s.steerCmd (bits 31 30 v) (bits WR.ETH_STEER_CMD_PORT.hi WR.ETH_STEER_CMD_PORT.lo v)
  else match instOf 0x40060800 0x80 8 a with
    | some (k, o) => if o = 0 then (s.wstore a v).epMode k else s.wstore a v
    | none => s.wstore a v

/-- A write in the SCH block (R473, R475–R480, R485, R486, R491, R496). -/
def writeSch (agent a v : Nat) (s : State) : State :=
  if a = WR.SCH_SETFLAG then s.setFlag (bits 24 15 v) (bits 29 25 v)
  else if a = WR.SCH_POST_HI then s.post (bits 24 15 v) (bits 13 12 v) (bits 11 0 v) (s.wget WR.SCH_POST_LO_ARG)
  else if a = WR.SCH_MSIP then s.writeMsip v
  else if a = WR.SCH_TRACE_MARK then stateOf s (execSchTraceMarkWrite agent v s)
  else match instOf 0x40090100 0x40 4 a with
    | some (n, o) =>
      if o = 0 then s.writeCoreCtrl n v
      else if o = 0xC then if bit 0 v then s.endItem n else s
      else if o = 0x24 ∨ o = 0x28 then (s.wstore a v).timerCheck n
      else s.wstore a v
    | none => match instOf 0x40090800 0x10 64 a with
      | some (k, o) => if o = 0 then s.writePeriodic k v else s.wstore a v
      | none => match instOf 0x40094000 0x10 1024 a with
        | some (t, o) =>
          if o = 0 then s.writeTaskCfg t v
          else if o = 4 then (s.wstore a v).evalTask t 0
          else s.wstore a v
        | none => s.wstore a v

/-- A write in the MBX block (R505–R512, R517). -/
def writeMbxBlock (agent a v : Nat) (s : State) : State :=
  match instOf 0x400A0000 0x40 16 a with
  | some (m, o) =>
    if o < 0x20 then s.mbxData agent m (o / 4) v
    else if o = 0x24 then s.writeMbxCtrl agent m v
    else if o = 0x28 then s.lockWrite agent m v
    else if o = 0x2C then s.writeLkcfg agent m v
    else s.wstore a v
  | none => match instOf 0x400A0400 0x10 16 a with
    | some (n, o) => if o < 0xC then stateOf s (execFenceWrite agent n (o / 4) v s) else s
    | none => s.wstore a v

/-- A write in the PAIR block. -/
def writePairBlock (a v : Nat) (s : State) : State :=
  if a = WR.PAIR_CFG then
    if s.isOpen then
      let was := s.won WR.PAIR_CFG_EN
      let s := (s.wstore a v).wset WR.PAIR_CFG_EN (b2n was)
      s.writePairEn (bit 0 v)
    else s
  else if a = WR.PAIR_CTRL then s.writePairCtrl v
  else if a = WR.PAIR_CLAIM then s.writeClaim v
  else if a = WR.PAIR_STATUS then (s.wstore a v).emcyEnd
  else s.wstore a v

/-- A write in the CAN block; NODE_ID and bit times take effect later (R572). -/
def writeCanBlock (a v : Nat) (s : State) : State :=
  if a = WR.CAN_STATUS then (s.wstore a v).emcyEnd else s.wstore a v

/-- A write in the ENV block (R600–R619). -/
def writeEnvBlock (agent a v : Nat) (s : State) : State :=
  if a = WR.ENV_CTRL then s.writeEnvCtrl v
  else if a = WR.ENV_REF then s.envRefWrite (bit 0 v)
  else if a = WR.ENV_KICK then s.envKick agent v
  else match instOf 0x400D0100 0x20 16 a with
    | some (n, o) =>
      if o = 0 then s.writeEnvCfg n v
      else if o = 4 then if bit 0 v then s.envRetry n else s
      else (s.wstore a v).envShow
    | none => match instOf 0x400D0400 0x10 4 a with
      | some (k, o) => if o = 0 then s.ilWrite agent k v else (s.wstore a v).envShow
      | none => s.wstore a v

/-- A write in the DBG/UART block (R531, R532, R536). -/
def writeDbgBlock (a v : Nat) (s : State) : State :=
  if a = WR.UART_TX then s.uartWrite (v % 256)
  else if a = WR.UART_CTRL then (s.wstore a v).uartStart
  else if a = WR.DBG_LOFT then if bit 29 v then s.loftRelease else s
  else s.wstore a v

/-- A write of ADM_CTRL or another register of the ADM block. -/
def writeAdmBlock (a v : Nat) (s : State) : State :=
  if a = WR.ADM_CTRL then s.writeAdmCtrl v else s.wstore a v

/-- A write in the MEM block. -/
def writeMemBlock (a v : Nat) (s : State) : State :=
  if a = WR.MEM_FAR_DATA then s.writeFar v else s.wstore a v

/-- An agent writes the register at a normal address (R9, R17, R659). -/
def regWrite (agent a v : Nat) (s : State) : State :=
  if !s.regHere a then s
  else match (a - 0x40000000) / 65536 with
    | 0 => s.writeSys agent a v
    | 2 => s.writeMer a v
    | 3 => s.writeIng a v
    | 4 => s.writeMus a v
    | 5 => s.writeCmp a v
    | 6 => s.writeEth a v
    | 7 => s.writeAdmBlock a v
    | 8 => s.writeMemBlock a v
    | 9 => s.writeSch agent a v
    | 10 => s.writeMbxBlock agent a v
    | 11 => s.writePairBlock a v
    | 12 => s.writeCanBlock a v
    | 13 => s.writeEnvBlock agent a v
    | 14 => s.writeDbgBlock a v
    | _ => s.wstore a v

/-! ### An agent's access to a register block (R514, R520, R658, R659) -/

/-- A core's fault: it traps with a cause and the address; the debug agent's sets sberror. -/
def busFault (agent cause sb a : Nat) (s : State) : State :=
  if 1 ≤ agent ∧ agent ≤ 4 then s.trap (agent - 1) cause a
  else if agent = 9 then { s with dbg := { s.dbg with sberror := if s.dbg.sberror = 0 then sb else s.dbg.sberror } }
  else s

/-- The PMP of a core lets it load or store at an address (R514). -/
def pmpData (agent a n : Nat) (w : Bool) (s : State) : Bool :=
  if 1 ≤ agent ∧ agent ≤ 4 then (s.core (agent - 1)).pmpOk a n false (!w) w (s.core (agent - 1)).dataUser else true

/-- What a load answers: the value, or its fault. -/
def answer (agent a v : Nat) (fault : Option Nat) (s : State) : State := s.emit (.load agent a v fault)

/-- A fault of a load: the answer, and what it does to the agent. -/
def loadFault (agent a v sb : Nat) (s : State) : State :=
  (s.busFault agent 5 sb a).answer agent a v (some (if agent = 9 then sb else 5))

/-- A fault of a store. -/
def storeFault (agent a sb : Nat) (s : State) : State :=
  (s.busFault agent 7 sb a).emit (.storeFault agent a (if agent = 9 then sb else 7))

/-- An agent reads a register, at its normal address or through the quiet alias: the value, and the code of its
fault as sberror has it. -/
def busRead (agent a err : Nat) (s : State) : (Nat × Option Nat) × State :=
  if !s.pmpData agent a 4 false then ((0, some 2), s)
  else
    let q := decide (0x48000000 ≤ a)
    let n := if q then a - 0x08000000 else a
    let (v, s) := if q then s.regQuiet agent n else s.regRead agent n err
    if err = 2 ∧ 0x40098000 ≤ n ∧ n < 0x400A0000 then ((v, some 7), s.unitStand 4 (memSource agent))
    else ((v, none), s)

/-- A load ends: with its value, or with its fault. -/
def endLoad (agent a : Nat) (r : (Nat × Option Nat) × State) : State :=
  match r.1.2 with
  | none => r.2.answer agent a r.1.1 none
  | some sb => r.2.loadFault agent a r.1.1 sb

/-- An agent writes a register at its normal address. -/
def busWrite (agent a v : Nat) (s : State) : State :=
  if s.pmpData agent a 4 true then s.regWrite agent a v else s.storeFault agent a 2

end State

/-- REGISTER_READ (R17, R519, R659): an agent reads the register at `addr`; `err` is how the word of queue
10 or of the scheduler's window was read: 0 clean, 1 corrected, 2 uncorrectable. -/
def execRegisterRead (agent addr err : Nat) (s : State) : Res :=
  .next <| State.endLoad agent addr (s.busRead agent addr err)

/-- REGISTER_WRITE (R9, R17, R659). -/
def execRegisterWrite (agent addr value : Nat) (s : State) : Res := .next <| s.busWrite agent addr value

/-- QUIET_ALIAS_WRITE (R520): ignored, and a fault for its agent. -/
def execQuietAliasWrite (agent addr : Nat) (s : State) : Res := .next <| s.storeFault agent addr 2

end Sys2Proof.Machine
end

