-- ==== Sys2Proof/Machine/WnChecks.lean ====
section
/-! DEFINITION. The end of the admission checks (spec/13 R422–R431; spec/15 R486, R491). -/

namespace Sys2Proof.Machine

open Sys2Proof

namespace State

/-- What the checks judge: the image, with the registers as its WREG entries will leave them. -/
def admOf (r : ImgRead) (s : State) : Adm :=
  ⟨r, r.wreg.foldl (fun m w => match regAt WR.rows w.2.1 with
      | some fs => m.write true fs w.2.2
      | none => m) s.wr, s.variant, s.lanesCount, s.epCount, s.engCount⟩

/-- Entry `i` of the TASK section fills slot `i` and its task's core, priority and ceiling (R423, R491). -/
def fillSlot (s : State) (x : Nat × ImgTask) : State :=
  let t := x.2
  s.wsets [(WR.SCH_PER_CFG_TASK x.1, t.task), (WR.SCH_PER_T_T x.1, t.t), (WR.SCH_PER_D_D x.1, t.d),
    (WR.SCH_T_CFG_CORES t.task, 2 ^ (t.core - 1)), (WR.SCH_T_CFG_PRIO t.task, t.prio),
    (WR.SCH_T_CFG_CEIL t.task, t.ceil)]

/-- The image is applied (R428): its WREG entries in order, its tasks, B_c of each core, its partitions. -/
def applyImage (r : ImgRead) (s : State) : State :=
  let i := r.image
  let s := r.wreg.foldl (fun s w => s.regWrite 0 w.2.1 w.2.2) s
  let s := { s with image := some i }
  let s := (i.tasks.mapIdx fun k t => (k, t)).foldl fillSlot s
  let s := (List.range 4).foldl (fun s n => s.wset (WR.SCH_C_CTRL_BC n) (s.decl 0xC (n + 1) 20)) s
  let s := (s.modSys fun y => { y with raw := r.bytes }).modPair fun a => { a with imgDigest := r.digest }
  s.wsets [(WR.ADM_IMG_GEN_GEN, i.gen), (WR.ADM_IMG_LEN_LEN, i.len), (WR.ADM_IMG_CRC_CRC, i.crc)]

/-- A failed check is reported (R431); where the table names no SUB, it is a value the spec leaves open. -/
def refuseImage (x : Refused) (s : State) : State :=
  let (sub, s) := match x.sub with
    | some v => (v, s)
    | none => s.fresh 4
  (s.wsets [(WR.ADM_REFUSE_CLASS, x.cls), (WR.ADM_DETAIL_INDEX, x.index), (WR.ADM_DETAIL_SUB, sub),
    (WR.ADM_DETAIL_VALUE, min 65535 x.value), (WR.ADM_STATUS_REFUSED, 1), (WR.ADM_STATUS_ADMITTED, 0)]).emcy 0xFF03

/-- The checks complete on the Yard copy (R426, R428, R431). -/
def checksDone (s : State) : State :=
  if s.sys.busy ≠ 2 then s
  else
    let src := s.sys.src
    let s := (s.modSys fun y => { y with busy := 0 }).wset WR.ADM_STATUS_CHECKING 0
    if s.ws ≠ 2 then s
    else
      let r := readImage s.yardCopy
      match (s.admOf r).check with
      | some x => s.refuseImage x
      | none =>
        let s := (s.applyImage r).wsets [(WR.ADM_STATUS_ADMITTED, 1), (WR.ADM_STATUS_REFUSED, 0),
          (WR.ADM_STATUS_IMG_SRC, src)]
        s.setWs 3

end State

/-- ADMISSION_CHECKS_DONE (R426, R428, R431). -/
def execAdmissionChecksDone (s : State) : Res := .next s.checksDone

end Sys2Proof.Machine
end

