-- ==== Sys2Proof/Machine/WnObj.lean ====
section
/-! DEFINITION. The object dictionary: its objects, the checks of an access in their order, and what an access
does (spec/18 R585–R596; spec/00 R7, R8, R10, R18; spec/03 R109; spec/17 R568; spec/19 R621; spec/20 R650,
R655, R656; spec/16 R515, R516, R523; spec/08 R291). -/

namespace Sys2Proof.Machine

open Sys2Proof

/-- What stands behind an object: a number; fields of registers, lowest first (`wide`: the signed bits where
the object extends a narrower field); a whole register; the `k`-th of several values sampled together under a
key; a value the agent itself keeps; a command bit; a Tladon register; a domain; and the rest by name. -/
inductive Body where
  | const (v : Nat)
  | fields (l : List Fld) (wide : Nat)
  | reg (a : Nat)
  | sampled (key k : Nat) (l : List (Nat × Nat × Nat))
  | kept (dflt : Nat)
  | cmd (f : Fld)
  | warm
  | errors
  | lanes (lo n : Nat)
  | regData
  | regQuiet
  | tladon (port addr op : Nat)
  | domain (base off : Nat)
  deriving DecidableEq, Repr

/-- An object: its size in bytes (0 for a DOMAIN), whether it may be read and written, whether only in HELD and
ADMITTED, and the privilege that reading and writing need: 0 observer, 1 operator, 2 expert, 3 arbiter. -/
structure Obj where
  size : Nat
  rd : Bool
  wr : Bool
  rwa : Bool
  rp : Nat
  wp : Nat
  body : Body
  deriving DecidableEq, Repr

/-- What an access answers: data, an abort code, or nothing yet. -/
inductive Ans where
  | ok (data : List Nat)
  | abort (code : Nat)
  | later
  deriving DecidableEq, Repr

namespace Obj

/-- Objects by access; the privileges are those of R586 where the table states none. -/
def ro (size : Nat) (b : Body) : Obj := ⟨size, true, false, false, 0, 2, b⟩
def rw (size : Nat) (b : Body) : Obj := ⟨size, true, true, false, 0, 2, b⟩
def rwaObj (size : Nat) (b : Body) : Obj := ⟨size, true, true, true, 0, 2, b⟩
def wo (size : Nat) (b : Body) : Obj := ⟨size, false, true, false, 0, 2, b⟩

/-- The privilege an object's table states. -/
def priv (p : Nat) (o : Obj) : Obj := { o with rp := p, wp := p }

/-- A register by the access codes of its fields (R590). -/
def ofReg (a : Nat) : Obj :=
  let fs := (regAt WR.rows a).getD []
  let has (c : Acc) : Bool := fs.any fun f => f.acc == c
  let plain := has .rw || has .w1c || has .wo
  ⟨4, fs.any fun f => f.acc != .wo, plain || has .rwa, has .rwa && !plain, 0, 2, .reg a⟩

end Obj

/-- A value of `n` bytes as its fields are cut: (address, hi, lo) of a field or of a whole register. -/
def whole (a : Nat) : Nat × Nat × Nat := (a, 31, 0)

/-- Several values sampled together, at subs from `first`. -/
def sampledObjs (key first : Nat) (l : List (Nat × (Nat × Nat × Nat))) : List (Nat × Obj) :=
  l.mapIdx fun k x => (first + k, Obj.ro x.1 (.sampled key k (l.map (·.2))))

/-! ### The objects (R573, R589, R591, R592) -/

/-- The communication profile (R573, R586; CiA 1301). -/
def commObjs (index node : Nat) : Option (List (Nat × Obj)) :=
  let n := index % 16
  if index = 0x1000 then some [(0, Obj.ro 4 (.const 0))]
  else if index = 0x1001 then some [(0, Obj.ro 1 .errors)]
  else if index = 0x1005 then some [(0, Obj.rw 4 (.kept 0x80))]
  else if index = 0x1014 then some [(0, Obj.rw 4 (.kept (0x80 + node)))]
  else if index = 0x1015 then some [(0, Obj.rw 2 (.kept 0))]
  else if index = 0x1017 then some [(0, { Obj.rw 2 (.kept 100) with wp := 1 })]
  else if index = 0x1018 then
    some [(1, Obj.ro 4 (.const 0)), (2, Obj.ro 4 (.const 0)), (3, Obj.ro 4 (.const 0)), (4, Obj.ro 4 (.reg WR.SYS_SERIAL_LO))]
  else if 4 ≤ n then none
  else if index / 16 = 0x140 then
    some [(1, Obj.rw 4 (.kept (0x200 + 0x100 * n + node))), (2, Obj.rw 1 (.kept 255))]
  else if index / 16 = 0x180 then
    some [(1, Obj.rw 4 (.kept (0x180 + 0x100 * n + node))), (2, Obj.rw 1 (.kept 255)), (3, Obj.rw 2 (.kept 0)),
      (5, Obj.rw 2 (.kept 0))]
  else if index / 16 = 0x160 ∨ index / 16 = 0x1A0 then
    some ((0, Obj.rw 1 (.kept 0)) :: (List.range 64).map fun k => (k + 1, Obj.rw 4 (.kept 0)))
  else none

/-- Identity, registers and field network (R7, R591). -/
def idObjs (index : Nat) : Option (List (Nat × Obj)) :=
  if index = 0x2000 then
    some [(1, Obj.ro 8 (.fields [WR.SYS_SERIAL_LO_SERIAL, WR.SYS_SERIAL_HI_SERIAL] 0)), (2, Obj.ro 4 (.reg WR.DICT_FWID))]
  else if index = 0x2001 then
    some [(1, Obj.ro 4 (.reg WR.SYS_CAP)), (2, Obj.ro 4 (.lanes 0 32)), (3, Obj.ro 4 (.lanes 32 16))]
  else if index = 0x2002 then some [(1, Obj.ro 1 (.fields [WR.SYS_STATE_STATE] 0))]
  else if index = 0x2003 then
    some [(1, (Obj.rw 4 (.kept 0)).priv 1), (2, { Obj.rw 4 .regData with rp := 1 }), (3, Obj.ro 4 .regQuiet)]
  else if 0x2010 ≤ index ∧ index < 0x2020 then
    let n := index - 0x2010
    some ((1, Obj.ofReg (WR.CAN_CLI_CTRL n)) :: (List.range 4).map fun j => (j + 2, Obj.ofReg (WR.CAN_CLI_ADDR n j)))
  else if index = 0x2020 then
    some (sampledObjs 0x2020 1 [(4, whole WR.CAN_STATUS), (4, whole WR.CAN_ERR), (4, whole WR.DICT_LAST)])
  else if index = 0x2021 then
    some [(1, Obj.ofReg WR.CAN_NBT), (2, Obj.ofReg WR.CAN_DBT), (3, Obj.ofReg WR.CAN_TDC),
      (4, Obj.rw 1 (.fields [WR.CAN_CFG_NODE_ID] 0))]
  else if index = 0x2022 then
    some [(1, Obj.rwaObj 1 (.fields [WR.DICT_OPT_NMT_RESET_APP] 0)), (2, Obj.rw 1 (.fields [WR.DICT_OPT_INBAND_EN] 0))]
  else if index = 0x2023 then some ((List.range 4).map fun k => (k + 1, Obj.rw 2 (.kept 0xFFFF)))
  else none

/-- Time (R109). -/
def timeObjs (index : Nat) : Option (List (Nat × Obj)) :=
  if index = 0x2100 then some [(1, Obj.ro 1 (.fields [WR.MER_STATUS_STATE] 0)), (2, Obj.ro 4 (.reg WR.MER_STATUS))]
  else if index = 0x2101 then
    some [(1, Obj.ro 8 (.fields [WR.MER_TIME_SEC_LO_SEC_LO, WR.MER_TIME_SEC_HI_SEC_HI] 0)),
      (2, Obj.ro 4 (.fields [WR.MER_TIME_NS_NS] 0)), (3, Obj.ro 2 (.fields [WR.MER_TIME_FRAC_FRAC] 0))]
  else if index = 0x2102 then
    some [(1, Obj.rwaObj 1 (.fields [WR.MER_CTRL_SRC] 0)), (2, Obj.rwaObj 1 (.fields [WR.MER_DATUM_CFG_DATUM_SRC] 0)),
      (3, Obj.rwaObj 4 (.fields [WR.MER_DATUM_CFG_FREQ] 0))]
  else if index = 0x2103 then
    some [(1, Obj.rw 1 (.fields [WR.MER_PTP_CTRL_PORT] 0)), (2, Obj.rw 1 (.fields [WR.MER_PTP_CTRL_TRANSPORT] 0)),
      (3, Obj.rw 1 (.fields [WR.MER_PTP_CTRL_DOMAIN] 0)), (4, Obj.rw 1 (.fields [WR.MER_PTP_CTRL_ONE_STEP_DREQ] 0)),
      (5, Obj.rw 1 (.fields [WR.MER_PTP_CTRL_LOG_SYNC] 4))]
  else if index = 0x2104 then
    some [(1, Obj.wo 8 (.fields [WR.MER_STEP_SEC_LO_SEC_LO, WR.MER_STEP_SEC_HI_SEC_HI] 48)),
      (2, Obj.wo 4 (.reg WR.MER_STEP_NS)), (3, Obj.wo 1 (.cmd WR.MER_CTRL_STEP))]
  else if index = 0x2105 then
    some [(1, Obj.rw 1 (.fields [WR.MER_PPS_CTRL_OUT_EN] 0)), (2, Obj.rw 4 (.reg WR.MER_PPS_OUT_DELAY))]
  else if 0x2108 ≤ index ∧ index < 0x2110 then
    let n := index - 0x2108
    some [(1, Obj.rw 1 (.fields [WR.MER_ALM_CTRL_KIND n] 0)), (2, Obj.rw 4 (.reg (WR.MER_ALM_SEC n))),
      (3, Obj.rw 4 (.fields [WR.MER_ALM_NS_NS n] 0)), (4, Obj.rw 4 (.reg (WR.MER_ALM_PERIOD_NS n))),
      (5, Obj.rw 8 (.fields [WR.MER_ALM_PMASK_LO_PMASK_LO n, WR.MER_ALM_PMASK_HI_PMASK_HI n] 0)),
      (6, Obj.rw 1 (.fields [WR.MER_ALM_CTRL_EN n] 0))]
  else none

/-- Admission, images and the Loft (R594, R595). -/
def admObjs (index : Nat) : Option (List (Nat × Obj)) :=
  if index = 0x2500 then
    some ((1, Obj.ro 4 (.reg WR.ADM_STATUS)) ::
      (sampledObjs 0x2500 2 [(1, (WR.ADM_REFUSE, 7, 0)), (4, whole WR.ADM_DETAIL)] ++
        [(4, Obj.ro 4 (.reg WR.ADM_IMG_GEN)), (5, Obj.ro 4 (.reg WR.ADM_IMG_LEN)), (6, Obj.ro 4 (.reg WR.ADM_IMG_CRC))]))
  else if index = 0x2501 then
    some [(1, Obj.rw 4 (.kept 0)), (2, (Obj.rwaObj 0 (.domain 0x20F80000 524288)).priv 2)]
  else if index = 0x2502 then
    some [(1, (Obj.wo 1 (.cmd WR.ADM_CTRL_CHECK)).priv 2), (2, (Obj.wo 1 (.cmd WR.ADM_CTRL_RUN)).priv 1),
      (3, (Obj.wo 1 (.cmd WR.ADM_CTRL_STOP)).priv 1), (4, (Obj.wo 1 (.cmd WR.ADM_CTRL_STORE)).priv 2),
      (5, (Obj.wo 1 (.cmd WR.ADM_CTRL_RELOAD)).priv 2)]
  else if index = 0x2740 then
    some [(1, Obj.ro 4 (.reg WR.DBG_LOFT)), (2, (Obj.rw 4 (.kept 0)).priv 1), (3, Obj.ro 0 (.domain 0x10140000 262144)),
      (4, (Obj.wo 1 (.cmd WR.DBG_LOFT_RELEASE)).priv 2)]
  else none

/-- The pair (R568), whose arbiter objects anyone may read. -/
def pairObjs (index : Nat) : Option (List (Nat × Obj)) :=
  let arb (o : Obj) : Obj := { o with wp := 3 }
  if index = 0x2800 then some [(1, Obj.ro 1 (.fields [WR.PAIR_STATUS_STATE] 0)), (2, Obj.ro 4 (.reg WR.PAIR_STATUS))]
  else if index = 0x2801 then some [(1, arb (Obj.rw 4 (.reg WR.PAIR_CLAIM))), (2, Obj.ro 4 (.reg WR.PAIR_PCLAIM))]
  else if index = 0x2802 then
    some [(1, arb (Obj.rw 1 (.fields [WR.PAIR_CTRL_MUTE] 0))), (2, arb (Obj.wo 1 (.cmd WR.PAIR_CTRL_REJOIN))),
      (3, arb (Obj.wo 1 (.cmd WR.PAIR_CTRL_GO_ALONE)))]
  else if index = 0x2803 then
    some [(1, Obj.ro 8 (.fields [WR.PAIR_DIV_FIRST_LO_SEQ, WR.PAIR_DIV_FIRST_HI_SEQ] 0)),
      (2, Obj.ro 8 (.fields [WR.PAIR_DIV_LAST_LO_SEQ, WR.PAIR_DIV_LAST_HI_SEQ] 0)), (3, Obj.ro 4 (.reg WR.PAIR_DIG_CNT))]
  else if index = 0x2804 then
    some ([WR.PAIR_CFG_EN, WR.PAIR_CFG_SIDE, WR.PAIR_CFG_LEAD_B, WR.PAIR_CFG_DWIN, WR.PAIR_CFG_HB_US].mapIdx fun k f =>
      (k + 1, Obj.rwaObj 1 (.fields [f] 0)))
  else if index = 0x2805 then some ((List.range 48).map fun p => (p + 1, Obj.rw 4 (.reg (WR.PAIR_PORT_TRIM p))))
  else none

/-- Environment and power (R621, R655, R656). -/
def envObjs (index : Nat) : Option (List (Nat × Obj)) :=
  if index = 0x2900 then some (sampledObjs 0x2900 1 ((List.range 16).map fun n => (4, whole (WR.ENV_CH_RES n))))
  else if index = 0x2901 then
    some ((1, Obj.ro 4 (.reg WR.ENV_STATUS)) ::
      sampledObjs 0x2901 2 ((List.range 4).map fun k => (4, whole (WR.ENV_IL_STATUS k))))
  else if index = 0x2902 then some [(1, (Obj.wo 1 (.cmd WR.ENV_CTRL_GO)).priv 1)]
  else if index = 0x2A00 then some [(1, Obj.ro 4 (.reg WR.PWR_STATUS)), (2, Obj.ro 4 (.reg WR.PWR_LAST))]
  else if index = 0x2A01 then
    some (sampledObjs 0x2A01 1 ((4, whole WR.PWR_VIN) :: (List.range 4).map fun r => (4, whole (WR.PWR_RAIL r))))
  else if index = 0x2A02 then some [(1, Obj.ro 4 (.reg WR.PWR_TEMP))]
  else if index = 0x2A03 then
    some [(1, Obj.ro 1 (.fields [WR.SYS_RESET_CAUSE] 0)), (2, (Obj.wo 1 .warm).priv 2),
      (3, (Obj.rw 1 (.fields [WR.SYS_BOOT_AUTO_RUN] 0)).priv 2), (4, (Obj.rw 2 (.fields [WR.SYS_FATAL_TMO_RESET_MS] 0)).priv 2),
      (5, Obj.ro 4 (.reg WR.SYS_FATAL)), (6, Obj.ro 4 (.reg WR.SYS_BIST))]
  else none

/-- The block that a page mirrors (R589, R590). -/
def mirrorBlock (page : Nat) : Option Nat :=
  [(0x20, 0x40000000), (0x21, 0x40020000), (0x22, 0x40040000), (0x23, 0x40050000), (0x24, 0x40060000),
    (0x25, 0x40070000), (0x26, 0x40080000), (0x27, 0x40090000), (0x28, 0x400B0000), (0x29, 0x400D0000),
    (0x2A, 0x40010000)].lookup page

/-- The objects of a mirror index (R590); an address without a register reads zero, and the write of one is
checked apart. -/
def mirrorObj (index sub : Nat) : Option Obj :=
  if 128 < sub then none
  else if sub = 0 then some (Obj.ro 1 (.const 128))
  else
    let a := (mirrorBlock (index / 256)).getD 0 + 0x200 * (index % 128) + 4 * (sub - 1)
    match regAt WR.rows a with
    | some _ => some (Obj.ofReg a)
    | none => some (Obj.ro 4 (.const 0))

namespace State

/-- The window of a port (R592). `inband` gives the OFFSET of an in-band request. -/
def windowObjs (p x : Nat) (inband : Option Nat) (s : State) : Option (List (Nat × Obj)) :=
  if x = 0 then
    some [(1, Obj.ro 1 (.fields [WR.ING_PORT_STATUS_STATE p] 0)), (2, Obj.ro 4 (.reg (WR.ING_PORT_CAP p))),
      (3, Obj.ro 4 (.reg (WR.ING_LANE_SERIAL p)))]
  else if x = 1 then
    some ([WR.ING_PORT_CTRL p, WR.ING_PORT_STATUS p, WR.ING_PORT_CAP p, WR.ING_PORT_CMD p].mapIdx fun k a => (k + 1, Obj.ofReg a))
  else if x = 2 then some ((List.range 8).map fun k => (k + 1, Obj.ofReg (WR.TRI_CTRL p + 4 * k)))
  else if x = 3 then some ((List.range 3).map fun k => (k + 1, Obj.ofReg (WR.WALK_CTRL p + 4 * k)))
  else if 4 ≤ x ∧ x < 8 then
    let k := x - 4
    some ((List.range 6).map fun j =>
      let o := Obj.ofReg (WR.ING_LANE_CTRL (min 47 (p + k)) + 4 * j)
      (j + 1, if k < s.bonded p then o else { o with body := .const 0 }))
  else if x = 8 then
    some [(1, Obj.rw 4 (.kept 0)),
      (2, (Obj.rwaObj 0 (.domain (0x20000000 + s.wget (WR.WALK_ADDR_BASE p) * 65536) 65536)).priv 2)]
  else if x = 0x10 then
    let a := match inband with
      | some o => o
      | none => s.canObj (0x3010 + 0x40 * p) 1 0
    some [(1, (Obj.rw 2 (.kept 0)).priv 1), (2, (Obj.rw 4 (.tladon p a 0x02)).priv 1), (3, Obj.ro 4 (.tladon p a 0x03))]
  else if 0x20 ≤ x ∧ x < 0x38 then
    some ((List.range 128).map fun k => (k + 1, (Obj.rw 4 (.tladon p (0x200 * (x - 0x20) + 4 * k) 0x03)).priv 1))
  else none

/-- The named objects of an index. -/
def namedObjs (index : Nat) (inband : Option Nat) (s : State) : Option (List (Nat × Obj)) :=
  let page := index / 256
  if page < 0x10 then none
  else if page < 0x20 then commObjs index s.can.node
  else if page = 0x20 then idObjs index
  else if page = 0x21 then timeObjs index
  else if page = 0x25 ∨ page = 0x27 then admObjs index
  else if page = 0x28 then pairObjs index
  else if page = 0x29 ∨ page = 0x2A then envObjs index
  else if 0x30 ≤ page ∧ page < 0x3C then s.windowObjs ((index - 0x3000) / 64) (index % 64) inband
  else none

/-- The unit behind an object is absent (R8, R10, R592). -/
def objAbsent (index : Nat) (o : Option Obj) (s : State) : Bool :=
  decide (0x3000 ≤ index) && decide (s.lanesCount ≤ (index - 0x3000) / 64) ||
    match o with
    | some ⟨_, _, _, _, _, _, .reg a⟩ => absentReg s.variant a
    | _ => false

/-- The object of an index and sub, or the abort code of checks 1 to 3 of R587. Sub 0 of an object of several
subs reads the highest of them (CiA 1301). -/
def findObj (index sub : Nat) (write : Bool) (inband : Option Nat) (s : State) : Except Nat Obj :=
  if (mirrorBlock (index / 256)).isSome && decide (128 ≤ index % 256) then
    match mirrorObj index sub with
    | none => .error 0x06090011
    | some o =>
      let a := (mirrorBlock (index / 256)).getD 0 + 0x200 * (index % 128) + 4 * (sub - 1)
      if sub ≠ 0 ∧ absentReg s.variant a then .error 0x06020000
      else if write && decide (sub ≠ 0) && o.body == .const 0 then .error 0x06090011
      else .ok o
  else match s.namedObjs index inband with
    | none => .error 0x06020000
    | some l =>
      let o := match l.find? fun x => x.1 == sub with
        | some x => some x.2
        | none => if sub = 0 then some (Obj.ro 1 (.const (l.foldl (fun m x => max m x.1) 0))) else none
      if s.objAbsent index o then .error 0x06020000
      else match o with
        | none => .error 0x06090011
        | some o => .ok o

/-! ### Privilege (R585) -/

/-- A client matches a table entry. -/
def clientIs (c : Client) (n : Nat) (s : State) : Bool :=
  s.won (WR.CAN_CLI_CTRL_VALID n) &&
    match c with
    | .can node => !s.won (WR.CAN_CLI_CTRL_KIND n) && s.wget (WR.CAN_CLI_CTRL_NODE_ID n) == node
    | .inband _ _ addr _ _ =>
      let j := if s.won (WR.CAN_CLI_CTRL_IPV6 n) then 4 else 1
      s.won (WR.CAN_CLI_CTRL_KIND n) &&
        addr == ((List.range j).map fun j => beBytes 4 (s.wget (WR.CAN_CLI_ADDR_ADDR n j))).flatten

/-- The privilege of a client. -/
def privOf (c : Client) (s : State) : Nat :=
  match (List.range 16).find? fun n => s.clientIs c n with
  | some n => s.wget (WR.CAN_CLI_CTRL_PRIV n)
  | none => 0

/-- Two requests come from one client (R583, R585). -/
def sameClient (a b : Client) : Bool :=
  match a, b with
  | .can m, .can n => m == n
  | .inband _ _ x u _, .inband _ _ y v _ => x == y && u == v
  | _, _ => false

/-- The owner of the image domain: ownership has ended 10 s after the last write (R595). -/
def imageOwner (s : State) : Option Client :=
  match s.can.owner with
  | some (c, t) => if t + 10 * Config.secTicks ≤ s.now then none else some c
  | none => none

/-! ### Checks 6 to 9 of R587 -/

/-- The state conditions of R428–R430 on a command of 0x2502. -/
def cmdState (sub : Nat) (s : State) : Bool :=
  if sub = 1 ∨ sub = 5 then s.ws == 2
  else if sub = 2 then s.ws == 3
  else if sub = 3 then s.isRun
  else s.ws == 3 || s.ws == 4

/-- Check 6: the abort code of the state, if it forbids the access (R587, R593, R595, R650). -/
def stateCheck (index sub : Nat) (o : Obj) (write : Bool) (s : State) : Bool :=
  if write && (o.rwa && !s.isOpen || decide (index = 0x2502) && !s.cmdState sub
      || s.ws == 6 && !(decide (index = 0x2A03 ∧ 2 ≤ sub ∧ sub ≤ 4) || decide (index = 0x2740 ∧ (sub = 2 ∨ sub = 4)))) then false
  else match o.body with
    | .tladon p _ _ =>
      let st := s.portState p
      !s.won (WR.ING_PORT_STATUS_REMOTE p) && !(write && (st == 1 || st == 2 || (st == 3 || st == 4) && s.isOpen))
    | _ => true

/-- The entry of a PDO mapping names an object that it may (R576; CiA 1301 for a TPDO). -/
def mapOk (rpdo : Bool) (v : Nat) (s : State) : Bool :=
  match s.findObj (v / 65536) (v / 256 % 256) rpdo none with
  | .error _ => false
  | .ok o => o.size != 0 && 8 * o.size == v % 256 && o.rd &&
      if rpdo then o.wr && !o.rwa && decide (o.wp ≤ 1)
      else match o.body with
        | .tladon _ _ _ => false
        | _ => true

/-- The bytes that a PDO's mapping takes, for its first `n` entries. -/
def mapLen (index n : Nat) (s : State) : Nat :=
  (List.range n).foldl (fun m k => m + s.canObj index (k + 1) 0 % 256 / 8) 0

/-- Check 9: a value in the range its object states; else the abort code. -/
def rangeCheck (index sub v : Nat) (o : Obj) (s : State) : Option Nat :=
  let bad (b : Bool) : Option Nat := if b then some 0x06090030 else none
  match o.body with
  | .cmd _ => bad (v != 1)
  | .warm => bad (v != 1)
  | .fields l w =>
    let n := l.foldl (fun n f => n + (f.hi + 1 - f.lo)) 0
    if w = 0 then bad (decide (2 ^ n ≤ v))
    else bad (decide (signed (8 * o.size) v ≠ signed w v))
  | .reg _ => bad (decide (index = 0x2104) && decide (1000000000 ≤ (signed 32 v).natAbs))
  | .tladon _ a _ => bad (decide (65536 ≤ a))
  | .kept _ =>
    let pdo := index / 16
    if index = 0x2003 then bad (v < 0x40000000 ∨ 0x400F0000 ≤ v ∨ v % 4 ≠ 0)
    else if index = 0x2023 then bad (255 < v ∧ v ≠ 0xFFFF)
    else if pdo = 0x140 ∧ sub = 2 then bad (240 < v ∧ v < 254)
    else if pdo = 0x180 ∧ sub = 2 then bad (v = 0 ∨ 240 < v ∧ v < 254)
    else if pdo = 0x160 ∨ pdo = 0x1A0 then
      if sub = 0 then if 64 < v then some 0x06090030 else if 64 < s.mapLen index v then some 0x06040042 else none
      else if s.mapOk (pdo == 0x160) v then none else some 0x06040041
    else none
  | _ => none

/-! ### Reading and writing objects -/

/-- The word of a register's writable fields with one of them replaced. -/
def withField (f : Fld) (v : Nat) (s : State) : Nat :=
  ((regAt WR.rows f.addr).getD []).foldl (fun w g =>
    if g = f then w + v % f.size * 2 ^ f.lo
    else if g.acc = .rw ∨ g.acc = .rwa then w + s.wget g * 2 ^ g.lo else w) 0

/-- The agent writes fields, lowest first, each in its register's word. -/
def writeFields : List Fld → Nat → State → State
  | [], _, s => s
  | f :: r, v, s => writeFields r (v / f.size) (s.regWrite 8 f.addr (s.withField f v))

/-- The agent reads fields through the quiet alias: their number, lowest first. -/
def readFields : List Fld → State → Nat × State
  | [], s => (0, s)
  | f :: r, s =>
    let (w, s) := s.regQuiet 8 f.addr
    let (v, s) := readFields r s
    (bits f.hi f.lo w + f.size * v, s)

/-- Values sampled together are held from the read of the first (R588). -/
def sample (key : Nat) : Nat → List (Nat × Nat × Nat) → State → State
  | _, [], s => s
  | k, (a, hi, lo) :: r, s =>
    let (w, s) := s.regQuiet 8 a
    sample key (k + 1) r { s with held := SMap.insert (key * 256 + k) (bits hi lo w) s.held }

/-- The transactions of a piece of a domain: each within one word of its memory. -/
def pieceParts : Nat → Nat → Nat → List (Nat × Nat)
  | 0, _, _ => []
  | fuel + 1, a, n =>
    if n = 0 then []
    else
      let w := if a < 0x20000000 then 4 else 16
      let k := min n (w - a % w)
      (a, k) :: pieceParts fuel (a + k) (n - k)

/-- The agent reads the words of a piece (R331, R451, R515, R516). -/
def readParts : List (Nat × Nat) → List Upset → State → Ans × State
  | [], _, s => (.ok [], s)
  | (a, n) :: r, us, s =>
    if s.inStall a || !s.fenceOk 8 false a n then (.abort 0x06010000, s.fenceRefuse 8 a)
    else
      let (bad, bs, s) := s.memRead a n 6 0 (us.headD Upset.none)
      if bad then (.abort 0x06060000, s)
      else match readParts r us.tail s with
        | (.ok l, s) => (.ok (bs ++ l), s)
        | x => x

/-- The agent writes the words of a piece; those before a refused one stand (R517). -/
def writeParts : List (Nat × Nat) → List Nat → List Upset → State → Ans × State
  | [], _, _, s => (.ok [], s)
  | (a, n) :: r, bs, us, s =>
    if s.inStall a then (.abort 0x06010000, s.fenceRefuse 8 a)
    else
      let (may, s) := s.mayWriteFenced 8 a n
      if !may then (.abort 0x06010000, s)
      else
        let (ok, s) := s.storeBytes a (bs.take n) 8 0 (us.headD Upset.none)
        if ok then writeParts r (bs.drop n) us.tail s else (.abort 0x06060000, s)

/-- What a read of an object answers. `pdo`: for a TPDO, through the quiet alias (R576). -/
def readObj (index sub : Nat) (o : Obj) (pdo : Bool) (s : State) : Ans × State :=
  let num (v : Nat) : Ans := .ok (leBytes o.size v)
  match o.body with
  | .const v => (num v, s)
  | .fields l w =>
    let (v, s) := s.readFields l
    (num (if w = 0 then v else unsigned (8 * o.size) (signed w v)), s)
  | .reg a =>
    let (v, s) := s.regQuiet 8 a
    (num v, s)
  | .sampled key k l =>
    let s := if k = 0 then s.sample key 0 l else s
    (num (SMap.getD 0 (key * 256 + k) s.held), s)
  | .kept d => (num (s.canObj index sub d), s)
  | .errors => (num s.errReg, s)
  | .lanes lo n => (num ((List.range n).foldl (fun m k => if (s.lane (lo + k)).ident.isSome then m + 2 ^ k else m) 0), s)
  | .regData =>
    let a := s.canObj 0x2003 1 0
    if a < 0x40000000 then (num 0, s)
    else
      let (v, s) := if pdo then s.regQuiet 8 a else s.regRead 8 a 0
      (num v, s)
  | .regQuiet =>
    let a := s.canObj 0x2003 1 0
    if a < 0x40000000 then (num 0, s)
    else
      let (v, s) := s.regQuiet 8 a
      (num v, s)
  | .tladon p _ _ => if s.proxyOk p then (.later, s) else (.abort 0x06060000, s)
  | .cmd _ => (num 0, s)
  | .warm => (num 0, s)
  | .domain _ _ => (.abort 0x08000024, s)

/-- What a write of an object of a size does. -/
def writeObj (index sub v : Nat) (o : Obj) (s : State) : Ans × State :=
  match o.body with
  | .fields l _ => (.ok [], s.writeFields l v)
  | .reg a => (.ok [], s.regWrite 8 a v)
  | .kept _ => (.ok [], s.modCan fun c => { c with objs := SMap.insert (index * 256 + sub) v c.objs })
  | .cmd f => (.ok [], s.regWrite 8 f.addr (s.withField f 1))
  | .warm => (.ok [], s.modCan fun c => { c with warm := true })
  | .regData =>
    let a := s.canObj 0x2003 1 0
    (.ok [], if a < 0x40000000 then s else s.regWrite 8 a v)
  | .tladon p _ _ => if s.proxyOk p then (.later, s) else (.abort 0x06060000, s)
  | _ => (.ok [], s)

/-- The access of a piece of a domain (R594–R596), after its checks. -/
def domainAccess (c : Client) (index base off : Nat) (write : Bool) (n : Nat) (data : List Nat) (us : List Upset)
    (s : State) : Ans × State :=
  let parts := pieceParts (n + 1) (base + off) n
  if !write then
    if index = 0x2740 ∧ !s.won WR.DBG_LOFT_VALID then (.abort 0x08000024, s) else s.readParts parts us
  else if index = 0x2501 then
    match s.writeParts parts data us with
    | (.ok l, s) =>
      let mine := off == 0 || (match s.imageOwner with
        | some o => sameClient o c
        | none => false)
      (.ok l, if mine then s.modCan fun x => { x with owner := some (c, s.now) } else s)
    | x => x
  else s.writeParts parts data us

/-- Check 7: another client owns the image domain (R595). -/
def owned (c : Client) (index sub : Nat) (write : Bool) (s : State) : Bool :=
  write && index == 0x2501 && sub == 2 &&
    match s.imageOwner with
    | some o => !sameClient o c
    | none => false

/-- The owner writes Check: ownership ends (R595). -/
def checkEnds (c : Client) (index sub : Nat) (s : State) : State :=
  match s.imageOwner with
  | some o => if index = 0x2502 ∧ sub = 1 ∧ sameClient o c then s.modCan fun x => { x with owner := none } else s
  | none => s

/-- The offset sub of a domain, which a transfer over CAN starts at (R594). -/
def domainOff (index sub : Nat) (s : State) : Nat := s.canObj index (sub - 1) 0

/-- One access of the dictionary by the checks of R587. `piece` is OFFSET and LEN of an in-band request; over
CAN a domain's piece starts at its offset sub and takes what is left, 65,536 bytes at most (R574, R594). -/
def access (c : Client) (write : Bool) (index sub : Nat) (piece : Option (Nat × Nat)) (data : List Nat)
    (us : List Upset) (s : State) : Ans × State :=
  match s.findObj index sub write (piece.map (·.1)) with
  | .error e => (.abort e, s)
  | .ok o =>
    if s.privOf c < (if write then o.wp else o.rp) then (.abort 0x06010000, s)
    else if !write && !o.rd then (.abort 0x06010001, s)
    else if write && !o.wr then (.abort 0x06010002, s)
    else if !s.stateCheck index sub o write then (.abort 0x08000022, s)
    else if s.owned c index sub write then (.abort 0x08000020, s)
    else match o.body with
      | .domain base size =>
        let off := match piece with
          | some x => x.1
          | none => s.domainOff index sub
        let n := if write then data.length else match piece with
          | some x => x.2
          | none => min 65536 (size - off)
        if 65536 < data.length then (.abort 0x06070010, s)
        else if size < off + n then (.abort 0x06090030, s)
        else
          let (x, s) := s.domainAccess c index base off write n data us
          match x with
          | .ok l => (.ok l, if piece.isSome then s else s.modCan fun k => { k with
              objs := SMap.insert (index * 256 + (sub - 1)) (off + n) k.objs })
          | x => (x, s)
      | _ =>
        let len := if write then data.length else match piece with
          | some x => x.2
          | none => 0
        if len ≠ (if write then o.size else 0) then (.abort 0x06070010, s)
        else
          let v := ofLe data
          match if write then s.rangeCheck index sub v o
            else match o.body with
              | .tladon _ a _ => if 65536 ≤ a then some 0x06090030 else none
              | _ => none with
          | some e => (.abort e, s)
          | none => if write then (s.writeObj index sub v o).map id (checkEnds c index sub) else s.readObj index sub o false

/-- The Tladon register behind an object: port, address and command (R592). -/
def tladonOf (index sub : Nat) (inband : Option Nat) (s : State) : Option (Nat × Nat × Nat) :=
  match s.findObj index sub false inband with
  | .ok ⟨_, _, _, _, _, _, .tladon p a op⟩ => some (p, a, op)
  | _ => none

end State

end Sys2Proof.Machine
end

