-- ==== Sys2Proof/Machine/WnDict.lean ====
section
/-! DEFINITION. The dictionary agent's transports: in band and CAN, PDOs, and the Tladon accesses that await an
answer (spec/18 R569, R573–R576, R580–R584, R593–R595; spec/08 R275, R291). -/

namespace Sys2Proof.Machine

open Sys2Proof

/-- Upsets from a list of numbers, three to a word. -/
def upsetsOf : List Nat → List Upset
  | f :: p :: a :: r => ⟨f, p, a⟩ :: upsetsOf r
  | _ => []

namespace State

/-! ### Answers (R580, R582, R583, R587) -/

/-- A UDP payload of R580. -/
def inbandMsg (op tag index sub off : Nat) (data : List Nat) : List Nat :=
  [0xC5, 0xA2, 0x10, op] ++ beBytes 2 tag ++ beBytes 2 index ++ [sub, 0] ++ beBytes 2 data.length ++ beBytes 4 off ++ data

/-- A payload leaves for the client of a frame that arrived on port `k` (R582). -/
def sendTo (k : Nat) (frame payload : List Nat) (s : State) : State :=
  match udpOf frame with
  | some u => s.respond k (s.udpFrame k u.mac u.tag u.v6 u.src 4911 u.sport payload)
  | none => s

/-- The response to a client is kept, for the 16 clients that asked last (R583). -/
def keep (addr : List Nat) (udp : Nat) (req resp : List Nat) (s : State) : State :=
  s.modCan fun c => { c with
    kept := let l := (c.kept.filter fun x => !(x.addr == addr && x.udp == udp)) ++ [⟨addr, udp, req, resp⟩]
            l.drop (l.length - 16) }

/-- An access is answered and counted (R580, R583, R587). -/
def answerDict (c : Client) (write : Bool) (index sub : Nat) (a : Ans) (s : State) : State :=
  match a with
  | .later => s
  | _ =>
    let s := s.wadd WR.DICT_CNT_REQUESTS 1
    let s := match a with
      | .abort e => (s.wadd WR.DICT_CNT_ABORTS 1).wset WR.DICT_LAST_ABORT e
      | _ => s
    match c with
    | .can node =>
      if s.canOn then s.emitPin (match a with
        | .abort e => .usdo node index sub [] (some e)
        | .ok l => .usdo node index sub l none
        | .later => .usdo node index sub [] none)
      else s
    | .inband k frame addr udp req =>
      let tag := ofBe ((req.drop 4).take 2)
      let off := ofBe ((req.drop 12).take 4)
      let m := match a with
        | .abort e => inbandMsg 0xFF tag index sub e []
        | .ok l => inbandMsg (if write then 0x82 else 0x81) tag index sub off l
        | .later => []
      (s.keep addr udp req m).sendTo k frame m

/-- An access to a Tladon waits for its REG_DATA: the command is queued (R275, R291, R593). -/
def awaitTladon (c : Client) (write : Bool) (index sub : Nat) (inband : Option Nat) (v : Nat) (s : State) : State :=
  match s.tladonOf index sub inband with
  | none => s
  | some (p, a, op) =>
    let tag := (s.dlink p).tag
    (s.dlAccess p (if write then 0x01 else op) a (if write then v else 0) 4).modCan fun x => { x with
      wait := some ⟨c, write, index, sub, p, tag⟩ }

/-- An access is made and answered, now or once its Tladon has answered. -/
def serve (c : Client) (write : Bool) (index sub : Nat) (piece : Option (Nat × Nat)) (data : List Nat)
    (us : List Upset) (s : State) : State :=
  let (a, s) := s.access c write index sub piece data us
  match a with
  | .later => s.awaitTladon c write index sub (piece.map (·.1)) (ofLe data)
  | a => s.answerDict c write index sub a

/-- The REG_DATA of the access that waits (R275, R593). -/
def dictData (p tag data : Nat) (s : State) : State :=
  match s.can.wait with
  | some w =>
    if w.port = p ∧ w.tag = tag then
      (s.modCan fun x => { x with wait := none }).answerDict w.client w.write w.index w.sub
        (.ok (if w.write then [] else leBytes 4 data))
    else s
  | none => s

/-- The access that waits has no REG_DATA in time (R291, R593). -/
def dictTimeout (p : Nat) (s : State) : State :=
  match s.can.wait with
  | some w =>
    if w.port = p ∧ !(s.dlink p).waits.any (fun a => a.kind == 4 && a.tag == w.tag) then
      (s.modCan fun x => { x with wait := none }).answerDict w.client w.write w.index w.sub (.abort 0x06060000)
    else s
  | none => s

/-! ### PDOs (R573, R576, R584) -/

/-- The write of a mapped object by an RPDO: by the checks that do not concern a client; one that fails has no
effect. -/
def pdoWrite (index sub : Nat) (data : List Nat) (s : State) : State :=
  match s.findObj index sub true none with
  | .error _ => s
  | .ok o =>
    let v := ofLe data
    if !o.wr || !s.stateCheck index sub o true || (s.rangeCheck index sub v o).isSome then s
    else match s.writeObj index sub v o with
      | (.later, s) => match o.body with
        | .tladon p a _ => s.dlAccess p 0x01 a v 3
        | _ => s
      | (_, s) => s

/-- The entries of a mapping: index, sub and bytes. -/
def mapping (index : Nat) (s : State) : List (Nat × Nat × Nat) :=
  (List.range (min 64 (s.canObj index 0 0))).map fun k =>
    let v := s.canObj index (k + 1) 0
    (v / 65536, v / 256 % 256, v % 256 / 8)

/-- Write the objects of a mapping from the data of a PDO. -/
def pdoApply : List (Nat × Nat × Nat) → List Nat → State → State
  | [], _, s => s
  | (i, b, n) :: r, d, s => pdoApply r (d.drop n) (s.pdoWrite i b (d.take n))

/-- The COB-ID of a PDO, if it is valid. -/
def pdoId (index n base : Nat) (s : State) : Option Nat :=
  let v := s.canObj (index + n) 1 (base + 0x100 * n + s.can.node)
  if v / 2 ^ 31 % 2 = 1 then none else some (v % 2048)

/-- An RPDO arrives: at once, or at the next SYNC for types 0 to 240 (CiA 1301); too few bytes do nothing. -/
def rpdo (n : Nat) (data : List Nat) (s : State) : State :=
  if (s.pdoId 0x1400 n 0x200).isNone || decide (data.length < s.mapLen (0x1600 + n) (s.canObj (0x1600 + n) 0 0)) then s
  else if s.canObj (0x1400 + n) 2 255 ≤ 240 then s.modCan fun c => { c with rpdos := SMap.insert n data c.rpdos }
  else s.pdoApply (s.mapping (0x1600 + n)) data

/-- The data of a TPDO (R576). -/
def tpdoData : List (Nat × Nat × Nat) → State → List Nat × State
  | [], s => ([], s)
  | (i, b, n) :: r, s =>
    let (d, s) := match s.findObj i b false none with
      | .ok o => s.readObj i b o true
      | .error _ => (.ok [], s)
    let l := match d with
      | .ok l => l
      | _ => []
    let (m, s) := tpdoData r s
    ((l ++ List.replicate n 0).take n ++ m, s)

/-- The in-band copy of a TPDO (R584). -/
def tpdoInband (n : Nat) (data : List Nat) (s : State) : State :=
  let d := s.canObj 0x2023 (n + 1) 0xFFFF
  let k := s.wget (WR.DEST_CTRL_PORT d)
  if 255 < d ∨ !s.won (WR.DEST_CTRL_VALID d) ∨ s.epState k < 2 then s
  else
    let v6 := s.won (WR.DEST_CTRL_IPV6 d)
    let ip := if v6 then ((List.range 4).map fun j => beBytes 4 (s.wget (WR.DEST_IP_IP d j))).flatten
      else beBytes 4 (s.wget (WR.DEST_IP_IP d 0))
    let tag := if s.won (WR.DEST_CTRL_VLAN_EN d) then
        some (s.wget (WR.DEST_CTRL_PCP d) * 2 ^ 13 + s.wget (WR.DEST_CTRL_VID d)) else none
    let mac := beBytes 2 (s.wget (WR.DEST_MAC_HI_MAC_HI d)) ++ beBytes 4 (s.wget (WR.DEST_MAC_LO_MAC_LO d))
    s.emit (.frame k (s.udpFrame k mac tag v6 ip 4911 (s.wget (WR.DEST_MAC_HI_UDP_DST d)) (inbandMsg 0x10 0 n 0 0 data)))

/-! ### The outcome of a frame on the bus (R577, R578) -/

/-- The error state that the counters give: 0 active, 1 passive, 2 bus-off. -/
def canErrState (s : State) : State :=
  let t := s.wget WR.CAN_ERR_TEC
  let r := s.wget WR.CAN_ERR_REC
  let was := s.wget WR.CAN_STATUS_ERR_STATE
  if was = 2 then s
  else if 255 < t then s.wsets [(WR.CAN_STATUS_ERR_STATE, 2), (WR.CAN_STATUS_BUS_OFF_SEEN, 1)]
  else if 127 < t ∨ 127 < r then
    if was = 1 then s else s.wsets [(WR.CAN_STATUS_ERR_STATE, 1), (WR.CAN_STATUS_PASSIVE_SEEN, 1)]
  else s.wset WR.CAN_STATUS_ERR_STATE 0

/-- A transmission attempt ends in an acknowledgement error (R577, R578). -/
def canNoAck (s : State) : State :=
  let s := (s.wadd WR.CAN_ERR_NOACK_RUN 1).wadd WR.CAN_CNT_NOACK 1
  let s := if s.wget WR.CAN_STATUS_ERR_STATE = 0 then (s.wadd WR.CAN_ERR_TEC 8).canErrState else s
  if s.wget WR.CAN_ERR_NOACK_RUN = 16 ∧ !s.solitary then
    (s.wsets [(WR.CAN_STATUS_SOLITARY, 1), (WR.CAN_STATUS_SOLITARY_SEEN, 1)]).modCan fun c => { c with
      hbAt := s.now, emcys := [] }
  else s

/-- A frame that Wonan sent is acknowledged (R577, R578). -/
def canAcked (s : State) : State :=
  let s := if s.solitary then s.modCan fun c => { c with hbAt := s.now } else s
  (s.wsets [(WR.CAN_ERR_NOACK_RUN, 0), (WR.CAN_STATUS_SOLITARY, 0), (WR.CAN_ERR_TEC, s.wget WR.CAN_ERR_TEC - 1)]).canErrState

/-- The number of frames that have left on CAN. -/
def canFrames (s : State) : Nat :=
  (s.out.filter fun o => match o with
    | .can _ _ => true
    | .usdo _ _ _ _ _ => true
    | _ => false).length

/-- The outcome of an attempt, where a frame was sent since a state. -/
def canOutcome (s : State) (ack : Bool) (before : State) : State :=
  if s.canFrames = before.canFrames ∨ !s.canOn then s
  else if ack then s.canAcked else s.canNoAck

/-- Wonan hears the bus: enabled, not bus-off, its pins its own. -/
def canHears (s : State) : Bool :=
  s.won WR.CAN_CFG_EN && s.wget WR.CAN_STATUS_ERR_STATE != 2 && !s.pinsHeld && s.nmt != 0

/-- Wonan acts on the frames it receives: not while it only listens (R572). -/
def canTakes (s : State) : Bool := s.canHears && s.can.node != 0

/-- A frame was received without error: the receive error count falls; from above 127 to a value of 119 to 127
that ISO 11898-1 leaves open (R577). -/
def canHeard (s : State) : State :=
  let r := s.wget WR.CAN_ERR_REC
  if !s.canHears || r == 0 then s
  else if r ≤ 127 then s.wset WR.CAN_ERR_REC (r - 1)
  else
    let (v, s) := s.fresh 8
    (s.wset WR.CAN_ERR_REC (119 + v % 9)).canErrState

/-- A TPDO is due: on CAN where its state lets it, and in band (R575, R578, R584). -/
def tpdo (n : Nat) (s : State) : State :=
  match s.pdoId 0x1800 n 0x180 with
  | none => s
  | some cob =>
    let m := s.mapping (0x1A00 + n)
    if m.isEmpty then s
    else
      let (d, s) := s.tpdoData m
      let s := s.modCan fun c => { c with tpdoAt := SMap.insert n s.now c.tpdoAt }
      let s := if s.nmt = 2 ∧ s.canOn then
          if s.solitary then s.wset WR.CAN_STATUS_TPDO_LOST 1 else s.emitPin (.can cob d)
        else s
      s.tpdoInband n d

/-- A SYNC: the RPDOs that wait for it, and the TPDOs of types 1 to 240 whose turn it is (R573). -/
def sync (s : State) : State :=
  let s := (List.range 4).foldl (fun s n => match SMap.find n s.can.rpdos with
    | some d => s.pdoApply (s.mapping (0x1600 + n)) d
    | none => s) s
  let s := s.modCan fun c => { c with rpdos := [] }
  (List.range 4).foldl (fun s n =>
    let t := s.canObj (0x1800 + n) 2 255
    if t = 0 ∨ 240 < t then s
    else
      let k := SMap.getD 0 n s.can.syncs + 1
      if k < t then s.modCan fun c => { c with syncs := SMap.insert n k c.syncs }
      else (s.modCan fun c => { c with syncs := SMap.insert n 0 c.syncs }).tpdo n) s

/-- An event-driven TPDO whose event timer has run, and whose inhibit time has passed (R573). -/
def tpdoEvent (n : Nat) (s : State) : State :=
  let timer := s.canObj (0x1800 + n) 5 0 * Config.msTicks
  let gap := s.canObj (0x1800 + n) 3 0 * 100 * Config.usTicks
  let last := SMap.getD 0 n s.can.tpdoAt
  if 254 ≤ s.canObj (0x1800 + n) 2 255 ∧ timer ≠ 0 ∧ last + max timer gap ≤ s.now then s.tpdo n else s

/-! ### In band (R580–R584) -/

/-- The packet at the head of a queue, while all of it is there. -/
def headPacket : List QWord → List Nat
  | [] => []
  | w :: r => if w.eop then [w.data] else w.data :: headPacket r

/-- The packet at the head of a queue holds a BROKEN word. -/
def headBroken : List QWord → Bool
  | [] => true
  | w :: r => if w.eop then w.broken else w.broken || headBroken r

/-- Port, frame and datagram of the packet at the head of queue 11. -/
def dictHead (s : State) : Option (Nat × List Nat × UdpIn) :=
  let ws := headPacket (s.queue 11).words
  let d := ws.headD 0
  let b := ((ws.drop 1).map (beBytes 8)).flatten.take (bits 13 0 d)
  (udpOf b).map fun u => (bits 46 44 d, b, u)

/-- OP of a well-formed request (R580, R581). A READ names a piece by LEN without carrying it. -/
def dictOp (u : UdpIn) : Option Nat :=
  let p := u.data
  let op := p.getD 3 0
  let len := ofBe ((p.drop 10).take 2)
  if p.take 3 ≠ [0xC5, 0xA2, 0x10] ∨ p.length < 16 ∨ u.len ≠ 8 + p.length ∨ 1024 < len then none
  else if op = 0x01 then if p.length = 16 ∨ p.length = 16 + len then some op else none
  else if op = 0x02 ∨ op = 0x11 then if p.length = 16 + len then some op else none
  else none

/-- The head request has the OP of a row, or none that is well formed. -/
def dictHas (op : Nat) (s : State) : Bool :=
  decide (0 < s.qPkts 11) && s.can.wait.isNone && decide (2 ≤ s.ws) &&
    match s.dictHead with
    | some (_, _, u) => dictOp u == some op || dictOp u == none
    | none => true

/-- The packet at the head of queue 11 is taken: whether a word of it is poisoned; `err` is the check of its
first word. -/
def takeRequest (err : Nat) : Nat → State → Bool × State
  | 0, s => (false, s)
  | fuel + 1, s =>
    match s.pop 11 err with
    | (some w, bad, s) =>
      if w.eop then (bad, s)
      else
        let (b, s) := takeRequest 0 fuel s
        (bad || b, s)
    | (none, _, s) => (false, s)

/-- The agent serves the request at the head of queue 11 (R569, R580–R584). -/
def dictServe (op err : Nat) (us : List Upset) (s : State) : State :=
  if !s.dictHas op then s
  else
    let h := s.dictHead
    let broken := headBroken (s.queue 11).words
    let (bad, s) := s.takeRequest err (s.queue 11).words.length
    let h := if bad || broken then none else h
    match h with
    | none => s.wadd WR.DICT_CNT_MALFORMED 1
    | some (k, b, u) =>
      if dictOp u = none then s.wadd WR.DICT_CNT_MALFORMED 1
      else
        let p := u.data
        let index := ofBe ((p.drop 6).take 2)
        let len := ofBe ((p.drop 10).take 2)
        let off := ofBe ((p.drop 12).take 4)
        let data := p.drop 16
        if op = 0x11 then if index < 4 then s.rpdo index data else s
        else match s.can.kept.find? fun x => x.addr == u.src && x.udp == u.sport && x.request == p with
          | some x => s.sendTo k b x.response
          | none =>
            s.serve (.inband k b u.src u.sport p) (op == 0x02) index (p.getD 8 0) (some (off, len))
              (if op = 0x02 then data else []) us

/-! ### USDO (R573, R574, R585) -/

/-- Object data that one USDO response or segment carries: 56 bytes (CiA 1301). -/
def usdoSeg : Nat := 56

/-- The session of a client node. -/
def session (node : Nat) (s : State) : Option Usdo := s.can.sessions.find? fun x => x.client == node

/-- A client's session ends. -/
def endSession (node : Nat) (s : State) : State :=
  s.modCan fun c => { c with sessions := c.sessions.filter fun x => x.client != node }

/-- A client has one session (R573). -/
def openSession (u : Usdo) (s : State) : State :=
  (s.endSession u.client).modCan fun c => { c with sessions := c.sessions ++ [u] }

/-- The agent takes a USDO request. -/
def usdoTakes (s : State) : Bool := s.canTakes && s.nmt != 3 && s.can.wait.isNone && decide (2 ≤ s.ws)

/-- A download: 0 expedited, 1 the first segment of several, 2 a further one, 3 the last; any other command
specifier is invalid (R587). -/
def usdoDown (node cmd index sub : Nat) (data : List Nat) (us : List Upset) (s : State) : State :=
  let c := Client.can node
  if cmd = 0 then (s.endSession node).serve c true index sub none data us
  else if cmd = 1 then s.openSession ⟨node, false, index, sub, data, s.now⟩
  else match s.session node with
    | some u =>
      if u.up ∨ 3 < cmd then (s.endSession node).answerDict c true index sub (.abort 0x05040001)
      else if 65536 < u.data.length + data.length then
        (s.endSession node).answerDict c true u.index u.sub (.abort 0x06070010)
      else if cmd = 2 then s.openSession { u with data := u.data ++ data, since := s.now }
      else (s.endSession node).serve c true u.index u.sub none (u.data ++ data) us
    | none => s.answerDict c true index sub (.abort 0x05040001)

/-- An upload: 0 begins, 1 asks for a further segment; any other command specifier is invalid (R587). -/
def usdoUp (node cmd index sub : Nat) (us : List Upset) (s : State) : State :=
  let c := Client.can node
  if cmd = 0 then
    let s := s.endSession node
    let (a, s) := s.access c false index sub none [] us
    match a with
    | .later => s.awaitTladon c false index sub none 0
    | .ok l =>
      let s := s.answerDict c false index sub (.ok (l.take usdoSeg))
      if l.length ≤ usdoSeg then s else s.openSession ⟨node, true, index, sub, l.drop usdoSeg, s.now⟩
    | a => s.answerDict c false index sub a
  else match s.session node with
    | some u =>
      if !u.up ∨ cmd ≠ 1 then (s.endSession node).answerDict c false index sub (.abort 0x05040001)
      else
        let s := if s.canOn then s.emitPin (.usdo node u.index u.sub (u.data.take usdoSeg) none) else s
        if u.data.length ≤ usdoSeg then s.endSession node
        else s.openSession { u with data := u.data.drop usdoSeg, since := s.now }
    | none => s.answerDict c false index sub (.abort 0x05040001)

/-! ### NMT (R572, R575) -/

/-- NMT enters a state. -/
def nmtSet (n : Nat) (s : State) : State := if s.canTakes then s.wset WR.CAN_STATUS_NMT n else s

/-- Reset communication (R572; CiA 1301): the communication profile returns to its defaults, what was written
for node and bit times takes effect, and the node boots. -/
def resetComm (s : State) : State :=
  (s.modCan fun c => { c with
    node := s.wget WR.CAN_CFG_NODE_ID, objs := c.objs.filter fun x => decide (0x200000 ≤ x.1), sessions := []
    rpdos := [], syncs := [], emcys := [], emcyAt := none }).canBoot

end State

/-- DICT_READ (R580–R583, R587): the READ at the head of queue 11. `err` is the check of its first word; `us`
are the upsets of the memory words it reads. -/
def execDictRead (err : Nat) (us : List Nat) (s : State) : Res := .next <| s.dictServe 0x01 err (upsetsOf us)

/-- DICT_WRITE (R580–R583, R587). -/
def execDictWrite (err : Nat) (us : List Nat) (s : State) : Res := .next <| s.dictServe 0x02 err (upsetsOf us)

/-- RPDO_INBAND (R584). -/
def execRpdoInband (err : Nat) (s : State) : Res := .next <| s.dictServe 0x11 err []

/-- USDO_DOWNLOAD (R573, R587): a request of a client node, and whether what Wonan answers at once is
acknowledged. -/
def execUsdoDownload (node cmd index sub : Nat) (data us : List Nat) (ack : Bool) (s : State) : Res :=
  .next <| if s.usdoTakes then
    let t := s.canHeard
    (t.usdoDown node cmd index sub data (upsetsOf us)).canOutcome ack t
  else s

/-- USDO_UPLOAD (R573, R587). -/
def execUsdoUpload (node cmd index sub : Nat) (us : List Nat) (ack : Bool) (s : State) : Res :=
  .next <| if s.usdoTakes then
    let t := s.canHeard
    (t.usdoUp node cmd index sub (upsetsOf us)).canOutcome ack t
  else s

/-- USDO_TIMEOUT (R574). -/
def execUsdoTimeout (node : Nat) (s : State) : Res :=
  match s.session node with
  | some u =>
    .next <| if u.since + Config.secTicks < s.now then
      (s.endSession node).answerDict (.can node) (!u.up) u.index u.sub (.abort 0x05040000)
    else s
  | none => .next s

/-- CAN_RPDO_RX (R573, R575, R576). -/
def execCanRpdoRx (n : Nat) (data : List Nat) (s : State) : Res :=
  .next <| if s.canTakes then
    let t := s.canHeard
    if t.nmt = 2 then t.rpdo n data else t
  else s

/-- CAN_SYNC_RX (R573). -/
def execCanSyncRx (ack : Bool) (s : State) : Res :=
  .next <| if s.canTakes then
    let t := s.canHeard
    t.sync.canOutcome ack t
  else s

/-- TPDO_EVENT (R573, R584). -/
def execTpdoEvent (n : Nat) (ack : Bool) (s : State) : Res := .next <| (s.tpdoEvent n).canOutcome ack s

/-- CAN_HEARTBEAT_SEND (R573, R578): due each period of 0x1017, or once a second in SOLITARY. -/
def execCanHeartbeatSend (ack : Bool) (s : State) : Res :=
  let gap := if s.solitary then Config.secTicks else s.canObj 0x1017 0 100 * Config.msTicks
  .next <| if s.canOn && gap != 0 && decide (s.can.hbAt + gap ≤ s.now) then
    let t := s.modCan fun c => { c with hbAt := s.now }
    let code := if s.nmt = 2 then 5 else if s.nmt = 3 then 4 else 127
    (t.emitPin (.can (0x700 + s.can.node) [code])).canOutcome ack s
  else s

/-- NMT_START (R575). -/
def execNmtStart (s : State) : Res := .next <| s.canHeard.nmtSet 2

/-- NMT_STOP (R575). -/
def execNmtStop (s : State) : Res := .next <| s.canHeard.nmtSet 3

/-- NMT_ENTER_PREOPERATIONAL (R575). -/
def execNmtEnterPreoperational (s : State) : Res := .next <| s.canHeard.nmtSet 1

/-- NMT_RESET_NODE (R575). -/
def execNmtResetNode (s : State) : Res :=
  .next <| if s.canTakes then
    if s.won WR.DICT_OPT_NMT_RESET_APP then s.canHeard.askReset false 5 else s.canHeard.resetComm
  else s

/-- NMT_RESET_COMMUNICATION (R572, R575). A node that only listens obeys it too, else a NODE_ID could not take
effect. -/
def execNmtResetCommunication (s : State) : Res := .next <| if s.canHears then s.canHeard.resetComm else s

/-- CAN_ACK_ERROR (R577, R578): an attempt to send ends in an acknowledgement error. -/
def execCanAckError (s : State) : Res := .next <| if s.canOn then s.canNoAck else s

/-- CAN_BUS_ERROR (R577; ISO 11898-1): an error while Wonan transmits adds 8 to its transmit error count; one
while it receives adds 1 to its receive error count, or 8. -/
def execCanBusError (tx eight : Bool) (s : State) : Res :=
  .next <| if s.canHears then
    if tx then if s.canOn then (s.wadd WR.CAN_ERR_TEC 8).canErrState else s
    else (s.wadd WR.CAN_ERR_REC (if eight then 8 else 1)).canErrState
  else s

/-- BUS_OFF_RECOVERY (R577, R579). -/
def execBusOffRecovery (s : State) : Res :=
  .next <| if s.wget WR.CAN_STATUS_ERR_STATE = 2 then
    ((s.wsets [(WR.CAN_STATUS_ERR_STATE, 0), (WR.CAN_ERR_TEC, 0), (WR.CAN_ERR_REC, 0)]).wadd WR.CAN_CNT_BUS_OFF 1).emcy 0x8140
  else s

/-- CAN_EXTENDED_FRAME_RX (R571). -/
def execCanExtendedFrameRx (s : State) : Res := .next <| if s.canHears then s.canHeard.wadd WR.CAN_CNT_RX_LOST 1 else s

/-- IMAGE_DATA_WRITE (R428, R594, R595): a client node writes a piece of the image domain, at the offset that
ImageOffset holds. -/
def execImageDataWrite (node off : Nat) (data us : List Nat) (ack : Bool) (s : State) : Res :=
  .next <| if s.usdoTakes then
    let t := (s.canHeard).modCan fun c => { c with objs := SMap.insert (0x2501 * 256 + 1) off c.objs }
    (t.serve (.can node) true 0x2501 2 none data (upsetsOf us)).canOutcome ack t
  else s

/-- IMAGE_OWNER_TIMEOUT (R595). -/
def execImageOwnerTimeout (s : State) : Res :=
  .next <| if s.imageOwner.isNone then s.modCan fun c => { c with owner := none } else s

/-- DICT_WARM_RESET (R637, R656): WarmReset was written and its response is sent. -/
def execDictWarmReset (s : State) : Res :=
  .next <| if s.can.warm then (s.modCan fun c => { c with warm := false }).askReset false 8 else s

end Sys2Proof.Machine
end

