-- ==== Sys2Proof/Machine/WnDbg.lean ====
section
/-! DEFINITION. An agent's access to any address, the debug module and the TAPs (spec/16 R518–R522; spec/21
R657–R660; spec/22 R678, R679; spec/09 R331; spec/14 R451; the debug module's registers by the RISC-V External
Debug Support specification 0.13.2). -/

namespace Sys2Proof.Machine

open Sys2Proof

namespace State

/-! ### CSRs (R470, R474, R514) -/

/-- The control and status registers of a core. -/
def csrHere (r : Nat) : Bool :=
  [0x300, 0x301, 0x304, 0x305, 0x306, 0x340, 0x341, 0x342, 0x343, 0x344, 0x7A0, 0x7A1, 0x7A2, 0x7B0, 0x7B1, 0xB00, 0xB02,
    0xB80, 0xB82, 0xC00, 0xC02, 0xC80, 0xC82, 0xF11, 0xF12, 0xF13, 0xF14].contains r
    || decide (0x3A0 ≤ r) && decide (r < 0x3A4) || decide (0x3B0 ≤ r) && decide (r < 0x3C0)

/-- Where a trigger register of the trigger that tselect names is kept. -/
def csrSlot (n r : Nat) (s : State) : Nat :=
  if r = 0x7A1 ∨ r = 0x7A2 then 0x10000 + 2 * ((s.core n).csrGet 0x7A0 % 4) + (r - 0x7A1) else r

/-- A read of a control and status register of core `n` of 0 to 3: mhartid is the agent number (R474), mip shows
the interrupts of R473, misa RV32IMAC with user mode (R470); the counters count instructions and cycles that this
model does not count (log entry 2). -/
def csrRead (n r : Nat) (s : State) : Nat × State :=
  if r = 0xF14 then (n + 1, s)
  else if r = 0x301 then (0x40101105, s)
  else if r = 0x344 then
    (2048 * b2n ((s.schCore n).res.isSome) + 128 * b2n (s.core n).mtip + 8 * b2n (bit n (s.wget WR.SCH_MSIP_MSIP)), s)
  else if r / 256 = 0xB ∨ r / 256 = 0xC then s.fresh 32
  else ((s.core n).csrGet (s.csrSlot n r), s)

/-- The bytes of a PMP configuration register as a write leaves them: a locked entry keeps its byte, W without R
and NA4 are not selected (R514). -/
def pmpBytes (k v : Nat) (c : Core) : Nat :=
  ofLe ((List.range 4).map fun j =>
    let old := c.pmpCfg (4 * k + j)
    let x := bits (8 * j + 7) (8 * j) v
    if bit 7 old then old
    else
      let x := x &&& 0x9F
      let x := if bits 4 3 x = 2 then (x &&& 0x87) + bits 4 3 old * 8 else x
      if bits 1 0 x = 2 then x - 2 else x)

/-- A write of a control and status register: what each holds of it (R470, R514; privileged specification). -/
def csrWrite (n r v : Nat) (s : State) : State :=
  let c := s.core n
  let v := v % 2 ^ 32
  let set (x : Nat) : State := s.modCore n (Core.csrSet (s.csrSlot n r) x)
  if r = 0x300 then set ((v &&& 0x200088) + (if bits 12 11 v = 3 then 0x1800 else 0) + (v &&& 0x20000))
  else if r = 0x304 then set (v &&& 0x888)
  else if r = 0x305 then set (v / 4 * 4)
  else if r = 0x341 ∨ r = 0x7B1 then set (v / 2 * 2)
  else if r = 0x7A0 then set (v % 4)
  else if r = 0x7B0 then set (2 ^ 30 + (c.csrGet 0x7B0 &&& 0x1C0) + (v &&& 0x9E14) + if v % 4 = 3 then 3 else 0)
  else if 0x3A0 ≤ r ∧ r < 0x3A4 then set (pmpBytes (r - 0x3A0) v c)
  else if 0x3B0 ≤ r ∧ r < 0x3C0 then
    let i := r - 0x3B0
    let next := c.pmpCfg (i + 1)
    if bit 7 (c.pmpCfg i) || decide (i < 15) && bit 7 next && bits 4 3 next == 1 then s else set v
  else if r = 0x301 ∨ r = 0x344 ∨ 0xC00 ≤ r ∨ r / 256 = 0xB then s
  else set v

/-! ### Any address as agent 1 to 4 or 9 reaches it (R331, R520, R521, R657–R660) -/

/-- An agent reads `n` bytes of a memory within one word: the bytes little-endian, and the code of its fault. -/
def memLoad (agent a n : Nat) (u : Upset) (s : State) : (Nat × Option Nat) × State :=
  if regionOf a = .yard ∧ s.inStall a then ((0, some 2), s)
  else if s.variant = 2 ∧ regionOf a = .history then ((0, none), s)
  else
    let (bad, bs, s) := s.memRead a n (memSource agent) 0 u
    ((ofLe bs, if bad then some 7 else none), s)

/-- An agent writes `n` bytes of a memory within one word. -/
def memStoreAs (agent a n v : Nat) (u : Upset) (s : State) : State :=
  if s.variant = 2 ∧ regionOf a = .history then s
  else
    let (may, s) := s.mayWrite agent a n
    if !may then s.storeFault agent a 2
    else
      let (ok, s) := s.storeBytes a (leBytes n v) agent 0 u
      if ok then s else s.storeFault agent a 7

/-- A load from a proxy window, by agent `agent` into register `rd`: nothing where the agent stalls for
REG_DATA. -/
def proxyAs (agent rd a : Nat) (quiet : Bool) (s : State) : Option (Nat × Option Nat) × State :=
  let p := (a - if quiet then 0x58000000 else 0x50000000) / 65536
  if s.lanesCount ≤ p then (some (0, none), s)
  else if s.proxyOk p then (none, s.proxyLoad p (a % 65536) (16 + 32 * rd + agent) quiet)
  else (some (0, some 2), s)

/-- A load of `n` bytes at a naturally aligned address, by agent `agent` into register `rd`: the value and the
code of its fault, or nothing where the agent stalls. -/
def loadAt (agent rd a n err : Nat) (u : Upset) (s : State) : Option (Nat × Option Nat) × State :=
  let r := regionOf a
  let wide : Option (Nat × Option Nat) := some (0, some 4)
  if r = .unmapped then (some (0, some 2), s)
  else if r.isMem then
    let (x, s) := s.memLoad agent a n u
    (some x, s)
  else if n ≠ 4 then (wide, s)
  else if r = .proxy then s.proxyAs agent rd a false
  else if r = .proxyQuiet then s.proxyAs agent rd a true
  else
    let (x, s) := s.busRead agent a err
    (some x, s)

/-- A store of `n` bytes at a naturally aligned address. -/
def storeAt (agent a n v : Nat) (u : Upset) (s : State) : State :=
  match regionOf a with
  | .unmapped => s.storeFault agent a 2
  | .regs => if n = 4 then s.busWrite agent a v else s.storeFault agent a 4
  | .regsQuiet => s.storeFault agent a 2
  | .proxyQuiet => s.storeFault agent a 2
  | .proxy =>
    let p := (a - 0x50000000) / 65536
    if n ≠ 4 then s.storeFault agent a 4
    else if s.lanesCount ≤ p then s
    else if s.proxyOk p && s.isRun then s.proxyStore p (a % 65536) v
    else s.storeFault agent a 2
  | _ => s.memStoreAs agent a n v u

/-! ### The debug module (R518, R521, R522) -/

/-- Change the debug module. -/
def modDbg (f : Dbg → Dbg) (s : State) : State := { s with dbg := f s.dbg }

/-- The selected hart. -/
def hart (s : State) : Core := s.core s.dbg.hartsel

/-- A hart may be halted: it has left reset. -/
def hartUp (s : State) : Bool := s.dbg.active && decide (2 ≤ s.ws) && decide (0 < s.sys.boot)

/-- cmderr keeps its first error. -/
def cmdErr (e : Nat) (s : State) : State := s.modDbg fun d => { d with cmderr := if d.cmderr = 0 then e else d.cmderr }

/-- An abstract command, as written to `command`: Access Register of a GPR or CSR, 32 bits, of a halted hart. -/
def abstractCmd (v : Nat) (s : State) : State :=
  let r := v % 65536
  let n := s.dbg.hartsel
  if s.dbg.cmderr ≠ 0 then s
  else if bits 31 24 v ≠ 0 ∨ bit 19 v ∨ bit 17 v && bits 22 20 v != 2 then s.cmdErr 2
  else if !s.hart.halted then s.cmdErr 4
  else if !bit 17 v then s
  else if 0x1000 ≤ r ∧ r < 0x1020 then
    if bit 16 v then
      if r = 0x1000 then s else s.modCore n fun c => { c with x := c.x.set (r - 0x1000) s.dbg.data0 }
    else s.modDbg fun d => { d with data0 := s.hart.x.getD (r - 0x1000) 0 }
  else if csrHere r then
    if bit 16 v then if 0xC00 ≤ r then s.cmdErr 3 else s.csrWrite n r s.dbg.data0
    else
      let (x, s) := s.csrRead n r
      s.modDbg fun d => { d with data0 := x }
  else s.cmdErr 3

/-- The width in bytes of sbaccess. -/
def sbBytes (k : Nat) : Nat := 2 ^ k

/-- sberror keeps its first error. -/
def sbErr (e : Nat) (s : State) : State := s.modDbg fun d => { d with sberror := if d.sberror = 0 then e else d.sberror }

/-- A system-bus access at sbaddress0 of width `2 ^ k`, unless an error stands: `v` to write, or a read into
sbdata0; the address advances with autoincrement. -/
def sbAccess (write : Bool) (k v err : Nat) (inc : Bool) (u : Upset) (s : State) : State :=
  let a := s.dbg.sbaddr
  if !s.dbg.active || s.dbg.sberror != 0 then s
  else if 2 < k then s.sbErr 4
  else if a % sbBytes k ≠ 0 then s.sbErr 3
  else
    let t := if write then s.storeAt 9 a (sbBytes k) (v % 2 ^ (8 * sbBytes k)) u
      else match s.loadAt 9 0 a (sbBytes k) err u with
        | (some r, t) => endLoad 9 a (r, t.modDbg fun d => { d with sbdata := r.1 })
        | (none, t) => t
    if inc && t.dbg.sberror == 0 then t.modDbg fun d => { d with sbaddr := (a + sbBytes k) % 2 ^ 32 } else t

/-- A write of dmcontrol. -/
def dmControl (v : Nat) (s : State) : State :=
  if !bit 0 v then { s with dbg := Dbg.reset }
  else if !s.dbg.active then s.modDbg fun d => { d with active := true }
  else
    let n := bits 25 16 v % 4
    let s := s.modDbg fun d => { d with
      hartsel := n
      resetHalt := if bit 2 v then d.resetHalt.filter (· != n)
        else if bit 3 v && !d.resetHalt.contains n then d.resetHalt ++ [n] else d.resetHalt }
    let s := if bit 31 v then if s.hartUp then s.haltHart n 3 else s else if bit 30 v then s.resumeHart n else s
    if bit 1 v then s.askReset false 4 else s

/-- dmstatus: version 0.13, authenticated, halt-on-reset, impebreak, and the selected hart's state. -/
def dmStatus (s : State) : Nat :=
  2 + 2 ^ 5 + 2 ^ 7 + 2 ^ 22 + (if !s.hartUp then 3 * 2 ^ 12 else if s.hart.halted then 3 * 2 ^ 8 else 3 * 2 ^ 10 + 3 * 2 ^ 16)

/-- A read of a debug module register. -/
def dmRead (a : Nat) (s : State) : Nat × State :=
  let d := s.dbg
  if a = 0x04 then (d.data0, s)
  else if a = 0x10 then (d.hartsel * 2 ^ 16 + b2n d.active, s)
  else if a = 0x11 then (s.dmStatus, s)
  else if a = 0x16 then (2 * 2 ^ 24 + d.cmderr * 256 + 1, s)
  else if a = 0x20 ∨ a = 0x21 then (d.progbuf.getD (a - 0x20) 0, s)
  else if a = 0x38 then (d.sbcs + d.sberror * 4096 + 32 * 32 + 7, s)
  else if a = 0x39 then (d.sbaddr, s)
  else if a = 0x3C then
    (d.sbdata, if bit 15 d.sbcs then s.sbAccess false (bits 19 17 d.sbcs) 0 0 (bit 16 d.sbcs) Upset.none else s)
  else (0, s)

/-- A write of a debug module register; while dmactive is 0 only dmcontrol takes one. -/
def dmWrite (a v : Nat) (s : State) : State :=
  if a = 0x10 then s.dmControl v
  else if !s.dbg.active then s
  else if a = 0x04 then s.modDbg fun d => { d with data0 := v }
  else if a = 0x16 then s.modDbg fun d => { d with cmderr := d.cmderr &&& (7 - bits 10 8 v) }
  else if a = 0x17 then s.abstractCmd v
  else if a = 0x20 ∨ a = 0x21 then s.modDbg fun d => { d with progbuf := d.progbuf.set (a - 0x20) v }
  else if a = 0x38 then
    s.modDbg fun d => { d with sbcs := 2 ^ 29 + (v &&& 0x1F8000), sberror := d.sberror &&& (7 - bits 14 12 v) }
  else if a = 0x39 then
    let s := s.modDbg fun d => { d with sbaddr := v }
    if bit 20 s.dbg.sbcs then s.sbAccess false (bits 19 17 s.dbg.sbcs) 0 0 (bit 16 s.dbg.sbcs) Upset.none else s
  else if a = 0x3C then
    let s := s.modDbg fun d => { d with sbdata := v }
    s.sbAccess true (bits 19 17 s.dbg.sbcs) v 0 (bit 16 s.dbg.sbcs) Upset.none
  else s

/-! ### The TAPs (R678, R679) -/

/-- A TAP takes an instruction; its data register captures a value. Wonan's TAP has then left Test-Logic-Reset. -/
def tapIr (chip ir dr : Nat) (s : State) : State :=
  let s := { s with taps := SMap.insert chip { s.tap chip with ir := ir, dr := dr } s.taps }
  if chip = 0 then s.wset WR.DBG_STATUS_TAP_ACTIVE 1 else s

/-- The boundary cells of a chip are loaded. -/
def tapCells (chip cells : Nat) (s : State) : State :=
  { s with taps := SMap.insert chip { s.tap chip with cells := cells } s.taps }

/-- IDCODE: the silicon version is a value the spec leaves open (log entry 2). -/
def idcode (chip : Nat) (s : State) : Nat × State :=
  let (v, s) := s.fresh 4
  (v * 2 ^ 28 + (if chip = 0 then 0x5120 else 0x5110) * 2 ^ 12 + 0x2E6 * 2 + 1, s)

end State

/-- DEBUG_HALT (R518, R522): the debug module halts a hart. -/
def execDebugHalt (core : Nat) (s : State) : Res := .next <| if s.hartUp then s.haltHart core 3 else s

/-- DEBUG_RESUME (R518). -/
def execDebugResume (core : Nat) (s : State) : Res := .next <| if s.dbg.active then s.resumeHart core else s

/-- DEBUG_ABSTRACT_COMMAND (R518): a command for a hart, with data0. -/
def execDebugAbstractCommand (core command data : Nat) (s : State) : Res :=
  .next <| if s.dbg.active then (s.modDbg fun d => { d with hartsel := core, data0 := data }).abstractCmd command else s

/-- DEBUG_SYSBUS_ACCESS (R331, R451, R520, R521, R658, R659): a system-bus access of width `2 ^ k`; `clear` first
clears sberror. `err` is how a word of queue 10 or of the scheduler's window was read; an upset comes over a word
of memory. -/
def execDebugSysbusAccess (clear write : Bool) (k addr data : Nat) (inc : Bool) (err f p a : Nat) (s : State) : Res :=
  .next <| if s.dbg.active then
    (s.modDbg fun d => { d with sbaddr := addr, sberror := if clear then 0 else d.sberror }).sbAccess write k data err inc ⟨f, p, a⟩
  else s

/-- IDCODE (R678): of chip 0 Wonan, 1 + p the Tladon of port `p`. -/
def execIdcode (chip : Nat) (s : State) : Res :=
  let (v, s) := s.idcode chip
  .next <| s.tapIr chip 0x01 v

/-- SAMPLE_PRELOAD (R678): the levels of the pins are captured and the cells loaded. -/
def execSamplePreload (chip pins cells : Nat) (s : State) : Res := .next <| (s.tapIr chip 0x02 pins).tapCells chip cells

/-- EXTEST (R679): the pins show the cells, and the chip sees its inputs held. -/
def execExtest (chip pins cells : Nat) (s : State) : Res := .next <| (s.tapIr chip 0x03 pins).tapCells chip cells

/-- CLAMP (R678, R679). -/
def execClamp (chip : Nat) (s : State) : Res := .next <| s.tapIr chip 0x04 0

/-- HIGHZ (R678, R679). -/
def execHighz (chip : Nat) (s : State) : Res := .next <| s.tapIr chip 0x05 0

/-- BYPASS (R678): any code that is not listed. -/
def execBypass (chip code : Nat) (s : State) : Res := .next <| s.tapIr chip code 0

/-- DTMCS (R518, R678): on Wonan the register reads version 1 and 7 address bits; on Tladon it is BYPASS. -/
def execDtmcs (chip : Nat) (s : State) : Res := .next <| s.tapIr chip 0x10 (if chip = 0 then 0x71 else 0)

/-- DMI (R518, R678): on Wonan an access to the debug module, 1 a read and 2 a write; on Tladon it is BYPASS. -/
def execDmi (chip op addr data : Nat) (s : State) : Res :=
  .next <| if chip ≠ 0 then s.tapIr chip 0x11 0
  else if op = 1 then
    let (v, s) := s.dmRead addr
    s.tapIr 0 0x11 (addr * 2 ^ 34 + v * 4)
  else if op = 2 then (s.dmWrite addr data).tapIr 0 0x11 (addr * 2 ^ 34 + data * 4)
  else s.tapIr 0 0x11 (addr * 2 ^ 34)

/-- TAP_RESET (R637, R678): TRST_N resets only the TAP. -/
def execTapReset (chip : Nat) (s : State) : Res := .next <| { s with taps := SMap.insert chip Tap.reset s.taps }

end Sys2Proof.Machine
end

