-- ==== Sys2Proof/Machine/WnCore.lean ====
section
/-! DEFINITION. What a control core's access to memory does, and the ends of proxy accesses (spec/15 R470–R472;
spec/14 R443–R451; spec/16 R514, R519–R521, R531; spec/21 R657–R660; spec/08 R275, R291). -/

namespace Sys2Proof.Machine

open Sys2Proof

/-- A register of the core takes a value; x0 stays zero. -/
def Core.setX (rd v : Nat) (c : Core) : Core := if rd = 0 then c else { c with x := c.x.set rd (v % 2 ^ 32) }

/-- The new value of an AMO: swap, add, xor, and, or, min, max, minu, maxu. -/
def amoOp (op old v : Nat) : Nat :=
  if op = 0 then v
  else if op = 1 then (old + v) % 2 ^ 32
  else if op = 2 then old ^^^ v
  else if op = 3 then old &&& v
  else if op = 4 then old ||| v
  else if op = 5 then if signed 32 v < signed 32 old then v else old
  else if op = 6 then if signed 32 old < signed 32 v then v else old
  else if op = 7 then min old v
  else max old v

namespace State

/-- A fetch (R471): from core memory and the boot ROM only. -/
def coreFetch (n a k : Nat) (u : Upset) (s : State) : State :=
  let c := s.core n
  let r := regionOf a
  let sz := if k = 1 then 2 else 4
  if (r ≠ .rom ∧ r ≠ .core) ∨ !c.pmpOk a sz true false false c.user then s.trap n 1 a
  else
    let (bad, bs, s) := s.memRead a sz (n + 1) 0 u
    if bad then s.trap n 1 a else s.answer (n + 1) a (ofLe bs) none

/-- A load of `2 ^ k` bytes into `rd`, extended by its sign or by zeros (R472). -/
def coreLoad (n rd a k err : Nat) (sgn : Bool) (u : Upset) (s : State) : State :=
  let c := s.core n
  let sz := 2 ^ k
  if a % sz ≠ 0 then s.trap n 4 a
  else if !c.pmpOk a sz false true false c.dataUser then s.loadFault (n + 1) a 0 2
  else match s.loadAt (n + 1) rd a sz err u with
    | (none, s) => s
    | (some (v, some sb), s) => s.loadFault (n + 1) a v sb
    | (some (v, none), s) =>
      let x := if sgn then unsigned 32 (signed (8 * sz) v) else v
      (s.modCore n (Core.setX rd x)).answer (n + 1) a v none

/-- A store of `2 ^ k` bytes (R472). -/
def coreStore (n a k v : Nat) (u : Upset) (s : State) : State :=
  let c := s.core n
  let sz := 2 ^ k
  if a % sz ≠ 0 then s.trap n 6 a
  else if !c.pmpOk a sz false false true c.dataUser then s.storeFault (n + 1) a 2
  else s.storeAt (n + 1) a sz (v % 2 ^ (8 * sz)) u

/-- LR.W (R472): the reservation stands for 256 core cycles, 819.2 ticks. -/
def coreLr (n rd a : Nat) (u : Upset) (s : State) : State :=
  let c := s.core n
  if a % 4 ≠ 0 then s.trap n 4 a
  else if regionOf a ≠ .core then s.trap n 7 a
  else if !c.pmpOk a 4 false true false c.dataUser then s.loadFault (n + 1) a 0 2
  else
    let ((v, f), s) := s.memLoad (n + 1) a 4 u
    match f with
    | some sb => s.loadFault (n + 1) a v sb
    | none => (s.modCore n fun c => { (c.setX rd v) with lr := some (a, s.now + 820) }).answer (n + 1) a v none

/-- SC.W (R472): rd takes 0 where the reservation stood, else 1; it is cleared either way. -/
def coreSc (n rd a v : Nat) (u : Upset) (s : State) : State :=
  let c := s.core n
  if a % 4 ≠ 0 then s.trap n 6 a
  else if regionOf a ≠ .core then s.trap n 7 a
  else if !c.pmpOk a 4 false false true c.dataUser then s.storeFault (n + 1) a 2
  else
    let held := match c.lr with
      | some (w, till) => w == a && decide (s.now < till)
      | none => false
    let s := s.modCore n fun c => { c with lr := none }
    if !held then s.modCore n (Core.setX rd 1)
    else if !(s.mayWrite (n + 1) a 4).1 then s.storeFault (n + 1) a 2
    else
      let (_, s) := s.storeBytes a (leBytes 4 v) (n + 1) 0 u
      s.modCore n (Core.setX rd 0)

/-- An AMO (R472). -/
def coreAmo (n op rd a v : Nat) (u : Upset) (s : State) : State :=
  let c := s.core n
  if a % 4 ≠ 0 then s.trap n 6 a
  else if regionOf a ≠ .core then s.trap n 7 a
  else if !c.pmpOk a 4 false true true c.dataUser then s.storeFault (n + 1) a 2
  else if !(s.mayWrite (n + 1) a 4).1 then s.storeFault (n + 1) a 2
  else
    let ((old, f), s) := s.memLoad (n + 1) a 4 u
    match f with
    | some sb => s.storeFault (n + 1) a sb
    | none =>
      let (_, s) := s.storeBytes a (leBytes 4 (amoOp op old v)) (n + 1) 0 Upset.none
      (s.modCore n (Core.setX rd old)).answer (n + 1) a old none

/-- The REG_DATA of a load by an agent (R275, R291). -/
def proxyData (p : Nat) (a : Access) (data : Nat) (s : State) : State :=
  let agent := a.kind % 16
  let s := if agent = 9 then s.modDbg fun d => { d with sbdata := data }
    else if 1 ≤ agent ∧ agent ≤ 4 then s.modCore (agent - 1) (Core.setX ((a.kind - 16) / 32) data)
    else s
  s.answer agent (0x50000000 + p * 65536 + a.addr) data none

/-- Loads by agents whose REG_DATA is overdue end with an access fault (R291). -/
def proxyLate (p : Nat) (s : State) : State :=
  let late := (s.dlink p).waits.filter fun a => decide (16 ≤ a.kind) && decide (a.due ≤ s.now)
  late.foldl (fun s a => s.loadFault (a.kind % 16) (0x50000000 + p * 65536 + a.addr) 0 2) (s.proxyTimeout p)

end State

/-- CORE_MEMORY_ACCESS (R470–R472, R514, R519–R521, R531, R657–R660, R443–R451): core `n` of 0 to 3 makes an
access of a kind: 0 fetch, 1 load, 2 store, 3 LR, 4 SC, 5 to 13 the AMOs of `amoOp`; `2 ^ k` bytes, with the
sign where `sgn`; `rd` takes what is loaded. `err` is how a word of queue 10 or of the scheduler's window was
read; an upset comes over the memory word. -/
def execCoreMemoryAccess (n kind k : Nat) (sgn : Bool) (addr data rd err f p a : Nat) (s : State) : Res :=
  let u : Upset := ⟨f, p, a⟩
  .next <| if s.ws < 2 || (s.core n).halted then s
    else if kind = 0 then s.coreFetch n addr k u
    else if kind = 1 then s.coreLoad n rd addr k err sgn u
    else if kind = 2 then s.coreStore n addr k data u
    else if kind = 3 then s.coreLr n rd addr u
    else if kind = 4 then s.coreSc n rd addr data u
    else s.coreAmo n (kind - 5) rd addr data u

/-- REG_DATA_RX (R13, R275, R287, R291, R593): the data of an access whose tag it carries. -/
def execRegDataRx (port tag data : Nat) (s : State) : Res :=
  let (a, s) := s.takeWait port tag
  match a with
  | some a =>
    .next <| if a.kind = 4 then s.dictData port tag data
    else if 16 ≤ a.kind then s.proxyData port a data
    else s.regData port a data
  | none => .next s

/-- PROXY_TIMEOUT (R291, R593): due PROXY_TMO after the access. -/
def execProxyTimeout (port : Nat) (s : State) : Res := .next <| (s.proxyLate port).dictTimeout port

end Sys2Proof.Machine
end

