-- ==== Sys2Proof/Machine/Dispatch.lean ====
section
/-! DEFINITION. One arm for each command. -/

namespace Sys2Proof.Machine

/-- What a command does to everything but the queue of waiting commands. -/
def exec (i : Instr) (s : State) : Host.Outcome State Fault Refusal :=
  match i with
  | .tladonPllLock port => Sys2Proof.Machine.execTladonPllLock port s
  | .tladonPllLockLost port => Sys2Proof.Machine.execTladonPllLockLost port s
  | .epoch port dl j => Sys2Proof.Machine.execEpoch port dl j s
  | .epochTakeEffect port => Sys2Proof.Machine.execEpochTakeEffect port s
  | .markerSend port => Sys2Proof.Machine.execMarkerSend port s
  | .triStampRx port dl num tick fine => Sys2Proof.Machine.execTriStampRx port dl num tick fine s
  | .triStampMissed port num => Sys2Proof.Machine.execTriStampMissed port num s
  | .triCtrlWrite port value => Sys2Proof.Machine.execTriCtrlWrite port value s
  | .triAlphaWrite port value => Sys2Proof.Machine.execTriAlphaWrite port value s
  | .triKdownWrite port value => Sys2Proof.Machine.execTriKdownWrite port value s
  | .triKupWrite port value => Sys2Proof.Machine.execTriKupWrite port value s
  | .hitWordRx lane word err => Sys2Proof.Machine.execHitWordRx lane word err s
  | .wonanFrameBoundary span meas loop => Sys2Proof.Machine.execWonanFrameBoundary span meas loop s
  | .holdoverLimit port => Sys2Proof.Machine.execHoldoverLimit port s
  | .clkswRx lane dep body => Sys2Proof.Machine.execClkswRx lane dep body s
  | .holdWordRx lane dep body => Sys2Proof.Machine.execHoldWordRx lane dep body s
  | .epochDoneRx lane => Sys2Proof.Machine.execEpochDoneRx lane s
  | .merRateHiWrite value => Sys2Proof.Machine.execMerRateHiWrite value s
  | .merAdjWrite value => Sys2Proof.Machine.execMerAdjWrite value s
  | .adjCancel => Sys2Proof.Machine.execAdjCancel s
  | .merStep => Sys2Proof.Machine.execMerStep s
  | .merStepNsWrite value => Sys2Proof.Machine.execMerStepNsWrite value s
  | .merStepApply => Sys2Proof.Machine.execMerStepApply s
  | .merLock refOk => Sys2Proof.Machine.execMerLock refOk s
  | .merRelock refOk => Sys2Proof.Machine.execMerRelock refOk s
  | .merSrcWrite src => Sys2Proof.Machine.execMerSrcWrite src s
  | .syncLost => Sys2Proof.Machine.execSyncLost s
  | .merPtpParentPortWrite value => Sys2Proof.Machine.execMerPtpParentPortWrite value s
  | .synceLost => Sys2Proof.Machine.execSynceLost s
  | .refLost => Sys2Proof.Machine.execRefLost s
  | .ppsInEdge fall fine => Sys2Proof.Machine.execPpsInEdge fall fine s
  | .ppsLost => Sys2Proof.Machine.execPpsLost s
  | .ppsOutPulse => Sys2Proof.Machine.execPpsOutPulse s
  | .ptpFrameRx port bytes fine => Sys2Proof.Machine.execPtpFrameRx port bytes fine s
  | .txStampCapture port id fine => Sys2Proof.Machine.execTxStampCapture port id fine s
  | .merTxtsIdRead => Sys2Proof.Machine.execMerTxtsIdRead s
  | .txStampAgeOut => Sys2Proof.Machine.execTxStampAgeOut s
  | .alarmArm n value => Sys2Proof.Machine.execAlarmArm n value s
  | .merAlarmParamWrite n reg value => Sys2Proof.Machine.execMerAlarmParamWrite n reg value s
  | .alarmFire n => Sys2Proof.Machine.execAlarmFire n s
  | .discriminatorLeadingEdge port ch raw sraw dith => Sys2Proof.Machine.execDiscriminatorLeadingEdge port ch raw sraw dith s
  | .discriminatorTrailingEdge port ch raw => Sys2Proof.Machine.execDiscriminatorTrailingEdge port ch raw s
  | .totSaturation port ch => Sys2Proof.Machine.execTotSaturation port ch s
  | .hitWordComplete port ch => Sys2Proof.Machine.execHitWordComplete port ch s
  | .channelRearm port ch => Sys2Proof.Machine.execChannelRearm port ch s
  | .clampEngage port ch => Sys2Proof.Machine.execClampEngage port ch s
  | .clampRelease port ch => Sys2Proof.Machine.execClampRelease port ch s
  | .chCfgWrite port ch value => Sys2Proof.Machine.execChCfgWrite port ch value s
  | .chThrWrite port ch value => Sys2Proof.Machine.execChThrWrite port ch value s
  | .settlingEnd port ch => Sys2Proof.Machine.execSettlingEnd port ch s
  | .configScrub port n => Sys2Proof.Machine.execConfigScrub port n s
  | .intervalStartEdge port g raw => Sys2Proof.Machine.execIntervalStartEdge port g raw s
  | .intervalStopEdge port ch raw => Sys2Proof.Machine.execIntervalStopEdge port ch raw s
  | .intervalTimeout port g => Sys2Proof.Machine.execIntervalTimeout port g s
  | .chnIntWrite port addr value => Sys2Proof.Machine.execChnIntWrite port addr value s
  | .walkTableWrite offset value => Sys2Proof.Machine.execWalkTableWrite offset value s
  | .surveyStart port => Sys2Proof.Machine.execSurveyStart port s
  | .surveyArm port => Sys2Proof.Machine.execSurveyArm port s
  | .surveyGateOpen port => Sys2Proof.Machine.execSurveyGateOpen port s
  | .surveyAbort port => Sys2Proof.Machine.execSurveyAbort port s
  | .surveyCfgWrite port addr value => Sys2Proof.Machine.execSurveyCfgWrite port addr value s
  | .surveyGateEnd port => Sys2Proof.Machine.execSurveyGateEnd port s
  | .surveyResult port => Sys2Proof.Machine.execSurveyResult port s
  | .ditherConversion port interp raw => Sys2Proof.Machine.execDitherConversion port interp raw s
  | .calSwap port => Sys2Proof.Machine.execCalSwap port s
  | .calRetire port => Sys2Proof.Machine.execCalRetire port s
  | .calTimeout port => Sys2Proof.Machine.execCalTimeout port s
  | .calCtrlWrite port value => Sys2Proof.Machine.execCalCtrlWrite port value s
  | .sampRefWrite port en => Sys2Proof.Machine.execSampRefWrite port en s
  | .sampRefReady port => Sys2Proof.Machine.execSampRefReady port s
  | .sampEnWrite port g en => Sys2Proof.Machine.execSampEnWrite port g en s
  | .sampCfgWrite port g ofs value => Sys2Proof.Machine.execSampCfgWrite port g ofs value s
  | .sampArm port mask => Sys2Proof.Machine.execSampArm port mask s
  | .sampForce port mask => Sys2Proof.Machine.execSampForce port mask s
  | .sampDisarm port mask => Sys2Proof.Machine.execSampDisarm port mask s
  | .pulseWidthEvent port ch => Sys2Proof.Machine.execPulseWidthEvent port ch s
  | .sampTimerEvent port g => Sys2Proof.Machine.execSampTimerEvent port g s
  | .sampTriggerTick port g => Sys2Proof.Machine.execSampTriggerTick port g s
  | .sampFreeze port g => Sys2Proof.Machine.execSampFreeze port g s
  | .sampWordOffer port x0 x1 x2 x3 => Sys2Proof.Machine.execSampWordOffer port x0 x1 x2 x3 s
  | .sampHoldoffEnd port g => Sys2Proof.Machine.execSampHoldoffEnd port g s
  | .sampTrimWrite port g ofs value => Sys2Proof.Machine.execSampTrimWrite port g ofs value s
  | .monGo port => Sys2Proof.Machine.execMonGo port s
  | .monTimerSweep port => Sys2Proof.Machine.execMonTimerSweep port s
  | .monConversionDone port code => Sys2Proof.Machine.execMonConversionDone port code s
  | .hitQueueDrain port g err => Sys2Proof.Machine.execHitQueueDrain port g err s
  | .slotClose port slot corr bad => Sys2Proof.Machine.execSlotClose port slot corr bad s
  | .slotRelease port slot => Sys2Proof.Machine.execSlotRelease port slot s
  | .acceptTakeEffect port => Sys2Proof.Machine.execAcceptTakeEffect port s
  | .fragmentBuild port corr bad => Sys2Proof.Machine.execFragmentBuild port corr bad s
  | .tladonFrameBoundary port => Sys2Proof.Machine.execTladonFrameBoundary port s
  | .padCtrlWrite port hold => Sys2Proof.Machine.execPadCtrlWrite port hold s
  | .padHoldChange port => Sys2Proof.Machine.execPadHoldChange port s
  | .padConfigWrite port addr value => Sys2Proof.Machine.execPadConfigWrite port addr value s
  | .primitiveForm port slot => Sys2Proof.Machine.execPrimitiveForm port slot s
  | .primitiveWindow port slot => Sys2Proof.Machine.execPrimitiveWindow port slot s
  | .rsBlockRx lane num replay fix bad => Sys2Proof.Machine.execRsBlockRx lane num replay fix bad s
  | .replayNackRx lane num => Sys2Proof.Machine.execReplayNackRx lane num s
  | .frameHeadRx lane frame offset fine => Sys2Proof.Machine.execFrameHeadRx lane frame offset fine s
  | .laneIdRx lane body => Sys2Proof.Machine.execLaneIdRx lane body s
  | .laneCdrLock lane => Sys2Proof.Machine.execLaneCdrLock lane s
  | .laneCdrLoss lane => Sys2Proof.Machine.execLaneCdrLoss lane s
  | .primitiveWindowRx lane slot ph w0 w1 => Sys2Proof.Machine.execPrimitiveWindowRx lane slot ph w0 w1 s
  | .ingLaneClear lane => Sys2Proof.Machine.execIngLaneClear lane s
  | .attachEpoch port => Sys2Proof.Machine.execAttachEpoch port s
  | .portAttachWrite port => Sys2Proof.Machine.execPortAttachWrite port s
  | .portDetachWrite port => Sys2Proof.Machine.execPortDetachWrite port s
  | .portDetached port => Sys2Proof.Machine.execPortDetached port s
  | .downlinkCellRx port dl cell raw => Sys2Proof.Machine.execDownlinkCellRx port dl cell raw s
  | .tladonDlCdrLock port dl => Sys2Proof.Machine.execTladonDlCdrLock port dl s
  | .tladonDlCdrLoss port dl => Sys2Proof.Machine.execTladonDlCdrLoss port dl s
  | .regWrite port dl tag addr value => Sys2Proof.Machine.execRegWrite port dl tag addr value s
  | .regRead port dl tag addr => Sys2Proof.Machine.execRegRead port dl tag addr s
  | .regPeek port dl tag addr => Sys2Proof.Machine.execRegPeek port dl tag addr s
  | .monSweep port dl => Sys2Proof.Machine.execMonSweep port dl s
  | .hold port dl => Sys2Proof.Machine.execHold port dl s
  | .release port dl => Sys2Proof.Machine.execRelease port dl s
  | .stateListen port dl => Sys2Proof.Machine.execStateListen port dl s
  | .stateConfigure port dl => Sys2Proof.Machine.execStateConfigure port dl s
  | .stateAcquire port dl => Sys2Proof.Machine.execStateAcquire port dl s
  | .stateQuiet port dl => Sys2Proof.Machine.execStateQuiet port dl s
  | .stateAcquireEffect port => Sys2Proof.Machine.execStateAcquireEffect port s
  | .stateConfigureEffect port => Sys2Proof.Machine.execStateConfigureEffect port s
  | .quietPowerDown port => Sys2Proof.Machine.execQuietPowerDown port s
  | .reset port dl => Sys2Proof.Machine.execReset port dl s
  | .claim port dl value => Sys2Proof.Machine.execClaim port dl value s
  | .replay port dl k num => Sys2Proof.Machine.execReplay port dl k num s
  | .relink port dl mask => Sys2Proof.Machine.execRelink port dl mask s
  | .regDataRx port tag data => Sys2Proof.Machine.execRegDataRx port tag data s
  | .stateWordRx lane body => Sys2Proof.Machine.execStateWordRx lane body s
  | .claimExpiry port dl => Sys2Proof.Machine.execClaimExpiry port dl s
  | .obeyChange port phase => Sys2Proof.Machine.execObeyChange port phase s
  | .claimSend port => Sys2Proof.Machine.execClaimSend port s
  | .downlinkCommandSlot port => Sys2Proof.Machine.execDownlinkCommandSlot port s
  | .poweredToListening port => Sys2Proof.Machine.execPoweredToListening port s
  | .proxyLoad port addr quiet => Sys2Proof.Machine.execProxyLoad port addr quiet s
  | .proxyStore port addr data => Sys2Proof.Machine.execProxyStore port addr data s
  | .proxyTimeout port => Sys2Proof.Machine.execProxyTimeout port s
  | .linkCfgWrite port value => Sys2Proof.Machine.execLinkCfgWrite port value s
  | .tlDecisionRx link hdr word => Sys2Proof.Machine.execTlDecisionRx link hdr word s
  | .acceptForward => Sys2Proof.Machine.execAcceptForward s
  | .selfTriggerAccept slot => Sys2Proof.Machine.execSelfTriggerAccept slot s
  | .selfTriggerContentTest slot => Sys2Proof.Machine.execSelfTriggerContentTest slot s
  | .fragHeadRx lane acc start => Sys2Proof.Machine.execFragHeadRx lane acc start s
  | .fragTailRx lane body => Sys2Proof.Machine.execFragTailRx lane body s
  | .streamHeadRx lane frame => Sys2Proof.Machine.execStreamHeadRx lane frame s
  | .streamEndRx lane body => Sys2Proof.Machine.execStreamEndRx lane body s
  | .eventDeadline key => Sys2Proof.Machine.execEventDeadline key s
  | .eventCommit lost => Sys2Proof.Machine.execEventCommit lost s
  | .candidateComplete slot => Sys2Proof.Machine.execCandidateComplete slot s
  | .horizonExpiry slot => Sys2Proof.Machine.execHorizonExpiry slot s
  | .stallRelease => Sys2Proof.Machine.execStallRelease s
  | .musViewSelWrite lo value => Sys2Proof.Machine.execMusViewSelWrite lo value s
  | .musViewDataRead => Sys2Proof.Machine.execMusViewDataRead s
  | .queueWrite n data eop bad => Sys2Proof.Machine.execQueueWrite n data eop bad s
  | .queueRead n err => Sys2Proof.Machine.execQueueRead n err s
  | .queueFlush n => Sys2Proof.Machine.execQueueFlush n s
  | .queueStagedWrite n v => Sys2Proof.Machine.execQueueStagedWrite n v s
  | .qWtagWrite n value => Sys2Proof.Machine.execQWtagWrite n value s
  | .cmpDispatch poison => Sys2Proof.Machine.execCmpDispatch poison s
  | .cmpFormDone engine ok => Sys2Proof.Machine.execCmpFormDone engine ok s
  | .cmpStoredDone engine ok err => Sys2Proof.Machine.execCmpStoredDone engine ok err s
  | .formerRecordDone bad => Sys2Proof.Machine.execFormerRecordDone bad s
  | .cmpReorderRelease => Sys2Proof.Machine.execCmpReorderRelease s
  | .cmpRatioWindow sec => Sys2Proof.Machine.execCmpRatioWindow sec s
  | .cmpEngEnWrite engine v => Sys2Proof.Machine.execCmpEngEnWrite engine v s
  | .cmpReenable engine => Sys2Proof.Machine.execCmpReenable engine s
  | .cmpReenableDone engine pass => Sys2Proof.Machine.execCmpReenableDone engine pass s
  | .cmpBypassWrite value => Sys2Proof.Machine.execCmpBypassWrite value s
  | .portLinkUp port stable => Sys2Proof.Machine.execPortLinkUp port stable s
  | .portLinkDown port cause => Sys2Proof.Machine.execPortLinkDown port cause s
  | .epFrameRx port fcs bytes fine => Sys2Proof.Machine.execEpFrameRx port fcs bytes fine s
  | .recordSteer bad => Sys2Proof.Machine.execRecordSteer bad s
  | .datagramSent port => Sys2Proof.Machine.execDatagramSent port s
  | .steerAdd port => Sys2Proof.Machine.execSteerAdd port s
  | .steerRemove port => Sys2Proof.Machine.execSteerRemove port s
  | .steerCommit => Sys2Proof.Machine.execSteerCommit s
  | .steerOpInvalid => Sys2Proof.Machine.execSteerOpInvalid s
  | .steerBoundary => Sys2Proof.Machine.execSteerBoundary s
  | .portLinkTimeout port => Sys2Proof.Machine.execPortLinkTimeout port s
  | .paceRingSample counts => Sys2Proof.Machine.execPaceRingSample counts s
  | .shedStep => Sys2Proof.Machine.execShedStep s
  | .holdCycleToggle => Sys2Proof.Machine.execHoldCycleToggle s
  | .degradedRecoverStep => Sys2Proof.Machine.execDegradedRecoverStep s
  | .primitiveCapture slot => Sys2Proof.Machine.execPrimitiveCapture slot s
  | .poCellRelease slot => Sys2Proof.Machine.execPoCellRelease slot s
  | .admCheck => Sys2Proof.Machine.execAdmCheck s
  | .admissionChecksDone => Sys2Proof.Machine.execAdmissionChecksDone s
  | .admRun => Sys2Proof.Machine.execAdmRun s
  | .admStop => Sys2Proof.Machine.execAdmStop s
  | .admStore => Sys2Proof.Machine.execAdmStore s
  | .admStoreDone ok => Sys2Proof.Machine.execAdmStoreDone ok s
  | .admReload => Sys2Proof.Machine.execAdmReload s
  | .groomVisit m flip path again => Sys2Proof.Machine.execGroomVisit m flip path again s
  | .groomConfirmVisit flip path again => Sys2Proof.Machine.execGroomConfirmVisit flip path again s
  | .memFarDataWrite value => Sys2Proof.Machine.execMemFarDataWrite value s
  | .memLogRead => Sys2Proof.Machine.execMemLogRead s
  | .groomEnWrite en => Sys2Proof.Machine.execGroomEnWrite en s
  | .schSetflagWrite value => Sys2Proof.Machine.execSchSetflagWrite value s
  | .unitEventRoute e => Sys2Proof.Machine.execUnitEventRoute e s
  | .schPost value => Sys2Proof.Machine.execSchPost value s
  | .schReserve => Sys2Proof.Machine.execSchReserve s
  | .schNextRead core => Sys2Proof.Machine.execSchNextRead core s
  | .schEndWrite core => Sys2Proof.Machine.execSchEndWrite core s
  | .schNopreemptWrite core v => Sys2Proof.Machine.execSchNopreemptWrite core v s
  | .npSpanOver core => Sys2Proof.Machine.execNpSpanOver core s
  | .schCoreCtrlWrite core value => Sys2Proof.Machine.execSchCoreCtrlWrite core value s
  | .schTaskDisable task => Sys2Proof.Machine.execSchTaskDisable task s
  | .spillRefill level lost => Sys2Proof.Machine.execSpillRefill level lost s
  | .itemAgeStep level => Sys2Proof.Machine.execItemAgeStep level s
  | .periodicSlotEnable k value => Sys2Proof.Machine.execPeriodicSlotEnable k value s
  | .periodicRelease k => Sys2Proof.Machine.execPeriodicRelease k s
  | .deadlineMiss k => Sys2Proof.Machine.execDeadlineMiss k s
  | .standstill => Sys2Proof.Machine.execStandstill s
  | .schTraceMarkWrite agent value => Sys2Proof.Machine.execSchTraceMarkWrite agent value s
  | .mtimeTimerInterrupt core => Sys2Proof.Machine.execMtimeTimerInterrupt core s
  | .mtimecmpWrite core hi value => Sys2Proof.Machine.execMtimecmpWrite core hi value s
  | .schMsipWrite value => Sys2Proof.Machine.execSchMsipWrite value s
  | .dmaGo c => Sys2Proof.Machine.execDmaGo c s
  | .dmaUnitTransfer f1 p1 a1 f2 p2 a2 f3 p3 a3 => Sys2Proof.Machine.execDmaUnitTransfer f1 p1 a1 f2 p2 a2 f3 p3 a3 s
  | .dmaResume c => Sys2Proof.Machine.execDmaResume c s
  | .dmaSkip c => Sys2Proof.Machine.execDmaSkip c s
  | .dmaAbort c => Sys2Proof.Machine.execDmaAbort c s
  | .mbxDataWrite agent m j value => Sys2Proof.Machine.execMbxDataWrite agent m j value s
  | .mbxSend agent m => Sys2Proof.Machine.execMbxSend agent m s
  | .mbxAck m => Sys2Proof.Machine.execMbxAck m s
  | .mbxLockRead agent m => Sys2Proof.Machine.execMbxLockRead agent m s
  | .mbxLockWrite agent m value => Sys2Proof.Machine.execMbxLockWrite agent m value s
  | .lockLeaseLapse m => Sys2Proof.Machine.execLockLeaseLapse m s
  | .mbxLockForce agent m => Sys2Proof.Machine.execMbxLockForce agent m s
  | .fenceWrite agent row reg value => Sys2Proof.Machine.execFenceWrite agent row reg value s
  | .quietAliasWrite agent addr => Sys2Proof.Machine.execQuietAliasWrite agent addr s
  | .loftRelease => Sys2Proof.Machine.execLoftRelease s
  | .uartStartEdge sample => Sys2Proof.Machine.execUartStartEdge sample s
  | .uartCharRx data par stop => Sys2Proof.Machine.execUartCharRx data par stop s
  | .uartTxWrite data => Sys2Proof.Machine.execUartTxWrite data s
  | .uartRxRead => Sys2Proof.Machine.execUartRxRead s
  | .debugHalt core => Sys2Proof.Machine.execDebugHalt core s
  | .debugResume core => Sys2Proof.Machine.execDebugResume core s
  | .debugAbstractCommand core command data => Sys2Proof.Machine.execDebugAbstractCommand core command data s
  | .debugSysbusAccess clear write k addr data inc err f p a => Sys2Proof.Machine.execDebugSysbusAccess clear write k addr data inc err f p a s
  | .ndmreset => Sys2Proof.Machine.execNdmreset s
  | .idcode chip => Sys2Proof.Machine.execIdcode chip s
  | .samplePreload chip pins cells => Sys2Proof.Machine.execSamplePreload chip pins cells s
  | .extest chip pins cells => Sys2Proof.Machine.execExtest chip pins cells s
  | .clamp chip => Sys2Proof.Machine.execClamp chip s
  | .highz chip => Sys2Proof.Machine.execHighz chip s
  | .bypass chip code => Sys2Proof.Machine.execBypass chip code s
  | .dtmcs chip => Sys2Proof.Machine.execDtmcs chip s
  | .dmi chip op addr data => Sys2Proof.Machine.execDmi chip op addr data s
  | .tapReset chip => Sys2Proof.Machine.execTapReset chip s
  | .tickCountAlign => Sys2Proof.Machine.execTickCountAlign s
  | .pairHeartbeatSend => Sys2Proof.Machine.execPairHeartbeatSend s
  | .pairHeartbeatRx hdr ws => Sys2Proof.Machine.execPairHeartbeatRx hdr ws s
  | .partnerLost => Sys2Proof.Machine.execPartnerLost s
  | .pairDecisionRx hdr ws => Sys2Proof.Machine.execPairDecisionRx hdr ws s
  | .pairAnchorRx hdr ws => Sys2Proof.Machine.execPairAnchorRx hdr ws s
  | .anchorWaitExpiry => Sys2Proof.Machine.execAnchorWaitExpiry s
  | .pairThetaRx hdr ws => Sys2Proof.Machine.execPairThetaRx hdr ws s
  | .epochNoteRx hdr ws => Sys2Proof.Machine.execEpochNoteRx hdr ws s
  | .pairDigestRx hdr ws => Sys2Proof.Machine.execPairDigestRx hdr ws s
  | .digestEntryExpiry => Sys2Proof.Machine.execDigestEntryExpiry s
  | .joinRequestRx hdr ws => Sys2Proof.Machine.execJoinRequestRx hdr ws s
  | .joinAtRx hdr ws => Sys2Proof.Machine.execJoinAtRx hdr ws s
  | .joinSeqRx hdr ws => Sys2Proof.Machine.execJoinSeqRx hdr ws s
  | .pairFwRx hdr ws => Sys2Proof.Machine.execPairFwRx hdr ws s
  | .pairRejoin => Sys2Proof.Machine.execPairRejoin s
  | .pairGoAlone => Sys2Proof.Machine.execPairGoAlone s
  | .pairMuteWrite v => Sys2Proof.Machine.execPairMuteWrite v s
  | .pairEnWrite en => Sys2Proof.Machine.execPairEnWrite en s
  | .pairClaimWrite value => Sys2Proof.Machine.execPairClaimWrite value s
  | .dictRead err us => Sys2Proof.Machine.execDictRead err us s
  | .dictWrite err us => Sys2Proof.Machine.execDictWrite err us s
  | .usdoDownload node cmd index sub data us ack => Sys2Proof.Machine.execUsdoDownload node cmd index sub data us ack s
  | .usdoUpload node cmd index sub us ack => Sys2Proof.Machine.execUsdoUpload node cmd index sub us ack s
  | .usdoTimeout node => Sys2Proof.Machine.execUsdoTimeout node s
  | .rpdoInband err => Sys2Proof.Machine.execRpdoInband err s
  | .canRpdoRx n data => Sys2Proof.Machine.execCanRpdoRx n data s
  | .canSyncRx ack => Sys2Proof.Machine.execCanSyncRx ack s
  | .tpdoEvent n ack => Sys2Proof.Machine.execTpdoEvent n ack s
  | .canHeartbeatSend ack => Sys2Proof.Machine.execCanHeartbeatSend ack s
  | .nmtStart => Sys2Proof.Machine.execNmtStart s
  | .nmtStop => Sys2Proof.Machine.execNmtStop s
  | .nmtEnterPreoperational => Sys2Proof.Machine.execNmtEnterPreoperational s
  | .nmtResetNode => Sys2Proof.Machine.execNmtResetNode s
  | .nmtResetCommunication => Sys2Proof.Machine.execNmtResetCommunication s
  | .canAckError => Sys2Proof.Machine.execCanAckError s
  | .busOffRecovery => Sys2Proof.Machine.execBusOffRecovery s
  | .imageDataWrite node off data us ack => Sys2Proof.Machine.execImageDataWrite node off data us ack s
  | .imageOwnerTimeout => Sys2Proof.Machine.execImageOwnerTimeout s
  | .dictWarmReset => Sys2Proof.Machine.execDictWarmReset s
  | .envGo => Sys2Proof.Machine.execEnvGo s
  | .envTimerSweep => Sys2Proof.Machine.execEnvTimerSweep s
  | .envConversionDone vp vn => Sys2Proof.Machine.execEnvConversionDone vp vn s
  | .envRefWrite en => Sys2Proof.Machine.execEnvRefWrite en s
  | .envRefReady => Sys2Proof.Machine.execEnvRefReady s
  | .envRangeWrite ch range => Sys2Proof.Machine.execEnvRangeWrite ch range s
  | .rangeSwitch ch => Sys2Proof.Machine.execRangeSwitch ch s
  | .rangeRampDone ch => Sys2Proof.Machine.execRangeRampDone ch s
  | .openDetect ch => Sys2Proof.Machine.execOpenDetect ch s
  | .openClear ch => Sys2Proof.Machine.execOpenClear ch s
  | .probeClampEngage ch => Sys2Proof.Machine.execProbeClampEngage ch s
  | .probeClampRelease ch => Sys2Proof.Machine.execProbeClampRelease ch s
  | .sourceFed ch => Sys2Proof.Machine.execSourceFed ch s
  | .envRetry ch => Sys2Proof.Machine.execEnvRetry ch s
  | .contendSet a b => Sys2Proof.Machine.execContendSet a b s
  | .contendClear a b => Sys2Proof.Machine.execContendClear a b s
  | .ilReqWrite agent k value => Sys2Proof.Machine.execIlReqWrite agent k value s
  | .envKickWrite agent => Sys2Proof.Machine.execEnvKickWrite agent s
  | .kickExpiry => Sys2Proof.Machine.execKickExpiry s
  | .resultAgeExpiry => Sys2Proof.Machine.execResultAgeExpiry s
  | .ilOvertemp k => Sys2Proof.Machine.execIlOvertemp k s
  | .ilOvertempClear k => Sys2Proof.Machine.execIlOvertempClear k s
  | .ilShort k => Sys2Proof.Machine.execIlShort k s
  | .vinUvloRelease => Sys2Proof.Machine.execVinUvloRelease s
  | .vinUvloAssert => Sys2Proof.Machine.execVinUvloAssert s
  | .vinOvloAssert => Sys2Proof.Machine.execVinOvloAssert s
  | .vinOvloRelease => Sys2Proof.Machine.execVinOvloRelease s
  | .vintRegulation rise => Sys2Proof.Machine.execVintRegulation rise s
  | .railStart rise => Sys2Proof.Machine.execRailStart rise s
  | .pgRelease => Sys2Proof.Machine.execPgRelease s
  | .railFault rail => Sys2Proof.Machine.execRailFault rail s
  | .powerStageOvertemp => Sys2Proof.Machine.execPowerStageOvertemp s
  | .powerRestart cool => Sys2Proof.Machine.execPowerRestart cool s
  | .vinBelow12v => Sys2Proof.Machine.execVinBelow12v s
  | .pwrMeasure vin iin volts amps pdie cdie ok flags => Sys2Proof.Machine.execPwrMeasure vin iin volts amps pdie cdie ok flags s
  | .resetNAssert => Sys2Proof.Machine.execResetNAssert s
  | .sysResetWarm agent => Sys2Proof.Machine.execSysResetWarm agent s
  | .resetAssert => Sys2Proof.Machine.execResetAssert s
  | .selfTestStart => Sys2Proof.Machine.execSelfTestStart s
  | .xoInPresent words spares checks queues engs counts => Sys2Proof.Machine.execXoInPresent words spares checks queues engs counts s
  | .selfTestComplete => Sys2Proof.Machine.execSelfTestComplete s
  | .firmwareLoaded ok0 ok1 => Sys2Proof.Machine.execFirmwareLoaded ok0 ok1 s
  | .autoRunEntry => Sys2Proof.Machine.execAutoRunEntry s
  | .watchdogKick agent => Sys2Proof.Machine.execWatchdogKick agent s
  | .watchdogExpiry => Sys2Proof.Machine.execWatchdogExpiry s
  | .sysFatalEnter agent code => Sys2Proof.Machine.execSysFatalEnter agent code s
  | .fatalTimer => Sys2Proof.Machine.execFatalTimer s
  | .fatalRunClear => Sys2Proof.Machine.execFatalRunClear s
  | .tladonPorRelease port => Sys2Proof.Machine.execTladonPorRelease port s
  | .tladonRailDrop port => Sys2Proof.Machine.execTladonRailDrop port s
  | .registerWrite agent addr value => Sys2Proof.Machine.execRegisterWrite agent addr value s
  | .uplinkBlockSend port k offset => Sys2Proof.Machine.execUplinkBlockSend port k offset s
  | .surveyInEdge port raw => Sys2Proof.Machine.execSurveyInEdge port raw s
  | .registerRead agent addr err => Sys2Proof.Machine.execRegisterRead agent addr err s
  | .coreMemoryAccess n kind k sgn addr data rd err f p a => Sys2Proof.Machine.execCoreMemoryAccess n kind k sgn addr data rd err f p a s
  | .canBusError tx eight => Sys2Proof.Machine.execCanBusError tx eight s
  | .canExtendedFrameRx => Sys2Proof.Machine.execCanExtendedFrameRx s
  | .plLockSet => Sys2Proof.Machine.execPlLockSet s
  | .plLockClear => Sys2Proof.Machine.execPlLockClear s
  | .uartCharTxDone => Sys2Proof.Machine.execUartCharTxDone s
  | .norImageCopyDone => Sys2Proof.Machine.execNorImageCopyDone s
  | .schWindowPublish sec => Sys2Proof.Machine.execSchWindowPublish sec s

end Sys2Proof.Machine
end

