-- ==== Sys2Proof/WellFormed.lean ====
section
/-! DEFINITION. Which commands are well formed: every operand within the range its field or index has. -/

namespace Sys2Proof

namespace Wf

/-- A number below a bound. -/
def lt (n v : Nat) : Bool := decide (v < n)

/-- A number of `n` bits. -/
def fits (n v : Nat) : Bool := decide (v < 2 ^ n)

/-- A list of bytes. -/
def areBytes (l : List Nat) : Bool := l.all (lt 256)

/-- A list of words of at most 64 bits. -/
def areWords (l : List Nat) : Bool := l.all (fits 64)

/-- An agent that makes bus accesses of its own (R505): the cores, the DMA, the dictionary agent, the debug agent
and the pair agent. -/
def isAgent (a : Nat) : Bool := [1, 2, 3, 4, 6, 8, 9, 10].contains a

/-- An aligned address of a register block (R657, R659). -/
def isNormal (a : Nat) : Bool := decide (0x40000000 ≤ a) && decide (a < 0x400F0000) && a % 4 == 0

/-- An aligned address of a quiet alias, of a block or of a proxy window (R519). -/
def isQuiet (a : Nat) : Bool :=
  (decide (0x48000000 ≤ a) && decide (a < 0x480F0000) || decide (0x58000000 ≤ a) && decide (a < 0x58300000)) && a % 4 == 0

/-- An aligned address of a register block, normal or quiet. -/
def isReg (a : Nat) : Bool := isNormal a || decide (0x48000000 ≤ a) && isNormal (a - 0x08000000)

/-- A TAP code that acts as BYPASS on both chips (R678). -/
def isBypass (c : Nat) : Bool := lt 32 c && !List.contains [1, 2, 3, 4, 5, 16, 17] c

end Wf

open Wf in
/-- The command is well formed. -/
def Instr.wf : Instr → Bool
  | .tladonPllLock port => lt 48 port
  | .tladonPllLockLost port => lt 48 port
  | .epoch port _ j => lt 48 port && fits 42 j
  | .epochTakeEffect port => lt 48 port
  | .markerSend port => lt 48 port
  | .triStampRx port _ num tick fine => lt 48 port && lt 16 num && fits 42 tick && fits 8 fine
  | .triStampMissed port num => lt 48 port && lt 16 num
  | .triCtrlWrite port value => lt 48 port && fits 32 value
  | .triAlphaWrite port value => lt 48 port && fits 32 value
  | .triKdownWrite port value => lt 48 port && fits 32 value
  | .triKupWrite port value => lt 48 port && fits 32 value
  | .hitWordRx lane word _ => lt 48 lane && fits 64 word
  | .wonanFrameBoundary span meas loop => fits 32 span && fits 32 meas && fits 48 loop
  | .holdoverLimit port => lt 48 port
  | .clkswRx lane dep body => lt 48 lane && fits 42 dep && fits 56 body
  | .holdWordRx lane dep body => lt 48 lane && fits 42 dep && fits 56 body
  | .epochDoneRx lane => lt 48 lane
  | .merRateHiWrite value => fits 32 value
  | .merAdjWrite value => fits 32 value
  | .adjCancel => true
  | .merStep => true
  | .merStepNsWrite value => fits 32 value
  | .merStepApply => true
  | .merLock _ => true
  | .merRelock _ => true
  | .merSrcWrite src => lt 8 src
  | .syncLost => true
  | .merPtpParentPortWrite value => fits 32 value
  | .synceLost => true
  | .refLost => true
  | .ppsInEdge _ fine => fits 8 fine
  | .ppsLost => true
  | .ppsOutPulse => true
  | .ptpFrameRx port bytes fine => lt 8 port && areBytes bytes && fits 8 fine
  | .txStampCapture port id fine => lt 8 port && fits 16 id && fits 8 fine
  | .merTxtsIdRead => true
  | .txStampAgeOut => true
  | .alarmArm n value => lt 8 n && fits 32 value
  | .merAlarmParamWrite n reg value => lt 8 n && lt 6 reg && fits 32 value
  | .alarmFire n => lt 8 n
  | .discriminatorLeadingEdge port ch raw sraw _ => lt 48 port && lt 512 ch && lt 384 raw && lt 384 sraw
  | .discriminatorTrailingEdge port ch raw => lt 48 port && lt 512 ch && lt 384 raw
  | .totSaturation port ch => lt 48 port && lt 512 ch
  | .hitWordComplete port ch => lt 48 port && lt 512 ch
  | .channelRearm port ch => lt 48 port && lt 512 ch
  | .clampEngage port ch => lt 48 port && lt 512 ch
  | .clampRelease port ch => lt 48 port && lt 512 ch
  | .chCfgWrite port ch value => lt 48 port && lt 512 ch && fits 32 value
  | .chThrWrite port ch value => lt 48 port && lt 512 ch && fits 32 value
  | .settlingEnd port ch => lt 48 port && lt 512 ch
  | .configScrub port _ => lt 48 port
  | .intervalStartEdge port g raw => lt 48 port && lt 8 g && lt 384 raw
  | .intervalStopEdge port ch raw => lt 48 port && lt 512 ch && lt 384 raw
  | .intervalTimeout port g => lt 48 port && lt 8 g
  | .chnIntWrite port addr value => lt 48 port && fits 16 addr && fits 32 value
  | .walkTableWrite offset value => fits 24 offset && fits 16 value
  | .surveyStart port => lt 48 port
  | .surveyArm port => lt 48 port
  | .surveyGateOpen port => lt 48 port
  | .surveyAbort port => lt 48 port
  | .surveyCfgWrite port addr value => lt 48 port && fits 16 addr && fits 32 value
  | .surveyGateEnd port => lt 48 port
  | .surveyResult port => lt 48 port
  | .ditherConversion port interp raw => lt 48 port && lt 1027 interp && lt 384 raw
  | .calSwap port => lt 48 port
  | .calRetire port => lt 48 port
  | .calTimeout port => lt 48 port
  | .calCtrlWrite port value => lt 48 port && fits 32 value
  | .sampRefWrite port _ => lt 48 port
  | .sampRefReady port => lt 48 port
  | .sampEnWrite port g _ => lt 48 port && lt 8 g
  | .sampCfgWrite port g ofs value => lt 48 port && lt 8 g && lt 32 ofs && fits 32 value
  | .sampArm port mask => lt 48 port && fits 8 mask
  | .sampForce port mask => lt 48 port && fits 8 mask
  | .sampDisarm port mask => lt 48 port && fits 8 mask
  | .pulseWidthEvent port ch => lt 48 port && lt 512 ch
  | .sampTimerEvent port g => lt 48 port && lt 8 g
  | .sampTriggerTick port g => lt 48 port && lt 8 g
  | .sampFreeze port g => lt 48 port && lt 8 g
  | .sampWordOffer port x0 x1 x2 x3 => lt 48 port && fits 12 x0 && fits 12 x1 && fits 12 x2 && fits 12 x3
  | .sampHoldoffEnd port g => lt 48 port && lt 8 g
  | .sampTrimWrite port g ofs value => lt 48 port && lt 8 g && lt 8 ofs && fits 32 value
  | .monGo port => lt 48 port
  | .monTimerSweep port => lt 48 port
  | .monConversionDone port code => lt 48 port && fits 12 code
  | .hitQueueDrain port g err => lt 48 port && lt 8 g && lt 3 err
  | .slotClose port slot _ _ => lt 48 port && fits 37 slot
  | .slotRelease port slot => lt 48 port && fits 37 slot
  | .acceptTakeEffect port => lt 48 port
  | .fragmentBuild port _ _ => lt 48 port
  | .tladonFrameBoundary port => lt 48 port
  | .padCtrlWrite port _ => lt 48 port
  | .padHoldChange port => lt 48 port
  | .padConfigWrite port addr value => lt 48 port && fits 16 addr && fits 32 value
  | .primitiveForm port slot => lt 48 port && fits 37 slot
  | .primitiveWindow port slot => lt 48 port && fits 37 slot
  | .rsBlockRx lane num _ fix bad => lt 48 lane && fits 7 num && lt 10 fix && fits 8 bad
  | .replayNackRx lane num => lt 48 lane && fits 7 num
  | .frameHeadRx lane frame offset fine => lt 48 lane && fits 26 frame && fits 9 offset && fits 8 fine
  | .laneIdRx lane body => lt 48 lane && fits 56 body
  | .laneCdrLock lane => lt 48 lane
  | .laneCdrLoss lane => lt 48 lane
  | .primitiveWindowRx lane slot ph w0 w1 => lt 48 lane && fits 37 slot && fits 8 ph && fits 64 w0 && fits 64 w1
  | .ingLaneClear lane => lt 48 lane
  | .attachEpoch port => lt 48 port
  | .portAttachWrite port => lt 48 port
  | .portDetachWrite port => lt 48 port
  | .portDetached port => lt 48 port
  | .downlinkCellRx port _ cell raw => lt 48 port && fits 64 cell && lt 384 raw
  | .tladonDlCdrLock port _ => lt 48 port
  | .tladonDlCdrLoss port _ => lt 48 port
  | .regWrite port _ tag addr value => lt 48 port && fits 8 tag && fits 16 addr && fits 32 value
  | .regRead port _ tag addr => lt 48 port && fits 8 tag && fits 16 addr
  | .regPeek port _ tag addr => lt 48 port && fits 8 tag && fits 16 addr
  | .monSweep port _ => lt 48 port
  | .hold port _ => lt 48 port
  | .release port _ => lt 48 port
  | .stateListen port _ => lt 48 port
  | .stateConfigure port _ => lt 48 port
  | .stateAcquire port _ => lt 48 port
  | .stateQuiet port _ => lt 48 port
  | .stateAcquireEffect port => lt 48 port
  | .stateConfigureEffect port => lt 48 port
  | .quietPowerDown port => lt 48 port
  | .reset port _ => lt 48 port
  | .claim port _ value => lt 48 port && fits 32 value
  | .replay port _ k num => lt 48 port && lt 4 k && fits 7 num
  | .relink port _ mask => lt 48 port && fits 4 mask
  | .regDataRx port tag data => lt 48 port && fits 8 tag && fits 32 data
  | .stateWordRx lane body => lt 48 lane && fits 56 body
  | .claimExpiry port _ => lt 48 port
  | .obeyChange port phase => lt 48 port && fits 16 phase
  | .claimSend port => lt 48 port
  | .downlinkCommandSlot port => lt 48 port
  | .poweredToListening port => lt 48 port
  | .proxyLoad port addr _ => lt 48 port && fits 16 addr
  | .proxyStore port addr data => lt 48 port && fits 16 addr && fits 32 data
  | .proxyTimeout port => lt 48 port
  | .linkCfgWrite port value => lt 48 port && fits 32 value
  | .tlDecisionRx _ hdr word => lt 4 hdr && fits 64 word
  | .acceptForward => true
  | .selfTriggerAccept slot => fits 64 slot
  | .selfTriggerContentTest slot => fits 64 slot
  | .fragHeadRx lane acc start => lt 48 lane && fits 14 acc && fits 42 start
  | .fragTailRx lane body => lt 48 lane && fits 56 body
  | .streamHeadRx lane frame => lt 48 lane && fits 26 frame
  | .streamEndRx lane body => lt 48 lane && fits 56 body
  | .eventDeadline key => fits 64 key
  | .eventCommit lost => fits 48 lost
  | .candidateComplete slot => fits 64 slot
  | .horizonExpiry slot => fits 64 slot
  | .stallRelease => true
  | .musViewSelWrite _ value => fits 32 value
  | .musViewDataRead => true
  | .queueWrite n data _ _ => lt 16 n && fits 256 data
  | .queueRead n err => lt 16 n && lt 3 err
  | .queueFlush n => lt 16 n
  | .queueStagedWrite n _ => lt 16 n
  | .qWtagWrite n value => lt 16 n && fits 32 value
  | .cmpDispatch _ => true
  | .cmpFormDone engine _ => lt 16 engine
  | .cmpStoredDone engine _ _ => lt 16 engine
  | .formerRecordDone bad => lt 3 bad
  | .cmpReorderRelease => true
  | .cmpRatioWindow _ => true
  | .cmpEngEnWrite engine _ => lt 16 engine
  | .cmpReenable engine => lt 16 engine
  | .cmpReenableDone engine _ => lt 16 engine
  | .cmpBypassWrite value => fits 32 value
  | .portLinkUp port _ => lt 8 port
  | .portLinkDown port cause => lt 8 port && lt 3 cause
  | .epFrameRx port _ bytes fine => lt 8 port && areBytes bytes && fits 8 fine
  | .recordSteer bad => fits 1200 bad
  | .datagramSent port => lt 8 port
  | .steerAdd port => lt 8 port
  | .steerRemove port => lt 8 port
  | .steerCommit => true
  | .steerOpInvalid => true
  | .steerBoundary => true
  | .portLinkTimeout port => lt 8 port
  | .paceRingSample counts => areWords counts
  | .shedStep => true
  | .holdCycleToggle => true
  | .degradedRecoverStep => true
  | .primitiveCapture slot => fits 64 slot
  | .poCellRelease slot => fits 64 slot
  | .admCheck => true
  | .admissionChecksDone => true
  | .admRun => true
  | .admStop => true
  | .admStore => true
  | .admStoreDone _ => true
  | .admReload => true
  | .groomVisit m flip path again => lt 6 m && fits 160 flip && fits 160 path && fits 160 again
  | .groomConfirmVisit flip path again => fits 160 flip && fits 160 path && fits 160 again
  | .memFarDataWrite value => fits 32 value
  | .memLogRead => true
  | .groomEnWrite _ => true
  | .schSetflagWrite value => fits 32 value
  | .unitEventRoute e => lt 64 e
  | .schPost value => fits 32 value
  | .schReserve => true
  | .schNextRead core => lt 4 core
  | .schEndWrite core => lt 4 core
  | .schNopreemptWrite core _ => lt 4 core
  | .npSpanOver core => lt 4 core
  | .schCoreCtrlWrite core value => lt 4 core && fits 32 value
  | .schTaskDisable task => fits 10 task
  | .spillRefill level _ => lt 16 level
  | .itemAgeStep level => lt 16 level
  | .periodicSlotEnable k value => lt 64 k && fits 32 value
  | .periodicRelease k => lt 64 k
  | .deadlineMiss k => lt 64 k
  | .standstill => true
  | .schTraceMarkWrite agent value => isAgent agent && fits 32 value
  | .mtimeTimerInterrupt core => lt 4 core
  | .mtimecmpWrite core _ value => lt 4 core && fits 32 value
  | .schMsipWrite value => fits 32 value
  | .dmaGo c => lt 16 c
  | .dmaUnitTransfer f1 p1 a1 f2 p2 a2 f3 p3 a3 => fits 160 f1 && fits 160 p1 && fits 160 a1 && fits 160 f2 && fits 160 p2 && fits 160 a2 && fits 160 f3 && fits 160 p3 && fits 160 a3
  | .dmaResume c => lt 16 c
  | .dmaSkip c => lt 16 c
  | .dmaAbort c => lt 16 c
  | .mbxDataWrite agent m j value => isAgent agent && lt 16 m && lt 8 j && fits 32 value
  | .mbxSend agent m => isAgent agent && lt 16 m
  | .mbxAck m => lt 16 m
  | .mbxLockRead agent m => isAgent agent && lt 16 m
  | .mbxLockWrite agent m value => isAgent agent && lt 16 m && fits 32 value
  | .lockLeaseLapse m => lt 16 m
  | .mbxLockForce agent m => isAgent agent && lt 16 m
  | .fenceWrite agent row reg value => isAgent agent && lt 16 row && lt 3 reg && fits 32 value
  | .quietAliasWrite agent addr => isAgent agent && isQuiet addr
  | .loftRelease => true
  | .uartStartEdge _ => true
  | .uartCharRx data _ _ => fits 8 data
  | .uartTxWrite data => fits 8 data
  | .uartRxRead => true
  | .debugHalt core => lt 4 core
  | .debugResume core => lt 4 core
  | .debugAbstractCommand core command data => lt 4 core && fits 32 command && fits 32 data
  | .debugSysbusAccess _ _ k addr data _ err f p a => lt 8 k && fits 32 addr && fits 32 data && lt 3 err && fits 160 f && fits 160 p && fits 160 a
  | .ndmreset => true
  | .idcode chip => lt 49 chip
  | .samplePreload chip _ _ => lt 49 chip
  | .extest chip _ _ => lt 49 chip
  | .clamp chip => lt 49 chip
  | .highz chip => lt 49 chip
  | .bypass chip code => lt 49 chip && isBypass code
  | .dtmcs chip => lt 49 chip
  | .dmi chip op addr data => lt 49 chip && lt 4 op && fits 7 addr && fits 32 data
  | .tapReset chip => lt 49 chip
  | .tickCountAlign => true
  | .pairHeartbeatSend => true
  | .pairHeartbeatRx hdr ws => fits 64 hdr && areWords ws
  | .partnerLost => true
  | .pairDecisionRx hdr ws => fits 64 hdr && areWords ws
  | .pairAnchorRx hdr ws => fits 64 hdr && areWords ws
  | .anchorWaitExpiry => true
  | .pairThetaRx hdr ws => fits 64 hdr && areWords ws
  | .epochNoteRx hdr ws => fits 64 hdr && areWords ws
  | .pairDigestRx hdr ws => fits 64 hdr && areWords ws
  | .digestEntryExpiry => true
  | .joinRequestRx hdr ws => fits 64 hdr && areWords ws
  | .joinAtRx hdr ws => fits 64 hdr && areWords ws
  | .joinSeqRx hdr ws => fits 64 hdr && areWords ws
  | .pairFwRx hdr ws => fits 64 hdr && areWords ws
  | .pairRejoin => true
  | .pairGoAlone => true
  | .pairMuteWrite _ => true
  | .pairEnWrite _ => true
  | .pairClaimWrite value => fits 32 value
  | .dictRead err _ => lt 3 err
  | .dictWrite err _ => lt 3 err
  | .usdoDownload node cmd index sub data _ _ => lt 128 node && fits 8 cmd && fits 16 index && fits 8 sub && areBytes data
  | .usdoUpload node cmd index sub _ _ => lt 128 node && fits 8 cmd && fits 16 index && fits 8 sub
  | .usdoTimeout node => lt 128 node
  | .rpdoInband err => lt 3 err
  | .canRpdoRx n data => lt 4 n && areBytes data
  | .canSyncRx _ => true
  | .tpdoEvent n _ => lt 4 n
  | .canHeartbeatSend _ => true
  | .nmtStart => true
  | .nmtStop => true
  | .nmtEnterPreoperational => true
  | .nmtResetNode => true
  | .nmtResetCommunication => true
  | .canAckError => true
  | .busOffRecovery => true
  | .imageDataWrite node off data _ _ => lt 128 node && fits 32 off && areBytes data
  | .imageOwnerTimeout => true
  | .dictWarmReset => true
  | .envGo => true
  | .envTimerSweep => true
  | .envConversionDone vp vn => fits 64 vp && fits 64 vn
  | .envRefWrite _ => true
  | .envRefReady => true
  | .envRangeWrite ch range => lt 16 ch && lt 4 range
  | .rangeSwitch ch => lt 16 ch
  | .rangeRampDone ch => lt 16 ch
  | .openDetect ch => lt 16 ch
  | .openClear ch => lt 16 ch
  | .probeClampEngage ch => lt 16 ch
  | .probeClampRelease ch => lt 16 ch
  | .sourceFed ch => lt 16 ch
  | .envRetry ch => lt 16 ch
  | .contendSet a b => lt 16 a && lt 16 b
  | .contendClear a b => lt 16 a && lt 16 b
  | .ilReqWrite agent k value => isAgent agent && lt 4 k && fits 32 value
  | .envKickWrite agent => isAgent agent
  | .kickExpiry => true
  | .resultAgeExpiry => true
  | .ilOvertemp k => lt 4 k
  | .ilOvertempClear k => lt 4 k
  | .ilShort k => lt 4 k
  | .vinUvloRelease => true
  | .vinUvloAssert => true
  | .vinOvloAssert => true
  | .vinOvloRelease => true
  | .vintRegulation rise => fits 20 rise
  | .railStart rise => fits 20 rise
  | .pgRelease => true
  | .railFault rail => lt 5 rail
  | .powerStageOvertemp => true
  | .powerRestart _ => true
  | .vinBelow12v => true
  | .pwrMeasure vin iin _ _ pdie cdie ok flags => fits 16 vin && fits 16 iin && fits 16 pdie && fits 16 cdie && fits 4 ok && fits 4 flags
  | .resetNAssert => true
  | .sysResetWarm agent => isAgent agent
  | .resetAssert => true
  | .selfTestStart => true
  | .xoInPresent _ _ checks queues engs counts => fits 6 checks && fits 16 queues && fits 16 engs && areWords counts
  | .selfTestComplete => true
  | .firmwareLoaded _ _ => true
  | .autoRunEntry => true
  | .watchdogKick agent => isAgent agent
  | .watchdogExpiry => true
  | .sysFatalEnter agent code => isAgent agent && fits 16 code
  | .fatalTimer => true
  | .fatalRunClear => true
  | .tladonPorRelease port => lt 48 port
  | .tladonRailDrop port => lt 48 port
  | .registerWrite agent addr value => isAgent agent && isNormal addr && fits 32 value
  | .uplinkBlockSend port k offset => lt 48 port && lt 4 k && fits 9 offset
  | .surveyInEdge port raw => lt 48 port && lt 384 raw
  | .registerRead agent addr err => isAgent agent && isReg addr && lt 3 err
  | .coreMemoryAccess n kind k _ addr data rd err f p a => lt 4 n && lt 14 kind && lt 3 k && fits 32 addr && fits 32 data && lt 32 rd && lt 3 err && fits 160 f && fits 160 p && fits 160 a
  | .canBusError _ _ => true
  | .canExtendedFrameRx => true
  | .plLockSet => true
  | .plLockClear => true
  | .uartCharTxDone => true
  | .norImageCopyDone => true
  | .schWindowPublish _ => true

end Sys2Proof
end

