-- ==== Sys2Proof/Safety.lean ====
section
/-! DEFINITION. What counts as a safe run, in the terms the statements use: canonical data, the parts of the
state a command may change, and what every command leaves in order. -/

namespace Sys2Proof.Machine

open Sys2Proof

/-- Memory is in canonical form: addresses strictly rising and no zero byte listed (log entry 8). -/
def Memory.wf (m : List Host.Cell) : Bool := SMap.sorted m && m.all fun c => c.2 != 0

/-- Wonan's memory and register file are in canonical form. -/
def State.Canon (s : State) : Prop := Memory.wf s.mem = true ∧ SMap.sorted s.wr = true

/-- The parts of the state, one per field. -/
inductive Part where
  | pending | freeCnt | now | out | wr | tl | variant | wclk | mtime0 | mem | mer | tri | lanes | ports
  | dlinks | sch | cores | queues | image | pair | mus | cmp | eth | mems | canid | can | gov | sys | mbx
  | env | pwr | dbg | taps | held
  deriving DecidableEq, Repr

/-- A part is the same in two states. -/
def Part.same : Part → State → State → Prop
  | .pending, s, t => t.pending = s.pending
  | .freeCnt, s, t => t.freeCnt = s.freeCnt
  | .now, s, t => t.now = s.now
  | .out, s, t => t.out = s.out
  | .wr, s, t => t.wr = s.wr
  | .tl, s, t => t.tl = s.tl
  | .variant, s, t => t.variant = s.variant
  | .wclk, s, t => t.wclk = s.wclk
  | .mtime0, s, t => t.mtime0 = s.mtime0
  | .mem, s, t => t.mem = s.mem
  | .mer, s, t => t.mer = s.mer
  | .tri, s, t => t.tri = s.tri
  | .lanes, s, t => t.lanes = s.lanes
  | .ports, s, t => t.ports = s.ports
  | .dlinks, s, t => t.dlinks = s.dlinks
  | .sch, s, t => t.sch = s.sch
  | .cores, s, t => t.cores = s.cores
  | .queues, s, t => t.queues = s.queues
  | .image, s, t => t.image = s.image
  | .pair, s, t => t.pair = s.pair
  | .mus, s, t => t.mus = s.mus
  | .cmp, s, t => t.cmp = s.cmp
  | .eth, s, t => t.eth = s.eth
  | .mems, s, t => t.mems = s.mems
  | .canid, s, t => t.canid = s.canid
  | .can, s, t => t.can = s.can
  | .gov, s, t => t.gov = s.gov
  | .sys, s, t => t.sys = s.sys
  | .mbx, s, t => t.mbx = s.mbx
  | .env, s, t => t.env = s.env
  | .pwr, s, t => t.pwr = s.pwr
  | .dbg, s, t => t.dbg = s.dbg
  | .taps, s, t => t.taps = s.taps
  | .held, s, t => t.held = s.held

/-- Nothing but the listed parts differs. -/
def OnlyParts (l : List Part) (s t : State) : Prop := ∀ p, p ∉ l → p.same s t

/-- What no command of the block disturbs: canonical data stay canonical, what has left the pins stays in the
list, and free values are taken in order. -/
structure Orderly (s t : State) : Prop where
  canon : s.Canon → t.Canon
  out : s.out <+: t.out
  free : s.freeCnt ≤ t.freeCnt

/-- No register field of Wonan but the listed ones reads differently. -/
def OnlyRegs (l : List Fld) (s t : State) : Prop := ∀ f : Fld, (∀ g ∈ l, f.key ≠ g.key) → t.wget f = s.wget f

/-- No register field of a Tladon but the listed ones reads differently. -/
def OnlyTlRegs (l : List Fld) (s t : Tladon) : Prop := ∀ f : Fld, (∀ g ∈ l, f.key ≠ g.key) → t.get f = s.get f

/-- The register fields that show the sources, the sweeps and the outputs of the environment block. -/
def envShown : List Fld :=
  (List.range 16).map WR.ENV_CH_STATUS_DRIVING ++
  (List.range 4).flatMap (fun k => [WR.ENV_IL_STATUS_PERMIT k, WR.ENV_IL_STATUS_ON k, WR.ENV_IL_STATUS_CAUSE k,
    WR.ENV_IL_CNT_DROPS k, WR.ENV_IL_CTRL_REQ k]) ++
  [WR.ENV_SWEEP_BUSY, WR.ENV_STATUS_EXC_LIVE, WR.ENV_STATUS_ANY_FAULT, WR.ENV_STATUS_IL_ON]

/-- In `z` the sources, the sweeps and the outputs of the environment block follow what `s` holds (R605, R606,
R614, R615), and nothing else differs from `s`. -/
structure EnvShown (s z : State) : Prop where
  regs : OnlyRegs envShown s z
  parts : OnlyParts [.wr, .env] s z
  drives : ∀ n < 16, z.won (WR.ENV_CH_STATUS_DRIVING n) = s.envDrives n
  permit : ∀ k < 4, z.won (WR.ENV_IL_STATUS_PERMIT k) = (s.ilRule k == 0)
  conducts : ∀ k < 4, z.won (WR.ENV_IL_STATUS_ON k) = true ↔
    s.isRun = true ∧ s.won (WR.ENV_IL_CTRL_REQ k) = true ∧ s.ilRule k = 0 ∧ s.won (WR.ENV_IL_STATUS_OVERTEMP k) = false
  drops : ∀ k < 4, s.won (WR.ENV_IL_STATUS_ON k) = true → z.won (WR.ENV_IL_STATUS_ON k) = false →
    z.wget (WR.ENV_IL_STATUS_CAUSE k) = s.ilFails k ∧
    z.wget (WR.ENV_IL_CNT_DROPS k) = min (s.wget (WR.ENV_IL_CNT_DROPS k) + 1) 65535 ∧
    (s.won (WR.ENV_IL_CTRL_LATCH k) = true → s.won (WR.ENV_IL_CTRL_REQ k) = true → z.won (WR.ENV_IL_CTRL_REQ k) = false)
  live : z.won WR.ENV_STATUS_EXC_LIVE = s.envLive
  sweep : (s.env.conv = none ∨ s.envSweeps = true → z.env = s.env) ∧ (s.envSweeps = false → z.env.conv = none)

/-- The parts of a Tladon, one per field. -/
inductive TlPart where
  | tl512t | straps | powered | regs | clk | epoch | holdAt | obeyed | sched | linkDue | dls | ups | chans
  | ints | gate | arm | computing | res | cal | samps | refAt | sweep | monFrames | sampNext | pad
  deriving DecidableEq, Repr

/-- A part is the same in two Tladons. -/
def TlPart.same : TlPart → Tladon → Tladon → Prop
  | .tl512t, t, u => u.tl512t = t.tl512t
  | .straps, t, u => u.straps = t.straps
  | .powered, t, u => u.powered = t.powered
  | .regs, t, u => u.regs = t.regs
  | .clk, t, u => u.clk = t.clk
  | .epoch, t, u => u.epoch = t.epoch
  | .holdAt, t, u => u.holdAt = t.holdAt
  | .obeyed, t, u => u.obeyed = t.obeyed
  | .sched, t, u => u.sched = t.sched
  | .linkDue, t, u => u.linkDue = t.linkDue
  | .dls, t, u => u.dls = t.dls
  | .ups, t, u => u.ups = t.ups
  | .chans, t, u => u.chans = t.chans
  | .ints, t, u => u.ints = t.ints
  | .gate, t, u => u.gate = t.gate
  | .arm, t, u => u.arm = t.arm
  | .computing, t, u => u.computing = t.computing
  | .res, t, u => u.res = t.res
  | .cal, t, u => u.cal = t.cal
  | .samps, t, u => u.samps = t.samps
  | .refAt, t, u => u.refAt = t.refAt
  | .sweep, t, u => u.sweep = t.sweep
  | .monFrames, t, u => u.monFrames = t.monFrames
  | .sampNext, t, u => u.sampNext = t.sampNext
  | .pad, t, u => u.pad = t.pad

/-- Nothing but the listed parts of a Tladon differs. -/
def OnlyTlParts (l : List TlPart) (t u : Tladon) : Prop := ∀ p, p ∉ l → p.same t u

/-- Nothing but the Tladon of one port differs. -/
def OnlyTladon (p : Nat) (s t : State) : Prop :=
  OnlyParts [.tl] s t ∧ ∀ q, q ≠ p → t.tladon q = s.tladon q

/-- The parts of the state that a command may change; every other part is as before. -/
def touches : Instr → List Part
  | .tladonPllLock .. | .tladonPllLockLost .. | .epoch .. | .epochTakeEffect .. | .holdoverLimit ..
  | .discriminatorLeadingEdge .. | .discriminatorTrailingEdge .. | .totSaturation .. | .hitWordComplete ..
  | .channelRearm .. | .clampEngage .. | .clampRelease .. | .chCfgWrite .. | .chThrWrite ..
  | .settlingEnd .. | .configScrub .. | .intervalStartEdge .. | .intervalStopEdge .. | .intervalTimeout ..
  | .chnIntWrite .. | .surveyStart .. | .surveyArm .. | .surveyGateOpen .. | .surveyAbort ..
  | .surveyCfgWrite .. | .surveyGateEnd .. | .surveyResult .. | .ditherConversion .. | .calSwap ..
  | .calRetire .. | .calTimeout .. | .calCtrlWrite .. | .sampRefWrite .. | .sampRefReady ..
  | .sampEnWrite .. | .sampCfgWrite .. | .sampArm .. | .sampForce .. | .sampDisarm .. | .pulseWidthEvent ..
  | .sampTimerEvent .. | .sampTriggerTick .. | .sampFreeze .. | .sampWordOffer .. | .sampHoldoffEnd ..
  | .sampTrimWrite .. | .monGo .. | .monTimerSweep .. | .monConversionDone .. | .hitQueueDrain ..
  | .slotClose .. | .slotRelease .. | .acceptTakeEffect .. | .fragmentBuild .. | .tladonFrameBoundary ..
  | .padCtrlWrite .. | .padHoldChange .. | .padConfigWrite .. | .primitiveForm .. | .tladonDlCdrLock ..
  | .tladonDlCdrLoss .. | .monSweep .. | .hold .. | .release .. | .stateListen .. | .stateConfigure ..
  | .stateAcquire .. | .stateQuiet .. | .stateAcquireEffect .. | .stateConfigureEffect ..
  | .quietPowerDown .. | .reset .. | .claim .. | .replay .. | .relink .. | .claimExpiry .. | .obeyChange ..
  | .poweredToListening .. | .linkCfgWrite .. | .tladonPorRelease .. | .tladonRailDrop ..
  | .surveyInEdge .. => [.tl]
  | .markerSend .. => [.out, .tri]
  | .triStampRx .. | .frameHeadRx .. => [.out, .wr, .tri, .pair]
  | .triStampMissed .. | .triCtrlWrite .. | .triAlphaWrite .. | .triKdownWrite .. | .triKupWrite ..
  | .epochDoneRx .. => [.wr, .tri]
  | .hitWordRx .. => [.freeCnt, .wr, .mus, .mems]
  | .wonanFrameBoundary .. | .merStepApply .. => [.out, .wr, .mer, .pair]
  | .clkswRx .. | .holdWordRx .. => [.wr, .tri, .ports]
  | .merRateHiWrite .. | .merStep .. | .ppsInEdge .. => [.mer]
  | .merAdjWrite .. | .adjCancel .. | .merLock .. | .merRelock .. | .merSrcWrite .. | .syncLost ..
  | .merPtpParentPortWrite .. | .synceLost .. | .refLost .. | .ppsLost .. | .txStampCapture ..
  | .merTxtsIdRead .. | .txStampAgeOut .. | .alarmArm .. => [.wr, .mer]
  | .merStepNsWrite .. | .merAlarmParamWrite .. | .cmpEngEnWrite .. | .cmpReenable .. | .cmpReenableDone ..
  | .cmpBypassWrite .. | .groomEnWrite .. | .npSpanOver .. | .fenceWrite .. | .loftRelease ..
  | .pairMuteWrite .. | .envRefReady .. | .ilShort .. | .vinBelow12v .. | .pwrMeasure ..
  | .fatalRunClear .. | .canBusError .. | .plLockSet .. | .plLockClear .. => [.wr]
  | .ppsOutPulse .. => [.out, .mer]
  | .ptpFrameRx .. | .epFrameRx .. => [.out, .wr, .mer, .sch, .queues, .can]
  | .alarmFire .. => [.out, .wr, .mer, .ports, .dlinks, .sch, .pair, .env]
  | .walkTableWrite .. => [.wr, .mem]
  | .primitiveWindow .. | .uplinkBlockSend .. => [.out, .tl]
  | .rsBlockRx .. => [.wr, .tri, .lanes, .dlinks, .mus]
  | .replayNackRx .. | .laneCdrLoss .. => [.wr, .lanes, .mus]
  | .laneIdRx .. => [.wr, .lanes, .ports, .dlinks, .mus]
  | .laneCdrLock .. | .primitiveWindowRx .. | .ingLaneClear .. => [.wr, .lanes, .dlinks, .mus]
  | .attachEpoch .. => [.out, .wr, .ports, .dlinks, .pair]
  | .portAttachWrite .. => [.wr, .ports, .dlinks]
  | .portDetachWrite .. => [.wr, .ports, .dlinks, .mus]
  | .portDetached .. | .stateWordRx .. => [.wr, .ports, .mus]
  | .downlinkCellRx .. | .regWrite .. | .regRead .. | .regPeek .. => [.freeCnt, .tl]
  | .regDataRx .. => [.out, .wr, .ports, .dlinks, .cores, .eth, .can, .dbg]
  | .claimSend .. => [.dlinks]
  | .downlinkCommandSlot .. => [.out, .wr, .tri, .ports, .dlinks]
  | .proxyLoad .. | .proxyStore .. => [.out, .dlinks]
  | .proxyTimeout .. => [.out, .wr, .dlinks, .cores, .eth, .can, .dbg]
  | .tlDecisionRx .. | .selfTriggerAccept .. => [.out, .wr, .pair, .mus]
  | .acceptForward .. | .poCellRelease .. => [.out, .wr, .mus]
  | .selfTriggerContentTest .. | .fragHeadRx .. | .fragTailRx .. | .streamEndRx .. | .eventDeadline ..
  | .candidateComplete .. | .horizonExpiry .. | .musViewSelWrite .. | .musViewDataRead ..
  | .primitiveCapture .. => [.wr, .mus]
  | .streamHeadRx .. | .stallRelease .. => [.mus]
  | .eventCommit .. | .anchorWaitExpiry .. | .joinSeqRx .. =>
    [.freeCnt, .out, .wr, .sch, .queues, .pair, .mus, .mems, .can]
  | .queueWrite .. | .queueRead .. | .qWtagWrite .. => [.out, .wr, .sch, .queues, .can]
  | .queueFlush .. | .queueStagedWrite .. => [.wr, .sch, .queues]
  | .cmpDispatch .. => [.freeCnt, .out, .wr, .sch, .queues, .cmp, .mems, .can]
  | .cmpFormDone .. | .formerRecordDone .. => [.freeCnt, .wr, .mus, .cmp]
  | .cmpStoredDone .. => [.freeCnt, .wr, .mus, .cmp, .mems]
  | .cmpReorderRelease .. => [.out, .wr, .sch, .queues, .cmp, .can]
  | .cmpRatioWindow .. => [.freeCnt, .wr, .cmp]
  | .portLinkUp .. => [.out, .wr, .eth]
  | .portLinkDown .. | .steerBoundary .. => [.wr, .eth]
  | .recordSteer .. => [.freeCnt, .out, .wr, .sch, .queues, .cmp, .eth, .mems, .can]
  | .datagramSent .. => [.out, .wr, .sch, .queues, .eth, .can]
  | .steerAdd .. | .steerRemove .. | .steerCommit .. | .steerOpInvalid .. | .portLinkTimeout .. =>
    [.wr, .sch, .queues, .eth]
  | .paceRingSample .. | .degradedRecoverStep .. => [.out, .wr, .dlinks, .can, .gov, .sys, .env]
  | .shedStep .. | .holdCycleToggle .. => [.wr, .dlinks, .gov]
  | .admCheck .. | .admStore .. | .admStoreDone .. | .admReload .. => [.wr, .sys]
  | .admissionChecksDone .. =>
    [.freeCnt, .out, .wr, .mer, .tri, .lanes, .ports, .dlinks, .sch, .cores, .queues, .image, .pair, .mus,
      .cmp, .eth, .mems, .can, .gov, .sys, .mbx, .env]
  | .admRun .. | .autoRunEntry .. =>
    [.out, .wr, .ports, .dlinks, .sch, .queues, .pair, .mus, .eth, .can, .gov, .sys, .env]
  | .admStop .. =>
    [.out, .wr, .ports, .dlinks, .sch, .queues, .pair, .mus, .cmp, .eth, .can, .gov, .sys, .env]
  | .groomVisit .. | .groomConfirmVisit .. => [.wr, .mem, .mems]
  | .memFarDataWrite .. | .memLogRead .. => [.wr, .mems]
  | .schSetflagWrite .. | .unitEventRoute .. | .schPost .. | .schNextRead .. | .schEndWrite ..
  | .schNopreemptWrite .. | .schCoreCtrlWrite .. | .schTaskDisable .. | .itemAgeStep ..
  | .periodicSlotEnable .. | .periodicRelease .. | .deadlineMiss .. | .standstill ..
  | .schTraceMarkWrite .. | .dmaGo .. | .dmaResume .. | .dmaSkip .. | .dmaAbort .. | .schWindowPublish .. =>
    [.wr, .sch]
  | .schReserve .. => [.sch]
  | .spillRefill .. => [.freeCnt, .wr, .sch, .mems]
  | .mtimeTimerInterrupt .. => [.cores]
  | .mtimecmpWrite .. | .schMsipWrite .. => [.wr, .cores]
  | .dmaUnitTransfer .. => [.out, .wr, .mem, .sch, .cores, .mems, .can, .sys, .mbx, .env]
  | .mbxDataWrite .. | .mbxAck .. | .mbxLockWrite .. | .lockLeaseLapse .. | .mbxLockForce ..
  | .uartStartEdge .. | .uartCharRx .. | .uartRxRead .. => [.wr, .mbx]
  | .mbxSend .. | .pairFwRx .. => [.out, .wr, .pair, .mbx]
  | .mbxLockRead .. | .uartTxWrite .. | .uartCharTxDone .. => [.out, .wr, .mbx]
  | .quietAliasWrite .. => [.out, .cores, .dbg]
  | .debugHalt .. => [.sch, .cores, .sys]
  | .debugResume .. => [.cores, .sys]
  | .debugAbstractCommand .. => [.freeCnt, .cores, .dbg]
  | .debugSysbusAccess .. | .coreMemoryAccess .. =>
    [.freeCnt, .out, .wr, .mem, .mer, .tri, .lanes, .ports, .dlinks, .sch, .cores, .queues, .pair, .mus,
      .cmp, .eth, .mems, .can, .gov, .sys, .mbx, .env, .dbg, .held]
  | .ndmreset .. | .resetNAssert .. | .sysResetWarm .. | .watchdogKick .. | .fatalTimer .. => [.sys]
  | .idcode .. => [.freeCnt, .wr, .taps]
  | .samplePreload .. | .extest .. | .clamp .. | .highz .. | .bypass .. | .dtmcs .. => [.wr, .taps]
  | .dmi .. =>
    [.freeCnt, .out, .wr, .mem, .mer, .tri, .lanes, .ports, .dlinks, .sch, .cores, .queues, .pair, .mus,
      .cmp, .eth, .mems, .can, .gov, .sys, .mbx, .env, .dbg, .taps, .held]
  | .tapReset .. => [.taps]
  | .tickCountAlign .. => [.out, .wr, .wclk, .mer, .tri, .lanes, .ports, .dlinks, .pair, .mus]
  | .pairHeartbeatSend .. => [.out, .pair]
  | .pairHeartbeatRx .. => [.out, .wr, .dlinks, .pair, .gov]
  | .partnerLost .. => [.wr, .dlinks, .pair, .gov]
  | .pairDecisionRx .. => [.wr, .pair, .mus]
  | .pairAnchorRx .. | .pairThetaRx .. | .digestEntryExpiry .. | .joinAtRx .. => [.wr, .pair]
  | .epochNoteRx .. => [.wr, .tri, .ports, .pair]
  | .pairDigestRx .. => [.out, .wr, .pair, .can]
  | .joinRequestRx .. => [.out, .wr, .pair]
  | .pairRejoin .. => [.out, .wr, .dlinks, .pair, .mus]
  | .pairGoAlone .. => [.wr, .dlinks, .pair]
  | .pairEnWrite .. => [.out, .wr, .dlinks, .pair, .can, .sys, .env]
  | .pairClaimWrite .. => [.wr, .dlinks]
  | .dictRead .. | .dictWrite .. | .usdoDownload .. | .usdoUpload .. | .rpdoInband .. | .imageDataWrite .. =>
    [.freeCnt, .out, .wr, .mem, .mer, .tri, .lanes, .ports, .dlinks, .sch, .cores, .queues, .pair, .mus,
      .cmp, .eth, .mems, .can, .gov, .sys, .mbx, .env, .held]
  | .usdoTimeout .. => [.out, .wr, .eth, .can]
  | .canRpdoRx .. =>
    [.freeCnt, .out, .wr, .mer, .tri, .lanes, .ports, .dlinks, .sch, .cores, .queues, .pair, .mus, .cmp,
      .eth, .mems, .can, .gov, .sys, .mbx, .env]
  | .canSyncRx .. =>
    [.freeCnt, .out, .wr, .mer, .tri, .lanes, .ports, .dlinks, .sch, .cores, .queues, .pair, .mus, .cmp,
      .eth, .mems, .can, .gov, .sys, .mbx, .env, .held]
  | .tpdoEvent .. => [.freeCnt, .out, .wr, .mer, .sch, .queues, .mus, .mems, .can, .mbx, .held]
  | .canHeartbeatSend .. | .busOffRecovery .. => [.out, .wr, .can]
  | .nmtStart .. | .nmtStop .. | .nmtEnterPreoperational .. | .canExtendedFrameRx .. => [.freeCnt, .wr]
  | .nmtResetNode .. => [.freeCnt, .out, .wr, .can, .sys]
  | .nmtResetCommunication .. => [.freeCnt, .out, .wr, .can]
  | .canAckError .. => [.wr, .can]
  | .imageOwnerTimeout .. => [.can]
  | .dictWarmReset .. => [.can, .sys]
  | .envGo .. | .envTimerSweep .. | .envConversionDone .. | .envRefWrite .. | .envRangeWrite ..
  | .rangeSwitch .. | .rangeRampDone .. | .openDetect .. | .openClear .. | .probeClampEngage ..
  | .sourceFed .. | .envRetry .. | .contendSet .. | .contendClear .. | .ilReqWrite .. | .envKickWrite ..
  | .kickExpiry .. | .resultAgeExpiry .. | .ilOvertemp .. | .ilOvertempClear .. => [.wr, .env]
  | .probeClampRelease .. => [.env]
  | .vinUvloRelease .. | .powerRestart .. => [.sys, .pwr]
  | .vinUvloAssert .. | .vinOvloAssert .. | .railFault .. | .powerStageOvertemp .. => [.wr, .sys, .pwr]
  | .vinOvloRelease .. => [.freeCnt, .sys, .pwr]
  | .vintRegulation .. | .railStart .. => [.pwr]
  | .pgRelease .. => [.wr, .pwr]
  | .resetAssert .. =>
    [.out, .wr, .wclk, .mtime0, .mem, .mer, .tri, .lanes, .ports, .dlinks, .sch, .cores, .queues, .image,
      .pair, .mus, .cmp, .eth, .mems, .can, .gov, .sys, .mbx, .env, .dbg, .taps, .held]
  | .selfTestStart .. => [.out, .wr, .mtime0, .sch, .queues, .can, .sys, .env]
  | .xoInPresent .. | .norImageCopyDone .. => [.wr, .mem, .mems, .sys]
  | .selfTestComplete .. =>
    [.out, .wr, .ports, .dlinks, .sch, .cores, .queues, .pair, .mus, .cmp, .eth, .mems, .can, .gov, .sys,
      .env]
  | .firmwareLoaded .. => [.wr, .mem, .cores, .mems, .sys]
  | .watchdogExpiry .. | .sysFatalEnter .. =>
    [.out, .wr, .ports, .dlinks, .pair, .mus, .cmp, .eth, .can, .gov, .sys, .env]
  | .registerWrite .. =>
    [.out, .wr, .mer, .tri, .lanes, .ports, .dlinks, .sch, .cores, .queues, .pair, .mus, .cmp, .eth, .mems,
      .can, .gov, .sys, .mbx, .env, .dbg]
  | .registerRead .. =>
    [.freeCnt, .out, .wr, .mer, .sch, .cores, .queues, .mus, .mems, .can, .mbx, .dbg, .held]

/-- The port whose Tladon a command addresses. -/
def tlPort : Instr → Option Nat
  | .tladonPllLock p .. | .tladonPllLockLost p .. | .epoch p .. | .epochTakeEffect p ..
  | .holdoverLimit p .. | .discriminatorLeadingEdge p .. | .discriminatorTrailingEdge p ..
  | .totSaturation p .. | .hitWordComplete p .. | .channelRearm p .. | .clampEngage p ..
  | .clampRelease p .. | .chCfgWrite p .. | .chThrWrite p .. | .settlingEnd p .. | .configScrub p ..
  | .intervalStartEdge p .. | .intervalStopEdge p .. | .intervalTimeout p .. | .chnIntWrite p ..
  | .surveyStart p .. | .surveyArm p .. | .surveyGateOpen p .. | .surveyAbort p ..
  | .surveyCfgWrite p .. | .surveyGateEnd p .. | .surveyResult p .. | .ditherConversion p ..
  | .calSwap p .. | .calRetire p .. | .calTimeout p .. | .calCtrlWrite p .. | .sampRefWrite p ..
  | .sampRefReady p .. | .sampEnWrite p .. | .sampCfgWrite p .. | .sampArm p .. | .sampForce p ..
  | .sampDisarm p .. | .pulseWidthEvent p .. | .sampTimerEvent p .. | .sampTriggerTick p ..
  | .sampFreeze p .. | .sampWordOffer p .. | .sampHoldoffEnd p .. | .sampTrimWrite p .. | .monGo p ..
  | .monTimerSweep p .. | .monConversionDone p .. | .hitQueueDrain p .. | .slotClose p ..
  | .slotRelease p .. | .acceptTakeEffect p .. | .fragmentBuild p .. | .tladonFrameBoundary p ..
  | .padCtrlWrite p .. | .padHoldChange p .. | .padConfigWrite p .. | .primitiveForm p ..
  | .primitiveWindow p .. | .downlinkCellRx p .. | .tladonDlCdrLock p .. | .tladonDlCdrLoss p ..
  | .regWrite p .. | .regRead p .. | .regPeek p .. | .monSweep p .. | .hold p .. | .release p ..
  | .stateListen p .. | .stateConfigure p .. | .stateAcquire p .. | .stateQuiet p ..
  | .stateAcquireEffect p .. | .stateConfigureEffect p .. | .quietPowerDown p .. | .reset p ..
  | .claim p .. | .replay p .. | .relink p .. | .claimExpiry p .. | .obeyChange p ..
  | .poweredToListening p .. | .linkCfgWrite p .. | .tladonPorRelease p .. | .tladonRailDrop p ..
  | .uplinkBlockSend p .. | .surveyInEdge p .. => some p
  | _ => none

/-- The parts of that Tladon that the command may change. -/
def tlTouches : Instr → List TlPart
  | .tladonPllLock .. => [.regs, .clk, .epoch, .holdAt, .ups]
  | .tladonPllLockLost .. => [.regs, .epoch, .holdAt]
  | .epoch .. => [.regs, .epoch]
  | .epochTakeEffect .. => [.regs, .clk, .epoch, .ups, .gate, .samps]
  | .holdoverLimit .. =>
    [.regs, .epoch, .holdAt, .sched, .ups, .chans, .ints, .gate, .arm, .samps, .sweep, .pad]
  | .discriminatorLeadingEdge .. | .intervalStartEdge .. | .intervalStopEdge .. =>
    [.regs, .chans, .ints, .gate, .pad]
  | .discriminatorTrailingEdge .. => [.chans, .pad]
  | .totSaturation .. | .channelRearm .. | .clampRelease .. | .settlingEnd .. => [.chans]
  | .hitWordComplete .. | .hitQueueDrain .. => [.regs, .chans, .pad]
  | .clampEngage .. | .chThrWrite .. => [.regs, .chans]
  | .chCfgWrite .. | .intervalTimeout .. | .chnIntWrite .. => [.regs, .chans, .ints, .pad]
  | .configScrub .. | .surveyCfgWrite .. | .sampRefReady .. | .padConfigWrite .. => [.regs]
  | .surveyStart .. | .surveyArm .. | .surveyGateOpen .. => [.regs, .gate, .arm]
  | .surveyAbort .. => [.regs, .gate]
  | .surveyGateEnd .. => [.regs, .gate, .arm, .computing]
  | .surveyResult .. => [.regs, .computing, .res]
  | .ditherConversion .. | .calSwap .. | .calTimeout .. | .calCtrlWrite .. => [.regs, .cal]
  | .calRetire .. => [.cal]
  | .sampRefWrite .. => [.regs, .samps, .refAt]
  | .sampEnWrite .. | .sampCfgWrite .. | .sampArm .. | .sampForce .. | .sampDisarm .. | .pulseWidthEvent ..
  | .sampTimerEvent .. | .sampTriggerTick .. | .sampFreeze .. | .sampHoldoffEnd .. | .sampTrimWrite .. =>
    [.regs, .samps]
  | .sampWordOffer .. => [.regs, .ups, .samps, .sampNext]
  | .monGo .. | .monSweep .. => [.regs, .sweep]
  | .monTimerSweep .. => [.regs, .sweep, .monFrames]
  | .monConversionDone .. => [.regs, .ups, .sweep]
  | .slotClose .. | .fragmentBuild .. | .uplinkBlockSend .. => [.regs, .ups, .pad]
  | .slotRelease .. | .primitiveForm .. => [.pad]
  | .acceptTakeEffect .. | .padCtrlWrite .. | .padHoldChange .. | .primitiveWindow .. | .hold ..
  | .release .. => [.regs, .pad]
  | .tladonFrameBoundary .. => [.regs, .linkDue, .ups, .pad]
  | .downlinkCellRx .. =>
    [.regs, .epoch, .sched, .linkDue, .dls, .ups, .chans, .ints, .gate, .arm, .cal, .samps, .refAt, .sweep,
      .monFrames, .pad]
  | .tladonDlCdrLock .. => [.dls]
  | .tladonDlCdrLoss .. | .claim .. | .claimExpiry .. => [.regs, .dls]
  | .regWrite .. =>
    [.regs, .linkDue, .ups, .chans, .ints, .gate, .arm, .cal, .samps, .refAt, .sweep, .monFrames, .pad]
  | .regRead .. | .regPeek .. | .replay .. | .relink .. => [.regs, .ups]
  | .stateListen .. | .stateConfigure .. | .stateQuiet .. | .stateAcquireEffect ..
  | .stateConfigureEffect .. | .poweredToListening .. =>
    [.regs, .sched, .ups, .chans, .ints, .gate, .arm, .samps, .sweep, .pad]
  | .stateAcquire .. | .quietPowerDown .. => [.regs, .sched]
  | .reset .. => [.regs, .sched, .ups, .chans, .ints, .gate, .arm, .samps, .refAt, .sweep, .pad]
  | .obeyChange .. => [.regs, .holdAt, .obeyed, .dls, .ups, .gate, .samps]
  | .linkCfgWrite .. => [.linkDue]
  | .tladonPorRelease .. | .tladonRailDrop .. =>
    [.tl512t, .straps, .powered, .regs, .clk, .epoch, .holdAt, .obeyed, .sched, .linkDue, .dls, .ups,
      .chans, .ints, .gate, .arm, .computing, .res, .cal, .samps, .refAt, .sweep, .monFrames, .sampNext,
      .pad]
  | .surveyInEdge .. => [.gate]
  | _ => []

/-- The command completes: `exec` answers a next state, in which only the parts it may change differ and which is as
`post` says. -/
def Runs (c : Instr) (s : State) (post : State → Prop) : Prop :=
  ∃ t, exec c s = .next t ∧ OnlyParts (touches c) s t ∧ post t

/-- The command completes and touches only the Tladon of port `p`, in the parts it may change; that Tladon is then as
`post` says. -/
def TlRuns (c : Instr) (p : Nat) (s : State) (post : Tladon → Prop) : Prop :=
  ∃ t, exec c s = .next t ∧ OnlyTladon p s t ∧ OnlyTlParts (tlTouches c) (s.tladon p) (t.tladon p) ∧
    post (t.tladon p)

/-- The registers that an aborted gate may change. -/
def Tladon.gateRegs : List Fld := [TR.SURVEY_STATUS_ABORT, TR.SURVEY_STATUS_VALID, TR.SURVEY_STATUS_BUSY]

/-- The registers that leaving CONFIGURED and ACQUIRING may change. -/
def Tladon.quiesceRegs : List Fld := Tladon.gateRegs ++ TR.MON_STATUS_BUSY :: (List.range 8).map TR.SAMPG_STATE_STATE

/-- The registers that a change of state may change. -/
def Tladon.stateRegs : List Fld := Tladon.quiesceRegs ++ [TR.ID_STATE_STATE, TR.ID_STATE_CAUSE, TR.PAD_ACC_CNT_ACCEPTS]

/-- Every byte of memory outside `n` bytes from `a` reads as before. -/
def OnlyBytes (a n : Nat) (s t : State) : Prop := ∀ b, b < a ∨ a + n ≤ b → t.byte b = s.byte b

end Sys2Proof.Machine
end

