-- ==== Sys2Proof/Certificates/Slice0/Obligations.lean ====
section
/-! DEFINITION. The statements for the provers, in the order of OBLIGATIONS.json. -/

open Sys2Proof Sys2Proof.Machine

/-- Tladon's PLL lock, lock loss, EPOCH, its effect, the holdover limit and a change of the obeyed downlink. Where
Tladon is powered, obeys a downlink whose CDR is locked and has no PLL lock, TLADON_PLL_LOCK clears the tick
count, drops a pending epoch and sets PLL_LOCK and SRC; TLADON_PLL_LOCK_LOST with lock sets LOCK_LOST, drops a
pending epoch and shows the uplinks off; EPOCH from the obeyed downlink in CONFIGURED with J a multiple of 32
schedules J, and in another state sets EPOCH_REFUSED; EPOCH_TAKE_EFFECT of a due epoch adds J to the tick
count and to the epoch registers; HOLDOVER_LIMIT past its limit sets HOLD_EXIT and drops the lock; OBEY_CHANGE
makes the obeyed downlink the one the claims decide. Each completes, touches no other Tladon and no other part
of the state, and leaves every register it does not name. -/
def Obligations.TladonClockCommands : Prop :=
  (∀ p d s, (s.tladon p).obeyed = some d → (s.tladon p).powered = true → (s.tladon p).locked = false →
    ((s.tladon p).dl d).cdr = true →
    TlRuns (.tladonPllLock p) p s fun u =>
      u.count s.now = 0 ∧ u.epoch = none ∧ u.locked = true ∧ u.get TR.TIME_STATUS_SRC = b2n d ∧
        u.get TR.TIME_STATUS_EPOCH_COUNT = 0 ∧
        OnlyTlRegs [TR.TIME_STATUS_PLL_LOCK, TR.TIME_STATUS_CDR_LOCK, TR.TIME_STATUS_SRC, TR.TIME_STATUS_EPOCH_COUNT,
          TR.TIME_STATUS_HOLDOVER, TR.SAMP_REF_READY, TR.LINK_STATUS_UP_ACTIVE] (s.tladon p) u) ∧
  (∀ p s, (s.tladon p).locked = true →
    TlRuns (.tladonPllLockLost p) p s fun u =>
      u.get TR.TIME_STATUS_LOCK_LOST = 1 ∧ u.locked = false ∧ u.epoch = none ∧ u.get TR.LINK_STATUS_UP_ACTIVE = 0 ∧
        OnlyTlRegs [TR.TIME_STATUS_LOCK_LOST, TR.TIME_STATUS_PLL_LOCK, TR.TIME_STATUS_HOLDOVER,
          TR.LINK_STATUS_UP_ACTIVE, TR.SAMP_REF_READY] (s.tladon p) u) ∧
  (∀ p d j s, (s.tladon p).hears d = true → (s.tladon p).obeyed = some d → (s.tladon p).state = 2 → j % 32 = 0 →
    j < 2 ^ 42 →
    TlRuns (.epoch p d j) p s fun u =>
      u.epoch = some (j, s.now - 96 + 2048) ∧ OnlyTlRegs [TR.LINK_CMD_CNT_OBEYED] (s.tladon p) u) ∧
  (∀ p d j s, (s.tladon p).hears d = true → (s.tladon p).obeyed = some d → (s.tladon p).state ≠ 2 →
    TlRuns (.epoch p d j) p s fun u =>
      u.get TR.TIME_STATUS_EPOCH_REFUSED = 1 ∧
        OnlyTlRegs [TR.TIME_STATUS_EPOCH_REFUSED, TR.LINK_CMD_CNT_REFUSED] (s.tladon p) u) ∧
  (∀ p j due s, (s.tladon p).epoch = some (j, due) → due ≤ s.now →
    TlRuns (.epochTakeEffect p) p s fun u =>
      u.epoch = none ∧ u.count due = ((s.tladon p).count due + j) % 2 ^ 42 ∧
        u.get TR.TIME_STATUS_EPOCH_COUNT =
          ((s.tladon p).get TR.TIME_STATUS_EPOCH_COUNT + 1) % TR.TIME_STATUS_EPOCH_COUNT.size ∧
        u.get TR.TIME_EPOCH_J_LO_J_LO = j % 2 ^ 32) ∧
  (∀ p h s, (s.tladon p).holdAt = some h → h + (s.tladon p).holdLimit < s.now →
    TlRuns (.holdoverLimit p) p s fun u =>
      u.get TR.TIME_STATUS_HOLD_EXIT = 1 ∧ u.locked = false ∧ u.holdAt = none) ∧
  (∀ p phase s, (s.tladon p).markTie.claimed ≠ (s.tladon p).obeyed →
    TlRuns (.obeyChange p phase) p s fun u =>
      u.obeyed = (s.tladon p).markTie.claimed)

/-- The edges, the words, the clamp and the configuration of a timing channel. An armed, settled, acquiring PULSE
channel that is no survey source records its leading edge with the tick count, the calibrated fine bin and
role 0 and counts nothing lost; within the dead time it counts a lost edge; the trailing edge completes the
hit with its time over threshold and starts the re-arm time; saturation completes it after 1,024 ticks with
all ones; a completed word of 24 ticks ago that passes MIN_TOT is queued and one below it is counted short;
the re-arm, the clamp and writes of CH_THR and CH_CFG do what their rules say. Each completes, touches no
other Tladon, leaves every register it does not name, and the edge and clamp commands leave every other
channel. -/
def Obligations.ChannelEdges : Prop :=
  (∀ p c raw sraw dith s, let t := s.tladon p
    t.dead c = false → t.get (TR.CH_THR_THR c) ≠ 1023 → t.state = 3 → (t.chan c).high = none →
    t.settling s.now c = false → ¬(t.get TR.SURVEY_CFG_SRC = 2 ∧ t.get TR.SURVEY_CFG_CHANNEL = c) →
    (t.chan c).rearm ≤ s.now → t.get (TR.CH_CFG_MODE c) ≠ 2 →
    TlRuns (.discriminatorLeadingEdge p c raw sraw dith) p s fun u =>
      (u.chan c).high = some s.now ∧ (u.chan c).lost = false ∧
      (∃ e, (u.chan c).edge = some e ∧ e.t0 = s.now ∧ e.tick = t.count s.now ∧
        e.fine = t.fineNow (2 * c + b2n dith) raw ∧ e.role = 0 ∧ e.pile = t.pileFlag s.now c) ∧
      (∀ d, d ≠ c → u.chan d = t.chan d) ∧ OnlyTlRegs [TR.CAL_CNT_ABORTED] t u) ∧
  (∀ p c raw sraw dith s, let t := s.tladon p
    t.dead c = false → t.get (TR.CH_THR_THR c) ≠ 1023 → t.state = 3 → (t.chan c).high = none →
    t.settling s.now c = false → ¬(t.get TR.SURVEY_CFG_SRC = 2 ∧ t.get TR.SURVEY_CFG_CHANNEL = c) →
    s.now < (t.chan c).rearm →
    TlRuns (.discriminatorLeadingEdge p c raw sraw dith) p s fun u =>
      u.get (TR.CH_CNT_LOST c) = min (t.get (TR.CH_CNT_LOST c) + 1) ((TR.CH_CNT_LOST c).size - 1) ∧
      u.chan c = { t.chan c with high := some s.now, ignore := true, lost := true } ∧
      (∀ d, d ≠ c → u.chan d = t.chan d) ∧ OnlyTlRegs [TR.CH_CNT_LOST c] t u) ∧
  (∀ p c raw h e s, let t := s.tladon p
    (t.chan c).high = some h → (t.chan c).ignore = false → (t.chan c).edge = some e →
    TlRuns (.discriminatorTrailingEdge p c raw) p s fun u =>
      u.chan c = { t.chan c with
        high := none, edge := none, rearm := s.now + 16, lastTrail := some s.now
        done := (t.chan c).done ++ [⟨e, s.now,
          min 65535 (((s.now - e.t0) * 256 + t.fineBin (2 * c + b2n (!e.alt)) raw e.epoch - e.fine) / 4)⟩] } ∧
      (∀ d, d ≠ c → u.chan d = t.chan d) ∧ OnlyTlRegs [] t u) ∧
  (∀ p c e s, let t := s.tladon p
    (t.chan c).edge = some e → e.t0 + 1024 ≤ s.now →
    TlRuns (.totSaturation p c) p s fun u =>
      u.chan c = { t.chan c with
        edge := none, rearm := e.t0 + 1040, done := (t.chan c).done ++ [⟨e, e.t0 + 1024, 0xFFFF⟩] } ∧
      (∀ d, d ≠ c → u.chan d = t.chan d) ∧ OnlyTlRegs [] t u) ∧
  (∀ p c d r s, let t := s.tladon p
    (t.chan c).done = d :: r → d.t1 + 24 ≤ s.now → t.state = 3 →
    t.get (TR.CH_CFG_MIN_TOT c) * 64 ≤ d.tot → d.edge.role ≠ 3 → (t.chan c).q.length < 16 →
    TlRuns (.hitWordComplete p c) p s fun u =>
      u.chan c = { t.chan c with done := r, q := (t.chan c).q ++ [⟨d.edge.tick, Tladon.hitWord c d⟩] } ∧
      (∀ d, d ≠ c → u.chan d = t.chan d) ∧ OnlyTlRegs [TR.CH_STATUS_PILEUP_SEEN c] t u) ∧
  (∀ p c d r s, let t := s.tladon p
    (t.chan c).done = d :: r → d.t1 + 24 ≤ s.now → t.state = 3 → d.tot < t.get (TR.CH_CFG_MIN_TOT c) * 64 →
    TlRuns (.hitWordComplete p c) p s fun u =>
      u.chan c = { t.chan c with done := r } ∧
      u.get (TR.CH_CNT_SHORT c) = min (t.get (TR.CH_CNT_SHORT c) + 1) ((TR.CH_CNT_SHORT c).size - 1) ∧
      (∀ d, d ≠ c → u.chan d = t.chan d) ∧ OnlyTlRegs [TR.CH_CNT_SHORT c] t u) ∧
  (∀ p c s, let t := s.tladon p
    (t.chan c).rearm ≤ s.now →
    TlRuns (.channelRearm p c) p s fun u =>
      u.chan c = { t.chan c with rearm := 0 } ∧ (∀ d, d ≠ c → u.chan d = t.chan d)) ∧
  (∀ p c s, let t := s.tladon p
    (t.chan c).clampOn = false →
    TlRuns (.clampEngage p c) p s fun u =>
      (u.chan c).clampOn = true ∧ (u.chan c).edge = (t.chan c).edge.map (fun e => { e with clamp := true }) ∧
      u.get (TR.CH_STATUS_CLAMP c) = 1 ∧
      u.get (TR.CH_CNT_CLAMP_EVENTS c) = min (t.get (TR.CH_CNT_CLAMP_EVENTS c) + 1) ((TR.CH_CNT_CLAMP_EVENTS c).size - 1) ∧
      (∀ d, d ≠ c → u.chan d = t.chan d) ∧ OnlyTlRegs [TR.CH_STATUS_CLAMP c, TR.CH_CNT_CLAMP_EVENTS c] t u) ∧
  (∀ p c s, let t := s.tladon p
    (t.chan c).clampOn = true →
    TlRuns (.clampRelease p c) p s fun u =>
      u.chan c = { t.chan c with clampOn := false, clampRel := some s.now } ∧
      (∀ d, d ≠ c → u.chan d = t.chan d) ∧ OnlyTlRegs [] t u) ∧
  (∀ p c v s, let t := s.tladon p
    ¬(t.get (TR.CH_CFG_MODE c) = 2 ∧ t.inUnit c) →
    TlRuns (.chCfgWrite p c v) p s fun u =>
      u.get (TR.CH_CFG_PRIM_EN c) = bits 24 24 v ∧ u.get (TR.CH_CFG_MIN_TOT c) = bits 23 20 v ∧
      u.get (TR.CH_CFG_PILEUP_WIN c) = bits 15 8 v ∧ u.get (TR.CH_CFG_RANGE c) = bits 4 3 v ∧
      u.get (TR.CH_CFG_POL c) = bits 2 2 v ∧ u.get (TR.CH_CFG_MODE c) = bits 1 0 v ∧
      (t.off c = true → bits 1 0 v = 1 → s.now + 25601 ≤ (u.chan c).modeEnd) ∧
      (bits 1 0 v = 0 → (u.chan c).edge = none ∧ (u.chan c).high = none) ∧
      (∀ d, d ≠ c → u.chan d = t.chan d) ∧
      OnlyTlRegs [TR.CH_CFG_PRIM_EN c, TR.CH_CFG_MIN_TOT c, TR.CH_CFG_PILEUP_WIN c, TR.CH_CFG_RANGE c,
        TR.CH_CFG_POL c, TR.CH_CFG_MODE c] t u) ∧
  (∀ p c v s, let t := s.tladon p
    TlRuns (.chThrWrite p c v) p s fun u =>
      u.get (TR.CH_THR_THR c) = bits 9 0 v ∧ u.get (TR.CH_THR_TRIM c) = bits 21 16 v ∧
      (t.get (TR.CH_THR_THR c) ≠ bits 9 0 v → s.now + 257 ≤ (u.chan c).cntEnd) ∧
      (∀ d, d ≠ c → u.chan d = t.chan d) ∧ OnlyTlRegs [TR.CH_THR_THR c, TR.CH_THR_TRIM c] t u)

/-- The end of settling, the scrub of the configuration and the interval units. A channel whose settling times
have passed is settled; a scrub counts the copies it rewrote; the first edge of the start channel opens a
window at its tick, an edge of a stop channel within the window counts one stop and takes role 2, and the last
stop closes the window; a window whose length has passed closes by timeout and counts; a write to a register
of a unit closes its window and shows whether its configuration is refused. Each completes and touches no
other Tladon; settling, scrub and timeout leave every register they do not name. -/
def Obligations.IntervalUnits : Prop :=
  (∀ p c s, let t := s.tladon p
    t.settling s.now c = false →
    TlRuns (.settlingEnd p c) p s fun u =>
      u.chan c = { t.chan c with modeEnd := 0, cntEnd := 0 } ∧ (∀ d, d ≠ c → u.chan d = t.chan d) ∧ OnlyTlRegs [] t u) ∧
  (∀ p n s, let t := s.tladon p
    TlRuns (.configScrub p n) p s fun u =>
      u.get TR.CHN_SEU_CORRECTED = min (t.get TR.CHN_SEU_CORRECTED + n) (TR.CHN_SEU_CORRECTED.size - 1) ∧
      OnlyTlRegs [TR.CHN_SEU_CORRECTED] t u) ∧
  (∀ p g raw s, let t := s.tladon p
    t.get (TR.CHN_INT_CFG_START g) < 64 → t.dead (t.startCh g) = false → t.get (TR.CH_THR_THR (t.startCh g)) ≠ 1023 →
    t.state = 3 → (t.chan (t.startCh g)).high = none → t.settling s.now (t.startCh g) = false →
    t.get TR.SURVEY_CFG_SRC ≠ 2 → (t.chan (t.startCh g)).rearm ≤ s.now → t.get (TR.CH_CFG_MODE (t.startCh g)) = 2 →
    t.get (TR.CHN_INT_STATUS_CFG_ERR g) = 0 → SMap.find g t.ints = none →
    TlRuns (.intervalStartEdge p g raw) p s fun u =>
      SMap.find g u.ints = some ⟨s.now, t.count s.now, 0⟩ ∧ u.get (TR.CHN_INT_STATUS_OPEN g) = 1 ∧
      OnlyTlRegs [TR.CHN_INT_STATUS_OPEN g] t u ∧
      ∃ e, (u.chan (t.startCh g)).edge = some e ∧ e.role = 1 ∧ e.tick = t.count s.now) ∧
  (∀ p c raw w s, let t := s.tladon p
    t.dead c = false → t.get (TR.CH_THR_THR c) ≠ 1023 → t.state = 3 → (t.chan c).high = none →
    t.settling s.now c = false → t.get TR.SURVEY_CFG_SRC ≠ 2 → (t.chan c).rearm ≤ s.now →
    t.get (TR.CH_CFG_MODE c) = 2 → t.get (TR.CHN_INT_STATUS_CFG_ERR (c / 64)) = 0 → c ≠ t.startCh (c / 64) →
    SMap.find (c / 64) t.ints = some w → s.now < w.t0 + t.winLen (c / 64) →
    TlRuns (.intervalStopEdge p c raw) p s fun u =>
      (w.stops + 1 = t.winStops (c / 64) →
        SMap.find (c / 64) u.ints = none ∧ u.get (TR.CHN_INT_STATUS_OPEN (c / 64)) = 0) ∧
      (w.stops + 1 ≠ t.winStops (c / 64) → SMap.find (c / 64) u.ints = some { w with stops := w.stops + 1 }) ∧
      OnlyTlRegs [TR.CHN_INT_STATUS_OPEN (c / 64)] t u ∧
      ∃ e, (u.chan c).edge = some e ∧ e.role = 2 ∧ e.stop = w.stops + 1 ∧ e.tick = t.count s.now) ∧
  (∀ p g w s, let t := s.tladon p
    SMap.find g t.ints = some w → w.t0 + t.winLen g ≤ s.now → t.state ≠ 3 →
    TlRuns (.intervalTimeout p g) p s fun u =>
      SMap.find g u.ints = none ∧ u.get (TR.CHN_INT_STATUS_OPEN g) = 0 ∧
      u.get (TR.CHN_INT_STATUS_TIMEOUTS g) =
        min (t.get (TR.CHN_INT_STATUS_TIMEOUTS g) + 1) ((TR.CHN_INT_STATUS_TIMEOUTS g).size - 1) ∧
      OnlyTlRegs [TR.CHN_INT_STATUS_OPEN g, TR.CHN_INT_STATUS_TIMEOUTS g] t u) ∧
  (∀ p a v s, let t := s.tladon p
    SMap.find ((a - 0x400) / 0x20) t.ints = none →
    TlRuns (.chnIntWrite p a v) p s fun u =>
      u.get (TR.CHN_INT_STATUS_CFG_ERR ((a - 0x400) / 0x20)) = b2n (u.intErr ((a - 0x400) / 0x20)) ∧
      u.ints = t.ints)

/-- The survey measurement: start, arm, open, edges, end, result, abort and configuration. Where the survey is
ready, SURVEY_START opens a gate at the next tick with the length and the sampling instants of the
configuration, SURVEY_ARM waits for a start tick ahead and opens a late gate for one that has passed; the
armed tick opens the gate; an edge of the selected input within the gate counts one cycle; a gate at its end
is put up for its result and CONT opens the next one at its end; the result of the oldest gate is the
regression of its edges and its flags; abort closes the gate with cause 3; a configuration write while no gate
is open shows whether the gate is too short. Each completes, touches no other Tladon and leaves every register
it does not name. -/
def Obligations.SurveyCommands : Prop :=
  (∀ p s, let t := s.tladon p
    t.surveyReady = true →
    TlRuns (.surveyStart p) p s fun u =>
      u.gate = some ⟨s.now + 1, (t.count s.now + 1) % 2 ^ 42, t.gateLen, t.gateNs, 0, 0, [], none, false, false, false⟩ ∧
      u.arm = none ∧ u.get TR.SURVEY_STATUS_BUSY = 1 ∧ OnlyTlRegs [TR.SURVEY_STATUS_BUSY] t u) ∧
  (∀ p s, let t := s.tladon p
    t.surveyReady = true → 0 < Tladon.dist t.startTick (t.count s.now) →
    TlRuns (.surveyArm p) p s fun u => u.arm = some t.startTick ∧ u.gate = none ∧ OnlyTlRegs [] t u) ∧
  (∀ p s, let t := s.tladon p
    t.surveyReady = true → Tladon.dist t.startTick (t.count s.now) ≤ 0 →
    TlRuns (.surveyArm p) p s fun u =>
      (∃ g, u.gate = some g ∧ g.t0 = s.now + 1) ∧ u.get TR.SURVEY_STATUS_LATE = 1 ∧
      OnlyTlRegs [TR.SURVEY_STATUS_BUSY, TR.SURVEY_STATUS_LATE] t u) ∧
  (∀ p a s, let t := s.tladon p
    t.arm = some a → t.count s.now = a → t.gate = none →
    TlRuns (.surveyGateOpen p) p s fun u =>
      u.gate = some ⟨s.now, a % 2 ^ 42, t.gateLen, t.gateNs, 0, 0, [], none, false, false, false⟩ ∧
      u.arm = none ∧ u.get TR.SURVEY_STATUS_BUSY = 1 ∧ OnlyTlRegs [TR.SURVEY_STATUS_BUSY] t u) ∧
  (∀ p g s, let t := s.tladon p
    t.gate = some g →
    TlRuns (.surveyAbort p) p s fun u =>
      u.gate = none ∧ u.get TR.SURVEY_STATUS_ABORT = 3 ∧ u.get TR.SURVEY_STATUS_VALID = 0 ∧
      u.get TR.SURVEY_STATUS_BUSY = b2n (!t.computing.isEmpty) ∧
      OnlyTlRegs [TR.SURVEY_STATUS_ABORT, TR.SURVEY_STATUS_VALID, TR.SURVEY_STATUS_BUSY] t u) ∧
  (∀ p v s, let t := s.tladon p
    t.gate = none →
    TlRuns (.surveyCfgWrite p TR.SURVEY_GATE v) p s fun u =>
      u.get TR.SURVEY_GATE_GATE = bits 23 0 v ∧ u.get TR.SURVEY_STATUS_CFG_ERR = b2n (u.gateLen < 16 * u.gateNs) ∧
      OnlyTlRegs [TR.SURVEY_GATE_GATE, TR.SURVEY_STATUS_CFG_ERR] t u) ∧
  (∀ p g s, let t := s.tladon p
    t.gate = some g → g.t0 + g.len ≤ s.now →
    TlRuns (.surveyGateEnd p) p s fun u =>
      u.computing = t.computing ++ [g] ∧
      (t.get TR.SURVEY_CTRL_CONT = 0 → u.gate = none ∧ OnlyTlRegs [] t u) ∧
      (t.get TR.SURVEY_CTRL_CONT ≠ 0 → (∃ h, u.gate = some h ∧ h.t0 = g.t0 + g.len ∧ h.cycles = 0) ∧
        OnlyTlRegs [TR.SURVEY_STATUS_BUSY] t u)) ∧
  (∀ p g rest ratio resid ok s, let t := s.tladon p
    t.computing = g :: rest → Tladon.regress g.edges.reverse = (ratio, resid, ok) →
    TlRuns (.surveyResult p) p s fun u =>
      u.computing = rest ∧ u.res.ratio = ratio ∧ u.res.resid = resid ∧ u.res.edges = g.edges.length ∧
      u.get TR.SURVEY_STATUS_VALID = b2n (ok && !g.tooMany) ∧ u.get TR.SURVEY_STATUS_NO_SIGNAL = b2n (!ok) ∧
      u.get TR.SURVEY_STATUS_OVERRATE = b2n g.tooMany ∧
      u.get TR.SURVEY_STATUS_SEQ = (t.get TR.SURVEY_STATUS_SEQ + 1) % TR.SURVEY_STATUS_SEQ.size ∧
      OnlyTlRegs [TR.SURVEY_STATUS_SEQ, TR.SURVEY_STATUS_VALID, TR.SURVEY_STATUS_NO_SIGNAL,
        TR.SURVEY_STATUS_OVERRATE, TR.SURVEY_STATUS_CLKSW, TR.SURVEY_STATUS_HOLDOVER,
        TR.SURVEY_RATIO_LO_RATIO, TR.SURVEY_STATUS_BUSY] t u) ∧
  (∀ p g raw s, let t := s.tladon p
    t.gate = some g → t.get TR.SURVEY_CFG_SRC ≤ 1 → g.t0 ≤ s.now → s.now < g.t0 + g.len →
    TlRuns (.surveyInEdge p raw) p s fun u =>
      (∃ h, u.gate = some h ∧ h.cycles = g.cycles + 1 ∧ h.last = some s.now ∧ h.t0 = g.t0 ∧ h.len = g.len ∧
        (h.edges = g.edges ∨
          h.edges = (g.cycles + 1, (((s.now - g.t0) * 256 + t.fineNow 1024 raw : Nat) : Int)) :: g.edges)) ∧
      OnlyTlRegs [] t u)

/-- The calibration: a dither conversion, the swap, the retirement, the time limit and CAL_CTRL. Where calibration
runs and the interpolator takes part without a completed table, a conversion counts in its histogram; a full
histogram is rejected by R165 with its flag and count, or gives the bin table of R164; the swap at a frame
boundary makes the shadow tables active, keeps the former ones 1,040 ticks and counts the epoch; the retired
tables are released then; past CAL_TMO every shadow histogram starts again with CAL_STALL; CAL_CTRL takes its
fields and EN written from 0 to 1 starts the histograms. Each completes, touches no other Tladon and leaves
every register it does not name. -/
def Obligations.CalibrationCommands : Prop :=
  (∀ p i raw s, let t := s.tladon p
    let h := SMap.modify 0 raw (· + 1) (SMap.getD [] i t.cal.hist)
    t.calRuns = true → t.participates i = true → SMap.find i t.cal.shadow = none → raw < 384 →
    TlRuns (.ditherConversion p i raw) p s fun u =>
      ((h.map (·.2)).sum < t.calH →
        u.cal = { t.cal with hist := SMap.insert i h t.cal.hist } ∧ OnlyTlRegs [] t u) ∧
      (t.calH ≤ (h.map (·.2)).sum → Tladon.rejectHist h t.calH = true →
        u.cal = { t.cal with hist := SMap.erase i t.cal.hist } ∧ u.get TR.CAL_STATUS_REJECT = 1 ∧
        OnlyTlRegs [TR.CAL_CNT_REJECTS, TR.CAL_STATUS_REJECT] t u) ∧
      (t.calH ≤ (h.map (·.2)).sum → Tladon.rejectHist h t.calH = false →
        SMap.find i u.cal.shadow = some (Tladon.buildTable h t.calH) ∧ u.get TR.CAL_STATUS_READY = b2n u.shadowsDone ∧
        OnlyTlRegs [TR.CAL_STATUS_READY] t u)) ∧
  (∀ p s, let t := s.tladon p
    t.calRuns = true → t.shadowsDone = true → t.get TR.CAL_CTRL_FREEZE = 0 → t.count s.now % 65536 = 0 →
    TlRuns (.calSwap p) p s fun u =>
      u.cal.shadow = [] ∧ u.cal.retired = t.cal.active ∧ u.cal.retireAt = some (s.now + 1040) ∧
      u.cal.active = t.cal.shadow.foldl (fun m x => SMap.insert x.1 x.2 m) t.cal.active ∧
      u.get TR.CAL_STATUS_EPOCH = (t.get TR.CAL_STATUS_EPOCH + 1) % 4 ∧ u.get TR.CAL_STATUS_READY = 0 ∧
      OnlyTlRegs [TR.CAL_STATUS_EPOCH, TR.CAL_STATUS_SWAPS, TR.CAL_STATUS_READY] t u) ∧
  (∀ p d s, let t := s.tladon p
    t.cal.retireAt = some d → d ≤ s.now →
    TlRuns (.calRetire p) p s fun u =>
      u.cal = { t.cal with hist := [], retired := [], retireAt := none, started := d } ∧ OnlyTlRegs [] t u) ∧
  (∀ p s, let t := s.tladon p
    t.calRuns = true → t.cal.started + max 1 (t.get TR.CAL_CTRL_CAL_TMO) * 65536 ≤ s.now →
    TlRuns (.calTimeout p) p s fun u =>
      u.cal = { t.cal with hist := [], shadow := [], started := s.now } ∧ u.get TR.CAL_STATUS_CAL_STALL = 1 ∧
      u.get TR.CAL_STATUS_READY = 0 ∧ OnlyTlRegs [TR.CAL_STATUS_CAL_STALL, TR.CAL_STATUS_READY] t u) ∧
  (∀ p v s, let t := s.tladon p
    TlRuns (.calCtrlWrite p v) p s fun u =>
      u.get TR.CAL_CTRL_CAL_TMO = bits 23 16 v ∧ u.get TR.CAL_CTRL_CD_LOG2 = bits 12 8 v ∧
      u.get TR.CAL_CTRL_FREEZE = bits 1 1 v ∧ u.get TR.CAL_CTRL_EN = bits 0 0 v ∧
      (t.get TR.CAL_CTRL_EN = 0 → bit 0 v = true →
        u.cal = { t.cal with hist := [], shadow := [], started := s.now }) ∧
      (t.get TR.CAL_CTRL_EN ≠ 0 ∨ bit 0 v = false → u.cal = t.cal) ∧
      OnlyTlRegs [TR.CAL_CTRL_CAL_TMO, TR.CAL_CTRL_CD_LOG2, TR.CAL_CTRL_FREEZE, TR.CAL_CTRL_EN] t u)

/-- The sampler reference, enable, configuration, arm, force, disarm and trim commands. On a part with samplers,
SAMP_REF.EN written 1 schedules READY 270,336 ticks on and written 0 drops it, and READY follows; an enabled
sampler runs and a disabled one drops its capture; a configuration write in OFF or RUNNING is taken and marks
a capture longer than 4,096 samples, and one in another state is ignored with its flag; ARM arms every running
sampler of the mask without CFG_ERR, FORCE gives each armed one of the mask with enough history the command
trigger of the next tick, DISARM returns the waiting ones to RUNNING and marks the others; a trim write is
taken and marks a running capture. Each completes, touches no other Tladon, and leaves every register it does
not name. -/
def Obligations.SamplerCommands : Prop :=
  (∀ p en s, let t := s.tladon p
    t.tl512t = false → (en = true → t.get TR.SAMP_REF_EN = 0) →
    TlRuns (.sampRefWrite p en) p s fun u =>
      u.refAt = (if en then some (s.now + 270336) else none) ∧ u.get TR.SAMP_REF_EN = b2n en ∧
      u.get TR.SAMP_REF_READY = 0 ∧ OnlyTlRegs [TR.SAMP_REF_EN, TR.SAMP_REF_READY] t u) ∧
  (∀ p s, let t := s.tladon p
    t.refReady s.now = true →
    TlRuns (.sampRefReady p) p s fun u => u.get TR.SAMP_REF_READY = 1 ∧ OnlyTlRegs [TR.SAMP_REF_READY] t u) ∧
  (∀ p g en s, let t := s.tladon p
    t.tl512t = false → (en = true → (t.samp g).st = 0) →
    TlRuns (.sampEnWrite p g en) p s fun u =>
      u.get (TR.SAMPG_CFG_EN g) = b2n en ∧ (u.samp g).st = b2n en ∧
      (en = true → (u.samp g).since = s.now) ∧ (en = false → (u.samp g).cap = none ∧ (u.samp g).trig = none) ∧
      (∀ h, h ≠ g → u.samp h = t.samp h) ∧ OnlyTlRegs [TR.SAMPG_CFG_EN g, TR.SAMPG_STATE_STATE g] t u) ∧
  (∀ p g v s, let t := s.tladon p
    t.tl512t = false → g < 8 → (t.samp g).st ≤ 1 →
    TlRuns (.sampCfgWrite p g 4 v) p s fun u =>
      u.get (TR.SAMPG_LEN_POST4 g) = bits 25 16 v ∧ u.get (TR.SAMPG_LEN_PRE4 g) = bits 9 0 v ∧
      u.get (TR.SAMPG_STATE_CFG_ERR g) = b2n (4096 < u.preOf g + u.postOf g) ∧ u.samps = t.samps ∧
      OnlyTlRegs [TR.SAMPG_LEN_POST4 g, TR.SAMPG_LEN_PRE4 g, TR.SAMPG_STATE_CFG_ERR g] t u) ∧
  (∀ p g v s, let t := s.tladon p
    t.tl512t = false → 1 < (t.samp g).st →
    TlRuns (.sampCfgWrite p g 4 v) p s fun u =>
      u.get (TR.SAMPG_STATE_WR_IGNORED g) = 1 ∧ u.samps = t.samps ∧ OnlyTlRegs [TR.SAMPG_STATE_WR_IGNORED g] t u) ∧
  (∀ p mask g s, let t := s.tladon p
    t.tl512t = false → t.running = true → g < 8 → bit g mask = true → (t.samp g).st = 1 →
    t.get (TR.SAMPG_STATE_CFG_ERR g) = 0 →
    TlRuns (.sampArm p mask) p s fun u =>
      u.samp g = { t.samp g with st := 2, trig := none, cold := !t.refReady s.now } ∧
      OnlyTlRegs ((List.range 8).map TR.SAMPG_STATE_STATE) t u) ∧
  (∀ p mask g s, let t := s.tladon p
    t.tl512t = false → t.running = true → g < 8 → bit g mask = true → (t.samp g).st = 2 → (t.samp g).trig = none →
    t.preOf g / 2 ≤ s.now + 1 - (t.samp g).since →
    TlRuns (.sampForce p mask) p s fun u =>
      u.samp g = { t.samp g with trig := some (s.now + 1, 2, 0) } ∧
      OnlyTlRegs ((List.range 8).map TR.SAMPG_STATE_STATE ++ (List.range 8).map TR.SAMPG_CNT_MISSED) t u) ∧
  (∀ p mask g s, let t := s.tladon p
    g < 8 →
    TlRuns (.sampDisarm p mask) p s fun u =>
      (bit g mask = true → ((t.samp g).st = 2 ∨ (t.samp g).st = 3) → (u.samp g).st = 1 ∧ (u.samp g).trig = none) ∧
      (bit g mask = true → ((t.samp g).st = 4 ∨ (t.samp g).st = 5 ∨ (t.samp g).st = 6) →
        u.samp g = { t.samp g with disarm := true }) ∧
      (bit g mask = false → u.samp g = t.samp g) ∧
      OnlyTlRegs ((List.range 8).map TR.SAMPG_STATE_STATE) t u) ∧
  (∀ p g v s, let t := s.tladon p
    t.tl512t = false →
    TlRuns (.sampTrimWrite p g 0 v) p s fun u =>
      u.get (TR.SAMPG_TRIM_OFFS g) = bits 25 16 v ∧ u.get (TR.SAMPG_TRIM_GAIN g) = bits 11 0 v ∧
      (u.samp g).trimAt = some s.now ∧ (∀ h, h ≠ g → u.samp h = t.samp h) ∧
      ((t.samp g).st = 4 → (u.samp g).cap = (t.samp g).cap.map fun c => { c with trim := true }) ∧
      OnlyTlRegs [TR.SAMPG_TRIM_OFFS g, TR.SAMPG_TRIM_GAIN g, TR.SAMPG_STATE_STATE g] t u)

/-- Pulse-width, timer and trigger events, the freeze, the readout and the hold-off of a sampler. On a running
part with samplers, a pulse as long as WIDTH on a selected channel and a due timer give an armed sampler with
enough history their trigger; the trigger tick starts the capture with the record number, the pre and post
lengths and counts it; the last post-trigger sample freezes it and starts the hold-off; the readout sends the
header, then the data words, then the tail that releases the memory; the end of the hold-off arms the sampler
again, or leaves it running after DISARM or in single mode. Each completes, touches no other Tladon, leaves
every other sampler, and leaves every register it does not name. -/
def Obligations.SamplerEvents : Prop :=
  (∀ p c l s, let t := s.tladon p
    (t.chan c).high = some l → t.tl512t = false → t.running = true → t.get (TR.SAMPG_CFG_PW_EN (c / 64)) ≠ 0 →
    t.chMask (c / 64) (c % 64) = true → t.off c = false → s.now = l + t.pwWidth (c / 64) + 1 →
    (t.samp (c / 64)).st = 2 → (t.samp (c / 64)).trig = none →
    t.preOf (c / 64) / 2 ≤ s.now + t.get (TR.SAMPG_PW_DELAY (c / 64)) - (t.samp (c / 64)).since →
    TlRuns (.pulseWidthEvent p c) p s fun u =>
      u.samp (c / 64) = { t.samp (c / 64) with
        trig := some (s.now + t.get (TR.SAMPG_PW_DELAY (c / 64)), 0, c % 64)
        st := if 0 < t.get (TR.SAMPG_PW_DELAY (c / 64)) then 3 else 2 } ∧
      (∀ h, h ≠ c / 64 → u.samp h = t.samp h) ∧ OnlyTlRegs [TR.SAMPG_STATE_STATE (c / 64)] t u) ∧
  (∀ p g s, let t := s.tladon p
    t.tl512t = false → t.running = true → t.get (TR.SAMPG_CFG_TIMER_EN g) ≠ 0 → (t.samp g).timer < s.now →
    (s.now - (t.samp g).timer) % max 2048 (t.get (TR.SAMPG_TIMER_PERIOD g)) = 0 →
    (t.samp g).st = 2 → (t.samp g).trig = none → t.preOf g / 2 ≤ s.now - (t.samp g).since →
    TlRuns (.sampTimerEvent p g) p s fun u =>
      u.samp g = { t.samp g with trig := some (s.now, 1, 0) } ∧ (∀ h, h ≠ g → u.samp h = t.samp h) ∧
      OnlyTlRegs [TR.SAMPG_STATE_STATE g] t u) ∧
  (∀ p g tt cause ch s, let t := s.tladon p
    (t.samp g).trig = some (tt, cause, ch) → ((t.samp g).st = 2 ∨ (t.samp g).st = 3) → tt ≤ s.now →
    TlRuns (.sampTriggerTick p g) p s fun u =>
      (u.samp g).st = 4 ∧ (u.samp g).trig = none ∧ (u.samp g).num = ((t.samp g).num + 1) % 8 ∧
      (∃ c, (u.samp g).cap = some c ∧ c.tt = tt ∧ c.cause = cause ∧ c.ch = ch ∧ c.num = (t.samp g).num ∧
        c.pre = t.preOf g ∧ c.post = t.postOf g ∧ c.sent = 0) ∧
      u.get (TR.SAMPG_STATE_RECORD g) = (t.samp g).num % 8 ∧
      u.get (TR.SAMPG_CNT_CAPTURES g) =
        min (t.get (TR.SAMPG_CNT_CAPTURES g) + 1) ((TR.SAMPG_CNT_CAPTURES g).size - 1) ∧
      (∀ h, h ≠ g → u.samp h = t.samp h) ∧
      OnlyTlRegs [TR.SAMPG_STATE_STATE g, TR.SAMPG_STATE_RECORD g, TR.SAMPG_CNT_CAPTURES g,
        TR.SAMP_STATUS_REF_COLD] t u) ∧
  (∀ p g c s, let t := s.tladon p
    (t.samp g).cap = some c → (t.samp g).st = 4 → c.tt + c.post / 2 ≤ s.now →
    TlRuns (.sampFreeze p g) p s fun u =>
      (u.samp g).st = 5 ∧
      (u.samp g).cap = some { c with frozenAt := c.tt + c.post / 2, cold := c.cold || !t.refReady s.now } ∧
      (t.get (TR.SAMPG_CFG_HO_EVENTS g) = 0 →
        (u.samp g).holdTick = c.tt + c.post / 2 + t.get (TR.SAMPG_HOLDOFF_HOLDOFF g) ∧ (u.samp g).holdEv = 0) ∧
      (t.get (TR.SAMPG_CFG_HO_EVENTS g) ≠ 0 →
        (u.samp g).holdTick = c.tt + c.post / 2 ∧ (u.samp g).holdEv = t.get (TR.SAMPG_HOLDOFF_HOLDOFF g)) ∧
      (∀ h, h ≠ g → u.samp h = t.samp h) ∧
      OnlyTlRegs [TR.SAMPG_STATE_STATE g, TR.SAMP_STATUS_REF_COLD] t u) ∧
  (∀ p g c x0 x1 x2 x3 s, let t := s.tladon p
    t.readout = some g → (t.samp g).cap = some c →
    c.frozenAt + (c.sent + 1) * max 16 (t.get TR.SAMP_RDOUT_SPACING) ≤ s.now → t.sampNext ≤ s.now →
    TlRuns (.sampWordOffer p x0 x1 x2 x3) p s fun u =>
      u.sampNext = s.now + max 16 (t.get TR.SAMP_RDOUT_SPACING) ∧
      (c.sent = 0 → (u.samp g).cap = some { c with sent := 1 }) ∧
      (0 < c.sent → c.sent ≤ (c.pre + c.post) / 4 → ∃ d, (u.samp g).cap = some d ∧ d.sent = c.sent + 1 ∧ d.tt = c.tt) ∧
      (0 < c.sent → (c.pre + c.post) / 4 < c.sent →
        (u.samp g).st = 6 ∧ (u.samp g).cap = none ∧ (u.samp g).since = s.now) ∧
      (∀ h, h ≠ g → u.samp h = t.samp h) ∧
      OnlyTlRegs [TR.SAMPG_STATE_STATE g, TR.SAMPG_CNT_OVERRANGE g] t u) ∧
  (∀ p g s, let t := s.tladon p
    (t.samp g).st = 6 → (t.samp g).holdTick ≤ s.now → (t.samp g).holdEv = 0 → (t.samp g).since < s.now →
    TlRuns (.sampHoldoffEnd p g) p s fun u =>
      (u.samp g).st = (if (t.samp g).disarm || t.on (TR.SAMPG_CFG_SINGLE g) then 1 else 2) ∧
      (u.samp g).disarm = false ∧ (∀ h, h ≠ g → u.samp h = t.samp h) ∧ OnlyTlRegs [TR.SAMPG_STATE_STATE g] t u)

/-- The monitor converter: a sweep by command, by its timer, and the end of a conversion. Where no sweep runs in
CONFIGURED or ACQUIRING, MON_GO starts one at the next tick with the first source of the mask, and so does the
timer at a frame boundary once its period has passed; a conversion that ends stores its code with the sweep
number and VALID and goes on to the next source, or ends the sweep, which is counted modulo 256. Each
completes, touches no other Tladon, and leaves every register it does not name. -/
def Obligations.MonitorCommands : Prop :=
  (∀ p n r s, let t := s.tladon p
    t.running = true → t.sweep = none → ((List.range 16).filter fun i => bit i (t.get TR.MON_MASK_MASK)) = n :: r →
    TlRuns (.monGo p) p s fun u =>
      u.sweep = some ⟨n :: r, s.now + 1, (t.count s.now + 1) % 2 ^ 42⟩ ∧ u.get TR.MON_STATUS_BUSY = 1 ∧
      u.get TR.MON_STATUS_SOURCE = n % 16 ∧ OnlyTlRegs [TR.MON_STATUS_BUSY, TR.MON_STATUS_SOURCE] t u) ∧
  (∀ p s, let t := s.tladon p
    t.running = true → t.sweep ≠ none →
    TlRuns (.monGo p) p s fun u =>
      u.get TR.MON_STATUS_OVERLAP = min (t.get TR.MON_STATUS_OVERLAP + 1) (TR.MON_STATUS_OVERLAP.size - 1) ∧
      u.sweep = t.sweep ∧ OnlyTlRegs [TR.MON_STATUS_OVERLAP] t u) ∧
  (∀ p n r s, let t := s.tladon p
    t.get TR.MON_CTRL_TIMER_EN ≠ 0 → t.count s.now % 65536 = 0 →
    t.monFrames + max 1 (t.get TR.MON_PERIOD_PERIOD) * 65536 ≤ s.now →
    t.running = true → t.sweep = none → ((List.range 16).filter fun i => bit i (t.get TR.MON_MASK_MASK)) = n :: r →
    TlRuns (.monTimerSweep p) p s fun u =>
      u.monFrames = s.now ∧ u.sweep = some ⟨n :: r, s.now + 1, (t.count s.now + 1) % 2 ^ 42⟩ ∧
      OnlyTlRegs [TR.MON_STATUS_BUSY, TR.MON_STATUS_SOURCE] t u) ∧
  (∀ p code n r t0 start s, let t := s.tladon p
    t.sweep = some ⟨n :: r, t0, start⟩ → t0 + 12800 ≤ s.now →
    TlRuns (.monConversionDone p code) p s fun u =>
      u.get (TR.MON_RESULT_CODE n) = t.monCode n code ∧ u.get (TR.MON_RESULT_VALID n) = 1 ∧
      u.get (TR.MON_RESULT_SWEEP n) = t.get TR.MON_STATUS_SWEEPS % 256 ∧
      (∀ m q, r = m :: q →
        u.sweep = some ⟨r, t0 + 12800, (start + 12800) % 2 ^ 42⟩ ∧ u.get TR.MON_STATUS_SOURCE = m % 16) ∧
      (r = [] → u.sweep = none ∧ u.get TR.MON_STATUS_BUSY = 0 ∧
        u.get TR.MON_STATUS_SWEEPS = (t.get TR.MON_STATUS_SWEEPS + 1) % 256) ∧
      OnlyTlRegs [TR.MON_RESULT_CODE n, TR.MON_RESULT_VALID n, TR.MON_RESULT_SWEEP n, TR.MON_STATUS_SOURCE,
        TR.MON_STATUS_SWEEPS, TR.MON_STATUS_BUSY] t u)

/-- The Paddock: draining the hit queues, closing and releasing slots, hold and configuration. A drain takes the
oldest word of the served channel into its slot, counts a corrected one, and marks the oldest open slot for an
uncorrectable one; a slot whose time has come closes, and in triggered operation its words are in the order of
R212; a closed slot that nothing needs is released; a hold request shows in HOLD and takes effect at the next
slot boundary, where STATUS takes it; a configuration write is ignored with its flag in ACQUIRING, and
elsewhere shows a window that is too long or empty. Each completes, touches no other Tladon, and leaves every
register it does not name. -/
def Obligations.PaddockIntake : Prop :=
  (∀ p g c w r err s, let t := s.tladon p
    t.drainFrom g = some c → (t.chan c).q = w :: r → err < 2 → t.fill < 98304 →
    TlRuns (.hitQueueDrain p g err) p s fun u =>
      (u.chan c).q = r ∧ (∀ d, d ≠ c → u.chan d = t.chan d) ∧
      u.slot (t.slotOf w.tick) = { t.slot (t.slotOf w.tick) with words := (t.slot (t.slotOf w.tick)).words ++ [w] } ∧
      (∀ k, k ≠ t.slotOf w.tick → u.slot k = t.slot k) ∧
      (err = 1 → u.get (TR.PAD_GRP_CORR g) = min (t.get (TR.PAD_GRP_CORR g) + 1) ((TR.PAD_GRP_CORR g).size - 1)) ∧
      (err = 0 → u.get (TR.PAD_GRP_CORR g) = t.get (TR.PAD_GRP_CORR g)) ∧
      OnlyTlRegs [TR.PAD_GRP_CORR g, TR.PAD_HWM_HWM] t u) ∧
  (∀ p g c w r s, let t := s.tladon p
    t.drainFrom g = some c → (t.chan c).q = w :: r →
    TlRuns (.hitQueueDrain p g 2) p s fun u =>
      (u.chan c).q = r ∧ (u.slot (t.oldestOpen s.now)).loss = true ∧
      (u.slot (t.oldestOpen s.now)).words = (t.slot (t.oldestOpen s.now)).words ∧
      u.get (TR.PAD_GRP_UNCORR g) = min (t.get (TR.PAD_GRP_UNCORR g) + 1) ((TR.PAD_GRP_UNCORR g).size - 1) ∧
      OnlyTlRegs [TR.PAD_GRP_UNCORR g] t u) ∧
  (∀ p k corr bad s, let t := s.tladon p
    t.state = 3 → t.passed s.now ((t.slotTick (k + 1) + 2560) % 2 ^ 42) = true → (t.slot k).closed = false →
    t.get TR.PAD_CFG_MODE = 0 →
    TlRuns (.slotClose p k corr bad) p s fun u =>
      u.slot k = { t.slot k with closed := true, words := sortBy Tladon.wordBefore (t.slot k).words } ∧
      (∀ j, j ≠ k → u.slot j = t.slot j) ∧ OnlyTlRegs [] t u) ∧
  (∀ p k s, let t := s.tladon p
    (t.slot k).closed = true → (t.slot k).pins = 0 →
    0 < Tladon.dist (t.count s.now) ((t.slotTick k + 31 + 65536) % 2 ^ 42) → t.pad.accQ = [] →
    TlRuns (.slotRelease p k) p s fun u =>
      u.slot k = Slot.empty ∧ (∀ j, j ≠ k → u.slot j = t.slot j) ∧ OnlyTlRegs [] t u) ∧
  (∀ p hold s, let t := s.tladon p
    TlRuns (.padCtrlWrite p hold) p s fun u =>
      u.get TR.PAD_CTRL_HOLD = b2n hold ∧
      u.pad.holdDue = some (s.now + (Tladon.dist (t.slotTick (t.slotOf (t.count s.now) + 1)) (t.count s.now)).toNat) ∧
      OnlyTlRegs [TR.PAD_CTRL_HOLD] t u) ∧
  (∀ p d s, let t := s.tladon p
    t.pad.holdDue = some d → d ≤ s.now →
    TlRuns (.padHoldChange p) p s fun u =>
      u.get TR.PAD_STATUS_HOLD = t.get TR.PAD_CTRL_HOLD % 2 ∧ u.pad.holdDue = none ∧
      OnlyTlRegs [TR.PAD_STATUS_HOLD] t u) ∧
  (∀ p a v s, let t := s.tladon p
    t.state = 3 →
    TlRuns (.padConfigWrite p a v) p s fun u =>
      u.get TR.PAD_STATUS_WR_IGNORED = 1 ∧ OnlyTlRegs [TR.PAD_STATUS_WR_IGNORED] t u) ∧
  (∀ p v s, let t := s.tladon p
    t.state ≠ 3 →
    TlRuns (.padConfigWrite p TR.PAD_WIN v) p s fun u =>
      u.get TR.PAD_WIN_W_PRE = bits 27 16 v ∧ u.get TR.PAD_WIN_W_POST = bits 12 0 v ∧
      (u.get TR.PAD_STATUS_CFG_ERR = 1 ↔ 4096 < bits 27 16 v + bits 12 0 v ∨ bits 12 0 v = 0) ∧
      OnlyTlRegs [TR.PAD_WIN_W_PRE, TR.PAD_WIN_W_POST, TR.PAD_STATUS_CFG_ERR] t u)

/-- Accepts, fragments, the frame boundary, primitives and the blocks of an uplink. In ACQUIRING and triggered
operation an accept that takes effect joins the accept queue with its number and its window and counts modulo
2^32, and in streaming it is counted stray; the fragment of the oldest accept is built once its window is
closed, or at once for a reduced one, and counts what MAX_WORDS cut off; at a frame boundary FRAME_HEAD is due
on every uplink and a change of bonding takes effect; the primitive words of a slot are packed 64 ticks after
its first tick; at the gate tick its window leaves on uplink 0; a block position sends what the uplink carries
next, with the replays that are due. Each completes and touches only the Tladon of its port and the list of
what has left. -/
def Obligations.PaddockOutput : Prop :=
  (∀ p due q r s, let t := s.tladon p
    let sl := (t.slotOf (t.count s.now) + 2 ^ 37 - (t.slotOf (t.count s.now) + 65536 - q % 65536) % 65536) % 2 ^ 37
    t.pad.arriving = (due, q) :: r → due ≤ s.now → t.state = 3 → t.get TR.PAD_CFG_MODE = 0 →
    t.get TR.PAD_STATUS_CFG_ERR = 0 → (t.pad.accQ.filter (·.form != 2)).length < 64 → t.get TR.PAD_STATUS_HOLD = 0 →
    t.get TR.PAD_HOLDOFF_HO_MODE = 0 → t.pad.lastTrig = none →
    TlRuns (.acceptTakeEffect p) p s fun u =>
      u.pad.arriving = r ∧
      (∃ a, u.pad.accQ = t.pad.accQ ++ [a] ∧ a.form = 0 ∧ a.num = t.get TR.PAD_ACC_CNT_ACCEPTS ∧
        a.t0 = unsigned 42 ((t.slotTick sl : Int) - t.get TR.PAD_WIN_W_PRE) ∧
        a.t1 = (t.slotTick sl + t.get TR.PAD_WIN_W_POST) % 2 ^ 42 ∧ a.dropped = false ∧ a.held = false) ∧
      u.pad.lastTrig = some (t.slotTick sl) ∧
      u.get TR.PAD_ACC_CNT_ACCEPTS = (t.get TR.PAD_ACC_CNT_ACCEPTS + 1) % 2 ^ 32 ∧
      OnlyTlRegs [TR.PAD_ACC_CNT_ACCEPTS, TR.PAD_FLAG_CNT0_EXPIRED, TR.PAD_FLAG_CNT1_OVERLAP] t u) ∧
  (∀ p due q r s, let t := s.tladon p
    t.pad.arriving = (due, q) :: r → due ≤ s.now → t.state = 3 → t.get TR.PAD_CFG_MODE ≠ 0 →
    TlRuns (.acceptTakeEffect p) p s fun u =>
      u.pad = { t.pad with arriving := r } ∧
      u.get TR.PAD_FLAG_CNT1_STRAY = min (t.get TR.PAD_FLAG_CNT1_STRAY + 1) (TR.PAD_FLAG_CNT1_STRAY.size - 1) ∧
      OnlyTlRegs [TR.PAD_ACC_CNT_ACCEPTS, TR.PAD_FLAG_CNT1_STRAY] t u) ∧
  (∀ p corr bad a r s, let t := s.tladon p
    t.pad.accQ = a :: r → t.state = 3 → (a.form ≠ 0 ∨ t.windowClosed s.now a = true) →
    TlRuns (.fragmentBuild p corr bad) p s fun u =>
      u.pad.accQ = r ∧
      (a.form = 0 → t.get TR.PAD_FRAG_MAX_WORDS ≠ 0 → t.get TR.PAD_FRAG_MAX_WORDS < (t.windowWords a).length →
        u.get TR.PAD_FLAG_CNT0_TRUNC = min (t.get TR.PAD_FLAG_CNT0_TRUNC + 1) (TR.PAD_FLAG_CNT0_TRUNC.size - 1) ∧
        u.get TR.PAD_LOSS_TR_TRUNC_WORDS =
          min (t.get TR.PAD_LOSS_TR_TRUNC_WORDS + ((t.windowWords a).length - t.get TR.PAD_FRAG_MAX_WORDS))
            (TR.PAD_LOSS_TR_TRUNC_WORDS.size - 1)) ∧
      OnlyTlRegs [TR.PAD_ECC_CORR, TR.PAD_ECC_UNCORR, TR.PAD_FLAG_CNT0_TRUNC, TR.PAD_LOSS_TR_TRUNC_WORDS,
        TR.PAD_FLAG_CNT1_LOSSY] t u) ∧
  (∀ p s, let t := s.tladon p
    t.locked = true → t.count s.now % 65536 = 0 → t.linkDue = none → t.state ≠ 3 →
    TlRuns (.tladonFrameBoundary p) p s fun u =>
      u.ups = t.ups.map (fun x => { x with head := some (t.frame s.now) }) ∧ OnlyTlRegs [] t u) ∧
  (∀ p v due s, let t := s.tladon p
    t.locked = true → t.count s.now % 65536 = 0 → t.linkDue = some (v, due) → due ≤ s.now → t.state ≠ 3 →
    TlRuns (.tladonFrameBoundary p) p s fun u =>
      u.linkDue = none ∧ u.get TR.LINK_CFG_MIRROR = bits 2 2 v ∧ u.get TR.LINK_CFG_BOND = bits 1 0 v ∧
      OnlyTlRegs [TR.LINK_CFG_MIRROR, TR.LINK_CFG_BOND, TR.LINK_STATUS_UP_ACTIVE] t u) ∧
  (∀ p k s, let t := s.tladon p
    t.primSlot s.now k = true → t.passed s.now ((t.slotTick k + 64) % 2 ^ 42) = true →
    TlRuns (.primitiveForm p k) p s fun u =>
      SMap.find k u.pad.formed = some (t.primWord k 0, t.primWord k 1) ∧
      (∀ j, j ≠ k → SMap.find j u.pad.formed = SMap.find j t.pad.formed) ∧ OnlyTlRegs [] t u) ∧
  (∀ p k s, let t := s.tladon p
    t.primSlot s.now k = true → t.count s.now = (t.slotTick k + 127) % 2 ^ 42 → t.upOn = true →
    t.get TR.LINK_CFG_MIRROR = 0 → (t.up 0).mute ≤ s.now →
    Runs (.primitiveWindow p k) s fun z =>
      let ws := SMap.getD (none, none) k t.pad.formed
      z.out = s.out ++ [.window p 0 k (Tladon.primHeader ws) ([ws.1, ws.2].filterMap id)] ∧
      SMap.find k (z.tladon p).pad.formed = none ∧ (∀ j, j ≠ p → z.tladon j = s.tladon j) ∧
      OnlyTlRegs [] t (z.tladon p)) ∧
  (∀ p k off hdr body u s, let t := s.tladon p
    t.upOn = true → t.active.contains k = true → k < t.ups.length → t.nextBlock k off = (hdr, body, u, none) →
    Runs (.uplinkBlockSend p k off) s fun z =>
      z.out = s.out ++ Out.upBlock p k hdr body :: ((Tladon.advance u).2.map fun n => Out.upReplay p k n) ∧
      (z.tladon p).up k = (Tladon.advance u).1 ∧ (∀ j, j ≠ p → z.tladon j = s.tladon j) ∧
      OnlyTlRegs [TR.LINK_UP_CNT_NACKED k, TR.LINK_UP_CNT_REPLAYED k] t (z.tladon p))

/-- The register commands, MON_SWEEP, HOLD, RELEASE, CLAIM, REPLAY and RELINK as Tladon obeys them. A command that
a downlink in cell lock brings to a state that allows it, from the obeyed downlink where R273 asks for it, is
obeyed and counted: REG_WRITE writes by the rule of its block and returns what then reads, REG_READ returns
the value and clears the RC fields of its register, REG_PEEK returns it and changes no register, MON_SWEEP
starts a sweep, HOLD and RELEASE set the hold request, CLAIM makes the claim of its downlink valid, REPLAY
queues the held RS block or a NACK, RELINK mutes the windows of the masked uplinks to the end of the next
frame. From a downlink that is not obeyed the command is refused, counted and nothing else. No other Tladon
changes. -/
def Obligations.DownlinkCommands : Prop :=
  (∀ p d tag a v s, let t := s.tladon p
    let w := (t.add TR.LINK_CMD_CNT_OBEYED 1).write s.now a v
    t.hears d = true → t.obeyed = some d → t.allowed 0x01 a = true →
    Runs (.regWrite p d tag a v) s fun z =>
      z.tladon p = w.sendLow 1 (Tladon.regData tag a (w.peek s.now (Config.freeValue s.freeCnt) a)) ∧
      z.freeCnt = s.freeCnt + 1 ∧ ∀ q, q ≠ p → z.tladon q = s.tladon q) ∧
  (∀ p d tag v s, let t := s.tladon p
    t.hears d = true → t.obeyed = some d → t.allowed 0x01 TR.MON_MASK = true →
    Runs (.regWrite p d tag TR.MON_MASK v) s fun z =>
      (z.tladon p).get TR.MON_MASK_MASK = bits 15 0 v ∧
      OnlyTlRegs [TR.LINK_CMD_CNT_OBEYED, TR.MON_MASK_MASK] t (z.tladon p)) ∧
  (∀ p d tag a fs s, let t := s.tladon p
    t.hears d = true → t.obeyed = some d → t.allowed 0x02 a = true → t.fields a = some fs →
    a ≠ TR.TIME_COUNT_LO → a ≠ TR.SURVEY_RATIO_LO →
    Runs (.regRead p d tag a) s fun z =>
      (z.tladon p).regs = RegFile.clearRC fs (t.add TR.LINK_CMD_CNT_OBEYED 1).regs ∧
      (z.tladon p).ups = ({ t with regs := RegFile.clearRC fs (t.add TR.LINK_CMD_CNT_OBEYED 1).regs }.sendLow 1
        (Tladon.regData tag a ((t.add TR.LINK_CMD_CNT_OBEYED 1).peek s.now (Config.freeValue s.freeCnt) a))).ups ∧
      ∀ q, q ≠ p → z.tladon q = s.tladon q) ∧
  (∀ p d tag a s, let t := s.tladon p
    t.hears d = true → t.obeyed = some d → t.allowed 0x03 a = true →
    Runs (.regPeek p d tag a) s fun z =>
      (z.tladon p).ups = ((t.add TR.LINK_CMD_CNT_OBEYED 1).sendLow 1
        (Tladon.regData tag a ((t.add TR.LINK_CMD_CNT_OBEYED 1).peek s.now (Config.freeValue s.freeCnt) a))).ups ∧
      OnlyTlRegs [TR.LINK_CMD_CNT_OBEYED] t (z.tladon p) ∧ ∀ q, q ≠ p → z.tladon q = s.tladon q) ∧
  (∀ p d n r s, let t := s.tladon p
    t.hears d = true → t.obeyed = some d → t.running = true → t.sweep = none →
    ((List.range 16).filter fun i => bit i (t.get TR.MON_MASK_MASK)) = n :: r →
    TlRuns (.monSweep p d) p s fun u =>
      u.sweep = some ⟨n :: r, s.now + 1, (t.count s.now + 1) % 2 ^ 42⟩ ∧
      OnlyTlRegs [TR.LINK_CMD_CNT_OBEYED, TR.MON_STATUS_BUSY, TR.MON_STATUS_SOURCE] t u) ∧
  (∀ p d s, let t := s.tladon p
    t.hears d = true → t.obeyed = some d → t.allowed 0x06 0 = true →
    (TlRuns (.hold p d) p s fun u =>
      u.get TR.PAD_CTRL_HOLD = 1 ∧ OnlyTlRegs [TR.LINK_CMD_CNT_OBEYED, TR.PAD_CTRL_HOLD] t u) ∧
    TlRuns (.release p d) p s fun u =>
      u.get TR.PAD_CTRL_HOLD = 0 ∧ OnlyTlRegs [TR.LINK_CMD_CNT_OBEYED, TR.PAD_CTRL_HOLD] t u) ∧
  (∀ p d s, let t := s.tladon p
    t.hears d = true → t.obeyed ≠ some d →
    TlRuns (.hold p d) p s fun u =>
      u.get TR.LINK_CMD_CNT_REFUSED = min (t.get TR.LINK_CMD_CNT_REFUSED + 1) (TR.LINK_CMD_CNT_REFUSED.size - 1) ∧
      u.pad = t.pad ∧ OnlyTlRegs [TR.LINK_CMD_CNT_REFUSED] t u) ∧
  (∀ p d v s, let t := s.tladon p
    t.hears d = true → t.dls.length = 2 →
    TlRuns (.claim p d v) p s fun u =>
      (u.dl d).claimAt = some s.now ∧
      u.get (if d then TR.LINK_CLAIM_B_CLAIM else TR.LINK_CLAIM_A_CLAIM) = v % 2 ^ 32 ∧
      u.get (if d then TR.LINK_STATUS_CLAIM_B else TR.LINK_STATUS_CLAIM_A) = 1 ∧
      OnlyTlRegs [TR.LINK_CMD_CNT_OBEYED, if d then TR.LINK_CLAIM_B_CLAIM else TR.LINK_CLAIM_A_CLAIM,
        if d then TR.LINK_STATUS_CLAIM_B else TR.LINK_STATUS_CLAIM_A] t u) ∧
  (∀ p d k n s, let t := s.tladon p
    t.hears d = true → (d = false ∨ t.mirror = true) → t.allowed 0x10 0 = true →
    t.active.contains (k + 2 * b2n d) = true → k + 2 * b2n d < t.ups.length →
    TlRuns (.replay p d k n) p s fun u =>
      ((t.up (k + 2 * b2n d)).held.contains (n % 128, false) = true →
        (u.up (k + 2 * b2n d)).replays = (t.up (k + 2 * b2n d)).replays ++ [n % 128]) ∧
      ((t.up (k + 2 * b2n d)).held.contains (n % 128, false) = false →
        (u.up (k + 2 * b2n d)).nacks = (t.up (k + 2 * b2n d)).nacks ++ [n % 128]) ∧
      OnlyTlRegs [TR.LINK_CMD_CNT_OBEYED] t u) ∧
  (∀ p d mask k s, let t := s.tladon p
    t.hears d = true → (d = false ∨ t.mirror = true) → t.allowed 0x11 0 = true →
    bit k (mask % 16) = true → k + 2 * b2n d < t.ups.length →
    TlRuns (.relink p d mask) p s fun u =>
      (u.up (k + 2 * b2n d)).mute = s.now + 131072 - t.count s.now % 65536 ∧
      OnlyTlRegs [TR.LINK_CMD_CNT_OBEYED] t u)

/-- The state commands, RESET and the power-on reset of a Tladon. STATE LISTEN goes to LISTENING, STATE CONFIGURE
goes to CONFIGURED from LISTENING at once and from ACQUIRING when its row comes due, STATE ACQUIRE goes to
ACQUIRING at its row on a frame boundary with no epoch pending, STATE QUIET goes to QUIET and powers the
uplinks down at its row, each with its cause and leaving every register but the named ones (R285); RESET
returns every register but the named ones to its reset value and leaves LISTENING with cause 3; POWERED goes
to LISTENING with cause 1; at the release of the power-on reset a Tladon starts from its reset values with
LINK_CFG from its strap pins, and a rail that drops returns it to them. Each completes and touches only the
Tladon of its port. The due ticks are model ticks. -/
def Obligations.StateCommands : Prop :=
  (∀ p d s, let t := s.tladon p
    t.hears d = true → t.obeyed = some d → t.allowed 0x08 1 = true → t.state ≠ 1 →
    TlRuns (.stateListen p d) p s fun u =>
      u.state = 1 ∧ u.get TR.ID_STATE_CAUSE = 2 ∧ u.sched = none ∧
      OnlyTlRegs (TR.LINK_CMD_CNT_OBEYED :: TR.LINK_STATUS_UP_ACTIVE :: Tladon.stateRegs) t u) ∧
  (∀ p d s, let t := s.tladon p
    t.hears d = true → t.obeyed = some d → t.state = 1 → t.locked = true →
    TlRuns (.stateConfigure p d) p s fun u =>
      u.state = 2 ∧ u.get TR.ID_STATE_CAUSE = 2 ∧
      OnlyTlRegs (TR.LINK_CMD_CNT_OBEYED :: Tladon.stateRegs) t u) ∧
  (∀ p d s, let t := s.tladon p
    t.hears d = true → t.obeyed = some d → t.state = 2 →
    TlRuns (.stateAcquire p d) p s fun u =>
      u.sched = some (3, s.now + 4096) ∧ u.state = 2 ∧ OnlyTlRegs [TR.LINK_CMD_CNT_OBEYED] t u) ∧
  (∀ p d s, let t := s.tladon p
    t.hears d = true → t.obeyed = some d → t.state = 1 ∨ t.state = 2 ∨ t.state = 3 →
    TlRuns (.stateQuiet p d) p s fun u =>
      u.state = 4 ∧ u.get TR.ID_STATE_CAUSE = 2 ∧ u.sched = some (4, s.now + (65536 - t.count s.now % 65536)) ∧
      OnlyTlRegs (TR.LINK_CMD_CNT_OBEYED :: Tladon.stateRegs) t u) ∧
  (∀ p due s, let t := s.tladon p
    t.sched = some (3, due) → due ≤ s.now → t.locked = true → t.count s.now % 65536 = 0 → t.epoch = none →
    TlRuns (.stateAcquireEffect p) p s fun u =>
      u.state = 3 ∧ u.get TR.ID_STATE_CAUSE = 2 ∧ u.sched = none ∧ u.get TR.PAD_ACC_CNT_ACCEPTS = 0 ∧
      u.pad = { Paddock.empty with entry := s.now } ∧ OnlyTlRegs Tladon.stateRegs t u) ∧
  (∀ p due s, let t := s.tladon p
    t.sched = some (2, due) → due ≤ s.now → t.state = 3 →
    TlRuns (.stateConfigureEffect p) p s fun u =>
      u.state = 2 ∧ u.get TR.ID_STATE_CAUSE = 2 ∧ u.sched = none ∧ u.pad = Paddock.empty ∧ u.ints = [] ∧
      OnlyTlRegs [TR.ID_STATE_STATE, TR.ID_STATE_CAUSE] t u) ∧
  (∀ p due s, let t := s.tladon p
    t.sched = some (4, due) → due ≤ s.now → t.state = 4 →
    TlRuns (.quietPowerDown p) p s fun u =>
      u.sched = none ∧ u.get TR.LINK_STATUS_UP_ACTIVE = 0 ∧ OnlyTlRegs [TR.LINK_STATUS_UP_ACTIVE] t u) ∧
  (∀ p d s, let t := s.tladon p
    t.hears d = true → t.obeyed = some d → t.state = 1 ∨ t.state = 2 ∨ t.state = 3 →
    TlRuns (.reset p d) p s fun u =>
      u.state = 1 ∧ u.get TR.ID_STATE_CAUSE = 3 ∧ u.sched = none ∧ u.pad = Paddock.empty ∧ u.gate = none ∧
      u.sweep = none ∧ u.samps = [] ∧
      (∀ f ∈ Tladon.resetKeeps, f.key ≠ TR.ID_STATE_STATE.key → f.key ≠ TR.ID_STATE_CAUSE.key → u.get f = t.get f) ∧
      ∀ f : Fld, (∀ g ∈ Tladon.resetKeeps, f.key ≠ g.key) → f.key ≠ TR.LINK_STATUS_UP_ACTIVE.key → u.get f = f.reset) ∧
  (∀ p s, let t := s.tladon p
    t.powered = true → t.state = 0 →
    TlRuns (.poweredToListening p) p s fun u =>
      u.state = 1 ∧ u.get TR.ID_STATE_CAUSE = 1 ∧
      OnlyTlRegs [TR.ID_STATE_STATE, TR.ID_STATE_CAUSE, TR.LINK_STATUS_UP_ACTIVE] t u) ∧
  (∀ p s, let t := s.tladon p
    t.powered = false →
    TlRuns (.tladonPorRelease p) p s fun u =>
      u.powered = true ∧ u.state = 0 ∧ u.get TR.LINK_CFG_MIRROR = bits 2 2 t.straps ∧
      u.get TR.LINK_CFG_BOND = bits 1 0 t.straps ∧ u.obeyed = none ∧ u.pad = Paddock.empty ∧
      (∀ f : Fld, f.key ≠ TR.LINK_CFG_MIRROR.key → f.key ≠ TR.LINK_CFG_BOND.key → u.get f = f.reset)) ∧
  (∀ p s, let t := s.tladon p
    TlRuns (.tladonRailDrop p) p s fun u =>
      u = { Tladon.reset with tl512t := t.tl512t, straps := t.straps } ∧ (∀ f : Fld, u.get f = f.reset) ∧
      u.upOn = false)

/-- The downlink receivers of a Tladon. Outside cell lock the sixteenth good cell in a row gives cell lock; in
cell lock a cell that fails counts in UNCORR, the eighth failing one in a row ends the lock and with it the
claim, a good cell counts in CORR when it is corrected and its accept enters the pipeline from the obeyed
downlink only, and a cell that starts a command of a known opcode opens it. CDR lock starts the count of
cells, CDR loss ends it, a claim that no CLAIM renews within 4,096 Datum cycles ends, and a write of LINK_CFG
waits for the next frame boundary. An accept is due 32 ticks after the last bit of its cell. -/
def Obligations.DownlinkReceiver : Prop :=
  (∀ p d w raw s, let t := s.tladon p
    t.powered = true → t.state ≠ 0 → (t.dl d).cdr = true → t.cellLock d = false → Tladon.goodCell w = true →
    (t.dl d).good = 15 →
    Runs (.downlinkCellRx p d w raw) s fun z => let u := z.tladon p
      u.cellLock d = true ∧ OnlyTlRegs [if d then TR.LINK_STATUS_LOCK_B else TR.LINK_STATUS_LOCK_A] t u ∧
      ∀ q, q ≠ p → z.tladon q = s.tladon q) ∧
  (∀ p d w raw s, let t := s.tladon p
    t.powered = true → t.state ≠ 0 → (t.dl d).cdr = true → t.cellLock d = true → Tladon.goodCell w = false →
    t.dls.length = 2 → (t.dl d).bad + 1 ≠ 8 →
    Runs (.downlinkCellRx p d w raw) s fun z => let u := z.tladon p
      u.get (Tladon.errUncorr d) = min (t.get (Tladon.errUncorr d) + 1) ((Tladon.errUncorr d).size - 1) ∧
      (u.dl d).bad = (t.dl d).bad + 1 ∧ u.pad = t.pad ∧
      OnlyTlRegs [Tladon.errUncorr d] t u ∧ ∀ q, q ≠ p → z.tladon q = s.tladon q) ∧
  (∀ p d w raw s, let t := s.tladon p
    t.powered = true → t.state ≠ 0 → (t.dl d).cdr = true → t.cellLock d = true → Tladon.goodCell w = false →
    (t.dl d).bad = 7 → (t.dl d).cmd = none →
    Runs (.downlinkCellRx p d w raw) s fun z => let u := z.tladon p
      u.cellLock d = false ∧ u.get (if d then TR.LINK_STATUS_CLAIM_B else TR.LINK_STATUS_CLAIM_A) = 0 ∧
      OnlyTlRegs [Tladon.errUncorr d, if d then TR.LINK_STATUS_LOCK_B else TR.LINK_STATUS_LOCK_A,
        if d then TR.LINK_STATUS_CLAIM_B else TR.LINK_STATUS_CLAIM_A] t u ∧ ∀ q, q ≠ p → z.tladon q = s.tladon q) ∧
  (∀ p d w raw data corr s, let t := s.tladon p
    t.powered = true → t.state ≠ 0 → (t.dl d).cdr = true → t.cellLock d = true → Tladon.goodCell w = true →
    Tladon.decodeCell w = some (data, corr) → bit 37 data = false → bit 32 data = false → (t.dl d).cmd = none →
    Runs (.downlinkCellRx p d w raw) s fun z => let u := z.tladon p
      u.pad.arriving = t.pad.arriving ++
        (if bit 54 data ∧ t.obeyed = some d then [(s.now + 32, bits 53 38 data)] else []) ∧
      (corr = true → u.get (Tladon.errCorr d) = min (t.get (Tladon.errCorr d) + 1) ((Tladon.errCorr d).size - 1)) ∧
      OnlyTlRegs (if corr then [Tladon.errCorr d] else []) t u ∧ ∀ q, q ≠ p → z.tladon q = s.tladon q) ∧
  (∀ p d w raw data n s, let t := s.tladon p
    t.powered = true → t.state ≠ 0 → (t.dl d).cdr = true → t.cellLock d = true → Tladon.goodCell w = true →
    Tladon.decodeCell w = some (data, false) → bit 54 data = false → bit 37 data = false → bit 32 data = true →
    (t.dl d).cmd = none → Tladon.cmdCells (bits 31 24 (bits 31 0 data)) = some n → t.dls.length = 2 →
    Runs (.downlinkCellRx p d w raw) s fun z => let u := z.tladon p
      (u.dl d).cmd = some ⟨[bits 31 0 data], s.now - 32⟩ ∧ OnlyTlRegs [] t u ∧
      ∀ q, q ≠ p → z.tladon q = s.tladon q) ∧
  (∀ p d s, let t := s.tladon p
    t.powered = true → t.state ≠ 0 → t.dls.length = 2 →
    TlRuns (.tladonDlCdrLock p d) p s fun u => (u.dl d).cdr = true ∧ (u.dl d).good = 0 ∧ OnlyTlRegs [] t u) ∧
  (∀ p d s, let t := s.tladon p
    t.dls.length = 2 → (t.dl d).cmd = none →
    TlRuns (.tladonDlCdrLoss p d) p s fun u =>
      (u.dl d).cdr = false ∧ u.cellLock d = false ∧
      OnlyTlRegs [if d then TR.LINK_STATUS_LOCK_B else TR.LINK_STATUS_LOCK_A,
        if d then TR.LINK_STATUS_CLAIM_B else TR.LINK_STATUS_CLAIM_A] t u) ∧
  (∀ p d at' s, let t := s.tladon p
    (t.dl d).claimAt = some at' → at' + 131072 ≤ s.now → t.dls.length = 2 →
    TlRuns (.claimExpiry p d) p s fun u =>
      (u.dl d).claimAt = none ∧ u.get (if d then TR.LINK_STATUS_CLAIM_B else TR.LINK_STATUS_CLAIM_A) = 0 ∧
      OnlyTlRegs [if d then TR.LINK_STATUS_CLAIM_B else TR.LINK_STATUS_CLAIM_A] t u) ∧
  (∀ p v s, let t := s.tladon p
    t.state = 1 ∨ t.state = 2 →
    TlRuns (.linkCfgWrite p v) p s fun u =>
      u.linkDue = some (v, if t.locked then s.now + (65536 - t.count s.now % 65536) else s.now) ∧
      OnlyTlRegs [] t u)

/-- Markers, samples and parameters of triangulation, and the walk tables. A marker leaves at a cell boundary of a
frame in which it is due and its departure is kept under its number; a stamp that comes back more than 65,536
ticks later, or not at all, counts as missed; a stamp without its frame start waits for it; a stamp whose
frame start has arrived gives the sample of R49 and R50, which joins the running average; a write of TRI_CTRL
that sets EN and each write of a parameter that changes it restart the average; a walk-table entry is written
in HELD and ADMITTED and refused in other states; EPOCH_DONE moves every average by the epoch. Only the named
registers change. -/
def Obligations.Triangulation : Prop :=
  (∀ p s, let t := s.tri' p
    s.portHere p = true → 2 ≤ s.ws → s.tick % 32 = 0 → t.markAt ≤ s.wframe →
    Runs (.markerSend p) s fun z => let u := z.tri' p
      z.out = s.out ++ [.dlMark p t.mark] ∧ u.mark = (t.mark + 1) % 16 ∧
      u.markAt = s.wframe + 2 ^ min 4 (s.wget (WR.TRI_CTRL_MARK_DIV p)) ∧
      u.sent = (t.sent.filter fun x => x.1 != t.mark) ++ [(t.mark, s.tick)] ∧
      (∀ q, q ≠ p → z.tri' q = s.tri' q) ∧ OnlyRegs [] s z) ∧
  (∀ (p : Nat) (d : Bool) (num tick fine dep : Nat) (s : State), let t := s.tri' p
    s.portHere p = true → s.laneUp p = true → d = s.sideB → (t.sent.find? fun x => x.1 == num) = some (num, dep) →
    dep + 65536 < s.tick →
    Runs (.triStampRx p d num tick fine) s fun z =>
      z.wget (WR.TRI_STATUS_MISSED p) =
        min (s.wget (WR.TRI_STATUS_MISSED p) + 1) ((WR.TRI_STATUS_MISSED p).size - 1) ∧
      (z.tri' p).sent = t.sent.filter (fun x => x.1 != num) ∧ OnlyRegs [WR.TRI_STATUS_MISSED p] s z) ∧
  (∀ (p : Nat) (d : Bool) (num tick fine dep : Nat) (s : State), let t := s.tri' p
    let a := s.ext42 tick * 256 + fine
    s.portHere p = true → s.laneUp p = true → d = s.sideB → (t.sent.find? fun x => x.1 == num) = some (num, dep) →
    s.tick ≤ dep + 65536 → s.wget (WR.TRI_CTRL_EN p) ≠ 0 → s.triBlocked p = false →
    (t.starts.find? fun x => x.2.1 == State.pairedFrame a) = none →
    Runs (.triStampRx p d num tick fine) s fun z =>
      (z.tri' p).stamps = t.stamps ++ [(s.tick, dep, a)] ∧ (z.tri' p).sent = t.sent.filter (fun x => x.1 != num) ∧
      OnlyRegs [] s z) ∧
  (∀ (p : Nat) (d : Bool) (num tick fine dep at' : Nat) (b : Int) (s : State), let t := s.tri' p
    let a := s.ext42 tick * 256 + fine
    let fr := (a + (2 ^ 24 - 1)) / 2 ^ 24
    let kd : Int := s.wget (WR.TRI_KDOWN_K p)
    let f := ((a - (dep : Int) * 256) + (b - fr * 2 ^ 24)) * 256 - kd - s.wget (WR.TRI_KUP_K p)
    let down := divRound (f * (2 ^ 31 + signed 32 (s.wget (WR.TRI_ALPHA_ALPHA p)))) (2 ^ 32)
    s.portHere p = true → s.laneUp p = true → d = s.sideB → (t.sent.find? fun x => x.1 == num) = some (num, dep) →
    s.tick ≤ dep + 65536 → s.wget (WR.TRI_CTRL_EN p) ≠ 0 → s.triBlocked p = false →
    (t.starts.find? fun x => x.2.1 == State.pairedFrame a) = some (at', State.pairedFrame a, b) →
    t.part.length + 1 < s.avgLen p → s.wget (WR.TRI_STATUS_AVERAGED p) ≠ 0 →
    Runs (.triStampRx p d num tick fine) s fun z =>
      (z.tri' p).part = t.part ++ [⟨s.tick, at', ((dep : Int) * 256 - a) * 256 + down + kd, f, fr⟩] ∧
      z.wget (WR.TRI_STATUS_VALID p) = 1 ∧ OnlyRegs [WR.TRI_STATUS_VALID p] s z) ∧
  (∀ p num dep s, let t := s.tri' p
    (t.sent.find? fun x => x.1 == num) = some (num, dep) → dep + 65536 < s.tick →
    Runs (.triStampMissed p num) s fun z =>
      z.wget (WR.TRI_STATUS_MISSED p) =
        min (s.wget (WR.TRI_STATUS_MISSED p) + 1) ((WR.TRI_STATUS_MISSED p).size - 1) ∧
      (z.tri' p).sent = t.sent.filter (fun x => x.1 != num) ∧ OnlyRegs [WR.TRI_STATUS_MISSED p] s z) ∧
  (∀ p v s,
    s.portHere p = true → bit 0 v = true → s.wget (WR.TRI_CTRL_EN p) = 0 →
    Runs (.triCtrlWrite p v) s fun z =>
      z.wget (WR.TRI_CTRL_EN p) = 1 ∧ z.wget (WR.TRI_STATUS_VALID p) = 0 ∧ z.wget (WR.TRI_STATUS_AVERAGED p) = 0 ∧
      (z.tri' p).part = [] ∧
      OnlyRegs ((regAt WR.rows (WR.TRI_CTRL p)).getD [] ++ [WR.TRI_STATUS_VALID p, WR.TRI_STATUS_AVERAGED p]) s z) ∧
  (∀ p v s,
    s.portHere p = true → s.ws = 2 ∨ s.ws = 3 →
    (v % 2 ^ 32 ≠ s.wget (WR.TRI_ALPHA_ALPHA p) →
      Runs (.triAlphaWrite p v) s fun z =>
        z.wget (WR.TRI_ALPHA_ALPHA p) = v % 2 ^ 32 ∧ z.wget (WR.TRI_STATUS_VALID p) = 0 ∧
        z.wget (WR.TRI_STATUS_AVERAGED p) = 0 ∧ (z.tri' p).part = [] ∧
        OnlyRegs [WR.TRI_ALPHA_ALPHA p, WR.TRI_STATUS_VALID p, WR.TRI_STATUS_AVERAGED p] s z) ∧
    (v % 2 ^ 32 ≠ s.wget (WR.TRI_KDOWN_K p) →
      Runs (.triKdownWrite p v) s fun z =>
        z.wget (WR.TRI_KDOWN_K p) = v % 2 ^ 32 ∧ z.wget (WR.TRI_STATUS_VALID p) = 0 ∧
        z.wget (WR.TRI_STATUS_AVERAGED p) = 0 ∧ (z.tri' p).part = [] ∧
        OnlyRegs [WR.TRI_KDOWN_K p, WR.TRI_STATUS_VALID p, WR.TRI_STATUS_AVERAGED p] s z) ∧
    (v % 2 ^ 32 ≠ s.wget (WR.TRI_KUP_K p) →
      Runs (.triKupWrite p v) s fun z =>
        z.wget (WR.TRI_KUP_K p) = v % 2 ^ 32 ∧ z.wget (WR.TRI_STATUS_VALID p) = 0 ∧
        z.wget (WR.TRI_STATUS_AVERAGED p) = 0 ∧ (z.tri' p).part = [] ∧
        OnlyRegs [WR.TRI_KUP_K p, WR.TRI_STATUS_VALID p, WR.TRI_STATUS_AVERAGED p] s z)) ∧
  (∀ off v s, let a := 0x20000000 + off
    s.inPart 1 a = true →
    (s.ws = 2 ∨ s.ws = 3 →
      Runs (.walkTableWrite off v) s fun z =>
        (z.byte a).toNat = v % 256 ∧ (z.byte (a + 1)).toNat = v / 256 % 256 ∧ OnlyBytes a 2 s z ∧ OnlyRegs [] s z) ∧
    (s.ws ≠ 2 → s.ws ≠ 3 →
      Runs (.walkTableWrite off v) s fun z =>
        z.mem = s.mem ∧ OnlyRegs ((List.range s.lanesCount).map WR.WALK_STATUS_WRITE_REFUSED) s z ∧
        ∀ p, p < s.lanesCount → s.portHere p = true →
          0x20000000 + s.wget (WR.WALK_ADDR_BASE p) * 65536 ≤ a →
          a < 0x20000000 + s.wget (WR.WALK_ADDR_BASE p) * 65536 + 65536 →
          z.wget (WR.WALK_STATUS_WRITE_REFUSED p) = 1)) ∧
  (∀ l at' j r s, let p := s.lanePort l
    let t := s.tri' p
    s.laneUp l = true → s.laneK l = 0 → t.epochs = (at', j) :: r → at' + 2048 ≤ s.tick → t.part = [] →
    Runs (.epochDoneRx l) s fun z => let u := z.tri' p
      u.avgs = t.avgs.map (fun x => ((x.1 * 65536 + j) / 65536, x.2 - 65536 * j)) ∧ u.stamps = [] ∧ u.starts = [] ∧
      u.epochAt = some s.tick ∧
      z.triTheta p = signed 48 (unsigned 48 (s.triTheta p - 65536 * j)) ∧
      OnlyRegs [WR.TRI_THETA_LO_THETA p, WR.TRI_THETA_HI_THETA p] s z)

/-- The Meridian clock: anchors, rate, adjustment, steps and its source. At a Wonan frame boundary the anchor of
the frame is latched, the rate and slew terms together move by at most 1×10^-7 (28,147,497 steps of 2^-48) and
in HOLDOVER stand still; a step that waits is added to the anchor at the boundary and sets STEP_DONE and
TIME_VALID; a rate is kept within ±200×10^-6 and ignored in HOLDOVER and in a hardware loop; an adjustment
adds to the remainder, cancelling clears it; a step is added to a waiting one; a nanosecond offset outside its
range is ignored; the source changes in HELD and ADMITTED; LOCK and RELOCK act from ACQUIRING and HOLDOVER
while no loss persists. Only the named registers change. -/
def Obligations.MeridianClock : Prop :=
  (∀ (span meas loop : Nat) (s : State), let a := s.anchorNow
    s.boundaryDue = true → s.wget WR.MER_STATUS_STATE ≠ 4 → s.wget WR.MER_DATUM_CFG_DATUM_SRC = 0 →
    Runs (.wonanFrameBoundary span meas loop) s fun z =>
      z.anchorNow.frame = s.wframe ∧ z.anchorNow.p = s.pNom ∧
      z.anchorNow.time = State.timeAdd a.time ((s.wframe - a.frame) * a.p : Nat) ∧
      z.wget WR.MER_DATUM_MEAS_FREQ = meas % 2 ^ 32 ∧
      (z.mer.slewE - s.mer.slewE).natAbs + (z.mer.rateE - s.mer.rateE).natAbs ≤ 28147497 ∧
      OnlyRegs [WR.MER_DATUM_MEAS_FREQ, WR.MER_STATUS_SLEWING, WR.MER_ADJ_REM_REM, WR.PAIR_STATUS_TIME_SPLIT] s z) ∧
  (∀ (span meas loop : Nat) (s : State),
    s.boundaryDue = true → s.wget WR.MER_STATUS_STATE = 4 →
    Runs (.wonanFrameBoundary span meas loop) s fun z =>
      z.anchorNow.frame = s.wframe ∧ z.mer.rateE = s.mer.rateE ∧ z.mer.slewE = s.mer.slewE ∧
      OnlyRegs [WR.MER_DATUM_MEAS_FREQ, WR.PAIR_STATUS_TIME_SPLIT] s z) ∧
  (∀ (d : Int) (a : Anchor) (r : List Anchor) (s : State),
    s.mer.step = some d → s.mer.anchors = a :: r → s.tick = 65536 * a.frame →
    Runs .merStepApply s fun z =>
      z.mer.step = none ∧ z.mer.anchors = { a with time := State.timeAdd a.time d, step := true } :: r ∧
      z.mer.lastStep = some a.frame ∧ z.wget WR.MER_STATUS_STEP_DONE = 1 ∧ z.wget WR.MER_STATUS_TIME_VALID = 1 ∧
      OnlyRegs [WR.MER_STATUS_STEP_DONE, WR.MER_STATUS_TIME_VALID] s z) ∧
  (∀ (v : Nat) (s : State),
    s.wget WR.MER_STATUS_STATE ≠ 4 → s.wget WR.MER_CTRL_SRC ≠ 2 → s.wget WR.MER_CTRL_SRC ≠ 3 →
    Runs (.merRateHiWrite v) s fun z =>
      z.mer.rateT = max (-56294995342) (min 56294995342 (signed 48 (s.mer.rateLo + 2 ^ 32 * (v % 65536)))) ∧
      OnlyRegs [] s z) ∧
  (∀ (v : Nat) (s : State),
    s.wget WR.MER_STATUS_STATE ≠ 4 →
    (Runs (.merAdjWrite v) s fun z =>
      z.mer.rem = s.mer.rem + signed 32 v ∧ z.wget WR.MER_ADJ_REM_REM = unsigned 32 (s.mer.rem + signed 32 v) ∧
      OnlyRegs [WR.MER_ADJ_REM_REM] s z) ∧
    Runs .adjCancel s fun z =>
      z.mer.rem = 0 ∧ z.wget WR.MER_ADJ_REM_REM = 0 ∧ OnlyRegs [WR.MER_ADJ_REM_REM] s z) ∧
  (∀ (v : Nat) (s : State),
    s.wget WR.MER_STATUS_STATE = 4 →
    Runs (.merAdjWrite v) s (fun z => z = s) ∧ Runs .adjCancel s (fun z => z = s) ∧
    Runs (.merRateHiWrite v) s (fun z => z = s)) ∧
  (∀ (s : State),
    Runs .merStep s fun z =>
      z.mer.step = some (s.mer.step.getD 0
        + ((signed 48 (s.wget WR.MER_STEP_SEC_LO_SEC_LO + 2 ^ 32 * s.wget WR.MER_STEP_SEC_HI_SEC_HI) * 1000000000
            + signed 32 (s.wget WR.MER_STEP_NS_NS)) * 65536 + (s.wget WR.MER_STEP_FRAC_FRAC : Nat))) ∧
      OnlyRegs [] s z) ∧
  (∀ (v : Nat) (s : State),
    ((signed 32 v).natAbs < 1000000000 →
      Runs (.merStepNsWrite v) s fun z => z.wget WR.MER_STEP_NS_NS = v % 2 ^ 32 ∧ OnlyRegs [WR.MER_STEP_NS_NS] s z) ∧
    (1000000000 ≤ (signed 32 v).natAbs → Runs (.merStepNsWrite v) s fun z => z = s)) ∧
  (∀ (ok : Bool) (s : State),
    s.wget WR.MER_STATUS_STATE = 1 → s.wget WR.MER_STATUS_TIME_VALID ≠ 0 →
    ({ s with mer := { s.mer with lostFreq := !ok } } : State).lossPersists = false →
    Runs (.merLock ok) s fun z =>
      z.wget WR.MER_STATUS_STATE = 2 ∧ z.wget WR.MER_STATUS_HOLDOVER = 0 ∧
      OnlyRegs [WR.MER_STATUS_STATE, WR.MER_STATUS_HOLDOVER] s z) ∧
  (∀ (ok : Bool) (s : State),
    s.wget WR.MER_STATUS_STATE = 4 →
    ({ s with mer := { s.mer with lostFreq := !ok } } : State).lossPersists = false →
    Runs (.merRelock ok) s fun z =>
      z.wget WR.MER_STATUS_STATE = 1 ∧ z.wget WR.MER_STATUS_HOLDOVER = 0 ∧ z.mer.rem = 0 ∧
      z.mer.armSync = false ∧ z.mer.armFreq = false ∧ z.mer.armPps = false ∧
      OnlyRegs [WR.MER_STATUS_STATE, WR.MER_STATUS_HOLDOVER, WR.MER_ADJ_REM_REM] s z) ∧
  (∀ (src : Nat) (s : State),
    s.ws = 2 ∨ s.ws = 3 → src < 4 → src ≠ s.wget WR.MER_CTRL_SRC →
    Runs (.merSrcWrite src) s fun z =>
      z.wget WR.MER_CTRL_SRC = src ∧ z.wget WR.MER_STATUS_STATE = (if src = 0 then 0 else 1) ∧
      z.wget WR.MER_STATUS_HOLDOVER = 0 ∧
      OnlyRegs [WR.MER_CTRL_SRC, WR.MER_STATUS_STATE, WR.MER_STATUS_HOLDOVER, WR.MER_ADJ_REM_REM] s z)

/-- Losses of the Meridian sources, PPS, transmit time stamps and alarms. A loss that its source makes count sets
its flag and, in tracking with the condition armed, enters HOLDOVER; a new parent in tracking enters HOLDOVER;
an edge of PPS_IN is stamped; a shifted second begins a PPS_OUT pulse; a transmit stamp joins a queue of 16
that loses and counts what is too old or too many, and a read takes its head; arming an alarm fixes its target
seconds, its parameters are open only while it is disabled, and at its time it fires: a one-shot alarm is
disabled, a periodic one moves by its period, a late one sets its flags. Only the named registers change. The
tick of an event is its arrival in the model. -/
def Obligations.MeridianEvents : Prop :=
  (∀ (t : Nat) (s : State),
    s.mer.lastSync = some t → t + s.syncLimit ≤ s.now → s.mer.lostSync = false →
    Runs .syncLost s fun z =>
      z.wget WR.MER_STATUS_SYNC_LOST = 1 ∧ z.mer.lostSync = true ∧
      ((s.wget WR.MER_CTRL_SRC = 1 ∨ s.wget WR.MER_CTRL_SRC = 2) → s.mer.armSync = true → s.tracking = true →
        z.wget WR.MER_STATUS_STATE = 4 ∧ z.wget WR.MER_STATUS_HOLDOVER = 1) ∧
      OnlyRegs [WR.MER_STATUS_SYNC_LOST, WR.MER_STATUS_STATE, WR.MER_STATUS_HOLDOVER] s z) ∧
  (∀ (v : Nat) (s : State), let id := (s.wget WR.MER_PTP_PARENT_HI_ID_HI * 2 ^ 32 + s.wget WR.MER_PTP_PARENT_LO_ID_LO) * 65536 + v % 65536
    id ≠ s.mer.parent →
    Runs (.merPtpParentPortWrite v) s fun z =>
      z.mer.parent = id ∧ z.wget WR.MER_PTP_PARENT_PORT_PORT = v % 65536 ∧
      ((s.wget WR.MER_CTRL_SRC = 1 ∨ s.wget WR.MER_CTRL_SRC = 2) → s.mer.armSync = true → s.tracking = true →
        z.wget WR.MER_STATUS_PARENT_CHANGE = 1 ∧ z.wget WR.MER_STATUS_STATE = 4) ∧
      OnlyRegs [WR.MER_PTP_PARENT_PORT_PORT, WR.MER_STATUS_PARENT_CHANGE, WR.MER_STATUS_STATE, WR.MER_STATUS_HOLDOVER] s z) ∧
  (∀ (s : State),
    (Runs .synceLost s fun z =>
      z.wget WR.MER_STATUS_SYNCE_LOST = 1 ∧ z.mer.lostFreq = true ∧
      (s.wget WR.MER_CTRL_SRC = 2 → s.tracking = true → z.wget WR.MER_STATUS_STATE = 4) ∧
      OnlyRegs [WR.MER_STATUS_SYNCE_LOST, WR.MER_STATUS_STATE, WR.MER_STATUS_HOLDOVER] s z) ∧
    Runs .refLost s fun z =>
      z.wget WR.MER_STATUS_REF_LOST = 1 ∧ z.mer.lostFreq = true ∧
      (s.wget WR.MER_CTRL_SRC = 3 → s.tracking = true → z.wget WR.MER_STATUS_STATE = 4) ∧
      OnlyRegs [WR.MER_STATUS_REF_LOST, WR.MER_STATUS_STATE, WR.MER_STATUS_HOLDOVER] s z) ∧
  (∀ (fall : Bool) (fine : Nat) (s : State),
    fall = s.won WR.MER_PPS_CTRL_IN_EDGE → s.pinsHeld = false →
    Runs (.ppsInEdge fall fine) s fun z =>
      z.mer.pps = s.timeFine fine ∧ z.mer.lastPps = some s.now ∧ z.mer.lostPps = false ∧ OnlyRegs [] s z) ∧
  (∀ (t : Nat) (s : State),
    s.mer.lastPps = some t → t + 1001 * Config.msTicks ≤ s.now → s.mer.lostPps = false →
    Runs .ppsLost s fun z =>
      z.wget WR.MER_STATUS_PPS_LOST = 1 ∧ z.mer.lostPps = true ∧
      (s.wget WR.MER_CTRL_SRC = 3 → s.mer.armPps = true → s.tracking = true → z.wget WR.MER_STATUS_STATE = 4) ∧
      OnlyRegs [WR.MER_STATUS_PPS_LOST, WR.MER_STATUS_STATE, WR.MER_STATUS_HOLDOVER] s z) ∧
  (∀ (s : State),
    s.wget WR.MER_PPS_CTRL_OUT_EN ≠ 0 → s.wget WR.MER_STATUS_TIME_VALID ≠ 0 → s.ppsDue = true → s.pinsHeld = false →
    Runs .ppsOutPulse s fun z => z.out = s.out ++ [.pps] ∧ z.mer.ppsOut = some s.tick ∧ OnlyRegs [] s z) ∧
  (∀ (p id fine : Nat) (s : State), let n := (s.mer.txts.filter fun x => decide (s.now < x.arrived + s.txAge)).length
    (n < 16 →
      Runs (.txStampCapture p id fine) s fun z =>
        z.mer.txts = s.mer.txts.filter (fun x => decide (s.now < x.arrived + s.txAge)) ++ [⟨p, id,
          State.timeAdd (s.timeFine fine) (signed 32 (s.wget WR.MER_PTP_TX_LAT_LAT)), s.now⟩] ∧
        z.wget WR.MER_TXTS_CNT_DEPTH = n + 1 ∧
        OnlyRegs [WR.MER_STATUS_QUEUE_OVF, WR.MER_TXTS_CNT_AGED, WR.MER_TXTS_CNT_DEPTH] s z) ∧
    (16 ≤ n →
      Runs (.txStampCapture p id fine) s fun z =>
        z.mer.txts = s.mer.txts.filter (fun x => decide (s.now < x.arrived + s.txAge)) ∧
        z.wget WR.MER_STATUS_QUEUE_OVF = 1 ∧
        z.wget WR.MER_TXTS_CNT_DROPPED = min (s.wget WR.MER_TXTS_CNT_DROPPED + 1) 255 ∧
        OnlyRegs [WR.MER_STATUS_QUEUE_OVF, WR.MER_TXTS_CNT_AGED, WR.MER_TXTS_CNT_DEPTH, WR.MER_TXTS_CNT_DROPPED] s z)) ∧
  (∀ (x : TxStamp) (r : List TxStamp) (s : State),
    s.mer.txts = x :: r → r.length < 32 →
    Runs .merTxtsIdRead s fun z =>
      z.mer.txts = r ∧ z.wget WR.MER_TXTS_ID_VALID = 1 ∧ z.wget WR.MER_TXTS_ID_PORT = x.port % 8 ∧
      z.wget WR.MER_TXTS_ID_ID = x.id % 65536 ∧ z.wget WR.MER_TXTS_NS_NS = State.timeNs x.stamp % 2 ^ 30 ∧
      z.wget WR.MER_TXTS_CNT_DEPTH = r.length ∧
      OnlyRegs [WR.MER_TXTS_ID_VALID, WR.MER_TXTS_ID_PORT, WR.MER_TXTS_ID_ID, WR.MER_TXTS_SEC_LO_SEC_LO,
        WR.MER_TXTS_SEC_HI_SEC_HI, WR.MER_TXTS_NS_NS, WR.MER_TXTS_FRAC_FRAC, WR.MER_TXTS_CNT_DEPTH] s z) ∧
  (∀ (s : State),
    Runs .txStampAgeOut s fun z =>
      z.mer.txts = s.mer.txts.filter (fun x => decide (s.now < x.arrived + s.txAge)) ∧
      ((∃ x ∈ s.mer.txts, x.arrived + s.txAge ≤ s.now) → z.wget WR.MER_STATUS_QUEUE_OVF = 1) ∧
      OnlyRegs [WR.MER_STATUS_QUEUE_OVF, WR.MER_TXTS_CNT_AGED, WR.MER_TXTS_CNT_DEPTH] s z) ∧
  (∀ (n v : Nat) (s : State),
    n < 8 → s.mer.almLate.length = 8 → s.mer.almHi.length = 8 → bit 31 v = true → s.wget (WR.MER_ALM_CTRL_EN n) = 0 →
    Runs (.alarmArm n v) s fun z =>
      z.wget (WR.MER_ALM_CTRL_EN n) = 1 ∧ z.mer.almLate.getD n false = decide (z.almTarget n ≤ s.timeNow) ∧
      OnlyRegs [WR.MER_ALM_CTRL_EN n, WR.MER_ALM_CTRL_LATE n, WR.MER_ALM_CTRL_FLAG n, WR.MER_ALM_CTRL_TASK n,
        WR.MER_ALM_CTRL_KIND n] s z) ∧
  (∀ (n v : Nat) (s : State),
    n < 8 →
    (s.wget (WR.MER_ALM_CTRL_EN n) ≠ 0 → ∀ r, Runs (.merAlarmParamWrite n r v) s fun z => z = s) ∧
    (s.wget (WR.MER_ALM_CTRL_EN n) = 0 →
      (Runs (.merAlarmParamWrite n 1 v) s fun z =>
        z.wget (WR.MER_ALM_SEC_SEC n) = v % 2 ^ 32 ∧ OnlyRegs [WR.MER_ALM_SEC_SEC n] s z) ∧
      (Runs (.merAlarmParamWrite n 2 v) s fun z =>
        z.wget (WR.MER_ALM_NS_NS n) = v % 2 ^ 30 ∧ OnlyRegs [WR.MER_ALM_NS_NS n] s z) ∧
      (Runs (.merAlarmParamWrite n 3 v) s fun z =>
        z.wget (WR.MER_ALM_PERIOD_NS_PERIOD n) = v % 2 ^ 32 ∧ OnlyRegs [WR.MER_ALM_PERIOD_NS_PERIOD n] s z) ∧
      (Runs (.merAlarmParamWrite n 4 v) s fun z =>
        z.wget (WR.MER_ALM_PMASK_LO_PMASK_LO n) = v % 2 ^ 32 ∧ OnlyRegs [WR.MER_ALM_PMASK_LO_PMASK_LO n] s z) ∧
      Runs (.merAlarmParamWrite n 5 v) s fun z =>
        z.wget (WR.MER_ALM_PMASK_HI_PMASK_HI n) = v % 2 ^ 16 ∧ OnlyRegs [WR.MER_ALM_PMASK_HI_PMASK_HI n] s z)) ∧
  (∀ (n : Nat) (s : State),
    s.wget WR.MER_STATUS_TIME_VALID ≠ 0 → s.wget (WR.MER_ALM_CTRL_EN n) ≠ 0 → s.almTarget n ≤ s.timeNow →
    s.wget (WR.MER_ALM_CTRL_KIND n) = 0 → s.wget (WR.MER_ALM_PERIOD_NS_PERIOD n) = 0 →
    Runs (.alarmFire n) s fun z =>
      z.wget (WR.MER_ALM_CTRL_EN n) = 0 ∧
      (s.mer.almLate.getD n false = true → z.wget (WR.MER_ALM_CTRL_LATE n) = 1 ∧ z.wget WR.MER_STATUS_LATE = 1) ∧
      OnlyRegs [WR.MER_ALM_CTRL_EN n, WR.MER_ALM_CTRL_LATE n, WR.MER_STATUS_LATE] s z) ∧
  (∀ (n : Nat) (s : State), let t := State.timeAdd (s.almTarget n) (s.wget (WR.MER_ALM_PERIOD_NS_PERIOD n) * 65536 : Nat)
    s.wget WR.MER_STATUS_TIME_VALID ≠ 0 → s.wget (WR.MER_ALM_CTRL_EN n) ≠ 0 → s.almTarget n ≤ s.timeNow →
    s.wget (WR.MER_ALM_CTRL_KIND n) = 0 → s.wget (WR.MER_ALM_PERIOD_NS_PERIOD n) ≠ 0 →
    s.mer.almLate.getD n false = false →
    Runs (.alarmFire n) s fun z =>
      z.wget (WR.MER_ALM_SEC_SEC n) = State.timeSec t % 2 ^ 32 ∧ z.wget (WR.MER_ALM_NS_NS n) = State.timeNs t % 2 ^ 30 ∧
      OnlyRegs [WR.MER_ALM_SEC_SEC n, WR.MER_ALM_NS_NS n] s z)

/-- Lanes: lock, RS blocks, replays, identity, primitive windows and clock words. A CLKSW or HOLD word not seen
before is noted and restarts the port's averaging; the eighth block in a row with a rising number locks a lane
in HUNT; a replay that is awaited and decodes counts as transient, one that does not makes the lane FAULTY
with cause 1, and a NACK counts; a frame start joins the starts of its port; the first valid LANE_ID of a lane
in LOCKED is noted, a second equal one identifies the lane, and where it completes a Tladon of one lane at an
EMPTY port the attach begins with a read of ID_CAP; a different LANE_ID of an identified lane, an
uncorrectable PH and CDR lock lead to HUNT, CDR loss to DOWN except in FAULTY; CLEAR takes a FAULTY lane to
HUNT or DOWN and queues RELINK. Only the named registers change. -/
def Obligations.LaneEvents : Prop :=
  (∀ (l dep body : Nat) (s : State), let p := s.lanePort l
    s.laneUp l = true → (s.port p).clksw.contains (s.eventTick dep (bits 54 39 body)) = false →
    Runs (.clkswRx l dep body) s fun z =>
      (z.port p).clksw = (s.eventTick dep (bits 54 39 body) :: (s.port p).clksw).take 16 ∧
      z.wget (WR.TRI_STATUS_CLKSW_SEEN p) = 1 ∧ z.wget (WR.TRI_STATUS_AVERAGED p) = 0 ∧ (z.tri' p).part = [] ∧
      OnlyRegs [WR.TRI_STATUS_CLKSW_SEEN p, WR.TRI_STATUS_VALID p, WR.TRI_STATUS_AVERAGED p] s z) ∧
  (∀ (l dep body : Nat) (s : State), let p := s.lanePort l
    s.laneUp l = true → bit 55 body = true →
    ((s.port p).holds.any fun h => h.1 == s.eventTick dep (bits 54 39 body)) = false →
    Runs (.holdWordRx l dep body) s fun z =>
      (z.port p).holds = ((s.eventTick dep (bits 54 39 body), none) :: (s.port p).holds).take 16 ∧
      z.wget (WR.TRI_STATUS_AVERAGED p) = 0 ∧ (z.tri' p).part = [] ∧
      OnlyRegs [WR.TRI_STATUS_VALID p, WR.TRI_STATUS_AVERAGED p] s z) ∧
  (∀ (l dep body : Nat) (s : State), let p := s.lanePort l
    s.laneUp l = true → bit 55 body = false → ((s.port p).holds.any fun h => h.2 == none) = true →
    Runs (.holdWordRx l dep body) s fun z =>
      (z.port p).holds = (s.port p).holds.map (fun h =>
        if h.2 = none then (h.1, some (s.eventTick dep (bits 54 39 body) + 12800)) else h) ∧
      z.wget (WR.TRI_STATUS_AVERAGED p) = 0 ∧ (z.tri' p).part = [] ∧
      OnlyRegs [WR.TRI_STATUS_VALID p, WR.TRI_STATUS_AVERAGED p] s z) ∧
  (∀ (l p num fix badBlocks : Nat) (s : State),
    l < 48 → p < 48 → s.lanePort l = p → s.wget (WR.ING_LANE_STATUS_STATE l) = 1 → fix ≤ 8 →
    (s.lane l).num = some ((num + 127) % 128) → 7 ≤ (s.lane l).good →
    Runs (.rsBlockRx l num false fix badBlocks) s fun z =>
      z.wget (WR.ING_LANE_STATUS_STATE l) = 2 ∧ (z.lane l).bad = 0 ∧
      OnlyRegs [WR.ING_LANE_CW_CW_CORR l, WR.ING_LANE_CW_BYTE_CORR l, WR.ING_LANE_STATUS_STATE l,
        WR.TRI_STATUS_VALID p, WR.TRI_STATUS_AVERAGED p] s z) ∧
  (∀ (l num fix badBlocks : Nat) (s : State),
    s.laneUp l = true → fix ≤ 8 → ((s.lane l).wait.any fun y => y.1 == num) = true →
    Runs (.rsBlockRx l num true fix badBlocks) s fun z =>
      z.wget (WR.ING_LANE_FAULT_TRANSIENT l) = min (s.wget (WR.ING_LANE_FAULT_TRANSIENT l) + 1) 255 ∧
      (z.lane l).wait = (s.lane l).wait.filter (fun y => y.1 != num) ∧
      OnlyRegs [WR.ING_LANE_FAULT_BAD_BLOCK l, WR.ING_LANE_CW_CW_CORR l, WR.ING_LANE_CW_BYTE_CORR l,
        WR.ING_LANE_FAULT_TRANSIENT l] s z) ∧
  (∀ (l num badBlocks : Nat) (s : State),
    l < 48 → s.laneUp l = true → ((s.lane l).wait.any fun y => y.1 == num) = true →
    Runs (.rsBlockRx l num true 9 badBlocks) s fun z =>
      z.wget (WR.ING_LANE_STATUS_STATE l) = 4 ∧ z.wget (WR.ING_LANE_STATUS_CAUSE l) = 1 ∧ (z.lane l).wait = [] ∧
      OnlyRegs [WR.ING_LANE_STATUS_STATE l, WR.ING_LANE_STATUS_CAUSE l, WR.MUS_LEDGER_IN_USE] s z) ∧
  (∀ (l num : Nat) (s : State),
    s.laneUp l = true → ((s.lane l).wait.any fun y => y.1 == num) = true →
    Runs (.replayNackRx l num) s fun z =>
      z.wget (WR.ING_LANE_FAULT_NACKED l) = min (s.wget (WR.ING_LANE_FAULT_NACKED l) + 1) 255 ∧
      (z.lane l).wait = (s.lane l).wait.filter (fun y => y.1 != num) ∧
      OnlyRegs [WR.ING_LANE_FAULT_NACKED l] s z) ∧
  (∀ (l frame offset fine : Nat) (s : State), let p := s.lanePort l
    s.laneUp l = true → s.laneK l = 0 → s.triBlocked p = false →
    ((s.tri' p).stamps.filter fun x => State.pairedFrame x.2.2 == frame) = [] →
    Runs (.frameHeadRx l frame offset fine) s fun z =>
      (z.tri' p).starts = ((s.tick, frame, (s.tick * 256 + fine : Nat) - 32 * (offset : Int)) :: (s.tri' p).starts).take 4 ∧
      OnlyRegs [] s z) ∧
  (∀ (l body : Nat) (i : LaneIdent) (s : State),
    s.wget (WR.ING_LANE_STATUS_STATE l) = 2 → State.laneIdOf body = some i → (s.lane l).ident ≠ some i →
    Runs (.laneIdRx l body) s fun z =>
      (z.lane l).ident = some i ∧ z.wget (WR.ING_LANE_SERIAL_SERIAL l) = i.serial % 2 ^ 32 ∧
      OnlyRegs [WR.ING_LANE_SERIAL_SERIAL l] s z) ∧
  (∀ (l body : Nat) (i : LaneIdent) (s : State),
    l < s.lanesCount → s.wget (WR.ING_LANE_STATUS_STATE l) = 2 → State.laneIdOf body = some i →
    (s.lane l).ident = some i → i.bond = 1 → i.pos = 0 → s.portState l = 0 →
    (∀ q < 48, q ≠ l → s.wget (WR.ING_LANE_STATUS_STATE q) ≠ 3) →
    Runs (.laneIdRx l body) s fun z =>
      z.wget (WR.ING_LANE_STATUS_STATE l) = 3 ∧ z.portState l = 1 ∧ (z.port l).group = 1 ∧ (z.port l).step = 1 ∧
      (z.dlink l).p3 = (s.dlink l).p3 ++ [⟨0x02, (s.dlink l).tag, 4, 0⟩]) ∧
  (∀ (l body : Nat) (i : LaneIdent) (s : State),
    s.wget (WR.ING_LANE_STATUS_STATE l) = 3 → State.laneIdOf body = some i → (s.lane l).ident ≠ some i →
    Runs (.laneIdRx l body) s fun z =>
      z.wget (WR.ING_LANE_STATUS_STATE l) = 1 ∧ (z.lane l).ident = none ∧
      OnlyRegs [WR.ING_LANE_SERIAL_SERIAL l, WR.ING_LANE_FAULT_NACKED l, WR.ING_LANE_STATUS_STATE l] s z) ∧
  (∀ (l : Nat) (s : State),
    l < s.lanesCount → s.wget (WR.ING_LANE_STATUS_STATE l) = 0 → s.wget (WR.ING_LANE_CTRL_EN l) ≠ 0 →
    Runs (.laneCdrLock l) s fun z =>
      (z.lane l).cdr = true ∧ z.wget (WR.ING_LANE_STATUS_STATE l) = 1 ∧
      OnlyRegs [WR.ING_LANE_FAULT_NACKED l, WR.ING_LANE_STATUS_STATE l] s z) ∧
  (∀ (l : Nat) (s : State),
    (s.wget (WR.ING_LANE_STATUS_STATE l) ≠ 4 →
      Runs (.laneCdrLoss l) s fun z =>
        (z.lane l).cdr = false ∧ z.wget (WR.ING_LANE_STATUS_STATE l) = 0 ∧ (z.lane l).wait = [] ∧
        z.wget (WR.ING_LANE_FAULT_NACKED l) =
          min (s.wget (WR.ING_LANE_FAULT_NACKED l) + (s.lane l).wait.length) 255 ∧
        OnlyRegs [WR.ING_LANE_FAULT_NACKED l, WR.ING_LANE_STATUS_STATE l] s z) ∧
    (s.wget (WR.ING_LANE_STATUS_STATE l) = 4 →
      Runs (.laneCdrLoss l) s fun z => (z.lane l).cdr = false ∧ OnlyRegs [] s z)) ∧
  (∀ (l slot ph w0 w1 : Nat) (s : State),
    s.laneUp l = true → s.laneK l = 0 →
    ((State.decodePh ph = none →
      Runs (.primitiveWindowRx l slot ph w0 w1) s fun z =>
        z.wget (WR.ING_LANE_STATUS_STATE l) = 1 ∧
        OnlyRegs [WR.ING_LANE_FAULT_NACKED l, WR.ING_LANE_STATUS_STATE l] s z) ∧
    (∀ v, State.decodePh ph = some v →
      Runs (.primitiveWindowRx l slot ph w0 w1) s fun z =>
        z.wget (WR.ING_LANE_PRIM_PH_CORR l) =
          (if v = ph then s.wget (WR.ING_LANE_PRIM_PH_CORR l) else min (s.wget (WR.ING_LANE_PRIM_PH_CORR l) + 1) 65535) ∧
        OnlyRegs [WR.ING_LANE_PRIM_PH_CORR l, WR.ING_LANE_PRIM_BAD l] s z))) ∧
  (∀ (l : Nat) (s : State),
    s.wget (WR.ING_LANE_STATUS_STATE l) = 4 →
    Runs (.ingLaneClear l) s fun z =>
      z.wget (WR.ING_LANE_STATUS_STATE l) =
        (if (s.lane l).cdr = true ∧ s.wget (WR.ING_LANE_CTRL_EN l) ≠ 0 then 1 else 0) ∧
      z.wget (WR.ING_LANE_STATUS_CAUSE l) = 0 ∧
      (z.dlink (l - s.laneK l)).p1 = (s.dlink (l - s.laneK l)).p1 ++ [⟨0x11, 0, 2 ^ s.laneK l, 0⟩] ∧
      OnlyRegs [WR.ING_LANE_FAULT_NACKED l, WR.ING_LANE_STATUS_STATE l, WR.ING_LANE_STATUS_CAUSE l] s z)

/-- Ports, downlink transmitters, the proxy window and a core's loads and store-conditionals. A configured port
whose triangulation is ready sends its EPOCH and goes to IN_BUILD; ATTACH takes a READY port back to
ATTACHING, DETACH takes a port to QUIET with STATE QUIET queued, and a port whose lanes have all been lost for
4,096 ticks is DETACHED; a STATE word is shown and an entry to ACQUIRING is noted; a CLAIM is owed after 1,024
cells; a downlink sends its first waiting command, replays before claims before the rest, and counts it; a
load from the proxy window queues REG_READ or REG_PEEK and its REG_DATA ends it, an absent port reads zero, a
port that does not answer gives a fault; a store outside RUNNING and DEGRADED faults; an access whose REG_DATA
is overdue sets PROXY_TMO. A core loads a memory word without errors, with sign or zero extension, and a
store-conditional without a reservation answers 1. Only the named registers change. -/
def Obligations.PortsDownlinksProxy : Prop :=
  (∀ (p : Nat) (s : State),
    s.isRun = true → s.portState p = 1 → (s.port p).step = 3 → s.r54 p = true → s.partnerHolds p = false →
    Runs (.attachEpoch p) s fun z => z.portState p = 4 ∧ (z.port p).step = 4) ∧
  (∀ (p : Nat) (s : State),
    s.portHere p = true → s.portState p = 3 →
    Runs (.portAttachWrite p) s fun z =>
      z.portState p = 1 ∧
      OnlyRegs [WR.ING_PORT_STATUS_STATE p, WR.ING_STATUS_ATTACHED, WR.ING_STATUS_IN_BUILD] s z) ∧
  (∀ (p : Nat) (s : State),
    s.portHere p = true → s.portState p = 5 → (s.port p).group ≤ 4 → s.attachable p = false →
    Runs (.portAttachWrite p) s fun z =>
      z.portState p = 1 ∧ (z.dlink p).p3 = (s.dlink p).p3 ++ [⟨0x08, 0, 1, 0⟩] ∧
      OnlyRegs [WR.ING_PORT_STATUS_STATE p, WR.ING_STATUS_ATTACHED, WR.ING_STATUS_IN_BUILD] s z) ∧
  (∀ (p : Nat) (s : State),
    s.portHere p = true → s.portState p ≠ 0 → s.portState p ≠ 5 → s.portState p ≠ 6 →
    Runs (.portDetachWrite p) s fun z =>
      z.portState p = 5 ∧ (z.port p).step = 0 ∧ (z.dlink p).p3 = (s.dlink p).p3 ++ [⟨0x08, 0, 4, 0⟩] ∧
      OnlyRegs [WR.ING_PORT_STATUS_STATE p, WR.ING_STATUS_ATTACHED, WR.ING_STATUS_IN_BUILD,
        WR.MUS_LEDGER_IN_USE] s z) ∧
  (∀ (p : Nat) (s : State),
    s.portState p ≠ 0 → s.portState p ≠ 5 → s.portState p ≠ 6 →
    (∀ l ∈ s.portLanes p, s.wget (WR.ING_LANE_STATUS_STATE l) < 2 ∧ (s.lane l).lostAt + 4096 ≤ s.tick) →
    Runs (.portDetached p) s fun z =>
      z.portState p = 6 ∧ (z.port p).step = 0 ∧ (z.port p).entry = none ∧
      OnlyRegs [WR.ING_PORT_STATUS_STATE p, WR.ING_STATUS_ATTACHED, WR.ING_STATUS_IN_BUILD,
        WR.MUS_LEDGER_IN_USE] s z) ∧
  (∀ (l body : Nat) (s : State), let p := s.lanePort l
    s.laneUp l = true → s.laneK l = 0 → bits 55 53 body = 3 → s.partnerHolds p = false →
    Runs (.stateWordRx l body) s fun z =>
      z.wget (WR.ING_PORT_STATUS_TSTATE p) = 3 ∧ (z.port p).entry = some (s.ext42 (bits 41 0 body)) ∧
      z.prx p = PortRx.reset ∧ OnlyRegs [WR.ING_PORT_STATUS_TSTATE p] s z) ∧
  (∀ (p : Nat) (s : State),
    s.portHere p = true → 2 ≤ s.ws → (∀ t, (s.dlink p).claimAt = some t → t + 32768 ≤ s.tick) →
    Runs (.claimSend p) s fun z => (z.dlink p).claimDue = true ∧ OnlyRegs [] s z) ∧
  (∀ (p : Nat) (c : DlCmd) (r : List DlCmd) (s : State),
    p < s.lanesCount → 2 ≤ s.ws → s.tick % 32 = 0 → (s.dlink p).busy ≤ s.tick → s.nonFirst p = false →
    s.isRun = true ∨ State.safeCmd c = true →
    (s.dlink p).p1 = c :: r ∨ (s.dlink p).p1 = [] ∧ (s.dlink p).claimDue = false ∧ (s.dlink p).p3 = c :: r →
    Runs (.downlinkCommandSlot p) s fun z =>
      z.out = s.out ++ [.dlCmd p c.op c.tag c.arg c.data] ∧
      (z.dlink p).p1.length + (z.dlink p).p3.length + 1 = (s.dlink p).p1.length + (s.dlink p).p3.length ∧
      (z.dlink p).busy = s.tick + 32 * State.cmdCells c.op ∧
      z.wget (WR.ING_PORT_CMD_SENT p) = min (s.wget (WR.ING_PORT_CMD_SENT p) + 1) 65535 ∧
      OnlyRegs [WR.ING_PORT_CMD_SENT p] s z) ∧
  (∀ (p addr : Nat) (quiet : Bool) (s : State), let d := s.dlink p
    (s.lanesCount ≤ p → Runs (.proxyLoad p addr quiet) s fun z =>
      z.out = s.out ++ [.proxy p addr (some 0)] ∧ OnlyRegs [] s z) ∧
    (p < s.lanesCount → s.proxyOk p = false → Runs (.proxyLoad p addr quiet) s fun z =>
      z.out = s.out ++ [.proxy p addr none] ∧ OnlyRegs [] s z) ∧
    (p < s.lanesCount → s.proxyOk p = true → Runs (.proxyLoad p addr quiet) s fun z =>
      (z.dlink p).p3 = d.p3 ++ [⟨if quiet then 0x03 else 0x02, d.tag, addr, 0⟩] ∧
      (z.dlink p).waits = d.waits ++ [⟨d.tag, addr, 2, s.now + max 1 (s.wget WR.ING_CTRL_PROXY_TMO) * Config.usTicks⟩] ∧
      (z.dlink p).tag = (d.tag + 1) % 256 ∧ z.out = s.out ∧ OnlyRegs [] s z)) ∧
  (∀ (p addr data : Nat) (s : State), let d := s.dlink p
    (s.lanesCount ≤ p → Runs (.proxyStore p addr data) s fun z => z = s) ∧
    (p < s.lanesCount → s.isRun = false → Runs (.proxyStore p addr data) s fun z =>
      z.out = s.out ++ [.proxy p addr none] ∧ OnlyRegs [] s z) ∧
    (p < s.lanesCount → s.isRun = true → s.proxyOk p = true → Runs (.proxyStore p addr data) s fun z =>
      (z.dlink p).p3 = d.p3 ++ [⟨0x01, d.tag, addr, data⟩] ∧ z.out = s.out ++ [.proxy p addr (some data)] ∧
      OnlyRegs [] s z)) ∧
  (∀ (p tag data : Nat) (a : Access) (s : State),
    (s.dlink p).waits.find? (fun a => a.tag == tag) = some a → a.kind = 2 →
    Runs (.regDataRx p tag data) s fun z =>
      z.out = s.out ++ [.proxy p a.addr (some data)] ∧ (z.dlink p).waits = (s.dlink p).waits.erase a ∧
      OnlyRegs [] s z) ∧
  (∀ (p : Nat) (a : Access) (s : State),
    (s.dlink p).waits = [a] → a.kind = 2 → a.due ≤ s.now → s.can.wait = none →
    Runs (.proxyTimeout p) s fun z =>
      z.wget (WR.ING_PORT_STATUS_PROXY_TMO p) = 1 ∧ z.out = s.out ++ [.proxy p a.addr none] ∧
      (z.dlink p).waits = [] ∧
      z.wget (WR.ING_PORT_CMD_TIMEOUTS p) = min (s.wget (WR.ING_PORT_CMD_TIMEOUTS p) + 1) 65535 ∧
      OnlyRegs [WR.ING_PORT_STATUS_PROXY_TMO p, WR.ING_PORT_CMD_TIMEOUTS p] s z) ∧
  (∀ (n k addr data rd err m i : Nat) (sgn : Bool) (s : State),
    n < s.cores.length → 2 ≤ s.ws → (s.core n).halted = false → addr % 2 ^ k = 0 → (regionOf addr).isMem = true →
    ¬ (regionOf addr = .yard ∧ s.inStall addr = true) → ¬ (s.variant = 2 ∧ regionOf addr = .history) →
    memAt addr = some (m, i) → s.flipsOf m i = 0 →
    (s.core n).pmpOk addr (2 ^ k) false true false (s.core n).dataUser = true →
    Runs (.coreMemoryAccess n 1 k sgn addr data rd err 0 0 0) s fun z =>
      z.out = s.out ++ [.load (n + 1) addr (s.load addr (2 ^ k)) none] ∧
      (rd ≠ 0 → rd < (s.core n).x.length → (z.core n).x[rd]? = some (
        (if sgn then unsigned 32 (signed (8 * 2 ^ k) (s.load addr (2 ^ k))) else s.load addr (2 ^ k)) % 2 ^ 32)) ∧
      (∀ j, j ≠ rd → (z.core n).x[j]? = (s.core n).x[j]?) ∧ OnlyRegs [] s z) ∧
  (∀ (n k addr data rd err f p a : Nat) (sgn : Bool) (s : State),
    n < s.cores.length → 2 ≤ s.ws → (s.core n).halted = false → addr % 4 = 0 → regionOf addr = .core →
    (s.core n).pmpOk addr 4 false false true (s.core n).dataUser = true → (s.core n).lr = none →
    rd < (s.core n).x.length → rd ≠ 0 →
    Runs (.coreMemoryAccess n 4 k sgn addr data rd err f p a) s fun z =>
      (z.core n).x[rd]? = some 1 ∧ (z.core n).lr = none ∧ OnlyRegs [] s z)

/-- The Muster: fragments, streams, deadlines, candidates, the view and commits. STREAM_HEAD sets the frame
context of an uplink; a word of a fragment enters its event with the fragment's count and CRC, or only counts
where no event is open; FRAG_HEAD begins a fragment on its uplink, one that belongs to no event counts as
corrupt; FRAG_TAIL ends it, closing the event's section with the tail's flags where accept number, word count
and CRC agree and as corrupt where they do not; STREAM_END drops the frame context; the deadline of an event
closes an open section as partial and touches nothing before it is due; a complete window marks its candidate;
an expired candidate vanishes and counts; stalled words leave with their horizon; a write of the view
selection starts the view again and a read of its data steps it; the first event that waits for nothing leaves
the list of open events. Where a register list is named only those registers change. -/
def Obligations.MusterEvents : Prop :=
  (∀ (l frame : Nat) (s : State), let p := s.lanePort l
    s.laneUp l = true →
    Runs (.streamHeadRx l frame) s fun z =>
      SMap.find (s.laneK l) (z.prx p).cur = some frame ∧ SMap.find (s.laneK l) (z.prx p).cnt = some 0 ∧
      OnlyRegs [] s z) ∧
  (∀ (l w : Nat) (f : RxFrag) (s : State), let p := s.lanePort l; let k := s.laneK l
    s.laneUp l = true → s.building' = true → w / 2 ^ 62 < 2 → s.musMode = 0 → SMap.find k (s.prx p).frag = some f →
    (f.ev = none →
      Runs (.hitWordRx l w false) s fun z =>
        SMap.find k (z.prx p).frag = some { f with
          count := f.count + 1, crc := (beBytes 8 w).foldl crc16Byte f.crc } ∧ OnlyRegs [] s z) ∧
    (∀ key x, f.ev = some key → s.walkNone p w = true → s.openSec key p = some x → x.stored = true →
      x.words.length < max 1 (s.wget WR.MUS_FRAG_MAX_MAX) → s.mus.yard + 8 ≤ s.partSize 2 →
      Runs (.hitWordRx l w false) s fun z =>
        SMap.find k (z.prx p).frag = some { f with
          count := f.count + 1, crc := (beBytes 8 w).foldl crc16Byte f.crc } ∧
        z.mus.yard = s.mus.yard + 8 ∧ (z.sec key p).map (·.words.length) = some (x.words.length + 1) ∧ OnlyRegs [] s z)) ∧
  (∀ (l acc start : Nat) (s : State), let p := s.lanePort l; let k := s.laneK l
    s.laneUp l = true → s.building' = true → s.musMode = 0 →
    Runs (.fragHeadRx l acc start) s fun z =>
      ∃ key, SMap.find k (z.prx p).frag = some ⟨key, acc, start, 0, 0xFFFF, false⟩) ∧
  (∀ (l body : Nat) (f : RxFrag) (key : Int) (x : Sec) (s : State), let p := s.lanePort l; let k := s.laneK l
    s.laneUp l = true → s.building' = true → s.musMode = 0 → SMap.find k (s.prx p).frag = some f →
    f.ev = some key → f.lost = false → s.openSec key p = some x →
    (bits 31 18 body = f.acc → bits 55 40 body = f.count % 65536 → bits 15 0 body = f.crc →
      Runs (.fragTailRx l body) s fun z =>
        z.openSec key p = none ∧ SMap.find k (z.prx p).frag = none ∧ OnlyRegs [] s z) ∧
    (¬ (bits 31 18 body = f.acc ∧ bits 55 40 body = f.count % 65536 ∧ bits 15 0 body = f.crc) →
      Runs (.fragTailRx l body) s fun z =>
        z.openSec key p = none ∧ SMap.find k (z.prx p).frag = none ∧
        z.wget (WR.MUS_PORT_CNT0_CORRUPT p) =
          min (s.wget (WR.MUS_PORT_CNT0_CORRUPT p) + 1) ((WR.MUS_PORT_CNT0_CORRUPT p).size - 1) ∧
        OnlyRegs [WR.MUS_PORT_CNT0_CORRUPT p] s z)) ∧
  (∀ (l body : Nat) (s : State), let p := s.lanePort l; let k := s.laneK l
    s.laneUp l = true → s.building' = true → s.musMode = 2 →
    Runs (.streamEndRx l body) s fun z =>
      SMap.find k (z.prx p).cur = none ∧ (z.prx p).lost = (s.prx p).lost.filter (· != k) ∧
      OnlyRegs [WR.MUS_PORT_CNT0_CORRUPT p] s z) ∧
  (∀ (key : Nat) (e : Ev) (x : Sec) (s : State),
    s.musMode = 0 → s.ev key = some e →
    (e.due + s.evtTmo ≤ (s.tick : Int) → e.secs = [x] → x.settled = 0 → x.arrived = true →
      Runs (.eventDeadline key) s fun z =>
        z.sec key x.port = some { x with flags := x.flags ||| State.fPartial, settled := 1 } ∧ OnlyRegs [] s z) ∧
    ((s.tick : Int) < e.due + s.evtTmo → Runs (.eventDeadline key) s fun z => z = s)) ∧
  (∀ (slot : Nat) (s : State),
    s.ev slot = none →
    Runs (.candidateComplete slot) s fun z =>
      z.mus.cands = s.mus.cands.map (fun c => if c.slot = (slot : Int) then { c with complete := true } else c) ∧
      OnlyRegs [] s z) ∧
  (∀ (s : State),
    s.pinned = none → s.pairOn = false →
    Runs .stallRelease s fun z =>
      z.mus.stall = s.mus.stall.map (fun x => (x.1, x.2.filter fun y =>
        decide (((s.tick / 32 : Nat) : Int) - s.horizon - (s.wPre + 31) / 32 - 1 - 0 ≤ y.slot))) ∧ OnlyRegs [] s z) ∧
  (∀ (slot : Nat) (s : State),
    s.pairOn = false → (s.mus.cands.any fun c => c.slot == (slot : Int)) = true →
    (32 * slot + s.horizon * 32 ≤ s.tick →
      Runs (.horizonExpiry slot) s fun z =>
        z.mus.cands = s.mus.cands.filter (fun c => c.slot != (slot : Int)) ∧
        z.wget WR.MUS_STATUS_HORIZON_MISS = 1 ∧
        z.wget (WR.MUS_SPEC_CNT_COUNT 3) = min (s.wget (WR.MUS_SPEC_CNT_COUNT 3) + 1) (2 ^ 32 - 1) ∧
        OnlyRegs [WR.MUS_STATUS_HORIZON_MISS, WR.MUS_SPEC_CNT_COUNT 3] s z) ∧
    (s.tick < 32 * slot + s.horizon * 32 → Runs (.horizonExpiry slot) s fun z => z = s)) ∧
  (∀ (v : Nat) (s : State),
    (Runs (.musViewSelWrite true v) s fun z =>
      z.mus.view = 0 ∧ z.wget WR.MUS_VIEW_SLOT_LO_SLOT_LO = v % 2 ^ 32 ∧ OnlyRegs [WR.MUS_VIEW_SLOT_LO_SLOT_LO] s z) ∧
    Runs (.musViewSelWrite false v) s fun z =>
      z.mus.view = 0 ∧ OnlyRegs [WR.MUS_VIEW_SEL_PORT, WR.MUS_VIEW_SEL_SLOT_HI] s z) ∧
  (∀ (x : StallWord) (s : State),
    (s.mus.cands.any fun c => c.slot == s.viewSlot) = true →
    (s.window (s.wget WR.MUS_VIEW_SEL_PORT) s.viewSlot)[s.mus.view]? = some x →
    Runs .musViewDataRead s fun z =>
      z.wget WR.MUS_VIEW_DATA_LO_DATA = x.word % 2 ^ 32 ∧ z.wget WR.MUS_VIEW_DATA_HI_DATA = x.word / 2 ^ 32 % 2 ^ 32 ∧
      z.wget WR.MUS_VIEW_TAG_VALID = 1 ∧ z.mus.view = s.mus.view + 1 ∧
      OnlyRegs [WR.MUS_VIEW_DATA_LO_DATA, WR.MUS_VIEW_DATA_HI_DATA, WR.MUS_VIEW_TAG_VALID, WR.MUS_VIEW_TAG_GONE,
        WR.MUS_VIEW_TAG_INDEX] s z) ∧
  (∀ (e : Ev) (r : List Ev) (s : State),
    s.musMode = 0 → s.mus.evs = e :: r → s.building' = true → s.evReady e = true →
    (Runs (.eventCommit 0) s fun z =>
      z.mus.evs = s.mus.evs.filter (fun y => y.key != e.key) ∧ z.mus.lastSlot = some e.slot) ∧
    Runs .anchorWaitExpiry s fun z =>
      z.mus.evs = s.mus.evs.filter (fun y => y.key != e.key) ∧ z.mus.lastSlot = some e.slot)

/-- Trigger decisions, the self-trigger and the primitives' way to the PO links. An idle block of a trigger link
does nothing and one that is no valid decision counts as an error; in triggered operation an ACCEPT counts and
leaves for the downlinks 192 ticks later; at a cell boundary the one waiting accept is sent on the downlink of
every port that takes accepts, and opens the next event; a slot is captured 10 ticks before its release, when
its windows leave the combination; its PO cells leave in its release tick; an accept of the self-trigger
counts as a decision and follows the release by 224 ticks; a content test with enough hits fires. Where a
register list is named only those registers change. -/
def Obligations.TriggersAndPrimitives : Prop :=
  (∀ (link : Bool) (hdr word : Nat) (s : State),
    (hdr = 2 → word = 0 → Runs (.tlDecisionRx link hdr word) s fun z => z = s) ∧
    (hdr ≠ 1 → ¬ (hdr = 2 ∧ word = 0) → Runs (.tlDecisionRx link hdr word) s fun z =>
      z.wget (WR.MUS_SRC_CNT_CRC_ERR (b2n link)) =
        min (s.wget (WR.MUS_SRC_CNT_CRC_ERR (b2n link)) + 1) ((WR.MUS_SRC_CNT_CRC_ERR (b2n link)).size - 1) ∧
      OnlyRegs [WR.MUS_SRC_CNT_CRC_ERR (b2n link)] s z)) ∧
  (∀ (link : Bool) (word : Nat) (s : State), let t := b2n link
    State.decisionOk word = true → bits 63 60 word = 1 → s.tlEn t = true → s.pairOn = false → s.isRun = true →
    s.musMode = 0 →
    Runs (.tlDecisionRx link 1 word) s fun z =>
      z.wget (WR.MUS_SRC_CNT_DECISIONS t) =
        min (s.wget (WR.MUS_SRC_CNT_DECISIONS t) + 1) ((WR.MUS_SRC_CNT_DECISIONS t).size - 1) ∧
      z.mus.accs = s.mus.accs ++ [⟨(s.tick + 192 + 31) / 32, t,
        State.extend (2 ^ 40) (bits 39 0 word : Nat) (s.tick / 32 : Nat), bits 59 52 word⟩] ∧
      OnlyRegs [WR.MUS_SRC_CNT_DECISIONS t] s z) ∧
  (∀ (a : AccIn) (s : State),
    s.isRun = true → s.musMode = 0 → s.tick % 32 = 0 → s.mus.accs = [a] → a.cell ≤ s.tick / 32 →
    s.building' = true → s.pairOn = false →
    Runs .acceptForward s fun z =>
      z.out = s.out ++ ((List.range 48).filter fun p => s.takesAccept p).map (fun p => .dlAccept p (unsigned 16 a.slot)) ∧
      z.mus.accs = [] ∧ z.mus.nextEv = s.mus.nextEv + 1 ∧ OnlyRegs [] s z) ∧
  (∀ (slot : Nat) (s : State),
    s.tick + 10 = s.releaseTick slot →
    Runs (.primitiveCapture slot) s fun z =>
      (∃ c, SMap.find slot z.mus.caps = some c ∧
        c.prims = (SMap.getD [] slot s.mus.prims).filter fun x => s.portState x.port == 4) ∧
      SMap.find slot z.mus.prims = none ∧
      OnlyRegs [WR.ADM_PRIM_STAT_LATE, WR.ADM_PRIM_STAT_MARGIN_MIN, WR.MUS_SELF_CNT_SHED] s z) ∧
  (∀ (slot : Nat) (s : State), let cap := SMap.getD ⟨[], []⟩ slot s.mus.caps
    s.tick = s.releaseTick slot → 2 ≤ s.ws →
    Runs (.poCellRelease slot) s fun z =>
      z.out = s.out ++ [.po 0 (s.poCell 0 slot cap), .po 1 (s.poCell 1 slot cap)] ∧
      z.mus.caps = s.mus.caps.filter (fun x => decide (slot < x.1)) ∧
      OnlyRegs [WR.MUS_SPEC_CNT_COUNT 8, WR.MUS_SPEC_CNT_COUNT 0] s z) ∧
  (∀ (slot : Nat) (s : State),
    s.isRun = true → (s.mus.fired.any fun x => x.1 == (slot : Int) && x.2) = true → s.releaseTick slot ≤ s.tick →
    s.musMode = 0 → s.pairOn = false →
    Runs (.selfTriggerAccept slot) s fun z =>
      z.wget (WR.MUS_SRC_CNT_DECISIONS 2) =
        min (s.wget (WR.MUS_SRC_CNT_DECISIONS 2) + 1) ((WR.MUS_SRC_CNT_DECISIONS 2).size - 1) ∧
      z.mus.accs = s.mus.accs ++ [⟨(s.releaseTick slot + 224 + 31) / 32, 2, slot, s.wget WR.MUS_SELF_CFG_CLASS⟩] ∧
      z.mus.fired = s.mus.fired.filter (fun x => x.1 != (slot : Int)) ∧
      OnlyRegs [WR.MUS_SRC_CNT_DECISIONS 2] s z) ∧
  (∀ (slot : Nat) (s : State),
    (s.mus.fired.any fun x => x.1 == (slot : Int) && !x.2) = true →
    (s.mus.cands.any fun c => c.slot == (slot : Int) && c.complete) = true →
    s.wget WR.MUS_STATUS_SHED_SPEC = 0 → s.wget WR.MUS_STATUS_SHED_SELF = 0 →
    (s.wget WR.MUS_SELF_THR1_MIN_HITS ≤ s.contentHits slot → s.selfFree slot = true →
      Runs (.selfTriggerContentTest slot) s fun z =>
        z.mus.fired = s.mus.fired.filter (fun x => x.1 != (slot : Int)) ++ [((slot : Int), true)] ∧
        z.mus.selfFrom = some (slot + s.wget WR.MUS_SELF_CFG_HO + 1) ∧ OnlyRegs [] s z) ∧
    (s.contentHits slot < s.wget WR.MUS_SELF_THR1_MIN_HITS →
      Runs (.selfTriggerContentTest slot) s fun z =>
        z.mus.fired = s.mus.fired.filter (fun x => x.1 != (slot : Int)) ∧ OnlyRegs [] s z))

/-- Packet queues: what a producer's word, a read, a flush and a change of mode do. In normal service a word
enters a queue that is not full with its tags, a word that ends a bad packet is broken and counted; a full
queue makes a waiting producer wait, sets OVERRUN for one that does not, closes a packet in progress with an
abort marker, and drops a packet whose first word is refused; in staged mode the last word commits its packet
or rewinds it; a read takes the oldest visible word; a flush empties the queue; STAGED changes only on an
empty queue; Q14_WTAG offers WDATA and is ignored elsewhere. No other queue changes, and no register of Wonan
but those named. -/
def Obligations.PacketQueues : Prop :=
  (∀ (n data : Nat) (eop bad : Bool) (s : State), let q := s.queue n
    let shown := [WR.Q_STATUS_EMPTY n, WR.Q_STATUS_FULL n, WR.Q_STATUS_OPEN n, WR.Q_STATUS_DISCARDING n,
      WR.Q_LEVEL_WORDS n, WR.Q_VIS_VISIBLE n, WR.Q_LEVEL_PKTS n, WR.Q_VIS_HWM n]
    s.qHere n = true → q.discard = false → q.held = [] → s.staged n = false → State.qFull n q = false →
    s.wget (WR.Q_CTRL_NOTIFY_EN n) = 0 →
    Runs (.queueWrite n data eop bad) s fun z =>
      (z.queue n).words = q.words ++ [⟨data, eop, eop && bad⟩] ∧
      z.wget (WR.Q_LEVEL_WORDS n) = (q.words.length + 1) % 65536 ∧
      z.wget (WR.Q_LOSS_BROKEN n) = (if eop && bad then min (s.wget (WR.Q_LOSS_BROKEN n) + 1) 255 else s.wget (WR.Q_LOSS_BROKEN n)) ∧
      (∀ m, m ≠ n → z.queue m = s.queue m) ∧ OnlyRegs (shown ++ [WR.Q_LOSS_BROKEN n]) s z) ∧
  (∀ (n data : Nat) (eop bad : Bool) (s : State), let q := s.queue n
    let shown := [WR.Q_STATUS_EMPTY n, WR.Q_STATUS_FULL n, WR.Q_STATUS_OPEN n, WR.Q_STATUS_DISCARDING n,
      WR.Q_LEVEL_WORDS n, WR.Q_VIS_VISIBLE n, WR.Q_LEVEL_PKTS n, WR.Q_VIS_HWM n]
    s.qHere n = true → q.discard = false → q.held = [] → s.staged n = false → State.qFull n q = true →
    s.wget (WR.Q_CTRL_NOTIFY_EN n) = 0 →
    (State.qWaits n = true →
      Runs (.queueWrite n data eop bad) s fun z =>
        z.queue n = { q with held := [⟨data, eop, bad⟩] } ∧ (∀ m, m ≠ n → z.queue m = s.queue m) ∧
        OnlyRegs shown s z) ∧
    (State.qWaits n = false → n ≠ 12 → q.packet = 0 →
      Runs (.queueWrite n data eop bad) s fun z =>
        (z.queue n).words = q.words ∧ (z.queue n).discard = !eop ∧ z.wget (WR.Q_STATUS_OVERRUN n) = 1 ∧
        z.wget (WR.Q_LOSS_DROPPED n) = min (s.wget (WR.Q_LOSS_DROPPED n) + 1) 65535 ∧
        (∀ m, m ≠ n → z.queue m = s.queue m) ∧
        OnlyRegs (shown ++ [WR.Q_STATUS_OVERRUN n, WR.Q_LOSS_DROPPED n]) s z) ∧
    (State.qWaits n = false → n ≠ 12 → q.packet ≠ 0 →
      Runs (.queueWrite n data eop bad) s fun z =>
        (z.queue n).words = q.words ++ [⟨0, true, true⟩] ∧ (z.queue n).discard = !eop ∧
        z.wget (WR.Q_STATUS_OVERRUN n) = 1 ∧
        z.wget (WR.Q_LOSS_BROKEN n) = min (s.wget (WR.Q_LOSS_BROKEN n) + 1) 255 ∧
        (∀ m, m ≠ n → z.queue m = s.queue m) ∧
        OnlyRegs (shown ++ [WR.Q_STATUS_OVERRUN n, WR.Q_LOSS_BROKEN n]) s z)) ∧
  (∀ (n data : Nat) (bad : Bool) (s : State), let q := s.queue n
    let shown := [WR.Q_STATUS_EMPTY n, WR.Q_STATUS_FULL n, WR.Q_STATUS_OPEN n, WR.Q_STATUS_DISCARDING n,
      WR.Q_LEVEL_WORDS n, WR.Q_VIS_VISIBLE n, WR.Q_LEVEL_PKTS n, WR.Q_VIS_HWM n]
    s.qHere n = true → q.discard = false → q.held = [] → s.staged n = true → State.qFull n q = false →
    s.wget (WR.Q_CTRL_NOTIFY_EN n) = 0 →
    (bad = false →
      Runs (.queueWrite n data true bad) s fun z =>
        (z.queue n).words = q.words ++ [⟨data, true, false⟩] ∧ (z.queue n).visible = q.words.length + 1 ∧
        (z.queue n).packet = 0 ∧ (∀ m, m ≠ n → z.queue m = s.queue m) ∧ OnlyRegs shown s z) ∧
    (bad = true →
      Runs (.queueWrite n data true bad) s fun z =>
        (z.queue n).words = q.words.take q.visible ∧ (z.queue n).packet = 0 ∧
        z.wget (WR.Q_LOSS_REWOUND n) = min (s.wget (WR.Q_LOSS_REWOUND n) + 1) 255 ∧
        (∀ m, m ≠ n → z.queue m = s.queue m) ∧ OnlyRegs (shown ++ [WR.Q_LOSS_REWOUND n]) s z)) ∧
  (∀ (n : Nat) (w : QWord) (r : List QWord) (s : State), let q := s.queue n
    let shown := [WR.Q_STATUS_EMPTY n, WR.Q_STATUS_FULL n, WR.Q_STATUS_OPEN n, WR.Q_STATUS_DISCARDING n,
      WR.Q_LEVEL_WORDS n, WR.Q_VIS_VISIBLE n, WR.Q_LEVEL_PKTS n, WR.Q_VIS_HWM n]
    n ≠ 10 → s.qHere n = true → q.words = w :: r → s.qVisible n ≠ 0 → q.held = [] →
    s.wget (WR.Q_CTRL_NOTIFY_EN n) = 0 →
    Runs (.queueRead n 0) s fun z =>
      z.out = s.out ++ [.word n w.data w.eop w.broken false] ∧ (z.queue n).words = r ∧
      (z.queue n).visible = q.visible - 1 ∧ (∀ m, m ≠ n → z.queue m = s.queue m) ∧ OnlyRegs shown s z) ∧
  (∀ (n err : Nat) (s : State),
    n ≠ 10 → s.qVisible n = 0 → Runs (.queueRead n err) s fun z => z = s) ∧
  (∀ (n : Nat) (s : State), let q := s.queue n
    let shown := [WR.Q_STATUS_EMPTY n, WR.Q_STATUS_FULL n, WR.Q_STATUS_OPEN n, WR.Q_STATUS_DISCARDING n,
      WR.Q_LEVEL_WORDS n, WR.Q_VIS_VISIBLE n, WR.Q_LEVEL_PKTS n, WR.Q_VIS_HWM n]
    s.qHere n = true → s.wget (WR.Q_CTRL_NOTIFY_EN n) = 0 →
    Runs (.queueFlush n) s fun z =>
      (z.queue n).words = [] ∧ (z.queue n).discard = q.inPacket ∧
      z.wget (WR.Q_LOSS_DROPPED n) =
        (if q.inPacket && !q.discard then min (s.wget (WR.Q_LOSS_DROPPED n) + 1) 65535 else s.wget (WR.Q_LOSS_DROPPED n)) ∧
      (∀ m, m ≠ n → z.queue m = s.queue m) ∧ OnlyRegs (shown ++ [WR.Q_LOSS_DROPPED n]) s z) ∧
  (∀ (n : Nat) (v : Bool) (s : State), let q := s.queue n
    let shown := [WR.Q_STATUS_EMPTY n, WR.Q_STATUS_FULL n, WR.Q_STATUS_OPEN n, WR.Q_STATUS_DISCARDING n,
      WR.Q_LEVEL_WORDS n, WR.Q_VIS_VISIBLE n, WR.Q_LEVEL_PKTS n, WR.Q_VIS_HWM n]
    s.qHere n = true → b2n v ≠ s.wget (WR.Q_CTRL_STAGED n) → s.wget (WR.Q_CTRL_NOTIFY_EN n) = 0 →
    (q.words = [] → q.inPacket = false →
      Runs (.queueStagedWrite n v) s fun z =>
        z.wget (WR.Q_CTRL_STAGED n) = b2n v ∧ z.queue n = q ∧ OnlyRegs (shown ++ [WR.Q_CTRL_STAGED n]) s z) ∧
    (q.words ≠ [] →
      Runs (.queueStagedWrite n v) s fun z =>
        z.wget (WR.Q_STATUS_WR_IGNORED n) = 1 ∧ z.queue n = q ∧ OnlyRegs [WR.Q_STATUS_WR_IGNORED n] s z)) ∧
  (∀ (v : Nat) (s : State), let q := s.queue 14
    q.discard = false → q.held = [] → s.staged 14 = false → State.qFull 14 q = false → s.variant ≠ 2 →
    s.wget (WR.Q_CTRL_NOTIFY_EN 14) = 0 →
    (Runs (.qWtagWrite 14 v) s fun z =>
      (z.queue 14).words = q.words ++ [⟨s.wget (WR.Q_WDATA_LO_WDATA 14) + 2 ^ 32 * s.wget (WR.Q_WDATA_HI_WDATA 14),
        bit 0 v, bit 0 v && bit 1 v⟩] ∧ (∀ m, m ≠ 14 → z.queue m = s.queue m)) ∧
    ∀ n, n ≠ 14 → Runs (.qWtagWrite n v) s fun z => z = s)

/-- DMA channels and the fence table. GO starts an idle channel on all its bytes where the configuration is good,
and halts it with CONFIG and the failing address where it is not, and does nothing to a busy one; the channel
whose turn it is copies one unit of eight bytes of core memory and moves on, ending in DONE with the last
unit; a source address in the stalls halts it; RESUME goes on with what remains, SKIP passes one unit, ABORT
halts a busy channel and frees a halted one; a write of a fence row is taken from machine mode and the debug
agent and refused from others. Only the named registers change. -/
def Obligations.DmaAndFence : Prop :=
  (∀ (c : Nat) (s : State),
    c < 16 → s.wget (WR.DMA_EVT_EN c) = 0 → s.dmaState c = 0 ∨ s.dmaState c = 3 →
    (State.dmaBad (s.wget (WR.DMA_SRC_SRC c)) (s.wget (WR.DMA_DST_DST c)) (s.wget (WR.DMA_LEN_LEN c) % 2 ^ 24) = none →
      Runs (.dmaGo c) s fun z =>
        z.dmaState c = 1 ∧ z.wget (WR.DMA_STATUS_REMAIN c) = s.wget (WR.DMA_LEN_LEN c) % 2 ^ 24 ∧
        z.wget (WR.DMA_STATUS_CAUSE c) = 0 ∧
        OnlyRegs [WR.DMA_STATUS_REMAIN c, WR.DMA_STATUS_STATE c, WR.DMA_STATUS_CAUSE c] s z) ∧
    (∀ a, State.dmaBad (s.wget (WR.DMA_SRC_SRC c)) (s.wget (WR.DMA_DST_DST c)) (s.wget (WR.DMA_LEN_LEN c) % 2 ^ 24) = some a →
      Runs (.dmaGo c) s fun z =>
        z.dmaState c = 2 ∧ z.wget (WR.DMA_STATUS_CAUSE c) = 4 ∧ z.wget (WR.DMA_ADDR_ADDR c) = a % 2 ^ 32 ∧
        OnlyRegs [WR.DMA_STATUS_REMAIN c, WR.DMA_STATUS_STATE c, WR.DMA_STATUS_CAUSE c, WR.DMA_ADDR_ADDR c] s z)) ∧
  (∀ (c : Nat) (s : State),
    s.dmaState c = 1 ∨ s.dmaState c = 2 → Runs (.dmaGo c) s fun z => z = s) ∧
  (∀ (c f1 p1 a1 f2 p2 a2 f3 p3 a3 : Nat) (s : State), let src := s.wget (WR.DMA_SRC_SRC c)
    s.dmaNext = some c → s.inStall src = true → s.wget (WR.DMA_EVT_EN c) = 0 →
    Runs (.dmaUnitTransfer f1 p1 a1 f2 p2 a2 f3 p3 a3) s fun z =>
      z.dmaState c = 2 ∧ z.wget (WR.DMA_STATUS_CAUSE c) = 3 ∧ z.wget (WR.DMA_ADDR_ADDR c) = src % 2 ^ 32 ∧
      OnlyRegs [WR.DMA_STATUS_STATE c, WR.DMA_STATUS_CAUSE c, WR.DMA_ADDR_ADDR c] s z) ∧
  (∀ (c : Nat) (s : State), let src := s.wget (WR.DMA_SRC_SRC c); let dst := s.wget (WR.DMA_DST_DST c); let i := (src - 0x10000000) / 4
    s.dmaNext = some c → s.inStall src = false → s.fenceOk 6 false src 8 = true → (s.mayWriteFenced 6 dst 8).1 = true →
    0x10000000 ≤ src → src + 8 ≤ 0x10180000 → src % 8 = 0 → 0x10000000 ≤ dst → dst + 8 ≤ 0x10180000 → dst % 8 = 0 →
    s.flipsOf 3 i = 0 → s.flipsOf 3 (i + 1) = 0 → s.wget WR.MEM_INJECT_ARM = 0 → s.wget (WR.DMA_EVT_EN c) = 0 →
    Runs (.dmaUnitTransfer 0 0 0 0 0 0 0 0 0) s fun z =>
      (∀ k < 8, z.byte (dst + k) = s.byte (src + k)) ∧ (∀ a, a < dst ∨ dst + 8 ≤ a → z.byte a = s.byte a) ∧
      z.wget (WR.DMA_SRC_SRC c) = src + 8 ∧ z.wget (WR.DMA_DST_DST c) = dst + 8 ∧
      z.wget (WR.DMA_STATUS_REMAIN c) = (s.wget (WR.DMA_STATUS_REMAIN c) - 8) % 2 ^ 24 ∧
      (s.wget (WR.DMA_STATUS_REMAIN c) = 8 → z.dmaState c = 3) ∧ z.mbx.dmaLast = c) ∧
  (∀ (c : Nat) (s : State),
    s.dmaState c = 2 →
    State.dmaBad (s.wget (WR.DMA_SRC_SRC c)) (s.wget (WR.DMA_DST_DST c)) (s.wget (WR.DMA_STATUS_REMAIN c)) = none →
    Runs (.dmaResume c) s fun z =>
      z.dmaState c = 1 ∧ z.wget (WR.DMA_STATUS_CAUSE c) = 0 ∧
      OnlyRegs [WR.DMA_STATUS_STATE c, WR.DMA_STATUS_CAUSE c] s z) ∧
  (∀ (c : Nat) (s : State),
    s.dmaState c = 2 → s.wget (WR.DMA_STATUS_REMAIN c) = 8 → s.wget (WR.DMA_EVT_EN c) = 0 →
    Runs (.dmaSkip c) s fun z =>
      z.dmaState c = 3 ∧ z.wget (WR.DMA_STATUS_REMAIN c) = 0 ∧
      z.wget (WR.DMA_SRC_SRC c) = (s.wget (WR.DMA_SRC_SRC c) + 8) % 2 ^ 32 ∧
      z.wget (WR.DMA_DST_DST c) = (s.wget (WR.DMA_DST_DST c) + 8) % 2 ^ 32 ∧
      OnlyRegs [WR.DMA_SRC_SRC c, WR.DMA_DST_DST c, WR.DMA_STATUS_REMAIN c, WR.DMA_STATUS_STATE c] s z) ∧
  (∀ (c : Nat) (s : State),
    s.wget (WR.DMA_EVT_EN c) = 0 →
    (s.dmaState c = 1 → Runs (.dmaAbort c) s fun z =>
      z.dmaState c = 2 ∧ z.wget (WR.DMA_STATUS_CAUSE c) = 5 ∧
      z.wget (WR.DMA_ADDR_ADDR c) = s.wget (WR.DMA_SRC_SRC c) % 2 ^ 32 ∧
      OnlyRegs [WR.DMA_STATUS_STATE c, WR.DMA_STATUS_CAUSE c, WR.DMA_ADDR_ADDR c] s z) ∧
    (s.dmaState c = 2 → Runs (.dmaAbort c) s fun z =>
      z.dmaState c = 0 ∧ z.wget (WR.DMA_STATUS_CAUSE c) = 0 ∧
      OnlyRegs [WR.DMA_STATUS_STATE c, WR.DMA_STATUS_CAUSE c] s z)) ∧
  (∀ (agent row v : Nat) (s : State),
    row < 16 →
    (agent = 9 ∨ 1 ≤ agent ∧ agent ≤ 4 ∧ (s.core (agent - 1)).user = false →
      (Runs (.fenceWrite agent row 0 v) s fun z =>
        z.wget (WR.FENCE_BASE_ADDR row) = bits 31 6 v ∧ OnlyRegs [WR.FENCE_BASE_ADDR row] s z) ∧
      (Runs (.fenceWrite agent row 1 v) s fun z =>
        z.wget (WR.FENCE_LIMIT_ADDR row) = bits 31 6 v ∧ OnlyRegs [WR.FENCE_LIMIT_ADDR row] s z) ∧
      Runs (.fenceWrite agent row 2 v) s fun z =>
        z.wget (WR.FENCE_CFG_VALID row) = bits 31 31 v ∧ z.wget (WR.FENCE_CFG_DMA_W row) = bits 1 1 v ∧
        OnlyRegs [WR.FENCE_CFG_VALID row, WR.FENCE_CFG_DICT_W row, WR.FENCE_CFG_DICT_R row, WR.FENCE_CFG_DMA_W row,
          WR.FENCE_CFG_DMA_R row] s z) ∧
    (5 ≤ agent ∧ agent ≠ 9 ∨ agent = 0 → ∀ r, Runs (.fenceWrite agent row r v) s fun z =>
      z.wget WR.FENCE_STATUS_WR_REFUSED = 1 ∧ OnlyRegs [WR.FENCE_STATUS_WR_REFUSED] s z))

/-- A record through an engine and through the former. A record that waits to be dispatched again goes to the
lowest idle engine, or to the stored-block former where no engine is enabled; a form longer than the stored
form falls back to it and counts OVERSIZE, a mismatch falls back and counts VERIFY_FAIL, a verified form
completes the record: its area, with the payload header before the stream, enters the reorder table and the
engine rests; a stored form that verifies completes the record as STORED, one that does not sends the record
to another engine and marks this one FAULTY; the former completes its record as STORED, and as UNVERIFIED
after two mismatches. Nothing else changes but the named parts. -/
def Obligations.CompressionEngines : Prop :=
  (∀ (poison : Bool) (e : Nat) (j : CmpJob) (r : List CmpJob) (s : State),
    s.isRun = true → s.formerServes = false → (List.range s.engCount).find? (fun e => s.engState e == 0) = some e →
    s.cmp.redo = j :: r →
    Runs (.cmpDispatch poison) s fun z =>
      z.cmp = { s.cmp with redo := r, engs := SMap.insert e { j with pre := s.won WR.CMP_CTRL_PRECODE } s.cmp.engs } ∧
      z.engState e = 1 ∧ OnlyRegs [WR.CMP_ENG_STATUS_STATE e, WR.CMP_STATUS_ENABLED, WR.CMP_STATUS_ALL_OFF] s z ∧
      z.queues = s.queues) ∧
  (∀ (poison : Bool) (j : CmpJob) (r : List CmpJob) (s : State),
    s.isRun = true → s.formerServes = true → s.cmp.former = none → s.cmp.redo = j :: r →
    Runs (.cmpDispatch poison) s fun z =>
      z.cmp = { s.cmp with redo := r, former := some { j with pre := false } } ∧ OnlyRegs [] s z ∧ z.queues = s.queues) ∧
  (∀ (e : Nat) (ok : Bool) (j : CmpJob) (s : State),
    e < 16 → SMap.find e s.cmp.engs = some j → s.engState e = 1 →
    Runs (.cmpFormDone e ok) s fun z =>
      (storedSize (8 * j.body.length) < (s.formOf j).length →
        z.engState e = 2 ∧ SMap.find e z.cmp.engs = some j ∧
        z.wget (WR.CMP_ENG_CNT_OVERSIZE e) = min (s.wget (WR.CMP_ENG_CNT_OVERSIZE e) + 1) 255 ∧
        z.wget WR.CMP_FALLBACK_OVERSIZE = min (s.wget WR.CMP_FALLBACK_OVERSIZE + 1) 65535) ∧
      ((s.formOf j).length ≤ storedSize (8 * j.body.length) → ok = false →
        z.engState e = 2 ∧
        SMap.find e z.cmp.engs = some { j with vfail := true, lasting := s.won (WR.CMP_ENG_STATUS_MISMATCH_RUN e) } ∧
        z.wget (WR.CMP_ENG_STATUS_MISMATCH_RUN e) = 1 ∧
        z.wget (WR.CMP_ENG_FAIL_LO_SEQ e) = State.recSeq j.ctx0 % 2 ^ 32 ∧
        z.wget (WR.CMP_ENG_CNT_VERIFY_FAIL e) = min (s.wget (WR.CMP_ENG_CNT_VERIFY_FAIL e) + 1) 255 ∧
        z.wget WR.CMP_FALLBACK_VERIFY_FAIL = min (s.wget WR.CMP_FALLBACK_VERIFY_FAIL + 1) 65535) ∧
      ((s.formOf j).length ≤ storedSize (8 * j.body.length) → ok = true → s.cmp.waiting = [] → s.cmp.table.length < 64 →
        j.lasting = false →
        (∃ a ∈ z.cmp.table, a.ctx0 = j.ctx0 ∧ a.ctx1 = j.ctx1 ∧ a.engine = e ∧ a.stored = false ∧
          a.payload = State.payloadHeader a j.pre (State.wordBytes j.body).length (s.formOf j).length
            (crc32c (State.wordBytes j.body)) ++ s.formOf j) ∧
        z.cmp.waiting = [] ∧ SMap.find e z.cmp.engs = none ∧
        z.engState e = (if s.won (WR.CMP_ENG_CTRL_EN e) then 0 else 3) ∧
        z.wget (WR.CMP_ENG_STATUS_MISMATCH_RUN e) = 0)) ∧
  (∀ (e : Nat) (j : CmpJob) (s : State),
    e < 16 → SMap.find e s.cmp.engs = some j → s.engState e = 2 → s.cmp.waiting = [] → s.cmp.table.length < 64 →
    (Runs (.cmpStoredDone e true false) s fun z =>
      (∃ a ∈ z.cmp.table, a.ctx0 = j.ctx0 ∧ a.ctx1 = j.ctx1 ∧ a.engine = e ∧ a.stored = true ∧ a.vfail = j.vfail ∧
        a.payload = State.payloadHeader a false (State.wordBytes j.body).length (storedForm (State.wordBytes j.body)).length
          (crc32c (State.wordBytes j.body)) ++ storedForm (State.wordBytes j.body)) ∧
      z.cmp.waiting = [] ∧ SMap.find e z.cmp.engs = none ∧
      z.engState e = (if j.lasting then 4 else if s.won (WR.CMP_ENG_CTRL_EN e) then 0 else 3)) ∧
    Runs (.cmpStoredDone e false false) s fun z =>
      z.cmp = { s.cmp with engs := SMap.erase e s.cmp.engs, redo := s.cmp.redo ++ [{ j with vfail := false, lasting := false }] } ∧
      z.engState e = 4 ∧ z.wget (WR.CMP_ENG_STATUS_CAUSE e) = 2 ∧ z.wget WR.CMP_STATUS_ENG_FAULT = 1) ∧
  (∀ (bad : Nat) (j : CmpJob) (s : State),
    s.cmp.former = some j → s.cmp.waiting = [] → s.cmp.table.length < 64 →
    Runs (.formerRecordDone bad) s fun z =>
      (∃ a ∈ z.cmp.table, a.ctx0 = j.ctx0 ∧ a.ctx1 = j.ctx1 ∧ a.engine = 31 ∧ a.stored = true ∧ a.unver = (bad == 2) ∧
        a.payload = State.payloadHeader a false (State.wordBytes j.body).length (storedForm (State.wordBytes j.body)).length
          (crc32c (State.wordBytes j.body)) ++ storedForm (State.wordBytes j.body)) ∧
      z.cmp.former = none ∧ z.cmp.waiting = [] ∧
      (bad = 2 → z.wget WR.CMP_STATUS_FORMER_FAULT = 1))

/-- The reorder table, the ratio windows and the control of engines. The record whose number is the next to be
released leaves the table for the output areas and the number moves on; a window's ratio is 256 times the body
bytes over the payload bytes, at most 65,535, and the window starts again; a write of EN turns an idle engine
off and an engine that is off on; REENABLE takes a FAULTY engine into its self-test, which leaves it resting
or FAULTY with cause 3; a write of CMP_CTRL is taken in HELD and ADMITTED and refused in other states. -/
def Obligations.ReorderAndEngineControl : Prop :=
  (∀ (a : Area) (s : State),
    s.isRun = true → s.relNext < 2 ^ 64 → s.cmp.waiting = [] →
    s.cmp.table.find? (fun x => State.recSeq x.ctx0 == s.relNext) = some a →
    Runs .cmpReorderRelease s fun z =>
      z.cmp = { s.cmp with table := s.cmp.table.filter (fun x => State.recSeq x.ctx0 != s.relNext), areas := s.cmp.areas ++ [a] }) ∧
  (∀ (s : State),
    0 < s.cmp.outMs →
    Runs (.cmpRatioWindow false) s fun z =>
      z.wget WR.CMP_RATIO_RATIO_1MS = min 65535 (s.cmp.inMs * 256 / s.cmp.outMs) ∧
      z.cmp = { s.cmp with inMs := 0, outMs := 0 } ∧
      (min 65535 (s.cmp.inMs * 256 / s.cmp.outMs) < s.decl 0x0B 0 256 → z.wget WR.CMP_STATUS_RATIO_LOW = 1) ∧
      OnlyRegs [WR.CMP_RATIO_RATIO_1MS, WR.CMP_STATUS_RATIO_LOW] s z ∧ z.freeCnt = s.freeCnt) ∧
  (∀ (s : State),
    0 < s.cmp.outS →
    Runs (.cmpRatioWindow true) s fun z =>
      z.wget WR.CMP_RATIO_RATIO_1S = min 65535 (s.cmp.inS * 256 / s.cmp.outS) ∧
      z.cmp = { s.cmp with inS := 0, outS := 0 } ∧ OnlyRegs [WR.CMP_RATIO_RATIO_1S] s z ∧ z.freeCnt = s.freeCnt) ∧
  (∀ (e : Nat) (v : Bool) (s : State),
    e < s.engCount →
    Runs (.cmpEngEnWrite e v) s fun z =>
      z.wget (WR.CMP_ENG_CTRL_EN e) = b2n v ∧
      z.engState e = (if s.engState e = 0 ∨ s.engState e = 3 then (if v then 0 else 3) else s.engState e) ∧
      OnlyRegs [WR.CMP_ENG_CTRL_EN e, WR.CMP_ENG_STATUS_STATE e, WR.CMP_STATUS_ENABLED, WR.CMP_STATUS_ALL_OFF] s z) ∧
  (∀ (e : Nat) (s : State),
    e < s.engCount → s.engState e = 4 →
    Runs (.cmpReenable e) s fun z =>
      z.engState e = 5 ∧ OnlyRegs [WR.CMP_ENG_STATUS_STATE e, WR.CMP_STATUS_ENABLED, WR.CMP_STATUS_ALL_OFF] s z) ∧
  (∀ (e : Nat) (s : State),
    s.engState e = 5 →
    (Runs (.cmpReenableDone e true) s fun z =>
      z.engState e = (if s.won (WR.CMP_ENG_CTRL_EN e) then 0 else 3) ∧ z.wget (WR.CMP_ENG_STATUS_CAUSE e) = 0 ∧
      OnlyRegs [WR.CMP_ENG_STATUS_STATE e, WR.CMP_ENG_STATUS_CAUSE e, WR.CMP_STATUS_ENABLED, WR.CMP_STATUS_ALL_OFF] s z) ∧
    Runs (.cmpReenableDone e false) s fun z =>
      z.engState e = 4 ∧ z.wget (WR.CMP_ENG_STATUS_CAUSE e) = 3 ∧ z.wget (WR.CMP_ENG_STATUS_SELFTEST_FAIL e) = 1 ∧
      z.wget WR.CMP_STATUS_ENG_FAULT = 1) ∧
  (∀ (v : Nat) (s : State),
    Runs (.cmpBypassWrite v) s fun z =>
      (s.ws = 2 ∨ s.ws = 3 → z.won WR.CMP_CTRL_BYPASS = bit 1 v ∧ z.won WR.CMP_CTRL_PRECODE = bit 0 v ∧
        z.won WR.CMP_CTRL_LAZY = bit 2 v ∧ z.wget WR.CMP_CTRL_CHAIN_MAX = bits 15 8 v ∧
        z.wget WR.CMP_CTRL_NICE_LEN = bits 24 16 v) ∧
      (¬ (s.ws = 2 ∨ s.ws = 3) → z.wr = s.wr) ∧
      OnlyRegs [WR.CMP_CTRL_NICE_LEN, WR.CMP_CTRL_CHAIN_MAX, WR.CMP_CTRL_LAZY, WR.CMP_CTRL_BYPASS, WR.CMP_CTRL_PRECODE] s z)

/-- Egress links and received frames. A good link takes a DOWN port to UP once it has been stable, or straight
back to ACTIVE where the port still belongs to the steering set; a link that fails takes the port to DOWN,
cancels a pending ADD of it and notes the time; a port of the set that has been DOWN for LINK_TMO leaves it
with cause 2; a frame that reaches a port that is not up is lost, one with a bad FCS, a PAUSE frame and one
for nobody are counted, one for the dictionary agent goes to queue 11 and a PTP message with its receive time
to queue 10. -/
def Obligations.EgressPorts : Prop :=
  (∀ (k : Nat) (stable : Bool) (s : State),
    s.epState k = 1 →
    Runs (.portLinkUp k stable) s fun z =>
      z.wget (WR.ETH_P_STATUS_BLOCK_LOCK k) = 1 ∧ z.wget (WR.ETH_P_STATUS_HI_BER k) = 0 ∧
      z.wget (WR.ETH_P_STATUS_FEC_ALIGN k) = b2n (s.wget (WR.ETH_P_CFG_MODE k) == 2) ∧
      z.epState k = (if s.eth.active.contains k then 4 else if stable then 2 else 1) ∧ z.eth.active = s.eth.active) ∧
  (∀ (k cause : Nat) (s : State),
    2 ≤ s.epState k →
    Runs (.portLinkDown k cause) s fun z =>
      z.epState k = 1 ∧ SMap.find k z.eth.down = some s.now ∧ z.eth.active = s.eth.active ∧ z.eth.sent = s.eth.sent ∧
      (∀ b, s.eth.pend = some (some k, b) → z.eth.pend = none) ∧
      (cause = 1 → z.wget (WR.ETH_P_STATUS_HI_BER k) = 1) ∧ (cause = 2 → z.wget (WR.ETH_P_STATUS_FEC_ALIGN k) = 0) ∧
      (cause = 0 → z.wget (WR.ETH_P_STATUS_BLOCK_LOCK k) = 0 ∧ z.wget (WR.ETH_P_STATUS_FEC_ALIGN k) = 0)) ∧
  (∀ (k : Nat) (s : State),
    s.eth.active.contains k = true → s.epState k = 1 → s.eth.pend = none →
    SMap.getD 0 k s.eth.down + max 1 (s.wget WR.ETH_CFG_LINK_TMO) * Config.usTicks ≤ s.now →
    Runs (.portLinkTimeout k) s fun z =>
      z.wget (WR.ETH_P_STATUS_LINK_LOST k) = 1 ∧ z.wget (WR.ETH_P_STATUS_CAUSE k) = 2 ∧ z.epState k = 1 ∧
      z.eth.active = s.eth.active.filter (· != k) ∧ z.eth.sent = s.eth.sent.filter (fun x => x.port != k) ∧
      z.wget WR.ETH_STATUS_STEER_WAIT = 0) ∧
  (∀ (k fine : Nat) (b : List Nat) (s : State),
    (s.epState k < 2 → ∀ fcs, Runs (.epFrameRx k fcs b fine) s fun z => z = s) ∧
    (2 ≤ s.epState k →
      (Runs (.epFrameRx k false b fine) s fun z =>
        z.wget (WR.ETH_P_RX_FCS_ERR k) = min (s.wget (WR.ETH_P_RX_FCS_ERR k) + 1) 255 ∧
        OnlyRegs [WR.ETH_P_RX_FCS_ERR k] s z ∧ z.queues = s.queues) ∧
      ((untag b).2.1 = 0x8808 → Runs (.epFrameRx k true b fine) s fun z =>
        z.wget (WR.ETH_P_RX_PAUSE k) = min (s.wget (WR.ETH_P_RX_PAUSE k) + 1) 255 ∧
        OnlyRegs [WR.ETH_P_RX_PAUSE k] s z ∧ z.queues = s.queues) ∧
      ((untag b).2.1 ≠ 0x8808 → s.ptpOf k b = none → s.dictFrame k b = false → Runs (.epFrameRx k true b fine) s fun z =>
        z.wget (WR.ETH_P_RX_DROPPED k) = min (s.wget (WR.ETH_P_RX_DROPPED k) + 1) 255 ∧
        OnlyRegs [WR.ETH_P_RX_DROPPED k] s z ∧ z.queues = s.queues) ∧
      ((untag b).2.1 ≠ 0x8808 → s.ptpOf k b = none → s.dictFrame k b = true → Runs (.epFrameRx k true b fine) s fun z =>
        z = (s.wadd (WR.ETH_P_RX_ACCEPTED k) 1).offerPacket 11 false (State.rxPacket k b)))) ∧
  (∀ (k fine : Nat) (b m : List Nat) (s : State),
    2 ≤ s.epState k → s.ptpOf k b = some m →
    (2 ≤ m.headD 0 % 16 → Runs (.ptpFrameRx k b fine) s fun z =>
      z = (s.wadd (WR.ETH_P_RX_ACCEPTED k) 1).offerPacket 10 false (State.rxPacket k b ++ [0, 0])) ∧
    (m.headD 0 % 16 = 1 → Runs (.ptpFrameRx k b fine) s fun z =>
      let stamp := State.stampBits (State.timeAdd (s.timeFine fine) (signed 32 (s.wget WR.MER_PTP_RX_LAT_LAT)))
      z = (s.wadd (WR.ETH_P_RX_ACCEPTED k) 1).offerPacket 10 false
        (State.rxPacket k b ++ [stamp / 2 ^ 48, stamp % 2 ^ 48 * 2 ^ 16])))

/-- Steering of records and its commands. A record is steered to the port and destination that the steering table
or MODULO gives, as the datagrams of its segments; its next datagram leaves the port, and with the last one
the record is complete; ADD and COMMIT wait for their boundary and take effect once the next number to steer
has reached it, at once where it already has; REMOVE cancels a port that waits, or takes an active one out of
the set with cause 1 and withdraws its records; a command that cannot act is refused. -/
def Obligations.RecordSteering : Prop :=
  (∀ (a : Area) (again : Bool) (t s : State),
    s.isRun = true → s.eth.pend = none → s.nextArea = some (a, again, t) → s.won WR.PAIR_CTRL_MUTE = false →
    s.eth.active ≠ [] → s.qBlocked (State.epQueue (s.route (State.recSeq a.ctx0)).1) = false →
    Runs (.recordSteer 0) s fun z =>
      ∃ x ∈ z.eth.sent, x.seq = State.recSeq a.ctx0 ∧ x.area = a ∧ x.port = (s.route (State.recSeq a.ctx0)).1 ∧
        x.dest = (s.route (State.recSeq a.ctx0)).2 ∧ x.again = again ∧
        x.frames = s.recFrames (s.route (State.recSeq a.ctx0)).1 (s.route (State.recSeq a.ctx0)).2 a again) ∧
  (∀ (k : Nat) (x : Steered) (f : List Nat) (r : List (List Nat)) (s : State),
    s.epState k = 4 → s.qPkts (State.epQueue k) ≠ 0 →
    s.eth.sent.find? (fun x => x.port == k && !x.frames.isEmpty) = some x → x.frames = f :: r → f ≠ [] →
    Runs (.datagramSent k) s fun z =>
      Out.frame k f ∈ z.out ∧
      (r = [] → z.eth = { s.eth with sent := s.eth.sent.filter fun y => y.seq != x.seq }) ∧
      (r ≠ [] → z.eth = { s.eth with sent := s.eth.sent.map fun y => if y.seq = x.seq then { y with frames := r } else y })) ∧
  (∀ (k : Nat) (s : State), let b := s.wget WR.ETH_BOUND_LO_BOUND + 2 ^ 32 * s.wget WR.ETH_BOUND_HI_BOUND
    s.epState k = 2 → s.eth.pend = none →
    (s.steerNext < b → Runs (.steerAdd k) s fun z =>
      z.epState k = 3 ∧ z.eth = { s.eth with pend := some (some k, b) } ∧ z.wget WR.ETH_STATUS_PENDING = 1) ∧
    (b ≤ s.steerNext → Runs (.steerAdd k) s fun z =>
      z.epState k = 4 ∧ z.eth = { s.eth with pend := none, origin := s.steerNext, active := insertBy (fun a b => decide (a ≤ b)) k s.eth.active } ∧
      (b < s.steerNext → z.wget WR.ETH_STATUS_BOUND_LATE = 1))) ∧
  (∀ (k : Nat) (s : State),
    s.epState k ≠ 2 ∨ s.eth.pend.isSome = true →
    Runs (.steerAdd k) s fun z => z.wget WR.ETH_STATUS_CMD_REFUSED = 1 ∧ OnlyRegs [WR.ETH_STATUS_CMD_REFUSED] s z ∧ z.eth = s.eth) ∧
  (∀ (s : State), let b := s.wget WR.ETH_BOUND_LO_BOUND + 2 ^ 32 * s.wget WR.ETH_BOUND_HI_BOUND
    (s.eth.pend = none → s.steerNext < b → Runs .steerCommit s fun z => z.eth = { s.eth with pend := some (none, b) }) ∧
    (s.eth.pend = none → b ≤ s.steerNext → Runs .steerCommit s fun z =>
      z.eth = { s.eth with pend := none, origin := s.steerNext, tab := s.shadowTab } ∧
      z.wget WR.ETH_STEER_LEN_ACTIVE_LEN = max 1 (min 256 (s.wget WR.ETH_STEER_LEN_LEN))) ∧
    (s.eth.pend.isSome = true → Runs .steerCommit s fun z =>
      z.wget WR.ETH_STATUS_CMD_REFUSED = 1 ∧ OnlyRegs [WR.ETH_STATUS_CMD_REFUSED] s z ∧ z.eth = s.eth)) ∧
  (∀ (k : Nat) (s : State),
    s.eth.active.contains k = false →
    (s.epState k = 3 → (∃ b, s.eth.pend = some (some k, b)) → Runs (.steerRemove k) s fun z =>
      z.epState k = 2 ∧ z.eth = { s.eth with pend := none }) ∧
    (s.epState k ≠ 3 → Runs (.steerRemove k) s fun z =>
      z.wget WR.ETH_STATUS_CMD_REFUSED = 1 ∧ OnlyRegs [WR.ETH_STATUS_CMD_REFUSED] s z ∧ z.eth = s.eth)) ∧
  (∀ (k : Nat) (s : State),
    s.eth.active.contains k = true → s.epState k = 4 → s.eth.pend = none →
    Runs (.steerRemove k) s fun z =>
      z.epState k = 2 ∧ z.wget (WR.ETH_P_STATUS_CAUSE k) = 1 ∧ z.eth.active = s.eth.active.filter (· != k) ∧
      z.eth.sent = s.eth.sent.filter (fun x => x.port != k) ∧
      z.eth.back = (s.eth.sent.filter fun x => x.port == k).foldl (fun b x =>
        insertBy (fun a b => decide (State.recSeq a.ctx0 ≤ State.recSeq b.ctx0)) x.area b) s.eth.back) ∧
  (∀ (s : State),
    Runs .steerOpInvalid s fun z => z.wget WR.ETH_STATUS_CMD_REFUSED = 1 ∧ OnlyRegs [WR.ETH_STATUS_CMD_REFUSED] s z ∧ z.eth = s.eth) ∧
  (∀ (b : Nat) (p : Option Nat) (s : State),
    s.eth.pend = some (p, b) →
    (s.steerNext < b → Runs .steerBoundary s fun z => z = s) ∧
    (b ≤ s.steerNext → p = none → Runs .steerBoundary s fun z =>
      z.eth = { s.eth with pend := none, origin := b, tab := s.shadowTab }) ∧
    (b ≤ s.steerNext → ∀ k, p = some k → Runs .steerBoundary s fun z =>
      z.epState k = 4 ∧
      z.eth = { s.eth with pend := none, origin := b, active := insertBy (fun a b => decide (a ≤ b)) k s.eth.active }))

/-- Pace, the governor, shedding and recovery. A sample outside RUNNING and DEGRADED shows the counts of the
rings, marks the enabled rings that are excluded and shows the lowest pace of the others; with pace known and
below the target the governor raises VCORE by 10 mV and pauses for four samples; while the shedding step is
due in DEGRADED the next step is taken and shown; the HOLD cycle turns at its times and counts its turns to
RELEASE; recovery goes back one step, and to RUNNING with the last. -/
def Obligations.PaceAndShedding : Prop :=
  (∀ (counts : List Nat) (s : State),
    s.ws ≠ 4 → s.ws ≠ 5 →
    Runs (.paceRingSample counts) s fun z =>
      (∀ n < 8, z.wget (WR.ADM_RING_COUNT n) = min 65535 (counts.getD n 0) ∧
        z.wget (WR.ADM_RING_FAULT n) = b2n (s.won (WR.ADM_RING_EN n) && !(s.ringsUsed counts).contains n)) ∧
      (∀ c r, (s.ringsUsed counts).map (fun n => counts.getD n 0) = c :: r →
        z.wget WR.ADM_PACE_PACE_NOW = min 65535 (r.foldl min c)) ∧
      (s.ringsUsed counts = [] → z.wget WR.ADM_PACE_PACE_NOW = 0) ∧ z.ws = s.ws) ∧
  (∀ (counts : List Nat) (c : Nat) (r : List Nat) (s : State),
    let set := max s.vmin (min s.vmax (s.wget WR.ADM_VCORE_SET))
    s.ws ≠ 4 → s.ws ≠ 5 → s.gov.live = true → s.won WR.ADM_VCORE_GOV_EN = true → s.gov.pause = 0 →
    5 ≤ (s.ringsUsed counts).length → (s.ringsUsed counts).map (fun n => counts.getD n 0) = c :: r →
    min 65535 (r.foldl min c) < s.admitPace + s.wget WR.ADM_PACE_CFG_GUARD → set < s.vmax →
    Runs (.paceRingSample counts) s fun z => z.wget WR.ADM_VCORE_SET = min s.vmax (set + 10) ∧ z.gov.pause = 4) ∧
  (∀ (s : State),
    s.ws = 5 → s.gov.cause = true → s.gov.step < 3 → s.canShed (s.gov.step + 1) = true →
    s.gov.since + max 1 (s.wget WR.ADM_SHED_CFG_STEP_US) * Config.usTicks ≤ s.now →
    Runs .shedStep s fun z =>
      z.gov.step = s.gov.step + 1 ∧ z.gov.since = s.now ∧ z.ws = 5 ∧
      OnlyRegs [WR.MUS_STATUS_SHED_SPEC, WR.MUS_STATUS_SHED_SELF, WR.ADM_DEG_STATUS_STEP, WR.PAIR_STATUS_STEP] s z) ∧
  (∀ (t : Nat) (s : State),
    (s.gov.cycle = some (true, t) → t + max 1 (s.wget WR.ADM_HOLD_CFG_HOLD_ON) * Config.usTicks ≤ s.now →
      Runs .holdCycleToggle s fun z =>
        z.gov = { s.gov with cycle := some (false, s.now) } ∧
        z.wget WR.ADM_DEG_CNT_HOLD_CYCLES = min (s.wget WR.ADM_DEG_CNT_HOLD_CYCLES + 1) (WR.ADM_DEG_CNT_HOLD_CYCLES.size - 1) ∧
        OnlyRegs [WR.ADM_DEG_CNT_HOLD_CYCLES] s z) ∧
    (s.gov.cycle = some (false, t) → t + max 1 (s.wget WR.ADM_HOLD_CFG_HOLD_OFF) * Config.usTicks ≤ s.now →
      Runs .holdCycleToggle s fun z =>
        z.gov = { s.gov with cycle := some (true, s.now) } ∧ OnlyRegs [] s z)) ∧
  (∀ (t : Nat) (s : State),
    s.ws = 5 → s.gov.quiet = some t →
    t + max 1 (s.wget WR.ADM_SHED_CFG_RECOVER_MS) * Config.msTicks ≤ s.now →
    Runs .degradedRecoverStep s fun z =>
      z.gov.step = s.gov.step - 1 ∧ z.ws = (if s.gov.step ≤ 1 then 4 else 5) ∧
      z.gov.quiet = (if s.gov.step ≤ 1 then none else some s.now))

/-- Images, admission and entry to RUNNING. CHECK in HELD begins the checks on the Yard copy; RELOAD selects
between the Yard and NOR copies; the copy of the NOR image places its bytes in the reserve and begins the
checks; STORE writes the image with COMMIT still erased and STORE_DONE writes COMMIT; checks that pass lead to
ADMITTED with the image in use, a failed check reports its class, INDEX and VALUE; RUN enters RUNNING from
ADMITTED once time is valid, STOP returns to HELD, and AUTO_RUN enters RUNNING unless the reset storm flag
stands. -/
def Obligations.ImagesAndRun : Prop :=
  (∀ (s : State),
    s.ws = 2 → s.sys.busy = 0 →
    Runs .admCheck s fun z =>
      z.sys = { s.sys with busy := 2, src := 1 } ∧ z.wget WR.ADM_STATUS_CHECKING = 1 ∧
      OnlyRegs [WR.ADM_STATUS_CHECKING] s z) ∧
  (∀ (y n : List Nat) (s : State),
    s.ws = 2 → s.sys.busy = 0 → s.yardCopy = y → s.norCopy = n →
    Runs .admReload s fun z =>
      z.sys.norKnown = true ∧ OnlyRegs [WR.ADM_STATUS_CHECKING, WR.ADM_STATUS_DISAGREE] s z ∧
      (imgValid y = true → (imgValid n = false ∨ y = n ∨ beAt n 4 4 < beAt y 4 4) →
        z.sys.busy = 2 ∧ z.wget WR.ADM_STATUS_CHECKING = 1 ∧ z.wget WR.ADM_STATUS_DISAGREE = 0 ∧
        z.sys.src = (if y = n then 3 else 1)) ∧
      (imgValid n = true → (imgValid y = false ∨ beAt y 4 4 < beAt n 4 4) →
        z.sys.busy = 1 ∧ z.sys.src = 2 ∧ z.wget WR.ADM_STATUS_DISAGREE = 0) ∧
      (imgValid y = true → imgValid n = true → y ≠ n → beAt y 4 4 = beAt n 4 4 →
        z.sys.busy = 0 ∧ z.wget WR.ADM_STATUS_DISAGREE = 1)) ∧
  (∀ (s : State),
    s.sys.busy = 1 →
    Runs .norImageCopyDone s fun z =>
      z.sys = { s.sys with busy := 2, src := 2 } ∧ z.wget WR.ADM_STATUS_CHECKING = 1 ∧
      (∀ i < s.norCopy.length, z.byte (0x20F80000 + i) = BitVec.ofNat 8 (s.norCopy.getD i 0)) ∧
      (∀ a, a < 0x20F80000 ∨ 0x20F80000 + s.norCopy.length ≤ a → z.byte a = s.byte a) ∧
      OnlyRegs [WR.ADM_STATUS_CHECKING] s z) ∧
  (∀ (n : Nat) (s : State),
    s.ws = 3 ∨ s.ws = 4 → s.image.isSome = true → s.sys.store = none → s.sys.raw.length = n + 8 →
    Runs .admStore s fun z =>
      z.sys.store = some s.now ∧ z.wget WR.ADM_STATUS_STORING = 1 ∧ OnlyRegs [WR.ADM_STATUS_STORING] s z ∧
      (∀ i < n + 8, ¬ (n ≤ i ∧ i < n + 4) → z.norBytes i 1 = [s.sys.raw.getD i 0 % 256]) ∧
      (∀ i, n ≤ i → i < n + 4 → z.norBytes i 1 = [255])) ∧
  (∀ (n t : Nat) (s : State),
    s.sys.store = some t → s.sys.raw.length = n + 8 →
    Runs (.admStoreDone true) s (fun z =>
      z.sys.store = none ∧ z.wget WR.ADM_STATUS_STORING = 0 ∧ OnlyRegs [WR.ADM_STATUS_STORING] s z ∧
      (∀ i, n ≤ i → i < n + 4 → z.norBytes i 1 = [s.sys.raw.getD i 0 % 256]) ∧
      (∀ i, i < n ∨ n + 4 ≤ i → z.norBytes i 1 = s.norBytes i 1)) ∧
    Runs (.admStoreDone false) s (fun z =>
      z.sys = { s.sys with store := none } ∧ z.wget WR.ADM_STATUS_STORING = 0 ∧ z.wget WR.ADM_STATUS_STORE_ERR = 1 ∧
      OnlyRegs [WR.ADM_STATUS_STORING, WR.ADM_STATUS_STORE_ERR] s z)) ∧
  (∀ (s : State),
    s.ws = 3 → s.timeValid = true →
    Runs .admRun s fun z => z.ws = 4 ∧ z.wget WR.SYS_STATE_PREV = 3 ∧ z.image = s.image) ∧
  (∀ (s : State),
    s.isRun = true → Runs .admStop s fun z => z.ws = 2 ∧ z.image = s.image) ∧
  (∀ (s : State),
    (s.won WR.SYS_BOOT_AUTO_RUN = true → s.won WR.SYS_BOOT_STORM = false → s.ws = 3 → s.timeValid = true →
      Runs .autoRunEntry s fun z => z.ws = 4 ∧ z.image = s.image) ∧
    (s.won WR.SYS_BOOT_AUTO_RUN = false ∨ s.won WR.SYS_BOOT_STORM = true →
      Runs .autoRunEntry s fun z => z = s)) ∧
  (∀ (r : ImgRead) (s : State),
    s.ws = 2 → s.sys.busy = 2 → readImage s.yardCopy = r →
    Runs .admissionChecksDone s fun z =>
      (∀ c, (({ s with wr := (s.wset WR.ADM_STATUS_CHECKING 0).wr }).admOf r).check = c →
        (c = none → z.ws = 3 ∧ z.image = some r.image ∧ z.wget WR.ADM_STATUS_ADMITTED = 1 ∧
          z.wget WR.ADM_STATUS_REFUSED = 0 ∧ z.wget WR.ADM_STATUS_IMG_SRC = s.sys.src % 4 ∧
          z.wget WR.ADM_IMG_GEN_GEN = r.image.gen % 4294967296) ∧
        (∀ x, c = some x → z.ws = 2 ∧ z.image = s.image ∧ z.wget WR.ADM_STATUS_REFUSED = 1 ∧
          z.wget WR.ADM_STATUS_ADMITTED = 0 ∧ z.wget WR.ADM_REFUSE_CLASS = x.cls % WR.ADM_REFUSE_CLASS.size ∧
          z.wget WR.ADM_DETAIL_INDEX = x.index % WR.ADM_DETAIL_INDEX.size ∧
          z.wget WR.ADM_DETAIL_VALUE = min 65535 x.value)))

/-- Groom, the error log, the Farrier table and access to registers. Groom reads the word at its cursor, corrects
and logs an upset the code can correct, moves the cursor on and counts a pass when every cursor has wrapped; a
confirm visit that reads clean counts TRANSIENT and takes the word off the list; a Farrier entry written by
firmware is taken, or refused with FAR_REFUSED; reading MEM_LOG_INFO takes the head entry; a register without
an action of its own reads as its word, also through the quiet alias, and is stored by its access codes; a
register of an absent unit reads 0 and ignores writes; an access the PMP refuses traps, and so does a write of
the quiet alias. -/
def Obligations.GroomLogAndRegisterAccess : Prop :=
  (∀ (m : Nat) (s : State), let i := s.mems.cursors.getD m 0
    s.groomRuns = true → m < 6 → s.flipsOf m i = 0 → i + 1 < memWords m → s.mems.wrapped.length < 6 →
    Runs (.groomVisit m 0 0 0) s fun z =>
      z.mems.cursors = s.mems.cursors.set m (i + 1) ∧ z.mems.wrapped = s.mems.wrapped ∧ z.mems.log = s.mems.log ∧
      z.mems.confirm = s.mems.confirm ∧ z.flipsOf m i = 0 ∧ OnlyRegs [WR.MEM_GROOM_PROGRESS] s z) ∧
  (∀ (m : Nat) (s : State), let i := s.mems.cursors.getD m 0
    s.groomRuns = true → m < 6 → s.flipsOf m i = 0 → memWords m ≤ i + 1 → s.mems.wrapped.length = 5 → m ∉ s.mems.wrapped →
    Runs (.groomVisit m 0 0 0) s fun z =>
      z.mems.cursors = s.mems.cursors.set m 0 ∧ z.mems.wrapped = [] ∧ z.mems.passAt = s.now ∧
      z.wget WR.MEM_GROOM_PASSES = (s.wget WR.MEM_GROOM_PASSES + 1) % WR.MEM_GROOM_PASSES.size ∧
      OnlyRegs [WR.MEM_GROOM_PROGRESS, WR.MEM_GROOM_PASSES, WR.MEM_STATUS_GROOM_LATE] s z) ∧
  (∀ (m flip : Nat) (s : State), let i := s.mems.cursors.getD m 0
    s.groomRuns = true → m < 5 → s.ws ≠ 6 → s.flipsOf m i = 0 → i + 1 < memWords m → s.mems.wrapped.length < 6 →
    flip < 2 ^ ((memSpec m).1 + (memSpec m).2.2) → memClass m (syndrome m flip) = 1 → s.mems.log.length < 32 →
    Runs (.groomVisit m flip 0 0) s fun z =>
      z.wget (WR.MEM_CNTA_CORR m) = min (s.wget (WR.MEM_CNTA_CORR m) + 1) ((WR.MEM_CNTA_CORR m).size - 1) ∧
      z.wget (WR.MEM_CNTB_TRANSIENT m) = min (s.wget (WR.MEM_CNTB_TRANSIENT m) + 1) ((WR.MEM_CNTB_TRANSIENT m).size - 1) ∧
      z.mems.log = s.mems.log ++ [⟨m, 1, 0, 0, 0, syndrome m flip, i, s.tick⟩] ∧ z.flipsOf m i = 0 ∧
      z.mems.cursors = s.mems.cursors.set m (i + 1)) ∧
  (∀ (m i : Nat) (r : List (Nat × Nat)) (s : State),
    s.groomRuns = true → s.mems.confirm = (m, i) :: r → s.flipsOf m i = 0 →
    Runs (.groomConfirmVisit 0 0 0) s fun z =>
      z.mems.confirm = r ∧ z.mems.log = s.mems.log ∧ z.flipsOf m i = 0 ∧
      z.wget (WR.MEM_CNTB_TRANSIENT m) = min (s.wget (WR.MEM_CNTB_TRANSIENT m) + 1) ((WR.MEM_CNTB_TRANSIENT m).size - 1) ∧
      OnlyRegs [WR.MEM_STATUS_CONFIRM, WR.MEM_LOG_CNT_DEPTH, WR.MEM_CNTB_TRANSIENT m] s z) ∧
  (∀ (m g e v : Nat) (s : State),
    s.farSel = (m, g, e) → m < 5 → g < memGroups m →
    (bit 31 v = false → Runs (.memFarDataWrite v) s fun z =>
      z.farEntry m g e = ⟨false, bits 19 16 v, bits 15 0 v⟩ ∧ z.flipsOf = s.flipsOf) ∧
    (bit 31 v = true → (s.farEntry m g e).valid = false → farKey m g (bits 19 16 v) ∉ s.mems.bad →
      (∀ k < 16, (s.farEntry m g k).valid = true → (s.farEntry m g k).row ≠ bits 15 0 v ∧ (s.farEntry m g k).spare ≠ bits 19 16 v) →
      Runs (.memFarDataWrite v) s fun z => z.farEntry m g e = ⟨true, bits 19 16 v, bits 15 0 v⟩) ∧
    (bit 31 v = true → (s.farEntry m g e).valid = true ∨ farKey m g (bits 19 16 v) ∈ s.mems.bad →
      Runs (.memFarDataWrite v) s fun z =>
        z.mems = s.mems ∧ z.wget WR.MEM_STATUS_FAR_REFUSED = 1 ∧ OnlyRegs [WR.MEM_STATUS_FAR_REFUSED] s z)) ∧
  (∀ (e : MemErr) (r : List MemErr) (s : State),
    (s.mems.log = e :: r →
      Runs .memLogRead s fun z =>
        z.mems.log = r ∧ z.wget WR.MEM_LOG_INFO_VALID = 1 ∧ z.wget WR.MEM_LOG_INFO_MEM = e.mem % WR.MEM_LOG_INFO_MEM.size ∧
        z.wget WR.MEM_LOG_INFO_CLASS = e.cls % WR.MEM_LOG_INFO_CLASS.size ∧
        z.wget WR.MEM_LOG_INFO_OUTCOME = e.outcome % WR.MEM_LOG_INFO_OUTCOME.size ∧
        z.wget WR.MEM_LOG_ADDR_INDEX = e.index % WR.MEM_LOG_ADDR_INDEX.size ∧
        z.wget WR.MEM_LOG_TIME_LO_TIME = e.time % 2 ^ 32) ∧
    (s.mems.log = [] → Runs .memLogRead s fun z => z.wget WR.MEM_LOG_INFO_VALID = 0 ∧ z.mems = s.mems)) ∧
  (∀ (en : Bool) (s : State),
    Runs (.groomEnWrite en) s fun z =>
      z.wget WR.MEM_CTRL_GROOM_EN = b2n en ∧ z.mems = s.mems ∧ OnlyRegs [WR.MEM_CTRL_GROOM_EN] s z) ∧
  (∀ (agent a err : Nat) (s : State),
    a ∈ [WR.MEM_CTRL, WR.ADM_PACE_CFG, WR.CMP_CTRL, WR.MUS_CFG] →
    (s.pmpData agent a 4 false = true →
      Runs (.registerRead agent a err) s fun z => z = s.answer agent a (s.regWord a) none) ∧
    (s.pmpData agent (a + 0x08000000) 4 false = true →
      Runs (.registerRead agent (a + 0x08000000) err) s fun z =>
        z = s.answer agent (a + 0x08000000) (s.regWord a) none) ∧
    (∀ v, s.pmpData agent a 4 true = true → Runs (.registerWrite agent a v) s fun z => z = s.wstore a v)) ∧
  (∀ (agent a err v : Nat) (s : State),
    a < 0x40098000 → s.regHere a = false →
    (s.pmpData agent a 4 false = true → Runs (.registerRead agent a err) s fun z => z = s.answer agent a 0 none) ∧
    (s.pmpData agent a 4 true = true → Runs (.registerWrite agent a v) s fun z => z = s)) ∧
  (∀ (n a err v : Nat) (s : State),
    n < 4 →
    (s.pmpData (n + 1) a 4 false = false → Runs (.registerRead (n + 1) a err) s fun z =>
      z = (s.trap n 5 a).answer (n + 1) a 0 (some 5)) ∧
    (s.pmpData (n + 1) a 4 true = false → Runs (.registerWrite (n + 1) a v) s fun z =>
      z = (s.trap n 7 a).emit (.storeFault (n + 1) a 7)) ∧
    Runs (.quietAliasWrite (n + 1) a) s (fun z => z = (s.trap n 7 a).emit (.storeFault (n + 1) a 7) ∧ z.wr = s.wr)) ∧
  (∀ (a : Nat) (s : State),
    Runs (.quietAliasWrite 9 a) s fun z =>
      z.dbg = { s.dbg with sberror := if s.dbg.sberror = 0 then 2 else s.dbg.sberror } ∧
      z.out = s.out ++ [.storeFault 9 a 2] ∧ z.wr = s.wr)

/-- Event flags, posts, timers and the decision trace. Setting a flag of an enabled task sets it and nothing more
while its flag item exists, and creates the flag item at the tail of its level once its flags meet its mask; a
route does the same for its target; a post queues an item or is refused and counted; disabling a task discards
its waiting and reserved items and leaves running ones; a mark by a core enters the trace; MTIP follows mtime
and mtimecmp; MSIP takes its bits and starts a waiting core once firmware runs; at the end of a window WAIT is
published and its sums begin again. -/
def Obligations.SchedulerEventsAndPosts : Prop :=
  (∀ (value t f : Nat) (s : State),
    t = bits 24 15 value → f = bits 29 25 value →
    (s.taskEn t = true → s.hasFlagItem t = true →
      Runs (.schSetflagWrite value) s fun z =>
        z = s.wset (WR.SCH_T_FLAGS_FLAGS t) (s.wget (WR.SCH_T_FLAGS_FLAGS t) ||| 2 ^ f)) ∧
    (s.taskEn t = true → s.hasFlagItem t = false → (s.wget (WR.SCH_T_FLAGS_FLAGS t) ||| 2 ^ f) &&& s.wget (WR.SCH_T_MASK_MASK t) = 0 →
      Runs (.schSetflagWrite value) s fun z =>
        z = s.wset (WR.SCH_T_FLAGS_FLAGS t) (s.wget (WR.SCH_T_FLAGS_FLAGS t) ||| 2 ^ f)) ∧
    (s.taskEn t = true → s.hasFlagItem t = false → s.taskPrio t < s.sch.chip.length →
      (s.sch.chip.getD (s.taskPrio t) []).length < 256 → s.sch.spill.getD (s.taskPrio t) [] = [] →
      (s.wset (WR.SCH_T_FLAGS_FLAGS t) (s.wget (WR.SCH_T_FLAGS_FLAGS t) ||| 2 ^ f)).flagsMeet t = true →
      Runs (.schSetflagWrite value) s fun z =>
        z.sch.chip.getD (s.taskPrio t) [] = s.sch.chip.getD (s.taskPrio t) [] ++
          [⟨t, true, false, s.taskFlow t, s.taskPrio t, s.taskSys t, 0, s.taskPrio t, s.mtime, s.mtime, 0, 0, [], f⟩] ∧
        (∀ k, k ≠ s.taskPrio t → z.sch.chip.getD k [] = s.sch.chip.getD k []) ∧ z.sch.spill = s.sch.spill ∧
        z.sch.cores = s.sch.cores) ∧
    (s.taskEn t = false → Runs (.schSetflagWrite value) s fun z => z = s)) ∧
  (∀ (e t : Nat) (s : State),
    t = s.wget (WR.SCH_ROUTE_TASK e) →
    (e < 32 → s.won (WR.SCH_ROUTE_EN e) = true → s.taskEn t = true → s.hasFlagItem t = true →
      Runs (.unitEventRoute e) s fun z =>
        z = s.wset (WR.SCH_T_FLAGS_FLAGS t) (s.wget (WR.SCH_T_FLAGS_FLAGS t) ||| 2 ^ s.wget (WR.SCH_ROUTE_FLAG e))) ∧
    (s.won (WR.SCH_ROUTE_EN e) = false ∨ s.taskEn t = false ∨ 32 ≤ e → Runs (.unitEventRoute e) s fun z => z = s)) ∧
  (∀ (value t sel : Nat) (s : State),
    t = bits 24 15 value → sel = bits 13 12 value →
    (s.taskEn t = true → 1024 < s.freePlaces → s.taskPrio t < s.sch.chip.length →
      (s.sch.chip.getD (s.taskPrio t) []).length < 256 → s.sch.spill.getD (s.taskPrio t) [] = [] →
      Runs (.schPost value) s fun z =>
        z.sch.chip.getD (s.taskPrio t) [] = s.sch.chip.getD (s.taskPrio t) [] ++
          [⟨t, false, false, (if sel = 0 then s.taskFlow t else if sel = 2 then some (bits 11 0 value) else none), s.taskPrio t,
            s.taskSys t, s.wget WR.SCH_POST_LO_ARG, s.taskPrio t, s.mtime, s.mtime, 0, 0, [], 32⟩] ∧
        (∀ k, k ≠ s.taskPrio t → z.sch.chip.getD k [] = s.sch.chip.getD k []) ∧ z.sch.spill = s.sch.spill ∧
        z.sch.cores = s.sch.cores) ∧
    (s.taskEn t = false ∨ s.freePlaces ≤ 1024 →
      Runs (.schPost value) s fun z =>
        z.wget WR.SCH_STATUS_POST_REFUSED = 1 ∧
        z.wget WR.SCH_CNT_POSTS_REFUSED = min (s.wget WR.SCH_CNT_POSTS_REFUSED + 1) (WR.SCH_CNT_POSTS_REFUSED.size - 1) ∧
        z.sch = s.sch ∧ OnlyRegs [WR.SCH_STATUS_POST_REFUSED, WR.SCH_CNT_POSTS_REFUSED] s z)) ∧
  (∀ (t : Nat) (s : State),
    t ≠ 0 →
    Runs (.schTaskDisable t) s fun z =>
      z.wget (WR.SCH_T_CFG_EN t) = 0 ∧ z.sch.chip = s.sch.chip.map (fun q => q.filter (·.task != t)) ∧
      z.sch.spill = s.sch.spill.map (fun q => q.filter (·.task != t)) ∧
      (∀ c ∈ z.sch.cores, ∀ i, c.res = some i → i.task ≠ t) ∧
      z.sch.cores.map (·.run) = s.sch.cores.map (·.run)) ∧
  (∀ (agent value p : Nat) (s : State),
    p = s.wget WR.SCH_TRACE_CTRL_WPTR → s.won WR.SCH_TRACE_CTRL_EN = true → s.won WR.SCH_TRACE_CTRL_FREEZE = false →
    s.ws ≠ 0 → s.ws ≠ 1 →
    (1 ≤ agent → agent ≤ 4 → Runs (.schTraceMarkWrite agent value) s fun z =>
      (∃ w, z.sch = { s.sch with trace := SMap.insert p (w,
        pack [(63, 60, 12), (59, 57, agent), (56, 47, 0), (46, 43, 0), (42, 42, 0), (41, 30, 0),
          (29, 0, min (bits 29 0 value) (2 ^ 30 - 1))]) s.sch.trace }) ∧
      z.wget WR.SCH_TRACE_CTRL_WPTR = (p + 1) % WR.SCH_TRACE_CTRL_WPTR.size ∧
      (p = 16383 → z.wget WR.SCH_TRACE_CTRL_WRAPPED = 1) ∧
      OnlyRegs [WR.SCH_TRACE_CTRL_WPTR, WR.SCH_TRACE_CTRL_WRAPPED] s z) ∧
    (agent = 0 ∨ 4 < agent → Runs (.schTraceMarkWrite agent value) s fun z => z = s)) ∧
  (∀ (n v : Nat) (hi : Bool) (s : State),
    n < s.cores.length →
    Runs (.mtimeTimerInterrupt n) s (fun z =>
      (z.core n).mtip = decide (s.mtimecmp n ≤ s.mtime) ∧ (∀ k, k ≠ n → z.core k = s.core k) ∧ OnlyRegs [] s z) ∧
    Runs (.mtimecmpWrite n hi v) s (fun z =>
      z.mtimecmp n = (if hi then s.wget (WR.SCH_C_MTIMECMP_LO_CMP n) + 2 ^ 32 * (v % 2 ^ 32)
        else v % 2 ^ 32 + 2 ^ 32 * s.wget (WR.SCH_C_MTIMECMP_HI_CMP n)) ∧
      (z.core n).mtip = decide (z.mtimecmp n ≤ s.mtime) ∧
      OnlyRegs [WR.SCH_C_MTIMECMP_LO_CMP n, WR.SCH_C_MTIMECMP_HI_CMP n] s z)) ∧
  (∀ (v : Nat) (s : State),
    (s.sys.fw = false → Runs (.schMsipWrite v) s fun z => z = s.wset WR.SCH_MSIP_MSIP (bits 4 1 v)) ∧
    (s.sys.fw = true → Runs (.schMsipWrite v) s fun z =>
      z.wget WR.SCH_MSIP_MSIP = bits 4 1 v ∧ OnlyRegs [WR.SCH_MSIP_MSIP] s z ∧
      ∀ n < 3, n + 1 < s.cores.length → bit (n + 1) (bits 4 1 v) = true → (s.core (n + 1)).pc = 0 → (s.core (n + 1)).halted = false →
        (z.core (n + 1)).pc = 0x10000000)) ∧
  (∀ (n : Nat) (s : State),
    n < 4 → s.sch.cores.length = 4 →
    (s.mtime % 25000 = 0 → Runs (.schWindowPublish false) s fun z =>
      z.wget (WR.SCH_C_WAIT_WAIT_1MS n) = (if (s.schCore n).claimsMs = 0 then 0
        else min 65535 ((s.schCore n).waitMs * 2 / (5 * (s.schCore n).claimsMs))) ∧
      (z.schCore n).waitMs = 0 ∧ (z.schCore n).claimsMs = 0 ∧ (z.schCore n).busyMs = 0) ∧
    (s.mtime % 25000000 = 0 → Runs (.schWindowPublish true) s fun z =>
      z.wget (WR.SCH_C_WAIT_WAIT_1S n) = (if (s.schCore n).claimsS = 0 then 0
        else min 65535 ((s.schCore n).waitS * 2 / (5 * (s.schCore n).claimsS))) ∧
      (z.schCore n).waitS = 0 ∧ (z.schCore n).claimsS = 0 ∧ (z.schCore n).busyS = 0))

/-- Reservation, claim, END, non-pre-emptible spans, spill and aging. A lone ready item is reserved for the one
core that is up, free or running something of lower priority; a claim makes the reserved item run and shows it
in NEXT and ARG, a flag item taking its flags; END ends the running item; NOPREEMPT returns a pre-empting
reservation, starts a span and publishes its length at its end; a span over its bound sets the flags; EN = 0
of a core returns its reservation; a spilled item moves on chip or is counted lost; the earliest item due for
an aging step rises one level. -/
def Obligations.SchedulerDispatch : Prop :=
  (∀ (n l : Nat) (i : Item) (s : State),
    n < s.sch.cores.length → n < 4 → l < 16 → s.sch.chip.length = 16 → i.level = l →
    (∀ k < 16, s.sch.chip.getD k [] = if k = l then [i] else []) → (∀ k < 4, k ≠ n → s.coreUp k = false) →
    s.coreUp n = true → (s.schCore n).res = none → s.eligible n i = true →
    ((s.schCore n).run = none → Runs .schReserve s fun z =>
      (z.schCore n).res = some i ∧ (z.schCore n).preempt = false ∧ (∀ k, z.sch.chip.getD k [] = []) ∧ OnlyRegs [] s z) ∧
    (∀ r, (s.schCore n).run = some r → s.won (WR.SCH_C_CTRL_NOPREEMPT n) = false → r.prio < l →
      Runs .schReserve s fun z =>
      (z.schCore n).res = some i ∧ (z.schCore n).preempt = true ∧ (z.schCore n).run = some r ∧
      (∀ k, z.sch.chip.getD k [] = []) ∧ OnlyRegs [] s z)) ∧
  (∀ (s : State),
    (∀ k < 16, s.sch.chip.getD k [] = []) → Runs .schReserve s fun z => z = s) ∧
  (∀ (n : Nat) (s : State),
    n < 4 → n < s.sch.cores.length →
    ((s.schCore n).res = none → Runs (.schNextRead n) s fun z => z = s.wset (WR.SCH_C_NEXT_VALID n) 0) ∧
    (∀ i, (s.schCore n).res = some i → (s.schCore n).run = none → i.isFlag = false →
      Runs (.schNextRead n) s fun z =>
        (z.schCore n).run = some { i with start := s.mtime } ∧ (z.schCore n).res = none ∧ z.sch.standDone = false ∧
        z.wget (WR.SCH_C_NEXT_VALID n) = 1 ∧ z.wget (WR.SCH_C_NEXT_TASK n) = i.task % 1024 ∧
        z.wget (WR.SCH_C_NEXT_RESUME n) = b2n i.resume ∧ z.wget (WR.SCH_C_ARG_ARG n) = i.arg % 2 ^ 32) ∧
    (∀ i f m, (s.schCore n).res = some i → (s.schCore n).run = none → i.isFlag = true → i.resume = false →
      f = s.wget (WR.SCH_T_FLAGS_FLAGS i.task) → m = s.wget (WR.SCH_T_MASK_MASK i.task) →
      Runs (.schNextRead n) s fun z =>
        (z.schCore n).run.map (·.arg) = some (f &&& m) ∧ (z.schCore n).res = none ∧
        z.wget (WR.SCH_T_FLAGS_FLAGS i.task) = (f &&& (2 ^ 32 - 1 - m)) % 2 ^ 32 ∧
        z.wget (WR.SCH_C_NEXT_VALID n) = 1 ∧ z.wget (WR.SCH_C_ARG_ARG n) = (f &&& m) % 2 ^ 32)) ∧
  (∀ (n : Nat) (s : State),
    n < s.sch.cores.length →
    ((s.schCore n).run = none → Runs (.schEndWrite n) s fun z => z = s) ∧
    (∀ i, (s.schCore n).run = some i → Runs (.schEndWrite n) s fun z =>
      (z.schCore n).run = none ∧ (z.schCore n).np = none ∧ (z.schCore n).preempt = false ∧
      (z.schCore n).res = (s.schCore n).res)) ∧
  (∀ (n : Nat) (s : State),
    n < s.sch.cores.length →
    Runs (.schNopreemptWrite n true) s (fun z =>
      z.wget (WR.SCH_C_CTRL_NOPREEMPT n) = 1 ∧ OnlyRegs [WR.SCH_C_CTRL_NOPREEMPT n] s z ∧
      (z.schCore n).res = (if (s.schCore n).preempt then none else (s.schCore n).res) ∧
      ((s.schCore n).run.isSome = true → (s.schCore n).np = none → (z.schCore n).np = some s.mtime)) ∧
    (∀ t, (s.schCore n).np = some t → Runs (.schNopreemptWrite n false) s fun z =>
      z.wget (WR.SCH_C_CTRL_NOPREEMPT n) = 0 ∧ (z.schCore n).np = none ∧
      z.wget (WR.SCH_C_NP_NP_MAX n) = max (s.wget (WR.SCH_C_NP_NP_MAX n)) (min ((s.mtime - t) / 25) ((WR.SCH_C_NP_NP_MAX n).size - 1)) % (WR.SCH_C_NP_NP_MAX n).size ∧
      OnlyRegs [WR.SCH_C_CTRL_NOPREEMPT n, WR.SCH_C_NP_NP_MAX n] s z)) ∧
  (∀ (n t : Nat) (s : State),
    (s.schCore n).np = some t → t + s.wget (WR.SCH_C_CTRL_BC n) * 25 < s.mtime →
    Runs (.npSpanOver n) s fun z =>
      z.wget (WR.SCH_C_STATE_NP_OVER n) = 1 ∧ z.wget WR.SCH_STATUS_NP_OVER = 1 ∧ z.sch = s.sch ∧
      OnlyRegs [WR.SCH_C_STATE_NP_OVER n, WR.SCH_STATUS_NP_OVER] s z) ∧
  (∀ (n v : Nat) (s : State),
    n < s.sch.cores.length →
    Runs (.schCoreCtrlWrite n v) s fun z =>
      z.wget (WR.SCH_C_CTRL_EN n) = bits 0 0 v ∧ z.wget (WR.SCH_C_CTRL_NOPREEMPT n) = b2n (bit 1 v) ∧
      (s.isOpen = true → z.wget (WR.SCH_C_CTRL_BC n) = bits 31 16 v) ∧
      (s.isOpen = false → z.wget (WR.SCH_C_CTRL_BC n) = s.wget (WR.SCH_C_CTRL_BC n)) ∧
      (bit 0 v = false → (z.schCore n).res = none)) ∧
  (∀ (l : Nat) (i : Item) (r : List Item) (s : State),
    s.sch.spill.getD l [] = i :: r → l < s.sch.spill.length → l < s.sch.chip.length → (s.sch.chip.getD l []).length < 256 →
    Runs (.spillRefill l false) s (fun z =>
      z.sch.spill.getD l [] = r ∧ z.sch.chip.getD l [] = s.sch.chip.getD l [] ++ [i] ∧ z.sch.cores = s.sch.cores ∧ OnlyRegs [] s z) ∧
    Runs (.spillRefill l true) s (fun z =>
      z.wget WR.SCH_STATUS_LOST = 1 ∧ z.wget WR.SCH_CNT_LOST = min (s.wget WR.SCH_CNT_LOST + 1) (WR.SCH_CNT_LOST.size - 1) ∧
      z.sch.cores = s.sch.cores)) ∧
  (∀ (l : Nat) (i : Item) (s : State), let age := s.wget WR.SCH_CTRL_AGE_MS * 25000
    l + 1 < s.sch.chip.length → (s.sch.chip.getD (l + 1) []).length < 256 → s.sch.spill.getD (l + 1) [] = [] →
    (age = 0 → Runs (.itemAgeStep l) s fun z => z = s) ∧
    (∀ r, s.sch.chip.getD l [] = i :: r → age ≠ 0 → i.entered + age ≤ s.mtime → l < max i.prio (s.taskCeil i.task) →
      Runs (.itemAgeStep l) s fun z =>
        z.sch.chip.getD l [] = r ∧ z.sch.chip.getD (l + 1) [] = s.sch.chip.getD (l + 1) [] ++ [{ i with level := l + 1, entered := s.mtime }] ∧
        z.sch.cores = s.sch.cores ∧ OnlyRegs [WR.SCH_TRACE_CTRL_WPTR, WR.SCH_TRACE_CTRL_WRAPPED] s z))

/-- Periodic slots, deadlines and STANDSTILL. A slot enabled in HELD or ADMITTED takes its task and its first
release at the next whole microsecond, a slot disabled loses its releases, and elsewhere its configuration
stays; a due release counts, moves to the next period and sets flag 31, and is a miss where the flag still
stood; an item that passes the deadline of a release it consumed is counted once; STANDSTILL is raised once
when its conditions have held long enough and queues the recovery item of task 0. -/
def Obligations.PeriodicSlotsAndStandstill : Prop :=
  (∀ (k v : Nat) (s : State),
    (s.isOpen = true → bit 31 v = true → s.won (WR.SCH_PER_CFG_EN k) = false →
      Runs (.periodicSlotEnable k v) s fun z =>
        z.wget (WR.SCH_PER_CFG_EN k) = 1 ∧ z.wget (WR.SCH_PER_CFG_TASK k) = bits 25 16 v ∧
        SMap.find k z.sch.perNext = some (s.mtime / 25 + 1) ∧
        OnlyRegs [WR.SCH_PER_CFG_EN k, WR.SCH_PER_CFG_TASK k, WR.SCH_PER_CFG_MISS k] s z) ∧
    (s.isOpen = true → bit 31 v = false →
      Runs (.periodicSlotEnable k v) s fun z =>
        z.wget (WR.SCH_PER_CFG_EN k) = 0 ∧ SMap.find k z.sch.perNext = none ∧ SMap.find k z.sch.perRel = none ∧
        OnlyRegs [WR.SCH_PER_CFG_EN k, WR.SCH_PER_CFG_TASK k, WR.SCH_PER_CFG_MISS k] s z) ∧
    (s.isOpen = false → Runs (.periodicSlotEnable k v) s fun z =>
      z.sch = s.sch ∧ (bit 30 v = true → z.wget (WR.SCH_PER_CFG_MISS k) = 0) ∧ OnlyRegs [WR.SCH_PER_CFG_MISS k] s z)) ∧
  (∀ (k r t : Nat) (s : State),
    SMap.find k s.sch.perNext = some r → r * 25 ≤ s.mtime → t = s.wget (WR.SCH_PER_CFG_TASK k) → s.taskEn t = true →
    s.hasFlagItem t = true → k < 64 → t < 1024 →
    (bit 31 (s.wget (WR.SCH_T_FLAGS_FLAGS t)) = false → Runs (.periodicRelease k) s fun z =>
      z.wget (WR.SCH_PER_CNT_RELEASES k) = min (s.wget (WR.SCH_PER_CNT_RELEASES k) + 1) ((WR.SCH_PER_CNT_RELEASES k).size - 1) ∧
      SMap.find k z.sch.perNext = some (r + max 1 (s.wget (WR.SCH_PER_T_T k))) ∧
      (SMap.find k s.sch.perRel = none → SMap.find k z.sch.perRel = some r) ∧
      z.wget (WR.SCH_T_FLAGS_FLAGS t) = (s.wget (WR.SCH_T_FLAGS_FLAGS t) ||| 2 ^ 31) % 2 ^ 32 ∧
      OnlyRegs [WR.SCH_PER_CNT_RELEASES k, WR.SCH_T_FLAGS_FLAGS t] s z) ∧
    (bit 31 (s.wget (WR.SCH_T_FLAGS_FLAGS t)) = true → Runs (.periodicRelease k) s fun z =>
      z.wget (WR.SCH_PER_CNT_MISSES k) = min (s.wget (WR.SCH_PER_CNT_MISSES k) + 1) ((WR.SCH_PER_CNT_MISSES k).size - 1) ∧
      z.wget (WR.SCH_PER_CFG_MISS k) = 1 ∧ z.wget WR.SCH_STATUS_MISS = 1 ∧
      SMap.find k z.sch.perNext = some (r + max 1 (s.wget (WR.SCH_PER_T_T k))))) ∧
  (∀ (k : Nat) (s : State),
    SMap.find k s.sch.perNext = none ∨ (∃ r, SMap.find k s.sch.perNext = some r ∧ s.mtime < r * 25) →
    Runs (.periodicRelease k) s fun z => z = s) ∧
  (∀ (k : Nat) (i : Item) (s : State), let d := max 1 (s.wget (WR.SCH_PER_D_D k))
    (∀ p, i ∈ s.items → p ∈ i.rels → p.1 = k → (p.2 + d) * 25 < s.mtime →
      Runs (.deadlineMiss k) s fun z =>
        z.wget (WR.SCH_PER_CNT_MISSES k) = min (s.wget (WR.SCH_PER_CNT_MISSES k) + 1) ((WR.SCH_PER_CNT_MISSES k).size - 1) ∧
        z.wget (WR.SCH_PER_CFG_MISS k) = 1 ∧ z.wget WR.SCH_STATUS_MISS = 1 ∧
        OnlyRegs [WR.SCH_PER_CNT_MISSES k, WR.SCH_PER_CFG_MISS k, WR.SCH_STATUS_MISS, WR.SCH_TRACE_CTRL_WPTR, WR.SCH_TRACE_CTRL_WRAPPED] s z) ∧
    ((∀ j ∈ s.items, ∀ p ∈ j.rels, p.1 = k → s.mtime ≤ (p.2 + d) * 25) → Runs (.deadlineMiss k) s fun z => z = s)) ∧
  (∀ (s : State), let due := s.sch.standBreak + max 1 (s.wget WR.SCH_CTRL_STAND_US) * 25
    (s.standing = true → s.sch.standDone = false → due ≤ s.mtime → 15 < s.sch.chip.length →
      (s.sch.chip.getD 15 []).length < 256 → s.sch.spill.getD 15 [] = [] →
      Runs .standstill s fun z =>
        z.wget WR.SCH_STATUS_STANDSTILL = 1 ∧
        z.wget WR.SCH_CNT_STANDSTILLS = min (s.wget WR.SCH_CNT_STANDSTILLS + 1) (WR.SCH_CNT_STANDSTILLS.size - 1) ∧
        z.sch.standDone = true ∧
        z.sch.chip.getD 15 [] = s.sch.chip.getD 15 [] ++ [⟨0, false, false, none, 15, true, 1, 15, s.mtime, s.mtime, 0, 0, [], 32⟩]) ∧
    (s.standing = false ∨ s.sch.standDone = true ∨ s.mtime < due → Runs .standstill s fun z => z = s))

/-- Mailboxes and locks. A data write is taken while the mailbox is empty and refused while it is full; SEND fills
it with its sender and the MIXED flag, except where the pair agent takes it at once, and is refused while it
is full; ACK empties it; reading a free lock takes it, with its lease, and reading a held one tells its owner;
the owner frees it by writing 0, any other write is a stale release; a lease that has run out frees it and
counts; the debug agent alone breaks a lock. Only the named registers change. -/
def Obligations.MailboxesAndLocks : Prop :=
  (∀ (agent m j v : Nat) (s : State),
    m < 16 → j < 8 →
    (s.mbxFull m = false → Runs (.mbxDataWrite agent m j v) s fun z =>
      z.wget (WR.MBX_DATA_DATA m j) = v % 2 ^ 32 ∧ agent ∈ SMap.getD [] m z.mbx.writers ∧
      OnlyRegs [WR.MBX_DATA_DATA m j] s z) ∧
    (s.mbxFull m = true → Runs (.mbxDataWrite agent m j v) s fun z =>
      z.wget (WR.MBX_STATUS_WR_REFUSED m) = 1 ∧ z.mbx = s.mbx ∧ OnlyRegs [WR.MBX_STATUS_WR_REFUSED m] s z)) ∧
  (∀ (agent m : Nat) (s : State),
    m < 16 →
    (s.mbxFull m = false → (s.pairOn && s.won WR.PAIR_CFG_FW_EN && s.wget WR.PAIR_CFG_MBX_OUT == m) = false →
      Runs (.mbxSend agent m) s fun z =>
        z.wget (WR.MBX_STATUS_FULL m) = 1 ∧ z.wget (WR.MBX_STATUS_SENDER m) = agent % (WR.MBX_STATUS_SENDER m).size ∧
        z.wget (WR.MBX_STATUS_MIXED m) = b2n ((SMap.getD [] m s.mbx.writers).any fun x => x != agent) ∧
        z.wget (WR.MBX_STATUS_SENDS m) = min (s.wget (WR.MBX_STATUS_SENDS m) + 1) ((WR.MBX_STATUS_SENDS m).size - 1) ∧
        z.mbx = s.mbx ∧
        OnlyRegs [WR.MBX_STATUS_FULL m, WR.MBX_STATUS_SENDER m, WR.MBX_STATUS_MIXED m, WR.MBX_STATUS_SENDS m] s z) ∧
    (s.mbxFull m = false → (s.pairOn && s.won WR.PAIR_CFG_FW_EN && s.wget WR.PAIR_CFG_MBX_OUT == m) = true →
      Runs (.mbxSend agent m) s fun z => z.mbxFull m = false ∧ SMap.find m z.mbx.writers = none ∧
        (s.ws ≠ 6 → ∃ h ws, z.out = s.out ++ [.pl (h :: ws)] ∧ ws.length = 4)) ∧
    (s.mbxFull m = true → Runs (.mbxSend agent m) s fun z =>
      z.wget (WR.MBX_STATUS_SEND_REFUSED m) = 1 ∧ z.mbx = s.mbx ∧ OnlyRegs [WR.MBX_STATUS_SEND_REFUSED m] s z)) ∧
  (∀ (m : Nat) (s : State),
    (s.mbxFull m = true → Runs (.mbxAck m) s fun z =>
      z.mbxFull m = false ∧ z.wget (WR.MBX_STATUS_MIXED m) = 0 ∧ SMap.find m z.mbx.writers = none ∧
      OnlyRegs [WR.MBX_STATUS_FULL m, WR.MBX_STATUS_MIXED m] s z) ∧
    (s.mbxFull m = false → Runs (.mbxAck m) s fun z => z = s)) ∧
  (∀ (agent m l : Nat) (s : State),
    m < 16 → l = s.wget (WR.MBX_LKCFG_LEASE m) →
    (SMap.find m s.mbx.leases = none ∨ ∃ t, SMap.find m s.mbx.leases = some t ∧ s.mtime < t) →
    (s.lockOwner m = 0 → Runs (.mbxLockRead agent m) s fun z =>
      z.lockOwner m = agent % 16 ∧ z.out = s.out ++ [.load agent (WR.MBX_LOCK m) 0 none] ∧
      SMap.find m z.mbx.leases = (if l = 0 then none else some (s.leaseEnd l)) ∧
      OnlyRegs [WR.MBX_STATUS_OWNER m, WR.MBX_LOCK_LOCK m] s z) ∧
    (s.lockOwner m ≠ 0 → Runs (.mbxLockRead agent m) s fun z =>
      z = s.emit (.load agent (WR.MBX_LOCK m) (s.lockOwner m) none))) ∧
  (∀ (agent m v : Nat) (s : State),
    m < 16 → (SMap.find m s.mbx.leases = none ∨ ∃ t, SMap.find m s.mbx.leases = some t ∧ s.mtime < t) →
    (v = 0 → s.lockOwner m = agent → Runs (.mbxLockWrite agent m v) s fun z =>
      z.lockOwner m = 0 ∧ SMap.find m z.mbx.leases = none ∧ z.wget (WR.MBX_STATUS_BROKEN m) = 0 ∧
      z.wget (WR.MBX_STATUS_LAPSED m) = 0 ∧
      OnlyRegs [WR.MBX_STATUS_OWNER m, WR.MBX_LOCK_LOCK m, WR.MBX_STATUS_BROKEN m, WR.MBX_STATUS_LAPSED m] s z) ∧
    (v ≠ 0 ∨ s.lockOwner m ≠ agent → Runs (.mbxLockWrite agent m v) s fun z =>
      z = s.wset (WR.MBX_STATUS_STALE_RELEASE m) 1)) ∧
  (∀ (m t : Nat) (s : State),
    m < 16 → SMap.find m s.mbx.leases = some t →
    (s.lockOwner m ≠ 0 → t ≤ s.mtime → Runs (.lockLeaseLapse m) s fun z =>
      z.lockOwner m = 0 ∧ SMap.find m z.mbx.leases = none ∧ z.wget (WR.MBX_STATUS_LAPSED m) = 1 ∧
      z.wget (WR.MBX_STATUS_LAPSES m) = min (s.wget (WR.MBX_STATUS_LAPSES m) + 1) ((WR.MBX_STATUS_LAPSES m).size - 1) ∧
      OnlyRegs [WR.MBX_STATUS_OWNER m, WR.MBX_LOCK_LOCK m, WR.MBX_STATUS_LAPSED m, WR.MBX_STATUS_LAPSES m] s z) ∧
    (s.lockOwner m = 0 ∨ s.mtime < t → Runs (.lockLeaseLapse m) s fun z => z = s)) ∧
  (∀ (agent m : Nat) (s : State),
    m < 16 → (SMap.find m s.mbx.leases = none ∨ ∃ t, SMap.find m s.mbx.leases = some t ∧ s.mtime < t) →
    (agent = 9 → s.lockOwner m ≠ 0 → Runs (.mbxLockForce agent m) s fun z =>
      z.lockOwner m = 0 ∧ z.wget (WR.MBX_STATUS_BROKEN m) = 1 ∧
      OnlyRegs [WR.MBX_STATUS_OWNER m, WR.MBX_LOCK_LOCK m, WR.MBX_STATUS_BROKEN m] s z) ∧
    (agent ≠ 9 ∨ s.lockOwner m = 0 → Runs (.mbxLockForce agent m) s fun z => z = s))

/-- The console UART and the release of the Loft. Releasing the Loft clears VALID and KEEP; a start edge opens a
character unless its sample was noise; at the stop midpoint the character enters the FIFO with its parity,
framing and break flags and the errors are counted, or is lost with OVERRUN where 64 wait; a written character
starts at once on an idle transmitter, waits behind another, or is dropped where 64 wait; reading UART_RX
shows the head and removes it; the end of a character frees the transmitter or starts the next. -/
def Obligations.ConsoleUartAndLoft : Prop :=
  (∀ (s : State),
    Runs .loftRelease s fun z =>
      z.wget WR.DBG_LOFT_VALID = 0 ∧ z.wget WR.DBG_LOFT_KEEP = 0 ∧ OnlyRegs [WR.DBG_LOFT_VALID, WR.DBG_LOFT_KEEP] s z) ∧
  (∀ (sample : Bool) (s : State),
    (s.pinsHeld = false → s.won WR.UART_CTRL_RX_EN = true → s.mbx.uartIn = false →
      (sample = false → Runs (.uartStartEdge sample) s fun z => z.mbx = { s.mbx with uartIn := true } ∧ OnlyRegs [] s z) ∧
      (sample = true → Runs (.uartStartEdge sample) s fun z => z = s.wset WR.UART_STATUS_NOISE 1)) ∧
    (s.pinsHeld = true ∨ s.won WR.UART_CTRL_RX_EN = false ∨ s.mbx.uartIn = true →
      Runs (.uartStartEdge sample) s fun z => z = s)) ∧
  (∀ (data : Nat) (par stop pe brk : Bool) (s : State),
    s.pinsHeld = false → s.won WR.UART_CTRL_RX_EN = true → s.mbx.uartIn = true →
    pe = (s.won WR.UART_CTRL_PAR_EN && par != s.uartParity data) →
    brk = (!stop && data % 256 == 0 && !(s.won WR.UART_CTRL_PAR_EN && par)) →
    Runs (.uartCharRx data par stop) s fun z =>
      z.mbx.uartIn = false ∧
      z.wget WR.UART_CNT_FE = (if stop then s.wget WR.UART_CNT_FE else min (s.wget WR.UART_CNT_FE + 1) (WR.UART_CNT_FE.size - 1)) ∧
      z.wget WR.UART_CNT_PE = (if pe then min (s.wget WR.UART_CNT_PE + 1) (WR.UART_CNT_PE.size - 1) else s.wget WR.UART_CNT_PE) ∧
      (brk = true → z.wget WR.UART_STATUS_BREAK = 1) ∧
      (s.mbx.uartRx.length < 64 →
        z.mbx.uartRx = s.mbx.uartRx ++ [data % 256 + 256 * b2n pe + 512 * b2n (!stop) + 1024 * b2n brk]) ∧
      (64 ≤ s.mbx.uartRx.length →
        z.mbx.uartRx = s.mbx.uartRx ∧ z.wget WR.UART_STATUS_OVERRUN = 1 ∧
        z.wget WR.UART_CNT_RX_LOST = min (s.wget WR.UART_CNT_RX_LOST + 1) (WR.UART_CNT_RX_LOST.size - 1))) ∧
  (∀ (data : Nat) (s : State),
    (64 ≤ s.mbx.uartTx.length → Runs (.uartTxWrite data) s fun z => z = s.wadd WR.UART_CNT_TX_DROP 1) ∧
    (∀ t, s.mbx.uartTx.length < 64 → s.mbx.uartEnd = some t → Runs (.uartTxWrite data) s fun z =>
      z.mbx = { s.mbx with uartTx := s.mbx.uartTx ++ [data % 256] } ∧ z.out = s.out) ∧
    (s.mbx.uartTx = [] → s.mbx.uartEnd = none → s.won WR.UART_CTRL_TX_EN = true → s.pinsHeld = false →
      Runs (.uartTxWrite data) s fun z =>
        z.mbx = { s.mbx with uartEnd := some (s.now + ((s.uartLevels (data % 256)).length * s.uartDiv * 16 + 4) / 5) } ∧
        z.out = s.out ++ [.uart (s.uartLevels (data % 256))])) ∧
  (∀ (c : Nat) (r : List Nat) (s : State),
    (s.mbx.uartRx = c :: r → Runs .uartRxRead s fun z =>
      z.mbx = { s.mbx with uartRx := r } ∧ z.wget WR.UART_RX_VALID = 1 ∧ z.wget WR.UART_RX_DATA = c % 256 ∧
      z.wget WR.UART_RX_PE = bits 8 8 c ∧ z.wget WR.UART_RX_FE = bits 9 9 c ∧ z.wget WR.UART_RX_BREAK = bits 10 10 c) ∧
    (s.mbx.uartRx = [] → Runs .uartRxRead s fun z => z.mbx = s.mbx ∧ z.wget WR.UART_RX_VALID = 0)) ∧
  (∀ (t : Nat) (s : State),
    (s.mbx.uartEnd = some t → t ≤ s.now → s.mbx.uartTx = [] → Runs .uartCharTxDone s fun z =>
      z.mbx = { s.mbx with uartEnd := none } ∧ z.wget WR.UART_STATUS_TX_IDLE = 1 ∧ z.out = s.out) ∧
    (∀ c r, s.mbx.uartEnd = some t → t ≤ s.now → s.mbx.uartTx = c :: r → s.won WR.UART_CTRL_TX_EN = true → s.pinsHeld = false →
      Runs .uartCharTxDone s fun z =>
        z.mbx = { s.mbx with uartTx := r, uartEnd := some (s.now + ((s.uartLevels c).length * s.uartDiv * 16 + 4) / 5) } ∧
        z.out = s.out ++ [.uart (s.uartLevels c)]) ∧
    (s.mbx.uartEnd = none ∨ (∃ e, s.mbx.uartEnd = some e ∧ s.now < e) → Runs .uartCharTxDone s fun z => z = s))

/-- The test access ports of Wonan and of the Tladons. Each instruction of a TAP selects its data register and
leaves the other TAPs alone; SAMPLE_PRELOAD and EXTEST capture the pins and load the cells; CLAMP, HIGHZ and
BYPASS keep the cells; EXTEST, CLAMP and HIGHZ of Wonan hold its pins; IDCODE captures the identity with a
silicon version that is open; DTMCS reads 0x71 on Wonan; a DMI access of Wonan reads or writes data0 of the
active debug module and dmactive switches the module; DTMCS and DMI of a Tladon are BYPASS; TAP_RESET selects
IDCODE again. Wonan's TAP sets TAP_ACTIVE, and no other register changes. -/
def Obligations.TestAccessPorts : Prop :=
  (∀ (chip pins cells : Nat) (s : State),
    (Runs (.samplePreload chip pins cells) s fun z =>
      z.tap chip = ⟨2, pins, cells⟩ ∧ (∀ q, q ≠ chip → z.tap q = s.tap q) ∧
      (chip = 0 → z.wget WR.DBG_STATUS_TAP_ACTIVE = 1) ∧ OnlyRegs (if chip = 0 then [WR.DBG_STATUS_TAP_ACTIVE] else []) s z) ∧
    (Runs (.extest chip pins cells) s fun z =>
      z.tap chip = ⟨3, pins, cells⟩ ∧ (∀ q, q ≠ chip → z.tap q = s.tap q) ∧ (chip = 0 → z.pinsHeld = true) ∧
      (chip = 0 → z.wget WR.DBG_STATUS_TAP_ACTIVE = 1) ∧ OnlyRegs (if chip = 0 then [WR.DBG_STATUS_TAP_ACTIVE] else []) s z)) ∧
  (∀ (chip code : Nat) (s : State),
    (Runs (.clamp chip) s fun z =>
      z.tap chip = ⟨4, 0, (s.tap chip).cells⟩ ∧ (∀ q, q ≠ chip → z.tap q = s.tap q) ∧ (chip = 0 → z.pinsHeld = true) ∧
      (chip = 0 → z.wget WR.DBG_STATUS_TAP_ACTIVE = 1) ∧ OnlyRegs (if chip = 0 then [WR.DBG_STATUS_TAP_ACTIVE] else []) s z) ∧
    (Runs (.highz chip) s fun z =>
      z.tap chip = ⟨5, 0, (s.tap chip).cells⟩ ∧ (∀ q, q ≠ chip → z.tap q = s.tap q) ∧ (chip = 0 → z.pinsHeld = true) ∧
      (chip = 0 → z.wget WR.DBG_STATUS_TAP_ACTIVE = 1) ∧ OnlyRegs (if chip = 0 then [WR.DBG_STATUS_TAP_ACTIVE] else []) s z) ∧
    (Runs (.bypass chip code) s fun z =>
      z.tap chip = ⟨code, 0, (s.tap chip).cells⟩ ∧ (∀ q, q ≠ chip → z.tap q = s.tap q) ∧
      (chip = 0 → z.wget WR.DBG_STATUS_TAP_ACTIVE = 1) ∧ OnlyRegs (if chip = 0 then [WR.DBG_STATUS_TAP_ACTIVE] else []) s z)) ∧
  (∀ (chip : Nat) (s : State),
    (Runs (.idcode chip) s fun z =>
      z.tap chip = ⟨1, Config.freeValue s.freeCnt % 16 * 2 ^ 28 + (if chip = 0 then 0x5120 else 0x5110) * 2 ^ 12 + 0x2E6 * 2 + 1, (s.tap chip).cells⟩ ∧
      z.freeCnt = s.freeCnt + 1 ∧ (∀ q, q ≠ chip → z.tap q = s.tap q) ∧
      (chip = 0 → z.wget WR.DBG_STATUS_TAP_ACTIVE = 1) ∧ OnlyRegs (if chip = 0 then [WR.DBG_STATUS_TAP_ACTIVE] else []) s z) ∧
    (Runs (.dtmcs chip) s fun z =>
      z.tap chip = ⟨0x10, if chip = 0 then 0x71 else 0, (s.tap chip).cells⟩ ∧ (∀ q, q ≠ chip → z.tap q = s.tap q) ∧
      (chip = 0 → z.wget WR.DBG_STATUS_TAP_ACTIVE = 1) ∧ OnlyRegs (if chip = 0 then [WR.DBG_STATUS_TAP_ACTIVE] else []) s z)) ∧
  (∀ (chip op addr data : Nat) (s : State), chip ≠ 0 →
    Runs (.dmi chip op addr data) s fun z =>
      z.tap chip = ⟨0x11, 0, (s.tap chip).cells⟩ ∧ (∀ q, q ≠ chip → z.tap q = s.tap q) ∧ z.dbg = s.dbg ∧ OnlyRegs [] s z) ∧
  (∀ (data : Nat) (s : State),
    (Runs (.dmi 0 1 0x04 data) s fun z =>
      z.tap 0 = ⟨0x11, 0x04 * 2 ^ 34 + s.dbg.data0 * 4, (s.tap 0).cells⟩ ∧ z.dbg = s.dbg ∧ z.wget WR.DBG_STATUS_TAP_ACTIVE = 1 ∧
      OnlyRegs [WR.DBG_STATUS_TAP_ACTIVE] s z) ∧
    (s.dbg.active = true → Runs (.dmi 0 2 0x04 data) s fun z =>
      z.dbg = { s.dbg with data0 := data } ∧ OnlyRegs [WR.DBG_STATUS_TAP_ACTIVE] s z) ∧
    (s.dbg.active = false → Runs (.dmi 0 2 0x04 data) s fun z => z.dbg = s.dbg ∧ OnlyRegs [WR.DBG_STATUS_TAP_ACTIVE] s z) ∧
    (bit 0 data = false → Runs (.dmi 0 2 0x10 data) s fun z => z.dbg = Dbg.reset ∧ OnlyRegs [WR.DBG_STATUS_TAP_ACTIVE] s z) ∧
    (bit 0 data = true → s.dbg.active = false → Runs (.dmi 0 2 0x10 data) s fun z =>
      z.dbg = { s.dbg with active := true } ∧ OnlyRegs [WR.DBG_STATUS_TAP_ACTIVE] s z)) ∧
  (∀ (chip : Nat) (s : State),
    Runs (.tapReset chip) s fun z =>
      z.tap chip = Tap.reset ∧ (∀ q, q ≠ chip → z.tap q = s.tap q) ∧ (chip = 0 → z.pinsHeld = false) ∧ OnlyRegs [] s z)

/-- The debug module halts, resumes, reads and writes harts and the system bus. A halt of a hart out of reset
saves its pc and privilege with cause 3 and takes its reservation; a resume restores them; an abstract command
of a halted hart moves a general register or a control and status register to or from data0, of a running hart
it sets cmderr 4; a system bus access of a plain register reads or writes it as agent 9 and advances the
address with autoincrement; a misaligned access, a width over 32 bits and an unmapped address set sberror 3, 4
and 2; a standing sberror stops it; an inactive debug module does nothing. -/
def Obligations.DebugModule : Prop :=
  (∀ (n : Nat) (s : State), let c := s.core n
    n < s.cores.length → s.hartUp = true → c.halted = false →
    Runs (.debugHalt n) s fun z =>
      (z.core n).halted = true ∧ (z.core n).lr = none ∧ (z.core n).csrGet csrDpc = c.pc % 2 ^ 32 ∧
      (z.core n).csrGet csrDcsr = (2 ^ 30 + (c.csrGet csrDcsr &&& 0x9E14) + 3 * 64 + if c.user then 0 else 3) % 2 ^ 32 ∧
      (z.core n).x = c.x ∧ (z.core n).pc = c.pc ∧ (∀ k, k ≠ n → z.core k = s.core k) ∧ OnlyRegs [] s z) ∧
  (∀ (n : Nat) (s : State),
    s.hartUp = false ∨ (s.core n).halted = true → Runs (.debugHalt n) s fun z => z = s) ∧
  (∀ (n : Nat) (s : State), let c := s.core n
    n < s.cores.length → s.dbg.active = true → c.halted = true →
    Runs (.debugResume n) s fun z =>
      (z.core n).halted = false ∧ (z.core n).user = (c.csrGet csrDcsr % 4 == 0) ∧
      (c.csrGet csrDpc ≠ 0 → (z.core n).pc = c.csrGet csrDpc) ∧ (z.core n).x = c.x ∧ (z.core n).csr = c.csr ∧ OnlyRegs [] s z) ∧
  (∀ (n : Nat) (s : State),
    s.dbg.active = false ∨ (s.core n).halted = false → Runs (.debugResume n) s fun z => z = s) ∧
  (∀ (n v data : Nat) (s : State), let c := s.core n
    n < s.cores.length → s.dbg.active = true → s.dbg.cmderr = 0 → bits 31 24 v = 0 → bit 19 v = false → bit 17 v = true → bits 22 20 v = 2 →
    (c.halted = false → Runs (.debugAbstractCommand n v data) s fun z =>
      z = { s with dbg := { s.dbg with hartsel := n, data0 := data, cmderr := 4 } }) ∧
    (∀ r, c.halted = true → bit 16 v = false → v % 65536 = 0x1000 + r → r < 32 →
      Runs (.debugAbstractCommand n v data) s fun z =>
        z = { s with dbg := { s.dbg with hartsel := n, data0 := c.x.getD r 0 } }) ∧
    (∀ r, c.halted = true → bit 16 v = true → v % 65536 = 0x1000 + r → 0 < r → r < 32 →
      Runs (.debugAbstractCommand n v data) s fun z =>
        z.core n = { c with x := c.x.set r data } ∧ (∀ k, k ≠ n → z.core k = s.core k) ∧
        z.dbg = { s.dbg with hartsel := n, data0 := data } ∧ z.wr = s.wr) ∧
    (c.halted = true → bit 16 v = true → v % 65536 = 0x1000 →
      Runs (.debugAbstractCommand n v data) s fun z =>
        z = { s with dbg := { s.dbg with hartsel := n, data0 := data } }) ∧
    (c.halted = true → bit 16 v = false → v % 65536 = 0xF14 →
      Runs (.debugAbstractCommand n v data) s fun z =>
        z = { s with dbg := { s.dbg with hartsel := n, data0 := n + 1 } }) ∧
    (c.halted = true → bit 16 v = true → v % 65536 = 0x340 →
      Runs (.debugAbstractCommand n v data) s fun z =>
        (z.core n).csrGet 0x340 = data % 2 ^ 32 ∧ (z.core n).x = c.x ∧ (∀ k, k ≠ n → z.core k = s.core k) ∧ z.wr = s.wr)) ∧
  (∀ (n v data : Nat) (s : State),
    (s.dbg.active = false → Runs (.debugAbstractCommand n v data) s fun z => z = s) ∧
    (s.dbg.active = true → s.dbg.cmderr = 0 → bits 31 24 v ≠ 0 → Runs (.debugAbstractCommand n v data) s fun z =>
      z = { s with dbg := { s.dbg with hartsel := n, data0 := data, cmderr := 2 } }) ∧
    (s.dbg.active = true → s.dbg.cmderr ≠ 0 → Runs (.debugAbstractCommand n v data) s fun z =>
      z = { s with dbg := { s.dbg with hartsel := n, data0 := data } })) ∧
  (∀ (clear : Bool) (k a data : Nat) (inc : Bool) (err f p q : Nat) (s : State),
    s.dbg.active = true → clear = true ∨ s.dbg.sberror = 0 →
    (a ∈ [WR.MEM_CTRL, WR.ADM_PACE_CFG, WR.CMP_CTRL, WR.MUS_CFG] →
      (Runs (.debugSysbusAccess clear false 2 a data inc err f p q) s fun z =>
        z.dbg = { s.dbg with sbaddr := if inc then a + 4 else a, sberror := 0, sbdata := s.regWord a } ∧
        z.out = s.out ++ [.load 9 a (s.regWord a) none] ∧ z.wr = s.wr ∧ z.mem = s.mem) ∧
      (Runs (.debugSysbusAccess clear true 2 a data inc err f p q) s fun z =>
        z.dbg = { s.dbg with sbaddr := if inc then a + 4 else a, sberror := 0 } ∧
        z.wr = (s.wstore a (data % 2 ^ 32)).wr ∧ z.out = s.out ∧ z.mem = s.mem)) ∧
    (∀ w, k ≤ 2 → a % 2 ^ k ≠ 0 → Runs (.debugSysbusAccess clear w k a data inc err f p q) s fun z =>
      z = { s with dbg := { s.dbg with sbaddr := a, sberror := 3 } }) ∧
    (∀ w, 2 < k → Runs (.debugSysbusAccess clear w k a data inc err f p q) s fun z =>
      z = { s with dbg := { s.dbg with sbaddr := a, sberror := 4 } }) ∧
    (k ≤ 2 → a % 2 ^ k = 0 → regionOf a = .unmapped →
      Runs (.debugSysbusAccess clear false k a data inc err f p q) s fun z =>
        z.dbg.sberror = 2 ∧ z.dbg.sbaddr = a ∧ z.out = s.out ++ [.load 9 a 0 (some 2)] ∧ z.wr = s.wr ∧ z.mem = s.mem)) ∧
  (∀ (clear write : Bool) (k a data : Nat) (inc : Bool) (err f p q : Nat) (s : State),
    (s.dbg.active = true → clear = false → s.dbg.sberror ≠ 0 →
      Runs (.debugSysbusAccess clear write k a data inc err f p q) s fun z =>
        z = { s with dbg := { s.dbg with sbaddr := a } }) ∧
    (s.dbg.active = false → Runs (.debugSysbusAccess clear write k a data inc err f p q) s fun z => z = s))

/-- The power stage: lockouts, rails in order, faults, restart and measurements. A lockout turns the rails off,
names its cause, counts and asks for a power-on reset; its release clears the latch and the faults; VINT and
then each rail come up in order 0.5 ms after the one before, and PG 1.0 ms after the last; a rail fault or an
over-temperature of the running converter names its cause and rail, counts, turns it off and latches it at the
third within one second; it restarts after 20 ms unless latched, locked out or still hot; below 12 V the
counters and the cause clear; PWR_MEASURE shows the measured values and sets the warnings. The release of the
over-voltage lockout leaves the cause of the reset open between 0 and 1. -/
def Obligations.PowerStageFollowsTheSupply : Prop :=
  (∀ s : State,
    ((s.pwr.uvlo || s.pwr.latched) = true → Runs .vinUvloRelease s fun z =>
      z = { s with pwr := { s.pwr with uvlo := false, latched := false, offAt := none, hot := false, faults := [] },
                   sys := { s.sys with rst := some ⟨true, 0, s.now, false⟩ } }) ∧
    ((s.pwr.uvlo || s.pwr.latched) = false → Runs .vinUvloRelease s fun z => z = s)) ∧
  (∀ s : State,
    (s.pwr.uvlo = false → Runs .vinUvloAssert s fun z =>
      z.pwr = { s.pwr with uvlo := true, offAt := none, hot := false, vint := false, rails := 0, pg := false } ∧
      z.sys = { s.sys with rst := some ⟨true, 0, s.now, false⟩ } ∧
      z.wget WR.PWR_LAST_CAUSE = 1 ∧ z.wget WR.PWR_LAST_RAIL = 0 ∧ z.wget WR.PWR_STATUS_PG = 0 ∧
      z.wget WR.PWR_CNT_LOCKOUTS = min (s.wget WR.PWR_CNT_LOCKOUTS + 1) (WR.PWR_CNT_LOCKOUTS.size - 1) ∧
      OnlyRegs [WR.PWR_LAST_CAUSE, WR.PWR_LAST_RAIL, WR.PWR_STATUS_PG, WR.PWR_CNT_LOCKOUTS] s z) ∧
    (s.pwr.uvlo = true → Runs .vinUvloAssert s fun z => z = s)) ∧
  (∀ s : State,
    (s.pwr.ovlo = false → Runs .vinOvloAssert s fun z =>
      z.pwr = { s.pwr with ovlo := true, vint := false, rails := 0, pg := false } ∧
      z.sys = { s.sys with rst := some ⟨true, 0, s.now, false⟩ } ∧
      z.wget WR.PWR_LAST_CAUSE = 2 ∧ z.wget WR.PWR_LAST_RAIL = 0 ∧ z.wget WR.PWR_STATUS_PG = 0 ∧
      z.wget WR.PWR_CNT_LOCKOUTS = min (s.wget WR.PWR_CNT_LOCKOUTS + 1) (WR.PWR_CNT_LOCKOUTS.size - 1) ∧
      OnlyRegs [WR.PWR_LAST_CAUSE, WR.PWR_LAST_RAIL, WR.PWR_STATUS_PG, WR.PWR_CNT_LOCKOUTS] s z) ∧
    (s.pwr.ovlo = true → Runs .vinOvloAssert s fun z => z = s)) ∧
  (∀ s : State,
    (s.pwr.ovlo = true → Runs .vinOvloRelease s fun z =>
      z = { s with freeCnt := s.freeCnt + 1, pwr := { s.pwr with ovlo := false },
                   sys := { s.sys with rst := some ⟨true, Config.freeValue s.freeCnt % 2, s.now, false⟩ } }) ∧
    (s.pwr.ovlo = false → Runs .vinOvloRelease s fun z => z = s)) ∧
  (∀ (rise : Nat) (s : State),
    (s.converterOn = true → s.pwr.vint = false → Runs (.vintRegulation rise) s fun z =>
      z = { s with pwr := { s.pwr with vint := true, rails := 1, goodAt := s.now + min rise (Config.msTicks / 2) } }) ∧
    (s.converterOn = false ∨ s.pwr.vint = true → Runs (.vintRegulation rise) s fun z => z = s)) ∧
  (∀ (rise : Nat) (s : State),
    (s.pwr.vint = true → s.pwr.rails < 4 → s.pwr.goodAt + Config.msTicks / 2 ≤ s.now → Runs (.railStart rise) s fun z =>
      z = { s with pwr := { s.pwr with rails := s.pwr.rails + 1, goodAt := s.now + min rise (Config.msTicks / 2) } }) ∧
    (s.pwr.vint = false ∨ 4 ≤ s.pwr.rails ∨ s.now < s.pwr.goodAt + Config.msTicks / 2 → Runs (.railStart rise) s fun z => z = s)) ∧
  (∀ s : State,
    (s.pwr.vint = true → s.pwr.rails = 4 → s.pwr.pg = false → s.pwr.goodAt + Config.msTicks ≤ s.now → Runs .pgRelease s fun z =>
      z.pwr = { s.pwr with pg := true } ∧ z.wget WR.PWR_STATUS_PG = 1 ∧ OnlyRegs [WR.PWR_STATUS_PG] s z) ∧
    (s.pwr.vint = false ∨ s.pwr.rails ≠ 4 ∨ s.pwr.pg = true ∨ s.now < s.pwr.goodAt + Config.msTicks → Runs .pgRelease s fun z => z = s)) ∧
  (∀ (rail n : Nat) (s : State),
    s.converterOn = true → n = (s.pwr.faults.filter fun t => decide (s.now < t + Config.secTicks)).length →
    (Runs (.railFault rail) s fun z =>
      z.pwr.offAt = some s.now ∧ z.pwr.latched = decide (2 ≤ n) ∧ z.pwr.hot = false ∧ z.pwr.vint = false ∧ z.pwr.rails = 0 ∧ z.pwr.pg = false ∧
      z.pwr.faults = (s.pwr.faults.filter fun t => decide (s.now < t + Config.secTicks)) ++ [s.now] ∧
      z.sys = { s.sys with rst := some ⟨true, 1, s.now, false⟩ } ∧
      z.wget WR.PWR_LAST_CAUSE = (if rail < 4 then 3 else 5) ∧ z.wget WR.PWR_LAST_RAIL = (if rail < 4 then rail else 0) ∧
      z.wget WR.PWR_STATUS_PG = 0 ∧
      z.wget WR.PWR_CNT_RAIL_FAULTS = min (s.wget WR.PWR_CNT_RAIL_FAULTS + 1) (WR.PWR_CNT_RAIL_FAULTS.size - 1) ∧
      OnlyRegs [WR.PWR_LAST_CAUSE, WR.PWR_LAST_RAIL, WR.PWR_STATUS_PG, WR.PWR_CNT_RAIL_FAULTS] s z) ∧
    (Runs .powerStageOvertemp s fun z =>
      z.pwr.offAt = some s.now ∧ z.pwr.latched = decide (2 ≤ n) ∧ z.pwr.hot = true ∧ z.pwr.vint = false ∧ z.pwr.rails = 0 ∧ z.pwr.pg = false ∧
      z.sys = { s.sys with rst := some ⟨true, 1, s.now, false⟩ } ∧
      z.wget WR.PWR_LAST_CAUSE = 4 ∧ z.wget WR.PWR_LAST_RAIL = 0 ∧ z.wget WR.PWR_STATUS_PG = 0 ∧
      z.wget WR.PWR_CNT_THERMAL = min (s.wget WR.PWR_CNT_THERMAL + 1) (WR.PWR_CNT_THERMAL.size - 1) ∧
      OnlyRegs [WR.PWR_LAST_CAUSE, WR.PWR_LAST_RAIL, WR.PWR_STATUS_PG, WR.PWR_CNT_THERMAL] s z)) ∧
  (∀ (rail : Nat) (s : State),
    s.converterOn = false → Runs (.railFault rail) s (fun z => z = s) ∧ Runs .powerStageOvertemp s fun z => z = s) ∧
  (∀ (cool : Bool) (t : Nat) (s : State),
    s.pwr.offAt = some t →
    (t + 20 * Config.msTicks ≤ s.now → s.pwr.hot = false ∨ cool = true → s.pwr.latched = false → s.pwr.uvlo = false → s.pwr.ovlo = false →
      Runs (.powerRestart cool) s fun z =>
        z = { s with pwr := { s.pwr with offAt := none, hot := false }, sys := { s.sys with rst := some ⟨true, 1, s.now, false⟩ } } ∧
        z.converterOn = true) ∧
    (s.now < t + 20 * Config.msTicks ∨ s.pwr.hot = true ∧ cool = false ∨ s.pwr.latched = true ∨ s.pwr.uvlo = true ∨ s.pwr.ovlo = true →
      Runs (.powerRestart cool) s fun z => z = s)) ∧
  (∀ s : State,
    Runs .vinBelow12v s fun z =>
      z.wget WR.PWR_LAST_CAUSE = 0 ∧ z.wget WR.PWR_LAST_RAIL = 0 ∧ z.wget WR.PWR_CNT_RAIL_FAULTS = 0 ∧ z.wget WR.PWR_CNT_THERMAL = 0 ∧
      z.wget WR.PWR_CNT_LOCKOUTS = 0 ∧
      OnlyRegs [WR.PWR_LAST_CAUSE, WR.PWR_LAST_RAIL, WR.PWR_CNT_RAIL_FAULTS, WR.PWR_CNT_THERMAL, WR.PWR_CNT_LOCKOUTS] s z) ∧
  (∀ (vin iin : Nat) (v i : List Nat) (pdie cdie ok flags : Nat) (s : State),
    Runs (.pwrMeasure vin iin v i pdie cdie ok flags) s fun z =>
      z.wget WR.PWR_VIN_VIN = vin % WR.PWR_VIN_VIN.size ∧ z.wget WR.PWR_VIN_IIN = iin % WR.PWR_VIN_IIN.size ∧
      z.wget WR.PWR_TEMP_POWER_DIE = pdie % WR.PWR_TEMP_POWER_DIE.size ∧ z.wget WR.PWR_TEMP_CORE_DIE = cdie % WR.PWR_TEMP_CORE_DIE.size ∧
      z.wget WR.PWR_STATUS_RAIL_OK = ok % WR.PWR_STATUS_RAIL_OK.size ∧ z.wget WR.PWR_STATUS_PG = b2n s.pwr.pg ∧
      (∀ r < 4, z.wget (WR.PWR_RAIL_V r) = v.getD r 0 % (WR.PWR_RAIL_V r).size ∧ z.wget (WR.PWR_RAIL_I r) = i.getD r 0 % (WR.PWR_RAIL_I r).size) ∧
      z.wget WR.PWR_STATUS_VIN_HIGH = (if bit 0 flags then 1 else s.wget WR.PWR_STATUS_VIN_HIGH) ∧
      z.wget WR.PWR_STATUS_VIN_LOW = (if bit 1 flags then 1 else s.wget WR.PWR_STATUS_VIN_LOW) ∧
      z.wget WR.PWR_STATUS_RAIL_WARN = (if bit 2 flags then 1 else s.wget WR.PWR_STATUS_RAIL_WARN) ∧
      z.wget WR.PWR_STATUS_HOT = (if bit 3 flags then 1 else s.wget WR.PWR_STATUS_HOT) ∧
      OnlyRegs ([WR.PWR_VIN_VIN, WR.PWR_VIN_IIN, WR.PWR_TEMP_POWER_DIE, WR.PWR_TEMP_CORE_DIE, WR.PWR_STATUS_RAIL_OK, WR.PWR_STATUS_PG,
        WR.PWR_STATUS_VIN_HIGH, WR.PWR_STATUS_VIN_LOW, WR.PWR_STATUS_RAIL_WARN, WR.PWR_STATUS_HOT] ++
        (List.range 4).map WR.PWR_RAIL_V ++ (List.range 4).map WR.PWR_RAIL_I) s z)

/-- The sources of reset, what a reset leaves, the watchdog and HALTED_FATAL. NDMRESET and a WARM write by machine
mode or the debug agent ask for a warm reset of cause 4 and 3 outside SELF_TEST and OFF, RESET_N for a power-
on reset of cause 2; RESET_ASSERT stops every output, leaves OFF with the cause, returns every register that
is not kept to its reset value, clears the cores and the memory that is not kept, counts warm resets, and
touches no Tladon, flash or power stage; a kick by a core restarts the watchdog; its first expiry in HELD to
DEGRADED enters HALTED_FATAL with SOURCE 2 and a second asks for a warm reset of cause 6; ENTER enters
HALTED_FATAL with its CODE and SOURCE 1; the fatal timer asks for a warm reset of cause 7; 10 s in RUNNING
clear FATAL_RUN. -/
def Obligations.ResetsWatchdogFatal : Prop :=
  (∀ s : State,
    (s.sys.rst = none → 2 ≤ s.ws → Runs .ndmreset s fun z => z = { s with sys := { s.sys with rst := some ⟨false, 4, s.now, false⟩ } }) ∧
    (s.sys.rst = none → s.ws ≤ 1 → Runs .ndmreset s fun z => z = s) ∧
    (∀ r, s.sys.rst = some r → r.cause ≠ 7 ∨ r.done = true → Runs .ndmreset s fun z => z = s)) ∧
  (∀ (agent : Nat) (s : State),
    (s.sys.rst = none → 2 ≤ s.ws → agent = 9 ∨ 1 ≤ agent ∧ agent ≤ 4 ∧ (s.core (agent - 1)).user = false →
      Runs (.sysResetWarm agent) s fun z => z = { s with sys := { s.sys with rst := some ⟨false, 3, s.now, false⟩ } }) ∧
    (agent ≠ 9 → agent < 1 ∨ 4 < agent ∨ (s.core (agent - 1)).user = true → Runs (.sysResetWarm agent) s fun z => z = s)) ∧
  (∀ s : State,
    (s.pinsHeld = false → Runs .resetNAssert s fun z => z = { s with sys := { s.sys with rst := some ⟨true, 2, s.now, false⟩ } }) ∧
    (s.pinsHeld = true → Runs .resetNAssert s fun z => z = s)) ∧
  (∀ (r : Rst) (s : State),
    s.sys.rst = some r → r.done = false → r.cause < 8 →
    Runs .resetAssert s fun z =>
      z.ws = 0 ∧ z.wget WR.SYS_RESET_CAUSE = r.cause ∧
      (r.power = false → z.wget WR.SYS_RESET_WARM_COUNT = (s.wget WR.SYS_RESET_WARM_COUNT + 1) % WR.SYS_RESET_WARM_COUNT.size ∧
        z.wget WR.SYS_BOOT_FATAL_RUN = (if r.cause = 7 then min 15 (s.wget WR.SYS_BOOT_FATAL_RUN + 1) else 0) ∧
        z.wget WR.SYS_BOOT_STORM = b2n (decide (r.cause = 7) && decide (4 ≤ s.wget WR.SYS_BOOT_FATAL_RUN))) ∧
      (∀ f : Fld, (∀ x ∈ s.keptRegs r, f.key ≠ x.1.key) → f.key ≠ WR.CAN_CFG_NODE_ID.key →
        (∀ m < 5, f.key ≠ (WR.MEM_SPARES_MAPPED m).key ∧ f.key ≠ (WR.MEM_SPARES_UNUSABLE m).key) → z.wget f = f.reset) ∧
      z.cores = State.reset.cores ∧ z.sch = State.reset.sch ∧ z.queues = [] ∧ z.lanes = [] ∧ z.ports = [] ∧ z.image = none ∧
      z.sys.rst = some { r with done := true } ∧ z.sys.boot = 0 ∧ z.sys.nor = s.sys.nor ∧ z.pwr = s.pwr ∧ z.canid = s.canid ∧ z.tl = s.tl ∧
      z.mem = (s.mem.filter fun c => decide (c.1 < 0x10000) || !r.power && (inLoft c.1 1 || inReserve c.1 1)) ∧
      z.out = s.out ++ [Out.stop]) ∧
  (∀ s : State, s.sys.rst = none → Runs .resetAssert s fun z => z = s) ∧
  (∀ (agent : Nat) (s : State),
    (1 ≤ agent → agent ≤ 4 → Runs (.watchdogKick agent) s fun z =>
      z.sys.wdCnt = 0 ∧ z.sys.wdSeg = (if s.wdRuns then some s.now else none) ∧ z.sys.wdOnce = false ∧ z.wr = s.wr) ∧
    (agent = 0 ∨ 4 < agent → Runs (.watchdogKick agent) s fun z => z = s)) ∧
  (∀ (t : Nat) (s : State),
    t = s.counted s.sys.wdCnt s.sys.wdSeg →
    (t < max 1 (s.wget WR.SYS_WDOG_PERIOD) * Config.msTicks → Runs .watchdogExpiry s fun z => z = s) ∧
    (max 1 (s.wget WR.SYS_WDOG_PERIOD) * Config.msTicks ≤ t → s.sys.wdOnce = false → 2 ≤ s.ws → s.ws ≤ 5 →
      Runs .watchdogExpiry s fun z =>
        z.ws = 6 ∧ z.wget WR.SYS_FATAL_SOURCE = 2 ∧ z.wget WR.SYS_WDOG_EXPIRED = 1 ∧ z.sys.wdOnce = true ∧ z.sys.wdCnt = 0 ∧ z.sys.ftCnt = 0) ∧
    (max 1 (s.wget WR.SYS_WDOG_PERIOD) * Config.msTicks ≤ t → s.sys.wdOnce = true → s.sys.rst = none → 2 ≤ s.ws →
      Runs .watchdogExpiry s fun z =>
        z.wget WR.SYS_WDOG_EXPIRED = 1 ∧ z.sys = { s.sys with rst := some ⟨false, 6, s.now, false⟩ } ∧
        OnlyRegs [WR.SYS_WDOG_EXPIRED] s z)) ∧
  (∀ (agent code : Nat) (s : State),
    (s.sys.rst = none → 2 ≤ s.ws → s.ws ≤ 5 → agent = 9 ∨ 1 ≤ agent ∧ agent ≤ 4 ∧ (s.core (agent - 1)).user = false →
      Runs (.sysFatalEnter agent code) s fun z =>
        z.ws = 6 ∧ z.wget WR.SYS_FATAL_SOURCE = 1 ∧ z.wget WR.SYS_FATAL_CODE = code % WR.SYS_FATAL_CODE.size ∧ z.sys.ftCnt = 0 ∧
        z.wget WR.ADM_STATUS_CHECKING = 0) ∧
    (s.ws < 2 ∨ 5 < s.ws ∨ agent ≠ 9 ∧ (agent < 1 ∨ 4 < agent ∨ (s.core (agent - 1)).user = true) →
      Runs (.sysFatalEnter agent code) s fun z => z = s)) ∧
  (∀ (t : Nat) (s : State),
    t = s.counted s.sys.ftCnt s.sys.ftSeg → s.ws = 6 → s.sys.rst = none →
    (s.wget WR.SYS_FATAL_TMO_RESET_MS ≠ 0 → s.wget WR.SYS_FATAL_TMO_RESET_MS * Config.msTicks ≤ t →
      Runs .fatalTimer s fun z => z = { s with sys := { s.sys with rst := some ⟨false, 7, s.now, false⟩ } }) ∧
    (s.wget WR.SYS_FATAL_TMO_RESET_MS = 0 ∨ t < s.wget WR.SYS_FATAL_TMO_RESET_MS * Config.msTicks →
      Runs .fatalTimer s fun z => z = s)) ∧
  (∀ (t : Nat) (s : State),
    (s.sys.runAt = some t → s.isRun = true → t + 10 * Config.secTicks ≤ s.now →
      Runs .fatalRunClear s fun z => z = s.wset WR.SYS_BOOT_FATAL_RUN 0) ∧
    (s.sys.runAt = none ∨ s.isRun = false → Runs .fatalRunClear s fun z => z = s))

/-- The self-test and the boot of the firmware. SELF_TEST starts 10 µs after reset with power good and waits for
XO_IN; when XO_IN is there the march, the checkers, the queues, the engines and the rings are tested and
recorded in MEM_BIST and SYS_BIST; its end after a critical failure is HALTED_FATAL with SOURCE 3, otherwise
HELD with CC1 in the boot ROM; the boot ROM then starts the valid slot of the higher GENERATION that passes
its second check, the other one otherwise, and sets NO_FW where no slot is valid; in STORM it loads none. -/
def Obligations.SelfTestAndFirmware : Prop :=
  (∀ (r : Rst) (s : State),
    s.sys.rst = some r →
    (r.done = true → s.pwr.pg = true → r.since + 10 * Config.usTicks ≤ s.now →
      Runs .selfTestStart s fun z =>
        z.ws = 1 ∧ z.wget WR.SYS_BIST_XO_WAIT = 1 ∧ z.sys.rst = none ∧ z.sys.test = 1 ∧ z.mtime0 = s.now) ∧
    (r.done = false ∨ s.pwr.pg = false ∨ s.now < r.since + 10 * Config.usTicks → Runs .selfTestStart s fun z => z = s)) ∧
  (∀ s : State, s.sys.rst = none → Runs .selfTestStart s fun z => z = s) ∧
  (∀ (words spares : List Nat) (checks queues engs : Nat) (counts : List Nat) (s : State),
    (s.ws = 1 → s.sys.test = 1 → Runs (.xoInPresent words spares checks queues engs counts) s fun z =>
      z.ws = 1 ∧ z.sys = { s.sys with test := 2 } ∧ z.wget WR.SYS_BIST_XO_WAIT = 0 ∧ z.wget WR.MEM_BIST_DONE = 1 ∧
      z.wget WR.MEM_BIST_CHECK_FAIL = checks % WR.MEM_BIST_CHECK_FAIL.size ∧
      z.wget WR.SYS_BIST_RINGS = State.ringsBad counts % WR.SYS_BIST_RINGS.size ∧
      (words = [] → spares = [] → s.sys.warmBoot = false → z.wget WR.MEM_BIST_MARCH_FAIL = s.wget WR.MEM_BIST_MARCH_FAIL ∧ z.mems = s.mems)) ∧
    (s.ws ≠ 1 ∨ s.sys.test ≠ 1 → Runs (.xoInPresent words spares checks queues engs counts) s fun z => z = s)) ∧
  (∀ (s : State),
    s.ws = 1 → s.sys.test = 2 →
    ((s.won WR.MEM_BIST_MARCH_FAIL || s.won WR.MEM_BIST_CHECK_FAIL || s.won WR.SYS_BIST_QUEUE) = true →
      Runs .selfTestComplete s fun z =>
        z.ws = 6 ∧ z.wget WR.SYS_FATAL_SOURCE = 3 ∧ z.wget WR.SYS_BIST_DONE = 1 ∧ z.wget WR.SYS_BIST_CRITICAL = 1) ∧
    ((s.won WR.MEM_BIST_MARCH_FAIL || s.won WR.MEM_BIST_CHECK_FAIL || s.won WR.SYS_BIST_QUEUE) = false →
      Runs .selfTestComplete s fun z =>
        z.ws = 2 ∧ z.wget WR.SYS_STATE_PREV = 1 ∧ z.wget WR.SYS_BIST_DONE = 1 ∧ z.wget WR.SYS_BIST_CRITICAL = 0 ∧ z.sys.boot = 1)) ∧
  (∀ s : State, s.ws ≠ 1 ∨ s.sys.test ≠ 2 → Runs .selfTestComplete s fun z => z = s) ∧
  (∀ (ok0 ok1 : Bool) (s : State),
    s.sys.boot = 1 → s.sys.busy ≠ 1 → (s.core 0).halted = false → 0 < s.cores.length →
    (s.won WR.SYS_BOOT_STORM = true → Runs (.firmwareLoaded ok0 ok1) s fun z =>
      z = { s with sys := { s.sys with boot := 2 } }) ∧
    (s.won WR.SYS_BOOT_STORM = false → s.fwSlot 0 = none → s.fwSlot 1 = none → Runs (.firmwareLoaded ok0 ok1) s fun z =>
      z.wget WR.SYS_BOOT_NO_FW = 1 ∧ z.sys = { s.sys with boot := 2 } ∧ OnlyRegs [WR.SYS_BOOT_NO_FW] s z) ∧
    (∀ (k g : Nat) (code : List Nat), s.won WR.SYS_BOOT_STORM = false → k < 2 → s.fwSlot k = some (g, code) →
      (s.fwSlot (1 - k) = none ∨ ∃ g' c, s.fwSlot (1 - k) = some (g', c) ∧ (g' < g ∨ g' = g ∧ k = 0)) →
      (if k = 0 then ok0 else ok1) = true → 0 < g →
      Runs (.firmwareLoaded ok0 ok1) s fun z =>
        z.wget WR.SYS_BOOT_FW_SLOT = k ∧ (z.core 0).pc = 0x10000000 ∧ z.sys.fw = true ∧ z.sys.boot = 2 ∧
        (∀ i, i < code.length → z.byte (0x10000000 + i) = BitVec.ofNat 8 (code.getD i 0)) ∧
        OnlyRegs [WR.SYS_BOOT_FW_SLOT] s z)) ∧
  (∀ (ok0 ok1 : Bool) (s : State),
    s.sys.boot ≠ 1 ∨ s.sys.busy = 1 ∨ (s.core 0).halted = true → Runs (.firmwareLoaded ok0 ok1) s fun z => z = s)

/-- What each message of the partner does. A message with a wrong length or CRC counts in CRC_ERR and does nothing
else, and without a pair nothing is received; a good message counts a gap of its sequence numbers; HEARTBEAT
shows the partner's state, step and claim and ends IN_STEP when the partner stops running; a decision opens or
merges the event of its slot, or counts late; ANCHOR and THETA are kept and compared with the own ones;
EPOCH_NOTE moves the port's samples; DIGEST meets the table; the three JOIN messages take the join on; FW
fills the input mailbox or is dropped. -/
def Obligations.PairMessages : Prop :=
  (∀ (hdr : Nat) (ws w : List Nat) (s : State), w = ws.map (· % 2 ^ 64) →
    ∀ c ∈ [Instr.pairHeartbeatRx hdr ws, .pairDecisionRx hdr ws, .pairAnchorRx hdr ws, .pairThetaRx hdr ws, .epochNoteRx hdr ws,
      .pairDigestRx hdr ws, .joinRequestRx hdr ws, .joinAtRx hdr ws, .joinSeqRx hdr ws, .pairFwRx hdr ws],
    (s.pairOn = false → Runs c s fun z => z = s) ∧
    (s.pairOn = true → w.length ≠ bits 55 52 hdr ∨ crc32c (State.wordBytes w) ≠ bits 31 0 hdr →
      Runs c s fun z => z = s.wadd WR.PAIR_PL_CNT_CRC_ERR 1)) ∧
  (∀ (hdr : Nat) (ws w : List Nat) (s : State), w = ws.map (· % 2 ^ 64) → s.pairOn = true →
    w.length = bits 55 52 hdr → crc32c (State.wordBytes w) = bits 31 0 hdr → bits 63 56 hdr = 0x01 →
    Runs (.pairHeartbeatRx hdr ws) s fun z =>
      z.wget WR.PAIR_STATUS_PARTNER = 1 ∧ z.wget WR.PAIR_STATUS_P_WSTATE = bits 63 61 (w.getD 0 0) ∧
      z.wget WR.PAIR_STATUS_P_PSTATE = bits 60 58 (w.getD 0 0) ∧ z.wget WR.PAIR_STATUS_P_STEP = bits 57 56 (w.getD 0 0) ∧
      z.wget WR.PAIR_PCLAIM_PCLAIM = w.getD 0 0 % 2 ^ 32 ∧ z.pair.hbAt = some s.now ∧ z.pair.hb = w ∧
      (s.partnerRuns = true → bits 63 61 (w.getD 0 0) ≠ 4 → bits 63 61 (w.getD 0 0) ≠ 5 → s.pairState = 3 → z.pairState = 1) ∧
      OnlyRegs [WR.PAIR_PL_CNT_GAPS, WR.PAIR_STATUS_P_WSTATE, WR.PAIR_STATUS_P_PSTATE, WR.PAIR_STATUS_P_STEP, WR.PAIR_STATUS_PARTNER,
        WR.PAIR_PCLAIM_PCLAIM, WR.PAIR_PL_DELAY_DELAY, WR.PAIR_STATUS_DWIN_SHORT, WR.PAIR_STATUS_STATE, WR.PAIR_STATUS_CFG_MISMATCH,
        WR.PAIR_STATUS_IMG_MISMATCH, WR.PAIR_STATUS_WALK_MISMATCH, WR.PAIR_STATUS_JOIN_REFUSED, WR.MUS_STATUS_SHED_SPEC,
        WR.MUS_STATUS_SHED_SELF, WR.ADM_DEG_STATUS_STEP, WR.PAIR_STATUS_STEP] s z) ∧
  (∀ (hdr : Nat) (ws w : List Nat) (s : State) (slot : Int), w = ws.map (· % 2 ^ 64) → s.pairOn = true →
    w.length = bits 55 52 hdr → crc32c (State.wordBytes w) = bits 31 0 hdr → bits 63 56 hdr = 0x02 →
    slot = State.extend (2 ^ 40) (bits 39 0 (w.getD 0 0) : Nat) (s.tick / 32 : Nat) →
    (s.mayHear slot = false → Runs (.pairDecisionRx hdr ws) s fun z => z.mus = s.mus ∧ OnlyRegs [WR.PAIR_PL_CNT_GAPS] s z) ∧
    (s.inStep = true → s.musMode = 0 → s.building' = true → bits 63 60 (w.getD 0 0) = 1 →
      (∀ e, s.evOfSlot slot = some e → Runs (.pairDecisionRx hdr ws) s fun z =>
        z.mus.evs = s.mus.evs.map (fun x => if x.key = e.key then { x with cls := x.cls ||| bits 59 52 (w.getD 0 0) } else x) ∧
        OnlyRegs [WR.PAIR_PL_CNT_GAPS] s z) ∧
      (s.evOfSlot slot = none → s.behind slot = true → Runs (.pairDecisionRx hdr ws) s fun z =>
        z.mus = s.mus ∧ z.wget WR.PAIR_EVT_CNT_DEC_LATE = min (s.wget WR.PAIR_EVT_CNT_DEC_LATE + 1) (WR.PAIR_EVT_CNT_DEC_LATE.size - 1) ∧
        OnlyRegs [WR.PAIR_PL_CNT_GAPS, WR.PAIR_EVT_CNT_DEC_LATE] s z) ∧
      (s.evOfSlot slot = none → s.behind slot = false → Runs (.pairDecisionRx hdr ws) s fun z =>
        (∃ e ∈ z.mus.evs, e.key = slot ∧ e.slot = slot ∧ e.cls = bits 59 52 (w.getD 0 0) ∧ e.own = false) ∧
        (∀ e ∈ s.mus.evs, e ∈ z.mus.evs) ∧ OnlyRegs [WR.PAIR_PL_CNT_GAPS] s z))) ∧
  (∀ (hdr : Nat) (ws w : List Nat) (s : State) (k t : Nat), w = ws.map (· % 2 ^ 64) → s.pairOn = true →
    w.length = bits 55 52 hdr → crc32c (State.wordBytes w) = bits 31 0 hdr → bits 63 56 hdr = 0x03 →
    k = w.getD 0 0 → t = (w.getD 1 0 * 1000000000 + bits 63 32 (w.getD 2 0)) * 65536 + bits 31 16 (w.getD 2 0) →
    Runs (.pairAnchorRx hdr ws) s fun z =>
      z.pair = { s.pair with rxSeq := some (bits 51 36 hdr), anchors := ((k, t, bit 15 (w.getD 2 0), bit 14 (w.getD 2 0)) :: s.pair.anchors.filter fun x => x.1 != k).take 64 } ∧
      (∀ a, s.mer.anchors.find? (fun a => a.frame == k) = some a → State.anchorSplit t a.time = true → z.wget WR.PAIR_STATUS_TIME_SPLIT = 1) ∧
      (∀ a, s.mer.anchors.find? (fun a => a.frame == k) = some a → State.anchorSplit t a.time = false →
        z.wget WR.PAIR_STATUS_TIME_SPLIT = s.wget WR.PAIR_STATUS_TIME_SPLIT) ∧
      (∀ m, s.pair.rxSeq = some m → z.wget WR.PAIR_PL_CNT_GAPS = if bits 51 36 hdr = (m + 1) % 65536 then s.wget WR.PAIR_PL_CNT_GAPS
        else min (s.wget WR.PAIR_PL_CNT_GAPS + 1) (WR.PAIR_PL_CNT_GAPS.size - 1)) ∧
      OnlyRegs [WR.PAIR_PL_CNT_GAPS, WR.PAIR_STATUS_TIME_SPLIT] s z) ∧
  (∀ (hdr : Nat) (ws w : List Nat) (s : State) (p : Nat) (v now f : Int), w = ws.map (· % 2 ^ 64) → s.pairOn = true →
    w.length = bits 55 52 hdr → crc32c (State.wordBytes w) = bits 31 0 hdr → bits 63 56 hdr = 0x04 →
    p = bits 63 58 (w.getD 0 0) → v = signed 64 (w.getD 1 0) → now = ((s.tick : Int) * 65536 - v) / 2 ^ 32 →
    f = State.extend (2 ^ 26) (bits 57 32 (w.getD 0 0) : Nat) now →
    Runs (.pairThetaRx hdr ws) s fun z =>
      SMap.getD [] p z.pair.thetas =
        (⟨if f ≤ now then now + 1 else f, v, bit 31 (w.getD 0 0), bit 30 (w.getD 0 0)⟩ :: SMap.getD [] p s.pair.thetas).take 4 ∧
      z.wget (WR.PAIR_PORT_DIFF_DIFF p) =
        unsigned 32 (State.sat32 (v - (s.triTheta p + s.trim p))) % (WR.PAIR_PORT_DIFF_DIFF p).size ∧
      z.wget WR.PAIR_EVT_CNT_THETA_LATE = (if f ≤ now then min (s.wget WR.PAIR_EVT_CNT_THETA_LATE + 1) (WR.PAIR_EVT_CNT_THETA_LATE.size - 1)
        else s.wget WR.PAIR_EVT_CNT_THETA_LATE) ∧
      OnlyRegs [WR.PAIR_PL_CNT_GAPS, WR.PAIR_EVT_CNT_THETA_LATE, WR.PAIR_PORT_DIFF_DIFF p] s z) ∧
  (∀ (hdr : Nat) (ws w : List Nat) (s : State) (p : Nat), w = ws.map (· % 2 ^ 64) → s.pairOn = true →
    w.length = bits 55 52 hdr → crc32c (State.wordBytes w) = bits 31 0 hdr → bits 63 56 hdr = 0x05 →
    p = bits 63 58 (w.getD 0 0) →
    Runs (.epochNoteRx hdr ws) s fun z =>
      (z.tri' p).epochs = (s.tick - 2048, signed 42 (w.getD 1 0)) :: (s.tri' p).epochs ∧ (z.port p).shift = signed 6 (w.getD 0 0) ∧
      (∀ q, q ≠ p → z.tri' q = s.tri' q ∧ z.port q = s.port q) ∧ OnlyRegs [WR.PAIR_PL_CNT_GAPS] s z) ∧
  (∀ (hdr : Nat) (ws w : List Nat) (s : State) (seq dig : Nat), w = ws.map (· % 2 ^ 64) → s.pairOn = true →
    w.length = bits 55 52 hdr → crc32c (State.wordBytes w) = bits 31 0 hdr → bits 63 56 hdr = 0x06 →
    seq = w.getD 0 0 → dig = w.getD 1 0 % 2 ^ 32 →
    (s.won WR.PAIR_STATUS_PARTNER = false → Runs (.pairDigestRx hdr ws) s fun z =>
      z.pair = { s.pair with rxSeq := some (bits 51 36 hdr) } ∧ OnlyRegs [WR.PAIR_PL_CNT_GAPS] s z) ∧
    (∀ e, s.won WR.PAIR_STATUS_PARTNER = true → (s.pair.digs.find? fun e => e.seq == seq && e.partner != true) = some e → e.dig = dig →
      Runs (.pairDigestRx hdr ws) s fun z =>
        z.pair.digs = s.pair.digs.erase e ∧
        z.wget WR.PAIR_MATCHED_MATCHED = min (s.wget WR.PAIR_MATCHED_MATCHED + 1) (WR.PAIR_MATCHED_MATCHED.size - 1) ∧
        OnlyRegs [WR.PAIR_PL_CNT_GAPS, WR.PAIR_MATCHED_MATCHED] s z) ∧
    (∀ e, s.won WR.PAIR_STATUS_PARTNER = true → (s.pair.digs.find? fun e => e.seq == seq && e.partner != true) = some e → e.dig ≠ dig →
      s.won WR.PAIR_STATUS_DIVERGE = true →
      Runs (.pairDigestRx hdr ws) s fun z =>
        z.pair.digs = s.pair.digs.erase e ∧ z.wget WR.PAIR_DIV_LAST_LO_SEQ = seq % 2 ^ 32 ∧
        z.wget WR.PAIR_DIG_CNT_DIVERGED = min (s.wget WR.PAIR_DIG_CNT_DIVERGED + 1) (WR.PAIR_DIG_CNT_DIVERGED.size - 1) ∧
        OnlyRegs [WR.PAIR_PL_CNT_GAPS, WR.PAIR_DIV_LAST_LO_SEQ, WR.PAIR_DIV_LAST_HI_SEQ, WR.PAIR_DIG_CNT_DIVERGED] s z) ∧
    (s.won WR.PAIR_STATUS_PARTNER = true → (s.pair.digs.find? fun e => e.seq == seq && e.partner != true) = none → s.pair.digs.length < 4096 →
      Runs (.pairDigestRx hdr ws) s fun z =>
        z.pair.digs = s.pair.digs ++ [⟨seq, dig, true, s.now⟩] ∧ OnlyRegs [WR.PAIR_PL_CNT_GAPS] s z)) ∧
  (∀ (hdr : Nat) (ws w : List Nat) (s : State), w = ws.map (· % 2 ^ 64) → s.pairOn = true →
    w.length = bits 55 52 hdr → crc32c (State.wordBytes w) = bits 31 0 hdr → bits 63 56 hdr = 0x07 →
    (bits 63 62 (w.getD 0 0) = 0 → s.isRun = true → s.pairState = 1 ∨ s.pairState = 3 → Runs (.joinRequestRx hdr ws) s fun z =>
      z.pair.host = some (s.tick / 32 + 4096) ∧ z.wget WR.PAIR_JOIN_SLOT_LO_SLOT = (s.tick / 32 + 4096) % 2 ^ 32 ∧
      z.wget WR.PAIR_JOIN_SLOT_HI_SLOT = (s.tick / 32 + 4096) / 2 ^ 32 % 256 ∧
      OnlyRegs [WR.PAIR_PL_CNT_GAPS, WR.PAIR_JOIN_SLOT_LO_SLOT, WR.PAIR_JOIN_SLOT_HI_SLOT] s z) ∧
    (bits 63 62 (w.getD 0 0) ≠ 0 ∨ s.isRun = false ∨ s.pairState ≠ 1 ∧ s.pairState ≠ 3 → Runs (.joinRequestRx hdr ws) s fun z =>
      z.pair = { s.pair with rxSeq := some (bits 51 36 hdr) } ∧ OnlyRegs [WR.PAIR_PL_CNT_GAPS] s z) ∧
    (bits 63 62 (w.getD 0 0) = 1 → s.pairState = 2 → s.pair.join = 1 → Runs (.joinAtRx hdr ws) s fun z =>
      z.pair = { s.pair with rxSeq := some (bits 51 36 hdr), join := 2 } ∧
      z.wget WR.PAIR_JOIN_SLOT_LO_SLOT = w.getD 0 0 % 2 ^ 40 % 2 ^ 32 ∧ z.wget WR.PAIR_JOIN_SLOT_HI_SLOT = w.getD 0 0 % 2 ^ 40 / 2 ^ 32 % 256 ∧
      OnlyRegs [WR.PAIR_PL_CNT_GAPS, WR.PAIR_JOIN_SLOT_LO_SLOT, WR.PAIR_JOIN_SLOT_HI_SLOT] s z) ∧
    (bits 63 62 (w.getD 0 0) ≠ 1 ∨ s.pairState ≠ 2 ∨ s.pair.join ≠ 1 → Runs (.joinAtRx hdr ws) s fun z =>
      z.pair = { s.pair with rxSeq := some (bits 51 36 hdr) } ∧ OnlyRegs [WR.PAIR_PL_CNT_GAPS] s z) ∧
    (bits 63 62 (w.getD 0 0) = 2 → s.pairState = 2 → s.pair.join = 2 → s.musMode ≠ 1 → s.mus.evs = [] → Runs (.joinSeqRx hdr ws) s fun z =>
      z.pair = { s.pair with rxSeq := some (bits 51 36 hdr), join := 3 } ∧
      z.wget WR.PAIR_JOIN_SEQ_LO_SEQ = w.getD 1 0 % 2 ^ 32 ∧
      OnlyRegs [WR.PAIR_PL_CNT_GAPS, WR.PAIR_JOIN_SEQ_LO_SEQ, WR.PAIR_JOIN_SEQ_HI_SEQ] s z) ∧
    (bits 63 62 (w.getD 0 0) ≠ 2 ∨ s.pairState ≠ 2 ∨ s.pair.join ≠ 2 → Runs (.joinSeqRx hdr ws) s fun z =>
      z.pair = { s.pair with rxSeq := some (bits 51 36 hdr) } ∧ OnlyRegs [WR.PAIR_PL_CNT_GAPS] s z)) ∧
  (∀ (hdr : Nat) (ws w : List Nat) (s : State) (m : Nat), w = ws.map (· % 2 ^ 64) → s.pairOn = true →
    w.length = bits 55 52 hdr → crc32c (State.wordBytes w) = bits 31 0 hdr → bits 63 56 hdr = 0x10 →
    m = s.wget WR.PAIR_CFG_MBX_IN →
    (s.mbxFull m = true → Runs (.pairFwRx hdr ws) s fun z =>
      z.mbx = s.mbx ∧ z.wget WR.PAIR_PL_CNT_FW_DROP = min (s.wget WR.PAIR_PL_CNT_FW_DROP + 1) (WR.PAIR_PL_CNT_FW_DROP.size - 1) ∧
      OnlyRegs [WR.PAIR_PL_CNT_GAPS, WR.PAIR_PL_CNT_FW_DROP] s z) ∧
    (s.mbxFull m = false → s.wget WR.PAIR_CFG_MBX_OUT ≠ m → Runs (.pairFwRx hdr ws) s fun z =>
      z.wget (WR.MBX_STATUS_FULL m) = 1 ∧ z.wget (WR.MBX_STATUS_SENDER m) = 10 ∧
      z.wget (WR.MBX_STATUS_SENDS m) = min (s.wget (WR.MBX_STATUS_SENDS m) + 1) ((WR.MBX_STATUS_SENDS m).size - 1) ∧
      z.wget (WR.MBX_DATA_DATA m 0) = w.getD 0 0 / 2 ^ 32 % 2 ^ 32 ∧ z.wget (WR.MBX_DATA_DATA m 1) = w.getD 0 0 % 2 ^ 32 ∧
      z.wget (WR.MBX_DATA_DATA m 2) = w.getD 1 0 / 2 ^ 32 % 2 ^ 32 ∧ z.wget (WR.MBX_DATA_DATA m 3) = w.getD 1 0 % 2 ^ 32 ∧
      z.wget (WR.MBX_DATA_DATA m 4) = w.getD 2 0 / 2 ^ 32 % 2 ^ 32 ∧ z.wget (WR.MBX_DATA_DATA m 5) = w.getD 2 0 % 2 ^ 32 ∧
      z.wget (WR.MBX_DATA_DATA m 6) = w.getD 3 0 / 2 ^ 32 % 2 ^ 32 ∧ z.wget (WR.MBX_DATA_DATA m 7) = w.getD 3 0 % 2 ^ 32))

/-- The states of the pair agent, its heartbeat, claim and tick count. The tick counter is set once from Meridian
time at a frame boundary; a due HEARTBEAT leaves with the state, the claim and the next sequence number; when
heartbeats stop for HB_MISS periods the partner is lost, a joiner abandons its join and a unit in step becomes
ALONE; digests unmatched for 1 ms are dropped and counted; REJOIN discards the open events and starts a join;
GO_ALONE abandons one and numbers 2^24 after the partner; EN turns the pair on or off in HELD or ADMITTED
only; MUTE and CLAIM are stored and the claim is sent on every downlink; PL_LOCK follows its commands. -/
def Obligations.PairStateAndClaims : Prop :=
  (∀ (moved : Nat) (s : State),
    moved = s.timeNow * 32 * s.freq / 65536000000000 % 2 ^ 64 →
    (s.pairOn = true → s.pair.aligned = false → s.timeValid = true → s.tick % 65536 = 0 →
      Runs .tickCountAlign s fun z => z.tick = moved ∧ z.pair.aligned = true ∧ z.mtime = s.mtime) ∧
    (s.pairOn = false ∨ s.pair.aligned = true ∨ s.timeValid = false ∨ s.tick % 65536 ≠ 0 →
      Runs .tickCountAlign s fun z => z = s)) ∧
  (∀ s : State,
    (s.pairOn = true → (∀ t, s.pair.sentAt = some t → t + s.hbTicks ≤ s.now) →
      Runs .pairHeartbeatSend s fun z =>
        (∃ h w0, z.out = s.out ++ [.pl [h, w0, s.seqNext, s.pair.imgDigest * 2 ^ 32 + s.pair.walkCrc, s.tick]] ∧
          w0 = pack [(63, 61, s.ws), (60, 58, s.pairState), (57, 56, if s.isRun then s.gov.step else 0), (55, 55, s.wget WR.PAIR_CFG_SIDE),
            (54, 54, s.wget WR.PAIR_CFG_LEAD_B), (53, 53, s.wget WR.PAIR_CTRL_MUTE), (31, 0, s.claimSent)] ∧
          h = pack [(63, 56, 1), (55, 52, 4), (51, 36, s.pair.mseq), (35, 34, 0),
            (31, 0, crc32c (State.wordBytes [w0, s.seqNext, s.pair.imgDigest * 2 ^ 32 + s.pair.walkCrc, s.tick]))]) ∧
        z.pair = { s.pair with mseq := (s.pair.mseq + 1) % 65536, sentAt := some s.now } ∧ OnlyRegs [] s z) ∧
    (∀ t, s.pairOn = false ∨ s.pair.sentAt = some t ∧ s.now < t + s.hbTicks → Runs .pairHeartbeatSend s fun z => z = s)) ∧
  (∀ (t : Nat) (s : State),
    s.pair.hbAt = some t →
    (s.pairOn = true → s.won WR.PAIR_STATUS_PARTNER = true → t + s.hbMiss * s.hbTicks ≤ s.now →
      Runs .partnerLost s fun z =>
        z.wget WR.PAIR_STATUS_PARTNER = 0 ∧ z.wget WR.PAIR_STATUS_PARTNER_LOST = 1 ∧
        (s.pairState = 2 ∨ s.pairState = 3 → z.pairState = 1) ∧ (s.pairState ≠ 2 → s.pairState ≠ 3 → z.pairState = s.pairState) ∧
        (s.pairState = 2 → z.wget WR.PAIR_STATUS_JOIN_ABANDONED = 1) ∧ z.pair.host = none ∧
        OnlyRegs [WR.PAIR_STATUS_PARTNER, WR.PAIR_STATUS_PARTNER_LOST, WR.PAIR_STATUS_STATE, WR.PAIR_STATUS_JOIN_ABANDONED, WR.MUS_SEQ_NEXT_LO_NEXT,
          WR.MUS_SEQ_NEXT_HI_NEXT, WR.MUS_STATUS_SHED_SPEC, WR.MUS_STATUS_SHED_SELF, WR.ADM_DEG_STATUS_STEP, WR.PAIR_STATUS_STEP] s z) ∧
    (s.pairOn = false ∨ s.won WR.PAIR_STATUS_PARTNER = false ∨ s.now < t + s.hbMiss * s.hbTicks → Runs .partnerLost s fun z => z = s)) ∧
  (∀ s : State,
    Runs .digestEntryExpiry s fun z =>
      (∀ e, e ∈ z.pair.digs ↔ e ∈ s.pair.digs ∧ s.now < e.born + Config.msTicks) ∧
      z.wget WR.PAIR_DIG_CNT_UNCHECKED = min (s.wget WR.PAIR_DIG_CNT_UNCHECKED + (s.pair.digs.filter fun e => decide (e.born + Config.msTicks ≤ s.now)).length)
        (WR.PAIR_DIG_CNT_UNCHECKED.size - 1) ∧ OnlyRegs [WR.PAIR_DIG_CNT_UNCHECKED] s z) ∧
  (∀ s : State,
    (s.pairOn = true → s.isRun = true → s.pairState = 1 ∨ s.pairState = 3 → Runs .pairRejoin s fun z =>
      z.pairState = 2 ∧ z.mus.evs = [] ∧ z.pair.host = none ∧
      OnlyRegs [WR.PAIR_STATUS_STATE, WR.MUS_LEDGER_IN_USE, WR.PAIR_STATUS_CFG_MISMATCH, WR.PAIR_STATUS_IMG_MISMATCH, WR.PAIR_STATUS_WALK_MISMATCH,
        WR.PAIR_STATUS_DWIN_SHORT, WR.PAIR_STATUS_JOIN_REFUSED] s z) ∧
    (s.pairOn = false ∨ s.isRun = false ∨ s.pairState ≠ 1 ∧ s.pairState ≠ 3 → Runs .pairRejoin s fun z => z = s)) ∧
  (∀ (n : Nat) (s : State),
    (s.pairOn = true → s.pairState = 2 → s.pair.runNext = some n → Runs .pairGoAlone s fun z =>
      z.pairState = 1 ∧ z.wget WR.PAIR_STATUS_JOIN_ABANDONED = 1 ∧ z.wget WR.MUS_SEQ_NEXT_LO_NEXT = (n + 2 ^ 24) % 2 ^ 32 ∧
      z.wget WR.MUS_SEQ_NEXT_HI_NEXT = (n + 2 ^ 24) / 2 ^ 32 % 2 ^ 32 ∧ z.pair = { s.pair with join := 0, host := none } ∧
      OnlyRegs [WR.PAIR_STATUS_STATE, WR.PAIR_STATUS_JOIN_ABANDONED, WR.MUS_SEQ_NEXT_LO_NEXT, WR.MUS_SEQ_NEXT_HI_NEXT] s z) ∧
    (s.pairOn = false ∨ s.pairState ≠ 2 → Runs .pairGoAlone s fun z => z = s)) ∧
  (∀ (v : Bool) (s : State),
    Runs (.pairMuteWrite v) s fun z => z.wget WR.PAIR_CTRL_MUTE = b2n v ∧ OnlyRegs [WR.PAIR_CTRL_MUTE] s z) ∧
  (∀ (en : Bool) (s : State),
    (s.isOpen = false → Runs (.pairEnWrite en) s fun z => z = s) ∧
    (s.isOpen = true → en = true → Runs (.pairEnWrite en) s fun z =>
      z.wget WR.PAIR_CFG_EN = 1 ∧ z.pairState = 1 ∧ z.ws = 2 ∧ (s.ws = 3 → z.wget WR.ADM_STATUS_ADMITTED = 0)) ∧
    (s.isOpen = true → en = false → Runs (.pairEnWrite en) s fun z =>
      z.wget WR.PAIR_CFG_EN = 0 ∧ z.pairState = 0 ∧ z.wget WR.PAIR_STATUS_PARTNER = 0 ∧
      z.pair = { s.pair with sentAt := none, hbAt := none, join := 0, host := none } ∧
      OnlyRegs [WR.PAIR_CFG_EN, WR.PAIR_STATUS_STATE, WR.PAIR_STATUS_PARTNER] s z)) ∧
  (∀ (v : Nat) (s : State),
    Runs (.pairClaimWrite v) s fun z =>
      z.wget WR.PAIR_CLAIM_CLAIM = v % 2 ^ 32 ∧ (∀ p < s.lanesCount, (z.dlink p).claimDue = true) ∧ OnlyRegs [WR.PAIR_CLAIM_CLAIM] s z) ∧
  (∀ s : State,
    (Runs .plLockSet s fun z => z.wget WR.PAIR_STATUS_PL_LOCK = 1 ∧ OnlyRegs [WR.PAIR_STATUS_PL_LOCK] s z) ∧
    (Runs .plLockClear s fun z => z.wget WR.PAIR_STATUS_PL_LOCK = 0 ∧
      z.wget WR.PAIR_PL_CNT_CRC_ERR = min (s.wget WR.PAIR_PL_CNT_CRC_ERR + 16) (WR.PAIR_PL_CNT_CRC_ERR.size - 1) ∧
      OnlyRegs [WR.PAIR_STATUS_PL_LOCK, WR.PAIR_PL_CNT_CRC_ERR] s z))

/-- Fault detection of the excitation sources, and the interlock outputs. An open output marks OPEN and OPEN_NOW,
a fed source is counted and disconnected until RETRY brings it back through the ramp, contention is marked on
both channels and disconnects neither; a channel in fault releases every output whose rule lists it. A write
of REQ by a core gives LATCH, ends the output with REQ 0 and lets it conduct where its other conditions hold,
and is refused to every other agent; a kick by a core restarts the period; a missed kick, an aged or missing
result and an overtemperature end every output they govern; a short is recorded on a conducting output. After
each of them the sources, the sweeps and the outputs follow the state, and no other register changes. -/
def Obligations.SourcesAndInterlocks : Prop :=
  (∀ (n : Nat) (s : State),
    n < 16 →
    (s.envDrives n = true → Runs (.openDetect n) s fun z =>
      EnvShown { s.wsets [(WR.ENV_CH_STATUS_OPEN n, 1), (WR.ENV_CH_STATUS_OPEN_NOW n, 1)] with env := { s.env with conv := s.env.conv.map fun c => if c.ch = n then { c with flags := c.flags ||| 32 } else c } } z ∧
      z.won (WR.ENV_CH_STATUS_OPEN n) = true ∧ z.won (WR.ENV_CH_STATUS_OPEN_NOW n) = true ∧
      ∀ k < 4, bit n (s.wget (WR.ENV_IL_RULE_CH_MASK k)) = true → z.won (WR.ENV_IL_STATUS_ON k) = false) ∧
    (s.envDrives n = false → Runs (.openDetect n) s fun z => z = s) ∧
    (Runs (.openClear n) s fun z => EnvShown (s.wset (WR.ENV_CH_STATUS_OPEN_NOW n) 0) z ∧ z.won (WR.ENV_CH_STATUS_OPEN_NOW n) = false)) ∧
  (∀ (n : Nat) (s : State),
    n < 16 →
    (s.envDrives n = true → Runs (.sourceFed n) s fun z =>
      z.won (WR.ENV_CH_STATUS_FED n) = true ∧ z.won (WR.ENV_CH_STATUS_FED_NOW n) = true ∧ z.won (WR.ENV_CH_STATUS_DRIVING n) = false ∧
      z.wget (WR.ENV_CH_CNT_FEDS n) = min (s.wget (WR.ENV_CH_CNT_FEDS n) + 1) 255 ∧ z.won (WR.ENV_CH_STATUS_RAMPING n) = false ∧
      (∀ k < 4, bit n (s.wget (WR.ENV_IL_RULE_CH_MASK k)) = true → z.won (WR.ENV_IL_STATUS_ON k) = false) ∧
      OnlyRegs ([WR.ENV_CH_STATUS_FED n, WR.ENV_CH_STATUS_FED_NOW n, WR.ENV_CH_CNT_FEDS n, WR.ENV_CH_STATUS_RAMPING n] ++ envShown) s z) ∧
    (s.envDrives n = false → Runs (.sourceFed n) s fun z => z = s)) ∧
  (∀ (n : Nat) (s : State),
    n < 16 →
    (s.won (WR.ENV_CH_STATUS_FED_NOW n) = true → Runs (.envRetry n) s fun z =>
      z.won (WR.ENV_CH_STATUS_FED_NOW n) = false ∧ (z.won (WR.ENV_CH_STATUS_DRIVING n) = true → z.won (WR.ENV_CH_STATUS_RAMPING n) = true) ∧
      OnlyRegs ([WR.ENV_CH_STATUS_FED_NOW n, WR.ENV_CH_STATUS_RAMPING n] ++ envShown) s z) ∧
    (s.won (WR.ENV_CH_STATUS_FED_NOW n) = false → Runs (.envRetry n) s fun z => z = s)) ∧
  (∀ (a b : Nat) (s : State),
    a < 16 → b < 16 →
    (s.envDrives a = true → s.envDrives b = true → a ≠ b → Runs (.contendSet a b) s fun z =>
      z.won (WR.ENV_CH_STATUS_CONTEND a) = true ∧ z.won (WR.ENV_CH_STATUS_CONTEND b) = true ∧
      z.won (WR.ENV_CH_STATUS_DRIVING a) = true ∧ z.won (WR.ENV_CH_STATUS_DRIVING b) = true ∧
      OnlyRegs ([WR.ENV_CH_STATUS_CONTEND a, WR.ENV_CH_STATUS_CONTEND b] ++ envShown) s z) ∧
    (s.envDrives a = false ∨ s.envDrives b = false ∨ a = b → Runs (.contendSet a b) s fun z => z = s) ∧
    (Runs (.contendClear a b) s fun z =>
      EnvShown (s.wsets [(WR.ENV_CH_STATUS_CONTEND a, 0), (WR.ENV_CH_STATUS_CONTEND b, 0)]) z ∧
      z.won (WR.ENV_CH_STATUS_CONTEND a) = false ∧ z.won (WR.ENV_CH_STATUS_CONTEND b) = false)) ∧
  (∀ (agent k v : Nat) (s : State),
    k < 4 →
    (1 ≤ agent → agent ≤ 4 →
      (Runs (.ilReqWrite agent k v) s fun z =>
        z.won (WR.ENV_IL_CTRL_LATCH k) = bit 1 v ∧ (bit 0 v = false → z.won (WR.ENV_IL_STATUS_ON k) = false) ∧
        (s.ilFails k = 0 → bit 0 v = true → z.won (WR.ENV_IL_STATUS_ON k) = true) ∧
        OnlyRegs (WR.ENV_IL_CTRL_LATCH k :: envShown) s z)) ∧
    (agent = 0 ∨ 4 < agent → Runs (.ilReqWrite agent k v) s fun z =>
      z.wget WR.ENV_STATUS_IL_WR_REFUSED = 1 ∧ OnlyRegs [WR.ENV_STATUS_IL_WR_REFUSED] s z)) ∧
  (∀ (agent : Nat) (s : State),
    (1 ≤ agent → agent ≤ 4 → Runs (.envKickWrite agent) s fun z => z.env.kickAt = some s.now ∧ OnlyRegs (WR.ENV_KICK_KICK_MS :: envShown) s z) ∧
    (agent = 0 ∨ 4 < agent → Runs (.envKickWrite agent) s fun z => z.env.kickAt = s.env.kickAt ∧ OnlyRegs (WR.ENV_KICK_KICK_MS :: envShown) s z)) ∧
  (∀ s : State,
    (Runs .kickExpiry s fun z => EnvShown s z ∧
      ∀ k < 4, s.won (WR.ENV_IL_RULE_KICK_EN k) = true → (∀ t, s.env.kickAt = some t → t + max 1 (s.wget WR.ENV_KICK_KICK_MS) * Config.msTicks ≤ s.now) →
        z.won (WR.ENV_IL_STATUS_ON k) = false ∧ z.won (WR.ENV_IL_STATUS_PERMIT k) = false) ∧
    (Runs .resultAgeExpiry s fun z => EnvShown s z ∧
      ∀ k < 4, ∀ n < 16, bit n (s.wget (WR.ENV_IL_RULE_CH_MASK k)) = true →
        s.won (WR.ENV_CH_RES_VALID n) = false ∨ (∀ t, SMap.find n s.env.ended = some t → t + max 1 (s.wget (WR.ENV_IL_RULE_MAX_AGE k)) * Config.msTicks < s.tick) →
        z.won (WR.ENV_IL_STATUS_ON k) = false ∧ z.won (WR.ENV_IL_STATUS_PERMIT k) = false)) ∧
  (∀ (k : Nat) (s : State),
    k < 4 →
    (Runs (.ilOvertemp k) s fun z => EnvShown (s.wset (WR.ENV_IL_STATUS_OVERTEMP k) 1) z ∧ z.won (WR.ENV_IL_STATUS_OVERTEMP k) = true ∧ z.won (WR.ENV_IL_STATUS_ON k) = false) ∧
    (Runs (.ilOvertempClear k) s fun z => EnvShown (s.wset (WR.ENV_IL_STATUS_OVERTEMP k) 0) z ∧ z.won (WR.ENV_IL_STATUS_OVERTEMP k) = false ∧
      (z.won (WR.ENV_IL_STATUS_ON k) = true ↔ s.isRun = true ∧ s.won (WR.ENV_IL_CTRL_REQ k) = true ∧ (s.wset (WR.ENV_IL_STATUS_OVERTEMP k) 0).ilRule k = 0)) ∧
    (s.won (WR.ENV_IL_STATUS_ON k) = true → Runs (.ilShort k) s fun z => z.wget (WR.ENV_IL_STATUS_SHORT k) = 1 ∧ OnlyRegs [WR.ENV_IL_STATUS_SHORT k] s z) ∧
    (s.won (WR.ENV_IL_STATUS_ON k) = false → Runs (.ilShort k) s fun z => z = s))

/-- Sweeps, conversions, the reference and range changes of the environment block. A start of a sweep, by GO at
the next microsecond or by the timer, starts with the first masked channel in use, counts OVERLAP while a
sweep runs, and is ignored where sweeps do not run or where that microsecond has started one; a conversion
that is due stores its code, its flags, the sweep number and the time and passes to the next channel or ends
the sweep; the reference is ready 5 ms after EN and not ready after EN is cleared; a new RANGE of a driving
source ramps down, switches and ramps up; a clamp is counted, marks the conversion and holds until its
release. -/
def Obligations.SweepsAndRanges : Prop :=
  (∀ (us t : Nat) (s : State),
    (us = s.now / Config.usTicks + 1 →
      (s.envSweeps = false ∨ s.env.startUs = some us → Runs .envGo s fun z => z = s) ∧
      (s.envSweeps = true → s.env.startUs ≠ some us → s.env.conv.isSome = true → Runs .envGo s fun z =>
        z.wget WR.ENV_SWEEP_OVERLAP = min (s.wget WR.ENV_SWEEP_OVERLAP + 1) 65535 ∧ z.env = s.env ∧ OnlyRegs [WR.ENV_SWEEP_OVERLAP] s z) ∧
      (∀ n r, s.envSweeps = true → s.env.startUs ≠ some us → s.env.conv = none →
        (List.range 16).filter (fun n => bit n (s.wget WR.ENV_MASK_MASK) && s.envMode n != 0) = n :: r → Runs .envGo s fun z =>
        z.env = { s.env with startUs := some us, conv := some ⟨n, us * Config.usTicks + 5 * 4 ^ s.wget (WR.ENV_CH_CFG_RATE n) * Config.msTicks / 2, s.envStartFlags n (us * Config.usTicks)⟩, todo := r } ∧
        z.wget WR.ENV_SWEEP_BUSY = 1 ∧ z.wget WR.ENV_SWEEP_CHANNEL = n ∧ OnlyRegs [WR.ENV_SWEEP_BUSY, WR.ENV_SWEEP_CHANNEL] s z)) ∧
    (us = s.now / Config.usTicks → s.env.timerAt = some t →
      (s.now < t → Runs .envTimerSweep s fun z => z = s) ∧
      (t ≤ s.now → s.envSweeps = false ∨ s.env.startUs = some us → Runs .envTimerSweep s fun z =>
        z = { s with env := { s.env with timerAt := some (t + max 1 (s.wget WR.ENV_PERIOD_PERIOD) * Config.msTicks) } }) ∧
      (t ≤ s.now → s.envSweeps = true → s.env.startUs ≠ some us → s.env.conv.isSome = true → Runs .envTimerSweep s fun z =>
        z.wget WR.ENV_SWEEP_OVERLAP = min (s.wget WR.ENV_SWEEP_OVERLAP + 1) 65535 ∧
        z.env = { s.env with timerAt := some (t + max 1 (s.wget WR.ENV_PERIOD_PERIOD) * Config.msTicks) } ∧ OnlyRegs [WR.ENV_SWEEP_OVERLAP] s z) ∧
      (∀ n r, t ≤ s.now → s.envSweeps = true → s.env.startUs ≠ some us → s.env.conv = none →
        (List.range 16).filter (fun n => bit n (s.wget WR.ENV_MASK_MASK) && s.envMode n != 0) = n :: r → Runs .envTimerSweep s fun z =>
        z.env = { s.env with timerAt := some (t + max 1 (s.wget WR.ENV_PERIOD_PERIOD) * Config.msTicks), startUs := some us, conv := some ⟨n, s.now + 5 * 4 ^ s.wget (WR.ENV_CH_CFG_RATE n) * Config.msTicks / 2, s.envStartFlags n s.now⟩, todo := r } ∧
        z.wget WR.ENV_SWEEP_BUSY = 1 ∧ z.wget WR.ENV_SWEEP_CHANNEL = n ∧ OnlyRegs [WR.ENV_SWEEP_BUSY, WR.ENV_SWEEP_CHANNEL] s z)) ∧
    (s.env.timerAt = none → Runs .envTimerSweep s fun z => z = s)) ∧
  (∀ (vp vn : Nat) (c : EnvConv) (s : State),
    s.env.conv = some c →
    (c.ch < 16 → c.due ≤ s.now → s.envSweeps = true → Runs (.envConversionDone vp vn) s fun z =>
      z.wget (WR.ENV_CH_RES_VALID c.ch) = 1 ∧
      z.wget (WR.ENV_CH_RES_CODE c.ch) = unsigned 24 (State.envCode (s.envMode c.ch == 3) (s.wget (WR.ENV_CH_CFG_GAIN c.ch)) vp vn) % 2 ^ 24 ∧
      z.wget (WR.ENV_CH_RES_CONTEND c.ch) = bits 0 0 c.flags ∧ z.wget (WR.ENV_CH_RES_FED c.ch) = bits 1 1 c.flags ∧
      z.wget (WR.ENV_CH_RES_REF_COLD c.ch) = bits 2 2 c.flags ∧ z.wget (WR.ENV_CH_RES_RANGING c.ch) = bits 3 3 c.flags ∧
      z.wget (WR.ENV_CH_RES_CLAMP c.ch) = bits 4 4 c.flags ∧
      z.wget (WR.ENV_CH_TIME_SWEEP c.ch) = s.wget WR.ENV_SWEEP_SWEEPS % 256 ∧ z.wget (WR.ENV_CH_TIME_TICK c.ch) = s.tick / 256 % 2 ^ 24 ∧
      SMap.find c.ch z.env.ended = some s.tick ∧
      (s.env.todo = [] → z.env.conv = none ∧ z.wget WR.ENV_SWEEP_SWEEPS = (s.wget WR.ENV_SWEEP_SWEEPS + 1) % 256 ∧ z.wget WR.ENV_SWEEP_BUSY = 0) ∧
      (∀ n r, s.env.todo = n :: r → z.env.todo = r ∧ z.wget WR.ENV_SWEEP_CHANNEL = n % 16 ∧
        ∃ f, z.env.conv = some ⟨n, s.now + 5 * 4 ^ s.wget (WR.ENV_CH_CFG_RATE n) * Config.msTicks / 2, f⟩)) ∧
    (s.now < c.due → Runs (.envConversionDone vp vn) s fun z => z = s)) ∧
  (∀ (g vp vn : Nat),
    State.envCode false g vp vn = max (-(2 ^ 23)) (min (2 ^ 23 - 1) (divRound ((max (-2500000000000) (min 2500000000000 (signed 64 vp * 2 ^ g)) -
      max (-2500000000000) (min 2500000000000 (signed 64 vn * 2 ^ g))) * 2 ^ 23) 5000000000000))) ∧
  (∀ (t : Nat) (s : State),
    (s.won WR.ENV_REF_EN = false → Runs (.envRefWrite true) s fun z =>
      z.wget WR.ENV_REF_EN = 1 ∧ z.env = { s.env with refAt := some s.now } ∧ OnlyRegs [WR.ENV_REF_EN] s z) ∧
    (s.won WR.ENV_REF_EN = true → Runs (.envRefWrite true) s fun z => z = s) ∧
    (Runs (.envRefWrite false) s fun z =>
      z.wget WR.ENV_REF_EN = 0 ∧ z.wget WR.ENV_REF_READY = 0 ∧
      z.env = { s.env with refAt := none, conv := s.env.conv.map fun c => { c with flags := c.flags ||| 4 } } ∧
      OnlyRegs [WR.ENV_REF_EN, WR.ENV_REF_READY] s z) ∧
    (s.env.refAt = some t → t + 5 * Config.msTicks ≤ s.now → Runs .envRefReady s fun z => z.wget WR.ENV_REF_READY = 1 ∧ OnlyRegs [WR.ENV_REF_READY] s z) ∧
    (s.env.refAt = none ∨ s.env.refAt = some t ∧ s.now < t + 5 * Config.msTicks → Runs .envRefReady s fun z => z = s)) ∧
  (∀ (n r : Nat) (s : State),
    n < 16 →
    (s.ws = 2 ∨ s.ws = 3 → r % 4 ≠ s.wget (WR.ENV_CH_CFG_RANGE n) → Runs (.envRangeWrite n r) s fun z =>
      z.wget (WR.ENV_CH_CFG_RANGE n) = r % 4 ∧ (s.envDrives n = true → z.wget (WR.ENV_CH_STATUS_RAMPING n) = 1 ∧ SMap.find n z.env.ramp = some 1) ∧
      OnlyRegs [WR.ENV_CH_CFG_RANGE n, WR.ENV_CH_STATUS_RAMPING n] s z) ∧
    (s.ws ≠ 2 → s.ws ≠ 3 → Runs (.envRangeWrite n r) s fun z => z = s) ∧
    (SMap.find n s.env.ramp = some 1 → Runs (.rangeSwitch n) s fun z =>
      SMap.find n z.env.ramp = some 2 ∧ z.wget (WR.ENV_CH_STATUS_RAMPING n) = 1 ∧ OnlyRegs [WR.ENV_CH_STATUS_RAMPING n] s z) ∧
    (SMap.find n s.env.ramp ≠ some 1 → Runs (.rangeSwitch n) s fun z => z = s) ∧
    (SMap.find n s.env.ramp = some 2 → Runs (.rangeRampDone n) s fun z =>
      SMap.find n z.env.ramp = none ∧ z.wget (WR.ENV_CH_STATUS_RAMPING n) = 0 ∧ OnlyRegs [WR.ENV_CH_STATUS_RAMPING n] s z) ∧
    (SMap.find n s.env.ramp ≠ some 2 → Runs (.rangeRampDone n) s fun z => z = s)) ∧
  (∀ (n : Nat) (s : State),
    (Runs (.probeClampEngage n) s fun z =>
      z.wget (WR.ENV_CH_STATUS_CLAMP n) = 1 ∧ z.wget (WR.ENV_CH_CNT_CLAMPS n) = min (s.wget (WR.ENV_CH_CNT_CLAMPS n) + 1) 255 ∧ n ∈ z.env.clamped ∧
      (∀ c, s.env.conv = some c → c.ch = n → z.env.conv = some { c with flags := c.flags ||| 16 }) ∧
      OnlyRegs [WR.ENV_CH_STATUS_CLAMP n, WR.ENV_CH_CNT_CLAMPS n] s z) ∧
    (n ∈ s.env.clamped → Runs (.probeClampRelease n) s fun z =>
      z.env = { s.env with clamped := s.env.clamped.erase n, clampRel := SMap.insert n s.now s.env.clampRel } ∧ OnlyRegs [] s z) ∧
    (n ∉ s.env.clamped → Runs (.probeClampRelease n) s fun z => z = s))

/-- Network management, error counting, solitary operation, bus-off recovery and the heartbeat of the CAN
controller. NMT commands set the state of a node that takes them and lower the receive error count; a frame
with a 29-bit identifier is counted; reset node and reset communication put NODE_ID and the bit times in
force, clear the communication profile and boot, unless NMT_RESET_APP asks for a warm reset; an
acknowledgement error counts up, raises the transmit count of an error-active node only, and the sixteenth
makes the node solitary; bus errors raise the counts and the error state; recovery from bus-off clears them
and is counted; a due heartbeat leaves with the NMT state. A controller that cannot hear or send changes
nothing. (From above 127 the receive count falls to a free value of 119 to 127.) -/
def Obligations.CanNode : Prop :=
  (∀ s : State,
    s.wget WR.CAN_ERR_REC ≤ 127 →
    (s.canTakes = true →
      (Runs .nmtStart s fun z => z.nmt = 2 ∧ z.wget WR.CAN_ERR_REC = s.wget WR.CAN_ERR_REC - 1 ∧ OnlyRegs [WR.CAN_STATUS_NMT, WR.CAN_ERR_REC] s z) ∧
      (Runs .nmtStop s fun z => z.nmt = 3 ∧ z.wget WR.CAN_ERR_REC = s.wget WR.CAN_ERR_REC - 1 ∧ OnlyRegs [WR.CAN_STATUS_NMT, WR.CAN_ERR_REC] s z) ∧
      (Runs .nmtEnterPreoperational s fun z => z.nmt = 1 ∧ z.wget WR.CAN_ERR_REC = s.wget WR.CAN_ERR_REC - 1 ∧ OnlyRegs [WR.CAN_STATUS_NMT, WR.CAN_ERR_REC] s z)) ∧
    (s.canHears = false → Runs .nmtStart s (fun z => z = s) ∧ Runs .nmtStop s (fun z => z = s) ∧ Runs .nmtEnterPreoperational s (fun z => z = s))) ∧
  (∀ s : State,
    (s.canHears = true → s.wget WR.CAN_ERR_REC ≤ 127 → Runs .canExtendedFrameRx s fun z =>
      z.wget WR.CAN_ERR_REC = s.wget WR.CAN_ERR_REC - 1 ∧ z.wget WR.CAN_CNT_RX_LOST = min (s.wget WR.CAN_CNT_RX_LOST + 1) 255 ∧
      z.freeCnt = s.freeCnt ∧ OnlyRegs [WR.CAN_ERR_REC, WR.CAN_CNT_RX_LOST] s z) ∧
    (s.canHears = true → 127 < s.wget WR.CAN_ERR_REC → Runs .canExtendedFrameRx s fun z =>
      119 ≤ z.wget WR.CAN_ERR_REC ∧ z.wget WR.CAN_ERR_REC ≤ 127 ∧ z.freeCnt = s.freeCnt + 1 ∧ z.wget WR.CAN_CNT_RX_LOST = min (s.wget WR.CAN_CNT_RX_LOST + 1) 255 ∧
      (s.wget WR.CAN_ERR_TEC ≤ 127 → z.wget WR.CAN_STATUS_ERR_STATE = 0)) ∧
    (s.canHears = false → Runs .canExtendedFrameRx s fun z => z = s)) ∧
  (∀ s : State,
    s.wget WR.CAN_ERR_REC ≤ 127 →
    (s.canTakes = true → s.won WR.DICT_OPT_NMT_RESET_APP = false → Runs .nmtResetNode s fun z =>
      z.nmt = 1 ∧ z.can = { s.can with node := s.wget WR.CAN_CFG_NODE_ID, objs := s.can.objs.filter fun x => decide (0x200000 ≤ x.1), sessions := [], rpdos := [], syncs := [], emcys := [], emcyAt := none, hbAt := s.now, timing := s.canTiming } ∧
      z.wget WR.CAN_STATUS_NODE_ID_ERR = b2n (s.wget WR.CAN_CFG_NODE_ID == 0) ∧
      z.out = s.out ++ (if s.wget WR.CAN_CFG_NODE_ID = 0 then [] else [.can (0x700 + s.wget WR.CAN_CFG_NODE_ID) [0]]) ∧
      OnlyRegs [WR.CAN_STATUS_NMT, WR.CAN_STATUS_NODE_ID_ERR, WR.CAN_ERR_REC] s z) ∧
    (s.canTakes = true → s.won WR.DICT_OPT_NMT_RESET_APP = true → s.sys.rst = none → 2 ≤ s.ws → Runs .nmtResetNode s fun z =>
      z.sys.rst = some ⟨false, 5, s.now, false⟩ ∧ z.can = s.can ∧ OnlyRegs [WR.CAN_ERR_REC] s z) ∧
    (s.canTakes = false → Runs .nmtResetNode s fun z => z = s) ∧
    (s.canHears = true → Runs .nmtResetCommunication s fun z =>
      z.nmt = 1 ∧ z.can = { s.can with node := s.wget WR.CAN_CFG_NODE_ID, objs := s.can.objs.filter fun x => decide (0x200000 ≤ x.1), sessions := [], rpdos := [], syncs := [], emcys := [], emcyAt := none, hbAt := s.now, timing := s.canTiming } ∧
      z.wget WR.CAN_STATUS_NODE_ID_ERR = b2n (s.wget WR.CAN_CFG_NODE_ID == 0) ∧
      z.out = s.out ++ (if s.wget WR.CAN_CFG_NODE_ID = 0 then [] else [.can (0x700 + s.wget WR.CAN_CFG_NODE_ID) [0]]) ∧
      OnlyRegs [WR.CAN_STATUS_NMT, WR.CAN_STATUS_NODE_ID_ERR, WR.CAN_ERR_REC] s z) ∧
    (s.canHears = false → Runs .nmtResetCommunication s fun z => z = s)) ∧
  (∀ s : State,
    (s.canOn = true → Runs .canAckError s fun z =>
      z.wget WR.CAN_ERR_NOACK_RUN = min (s.wget WR.CAN_ERR_NOACK_RUN + 1) 255 ∧ z.wget WR.CAN_CNT_NOACK = min (s.wget WR.CAN_CNT_NOACK + 1) 65535 ∧
      (s.wget WR.CAN_STATUS_ERR_STATE = 0 → z.wget WR.CAN_ERR_TEC = min (s.wget WR.CAN_ERR_TEC + 8) 511 ∧
        (255 < s.wget WR.CAN_ERR_TEC + 8 → z.wget WR.CAN_STATUS_ERR_STATE = 2 ∧ z.wget WR.CAN_STATUS_BUS_OFF_SEEN = 1) ∧
        (127 < s.wget WR.CAN_ERR_TEC + 8 → s.wget WR.CAN_ERR_TEC + 8 ≤ 255 → z.wget WR.CAN_STATUS_ERR_STATE = 1 ∧ z.wget WR.CAN_STATUS_PASSIVE_SEEN = 1) ∧
        (s.wget WR.CAN_ERR_TEC + 8 ≤ 127 → s.wget WR.CAN_ERR_REC ≤ 127 → z.wget WR.CAN_STATUS_ERR_STATE = 0)) ∧
      (s.wget WR.CAN_STATUS_ERR_STATE ≠ 0 → z.wget WR.CAN_ERR_TEC = s.wget WR.CAN_ERR_TEC ∧ z.wget WR.CAN_STATUS_ERR_STATE = s.wget WR.CAN_STATUS_ERR_STATE) ∧
      (s.wget WR.CAN_ERR_NOACK_RUN = 15 → s.solitary = false → z.solitary = true ∧ z.wget WR.CAN_STATUS_SOLITARY_SEEN = 1 ∧ z.can = { s.can with hbAt := s.now, emcys := [] }) ∧
      (s.wget WR.CAN_ERR_NOACK_RUN ≠ 15 → z.solitary = s.solitary ∧ z.can = s.can) ∧
      OnlyRegs [WR.CAN_ERR_NOACK_RUN, WR.CAN_CNT_NOACK, WR.CAN_ERR_TEC, WR.CAN_STATUS_ERR_STATE, WR.CAN_STATUS_BUS_OFF_SEEN, WR.CAN_STATUS_PASSIVE_SEEN,
        WR.CAN_STATUS_SOLITARY, WR.CAN_STATUS_SOLITARY_SEEN] s z) ∧
    (s.canOn = false → Runs .canAckError s fun z => z = s)) ∧
  (∀ (eight : Bool) (s : State),
    (s.canHears = true → s.canOn = true → Runs (.canBusError true eight) s fun z =>
      z.wget WR.CAN_ERR_TEC = min (s.wget WR.CAN_ERR_TEC + 8) 511 ∧ (255 < s.wget WR.CAN_ERR_TEC + 8 → z.wget WR.CAN_STATUS_ERR_STATE = 2) ∧
      OnlyRegs [WR.CAN_ERR_TEC, WR.CAN_STATUS_ERR_STATE, WR.CAN_STATUS_BUS_OFF_SEEN, WR.CAN_STATUS_PASSIVE_SEEN] s z) ∧
    (s.canHears = true → Runs (.canBusError false eight) s fun z =>
      z.wget WR.CAN_ERR_REC = min (s.wget WR.CAN_ERR_REC + if eight then 8 else 1) 255 ∧
      (s.wget WR.CAN_ERR_TEC ≤ 255 → 127 < s.wget WR.CAN_ERR_REC + (if eight then 8 else 1) → s.wget WR.CAN_STATUS_ERR_STATE = 0 →
        z.wget WR.CAN_STATUS_ERR_STATE = 1 ∧ z.wget WR.CAN_STATUS_PASSIVE_SEEN = 1) ∧
      OnlyRegs [WR.CAN_ERR_REC, WR.CAN_STATUS_ERR_STATE, WR.CAN_STATUS_BUS_OFF_SEEN, WR.CAN_STATUS_PASSIVE_SEEN] s z) ∧
    (s.canHears = true → s.canOn = false → Runs (.canBusError true eight) s fun z => z = s) ∧
    (∀ tx, s.canHears = false → Runs (.canBusError tx eight) s fun z => z = s)) ∧
  (∀ s : State,
    (s.wget WR.CAN_STATUS_ERR_STATE = 2 → Runs .busOffRecovery s fun z =>
      z.wget WR.CAN_STATUS_ERR_STATE = 0 ∧ z.wget WR.CAN_ERR_TEC = 0 ∧ z.wget WR.CAN_ERR_REC = 0 ∧ z.wget WR.CAN_CNT_BUS_OFF = min (s.wget WR.CAN_CNT_BUS_OFF + 1) 255 ∧
      OnlyRegs [WR.CAN_STATUS_ERR_STATE, WR.CAN_ERR_TEC, WR.CAN_ERR_REC, WR.CAN_CNT_BUS_OFF] s z) ∧
    (s.wget WR.CAN_STATUS_ERR_STATE ≠ 2 → Runs .busOffRecovery s fun z => z = s)) ∧
  (∀ (gap : Nat) (ack : Bool) (s : State),
    gap = (if s.solitary then Config.secTicks else s.canObj 0x1017 0 100 * Config.msTicks) →
    (s.canOn = true → s.pinsHeld = false → gap ≠ 0 → s.can.hbAt + gap ≤ s.now → Runs (.canHeartbeatSend ack) s fun z =>
      z.can.hbAt = s.now ∧
      z.out = s.out ++ [.can (0x700 + s.can.node) [if s.nmt = 2 then 5 else if s.nmt = 3 then 4 else 127]] ∧
      (ack = true → z.wget WR.CAN_ERR_NOACK_RUN = 0 ∧ z.solitary = false) ∧
      (ack = false → z.wget WR.CAN_ERR_NOACK_RUN = min (s.wget WR.CAN_ERR_NOACK_RUN + 1) 255)) ∧
    (s.canOn = false ∨ gap = 0 ∨ s.now < s.can.hbAt + gap → Runs (.canHeartbeatSend ack) s fun z => z = s))

/-- USDO access to the dictionary over CAN, the image domain and the warm reset object. A download of the
heartbeat time 0x1017 by a client with privilege stores it and is answered and counted; with a wrong length or
without privilege it is aborted with 0607 0010 or 0601 0000 and stores nothing; a first segment opens the
client's one session; an upload answers the object, an absent index is aborted with 0602 0000, a segment
without a session with 0504 0001; a session idle for more than a second is aborted with 0504 0000; a piece of
the image domain is written by an expert that no other client excludes, moves the offset and holds the
ownership, which ends after 10 s; WarmReset starts a warm reset once; a node that takes no USDO changes
nothing. (0x1017 and the offset stand for every object that the agent itself keeps.) -/
def Obligations.FieldNetworkAccess : Prop :=
  (∀ (node : Nat) (data us : List Nat) (ack : Bool) (s : State),
    s.wget WR.CAN_ERR_REC ≤ 127 → s.usdoTakes = true → s.ws ≠ 6 →
    (s.privOf (.can node) ≠ 0 → data.length = 2 → Runs (.usdoDownload node 0 0x1017 0 data us ack) s fun z =>
      z.can.objs = SMap.insert 0x101700 (ofLe data) s.can.objs ∧ z.out = s.out ++ [.usdo node 0x1017 0 [] none] ∧
      z.wget WR.DICT_CNT_REQUESTS = min (s.wget WR.DICT_CNT_REQUESTS + 1) 65535 ∧ z.wget WR.DICT_CNT_ABORTS = s.wget WR.DICT_CNT_ABORTS) ∧
    (s.privOf (.can node) ≠ 0 → data.length ≠ 2 → Runs (.usdoDownload node 0 0x1017 0 data us ack) s fun z =>
      z.can.objs = s.can.objs ∧ z.out = s.out ++ [.usdo node 0x1017 0 [] (some 0x06070010)] ∧ z.wget WR.DICT_LAST_ABORT = 0x06070010 ∧
      z.wget WR.DICT_CNT_ABORTS = min (s.wget WR.DICT_CNT_ABORTS + 1) 255) ∧
    (s.privOf (.can node) = 0 → Runs (.usdoDownload node 0 0x1017 0 data us ack) s fun z =>
      z.can.objs = s.can.objs ∧ z.out = s.out ++ [.usdo node 0x1017 0 [] (some 0x06010000)] ∧ z.wget WR.DICT_LAST_ABORT = 0x06010000 ∧
      z.wget WR.DICT_CNT_ABORTS = min (s.wget WR.DICT_CNT_ABORTS + 1) 255) ∧
    (∀ index sub, Runs (.usdoDownload node 1 index sub data us ack) s fun z =>
      z.can.sessions = (s.can.sessions.filter fun x => x.client != node) ++ [⟨node, false, index, sub, data, s.now⟩] ∧ z.can.objs = s.can.objs ∧ z.out = s.out)) ∧
  (∀ (node : Nat) (us : List Nat) (ack : Bool) (s : State),
    s.wget WR.CAN_ERR_REC ≤ 127 → s.usdoTakes = true →
    (Runs (.usdoUpload node 0 0x1017 0 us ack) s fun z =>
      z.out = s.out ++ [.usdo node 0x1017 0 (leBytes 2 (s.canObj 0x1017 0 100)) none] ∧ z.can.objs = s.can.objs ∧
      z.wget WR.DICT_CNT_REQUESTS = min (s.wget WR.DICT_CNT_REQUESTS + 1) 65535 ∧ z.wget WR.DICT_CNT_ABORTS = s.wget WR.DICT_CNT_ABORTS) ∧
    (Runs (.usdoUpload node 0 0x0FFF 0 us ack) s fun z =>
      z.out = s.out ++ [.usdo node 0x0FFF 0 [] (some 0x06020000)] ∧ z.wget WR.DICT_LAST_ABORT = 0x06020000) ∧
    (∀ index sub, s.session node = none → Runs (.usdoUpload node 1 index sub us ack) s fun z =>
      z.out = s.out ++ [.usdo node index sub [] (some 0x05040001)] ∧ z.wget WR.DICT_LAST_ABORT = 0x05040001)) ∧
  (∀ (node cmd index sub : Nat) (data us : List Nat) (ack : Bool) (s : State),
    s.usdoTakes = false → Runs (.usdoDownload node cmd index sub data us ack) s (fun z => z = s) ∧ Runs (.usdoUpload node cmd index sub us ack) s (fun z => z = s) ∧
      ∀ off, Runs (.imageDataWrite node off data us ack) s (fun z => z = s)) ∧
  (∀ (node : Nat) (u : Usdo) (s : State),
    (s.session node = none → Runs (.usdoTimeout node) s fun z => z = s) ∧
    (s.session node = some u → s.now ≤ u.since + Config.secTicks → Runs (.usdoTimeout node) s fun z => z = s) ∧
    (s.session node = some u → u.since + Config.secTicks < s.now → Runs (.usdoTimeout node) s fun z =>
      z.can = { s.can with sessions := s.can.sessions.filter fun x => x.client != node } ∧ z.wget WR.DICT_LAST_ABORT = 0x05040000 ∧
      z.wget WR.DICT_CNT_ABORTS = min (s.wget WR.DICT_CNT_ABORTS + 1) 255 ∧
      (s.canOn = true → s.pinsHeld = false → z.out = s.out ++ [.usdo node u.index u.sub [] (some 0x05040000)]) ∧
      OnlyRegs [WR.DICT_CNT_REQUESTS, WR.DICT_CNT_ABORTS, WR.DICT_LAST_ABORT] s z)) ∧
  (∀ (node off : Nat) (data us : List Nat) (ack : Bool) (s u w : State),
    u = s.canHeard.modCan (fun c => { c with objs := SMap.insert (0x2501 * 256 + 1) off c.objs }) →
    u.writeParts (State.pieceParts (data.length + 1) (0x20F80000 + off) data.length) data (upsetsOf us) = (.ok [], w) →
    s.wget WR.CAN_ERR_REC ≤ 127 → s.usdoTakes = true → 2 ≤ s.privOf (.can node) → s.isOpen = true → s.imageOwner = none ∨ s.imageOwner = some (.can node) →
    off + data.length ≤ 524288 → data.length ≤ 65536 →
    Runs (.imageDataWrite node off data us ack) s fun z =>
      z.mem = w.mem ∧ z.canObj 0x2501 1 0 = off + data.length ∧ (off = 0 ∨ s.imageOwner = some (.can node) → z.can.owner = some (.can node, s.now))) ∧
  (∀ (c : Client) (t : Nat) (s : State),
    (s.can.owner = some (c, t) → t + 10 * Config.secTicks ≤ s.now → Runs .imageOwnerTimeout s fun z => z = { s with can := { s.can with owner := none } }) ∧
    (s.can.owner = some (c, t) → s.now < t + 10 * Config.secTicks → Runs .imageOwnerTimeout s fun z => z = s) ∧
    (s.can.warm = true → s.sys.rst = none → 2 ≤ s.ws → Runs .dictWarmReset s fun z =>
      z = { s with can := { s.can with warm := false }, sys := { s.sys with rst := some ⟨false, 8, s.now, false⟩ } }) ∧
    (s.can.warm = false → Runs .dictWarmReset s fun z => z = s))

/-- Process data over CAN: RPDOs, SYNC and TPDOs. An RPDO in Operational writes the object it maps at once, or for
a synchronous type at the next SYNC; in another NMT state, with too few bytes or at a node that takes nothing
it writes nothing; a TPDO whose event timer and inhibit time have run leaves with its COB-ID and the bytes of
the object it maps, is withheld and marked TPDO_LOST while the node is solitary, and does not leave before it
is due. (The mapping stated is one entry, the heartbeat time 0x1017 of 16 bits.) -/
def Obligations.ProcessData : Prop :=
  (∀ (n : Nat) (data : List Nat) (s : State),
    s.canObj (0x1600 + n) 0 0 = 1 → s.canObj (0x1600 + n) 1 0 = 0x10170010 → s.canObj (0x1400 + n) 1 (0x200 + 0x100 * n + s.can.node) / 2 ^ 31 % 2 ≠ 1 → s.ws ≠ 6 →
    (s.canTakes = true → s.wget WR.CAN_ERR_REC ≤ 127 → s.nmt = 2 → 2 ≤ data.length →
      (240 < s.canObj (0x1400 + n) 2 255 → Runs (.canRpdoRx n data) s fun z =>
        z.can = { s.can with objs := SMap.insert 0x101700 (ofLe (data.take 2)) s.can.objs } ∧ z.out = s.out ∧ OnlyRegs [WR.CAN_ERR_REC] s z) ∧
      (s.canObj (0x1400 + n) 2 255 ≤ 240 → Runs (.canRpdoRx n data) s fun z =>
        z.can = { s.can with rpdos := SMap.insert n data s.can.rpdos } ∧ z.out = s.out ∧ OnlyRegs [WR.CAN_ERR_REC] s z)) ∧
    (s.canTakes = true → s.wget WR.CAN_ERR_REC ≤ 127 → s.nmt ≠ 2 ∨ data.length < 2 → Runs (.canRpdoRx n data) s fun z =>
      z.can = s.can ∧ z.out = s.out ∧ OnlyRegs [WR.CAN_ERR_REC] s z) ∧
    (s.canTakes = false → Runs (.canRpdoRx n data) s fun z => z = s) ∧
    (∀ ack, n < 4 → s.canTakes = true → s.wget WR.CAN_ERR_REC ≤ 127 → s.can.rpdos = [(n, data)] →
      (∀ k < 4, s.canObj (0x1800 + k) 2 255 = 0 ∨ 240 < s.canObj (0x1800 + k) 2 255) → Runs (.canSyncRx ack) s fun z =>
        z.can = { s.can with objs := SMap.insert 0x101700 (ofLe (data.take 2)) s.can.objs, rpdos := [] } ∧ z.out = s.out ∧ OnlyRegs [WR.CAN_ERR_REC] s z)) ∧
  (∀ (ack : Bool) (s : State), s.canTakes = false → Runs (.canSyncRx ack) s fun z => z = s) ∧
  (∀ (n timer gap : Nat) (ack : Bool) (s : State),
    timer = s.canObj (0x1800 + n) 5 0 * Config.msTicks → gap = s.canObj (0x1800 + n) 3 0 * 100 * Config.usTicks →
    (s.canObj (0x1800 + n) 2 255 < 254 ∨ timer = 0 ∨ s.now < SMap.getD 0 n s.can.tpdoAt + max timer gap → Runs (.tpdoEvent n ack) s fun z => z = s) ∧
    (254 ≤ s.canObj (0x1800 + n) 2 255 → timer ≠ 0 → SMap.getD 0 n s.can.tpdoAt + max timer gap ≤ s.now →
      s.canObj (0x1800 + n) 1 (0x180 + 0x100 * n + s.can.node) / 2 ^ 31 % 2 ≠ 1 → s.canObj (0x1A00 + n) 0 0 = 1 → s.canObj (0x1A00 + n) 1 0 = 0x10170010 →
      s.canObj 0x2023 (n + 1) 0xFFFF = 0xFFFF → s.nmt = 2 → s.canOn = true → s.pinsHeld = false →
      (s.solitary = false → Runs (.tpdoEvent n ack) s fun z =>
        z.out = s.out ++ [.can (s.canObj (0x1800 + n) 1 (0x180 + 0x100 * n + s.can.node) % 2048) (leBytes 2 (s.canObj 0x1017 0 100))] ∧
        SMap.find n z.can.tpdoAt = some s.now ∧ z.can.objs = s.can.objs) ∧
      (s.solitary = true → Runs (.tpdoEvent n ack) s fun z =>
        z.out = s.out ∧ z.wget WR.CAN_STATUS_TPDO_LOST = 1 ∧ SMap.find n z.can.tpdoAt = some s.now ∧ OnlyRegs [WR.CAN_STATUS_TPDO_LOST] s z)))

/-- The order of the checks of a dictionary access, and requests in band. An access is aborted by the first check
that fails: object and sub, privilege, direction, state, owner of the image domain, length, range. A READ or
WRITE in queue 11 that repeats a kept request of its client is answered by the kept response; else its access
is made, counted, and answered with its tag, index, sub and offset, or with the abort code, and the response
is kept; an RPDO number below 4 is applied and any other ignored; a malformed packet is counted and not
answered; without such a packet nothing happens. -/
def Obligations.InBandDictionary : Prop :=
  (∀ (c : Client) (write : Bool) (index sub : Nat) (piece : Option (Nat × Nat)) (data : List Nat) (us : List Upset) (e : Nat) (s : State),
    s.findObj index sub write (piece.map (·.1)) = .error e → s.access c write index sub piece data us = (.abort e, s)) ∧
  (∀ (c : Client) (write : Bool) (index sub : Nat) (piece : Option (Nat × Nat)) (data : List Nat) (us : List Upset) (o : Obj) (s : State),
    s.findObj index sub write (piece.map (·.1)) = .ok o →
    (s.privOf c < (if write then o.wp else o.rp) → s.access c write index sub piece data us = (.abort 0x06010000, s)) ∧
    ((if write then o.wp else o.rp) ≤ s.privOf c →
      (write = false → o.rd = false → s.access c write index sub piece data us = (.abort 0x06010001, s)) ∧
      (write = true → o.wr = false → s.access c write index sub piece data us = (.abort 0x06010002, s)) ∧
      ((if write then o.wr else o.rd) = true →
        (s.stateCheck index sub o write = false → s.access c write index sub piece data us = (.abort 0x08000022, s)) ∧
        (s.stateCheck index sub o write = true → s.owned c index sub write = true → s.access c write index sub piece data us = (.abort 0x08000020, s)) ∧
        (s.stateCheck index sub o write = true → s.owned c index sub write = false →
          (∀ base size off n, o.body = .domain base size → piece = some (off, n) → write = true → data.length ≤ 65536 → size < off + data.length →
            s.access c write index sub piece data us = (.abort 0x06090030, s)) ∧
          (∀ d, o.body = .kept d → write = true →
            (data.length ≠ o.size → s.access c write index sub piece data us = (.abort 0x06070010, s)) ∧
            (∀ e, data.length = o.size → s.rangeCheck index sub (ofLe data) o = some e → s.access c write index sub piece data us = (.abort e, s)) ∧
            (data.length = o.size → s.rangeCheck index sub (ofLe data) o = none → index ≠ 0x2502 →
              s.access c write index sub piece data us = (.ok [], { s with can := { s.can with objs := SMap.insert (index * 256 + sub) (ofLe data) s.can.objs } }))))))) ∧
  (∀ (err : Nat) (us : List Nat) (s : State),
    (s.dictHas 0x01 = false → Runs (.dictRead err us) s fun z => z = s) ∧ (s.dictHas 0x02 = false → Runs (.dictWrite err us) s fun z => z = s) ∧
    (s.dictHas 0x11 = false → Runs (.rpdoInband err) s fun z => z = s)) ∧
  (∀ (err k : Nat) (us b : List Nat) (u : UdpIn) (s t : State),
    s.dictHead = some (k, b, u) → State.headBroken (s.queue 11).words = false → s.takeRequest err (s.queue 11).words.length = (false, t) →
    (s.dictHas 0x01 = true → State.dictOp u = some 0x01 →
      (∀ x, (t.can.kept.find? fun x => x.addr == u.src && x.udp == u.sport && x.request == u.data) = some x → Runs (.dictRead err us) s fun z => z = t.sendTo k b x.response) ∧
      (∀ l w, (t.can.kept.find? fun x => x.addr == u.src && x.udp == u.sport && x.request == u.data) = none →
        t.access (.inband k b u.src u.sport u.data) false (ofBe ((u.data.drop 6).take 2)) (u.data.getD 8 0) (some (ofBe ((u.data.drop 12).take 4), ofBe ((u.data.drop 10).take 2))) [] (upsetsOf us) = (.ok l, w) →
        Runs (.dictRead err us) s fun z => ∃ m, m = [0xC5, 0xA2, 0x10, 0x81] ++ beBytes 2 (ofBe ((u.data.drop 4).take 2)) ++ beBytes 2 (ofBe ((u.data.drop 6).take 2)) ++ [u.data.getD 8 0, 0] ++ beBytes 2 l.length ++ beBytes 4 (ofBe ((u.data.drop 12).take 4)) ++ l ∧
          z = ((w.wadd WR.DICT_CNT_REQUESTS 1).keep u.src u.sport u.data m).sendTo k b m) ∧
      (∀ e w, (t.can.kept.find? fun x => x.addr == u.src && x.udp == u.sport && x.request == u.data) = none →
        t.access (.inband k b u.src u.sport u.data) false (ofBe ((u.data.drop 6).take 2)) (u.data.getD 8 0) (some (ofBe ((u.data.drop 12).take 4), ofBe ((u.data.drop 10).take 2))) [] (upsetsOf us) = (.abort e, w) →
        Runs (.dictRead err us) s fun z => ∃ m, m = [0xC5, 0xA2, 0x10, 0xFF] ++ beBytes 2 (ofBe ((u.data.drop 4).take 2)) ++ beBytes 2 (ofBe ((u.data.drop 6).take 2)) ++ [u.data.getD 8 0, 0] ++ beBytes 2 0 ++ beBytes 4 e ∧
          z = ((((w.wadd WR.DICT_CNT_REQUESTS 1).wadd WR.DICT_CNT_ABORTS 1).wset WR.DICT_LAST_ABORT e).keep u.src u.sport u.data m).sendTo k b m)) ∧
    (s.dictHas 0x02 = true → State.dictOp u = some 0x02 →
      (∀ l w, (t.can.kept.find? fun x => x.addr == u.src && x.udp == u.sport && x.request == u.data) = none →
        t.access (.inband k b u.src u.sport u.data) true (ofBe ((u.data.drop 6).take 2)) (u.data.getD 8 0) (some (ofBe ((u.data.drop 12).take 4), ofBe ((u.data.drop 10).take 2))) (u.data.drop 16) (upsetsOf us) = (.ok l, w) →
        Runs (.dictWrite err us) s fun z => ∃ m, m = [0xC5, 0xA2, 0x10, 0x82] ++ beBytes 2 (ofBe ((u.data.drop 4).take 2)) ++ beBytes 2 (ofBe ((u.data.drop 6).take 2)) ++ [u.data.getD 8 0, 0] ++ beBytes 2 l.length ++ beBytes 4 (ofBe ((u.data.drop 12).take 4)) ++ l ∧
          z = ((w.wadd WR.DICT_CNT_REQUESTS 1).keep u.src u.sport u.data m).sendTo k b m)) ∧
    (s.dictHas 0x11 = true → State.dictOp u = some 0x11 →
      (ofBe ((u.data.drop 6).take 2) < 4 → Runs (.rpdoInband err) s fun z => z = t.rpdo (ofBe ((u.data.drop 6).take 2)) (u.data.drop 16)) ∧
      (4 ≤ ofBe ((u.data.drop 6).take 2) → Runs (.rpdoInband err) s fun z => z = t)) ∧
    (State.dictOp u = none →
      (s.dictHas 0x01 = true → Runs (.dictRead err us) s fun z => z = t.wadd WR.DICT_CNT_MALFORMED 1) ∧
      (s.dictHas 0x02 = true → Runs (.dictWrite err us) s fun z => z = t.wadd WR.DICT_CNT_MALFORMED 1) ∧
      (s.dictHas 0x11 = true → Runs (.rpdoInband err) s fun z => z = t.wadd WR.DICT_CNT_MALFORMED 1)))

/-- A step runs the command at the front of the queue. For every command c and state s whose queue begins with c,
step s is exec c on s with the queue's rest; where exec answers a next state, that state keeps the rest of the
queue as it is. That the waiting commands form a queue is the model's interface, not a rule of the spec (log
entry 1). -/
def Obligations.StepRunsFront : Prop :=
  (∀ (c : Instr) (r : List Instr) (s : State), s.pending = c :: r → step s = exec c { s with pending := r }) ∧
  (∀ (c : Instr) (r : List Instr) (s t : State), s.pending = c :: r → step s = .next t → t.pending = r)

/-- What reset leaves, and a tick on an empty queue. The state after reset is canonical, waits for no command, and
holds every register field of Wonan and of every Tladon at the reset value of its table; every Tladon is
POWERED and unpowered by its supply; SYS_STATE shows SELF_TEST; every core has its registers and pc at 0. On
an empty queue a step lets one tick of the fabric clock pass and changes nothing else. The tick on an empty
queue, the part fitted and the register values no table gives are the model's choices (log entries 1, 3 and
4). -/
def Obligations.ResetState : Prop :=
  (State.reset.Canon ∧ State.reset.pending = [] ∧ State.reset.ws = 1 ∧ State.reset.variant = 1) ∧
  (∀ f : Fld, State.reset.wget f = f.reset ∧ ∀ p, (State.reset.tladon p).get f = f.reset) ∧
  (∀ p, (State.reset.tladon p).state = 0 ∧ (State.reset.tladon p).powered = false ∧ (State.reset.tladon p).obeyed = none) ∧
  (∀ n, n < 4 → (State.reset.core n).pc = 0 ∧ (State.reset.core n).x = List.replicate 32 0 ∧ (State.reset.core n).user = false) ∧
  (∀ s : State, s.pending = [] → step s = .next { s with now := s.now + 1 })

/-- From every state a step answers a next state and leaves the block in order. For every state s whatever, step s
answers a next state t: no command of the table stops the block. If the memory and the register file of s are
canonical (addresses strictly rising, no zero byte listed, fields strictly rising by bit address), those of t
are; what had left the pins and links is still the beginning of what has left them; and free values are taken
in order. The canonical form, the list of what left the pins and the free values are the model's (log entries
2, 5 and 8). -/
def Obligations.EveryStepCompletesInOrder : Prop :=
  ∀ s : State, ∃ t, step s = .next t ∧ Orderly s t

/-- No command changes a part of the state outside its own. For every command c, every state s and every operand,
exec c s answers a next state in which every part of the state outside the list that `touches` gives c is as
before: Meridian, triangulation, lanes, ports, the Muster, compression, egress, protected memory, the
scheduler, the cores, mailboxes, the pair, the field network, the environment block, power, debug, the TAPs
and the Tladons each answer only to the commands listed for them, and no command changes the queue of
commands, the time, or the part fitted, its address straps apart. -/
def Obligations.CommandsTouchOnlyTheirParts : Prop :=
  (∀ (c : Instr) (s : State), ∃ t, exec c s = .next t ∧ OnlyParts (touches c) s t) ∧
  (∀ (c : Instr) (s t : State), exec c s = .next t →
    t.pending = s.pending ∧ t.now = s.now ∧ t.variant = s.variant ∧ t.canid = s.canid)

/-- A command of one Tladon leaves every other Tladon alone, and other commands leave them all alone. A command
that addresses the Tladon of port p changes no other Tladon, and of that Tladon only the parts that
`tlTouches` lists for the command; a command that addresses no Tladon changes none, the reset of the whole
board apart; and a Tladon keeps its supply, its part number and its straps through every command but the
release of its power-on reset and the drop of its supply. -/
def Obligations.TladonCommandsStayInTheirTladon : Prop :=
  (∀ (c : Instr) (p : Nat) (s t : State), tlPort c = some p → exec c s = .next t →
    (∀ q, q ≠ p → t.tladon q = s.tladon q) ∧ OnlyTlParts (tlTouches c) (s.tladon p) (t.tladon p)) ∧
  (∀ (c : Instr) (s t : State), tlPort c = none → c ≠ .resetAssert → exec c s = .next t → ∀ q, t.tladon q = s.tladon q) ∧
  (∀ (c : Instr) (p : Nat) (s t : State), tlPort c = some p → (∀ q, c ≠ .tladonPorRelease q) → (∀ q, c ≠ .tladonRailDrop q) →
    exec c s = .next t →
    (t.tladon p).powered = (s.tladon p).powered ∧ (t.tladon p).tl512t = (s.tladon p).tl512t ∧ (t.tladon p).straps = (s.tladon p).straps)

/-- A stored word reads back, other bytes are as before, and a canonical memory is what it reads as. After a
little-endian store of n bytes at an address, a load of n bytes there gives the value cut to n bytes, every
byte outside those n reads as before, and a canonical memory stays canonical; two canonical memories that read
alike at every address are the same data. That an address nothing has written reads 0 is the model's choice
(log entry 8). -/
def Obligations.MemoryReadsWhatWasWritten : Prop :=
  (∀ (a n v : Nat) (s : State),
    (s.store a n v).load a n = v % 256 ^ n ∧ OnlyBytes a n s (s.store a n v) ∧ OnlyParts [.mem] s (s.store a n v)) ∧
  (∀ (a n v : Nat) (s : State), Memory.wf s.mem = true → Memory.wf (s.store a n v).mem = true) ∧
  (∀ s t : State, Memory.wf s.mem = true → Memory.wf t.mem = true → (∀ a, s.byte a = t.byte a) → s.mem = t.mem)

/-- What a write and a clearing read do to each field, by its access code. A write to a register stores its bits
in every RW field, in an RWA field only in HELD or ADMITTED, clears the bits of a W1C field where it has a 1,
and leaves RO, WO and RC fields; no field outside the register reads differently and nothing but the register
file changes; an address that names no register ignores the write. A read at the normal address returns every
RC field of the register to its reset value and leaves the others. Reserved bits and WO fields read 0: the
word read is the sum of the readable fields at their places. -/
def Obligations.AccessCodes : Prop :=
  (∀ (a v : Nat) (fs : List Fld) (f : Fld) (s : State),
    regAt WR.rows a = some fs → f ∈ fs →
    (f.acc = .rw → (s.wstore a v).wget f = bits f.hi f.lo v) ∧
    (f.acc = .rwa → (s.wstore a v).wget f = if s.isOpen then bits f.hi f.lo v else s.wget f) ∧
    (f.acc = .w1c → s.wget f < f.size → (s.wstore a v).wget f = s.wget f &&& (f.size - 1 - bits f.hi f.lo v)) ∧
    (f.acc = .ro ∨ f.acc = .wo ∨ f.acc = .rc → (s.wstore a v).wget f = s.wget f)) ∧
  (∀ (a v : Nat) (fs : List Fld) (s : State),
    regAt WR.rows a = some fs → OnlyRegs fs s (s.wstore a v) ∧ OnlyParts [.wr] s (s.wstore a v)) ∧
  (∀ (a v : Nat) (s : State), regAt WR.rows a = none → s.wstore a v = s) ∧
  (∀ (a : Nat) (fs : List Fld) (f : Fld) (s : State),
    regAt WR.rows a = some fs → f ∈ fs →
    ({ s with wr := s.wr.clearRC fs }).wget f = if f.acc = .rc then f.reset else s.wget f) ∧
  (∀ (a : Nat) (fs : List Fld) (s : State), regAt WR.rows a = some fs →
    s.wr.word fs = (fs.map fun f => if f.acc = .wo then 0 else s.wget f * 2 ^ f.lo).sum)

/-- The extension of a Tladon tick is the one congruent value in the window around Wonan's tick. For every state
and every 42-bit tick T, the extended value is congruent to T modulo 2^42 and lies in [W_now − 2^41, W_now +
2^41), where W_now is Wonan's tick count, and every value with these two properties is the extended value.
With W_now from 2^41 to below 2^64 − 2^41 it fits 64 bits. -/
def Obligations.TickExtension : Prop :=
  (∀ (t : Nat) (s : State),
    (s.ext42 t) % 2 ^ 42 = (t : Int) % 2 ^ 42 ∧ (s.tick : Int) - 2 ^ 41 ≤ s.ext42 t ∧ s.ext42 t < (s.tick : Int) + 2 ^ 41) ∧
  (∀ (t : Nat) (x : Int) (s : State),
    x % 2 ^ 42 = (t : Int) % 2 ^ 42 → (s.tick : Int) - 2 ^ 41 ≤ x → x < (s.tick : Int) + 2 ^ 41 → s.ext42 t = x) ∧
  (∀ (t : Nat) (s : State), 2 ^ 41 ≤ s.tick → s.tick ≤ 2 ^ 64 - 2 ^ 41 → 0 ≤ s.ext42 t ∧ s.ext42 t < 2 ^ 64)

/-- A step of a second or more in MER_STEP_NS is ignored. For every state and every value whose magnitude as a
signed 32-bit number is 1,000,000,000 or more, MER_STEP_NS_WRITE answers the state unchanged, and a
REGISTER_WRITE of that value at the register's address by any agent completes and leaves the register file and
Meridian as they were. -/
def Obligations.StepNanosecondsOutOfRange : Prop :=
  (∀ (v : Nat) (s : State), 1000000000 ≤ (signed 32 v).natAbs → exec (.merStepNsWrite v) s = .next s) ∧
  (∀ (g v : Nat) (s : State), 1000000000 ≤ (signed 32 v).natAbs →
    ∃ t, exec (.registerWrite g WR.MER_STEP_NS v) s = .next t ∧ t.wr = s.wr ∧ t.mer = s.mer)

/-- A transmit stamp that arrives at 16 waiting entries is discarded and counted. When the entries that have not
aged out number 16 or more, a stamp that arrives leaves them as they are, sets QUEUE_OVF and counts one in
DROPPED, which stops at its largest value; nothing else of Meridian changes. -/
def Obligations.TransmitStampQueueFull : Prop :=
  ∀ (p id fine : Nat) (s : State), 16 ≤ (s.mer.txts.filter fun x => decide (s.now < x.arrived + s.txAge)).length →
    Runs (.txStampCapture p id fine) s fun z =>
      z.mer = { s.mer with txts := s.mer.txts.filter fun x => decide (s.now < x.arrived + s.txAge) } ∧
      z.wget WR.MER_STATUS_QUEUE_OVF = 1 ∧
      z.wget WR.MER_TXTS_CNT_DROPPED = min (s.wget WR.MER_TXTS_CNT_DROPPED + 1) 255

/-- The parameters of an alarm are locked while its EN is 1. For every alarm n with EN = 1, every one of its five
parameter registers and every value, MER_ALARM_PARAM_WRITE answers the state unchanged, and a REGISTER_WRITE
at the register's address by any agent completes and leaves the register file and Meridian as they were. -/
def Obligations.AlarmParametersLocked : Prop :=
  (∀ (n r v : Nat) (s : State), s.wget (WR.MER_ALM_CTRL_EN n) = 1 → 1 ≤ r → r ≤ 5 → exec (.merAlarmParamWrite n r v) s = .next s) ∧
  (∀ (g n a v : Nat) (s : State),
    n < 8 → s.wget (WR.MER_ALM_CTRL_EN n) = 1 →
    a ∈ [WR.MER_ALM_SEC n, WR.MER_ALM_NS n, WR.MER_ALM_PERIOD_NS n, WR.MER_ALM_PMASK_LO n, WR.MER_ALM_PMASK_HI n] →
    ∃ t, exec (.registerWrite g a v) s = .next t ∧ t.wr = s.wr ∧ t.mer = s.mer)

/-- START and ARM are obeyed only in CONFIGURED and ACQUIRING. In every state of Tladon other than CONFIGURED (2)
and ACQUIRING (3), SURVEY_START and SURVEY_ARM leave that Tladon as it was; in CONFIGURED and ACQUIRING, with
a source, no configuration error and no open gate, START opens a gate at the next tick and ARM with a start
tick ahead arms it. -/
def Obligations.SurveyObeysInTwoStates : Prop :=
  (∀ p s, (s.tladon p).state ≠ 2 → (s.tladon p).state ≠ 3 →
    TlRuns (.surveyStart p) p s (fun u => u = s.tladon p) ∧ TlRuns (.surveyArm p) p s (fun u => u = s.tladon p)) ∧
  (∀ p s, ((s.tladon p).state = 2 ∨ (s.tladon p).state = 3) → (s.tladon p).get TR.SURVEY_CFG_SRC ≠ 3 →
    (s.tladon p).get TR.SURVEY_STATUS_CFG_ERR = 0 → (s.tladon p).gate = none →
    TlRuns (.surveyStart p) p s (fun u => u.gate.map (·.t0) = some (s.now + 1) ∧ u.get TR.SURVEY_STATUS_BUSY = 1) ∧
    (0 < Tladon.dist (s.tladon p).startTick ((s.tladon p).count s.now) →
      TlRuns (.surveyArm p) p s (fun u => u.arm = some (s.tladon p).startTick)))

/-- Data words of a full mailbox ignore writes, and reading them changes nothing. For each of the 16 mailboxes and
each of its 8 data words: while FULL = 1, MBX_DATA_WRITE of any agent and value leaves the data words and sets
WR_REFUSED, and a REGISTER_WRITE of the word leaves the data words; with FULL = 0 the word takes the value;
and a REGISTER_READ of the word by any agent, whatever the mailbox holds, completes with the register file,
the mailboxes and the latched companions as they were. -/
def Obligations.MailboxDataWhileFull : Prop :=
  (∀ (g m j v : Nat) (s : State), m < 16 → j < 8 → s.wget (WR.MBX_STATUS_FULL m) = 1 →
    Runs (.mbxDataWrite g m j v) s fun z =>
      z.wget (WR.MBX_STATUS_WR_REFUSED m) = 1 ∧ (∀ k, k < 8 → z.wget (WR.MBX_DATA_DATA m k) = s.wget (WR.MBX_DATA_DATA m k)) ∧
      z.mbx = s.mbx) ∧
  (∀ (g m j v : Nat) (s : State), m < 16 → j < 8 → s.wget (WR.MBX_STATUS_FULL m) = 1 →
    Runs (.registerWrite g (WR.MBX_DATA m j) v) s fun z =>
      (∀ k, k < 8 → z.wget (WR.MBX_DATA_DATA m k) = s.wget (WR.MBX_DATA_DATA m k)) ∧ z.mbx = s.mbx) ∧
  (∀ (g m j v : Nat) (s : State), m < 16 → j < 8 → s.wget (WR.MBX_STATUS_FULL m) = 0 →
    Runs (.mbxDataWrite g m j v) s fun z =>
      z.wget (WR.MBX_DATA_DATA m j) = v % 2 ^ 32 ∧ OnlyRegs [WR.MBX_DATA_DATA m j] s z) ∧
  (∀ (g m j e : Nat) (s : State), m < 16 → j < 8 → e < 2 →
    Runs (.registerRead g (WR.MBX_DATA m j) e) s fun z => z.wr = s.wr ∧ z.mbx = s.mbx ∧ z.held = s.held)
end

