-- ==== Sys2Proof/Laws/Maps.lean ====
section
/-! SUPPORT. Sparse maps and register files: what is read after a write, and that the canonical form stays. -/

namespace Sys2Proof

namespace SMap

variable {α : Type}

/-- A stored value is found. -/
@[simp] theorem find_insert_self (k : Nat) (v : α) (m : SMap α) : find k (insert k v m) = some v := by
  induction m with
  | nil => simp [insert, find]
  | cons p m ih =>
    obtain ⟨a, w⟩ := p
    unfold insert
    split
    · simp [find]
    · split
      · simp [find]
      · rename_i h1 h2
        have : a ≠ k := fun h => h2 h.symm
        simp [find, this, ih]

/-- A store leaves the other keys alone. -/
theorem find_insert_other {j k : Nat} (h : j ≠ k) (v : α) (m : SMap α) : find j (insert k v m) = find j m := by
  induction m with
  | nil => simp [insert, find, h.symm]
  | cons p m ih =>
    obtain ⟨a, w⟩ := p
    unfold insert
    split
    · simp [find, h.symm]
    · split
      · rename_i h2
        subst h2
        simp [find, h.symm]
      · simp only [find, ih]

/-- An erased key is not found. -/
@[simp] theorem find_erase_self (k : Nat) (m : SMap α) : find k (erase k m) = none := by
  induction m with
  | nil => simp [erase, find]
  | cons p m ih =>
    obtain ⟨a, w⟩ := p
    unfold erase
    split
    · exact ih
    · rename_i h
      simp [find, h, ih]

/-- An erasure leaves the other keys alone. -/
theorem find_erase_other {j k : Nat} (h : j ≠ k) (m : SMap α) : find j (erase k m) = find j m := by
  induction m with
  | nil => simp [erase, find]
  | cons p m ih =>
    obtain ⟨a, w⟩ := p
    unfold erase
    split
    · rename_i h2
      subst h2
      simp [find, h.symm, ih]
    · simp only [find, ih]

/-- A stored value is read. -/
@[simp] theorem getD_insert_self (d : α) (k : Nat) (v : α) (m : SMap α) : getD d k (insert k v m) = v := by
  simp [getD]

/-- A store leaves the other keys' values alone. -/
theorem getD_insert_other {j k : Nat} (h : j ≠ k) (d v : α) (m : SMap α) : getD d j (insert k v m) = getD d j m := by
  simp [getD, find_insert_other h]

/-- A changed value is read. -/
@[simp] theorem getD_modify_self (d : α) (k : Nat) (f : α → α) (m : SMap α) :
    getD d k (modify d k f m) = f (getD d k m) := by
  simp [modify]

/-- A change leaves the other keys' values alone. -/
theorem getD_modify_other {j k : Nat} (h : j ≠ k) (d : α) (f : α → α) (m : SMap α) :
    getD d j (modify d k f m) = getD d j m := by
  simp [modify, getD_insert_other h]

/-- The entries of a map after a store are those before it and the new one. -/
theorem mem_insert {k : Nat} {v : α} {m : SMap α} {p : Nat × α} (h : p ∈ insert k v m) : p = (k, v) ∨ p ∈ m := by
  induction m with
  | nil => simpa [insert] using h
  | cons q m ih =>
    obtain ⟨a, w⟩ := q
    unfold insert at h
    split at h
    · simpa using h
    · split at h
      · rcases List.mem_cons.1 h with h | h
        · exact .inl h
        · exact .inr (List.mem_cons_of_mem _ h)
      · rcases List.mem_cons.1 h with h | h
        · exact .inr (h ▸ List.mem_cons_self)
        · exact (ih h).imp id (List.mem_cons_of_mem _)

/-- The entries of a map after an erasure were there before it. -/
theorem mem_erase {k : Nat} {m : SMap α} {p : Nat × α} (h : p ∈ erase k m) : p ∈ m := by
  induction m with
  | nil => simp [erase] at h
  | cons q m ih =>
    obtain ⟨a, w⟩ := q
    unfold erase at h
    split at h
    · exact List.mem_cons_of_mem _ (ih h)
    · rcases List.mem_cons.1 h with h | h
      · exact h ▸ List.mem_cons_self
      · exact List.mem_cons_of_mem _ (ih h)

/-- Sortedness, entry by entry. -/
theorem sorted_cons {p : Nat × α} {m : SMap α} : sorted (p :: m) = true ↔ (∀ q ∈ m, p.1 < q.1) ∧ sorted m = true := by
  simp [sorted]

/-- A store keeps the keys strictly rising. -/
theorem sorted_insert (k : Nat) (v : α) {m : SMap α} (h : sorted m = true) : sorted (insert k v m) = true := by
  induction m with
  | nil => simp [insert, sorted]
  | cons p m ih =>
    obtain ⟨a, w⟩ := p
    obtain ⟨h1, h2⟩ := sorted_cons.1 h
    unfold insert
    split
    · rename_i hk
      refine sorted_cons.2 ⟨fun q hq => ?_, h⟩
      rcases List.mem_cons.1 hq with rfl | hq
      · exact hk
      · exact Nat.lt_trans hk (h1 q hq)
    · split
      · rename_i hk
        subst hk
        exact sorted_cons.2 ⟨h1, h2⟩
      · refine sorted_cons.2 ⟨fun q hq => ?_, ih h2⟩
        rcases mem_insert hq with rfl | hq
        · show a < k
          omega
        · exact h1 q hq

/-- An erasure keeps the keys strictly rising. -/
theorem sorted_erase (k : Nat) {m : SMap α} (h : sorted m = true) : sorted (erase k m) = true := by
  induction m with
  | nil => simp [erase, sorted]
  | cons p m ih =>
    obtain ⟨a, w⟩ := p
    obtain ⟨h1, h2⟩ := sorted_cons.1 h
    unfold erase
    split
    · exact ih h2
    · exact sorted_cons.2 ⟨fun q hq => h1 q (mem_erase hq), ih h2⟩

/-- A selection of entries keeps the keys strictly rising. -/
theorem sorted_filter (f : Nat × α → Bool) {m : SMap α} (h : sorted m = true) : sorted (m.filter f) = true := by
  induction m with
  | nil => simp [sorted]
  | cons p m ih =>
    obtain ⟨h1, h2⟩ := sorted_cons.1 h
    rw [List.filter_cons]
    split
    · exact sorted_cons.2 ⟨fun q hq => h1 q (List.mem_filter.1 hq).1, ih h2⟩
    · exact ih h2

end SMap

namespace RegFile

/-- A stored field reads what was stored, cut to its width. -/
@[simp] theorem get_set_self (f : Fld) (v : Nat) (m : RegFile) : get f (set f v m) = v % f.size := by
  unfold set get
  split
  · rename_i h
    rw [SMap.find_erase_self]
    exact h.symm
  · rw [SMap.find_insert_self]
    rfl

/-- A stored field leaves the fields at other keys alone. -/
theorem get_set_other {f g : Fld} (h : f.key ≠ g.key) (v : Nat) (m : RegFile) : get f (set g v m) = get f m := by
  unfold set get
  split
  · rw [SMap.find_erase_other h]
  · rw [SMap.find_insert_other h]

/-- A field that counts reads the sum, at most its largest value. -/
@[simp] theorem get_add_self (f : Fld) (n : Nat) (m : RegFile) : get f (add f n m) = min (get f m + n) (f.size - 1) := by
  have h : 0 < f.size := Nat.two_pow_pos _
  unfold add
  rw [get_set_self]
  exact Nat.mod_eq_of_lt (Nat.lt_of_le_of_lt (Nat.min_le_right _ _) (by omega))

/-- A field that counts leaves the fields at other keys alone. -/
theorem get_add_other {f g : Fld} (h : f.key ≠ g.key) (n : Nat) (m : RegFile) : get f (add g n m) = get f m :=
  get_set_other h _ _

/-- A list of stores leaves a field alone that none of them names. -/
theorem get_sets_other {f : Fld} (l : List (Fld × Nat)) (h : ∀ p ∈ l, f.key ≠ p.1.key) (m : RegFile) :
    get f (sets l m) = get f m := by
  induction l generalizing m with
  | nil => rfl
  | cons p l ih =>
    obtain ⟨g, v⟩ := p
    unfold sets
    rw [ih fun q hq => h q (List.mem_cons_of_mem _ hq)]
    exact get_set_other (h _ List.mem_cons_self) v m

/-- A list of stores, one by one. -/
theorem sets_cons (f : Fld) (v : Nat) (l : List (Fld × Nat)) (m : RegFile) : sets ((f, v) :: l) m = sets l (set f v m) := rfl

/-- No store. -/
@[simp] theorem sets_nil (m : RegFile) : sets [] m = m := rfl

/-- A store keeps the file sorted. -/
theorem sorted_set (f : Fld) (v : Nat) {m : RegFile} (h : SMap.sorted m = true) : SMap.sorted (set f v m) = true := by
  unfold set
  split
  · exact SMap.sorted_erase _ h
  · exact SMap.sorted_insert _ _ h

/-- A list of stores keeps the file sorted. -/
theorem sorted_sets (l : List (Fld × Nat)) {m : RegFile} (h : SMap.sorted m = true) : SMap.sorted (sets l m) = true := by
  induction l generalizing m with
  | nil => exact h
  | cons p l ih => exact ih (sorted_set p.1 p.2 h)

/-- A fold of operations that keep the file sorted keeps it sorted. -/
theorem sorted_foldl {α : Type} (f : RegFile → α → RegFile)
    (k : ∀ x a, SMap.sorted x = true → SMap.sorted (f x a) = true) (l : List α) {m : RegFile}
    (h : SMap.sorted m = true) : SMap.sorted (l.foldl f m) = true := by
  induction l generalizing m with
  | nil => exact h
  | cons a l ih => exact ih (k m a h)

/-- A write by access codes keeps the file sorted. -/
theorem sorted_write (o : Bool) (fs : List Fld) (v : Nat) {m : RegFile} (h : SMap.sorted m = true) :
    SMap.sorted (write o fs v m) = true := by
  refine sorted_foldl _ (fun x f hx => ?_) fs h
  dsimp only
  split
  · exact sorted_set _ _ hx
  · split
    · exact sorted_set _ _ hx
    · exact hx
  · exact sorted_set _ _ hx
  · exact hx

/-- A read that clears keeps the file sorted. -/
theorem sorted_clearRC (fs : List Fld) {m : RegFile} (h : SMap.sorted m = true) : SMap.sorted (clearRC fs m) = true := by
  refine sorted_foldl _ (fun x f hx => ?_) fs h
  split
  · exact sorted_set _ _ hx
  · exact hx

end RegFile

end Sys2Proof
end

