-- ==== Sys2Proof/Laws/Keeps.lean ====
section
/-! SUPPORT. `Keeps m s t`: between `s` and `t` only the parts in the mask `m` change, and everything stays in
order. How it composes, and that the primitive updates keep what they do not name. -/

namespace Sys2Proof.Machine

open Sys2Proof

/-- The place of a part in a mask. -/
def Part.idx : Part → Nat
  | .pending => 0
  | .freeCnt => 1
  | .now => 2
  | .out => 3
  | .wr => 4
  | .tl => 5
  | .variant => 6
  | .wclk => 7
  | .mtime0 => 8
  | .mem => 9
  | .mer => 10
  | .tri => 11
  | .lanes => 12
  | .ports => 13
  | .dlinks => 14
  | .sch => 15
  | .cores => 16
  | .queues => 17
  | .image => 18
  | .pair => 19
  | .mus => 20
  | .cmp => 21
  | .eth => 22
  | .mems => 23
  | .canid => 24
  | .can => 25
  | .gov => 26
  | .sys => 27
  | .mbx => 28
  | .env => 29
  | .pwr => 30
  | .dbg => 31
  | .taps => 32
  | .held => 33

/-- Only the parts of the mask change, and the run stays in order. -/
def Keeps (m : Nat) (s t : State) : Prop := (∀ p : Part, m.testBit p.idx = false → p.same s t) ∧ Orderly s t

/-- A part is the same as itself. -/
theorem Part.same_refl (p : Part) (s : State) : p.same s s := by cases p <;> rfl

/-- Equal parts stay equal over two steps. -/
theorem Part.same_trans {p : Part} {s t u : State} (h : p.same s t) (k : p.same t u) : p.same s u := by
  cases p <;> exact k.trans h

/-- Nothing is disturbed where nothing happens. -/
theorem Orderly.refl (s : State) : Orderly s s := ⟨id, List.prefix_refl _, Nat.le_refl _⟩

/-- Order is kept over two steps. -/
theorem Orderly.trans {s t u : State} (h : Orderly s t) (k : Orderly t u) : Orderly s u :=
  ⟨fun c => k.canon (h.canon c), h.out.trans k.out, Nat.le_trans h.free k.free⟩

/-- The mask of a list of parts. -/
def Part.mask : List Part → Nat
  | [] => 0
  | p :: l => 2 ^ p.idx ||| Part.mask l

/-- Different parts have different places. -/
theorem Part.idx_inj {p q : Part} (h : p.idx = q.idx) : p = q := by
  cases p <;> cases q <;> first | rfl | exact absurd h (by decide)

/-- A part that is not listed is not in the mask. -/
theorem Part.mask_testBit {p : Part} {l : List Part} (h : p ∉ l) : (Part.mask l).testBit p.idx = false := by
  induction l with
  | nil => simp [Part.mask]
  | cons q l ih =>
    have h1 : p ≠ q := fun e => h (e ▸ List.mem_cons_self)
    have h2 : p ∉ l := fun e => h (List.mem_cons_of_mem _ e)
    have hq : q.idx ≠ p.idx := fun e => h1 (Part.idx_inj e.symm)
    simp [Part.mask, Nat.testBit_or, ih h2, hq]

namespace Keeps

variable {α β : Type} {m n : Nat} {s t u : State}

/-- Nothing changes where nothing happens. -/
theorem refl (m : Nat) (s : State) : Keeps m s s := ⟨fun p _ => p.same_refl s, Orderly.refl s⟩

/-- One step after another. -/
theorem trans (h : Keeps m s t) (k : Keeps m t u) : Keeps m s u :=
  ⟨fun p e => Part.same_trans (h.1 p e) (k.1 p e), h.2.trans k.2⟩

/-- A larger mask allows more. -/
theorem weaken (h : Keeps n s t) (e : n ||| m = m) : Keeps m s t := by
  refine ⟨fun p hp => h.1 p ?_, h.2⟩
  have := congrArg (fun x => Nat.testBit x p.idx) e
  simp only [Nat.testBit_or, hp] at this
  simpa using this

/-- A further step whose own mask is within the mask. -/
theorem step (k : Keeps n t u) (e : n ||| m = m) (h : Keeps m s t) : Keeps m s u := h.trans (k.weaken e)

/-- A choice. -/
theorem ite {c : Prop} [Decidable c] (h : Keeps m s t) (k : Keeps m s u) : Keeps m s (if c then t else u) := by
  split <;> assumption

/-- A fold. -/
theorem foldl {f : State → α → State} (l : List α) (h : Keeps m s t) (k : ∀ x a, Keeps m s x → Keeps m s (f x a)) :
    Keeps m s (l.foldl f t) := by
  induction l generalizing t with
  | nil => exact h
  | cons a l ih => exact ih (k t a h)

/-- The state of a pair known by an equation. -/
theorem ofSnd {p : α × State} {a : α} (e : p = (a, t)) (h : Keeps m s p.2) : Keeps m s t := by
  subst e; exact h

/-- The state of a triple known by an equation. -/
theorem ofThd {p : α × β × State} {a : α} {b : β} (e : p = (a, b, t)) (h : Keeps m s p.2.2) : Keeps m s t := by
  subst e; exact h

/-- A choice between pairs. -/
theorem iteSnd {c : Prop} [Decidable c] {p q : α × State} (h : Keeps m s p.2) (k : Keeps m s q.2) :
    Keeps m s (if c then p else q).2 := by
  split <;> assumption

/-- The state of an option, or another. -/
theorem getD {o : Option State} (h : ∀ x, o = some x → Keeps m s x) (k : Keeps m s t) : Keeps m s (o.getD t) := by
  cases o with
  | none => exact k
  | some x => exact h x rfl

/-- A fact about an intermediate state, first. -/
theorem cut {P : Prop} (h : Keeps m s u) (k : Keeps m s u → P) : P := k h

/-- What a mask says in terms of parts. -/
theorem only (h : Keeps m s t) (l : List Part) (e : m ||| Part.mask l = Part.mask l) : OnlyParts l s t :=
  fun p hp => (h.weaken e).1 p (Part.mask_testBit hp)

/-- A change of `tl`. -/
theorem upd_tl {v} (h : Keeps m s t) (e : m.testBit 5 = true) : Keeps m s { t with tl := v } :=
  h.trans ⟨fun p hp => by cases p <;> first | rfl | (exact absurd (e.symm.trans hp) (by decide)), fun c => c, List.prefix_refl _, Nat.le_refl _⟩

/-- A change of `wclk`. -/
theorem upd_wclk {v} (h : Keeps m s t) (e : m.testBit 7 = true) : Keeps m s { t with wclk := v } :=
  h.trans ⟨fun p hp => by cases p <;> first | rfl | (exact absurd (e.symm.trans hp) (by decide)), fun c => c, List.prefix_refl _, Nat.le_refl _⟩

/-- A change of `mtime0`. -/
theorem upd_mtime0 {v} (h : Keeps m s t) (e : m.testBit 8 = true) : Keeps m s { t with mtime0 := v } :=
  h.trans ⟨fun p hp => by cases p <;> first | rfl | (exact absurd (e.symm.trans hp) (by decide)), fun c => c, List.prefix_refl _, Nat.le_refl _⟩

/-- A change of `mer`. -/
theorem upd_mer {v} (h : Keeps m s t) (e : m.testBit 10 = true) : Keeps m s { t with mer := v } :=
  h.trans ⟨fun p hp => by cases p <;> first | rfl | (exact absurd (e.symm.trans hp) (by decide)), fun c => c, List.prefix_refl _, Nat.le_refl _⟩

/-- A change of `tri`. -/
theorem upd_tri {v} (h : Keeps m s t) (e : m.testBit 11 = true) : Keeps m s { t with tri := v } :=
  h.trans ⟨fun p hp => by cases p <;> first | rfl | (exact absurd (e.symm.trans hp) (by decide)), fun c => c, List.prefix_refl _, Nat.le_refl _⟩

/-- A change of `lanes`. -/
theorem upd_lanes {v} (h : Keeps m s t) (e : m.testBit 12 = true) : Keeps m s { t with lanes := v } :=
  h.trans ⟨fun p hp => by cases p <;> first | rfl | (exact absurd (e.symm.trans hp) (by decide)), fun c => c, List.prefix_refl _, Nat.le_refl _⟩

/-- A change of `ports`. -/
theorem upd_ports {v} (h : Keeps m s t) (e : m.testBit 13 = true) : Keeps m s { t with ports := v } :=
  h.trans ⟨fun p hp => by cases p <;> first | rfl | (exact absurd (e.symm.trans hp) (by decide)), fun c => c, List.prefix_refl _, Nat.le_refl _⟩

/-- A change of `dlinks`. -/
theorem upd_dlinks {v} (h : Keeps m s t) (e : m.testBit 14 = true) : Keeps m s { t with dlinks := v } :=
  h.trans ⟨fun p hp => by cases p <;> first | rfl | (exact absurd (e.symm.trans hp) (by decide)), fun c => c, List.prefix_refl _, Nat.le_refl _⟩

/-- A change of `sch`. -/
theorem upd_sch {v} (h : Keeps m s t) (e : m.testBit 15 = true) : Keeps m s { t with sch := v } :=
  h.trans ⟨fun p hp => by cases p <;> first | rfl | (exact absurd (e.symm.trans hp) (by decide)), fun c => c, List.prefix_refl _, Nat.le_refl _⟩

/-- A change of `cores`. -/
theorem upd_cores {v} (h : Keeps m s t) (e : m.testBit 16 = true) : Keeps m s { t with cores := v } :=
  h.trans ⟨fun p hp => by cases p <;> first | rfl | (exact absurd (e.symm.trans hp) (by decide)), fun c => c, List.prefix_refl _, Nat.le_refl _⟩

/-- A change of `queues`. -/
theorem upd_queues {v} (h : Keeps m s t) (e : m.testBit 17 = true) : Keeps m s { t with queues := v } :=
  h.trans ⟨fun p hp => by cases p <;> first | rfl | (exact absurd (e.symm.trans hp) (by decide)), fun c => c, List.prefix_refl _, Nat.le_refl _⟩

/-- A change of `image`. -/
theorem upd_image {v} (h : Keeps m s t) (e : m.testBit 18 = true) : Keeps m s { t with image := v } :=
  h.trans ⟨fun p hp => by cases p <;> first | rfl | (exact absurd (e.symm.trans hp) (by decide)), fun c => c, List.prefix_refl _, Nat.le_refl _⟩

/-- A change of `pair`. -/
theorem upd_pair {v} (h : Keeps m s t) (e : m.testBit 19 = true) : Keeps m s { t with pair := v } :=
  h.trans ⟨fun p hp => by cases p <;> first | rfl | (exact absurd (e.symm.trans hp) (by decide)), fun c => c, List.prefix_refl _, Nat.le_refl _⟩

/-- A change of `mus`. -/
theorem upd_mus {v} (h : Keeps m s t) (e : m.testBit 20 = true) : Keeps m s { t with mus := v } :=
  h.trans ⟨fun p hp => by cases p <;> first | rfl | (exact absurd (e.symm.trans hp) (by decide)), fun c => c, List.prefix_refl _, Nat.le_refl _⟩

/-- A change of `cmp`. -/
theorem upd_cmp {v} (h : Keeps m s t) (e : m.testBit 21 = true) : Keeps m s { t with cmp := v } :=
  h.trans ⟨fun p hp => by cases p <;> first | rfl | (exact absurd (e.symm.trans hp) (by decide)), fun c => c, List.prefix_refl _, Nat.le_refl _⟩

/-- A change of `eth`. -/
theorem upd_eth {v} (h : Keeps m s t) (e : m.testBit 22 = true) : Keeps m s { t with eth := v } :=
  h.trans ⟨fun p hp => by cases p <;> first | rfl | (exact absurd (e.symm.trans hp) (by decide)), fun c => c, List.prefix_refl _, Nat.le_refl _⟩

/-- A change of `mems`. -/
theorem upd_mems {v} (h : Keeps m s t) (e : m.testBit 23 = true) : Keeps m s { t with mems := v } :=
  h.trans ⟨fun p hp => by cases p <;> first | rfl | (exact absurd (e.symm.trans hp) (by decide)), fun c => c, List.prefix_refl _, Nat.le_refl _⟩

/-- A change of `can`. -/
theorem upd_can {v} (h : Keeps m s t) (e : m.testBit 25 = true) : Keeps m s { t with can := v } :=
  h.trans ⟨fun p hp => by cases p <;> first | rfl | (exact absurd (e.symm.trans hp) (by decide)), fun c => c, List.prefix_refl _, Nat.le_refl _⟩

/-- A change of `gov`. -/
theorem upd_gov {v} (h : Keeps m s t) (e : m.testBit 26 = true) : Keeps m s { t with gov := v } :=
  h.trans ⟨fun p hp => by cases p <;> first | rfl | (exact absurd (e.symm.trans hp) (by decide)), fun c => c, List.prefix_refl _, Nat.le_refl _⟩

/-- A change of `sys`. -/
theorem upd_sys {v} (h : Keeps m s t) (e : m.testBit 27 = true) : Keeps m s { t with sys := v } :=
  h.trans ⟨fun p hp => by cases p <;> first | rfl | (exact absurd (e.symm.trans hp) (by decide)), fun c => c, List.prefix_refl _, Nat.le_refl _⟩

/-- A change of `mbx`. -/
theorem upd_mbx {v} (h : Keeps m s t) (e : m.testBit 28 = true) : Keeps m s { t with mbx := v } :=
  h.trans ⟨fun p hp => by cases p <;> first | rfl | (exact absurd (e.symm.trans hp) (by decide)), fun c => c, List.prefix_refl _, Nat.le_refl _⟩

/-- A change of `env`. -/
theorem upd_env {v} (h : Keeps m s t) (e : m.testBit 29 = true) : Keeps m s { t with env := v } :=
  h.trans ⟨fun p hp => by cases p <;> first | rfl | (exact absurd (e.symm.trans hp) (by decide)), fun c => c, List.prefix_refl _, Nat.le_refl _⟩

/-- A change of `pwr`. -/
theorem upd_pwr {v} (h : Keeps m s t) (e : m.testBit 30 = true) : Keeps m s { t with pwr := v } :=
  h.trans ⟨fun p hp => by cases p <;> first | rfl | (exact absurd (e.symm.trans hp) (by decide)), fun c => c, List.prefix_refl _, Nat.le_refl _⟩

/-- A change of `dbg`. -/
theorem upd_dbg {v} (h : Keeps m s t) (e : m.testBit 31 = true) : Keeps m s { t with dbg := v } :=
  h.trans ⟨fun p hp => by cases p <;> first | rfl | (exact absurd (e.symm.trans hp) (by decide)), fun c => c, List.prefix_refl _, Nat.le_refl _⟩

/-- A change of `taps`. -/
theorem upd_taps {v} (h : Keeps m s t) (e : m.testBit 32 = true) : Keeps m s { t with taps := v } :=
  h.trans ⟨fun p hp => by cases p <;> first | rfl | (exact absurd (e.symm.trans hp) (by decide)), fun c => c, List.prefix_refl _, Nat.le_refl _⟩

/-- A change of `held`. -/
theorem upd_held {v} (h : Keeps m s t) (e : m.testBit 33 = true) : Keeps m s { t with held := v } :=
  h.trans ⟨fun p hp => by cases p <;> first | rfl | (exact absurd (e.symm.trans hp) (by decide)), fun c => c, List.prefix_refl _, Nat.le_refl _⟩

end Keeps

end Sys2Proof.Machine
end

