-- ==== Sys2Proof/Laws/Prims.lean ====
section
/-! SUPPORT. What the primitive updates of the state keep: registers, bytes of memory, the pins, free values and
a reset. -/

namespace Sys2Proof.Machine

open Sys2Proof

/-- Between two canonical memories one byte is stored. -/
theorem Memory.wf_iff {m : List Host.Cell} :
    Memory.wf m = true ↔ SMap.sorted m = true ∧ ∀ c ∈ m, c.2 ≠ 0 := by
  simp [Memory.wf]

/-- A stored byte keeps memory canonical. -/
theorem State.setByte_wf (a : Nat) (v : Byte) {s : State} (h : Memory.wf s.mem = true) :
    Memory.wf (s.setByte a v).mem = true := by
  obtain ⟨h1, h2⟩ := Memory.wf_iff.1 h
  unfold State.setByte
  refine Memory.wf_iff.2 ?_
  dsimp only
  split
  · exact ⟨SMap.sorted_erase a h1, fun c hc => h2 c (SMap.mem_erase hc)⟩
  · rename_i hv
    refine ⟨SMap.sorted_insert a v h1, fun c hc => ?_⟩
    rcases SMap.mem_insert hc with rfl | hc
    · exact hv
    · exact h2 c hc

/-- A selection of bytes keeps memory canonical. -/
theorem Memory.wf_filter (f : Host.Cell → Bool) {m : List Host.Cell} (h : Memory.wf m = true) :
    Memory.wf (m.filter f) = true := by
  obtain ⟨h1, h2⟩ := Memory.wf_iff.1 h
  exact Memory.wf_iff.2 ⟨SMap.sorted_filter f h1, fun c hc => h2 c (List.mem_filter.1 hc).1⟩

/-- One part only, with order kept. -/
theorem Keeps.part {m : Nat} {s t : State} (h : ∀ p : Part, m.testBit p.idx = false → p.same s t)
    (hm : s.mem = t.mem ∨ (Memory.wf s.mem = true → Memory.wf t.mem = true))
    (hw : s.wr = t.wr ∨ (SMap.sorted s.wr = true → SMap.sorted t.wr = true))
    (ho : s.out <+: t.out) (hf : s.freeCnt ≤ t.freeCnt) : Keeps m s t := by
  refine ⟨h, fun c => ⟨?_, ?_⟩, ho, hf⟩
  · exact hm.elim (fun e => e ▸ c.1) fun k => k c.1
  · exact hw.elim (fun e => e ▸ c.2) fun k => k c.2

/-- A new register file that is sorted where the old one was. -/
theorem Keeps.regs {s : State} {r : RegFile} (h : SMap.sorted s.wr = true → SMap.sorted r = true) :
    Keeps 16 s { s with wr := r } :=
  Keeps.part (fun p hp => by cases p <;> first | rfl | exact absurd hp (by decide)) (.inl rfl) (.inr h)
    (List.prefix_refl _) (Nat.le_refl _)

theorem k_wset (f : Fld) (v : Nat) (s : State) : Keeps 16 s (s.wset f v) :=
  Keeps.regs (RegFile.sorted_set f v)

theorem k_wsets (l : List (Fld × Nat)) (s : State) : Keeps 16 s (s.wsets l) :=
  Keeps.regs (RegFile.sorted_sets l)

theorem k_wadd (f : Fld) (n : Nat) (s : State) : Keeps 16 s (s.wadd f n) :=
  Keeps.regs (RegFile.sorted_set f _)

theorem k_wraise (f : Fld) (v : Nat) (s : State) : Keeps 16 s (s.wraise f v) :=
  Keeps.regs (RegFile.sorted_set f _)

theorem k_wstore (a v : Nat) (s : State) : Keeps 16 s (s.wstore a v) := by
  unfold State.wstore
  split
  · exact Keeps.regs (RegFile.sorted_write _ _ _)
  · exact Keeps.refl _ _

theorem k_copyReg (t s : State) (a : Nat) : Keeps 16 s (State.copyReg t s a) := by
  unfold State.copyReg
  split
  · exact Keeps.foldl _ (Keeps.refl _ _) fun x f hx => (k_wset f _ x).step (by decide) hx
  · exact Keeps.refl _ _

theorem k_emit (o : Out) (s : State) : Keeps 8 s (s.emit o) :=
  Keeps.part (fun p hp => by cases p <;> first | rfl | exact absurd hp (by decide)) (.inl rfl) (.inl rfl)
    (List.prefix_append _ _) (Nat.le_refl _)

theorem k_fresh (n : Nat) (s : State) : Keeps 2 s (s.fresh n).2 :=
  Keeps.part (fun p hp => by cases p <;> first | rfl | exact absurd hp (by decide)) (.inl rfl) (.inl rfl)
    (List.prefix_refl _) (Nat.le_succ _)

theorem k_setByte (a : Nat) (v : Byte) (s : State) : Keeps 512 s (s.setByte a v) :=
  Keeps.part (fun p hp => by cases p <;> first | rfl | exact absurd hp (by decide))
    (.inr (State.setByte_wf a v)) (.inl rfl) (List.prefix_refl _) (Nat.le_refl _)

theorem k_setBytes (a : Nat) (l : List Nat) (s : State) : Keeps 512 s (s.setBytes a l) := by
  induction l generalizing a s with
  | nil => exact Keeps.refl _ _
  | cons b l ih => exact (k_setByte a _ s).trans (ih _ _)

end Sys2Proof.Machine
end

