-- ==== Sys2Proof/Laws/KeepsTlOps.lean ====
section
/-! SUPPORT. What the operations of Machine/TlOps.lean may change. -/

namespace Sys2Proof.Machine

open Sys2Proof

/-- `modTl` changes at most: tl. -/
theorem k_modTl (p : Nat) (f : Tladon → Tladon) (s : State) : Keeps 32 s (State.modTl p f s) := by
  unfold State.modTl
  repeat' first
    | with_reducible exact Keeps.refl _ _
    | with_reducible assumption
    | with_reducible refine Keeps.upd_tl ?_ (by decide)

end Sys2Proof.Machine
end

