-- ==== Sys2Proof/Laws/KeepsWnOps.lean ====
section
/-! SUPPORT. What the operations of Machine/WnOps.lean may change. -/

namespace Sys2Proof.Machine

open Sys2Proof

/-- `wcountIf` changes at most: wr. -/
theorem k_wcountIf (b : Bool) (f : Fld) (s : State) : Keeps 16 s (State.wcountIf b f s) := by
  unfold State.wcountIf
  repeat' first
    | with_reducible exact Keeps.refl _ _
    | with_reducible assumption
    | with_reducible refine (k_wadd ..).step (by decide) ?_
    | with_reducible refine Keeps.ite ?_ ?_
    | split

/-- `store` changes at most: mem. -/
theorem k_store (a : Nat) (n : Nat) (v : Nat) (s : State) : Keeps 512 s (State.store a n v s) := by
  unfold State.store
  repeat' first
    | with_reducible exact Keeps.refl _ _
    | with_reducible assumption
    | with_reducible refine (k_setBytes ..).step (by decide) ?_

/-- `emitPin` changes at most: out. -/
theorem k_emitPin (o : Out) (s : State) : Keeps 8 s (State.emitPin o s) := by
  unfold State.emitPin
  repeat' first
    | with_reducible exact Keeps.refl _ _
    | with_reducible assumption
    | with_reducible refine (k_emit ..).step (by decide) ?_
    | with_reducible refine Keeps.ite ?_ ?_
    | split

/-- `modPort` changes at most: ports. -/
theorem k_modPort (p : Nat) (f : Port → Port) (s : State) : Keeps 8192 s (State.modPort p f s) := by
  unfold State.modPort
  repeat' first
    | with_reducible exact Keeps.refl _ _
    | with_reducible assumption
    | with_reducible refine Keeps.upd_ports ?_ (by decide)

/-- `modTri` changes at most: tri. -/
theorem k_modTri (p : Nat) (f : Tri → Tri) (s : State) : Keeps 2048 s (State.modTri p f s) := by
  unfold State.modTri
  repeat' first
    | with_reducible exact Keeps.refl _ _
    | with_reducible assumption
    | with_reducible refine Keeps.upd_tri ?_ (by decide)

/-- `modLane` changes at most: lanes. -/
theorem k_modLane (l : Nat) (f : Lane → Lane) (s : State) : Keeps 4096 s (State.modLane l f s) := by
  unfold State.modLane
  repeat' first
    | with_reducible exact Keeps.refl _ _
    | with_reducible assumption
    | with_reducible refine Keeps.upd_lanes ?_ (by decide)

/-- `modDlink` changes at most: dlinks. -/
theorem k_modDlink (p : Nat) (f : Dlink → Dlink) (s : State) : Keeps 16384 s (State.modDlink p f s) := by
  unfold State.modDlink
  repeat' first
    | with_reducible exact Keeps.refl _ _
    | with_reducible assumption
    | with_reducible refine Keeps.upd_dlinks ?_ (by decide)

/-- `dlSend` changes at most: dlinks. -/
theorem k_dlSend (p : Nat) (c : DlCmd) (s : State) : Keeps 16384 s (State.dlSend p c s) := by
  unfold State.dlSend
  repeat' first
    | with_reducible exact Keeps.refl _ _
    | with_reducible assumption
    | with_reducible refine (k_modDlink ..).step (by decide) ?_
    | with_reducible refine Keeps.ite ?_ ?_
    | split

/-- `dlOp` changes at most: dlinks. -/
theorem k_dlOp (p : Nat) (op : Nat) (arg : Nat) (s : State) : Keeps 16384 s (State.dlOp p op arg s) := by
  unfold State.dlOp
  repeat' first
    | with_reducible exact Keeps.refl _ _
    | with_reducible assumption
    | with_reducible refine (k_dlSend ..).step (by decide) ?_

/-- `dlAccess` changes at most: dlinks. -/
theorem k_dlAccess (p : Nat) (op : Nat) (addr : Nat) (data : Nat) (kind : Nat) (s : State) : Keeps 16384 s (State.dlAccess p op addr data kind s) := by
  unfold State.dlAccess
  repeat' first
    | with_reducible exact Keeps.refl _ _
    | with_reducible assumption
    | (extract_lets +onlyGivenNames x; refine Keeps.cut (m := 16384) (s := s) (u := x) ?_ ?_; rotate_left; all_goals first | (intro _; clear_value x) | subst x)
    | (extract_lets +onlyGivenNames x; clear_value x)
    | with_reducible refine (k_dlSend ..).step (by decide) ?_
    | with_reducible refine (k_modDlink ..).step (by decide) ?_
    | with_reducible refine Keeps.ite ?_ ?_
    | split

end Sys2Proof.Machine
end

