-- ==== Sys2Proof/Laws/KeepsWnMem.lean ====
section
/-! SUPPORT. What the operations of Machine/WnMem.lean may change. -/

namespace Sys2Proof.Machine

open Sys2Proof

/-- `modMems` changes at most: mems. -/
theorem k_modMems (f : Mems → Mems) (s : State) : Keeps 8388608 s (State.modMems f s) := by
  unfold State.modMems
  repeat' first
    | with_reducible exact Keeps.refl _ _
    | with_reducible assumption
    | with_reducible refine Keeps.upd_mems ?_ (by decide)

/-- `setFlips` changes at most: mems. -/
theorem k_setFlips (m : Nat) (i : Nat) (v : Nat) (s : State) : Keeps 8388608 s (State.setFlips m i v s) := by
  unfold State.setFlips
  repeat' first
    | with_reducible exact Keeps.refl _ _
    | with_reducible assumption
    | with_reducible refine (k_modMems ..).step (by decide) ?_
    | with_reducible refine Keeps.ite ?_ ?_
    | split

/-- `showMem` changes at most: wr. -/
theorem k_showMem (s : State) : Keeps 16 s (State.showMem s) := by
  unfold State.showMem
  repeat' first
    | with_reducible exact Keeps.refl _ _
    | with_reducible assumption
    | with_reducible refine (k_wsets ..).step (by decide) ?_

/-- `memLog` changes at most: wr, mems. -/
theorem k_memLog (m : Nat) (i : Nat) (cls : Nat) (outcome : Nat) (src : Nat) (ch : Nat) (syn : Nat) (s : State) : Keeps 8388624 s (State.memLog m i cls outcome src ch syn s) := by
  unfold State.memLog
  repeat' first
    | with_reducible exact Keeps.refl _ _
    | with_reducible assumption
    | with_reducible refine (k_showMem ..).step (by decide) ?_
    | with_reducible refine (k_modMems ..).step (by decide) ?_
    | with_reducible refine (k_wadd ..).step (by decide) ?_
    | with_reducible refine (k_wset ..).step (by decide) ?_
    | with_reducible refine Keeps.ite ?_ ?_
    | split

/-- `confirm` changes at most: wr, mems. -/
theorem k_confirm (m : Nat) (i : Nat) (s : State) : Keeps 8388624 s (State.confirm m i s) := by
  unfold State.confirm
  repeat' first
    | with_reducible exact Keeps.refl _ _
    | with_reducible assumption
    | with_reducible refine (k_showMem ..).step (by decide) ?_
    | with_reducible refine (k_modMems ..).step (by decide) ?_
    | with_reducible refine Keeps.ite ?_ ?_
    | split

/-- `setFar` changes at most: mems. -/
theorem k_setFar (m : Nat) (g : Nat) (e : Nat) (f : FarEntry) (s : State) : Keeps 8388608 s (State.setFar m g e f s) := by
  unfold State.setFar
  repeat' first
    | with_reducible exact Keeps.refl _ _
    | with_reducible assumption
    | with_reducible refine (k_modMems ..).step (by decide) ?_

/-- `showSpares` changes at most: wr. -/
theorem k_showSpares (m : Nat) (s : State) : Keeps 16 s (State.showSpares m s) := by
  unfold State.showSpares
  repeat' first
    | with_reducible exact Keeps.refl _ _
    | with_reducible assumption
    | with_reducible refine (k_wsets ..).step (by decide) ?_

/-- `farCopy` changes at most: mems. -/
theorem k_farCopy (m : Nat) (i : Nat) (s : State) : Keeps 8388608 s (State.farCopy m i s) := by
  unfold State.farCopy
  repeat' first
    | with_reducible exact Keeps.refl _ _
    | with_reducible assumption
    | (extract_lets +onlyGivenNames x; refine Keeps.cut (m := 8388608) (s := s) (u := x) ?_ ?_; rotate_left; all_goals first | (intro _; clear_value x) | subst x)
    | (extract_lets +onlyGivenNames x; clear_value x)
    | with_reducible refine (k_setFlips ..).step (by decide) ?_
    | with_reducible refine Keeps.ite ?_ ?_
    | split

/-- `remap` changes at most: wr, mems. -/
theorem k_remap (m : Nat) (i : Nat) (s : State) : Keeps 8388624 s (State.remap m i s).2 := by
  unfold State.remap
  repeat' first
    | with_reducible exact Keeps.refl _ _
    | with_reducible assumption
    | (extract_lets +onlyGivenNames x; refine Keeps.cut (m := 8388624) (s := s) (u := x) ?_ ?_; rotate_left; all_goals first | (intro _; clear_value x) | subst x)
    | (extract_lets +onlyGivenNames x; clear_value x)
    | with_reducible refine (k_farCopy ..).step (by decide) ?_
    | with_reducible refine (k_showSpares ..).step (by decide) ?_
    | with_reducible refine (k_setFar ..).step (by decide) ?_
    | with_reducible refine (k_modMems ..).step (by decide) ?_
    | with_reducible refine (k_wset ..).step (by decide) ?_
    | split
    | with_reducible dsimp only

/-- `lasting` changes at most: wr, mems. -/
theorem k_lasting (m : Nat) (i : Nat) (s : State) : Keeps 8388624 s (State.lasting m i s).2 := by
  unfold State.lasting
  repeat' first
    | with_reducible exact Keeps.refl _ _
    | with_reducible assumption
    | (extract_lets +onlyGivenNames x; refine Keeps.cut (m := 8388624) (s := s) (u := x) ?_ ?_; rotate_left; all_goals first | (intro _; clear_value x) | subst x)
    | (extract_lets +onlyGivenNames x; clear_value x)
    | with_reducible refine (k_wadd ..).step (by decide) ?_
    | with_reducible refine Keeps.iteSnd ?_ ?_
    | split
    | with_reducible refine Keeps.ofSnd (by assumption) ?_
    | with_reducible refine (k_remap ..).step (by decide) ?_
    | with_reducible dsimp only

/-- `xorWord` changes at most: mem. -/
theorem k_xorWord (m : Nat) (i : Nat) (mask : Nat) (s : State) : Keeps 512 s (State.xorWord m i mask s) := by
  unfold State.xorWord
  repeat' first
    | with_reducible exact Keeps.refl _ _
    | with_reducible assumption
    | with_reducible refine (k_setByte ..).step (by decide) ?_
    | with_reducible refine Keeps.ite ?_ ?_
    | with_reducible refine Keeps.foldl _ ?_ (fun _ _ _ => ?_)
    | split

/-- `retrySingle` changes at most: wr, mem, mems. -/
theorem k_retrySingle (m : Nat) (i : Nat) (src : Nat) (ch : Nat) (cls : Nat) (syn : Nat) (fix : Nat) (again : Nat) (groom : Bool) (s : State) : Keeps 8389136 s (State.retrySingle m i src ch cls syn fix again groom s) := by
  unfold State.retrySingle
  repeat' first
    | with_reducible exact Keeps.refl _ _
    | with_reducible assumption
    | (extract_lets +onlyGivenNames x; refine Keeps.cut (m := 8389136) (s := s) (u := x) ?_ ?_; rotate_left; all_goals first | (intro _; clear_value x) | subst x)
    | (extract_lets +onlyGivenNames x; clear_value x)
    | with_reducible refine (k_xorWord ..).step (by decide) ?_
    | with_reducible refine (k_confirm ..).step (by decide) ?_
    | with_reducible refine (k_memLog ..).step (by decide) ?_
    | with_reducible refine (k_setFlips ..).step (by decide) ?_
    | with_reducible refine (k_wadd ..).step (by decide) ?_
    | with_reducible refine Keeps.ite ?_ ?_
    | split
    | with_reducible refine Keeps.ofSnd (by assumption) ?_
    | with_reducible refine (k_lasting ..).step (by decide) ?_
    | with_reducible dsimp only

/-- `memStand` changes at most: wr, mems. -/
theorem k_memStand (m : Nat) (i : Nat) (src : Nat) (ch : Nat) (cls : Nat) (syn : Nat) (s : State) : Keeps 8388624 s (State.memStand m i src ch cls syn s) := by
  unfold State.memStand
  repeat' first
    | with_reducible exact Keeps.refl _ _
    | with_reducible assumption
    | (extract_lets +onlyGivenNames x; refine Keeps.cut (m := 8388624) (s := s) (u := x) ?_ ?_; rotate_left; all_goals first | (intro _; clear_value x) | subst x)
    | (extract_lets +onlyGivenNames x; clear_value x)
    | with_reducible refine (k_memLog ..).step (by decide) ?_
    | with_reducible refine (k_wadd ..).step (by decide) ?_
    | with_reducible refine (k_wset ..).step (by decide) ?_
    | with_reducible refine Keeps.ite ?_ ?_
    | split

/-- `readWord` changes at most: wr, mem, mems. -/
theorem k_readWord (m : Nat) (i : Nat) (src : Nat) (ch : Nat) (groom : Bool) (u : Upset) (s : State) : Keeps 8389136 s (State.readWord m i src ch groom u s).2.2 := by
  unfold State.readWord
  repeat' first
    | with_reducible exact Keeps.refl _ _
    | with_reducible assumption
    | (extract_lets +onlyGivenNames x; refine Keeps.cut (m := 8389136) (s := s) (u := x) ?_ ?_; rotate_left; all_goals first | (intro _; clear_value x) | subst x)
    | (extract_lets +onlyGivenNames x; clear_value x)
    | with_reducible refine (k_memStand ..).step (by decide) ?_
    | with_reducible refine (k_retrySingle ..).step (by decide) ?_
    | with_reducible refine (k_confirm ..).step (by decide) ?_
    | with_reducible refine (k_memLog ..).step (by decide) ?_
    | with_reducible refine (k_setFlips ..).step (by decide) ?_
    | with_reducible refine (k_wadd ..).step (by decide) ?_
    | split
    | with_reducible dsimp only

/-- `unitStand` changes at most: freeCnt, wr, mems. -/
theorem k_unitStand (m : Nat) (src : Nat) (s : State) : Keeps 8388626 s (State.unitStand m src s) := by
  unfold State.unitStand
  repeat' first
    | with_reducible exact Keeps.refl _ _
    | with_reducible assumption
    | (extract_lets +onlyGivenNames x; refine Keeps.cut (m := 8388626) (s := s) (u := x) ?_ ?_; rotate_left; all_goals first | (intro _; clear_value x) | subst x)
    | (extract_lets +onlyGivenNames x; clear_value x)
    | with_reducible refine (k_memStand ..).step (by decide) ?_
    | split
    | with_reducible refine Keeps.ofSnd (by assumption) ?_
    | with_reducible refine (k_fresh ..).step (by decide) ?_
    | with_reducible dsimp only

/-- `memRead` changes at most: wr, mem, mems. -/
theorem k_memRead (a : Nat) (n : Nat) (src : Nat) (ch : Nat) (u : Upset) (s : State) : Keeps 8389136 s (State.memRead a n src ch u s).2.2 := by
  unfold State.memRead
  repeat' first
    | with_reducible exact Keeps.refl _ _
    | with_reducible assumption
    | (extract_lets +onlyGivenNames x; refine Keeps.cut (m := 8389136) (s := s) (u := x) ?_ ?_; rotate_left; all_goals first | (intro _; clear_value x) | subst x)
    | (extract_lets +onlyGivenNames x; clear_value x)
    | split
    | with_reducible refine Keeps.ofThd (by assumption) ?_
    | with_reducible refine (k_readWord ..).step (by decide) ?_
    | with_reducible dsimp only

/-- `fullWrite` changes at most: wr, mems. -/
theorem k_fullWrite (m : Nat) (i : Nat) (s : State) : Keeps 8388624 s (State.fullWrite m i s) := by
  unfold State.fullWrite
  repeat' first
    | with_reducible exact Keeps.refl _ _
    | with_reducible assumption
    | (extract_lets +onlyGivenNames x; refine Keeps.cut (m := 8388624) (s := s) (u := x) ?_ ?_; rotate_left; all_goals first | (intro _; clear_value x) | subst x)
    | (extract_lets +onlyGivenNames x; clear_value x)
    | with_reducible refine (k_showMem ..).step (by decide) ?_
    | with_reducible refine (k_setFlips ..).step (by decide) ?_
    | with_reducible refine (k_modMems ..).step (by decide) ?_
    | with_reducible refine (k_wset ..).step (by decide) ?_
    | with_reducible refine Keeps.ite ?_ ?_
    | split
    | with_reducible dsimp only

/-- `memWrite` changes at most: wr, mem, mems. -/
theorem k_memWrite (a : Nat) (bs : List Nat) (src : Nat) (ch : Nat) (u : Upset) (s : State) : Keeps 8389136 s (State.memWrite a bs src ch u s).2 := by
  unfold State.memWrite
  repeat' first
    | with_reducible exact Keeps.refl _ _
    | with_reducible assumption
    | (extract_lets +onlyGivenNames x; refine Keeps.cut (m := 8389136) (s := s) (u := x) ?_ ?_; rotate_left; all_goals first | (intro _; clear_value x) | subst x)
    | (extract_lets +onlyGivenNames x; clear_value x)
    | with_reducible refine (k_fullWrite ..).step (by decide) ?_
    | with_reducible refine (k_setBytes ..).step (by decide) ?_
    | with_reducible refine Keeps.iteSnd ?_ ?_
    | split
    | with_reducible refine Keeps.ofThd (by assumption) ?_
    | with_reducible refine (k_readWord ..).step (by decide) ?_
    | with_reducible dsimp only

/-- `groomMove` changes at most: wr, mems. -/
theorem k_groomMove (m : Nat) (s : State) : Keeps 8388624 s (State.groomMove m s) := by
  unfold State.groomMove
  repeat' first
    | with_reducible exact Keeps.refl _ _
    | with_reducible assumption
    | (extract_lets +onlyGivenNames x; refine Keeps.cut (m := 8388624) (s := s) (u := x) ?_ ?_; rotate_left; all_goals first | (intro _; clear_value x) | subst x)
    | (extract_lets +onlyGivenNames x; clear_value x)
    | with_reducible refine (k_modMems ..).step (by decide) ?_
    | with_reducible refine (k_wset ..).step (by decide) ?_
    | with_reducible refine Keeps.ite ?_ ?_
    | split

/-- `groomVisit` changes at most: wr, mem, mems. -/
theorem k_groomVisit (m : Nat) (u : Upset) (s : State) : Keeps 8389136 s (State.groomVisit m u s) := by
  unfold State.groomVisit
  repeat' first
    | with_reducible exact Keeps.refl _ _
    | with_reducible assumption
    | with_reducible refine (k_groomMove ..).step (by decide) ?_
    | with_reducible refine Keeps.ite ?_ ?_
    | split
    | with_reducible refine Keeps.ofThd (by assumption) ?_
    | with_reducible refine (k_readWord ..).step (by decide) ?_
    | with_reducible dsimp only

/-- `groomConfirm` changes at most: wr, mem, mems. -/
theorem k_groomConfirm (u : Upset) (s : State) : Keeps 8389136 s (s.groomConfirm u) := by
  unfold State.groomConfirm
  split
  · exact Keeps.refl _ _
  · rename_i m i _ _
    split
    · exact Keeps.refl _ _
    · dsimp only
      have k := (k_readWord m i 0 0 true u s).weaken (m := 8389136) (by decide)
      generalize s.readWord m i 0 0 true u = r at k
      obtain ⟨bad, v, t⟩ := r
      dsimp only at k ⊢
      have k2 : Keeps 8389136 s ((t.modMems fun x => { x with confirm := x.confirm.erase (m, i) }).showMem) :=
        (k_showMem ..).step (by decide) ((k_modMems ..).step (by decide) k)
      generalize (t.modMems fun x => { x with confirm := x.confirm.erase (m, i) }).showMem = t2 at k2
      split
      · have k3 := (k_lasting m i t2).step (m := 8389136) (by decide) k2
        exact Keeps.upd_mems k3 (by decide)
      · split
        · exact (k_wadd ..).step (by decide) k2
        · exact k2

/-- `showLog` changes at most: wr. -/
theorem k_showLog (s : State) : Keeps 16 s (State.showLog s) := by
  unfold State.showLog
  repeat' first
    | with_reducible exact Keeps.refl _ _
    | with_reducible assumption
    | with_reducible refine (k_wsets ..).step (by decide) ?_
    | with_reducible refine (k_wset ..).step (by decide) ?_
    | split

/-- `readLog` changes at most: wr, mems. -/
theorem k_readLog (s : State) : Keeps 8388624 s (State.readLog s) := by
  unfold State.readLog
  repeat' first
    | with_reducible exact Keeps.refl _ _
    | with_reducible assumption
    | with_reducible refine (k_showLog ..).step (by decide) ?_
    | with_reducible refine (k_showMem ..).step (by decide) ?_
    | with_reducible refine (k_modMems ..).step (by decide) ?_

/-- `showFar` changes at most: wr. -/
theorem k_showFar (s : State) : Keeps 16 s (State.showFar s) := by
  unfold State.showFar
  repeat' first
    | with_reducible exact Keeps.refl _ _
    | with_reducible assumption
    | (extract_lets +onlyGivenNames x; refine Keeps.cut (m := 16) (s := s) (u := x) ?_ ?_; rotate_left; all_goals first | (intro _; clear_value x) | subst x)
    | (extract_lets +onlyGivenNames x; clear_value x)
    | with_reducible refine (k_wsets ..).step (by decide) ?_
    | with_reducible refine Keeps.ite ?_ ?_
    | split
    | with_reducible dsimp only

/-- `writeFar` changes at most: wr, mems. -/
theorem k_writeFar (v : Nat) (s : State) : Keeps 8388624 s (State.writeFar v s) := by
  unfold State.writeFar
  repeat' first
    | with_reducible exact Keeps.refl _ _
    | with_reducible assumption
    | (extract_lets +onlyGivenNames x; refine Keeps.cut (m := 8388624) (s := s) (u := x) ?_ ?_; rotate_left; all_goals first | (intro _; clear_value x) | subst x)
    | (extract_lets +onlyGivenNames x; clear_value x)
    | with_reducible refine (k_showFar ..).step (by decide) ?_
    | with_reducible refine (k_farCopy ..).step (by decide) ?_
    | with_reducible refine (k_showSpares ..).step (by decide) ?_
    | with_reducible refine (k_setFar ..).step (by decide) ?_
    | with_reducible refine (k_wset ..).step (by decide) ?_
    | with_reducible refine Keeps.ite ?_ ?_
    | split
    | with_reducible dsimp only

/-- `memClear` changes at most: wr, mems. -/
theorem k_memClear (s : State) : Keeps 8388624 s (State.memClear s) := by
  unfold State.memClear
  repeat' first
    | with_reducible exact Keeps.refl _ _
    | with_reducible assumption
    | (extract_lets +onlyGivenNames x; refine Keeps.cut (m := 8388624) (s := s) (u := x) ?_ ?_; rotate_left; all_goals first | (intro _; clear_value x) | subst x)
    | (extract_lets +onlyGivenNames x; clear_value x)
    | with_reducible refine (k_showMem ..).step (by decide) ?_
    | with_reducible refine (k_modMems ..).step (by decide) ?_
    | with_reducible refine (k_wsets ..).step (by decide) ?_
    | with_reducible refine (k_wset ..).step (by decide) ?_
    | with_reducible refine Keeps.foldl _ ?_ (fun _ _ _ => ?_)
    | split

end Sys2Proof.Machine
end

