-- ==== Sys2Proof/Laws/KeepsWnEnvOps.lean ====
section
/-! SUPPORT. What the operations of Machine/WnEnvOps.lean may change. -/

namespace Sys2Proof.Machine

open Sys2Proof

/-- `modEnv` changes at most: env. -/
theorem k_modEnv (f : Env → Env) (s : State) : Keeps 536870912 s (State.modEnv f s) := by
  unfold State.modEnv
  repeat' first
    | with_reducible exact Keeps.refl _ _
    | with_reducible assumption
    | with_reducible refine Keeps.upd_env ?_ (by decide)

/-- `ilEval` changes at most: wr. -/
theorem k_ilEval (k : Nat) (s : State) : Keeps 16 s (State.ilEval k s) := by
  unfold State.ilEval
  repeat' first
    | with_reducible exact Keeps.refl _ _
    | with_reducible assumption
    | (extract_lets +onlyGivenNames x; refine Keeps.cut (m := 16) (s := s) (u := x) ?_ ?_; rotate_left; all_goals first | (intro _; clear_value x) | subst x)
    | (extract_lets +onlyGivenNames x; clear_value x)
    | with_reducible refine (k_wadd ..).step (by decide) ?_
    | with_reducible refine (k_wsets ..).step (by decide) ?_
    | with_reducible refine (k_wset ..).step (by decide) ?_
    | with_reducible refine Keeps.ite ?_ ?_
    | split

/-- `envAbandon` changes at most: wr, env. -/
theorem k_envAbandon (s : State) : Keeps 536870928 s (State.envAbandon s) := by
  unfold State.envAbandon
  repeat' first
    | with_reducible exact Keeps.refl _ _
    | with_reducible assumption
    | with_reducible refine (k_modEnv ..).step (by decide) ?_
    | with_reducible refine (k_wset ..).step (by decide) ?_
    | with_reducible refine Keeps.ite ?_ ?_
    | split

/-- `envShow` changes at most: wr, env. -/
theorem k_envShow (s : State) : Keeps 536870928 s (State.envShow s) := by
  unfold State.envShow
  repeat' first
    | with_reducible exact Keeps.refl _ _
    | with_reducible assumption
    | (extract_lets +onlyGivenNames x; refine Keeps.cut (m := 536870928) (s := s) (u := x) ?_ ?_; rotate_left; all_goals first | (intro _; clear_value x) | subst x)
    | (extract_lets +onlyGivenNames x; clear_value x)
    | with_reducible refine (k_envAbandon ..).step (by decide) ?_
    | with_reducible refine (k_ilEval ..).step (by decide) ?_
    | with_reducible refine (k_wsets ..).step (by decide) ?_
    | with_reducible refine (k_wset ..).step (by decide) ?_
    | with_reducible refine Keeps.foldl _ ?_ (fun _ _ _ => ?_)

end Sys2Proof.Machine
end

