-- ==== Sys2Proof/Laws/KeepsWnCanOps.lean ====
section
/-! SUPPORT. What the operations of Machine/WnCanOps.lean may change. -/

namespace Sys2Proof.Machine

open Sys2Proof

/-- `modCan` changes at most: can. -/
theorem k_modCan (f : Can → Can) (s : State) : Keeps 33554432 s (State.modCan f s) := by
  unfold State.modCan
  repeat' first
    | with_reducible exact Keeps.refl _ _
    | with_reducible assumption
    | with_reducible refine Keeps.upd_can ?_ (by decide)

/-- `sendEmcy` changes at most: out, can. -/
theorem k_sendEmcy (s : State) : Keeps 33554440 s (State.sendEmcy s) := by
  unfold State.sendEmcy
  repeat' first
    | with_reducible exact Keeps.refl _ _
    | with_reducible assumption
    | (extract_lets +onlyGivenNames x; refine Keeps.cut (m := 33554440) (s := s) (u := x) ?_ ?_; rotate_left; all_goals first | (intro _; clear_value x) | subst x)
    | (extract_lets +onlyGivenNames x; clear_value x)
    | with_reducible refine (k_modCan ..).step (by decide) ?_
    | with_reducible refine (k_emitPin ..).step (by decide) ?_
    | with_reducible refine Keeps.ite ?_ ?_
    | split

/-- `emcy` changes at most: out, can. -/
theorem k_emcy (code : Nat) (s : State) : Keeps 33554440 s (State.emcy code s) := by
  unfold State.emcy
  repeat' first
    | with_reducible exact Keeps.refl _ _
    | with_reducible assumption
    | (extract_lets +onlyGivenNames x; refine Keeps.cut (m := 33554440) (s := s) (u := x) ?_ ?_; rotate_left; all_goals first | (intro _; clear_value x) | subst x)
    | (extract_lets +onlyGivenNames x; clear_value x)
    | with_reducible refine (k_sendEmcy ..).step (by decide) ?_
    | with_reducible refine (k_modCan ..).step (by decide) ?_
    | with_reducible refine Keeps.ite ?_ ?_
    | split

/-- `emcyEnd` changes at most: out, can. -/
theorem k_emcyEnd (s : State) : Keeps 33554440 s (State.emcyEnd s) := by
  unfold State.emcyEnd
  repeat' first
    | with_reducible exact Keeps.refl _ _
    | with_reducible assumption
    | with_reducible refine (k_emcy ..).step (by decide) ?_
    | with_reducible refine Keeps.ite ?_ ?_
    | split

/-- `setWs` changes at most: out, wr, can, sys, env. -/
theorem k_setWs (n : Nat) (s : State) : Keeps 704643096 s (State.setWs n s) := by
  unfold State.setWs
  repeat' first
    | with_reducible exact Keeps.refl _ _
    | with_reducible assumption
    | (extract_lets +onlyGivenNames x; refine Keeps.cut (m := 704643096) (s := s) (u := x) ?_ ?_; rotate_left; all_goals first | (intro _; clear_value x) | subst x)
    | (extract_lets +onlyGivenNames x; clear_value x)
    | with_reducible refine (k_emcyEnd ..).step (by decide) ?_
    | with_reducible refine (k_emcy ..).step (by decide) ?_
    | with_reducible refine (k_envShow ..).step (by decide) ?_
    | with_reducible refine (k_wsets ..).step (by decide) ?_
    | with_reducible refine (k_wset ..).step (by decide) ?_
    | with_reducible refine Keeps.ite ?_ ?_
    | split
    | with_reducible refine Keeps.upd_sys ?_ (by decide)

end Sys2Proof.Machine
end

