-- ==== Sys2Proof/Laws/KeepsWnSch.lean ====
section
/-! SUPPORT. What the operations of Machine/WnSch.lean may change. -/

namespace Sys2Proof.Machine

open Sys2Proof

/-- `modSch` changes at most: sch. -/
theorem k_modSch (f : Sch → Sch) (s : State) : Keeps 32768 s (State.modSch f s) := by
  unfold State.modSch
  repeat' first
    | with_reducible exact Keeps.refl _ _
    | with_reducible assumption
    | with_reducible refine Keeps.upd_sch ?_ (by decide)

/-- `modSchCore` changes at most: sch. -/
theorem k_modSchCore (n : Nat) (f : SchCore → SchCore) (s : State) : Keeps 32768 s (State.modSchCore n f s) := by
  unfold State.modSchCore
  repeat' first
    | with_reducible exact Keeps.refl _ _
    | with_reducible assumption
    | with_reducible refine (k_modSch ..).step (by decide) ?_
    | with_reducible refine Keeps.ite ?_ ?_
    | split

/-- `modCore` changes at most: cores. -/
theorem k_modCore (n : Nat) (f : Core → Core) (s : State) : Keeps 65536 s (State.modCore n f s) := by
  unfold State.modCore
  repeat' first
    | with_reducible exact Keeps.refl _ _
    | with_reducible assumption
    | with_reducible refine Keeps.ite ?_ ?_
    | split
    | with_reducible refine Keeps.upd_cores ?_ (by decide)

/-- `traceEntry` changes at most: wr, sch. -/
theorem k_traceEntry (kind : Nat) (core : Nat) (task : Nat) (prio : Nat) (resume : Bool) (flow : Option Nat) (detail : Nat) (s : State) : Keeps 32784 s (State.traceEntry kind core task prio resume flow detail s) := by
  unfold State.traceEntry
  repeat' first
    | with_reducible exact Keeps.refl _ _
    | with_reducible assumption
    | (extract_lets +onlyGivenNames x; refine Keeps.cut (m := 32784) (s := s) (u := x) ?_ ?_; rotate_left; all_goals first | (intro _; clear_value x) | subst x)
    | (extract_lets +onlyGivenNames x; clear_value x)
    | with_reducible refine (k_modSch ..).step (by decide) ?_
    | with_reducible refine (k_wset ..).step (by decide) ?_
    | with_reducible refine Keeps.ite ?_ ?_
    | split

/-- `traceItem` changes at most: wr, sch. -/
theorem k_traceItem (kind : Nat) (core : Nat) (i : Item) (detail : Nat) (s : State) : Keeps 32784 s (State.traceItem kind core i detail s) := by
  unfold State.traceItem
  repeat' first
    | with_reducible exact Keeps.refl _ _
    | with_reducible assumption
    | with_reducible refine (k_traceEntry ..).step (by decide) ?_
    | with_reducible refine Keeps.ite ?_ ?_
    | split

/-- `standTouch` changes at most: sch. -/
theorem k_standTouch (s : State) : Keeps 32768 s (State.standTouch s) := by
  unfold State.standTouch
  repeat' first
    | with_reducible exact Keeps.refl _ _
    | with_reducible assumption
    | with_reducible refine (k_modSch ..).step (by decide) ?_

/-- `pushTail` changes at most: sch. -/
theorem k_pushTail (i : Item) (s : State) : Keeps 32768 s (State.pushTail i s) := by
  unfold State.pushTail
  repeat' first
    | with_reducible exact Keeps.refl _ _
    | with_reducible assumption
    | (extract_lets +onlyGivenNames x; refine Keeps.cut (m := 32768) (s := s) (u := x) ?_ ?_; rotate_left; all_goals first | (intro _; clear_value x) | subst x)
    | (extract_lets +onlyGivenNames x; clear_value x)
    | with_reducible refine (k_modSch ..).step (by decide) ?_
    | with_reducible refine Keeps.ite ?_ ?_
    | split

/-- `pushHead` changes at most: sch. -/
theorem k_pushHead (i : Item) (s : State) : Keeps 32768 s (State.pushHead i s) := by
  unfold State.pushHead
  repeat' first
    | with_reducible exact Keeps.refl _ _
    | with_reducible assumption
    | (extract_lets +onlyGivenNames x; refine Keeps.cut (m := 32768) (s := s) (u := x) ?_ ?_; rotate_left; all_goals first | (intro _; clear_value x) | subst x)
    | (extract_lets +onlyGivenNames x; clear_value x)
    | with_reducible refine (k_modSch ..).step (by decide) ?_
    | with_reducible refine Keeps.ite ?_ ?_
    | split

/-- `takeItem` changes at most: sch. -/
theorem k_takeItem {l : Nat} {f : Item → Bool} {s t : State} {i : Item} (e : s.takeItem l f = some (i, t)) :
    Keeps 32768 s t := by
  unfold State.takeItem at e
  dsimp only at e
  split at e
  · cases e
  · cases e
    exact (k_modSch ..).weaken (by decide)

/-- `raiseDepths` changes at most: wr. -/
theorem k_raiseDepths (s : State) : Keeps 16 s (State.raiseDepths s) := by
  unfold State.raiseDepths
  repeat' first
    | with_reducible exact Keeps.refl _ _
    | with_reducible assumption
    | with_reducible refine (k_wraise ..).step (by decide) ?_
    | with_reducible refine Keeps.foldl _ ?_ (fun _ _ _ => ?_)

/-- `newItem` changes at most: wr, sch. -/
theorem k_newItem (t : Nat) (isFlag : Bool) (flow : Option Nat) (arg : Nat) (why : Nat) (s : State) : Keeps 32784 s (State.newItem t isFlag flow arg why s) := by
  unfold State.newItem
  repeat' first
    | with_reducible exact Keeps.refl _ _
    | with_reducible assumption
    | (extract_lets +onlyGivenNames x; refine Keeps.cut (m := 32784) (s := s) (u := x) ?_ ?_; rotate_left; all_goals first | (intro _; clear_value x) | subst x)
    | (extract_lets +onlyGivenNames x; clear_value x)
    | with_reducible refine (k_raiseDepths ..).step (by decide) ?_
    | with_reducible refine (k_pushTail ..).step (by decide) ?_
    | with_reducible refine (k_standTouch ..).step (by decide) ?_
    | with_reducible refine (k_traceItem ..).step (by decide) ?_

/-- `evalTask` changes at most: wr, sch. -/
theorem k_evalTask (t : Nat) (why : Nat) (s : State) : Keeps 32784 s (State.evalTask t why s) := by
  unfold State.evalTask
  repeat' first
    | with_reducible exact Keeps.refl _ _
    | with_reducible assumption
    | with_reducible refine (k_newItem ..).step (by decide) ?_
    | with_reducible refine Keeps.ite ?_ ?_
    | split

/-- `setFlag` changes at most: wr, sch. -/
theorem k_setFlag (t : Nat) (f : Nat) (s : State) : Keeps 32784 s (State.setFlag t f s) := by
  unfold State.setFlag
  repeat' first
    | with_reducible exact Keeps.refl _ _
    | with_reducible assumption
    | with_reducible refine (k_evalTask ..).step (by decide) ?_
    | with_reducible refine (k_wset ..).step (by decide) ?_
    | with_reducible refine Keeps.ite ?_ ?_
    | split

/-- `post` changes at most: wr, sch. -/
theorem k_post (t : Nat) (sel : Nat) (flow : Nat) (arg : Nat) (s : State) : Keeps 32784 s (State.post t sel flow arg s) := by
  unfold State.post
  repeat' first
    | with_reducible exact Keeps.refl _ _
    | with_reducible assumption
    | with_reducible refine (k_newItem ..).step (by decide) ?_
    | with_reducible refine (k_wadd ..).step (by decide) ?_
    | with_reducible refine (k_wset ..).step (by decide) ?_
    | with_reducible refine Keeps.ite ?_ ?_
    | split

/-- `postRecovery` changes at most: wr, sch. -/
theorem k_postRecovery (arg : Nat) (s : State) : Keeps 32784 s (State.postRecovery arg s) := by
  unfold State.postRecovery
  repeat' first
    | with_reducible exact Keeps.refl _ _
    | with_reducible assumption
    | with_reducible refine (k_newItem ..).step (by decide) ?_

/-- `unreserve` changes at most: sch. -/
theorem k_unreserve (n : Nat) (s : State) : Keeps 32768 s (State.unreserve n s) := by
  unfold State.unreserve
  repeat' first
    | with_reducible exact Keeps.refl _ _
    | with_reducible assumption
    | with_reducible refine (k_pushHead ..).step (by decide) ?_
    | with_reducible refine (k_modSchCore ..).step (by decide) ?_
    | split

/-- `reserve` changes at most: sch. -/
theorem k_reserve (n : Nat) (i : Item) (s : State) : Keeps 32768 s (State.reserve n i s) := by
  unfold State.reserve
  repeat' first
    | with_reducible exact Keeps.refl _ _
    | with_reducible assumption
    | with_reducible refine (k_modSchCore ..).step (by decide) ?_

/-- `bestFor` changes at most: sch. -/
theorem k_bestFor {n l : Nat} {s t : State} {i : Item} (e : s.bestFor n l = some (i, t)) : Keeps 32768 s t := by
  induction l with
  | zero => cases e
  | succ l ih =>
    unfold State.bestFor at e
    split at e
    · rename_i r h
      cases e
      exact k_takeItem h
    · exact ih e

/-- `reserveFree` changes at most: sch. -/
theorem k_reserveFree (s : State) : Keeps 32768 s (State.reserveFree s) := by
  unfold State.reserveFree
  repeat' first
    | with_reducible exact Keeps.refl _ _
    | with_reducible assumption
    | with_reducible refine (k_reserve ..).step (by decide) ?_
    | with_reducible refine Keeps.ite ?_ ?_
    | with_reducible refine Keeps.foldl _ ?_ (fun _ _ _ => ?_)
    | split
    | with_reducible refine (k_bestFor (by assumption)).step (by decide) ?_
    | with_reducible dsimp only

/-- `preemptLevel` changes at most: sch. -/
theorem k_preemptLevel (s : State) (l : Nat) : Keeps 32768 s (State.preemptLevel s l) := by
  unfold State.preemptLevel
  repeat' first
    | with_reducible exact Keeps.refl _ _
    | with_reducible assumption
    | (extract_lets +onlyGivenNames x; refine Keeps.cut (m := 32768) (s := s) (u := x) ?_ ?_; rotate_left; all_goals first | (intro _; clear_value x) | subst x)
    | (extract_lets +onlyGivenNames x; clear_value x)
    | with_reducible refine (k_reserve ..).step (by decide) ?_
    | with_reducible refine (k_unreserve ..).step (by decide) ?_
    | with_reducible refine (k_modSch ..).step (by decide) ?_
    | with_reducible refine Keeps.ite ?_ ?_
    | with_reducible refine Keeps.foldl _ ?_ (fun _ _ _ => ?_)
    | split

/-- `reserveAll` changes at most: sch. -/
theorem k_reserveAll (s : State) : Keeps 32768 s (State.reserveAll s) := by
  unfold State.reserveAll
  repeat' first
    | with_reducible exact Keeps.refl _ _
    | with_reducible assumption
    | with_reducible refine (k_preemptLevel ..).step (by decide) ?_
    | with_reducible refine (k_reserveFree ..).step (by decide) ?_
    | with_reducible refine Keeps.foldl _ ?_ (fun _ _ _ => ?_)

/-- `addBusy` changes at most: sch. -/
theorem k_addBusy (n : Nat) (s : State) : Keeps 32768 s (State.addBusy n s) := by
  unfold State.addBusy
  repeat' first
    | with_reducible exact Keeps.refl _ _
    | with_reducible assumption
    | (extract_lets +onlyGivenNames x; refine Keeps.cut (m := 32768) (s := s) (u := x) ?_ ?_; rotate_left; all_goals first | (intro _; clear_value x) | subst x)
    | (extract_lets +onlyGivenNames x; clear_value x)
    | with_reducible refine (k_modSchCore ..).step (by decide) ?_
    | with_reducible refine Keeps.ite ?_ ?_
    | split

/-- `consume` changes at most: wr, sch. -/
theorem k_consume (i : Item) (s : State) : Keeps 32784 s (State.consume i s).2 := by
  unfold State.consume
  repeat' first
    | with_reducible exact Keeps.refl _ _
    | with_reducible assumption
    | (extract_lets +onlyGivenNames x; refine Keeps.cut (m := 32784) (s := s) (u := x) ?_ ?_; rotate_left; all_goals first | (intro _; clear_value x) | subst x)
    | (extract_lets +onlyGivenNames x; clear_value x)
    | with_reducible refine (k_modSch ..).step (by decide) ?_
    | with_reducible refine (k_wset ..).step (by decide) ?_
    | with_reducible refine Keeps.iteSnd ?_ ?_
    | split
    | with_reducible dsimp only

/-- `preemptRun` changes at most: wr, sch. -/
theorem k_preemptRun (n : Nat) (by' : Nat) (s : State) : Keeps 32784 s (State.preemptRun n by' s) := by
  unfold State.preemptRun
  repeat' first
    | with_reducible exact Keeps.refl _ _
    | with_reducible assumption
    | (extract_lets +onlyGivenNames x; refine Keeps.cut (m := 32784) (s := s) (u := x) ?_ ?_; rotate_left; all_goals first | (intro _; clear_value x) | subst x)
    | (extract_lets +onlyGivenNames x; clear_value x)
    | with_reducible refine (k_addBusy ..).step (by decide) ?_
    | with_reducible refine (k_pushHead ..).step (by decide) ?_
    | with_reducible refine (k_traceItem ..).step (by decide) ?_
    | with_reducible refine (k_modSchCore ..).step (by decide) ?_
    | split

/-- `claim` changes at most: wr, sch. -/
theorem k_claim (n : Nat) (s : State) : Keeps 32784 s (State.claim n s) := by
  unfold State.claim
  repeat' first
    | with_reducible exact Keeps.refl _ _
    | with_reducible assumption
    | (extract_lets +onlyGivenNames x; refine Keeps.cut (m := 32784) (s := s) (u := x) ?_ ?_; rotate_left; all_goals first | (intro _; clear_value x) | subst x)
    | (extract_lets +onlyGivenNames x; clear_value x)
    | with_reducible refine (k_preemptRun ..).step (by decide) ?_
    | with_reducible refine (k_addBusy ..).step (by decide) ?_
    | with_reducible refine (k_traceItem ..).step (by decide) ?_
    | with_reducible refine (k_traceEntry ..).step (by decide) ?_
    | with_reducible refine (k_modSchCore ..).step (by decide) ?_
    | with_reducible refine (k_modSch ..).step (by decide) ?_
    | with_reducible refine (k_wsets ..).step (by decide) ?_
    | with_reducible refine (k_wset ..).step (by decide) ?_
    | with_reducible refine Keeps.ite ?_ ?_
    | split
    | with_reducible refine Keeps.ofSnd (by assumption) ?_
    | with_reducible refine (k_consume ..).step (by decide) ?_
    | with_reducible dsimp only

/-- `npEnd` changes at most: wr, sch. -/
theorem k_npEnd (n : Nat) (s : State) : Keeps 32784 s (State.npEnd n s) := by
  unfold State.npEnd
  repeat' first
    | with_reducible exact Keeps.refl _ _
    | with_reducible assumption
    | with_reducible refine (k_modSchCore ..).step (by decide) ?_
    | with_reducible refine (k_wraise ..).step (by decide) ?_
    | split

/-- `endItem` changes at most: wr, sch. -/
theorem k_endItem (n : Nat) (s : State) : Keeps 32784 s (State.endItem n s) := by
  unfold State.endItem
  repeat' first
    | with_reducible exact Keeps.refl _ _
    | with_reducible assumption
    | (extract_lets +onlyGivenNames x; refine Keeps.cut (m := 32784) (s := s) (u := x) ?_ ?_; rotate_left; all_goals first | (intro _; clear_value x) | subst x)
    | (extract_lets +onlyGivenNames x; clear_value x)
    | with_reducible refine (k_npEnd ..).step (by decide) ?_
    | with_reducible refine (k_addBusy ..).step (by decide) ?_
    | with_reducible refine (k_evalTask ..).step (by decide) ?_
    | with_reducible refine (k_standTouch ..).step (by decide) ?_
    | with_reducible refine (k_traceItem ..).step (by decide) ?_
    | with_reducible refine (k_traceEntry ..).step (by decide) ?_
    | with_reducible refine (k_modSchCore ..).step (by decide) ?_
    | with_reducible refine Keeps.ite ?_ ?_
    | split

/-- `writeNp` changes at most: wr, sch. -/
theorem k_writeNp (n : Nat) (v : Bool) (s : State) : Keeps 32784 s (State.writeNp n v s) := by
  unfold State.writeNp
  repeat' first
    | with_reducible exact Keeps.refl _ _
    | with_reducible assumption
    | (extract_lets +onlyGivenNames x; refine Keeps.cut (m := 32784) (s := s) (u := x) ?_ ?_; rotate_left; all_goals first | (intro _; clear_value x) | subst x)
    | (extract_lets +onlyGivenNames x; clear_value x)
    | with_reducible refine (k_npEnd ..).step (by decide) ?_
    | with_reducible refine (k_unreserve ..).step (by decide) ?_
    | with_reducible refine (k_modSchCore ..).step (by decide) ?_
    | with_reducible refine (k_wset ..).step (by decide) ?_
    | with_reducible refine Keeps.ite ?_ ?_
    | split

/-- `writeCoreCtrl` changes at most: wr, sch. -/
theorem k_writeCoreCtrl (n : Nat) (v : Nat) (s : State) : Keeps 32784 s (State.writeCoreCtrl n v s) := by
  unfold State.writeCoreCtrl
  repeat' first
    | with_reducible exact Keeps.refl _ _
    | with_reducible assumption
    | (extract_lets +onlyGivenNames x; refine Keeps.cut (m := 32784) (s := s) (u := x) ?_ ?_; rotate_left; all_goals first | (intro _; clear_value x) | subst x)
    | (extract_lets +onlyGivenNames x; clear_value x)
    | with_reducible refine (k_writeNp ..).step (by decide) ?_
    | with_reducible refine (k_unreserve ..).step (by decide) ?_
    | with_reducible refine (k_wset ..).step (by decide) ?_
    | with_reducible refine Keeps.ite ?_ ?_
    | split

/-- `discardItem` changes at most: wr, sch. -/
theorem k_discardItem (s : State) (i : Item) : Keeps 32784 s (State.discardItem s i) := by
  unfold State.discardItem
  repeat' first
    | with_reducible exact Keeps.refl _ _
    | with_reducible assumption
    | with_reducible refine (k_traceItem ..).step (by decide) ?_

/-- `disableTask` changes at most: wr, sch. -/
theorem k_disableTask (t : Nat) (s : State) : Keeps 32784 s (State.disableTask t s) := by
  unfold State.disableTask
  repeat' first
    | with_reducible exact Keeps.refl _ _
    | with_reducible assumption
    | (extract_lets +onlyGivenNames x; refine Keeps.cut (m := 32784) (s := s) (u := x) ?_ ?_; rotate_left; all_goals first | (intro _; clear_value x) | subst x)
    | (extract_lets +onlyGivenNames x; clear_value x)
    | with_reducible refine (k_discardItem ..).step (by decide) ?_
    | with_reducible refine (k_standTouch ..).step (by decide) ?_
    | with_reducible refine (k_modSch ..).step (by decide) ?_
    | with_reducible refine (k_wset ..).step (by decide) ?_
    | with_reducible refine Keeps.ite ?_ ?_
    | with_reducible refine Keeps.foldl _ ?_ (fun _ _ _ => ?_)
    | split

/-- `writeTaskCfg` changes at most: wr, sch. -/
theorem k_writeTaskCfg (t : Nat) (v : Nat) (s : State) : Keeps 32784 s (State.writeTaskCfg t v s) := by
  unfold State.writeTaskCfg
  repeat' first
    | with_reducible exact Keeps.refl _ _
    | with_reducible assumption
    | (extract_lets +onlyGivenNames x; refine Keeps.cut (m := 32784) (s := s) (u := x) ?_ ?_; rotate_left; all_goals first | (intro _; clear_value x) | subst x)
    | (extract_lets +onlyGivenNames x; clear_value x)
    | with_reducible refine (k_disableTask ..).step (by decide) ?_
    | with_reducible refine (k_evalTask ..).step (by decide) ?_
    | with_reducible refine (k_wsets ..).step (by decide) ?_
    | with_reducible refine (k_wset ..).step (by decide) ?_
    | with_reducible refine Keeps.ite ?_ ?_
    | split

/-- `refill` changes at most: freeCnt, wr, sch, mems. -/
theorem k_refill (l : Nat) (lost : Bool) (s : State) : Keeps 8421394 s (State.refill l lost s) := by
  unfold State.refill
  repeat' first
    | with_reducible exact Keeps.refl _ _
    | with_reducible assumption
    | (extract_lets +onlyGivenNames x; refine Keeps.cut (m := 8421394) (s := s) (u := x) ?_ ?_; rotate_left; all_goals first | (intro _; clear_value x) | subst x)
    | (extract_lets +onlyGivenNames x; clear_value x)
    | with_reducible refine (k_postRecovery ..).step (by decide) ?_
    | with_reducible refine (k_evalTask ..).step (by decide) ?_
    | with_reducible refine (k_traceItem ..).step (by decide) ?_
    | with_reducible refine (k_modSch ..).step (by decide) ?_
    | with_reducible refine (k_unitStand ..).step (by decide) ?_
    | with_reducible refine (k_wadd ..).step (by decide) ?_
    | with_reducible refine (k_wset ..).step (by decide) ?_
    | with_reducible refine Keeps.ite ?_ ?_
    | split

/-- `ageStep` changes at most: wr, sch. -/
theorem k_ageStep (l : Nat) (s : State) : Keeps 32784 s (State.ageStep l s) := by
  unfold State.ageStep
  repeat' first
    | with_reducible exact Keeps.refl _ _
    | with_reducible assumption
    | (extract_lets +onlyGivenNames x; refine Keeps.cut (m := 32784) (s := s) (u := x) ?_ ?_; rotate_left; all_goals first | (intro _; clear_value x) | subst x)
    | (extract_lets +onlyGivenNames x; clear_value x)
    | with_reducible refine (k_pushTail ..).step (by decide) ?_
    | with_reducible refine (k_traceItem ..).step (by decide) ?_
    | with_reducible refine (k_modSch ..).step (by decide) ?_
    | with_reducible refine Keeps.ite ?_ ?_
    | split

/-- `writePeriodic` changes at most: wr, sch. -/
theorem k_writePeriodic (k : Nat) (v : Nat) (s : State) : Keeps 32784 s (State.writePeriodic k v s) := by
  unfold State.writePeriodic
  repeat' first
    | with_reducible exact Keeps.refl _ _
    | with_reducible assumption
    | (extract_lets +onlyGivenNames x; refine Keeps.cut (m := 32784) (s := s) (u := x) ?_ ?_; rotate_left; all_goals first | (intro _; clear_value x) | subst x)
    | (extract_lets +onlyGivenNames x; clear_value x)
    | with_reducible refine (k_modSch ..).step (by decide) ?_
    | with_reducible refine (k_wsets ..).step (by decide) ?_
    | with_reducible refine (k_wset ..).step (by decide) ?_
    | with_reducible refine Keeps.ite ?_ ?_
    | split

/-- `countMiss` changes at most: wr, sch. -/
theorem k_countMiss (k : Nat) (core : Nat) (level : Nat) (s : State) : Keeps 32784 s (State.countMiss k core level s) := by
  unfold State.countMiss
  repeat' first
    | with_reducible exact Keeps.refl _ _
    | with_reducible assumption
    | with_reducible refine (k_traceEntry ..).step (by decide) ?_
    | with_reducible refine (k_wadd ..).step (by decide) ?_
    | with_reducible refine (k_wsets ..).step (by decide) ?_

/-- `release` changes at most: wr, sch. -/
theorem k_release (k : Nat) (s : State) : Keeps 32784 s (State.release k s) := by
  unfold State.release
  repeat' first
    | with_reducible exact Keeps.refl _ _
    | with_reducible assumption
    | (extract_lets +onlyGivenNames x; refine Keeps.cut (m := 32784) (s := s) (u := x) ?_ ?_; rotate_left; all_goals first | (intro _; clear_value x) | subst x)
    | (extract_lets +onlyGivenNames x; clear_value x)
    | with_reducible refine (k_countMiss ..).step (by decide) ?_
    | with_reducible refine (k_setFlag ..).step (by decide) ?_
    | with_reducible refine (k_modSch ..).step (by decide) ?_
    | with_reducible refine (k_wadd ..).step (by decide) ?_
    | with_reducible refine Keeps.ite ?_ ?_
    | split

/-- `deadlineMiss` changes at most: wr, sch. -/
theorem k_deadlineMiss (k : Nat) (s : State) : Keeps 32784 s (State.deadlineMiss k s) := by
  unfold State.deadlineMiss
  repeat' first
    | with_reducible exact Keeps.refl _ _
    | with_reducible assumption
    | (extract_lets +onlyGivenNames x; refine Keeps.cut (m := 32784) (s := s) (u := x) ?_ ?_; rotate_left; all_goals first | (intro _; clear_value x) | subst x)
    | (extract_lets +onlyGivenNames x; clear_value x)
    | with_reducible refine (k_countMiss ..).step (by decide) ?_
    | with_reducible refine (k_modSch ..).step (by decide) ?_
    | with_reducible refine Keeps.ite ?_ ?_
    | split

/-- `standstill` changes at most: wr, sch. -/
theorem k_standstill (s : State) : Keeps 32784 s (State.standstill s) := by
  unfold State.standstill
  repeat' first
    | with_reducible exact Keeps.refl _ _
    | with_reducible assumption
    | (extract_lets +onlyGivenNames x; refine Keeps.cut (m := 32784) (s := s) (u := x) ?_ ?_; rotate_left; all_goals first | (intro _; clear_value x) | subst x)
    | (extract_lets +onlyGivenNames x; clear_value x)
    | with_reducible refine (k_postRecovery ..).step (by decide) ?_
    | with_reducible refine (k_traceEntry ..).step (by decide) ?_
    | with_reducible refine (k_modSch ..).step (by decide) ?_
    | with_reducible refine (k_wadd ..).step (by decide) ?_
    | with_reducible refine (k_wset ..).step (by decide) ?_
    | with_reducible refine Keeps.ite ?_ ?_
    | split

/-- `publish` changes at most: wr, sch. -/
theorem k_publish (sec : Bool) (s : State) : Keeps 32784 s (State.publish sec s) := by
  unfold State.publish
  repeat' first
    | with_reducible exact Keeps.refl _ _
    | with_reducible assumption
    | (extract_lets +onlyGivenNames x; refine Keeps.cut (m := 32784) (s := s) (u := x) ?_ ?_; rotate_left; all_goals first | (intro _; clear_value x) | subst x)
    | (extract_lets +onlyGivenNames x; clear_value x)
    | with_reducible refine (k_addBusy ..).step (by decide) ?_
    | with_reducible refine (k_modSchCore ..).step (by decide) ?_
    | with_reducible refine (k_wsets ..).step (by decide) ?_
    | with_reducible refine Keeps.ite ?_ ?_
    | with_reducible refine Keeps.foldl _ ?_ (fun _ _ _ => ?_)
    | split

/-- `msipStart` changes at most: cores. -/
theorem k_msipStart (s : State) : Keeps 65536 s (State.msipStart s) := by
  unfold State.msipStart
  repeat' first
    | with_reducible exact Keeps.refl _ _
    | with_reducible assumption
    | with_reducible refine (k_modCore ..).step (by decide) ?_
    | with_reducible refine Keeps.ite ?_ ?_
    | with_reducible refine Keeps.foldl _ ?_ (fun _ _ _ => ?_)
    | split

/-- `writeMsip` changes at most: wr, cores. -/
theorem k_writeMsip (v : Nat) (s : State) : Keeps 65552 s (State.writeMsip v s) := by
  unfold State.writeMsip
  repeat' first
    | with_reducible exact Keeps.refl _ _
    | with_reducible assumption
    | with_reducible refine (k_msipStart ..).step (by decide) ?_
    | with_reducible refine (k_wset ..).step (by decide) ?_

/-- `timerCheck` changes at most: cores. -/
theorem k_timerCheck (n : Nat) (s : State) : Keeps 65536 s (State.timerCheck n s) := by
  unfold State.timerCheck
  repeat' first
    | with_reducible exact Keeps.refl _ _
    | with_reducible assumption
    | with_reducible refine (k_modCore ..).step (by decide) ?_

end Sys2Proof.Machine
end

