-- ==== Sys2Proof/Laws/KeepsWnQueue.lean ====
section
/-! SUPPORT. What the operations of Machine/WnQueue.lean may change. -/

namespace Sys2Proof.Machine

open Sys2Proof

/-- `putQueue` changes at most: wr, sch, queues. -/
theorem k_putQueue (n : Nat) (q : Queue) (s : State) : Keeps 163856 s (State.putQueue n q s) := by
  unfold State.putQueue
  repeat' first
    | with_reducible exact Keeps.refl _ _
    | with_reducible assumption
    | (extract_lets +onlyGivenNames x; refine Keeps.cut (m := 163856) (s := s) (u := x) ?_ ?_; rotate_left; all_goals first | (intro _; clear_value x) | subst x)
    | (extract_lets +onlyGivenNames x; clear_value x)
    | with_reducible refine (k_setFlag ..).step (by decide) ?_
    | with_reducible refine (k_wraise ..).step (by decide) ?_
    | with_reducible refine (k_wsets ..).step (by decide) ?_
    | with_reducible refine Keeps.ite ?_ ?_
    | split
    | with_reducible refine Keeps.upd_queues ?_ (by decide)

/-- `qOverrun` changes at most: out, wr, can. -/
theorem k_qOverrun (n : Nat) (s : State) : Keeps 33554456 s (State.qOverrun n s) := by
  unfold State.qOverrun
  repeat' first
    | with_reducible exact Keeps.refl _ _
    | with_reducible assumption
    | (extract_lets +onlyGivenNames x; refine Keeps.cut (m := 33554456) (s := s) (u := x) ?_ ?_; rotate_left; all_goals first | (intro _; clear_value x) | subst x)
    | (extract_lets +onlyGivenNames x; clear_value x)
    | with_reducible refine (k_emcy ..).step (by decide) ?_
    | with_reducible refine (k_wadd ..).step (by decide) ?_
    | with_reducible refine (k_wset ..).step (by decide) ?_
    | with_reducible refine Keeps.ite ?_ ?_
    | split

/-- `qRewind` changes at most: wr, sch, queues. -/
theorem k_qRewind (n : Nat) (eop : Bool) (q : Queue) (s : State) : Keeps 163856 s (State.qRewind n eop q s) := by
  unfold State.qRewind
  repeat' first
    | with_reducible exact Keeps.refl _ _
    | with_reducible assumption
    | with_reducible refine (k_putQueue ..).step (by decide) ?_
    | with_reducible refine (k_wadd ..).step (by decide) ?_

/-- `offerStaged` changes at most: out, wr, sch, queues, can. -/
theorem k_offerStaged (n : Nat) (data : Nat) (eop : Bool) (bad : Bool) (q : Queue) (s : State) : Keeps 33718296 s (State.offerStaged n data eop bad q s) := by
  unfold State.offerStaged
  repeat' first
    | with_reducible exact Keeps.refl _ _
    | with_reducible assumption
    | (extract_lets +onlyGivenNames x; refine Keeps.cut (m := 33718296) (s := s) (u := x) ?_ ?_; rotate_left; all_goals first | (intro _; clear_value x) | subst x)
    | (extract_lets +onlyGivenNames x; clear_value x)
    | with_reducible refine (k_qRewind ..).step (by decide) ?_
    | with_reducible refine (k_qOverrun ..).step (by decide) ?_
    | with_reducible refine (k_putQueue ..).step (by decide) ?_
    | with_reducible refine Keeps.ite ?_ ?_
    | split

/-- `offerNormal` changes at most: out, wr, sch, queues, can. -/
theorem k_offerNormal (n : Nat) (data : Nat) (eop : Bool) (bad : Bool) (q : Queue) (s : State) : Keeps 33718296 s (State.offerNormal n data eop bad q s) := by
  unfold State.offerNormal
  repeat' first
    | with_reducible exact Keeps.refl _ _
    | with_reducible assumption
    | (extract_lets +onlyGivenNames x; refine Keeps.cut (m := 33718296) (s := s) (u := x) ?_ ?_; rotate_left; all_goals first | (intro _; clear_value x) | subst x)
    | (extract_lets +onlyGivenNames x; clear_value x)
    | with_reducible refine (k_qOverrun ..).step (by decide) ?_
    | with_reducible refine (k_putQueue ..).step (by decide) ?_
    | with_reducible refine (k_wcountIf ..).step (by decide) ?_
    | with_reducible refine (k_wadd ..).step (by decide) ?_
    | with_reducible refine Keeps.ite ?_ ?_
    | split

/-- `offer` changes at most: out, wr, sch, queues, can. -/
theorem k_offer (n : Nat) (data : Nat) (eop : Bool) (bad : Bool) (s : State) : Keeps 33718296 s (State.offer n data eop bad s) := by
  unfold State.offer
  repeat' first
    | with_reducible exact Keeps.refl _ _
    | with_reducible assumption
    | (extract_lets +onlyGivenNames x; refine Keeps.cut (m := 33718296) (s := s) (u := x) ?_ ?_; rotate_left; all_goals first | (intro _; clear_value x) | subst x)
    | (extract_lets +onlyGivenNames x; clear_value x)
    | with_reducible refine (k_offerNormal ..).step (by decide) ?_
    | with_reducible refine (k_offerStaged ..).step (by decide) ?_
    | with_reducible refine (k_putQueue ..).step (by decide) ?_
    | with_reducible refine Keeps.ite ?_ ?_
    | split

/-- `offerPacket` changes at most: out, wr, sch, queues, can. -/
theorem k_offerPacket (n : Nat) (bad : Bool) (l : List Nat) (s : State) : Keeps 33718296 s (s.offerPacket n bad l) := by
  induction l generalizing s with
  | nil => exact Keeps.refl _ _
  | cons w l ih =>
    cases l with
    | nil => exact (k_offer ..).weaken (by decide)
    | cons v l => exact (ih _).step (by decide) ((k_offer ..).weaken (by decide))

/-- `offerHeld` changes at most: out, wr, sch, queues, can. -/
theorem k_offerHeld (n : Nat) (s : State) : Keeps 33718296 s (State.offerHeld n s) := by
  unfold State.offerHeld
  repeat' first
    | with_reducible exact Keeps.refl _ _
    | with_reducible assumption
    | (extract_lets +onlyGivenNames x; refine Keeps.cut (m := 33718296) (s := s) (u := x) ?_ ?_; rotate_left; all_goals first | (intro _; clear_value x) | subst x)
    | (extract_lets +onlyGivenNames x; clear_value x)
    | with_reducible refine (k_offer ..).step (by decide) ?_
    | with_reducible refine Keeps.ite ?_ ?_
    | split
    | with_reducible refine Keeps.upd_queues ?_ (by decide)

/-- `pop` changes at most: out, wr, sch, queues, can. -/
theorem k_pop (n : Nat) (err : Nat) (s : State) : Keeps 33718296 s (State.pop n err s).2.2 := by
  unfold State.pop
  repeat' first
    | with_reducible exact Keeps.refl _ _
    | with_reducible assumption
    | (extract_lets +onlyGivenNames x; refine Keeps.cut (m := 33718296) (s := s) (u := x) ?_ ?_; rotate_left; all_goals first | (intro _; clear_value x) | subst x)
    | (extract_lets +onlyGivenNames x; clear_value x)
    | with_reducible refine (k_offerHeld ..).step (by decide) ?_
    | with_reducible refine (k_putQueue ..).step (by decide) ?_
    | with_reducible refine (k_wcountIf ..).step (by decide) ?_
    | with_reducible refine (k_wadd ..).step (by decide) ?_
    | with_reducible refine (k_wset ..).step (by decide) ?_
    | split
    | with_reducible dsimp only

/-- `flush` changes at most: wr, sch, queues. -/
theorem k_flush (n : Nat) (s : State) : Keeps 163856 s (State.flush n s) := by
  unfold State.flush
  repeat' first
    | with_reducible exact Keeps.refl _ _
    | with_reducible assumption
    | (extract_lets +onlyGivenNames x; refine Keeps.cut (m := 163856) (s := s) (u := x) ?_ ?_; rotate_left; all_goals first | (intro _; clear_value x) | subst x)
    | (extract_lets +onlyGivenNames x; clear_value x)
    | with_reducible refine (k_putQueue ..).step (by decide) ?_
    | with_reducible refine (k_wcountIf ..).step (by decide) ?_

/-- `writeStaged` changes at most: wr, sch, queues. -/
theorem k_writeStaged (n : Nat) (v : Bool) (s : State) : Keeps 163856 s (State.writeStaged n v s) := by
  unfold State.writeStaged
  repeat' first
    | with_reducible exact Keeps.refl _ _
    | with_reducible assumption
    | (extract_lets +onlyGivenNames x; refine Keeps.cut (m := 163856) (s := s) (u := x) ?_ ?_; rotate_left; all_goals first | (intro _; clear_value x) | subst x)
    | (extract_lets +onlyGivenNames x; clear_value x)
    | with_reducible refine (k_putQueue ..).step (by decide) ?_
    | with_reducible refine (k_wset ..).step (by decide) ?_
    | with_reducible refine Keeps.ite ?_ ?_
    | split

/-- `writeQCtrl` changes at most: wr, sch, queues. -/
theorem k_writeQCtrl (n : Nat) (v : Nat) (s : State) : Keeps 163856 s (State.writeQCtrl n v s) := by
  unfold State.writeQCtrl
  repeat' first
    | with_reducible exact Keeps.refl _ _
    | with_reducible assumption
    | (extract_lets +onlyGivenNames x; refine Keeps.cut (m := 163856) (s := s) (u := x) ?_ ?_; rotate_left; all_goals first | (intro _; clear_value x) | subst x)
    | (extract_lets +onlyGivenNames x; clear_value x)
    | with_reducible refine (k_writeStaged ..).step (by decide) ?_
    | with_reducible refine (k_flush ..).step (by decide) ?_
    | with_reducible refine (k_wsets ..).step (by decide) ?_
    | with_reducible refine Keeps.ite ?_ ?_
    | split

/-- `queuesRun` changes at most: wr, sch, queues. -/
theorem k_queuesRun (s : State) : Keeps 163856 s (State.queuesRun s) := by
  unfold State.queuesRun
  repeat' first
    | with_reducible exact Keeps.refl _ _
    | with_reducible assumption
    | (extract_lets +onlyGivenNames x; refine Keeps.cut (m := 163856) (s := s) (u := x) ?_ ?_; rotate_left; all_goals first | (intro _; clear_value x) | subst x)
    | (extract_lets +onlyGivenNames x; clear_value x)
    | with_reducible refine (k_flush ..).step (by decide) ?_
    | with_reducible refine (k_putQueue ..).step (by decide) ?_
    | with_reducible refine (k_wset ..).step (by decide) ?_
    | with_reducible refine Keeps.ite ?_ ?_
    | with_reducible refine Keeps.foldl _ ?_ (fun _ _ _ => ?_)
    | split

/-- `queuesStage` changes at most: wr, sch, queues. -/
theorem k_queuesStage (s : State) : Keeps 163856 s (State.queuesStage s) := by
  unfold State.queuesStage
  repeat' first
    | with_reducible exact Keeps.refl _ _
    | with_reducible assumption
    | (extract_lets +onlyGivenNames x; refine Keeps.cut (m := 163856) (s := s) (u := x) ?_ ?_; rotate_left; all_goals first | (intro _; clear_value x) | subst x)
    | (extract_lets +onlyGivenNames x; clear_value x)
    | with_reducible refine (k_flush ..).step (by decide) ?_
    | with_reducible refine (k_putQueue ..).step (by decide) ?_
    | with_reducible refine (k_wset ..).step (by decide) ?_
    | with_reducible refine Keeps.ite ?_ ?_
    | with_reducible refine Keeps.foldl _ ?_ (fun _ _ _ => ?_)
    | split

/-- `latchHead` changes at most: wr. -/
theorem k_latchHead (n : Nat) (w : Option QWord) (poison : Bool) (s : State) : Keeps 16 s (State.latchHead n w poison s) := by
  unfold State.latchHead
  repeat' first
    | with_reducible exact Keeps.refl _ _
    | with_reducible assumption
    | with_reducible refine (k_wsets ..).step (by decide) ?_
    | split

/-- `readQData` changes at most: out, wr, sch, queues, can. -/
theorem k_readQData (n : Nat) (err : Nat) (s : State) : Keeps 33718296 s (State.readQData n err s) := by
  unfold State.readQData
  repeat' first
    | with_reducible exact Keeps.refl _ _
    | with_reducible assumption
    | (extract_lets +onlyGivenNames x; refine Keeps.cut (m := 33718296) (s := s) (u := x) ?_ ?_; rotate_left; all_goals first | (intro _; clear_value x) | subst x)
    | (extract_lets +onlyGivenNames x; clear_value x)
    | with_reducible refine (k_latchHead ..).step (by decide) ?_
    | with_reducible refine Keeps.ite ?_ ?_
    | split
    | with_reducible refine Keeps.ofThd (by assumption) ?_
    | with_reducible refine (k_pop ..).step (by decide) ?_
    | with_reducible dsimp only

/-- `peekQData` changes at most: wr. -/
theorem k_peekQData (n : Nat) (s : State) : Keeps 16 s (State.peekQData n s) := by
  unfold State.peekQData
  repeat' first
    | with_reducible exact Keeps.refl _ _
    | with_reducible assumption
    | with_reducible refine (k_latchHead ..).step (by decide) ?_
    | with_reducible refine Keeps.ite ?_ ?_
    | split

end Sys2Proof.Machine
end

