-- ==== Sys2Proof/Laws/KeepsWnPairOps.lean ====
section
/-! SUPPORT. What the operations of Machine/WnPairOps.lean may change. -/

namespace Sys2Proof.Machine

open Sys2Proof

/-- `modPair` changes at most: pair. -/
theorem k_modPair (f : Pair → Pair) (s : State) : Keeps 524288 s (State.modPair f s) := by
  unfold State.modPair
  repeat' first
    | with_reducible exact Keeps.refl _ _
    | with_reducible assumption
    | with_reducible refine Keeps.upd_pair ?_ (by decide)

/-- `plSend` changes at most: out, pair. -/
theorem k_plSend (code : Nat) (src : Nat) (ws : List Nat) (s : State) : Keeps 524296 s (State.plSend code src ws s) := by
  unfold State.plSend
  repeat' first
    | with_reducible exact Keeps.refl _ _
    | with_reducible assumption
    | (extract_lets +onlyGivenNames x; refine Keeps.cut (m := 524296) (s := s) (u := x) ?_ ?_; rotate_left; all_goals first | (intro _; clear_value x) | subst x)
    | (extract_lets +onlyGivenNames x; clear_value x)
    | with_reducible refine (k_modPair ..).step (by decide) ?_
    | with_reducible refine (k_emit ..).step (by decide) ?_
    | with_reducible refine Keeps.ite ?_ ?_
    | split

/-- `diverge` changes at most: out, wr, can. -/
theorem k_diverge (seq : Nat) (s : State) : Keeps 33554456 s (State.diverge seq s) := by
  unfold State.diverge
  repeat' first
    | with_reducible exact Keeps.refl _ _
    | with_reducible assumption
    | (extract_lets +onlyGivenNames x; refine Keeps.cut (m := 33554456) (s := s) (u := x) ?_ ?_; rotate_left; all_goals first | (intro _; clear_value x) | subst x)
    | (extract_lets +onlyGivenNames x; clear_value x)
    | with_reducible refine (k_emcy ..).step (by decide) ?_
    | with_reducible refine (k_wadd ..).step (by decide) ?_
    | with_reducible refine (k_wsets ..).step (by decide) ?_
    | with_reducible refine Keeps.ite ?_ ?_
    | split

/-- `digestEnter` changes at most: out, wr, pair, can. -/
theorem k_digestEnter (seq : Nat) (dig : Nat) (partner : Bool) (s : State) : Keeps 34078744 s (State.digestEnter seq dig partner s) := by
  unfold State.digestEnter
  repeat' first
    | with_reducible exact Keeps.refl _ _
    | with_reducible assumption
    | (extract_lets +onlyGivenNames x; refine Keeps.cut (m := 34078744) (s := s) (u := x) ?_ ?_; rotate_left; all_goals first | (intro _; clear_value x) | subst x)
    | (extract_lets +onlyGivenNames x; clear_value x)
    | with_reducible refine (k_diverge ..).step (by decide) ?_
    | with_reducible refine (k_modPair ..).step (by decide) ?_
    | with_reducible refine (k_wadd ..).step (by decide) ?_
    | with_reducible refine Keeps.ite ?_ ?_
    | split

/-- `joinTry` changes at most: out, wr, pair. -/
theorem k_joinTry (s : State) : Keeps 524312 s (State.joinTry s) := by
  unfold State.joinTry
  repeat' first
    | with_reducible exact Keeps.refl _ _
    | with_reducible assumption
    | (extract_lets +onlyGivenNames x; refine Keeps.cut (m := 524312) (s := s) (u := x) ?_ ?_; rotate_left; all_goals first | (intro _; clear_value x) | subst x)
    | (extract_lets +onlyGivenNames x; clear_value x)
    | with_reducible refine (k_plSend ..).step (by decide) ?_
    | with_reducible refine (k_modPair ..).step (by decide) ?_
    | with_reducible refine (k_wset ..).step (by decide) ?_
    | with_reducible refine Keeps.ite ?_ ?_
    | with_reducible refine Keeps.foldl _ ?_ (fun _ _ _ => ?_)
    | split

end Sys2Proof.Machine
end

