-- ==== Sys2Proof/Laws/KeepsWnTime.lean ====
section
/-! SUPPORT. What the operations of Machine/WnTime.lean may change. -/

namespace Sys2Proof.Machine

open Sys2Proof

/-- `modMer` changes at most: mer. -/
theorem k_modMer (f : Mer → Mer) (s : State) : Keeps 1024 s (State.modMer f s) := by
  unfold State.modMer
  repeat' first
    | with_reducible exact Keeps.refl _ _
    | with_reducible assumption
    | with_reducible refine Keeps.upd_mer ?_ (by decide)

/-- `showRem` changes at most: wr. -/
theorem k_showRem (s : State) : Keeps 16 s (State.showRem s) := by
  unfold State.showRem
  repeat' first
    | with_reducible exact Keeps.refl _ _
    | with_reducible assumption
    | with_reducible refine (k_wset ..).step (by decide) ?_

/-- `slewAccount` changes at most: mer. -/
theorem k_slewAccount (s : State) : Keeps 1024 s (State.slewAccount s) := by
  unfold State.slewAccount
  repeat' first
    | with_reducible exact Keeps.refl _ _
    | with_reducible assumption
    | (extract_lets +onlyGivenNames x; refine Keeps.cut (m := 1024) (s := s) (u := x) ?_ ?_; rotate_left; all_goals first | (intro _; clear_value x) | subst x)
    | (extract_lets +onlyGivenNames x; clear_value x)
    | with_reducible refine (k_modMer ..).step (by decide) ?_
    | with_reducible refine Keeps.ite ?_ ?_
    | split

/-- `ramp` changes at most: wr, mer. -/
theorem k_ramp (s : State) : Keeps 1040 s (State.ramp s) := by
  unfold State.ramp
  repeat' first
    | with_reducible exact Keeps.refl _ _
    | with_reducible assumption
    | (extract_lets +onlyGivenNames x; refine Keeps.cut (m := 1040) (s := s) (u := x) ?_ ?_; rotate_left; all_goals first | (intro _; clear_value x) | subst x)
    | (extract_lets +onlyGivenNames x; clear_value x)
    | with_reducible refine (k_modMer ..).step (by decide) ?_
    | with_reducible refine (k_wset ..).step (by decide) ?_

/-- `latchAnchor` changes at most: mer. -/
theorem k_latchAnchor (span : Nat) (s : State) : Keeps 1024 s (State.latchAnchor span s) := by
  unfold State.latchAnchor
  repeat' first
    | with_reducible exact Keeps.refl _ _
    | with_reducible assumption
    | (extract_lets +onlyGivenNames x; refine Keeps.cut (m := 1024) (s := s) (u := x) ?_ ?_; rotate_left; all_goals first | (intro _; clear_value x) | subst x)
    | (extract_lets +onlyGivenNames x; clear_value x)
    | with_reducible refine (k_modMer ..).step (by decide) ?_
    | with_reducible refine Keeps.ite ?_ ?_
    | split

/-- `sendAnchor` changes at most: out, pair. -/
theorem k_sendAnchor (s : State) : Keeps 524296 s (State.sendAnchor s) := by
  unfold State.sendAnchor
  repeat' first
    | with_reducible exact Keeps.refl _ _
    | with_reducible assumption
    | (extract_lets +onlyGivenNames x; refine Keeps.cut (m := 524296) (s := s) (u := x) ?_ ?_; rotate_left; all_goals first | (intro _; clear_value x) | subst x)
    | (extract_lets +onlyGivenNames x; clear_value x)
    | with_reducible refine (k_plSend ..).step (by decide) ?_
    | with_reducible refine Keeps.ite ?_ ?_
    | split

/-- `checkSplit` changes at most: wr. -/
theorem k_checkSplit (s : State) : Keeps 16 s (State.checkSplit s) := by
  unfold State.checkSplit
  repeat' first
    | with_reducible exact Keeps.refl _ _
    | with_reducible assumption
    | (extract_lets +onlyGivenNames x; refine Keeps.cut (m := 16) (s := s) (u := x) ?_ ?_; rotate_left; all_goals first | (intro _; clear_value x) | subst x)
    | (extract_lets +onlyGivenNames x; clear_value x)
    | with_reducible refine (k_wset ..).step (by decide) ?_
    | with_reducible refine Keeps.ite ?_ ?_
    | split

/-- `frameBoundary` changes at most: out, wr, mer, pair. -/
theorem k_frameBoundary (span : Nat) (meas : Nat) (loop : Option Int) (s : State) : Keeps 525336 s (State.frameBoundary span meas loop s) := by
  unfold State.frameBoundary
  repeat' first
    | with_reducible exact Keeps.refl _ _
    | with_reducible assumption
    | (extract_lets +onlyGivenNames x; refine Keeps.cut (m := 525336) (s := s) (u := x) ?_ ?_; rotate_left; all_goals first | (intro _; clear_value x) | subst x)
    | (extract_lets +onlyGivenNames x; clear_value x)
    | with_reducible refine (k_checkSplit ..).step (by decide) ?_
    | with_reducible refine (k_sendAnchor ..).step (by decide) ?_
    | with_reducible refine (k_latchAnchor ..).step (by decide) ?_
    | with_reducible refine (k_ramp ..).step (by decide) ?_
    | with_reducible refine (k_slewAccount ..).step (by decide) ?_
    | with_reducible refine (k_showRem ..).step (by decide) ?_
    | with_reducible refine (k_modMer ..).step (by decide) ?_
    | with_reducible refine (k_wset ..).step (by decide) ?_
    | with_reducible refine Keeps.ite ?_ ?_
    | split

/-- `setLate` changes at most: mer. -/
theorem k_setLate (n : Nat) (v : Bool) (s : State) : Keeps 1024 s (State.setLate n v s) := by
  unfold State.setLate
  repeat' first
    | with_reducible exact Keeps.refl _ _
    | with_reducible assumption
    | with_reducible refine (k_modMer ..).step (by decide) ?_
    | with_reducible refine Keeps.ite ?_ ?_
    | split

/-- `applyStep` changes at most: wr, mer. -/
theorem k_applyStep (s : State) : Keeps 1040 s (State.applyStep s) := by
  unfold State.applyStep
  repeat' first
    | with_reducible exact Keeps.refl _ _
    | with_reducible assumption
    | (extract_lets +onlyGivenNames x; refine Keeps.cut (m := 1040) (s := s) (u := x) ?_ ?_; rotate_left; all_goals first | (intro _; clear_value x) | subst x)
    | (extract_lets +onlyGivenNames x; clear_value x)
    | with_reducible refine (k_setLate ..).step (by decide) ?_
    | with_reducible refine (k_modMer ..).step (by decide) ?_
    | with_reducible refine (k_wsets ..).step (by decide) ?_
    | with_reducible refine Keeps.ite ?_ ?_
    | with_reducible refine Keeps.foldl _ ?_ (fun _ _ _ => ?_)
    | split

/-- `setMerState` changes at most: wr. -/
theorem k_setMerState (n : Nat) (s : State) : Keeps 16 s (State.setMerState n s) := by
  unfold State.setMerState
  repeat' first
    | with_reducible exact Keeps.refl _ _
    | with_reducible assumption
    | with_reducible refine (k_wsets ..).step (by decide) ?_

/-- `enterMerHoldover` changes at most: wr, mer. -/
theorem k_enterMerHoldover (s : State) : Keeps 1040 s (State.enterMerHoldover s) := by
  unfold State.enterMerHoldover
  repeat' first
    | with_reducible exact Keeps.refl _ _
    | with_reducible assumption
    | with_reducible refine (k_setMerState ..).step (by decide) ?_
    | with_reducible refine (k_modMer ..).step (by decide) ?_
    | split

/-- `leaveMerHoldover` changes at most: wr, mer. -/
theorem k_leaveMerHoldover (s : State) : Keeps 1040 s (State.leaveMerHoldover s) := by
  unfold State.leaveMerHoldover
  repeat' first
    | with_reducible exact Keeps.refl _ _
    | with_reducible assumption
    | with_reducible refine (k_showRem ..).step (by decide) ?_
    | with_reducible refine (k_modMer ..).step (by decide) ?_
    | with_reducible refine Keeps.ite ?_ ?_
    | split

/-- `enterAcquiring` changes at most: wr, mer. -/
theorem k_enterAcquiring (s : State) : Keeps 1040 s (State.enterAcquiring s) := by
  unfold State.enterAcquiring
  repeat' first
    | with_reducible exact Keeps.refl _ _
    | with_reducible assumption
    | with_reducible refine (k_leaveMerHoldover ..).step (by decide) ?_
    | with_reducible refine (k_setMerState ..).step (by decide) ?_
    | with_reducible refine (k_modMer ..).step (by decide) ?_

/-- `syncArrives` changes at most: mer. -/
theorem k_syncArrives (s : State) : Keeps 1024 s (State.syncArrives s) := by
  unfold State.syncArrives
  repeat' first
    | with_reducible exact Keeps.refl _ _
    | with_reducible assumption
    | with_reducible refine (k_modMer ..).step (by decide) ?_
    | split

/-- `loss` changes at most: wr, mer. -/
theorem k_loss (flag : Fld) (mine : Bool) (armed : Bool) (s : State) : Keeps 1040 s (State.loss flag mine armed s) := by
  unfold State.loss
  repeat' first
    | with_reducible exact Keeps.refl _ _
    | with_reducible assumption
    | (extract_lets +onlyGivenNames x; refine Keeps.cut (m := 1040) (s := s) (u := x) ?_ ?_; rotate_left; all_goals first | (intro _; clear_value x) | subst x)
    | (extract_lets +onlyGivenNames x; clear_value x)
    | with_reducible refine (k_enterMerHoldover ..).step (by decide) ?_
    | with_reducible refine (k_wset ..).step (by decide) ?_
    | with_reducible refine Keeps.ite ?_ ?_
    | split

/-- `writeSrc` changes at most: wr, mer. -/
theorem k_writeSrc (v : Nat) (s : State) : Keeps 1040 s (State.writeSrc v s) := by
  unfold State.writeSrc
  repeat' first
    | with_reducible exact Keeps.refl _ _
    | with_reducible assumption
    | (extract_lets +onlyGivenNames x; refine Keeps.cut (m := 1040) (s := s) (u := x) ?_ ?_; rotate_left; all_goals first | (intro _; clear_value x) | subst x)
    | (extract_lets +onlyGivenNames x; clear_value x)
    | with_reducible refine (k_enterAcquiring ..).step (by decide) ?_
    | with_reducible refine (k_leaveMerHoldover ..).step (by decide) ?_
    | with_reducible refine (k_setMerState ..).step (by decide) ?_
    | with_reducible refine (k_wset ..).step (by decide) ?_
    | with_reducible refine Keeps.ite ?_ ?_
    | split

/-- `writeStep` changes at most: mer. -/
theorem k_writeStep (s : State) : Keeps 1024 s (State.writeStep s) := by
  unfold State.writeStep
  repeat' first
    | with_reducible exact Keeps.refl _ _
    | with_reducible assumption
    | (extract_lets +onlyGivenNames x; refine Keeps.cut (m := 1024) (s := s) (u := x) ?_ ?_; rotate_left; all_goals first | (intro _; clear_value x) | subst x)
    | (extract_lets +onlyGivenNames x; clear_value x)
    | with_reducible refine (k_modMer ..).step (by decide) ?_

/-- `adjCancel` changes at most: wr, mer. -/
theorem k_adjCancel (s : State) : Keeps 1040 s (State.adjCancel s) := by
  unfold State.adjCancel
  repeat' first
    | with_reducible exact Keeps.refl _ _
    | with_reducible assumption
    | with_reducible refine (k_showRem ..).step (by decide) ?_
    | with_reducible refine (k_modMer ..).step (by decide) ?_
    | with_reducible refine Keeps.ite ?_ ?_
    | split

/-- `relock` changes at most: wr, mer. -/
theorem k_relock (s : State) : Keeps 1040 s (State.relock s) := by
  unfold State.relock
  repeat' first
    | with_reducible exact Keeps.refl _ _
    | with_reducible assumption
    | with_reducible refine (k_enterAcquiring ..).step (by decide) ?_
    | with_reducible refine Keeps.ite ?_ ?_
    | split

/-- `lock` changes at most: wr. -/
theorem k_lock (s : State) : Keeps 16 s (State.lock s) := by
  unfold State.lock
  repeat' first
    | with_reducible exact Keeps.refl _ _
    | with_reducible assumption
    | with_reducible refine (k_setMerState ..).step (by decide) ?_
    | with_reducible refine Keeps.ite ?_ ?_
    | split

/-- `writeMerCtrl` changes at most: wr, mer. -/
theorem k_writeMerCtrl (v : Nat) (s : State) : Keeps 1040 s (State.writeMerCtrl v s) := by
  unfold State.writeMerCtrl
  repeat' first
    | with_reducible exact Keeps.refl _ _
    | with_reducible assumption
    | (extract_lets +onlyGivenNames x; refine Keeps.cut (m := 1040) (s := s) (u := x) ?_ ?_; rotate_left; all_goals first | (intro _; clear_value x) | subst x)
    | (extract_lets +onlyGivenNames x; clear_value x)
    | with_reducible refine (k_lock ..).step (by decide) ?_
    | with_reducible refine (k_relock ..).step (by decide) ?_
    | with_reducible refine (k_adjCancel ..).step (by decide) ?_
    | with_reducible refine (k_writeStep ..).step (by decide) ?_
    | with_reducible refine (k_writeSrc ..).step (by decide) ?_
    | with_reducible refine (k_wset ..).step (by decide) ?_
    | with_reducible refine Keeps.ite ?_ ?_
    | split

/-- `writeRateHi` changes at most: mer. -/
theorem k_writeRateHi (v : Nat) (s : State) : Keeps 1024 s (State.writeRateHi v s) := by
  unfold State.writeRateHi
  repeat' first
    | with_reducible exact Keeps.refl _ _
    | with_reducible assumption
    | with_reducible refine (k_modMer ..).step (by decide) ?_
    | with_reducible refine Keeps.ite ?_ ?_
    | split

/-- `writeAdj` changes at most: wr, mer. -/
theorem k_writeAdj (v : Nat) (s : State) : Keeps 1040 s (State.writeAdj v s) := by
  unfold State.writeAdj
  repeat' first
    | with_reducible exact Keeps.refl _ _
    | with_reducible assumption
    | with_reducible refine (k_showRem ..).step (by decide) ?_
    | with_reducible refine (k_modMer ..).step (by decide) ?_
    | with_reducible refine Keeps.ite ?_ ?_
    | split

/-- `writeStepNs` changes at most: wr. -/
theorem k_writeStepNs (v : Nat) (s : State) : Keeps 16 s (State.writeStepNs v s) := by
  unfold State.writeStepNs
  repeat' first
    | with_reducible exact Keeps.refl _ _
    | with_reducible assumption
    | with_reducible refine (k_wset ..).step (by decide) ?_
    | with_reducible refine Keeps.ite ?_ ?_
    | split

/-- `writeDatumCfg` changes at most: wr. -/
theorem k_writeDatumCfg (v : Nat) (s : State) : Keeps 16 s (State.writeDatumCfg v s) := by
  unfold State.writeDatumCfg
  repeat' first
    | with_reducible exact Keeps.refl _ _
    | with_reducible assumption
    | (extract_lets +onlyGivenNames x; refine Keeps.cut (m := 16) (s := s) (u := x) ?_ ?_; rotate_left; all_goals first | (intro _; clear_value x) | subst x)
    | (extract_lets +onlyGivenNames x; clear_value x)
    | with_reducible refine (k_wset ..).step (by decide) ?_
    | with_reducible refine Keeps.ite ?_ ?_
    | split

/-- `commitParent` changes at most: wr, mer. -/
theorem k_commitParent (v : Nat) (s : State) : Keeps 1040 s (State.commitParent v s) := by
  unfold State.commitParent
  repeat' first
    | with_reducible exact Keeps.refl _ _
    | with_reducible assumption
    | (extract_lets +onlyGivenNames x; refine Keeps.cut (m := 1040) (s := s) (u := x) ?_ ?_; rotate_left; all_goals first | (intro _; clear_value x) | subst x)
    | (extract_lets +onlyGivenNames x; clear_value x)
    | with_reducible refine (k_enterMerHoldover ..).step (by decide) ?_
    | with_reducible refine (k_modMer ..).step (by decide) ?_
    | with_reducible refine (k_wset ..).step (by decide) ?_
    | with_reducible refine Keeps.ite ?_ ?_
    | split

/-- `showTx` changes at most: wr. -/
theorem k_showTx (s : State) : Keeps 16 s (State.showTx s) := by
  unfold State.showTx
  repeat' first
    | with_reducible exact Keeps.refl _ _
    | with_reducible assumption
    | with_reducible refine (k_wset ..).step (by decide) ?_

/-- `txAgeOut` changes at most: wr, mer. -/
theorem k_txAgeOut (s : State) : Keeps 1040 s (State.txAgeOut s) := by
  unfold State.txAgeOut
  repeat' first
    | with_reducible exact Keeps.refl _ _
    | with_reducible assumption
    | (extract_lets +onlyGivenNames x; refine Keeps.cut (m := 1040) (s := s) (u := x) ?_ ?_; rotate_left; all_goals first | (intro _; clear_value x) | subst x)
    | (extract_lets +onlyGivenNames x; clear_value x)
    | with_reducible refine (k_showTx ..).step (by decide) ?_
    | with_reducible refine (k_modMer ..).step (by decide) ?_
    | with_reducible refine (k_wadd ..).step (by decide) ?_
    | with_reducible refine (k_wset ..).step (by decide) ?_
    | with_reducible refine Keeps.ite ?_ ?_
    | split

/-- `txArrive` changes at most: wr, mer. -/
theorem k_txArrive (x : TxStamp) (s : State) : Keeps 1040 s (State.txArrive x s) := by
  unfold State.txArrive
  repeat' first
    | with_reducible exact Keeps.refl _ _
    | with_reducible assumption
    | (extract_lets +onlyGivenNames x; refine Keeps.cut (m := 1040) (s := s) (u := x) ?_ ?_; rotate_left; all_goals first | (intro _; clear_value x) | subst x)
    | (extract_lets +onlyGivenNames x; clear_value x)
    | with_reducible refine (k_txAgeOut ..).step (by decide) ?_
    | with_reducible refine (k_showTx ..).step (by decide) ?_
    | with_reducible refine (k_modMer ..).step (by decide) ?_
    | with_reducible refine (k_wadd ..).step (by decide) ?_
    | with_reducible refine (k_wset ..).step (by decide) ?_
    | with_reducible refine Keeps.ite ?_ ?_
    | split

/-- `txHead` changes at most: wr. -/
theorem k_txHead (s : State) : Keeps 16 s (State.txHead s) := by
  unfold State.txHead
  repeat' first
    | with_reducible exact Keeps.refl _ _
    | with_reducible assumption
    | with_reducible refine (k_wsets ..).step (by decide) ?_
    | split

/-- `txRead` changes at most: wr, mer. -/
theorem k_txRead (s : State) : Keeps 1040 s (State.txRead s) := by
  unfold State.txRead
  repeat' first
    | with_reducible exact Keeps.refl _ _
    | with_reducible assumption
    | (extract_lets +onlyGivenNames x; refine Keeps.cut (m := 1040) (s := s) (u := x) ?_ ?_; rotate_left; all_goals first | (intro _; clear_value x) | subst x)
    | (extract_lets +onlyGivenNames x; clear_value x)
    | with_reducible refine (k_txHead ..).step (by decide) ?_
    | with_reducible refine (k_showTx ..).step (by decide) ?_
    | with_reducible refine (k_modMer ..).step (by decide) ?_
    | with_reducible refine (k_wsets ..).step (by decide) ?_
    | split

/-- `armAlarm` changes at most: mer. -/
theorem k_armAlarm (n : Nat) (s : State) : Keeps 1024 s (State.armAlarm n s) := by
  unfold State.armAlarm
  repeat' first
    | with_reducible exact Keeps.refl _ _
    | with_reducible assumption
    | (extract_lets +onlyGivenNames x; refine Keeps.cut (m := 1024) (s := s) (u := x) ?_ ?_; rotate_left; all_goals first | (intro _; clear_value x) | subst x)
    | (extract_lets +onlyGivenNames x; clear_value x)
    | with_reducible refine (k_setLate ..).step (by decide) ?_
    | with_reducible refine (k_modMer ..).step (by decide) ?_
    | with_reducible refine Keeps.ite ?_ ?_
    | split

/-- `writeAlmCtrl` changes at most: wr, mer. -/
theorem k_writeAlmCtrl (n : Nat) (v : Nat) (s : State) : Keeps 1040 s (State.writeAlmCtrl n v s) := by
  unfold State.writeAlmCtrl
  repeat' first
    | with_reducible exact Keeps.refl _ _
    | with_reducible assumption
    | (extract_lets +onlyGivenNames x; refine Keeps.cut (m := 1040) (s := s) (u := x) ?_ ?_; rotate_left; all_goals first | (intro _; clear_value x) | subst x)
    | (extract_lets +onlyGivenNames x; clear_value x)
    | with_reducible refine (k_armAlarm ..).step (by decide) ?_
    | with_reducible refine (k_setLate ..).step (by decide) ?_
    | with_reducible refine (k_wstore ..).step (by decide) ?_
    | with_reducible refine Keeps.ite ?_ ?_
    | split

/-- `writeAlmParam` changes at most: wr. -/
theorem k_writeAlmParam (n : Nat) (a : Nat) (v : Nat) (s : State) : Keeps 16 s (State.writeAlmParam n a v s) := by
  unfold State.writeAlmParam
  repeat' first
    | with_reducible exact Keeps.refl _ _
    | with_reducible assumption
    | with_reducible refine (k_wstore ..).step (by decide) ?_
    | with_reducible refine Keeps.ite ?_ ?_
    | split

end Sys2Proof.Machine
end

