-- ==== Sys2Proof/Laws/KeepsWnTri.lean ====
section
/-! SUPPORT. What the operations of Machine/WnTri.lean may change. -/

namespace Sys2Proof.Machine

open Sys2Proof

/-- `putTheta` changes at most: wr. -/
theorem k_putTheta (p : Nat) (v : Int) (s : State) : Keeps 16 s (State.putTheta p v s) := by
  unfold State.putTheta
  repeat' first
    | with_reducible exact Keeps.refl _ _
    | with_reducible assumption
    | (extract_lets +onlyGivenNames x; refine Keeps.cut (m := 16) (s := s) (u := x) ?_ ?_; rotate_left; all_goals first | (intro _; clear_value x) | subst x)
    | (extract_lets +onlyGivenNames x; clear_value x)
    | with_reducible refine (k_wsets ..).step (by decide) ?_

/-- `triRestart` changes at most: wr, tri. -/
theorem k_triRestart (p : Nat) (s : State) : Keeps 2064 s (State.triRestart p s) := by
  unfold State.triRestart
  repeat' first
    | with_reducible exact Keeps.refl _ _
    | with_reducible assumption
    | (extract_lets +onlyGivenNames x; refine Keeps.cut (m := 2064) (s := s) (u := x) ?_ ?_; rotate_left; all_goals first | (intro _; clear_value x) | subst x)
    | (extract_lets +onlyGivenNames x; clear_value x)
    | with_reducible refine (k_modTri ..).step (by decide) ?_
    | with_reducible refine (k_wsets ..).step (by decide) ?_
    | split

/-- `sendTheta` changes at most: out, pair. -/
theorem k_sendTheta (p : Nat) (start : Int) (s : State) : Keeps 524296 s (State.sendTheta p start s) := by
  unfold State.sendTheta
  repeat' first
    | with_reducible exact Keeps.refl _ _
    | with_reducible assumption
    | with_reducible refine (k_plSend ..).step (by decide) ?_
    | with_reducible refine Keeps.ite ?_ ?_
    | split

/-- `publishAvg` changes at most: out, wr, tri, pair. -/
theorem k_publishAvg (p : Nat) (all : List TriSample) (last : Int) (s : State) : Keeps 526360 s (State.publishAvg p all last s) := by
  unfold State.publishAvg
  repeat' first
    | with_reducible exact Keeps.refl _ _
    | with_reducible assumption
    | (extract_lets +onlyGivenNames x; refine Keeps.cut (m := 526360) (s := s) (u := x) ?_ ?_; rotate_left; all_goals first | (intro _; clear_value x) | subst x)
    | (extract_lets +onlyGivenNames x; clear_value x)
    | with_reducible refine (k_sendTheta ..).step (by decide) ?_
    | with_reducible refine (k_putTheta ..).step (by decide) ?_
    | with_reducible refine (k_modTri ..).step (by decide) ?_
    | with_reducible refine (k_wset ..).step (by decide) ?_
    | with_reducible refine Keeps.ite ?_ ?_
    | split

/-- `triSample` changes at most: out, wr, tri, pair. -/
theorem k_triSample (p : Nat) (stamp : Nat × Nat × Int) (start : Nat × Nat × Int) (s : State) : Keeps 526360 s (State.triSample p stamp start s) := by
  unfold State.triSample
  repeat' first
    | with_reducible exact Keeps.refl _ _
    | with_reducible assumption
    | (extract_lets +onlyGivenNames x; refine Keeps.cut (m := 526360) (s := s) (u := x) ?_ ?_; rotate_left; all_goals first | (intro _; clear_value x) | subst x)
    | (extract_lets +onlyGivenNames x; clear_value x)
    | with_reducible refine (k_publishAvg ..).step (by decide) ?_
    | with_reducible refine (k_putTheta ..).step (by decide) ?_
    | with_reducible refine (k_modTri ..).step (by decide) ?_
    | with_reducible refine (k_wset ..).step (by decide) ?_
    | with_reducible refine Keeps.ite ?_ ?_
    | split
    | with_reducible dsimp only

/-- `triStamp` changes at most: out, wr, tri, pair. -/
theorem k_triStamp (p : Nat) (num : Nat) (tick : Nat) (fine : Nat) (s : State) : Keeps 526360 s (State.triStamp p num tick fine s) := by
  unfold State.triStamp
  repeat' first
    | with_reducible exact Keeps.refl _ _
    | with_reducible assumption
    | (extract_lets +onlyGivenNames x; refine Keeps.cut (m := 526360) (s := s) (u := x) ?_ ?_; rotate_left; all_goals first | (intro _; clear_value x) | subst x)
    | (extract_lets +onlyGivenNames x; clear_value x)
    | with_reducible refine (k_triSample ..).step (by decide) ?_
    | with_reducible refine (k_modTri ..).step (by decide) ?_
    | with_reducible refine (k_wadd ..).step (by decide) ?_
    | with_reducible refine Keeps.ite ?_ ?_
    | split

/-- `triStart` changes at most: out, wr, tri, pair. -/
theorem k_triStart (p : Nat) (frame : Nat) (b : Int) (s : State) : Keeps 526360 s (State.triStart p frame b s) := by
  unfold State.triStart
  repeat' first
    | with_reducible exact Keeps.refl _ _
    | with_reducible assumption
    | (extract_lets +onlyGivenNames x; refine Keeps.cut (m := 526360) (s := s) (u := x) ?_ ?_; rotate_left; all_goals first | (intro _; clear_value x) | subst x)
    | (extract_lets +onlyGivenNames x; clear_value x)
    | with_reducible refine (k_triSample ..).step (by decide) ?_
    | with_reducible refine (k_modTri ..).step (by decide) ?_
    | with_reducible refine Keeps.ite ?_ ?_
    | with_reducible refine Keeps.foldl _ ?_ (fun _ _ _ => ?_)
    | split

/-- `triMove` changes at most: wr, tri. -/
theorem k_triMove (p : Nat) (d : Int) (j : Int) (s : State) : Keeps 2064 s (State.triMove p d j s) := by
  unfold State.triMove
  repeat' first
    | with_reducible exact Keeps.refl _ _
    | with_reducible assumption
    | (extract_lets +onlyGivenNames x; refine Keeps.cut (m := 2064) (s := s) (u := x) ?_ ?_; rotate_left; all_goals first | (intro _; clear_value x) | subst x)
    | (extract_lets +onlyGivenNames x; clear_value x)
    | with_reducible refine (k_putTheta ..).step (by decide) ?_
    | with_reducible refine (k_modTri ..).step (by decide) ?_

/-- `triEpoch` changes at most: wr, tri. -/
theorem k_triEpoch (p : Nat) (j : Int) (s : State) : Keeps 2064 s (State.triEpoch p j s) := by
  unfold State.triEpoch
  repeat' first
    | with_reducible exact Keeps.refl _ _
    | with_reducible assumption
    | (extract_lets +onlyGivenNames x; refine Keeps.cut (m := 2064) (s := s) (u := x) ?_ ?_; rotate_left; all_goals first | (intro _; clear_value x) | subst x)
    | (extract_lets +onlyGivenNames x; clear_value x)
    | with_reducible refine (k_triMove ..).step (by decide) ?_
    | with_reducible refine (k_putTheta ..).step (by decide) ?_
    | with_reducible refine (k_modTri ..).step (by decide) ?_
    | with_reducible refine Keeps.ite ?_ ?_
    | split

/-- `epochDone` changes at most: wr, tri. -/
theorem k_epochDone (p : Nat) (s : State) : Keeps 2064 s (State.epochDone p s) := by
  unfold State.epochDone
  repeat' first
    | with_reducible exact Keeps.refl _ _
    | with_reducible assumption
    | with_reducible refine (k_triEpoch ..).step (by decide) ?_
    | with_reducible refine (k_modTri ..).step (by decide) ?_
    | split

/-- `writeTriCtrl` changes at most: wr, tri. -/
theorem k_writeTriCtrl (p : Nat) (v : Nat) (s : State) : Keeps 2064 s (State.writeTriCtrl p v s) := by
  unfold State.writeTriCtrl
  repeat' first
    | with_reducible exact Keeps.refl _ _
    | with_reducible assumption
    | (extract_lets +onlyGivenNames x; refine Keeps.cut (m := 2064) (s := s) (u := x) ?_ ?_; rotate_left; all_goals first | (intro _; clear_value x) | subst x)
    | (extract_lets +onlyGivenNames x; clear_value x)
    | with_reducible refine (k_triRestart ..).step (by decide) ?_
    | with_reducible refine (k_wstore ..).step (by decide) ?_
    | with_reducible refine Keeps.ite ?_ ?_
    | split

/-- `writeTriParam` changes at most: wr, tri. -/
theorem k_writeTriParam (p : Nat) (f : Fld) (v : Nat) (s : State) : Keeps 2064 s (State.writeTriParam p f v s) := by
  unfold State.writeTriParam
  repeat' first
    | with_reducible exact Keeps.refl _ _
    | with_reducible assumption
    | with_reducible refine (k_triRestart ..).step (by decide) ?_
    | with_reducible refine (k_wset ..).step (by decide) ?_
    | with_reducible refine Keeps.ite ?_ ?_
    | split

/-- `walk` changes at most: freeCnt, wr, mems. -/
theorem k_walk (p : Nat) (w : Nat) (err : Bool) (s : State) : Keeps 8388626 s (State.walk p w err s).2 := by
  unfold State.walk
  repeat' first
    | with_reducible exact Keeps.refl _ _
    | with_reducible assumption
    | with_reducible refine (k_unitStand ..).step (by decide) ?_
    | with_reducible refine (k_wadd ..).step (by decide) ?_
    | with_reducible refine Keeps.iteSnd ?_ ?_
    | split
    | with_reducible dsimp only

/-- `walkRefused` changes at most: wr. -/
theorem k_walkRefused (a : Nat) (s : State) : Keeps 16 s (State.walkRefused a s) := by
  unfold State.walkRefused
  repeat' first
    | with_reducible exact Keeps.refl _ _
    | with_reducible assumption
    | (extract_lets +onlyGivenNames x; refine Keeps.cut (m := 16) (s := s) (u := x) ?_ ?_; rotate_left; all_goals first | (intro _; clear_value x) | subst x)
    | (extract_lets +onlyGivenNames x; clear_value x)
    | with_reducible refine (k_wset ..).step (by decide) ?_
    | with_reducible refine Keeps.ite ?_ ?_
    | with_reducible refine Keeps.foldl _ ?_ (fun _ _ _ => ?_)
    | split

end Sys2Proof.Machine
end

