-- ==== Sys2Proof/Laws/KeepsWnMus.lean ====
section
/-! SUPPORT. What the operations of Machine/WnMus.lean may change. -/

namespace Sys2Proof.Machine

open Sys2Proof

/-- `modMus` changes at most: mus. -/
theorem k_modMus (f : Mus → Mus) (s : State) : Keeps 1048576 s (State.modMus f s) := by
  unfold State.modMus
  repeat' first
    | with_reducible exact Keeps.refl _ _
    | with_reducible assumption
    | with_reducible refine Keeps.upd_mus ?_ (by decide)

/-- `modPrx` changes at most: mus. -/
theorem k_modPrx (p : Nat) (f : PortRx → PortRx) (s : State) : Keeps 1048576 s (State.modPrx p f s) := by
  unfold State.modPrx
  repeat' first
    | with_reducible exact Keeps.refl _ _
    | with_reducible assumption
    | with_reducible refine (k_modMus ..).step (by decide) ?_

/-- `giveBack` changes at most: wr, mus. -/
theorem k_giveBack (desc : Nat) (bytes : Nat) (s : State) : Keeps 1048592 s (State.giveBack desc bytes s) := by
  unfold State.giveBack
  repeat' first
    | with_reducible exact Keeps.refl _ _
    | with_reducible assumption
    | with_reducible refine (k_modMus ..).step (by decide) ?_
    | with_reducible refine (k_wset ..).step (by decide) ?_

/-- `freeRecord` changes at most: wr, mus. -/
theorem k_freeRecord (seq : Nat) (s : State) : Keeps 1048592 s (State.freeRecord seq s) := by
  unfold State.freeRecord
  repeat' first
    | with_reducible exact Keeps.refl _ _
    | with_reducible assumption
    | with_reducible refine (k_giveBack ..).step (by decide) ?_
    | with_reducible refine (k_modMus ..).step (by decide) ?_
    | split

/-- `modEv` changes at most: mus. -/
theorem k_modEv (k : Int) (f : Ev → Ev) (s : State) : Keeps 1048576 s (State.modEv k f s) := by
  unfold State.modEv
  repeat' first
    | with_reducible exact Keeps.refl _ _
    | with_reducible assumption
    | with_reducible refine (k_modMus ..).step (by decide) ?_
    | with_reducible refine Keeps.ite ?_ ?_
    | split

/-- `modSec` changes at most: mus. -/
theorem k_modSec (k : Int) (p : Nat) (f : Sec → Sec) (s : State) : Keeps 1048576 s (State.modSec k p f s) := by
  unfold State.modSec
  repeat' first
    | with_reducible exact Keeps.refl _ _
    | with_reducible assumption
    | with_reducible refine (k_modEv ..).step (by decide) ?_
    | with_reducible refine Keeps.ite ?_ ?_
    | split

/-- `makeMissing` changes at most: wr, mus. -/
theorem k_makeMissing (k : Int) (p : Nat) (s : State) : Keeps 1048592 s (State.makeMissing k p s) := by
  unfold State.makeMissing
  repeat' first
    | with_reducible exact Keeps.refl _ _
    | with_reducible assumption
    | with_reducible refine (k_modSec ..).step (by decide) ?_
    | with_reducible refine (k_giveBack ..).step (by decide) ?_
    | split

/-- `closeSec` changes at most: mus. -/
theorem k_closeSec (k : Int) (p : Nat) (flags : Nat) (s : State) : Keeps 1048576 s (State.closeSec k p flags s) := by
  unfold State.closeSec
  repeat' first
    | with_reducible exact Keeps.refl _ _
    | with_reducible assumption
    | with_reducible refine (k_modSec ..).step (by decide) ?_
    | split

/-- `noRoom` changes at most: wr, mus. -/
theorem k_noRoom (k : Int) (p : Nat) (cnt : Fld) (flag : Fld) (s : State) : Keeps 1048592 s (State.noRoom k p cnt flag s) := by
  unfold State.noRoom
  repeat' first
    | with_reducible exact Keeps.refl _ _
    | with_reducible assumption
    | with_reducible refine (k_makeMissing ..).step (by decide) ?_
    | with_reducible refine (k_wadd ..).step (by decide) ?_
    | with_reducible refine (k_wset ..).step (by decide) ?_

/-- `takeDesc` changes at most: wr, mus. -/
theorem k_takeDesc (k : Int) (p : Nat) (s : State) : Keeps 1048592 s (State.takeDesc k p s) := by
  unfold State.takeDesc
  repeat' first
    | with_reducible exact Keeps.refl _ _
    | with_reducible assumption
    | (extract_lets +onlyGivenNames x; refine Keeps.cut (m := 1048592) (s := s) (u := x) ?_ ?_; rotate_left; all_goals first | (intro _; clear_value x) | subst x)
    | (extract_lets +onlyGivenNames x; clear_value x)
    | with_reducible refine (k_noRoom ..).step (by decide) ?_
    | with_reducible refine (k_modSec ..).step (by decide) ?_
    | with_reducible refine (k_wraise ..).step (by decide) ?_
    | with_reducible refine (k_wset ..).step (by decide) ?_
    | with_reducible refine Keeps.ite ?_ ?_
    | split

/-- `addWord` changes at most: wr, mus. -/
theorem k_addWord (k : Int) (p : Nat) (full : Int) (w : Int) (word : Nat) (s : State) : Keeps 1048592 s (State.addWord k p full w word s) := by
  unfold State.addWord
  repeat' first
    | with_reducible exact Keeps.refl _ _
    | with_reducible assumption
    | (extract_lets +onlyGivenNames x; refine Keeps.cut (m := 1048592) (s := s) (u := x) ?_ ?_; rotate_left; all_goals first | (intro _; clear_value x) | subst x)
    | (extract_lets +onlyGivenNames x; clear_value x)
    | with_reducible refine (k_takeDesc ..).step (by decide) ?_
    | with_reducible refine (k_noRoom ..).step (by decide) ?_
    | with_reducible refine (k_modSec ..).step (by decide) ?_
    | with_reducible refine (k_modMus ..).step (by decide) ?_
    | with_reducible refine (k_wadd ..).step (by decide) ?_
    | with_reducible refine Keeps.ite ?_ ?_
    | split

/-- `openEv` changes at most: mus. -/
theorem k_openEv (key : Int) (num : Nat) (slot : Int) (cls : Nat) (tref : Nat) (due : Int) (own : Bool) (s : State) : Keeps 1048576 s (State.openEv key num slot cls tref due own s) := by
  unfold State.openEv
  repeat' first
    | with_reducible exact Keeps.refl _ _
    | with_reducible assumption
    | (extract_lets +onlyGivenNames x; refine Keeps.cut (m := 1048576) (s := s) (u := x) ?_ ?_; rotate_left; all_goals first | (intro _; clear_value x) | subst x)
    | (extract_lets +onlyGivenNames x; clear_value x)
    | with_reducible refine (k_modPrx ..).step (by decide) ?_
    | with_reducible refine (k_modMus ..).step (by decide) ?_
    | with_reducible refine Keeps.ite ?_ ?_
    | with_reducible refine Keeps.foldl _ ?_ (fun _ _ _ => ?_)
    | split

/-- `openSlices` changes at most: mus. -/
theorem k_openSlices (s : State) : Keeps 1048576 s (State.openSlices s) := by
  unfold State.openSlices
  repeat' first
    | with_reducible exact Keeps.refl _ _
    | with_reducible assumption
    | (extract_lets +onlyGivenNames x; refine Keeps.cut (m := 1048576) (s := s) (u := x) ?_ ?_; rotate_left; all_goals first | (intro _; clear_value x) | subst x)
    | (extract_lets +onlyGivenNames x; clear_value x)
    | with_reducible refine (k_openEv ..).step (by decide) ?_
    | with_reducible refine (k_modMus ..).step (by decide) ?_
    | with_reducible refine Keeps.ite ?_ ?_
    | with_reducible refine Keeps.foldl _ ?_ (fun _ _ _ => ?_)
    | split

/-- `leaveBuilding` changes at most: wr, mus. -/
theorem k_leaveBuilding (p : Nat) (s : State) : Keeps 1048592 s (State.leaveBuilding p s) := by
  unfold State.leaveBuilding
  repeat' first
    | with_reducible exact Keeps.refl _ _
    | with_reducible assumption
    | (extract_lets +onlyGivenNames x; refine Keeps.cut (m := 1048592) (s := s) (u := x) ?_ ?_; rotate_left; all_goals first | (intro _; clear_value x) | subst x)
    | (extract_lets +onlyGivenNames x; clear_value x)
    | with_reducible refine (k_closeSec ..).step (by decide) ?_
    | with_reducible refine (k_makeMissing ..).step (by decide) ?_
    | with_reducible refine (k_modPrx ..).step (by decide) ?_
    | with_reducible refine Keeps.ite ?_ ?_
    | with_reducible refine Keeps.foldl _ ?_ (fun _ _ _ => ?_)
    | split

/-- `takeHeads` changes at most: wr, mus. -/
theorem k_takeHeads (p : Nat) (s : State) (x2 : Nat) : Keeps 1048592 s (State.takeHeads p s x2) := by
  induction x2 generalizing s with
  | zero =>
    unfold State.takeHeads
    repeat' first
      | with_reducible exact Keeps.refl _ _
      | with_reducible assumption
      | (extract_lets +onlyGivenNames x; refine Keeps.cut (m := 1048592) (s := s) (u := x) ?_ ?_; rotate_left; all_goals first | (intro _; clear_value x) | subst x)
      | (extract_lets +onlyGivenNames x; clear_value x)
      | with_reducible refine (k_makeMissing ..).step (by decide) ?_
      | with_reducible refine (k_modEv ..).step (by decide) ?_
      | with_reducible refine (k_modPrx ..).step (by decide) ?_
      | with_reducible refine (k_wadd ..).step (by decide) ?_
      | with_reducible refine Keeps.ite ?_ ?_
      | with_reducible refine Keeps.foldl _ ?_ (fun _ _ _ => ?_)
      | split
      | with_reducible dsimp only
  | succ fuel ih =>
    unfold State.takeHeads
    repeat' first
      | with_reducible exact Keeps.refl _ _
      | with_reducible assumption
      | (extract_lets +onlyGivenNames x; refine Keeps.cut (m := 1048592) (s := s) (u := x) ?_ ?_; rotate_left; all_goals first | (intro _; clear_value x) | subst x)
      | (extract_lets +onlyGivenNames x; clear_value x)
      | with_reducible refine (ih ..).step (by decide) ?_
      | with_reducible refine (k_makeMissing ..).step (by decide) ?_
      | with_reducible refine (k_modEv ..).step (by decide) ?_
      | with_reducible refine (k_modPrx ..).step (by decide) ?_
      | with_reducible refine (k_wadd ..).step (by decide) ?_
      | with_reducible refine Keeps.ite ?_ ?_
      | with_reducible refine Keeps.foldl _ ?_ (fun _ _ _ => ?_)
      | split
      | with_reducible dsimp only

/-- `fragHead` changes at most: wr, mus. -/
theorem k_fragHead (p : Nat) (k : Nat) (acc : Nat) (ts : Nat) (s : State) : Keeps 1048592 s (State.fragHead p k acc ts s) := by
  unfold State.fragHead
  repeat' first
    | with_reducible exact Keeps.refl _ _
    | with_reducible assumption
    | (extract_lets +onlyGivenNames x; refine Keeps.cut (m := 1048592) (s := s) (u := x) ?_ ?_; rotate_left; all_goals first | (intro _; clear_value x) | subst x)
    | (extract_lets +onlyGivenNames x; clear_value x)
    | with_reducible refine (k_takeHeads ..).step (by decide) ?_
    | with_reducible refine (k_takeDesc ..).step (by decide) ?_
    | with_reducible refine (k_closeSec ..).step (by decide) ?_
    | with_reducible refine (k_modSec ..).step (by decide) ?_
    | with_reducible refine (k_modEv ..).step (by decide) ?_
    | with_reducible refine (k_modPrx ..).step (by decide) ?_
    | with_reducible refine (k_wadd ..).step (by decide) ?_
    | with_reducible refine (k_wset ..).step (by decide) ?_
    | with_reducible refine Keeps.ite ?_ ?_
    | split

/-- `fragWord` changes at most: freeCnt, wr, mus, mems. -/
theorem k_fragWord (p : Nat) (k : Nat) (w : Nat) (err : Bool) (s : State) : Keeps 9437202 s (State.fragWord p k w err s) := by
  unfold State.fragWord
  repeat' first
    | with_reducible exact Keeps.refl _ _
    | with_reducible assumption
    | (extract_lets +onlyGivenNames x; refine Keeps.cut (m := 9437202) (s := s) (u := x) ?_ ?_; rotate_left; all_goals first | (intro _; clear_value x) | subst x)
    | (extract_lets +onlyGivenNames x; clear_value x)
    | with_reducible refine (k_addWord ..).step (by decide) ?_
    | with_reducible refine (k_modPrx ..).step (by decide) ?_
    | with_reducible refine Keeps.foldl _ ?_ (fun _ _ _ => ?_)
    | split
    | with_reducible refine Keeps.ofSnd (by assumption) ?_
    | with_reducible refine (k_walk ..).step (by decide) ?_
    | with_reducible dsimp only

/-- `fragTail` changes at most: wr, mus. -/
theorem k_fragTail (p : Nat) (k : Nat) (body : Nat) (s : State) : Keeps 1048592 s (State.fragTail p k body s) := by
  unfold State.fragTail
  repeat' first
    | with_reducible exact Keeps.refl _ _
    | with_reducible assumption
    | (extract_lets +onlyGivenNames x; refine Keeps.cut (m := 1048592) (s := s) (u := x) ?_ ?_; rotate_left; all_goals first | (intro _; clear_value x) | subst x)
    | (extract_lets +onlyGivenNames x; clear_value x)
    | with_reducible refine (k_closeSec ..).step (by decide) ?_
    | with_reducible refine (k_modPrx ..).step (by decide) ?_
    | with_reducible refine (k_wadd ..).step (by decide) ?_
    | with_reducible refine Keeps.ite ?_ ?_
    | split

/-- `wordsLost` changes at most: mus. -/
theorem k_wordsLost (p : Nat) (k : Nat) (s : State) : Keeps 1048576 s (State.wordsLost p k s) := by
  unfold State.wordsLost
  repeat' first
    | with_reducible exact Keeps.refl _ _
    | with_reducible assumption
    | with_reducible refine (k_modPrx ..).step (by decide) ?_
    | with_reducible refine Keeps.ite ?_ ?_
    | split

/-- `streamHead` changes at most: mus. -/
theorem k_streamHead (p : Nat) (k : Nat) (frame : Nat) (s : State) : Keeps 1048576 s (State.streamHead p k frame s) := by
  unfold State.streamHead
  repeat' first
    | with_reducible exact Keeps.refl _ _
    | with_reducible assumption
    | with_reducible refine (k_modPrx ..).step (by decide) ?_

/-- `frameFlags` changes at most: mus. -/
theorem k_frameFlags (p : Nat) (frame : Nat) (f : Nat) (s : State) : Keeps 1048576 s (State.frameFlags p frame f s) := by
  unfold State.frameFlags
  repeat' first
    | with_reducible exact Keeps.refl _ _
    | with_reducible assumption
    | with_reducible refine (k_modPrx ..).step (by decide) ?_
    | split

/-- `specCount` changes at most: wr. -/
theorem k_specCount (n : Nat) (s : State) : Keeps 16 s (State.specCount n s) := by
  unfold State.specCount
  repeat' first
    | with_reducible exact Keeps.refl _ _
    | with_reducible assumption
    | with_reducible refine (k_wadd ..).step (by decide) ?_

/-- `expireCand` changes at most: wr, mus. -/
theorem k_expireCand (slot : Int) (s : State) : Keeps 1048592 s (State.expireCand slot s) := by
  unfold State.expireCand
  repeat' first
    | with_reducible exact Keeps.refl _ _
    | with_reducible assumption
    | with_reducible refine (k_specCount ..).step (by decide) ?_
    | with_reducible refine (k_modMus ..).step (by decide) ?_
    | with_reducible refine (k_wset ..).step (by decide) ?_
    | with_reducible refine Keeps.ite ?_ ?_
    | split

/-- `releaseEarly` changes at most: wr, mus. -/
theorem k_releaseEarly {s t : State} (e : s.releaseEarly = some t) : Keeps 1048592 s t := by
  unfold State.releaseEarly at e
  extract_lets heads at e
  clear_value heads
  split at e
  · cases e
  · extract_lets s0 free x y gone at e
    split at e
    · obtain rfl := Option.some.inj e
      refine Keeps.foldl _ ?_ (fun _ _ h => (k_expireCand ..).step (by decide) h)
      refine (k_wset ..).step (by decide) ?_
      refine (k_specCount ..).step (by decide) ?_
      exact (k_modMus ..).weaken (by decide)
    · cases e

/-- `stallRoom` changes at most: wr, mus. -/
theorem k_stallRoom (s : State) (x1 : Nat) : Keeps 1048592 s (State.stallRoom s x1) := by
  induction x1 generalizing s with
  | zero =>
    unfold State.stallRoom
    repeat' first
      | with_reducible exact Keeps.refl _ _
      | with_reducible assumption
      | with_reducible refine Keeps.ite ?_ ?_
      | split
      | with_reducible refine (k_releaseEarly (by assumption)).step (by decide) ?_
      | with_reducible dsimp only
  | succ fuel ih =>
    unfold State.stallRoom
    repeat' first
      | with_reducible exact Keeps.refl _ _
      | with_reducible assumption
      | with_reducible refine Keeps.ite ?_ ?_
      | split
      | with_reducible refine (ih ..).step (by decide) ?_
      | with_reducible refine (k_releaseEarly (by assumption)).step (by decide) ?_
      | with_reducible dsimp only

/-- `stallWord` changes at most: wr, mus. -/
theorem k_stallWord (p : Nat) (frame : Nat) (w : Nat) (full : Int) (t : Int) (s : State) : Keeps 1048592 s (State.stallWord p frame w full t s) := by
  unfold State.stallWord
  repeat' first
    | with_reducible exact Keeps.refl _ _
    | with_reducible assumption
    | (extract_lets +onlyGivenNames x; refine Keeps.cut (m := 1048592) (s := s) (u := x) ?_ ?_; rotate_left; all_goals first | (intro _; clear_value x) | subst x)
    | (extract_lets +onlyGivenNames x; clear_value x)
    | with_reducible refine (k_stallRoom ..).step (by decide) ?_
    | with_reducible refine (k_frameFlags ..).step (by decide) ?_
    | with_reducible refine (k_modMus ..).step (by decide) ?_
    | with_reducible refine Keeps.ite ?_ ?_
    | split

/-- `streamWord` changes at most: freeCnt, wr, mus, mems. -/
theorem k_streamWord (p : Nat) (k : Nat) (w : Nat) (err : Bool) (s : State) : Keeps 9437202 s (State.streamWord p k w err s) := by
  unfold State.streamWord
  repeat' first
    | with_reducible exact Keeps.refl _ _
    | with_reducible assumption
    | (extract_lets +onlyGivenNames x; refine Keeps.cut (m := 9437202) (s := s) (u := x) ?_ ?_; rotate_left; all_goals first | (intro _; clear_value x) | subst x)
    | (extract_lets +onlyGivenNames x; clear_value x)
    | with_reducible refine (k_stallWord ..).step (by decide) ?_
    | with_reducible refine (k_openSlices ..).step (by decide) ?_
    | with_reducible refine (k_addWord ..).step (by decide) ?_
    | with_reducible refine (k_modPrx ..).step (by decide) ?_
    | with_reducible refine Keeps.ite ?_ ?_
    | split
    | with_reducible refine Keeps.ofSnd (by assumption) ?_
    | with_reducible refine (k_walk ..).step (by decide) ?_
    | with_reducible dsimp only

/-- `streamEnd` changes at most: wr, mus. -/
theorem k_streamEnd (p : Nat) (k : Nat) (body : Nat) (s : State) : Keeps 1048592 s (State.streamEnd p k body s) := by
  unfold State.streamEnd
  repeat' first
    | with_reducible exact Keeps.refl _ _
    | with_reducible assumption
    | (extract_lets +onlyGivenNames x; refine Keeps.cut (m := 1048592) (s := s) (u := x) ?_ ?_; rotate_left; all_goals first | (intro _; clear_value x) | subst x)
    | (extract_lets +onlyGivenNames x; clear_value x)
    | with_reducible refine (k_frameFlags ..).step (by decide) ?_
    | with_reducible refine (k_openSlices ..).step (by decide) ?_
    | with_reducible refine (k_takeDesc ..).step (by decide) ?_
    | with_reducible refine (k_closeSec ..).step (by decide) ?_
    | with_reducible refine (k_modPrx ..).step (by decide) ?_
    | with_reducible refine (k_wcountIf ..).step (by decide) ?_
    | with_reducible refine Keeps.ite ?_ ?_
    | split

/-- `specClose` changes at most: wr, mus. -/
theorem k_specClose (k : Int) (p : Nat) (extra : Nat) (s : State) : Keeps 1048592 s (State.specClose k p extra s) := by
  unfold State.specClose
  repeat' first
    | with_reducible exact Keeps.refl _ _
    | with_reducible assumption
    | (extract_lets +onlyGivenNames x; refine Keeps.cut (m := 1048592) (s := s) (u := x) ?_ ?_; rotate_left; all_goals first | (intro _; clear_value x) | subst x)
    | (extract_lets +onlyGivenNames x; clear_value x)
    | with_reducible refine (k_addWord ..).step (by decide) ?_
    | with_reducible refine (k_takeDesc ..).step (by decide) ?_
    | with_reducible refine (k_closeSec ..).step (by decide) ?_
    | with_reducible refine (k_makeMissing ..).step (by decide) ?_
    | with_reducible refine Keeps.ite ?_ ?_
    | with_reducible refine Keeps.foldl _ ?_ (fun _ _ _ => ?_)
    | split

/-- `evComplete` changes at most: wr, mus. -/
theorem k_evComplete (k : Int) (s : State) : Keeps 1048592 s (State.evComplete k s) := by
  unfold State.evComplete
  repeat' first
    | with_reducible exact Keeps.refl _ _
    | with_reducible assumption
    | with_reducible refine (k_specClose ..).step (by decide) ?_
    | with_reducible refine (k_modEv ..).step (by decide) ?_
    | with_reducible refine Keeps.ite ?_ ?_
    | with_reducible refine Keeps.foldl _ ?_ (fun _ _ _ => ?_)
    | split

/-- `evDeadline` changes at most: wr, mus. -/
theorem k_evDeadline (k : Int) (s : State) : Keeps 1048592 s (State.evDeadline k s) := by
  unfold State.evDeadline
  repeat' first
    | with_reducible exact Keeps.refl _ _
    | with_reducible assumption
    | with_reducible refine (k_specClose ..).step (by decide) ?_
    | with_reducible refine (k_closeSec ..).step (by decide) ?_
    | with_reducible refine (k_makeMissing ..).step (by decide) ?_
    | with_reducible refine Keeps.ite ?_ ?_
    | with_reducible refine Keeps.foldl _ ?_ (fun _ _ _ => ?_)
    | split

/-- `setSeq` changes at most: wr. -/
theorem k_setSeq (n : Nat) (s : State) : Keeps 16 s (State.setSeq n s) := by
  unfold State.setSeq
  repeat' first
    | with_reducible exact Keeps.refl _ _
    | with_reducible assumption
    | with_reducible refine (k_wsets ..).step (by decide) ?_

/-- `joinCommit` changes at most: out, wr, pair. -/
theorem k_joinCommit (e : Ev) (s : State) : Keeps 524312 s (State.joinCommit e s) := by
  unfold State.joinCommit
  repeat' first
    | with_reducible exact Keeps.refl _ _
    | with_reducible assumption
    | (extract_lets +onlyGivenNames x; refine Keeps.cut (m := 524312) (s := s) (u := x) ?_ ?_; rotate_left; all_goals first | (intro _; clear_value x) | subst x)
    | (extract_lets +onlyGivenNames x; clear_value x)
    | with_reducible refine (k_setSeq ..).step (by decide) ?_
    | with_reducible refine (k_plSend ..).step (by decide) ?_
    | with_reducible refine (k_modPair ..).step (by decide) ?_
    | with_reducible refine (k_wsets ..).step (by decide) ?_
    | with_reducible refine (k_wset ..).step (by decide) ?_
    | with_reducible refine Keeps.ite ?_ ?_
    | split

/-- `commitEv` changes at most: out, wr, sch, queues, pair, mus, can. -/
theorem k_commitEv (e : Ev) (s : State) : Keeps 35291160 s (State.commitEv e s) := by
  unfold State.commitEv
  repeat' first
    | with_reducible exact Keeps.refl _ _
    | with_reducible assumption
    | (extract_lets +onlyGivenNames x; refine Keeps.cut (m := 35291160) (s := s) (u := x) ?_ ?_; rotate_left; all_goals first | (intro _; clear_value x) | subst x)
    | (extract_lets +onlyGivenNames x; clear_value x)
    | with_reducible refine (k_joinCommit ..).step (by decide) ?_
    | with_reducible refine (k_setSeq ..).step (by decide) ?_
    | with_reducible refine (k_modMus ..).step (by decide) ?_
    | with_reducible refine (k_digestEnter ..).step (by decide) ?_
    | with_reducible refine (k_plSend ..).step (by decide) ?_
    | with_reducible refine (k_offerPacket ..).step (by decide) ?_
    | with_reducible refine (k_wcountIf ..).step (by decide) ?_
    | with_reducible refine Keeps.ite ?_ ?_
    | with_reducible refine Keeps.foldl _ ?_ (fun _ _ _ => ?_)
    | split
    | with_reducible dsimp only

/-- `loseDesc` changes at most: freeCnt, wr, mus, mems. -/
theorem k_loseDesc (k : Int) (p : Nat) (s : State) : Keeps 9437202 s (State.loseDesc k p s) := by
  unfold State.loseDesc
  repeat' first
    | with_reducible exact Keeps.refl _ _
    | with_reducible assumption
    | with_reducible refine (k_modSec ..).step (by decide) ?_
    | with_reducible refine (k_giveBack ..).step (by decide) ?_
    | with_reducible refine (k_unitStand ..).step (by decide) ?_
    | with_reducible refine Keeps.ite ?_ ?_
    | split

/-- `commitFront` changes at most: freeCnt, out, wr, sch, queues, pair, mus, mems, can. -/
theorem k_commitFront (lost : Nat) (s : State) : Keeps 43679770 s (State.commitFront lost s) := by
  unfold State.commitFront
  repeat' first
    | with_reducible exact Keeps.refl _ _
    | with_reducible assumption
    | (extract_lets +onlyGivenNames x; refine Keeps.cut (m := 43679770) (s := s) (u := x) ?_ ?_; rotate_left; all_goals first | (intro _; clear_value x) | subst x)
    | (extract_lets +onlyGivenNames x; clear_value x)
    | with_reducible refine (k_loseDesc ..).step (by decide) ?_
    | with_reducible refine (k_commitEv ..).step (by decide) ?_
    | with_reducible refine (k_openSlices ..).step (by decide) ?_
    | with_reducible refine Keeps.ite ?_ ?_
    | with_reducible refine Keeps.foldl _ ?_ (fun _ _ _ => ?_)
    | split

/-- `musRun` changes at most: wr, mus. -/
theorem k_musRun (s : State) : Keeps 1048592 s (State.musRun s) := by
  unfold State.musRun
  repeat' first
    | with_reducible exact Keeps.refl _ _
    | with_reducible assumption
    | (extract_lets +onlyGivenNames x; refine Keeps.cut (m := 1048592) (s := s) (u := x) ?_ ?_; rotate_left; all_goals first | (intro _; clear_value x) | subst x)
    | (extract_lets +onlyGivenNames x; clear_value x)
    | with_reducible refine (k_setSeq ..).step (by decide) ?_
    | with_reducible refine (k_wsets ..).step (by decide) ?_
    | with_reducible refine Keeps.ite ?_ ?_
    | split
    | with_reducible refine Keeps.upd_mus ?_ (by decide)

/-- `musStop` changes at most: wr, mus. -/
theorem k_musStop (s : State) : Keeps 1048592 s (State.musStop s) := by
  unfold State.musStop
  repeat' first
    | with_reducible exact Keeps.refl _ _
    | with_reducible assumption
    | (extract_lets +onlyGivenNames x; refine Keeps.cut (m := 1048592) (s := s) (u := x) ?_ ?_; rotate_left; all_goals first | (intro _; clear_value x) | subst x)
    | (extract_lets +onlyGivenNames x; clear_value x)
    | with_reducible refine (k_wsets ..).step (by decide) ?_
    | with_reducible refine Keeps.upd_mus ?_ (by decide)

/-- `viewLatch` changes at most: wr. -/
theorem k_viewLatch (s : State) : Keeps 16 s (State.viewLatch s) := by
  unfold State.viewLatch
  repeat' first
    | with_reducible exact Keeps.refl _ _
    | with_reducible assumption
    | with_reducible refine (k_wsets ..).step (by decide) ?_
    | with_reducible refine Keeps.ite ?_ ?_
    | split

/-- `viewRead` changes at most: wr, mus. -/
theorem k_viewRead (s : State) : Keeps 1048592 s (State.viewRead s) := by
  unfold State.viewRead
  repeat' first
    | with_reducible exact Keeps.refl _ _
    | with_reducible assumption
    | (extract_lets +onlyGivenNames x; refine Keeps.cut (m := 1048592) (s := s) (u := x) ?_ ?_; rotate_left; all_goals first | (intro _; clear_value x) | subst x)
    | (extract_lets +onlyGivenNames x; clear_value x)
    | with_reducible refine (k_viewLatch ..).step (by decide) ?_
    | with_reducible refine (k_modMus ..).step (by decide) ?_
    | with_reducible refine Keeps.ite ?_ ?_
    | split

end Sys2Proof.Machine
end

