-- ==== Sys2Proof/Laws/KeepsWnTrig.lean ====
section
/-! SUPPORT. What the operations of Machine/WnTrig.lean may change. -/

namespace Sys2Proof.Machine

open Sys2Proof

/-- `mergeEv` changes at most: mus. -/
theorem k_mergeEv (e : Ev) (cls : Nat) (own : Bool) (s : State) : Keeps 1048576 s (State.mergeEv e cls own s) := by
  unfold State.mergeEv
  repeat' first
    | with_reducible exact Keeps.refl _ _
    | with_reducible assumption
    | with_reducible refine (k_modEv ..).step (by decide) ?_
    | split

/-- `openTriggered` changes at most: wr, mus. -/
theorem k_openTriggered (slot : Int) (cls : Nat) (own : Bool) (s : State) : Keeps 1048592 s (State.openTriggered slot cls own s) := by
  unfold State.openTriggered
  repeat' first
    | with_reducible exact Keeps.refl _ _
    | with_reducible assumption
    | (extract_lets +onlyGivenNames x; refine Keeps.cut (m := 1048592) (s := s) (u := x) ?_ ?_; rotate_left; all_goals first | (intro _; clear_value x) | subst x)
    | (extract_lets +onlyGivenNames x; clear_value x)
    | with_reducible refine (k_mergeEv ..).step (by decide) ?_
    | with_reducible refine (k_openEv ..).step (by decide) ?_
    | with_reducible refine (k_modMus ..).step (by decide) ?_
    | with_reducible refine (k_wcountIf ..).step (by decide) ?_
    | with_reducible refine Keeps.ite ?_ ?_
    | split

/-- `dropCand` changes at most: mus. -/
theorem k_dropCand (slot : Int) (s : State) : Keeps 1048576 s (State.dropCand slot s) := by
  unfold State.dropCand
  repeat' first
    | with_reducible exact Keeps.refl _ _
    | with_reducible assumption
    | with_reducible refine (k_modMus ..).step (by decide) ?_

/-- `specDecide` changes at most: wr, mus. -/
theorem k_specDecide (code : Nat) (slot : Int) (cls : Nat) (own : Bool) (s : State) : Keeps 1048592 s (State.specDecide code slot cls own s) := by
  unfold State.specDecide
  repeat' first
    | with_reducible exact Keeps.refl _ _
    | with_reducible assumption
    | (extract_lets +onlyGivenNames x; refine Keeps.cut (m := 1048592) (s := s) (u := x) ?_ ?_; rotate_left; all_goals first | (intro _; clear_value x) | subst x)
    | (extract_lets +onlyGivenNames x; clear_value x)
    | with_reducible refine (k_dropCand ..).step (by decide) ?_
    | with_reducible refine (k_mergeEv ..).step (by decide) ?_
    | with_reducible refine (k_evComplete ..).step (by decide) ?_
    | with_reducible refine (k_specCount ..).step (by decide) ?_
    | with_reducible refine (k_openEv ..).step (by decide) ?_
    | with_reducible refine (k_wadd ..).step (by decide) ?_
    | with_reducible refine (k_wset ..).step (by decide) ?_
    | with_reducible refine Keeps.ite ?_ ?_
    | split

/-- `tellPartner` changes at most: out, pair. -/
theorem k_tellPartner (src : Nat) (word : Nat) (s : State) : Keeps 524296 s (State.tellPartner src word s) := by
  unfold State.tellPartner
  repeat' first
    | with_reducible exact Keeps.refl _ _
    | with_reducible assumption
    | with_reducible refine (k_plSend ..).step (by decide) ?_

/-- `partnerDecision` changes at most: wr, mus. -/
theorem k_partnerDecision (word : Nat) (s : State) : Keeps 1048592 s (State.partnerDecision word s) := by
  unfold State.partnerDecision
  repeat' first
    | with_reducible exact Keeps.refl _ _
    | with_reducible assumption
    | (extract_lets +onlyGivenNames x; refine Keeps.cut (m := 1048592) (s := s) (u := x) ?_ ?_; rotate_left; all_goals first | (intro _; clear_value x) | subst x)
    | (extract_lets +onlyGivenNames x; clear_value x)
    | with_reducible refine (k_specDecide ..).step (by decide) ?_
    | with_reducible refine (k_openTriggered ..).step (by decide) ?_
    | with_reducible refine Keeps.ite ?_ ?_
    | split

/-- `queueAccept` changes at most: mus. -/
theorem k_queueAccept (src : Nat) (slot : Int) (cls : Nat) (at' : Nat) (s : State) : Keeps 1048576 s (State.queueAccept src slot cls at' s) := by
  unfold State.queueAccept
  repeat' first
    | with_reducible exact Keeps.refl _ _
    | with_reducible assumption
    | with_reducible refine (k_modMus ..).step (by decide) ?_

/-- `tlBlock` changes at most: out, wr, pair, mus. -/
theorem k_tlBlock (t : Nat) (hdr : Nat) (word : Nat) (s : State) : Keeps 1572888 s (State.tlBlock t hdr word s) := by
  unfold State.tlBlock
  repeat' first
    | with_reducible exact Keeps.refl _ _
    | with_reducible assumption
    | (extract_lets +onlyGivenNames x; refine Keeps.cut (m := 1572888) (s := s) (u := x) ?_ ?_; rotate_left; all_goals first | (intro _; clear_value x) | subst x)
    | (extract_lets +onlyGivenNames x; clear_value x)
    | with_reducible refine (k_queueAccept ..).step (by decide) ?_
    | with_reducible refine (k_tellPartner ..).step (by decide) ?_
    | with_reducible refine (k_specDecide ..).step (by decide) ?_
    | with_reducible refine (k_wadd ..).step (by decide) ?_
    | with_reducible refine Keeps.ite ?_ ?_
    | split

/-- `forwardCell` changes at most: out, wr, mus. -/
theorem k_forwardCell (s : State) : Keeps 1048600 s (State.forwardCell s) := by
  unfold State.forwardCell
  repeat' first
    | with_reducible exact Keeps.refl _ _
    | with_reducible assumption
    | (extract_lets +onlyGivenNames x; refine Keeps.cut (m := 1048600) (s := s) (u := x) ?_ ?_; rotate_left; all_goals first | (intro _; clear_value x) | subst x)
    | (extract_lets +onlyGivenNames x; clear_value x)
    | with_reducible refine (k_openTriggered ..).step (by decide) ?_
    | with_reducible refine (k_modMus ..).step (by decide) ?_
    | with_reducible refine (k_wadd ..).step (by decide) ?_
    | with_reducible refine (k_wset ..).step (by decide) ?_
    | with_reducible refine (k_emit ..).step (by decide) ?_
    | with_reducible refine Keeps.ite ?_ ?_
    | with_reducible refine Keeps.foldl _ ?_ (fun _ _ _ => ?_)
    | split

/-- `offerPrim` changes at most: mus. -/
theorem k_offerPrim (p : Nat) (slot : Nat) (ws : List Nat) (s : State) : Keeps 1048576 s (State.offerPrim p slot ws s) := by
  unfold State.offerPrim
  repeat' first
    | with_reducible exact Keeps.refl _ _
    | with_reducible assumption
    | (extract_lets +onlyGivenNames x; refine Keeps.cut (m := 1048576) (s := s) (u := x) ?_ ?_; rotate_left; all_goals first | (intro _; clear_value x) | subst x)
    | (extract_lets +onlyGivenNames x; clear_value x)
    | with_reducible refine (k_modMus ..).step (by decide) ?_
    | with_reducible refine Keeps.ite ?_ ?_
    | split
    | with_reducible dsimp only

/-- `selfFire` changes at most: wr, mus. -/
theorem k_selfFire (slot : Int) (s : State) : Keeps 1048592 s (State.selfFire slot s) := by
  unfold State.selfFire
  repeat' first
    | with_reducible exact Keeps.refl _ _
    | with_reducible assumption
    | (extract_lets +onlyGivenNames x; refine Keeps.cut (m := 1048592) (s := s) (u := x) ?_ ?_; rotate_left; all_goals first | (intro _; clear_value x) | subst x)
    | (extract_lets +onlyGivenNames x; clear_value x)
    | with_reducible refine (k_modMus ..).step (by decide) ?_
    | with_reducible refine (k_wadd ..).step (by decide) ?_
    | with_reducible refine Keeps.ite ?_ ?_
    | split

/-- `selfEval` changes at most: wr, mus. -/
theorem k_selfEval (slot : Nat) (l : List Prim) (s : State) : Keeps 1048592 s (State.selfEval slot l s) := by
  unfold State.selfEval
  repeat' first
    | with_reducible exact Keeps.refl _ _
    | with_reducible assumption
    | with_reducible refine (k_selfFire ..).step (by decide) ?_
    | with_reducible refine (k_modMus ..).step (by decide) ?_
    | with_reducible refine Keeps.ite ?_ ?_
    | split

/-- `capture` changes at most: wr, mus. -/
theorem k_capture (slot : Nat) (s : State) : Keeps 1048592 s (State.capture slot s) := by
  unfold State.capture
  repeat' first
    | with_reducible exact Keeps.refl _ _
    | with_reducible assumption
    | (extract_lets +onlyGivenNames x; refine Keeps.cut (m := 1048592) (s := s) (u := x) ?_ ?_; rotate_left; all_goals first | (intro _; clear_value x) | subst x)
    | (extract_lets +onlyGivenNames x; clear_value x)
    | with_reducible refine (k_selfEval ..).step (by decide) ?_
    | with_reducible refine (k_modMus ..).step (by decide) ?_
    | with_reducible refine (k_wadd ..).step (by decide) ?_
    | with_reducible refine (k_wset ..).step (by decide) ?_
    | with_reducible refine Keeps.foldl _ ?_ (fun _ _ _ => ?_)
    | split

/-- `openCand` changes at most: wr, mus. -/
theorem k_openCand (slot : Nat) (l : List Prim) (s : State) : Keeps 1048592 s (State.openCand slot l s) := by
  unfold State.openCand
  repeat' first
    | with_reducible exact Keeps.refl _ _
    | with_reducible assumption
    | with_reducible refine (k_specCount ..).step (by decide) ?_
    | with_reducible refine (k_modMus ..).step (by decide) ?_
    | with_reducible refine Keeps.ite ?_ ?_
    | split

/-- `releaseCell` changes at most: out, wr, mus. -/
theorem k_releaseCell (slot : Nat) (s : State) : Keeps 1048600 s (State.releaseCell slot s) := by
  unfold State.releaseCell
  repeat' first
    | with_reducible exact Keeps.refl _ _
    | with_reducible assumption
    | (extract_lets +onlyGivenNames x; refine Keeps.cut (m := 1048600) (s := s) (u := x) ?_ ?_; rotate_left; all_goals first | (intro _; clear_value x) | subst x)
    | (extract_lets +onlyGivenNames x; clear_value x)
    | with_reducible refine (k_openCand ..).step (by decide) ?_
    | with_reducible refine (k_modMus ..).step (by decide) ?_
    | with_reducible refine (k_emit ..).step (by decide) ?_

/-- `selfAccept` changes at most: out, wr, pair, mus. -/
theorem k_selfAccept (slot : Int) (s : State) : Keeps 1572888 s (State.selfAccept slot s) := by
  unfold State.selfAccept
  repeat' first
    | with_reducible exact Keeps.refl _ _
    | with_reducible assumption
    | (extract_lets +onlyGivenNames x; refine Keeps.cut (m := 1572888) (s := s) (u := x) ?_ ?_; rotate_left; all_goals first | (intro _; clear_value x) | subst x)
    | (extract_lets +onlyGivenNames x; clear_value x)
    | with_reducible refine (k_queueAccept ..).step (by decide) ?_
    | with_reducible refine (k_tellPartner ..).step (by decide) ?_
    | with_reducible refine (k_specDecide ..).step (by decide) ?_
    | with_reducible refine (k_wadd ..).step (by decide) ?_
    | with_reducible refine Keeps.ite ?_ ?_
    | split

end Sys2Proof.Machine
end

