-- ==== Sys2Proof/Laws/KeepsWnIng.lean ====
section
/-! SUPPORT. What the operations of Machine/WnIng.lean may change. -/

namespace Sys2Proof.Machine

open Sys2Proof

/-- `setPort` changes at most: wr. -/
theorem k_setPort (p : Nat) (st : Nat) (s : State) : Keeps 16 s (State.setPort p st s) := by
  unfold State.setPort
  repeat' first
    | with_reducible exact Keeps.refl _ _
    | with_reducible assumption
    | (extract_lets +onlyGivenNames x; refine Keeps.cut (m := 16) (s := s) (u := x) ?_ ?_; rotate_left; all_goals first | (intro _; clear_value x) | subst x)
    | (extract_lets +onlyGivenNames x; clear_value x)
    | with_reducible refine (k_wsets ..).step (by decide) ?_
    | with_reducible refine (k_wset ..).step (by decide) ?_
    | split

/-- `relink` changes at most: dlinks. -/
theorem k_relink (l : Nat) (s : State) : Keeps 16384 s (State.relink l s) := by
  unfold State.relink
  repeat' first
    | with_reducible exact Keeps.refl _ _
    | with_reducible assumption
    | with_reducible refine (k_dlOp ..).step (by decide) ?_

/-- `laneDrop` changes at most: wr, lanes, mus. -/
theorem k_laneDrop (l : Nat) (st : Nat) (s : State) : Keeps 1052688 s (State.laneDrop l st s) := by
  unfold State.laneDrop
  repeat' first
    | with_reducible exact Keeps.refl _ _
    | with_reducible assumption
    | (extract_lets +onlyGivenNames x; refine Keeps.cut (m := 1052688) (s := s) (u := x) ?_ ?_; rotate_left; all_goals first | (intro _; clear_value x) | subst x)
    | (extract_lets +onlyGivenNames x; clear_value x)
    | with_reducible refine (k_wordsLost ..).step (by decide) ?_
    | with_reducible refine (k_modLane ..).step (by decide) ?_
    | with_reducible refine (k_wadd ..).step (by decide) ?_
    | with_reducible refine (k_wset ..).step (by decide) ?_
    | with_reducible refine Keeps.ite ?_ ?_
    | split

/-- `laneHunt` changes at most: wr, lanes, dlinks, mus. -/
theorem k_laneHunt (l : Nat) (s : State) : Keeps 1069072 s (State.laneHunt l s) := by
  unfold State.laneHunt
  repeat' first
    | with_reducible exact Keeps.refl _ _
    | with_reducible assumption
    | (extract_lets +onlyGivenNames x; refine Keeps.cut (m := 1069072) (s := s) (u := x) ?_ ?_; rotate_left; all_goals first | (intro _; clear_value x) | subst x)
    | (extract_lets +onlyGivenNames x; clear_value x)
    | with_reducible refine (k_laneDrop ..).step (by decide) ?_
    | with_reducible refine (k_relink ..).step (by decide) ?_
    | with_reducible refine Keeps.ite ?_ ?_
    | split

/-- `laneFaulty` changes at most: wr, lanes, mus. -/
theorem k_laneFaulty (l : Nat) (cause : Nat) (s : State) : Keeps 1052688 s (State.laneFaulty l cause s) := by
  unfold State.laneFaulty
  repeat' first
    | with_reducible exact Keeps.refl _ _
    | with_reducible assumption
    | (extract_lets +onlyGivenNames x; refine Keeps.cut (m := 1052688) (s := s) (u := x) ?_ ?_; rotate_left; all_goals first | (intro _; clear_value x) | subst x)
    | (extract_lets +onlyGivenNames x; clear_value x)
    | with_reducible refine (k_leaveBuilding ..).step (by decide) ?_
    | with_reducible refine (k_modLane ..).step (by decide) ?_
    | with_reducible refine (k_wsets ..).step (by decide) ?_

/-- `blockLost` changes at most: wr, lanes, mus. -/
theorem k_blockLost (l : Nat) (num : Nat) (s : State) : Keeps 1052688 s (State.blockLost l num s) := by
  unfold State.blockLost
  repeat' first
    | with_reducible exact Keeps.refl _ _
    | with_reducible assumption
    | with_reducible refine (k_wordsLost ..).step (by decide) ?_
    | with_reducible refine (k_modLane ..).step (by decide) ?_
    | with_reducible refine (k_wadd ..).step (by decide) ?_

/-- `huntBlock` changes at most: wr, tri, lanes. -/
theorem k_huntBlock (l : Nat) (num : Nat) (ok : Bool) (s : State) : Keeps 6160 s (State.huntBlock l num ok s) := by
  unfold State.huntBlock
  repeat' first
    | with_reducible exact Keeps.refl _ _
    | with_reducible assumption
    | (extract_lets +onlyGivenNames x; refine Keeps.cut (m := 6160) (s := s) (u := x) ?_ ?_; rotate_left; all_goals first | (intro _; clear_value x) | subst x)
    | (extract_lets +onlyGivenNames x; clear_value x)
    | with_reducible refine (k_triRestart ..).step (by decide) ?_
    | with_reducible refine (k_modLane ..).step (by decide) ?_
    | with_reducible refine (k_wset ..).step (by decide) ?_
    | with_reducible refine Keeps.ite ?_ ?_
    | split

/-- `badBlock` changes at most: wr, lanes, dlinks, mus. -/
theorem k_badBlock (l : Nat) (num : Nat) (s : State) : Keeps 1069072 s (State.badBlock l num s) := by
  unfold State.badBlock
  repeat' first
    | with_reducible exact Keeps.refl _ _
    | with_reducible assumption
    | (extract_lets +onlyGivenNames x; refine Keeps.cut (m := 1069072) (s := s) (u := x) ?_ ?_; rotate_left; all_goals first | (intro _; clear_value x) | subst x)
    | (extract_lets +onlyGivenNames x; clear_value x)
    | with_reducible refine (k_laneFaulty ..).step (by decide) ?_
    | with_reducible refine (k_laneHunt ..).step (by decide) ?_
    | with_reducible refine (k_wordsLost ..).step (by decide) ?_
    | with_reducible refine (k_dlOp ..).step (by decide) ?_
    | with_reducible refine (k_modLane ..).step (by decide) ?_
    | with_reducible refine (k_wadd ..).step (by decide) ?_
    | with_reducible refine Keeps.ite ?_ ?_
    | split

/-- `rsBlock` changes at most: wr, tri, lanes, dlinks, mus. -/
theorem k_rsBlock (l : Nat) (num : Nat) (replay : Bool) (fix : Nat) (s : State) : Keeps 1071120 s (State.rsBlock l num replay fix s) := by
  unfold State.rsBlock
  repeat' first
    | with_reducible exact Keeps.refl _ _
    | with_reducible assumption
    | (extract_lets +onlyGivenNames x; refine Keeps.cut (m := 1071120) (s := s) (u := x) ?_ ?_; rotate_left; all_goals first | (intro _; clear_value x) | subst x)
    | (extract_lets +onlyGivenNames x; clear_value x)
    | with_reducible refine (k_badBlock ..).step (by decide) ?_
    | with_reducible refine (k_huntBlock ..).step (by decide) ?_
    | with_reducible refine (k_blockLost ..).step (by decide) ?_
    | with_reducible refine (k_laneFaulty ..).step (by decide) ?_
    | with_reducible refine (k_modLane ..).step (by decide) ?_
    | with_reducible refine (k_wadd ..).step (by decide) ?_
    | with_reducible refine Keeps.ite ?_ ?_
    | with_reducible refine Keeps.foldl _ ?_ (fun _ _ _ => ?_)
    | split

/-- `attach` changes at most: wr, ports, dlinks. -/
theorem k_attach (p : Nat) (n : Nat) (s : State) : Keeps 24592 s (State.attach p n s) := by
  unfold State.attach
  repeat' first
    | with_reducible exact Keeps.refl _ _
    | with_reducible assumption
    | with_reducible refine (k_setPort ..).step (by decide) ?_
    | with_reducible refine (k_dlAccess ..).step (by decide) ?_
    | with_reducible refine (k_modPort ..).step (by decide) ?_

/-- `configure` changes at most: wr, ports, dlinks. -/
theorem k_configure (p : Nat) (s : State) : Keeps 24592 s (State.configure p s) := by
  unfold State.configure
  repeat' first
    | with_reducible exact Keeps.refl _ _
    | with_reducible assumption
    | (extract_lets +onlyGivenNames x; refine Keeps.cut (m := 24592) (s := s) (u := x) ?_ ?_; rotate_left; all_goals first | (intro _; clear_value x) | subst x)
    | (extract_lets +onlyGivenNames x; clear_value x)
    | with_reducible refine (k_setPort ..).step (by decide) ?_
    | with_reducible refine (k_dlAccess ..).step (by decide) ?_
    | with_reducible refine (k_dlOp ..).step (by decide) ?_
    | with_reducible refine (k_modPort ..).step (by decide) ?_
    | with_reducible refine (k_wset ..).step (by decide) ?_
    | with_reducible refine Keeps.ite ?_ ?_
    | with_reducible refine Keeps.foldl _ ?_ (fun _ _ _ => ?_)
    | split

/-- `sendEpoch` changes at most: out, ports, dlinks, pair. -/
theorem k_sendEpoch (p : Nat) (s : State) : Keeps 548872 s (State.sendEpoch p s) := by
  unfold State.sendEpoch
  repeat' first
    | with_reducible exact Keeps.refl _ _
    | with_reducible assumption
    | (extract_lets +onlyGivenNames x; refine Keeps.cut (m := 548872) (s := s) (u := x) ?_ ?_; rotate_left; all_goals first | (intro _; clear_value x) | subst x)
    | (extract_lets +onlyGivenNames x; clear_value x)
    | with_reducible refine (k_plSend ..).step (by decide) ?_
    | with_reducible refine (k_dlAccess ..).step (by decide) ?_
    | with_reducible refine (k_dlSend ..).step (by decide) ?_
    | with_reducible refine (k_modPort ..).step (by decide) ?_
    | split
    | with_reducible dsimp only

/-- `acquire` changes at most: out, wr, ports, dlinks, pair. -/
theorem k_acquire (p : Nat) (s : State) : Keeps 548888 s (State.acquire p s) := by
  unfold State.acquire
  repeat' first
    | with_reducible exact Keeps.refl _ _
    | with_reducible assumption
    | with_reducible refine (k_sendEpoch ..).step (by decide) ?_
    | with_reducible refine (k_setPort ..).step (by decide) ?_
    | with_reducible refine (k_dlOp ..).step (by decide) ?_
    | with_reducible refine (k_modPort ..).step (by decide) ?_
    | with_reducible refine Keeps.ite ?_ ?_
    | split

/-- `regroup` changes at most: wr, ports, dlinks. -/
theorem k_regroup (l : Nat) (s : State) : Keeps 24592 s (State.regroup l s) := by
  unfold State.regroup
  repeat' first
    | with_reducible exact Keeps.refl _ _
    | with_reducible assumption
    | (extract_lets +onlyGivenNames x; refine Keeps.cut (m := 24592) (s := s) (u := x) ?_ ?_; rotate_left; all_goals first | (intro _; clear_value x) | subst x)
    | (extract_lets +onlyGivenNames x; clear_value x)
    | with_reducible refine (k_attach ..).step (by decide) ?_
    | with_reducible refine (k_wsets ..).step (by decide) ?_
    | with_reducible refine (k_wset ..).step (by decide) ?_
    | with_reducible refine Keeps.ite ?_ ?_
    | split

/-- `laneIdPort` changes at most: wr. -/
theorem k_laneIdPort (p : Nat) (body : Nat) (s : State) : Keeps 16 s (State.laneIdPort p body s) := by
  unfold State.laneIdPort
  repeat' first
    | with_reducible exact Keeps.refl _ _
    | with_reducible assumption
    | with_reducible refine (k_wsets ..).step (by decide) ?_

/-- `followAcquire` changes at most: wr. -/
theorem k_followAcquire (p : Nat) (s : State) : Keeps 16 s (State.followAcquire p s) := by
  unfold State.followAcquire
  repeat' first
    | with_reducible exact Keeps.refl _ _
    | with_reducible assumption
    | with_reducible refine (k_setPort ..).step (by decide) ?_
    | with_reducible refine Keeps.ite ?_ ?_
    | split

/-- `laneId` changes at most: wr, lanes, ports, dlinks, mus. -/
theorem k_laneId (l : Nat) (body : Nat) (s : State) : Keeps 1077264 s (State.laneId l body s) := by
  unfold State.laneId
  repeat' first
    | with_reducible exact Keeps.refl _ _
    | with_reducible assumption
    | (extract_lets +onlyGivenNames x; refine Keeps.cut (m := 1077264) (s := s) (u := x) ?_ ?_; rotate_left; all_goals first | (intro _; clear_value x) | subst x)
    | (extract_lets +onlyGivenNames x; clear_value x)
    | with_reducible refine (k_followAcquire ..).step (by decide) ?_
    | with_reducible refine (k_laneIdPort ..).step (by decide) ?_
    | with_reducible refine (k_regroup ..).step (by decide) ?_
    | with_reducible refine (k_laneHunt ..).step (by decide) ?_
    | with_reducible refine (k_modLane ..).step (by decide) ?_
    | with_reducible refine (k_modPort ..).step (by decide) ?_
    | with_reducible refine (k_wsets ..).step (by decide) ?_
    | with_reducible refine (k_wset ..).step (by decide) ?_
    | with_reducible refine Keeps.ite ?_ ?_
    | split

/-- `detached` changes at most: wr, ports, mus. -/
theorem k_detached (p : Nat) (s : State) : Keeps 1056784 s (State.detached p s) := by
  unfold State.detached
  repeat' first
    | with_reducible exact Keeps.refl _ _
    | with_reducible assumption
    | (extract_lets +onlyGivenNames x; refine Keeps.cut (m := 1056784) (s := s) (u := x) ?_ ?_; rotate_left; all_goals first | (intro _; clear_value x) | subst x)
    | (extract_lets +onlyGivenNames x; clear_value x)
    | with_reducible refine (k_setPort ..).step (by decide) ?_
    | with_reducible refine (k_leaveBuilding ..).step (by decide) ?_
    | with_reducible refine (k_modPort ..).step (by decide) ?_
    | with_reducible refine Keeps.ite ?_ ?_
    | split

/-- `detach` changes at most: wr, ports, dlinks, mus. -/
theorem k_detach (p : Nat) (s : State) : Keeps 1073168 s (State.detach p s) := by
  unfold State.detach
  repeat' first
    | with_reducible exact Keeps.refl _ _
    | with_reducible assumption
    | (extract_lets +onlyGivenNames x; refine Keeps.cut (m := 1073168) (s := s) (u := x) ?_ ?_; rotate_left; all_goals first | (intro _; clear_value x) | subst x)
    | (extract_lets +onlyGivenNames x; clear_value x)
    | with_reducible refine (k_setPort ..).step (by decide) ?_
    | with_reducible refine (k_leaveBuilding ..).step (by decide) ?_
    | with_reducible refine (k_dlOp ..).step (by decide) ?_
    | with_reducible refine (k_modPort ..).step (by decide) ?_
    | with_reducible refine Keeps.ite ?_ ?_
    | split

/-- `attachWrite` changes at most: wr, ports, dlinks. -/
theorem k_attachWrite (p : Nat) (s : State) : Keeps 24592 s (State.attachWrite p s) := by
  unfold State.attachWrite
  repeat' first
    | with_reducible exact Keeps.refl _ _
    | with_reducible assumption
    | (extract_lets +onlyGivenNames x; refine Keeps.cut (m := 24592) (s := s) (u := x) ?_ ?_; rotate_left; all_goals first | (intro _; clear_value x) | subst x)
    | (extract_lets +onlyGivenNames x; clear_value x)
    | with_reducible refine (k_attach ..).step (by decide) ?_
    | with_reducible refine (k_setPort ..).step (by decide) ?_
    | with_reducible refine (k_dlOp ..).step (by decide) ?_
    | with_reducible refine (k_modPort ..).step (by decide) ?_
    | with_reducible refine Keeps.ite ?_ ?_
    | split

/-- `portsRun` changes at most: wr, ports, dlinks. -/
theorem k_portsRun (s : State) : Keeps 24592 s (State.portsRun s) := by
  unfold State.portsRun
  repeat' first
    | with_reducible exact Keeps.refl _ _
    | with_reducible assumption
    | with_reducible refine (k_configure ..).step (by decide) ?_
    | with_reducible refine Keeps.foldl _ ?_ (fun _ _ _ => ?_)

/-- `portsStop` changes at most: wr, ports, dlinks. -/
theorem k_portsStop (tell : Bool) (s : State) : Keeps 24592 s (State.portsStop tell s) := by
  unfold State.portsStop
  repeat' first
    | with_reducible exact Keeps.refl _ _
    | with_reducible assumption
    | (extract_lets +onlyGivenNames x; refine Keeps.cut (m := 24592) (s := s) (u := x) ?_ ?_; rotate_left; all_goals first | (intro _; clear_value x) | subst x)
    | (extract_lets +onlyGivenNames x; clear_value x)
    | with_reducible refine (k_attach ..).step (by decide) ?_
    | with_reducible refine (k_dlOp ..).step (by decide) ?_
    | with_reducible refine (k_modPort ..).step (by decide) ?_
    | with_reducible refine Keeps.ite ?_ ?_
    | with_reducible refine Keeps.foldl _ ?_ (fun _ _ _ => ?_)
    | split

/-- `clksw` changes at most: wr, tri, ports. -/
theorem k_clksw (p : Nat) (dep : Nat) (body : Nat) (s : State) : Keeps 10256 s (State.clksw p dep body s) := by
  unfold State.clksw
  repeat' first
    | with_reducible exact Keeps.refl _ _
    | with_reducible assumption
    | (extract_lets +onlyGivenNames x; refine Keeps.cut (m := 10256) (s := s) (u := x) ?_ ?_; rotate_left; all_goals first | (intro _; clear_value x) | subst x)
    | (extract_lets +onlyGivenNames x; clear_value x)
    | with_reducible refine (k_triRestart ..).step (by decide) ?_
    | with_reducible refine (k_modPort ..).step (by decide) ?_
    | with_reducible refine (k_wset ..).step (by decide) ?_
    | with_reducible refine Keeps.ite ?_ ?_
    | split

/-- `holdWord` changes at most: wr, tri, ports. -/
theorem k_holdWord (p : Nat) (dep : Nat) (body : Nat) (s : State) : Keeps 10256 s (State.holdWord p dep body s) := by
  unfold State.holdWord
  repeat' first
    | with_reducible exact Keeps.refl _ _
    | with_reducible assumption
    | (extract_lets +onlyGivenNames x; refine Keeps.cut (m := 10256) (s := s) (u := x) ?_ ?_; rotate_left; all_goals first | (intro _; clear_value x) | subst x)
    | (extract_lets +onlyGivenNames x; clear_value x)
    | with_reducible refine (k_triRestart ..).step (by decide) ?_
    | with_reducible refine (k_modPort ..).step (by decide) ?_
    | with_reducible refine Keeps.ite ?_ ?_
    | split

/-- `stateWord` changes at most: wr, ports, mus. -/
theorem k_stateWord (p : Nat) (body : Nat) (s : State) : Keeps 1056784 s (State.stateWord p body s) := by
  unfold State.stateWord
  repeat' first
    | with_reducible exact Keeps.refl _ _
    | with_reducible assumption
    | (extract_lets +onlyGivenNames x; refine Keeps.cut (m := 1056784) (s := s) (u := x) ?_ ?_; rotate_left; all_goals first | (intro _; clear_value x) | subst x)
    | (extract_lets +onlyGivenNames x; clear_value x)
    | with_reducible refine (k_followAcquire ..).step (by decide) ?_
    | with_reducible refine (k_leaveBuilding ..).step (by decide) ?_
    | with_reducible refine (k_modPrx ..).step (by decide) ?_
    | with_reducible refine (k_modPort ..).step (by decide) ?_
    | with_reducible refine (k_wset ..).step (by decide) ?_
    | with_reducible refine Keeps.ite ?_ ?_
    | split

/-- `takeWait` changes at most: dlinks. -/
theorem k_takeWait (p : Nat) (tag : Nat) (s : State) : Keeps 16384 s (State.takeWait p tag s).2 := by
  unfold State.takeWait
  repeat' first
    | with_reducible exact Keeps.refl _ _
    | with_reducible assumption
    | with_reducible refine (k_modDlink ..).step (by decide) ?_
    | split
    | with_reducible dsimp only

/-- `regData` changes at most: out, wr, ports, dlinks. -/
theorem k_regData (p : Nat) (a : Access) (data : Nat) (s : State) : Keeps 24600 s (State.regData p a data s) := by
  unfold State.regData
  repeat' first
    | with_reducible exact Keeps.refl _ _
    | with_reducible assumption
    | with_reducible refine (k_configure ..).step (by decide) ?_
    | with_reducible refine (k_modPort ..).step (by decide) ?_
    | with_reducible refine (k_wset ..).step (by decide) ?_
    | with_reducible refine (k_emit ..).step (by decide) ?_
    | with_reducible refine Keeps.ite ?_ ?_
    | split

/-- `claimNow` changes at most: dlinks. -/
theorem k_claimNow (s : State) : Keeps 16384 s (State.claimNow s) := by
  unfold State.claimNow
  repeat' first
    | with_reducible exact Keeps.refl _ _
    | with_reducible assumption
    | with_reducible refine (k_modDlink ..).step (by decide) ?_
    | with_reducible refine Keeps.foldl _ ?_ (fun _ _ _ => ?_)

/-- `noteCmd` changes at most: tri, ports. -/
theorem k_noteCmd (x : Nat) (c : DlCmd) (s : State) : Keeps 10240 s (State.noteCmd x c s) := by
  unfold State.noteCmd
  repeat' first
    | with_reducible exact Keeps.refl _ _
    | with_reducible assumption
    | with_reducible refine (k_modTri ..).step (by decide) ?_
    | with_reducible refine (k_modPort ..).step (by decide) ?_
    | with_reducible refine Keeps.ite ?_ ?_
    | split

/-- `commandSlot` changes at most: out, wr, tri, ports, dlinks. -/
theorem k_commandSlot (x : Nat) (s : State) : Keeps 26648 s (State.commandSlot x s) := by
  unfold State.commandSlot
  repeat' first
    | with_reducible exact Keeps.refl _ _
    | with_reducible assumption
    | (extract_lets +onlyGivenNames x; refine Keeps.cut (m := 26648) (s := s) (u := x) ?_ ?_; rotate_left; all_goals first | (intro _; clear_value x) | subst x)
    | (extract_lets +onlyGivenNames x; clear_value x)
    | with_reducible refine (k_noteCmd ..).step (by decide) ?_
    | with_reducible refine (k_modDlink ..).step (by decide) ?_
    | with_reducible refine (k_wadd ..).step (by decide) ?_
    | with_reducible refine (k_emit ..).step (by decide) ?_
    | with_reducible refine Keeps.ite ?_ ?_
    | split
    | with_reducible refine Keeps.upd_dlinks ?_ (by decide)

/-- `proxyTimeout` changes at most: out, wr, dlinks. -/
theorem k_proxyTimeout (p : Nat) (s : State) : Keeps 16408 s (State.proxyTimeout p s) := by
  unfold State.proxyTimeout
  repeat' first
    | with_reducible exact Keeps.refl _ _
    | with_reducible assumption
    | (extract_lets +onlyGivenNames x; refine Keeps.cut (m := 16408) (s := s) (u := x) ?_ ?_; rotate_left; all_goals first | (intro _; clear_value x) | subst x)
    | (extract_lets +onlyGivenNames x; clear_value x)
    | with_reducible refine (k_modDlink ..).step (by decide) ?_
    | with_reducible refine (k_wadd ..).step (by decide) ?_
    | with_reducible refine (k_wset ..).step (by decide) ?_
    | with_reducible refine (k_emit ..).step (by decide) ?_
    | with_reducible refine Keeps.ite ?_ ?_
    | with_reducible refine Keeps.foldl _ ?_ (fun _ _ _ => ?_)
    | split

/-- `proxyLoad` changes at most: out, dlinks. -/
theorem k_proxyLoad (p : Nat) (addr : Nat) (kind : Nat) (quiet : Bool) (s : State) : Keeps 16392 s (State.proxyLoad p addr kind quiet s) := by
  unfold State.proxyLoad
  repeat' first
    | with_reducible exact Keeps.refl _ _
    | with_reducible assumption
    | with_reducible refine (k_dlAccess ..).step (by decide) ?_
    | with_reducible refine (k_emit ..).step (by decide) ?_
    | with_reducible refine Keeps.ite ?_ ?_
    | split

/-- `proxyStore` changes at most: out, dlinks. -/
theorem k_proxyStore (p : Nat) (addr : Nat) (data : Nat) (s : State) : Keeps 16392 s (State.proxyStore p addr data s) := by
  unfold State.proxyStore
  repeat' first
    | with_reducible exact Keeps.refl _ _
    | with_reducible assumption
    | with_reducible refine (k_dlAccess ..).step (by decide) ?_
    | with_reducible refine (k_emit ..).step (by decide) ?_
    | with_reducible refine Keeps.ite ?_ ?_
    | split

/-- `windowRx` changes at most: wr, lanes, dlinks, mus. -/
theorem k_windowRx (l : Nat) (slot : Nat) (ph : Nat) (w0 : Nat) (w1 : Nat) (s : State) : Keeps 1069072 s (State.windowRx l slot ph w0 w1 s) := by
  unfold State.windowRx
  repeat' first
    | with_reducible exact Keeps.refl _ _
    | with_reducible assumption
    | (extract_lets +onlyGivenNames x; refine Keeps.cut (m := 1069072) (s := s) (u := x) ?_ ?_; rotate_left; all_goals first | (intro _; clear_value x) | subst x)
    | (extract_lets +onlyGivenNames x; clear_value x)
    | with_reducible refine (k_laneHunt ..).step (by decide) ?_
    | with_reducible refine (k_offerPrim ..).step (by decide) ?_
    | with_reducible refine (k_wcountIf ..).step (by decide) ?_
    | with_reducible refine (k_wadd ..).step (by decide) ?_
    | with_reducible refine Keeps.ite ?_ ?_
    | split

/-- `writeLaneEn` changes at most: wr, lanes, dlinks, mus. -/
theorem k_writeLaneEn (l : Nat) (v : Bool) (s : State) : Keeps 1069072 s (State.writeLaneEn l v s) := by
  unfold State.writeLaneEn
  repeat' first
    | with_reducible exact Keeps.refl _ _
    | with_reducible assumption
    | (extract_lets +onlyGivenNames x; refine Keeps.cut (m := 1069072) (s := s) (u := x) ?_ ?_; rotate_left; all_goals first | (intro _; clear_value x) | subst x)
    | (extract_lets +onlyGivenNames x; clear_value x)
    | with_reducible refine (k_laneHunt ..).step (by decide) ?_
    | with_reducible refine (k_laneDrop ..).step (by decide) ?_
    | with_reducible refine (k_wset ..).step (by decide) ?_
    | with_reducible refine Keeps.ite ?_ ?_
    | split

end Sys2Proof.Machine
end

