-- ==== Sys2Proof/Laws/KeepsWnCmp.lean ====
section
/-! SUPPORT. What the operations of Machine/WnCmp.lean may change. -/

namespace Sys2Proof.Machine

open Sys2Proof

/-- `modCmp` changes at most: cmp. -/
theorem k_modCmp (f : Cmp → Cmp) (s : State) : Keeps 2097152 s (State.modCmp f s) := by
  unfold State.modCmp
  repeat' first
    | with_reducible exact Keeps.refl _ _
    | with_reducible assumption
    | with_reducible refine Keeps.getD (fun _ _ => ?_) ?_
    | with_reducible refine Keeps.upd_cmp ?_ (by decide)

/-- `setEng` changes at most: wr. -/
theorem k_setEng (e : Nat) (st : Nat) (s : State) : Keeps 16 s (State.setEng e st s) := by
  unfold State.setEng
  repeat' first
    | with_reducible exact Keeps.refl _ _
    | with_reducible assumption
    | (extract_lets +onlyGivenNames x; refine Keeps.cut (m := 16) (s := s) (u := x) ?_ ?_; rotate_left; all_goals first | (intro _; clear_value x) | subst x)
    | (extract_lets +onlyGivenNames x; clear_value x)
    | with_reducible refine (k_wsets ..).step (by decide) ?_
    | with_reducible refine (k_wset ..).step (by decide) ?_
    | with_reducible refine Keeps.ite ?_ ?_
    | with_reducible refine Keeps.foldl _ ?_ (fun _ _ _ => ?_)
    | with_reducible refine Keeps.getD (fun _ _ => ?_) ?_
    | split

/-- `engFault` changes at most: wr. -/
theorem k_engFault (e : Nat) (cause : Nat) (s : State) : Keeps 16 s (State.engFault e cause s) := by
  unfold State.engFault
  repeat' first
    | with_reducible exact Keeps.refl _ _
    | with_reducible assumption
    | with_reducible refine (k_setEng ..).step (by decide) ?_
    | with_reducible refine (k_wsets ..).step (by decide) ?_
    | with_reducible refine Keeps.getD (fun _ _ => ?_) ?_

/-- `engRest` changes at most: wr. -/
theorem k_engRest (e : Nat) (s : State) : Keeps 16 s (State.engRest e s) := by
  unfold State.engRest
  repeat' first
    | with_reducible exact Keeps.refl _ _
    | with_reducible assumption
    | with_reducible refine (k_setEng ..).step (by decide) ?_
    | with_reducible refine Keeps.ite ?_ ?_
    | with_reducible refine Keeps.getD (fun _ _ => ?_) ?_
    | split

/-- `dispatchJob` changes at most: wr, cmp. -/
theorem k_dispatchJob {j : CmpJob} {s t : State} (e : s.dispatchJob j = some t) : Keeps 2097168 s t := by
  unfold State.dispatchJob at e
  split at e
  · split at e
    · cases e
      exact (k_modCmp ..).weaken (by decide)
    · cases e
  · split at e
    · cases e
      exact (k_setEng ..).step (by decide) ((k_modCmp ..).weaken (by decide))
    · cases e

/-- `takePacket` changes at most: out, wr, sch, queues, can. -/
theorem k_takePacket (err : Nat) (x1 : Nat) (s : State) : Keeps 33718296 s (State.takePacket err x1 s).2 := by
  induction x1 generalizing err s with
  | zero =>
    unfold State.takePacket
    repeat' first
      | with_reducible exact Keeps.refl _ _
      | with_reducible assumption
      | with_reducible refine Keeps.getD (fun _ _ => ?_) ?_
      | split
      | with_reducible refine Keeps.ofSnd (by assumption) ?_
      | with_reducible refine Keeps.ofThd (by assumption) ?_
      | with_reducible refine (k_pop ..).step (by decide) ?_
      | with_reducible dsimp only
  | succ fuel ih =>
    unfold State.takePacket
    repeat' first
      | with_reducible exact Keeps.refl _ _
      | with_reducible assumption
      | with_reducible refine Keeps.getD (fun _ _ => ?_) ?_
      | split
      | with_reducible refine (ih ..).step (by decide) ?_
      | with_reducible refine Keeps.ofSnd (by assumption) ?_
      | with_reducible refine Keeps.ofThd (by assumption) ?_
      | with_reducible refine (k_pop ..).step (by decide) ?_
      | with_reducible dsimp only

/-- `headJob` changes at most: freeCnt, out, wr, sch, queues, mems, can. -/
theorem k_headJob {p : Bool} {s t : State} {j : CmpJob} (e : s.headJob p = some (j, t)) : Keeps 42106906 s t := by
  unfold State.headJob at e
  dsimp only at e
  split at e
  · rename_i h
    cases e
    refine Keeps.ite ?_ ?_
    · refine (k_unitStand ..).step (by decide) ?_
      refine (k_wset ..).step (by decide) ?_
      refine (k_wadd ..).step (by decide) ?_
      exact Keeps.ofSnd h ((k_takePacket ..).weaken (by decide))
    · exact Keeps.ofSnd h ((k_takePacket ..).weaken (by decide))
  · cases e

/-- `dispatch` changes at most: freeCnt, out, wr, sch, queues, cmp, mems, can. -/
theorem k_dispatch (poison : Bool) (s : State) : Keeps 44204058 s (State.dispatch poison s) := by
  unfold State.dispatch
  repeat' first
    | with_reducible exact Keeps.refl _ _
    | with_reducible assumption
    | with_reducible refine (k_modCmp ..).step (by decide) ?_
    | with_reducible refine Keeps.ite ?_ ?_
    | with_reducible refine Keeps.getD (fun _ _ => ?_) ?_
    | split
    | with_reducible refine (k_headJob (by assumption)).step (by decide) ?_
    | with_reducible refine (k_dispatchJob (by assumption)).step (by decide) ?_
    | with_reducible dsimp only

/-- `addBytes` changes at most: wr. -/
theorem k_addBytes (lo : Fld) (hi : Fld) (n : Nat) (s : State) : Keeps 16 s (State.addBytes lo hi n s) := by
  unfold State.addBytes
  repeat' first
    | with_reducible exact Keeps.refl _ _
    | with_reducible assumption
    | (extract_lets +onlyGivenNames x; refine Keeps.cut (m := 16) (s := s) (u := x) ?_ ?_; rotate_left; all_goals first | (intro _; clear_value x) | subst x)
    | (extract_lets +onlyGivenNames x; clear_value x)
    | with_reducible refine (k_wsets ..).step (by decide) ?_
    | with_reducible refine Keeps.getD (fun _ _ => ?_) ?_

/-- `showReorder` changes at most: wr. -/
theorem k_showReorder (s : State) : Keeps 16 s (State.showReorder s) := by
  unfold State.showReorder
  repeat' first
    | with_reducible exact Keeps.refl _ _
    | with_reducible assumption
    | with_reducible refine (k_wraise ..).step (by decide) ?_
    | with_reducible refine (k_wset ..).step (by decide) ?_
    | with_reducible refine Keeps.getD (fun _ _ => ?_) ?_

/-- `freeUnit` changes at most: wr, cmp. -/
theorem k_freeUnit (engine : Nat) (s : State) : Keeps 2097168 s (State.freeUnit engine s) := by
  unfold State.freeUnit
  repeat' first
    | with_reducible exact Keeps.refl _ _
    | with_reducible assumption
    | (extract_lets +onlyGivenNames x; refine Keeps.cut (m := 2097168) (s := s) (u := x) ?_ ?_; rotate_left; all_goals first | (intro _; clear_value x) | subst x)
    | (extract_lets +onlyGivenNames x; clear_value x)
    | with_reducible refine (k_engRest ..).step (by decide) ?_
    | with_reducible refine (k_engFault ..).step (by decide) ?_
    | with_reducible refine (k_modCmp ..).step (by decide) ?_
    | with_reducible refine Keeps.ite ?_ ?_
    | with_reducible refine Keeps.getD (fun _ _ => ?_) ?_
    | split

/-- `fillTable` changes at most: wr, cmp. -/
theorem k_fillTable (s : State) : Keeps 2097168 s (State.fillTable s) := by
  unfold State.fillTable
  repeat' first
    | with_reducible exact Keeps.refl _ _
    | with_reducible assumption
    | with_reducible refine (k_freeUnit ..).step (by decide) ?_
    | with_reducible refine (k_showReorder ..).step (by decide) ?_
    | with_reducible refine (k_modCmp ..).step (by decide) ?_
    | with_reducible refine Keeps.ite ?_ ?_
    | with_reducible refine Keeps.getD (fun _ _ => ?_) ?_
    | split

/-- `complete` changes at most: freeCnt, wr, mus, cmp. -/
theorem k_complete (engine : Nat) (j : CmpJob) (stored : Bool) (unver : Bool) (stream : List Nat) (s : State) : Keeps 3145746 s (State.complete engine j stored unver stream s) := by
  unfold State.complete
  repeat' first
    | with_reducible exact Keeps.refl _ _
    | with_reducible assumption
    | (extract_lets +onlyGivenNames x; refine Keeps.cut (m := 3145746) (s := s) (u := x) ?_ ?_; rotate_left; all_goals first | (intro _; clear_value x) | subst x)
    | (extract_lets +onlyGivenNames x; clear_value x)
    | with_reducible refine (k_fillTable ..).step (by decide) ?_
    | with_reducible refine (k_addBytes ..).step (by decide) ?_
    | with_reducible refine (k_modCmp ..).step (by decide) ?_
    | with_reducible refine (k_freeRecord ..).step (by decide) ?_
    | with_reducible refine (k_wadd ..).step (by decide) ?_
    | with_reducible refine Keeps.ite ?_ ?_
    | with_reducible refine Keeps.getD (fun _ _ => ?_) ?_
    | split
    | with_reducible refine Keeps.ofSnd (by assumption) ?_
    | with_reducible refine (k_fresh ..).step (by decide) ?_
    | with_reducible dsimp only

/-- `setRel` changes at most: wr. -/
theorem k_setRel (n : Nat) (s : State) : Keeps 16 s (State.setRel n s) := by
  unfold State.setRel
  repeat' first
    | with_reducible exact Keeps.refl _ _
    | with_reducible assumption
    | with_reducible refine (k_wsets ..).step (by decide) ?_
    | with_reducible refine Keeps.getD (fun _ _ => ?_) ?_

/-- `passOver` changes at most: wr. -/
theorem k_passOver (s : State) : Keeps 16 s (State.passOver s) := by
  unfold State.passOver
  repeat' first
    | with_reducible exact Keeps.refl _ _
    | with_reducible assumption
    | (extract_lets +onlyGivenNames x; refine Keeps.cut (m := 16) (s := s) (u := x) ?_ ?_; rotate_left; all_goals first | (intro _; clear_value x) | subst x)
    | (extract_lets +onlyGivenNames x; clear_value x)
    | with_reducible refine (k_setRel ..).step (by decide) ?_
    | with_reducible refine (k_wadd ..).step (by decide) ?_
    | with_reducible refine Keeps.foldl _ ?_ (fun _ _ _ => ?_)
    | with_reducible refine Keeps.getD (fun _ _ => ?_) ?_

/-- `releaseNext` changes at most: out, wr, sch, queues, cmp, can. -/
theorem k_releaseNext (s : State) : Keeps 35815448 s (State.releaseNext s) := by
  unfold State.releaseNext
  repeat' first
    | with_reducible exact Keeps.refl _ _
    | with_reducible assumption
    | (extract_lets +onlyGivenNames x; refine Keeps.cut (m := 35815448) (s := s) (u := x) ?_ ?_; rotate_left; all_goals first | (intro _; clear_value x) | subst x)
    | (extract_lets +onlyGivenNames x; clear_value x)
    | with_reducible refine (k_passOver ..).step (by decide) ?_
    | with_reducible refine (k_setRel ..).step (by decide) ?_
    | with_reducible refine (k_fillTable ..).step (by decide) ?_
    | with_reducible refine (k_showReorder ..).step (by decide) ?_
    | with_reducible refine (k_modCmp ..).step (by decide) ?_
    | with_reducible refine (k_offer ..).step (by decide) ?_
    | with_reducible refine Keeps.getD (fun _ _ => ?_) ?_
    | split

/-- `fallBack` changes at most: wr, cmp. -/
theorem k_fallBack (e : Nat) (j : CmpJob) (s : State) : Keeps 2097168 s (State.fallBack e j s) := by
  unfold State.fallBack
  repeat' first
    | with_reducible exact Keeps.refl _ _
    | with_reducible assumption
    | with_reducible refine (k_setEng ..).step (by decide) ?_
    | with_reducible refine (k_modCmp ..).step (by decide) ?_
    | with_reducible refine Keeps.getD (fun _ _ => ?_) ?_

/-- `formDone` changes at most: freeCnt, wr, mus, cmp. -/
theorem k_formDone (e : Nat) (ok : Bool) (s : State) : Keeps 3145746 s (State.formDone e ok s) := by
  unfold State.formDone
  repeat' first
    | with_reducible exact Keeps.refl _ _
    | with_reducible assumption
    | (extract_lets +onlyGivenNames x; refine Keeps.cut (m := 3145746) (s := s) (u := x) ?_ ?_; rotate_left; all_goals first | (intro _; clear_value x) | subst x)
    | (extract_lets +onlyGivenNames x; clear_value x)
    | with_reducible refine (k_fallBack ..).step (by decide) ?_
    | with_reducible refine (k_complete ..).step (by decide) ?_
    | with_reducible refine (k_wadd ..).step (by decide) ?_
    | with_reducible refine (k_wsets ..).step (by decide) ?_
    | with_reducible refine (k_wset ..).step (by decide) ?_
    | with_reducible refine Keeps.ite ?_ ?_
    | with_reducible refine Keeps.getD (fun _ _ => ?_) ?_
    | split

/-- `poisonJob` changes at most: freeCnt, wr, mems. -/
theorem k_poisonJob (j : CmpJob) (err : Bool) (s : State) : Keeps 8388626 s (State.poisonJob j err s).2 := by
  unfold State.poisonJob
  repeat' first
    | with_reducible exact Keeps.refl _ _
    | with_reducible assumption
    | (extract_lets +onlyGivenNames x; refine Keeps.cut (m := 8388626) (s := s) (u := x) ?_ ?_; rotate_left; all_goals first | (intro _; clear_value x) | subst x)
    | (extract_lets +onlyGivenNames x; clear_value x)
    | with_reducible refine (k_unitStand ..).step (by decide) ?_
    | with_reducible refine (k_wadd ..).step (by decide) ?_
    | with_reducible refine (k_wset ..).step (by decide) ?_
    | with_reducible refine Keeps.iteSnd ?_ ?_
    | with_reducible refine Keeps.getD (fun _ _ => ?_) ?_
    | split
    | with_reducible dsimp only

/-- `storedDone` changes at most: freeCnt, wr, mus, cmp, mems. -/
theorem k_storedDone (e : Nat) (ok : Bool) (err : Bool) (s : State) : Keeps 11534354 s (State.storedDone e ok err s) := by
  unfold State.storedDone
  repeat' first
    | with_reducible exact Keeps.refl _ _
    | with_reducible assumption
    | (extract_lets +onlyGivenNames x; refine Keeps.cut (m := 11534354) (s := s) (u := x) ?_ ?_; rotate_left; all_goals first | (intro _; clear_value x) | subst x)
    | (extract_lets +onlyGivenNames x; clear_value x)
    | with_reducible refine (k_complete ..).step (by decide) ?_
    | with_reducible refine (k_engFault ..).step (by decide) ?_
    | with_reducible refine (k_modCmp ..).step (by decide) ?_
    | with_reducible refine Keeps.ite ?_ ?_
    | with_reducible refine Keeps.getD (fun _ _ => ?_) ?_
    | split
    | with_reducible refine Keeps.ofSnd (by assumption) ?_
    | with_reducible refine (k_poisonJob ..).step (by decide) ?_
    | with_reducible dsimp only

/-- `formerDone` changes at most: freeCnt, wr, mus, cmp. -/
theorem k_formerDone (bad : Nat) (s : State) : Keeps 3145746 s (State.formerDone bad s) := by
  unfold State.formerDone
  repeat' first
    | with_reducible exact Keeps.refl _ _
    | with_reducible assumption
    | (extract_lets +onlyGivenNames x; refine Keeps.cut (m := 3145746) (s := s) (u := x) ?_ ?_; rotate_left; all_goals first | (intro _; clear_value x) | subst x)
    | (extract_lets +onlyGivenNames x; clear_value x)
    | with_reducible refine (k_complete ..).step (by decide) ?_
    | with_reducible refine (k_wcountIf ..).step (by decide) ?_
    | with_reducible refine (k_wadd ..).step (by decide) ?_
    | with_reducible refine (k_wset ..).step (by decide) ?_
    | with_reducible refine Keeps.ite ?_ ?_
    | with_reducible refine Keeps.getD (fun _ _ => ?_) ?_
    | split

/-- `ratioOf` changes at most: freeCnt. -/
theorem k_ratioOf (i : Nat) (o : Nat) (s : State) : Keeps 2 s (State.ratioOf i o s).2 := by
  unfold State.ratioOf
  repeat' first
    | with_reducible exact Keeps.refl _ _
    | with_reducible assumption
    | with_reducible refine Keeps.iteSnd ?_ ?_
    | with_reducible refine Keeps.getD (fun _ _ => ?_) ?_
    | split
    | with_reducible refine Keeps.ofSnd (by assumption) ?_
    | with_reducible refine (k_fresh ..).step (by decide) ?_
    | with_reducible dsimp only

/-- `ratioWindow` changes at most: freeCnt, wr, cmp. -/
theorem k_ratioWindow (sec : Bool) (s : State) : Keeps 2097170 s (State.ratioWindow sec s) := by
  unfold State.ratioWindow
  repeat' first
    | with_reducible exact Keeps.refl _ _
    | with_reducible assumption
    | (extract_lets +onlyGivenNames x; refine Keeps.cut (m := 2097170) (s := s) (u := x) ?_ ?_; rotate_left; all_goals first | (intro _; clear_value x) | subst x)
    | (extract_lets +onlyGivenNames x; clear_value x)
    | with_reducible refine (k_modCmp ..).step (by decide) ?_
    | with_reducible refine (k_wset ..).step (by decide) ?_
    | with_reducible refine Keeps.ite ?_ ?_
    | with_reducible refine Keeps.getD (fun _ _ => ?_) ?_
    | split
    | with_reducible refine Keeps.ofSnd (by assumption) ?_
    | with_reducible refine (k_ratioOf ..).step (by decide) ?_
    | with_reducible dsimp only

/-- `writeEngEn` changes at most: wr. -/
theorem k_writeEngEn (e : Nat) (v : Bool) (s : State) : Keeps 16 s (State.writeEngEn e v s) := by
  unfold State.writeEngEn
  repeat' first
    | with_reducible exact Keeps.refl _ _
    | with_reducible assumption
    | (extract_lets +onlyGivenNames x; refine Keeps.cut (m := 16) (s := s) (u := x) ?_ ?_; rotate_left; all_goals first | (intro _; clear_value x) | subst x)
    | (extract_lets +onlyGivenNames x; clear_value x)
    | with_reducible refine (k_engRest ..).step (by decide) ?_
    | with_reducible refine (k_wset ..).step (by decide) ?_
    | with_reducible refine Keeps.ite ?_ ?_
    | with_reducible refine Keeps.getD (fun _ _ => ?_) ?_
    | split

/-- `cmpStop` changes at most: wr, cmp. -/
theorem k_cmpStop (s : State) : Keeps 2097168 s s.cmpStop := by
  unfold State.cmpStop
  refine (k_showReorder ..).step (by decide) ?_
  refine Keeps.foldl _ (Keeps.upd_cmp (Keeps.refl _ _) (by decide)) (fun t e h => ?_)
  have k := (k_wset (WR.CMP_ENG_STATUS_MISMATCH_RUN e) 0 t).step (m := 2097168) (by decide) h
  exact Keeps.ite ((k_engRest ..).step (by decide) k) k

/-- `cmpRun` changes at most: wr. -/
theorem k_cmpRun (s : State) : Keeps 16 s (State.cmpRun s) := by
  unfold State.cmpRun
  repeat' first
    | with_reducible exact Keeps.refl _ _
    | with_reducible assumption
    | with_reducible refine (k_setRel ..).step (by decide) ?_
    | with_reducible refine (k_wsets ..).step (by decide) ?_
    | with_reducible refine Keeps.getD (fun _ _ => ?_) ?_

end Sys2Proof.Machine
end

