-- ==== Sys2Proof/Laws/KeepsWnEth.lean ====
section
/-! SUPPORT. What the operations of Machine/WnEth.lean may change. -/

namespace Sys2Proof.Machine

open Sys2Proof

/-- `modEth` changes at most: eth. -/
theorem k_modEth (f : Eth → Eth) (s : State) : Keeps 4194304 s (State.modEth f s) := by
  unfold State.modEth
  repeat' first
    | with_reducible exact Keeps.refl _ _
    | with_reducible assumption
    | with_reducible refine Keeps.upd_eth ?_ (by decide)

/-- `showEth` changes at most: wr. -/
theorem k_showEth (s : State) : Keeps 16 s (State.showEth s) := by
  unfold State.showEth
  repeat' first
    | with_reducible exact Keeps.refl _ _
    | with_reducible assumption
    | (extract_lets +onlyGivenNames x; refine Keeps.cut (m := 16) (s := s) (u := x) ?_ ?_; rotate_left; all_goals first | (intro _; clear_value x) | subst x)
    | (extract_lets +onlyGivenNames x; clear_value x)
    | with_reducible refine (k_wsets ..).step (by decide) ?_
    | with_reducible refine Keeps.ite ?_ ?_
    | with_reducible refine Keeps.foldl _ ?_ (fun _ _ _ => ?_)
    | split

/-- `setEp` changes at most: wr. -/
theorem k_setEp (k : Nat) (st : Nat) (s : State) : Keeps 16 s (State.setEp k st s) := by
  unfold State.setEp
  repeat' first
    | with_reducible exact Keeps.refl _ _
    | with_reducible assumption
    | with_reducible refine (k_showEth ..).step (by decide) ?_
    | with_reducible refine (k_wset ..).step (by decide) ?_

/-- `putActive` changes at most: eth. -/
theorem k_putActive (l : List Nat) (s : State) : Keeps 4194304 s (State.putActive l s) := by
  unfold State.putActive
  repeat' first
    | with_reducible exact Keeps.refl _ _
    | with_reducible assumption
    | with_reducible refine (k_modEth ..).step (by decide) ?_

/-- `epMode` changes at most: wr, eth. -/
theorem k_epMode (k : Nat) (s : State) : Keeps 4194320 s (State.epMode k s) := by
  unfold State.epMode
  repeat' first
    | with_reducible exact Keeps.refl _ _
    | with_reducible assumption
    | (extract_lets +onlyGivenNames x; refine Keeps.cut (m := 4194320) (s := s) (u := x) ?_ ?_; rotate_left; all_goals first | (intro _; clear_value x) | subst x)
    | (extract_lets +onlyGivenNames x; clear_value x)
    | with_reducible refine (k_putActive ..).step (by decide) ?_
    | with_reducible refine (k_setEp ..).step (by decide) ?_
    | with_reducible refine (k_modEth ..).step (by decide) ?_
    | with_reducible refine (k_wsets ..).step (by decide) ?_
    | with_reducible refine Keeps.ite ?_ ?_
    | split

/-- `takeTab` changes at most: wr, eth. -/
theorem k_takeTab (s : State) : Keeps 4194320 s (State.takeTab s) := by
  unfold State.takeTab
  repeat' first
    | with_reducible exact Keeps.refl _ _
    | with_reducible assumption
    | with_reducible refine (k_modEth ..).step (by decide) ?_
    | with_reducible refine (k_wset ..).step (by decide) ?_

/-- `boundary` changes at most: wr, eth. -/
theorem k_boundary (s : State) : Keeps 4194320 s (State.boundary s) := by
  unfold State.boundary
  repeat' first
    | with_reducible exact Keeps.refl _ _
    | with_reducible assumption
    | (extract_lets +onlyGivenNames x; refine Keeps.cut (m := 4194320) (s := s) (u := x) ?_ ?_; rotate_left; all_goals first | (intro _; clear_value x) | subst x)
    | (extract_lets +onlyGivenNames x; clear_value x)
    | with_reducible refine (k_takeTab ..).step (by decide) ?_
    | with_reducible refine (k_putActive ..).step (by decide) ?_
    | with_reducible refine (k_setEp ..).step (by decide) ?_
    | with_reducible refine (k_showEth ..).step (by decide) ?_
    | with_reducible refine (k_modEth ..).step (by decide) ?_
    | with_reducible refine Keeps.ite ?_ ?_
    | split

/-- `nextArea` changes at most: out, wr, sch, queues, cmp, eth, can. -/
theorem k_nextArea {s t : State} {a : Area} {b : Bool} (e : s.nextArea = some (a, b, t)) : Keeps 40009752 s t := by
  unfold State.nextArea at e
  extract_lets fromBack new at e
  have hb : ∀ a b t, fromBack = some (a, b, t) → Keeps 40009752 s t := by
    intro a b t h
    simp only [fromBack] at h
    split at h
    · cases h
      exact (k_modEth ..).weaken (by decide)
    · cases h
  have hn : ∀ a b t, new = some (a, b, t) → Keeps 40009752 s t := by
    intro a b t h
    simp only [new] at h
    split at h
    · split at h
      · rename_i k
        split at h
        · cases h
          refine (k_modCmp ..).step (by decide) ?_
          exact Keeps.ofThd k ((k_pop ..).weaken (by decide))
        · cases h
      · cases h
    · split at h
      · cases h
        exact (k_modCmp ..).weaken (by decide)
      · cases h
  clear_value fromBack new
  split at e
  · split at e
    · exact hb _ _ _ e
    · split at e
      · split at e
        · exact hn _ _ _ e
        · exact hb _ _ _ e
      · exact hb _ _ _ e
  · exact hn _ _ _ e

/-- `steer` changes at most: freeCnt, out, wr, sch, queues, cmp, eth, mems, can. -/
theorem k_steer (bad : Nat) (s : State) : Keeps 48398362 s (State.steer bad s) := by
  unfold State.steer
  repeat' first
    | with_reducible exact Keeps.refl _ _
    | with_reducible assumption
    | (extract_lets +onlyGivenNames x; refine Keeps.cut (m := 48398362) (s := s) (u := x) ?_ ?_; rotate_left; all_goals first | (intro _; clear_value x) | subst x)
    | (extract_lets +onlyGivenNames x; clear_value x)
    | with_reducible refine (k_boundary ..).step (by decide) ?_
    | with_reducible refine (k_showEth ..).step (by decide) ?_
    | with_reducible refine (k_modEth ..).step (by decide) ?_
    | with_reducible refine (k_offerPacket ..).step (by decide) ?_
    | with_reducible refine (k_unitStand ..).step (by decide) ?_
    | with_reducible refine (k_wadd ..).step (by decide) ?_
    | with_reducible refine (k_wset ..).step (by decide) ?_
    | with_reducible refine Keeps.ite ?_ ?_
    | with_reducible refine Keeps.foldl _ ?_ (fun _ _ _ => ?_)
    | split
    | with_reducible refine (k_nextArea (by assumption)).step (by decide) ?_
    | with_reducible dsimp only

/-- `dropPacket` changes at most: out, wr, sch, queues, can. -/
theorem k_dropPacket (n : Nat) (x1 : Nat) (s : State) : Keeps 33718296 s (State.dropPacket n x1 s) := by
  induction x1 generalizing s with
  | zero =>
    unfold State.dropPacket
    repeat' first
      | with_reducible exact Keeps.refl _ _
      | with_reducible assumption
      | with_reducible refine Keeps.ite ?_ ?_
      | split
      | with_reducible refine Keeps.ofThd (by assumption) ?_
      | with_reducible refine (k_pop ..).step (by decide) ?_
      | with_reducible dsimp only
  | succ fuel ih =>
    unfold State.dropPacket
    repeat' first
      | with_reducible exact Keeps.refl _ _
      | with_reducible assumption
      | with_reducible refine Keeps.ite ?_ ?_
      | split
      | with_reducible refine (ih ..).step (by decide) ?_
      | with_reducible refine Keeps.ofThd (by assumption) ?_
      | with_reducible refine (k_pop ..).step (by decide) ?_
      | with_reducible dsimp only

/-- `datagram` changes at most: out, wr, sch, queues, eth, can. -/
theorem k_datagram (k : Nat) (s : State) : Keeps 37912600 s (State.datagram k s) := by
  unfold State.datagram
  repeat' first
    | with_reducible exact Keeps.refl _ _
    | with_reducible assumption
    | (extract_lets +onlyGivenNames x; refine Keeps.cut (m := 37912600) (s := s) (u := x) ?_ ?_; rotate_left; all_goals first | (intro _; clear_value x) | subst x)
    | (extract_lets +onlyGivenNames x; clear_value x)
    | with_reducible refine (k_dropPacket ..).step (by decide) ?_
    | with_reducible refine (k_modEth ..).step (by decide) ?_
    | with_reducible refine (k_wadd ..).step (by decide) ?_
    | with_reducible refine (k_wset ..).step (by decide) ?_
    | with_reducible refine (k_emit ..).step (by decide) ?_
    | with_reducible refine Keeps.ite ?_ ?_
    | split

/-- `cancelAdd` changes at most: eth. -/
theorem k_cancelAdd (k : Nat) (s : State) : Keeps 4194304 s (State.cancelAdd k s) := by
  unfold State.cancelAdd
  repeat' first
    | with_reducible exact Keeps.refl _ _
    | with_reducible assumption
    | with_reducible refine (k_modEth ..).step (by decide) ?_
    | with_reducible refine Keeps.ite ?_ ?_
    | split

/-- `removePort` changes at most: wr, sch, queues, eth. -/
theorem k_removePort (k : Nat) (cause : Nat) (up : Bool) (s : State) : Keeps 4358160 s (State.removePort k cause up s) := by
  unfold State.removePort
  repeat' first
    | with_reducible exact Keeps.refl _ _
    | with_reducible assumption
    | (extract_lets +onlyGivenNames x; refine Keeps.cut (m := 4358160) (s := s) (u := x) ?_ ?_; rotate_left; all_goals first | (intro _; clear_value x) | subst x)
    | (extract_lets +onlyGivenNames x; clear_value x)
    | with_reducible refine (k_boundary ..).step (by decide) ?_
    | with_reducible refine (k_setEp ..).step (by decide) ?_
    | with_reducible refine (k_showEth ..).step (by decide) ?_
    | with_reducible refine (k_modEth ..).step (by decide) ?_
    | with_reducible refine (k_flush ..).step (by decide) ?_
    | with_reducible refine (k_wadd ..).step (by decide) ?_
    | with_reducible refine (k_wsets ..).step (by decide) ?_
    | with_reducible refine Keeps.ite ?_ ?_
    | with_reducible refine Keeps.foldl _ ?_ (fun _ _ _ => ?_)
    | split
    | with_reducible refine Keeps.upd_queues ?_ (by decide)

/-- `stateBound` changes at most: wr, eth. -/
theorem k_stateBound (p : Option Nat) (s : State) : Keeps 4194320 s (State.stateBound p s) := by
  unfold State.stateBound
  repeat' first
    | with_reducible exact Keeps.refl _ _
    | with_reducible assumption
    | (extract_lets +onlyGivenNames x; refine Keeps.cut (m := 4194320) (s := s) (u := x) ?_ ?_; rotate_left; all_goals first | (intro _; clear_value x) | subst x)
    | (extract_lets +onlyGivenNames x; clear_value x)
    | with_reducible refine (k_boundary ..).step (by decide) ?_
    | with_reducible refine (k_showEth ..).step (by decide) ?_
    | with_reducible refine (k_modEth ..).step (by decide) ?_
    | with_reducible refine (k_wset ..).step (by decide) ?_
    | with_reducible refine Keeps.ite ?_ ?_
    | split

/-- `refuseCmd` changes at most: wr. -/
theorem k_refuseCmd (s : State) : Keeps 16 s (State.refuseCmd s) := by
  unfold State.refuseCmd
  repeat' first
    | with_reducible exact Keeps.refl _ _
    | with_reducible assumption
    | with_reducible refine (k_wset ..).step (by decide) ?_

/-- `steerCmd` changes at most: wr, sch, queues, eth. -/
theorem k_steerCmd (op : Nat) (k : Nat) (s : State) : Keeps 4358160 s (State.steerCmd op k s) := by
  unfold State.steerCmd
  repeat' first
    | with_reducible exact Keeps.refl _ _
    | with_reducible assumption
    | with_reducible refine (k_refuseCmd ..).step (by decide) ?_
    | with_reducible refine (k_stateBound ..).step (by decide) ?_
    | with_reducible refine (k_removePort ..).step (by decide) ?_
    | with_reducible refine (k_cancelAdd ..).step (by decide) ?_
    | with_reducible refine (k_setEp ..).step (by decide) ?_
    | with_reducible refine Keeps.ite ?_ ?_
    | split

/-- `ethRun` changes at most: wr, eth. -/
theorem k_ethRun (s : State) : Keeps 4194320 s (State.ethRun s) := by
  unfold State.ethRun
  repeat' first
    | with_reducible exact Keeps.refl _ _
    | with_reducible assumption
    | (extract_lets +onlyGivenNames x; refine Keeps.cut (m := 4194320) (s := s) (u := x) ?_ ?_; rotate_left; all_goals first | (intro _; clear_value x) | subst x)
    | (extract_lets +onlyGivenNames x; clear_value x)
    | with_reducible refine (k_takeTab ..).step (by decide) ?_
    | with_reducible refine (k_setEp ..).step (by decide) ?_
    | with_reducible refine (k_showEth ..).step (by decide) ?_
    | with_reducible refine Keeps.foldl _ ?_ (fun _ _ _ => ?_)
    | with_reducible refine Keeps.upd_eth ?_ (by decide)

/-- `ethStop` changes at most: wr, eth. -/
theorem k_ethStop (s : State) : Keeps 4194320 s (State.ethStop s) := by
  unfold State.ethStop
  repeat' first
    | with_reducible exact Keeps.refl _ _
    | with_reducible assumption
    | (extract_lets +onlyGivenNames x; refine Keeps.cut (m := 4194320) (s := s) (u := x) ?_ ?_; rotate_left; all_goals first | (intro _; clear_value x) | subst x)
    | (extract_lets +onlyGivenNames x; clear_value x)
    | with_reducible refine (k_setEp ..).step (by decide) ?_
    | with_reducible refine (k_showEth ..).step (by decide) ?_
    | with_reducible refine (k_modEth ..).step (by decide) ?_
    | with_reducible refine (k_wadd ..).step (by decide) ?_
    | with_reducible refine (k_wset ..).step (by decide) ?_
    | with_reducible refine Keeps.ite ?_ ?_
    | with_reducible refine Keeps.foldl _ ?_ (fun _ _ _ => ?_)
    | split

/-- `sendResp` changes at most: out, eth. -/
theorem k_sendResp (k : Nat) (s : State) : Keeps 4194312 s (State.sendResp k s) := by
  unfold State.sendResp
  repeat' first
    | with_reducible exact Keeps.refl _ _
    | with_reducible assumption
    | (extract_lets +onlyGivenNames x; refine Keeps.cut (m := 4194312) (s := s) (u := x) ?_ ?_; rotate_left; all_goals first | (intro _; clear_value x) | subst x)
    | (extract_lets +onlyGivenNames x; clear_value x)
    | with_reducible refine (k_modEth ..).step (by decide) ?_
    | with_reducible refine (k_emit ..).step (by decide) ?_
    | with_reducible refine Keeps.foldl _ ?_ (fun _ _ _ => ?_)

/-- `respond` changes at most: out, wr, eth. -/
theorem k_respond (k : Nat) (f : List Nat) (s : State) : Keeps 4194328 s (State.respond k f s) := by
  unfold State.respond
  repeat' first
    | with_reducible exact Keeps.refl _ _
    | with_reducible assumption
    | with_reducible refine (k_modEth ..).step (by decide) ?_
    | with_reducible refine (k_wadd ..).step (by decide) ?_
    | with_reducible refine (k_emit ..).step (by decide) ?_
    | with_reducible refine Keeps.ite ?_ ?_
    | split

/-- `linkUp` changes at most: out, wr, eth. -/
theorem k_linkUp (k : Nat) (stable : Bool) (s : State) : Keeps 4194328 s (State.linkUp k stable s) := by
  unfold State.linkUp
  repeat' first
    | with_reducible exact Keeps.refl _ _
    | with_reducible assumption
    | (extract_lets +onlyGivenNames x; refine Keeps.cut (m := 4194328) (s := s) (u := x) ?_ ?_; rotate_left; all_goals first | (intro _; clear_value x) | subst x)
    | (extract_lets +onlyGivenNames x; clear_value x)
    | with_reducible refine (k_sendResp ..).step (by decide) ?_
    | with_reducible refine (k_setEp ..).step (by decide) ?_
    | with_reducible refine (k_wsets ..).step (by decide) ?_
    | with_reducible refine Keeps.ite ?_ ?_
    | split

/-- `linkDown` changes at most: wr, eth. -/
theorem k_linkDown (k : Nat) (cause : Nat) (s : State) : Keeps 4194320 s (State.linkDown k cause s) := by
  unfold State.linkDown
  repeat' first
    | with_reducible exact Keeps.refl _ _
    | with_reducible assumption
    | (extract_lets +onlyGivenNames x; refine Keeps.cut (m := 4194320) (s := s) (u := x) ?_ ?_; rotate_left; all_goals first | (intro _; clear_value x) | subst x)
    | (extract_lets +onlyGivenNames x; clear_value x)
    | with_reducible refine (k_cancelAdd ..).step (by decide) ?_
    | with_reducible refine (k_setEp ..).step (by decide) ?_
    | with_reducible refine (k_modEth ..).step (by decide) ?_
    | with_reducible refine (k_wsets ..).step (by decide) ?_
    | with_reducible refine (k_wset ..).step (by decide) ?_
    | with_reducible refine Keeps.ite ?_ ?_
    | split

/-- `linkTimeout` changes at most: wr, sch, queues, eth. -/
theorem k_linkTimeout (k : Nat) (s : State) : Keeps 4358160 s (State.linkTimeout k s) := by
  unfold State.linkTimeout
  repeat' first
    | with_reducible exact Keeps.refl _ _
    | with_reducible assumption
    | (extract_lets +onlyGivenNames x; refine Keeps.cut (m := 4358160) (s := s) (u := x) ?_ ?_; rotate_left; all_goals first | (intro _; clear_value x) | subst x)
    | (extract_lets +onlyGivenNames x; clear_value x)
    | with_reducible refine (k_removePort ..).step (by decide) ?_
    | with_reducible refine (k_wset ..).step (by decide) ?_
    | with_reducible refine Keeps.ite ?_ ?_
    | split

/-- `ptpDeliver` changes at most: out, wr, mer, sch, queues, can. -/
theorem k_ptpDeliver (k : Nat) (fine : Nat) (b : List Nat) (msg : List Nat) (s : State) : Keeps 33719320 s (State.ptpDeliver k fine b msg s) := by
  unfold State.ptpDeliver
  repeat' first
    | with_reducible exact Keeps.refl _ _
    | with_reducible assumption
    | (extract_lets +onlyGivenNames x; refine Keeps.cut (m := 33719320) (s := s) (u := x) ?_ ?_; rotate_left; all_goals first | (intro _; clear_value x) | subst x)
    | (extract_lets +onlyGivenNames x; clear_value x)
    | with_reducible refine (k_syncArrives ..).step (by decide) ?_
    | with_reducible refine (k_offerPacket ..).step (by decide) ?_
    | with_reducible refine (k_wadd ..).step (by decide) ?_
    | with_reducible refine Keeps.ite ?_ ?_
    | split

/-- `frameRx` changes at most: out, wr, mer, sch, queues, can. -/
theorem k_frameRx (k : Nat) (fcs : Bool) (b : List Nat) (fine : Nat) (s : State) : Keeps 33719320 s (State.frameRx k fcs b fine s) := by
  unfold State.frameRx
  repeat' first
    | with_reducible exact Keeps.refl _ _
    | with_reducible assumption
    | with_reducible refine (k_ptpDeliver ..).step (by decide) ?_
    | with_reducible refine (k_offerPacket ..).step (by decide) ?_
    | with_reducible refine (k_wadd ..).step (by decide) ?_
    | with_reducible refine Keeps.ite ?_ ?_
    | split

end Sys2Proof.Machine
end

