-- ==== Sys2Proof/Laws/KeepsWnAdm.lean ====
section
/-! SUPPORT. What the operations of Machine/WnAdm.lean may change. -/

namespace Sys2Proof.Machine

open Sys2Proof

/-- `modGov` changes at most: gov. -/
theorem k_modGov (f : Gov → Gov) (s : State) : Keeps 67108864 s (State.modGov f s) := by
  unfold State.modGov
  repeat' first
    | with_reducible exact Keeps.refl _ _
    | with_reducible assumption
    | with_reducible refine Keeps.getD (fun _ _ => ?_) ?_
    | with_reducible refine Keeps.upd_gov ?_ (by decide)

/-- `modSys` changes at most: sys. -/
theorem k_modSys (f : Sys → Sys) (s : State) : Keeps 134217728 s (State.modSys f s) := by
  unfold State.modSys
  repeat' first
    | with_reducible exact Keeps.refl _ _
    | with_reducible assumption
    | with_reducible refine Keeps.getD (fun _ _ => ?_) ?_
    | with_reducible refine Keeps.upd_sys ?_ (by decide)

/-- `ringCounts` changes at most: wr. -/
theorem k_ringCounts (counts : List Nat) (s : State) : Keeps 16 s (State.ringCounts counts s).2 := by
  unfold State.ringCounts
  repeat' first
    | with_reducible exact Keeps.refl _ _
    | with_reducible assumption
    | (extract_lets +onlyGivenNames x; refine Keeps.cut (m := 16) (s := s) (u := x) ?_ ?_; rotate_left; all_goals first | (intro _; clear_value x) | subst x)
    | (extract_lets +onlyGivenNames x; clear_value x)
    | with_reducible refine (k_wsets ..).step (by decide) ?_
    | with_reducible refine (k_wset ..).step (by decide) ?_
    | with_reducible refine Keeps.foldl _ ?_ (fun _ _ _ => ?_)
    | with_reducible refine Keeps.getD (fun _ _ => ?_) ?_
    | split
    | with_reducible dsimp only

/-- `setVcore` changes at most: wr. -/
theorem k_setVcore (v : Nat) (s : State) : Keeps 16 s (State.setVcore v s) := by
  unfold State.setVcore
  repeat' first
    | with_reducible exact Keeps.refl _ _
    | with_reducible assumption
    | with_reducible refine (k_wset ..).step (by decide) ?_
    | with_reducible refine Keeps.getD (fun _ _ => ?_) ?_

/-- `govern` changes at most: wr, gov. -/
theorem k_govern (known : Bool) (s : State) : Keeps 67108880 s (State.govern known s) := by
  unfold State.govern
  repeat' first
    | with_reducible exact Keeps.refl _ _
    | with_reducible assumption
    | (extract_lets +onlyGivenNames x; refine Keeps.cut (m := 67108880) (s := s) (u := x) ?_ ?_; rotate_left; all_goals first | (intro _; clear_value x) | subst x)
    | (extract_lets +onlyGivenNames x; clear_value x)
    | with_reducible refine (k_setVcore ..).step (by decide) ?_
    | with_reducible refine (k_modGov ..).step (by decide) ?_
    | with_reducible refine Keeps.ite ?_ ?_
    | with_reducible refine Keeps.getD (fun _ _ => ?_) ?_
    | split

/-- `holdPorts` changes at most: dlinks. -/
theorem k_holdPorts (op : Nat) (every : Bool) (s : State) : Keeps 16384 s (State.holdPorts op every s) := by
  unfold State.holdPorts
  repeat' first
    | with_reducible exact Keeps.refl _ _
    | with_reducible assumption
    | with_reducible refine (k_dlOp ..).step (by decide) ?_
    | with_reducible refine Keeps.ite ?_ ?_
    | with_reducible refine Keeps.foldl _ ?_ (fun _ _ _ => ?_)
    | with_reducible refine Keeps.getD (fun _ _ => ?_) ?_
    | split

/-- `applyShed` changes at most: wr, dlinks, gov. -/
theorem k_applyShed (s : State) : Keeps 67125264 s (State.applyShed s) := by
  unfold State.applyShed
  repeat' first
    | with_reducible exact Keeps.refl _ _
    | with_reducible assumption
    | (extract_lets +onlyGivenNames x; refine Keeps.cut (m := 67125264) (s := s) (u := x) ?_ ?_; rotate_left; all_goals first | (intro _; clear_value x) | subst x)
    | (extract_lets +onlyGivenNames x; clear_value x)
    | with_reducible refine (k_holdPorts ..).step (by decide) ?_
    | with_reducible refine (k_modGov ..).step (by decide) ?_
    | with_reducible refine (k_wsets ..).step (by decide) ?_
    | with_reducible refine Keeps.ite ?_ ?_
    | with_reducible refine Keeps.getD (fun _ _ => ?_) ?_
    | split

/-- `shedNext` changes at most: wr, dlinks, gov. -/
theorem k_shedNext (x0 : Nat) (s : State) : Keeps 67125264 s (State.shedNext x0 s) := by
  induction x0 generalizing s with
  | zero =>
    unfold State.shedNext
    repeat' first
      | with_reducible exact Keeps.refl _ _
      | with_reducible assumption
      | (extract_lets +onlyGivenNames x; refine Keeps.cut (m := 67125264) (s := s) (u := x) ?_ ?_; rotate_left; all_goals first | (intro _; clear_value x) | subst x)
      | (extract_lets +onlyGivenNames x; clear_value x)
      | with_reducible refine (k_applyShed ..).step (by decide) ?_
      | with_reducible refine (k_modGov ..).step (by decide) ?_
      | with_reducible refine Keeps.ite ?_ ?_
      | with_reducible refine Keeps.getD (fun _ _ => ?_) ?_
      | split
      | with_reducible dsimp only
  | succ fuel ih =>
    unfold State.shedNext
    repeat' first
      | with_reducible exact Keeps.refl _ _
      | with_reducible assumption
      | (extract_lets +onlyGivenNames x; refine Keeps.cut (m := 67125264) (s := s) (u := x) ?_ ?_; rotate_left; all_goals first | (intro _; clear_value x) | subst x)
      | (extract_lets +onlyGivenNames x; clear_value x)
      | with_reducible refine (ih ..).step (by decide) ?_
      | with_reducible refine (k_applyShed ..).step (by decide) ?_
      | with_reducible refine (k_modGov ..).step (by decide) ?_
      | with_reducible refine Keeps.ite ?_ ?_
      | with_reducible refine Keeps.getD (fun _ _ => ?_) ?_
      | split
      | with_reducible dsimp only

/-- `causes` changes at most: wr, gov. -/
theorem k_causes (known : Bool) (low : Bool) (s : State) : Keeps 67108880 s (State.causes known low s) := by
  unfold State.causes
  repeat' first
    | with_reducible exact Keeps.refl _ _
    | with_reducible assumption
    | (extract_lets +onlyGivenNames x; refine Keeps.cut (m := 67108880) (s := s) (u := x) ?_ ?_; rotate_left; all_goals first | (intro _; clear_value x) | subst x)
    | (extract_lets +onlyGivenNames x; clear_value x)
    | with_reducible refine (k_modGov ..).step (by decide) ?_
    | with_reducible refine (k_wsets ..).step (by decide) ?_
    | with_reducible refine Keeps.ite ?_ ?_
    | with_reducible refine Keeps.getD (fun _ _ => ?_) ?_
    | split

/-- `degrade` changes at most: out, wr, dlinks, can, gov, sys, env. -/
theorem k_degrade (s : State) : Keeps 771768344 s (State.degrade s) := by
  unfold State.degrade
  repeat' first
    | with_reducible exact Keeps.refl _ _
    | with_reducible assumption
    | (extract_lets +onlyGivenNames x; refine Keeps.cut (m := 771768344) (s := s) (u := x) ?_ ?_; rotate_left; all_goals first | (intro _; clear_value x) | subst x)
    | (extract_lets +onlyGivenNames x; clear_value x)
    | with_reducible refine (k_shedNext ..).step (by decide) ?_
    | with_reducible refine (k_modGov ..).step (by decide) ?_
    | with_reducible refine (k_setWs ..).step (by decide) ?_
    | with_reducible refine (k_wadd ..).step (by decide) ?_
    | with_reducible refine Keeps.ite ?_ ?_
    | with_reducible refine Keeps.getD (fun _ _ => ?_) ?_
    | split

/-- `ringSample` changes at most: out, wr, dlinks, can, gov, sys, env. -/
theorem k_ringSample (counts : List Nat) (s : State) : Keeps 771768344 s (State.ringSample counts s) := by
  unfold State.ringSample
  repeat' first
    | with_reducible exact Keeps.refl _ _
    | with_reducible assumption
    | (extract_lets +onlyGivenNames x; refine Keeps.cut (m := 771768344) (s := s) (u := x) ?_ ?_; rotate_left; all_goals first | (intro _; clear_value x) | subst x)
    | (extract_lets +onlyGivenNames x; clear_value x)
    | with_reducible refine (k_degrade ..).step (by decide) ?_
    | with_reducible refine (k_causes ..).step (by decide) ?_
    | with_reducible refine (k_govern ..).step (by decide) ?_
    | with_reducible refine Keeps.getD (fun _ _ => ?_) ?_
    | split
    | with_reducible refine Keeps.ofSnd (by assumption) ?_
    | with_reducible refine (k_ringCounts ..).step (by decide) ?_
    | with_reducible dsimp only

/-- `shedDue` changes at most: wr, dlinks, gov. -/
theorem k_shedDue (s : State) : Keeps 67125264 s (State.shedDue s) := by
  unfold State.shedDue
  repeat' first
    | with_reducible exact Keeps.refl _ _
    | with_reducible assumption
    | with_reducible refine (k_shedNext ..).step (by decide) ?_
    | with_reducible refine Keeps.ite ?_ ?_
    | with_reducible refine Keeps.getD (fun _ _ => ?_) ?_
    | split

/-- `toggleHold` changes at most: wr, dlinks, gov. -/
theorem k_toggleHold (s : State) : Keeps 67125264 s (State.toggleHold s) := by
  unfold State.toggleHold
  repeat' first
    | with_reducible exact Keeps.refl _ _
    | with_reducible assumption
    | with_reducible refine (k_holdPorts ..).step (by decide) ?_
    | with_reducible refine (k_modGov ..).step (by decide) ?_
    | with_reducible refine (k_wadd ..).step (by decide) ?_
    | with_reducible refine Keeps.ite ?_ ?_
    | with_reducible refine Keeps.getD (fun _ _ => ?_) ?_
    | split

/-- `recoverStep` changes at most: out, wr, dlinks, can, gov, sys, env. -/
theorem k_recoverStep (s : State) : Keeps 771768344 s (State.recoverStep s) := by
  unfold State.recoverStep
  repeat' first
    | with_reducible exact Keeps.refl _ _
    | with_reducible assumption
    | (extract_lets +onlyGivenNames x; refine Keeps.cut (m := 771768344) (s := s) (u := x) ?_ ?_; rotate_left; all_goals first | (intro _; clear_value x) | subst x)
    | (extract_lets +onlyGivenNames x; clear_value x)
    | with_reducible refine (k_applyShed ..).step (by decide) ?_
    | with_reducible refine (k_modGov ..).step (by decide) ?_
    | with_reducible refine (k_setWs ..).step (by decide) ?_
    | with_reducible refine Keeps.ite ?_ ?_
    | with_reducible refine Keeps.getD (fun _ _ => ?_) ?_
    | split

/-- `setNor` changes at most: sys. -/
theorem k_setNor (x0 : Nat) (x1 : List Nat) (s : State) : Keeps 134217728 s (State.setNor x0 x1 s) := by
  induction x1 generalizing x0 s with
  | nil =>
    unfold State.setNor
    repeat' first
      | with_reducible exact Keeps.refl _ _
      | with_reducible assumption
      | with_reducible refine (k_modSys ..).step (by decide) ?_
      | with_reducible refine Keeps.ite ?_ ?_
      | with_reducible refine Keeps.getD (fun _ _ => ?_) ?_
      | split
      | with_reducible dsimp only
  | cons e l ih =>
    unfold State.setNor
    repeat' first
      | with_reducible exact Keeps.refl _ _
      | with_reducible assumption
      | with_reducible refine (k_modSys ..).step (by decide) ?_
      | with_reducible refine Keeps.ite ?_ ?_
      | with_reducible refine (ih ..).step (by decide) ?_
      | with_reducible refine Keeps.getD (fun _ _ => ?_) ?_
      | split
      | with_reducible dsimp only

/-- `putYard` changes at most: mem, mems. -/
theorem k_putYard (l : List Nat) (s : State) : Keeps 8389120 s (State.putYard l s) := by
  unfold State.putYard
  repeat' first
    | with_reducible exact Keeps.refl _ _
    | with_reducible assumption
    | with_reducible refine (k_modMems ..).step (by decide) ?_
    | with_reducible refine (k_setBytes ..).step (by decide) ?_
    | with_reducible refine Keeps.getD (fun _ _ => ?_) ?_
    | split

/-- `startChecks` changes at most: wr, sys. -/
theorem k_startChecks (src : Nat) (s : State) : Keeps 134217744 s (State.startChecks src s) := by
  unfold State.startChecks
  repeat' first
    | with_reducible exact Keeps.refl _ _
    | with_reducible assumption
    | with_reducible refine (k_modSys ..).step (by decide) ?_
    | with_reducible refine (k_wset ..).step (by decide) ?_
    | with_reducible refine Keeps.getD (fun _ _ => ?_) ?_

/-- `selectImage` changes at most: wr, sys. -/
theorem k_selectImage (s : State) : Keeps 134217744 s (State.selectImage s) := by
  unfold State.selectImage
  repeat' first
    | with_reducible exact Keeps.refl _ _
    | with_reducible assumption
    | (extract_lets +onlyGivenNames x; refine Keeps.cut (m := 134217744) (s := s) (u := x) ?_ ?_; rotate_left; all_goals first | (intro _; clear_value x) | subst x)
    | (extract_lets +onlyGivenNames x; clear_value x)
    | with_reducible refine (k_startChecks ..).step (by decide) ?_
    | with_reducible refine (k_modSys ..).step (by decide) ?_
    | with_reducible refine (k_wset ..).step (by decide) ?_
    | with_reducible refine Keeps.ite ?_ ?_
    | with_reducible refine Keeps.getD (fun _ _ => ?_) ?_
    | split

/-- `admCheck` changes at most: wr, sys. -/
theorem k_admCheck (s : State) : Keeps 134217744 s (State.admCheck s) := by
  unfold State.admCheck
  repeat' first
    | with_reducible exact Keeps.refl _ _
    | with_reducible assumption
    | with_reducible refine (k_startChecks ..).step (by decide) ?_
    | with_reducible refine Keeps.ite ?_ ?_
    | with_reducible refine Keeps.getD (fun _ _ => ?_) ?_
    | split

/-- `admReload` changes at most: wr, sys. -/
theorem k_admReload (s : State) : Keeps 134217744 s (State.admReload s) := by
  unfold State.admReload
  repeat' first
    | with_reducible exact Keeps.refl _ _
    | with_reducible assumption
    | with_reducible refine (k_selectImage ..).step (by decide) ?_
    | with_reducible refine Keeps.ite ?_ ?_
    | with_reducible refine Keeps.getD (fun _ _ => ?_) ?_
    | split

/-- `norCopied` changes at most: wr, mem, mems, sys. -/
theorem k_norCopied (s : State) : Keeps 142606864 s (State.norCopied s) := by
  unfold State.norCopied
  repeat' first
    | with_reducible exact Keeps.refl _ _
    | with_reducible assumption
    | with_reducible refine (k_startChecks ..).step (by decide) ?_
    | with_reducible refine (k_putYard ..).step (by decide) ?_
    | with_reducible refine Keeps.ite ?_ ?_
    | with_reducible refine Keeps.getD (fun _ _ => ?_) ?_
    | split

/-- `admStore` changes at most: wr, sys. -/
theorem k_admStore (s : State) : Keeps 134217744 s (State.admStore s) := by
  unfold State.admStore
  repeat' first
    | with_reducible exact Keeps.refl _ _
    | with_reducible assumption
    | (extract_lets +onlyGivenNames x; refine Keeps.cut (m := 134217744) (s := s) (u := x) ?_ ?_; rotate_left; all_goals first | (intro _; clear_value x) | subst x)
    | (extract_lets +onlyGivenNames x; clear_value x)
    | with_reducible refine (k_setNor ..).step (by decide) ?_
    | with_reducible refine (k_modSys ..).step (by decide) ?_
    | with_reducible refine (k_wset ..).step (by decide) ?_
    | with_reducible refine Keeps.ite ?_ ?_
    | with_reducible refine Keeps.getD (fun _ _ => ?_) ?_
    | split

/-- `admStored` changes at most: wr, sys. -/
theorem k_admStored (ok : Bool) (s : State) : Keeps 134217744 s (State.admStored ok s) := by
  unfold State.admStored
  repeat' first
    | with_reducible exact Keeps.refl _ _
    | with_reducible assumption
    | (extract_lets +onlyGivenNames x; refine Keeps.cut (m := 134217744) (s := s) (u := x) ?_ ?_; rotate_left; all_goals first | (intro _; clear_value x) | subst x)
    | (extract_lets +onlyGivenNames x; clear_value x)
    | with_reducible refine (k_setNor ..).step (by decide) ?_
    | with_reducible refine (k_modSys ..).step (by decide) ?_
    | with_reducible refine (k_wset ..).step (by decide) ?_
    | with_reducible refine Keeps.ite ?_ ?_
    | with_reducible refine Keeps.getD (fun _ _ => ?_) ?_
    | split

/-- `becomeJoining` changes at most: out, wr, dlinks, pair. -/
theorem k_becomeJoining (s : State) : Keeps 540696 s (State.becomeJoining s) := by
  unfold State.becomeJoining
  repeat' first
    | with_reducible exact Keeps.refl _ _
    | with_reducible assumption
    | with_reducible refine (k_claimNow ..).step (by decide) ?_
    | with_reducible refine (k_joinTry ..).step (by decide) ?_
    | with_reducible refine (k_modPair ..).step (by decide) ?_
    | with_reducible refine (k_wset ..).step (by decide) ?_
    | with_reducible refine Keeps.getD (fun _ _ => ?_) ?_

/-- `pairRun` changes at most: out, wr, dlinks, pair. -/
theorem k_pairRun (s : State) : Keeps 540696 s (State.pairRun s) := by
  unfold State.pairRun
  repeat' first
    | with_reducible exact Keeps.refl _ _
    | with_reducible assumption
    | (extract_lets +onlyGivenNames x; refine Keeps.cut (m := 540696) (s := s) (u := x) ?_ ?_; rotate_left; all_goals first | (intro _; clear_value x) | subst x)
    | (extract_lets +onlyGivenNames x; clear_value x)
    | with_reducible refine (k_becomeJoining ..).step (by decide) ?_
    | with_reducible refine (k_claimNow ..).step (by decide) ?_
    | with_reducible refine (k_modPair ..).step (by decide) ?_
    | with_reducible refine Keeps.ite ?_ ?_
    | with_reducible refine Keeps.getD (fun _ _ => ?_) ?_
    | split

/-- `pairStop` changes at most: wr, dlinks, pair. -/
theorem k_pairStop (s : State) : Keeps 540688 s (State.pairStop s) := by
  unfold State.pairStop
  repeat' first
    | with_reducible exact Keeps.refl _ _
    | with_reducible assumption
    | with_reducible refine (k_claimNow ..).step (by decide) ?_
    | with_reducible refine (k_modPair ..).step (by decide) ?_
    | with_reducible refine (k_wset ..).step (by decide) ?_
    | with_reducible refine Keeps.ite ?_ ?_
    | with_reducible refine Keeps.getD (fun _ _ => ?_) ?_
    | split

/-- `enterRun` changes at most: out, wr, ports, dlinks, sch, queues, pair, mus, eth, can, gov, sys, env. -/
theorem k_enterRun (s : State) : Keeps 777707544 s (State.enterRun s) := by
  unfold State.enterRun
  repeat' first
    | with_reducible exact Keeps.refl _ _
    | with_reducible assumption
    | (extract_lets +onlyGivenNames x; refine Keeps.cut (m := 777707544) (s := s) (u := x) ?_ ?_; rotate_left; all_goals first | (intro _; clear_value x) | subst x)
    | (extract_lets +onlyGivenNames x; clear_value x)
    | with_reducible refine (k_pairRun ..).step (by decide) ?_
    | with_reducible refine (k_applyShed ..).step (by decide) ?_
    | with_reducible refine (k_modGov ..).step (by decide) ?_
    | with_reducible refine (k_ethRun ..).step (by decide) ?_
    | with_reducible refine (k_cmpRun ..).step (by decide) ?_
    | with_reducible refine (k_portsRun ..).step (by decide) ?_
    | with_reducible refine (k_musRun ..).step (by decide) ?_
    | with_reducible refine (k_queuesRun ..).step (by decide) ?_
    | with_reducible refine (k_setWs ..).step (by decide) ?_
    | with_reducible refine Keeps.ite ?_ ?_
    | with_reducible refine Keeps.getD (fun _ _ => ?_) ?_
    | split

/-- `leaveRun` changes at most: wr, dlinks, pair, mus, cmp, eth, gov. -/
theorem k_leaveRun (s : State) : Keeps 74989584 s (State.leaveRun s) := by
  unfold State.leaveRun
  repeat' first
    | with_reducible exact Keeps.refl _ _
    | with_reducible assumption
    | (extract_lets +onlyGivenNames x; refine Keeps.cut (m := 74989584) (s := s) (u := x) ?_ ?_; rotate_left; all_goals first | (intro _; clear_value x) | subst x)
    | (extract_lets +onlyGivenNames x; clear_value x)
    | with_reducible refine (k_pairStop ..).step (by decide) ?_
    | with_reducible refine (k_modGov ..).step (by decide) ?_
    | with_reducible refine (k_ethStop ..).step (by decide) ?_
    | with_reducible refine (k_cmpStop ..).step (by decide) ?_
    | with_reducible refine (k_musStop ..).step (by decide) ?_
    | with_reducible refine (k_wsets ..).step (by decide) ?_
    | with_reducible refine Keeps.ite ?_ ?_
    | with_reducible refine Keeps.getD (fun _ _ => ?_) ?_
    | split

/-- `admStop` changes at most: out, wr, ports, dlinks, sch, queues, pair, mus, cmp, eth, can, gov, sys, env. -/
theorem k_admStop (s : State) : Keeps 779804696 s (State.admStop s) := by
  unfold State.admStop
  repeat' first
    | with_reducible exact Keeps.refl _ _
    | with_reducible assumption
    | (extract_lets +onlyGivenNames x; refine Keeps.cut (m := 779804696) (s := s) (u := x) ?_ ?_; rotate_left; all_goals first | (intro _; clear_value x) | subst x)
    | (extract_lets +onlyGivenNames x; clear_value x)
    | with_reducible refine (k_leaveRun ..).step (by decide) ?_
    | with_reducible refine (k_portsStop ..).step (by decide) ?_
    | with_reducible refine (k_queuesStage ..).step (by decide) ?_
    | with_reducible refine (k_setWs ..).step (by decide) ?_
    | with_reducible refine Keeps.ite ?_ ?_
    | with_reducible refine Keeps.getD (fun _ _ => ?_) ?_
    | split

/-- `autoRun` changes at most: out, wr, ports, dlinks, sch, queues, pair, mus, eth, can, gov, sys, env. -/
theorem k_autoRun (s : State) : Keeps 777707544 s (State.autoRun s) := by
  unfold State.autoRun
  repeat' first
    | with_reducible exact Keeps.refl _ _
    | with_reducible assumption
    | with_reducible refine (k_enterRun ..).step (by decide) ?_
    | with_reducible refine Keeps.ite ?_ ?_
    | with_reducible refine Keeps.getD (fun _ _ => ?_) ?_
    | split

/-- `writeAdmCtrl` changes at most: out, wr, ports, dlinks, sch, queues, pair, mus, cmp, eth, can, gov, sys, env. -/
theorem k_writeAdmCtrl (v : Nat) (s : State) : Keeps 779804696 s (State.writeAdmCtrl v s) := by
  unfold State.writeAdmCtrl
  repeat' first
    | with_reducible exact Keeps.refl _ _
    | with_reducible assumption
    | (extract_lets +onlyGivenNames x; refine Keeps.cut (m := 779804696) (s := s) (u := x) ?_ ?_; rotate_left; all_goals first | (intro _; clear_value x) | subst x)
    | (extract_lets +onlyGivenNames x; clear_value x)
    | with_reducible refine (k_admStop ..).step (by decide) ?_
    | with_reducible refine (k_enterRun ..).step (by decide) ?_
    | with_reducible refine (k_admStore ..).step (by decide) ?_
    | with_reducible refine (k_admReload ..).step (by decide) ?_
    | with_reducible refine (k_admCheck ..).step (by decide) ?_
    | with_reducible refine Keeps.ite ?_ ?_
    | with_reducible refine Keeps.getD (fun _ _ => ?_) ?_
    | split

/-- `reserveWritten` changes at most: out, wr, can, sys, env. -/
theorem k_reserveWritten (s : State) : Keeps 704643096 s (State.reserveWritten s) := by
  unfold State.reserveWritten
  repeat' first
    | with_reducible exact Keeps.refl _ _
    | with_reducible assumption
    | (extract_lets +onlyGivenNames x; refine Keeps.cut (m := 704643096) (s := s) (u := x) ?_ ?_; rotate_left; all_goals first | (intro _; clear_value x) | subst x)
    | (extract_lets +onlyGivenNames x; clear_value x)
    | with_reducible refine (k_setWs ..).step (by decide) ?_
    | with_reducible refine (k_wset ..).step (by decide) ?_
    | with_reducible refine Keeps.ite ?_ ?_
    | with_reducible refine Keeps.getD (fun _ _ => ?_) ?_
    | split

end Sys2Proof.Machine
end

