-- ==== Sys2Proof/Laws/KeepsWnMap.lean ====
section
/-! SUPPORT. What the operations of Machine/WnMap.lean may change. -/

namespace Sys2Proof.Machine

open Sys2Proof

/-- `trap` changes at most: cores. -/
theorem k_trap (n : Nat) (cause : Nat) (tval : Nat) (s : State) : Keeps 65536 s (State.trap n cause tval s) := by
  unfold State.trap
  repeat' first
    | with_reducible exact Keeps.refl _ _
    | with_reducible assumption
    | with_reducible refine (k_modCore ..).step (by decide) ?_

/-- `breakLr` changes at most: cores. -/
theorem k_breakLr (a : Nat) (n : Nat) (agent : Nat) (s : State) : Keeps 65536 s (State.breakLr a n agent s) := by
  unfold State.breakLr
  repeat' first
    | with_reducible exact Keeps.refl _ _
    | with_reducible assumption
    | with_reducible refine Keeps.ite ?_ ?_
    | split
    | with_reducible refine Keeps.upd_cores ?_ (by decide)

/-- `fenceRefuse` changes at most: wr. -/
theorem k_fenceRefuse (agent : Nat) (a : Nat) (s : State) : Keeps 16 s (State.fenceRefuse agent a s) := by
  unfold State.fenceRefuse
  repeat' first
    | with_reducible exact Keeps.refl _ _
    | with_reducible assumption
    | with_reducible refine (k_wadd ..).step (by decide) ?_
    | with_reducible refine (k_wsets ..).step (by decide) ?_

/-- `mayWrite` changes at most: wr. -/
theorem k_mayWrite (agent : Nat) (a : Nat) (n : Nat) (s : State) : Keeps 16 s (State.mayWrite agent a n s).2 := by
  unfold State.mayWrite
  repeat' first
    | with_reducible exact Keeps.refl _ _
    | with_reducible assumption
    | with_reducible refine (k_walkRefused ..).step (by decide) ?_
    | with_reducible refine Keeps.iteSnd ?_ ?_
    | split
    | with_reducible dsimp only

/-- `mayWriteFenced` changes at most: wr. -/
theorem k_mayWriteFenced (agent : Nat) (a : Nat) (n : Nat) (s : State) : Keeps 16 s (State.mayWriteFenced agent a n s).2 := by
  unfold State.mayWriteFenced
  repeat' first
    | with_reducible exact Keeps.refl _ _
    | with_reducible assumption
    | with_reducible refine (k_fenceRefuse ..).step (by decide) ?_
    | with_reducible refine (k_walkRefused ..).step (by decide) ?_
    | with_reducible refine Keeps.iteSnd ?_ ?_
    | split
    | with_reducible dsimp only

/-- `storeBytes` changes at most: out, wr, mem, cores, mems, can, sys, env. -/
theorem k_storeBytes (a : Nat) (bs : List Nat) (agent : Nat) (ch : Nat) (u : Upset) (s : State) : Keeps 713097752 s (State.storeBytes a bs agent ch u s).2 := by
  unfold State.storeBytes
  repeat' first
    | with_reducible exact Keeps.refl _ _
    | with_reducible assumption
    | (extract_lets +onlyGivenNames x; refine Keeps.cut (m := 713097752) (s := s) (u := x) ?_ ?_; rotate_left; all_goals first | (intro _; clear_value x) | subst x)
    | (extract_lets +onlyGivenNames x; clear_value x)
    | with_reducible refine (k_breakLr ..).step (by decide) ?_
    | with_reducible refine (k_reserveWritten ..).step (by decide) ?_
    | with_reducible refine Keeps.iteSnd ?_ ?_
    | split
    | with_reducible refine Keeps.ofSnd (by assumption) ?_
    | with_reducible refine (k_memWrite ..).step (by decide) ?_
    | with_reducible dsimp only

end Sys2Proof.Machine
end

