-- ==== Sys2Proof/Laws/KeepsWnDma.lean ====
section
/-! SUPPORT. What the operations of Machine/WnDma.lean may change. -/

namespace Sys2Proof.Machine

open Sys2Proof

/-- `dmaFlag` changes at most: wr, sch. -/
theorem k_dmaFlag (c : Nat) (s : State) : Keeps 32784 s (State.dmaFlag c s) := by
  unfold State.dmaFlag
  repeat' first
    | with_reducible exact Keeps.refl _ _
    | with_reducible assumption
    | with_reducible refine (k_setFlag ..).step (by decide) ?_
    | with_reducible refine Keeps.ite ?_ ?_
    | split

/-- `dmaHalt` changes at most: wr, sch. -/
theorem k_dmaHalt (c : Nat) (cause : Nat) (a : Nat) (s : State) : Keeps 32784 s (State.dmaHalt c cause a s) := by
  unfold State.dmaHalt
  repeat' first
    | with_reducible exact Keeps.refl _ _
    | with_reducible assumption
    | with_reducible refine (k_dmaFlag ..).step (by decide) ?_
    | with_reducible refine (k_wsets ..).step (by decide) ?_

/-- `dmaDone` changes at most: wr, sch. -/
theorem k_dmaDone (c : Nat) (s : State) : Keeps 32784 s (State.dmaDone c s) := by
  unfold State.dmaDone
  repeat' first
    | with_reducible exact Keeps.refl _ _
    | with_reducible assumption
    | with_reducible refine (k_dmaFlag ..).step (by decide) ?_
    | with_reducible refine (k_wset ..).step (by decide) ?_

/-- `dmaRun` changes at most: wr, sch. -/
theorem k_dmaRun (c : Nat) (s : State) : Keeps 32784 s (State.dmaRun c s) := by
  unfold State.dmaRun
  repeat' first
    | with_reducible exact Keeps.refl _ _
    | with_reducible assumption
    | with_reducible refine (k_dmaHalt ..).step (by decide) ?_
    | with_reducible refine (k_wsets ..).step (by decide) ?_
    | split

/-- `dmaGo` changes at most: wr, sch. -/
theorem k_dmaGo (c : Nat) (s : State) : Keeps 32784 s (State.dmaGo c s) := by
  unfold State.dmaGo
  repeat' first
    | with_reducible exact Keeps.refl _ _
    | with_reducible assumption
    | with_reducible refine (k_dmaRun ..).step (by decide) ?_
    | with_reducible refine (k_wset ..).step (by decide) ?_
    | with_reducible refine Keeps.ite ?_ ?_
    | split

/-- `dmaAdvance` changes at most: wr. -/
theorem k_dmaAdvance (c : Nat) (s : State) : Keeps 16 s (State.dmaAdvance c s) := by
  unfold State.dmaAdvance
  repeat' first
    | with_reducible exact Keeps.refl _ _
    | with_reducible assumption
    | with_reducible refine (k_wsets ..).step (by decide) ?_

/-- `dmaResume` changes at most: wr, sch. -/
theorem k_dmaResume (c : Nat) (s : State) : Keeps 32784 s (State.dmaResume c s) := by
  unfold State.dmaResume
  repeat' first
    | with_reducible exact Keeps.refl _ _
    | with_reducible assumption
    | with_reducible refine (k_dmaRun ..).step (by decide) ?_
    | with_reducible refine Keeps.ite ?_ ?_
    | split

/-- `dmaSkip` changes at most: wr, sch. -/
theorem k_dmaSkip (c : Nat) (s : State) : Keeps 32784 s (State.dmaSkip c s) := by
  unfold State.dmaSkip
  repeat' first
    | with_reducible exact Keeps.refl _ _
    | with_reducible assumption
    | (extract_lets +onlyGivenNames x; refine Keeps.cut (m := 32784) (s := s) (u := x) ?_ ?_; rotate_left; all_goals first | (intro _; clear_value x) | subst x)
    | (extract_lets +onlyGivenNames x; clear_value x)
    | with_reducible refine (k_dmaAdvance ..).step (by decide) ?_
    | with_reducible refine (k_dmaRun ..).step (by decide) ?_
    | with_reducible refine (k_dmaDone ..).step (by decide) ?_
    | with_reducible refine Keeps.ite ?_ ?_
    | split

/-- `dmaAbort` changes at most: wr, sch. -/
theorem k_dmaAbort (c : Nat) (s : State) : Keeps 32784 s (State.dmaAbort c s) := by
  unfold State.dmaAbort
  repeat' first
    | with_reducible exact Keeps.refl _ _
    | with_reducible assumption
    | with_reducible refine (k_dmaHalt ..).step (by decide) ?_
    | with_reducible refine (k_wsets ..).step (by decide) ?_
    | with_reducible refine Keeps.ite ?_ ?_
    | split

/-- `writeDmaCtrl` changes at most: wr, sch. -/
theorem k_writeDmaCtrl (c : Nat) (v : Nat) (s : State) : Keeps 32784 s (State.writeDmaCtrl c v s) := by
  unfold State.writeDmaCtrl
  repeat' first
    | with_reducible exact Keeps.refl _ _
    | with_reducible assumption
    | with_reducible refine (k_dmaAbort ..).step (by decide) ?_
    | with_reducible refine (k_dmaSkip ..).step (by decide) ?_
    | with_reducible refine (k_dmaResume ..).step (by decide) ?_
    | with_reducible refine (k_dmaGo ..).step (by decide) ?_
    | with_reducible refine Keeps.ite ?_ ?_
    | split

/-- `dmaRead` changes at most: wr, mem, mems. -/
theorem k_dmaRead (c : Nat) (x1 : List (Nat × Nat)) (x2 : List Upset) (s : State) : Keeps 8389136 s (State.dmaRead c x1 x2 s).2.2 := by
  induction x1 generalizing x2 s with
  | nil =>
    unfold State.dmaRead
    repeat' first
      | with_reducible exact Keeps.refl _ _
      | with_reducible assumption
      | (extract_lets +onlyGivenNames x; refine Keeps.cut (m := 8389136) (s := s) (u := x) ?_ ?_; rotate_left; all_goals first | (intro _; clear_value x) | subst x)
      | (extract_lets +onlyGivenNames x; clear_value x)
      | split
      | with_reducible refine Keeps.ofThd (by assumption) ?_
      | with_reducible refine (k_memRead ..).step (by decide) ?_
      | with_reducible dsimp only
  | cons e l ih =>
    unfold State.dmaRead
    repeat' first
      | with_reducible exact Keeps.refl _ _
      | with_reducible assumption
      | (extract_lets +onlyGivenNames x; refine Keeps.cut (m := 8389136) (s := s) (u := x) ?_ ?_; rotate_left; all_goals first | (intro _; clear_value x) | subst x)
      | (extract_lets +onlyGivenNames x; clear_value x)
      | with_reducible refine (ih ..).step (by decide) ?_
      | split
      | with_reducible refine Keeps.ofThd (by assumption) ?_
      | with_reducible refine (k_memRead ..).step (by decide) ?_
      | with_reducible dsimp only

/-- `dmaStore` changes at most: out, wr, mem, cores, mems, can, sys, env. -/
theorem k_dmaStore (c : Nat) (x1 : List (Nat × Nat)) (x2 : List Nat) (x3 : Upset) (s : State) : Keeps 713097752 s (State.dmaStore c x1 x2 x3 s).2 := by
  induction x1 generalizing x2 s with
  | nil =>
    unfold State.dmaStore
    repeat' first
      | with_reducible exact Keeps.refl _ _
      | with_reducible assumption
      | with_reducible refine Keeps.iteSnd ?_ ?_
      | split
      | with_reducible refine Keeps.ofSnd (by assumption) ?_
      | with_reducible refine (k_storeBytes ..).step (by decide) ?_
      | with_reducible dsimp only
  | cons e l ih =>
    unfold State.dmaStore
    repeat' first
      | with_reducible exact Keeps.refl _ _
      | with_reducible assumption
      | with_reducible refine Keeps.iteSnd ?_ ?_
      | split
      | with_reducible refine (ih ..).step (by decide) ?_
      | with_reducible refine Keeps.ofSnd (by assumption) ?_
      | with_reducible refine (k_storeBytes ..).step (by decide) ?_
      | with_reducible dsimp only

/-- `dmaUnit` changes at most: out, wr, mem, sch, cores, mems, can, sys, env. -/
theorem k_dmaUnit (c : Nat) (us : List Upset) (s : State) : Keeps 713130520 s (State.dmaUnit c us s) := by
  unfold State.dmaUnit
  repeat' first
    | with_reducible exact Keeps.refl _ _
    | with_reducible assumption
    | (extract_lets +onlyGivenNames x; refine Keeps.cut (m := 713130520) (s := s) (u := x) ?_ ?_; rotate_left; all_goals first | (intro _; clear_value x) | subst x)
    | (extract_lets +onlyGivenNames x; clear_value x)
    | with_reducible refine (k_dmaAdvance ..).step (by decide) ?_
    | with_reducible refine (k_dmaDone ..).step (by decide) ?_
    | with_reducible refine (k_dmaHalt ..).step (by decide) ?_
    | with_reducible refine (k_fenceRefuse ..).step (by decide) ?_
    | with_reducible refine Keeps.ite ?_ ?_
    | split
    | with_reducible refine Keeps.ofSnd (by assumption) ?_
    | with_reducible refine Keeps.ofThd (by assumption) ?_
    | with_reducible refine (k_dmaStore ..).step (by decide) ?_
    | with_reducible refine (k_dmaRead ..).step (by decide) ?_
    | with_reducible refine (k_mayWriteFenced ..).step (by decide) ?_
    | with_reducible dsimp only

end Sys2Proof.Machine
end

