-- ==== Sys2Proof/Laws/KeepsWnMbx.lean ====
section
/-! SUPPORT. What the operations of Machine/WnMbx.lean may change. -/

namespace Sys2Proof.Machine

open Sys2Proof

/-- `modMbx` changes at most: mbx. -/
theorem k_modMbx (f : Mbx → Mbx) (s : State) : Keeps 268435456 s (State.modMbx f s) := by
  unfold State.modMbx
  repeat' first
    | with_reducible exact Keeps.refl _ _
    | with_reducible assumption
    | with_reducible refine Keeps.upd_mbx ?_ (by decide)

/-- `mbxData` changes at most: wr, mbx. -/
theorem k_mbxData (agent : Nat) (m : Nat) (j : Nat) (v : Nat) (s : State) : Keeps 268435472 s (State.mbxData agent m j v s) := by
  unfold State.mbxData
  repeat' first
    | with_reducible exact Keeps.refl _ _
    | with_reducible assumption
    | with_reducible refine (k_modMbx ..).step (by decide) ?_
    | with_reducible refine (k_wset ..).step (by decide) ?_
    | with_reducible refine Keeps.ite ?_ ?_
    | split

/-- `mbxAck` changes at most: wr, mbx. -/
theorem k_mbxAck (m : Nat) (s : State) : Keeps 268435472 s (State.mbxAck m s) := by
  unfold State.mbxAck
  repeat' first
    | with_reducible exact Keeps.refl _ _
    | with_reducible assumption
    | with_reducible refine (k_modMbx ..).step (by decide) ?_
    | with_reducible refine (k_wsets ..).step (by decide) ?_
    | with_reducible refine Keeps.ite ?_ ?_
    | split

/-- `fwSend` changes at most: out, wr, pair, mbx. -/
theorem k_fwSend (m : Nat) (s : State) : Keeps 268959768 s (State.fwSend m s) := by
  unfold State.fwSend
  repeat' first
    | with_reducible exact Keeps.refl _ _
    | with_reducible assumption
    | (extract_lets +onlyGivenNames x; refine Keeps.cut (m := 268959768) (s := s) (u := x) ?_ ?_; rotate_left; all_goals first | (intro _; clear_value x) | subst x)
    | (extract_lets +onlyGivenNames x; clear_value x)
    | with_reducible refine (k_mbxAck ..).step (by decide) ?_
    | with_reducible refine (k_plSend ..).step (by decide) ?_
    | with_reducible refine Keeps.ite ?_ ?_
    | split

/-- `mbxSend` changes at most: out, wr, pair, mbx. -/
theorem k_mbxSend (agent : Nat) (m : Nat) (s : State) : Keeps 268959768 s (State.mbxSend agent m s) := by
  unfold State.mbxSend
  repeat' first
    | with_reducible exact Keeps.refl _ _
    | with_reducible assumption
    | (extract_lets +onlyGivenNames x; refine Keeps.cut (m := 268959768) (s := s) (u := x) ?_ ?_; rotate_left; all_goals first | (intro _; clear_value x) | subst x)
    | (extract_lets +onlyGivenNames x; clear_value x)
    | with_reducible refine (k_fwSend ..).step (by decide) ?_
    | with_reducible refine (k_wadd ..).step (by decide) ?_
    | with_reducible refine (k_wsets ..).step (by decide) ?_
    | with_reducible refine (k_wset ..).step (by decide) ?_
    | with_reducible refine Keeps.ite ?_ ?_
    | split

/-- `writeMbxCtrl` changes at most: out, wr, pair, mbx. -/
theorem k_writeMbxCtrl (agent : Nat) (m : Nat) (v : Nat) (s : State) : Keeps 268959768 s (State.writeMbxCtrl agent m v s) := by
  unfold State.writeMbxCtrl
  repeat' first
    | with_reducible exact Keeps.refl _ _
    | with_reducible assumption
    | (extract_lets +onlyGivenNames x; refine Keeps.cut (m := 268959768) (s := s) (u := x) ?_ ?_; rotate_left; all_goals first | (intro _; clear_value x) | subst x)
    | (extract_lets +onlyGivenNames x; clear_value x)
    | with_reducible refine (k_mbxSend ..).step (by decide) ?_
    | with_reducible refine (k_mbxAck ..).step (by decide) ?_
    | with_reducible refine Keeps.ite ?_ ?_
    | split

/-- `setOwner` changes at most: wr, mbx. -/
theorem k_setOwner (m : Nat) (v : Nat) (s : State) : Keeps 268435472 s (State.setOwner m v s) := by
  unfold State.setOwner
  repeat' first
    | with_reducible exact Keeps.refl _ _
    | with_reducible assumption
    | with_reducible refine (k_modMbx ..).step (by decide) ?_
    | with_reducible refine (k_wsets ..).step (by decide) ?_

/-- `lockLapse` changes at most: wr, mbx. -/
theorem k_lockLapse (m : Nat) (s : State) : Keeps 268435472 s (State.lockLapse m s) := by
  unfold State.lockLapse
  repeat' first
    | with_reducible exact Keeps.refl _ _
    | with_reducible assumption
    | with_reducible refine (k_setOwner ..).step (by decide) ?_
    | with_reducible refine (k_wadd ..).step (by decide) ?_
    | with_reducible refine (k_wset ..).step (by decide) ?_
    | with_reducible refine Keeps.ite ?_ ?_
    | split

/-- `lockRead` changes at most: wr, mbx. -/
theorem k_lockRead (agent : Nat) (m : Nat) (s : State) : Keeps 268435472 s (State.lockRead agent m s).2 := by
  unfold State.lockRead
  repeat' first
    | with_reducible exact Keeps.refl _ _
    | with_reducible assumption
    | (extract_lets +onlyGivenNames x; refine Keeps.cut (m := 268435472) (s := s) (u := x) ?_ ?_; rotate_left; all_goals first | (intro _; clear_value x) | subst x)
    | (extract_lets +onlyGivenNames x; clear_value x)
    | with_reducible refine (k_lockLapse ..).step (by decide) ?_
    | with_reducible refine (k_setOwner ..).step (by decide) ?_
    | with_reducible refine (k_modMbx ..).step (by decide) ?_
    | with_reducible refine Keeps.iteSnd ?_ ?_
    | split
    | with_reducible dsimp only

/-- `lockWrite` changes at most: wr, mbx. -/
theorem k_lockWrite (agent : Nat) (m : Nat) (v : Nat) (s : State) : Keeps 268435472 s (State.lockWrite agent m v s) := by
  unfold State.lockWrite
  repeat' first
    | with_reducible exact Keeps.refl _ _
    | with_reducible assumption
    | (extract_lets +onlyGivenNames x; refine Keeps.cut (m := 268435472) (s := s) (u := x) ?_ ?_; rotate_left; all_goals first | (intro _; clear_value x) | subst x)
    | (extract_lets +onlyGivenNames x; clear_value x)
    | with_reducible refine (k_lockLapse ..).step (by decide) ?_
    | with_reducible refine (k_setOwner ..).step (by decide) ?_
    | with_reducible refine (k_wsets ..).step (by decide) ?_
    | with_reducible refine (k_wset ..).step (by decide) ?_
    | with_reducible refine Keeps.ite ?_ ?_
    | split

/-- `lockForce` changes at most: wr, mbx. -/
theorem k_lockForce (agent : Nat) (m : Nat) (s : State) : Keeps 268435472 s (State.lockForce agent m s) := by
  unfold State.lockForce
  repeat' first
    | with_reducible exact Keeps.refl _ _
    | with_reducible assumption
    | (extract_lets +onlyGivenNames x; refine Keeps.cut (m := 268435472) (s := s) (u := x) ?_ ?_; rotate_left; all_goals first | (intro _; clear_value x) | subst x)
    | (extract_lets +onlyGivenNames x; clear_value x)
    | with_reducible refine (k_lockLapse ..).step (by decide) ?_
    | with_reducible refine (k_setOwner ..).step (by decide) ?_
    | with_reducible refine (k_wset ..).step (by decide) ?_
    | with_reducible refine Keeps.ite ?_ ?_
    | split

/-- `writeLkcfg` changes at most: wr, mbx. -/
theorem k_writeLkcfg (agent : Nat) (m : Nat) (v : Nat) (s : State) : Keeps 268435472 s (State.writeLkcfg agent m v s) := by
  unfold State.writeLkcfg
  repeat' first
    | with_reducible exact Keeps.refl _ _
    | with_reducible assumption
    | (extract_lets +onlyGivenNames x; refine Keeps.cut (m := 268435472) (s := s) (u := x) ?_ ?_; rotate_left; all_goals first | (intro _; clear_value x) | subst x)
    | (extract_lets +onlyGivenNames x; clear_value x)
    | with_reducible refine (k_lockForce ..).step (by decide) ?_
    | with_reducible refine (k_wset ..).step (by decide) ?_
    | with_reducible refine Keeps.ite ?_ ?_
    | split

/-- `loftRelease` changes at most: wr. -/
theorem k_loftRelease (s : State) : Keeps 16 s (State.loftRelease s) := by
  unfold State.loftRelease
  repeat' first
    | with_reducible exact Keeps.refl _ _
    | with_reducible assumption
    | with_reducible refine (k_wsets ..).step (by decide) ?_

/-- `showUart` changes at most: wr. -/
theorem k_showUart (s : State) : Keeps 16 s (State.showUart s) := by
  unfold State.showUart
  repeat' first
    | with_reducible exact Keeps.refl _ _
    | with_reducible assumption
    | (extract_lets +onlyGivenNames x; refine Keeps.cut (m := 16) (s := s) (u := x) ?_ ?_; rotate_left; all_goals first | (intro _; clear_value x) | subst x)
    | (extract_lets +onlyGivenNames x; clear_value x)
    | with_reducible refine (k_wsets ..).step (by decide) ?_

/-- `uartStart` changes at most: out, wr, mbx. -/
theorem k_uartStart (s : State) : Keeps 268435480 s (State.uartStart s) := by
  unfold State.uartStart
  repeat' first
    | with_reducible exact Keeps.refl _ _
    | with_reducible assumption
    | (extract_lets +onlyGivenNames x; refine Keeps.cut (m := 268435480) (s := s) (u := x) ?_ ?_; rotate_left; all_goals first | (intro _; clear_value x) | subst x)
    | (extract_lets +onlyGivenNames x; clear_value x)
    | with_reducible refine (k_showUart ..).step (by decide) ?_
    | with_reducible refine (k_modMbx ..).step (by decide) ?_
    | with_reducible refine (k_emitPin ..).step (by decide) ?_
    | with_reducible refine Keeps.ite ?_ ?_
    | split

/-- `uartWrite` changes at most: out, wr, mbx. -/
theorem k_uartWrite (c : Nat) (s : State) : Keeps 268435480 s (State.uartWrite c s) := by
  unfold State.uartWrite
  repeat' first
    | with_reducible exact Keeps.refl _ _
    | with_reducible assumption
    | with_reducible refine (k_uartStart ..).step (by decide) ?_
    | with_reducible refine (k_modMbx ..).step (by decide) ?_
    | with_reducible refine (k_wadd ..).step (by decide) ?_
    | with_reducible refine Keeps.ite ?_ ?_
    | split

/-- `uartSent` changes at most: out, wr, mbx. -/
theorem k_uartSent (s : State) : Keeps 268435480 s (State.uartSent s) := by
  unfold State.uartSent
  repeat' first
    | with_reducible exact Keeps.refl _ _
    | with_reducible assumption
    | with_reducible refine (k_uartStart ..).step (by decide) ?_
    | with_reducible refine (k_modMbx ..).step (by decide) ?_
    | with_reducible refine Keeps.ite ?_ ?_
    | split

/-- `uartEdge` changes at most: wr, mbx. -/
theorem k_uartEdge (sample : Bool) (s : State) : Keeps 268435472 s (State.uartEdge sample s) := by
  unfold State.uartEdge
  repeat' first
    | with_reducible exact Keeps.refl _ _
    | with_reducible assumption
    | with_reducible refine (k_modMbx ..).step (by decide) ?_
    | with_reducible refine (k_wset ..).step (by decide) ?_
    | with_reducible refine Keeps.ite ?_ ?_
    | split

/-- `uartChar` changes at most: wr, mbx. -/
theorem k_uartChar (data : Nat) (par : Bool) (stop : Bool) (s : State) : Keeps 268435472 s (State.uartChar data par stop s) := by
  unfold State.uartChar
  repeat' first
    | with_reducible exact Keeps.refl _ _
    | with_reducible assumption
    | (extract_lets +onlyGivenNames x; refine Keeps.cut (m := 268435472) (s := s) (u := x) ?_ ?_; rotate_left; all_goals first | (intro _; clear_value x) | subst x)
    | (extract_lets +onlyGivenNames x; clear_value x)
    | with_reducible refine (k_showUart ..).step (by decide) ?_
    | with_reducible refine (k_modMbx ..).step (by decide) ?_
    | with_reducible refine (k_wcountIf ..).step (by decide) ?_
    | with_reducible refine (k_wadd ..).step (by decide) ?_
    | with_reducible refine (k_wset ..).step (by decide) ?_
    | with_reducible refine Keeps.ite ?_ ?_
    | split

/-- `uartRead` changes at most: wr, mbx. -/
theorem k_uartRead (s : State) : Keeps 268435472 s (State.uartRead s) := by
  unfold State.uartRead
  repeat' first
    | with_reducible exact Keeps.refl _ _
    | with_reducible assumption
    | (extract_lets +onlyGivenNames x; refine Keeps.cut (m := 268435472) (s := s) (u := x) ?_ ?_; rotate_left; all_goals first | (intro _; clear_value x) | subst x)
    | (extract_lets +onlyGivenNames x; clear_value x)
    | with_reducible refine (k_showUart ..).step (by decide) ?_
    | with_reducible refine (k_modMbx ..).step (by decide) ?_
    | with_reducible refine (k_wset ..).step (by decide) ?_

end Sys2Proof.Machine
end

