-- ==== Sys2Proof/Laws/KeepsWnPair.lean ====
section
/-! SUPPORT. What the operations of Machine/WnPair.lean may change. -/

namespace Sys2Proof.Machine

open Sys2Proof

/-- `goAlone` changes at most: wr, dlinks, pair. -/
theorem k_goAlone (s : State) : Keeps 540688 s (State.goAlone s) := by
  unfold State.goAlone
  repeat' first
    | with_reducible exact Keeps.refl _ _
    | with_reducible assumption
    | with_reducible refine (k_claimNow ..).step (by decide) ?_
    | with_reducible refine (k_modPair ..).step (by decide) ?_
    | with_reducible refine (k_wset ..).step (by decide) ?_

/-- `abandonJoin` changes at most: wr, dlinks, pair. -/
theorem k_abandonJoin (s : State) : Keeps 540688 s (State.abandonJoin s) := by
  unfold State.abandonJoin
  repeat' first
    | with_reducible exact Keeps.refl _ _
    | with_reducible assumption
    | (extract_lets +onlyGivenNames x; refine Keeps.cut (m := 540688) (s := s) (u := x) ?_ ?_; rotate_left; all_goals first | (intro _; clear_value x) | subst x)
    | (extract_lets +onlyGivenNames x; clear_value x)
    | with_reducible refine (k_goAlone ..).step (by decide) ?_
    | with_reducible refine (k_setSeq ..).step (by decide) ?_
    | with_reducible refine (k_wset ..).step (by decide) ?_
    | split

/-- `sendHb` changes at most: out, pair. -/
theorem k_sendHb (s : State) : Keeps 524296 s (State.sendHb s) := by
  unfold State.sendHb
  repeat' first
    | with_reducible exact Keeps.refl _ _
    | with_reducible assumption
    | (extract_lets +onlyGivenNames x; refine Keeps.cut (m := 524296) (s := s) (u := x) ?_ ?_; rotate_left; all_goals first | (intro _; clear_value x) | subst x)
    | (extract_lets +onlyGivenNames x; clear_value x)
    | with_reducible refine (k_plSend ..).step (by decide) ?_
    | with_reducible refine (k_modPair ..).step (by decide) ?_
    | with_reducible refine Keeps.ite ?_ ?_
    | split

/-- `partnerMoved` changes at most: wr, dlinks, pair. -/
theorem k_partnerMoved (run : Bool) (joining : Bool) (s : State) : Keeps 540688 s (State.partnerMoved run joining s) := by
  unfold State.partnerMoved
  repeat' first
    | with_reducible exact Keeps.refl _ _
    | with_reducible assumption
    | (extract_lets +onlyGivenNames x; refine Keeps.cut (m := 540688) (s := s) (u := x) ?_ ?_; rotate_left; all_goals first | (intro _; clear_value x) | subst x)
    | (extract_lets +onlyGivenNames x; clear_value x)
    | with_reducible refine (k_goAlone ..).step (by decide) ?_
    | with_reducible refine (k_modPair ..).step (by decide) ?_
    | with_reducible refine Keeps.ite ?_ ?_
    | split

/-- `hbRx` changes at most: out, wr, dlinks, pair, gov. -/
theorem k_hbRx (ws : List Nat) (s : State) : Keeps 67649560 s (State.hbRx ws s) := by
  unfold State.hbRx
  repeat' first
    | with_reducible exact Keeps.refl _ _
    | with_reducible assumption
    | (extract_lets +onlyGivenNames x; refine Keeps.cut (m := 67649560) (s := s) (u := x) ?_ ?_; rotate_left; all_goals first | (intro _; clear_value x) | subst x)
    | (extract_lets +onlyGivenNames x; clear_value x)
    | with_reducible refine (k_partnerMoved ..).step (by decide) ?_
    | with_reducible refine (k_applyShed ..).step (by decide) ?_
    | with_reducible refine (k_joinTry ..).step (by decide) ?_
    | with_reducible refine (k_modPair ..).step (by decide) ?_
    | with_reducible refine (k_wsets ..).step (by decide) ?_
    | with_reducible refine (k_wset ..).step (by decide) ?_
    | with_reducible refine Keeps.ite ?_ ?_
    | split

/-- `partnerLost` changes at most: wr, dlinks, pair, gov. -/
theorem k_partnerLost (s : State) : Keeps 67649552 s (State.partnerLost s) := by
  unfold State.partnerLost
  repeat' first
    | with_reducible exact Keeps.refl _ _
    | with_reducible assumption
    | (extract_lets +onlyGivenNames x; refine Keeps.cut (m := 67649552) (s := s) (u := x) ?_ ?_; rotate_left; all_goals first | (intro _; clear_value x) | subst x)
    | (extract_lets +onlyGivenNames x; clear_value x)
    | with_reducible refine (k_abandonJoin ..).step (by decide) ?_
    | with_reducible refine (k_goAlone ..).step (by decide) ?_
    | with_reducible refine (k_applyShed ..).step (by decide) ?_
    | with_reducible refine (k_modPair ..).step (by decide) ?_
    | with_reducible refine (k_wsets ..).step (by decide) ?_
    | with_reducible refine Keeps.ite ?_ ?_
    | split

/-- `dropEvents` changes at most: wr, mus. -/
theorem k_dropEvents (s : State) : Keeps 1048592 s (State.dropEvents s) := by
  unfold State.dropEvents
  repeat' first
    | with_reducible exact Keeps.refl _ _
    | with_reducible assumption
    | (extract_lets +onlyGivenNames x; refine Keeps.cut (m := 1048592) (s := s) (u := x) ?_ ?_; rotate_left; all_goals first | (intro _; clear_value x) | subst x)
    | (extract_lets +onlyGivenNames x; clear_value x)
    | with_reducible refine (k_giveBack ..).step (by decide) ?_
    | with_reducible refine (k_modMus ..).step (by decide) ?_
    | with_reducible refine Keeps.foldl _ ?_ (fun _ _ _ => ?_)

/-- `rejoin` changes at most: out, wr, dlinks, pair, mus. -/
theorem k_rejoin (s : State) : Keeps 1589272 s (State.rejoin s) := by
  unfold State.rejoin
  repeat' first
    | with_reducible exact Keeps.refl _ _
    | with_reducible assumption
    | with_reducible refine (k_dropEvents ..).step (by decide) ?_
    | with_reducible refine (k_becomeJoining ..).step (by decide) ?_
    | with_reducible refine Keeps.ite ?_ ?_
    | split

/-- `goAloneWrite` changes at most: wr, dlinks, pair. -/
theorem k_goAloneWrite (s : State) : Keeps 540688 s (State.goAloneWrite s) := by
  unfold State.goAloneWrite
  repeat' first
    | with_reducible exact Keeps.refl _ _
    | with_reducible assumption
    | with_reducible refine (k_abandonJoin ..).step (by decide) ?_
    | with_reducible refine Keeps.ite ?_ ?_
    | split

/-- `writePairCtrl` changes at most: out, wr, dlinks, pair, mus. -/
theorem k_writePairCtrl (v : Nat) (s : State) : Keeps 1589272 s (State.writePairCtrl v s) := by
  unfold State.writePairCtrl
  repeat' first
    | with_reducible exact Keeps.refl _ _
    | with_reducible assumption
    | (extract_lets +onlyGivenNames x; refine Keeps.cut (m := 1589272) (s := s) (u := x) ?_ ?_; rotate_left; all_goals first | (intro _; clear_value x) | subst x)
    | (extract_lets +onlyGivenNames x; clear_value x)
    | with_reducible refine (k_goAloneWrite ..).step (by decide) ?_
    | with_reducible refine (k_rejoin ..).step (by decide) ?_
    | with_reducible refine (k_wset ..).step (by decide) ?_
    | with_reducible refine Keeps.ite ?_ ?_
    | split

/-- `writePairEn` changes at most: out, wr, dlinks, pair, can, sys, env. -/
theorem k_writePairEn (en : Bool) (s : State) : Keeps 705183768 s (State.writePairEn en s) := by
  unfold State.writePairEn
  repeat' first
    | with_reducible exact Keeps.refl _ _
    | with_reducible assumption
    | (extract_lets +onlyGivenNames x; refine Keeps.cut (m := 705183768) (s := s) (u := x) ?_ ?_; rotate_left; all_goals first | (intro _; clear_value x) | subst x)
    | (extract_lets +onlyGivenNames x; clear_value x)
    | with_reducible refine (k_goAlone ..).step (by decide) ?_
    | with_reducible refine (k_claimNow ..).step (by decide) ?_
    | with_reducible refine (k_modPair ..).step (by decide) ?_
    | with_reducible refine (k_setWs ..).step (by decide) ?_
    | with_reducible refine (k_wsets ..).step (by decide) ?_
    | with_reducible refine (k_wset ..).step (by decide) ?_
    | with_reducible refine Keeps.ite ?_ ?_
    | split

/-- `writeClaim` changes at most: wr, dlinks. -/
theorem k_writeClaim (v : Nat) (s : State) : Keeps 16400 s (State.writeClaim v s) := by
  unfold State.writeClaim
  repeat' first
    | with_reducible exact Keeps.refl _ _
    | with_reducible assumption
    | with_reducible refine (k_claimNow ..).step (by decide) ?_
    | with_reducible refine (k_wset ..).step (by decide) ?_

/-- `anchorRx` changes at most: wr, pair. -/
theorem k_anchorRx (ws : List Nat) (s : State) : Keeps 524304 s (State.anchorRx ws s) := by
  unfold State.anchorRx
  repeat' first
    | with_reducible exact Keeps.refl _ _
    | with_reducible assumption
    | (extract_lets +onlyGivenNames x; refine Keeps.cut (m := 524304) (s := s) (u := x) ?_ ?_; rotate_left; all_goals first | (intro _; clear_value x) | subst x)
    | (extract_lets +onlyGivenNames x; clear_value x)
    | with_reducible refine (k_modPair ..).step (by decide) ?_
    | with_reducible refine (k_wset ..).step (by decide) ?_
    | with_reducible refine Keeps.ite ?_ ?_
    | split

/-- `thetaRx` changes at most: wr, pair. -/
theorem k_thetaRx (ws : List Nat) (s : State) : Keeps 524304 s (State.thetaRx ws s) := by
  unfold State.thetaRx
  repeat' first
    | with_reducible exact Keeps.refl _ _
    | with_reducible assumption
    | (extract_lets +onlyGivenNames x; refine Keeps.cut (m := 524304) (s := s) (u := x) ?_ ?_; rotate_left; all_goals first | (intro _; clear_value x) | subst x)
    | (extract_lets +onlyGivenNames x; clear_value x)
    | with_reducible refine (k_modPair ..).step (by decide) ?_
    | with_reducible refine (k_wcountIf ..).step (by decide) ?_
    | with_reducible refine (k_wset ..).step (by decide) ?_
    | with_reducible refine Keeps.ite ?_ ?_
    | split

/-- `noteRx` changes at most: tri, ports. -/
theorem k_noteRx (ws : List Nat) (s : State) : Keeps 10240 s (State.noteRx ws s) := by
  unfold State.noteRx
  repeat' first
    | with_reducible exact Keeps.refl _ _
    | with_reducible assumption
    | (extract_lets +onlyGivenNames x; refine Keeps.cut (m := 10240) (s := s) (u := x) ?_ ?_; rotate_left; all_goals first | (intro _; clear_value x) | subst x)
    | (extract_lets +onlyGivenNames x; clear_value x)
    | with_reducible refine (k_modTri ..).step (by decide) ?_
    | with_reducible refine (k_modPort ..).step (by decide) ?_

/-- `digestRx` changes at most: out, wr, pair, can. -/
theorem k_digestRx (ws : List Nat) (s : State) : Keeps 34078744 s (State.digestRx ws s) := by
  unfold State.digestRx
  repeat' first
    | with_reducible exact Keeps.refl _ _
    | with_reducible assumption
    | with_reducible refine (k_digestEnter ..).step (by decide) ?_
    | with_reducible refine Keeps.ite ?_ ?_
    | split

/-- `digestExpire` changes at most: wr, pair. -/
theorem k_digestExpire (s : State) : Keeps 524304 s (State.digestExpire s) := by
  unfold State.digestExpire
  repeat' first
    | with_reducible exact Keeps.refl _ _
    | with_reducible assumption
    | (extract_lets +onlyGivenNames x; refine Keeps.cut (m := 524304) (s := s) (u := x) ?_ ?_; rotate_left; all_goals first | (intro _; clear_value x) | subst x)
    | (extract_lets +onlyGivenNames x; clear_value x)
    | with_reducible refine (k_modPair ..).step (by decide) ?_
    | with_reducible refine (k_wadd ..).step (by decide) ?_

/-- `setJoinSlot` changes at most: wr. -/
theorem k_setJoinSlot (sj : Nat) (s : State) : Keeps 16 s (State.setJoinSlot sj s) := by
  unfold State.setJoinSlot
  repeat' first
    | with_reducible exact Keeps.refl _ _
    | with_reducible assumption
    | with_reducible refine (k_wsets ..).step (by decide) ?_

/-- `joinRequest` changes at most: out, wr, pair. -/
theorem k_joinRequest (s : State) : Keeps 524312 s (State.joinRequest s) := by
  unfold State.joinRequest
  repeat' first
    | with_reducible exact Keeps.refl _ _
    | with_reducible assumption
    | (extract_lets +onlyGivenNames x; refine Keeps.cut (m := 524312) (s := s) (u := x) ?_ ?_; rotate_left; all_goals first | (intro _; clear_value x) | subst x)
    | (extract_lets +onlyGivenNames x; clear_value x)
    | with_reducible refine (k_setJoinSlot ..).step (by decide) ?_
    | with_reducible refine (k_sendTheta ..).step (by decide) ?_
    | with_reducible refine (k_plSend ..).step (by decide) ?_
    | with_reducible refine (k_modPair ..).step (by decide) ?_
    | with_reducible refine Keeps.ite ?_ ?_
    | with_reducible refine Keeps.foldl _ ?_ (fun _ _ _ => ?_)
    | split

/-- `joinAt` changes at most: wr, pair. -/
theorem k_joinAt (w0 : Nat) (s : State) : Keeps 524304 s (State.joinAt w0 s) := by
  unfold State.joinAt
  repeat' first
    | with_reducible exact Keeps.refl _ _
    | with_reducible assumption
    | with_reducible refine (k_setJoinSlot ..).step (by decide) ?_
    | with_reducible refine (k_modPair ..).step (by decide) ?_
    | with_reducible refine Keeps.ite ?_ ?_
    | split

/-- `joinSeq` changes at most: freeCnt, out, wr, sch, queues, pair, mus, mems, can. -/
theorem k_joinSeq (seq : Nat) (s : State) : Keeps 43679770 s (State.joinSeq seq s) := by
  unfold State.joinSeq
  repeat' first
    | with_reducible exact Keeps.refl _ _
    | with_reducible assumption
    | with_reducible refine (k_commitFront ..).step (by decide) ?_
    | with_reducible refine (k_modPair ..).step (by decide) ?_
    | with_reducible refine (k_wsets ..).step (by decide) ?_
    | with_reducible refine Keeps.ite ?_ ?_
    | split

/-- `fwRx` changes at most: out, wr, pair, mbx. -/
theorem k_fwRx (ws : List Nat) (s : State) : Keeps 268959768 s (State.fwRx ws s) := by
  unfold State.fwRx
  repeat' first
    | with_reducible exact Keeps.refl _ _
    | with_reducible assumption
    | (extract_lets +onlyGivenNames x; refine Keeps.cut (m := 268959768) (s := s) (u := x) ?_ ?_; rotate_left; all_goals first | (intro _; clear_value x) | subst x)
    | (extract_lets +onlyGivenNames x; clear_value x)
    | with_reducible refine (k_mbxSend ..).step (by decide) ?_
    | with_reducible refine (k_mbxData ..).step (by decide) ?_
    | with_reducible refine (k_wadd ..).step (by decide) ?_
    | with_reducible refine Keeps.ite ?_ ?_
    | with_reducible refine Keeps.foldl _ ?_ (fun _ _ _ => ?_)
    | split

/-- `plReceive` changes at most: wr, pair. -/
theorem k_plReceive {m : Nat} (code hdr : Nat) (ws : List Nat) (eff : List Nat → State → State) (s : State)
    (h : ∀ l t, Keeps m t (eff l t)) (e : 524304 ||| m = m) : Keeps m s (State.plReceive code hdr ws eff s) := by
  have lp : ∀ n, n ||| 524304 = 524304 → n ||| m = m := fun n k => by rw [← e, ← Nat.or_assoc, k]
  unfold State.plReceive
  dsimp only
  split
  · exact Keeps.refl _ _
  · split
    · exact (k_wadd ..).weaken (lp _ (by decide))
    · have k : Keeps m s ((s.wcountIf (match s.pair.rxSeq with
          | some m => bits 51 36 hdr != (m + 1) % 65536
          | none => false) WR.PAIR_PL_CNT_GAPS).modPair fun a => { a with rxSeq := some (bits 51 36 hdr) }) :=
        (k_modPair ..).step (lp _ (by decide)) ((k_wcountIf ..).weaken (lp _ (by decide)))
      split
      · exact k.trans (h _ _)
      · exact k

/-- `alignTri` changes at most: wr, tri. -/
theorem k_alignTri (d : Int) (p : Nat) (s : State) : Keeps 2064 s (State.alignTri d p s) := by
  unfold State.alignTri
  repeat' first
    | with_reducible exact Keeps.refl _ _
    | with_reducible assumption
    | (extract_lets +onlyGivenNames x; refine Keeps.cut (m := 2064) (s := s) (u := x) ?_ ?_; rotate_left; all_goals first | (intro _; clear_value x) | subst x)
    | (extract_lets +onlyGivenNames x; clear_value x)
    | with_reducible refine (k_triMove ..).step (by decide) ?_
    | with_reducible refine (k_modTri ..).step (by decide) ?_

/-- `alignMarks` changes at most: lanes, ports, dlinks, mus. -/
theorem k_alignMarks (d : Int) (s : State) : Keeps 1077248 s (s.alignMarks d) :=
  Keeps.part (fun p hp => by cases p <;> first | rfl | exact absurd hp (by decide)) (.inl rfl) (.inl rfl)
    (List.prefix_refl _) (Nat.le_refl _)

/-- `alignPort` changes at most: wr, ports, dlinks, mus. -/
theorem k_alignPort (p : Nat) (s : State) : Keeps 1073168 s (State.alignPort p s) := by
  unfold State.alignPort
  repeat' first
    | with_reducible exact Keeps.refl _ _
    | with_reducible assumption
    | (extract_lets +onlyGivenNames x; refine Keeps.cut (m := 1073168) (s := s) (u := x) ?_ ?_; rotate_left; all_goals first | (intro _; clear_value x) | subst x)
    | (extract_lets +onlyGivenNames x; clear_value x)
    | with_reducible refine (k_attach ..).step (by decide) ?_
    | with_reducible refine (k_leaveBuilding ..).step (by decide) ?_
    | with_reducible refine (k_dlOp ..).step (by decide) ?_
    | with_reducible refine Keeps.ite ?_ ?_
    | split

/-- `alignTick` changes at most: out, wr, wclk, mer, tri, lanes, ports, dlinks, pair, mus. -/
theorem k_alignTick (s : State) : Keeps 1604760 s (State.alignTick s) := by
  unfold State.alignTick
  repeat' first
    | with_reducible exact Keeps.refl _ _
    | with_reducible assumption
    | (extract_lets +onlyGivenNames x; refine Keeps.cut (m := 1604760) (s := s) (u := x) ?_ ?_; rotate_left; all_goals first | (intro _; clear_value x) | subst x)
    | (extract_lets +onlyGivenNames x; clear_value x)
    | with_reducible refine (k_alignPort ..).step (by decide) ?_
    | with_reducible refine (k_alignMarks ..).step (by decide) ?_
    | with_reducible refine (k_alignTri ..).step (by decide) ?_
    | with_reducible refine (k_checkSplit ..).step (by decide) ?_
    | with_reducible refine (k_sendAnchor ..).step (by decide) ?_
    | with_reducible refine (k_modMer ..).step (by decide) ?_
    | with_reducible refine (k_modPair ..).step (by decide) ?_
    | with_reducible refine Keeps.ite ?_ ?_
    | with_reducible refine Keeps.foldl _ ?_ (fun _ _ _ => ?_)
    | split
    | with_reducible refine Keeps.upd_wclk ?_ (by decide)

end Sys2Proof.Machine
end

