-- ==== Sys2Proof/Laws/KeepsWnEnv.lean ====
section
/-! SUPPORT. What the operations of Machine/WnEnv.lean may change. -/

namespace Sys2Proof.Machine

open Sys2Proof

/-- `envNext` changes at most: wr, env. -/
theorem k_envNext (at' : Nat) (todo : List Nat) (s : State) : Keeps 536870928 s (State.envNext at' todo s) := by
  unfold State.envNext
  repeat' first
    | with_reducible exact Keeps.refl _ _
    | with_reducible assumption
    | with_reducible refine (k_modEnv ..).step (by decide) ?_
    | with_reducible refine (k_wsets ..).step (by decide) ?_
    | with_reducible refine (k_wset ..).step (by decide) ?_
    | split

/-- `envStart` changes at most: wr, env. -/
theorem k_envStart (at' : Nat) (s : State) : Keeps 536870928 s (State.envStart at' s) := by
  unfold State.envStart
  repeat' first
    | with_reducible exact Keeps.refl _ _
    | with_reducible assumption
    | (extract_lets +onlyGivenNames x; refine Keeps.cut (m := 536870928) (s := s) (u := x) ?_ ?_; rotate_left; all_goals first | (intro _; clear_value x) | subst x)
    | (extract_lets +onlyGivenNames x; clear_value x)
    | with_reducible refine (k_envNext ..).step (by decide) ?_
    | with_reducible refine (k_modEnv ..).step (by decide) ?_
    | with_reducible refine (k_wadd ..).step (by decide) ?_
    | with_reducible refine Keeps.ite ?_ ?_
    | split

/-- `envGo` changes at most: wr, env. -/
theorem k_envGo (s : State) : Keeps 536870928 s (State.envGo s) := by
  unfold State.envGo
  repeat' first
    | with_reducible exact Keeps.refl _ _
    | with_reducible assumption
    | with_reducible refine (k_envStart ..).step (by decide) ?_

/-- `writeEnvCtrl` changes at most: wr, env. -/
theorem k_writeEnvCtrl (v : Nat) (s : State) : Keeps 536870928 s (State.writeEnvCtrl v s) := by
  unfold State.writeEnvCtrl
  repeat' first
    | with_reducible exact Keeps.refl _ _
    | with_reducible assumption
    | (extract_lets +onlyGivenNames x; refine Keeps.cut (m := 536870928) (s := s) (u := x) ?_ ?_; rotate_left; all_goals first | (intro _; clear_value x) | subst x)
    | (extract_lets +onlyGivenNames x; clear_value x)
    | with_reducible refine (k_envGo ..).step (by decide) ?_
    | with_reducible refine (k_modEnv ..).step (by decide) ?_
    | with_reducible refine (k_wset ..).step (by decide) ?_
    | with_reducible refine Keeps.ite ?_ ?_
    | split

/-- `envTimer` changes at most: wr, env. -/
theorem k_envTimer (s : State) : Keeps 536870928 s (State.envTimer s) := by
  unfold State.envTimer
  repeat' first
    | with_reducible exact Keeps.refl _ _
    | with_reducible assumption
    | with_reducible refine (k_envStart ..).step (by decide) ?_
    | with_reducible refine (k_modEnv ..).step (by decide) ?_
    | with_reducible refine Keeps.ite ?_ ?_
    | split

/-- `envMark` changes at most: env. -/
theorem k_envMark (n : Nat) (f : Nat) (s : State) : Keeps 536870912 s (State.envMark n f s) := by
  unfold State.envMark
  repeat' first
    | with_reducible exact Keeps.refl _ _
    | with_reducible assumption
    | with_reducible refine (k_modEnv ..).step (by decide) ?_
    | with_reducible refine Keeps.ite ?_ ?_
    | split

/-- `envMarkAny` changes at most: env. -/
theorem k_envMarkAny (f : Nat) (s : State) : Keeps 536870912 s (State.envMarkAny f s) := by
  unfold State.envMarkAny
  repeat' first
    | with_reducible exact Keeps.refl _ _
    | with_reducible assumption
    | with_reducible refine (k_modEnv ..).step (by decide) ?_
    | split

/-- `envConvEnd` changes at most: wr, env. -/
theorem k_envConvEnd (vp : Nat) (vn : Nat) (s : State) : Keeps 536870928 s (State.envConvEnd vp vn s) := by
  unfold State.envConvEnd
  repeat' first
    | with_reducible exact Keeps.refl _ _
    | with_reducible assumption
    | (extract_lets +onlyGivenNames x; refine Keeps.cut (m := 536870928) (s := s) (u := x) ?_ ?_; rotate_left; all_goals first | (intro _; clear_value x) | subst x)
    | (extract_lets +onlyGivenNames x; clear_value x)
    | with_reducible refine (k_envNext ..).step (by decide) ?_
    | with_reducible refine (k_envShow ..).step (by decide) ?_
    | with_reducible refine (k_modEnv ..).step (by decide) ?_
    | with_reducible refine (k_wsets ..).step (by decide) ?_
    | with_reducible refine (k_wset ..).step (by decide) ?_
    | with_reducible refine Keeps.ite ?_ ?_
    | split

/-- `envRefWrite` changes at most: wr, env. -/
theorem k_envRefWrite (en : Bool) (s : State) : Keeps 536870928 s (State.envRefWrite en s) := by
  unfold State.envRefWrite
  repeat' first
    | with_reducible exact Keeps.refl _ _
    | with_reducible assumption
    | with_reducible refine (k_envMarkAny ..).step (by decide) ?_
    | with_reducible refine (k_modEnv ..).step (by decide) ?_
    | with_reducible refine (k_wsets ..).step (by decide) ?_
    | with_reducible refine (k_wset ..).step (by decide) ?_
    | with_reducible refine Keeps.ite ?_ ?_
    | split

/-- `envRefReady` changes at most: wr. -/
theorem k_envRefReady (s : State) : Keeps 16 s (State.envRefReady s) := by
  unfold State.envRefReady
  repeat' first
    | with_reducible exact Keeps.refl _ _
    | with_reducible assumption
    | with_reducible refine (k_wset ..).step (by decide) ?_
    | with_reducible refine Keeps.ite ?_ ?_
    | split

/-- `setEnvRamp` changes at most: wr, env. -/
theorem k_setEnvRamp (n : Nat) (v : Nat) (s : State) : Keeps 536870928 s (State.setEnvRamp n v s) := by
  unfold State.setEnvRamp
  repeat' first
    | with_reducible exact Keeps.refl _ _
    | with_reducible assumption
    | with_reducible refine (k_envMark ..).step (by decide) ?_
    | with_reducible refine (k_modEnv ..).step (by decide) ?_
    | with_reducible refine (k_wset ..).step (by decide) ?_
    | with_reducible refine Keeps.ite ?_ ?_
    | split

/-- `envRange` changes at most: wr, env. -/
theorem k_envRange (n : Nat) (r : Nat) (s : State) : Keeps 536870928 s (State.envRange n r s) := by
  unfold State.envRange
  repeat' first
    | with_reducible exact Keeps.refl _ _
    | with_reducible assumption
    | (extract_lets +onlyGivenNames x; refine Keeps.cut (m := 536870928) (s := s) (u := x) ?_ ?_; rotate_left; all_goals first | (intro _; clear_value x) | subst x)
    | (extract_lets +onlyGivenNames x; clear_value x)
    | with_reducible refine (k_setEnvRamp ..).step (by decide) ?_
    | with_reducible refine (k_wset ..).step (by decide) ?_
    | with_reducible refine Keeps.ite ?_ ?_
    | split

/-- `envSwitch` changes at most: wr, env. -/
theorem k_envSwitch (n : Nat) (s : State) : Keeps 536870928 s (State.envSwitch n s) := by
  unfold State.envSwitch
  repeat' first
    | with_reducible exact Keeps.refl _ _
    | with_reducible assumption
    | with_reducible refine (k_setEnvRamp ..).step (by decide) ?_
    | with_reducible refine Keeps.ite ?_ ?_
    | split

/-- `envRampEnd` changes at most: wr, env. -/
theorem k_envRampEnd (n : Nat) (s : State) : Keeps 536870928 s (State.envRampEnd n s) := by
  unfold State.envRampEnd
  repeat' first
    | with_reducible exact Keeps.refl _ _
    | with_reducible assumption
    | with_reducible refine (k_setEnvRamp ..).step (by decide) ?_
    | with_reducible refine Keeps.ite ?_ ?_
    | split

/-- `writeEnvCfg` changes at most: wr, env. -/
theorem k_writeEnvCfg (n : Nat) (v : Nat) (s : State) : Keeps 536870928 s (State.writeEnvCfg n v s) := by
  unfold State.writeEnvCfg
  repeat' first
    | with_reducible exact Keeps.refl _ _
    | with_reducible assumption
    | (extract_lets +onlyGivenNames x; refine Keeps.cut (m := 536870928) (s := s) (u := x) ?_ ?_; rotate_left; all_goals first | (intro _; clear_value x) | subst x)
    | (extract_lets +onlyGivenNames x; clear_value x)
    | with_reducible refine (k_envRange ..).step (by decide) ?_
    | with_reducible refine (k_setEnvRamp ..).step (by decide) ?_
    | with_reducible refine (k_envMark ..).step (by decide) ?_
    | with_reducible refine (k_envShow ..).step (by decide) ?_
    | with_reducible refine (k_wsets ..).step (by decide) ?_
    | with_reducible refine Keeps.ite ?_ ?_
    | split

/-- `envFed` changes at most: wr, env. -/
theorem k_envFed (n : Nat) (s : State) : Keeps 536870928 s (State.envFed n s) := by
  unfold State.envFed
  repeat' first
    | with_reducible exact Keeps.refl _ _
    | with_reducible assumption
    | with_reducible refine (k_setEnvRamp ..).step (by decide) ?_
    | with_reducible refine (k_envMark ..).step (by decide) ?_
    | with_reducible refine (k_envShow ..).step (by decide) ?_
    | with_reducible refine (k_wadd ..).step (by decide) ?_
    | with_reducible refine (k_wsets ..).step (by decide) ?_
    | with_reducible refine Keeps.ite ?_ ?_
    | split

/-- `envRetry` changes at most: wr, env. -/
theorem k_envRetry (n : Nat) (s : State) : Keeps 536870928 s (State.envRetry n s) := by
  unfold State.envRetry
  repeat' first
    | with_reducible exact Keeps.refl _ _
    | with_reducible assumption
    | (extract_lets +onlyGivenNames x; refine Keeps.cut (m := 536870928) (s := s) (u := x) ?_ ?_; rotate_left; all_goals first | (intro _; clear_value x) | subst x)
    | (extract_lets +onlyGivenNames x; clear_value x)
    | with_reducible refine (k_setEnvRamp ..).step (by decide) ?_
    | with_reducible refine (k_envShow ..).step (by decide) ?_
    | with_reducible refine (k_wset ..).step (by decide) ?_
    | with_reducible refine Keeps.ite ?_ ?_
    | split

/-- `envOpen` changes at most: wr, env. -/
theorem k_envOpen (n : Nat) (s : State) : Keeps 536870928 s (State.envOpen n s) := by
  unfold State.envOpen
  repeat' first
    | with_reducible exact Keeps.refl _ _
    | with_reducible assumption
    | with_reducible refine (k_envMark ..).step (by decide) ?_
    | with_reducible refine (k_envShow ..).step (by decide) ?_
    | with_reducible refine (k_wsets ..).step (by decide) ?_
    | with_reducible refine Keeps.ite ?_ ?_
    | split

/-- `envClamp` changes at most: wr, env. -/
theorem k_envClamp (n : Nat) (s : State) : Keeps 536870928 s (State.envClamp n s) := by
  unfold State.envClamp
  repeat' first
    | with_reducible exact Keeps.refl _ _
    | with_reducible assumption
    | with_reducible refine (k_envMark ..).step (by decide) ?_
    | with_reducible refine (k_modEnv ..).step (by decide) ?_
    | with_reducible refine (k_wadd ..).step (by decide) ?_
    | with_reducible refine (k_wset ..).step (by decide) ?_
    | with_reducible refine Keeps.ite ?_ ?_
    | split

/-- `envUnclamp` changes at most: env. -/
theorem k_envUnclamp (n : Nat) (s : State) : Keeps 536870912 s (State.envUnclamp n s) := by
  unfold State.envUnclamp
  repeat' first
    | with_reducible exact Keeps.refl _ _
    | with_reducible assumption
    | with_reducible refine (k_modEnv ..).step (by decide) ?_
    | with_reducible refine Keeps.ite ?_ ?_
    | split

/-- `envContend` changes at most: wr, env. -/
theorem k_envContend (a : Nat) (b : Nat) (s : State) : Keeps 536870928 s (State.envContend a b s) := by
  unfold State.envContend
  repeat' first
    | with_reducible exact Keeps.refl _ _
    | with_reducible assumption
    | with_reducible refine (k_envMark ..).step (by decide) ?_
    | with_reducible refine (k_envShow ..).step (by decide) ?_
    | with_reducible refine (k_wsets ..).step (by decide) ?_
    | with_reducible refine Keeps.ite ?_ ?_
    | split

/-- `ilWrite` changes at most: wr, env. -/
theorem k_ilWrite (agent : Nat) (k : Nat) (v : Nat) (s : State) : Keeps 536870928 s (State.ilWrite agent k v s) := by
  unfold State.ilWrite
  repeat' first
    | with_reducible exact Keeps.refl _ _
    | with_reducible assumption
    | (extract_lets +onlyGivenNames x; refine Keeps.cut (m := 536870928) (s := s) (u := x) ?_ ?_; rotate_left; all_goals first | (intro _; clear_value x) | subst x)
    | (extract_lets +onlyGivenNames x; clear_value x)
    | with_reducible refine (k_envShow ..).step (by decide) ?_
    | with_reducible refine (k_ilEval ..).step (by decide) ?_
    | with_reducible refine (k_wsets ..).step (by decide) ?_
    | with_reducible refine (k_wset ..).step (by decide) ?_
    | with_reducible refine Keeps.ite ?_ ?_
    | split

/-- `envKick` changes at most: wr, env. -/
theorem k_envKick (agent : Nat) (v : Nat) (s : State) : Keeps 536870928 s (State.envKick agent v s) := by
  unfold State.envKick
  repeat' first
    | with_reducible exact Keeps.refl _ _
    | with_reducible assumption
    | (extract_lets +onlyGivenNames x; refine Keeps.cut (m := 536870928) (s := s) (u := x) ?_ ?_; rotate_left; all_goals first | (intro _; clear_value x) | subst x)
    | (extract_lets +onlyGivenNames x; clear_value x)
    | with_reducible refine (k_envShow ..).step (by decide) ?_
    | with_reducible refine (k_modEnv ..).step (by decide) ?_
    | with_reducible refine (k_wset ..).step (by decide) ?_
    | with_reducible refine Keeps.ite ?_ ?_
    | split

end Sys2Proof.Machine
end

