-- ==== Sys2Proof/Laws/KeepsWnPwr.lean ====
section
/-! SUPPORT. What the operations of Machine/WnPwr.lean may change. -/

namespace Sys2Proof.Machine

open Sys2Proof

/-- `modPwr` changes at most: pwr. -/
theorem k_modPwr (f : Pwr → Pwr) (s : State) : Keeps 1073741824 s (State.modPwr f s) := by
  unfold State.modPwr
  repeat' first
    | with_reducible exact Keeps.refl _ _
    | with_reducible assumption
    | with_reducible refine Keeps.upd_pwr ?_ (by decide)

/-- `askReset` changes at most: sys. -/
theorem k_askReset (power : Bool) (cause : Nat) (s : State) : Keeps 134217728 s (State.askReset power cause s) := by
  unfold State.askReset
  repeat' first
    | with_reducible exact Keeps.refl _ _
    | with_reducible assumption
    | (extract_lets +onlyGivenNames x; refine Keeps.cut (m := 134217728) (s := s) (u := x) ?_ ?_; rotate_left; all_goals first | (intro _; clear_value x) | subst x)
    | (extract_lets +onlyGivenNames x; clear_value x)
    | with_reducible refine (k_modSys ..).step (by decide) ?_
    | with_reducible refine Keeps.ite ?_ ?_
    | split

/-- `resetWonan` changes at most: out, wr, wclk, mtime0, mem, mer, tri, lanes, ports, dlinks, sch, cores, queues, image, pair, mus, cmp, eth, mems, can, gov, sys, mbx, env, dbg, taps, held. -/
theorem k_resetWonan (r : Rst) (s : State) : Keeps 16089350040 s (s.resetWonan r) := by
  unfold State.resetWonan
  refine Keeps.foldl _ ?_ (fun _ _ h => (k_showSpares ..).step (by decide) h)
  refine (k_wset ..).step (by decide) ?_
  exact Keeps.part (fun p hp => by cases p <;> first | rfl | exact absurd hp (by decide))
    (.inr (Memory.wf_filter _)) (.inr fun _ => RegFile.sorted_sets _ rfl) (List.prefix_append _ _) (Nat.le_refl _)

/-- `resetAssert` changes at most: out, wr, wclk, mtime0, mem, mer, tri, lanes, ports, dlinks, sch, cores, queues, image, pair, mus, cmp, eth, mems, can, gov, sys, mbx, env, dbg, taps, held. -/
theorem k_resetAssert (s : State) : Keeps 16089350040 s (State.resetAssert s) := by
  unfold State.resetAssert
  repeat' first
    | with_reducible exact Keeps.refl _ _
    | with_reducible assumption
    | with_reducible refine (k_resetWonan ..).step (by decide) ?_
    | with_reducible refine Keeps.ite ?_ ?_
    | split

/-- `powerOff` changes at most: wr, sys, pwr. -/
theorem k_powerOff (cause : Nat) (s : State) : Keeps 1207959568 s (State.powerOff cause s) := by
  unfold State.powerOff
  repeat' first
    | with_reducible exact Keeps.refl _ _
    | with_reducible assumption
    | with_reducible refine (k_askReset ..).step (by decide) ?_
    | with_reducible refine (k_modPwr ..).step (by decide) ?_
    | with_reducible refine (k_wset ..).step (by decide) ?_

/-- `lockout` changes at most: wr, sys, pwr. -/
theorem k_lockout (cause : Nat) (s : State) : Keeps 1207959568 s (State.lockout cause s) := by
  unfold State.lockout
  repeat' first
    | with_reducible exact Keeps.refl _ _
    | with_reducible assumption
    | with_reducible refine (k_powerOff ..).step (by decide) ?_
    | with_reducible refine (k_wadd ..).step (by decide) ?_
    | with_reducible refine (k_wsets ..).step (by decide) ?_

/-- `powerFault` changes at most: wr, sys, pwr. -/
theorem k_powerFault (cause : Nat) (rail : Nat) (hot : Bool) (s : State) : Keeps 1207959568 s (State.powerFault cause rail hot s) := by
  unfold State.powerFault
  repeat' first
    | with_reducible exact Keeps.refl _ _
    | with_reducible assumption
    | (extract_lets +onlyGivenNames x; refine Keeps.cut (m := 1207959568) (s := s) (u := x) ?_ ?_; rotate_left; all_goals first | (intro _; clear_value x) | subst x)
    | (extract_lets +onlyGivenNames x; clear_value x)
    | with_reducible refine (k_powerOff ..).step (by decide) ?_
    | with_reducible refine (k_modPwr ..).step (by decide) ?_
    | with_reducible refine (k_wadd ..).step (by decide) ?_
    | with_reducible refine (k_wsets ..).step (by decide) ?_
    | with_reducible refine Keeps.ite ?_ ?_
    | split

/-- `uvloRelease` changes at most: sys, pwr. -/
theorem k_uvloRelease (s : State) : Keeps 1207959552 s (State.uvloRelease s) := by
  unfold State.uvloRelease
  repeat' first
    | with_reducible exact Keeps.refl _ _
    | with_reducible assumption
    | with_reducible refine (k_askReset ..).step (by decide) ?_
    | with_reducible refine (k_modPwr ..).step (by decide) ?_
    | with_reducible refine Keeps.ite ?_ ?_
    | split

/-- `uvloAssert` changes at most: wr, sys, pwr. -/
theorem k_uvloAssert (s : State) : Keeps 1207959568 s (State.uvloAssert s) := by
  unfold State.uvloAssert
  repeat' first
    | with_reducible exact Keeps.refl _ _
    | with_reducible assumption
    | with_reducible refine (k_lockout ..).step (by decide) ?_
    | with_reducible refine (k_modPwr ..).step (by decide) ?_
    | with_reducible refine Keeps.ite ?_ ?_
    | split

/-- `ovloAssert` changes at most: wr, sys, pwr. -/
theorem k_ovloAssert (s : State) : Keeps 1207959568 s (State.ovloAssert s) := by
  unfold State.ovloAssert
  repeat' first
    | with_reducible exact Keeps.refl _ _
    | with_reducible assumption
    | with_reducible refine (k_lockout ..).step (by decide) ?_
    | with_reducible refine (k_modPwr ..).step (by decide) ?_
    | with_reducible refine Keeps.ite ?_ ?_
    | split

/-- `ovloRelease` changes at most: freeCnt, sys, pwr. -/
theorem k_ovloRelease (s : State) : Keeps 1207959554 s (State.ovloRelease s) := by
  unfold State.ovloRelease
  repeat' first
    | with_reducible exact Keeps.refl _ _
    | with_reducible assumption
    | (extract_lets +onlyGivenNames x; refine Keeps.cut (m := 1207959554) (s := s) (u := x) ?_ ?_; rotate_left; all_goals first | (intro _; clear_value x) | subst x)
    | (extract_lets +onlyGivenNames x; clear_value x)
    | with_reducible refine (k_askReset ..).step (by decide) ?_
    | with_reducible refine (k_modPwr ..).step (by decide) ?_
    | with_reducible refine Keeps.ite ?_ ?_
    | split
    | with_reducible refine Keeps.ofSnd (by assumption) ?_
    | with_reducible refine (k_fresh ..).step (by decide) ?_
    | with_reducible dsimp only

/-- `vintGood` changes at most: pwr. -/
theorem k_vintGood (rise : Nat) (s : State) : Keeps 1073741824 s (State.vintGood rise s) := by
  unfold State.vintGood
  repeat' first
    | with_reducible exact Keeps.refl _ _
    | with_reducible assumption
    | with_reducible refine (k_modPwr ..).step (by decide) ?_
    | with_reducible refine Keeps.ite ?_ ?_
    | split

/-- `railStart` changes at most: pwr. -/
theorem k_railStart (rise : Nat) (s : State) : Keeps 1073741824 s (State.railStart rise s) := by
  unfold State.railStart
  repeat' first
    | with_reducible exact Keeps.refl _ _
    | with_reducible assumption
    | with_reducible refine (k_modPwr ..).step (by decide) ?_
    | with_reducible refine Keeps.ite ?_ ?_
    | split

/-- `pgRelease` changes at most: wr, pwr. -/
theorem k_pgRelease (s : State) : Keeps 1073741840 s (State.pgRelease s) := by
  unfold State.pgRelease
  repeat' first
    | with_reducible exact Keeps.refl _ _
    | with_reducible assumption
    | with_reducible refine (k_modPwr ..).step (by decide) ?_
    | with_reducible refine (k_wset ..).step (by decide) ?_
    | with_reducible refine Keeps.ite ?_ ?_
    | split

/-- `powerRestart` changes at most: sys, pwr. -/
theorem k_powerRestart (cool : Bool) (s : State) : Keeps 1207959552 s (State.powerRestart cool s) := by
  unfold State.powerRestart
  repeat' first
    | with_reducible exact Keeps.refl _ _
    | with_reducible assumption
    | with_reducible refine (k_askReset ..).step (by decide) ?_
    | with_reducible refine (k_modPwr ..).step (by decide) ?_
    | with_reducible refine Keeps.ite ?_ ?_
    | split

/-- `measure` changes at most: wr. -/
theorem k_measure (vin : Nat) (iin : Nat) (v : List Nat) (i : List Nat) (pdie : Nat) (cdie : Nat) (ok : Nat) (flags : Nat) (s : State) : Keeps 16 s (State.measure vin iin v i pdie cdie ok flags s) := by
  unfold State.measure
  repeat' first
    | with_reducible exact Keeps.refl _ _
    | with_reducible assumption
    | (extract_lets +onlyGivenNames x; refine Keeps.cut (m := 16) (s := s) (u := x) ?_ ?_; rotate_left; all_goals first | (intro _; clear_value x) | subst x)
    | (extract_lets +onlyGivenNames x; clear_value x)
    | with_reducible refine (k_wsets ..).step (by decide) ?_
    | with_reducible refine (k_wset ..).step (by decide) ?_
    | with_reducible refine Keeps.foldl _ ?_ (fun _ _ _ => ?_)

/-- `syncTimers` changes at most: sys. -/
theorem k_syncTimers (s : State) : Keeps 134217728 s (State.syncTimers s) := by
  unfold State.syncTimers
  repeat' first
    | with_reducible exact Keeps.refl _ _
    | with_reducible assumption
    | with_reducible refine (k_modSys ..).step (by decide) ?_
    | with_reducible refine Keeps.ite ?_ ?_
    | split

/-- `haltHart` changes at most: sch, cores, sys. -/
theorem k_haltHart (n : Nat) (cause : Nat) (s : State) : Keeps 134316032 s (State.haltHart n cause s) := by
  unfold State.haltHart
  repeat' first
    | with_reducible exact Keeps.refl _ _
    | with_reducible assumption
    | (extract_lets +onlyGivenNames x; refine Keeps.cut (m := 134316032) (s := s) (u := x) ?_ ?_; rotate_left; all_goals first | (intro _; clear_value x) | subst x)
    | (extract_lets +onlyGivenNames x; clear_value x)
    | with_reducible refine (k_syncTimers ..).step (by decide) ?_
    | with_reducible refine (k_unreserve ..).step (by decide) ?_
    | with_reducible refine (k_modCore ..).step (by decide) ?_
    | with_reducible refine Keeps.ite ?_ ?_
    | split

/-- `resumeHart` changes at most: cores, sys. -/
theorem k_resumeHart (n : Nat) (s : State) : Keeps 134283264 s (State.resumeHart n s) := by
  unfold State.resumeHart
  repeat' first
    | with_reducible exact Keeps.refl _ _
    | with_reducible assumption
    | with_reducible refine (k_syncTimers ..).step (by decide) ?_
    | with_reducible refine (k_msipStart ..).step (by decide) ?_
    | with_reducible refine (k_modCore ..).step (by decide) ?_
    | with_reducible refine Keeps.ite ?_ ?_
    | split

/-- `wdRestart` changes at most: sys. -/
theorem k_wdRestart (s : State) : Keeps 134217728 s (State.wdRestart s) := by
  unfold State.wdRestart
  repeat' first
    | with_reducible exact Keeps.refl _ _
    | with_reducible assumption
    | with_reducible refine (k_modSys ..).step (by decide) ?_
    | with_reducible refine Keeps.ite ?_ ?_
    | split

/-- `wdKick` changes at most: sys. -/
theorem k_wdKick (agent : Nat) (s : State) : Keeps 134217728 s (State.wdKick agent s) := by
  unfold State.wdKick
  repeat' first
    | with_reducible exact Keeps.refl _ _
    | with_reducible assumption
    | with_reducible refine (k_wdRestart ..).step (by decide) ?_
    | with_reducible refine (k_modSys ..).step (by decide) ?_
    | with_reducible refine Keeps.ite ?_ ?_
    | split

/-- `writeWdog` changes at most: wr, sys. -/
theorem k_writeWdog (agent : Nat) (v : Nat) (s : State) : Keeps 134217744 s (State.writeWdog agent v s) := by
  unfold State.writeWdog
  repeat' first
    | with_reducible exact Keeps.refl _ _
    | with_reducible assumption
    | (extract_lets +onlyGivenNames x; refine Keeps.cut (m := 134217744) (s := s) (u := x) ?_ ?_; rotate_left; all_goals first | (intro _; clear_value x) | subst x)
    | (extract_lets +onlyGivenNames x; clear_value x)
    | with_reducible refine (k_wdKick ..).step (by decide) ?_
    | with_reducible refine (k_syncTimers ..).step (by decide) ?_
    | with_reducible refine (k_wsets ..).step (by decide) ?_
    | with_reducible refine (k_wset ..).step (by decide) ?_
    | with_reducible refine Keeps.ite ?_ ?_
    | split

/-- `enterFatal` changes at most: out, wr, ports, dlinks, pair, mus, cmp, eth, can, gov, sys, env. -/
theorem k_enterFatal (source : Nat) (s : State) : Keeps 779640856 s (State.enterFatal source s) := by
  unfold State.enterFatal
  repeat' first
    | with_reducible exact Keeps.refl _ _
    | with_reducible assumption
    | (extract_lets +onlyGivenNames x; refine Keeps.cut (m := 779640856) (s := s) (u := x) ?_ ?_; rotate_left; all_goals first | (intro _; clear_value x) | subst x)
    | (extract_lets +onlyGivenNames x; clear_value x)
    | with_reducible refine (k_syncTimers ..).step (by decide) ?_
    | with_reducible refine (k_leaveRun ..).step (by decide) ?_
    | with_reducible refine (k_modSys ..).step (by decide) ?_
    | with_reducible refine (k_claimNow ..).step (by decide) ?_
    | with_reducible refine (k_portsStop ..).step (by decide) ?_
    | with_reducible refine (k_setWs ..).step (by decide) ?_
    | with_reducible refine (k_wset ..).step (by decide) ?_
    | with_reducible refine Keeps.ite ?_ ?_
    | split

/-- `fatalEnter` changes at most: out, wr, ports, dlinks, pair, mus, cmp, eth, can, gov, sys, env. -/
theorem k_fatalEnter (agent : Nat) (code : Nat) (s : State) : Keeps 779640856 s (State.fatalEnter agent code s) := by
  unfold State.fatalEnter
  repeat' first
    | with_reducible exact Keeps.refl _ _
    | with_reducible assumption
    | (extract_lets +onlyGivenNames x; refine Keeps.cut (m := 779640856) (s := s) (u := x) ?_ ?_; rotate_left; all_goals first | (intro _; clear_value x) | subst x)
    | (extract_lets +onlyGivenNames x; clear_value x)
    | with_reducible refine (k_enterFatal ..).step (by decide) ?_
    | with_reducible refine (k_wset ..).step (by decide) ?_
    | with_reducible refine Keeps.ite ?_ ?_
    | split

/-- `wdExpiry` changes at most: out, wr, ports, dlinks, pair, mus, cmp, eth, can, gov, sys, env. -/
theorem k_wdExpiry (s : State) : Keeps 779640856 s (State.wdExpiry s) := by
  unfold State.wdExpiry
  repeat' first
    | with_reducible exact Keeps.refl _ _
    | with_reducible assumption
    | (extract_lets +onlyGivenNames x; refine Keeps.cut (m := 779640856) (s := s) (u := x) ?_ ?_; rotate_left; all_goals first | (intro _; clear_value x) | subst x)
    | (extract_lets +onlyGivenNames x; clear_value x)
    | with_reducible refine (k_enterFatal ..).step (by decide) ?_
    | with_reducible refine (k_wdRestart ..).step (by decide) ?_
    | with_reducible refine (k_askReset ..).step (by decide) ?_
    | with_reducible refine (k_modSys ..).step (by decide) ?_
    | with_reducible refine (k_wset ..).step (by decide) ?_
    | with_reducible refine Keeps.ite ?_ ?_
    | split

/-- `fatalTimer` changes at most: sys. -/
theorem k_fatalTimer (s : State) : Keeps 134217728 s (State.fatalTimer s) := by
  unfold State.fatalTimer
  repeat' first
    | with_reducible exact Keeps.refl _ _
    | with_reducible assumption
    | (extract_lets +onlyGivenNames x; refine Keeps.cut (m := 134217728) (s := s) (u := x) ?_ ?_; rotate_left; all_goals first | (intro _; clear_value x) | subst x)
    | (extract_lets +onlyGivenNames x; clear_value x)
    | with_reducible refine (k_askReset ..).step (by decide) ?_
    | with_reducible refine Keeps.ite ?_ ?_
    | split

/-- `fatalRunClear` changes at most: wr. -/
theorem k_fatalRunClear (s : State) : Keeps 16 s (State.fatalRunClear s) := by
  unfold State.fatalRunClear
  repeat' first
    | with_reducible exact Keeps.refl _ _
    | with_reducible assumption
    | with_reducible refine (k_wset ..).step (by decide) ?_
    | with_reducible refine Keeps.ite ?_ ?_
    | split

/-- `writeReset` changes at most: sys. -/
theorem k_writeReset (agent : Nat) (v : Nat) (s : State) : Keeps 134217728 s (State.writeReset agent v s) := by
  unfold State.writeReset
  repeat' first
    | with_reducible exact Keeps.refl _ _
    | with_reducible assumption
    | (extract_lets +onlyGivenNames x; refine Keeps.cut (m := 134217728) (s := s) (u := x) ?_ ?_; rotate_left; all_goals first | (intro _; clear_value x) | subst x)
    | (extract_lets +onlyGivenNames x; clear_value x)
    | with_reducible refine (k_askReset ..).step (by decide) ?_
    | with_reducible refine Keeps.ite ?_ ?_
    | split

/-- `testStart` changes at most: out, wr, mtime0, sch, queues, can, sys, env. -/
theorem k_testStart (s : State) : Keeps 704807192 s (State.testStart s) := by
  unfold State.testStart
  repeat' first
    | with_reducible exact Keeps.refl _ _
    | with_reducible assumption
    | (extract_lets +onlyGivenNames x; refine Keeps.cut (m := 704807192) (s := s) (u := x) ?_ ?_; rotate_left; all_goals first | (intro _; clear_value x) | subst x)
    | (extract_lets +onlyGivenNames x; clear_value x)
    | with_reducible refine (k_modSys ..).step (by decide) ?_
    | with_reducible refine (k_queuesStage ..).step (by decide) ?_
    | with_reducible refine (k_setWs ..).step (by decide) ?_
    | with_reducible refine (k_wset ..).step (by decide) ?_
    | with_reducible refine Keeps.ite ?_ ?_
    | split
    | with_reducible refine Keeps.upd_mtime0 ?_ (by decide)

/-- `marchWord` changes at most: wr, mems. -/
theorem k_marchWord (s : State) (key : Nat) : Keeps 8388624 s (State.marchWord s key) := by
  unfold State.marchWord
  repeat' first
    | with_reducible exact Keeps.refl _ _
    | with_reducible assumption
    | (extract_lets +onlyGivenNames x; refine Keeps.cut (m := 8388624) (s := s) (u := x) ?_ ?_; rotate_left; all_goals first | (intro _; clear_value x) | subst x)
    | (extract_lets +onlyGivenNames x; clear_value x)
    | with_reducible refine (k_wsets ..).step (by decide) ?_
    | with_reducible refine Keeps.ite ?_ ?_
    | split
    | with_reducible refine Keeps.ofSnd (by assumption) ?_
    | with_reducible refine (k_remap ..).step (by decide) ?_
    | with_reducible dsimp only

/-- `marchSpare` changes at most: wr, mems. -/
theorem k_marchSpare (s : State) (key : Nat) : Keeps 8388624 s (State.marchSpare s key) := by
  unfold State.marchSpare
  repeat' first
    | with_reducible exact Keeps.refl _ _
    | with_reducible assumption
    | (extract_lets +onlyGivenNames x; refine Keeps.cut (m := 8388624) (s := s) (u := x) ?_ ?_; rotate_left; all_goals first | (intro _; clear_value x) | subst x)
    | (extract_lets +onlyGivenNames x; clear_value x)
    | with_reducible refine (k_showSpares ..).step (by decide) ?_
    | with_reducible refine (k_modMems ..).step (by decide) ?_
    | with_reducible refine Keeps.ite ?_ ?_
    | split
    | with_reducible refine Keeps.ofSnd (by assumption) ?_
    | with_reducible refine (k_remap ..).step (by decide) ?_
    | with_reducible dsimp only

/-- `readPass` changes at most: wr, mem, mems. -/
theorem k_readPass (s : State) : Keeps 8389136 s (State.readPass s) := by
  unfold State.readPass
  repeat' first
    | with_reducible exact Keeps.refl _ _
    | with_reducible assumption
    | with_reducible refine Keeps.foldl _ ?_ (fun _ _ _ => ?_)
    | with_reducible refine Keeps.ofThd (by assumption) ?_
    | with_reducible refine (k_readWord ..).step (by decide) ?_
    | with_reducible dsimp only

/-- `selfTest` changes at most: wr, mem, mems, sys. -/
theorem k_selfTest (words : List Nat) (spares : List Nat) (checks : Nat) (queues : Nat) (engs : Nat) (counts : List Nat) (s : State) : Keeps 142606864 s (State.selfTest words spares checks queues engs counts s) := by
  unfold State.selfTest
  repeat' first
    | with_reducible exact Keeps.refl _ _
    | with_reducible assumption
    | (extract_lets +onlyGivenNames x; refine Keeps.cut (m := 142606864) (s := s) (u := x) ?_ ?_; rotate_left; all_goals first | (intro _; clear_value x) | subst x)
    | (extract_lets +onlyGivenNames x; clear_value x)
    | with_reducible refine (k_readPass ..).step (by decide) ?_
    | with_reducible refine (k_marchSpare ..).step (by decide) ?_
    | with_reducible refine (k_marchWord ..).step (by decide) ?_
    | with_reducible refine (k_modSys ..).step (by decide) ?_
    | with_reducible refine (k_engFault ..).step (by decide) ?_
    | with_reducible refine (k_wsets ..).step (by decide) ?_
    | with_reducible refine (k_wset ..).step (by decide) ?_
    | with_reducible refine Keeps.ite ?_ ?_
    | with_reducible refine Keeps.foldl _ ?_ (fun _ _ _ => ?_)
    | split

/-- `bootRom` changes at most: sch, cores, sys. -/
theorem k_bootRom (s : State) : Keeps 134316032 s (State.bootRom s) := by
  unfold State.bootRom
  repeat' first
    | with_reducible exact Keeps.refl _ _
    | with_reducible assumption
    | with_reducible refine (k_haltHart ..).step (by decide) ?_
    | with_reducible refine (k_modSys ..).step (by decide) ?_
    | with_reducible refine Keeps.foldl _ ?_ (fun _ _ _ => ?_)

/-- `loftCheck` changes at most: wr. -/
theorem k_loftCheck (s : State) : Keeps 16 s (State.loftCheck s) := by
  unfold State.loftCheck
  repeat' first
    | with_reducible exact Keeps.refl _ _
    | with_reducible assumption
    | with_reducible refine (k_wsets ..).step (by decide) ?_
    | with_reducible refine Keeps.ite ?_ ?_
    | split

/-- `copyCode` changes at most: mem, mems. -/
theorem k_copyCode (code : List Nat) (s : State) : Keeps 8389120 s (State.copyCode code s) := by
  unfold State.copyCode
  repeat' first
    | with_reducible exact Keeps.refl _ _
    | with_reducible assumption
    | with_reducible refine (k_modMems ..).step (by decide) ?_
    | with_reducible refine (k_setBytes ..).step (by decide) ?_
    | split

/-- `enterFw` changes at most: wr, cores, sys. -/
theorem k_enterFw (k : Nat) (s : State) : Keeps 134283280 s (State.enterFw k s) := by
  unfold State.enterFw
  repeat' first
    | with_reducible exact Keeps.refl _ _
    | with_reducible assumption
    | (extract_lets +onlyGivenNames x; refine Keeps.cut (m := 134283280) (s := s) (u := x) ?_ ?_; rotate_left; all_goals first | (intro _; clear_value x) | subst x)
    | (extract_lets +onlyGivenNames x; clear_value x)
    | with_reducible refine (k_wdRestart ..).step (by decide) ?_
    | with_reducible refine (k_modSys ..).step (by decide) ?_
    | with_reducible refine (k_modCore ..).step (by decide) ?_
    | with_reducible refine (k_wset ..).step (by decide) ?_

/-- `tryFw` changes at most: wr, mem, cores, mems, sys. -/
theorem k_tryFw (ok : List Bool) (x1 : List Nat) (s : State) : Keeps 142672400 s (State.tryFw ok x1 s) := by
  induction x1 generalizing s with
  | nil =>
    unfold State.tryFw
    repeat' first
      | with_reducible exact Keeps.refl _ _
      | with_reducible assumption
      | with_reducible refine (k_enterFw ..).step (by decide) ?_
      | with_reducible refine (k_copyCode ..).step (by decide) ?_
      | with_reducible refine (k_wset ..).step (by decide) ?_
      | with_reducible refine Keeps.ite ?_ ?_
      | split
      | with_reducible dsimp only
  | cons e l ih =>
    unfold State.tryFw
    repeat' first
      | with_reducible exact Keeps.refl _ _
      | with_reducible assumption
      | with_reducible refine (k_enterFw ..).step (by decide) ?_
      | with_reducible refine (k_copyCode ..).step (by decide) ?_
      | with_reducible refine (ih ..).step (by decide) ?_
      | with_reducible refine (k_wset ..).step (by decide) ?_
      | with_reducible refine Keeps.ite ?_ ?_
      | split
      | with_reducible dsimp only

/-- `firmware` changes at most: wr, mem, cores, mems, sys. -/
theorem k_firmware (ok0 : Bool) (ok1 : Bool) (s : State) : Keeps 142672400 s (State.firmware ok0 ok1 s) := by
  unfold State.firmware
  repeat' first
    | with_reducible exact Keeps.refl _ _
    | with_reducible assumption
    | (extract_lets +onlyGivenNames x; refine Keeps.cut (m := 142672400) (s := s) (u := x) ?_ ?_; rotate_left; all_goals first | (intro _; clear_value x) | subst x)
    | (extract_lets +onlyGivenNames x; clear_value x)
    | with_reducible refine (k_tryFw ..).step (by decide) ?_
    | with_reducible refine (k_modSys ..).step (by decide) ?_
    | with_reducible refine Keeps.ite ?_ ?_
    | split

/-- `canBoot` changes at most: out, wr, can. -/
theorem k_canBoot (s : State) : Keeps 33554456 s (State.canBoot s) := by
  unfold State.canBoot
  repeat' first
    | with_reducible exact Keeps.refl _ _
    | with_reducible assumption
    | (extract_lets +onlyGivenNames x; refine Keeps.cut (m := 33554456) (s := s) (u := x) ?_ ?_; rotate_left; all_goals first | (intro _; clear_value x) | subst x)
    | (extract_lets +onlyGivenNames x; clear_value x)
    | with_reducible refine (k_modCan ..).step (by decide) ?_
    | with_reducible refine (k_emitPin ..).step (by decide) ?_
    | with_reducible refine (k_wsets ..).step (by decide) ?_
    | with_reducible refine Keeps.ite ?_ ?_
    | split

/-- `testEnd` changes at most: out, wr, ports, dlinks, sch, cores, queues, pair, mus, cmp, eth, mems, can, gov, sys, env. -/
theorem k_testEnd (s : State) : Keeps 788258840 s (State.testEnd s) := by
  unfold State.testEnd
  repeat' first
    | with_reducible exact Keeps.refl _ _
    | with_reducible assumption
    | (extract_lets +onlyGivenNames x; refine Keeps.cut (m := 788258840) (s := s) (u := x) ?_ ?_; rotate_left; all_goals first | (intro _; clear_value x) | subst x)
    | (extract_lets +onlyGivenNames x; clear_value x)
    | with_reducible refine (k_canBoot ..).step (by decide) ?_
    | with_reducible refine (k_loftCheck ..).step (by decide) ?_
    | with_reducible refine (k_bootRom ..).step (by decide) ?_
    | with_reducible refine (k_enterFatal ..).step (by decide) ?_
    | with_reducible refine (k_selectImage ..).step (by decide) ?_
    | with_reducible refine (k_modSys ..).step (by decide) ?_
    | with_reducible refine (k_modGov ..).step (by decide) ?_
    | with_reducible refine (k_claimNow ..).step (by decide) ?_
    | with_reducible refine (k_queuesStage ..).step (by decide) ?_
    | with_reducible refine (k_setWs ..).step (by decide) ?_
    | with_reducible refine (k_memClear ..).step (by decide) ?_
    | with_reducible refine (k_wsets ..).step (by decide) ?_
    | with_reducible refine Keeps.ite ?_ ?_
    | split

end Sys2Proof.Machine
end

