-- ==== Sys2Proof/Laws/KeepsWnAlarm.lean ====
section
/-! SUPPORT. What the operations of Machine/WnAlarm.lean may change. -/

namespace Sys2Proof.Machine

open Sys2Proof

/-- `almAct` changes at most: out, wr, ports, dlinks, sch, pair, env. -/
theorem k_almAct (n : Nat) (s : State) : Keeps 537452568 s (State.almAct n s) := by
  unfold State.almAct
  repeat' first
    | with_reducible exact Keeps.refl _ _
    | with_reducible assumption
    | (extract_lets +onlyGivenNames x; refine Keeps.cut (m := 537452568) (s := s) (u := x) ?_ ?_; rotate_left; all_goals first | (intro _; clear_value x) | subst x)
    | (extract_lets +onlyGivenNames x; clear_value x)
    | with_reducible refine (k_envStart ..).step (by decide) ?_
    | with_reducible refine (k_sendEpoch ..).step (by decide) ?_
    | with_reducible refine (k_setFlag ..).step (by decide) ?_
    | with_reducible refine (k_dlOp ..).step (by decide) ?_
    | with_reducible refine Keeps.ite ?_ ?_
    | with_reducible refine Keeps.foldl _ ?_ (fun _ _ _ => ?_)
    | split

/-- `setTarget` changes at most: wr, mer. -/
theorem k_setTarget (n : Nat) (t : Nat) (s : State) : Keeps 1040 s (State.setTarget n t s) := by
  unfold State.setTarget
  repeat' first
    | with_reducible exact Keeps.refl _ _
    | with_reducible assumption
    | (extract_lets +onlyGivenNames x; refine Keeps.cut (m := 1040) (s := s) (u := x) ?_ ?_; rotate_left; all_goals first | (intro _; clear_value x) | subst x)
    | (extract_lets +onlyGivenNames x; clear_value x)
    | with_reducible refine (k_modMer ..).step (by decide) ?_
    | with_reducible refine (k_wsets ..).step (by decide) ?_
    | with_reducible refine Keeps.ite ?_ ?_
    | split

/-- `rearm` changes at most: wr, mer. -/
theorem k_rearm (n : Nat) (late : Bool) (s : State) : Keeps 1040 s (State.rearm n late s) := by
  unfold State.rearm
  repeat' first
    | with_reducible exact Keeps.refl _ _
    | with_reducible assumption
    | (extract_lets +onlyGivenNames x; refine Keeps.cut (m := 1040) (s := s) (u := x) ?_ ?_; rotate_left; all_goals first | (intro _; clear_value x) | subst x)
    | (extract_lets +onlyGivenNames x; clear_value x)
    | with_reducible refine (k_setTarget ..).step (by decide) ?_
    | with_reducible refine (k_wset ..).step (by decide) ?_
    | with_reducible refine Keeps.ite ?_ ?_
    | split

/-- `fireAlarm` changes at most: out, wr, mer, ports, dlinks, sch, pair, env. -/
theorem k_fireAlarm (n : Nat) (s : State) : Keeps 537453592 s (State.fireAlarm n s) := by
  unfold State.fireAlarm
  repeat' first
    | with_reducible exact Keeps.refl _ _
    | with_reducible assumption
    | (extract_lets +onlyGivenNames x; refine Keeps.cut (m := 537453592) (s := s) (u := x) ?_ ?_; rotate_left; all_goals first | (intro _; clear_value x) | subst x)
    | (extract_lets +onlyGivenNames x; clear_value x)
    | with_reducible refine (k_rearm ..).step (by decide) ?_
    | with_reducible refine (k_almAct ..).step (by decide) ?_
    | with_reducible refine (k_setLate ..).step (by decide) ?_
    | with_reducible refine (k_wsets ..).step (by decide) ?_
    | with_reducible refine Keeps.ite ?_ ?_
    | split

end Sys2Proof.Machine
end

