-- ==== Sys2Proof/Laws/KeepsWnBus.lean ====
section
/-! SUPPORT. What the operations of Machine/WnBus.lean may change. -/

namespace Sys2Proof.Machine

open Sys2Proof

/-- A command that answers a next state. -/
theorem Keeps.next {m : Nat} {s d t : State} (h : Keeps m s t) : Keeps m s (stateOf d (.next t)) := h

/-- What a command keeps, of the state it answers. -/
theorem Keeps.ofNext {m : Nat} {s t : State} {r : Res} (e : r = .next t) (h : Keeps m s (stateOf s r)) : Keeps m s t := by
  subst e; exact h

/-- `execSchTraceMarkWrite` changes at most: wr, sch. -/
theorem k_execSchTraceMarkWrite (agent : Nat) (value : Nat) (s : State) : Keeps 32784 s (stateOf s (execSchTraceMarkWrite agent value s)) := by
  unfold execSchTraceMarkWrite
  repeat' first
    | with_reducible refine Keeps.next ?_
    | with_reducible exact Keeps.refl _ _
    | with_reducible assumption
    | with_reducible refine (k_traceEntry ..).step (by decide) ?_
    | with_reducible refine Keeps.ite ?_ ?_
    | split

/-- `execQWtagWrite` changes at most: out, wr, sch, queues, can. -/
theorem k_execQWtagWrite (n : Nat) (value : Nat) (s : State) : Keeps 33718296 s (stateOf s (execQWtagWrite n value s)) := by
  unfold execQWtagWrite
  repeat' first
    | with_reducible refine Keeps.next ?_
    | with_reducible exact Keeps.refl _ _
    | with_reducible assumption
    | with_reducible refine (k_offer ..).step (by decide) ?_
    | with_reducible refine Keeps.ite ?_ ?_
    | split

/-- `execMusViewSelWrite` changes at most: wr, mus. -/
theorem k_execMusViewSelWrite (lo : Bool) (value : Nat) (s : State) : Keeps 1048592 s (stateOf s (execMusViewSelWrite lo value s)) := by
  unfold execMusViewSelWrite
  repeat' first
    | with_reducible refine Keeps.next ?_
    | with_reducible exact Keeps.refl _ _
    | with_reducible assumption
    | with_reducible refine (k_modMus ..).step (by decide) ?_
    | with_reducible refine (k_wstore ..).step (by decide) ?_
    | with_reducible refine Keeps.ite ?_ ?_
    | split

/-- `execIngLaneClear` changes at most: wr, lanes, dlinks, mus. -/
theorem k_execIngLaneClear (lane : Nat) (s : State) : Keeps 1069072 s (stateOf s (execIngLaneClear lane s)) := by
  unfold execIngLaneClear
  repeat' first
    | with_reducible refine Keeps.next ?_
    | with_reducible exact Keeps.refl _ _
    | with_reducible assumption
    | (extract_lets +onlyGivenNames x; refine Keeps.cut (m := 1069072) (s := s) (u := x) ?_ ?_; rotate_left; all_goals first | (intro _; clear_value x) | subst x)
    | (extract_lets +onlyGivenNames x; clear_value x)
    | with_reducible refine (k_laneDrop ..).step (by decide) ?_
    | with_reducible refine (k_relink ..).step (by decide) ?_
    | with_reducible refine (k_wset ..).step (by decide) ?_
    | with_reducible refine Keeps.ite ?_ ?_
    | split

/-- `execPortAttachWrite` changes at most: wr, ports, dlinks. -/
theorem k_execPortAttachWrite (port : Nat) (s : State) : Keeps 24592 s (stateOf s (execPortAttachWrite port s)) := by
  unfold execPortAttachWrite
  repeat' first
    | with_reducible refine Keeps.next ?_
    | with_reducible exact Keeps.refl _ _
    | with_reducible assumption
    | with_reducible refine (k_attachWrite ..).step (by decide) ?_
    | with_reducible refine Keeps.ite ?_ ?_
    | split

/-- `execPortDetachWrite` changes at most: wr, ports, dlinks, mus. -/
theorem k_execPortDetachWrite (port : Nat) (s : State) : Keeps 1073168 s (stateOf s (execPortDetachWrite port s)) := by
  unfold execPortDetachWrite
  repeat' first
    | with_reducible refine Keeps.next ?_
    | with_reducible exact Keeps.refl _ _
    | with_reducible assumption
    | with_reducible refine (k_detach ..).step (by decide) ?_
    | with_reducible refine Keeps.ite ?_ ?_
    | split

/-- `execCmpReenable` changes at most: wr. -/
theorem k_execCmpReenable (engine : Nat) (s : State) : Keeps 16 s (stateOf s (execCmpReenable engine s)) := by
  unfold execCmpReenable
  repeat' first
    | with_reducible refine Keeps.next ?_
    | with_reducible exact Keeps.refl _ _
    | with_reducible assumption
    | with_reducible refine (k_setEng ..).step (by decide) ?_
    | with_reducible refine Keeps.ite ?_ ?_
    | with_reducible refine Keeps.getD (fun _ _ => ?_) ?_
    | split

/-- `execFenceWrite` changes at most: wr. -/
theorem k_execFenceWrite (agent : Nat) (row : Nat) (reg : Nat) (value : Nat) (s : State) : Keeps 16 s (stateOf s (execFenceWrite agent row reg value s)) := by
  unfold execFenceWrite
  repeat' first
    | with_reducible refine Keeps.next ?_
    | with_reducible exact Keeps.refl _ _
    | with_reducible assumption
    | (extract_lets +onlyGivenNames x; refine Keeps.cut (m := 16) (s := s) (u := x) ?_ ?_; rotate_left; all_goals first | (intro _; clear_value x) | subst x)
    | (extract_lets +onlyGivenNames x; clear_value x)
    | with_reducible refine (k_wstore ..).step (by decide) ?_
    | with_reducible refine (k_wset ..).step (by decide) ?_
    | with_reducible refine Keeps.ite ?_ ?_
    | split

/-- `showCap` changes at most: wr. -/
theorem k_showCap (s : State) : Keeps 16 s (State.showCap s) := by
  unfold State.showCap
  repeat' first
    | with_reducible exact Keeps.refl _ _
    | with_reducible assumption
    | with_reducible refine (k_wsets ..).step (by decide) ?_

/-- `showQCfg` changes at most: wr. -/
theorem k_showQCfg (n : Nat) (s : State) : Keeps 16 s (State.showQCfg n s) := by
  unfold State.showQCfg
  repeat' first
    | with_reducible exact Keeps.refl _ _
    | with_reducible assumption
    | (extract_lets +onlyGivenNames x; refine Keeps.cut (m := 16) (s := s) (u := x) ?_ ?_; rotate_left; all_goals first | (intro _; clear_value x) | subst x)
    | (extract_lets +onlyGivenNames x; clear_value x)
    | with_reducible refine (k_wsets ..).step (by decide) ?_
    | split
    | with_reducible dsimp only

/-- `showCopies` changes at most: wr. -/
theorem k_showCopies (s : State) : Keeps 16 s (State.showCopies s) := by
  unfold State.showCopies
  repeat' first
    | with_reducible exact Keeps.refl _ _
    | with_reducible assumption
    | (extract_lets +onlyGivenNames x; refine Keeps.cut (m := 16) (s := s) (u := x) ?_ ?_; rotate_left; all_goals first | (intro _; clear_value x) | subst x)
    | (extract_lets +onlyGivenNames x; clear_value x)
    | with_reducible refine (k_wsets ..).step (by decide) ?_
    | with_reducible refine Keeps.ite ?_ ?_
    | split

/-- `showCore` changes at most: wr. -/
theorem k_showCore (n : Nat) (s : State) : Keeps 16 s (State.showCore n s) := by
  unfold State.showCore
  repeat' first
    | with_reducible exact Keeps.refl _ _
    | with_reducible assumption
    | (extract_lets +onlyGivenNames x; refine Keeps.cut (m := 16) (s := s) (u := x) ?_ ?_; rotate_left; all_goals first | (intro _; clear_value x) | subst x)
    | (extract_lets +onlyGivenNames x; clear_value x)
    | with_reducible refine (k_wsets ..).step (by decide) ?_
    | with_reducible refine Keeps.ite ?_ ?_
    | split

/-- `showTask` changes at most: wr. -/
theorem k_showTask (t : Nat) (s : State) : Keeps 16 s (State.showTask t s) := by
  unfold State.showTask
  repeat' first
    | with_reducible exact Keeps.refl _ _
    | with_reducible assumption
    | (extract_lets +onlyGivenNames x; refine Keeps.cut (m := 16) (s := s) (u := x) ?_ ?_; rotate_left; all_goals first | (intro _; clear_value x) | subst x)
    | (extract_lets +onlyGivenNames x; clear_value x)
    | with_reducible refine (k_wsets ..).step (by decide) ?_

/-- `showTime` changes at most: wr. -/
theorem k_showTime (s : State) : Keeps 16 s (State.showTime s) := by
  unfold State.showTime
  repeat' first
    | with_reducible exact Keeps.refl _ _
    | with_reducible assumption
    | (extract_lets +onlyGivenNames x; refine Keeps.cut (m := 16) (s := s) (u := x) ?_ ?_; rotate_left; all_goals first | (intro _; clear_value x) | subst x)
    | (extract_lets +onlyGivenNames x; clear_value x)
    | with_reducible refine (k_wsets ..).step (by decide) ?_

/-- `showPps` changes at most: wr. -/
theorem k_showPps (s : State) : Keeps 16 s (State.showPps s) := by
  unfold State.showPps
  repeat' first
    | with_reducible exact Keeps.refl _ _
    | with_reducible assumption
    | (extract_lets +onlyGivenNames x; refine Keeps.cut (m := 16) (s := s) (u := x) ?_ ?_; rotate_left; all_goals first | (intro _; clear_value x) | subst x)
    | (extract_lets +onlyGivenNames x; clear_value x)
    | with_reducible refine (k_wsets ..).step (by decide) ?_

/-- `showRate` changes at most: wr. -/
theorem k_showRate (s : State) : Keeps 16 s (State.showRate s) := by
  unfold State.showRate
  repeat' first
    | with_reducible exact Keeps.refl _ _
    | with_reducible assumption
    | (extract_lets +onlyGivenNames x; refine Keeps.cut (m := 16) (s := s) (u := x) ?_ ?_; rotate_left; all_goals first | (intro _; clear_value x) | subst x)
    | (extract_lets +onlyGivenNames x; clear_value x)
    | with_reducible refine (k_wsets ..).step (by decide) ?_

/-- `showLine` changes at most: freeCnt, wr. -/
theorem k_showLine (k : Nat) (s : State) : Keeps 18 s (State.showLine k s) := by
  unfold State.showLine
  repeat' first
    | with_reducible exact Keeps.refl _ _
    | with_reducible assumption
    | (extract_lets +onlyGivenNames x; refine Keeps.cut (m := 18) (s := s) (u := x) ?_ ?_; rotate_left; all_goals first | (intro _; clear_value x) | subst x)
    | (extract_lets +onlyGivenNames x; clear_value x)
    | with_reducible refine (k_wset ..).step (by decide) ?_
    | with_reducible refine Keeps.ite ?_ ?_
    | split
    | with_reducible refine Keeps.ofSnd (by assumption) ?_
    | with_reducible refine (k_fresh ..).step (by decide) ?_
    | with_reducible dsimp only

/-- `showDbg` changes at most: wr. -/
theorem k_showDbg (s : State) : Keeps 16 s (State.showDbg s) := by
  unfold State.showDbg
  repeat' first
    | with_reducible exact Keeps.refl _ _
    | with_reducible assumption
    | with_reducible refine (k_wsets ..).step (by decide) ?_
    | with_reducible refine Keeps.foldl _ ?_ (fun _ _ _ => ?_)

/-- `refresh` changes at most: freeCnt, out, wr, mer, sch, queues, mus, can. -/
theorem k_refresh (a : Nat) (err : Nat) (s : State) : Keeps 34767898 s (State.refresh a err s) := by
  unfold State.refresh
  repeat' first
    | with_reducible exact Keeps.refl _ _
    | with_reducible assumption
    | with_reducible refine (k_showDbg ..).step (by decide) ?_
    | with_reducible refine (k_showLine ..).step (by decide) ?_
    | with_reducible refine (k_showRate ..).step (by decide) ?_
    | with_reducible refine (k_showPps ..).step (by decide) ?_
    | with_reducible refine (k_showTime ..).step (by decide) ?_
    | with_reducible refine (k_showTask ..).step (by decide) ?_
    | with_reducible refine (k_showCore ..).step (by decide) ?_
    | with_reducible refine (k_showCopies ..).step (by decide) ?_
    | with_reducible refine (k_showQCfg ..).step (by decide) ?_
    | with_reducible refine (k_showCap ..).step (by decide) ?_
    | with_reducible refine (k_showUart ..).step (by decide) ?_
    | with_reducible refine (k_viewRead ..).step (by decide) ?_
    | with_reducible refine (k_txRead ..).step (by decide) ?_
    | with_reducible refine (k_readQData ..).step (by decide) ?_
    | with_reducible refine (k_claim ..).step (by decide) ?_
    | with_reducible refine (k_showFar ..).step (by decide) ?_
    | with_reducible refine (k_showLog ..).step (by decide) ?_
    | with_reducible refine (k_wsets ..).step (by decide) ?_
    | with_reducible refine (k_wset ..).step (by decide) ?_
    | with_reducible refine Keeps.ite ?_ ?_
    | with_reducible refine Keeps.foldl _ ?_ (fun _ _ _ => ?_)
    | split

/-- `windowWord` changes at most: freeCnt. -/
theorem k_windowWord (a : Nat) (s : State) : Keeps 2 s (State.windowWord a s).2 := by
  unfold State.windowWord
  repeat' first
    | with_reducible exact Keeps.refl _ _
    | with_reducible assumption
    | (extract_lets +onlyGivenNames x; refine Keeps.cut (m := 2) (s := s) (u := x) ?_ ?_; rotate_left; all_goals first | (intro _; clear_value x) | subst x)
    | (extract_lets +onlyGivenNames x; clear_value x)
    | with_reducible refine Keeps.iteSnd ?_ ?_
    | split
    | with_reducible refine Keeps.ofSnd (by assumption) ?_
    | with_reducible refine (k_fresh ..).step (by decide) ?_
    | with_reducible dsimp only

/-- `regRead` changes at most: freeCnt, out, wr, mer, sch, queues, mus, mems, can, mbx, held. -/
theorem k_regRead (agent a err : Nat) (s : State) : Keeps 8901526554 s (s.regRead agent a err).2 := by
  unfold State.regRead
  split
  · exact Keeps.refl _ _
  · split
    · exact (k_windowWord ..).weaken (by decide)
    · split
      · exact (k_lockRead ..).weaken (by decide)
      · extract_lets t v u w
        have k : Keeps 8901526554 s t := (k_refresh a err s).weaken (by decide)
        have k2 : Keeps 8901526554 s u := Keeps.upd_held k (by decide)
        have k3 : Keeps 8901526554 s w := by
          show Keeps 8901526554 s (match regAt WR.rows a with
            | some fs => { u with wr := u.wr.clearRC fs }
            | none => u)
          split
          · exact (Keeps.regs (RegFile.sorted_clearRC _)).step (by decide) k2
          · exact k2
        clear_value t v u w
        split
        · exact (k_uartRead ..).step (by decide) k3
        · split
          · exact (k_readLog ..).step (by decide) k3
          · exact k3

/-- `regQuiet` changes at most: freeCnt, out, wr, mer, sch, queues, mus, mems, can, mbx, held. -/
theorem k_regQuiet (agent a : Nat) (s : State) : Keeps 8901526554 s (s.regQuiet agent a).2 := by
  unfold State.regQuiet
  split
  · split
    · exact (k_peekQData ..).weaken (by decide)
    · exact Keeps.refl _ _
  · have k := k_regRead agent a 0 s
    generalize s.regRead agent a 0 = r at k
    obtain ⟨v, t⟩ := r
    refine Keeps.foldl _ ?_ fun x b h => (k_copyReg t x b).step (by decide) h
    exact Keeps.part (fun p hp => by cases p <;> first | rfl | exact absurd hp (by decide)) (.inl rfl) (.inl rfl)
      (List.prefix_refl _) k.2.free

/-- `writeSys` changes at most: out, wr, ports, dlinks, sch, queues, pair, mus, cmp, eth, can, gov, sys, env. -/
theorem k_writeSys (agent : Nat) (a : Nat) (v : Nat) (s : State) : Keeps 779804696 s (State.writeSys agent a v s) := by
  unfold State.writeSys
  repeat' first
    | with_reducible exact Keeps.refl _ _
    | with_reducible assumption
    | with_reducible refine (k_writeReset ..).step (by decide) ?_
    | with_reducible refine (k_fatalEnter ..).step (by decide) ?_
    | with_reducible refine (k_writeWdog ..).step (by decide) ?_
    | with_reducible refine (k_writeDmaCtrl ..).step (by decide) ?_
    | with_reducible refine (k_execQWtagWrite ..).step (by decide) ?_
    | with_reducible refine (k_writeQCtrl ..).step (by decide) ?_
    | with_reducible refine (k_wstore ..).step (by decide) ?_
    | with_reducible refine Keeps.ite ?_ ?_
    | split

/-- `writeMer` changes at most: wr, mer. -/
theorem k_writeMer (a : Nat) (v : Nat) (s : State) : Keeps 1040 s (State.writeMer a v s) := by
  unfold State.writeMer
  repeat' first
    | with_reducible exact Keeps.refl _ _
    | with_reducible assumption
    | with_reducible refine (k_writeAlmParam ..).step (by decide) ?_
    | with_reducible refine (k_writeAlmCtrl ..).step (by decide) ?_
    | with_reducible refine (k_commitParent ..).step (by decide) ?_
    | with_reducible refine (k_writeDatumCfg ..).step (by decide) ?_
    | with_reducible refine (k_writeStepNs ..).step (by decide) ?_
    | with_reducible refine (k_writeAdj ..).step (by decide) ?_
    | with_reducible refine (k_writeRateHi ..).step (by decide) ?_
    | with_reducible refine (k_writeMerCtrl ..).step (by decide) ?_
    | with_reducible refine (k_modMer ..).step (by decide) ?_
    | with_reducible refine (k_wstore ..).step (by decide) ?_
    | with_reducible refine Keeps.ite ?_ ?_
    | split

/-- `writeIng` changes at most: wr, tri, lanes, ports, dlinks, mus. -/
theorem k_writeIng (a : Nat) (v : Nat) (s : State) : Keeps 1079312 s (State.writeIng a v s) := by
  unfold State.writeIng
  repeat' first
    | with_reducible exact Keeps.refl _ _
    | with_reducible assumption
    | (extract_lets +onlyGivenNames x; refine Keeps.cut (m := 1079312) (s := s) (u := x) ?_ ?_; rotate_left; all_goals first | (intro _; clear_value x) | subst x)
    | (extract_lets +onlyGivenNames x; clear_value x)
    | with_reducible refine (k_execPortDetachWrite ..).step (by decide) ?_
    | with_reducible refine (k_execPortAttachWrite ..).step (by decide) ?_
    | with_reducible refine (k_writeLaneEn ..).step (by decide) ?_
    | with_reducible refine (k_execIngLaneClear ..).step (by decide) ?_
    | with_reducible refine (k_writeTriParam ..).step (by decide) ?_
    | with_reducible refine (k_writeTriCtrl ..).step (by decide) ?_
    | with_reducible refine (k_wstore ..).step (by decide) ?_
    | with_reducible refine Keeps.ite ?_ ?_
    | split

/-- `writeMus` changes at most: wr, mus. -/
theorem k_writeMus (a : Nat) (v : Nat) (s : State) : Keeps 1048592 s (State.writeMus a v s) := by
  unfold State.writeMus
  repeat' first
    | with_reducible exact Keeps.refl _ _
    | with_reducible assumption
    | with_reducible refine (k_execMusViewSelWrite ..).step (by decide) ?_
    | with_reducible refine (k_wstore ..).step (by decide) ?_
    | with_reducible refine Keeps.ite ?_ ?_
    | split

/-- `writeCmp` changes at most: wr. -/
theorem k_writeCmp (a : Nat) (v : Nat) (s : State) : Keeps 16 s (State.writeCmp a v s) := by
  unfold State.writeCmp
  repeat' first
    | with_reducible exact Keeps.refl _ _
    | with_reducible assumption
    | (extract_lets +onlyGivenNames x; refine Keeps.cut (m := 16) (s := s) (u := x) ?_ ?_; rotate_left; all_goals first | (intro _; clear_value x) | subst x)
    | (extract_lets +onlyGivenNames x; clear_value x)
    | with_reducible refine (k_execCmpReenable ..).step (by decide) ?_
    | with_reducible refine (k_writeEngEn ..).step (by decide) ?_
    | with_reducible refine (k_wstore ..).step (by decide) ?_
    | with_reducible refine Keeps.ite ?_ ?_
    | split

/-- `writeEth` changes at most: wr, sch, queues, eth. -/
theorem k_writeEth (a : Nat) (v : Nat) (s : State) : Keeps 4358160 s (State.writeEth a v s) := by
  unfold State.writeEth
  repeat' first
    | with_reducible exact Keeps.refl _ _
    | with_reducible assumption
    | with_reducible refine (k_steerCmd ..).step (by decide) ?_
    | with_reducible refine (k_epMode ..).step (by decide) ?_
    | with_reducible refine (k_wstore ..).step (by decide) ?_
    | with_reducible refine Keeps.ite ?_ ?_
    | split

/-- `writeSch` changes at most: wr, sch, cores. -/
theorem k_writeSch (agent : Nat) (a : Nat) (v : Nat) (s : State) : Keeps 98320 s (State.writeSch agent a v s) := by
  unfold State.writeSch
  repeat' first
    | with_reducible exact Keeps.refl _ _
    | with_reducible assumption
    | with_reducible refine (k_execSchTraceMarkWrite ..).step (by decide) ?_
    | with_reducible refine (k_timerCheck ..).step (by decide) ?_
    | with_reducible refine (k_writeMsip ..).step (by decide) ?_
    | with_reducible refine (k_writePeriodic ..).step (by decide) ?_
    | with_reducible refine (k_writeTaskCfg ..).step (by decide) ?_
    | with_reducible refine (k_writeCoreCtrl ..).step (by decide) ?_
    | with_reducible refine (k_endItem ..).step (by decide) ?_
    | with_reducible refine (k_post ..).step (by decide) ?_
    | with_reducible refine (k_setFlag ..).step (by decide) ?_
    | with_reducible refine (k_evalTask ..).step (by decide) ?_
    | with_reducible refine (k_wstore ..).step (by decide) ?_
    | with_reducible refine Keeps.ite ?_ ?_
    | split

/-- `writeMbxBlock` changes at most: out, wr, pair, mbx. -/
theorem k_writeMbxBlock (agent : Nat) (a : Nat) (v : Nat) (s : State) : Keeps 268959768 s (State.writeMbxBlock agent a v s) := by
  unfold State.writeMbxBlock
  repeat' first
    | with_reducible exact Keeps.refl _ _
    | with_reducible assumption
    | with_reducible refine (k_writeLkcfg ..).step (by decide) ?_
    | with_reducible refine (k_lockWrite ..).step (by decide) ?_
    | with_reducible refine (k_writeMbxCtrl ..).step (by decide) ?_
    | with_reducible refine (k_mbxData ..).step (by decide) ?_
    | with_reducible refine (k_execFenceWrite ..).step (by decide) ?_
    | with_reducible refine (k_wstore ..).step (by decide) ?_
    | with_reducible refine Keeps.ite ?_ ?_
    | split

/-- `writePairBlock` changes at most: out, wr, dlinks, pair, mus, can, sys, env. -/
theorem k_writePairBlock (a : Nat) (v : Nat) (s : State) : Keeps 706232344 s (State.writePairBlock a v s) := by
  unfold State.writePairBlock
  repeat' first
    | with_reducible exact Keeps.refl _ _
    | with_reducible assumption
    | (extract_lets +onlyGivenNames x; refine Keeps.cut (m := 706232344) (s := s) (u := x) ?_ ?_; rotate_left; all_goals first | (intro _; clear_value x) | subst x)
    | (extract_lets +onlyGivenNames x; clear_value x)
    | with_reducible refine (k_writeClaim ..).step (by decide) ?_
    | with_reducible refine (k_writePairEn ..).step (by decide) ?_
    | with_reducible refine (k_writePairCtrl ..).step (by decide) ?_
    | with_reducible refine (k_emcyEnd ..).step (by decide) ?_
    | with_reducible refine (k_wstore ..).step (by decide) ?_
    | with_reducible refine (k_wset ..).step (by decide) ?_
    | with_reducible refine Keeps.ite ?_ ?_
    | split

/-- `writeCanBlock` changes at most: out, wr, can. -/
theorem k_writeCanBlock (a : Nat) (v : Nat) (s : State) : Keeps 33554456 s (State.writeCanBlock a v s) := by
  unfold State.writeCanBlock
  repeat' first
    | with_reducible exact Keeps.refl _ _
    | with_reducible assumption
    | with_reducible refine (k_emcyEnd ..).step (by decide) ?_
    | with_reducible refine (k_wstore ..).step (by decide) ?_
    | with_reducible refine Keeps.ite ?_ ?_
    | split

/-- `writeEnvBlock` changes at most: wr, env. -/
theorem k_writeEnvBlock (agent : Nat) (a : Nat) (v : Nat) (s : State) : Keeps 536870928 s (State.writeEnvBlock agent a v s) := by
  unfold State.writeEnvBlock
  repeat' first
    | with_reducible exact Keeps.refl _ _
    | with_reducible assumption
    | with_reducible refine (k_envKick ..).step (by decide) ?_
    | with_reducible refine (k_ilWrite ..).step (by decide) ?_
    | with_reducible refine (k_envRetry ..).step (by decide) ?_
    | with_reducible refine (k_writeEnvCfg ..).step (by decide) ?_
    | with_reducible refine (k_envRefWrite ..).step (by decide) ?_
    | with_reducible refine (k_writeEnvCtrl ..).step (by decide) ?_
    | with_reducible refine (k_envShow ..).step (by decide) ?_
    | with_reducible refine (k_wstore ..).step (by decide) ?_
    | with_reducible refine Keeps.ite ?_ ?_
    | split

/-- `writeDbgBlock` changes at most: out, wr, mbx. -/
theorem k_writeDbgBlock (a : Nat) (v : Nat) (s : State) : Keeps 268435480 s (State.writeDbgBlock a v s) := by
  unfold State.writeDbgBlock
  repeat' first
    | with_reducible exact Keeps.refl _ _
    | with_reducible assumption
    | with_reducible refine (k_uartWrite ..).step (by decide) ?_
    | with_reducible refine (k_uartStart ..).step (by decide) ?_
    | with_reducible refine (k_loftRelease ..).step (by decide) ?_
    | with_reducible refine (k_wstore ..).step (by decide) ?_
    | with_reducible refine Keeps.ite ?_ ?_
    | split

/-- `writeAdmBlock` changes at most: out, wr, ports, dlinks, sch, queues, pair, mus, cmp, eth, can, gov, sys, env. -/
theorem k_writeAdmBlock (a : Nat) (v : Nat) (s : State) : Keeps 779804696 s (State.writeAdmBlock a v s) := by
  unfold State.writeAdmBlock
  repeat' first
    | with_reducible exact Keeps.refl _ _
    | with_reducible assumption
    | with_reducible refine (k_writeAdmCtrl ..).step (by decide) ?_
    | with_reducible refine (k_wstore ..).step (by decide) ?_
    | with_reducible refine Keeps.ite ?_ ?_
    | split

/-- `writeMemBlock` changes at most: wr, mems. -/
theorem k_writeMemBlock (a : Nat) (v : Nat) (s : State) : Keeps 8388624 s (State.writeMemBlock a v s) := by
  unfold State.writeMemBlock
  repeat' first
    | with_reducible exact Keeps.refl _ _
    | with_reducible assumption
    | with_reducible refine (k_writeFar ..).step (by decide) ?_
    | with_reducible refine (k_wstore ..).step (by decide) ?_
    | with_reducible refine Keeps.ite ?_ ?_
    | split

/-- `regWrite` changes at most: out, wr, mer, tri, lanes, ports, dlinks, sch, cores, queues, pair, mus, cmp, eth, mems, can, gov, sys, mbx, env. -/
theorem k_regWrite (agent : Nat) (a : Nat) (v : Nat) (s : State) : Keeps 1056701464 s (State.regWrite agent a v s) := by
  unfold State.regWrite
  repeat' first
    | with_reducible exact Keeps.refl _ _
    | with_reducible assumption
    | with_reducible refine (k_writeMemBlock ..).step (by decide) ?_
    | with_reducible refine (k_writeAdmBlock ..).step (by decide) ?_
    | with_reducible refine (k_writeDbgBlock ..).step (by decide) ?_
    | with_reducible refine (k_writeEnvBlock ..).step (by decide) ?_
    | with_reducible refine (k_writeCanBlock ..).step (by decide) ?_
    | with_reducible refine (k_writePairBlock ..).step (by decide) ?_
    | with_reducible refine (k_writeMbxBlock ..).step (by decide) ?_
    | with_reducible refine (k_writeSch ..).step (by decide) ?_
    | with_reducible refine (k_writeEth ..).step (by decide) ?_
    | with_reducible refine (k_writeCmp ..).step (by decide) ?_
    | with_reducible refine (k_writeMus ..).step (by decide) ?_
    | with_reducible refine (k_writeIng ..).step (by decide) ?_
    | with_reducible refine (k_writeMer ..).step (by decide) ?_
    | with_reducible refine (k_writeSys ..).step (by decide) ?_
    | with_reducible refine (k_wstore ..).step (by decide) ?_
    | with_reducible refine Keeps.ite ?_ ?_
    | split

/-- `busFault` changes at most: cores, dbg. -/
theorem k_busFault (agent : Nat) (cause : Nat) (sb : Nat) (a : Nat) (s : State) : Keeps 2147549184 s (State.busFault agent cause sb a s) := by
  unfold State.busFault
  repeat' first
    | with_reducible exact Keeps.refl _ _
    | with_reducible assumption
    | with_reducible refine (k_trap ..).step (by decide) ?_
    | with_reducible refine Keeps.ite ?_ ?_
    | split
    | with_reducible refine Keeps.upd_dbg ?_ (by decide)

/-- `answer` changes at most: out. -/
theorem k_answer (agent : Nat) (a : Nat) (v : Nat) (fault : Option Nat) (s : State) : Keeps 8 s (State.answer agent a v fault s) := by
  unfold State.answer
  repeat' first
    | with_reducible exact Keeps.refl _ _
    | with_reducible assumption
    | with_reducible refine (k_emit ..).step (by decide) ?_

/-- `loadFault` changes at most: out, cores, dbg. -/
theorem k_loadFault (agent : Nat) (a : Nat) (v : Nat) (sb : Nat) (s : State) : Keeps 2147549192 s (State.loadFault agent a v sb s) := by
  unfold State.loadFault
  repeat' first
    | with_reducible exact Keeps.refl _ _
    | with_reducible assumption
    | with_reducible refine (k_answer ..).step (by decide) ?_
    | with_reducible refine (k_busFault ..).step (by decide) ?_
    | with_reducible refine Keeps.ite ?_ ?_
    | split

/-- `storeFault` changes at most: out, cores, dbg. -/
theorem k_storeFault (agent : Nat) (a : Nat) (sb : Nat) (s : State) : Keeps 2147549192 s (State.storeFault agent a sb s) := by
  unfold State.storeFault
  repeat' first
    | with_reducible exact Keeps.refl _ _
    | with_reducible assumption
    | with_reducible refine (k_busFault ..).step (by decide) ?_
    | with_reducible refine (k_emit ..).step (by decide) ?_
    | with_reducible refine Keeps.ite ?_ ?_
    | split

/-- `busRead` changes at most: freeCnt, out, wr, mer, sch, queues, mus, mems, can, mbx, held. -/
theorem k_busRead (agent : Nat) (a : Nat) (err : Nat) (s : State) : Keeps 8901526554 s (State.busRead agent a err s).2 := by
  unfold State.busRead
  repeat' first
    | with_reducible exact Keeps.refl _ _
    | with_reducible assumption
    | (extract_lets +onlyGivenNames x; refine Keeps.cut (m := 8901526554) (s := s) (u := x) ?_ ?_; rotate_left; all_goals first | (intro _; clear_value x) | subst x)
    | (extract_lets +onlyGivenNames x; clear_value x)
    | with_reducible refine (k_unitStand ..).step (by decide) ?_
    | with_reducible refine Keeps.iteSnd ?_ ?_
    | split
    | with_reducible refine Keeps.ofSnd (by assumption) ?_
    | with_reducible refine (k_regQuiet ..).step (by decide) ?_
    | with_reducible refine (k_regRead ..).step (by decide) ?_
    | with_reducible dsimp only

/-- `endLoad` changes at most: out, cores, dbg. -/
theorem k_endLoad (agent a : Nat) (r : (Nat × Option Nat) × State) : Keeps 2147549192 r.2 (State.endLoad agent a r) := by
  unfold State.endLoad
  split
  · exact (k_answer ..).weaken (by decide)
  · exact (k_loadFault ..).weaken (by decide)

/-- `busWrite` changes at most: out, wr, mer, tri, lanes, ports, dlinks, sch, cores, queues, pair, mus, cmp, eth, mems, can, gov, sys, mbx, env, dbg. -/
theorem k_busWrite (agent : Nat) (a : Nat) (v : Nat) (s : State) : Keeps 3204185112 s (State.busWrite agent a v s) := by
  unfold State.busWrite
  repeat' first
    | with_reducible exact Keeps.refl _ _
    | with_reducible assumption
    | with_reducible refine (k_storeFault ..).step (by decide) ?_
    | with_reducible refine (k_regWrite ..).step (by decide) ?_
    | with_reducible refine Keeps.ite ?_ ?_
    | split

end Sys2Proof.Machine
end

