-- ==== Sys2Proof/Laws/KeepsWnChecks.lean ====
section
/-! SUPPORT. What the operations of Machine/WnChecks.lean may change. -/

namespace Sys2Proof.Machine

open Sys2Proof

/-- `fillSlot` changes at most: wr. -/
theorem k_fillSlot (s : State) (x : Nat × ImgTask) : Keeps 16 s (State.fillSlot s x) := by
  unfold State.fillSlot
  repeat' first
    | with_reducible exact Keeps.refl _ _
    | with_reducible assumption
    | (extract_lets +onlyGivenNames x; refine Keeps.cut (m := 16) (s := s) (u := x) ?_ ?_; rotate_left; all_goals first | (intro _; clear_value x) | subst x)
    | (extract_lets +onlyGivenNames x; clear_value x)
    | with_reducible refine (k_wsets ..).step (by decide) ?_

/-- `applyImage` changes at most: out, wr, mer, tri, lanes, ports, dlinks, sch, cores, queues, image, pair, mus, cmp, eth, mems, can, gov, sys, mbx, env. -/
theorem k_applyImage (r : ImgRead) (s : State) : Keeps 1056963608 s (State.applyImage r s) := by
  unfold State.applyImage
  repeat' first
    | with_reducible exact Keeps.refl _ _
    | with_reducible assumption
    | (extract_lets +onlyGivenNames x; refine Keeps.cut (m := 1056963608) (s := s) (u := x) ?_ ?_; rotate_left; all_goals first | (intro _; clear_value x) | subst x)
    | (extract_lets +onlyGivenNames x; clear_value x)
    | with_reducible refine (k_fillSlot ..).step (by decide) ?_
    | with_reducible refine (k_regWrite ..).step (by decide) ?_
    | with_reducible refine (k_modSys ..).step (by decide) ?_
    | with_reducible refine (k_modPair ..).step (by decide) ?_
    | with_reducible refine (k_wsets ..).step (by decide) ?_
    | with_reducible refine (k_wset ..).step (by decide) ?_
    | with_reducible refine Keeps.foldl _ ?_ (fun _ _ _ => ?_)
    | with_reducible refine Keeps.upd_image ?_ (by decide)

/-- `refuseImage` changes at most: freeCnt, out, wr, can. -/
theorem k_refuseImage (x : Refused) (s : State) : Keeps 33554458 s (State.refuseImage x s) := by
  unfold State.refuseImage
  repeat' first
    | with_reducible exact Keeps.refl _ _
    | with_reducible assumption
    | (extract_lets +onlyGivenNames x; refine Keeps.cut (m := 33554458) (s := s) (u := x) ?_ ?_; rotate_left; all_goals first | (intro _; clear_value x) | subst x)
    | (extract_lets +onlyGivenNames x; clear_value x)
    | with_reducible refine (k_emcy ..).step (by decide) ?_
    | with_reducible refine (k_wsets ..).step (by decide) ?_
    | split
    | with_reducible refine Keeps.ofSnd (by assumption) ?_
    | with_reducible refine (k_fresh ..).step (by decide) ?_
    | with_reducible dsimp only

/-- `checksDone` changes at most: freeCnt, out, wr, mer, tri, lanes, ports, dlinks, sch, cores, queues, image, pair, mus, cmp, eth, mems, can, gov, sys, mbx, env. -/
theorem k_checksDone (s : State) : Keeps 1056963610 s (State.checksDone s) := by
  unfold State.checksDone
  repeat' first
    | with_reducible exact Keeps.refl _ _
    | with_reducible assumption
    | (extract_lets +onlyGivenNames x; refine Keeps.cut (m := 1056963610) (s := s) (u := x) ?_ ?_; rotate_left; all_goals first | (intro _; clear_value x) | subst x)
    | (extract_lets +onlyGivenNames x; clear_value x)
    | with_reducible refine (k_refuseImage ..).step (by decide) ?_
    | with_reducible refine (k_applyImage ..).step (by decide) ?_
    | with_reducible refine (k_modSys ..).step (by decide) ?_
    | with_reducible refine (k_setWs ..).step (by decide) ?_
    | with_reducible refine (k_wsets ..).step (by decide) ?_
    | with_reducible refine (k_wset ..).step (by decide) ?_
    | with_reducible refine Keeps.ite ?_ ?_
    | split

end Sys2Proof.Machine
end

