-- ==== Sys2Proof/Laws/KeepsWnObj.lean ====
section
/-! SUPPORT. What the operations of Machine/WnObj.lean may change. -/

namespace Sys2Proof.Machine

open Sys2Proof

/-- `writeFields` changes at most: out, wr, mer, tri, lanes, ports, dlinks, sch, cores, queues, pair, mus, cmp, eth, mems, can, gov, sys, mbx, env. -/
theorem k_writeFields (x0 : List Fld) (x1 : Nat) (s : State) : Keeps 1056701464 s (State.writeFields x0 x1 s) := by
  induction x0 generalizing x1 s with
  | nil =>
    unfold State.writeFields
    repeat' first
      | with_reducible exact Keeps.refl _ _
      | with_reducible assumption
      | with_reducible refine (k_regWrite ..).step (by decide) ?_
      | split
      | with_reducible simp only [Prod.map_snd]
      | with_reducible dsimp only
  | cons e l ih =>
    unfold State.writeFields
    repeat' first
      | with_reducible exact Keeps.refl _ _
      | with_reducible assumption
      | with_reducible refine (k_regWrite ..).step (by decide) ?_
      | split
      | with_reducible refine (ih ..).step (by decide) ?_
      | with_reducible simp only [Prod.map_snd]
      | with_reducible dsimp only

/-- `readFields` changes at most: freeCnt, out, wr, mer, sch, queues, mus, mems, can, mbx, held. -/
theorem k_readFields (x0 : List Fld) (s : State) : Keeps 8901526554 s (State.readFields x0 s).2 := by
  induction x0 generalizing s with
  | nil =>
    unfold State.readFields
    repeat' first
      | with_reducible exact Keeps.refl _ _
      | with_reducible assumption
      | (extract_lets +onlyGivenNames x; refine Keeps.cut (m := 8901526554) (s := s) (u := x) ?_ ?_; rotate_left; all_goals first | (intro _; clear_value x) | subst x)
      | (extract_lets +onlyGivenNames x; clear_value x)
      | split
      | with_reducible refine Keeps.ofSnd (by assumption) ?_
      | with_reducible refine (k_regQuiet ..).step (by decide) ?_
      | with_reducible simp only [Prod.map_snd]
      | with_reducible dsimp only
  | cons e l ih =>
    unfold State.readFields
    repeat' first
      | with_reducible exact Keeps.refl _ _
      | with_reducible assumption
      | (extract_lets +onlyGivenNames x; refine Keeps.cut (m := 8901526554) (s := s) (u := x) ?_ ?_; rotate_left; all_goals first | (intro _; clear_value x) | subst x)
      | (extract_lets +onlyGivenNames x; clear_value x)
      | with_reducible refine (ih ..).step (by decide) ?_
      | split
      | with_reducible refine Keeps.ofSnd (by assumption) ?_
      | with_reducible refine (k_regQuiet ..).step (by decide) ?_
      | with_reducible simp only [Prod.map_snd]
      | with_reducible dsimp only

/-- `sample` changes at most: freeCnt, out, wr, mer, sch, queues, mus, mems, can, mbx, held. -/
theorem k_sample (key : Nat) (x1 : Nat) (x2 : List (Nat × Nat × Nat)) (s : State) : Keeps 8901526554 s (State.sample key x1 x2 s) := by
  induction x2 generalizing x1 s with
  | nil =>
    unfold State.sample
    repeat' first
      | with_reducible exact Keeps.refl _ _
      | with_reducible assumption
      | with_reducible refine Keeps.ofSnd (by assumption) ?_
      | with_reducible refine (k_regQuiet ..).step (by decide) ?_
      | with_reducible refine Keeps.upd_held ?_ (by decide)
      | with_reducible simp only [Prod.map_snd]
      | with_reducible dsimp only
  | cons e l ih =>
    unfold State.sample
    repeat' first
      | with_reducible exact Keeps.refl _ _
      | with_reducible assumption
      | with_reducible refine Keeps.ofSnd (by assumption) ?_
      | with_reducible refine (k_regQuiet ..).step (by decide) ?_
      | with_reducible refine (ih ..).step (by decide) ?_
      | with_reducible refine Keeps.upd_held ?_ (by decide)
      | with_reducible simp only [Prod.map_snd]
      | with_reducible dsimp only

/-- `readParts` changes at most: wr, mem, mems. -/
theorem k_readParts (x0 : List (Nat × Nat)) (x1 : List Upset) (s : State) : Keeps 8389136 s (State.readParts x0 x1 s).2 := by
  induction x0 generalizing x1 s with
  | nil =>
    unfold State.readParts
    repeat' first
      | with_reducible exact Keeps.refl _ _
      | with_reducible assumption
      | with_reducible refine (k_fenceRefuse ..).step (by decide) ?_
      | with_reducible refine Keeps.iteSnd ?_ ?_
      | split
      | with_reducible refine Keeps.ofSnd (by assumption) ?_
      | with_reducible refine Keeps.ofThd (by assumption) ?_
      | with_reducible refine (k_memRead ..).step (by decide) ?_
      | with_reducible simp only [Prod.map_snd]
      | with_reducible dsimp only
  | cons e l ih =>
    unfold State.readParts
    repeat' first
      | with_reducible exact Keeps.refl _ _
      | with_reducible assumption
      | with_reducible refine (k_fenceRefuse ..).step (by decide) ?_
      | with_reducible refine Keeps.iteSnd ?_ ?_
      | with_reducible refine (ih ..).step (by decide) ?_
      | split
      | with_reducible refine Keeps.ofSnd (by assumption) ?_
      | with_reducible refine Keeps.ofThd (by assumption) ?_
      | with_reducible refine (k_memRead ..).step (by decide) ?_
      | with_reducible simp only [Prod.map_snd]
      | with_reducible dsimp only

/-- `writeParts` changes at most: out, wr, mem, cores, mems, can, sys, env. -/
theorem k_writeParts (x0 : List (Nat × Nat)) (x1 : List Nat) (x2 : List Upset) (s : State) : Keeps 713097752 s (State.writeParts x0 x1 x2 s).2 := by
  induction x0 generalizing x1 x2 s with
  | nil =>
    unfold State.writeParts
    repeat' first
      | with_reducible exact Keeps.refl _ _
      | with_reducible assumption
      | (extract_lets +onlyGivenNames x; refine Keeps.cut (m := 713097752) (s := s) (u := x) ?_ ?_; rotate_left; all_goals first | (intro _; clear_value x) | subst x)
      | (extract_lets +onlyGivenNames x; clear_value x)
      | with_reducible refine (k_fenceRefuse ..).step (by decide) ?_
      | with_reducible refine Keeps.iteSnd ?_ ?_
      | split
      | with_reducible refine Keeps.ofSnd (by assumption) ?_
      | with_reducible refine (k_storeBytes ..).step (by decide) ?_
      | with_reducible refine (k_mayWriteFenced ..).step (by decide) ?_
      | with_reducible simp only [Prod.map_snd]
      | with_reducible dsimp only
  | cons e l ih =>
    unfold State.writeParts
    repeat' first
      | with_reducible exact Keeps.refl _ _
      | with_reducible assumption
      | (extract_lets +onlyGivenNames x; refine Keeps.cut (m := 713097752) (s := s) (u := x) ?_ ?_; rotate_left; all_goals first | (intro _; clear_value x) | subst x)
      | (extract_lets +onlyGivenNames x; clear_value x)
      | with_reducible refine (ih ..).step (by decide) ?_
      | with_reducible refine (k_fenceRefuse ..).step (by decide) ?_
      | with_reducible refine Keeps.iteSnd ?_ ?_
      | split
      | with_reducible refine Keeps.ofSnd (by assumption) ?_
      | with_reducible refine (k_storeBytes ..).step (by decide) ?_
      | with_reducible refine (k_mayWriteFenced ..).step (by decide) ?_
      | with_reducible simp only [Prod.map_snd]
      | with_reducible dsimp only

/-- `readObj` changes at most: freeCnt, out, wr, mer, sch, queues, mus, mems, can, mbx, held. -/
theorem k_readObj (index : Nat) (sub : Nat) (o : Obj) (pdo : Bool) (s : State) : Keeps 8901526554 s (State.readObj index sub o pdo s).2 := by
  unfold State.readObj
  repeat' first
    | with_reducible exact Keeps.refl _ _
    | with_reducible assumption
    | (extract_lets +onlyGivenNames x; refine Keeps.cut (m := 8901526554) (s := s) (u := x) ?_ ?_; rotate_left; all_goals first | (intro _; clear_value x) | subst x)
    | (extract_lets +onlyGivenNames x; clear_value x)
    | with_reducible refine (k_sample ..).step (by decide) ?_
    | with_reducible refine Keeps.iteSnd ?_ ?_
    | with_reducible refine Keeps.foldl _ ?_ (fun _ _ _ => ?_)
    | split
    | with_reducible refine Keeps.ofSnd (by assumption) ?_
    | with_reducible refine (k_readFields ..).step (by decide) ?_
    | with_reducible refine (k_regQuiet ..).step (by decide) ?_
    | with_reducible refine (k_regRead ..).step (by decide) ?_
    | with_reducible simp only [Prod.map_snd]
    | with_reducible dsimp only

/-- `writeObj` changes at most: out, wr, mer, tri, lanes, ports, dlinks, sch, cores, queues, pair, mus, cmp, eth, mems, can, gov, sys, mbx, env. -/
theorem k_writeObj (index : Nat) (sub : Nat) (v : Nat) (o : Obj) (s : State) : Keeps 1056701464 s (State.writeObj index sub v o s).2 := by
  unfold State.writeObj
  repeat' first
    | with_reducible exact Keeps.refl _ _
    | with_reducible assumption
    | (extract_lets +onlyGivenNames x; refine Keeps.cut (m := 1056701464) (s := s) (u := x) ?_ ?_; rotate_left; all_goals first | (intro _; clear_value x) | subst x)
    | (extract_lets +onlyGivenNames x; clear_value x)
    | with_reducible refine (k_writeFields ..).step (by decide) ?_
    | with_reducible refine (k_regWrite ..).step (by decide) ?_
    | with_reducible refine (k_modCan ..).step (by decide) ?_
    | with_reducible refine Keeps.iteSnd ?_ ?_
    | split
    | with_reducible simp only [Prod.map_snd]
    | with_reducible dsimp only

/-- `domainAccess` changes at most: out, wr, mem, cores, mems, can, sys, env. -/
theorem k_domainAccess (c : Client) (index : Nat) (base : Nat) (off : Nat) (write : Bool) (n : Nat) (data : List Nat) (us : List Upset) (s : State) : Keeps 713097752 s (State.domainAccess c index base off write n data us s).2 := by
  unfold State.domainAccess
  repeat' first
    | with_reducible exact Keeps.refl _ _
    | with_reducible assumption
    | (extract_lets +onlyGivenNames x; refine Keeps.cut (m := 713097752) (s := s) (u := x) ?_ ?_; rotate_left; all_goals first | (intro _; clear_value x) | subst x)
    | (extract_lets +onlyGivenNames x; clear_value x)
    | with_reducible refine (k_modCan ..).step (by decide) ?_
    | with_reducible refine Keeps.iteSnd ?_ ?_
    | split
    | with_reducible refine Keeps.ofSnd (by assumption) ?_
    | with_reducible refine (k_writeParts ..).step (by decide) ?_
    | with_reducible refine (k_readParts ..).step (by decide) ?_
    | with_reducible simp only [Prod.map_snd]
    | with_reducible dsimp only

/-- `checkEnds` changes at most: can. -/
theorem k_checkEnds (c : Client) (index : Nat) (sub : Nat) (s : State) : Keeps 33554432 s (State.checkEnds c index sub s) := by
  unfold State.checkEnds
  repeat' first
    | with_reducible exact Keeps.refl _ _
    | with_reducible assumption
    | with_reducible refine (k_modCan ..).step (by decide) ?_
    | with_reducible refine Keeps.ite ?_ ?_
    | split
    | with_reducible simp only [Prod.map_snd]

/-- `access` changes at most: freeCnt, out, wr, mem, mer, tri, lanes, ports, dlinks, sch, cores, queues, pair, mus, cmp, eth, mems, can, gov, sys, mbx, env, held. -/
theorem k_access (c : Client) (write : Bool) (index : Nat) (sub : Nat) (piece : Option (Nat × Nat)) (data : List Nat) (us : List Upset) (s : State) : Keeps 9646636570 s (State.access c write index sub piece data us s).2 := by
  unfold State.access
  repeat' first
    | with_reducible exact Keeps.refl _ _
    | with_reducible assumption
    | (extract_lets +onlyGivenNames x; refine Keeps.cut (m := 9646636570) (s := s) (u := x) ?_ ?_; rotate_left; all_goals first | (intro _; clear_value x) | subst x)
    | (extract_lets +onlyGivenNames x; clear_value x)
    | with_reducible refine (k_checkEnds ..).step (by decide) ?_
    | with_reducible refine (k_modCan ..).step (by decide) ?_
    | with_reducible refine Keeps.iteSnd ?_ ?_
    | split
    | with_reducible refine Keeps.ofSnd (by assumption) ?_
    | with_reducible refine (k_domainAccess ..).step (by decide) ?_
    | with_reducible refine (k_writeObj ..).step (by decide) ?_
    | with_reducible refine (k_readObj ..).step (by decide) ?_
    | with_reducible simp only [Prod.map_snd]
    | with_reducible dsimp only

end Sys2Proof.Machine
end

