-- ==== Sys2Proof/Laws/KeepsWnDict.lean ====
section
/-! SUPPORT. What the operations of Machine/WnDict.lean may change. -/

namespace Sys2Proof.Machine

open Sys2Proof

/-- `sendTo` changes at most: out, wr, eth. -/
theorem k_sendTo (k : Nat) (frame : List Nat) (payload : List Nat) (s : State) : Keeps 4194328 s (State.sendTo k frame payload s) := by
  unfold State.sendTo
  repeat' first
    | with_reducible exact Keeps.refl _ _
    | with_reducible assumption
    | with_reducible refine (k_respond ..).step (by decide) ?_
    | split

/-- `keep` changes at most: can. -/
theorem k_keep (addr : List Nat) (udp : Nat) (req : List Nat) (resp : List Nat) (s : State) : Keeps 33554432 s (State.keep addr udp req resp s) := by
  unfold State.keep
  repeat' first
    | with_reducible exact Keeps.refl _ _
    | with_reducible assumption
    | (extract_lets +onlyGivenNames x; refine Keeps.cut (m := 33554432) (s := s) (u := x) ?_ ?_; rotate_left; all_goals first | (intro _; clear_value x) | subst x)
    | (extract_lets +onlyGivenNames x; clear_value x)
    | with_reducible refine (k_modCan ..).step (by decide) ?_

/-- `answerDict` changes at most: out, wr, eth, can. -/
theorem k_answerDict (c : Client) (write : Bool) (index : Nat) (sub : Nat) (a : Ans) (s : State) : Keeps 37748760 s (State.answerDict c write index sub a s) := by
  unfold State.answerDict
  repeat' first
    | with_reducible exact Keeps.refl _ _
    | with_reducible assumption
    | (extract_lets +onlyGivenNames x; refine Keeps.cut (m := 37748760) (s := s) (u := x) ?_ ?_; rotate_left; all_goals first | (intro _; clear_value x) | subst x)
    | (extract_lets +onlyGivenNames x; clear_value x)
    | with_reducible refine (k_keep ..).step (by decide) ?_
    | with_reducible refine (k_sendTo ..).step (by decide) ?_
    | with_reducible refine (k_emitPin ..).step (by decide) ?_
    | with_reducible refine (k_wadd ..).step (by decide) ?_
    | with_reducible refine (k_wset ..).step (by decide) ?_
    | with_reducible refine Keeps.ite ?_ ?_
    | split

/-- `awaitTladon` changes at most: dlinks, can. -/
theorem k_awaitTladon (c : Client) (write : Bool) (index : Nat) (sub : Nat) (inband : Option Nat) (v : Nat) (s : State) : Keeps 33570816 s (State.awaitTladon c write index sub inband v s) := by
  unfold State.awaitTladon
  repeat' first
    | with_reducible exact Keeps.refl _ _
    | with_reducible assumption
    | (extract_lets +onlyGivenNames x; refine Keeps.cut (m := 33570816) (s := s) (u := x) ?_ ?_; rotate_left; all_goals first | (intro _; clear_value x) | subst x)
    | (extract_lets +onlyGivenNames x; clear_value x)
    | with_reducible refine (k_modCan ..).step (by decide) ?_
    | with_reducible refine (k_dlAccess ..).step (by decide) ?_
    | with_reducible refine Keeps.ite ?_ ?_
    | split

/-- `serve` changes at most: freeCnt, out, wr, mem, mer, tri, lanes, ports, dlinks, sch, cores, queues, pair, mus, cmp, eth, mems, can, gov, sys, mbx, env, held. -/
theorem k_serve (c : Client) (write : Bool) (index : Nat) (sub : Nat) (piece : Option (Nat × Nat)) (data : List Nat) (us : List Upset) (s : State) : Keeps 9646636570 s (State.serve c write index sub piece data us s) := by
  unfold State.serve
  repeat' first
    | with_reducible exact Keeps.refl _ _
    | with_reducible assumption
    | (extract_lets +onlyGivenNames x; refine Keeps.cut (m := 9646636570) (s := s) (u := x) ?_ ?_; rotate_left; all_goals first | (intro _; clear_value x) | subst x)
    | (extract_lets +onlyGivenNames x; clear_value x)
    | with_reducible refine (k_awaitTladon ..).step (by decide) ?_
    | with_reducible refine (k_answerDict ..).step (by decide) ?_
    | split
    | with_reducible refine Keeps.ofSnd (by assumption) ?_
    | with_reducible refine (k_access ..).step (by decide) ?_
    | with_reducible dsimp only

/-- `dictData` changes at most: out, wr, eth, can. -/
theorem k_dictData (p : Nat) (tag : Nat) (data : Nat) (s : State) : Keeps 37748760 s (State.dictData p tag data s) := by
  unfold State.dictData
  repeat' first
    | with_reducible exact Keeps.refl _ _
    | with_reducible assumption
    | with_reducible refine (k_answerDict ..).step (by decide) ?_
    | with_reducible refine (k_modCan ..).step (by decide) ?_
    | with_reducible refine Keeps.ite ?_ ?_
    | split

/-- `dictTimeout` changes at most: out, wr, eth, can. -/
theorem k_dictTimeout (p : Nat) (s : State) : Keeps 37748760 s (State.dictTimeout p s) := by
  unfold State.dictTimeout
  repeat' first
    | with_reducible exact Keeps.refl _ _
    | with_reducible assumption
    | with_reducible refine (k_answerDict ..).step (by decide) ?_
    | with_reducible refine (k_modCan ..).step (by decide) ?_
    | with_reducible refine Keeps.ite ?_ ?_
    | split

/-- `pdoWrite` changes at most: out, wr, mer, tri, lanes, ports, dlinks, sch, cores, queues, pair, mus, cmp, eth, mems, can, gov, sys, mbx, env. -/
theorem k_pdoWrite (index : Nat) (sub : Nat) (data : List Nat) (s : State) : Keeps 1056701464 s (State.pdoWrite index sub data s) := by
  unfold State.pdoWrite
  repeat' first
    | with_reducible exact Keeps.refl _ _
    | with_reducible assumption
    | (extract_lets +onlyGivenNames x; refine Keeps.cut (m := 1056701464) (s := s) (u := x) ?_ ?_; rotate_left; all_goals first | (intro _; clear_value x) | subst x)
    | (extract_lets +onlyGivenNames x; clear_value x)
    | with_reducible refine (k_dlAccess ..).step (by decide) ?_
    | with_reducible refine Keeps.ite ?_ ?_
    | split
    | with_reducible refine Keeps.ofSnd (by assumption) ?_
    | with_reducible refine (k_writeObj ..).step (by decide) ?_
    | with_reducible dsimp only

/-- `pdoApply` changes at most: out, wr, mer, tri, lanes, ports, dlinks, sch, cores, queues, pair, mus, cmp, eth, mems, can, gov, sys, mbx, env. -/
theorem k_pdoApply (x0 : List (Nat × Nat × Nat)) (x1 : List Nat) (s : State) : Keeps 1056701464 s (State.pdoApply x0 x1 s) := by
  induction x0 generalizing x1 s with
  | nil =>
    unfold State.pdoApply
    repeat' first
      | with_reducible exact Keeps.refl _ _
      | with_reducible assumption
      | with_reducible refine (k_pdoWrite ..).step (by decide) ?_
      | split
      | with_reducible dsimp only
  | cons e l ih =>
    unfold State.pdoApply
    repeat' first
      | with_reducible exact Keeps.refl _ _
      | with_reducible assumption
      | with_reducible refine (k_pdoWrite ..).step (by decide) ?_
      | split
      | with_reducible refine (ih ..).step (by decide) ?_
      | with_reducible dsimp only

/-- `rpdo` changes at most: out, wr, mer, tri, lanes, ports, dlinks, sch, cores, queues, pair, mus, cmp, eth, mems, can, gov, sys, mbx, env. -/
theorem k_rpdo (n : Nat) (data : List Nat) (s : State) : Keeps 1056701464 s (State.rpdo n data s) := by
  unfold State.rpdo
  repeat' first
    | with_reducible exact Keeps.refl _ _
    | with_reducible assumption
    | with_reducible refine (k_pdoApply ..).step (by decide) ?_
    | with_reducible refine (k_modCan ..).step (by decide) ?_
    | with_reducible refine Keeps.ite ?_ ?_
    | split

/-- `tpdoData` changes at most: freeCnt, out, wr, mer, sch, queues, mus, mems, can, mbx, held. -/
theorem k_tpdoData (x0 : List (Nat × Nat × Nat)) (s : State) : Keeps 8901526554 s (State.tpdoData x0 s).2 := by
  induction x0 generalizing s with
  | nil =>
    unfold State.tpdoData
    repeat' first
      | with_reducible exact Keeps.refl _ _
      | with_reducible assumption
      | (extract_lets +onlyGivenNames x; refine Keeps.cut (m := 8901526554) (s := s) (u := x) ?_ ?_; rotate_left; all_goals first | (intro _; clear_value x) | subst x)
      | (extract_lets +onlyGivenNames x; clear_value x)
      | split
      | with_reducible refine Keeps.ofSnd (by assumption) ?_
      | with_reducible refine (k_readObj ..).step (by decide) ?_
      | with_reducible dsimp only
  | cons e l ih =>
    unfold State.tpdoData
    repeat' first
      | with_reducible exact Keeps.refl _ _
      | with_reducible assumption
      | (extract_lets +onlyGivenNames x; refine Keeps.cut (m := 8901526554) (s := s) (u := x) ?_ ?_; rotate_left; all_goals first | (intro _; clear_value x) | subst x)
      | (extract_lets +onlyGivenNames x; clear_value x)
      | with_reducible refine (ih ..).step (by decide) ?_
      | split
      | with_reducible refine Keeps.ofSnd (by assumption) ?_
      | with_reducible refine (k_readObj ..).step (by decide) ?_
      | with_reducible dsimp only

/-- `tpdoInband` changes at most: out. -/
theorem k_tpdoInband (n : Nat) (data : List Nat) (s : State) : Keeps 8 s (State.tpdoInband n data s) := by
  unfold State.tpdoInband
  repeat' first
    | with_reducible exact Keeps.refl _ _
    | with_reducible assumption
    | (extract_lets +onlyGivenNames x; refine Keeps.cut (m := 8) (s := s) (u := x) ?_ ?_; rotate_left; all_goals first | (intro _; clear_value x) | subst x)
    | (extract_lets +onlyGivenNames x; clear_value x)
    | with_reducible refine (k_emit ..).step (by decide) ?_
    | with_reducible refine Keeps.ite ?_ ?_
    | split

/-- `canErrState` changes at most: wr. -/
theorem k_canErrState (s : State) : Keeps 16 s (State.canErrState s) := by
  unfold State.canErrState
  repeat' first
    | with_reducible exact Keeps.refl _ _
    | with_reducible assumption
    | (extract_lets +onlyGivenNames x; refine Keeps.cut (m := 16) (s := s) (u := x) ?_ ?_; rotate_left; all_goals first | (intro _; clear_value x) | subst x)
    | (extract_lets +onlyGivenNames x; clear_value x)
    | with_reducible refine (k_wsets ..).step (by decide) ?_
    | with_reducible refine (k_wset ..).step (by decide) ?_
    | with_reducible refine Keeps.ite ?_ ?_
    | split

/-- `canNoAck` changes at most: wr, can. -/
theorem k_canNoAck (s : State) : Keeps 33554448 s (State.canNoAck s) := by
  unfold State.canNoAck
  repeat' first
    | with_reducible exact Keeps.refl _ _
    | with_reducible assumption
    | (extract_lets +onlyGivenNames x; refine Keeps.cut (m := 33554448) (s := s) (u := x) ?_ ?_; rotate_left; all_goals first | (intro _; clear_value x) | subst x)
    | (extract_lets +onlyGivenNames x; clear_value x)
    | with_reducible refine (k_canErrState ..).step (by decide) ?_
    | with_reducible refine (k_modCan ..).step (by decide) ?_
    | with_reducible refine (k_wadd ..).step (by decide) ?_
    | with_reducible refine (k_wsets ..).step (by decide) ?_
    | with_reducible refine Keeps.ite ?_ ?_
    | split

/-- `canAcked` changes at most: wr, can. -/
theorem k_canAcked (s : State) : Keeps 33554448 s (State.canAcked s) := by
  unfold State.canAcked
  repeat' first
    | with_reducible exact Keeps.refl _ _
    | with_reducible assumption
    | (extract_lets +onlyGivenNames x; refine Keeps.cut (m := 33554448) (s := s) (u := x) ?_ ?_; rotate_left; all_goals first | (intro _; clear_value x) | subst x)
    | (extract_lets +onlyGivenNames x; clear_value x)
    | with_reducible refine (k_canErrState ..).step (by decide) ?_
    | with_reducible refine (k_modCan ..).step (by decide) ?_
    | with_reducible refine (k_wsets ..).step (by decide) ?_
    | with_reducible refine Keeps.ite ?_ ?_
    | split

/-- `canOutcome` changes at most: wr, can. -/
theorem k_canOutcome (s : State) (ack : Bool) (b : State) : Keeps 33554448 s (s.canOutcome ack b) := by
  unfold State.canOutcome
  split
  · exact Keeps.refl _ _
  · split
    · exact (k_canAcked ..).weaken (by decide)
    · exact (k_canNoAck ..).weaken (by decide)

/-- `canHeard` changes at most: freeCnt, wr. -/
theorem k_canHeard (s : State) : Keeps 18 s (State.canHeard s) := by
  unfold State.canHeard
  repeat' first
    | with_reducible exact Keeps.refl _ _
    | with_reducible assumption
    | (extract_lets +onlyGivenNames x; refine Keeps.cut (m := 18) (s := s) (u := x) ?_ ?_; rotate_left; all_goals first | (intro _; clear_value x) | subst x)
    | (extract_lets +onlyGivenNames x; clear_value x)
    | with_reducible refine (k_canErrState ..).step (by decide) ?_
    | with_reducible refine (k_wset ..).step (by decide) ?_
    | with_reducible refine Keeps.ite ?_ ?_
    | split
    | with_reducible refine Keeps.ofSnd (by assumption) ?_
    | with_reducible refine (k_fresh ..).step (by decide) ?_
    | with_reducible dsimp only

/-- `tpdo` changes at most: freeCnt, out, wr, mer, sch, queues, mus, mems, can, mbx, held. -/
theorem k_tpdo (n : Nat) (s : State) : Keeps 8901526554 s (State.tpdo n s) := by
  unfold State.tpdo
  repeat' first
    | with_reducible exact Keeps.refl _ _
    | with_reducible assumption
    | (extract_lets +onlyGivenNames x; refine Keeps.cut (m := 8901526554) (s := s) (u := x) ?_ ?_; rotate_left; all_goals first | (intro _; clear_value x) | subst x)
    | (extract_lets +onlyGivenNames x; clear_value x)
    | with_reducible refine (k_tpdoInband ..).step (by decide) ?_
    | with_reducible refine (k_modCan ..).step (by decide) ?_
    | with_reducible refine (k_emitPin ..).step (by decide) ?_
    | with_reducible refine (k_wset ..).step (by decide) ?_
    | with_reducible refine Keeps.ite ?_ ?_
    | split
    | with_reducible refine Keeps.ofSnd (by assumption) ?_
    | with_reducible refine (k_tpdoData ..).step (by decide) ?_
    | with_reducible dsimp only

/-- `sync` changes at most: freeCnt, out, wr, mer, tri, lanes, ports, dlinks, sch, cores, queues, pair, mus, cmp, eth, mems, can, gov, sys, mbx, env, held. -/
theorem k_sync (s : State) : Keeps 9646636058 s (State.sync s) := by
  unfold State.sync
  repeat' first
    | with_reducible exact Keeps.refl _ _
    | with_reducible assumption
    | (extract_lets +onlyGivenNames x; refine Keeps.cut (m := 9646636058) (s := s) (u := x) ?_ ?_; rotate_left; all_goals first | (intro _; clear_value x) | subst x)
    | (extract_lets +onlyGivenNames x; clear_value x)
    | with_reducible refine (k_tpdo ..).step (by decide) ?_
    | with_reducible refine (k_pdoApply ..).step (by decide) ?_
    | with_reducible refine (k_modCan ..).step (by decide) ?_
    | with_reducible refine Keeps.ite ?_ ?_
    | with_reducible refine Keeps.foldl _ ?_ (fun _ _ _ => ?_)
    | split

/-- `tpdoEvent` changes at most: freeCnt, out, wr, mer, sch, queues, mus, mems, can, mbx, held. -/
theorem k_tpdoEvent (n : Nat) (s : State) : Keeps 8901526554 s (State.tpdoEvent n s) := by
  unfold State.tpdoEvent
  repeat' first
    | with_reducible exact Keeps.refl _ _
    | with_reducible assumption
    | (extract_lets +onlyGivenNames x; refine Keeps.cut (m := 8901526554) (s := s) (u := x) ?_ ?_; rotate_left; all_goals first | (intro _; clear_value x) | subst x)
    | (extract_lets +onlyGivenNames x; clear_value x)
    | with_reducible refine (k_tpdo ..).step (by decide) ?_
    | with_reducible refine Keeps.ite ?_ ?_
    | split

/-- `takeRequest` changes at most: out, wr, sch, queues, can. -/
theorem k_takeRequest (err : Nat) (x1 : Nat) (s : State) : Keeps 33718296 s (State.takeRequest err x1 s).2 := by
  induction x1 generalizing err s with
  | zero =>
    unfold State.takeRequest
    repeat' first
      | with_reducible exact Keeps.refl _ _
      | with_reducible assumption
      | split
      | with_reducible refine Keeps.ofSnd (by assumption) ?_
      | with_reducible refine Keeps.ofThd (by assumption) ?_
      | with_reducible refine (k_pop ..).step (by decide) ?_
      | with_reducible dsimp only
  | succ fuel ih =>
    unfold State.takeRequest
    repeat' first
      | with_reducible exact Keeps.refl _ _
      | with_reducible assumption
      | split
      | with_reducible refine Keeps.ofSnd (by assumption) ?_
      | with_reducible refine (ih ..).step (by decide) ?_
      | with_reducible refine Keeps.ofThd (by assumption) ?_
      | with_reducible refine (k_pop ..).step (by decide) ?_
      | with_reducible dsimp only

/-- `dictServe` changes at most: freeCnt, out, wr, mem, mer, tri, lanes, ports, dlinks, sch, cores, queues, pair, mus, cmp, eth, mems, can, gov, sys, mbx, env, held. -/
theorem k_dictServe (op : Nat) (err : Nat) (us : List Upset) (s : State) : Keeps 9646636570 s (State.dictServe op err us s) := by
  unfold State.dictServe
  repeat' first
    | with_reducible exact Keeps.refl _ _
    | with_reducible assumption
    | (extract_lets +onlyGivenNames x; refine Keeps.cut (m := 9646636570) (s := s) (u := x) ?_ ?_; rotate_left; all_goals first | (intro _; clear_value x) | subst x)
    | (extract_lets +onlyGivenNames x; clear_value x)
    | with_reducible refine (k_rpdo ..).step (by decide) ?_
    | with_reducible refine (k_serve ..).step (by decide) ?_
    | with_reducible refine (k_sendTo ..).step (by decide) ?_
    | with_reducible refine (k_wadd ..).step (by decide) ?_
    | with_reducible refine Keeps.ite ?_ ?_
    | split
    | with_reducible refine Keeps.ofSnd (by assumption) ?_
    | with_reducible refine (k_takeRequest ..).step (by decide) ?_
    | with_reducible dsimp only

/-- `endSession` changes at most: can. -/
theorem k_endSession (node : Nat) (s : State) : Keeps 33554432 s (State.endSession node s) := by
  unfold State.endSession
  repeat' first
    | with_reducible exact Keeps.refl _ _
    | with_reducible assumption
    | with_reducible refine (k_modCan ..).step (by decide) ?_

/-- `openSession` changes at most: can. -/
theorem k_openSession (u : Usdo) (s : State) : Keeps 33554432 s (State.openSession u s) := by
  unfold State.openSession
  repeat' first
    | with_reducible exact Keeps.refl _ _
    | with_reducible assumption
    | with_reducible refine (k_endSession ..).step (by decide) ?_
    | with_reducible refine (k_modCan ..).step (by decide) ?_

/-- `usdoDown` changes at most: freeCnt, out, wr, mem, mer, tri, lanes, ports, dlinks, sch, cores, queues, pair, mus, cmp, eth, mems, can, gov, sys, mbx, env, held. -/
theorem k_usdoDown (node : Nat) (cmd : Nat) (index : Nat) (sub : Nat) (data : List Nat) (us : List Upset) (s : State) : Keeps 9646636570 s (State.usdoDown node cmd index sub data us s) := by
  unfold State.usdoDown
  repeat' first
    | with_reducible exact Keeps.refl _ _
    | with_reducible assumption
    | (extract_lets +onlyGivenNames x; refine Keeps.cut (m := 9646636570) (s := s) (u := x) ?_ ?_; rotate_left; all_goals first | (intro _; clear_value x) | subst x)
    | (extract_lets +onlyGivenNames x; clear_value x)
    | with_reducible refine (k_openSession ..).step (by decide) ?_
    | with_reducible refine (k_endSession ..).step (by decide) ?_
    | with_reducible refine (k_serve ..).step (by decide) ?_
    | with_reducible refine (k_answerDict ..).step (by decide) ?_
    | with_reducible refine Keeps.ite ?_ ?_
    | split

/-- `usdoUp` changes at most: freeCnt, out, wr, mem, mer, tri, lanes, ports, dlinks, sch, cores, queues, pair, mus, cmp, eth, mems, can, gov, sys, mbx, env, held. -/
theorem k_usdoUp (node : Nat) (cmd : Nat) (index : Nat) (sub : Nat) (us : List Upset) (s : State) : Keeps 9646636570 s (State.usdoUp node cmd index sub us s) := by
  unfold State.usdoUp
  repeat' first
    | with_reducible exact Keeps.refl _ _
    | with_reducible assumption
    | (extract_lets +onlyGivenNames x; refine Keeps.cut (m := 9646636570) (s := s) (u := x) ?_ ?_; rotate_left; all_goals first | (intro _; clear_value x) | subst x)
    | (extract_lets +onlyGivenNames x; clear_value x)
    | with_reducible refine (k_openSession ..).step (by decide) ?_
    | with_reducible refine (k_endSession ..).step (by decide) ?_
    | with_reducible refine (k_awaitTladon ..).step (by decide) ?_
    | with_reducible refine (k_answerDict ..).step (by decide) ?_
    | with_reducible refine (k_emitPin ..).step (by decide) ?_
    | with_reducible refine Keeps.ite ?_ ?_
    | split
    | with_reducible refine Keeps.ofSnd (by assumption) ?_
    | with_reducible refine (k_access ..).step (by decide) ?_
    | with_reducible dsimp only

/-- `nmtSet` changes at most: wr. -/
theorem k_nmtSet (n : Nat) (s : State) : Keeps 16 s (State.nmtSet n s) := by
  unfold State.nmtSet
  repeat' first
    | with_reducible exact Keeps.refl _ _
    | with_reducible assumption
    | with_reducible refine (k_wset ..).step (by decide) ?_
    | with_reducible refine Keeps.ite ?_ ?_
    | split

/-- `resetComm` changes at most: out, wr, can. -/
theorem k_resetComm (s : State) : Keeps 33554456 s (State.resetComm s) := by
  unfold State.resetComm
  repeat' first
    | with_reducible exact Keeps.refl _ _
    | with_reducible assumption
    | with_reducible refine (k_canBoot ..).step (by decide) ?_
    | with_reducible refine (k_modCan ..).step (by decide) ?_

end Sys2Proof.Machine
end

