-- ==== Sys2Proof/Laws/KeepsWnDbg.lean ====
section
/-! SUPPORT. What the operations of Machine/WnDbg.lean may change. -/

namespace Sys2Proof.Machine

open Sys2Proof

/-- `csrRead` changes at most: freeCnt. -/
theorem k_csrRead (n : Nat) (r : Nat) (s : State) : Keeps 2 s (State.csrRead n r s).2 := by
  unfold State.csrRead
  repeat' first
    | with_reducible exact Keeps.refl _ _
    | with_reducible assumption
    | with_reducible refine Keeps.iteSnd ?_ ?_
    | split
    | with_reducible refine Keeps.ofSnd (by assumption) ?_
    | with_reducible refine (k_fresh ..).step (by decide) ?_
    | with_reducible dsimp only

/-- `csrWrite` changes at most: cores. -/
theorem k_csrWrite (n r v : Nat) (s : State) : Keeps 65536 s (s.csrWrite n r v) := by
  unfold State.csrWrite
  extract_lets c w set
  have k : ∀ x, Keeps 65536 s (set x) := fun x => (k_modCore ..).weaken (by decide)
  clear_value set
  repeat' first
    | exact k _
    | with_reducible exact Keeps.refl _ _
    | split
    | dsimp only

/-- `memLoad` changes at most: wr, mem, mems. -/
theorem k_memLoad (agent : Nat) (a : Nat) (n : Nat) (u : Upset) (s : State) : Keeps 8389136 s (State.memLoad agent a n u s).2 := by
  unfold State.memLoad
  repeat' first
    | with_reducible exact Keeps.refl _ _
    | with_reducible assumption
    | (extract_lets +onlyGivenNames x; refine Keeps.cut (m := 8389136) (s := s) (u := x) ?_ ?_; rotate_left; all_goals first | (intro _; clear_value x) | subst x)
    | (extract_lets +onlyGivenNames x; clear_value x)
    | with_reducible refine Keeps.iteSnd ?_ ?_
    | split
    | with_reducible refine Keeps.ofThd (by assumption) ?_
    | with_reducible refine (k_memRead ..).step (by decide) ?_
    | with_reducible dsimp only

/-- `memStoreAs` changes at most: out, wr, mem, cores, mems, can, sys, env, dbg. -/
theorem k_memStoreAs (agent : Nat) (a : Nat) (n : Nat) (v : Nat) (u : Upset) (s : State) : Keeps 2860581400 s (State.memStoreAs agent a n v u s) := by
  unfold State.memStoreAs
  repeat' first
    | with_reducible exact Keeps.refl _ _
    | with_reducible assumption
    | (extract_lets +onlyGivenNames x; refine Keeps.cut (m := 2860581400) (s := s) (u := x) ?_ ?_; rotate_left; all_goals first | (intro _; clear_value x) | subst x)
    | (extract_lets +onlyGivenNames x; clear_value x)
    | with_reducible refine (k_storeFault ..).step (by decide) ?_
    | with_reducible refine Keeps.ite ?_ ?_
    | split
    | with_reducible refine Keeps.ofSnd (by assumption) ?_
    | with_reducible refine (k_storeBytes ..).step (by decide) ?_
    | with_reducible refine (k_mayWrite ..).step (by decide) ?_
    | with_reducible dsimp only

/-- `proxyAs` changes at most: out, dlinks. -/
theorem k_proxyAs (agent : Nat) (rd : Nat) (a : Nat) (quiet : Bool) (s : State) : Keeps 16392 s (State.proxyAs agent rd a quiet s).2 := by
  unfold State.proxyAs
  repeat' first
    | with_reducible exact Keeps.refl _ _
    | with_reducible assumption
    | (extract_lets +onlyGivenNames x; refine Keeps.cut (m := 16392) (s := s) (u := x) ?_ ?_; rotate_left; all_goals first | (intro _; clear_value x) | subst x)
    | (extract_lets +onlyGivenNames x; clear_value x)
    | with_reducible refine (k_proxyLoad ..).step (by decide) ?_
    | with_reducible refine Keeps.iteSnd ?_ ?_
    | split
    | with_reducible dsimp only

/-- `loadAt` changes at most: freeCnt, out, wr, mem, mer, dlinks, sch, queues, mus, mems, can, mbx, held. -/
theorem k_loadAt (agent : Nat) (rd : Nat) (a : Nat) (n : Nat) (err : Nat) (u : Upset) (s : State) : Keeps 8901543450 s (State.loadAt agent rd a n err u s).2 := by
  unfold State.loadAt
  repeat' first
    | with_reducible exact Keeps.refl _ _
    | with_reducible assumption
    | (extract_lets +onlyGivenNames x; refine Keeps.cut (m := 8901543450) (s := s) (u := x) ?_ ?_; rotate_left; all_goals first | (intro _; clear_value x) | subst x)
    | (extract_lets +onlyGivenNames x; clear_value x)
    | with_reducible refine Keeps.iteSnd ?_ ?_
    | split
    | with_reducible refine Keeps.ofSnd (by assumption) ?_
    | with_reducible refine (k_proxyAs ..).step (by decide) ?_
    | with_reducible refine (k_memLoad ..).step (by decide) ?_
    | with_reducible refine (k_busRead ..).step (by decide) ?_
    | with_reducible dsimp only

/-- `storeAt` changes at most: out, wr, mem, mer, tri, lanes, ports, dlinks, sch, cores, queues, pair, mus, cmp, eth, mems, can, gov, sys, mbx, env, dbg. -/
theorem k_storeAt (agent : Nat) (a : Nat) (n : Nat) (v : Nat) (u : Upset) (s : State) : Keeps 3204185624 s (State.storeAt agent a n v u s) := by
  unfold State.storeAt
  repeat' first
    | with_reducible exact Keeps.refl _ _
    | with_reducible assumption
    | (extract_lets +onlyGivenNames x; refine Keeps.cut (m := 3204185624) (s := s) (u := x) ?_ ?_; rotate_left; all_goals first | (intro _; clear_value x) | subst x)
    | (extract_lets +onlyGivenNames x; clear_value x)
    | with_reducible refine (k_memStoreAs ..).step (by decide) ?_
    | with_reducible refine (k_busWrite ..).step (by decide) ?_
    | with_reducible refine (k_storeFault ..).step (by decide) ?_
    | with_reducible refine (k_proxyStore ..).step (by decide) ?_
    | with_reducible refine Keeps.ite ?_ ?_
    | split

/-- `modDbg` changes at most: dbg. -/
theorem k_modDbg (f : Dbg → Dbg) (s : State) : Keeps 2147483648 s (State.modDbg f s) := by
  unfold State.modDbg
  repeat' first
    | with_reducible exact Keeps.refl _ _
    | with_reducible assumption
    | with_reducible refine Keeps.upd_dbg ?_ (by decide)

/-- `cmdErr` changes at most: dbg. -/
theorem k_cmdErr (e : Nat) (s : State) : Keeps 2147483648 s (State.cmdErr e s) := by
  unfold State.cmdErr
  repeat' first
    | with_reducible exact Keeps.refl _ _
    | with_reducible assumption
    | with_reducible refine (k_modDbg ..).step (by decide) ?_
    | with_reducible refine Keeps.ite ?_ ?_
    | split

/-- `abstractCmd` changes at most: freeCnt, cores, dbg. -/
theorem k_abstractCmd (v : Nat) (s : State) : Keeps 2147549186 s (State.abstractCmd v s) := by
  unfold State.abstractCmd
  repeat' first
    | with_reducible exact Keeps.refl _ _
    | with_reducible assumption
    | (extract_lets +onlyGivenNames x; refine Keeps.cut (m := 2147549186) (s := s) (u := x) ?_ ?_; rotate_left; all_goals first | (intro _; clear_value x) | subst x)
    | (extract_lets +onlyGivenNames x; clear_value x)
    | with_reducible refine (k_cmdErr ..).step (by decide) ?_
    | with_reducible refine (k_modDbg ..).step (by decide) ?_
    | with_reducible refine (k_csrWrite ..).step (by decide) ?_
    | with_reducible refine (k_modCore ..).step (by decide) ?_
    | with_reducible refine Keeps.ite ?_ ?_
    | split
    | with_reducible refine Keeps.ofSnd (by assumption) ?_
    | with_reducible refine (k_csrRead ..).step (by decide) ?_
    | with_reducible dsimp only

/-- `sbErr` changes at most: dbg. -/
theorem k_sbErr (e : Nat) (s : State) : Keeps 2147483648 s (State.sbErr e s) := by
  unfold State.sbErr
  repeat' first
    | with_reducible exact Keeps.refl _ _
    | with_reducible assumption
    | with_reducible refine (k_modDbg ..).step (by decide) ?_
    | with_reducible refine Keeps.ite ?_ ?_
    | split

/-- `sbAccess` changes at most: freeCnt, out, wr, mem, mer, tri, lanes, ports, dlinks, sch, cores, queues, pair, mus, cmp, eth, mems, can, gov, sys, mbx, env, dbg, held. -/
theorem k_sbAccess (write : Bool) (k : Nat) (v : Nat) (err : Nat) (inc : Bool) (u : Upset) (s : State) : Keeps 11794120218 s (State.sbAccess write k v err inc u s) := by
  unfold State.sbAccess
  repeat' first
    | with_reducible exact Keeps.refl _ _
    | with_reducible assumption
    | (extract_lets +onlyGivenNames x; refine Keeps.cut (m := 11794120218) (s := s) (u := x) ?_ ?_; rotate_left; all_goals first | (intro _; clear_value x) | subst x)
    | (extract_lets +onlyGivenNames x; clear_value x)
    | with_reducible refine (k_sbErr ..).step (by decide) ?_
    | with_reducible refine (k_modDbg ..).step (by decide) ?_
    | with_reducible refine (k_storeAt ..).step (by decide) ?_
    | with_reducible refine (k_endLoad ..).step (by decide) ?_
    | with_reducible refine Keeps.ite ?_ ?_
    | split
    | with_reducible refine Keeps.ofSnd (by assumption) ?_
    | with_reducible refine (k_loadAt ..).step (by decide) ?_
    | with_reducible dsimp only

/-- `dmControl` changes at most: sch, cores, sys, dbg. -/
theorem k_dmControl (v : Nat) (s : State) : Keeps 2281799680 s (State.dmControl v s) := by
  unfold State.dmControl
  repeat' first
    | with_reducible exact Keeps.refl _ _
    | with_reducible assumption
    | (extract_lets +onlyGivenNames x; refine Keeps.cut (m := 2281799680) (s := s) (u := x) ?_ ?_; rotate_left; all_goals first | (intro _; clear_value x) | subst x)
    | (extract_lets +onlyGivenNames x; clear_value x)
    | with_reducible refine (k_modDbg ..).step (by decide) ?_
    | with_reducible refine (k_resumeHart ..).step (by decide) ?_
    | with_reducible refine (k_haltHart ..).step (by decide) ?_
    | with_reducible refine (k_askReset ..).step (by decide) ?_
    | with_reducible refine Keeps.ite ?_ ?_
    | split
    | with_reducible refine Keeps.upd_dbg ?_ (by decide)

/-- `dmRead` changes at most: freeCnt, out, wr, mem, mer, tri, lanes, ports, dlinks, sch, cores, queues, pair, mus, cmp, eth, mems, can, gov, sys, mbx, env, dbg, held. -/
theorem k_dmRead (a : Nat) (s : State) : Keeps 11794120218 s (State.dmRead a s).2 := by
  unfold State.dmRead
  repeat' first
    | with_reducible exact Keeps.refl _ _
    | with_reducible assumption
    | (extract_lets +onlyGivenNames x; refine Keeps.cut (m := 11794120218) (s := s) (u := x) ?_ ?_; rotate_left; all_goals first | (intro _; clear_value x) | subst x)
    | (extract_lets +onlyGivenNames x; clear_value x)
    | with_reducible refine (k_sbAccess ..).step (by decide) ?_
    | with_reducible refine Keeps.iteSnd ?_ ?_
    | split
    | with_reducible dsimp only

/-- `dmWrite` changes at most: freeCnt, out, wr, mem, mer, tri, lanes, ports, dlinks, sch, cores, queues, pair, mus, cmp, eth, mems, can, gov, sys, mbx, env, dbg, held. -/
theorem k_dmWrite (a : Nat) (v : Nat) (s : State) : Keeps 11794120218 s (State.dmWrite a v s) := by
  unfold State.dmWrite
  repeat' first
    | with_reducible exact Keeps.refl _ _
    | with_reducible assumption
    | (extract_lets +onlyGivenNames x; refine Keeps.cut (m := 11794120218) (s := s) (u := x) ?_ ?_; rotate_left; all_goals first | (intro _; clear_value x) | subst x)
    | (extract_lets +onlyGivenNames x; clear_value x)
    | with_reducible refine (k_dmControl ..).step (by decide) ?_
    | with_reducible refine (k_sbAccess ..).step (by decide) ?_
    | with_reducible refine (k_abstractCmd ..).step (by decide) ?_
    | with_reducible refine (k_modDbg ..).step (by decide) ?_
    | with_reducible refine Keeps.ite ?_ ?_
    | split

/-- `tapIr` changes at most: wr, taps. -/
theorem k_tapIr (chip : Nat) (ir : Nat) (dr : Nat) (s : State) : Keeps 4294967312 s (State.tapIr chip ir dr s) := by
  unfold State.tapIr
  repeat' first
    | with_reducible exact Keeps.refl _ _
    | with_reducible assumption
    | (extract_lets +onlyGivenNames x; refine Keeps.cut (m := 4294967312) (s := s) (u := x) ?_ ?_; rotate_left; all_goals first | (intro _; clear_value x) | subst x)
    | (extract_lets +onlyGivenNames x; clear_value x)
    | with_reducible refine (k_wset ..).step (by decide) ?_
    | with_reducible refine Keeps.ite ?_ ?_
    | split
    | with_reducible refine Keeps.upd_taps ?_ (by decide)

/-- `tapCells` changes at most: taps. -/
theorem k_tapCells (chip : Nat) (cells : Nat) (s : State) : Keeps 4294967296 s (State.tapCells chip cells s) := by
  unfold State.tapCells
  repeat' first
    | with_reducible exact Keeps.refl _ _
    | with_reducible assumption
    | with_reducible refine Keeps.upd_taps ?_ (by decide)

/-- `idcode` changes at most: freeCnt. -/
theorem k_idcode (chip : Nat) (s : State) : Keeps 2 s (State.idcode chip s).2 := by
  unfold State.idcode
  repeat' first
    | with_reducible exact Keeps.refl _ _
    | with_reducible assumption
    | (extract_lets +onlyGivenNames x; refine Keeps.cut (m := 2) (s := s) (u := x) ?_ ?_; rotate_left; all_goals first | (intro _; clear_value x) | subst x)
    | (extract_lets +onlyGivenNames x; clear_value x)
    | with_reducible refine Keeps.iteSnd ?_ ?_
    | split
    | with_reducible refine Keeps.ofSnd (by assumption) ?_
    | with_reducible refine (k_fresh ..).step (by decide) ?_
    | with_reducible dsimp only

end Sys2Proof.Machine
end

