-- ==== Sys2Proof/Laws/KeepsWnCore.lean ====
section
/-! SUPPORT. What the operations of Machine/WnCore.lean may change. -/

namespace Sys2Proof.Machine

open Sys2Proof

/-- `coreFetch` changes at most: out, wr, mem, cores, mems. -/
theorem k_coreFetch (n : Nat) (a : Nat) (k : Nat) (u : Upset) (s : State) : Keeps 8454680 s (State.coreFetch n a k u s) := by
  unfold State.coreFetch
  repeat' first
    | with_reducible exact Keeps.refl _ _
    | with_reducible assumption
    | (extract_lets +onlyGivenNames x; refine Keeps.cut (m := 8454680) (s := s) (u := x) ?_ ?_; rotate_left; all_goals first | (intro _; clear_value x) | subst x)
    | (extract_lets +onlyGivenNames x; clear_value x)
    | with_reducible refine (k_answer ..).step (by decide) ?_
    | with_reducible refine (k_trap ..).step (by decide) ?_
    | with_reducible refine Keeps.ite ?_ ?_
    | split
    | with_reducible refine Keeps.ofThd (by assumption) ?_
    | with_reducible refine (k_memRead ..).step (by decide) ?_
    | with_reducible dsimp only

/-- `coreLoad` changes at most: freeCnt, out, wr, mem, mer, dlinks, sch, cores, queues, mus, mems, can, mbx, dbg, held. -/
theorem k_coreLoad (n : Nat) (rd : Nat) (a : Nat) (k : Nat) (err : Nat) (sgn : Bool) (u : Upset) (s : State) : Keeps 11049092634 s (State.coreLoad n rd a k err sgn u s) := by
  unfold State.coreLoad
  repeat' first
    | with_reducible exact Keeps.refl _ _
    | with_reducible assumption
    | (extract_lets +onlyGivenNames x; refine Keeps.cut (m := 11049092634) (s := s) (u := x) ?_ ?_; rotate_left; all_goals first | (intro _; clear_value x) | subst x)
    | (extract_lets +onlyGivenNames x; clear_value x)
    | with_reducible refine (k_loadFault ..).step (by decide) ?_
    | with_reducible refine (k_answer ..).step (by decide) ?_
    | with_reducible refine (k_trap ..).step (by decide) ?_
    | with_reducible refine (k_modCore ..).step (by decide) ?_
    | with_reducible refine Keeps.ite ?_ ?_
    | split
    | with_reducible refine Keeps.ofSnd (by assumption) ?_
    | with_reducible refine (k_loadAt ..).step (by decide) ?_
    | with_reducible dsimp only

/-- `coreStore` changes at most: out, wr, mem, mer, tri, lanes, ports, dlinks, sch, cores, queues, pair, mus, cmp, eth, mems, can, gov, sys, mbx, env, dbg. -/
theorem k_coreStore (n : Nat) (a : Nat) (k : Nat) (v : Nat) (u : Upset) (s : State) : Keeps 3204185624 s (State.coreStore n a k v u s) := by
  unfold State.coreStore
  repeat' first
    | with_reducible exact Keeps.refl _ _
    | with_reducible assumption
    | (extract_lets +onlyGivenNames x; refine Keeps.cut (m := 3204185624) (s := s) (u := x) ?_ ?_; rotate_left; all_goals first | (intro _; clear_value x) | subst x)
    | (extract_lets +onlyGivenNames x; clear_value x)
    | with_reducible refine (k_storeAt ..).step (by decide) ?_
    | with_reducible refine (k_storeFault ..).step (by decide) ?_
    | with_reducible refine (k_trap ..).step (by decide) ?_
    | with_reducible refine Keeps.ite ?_ ?_
    | split

/-- `coreLr` changes at most: out, wr, mem, cores, mems, dbg. -/
theorem k_coreLr (n : Nat) (rd : Nat) (a : Nat) (u : Upset) (s : State) : Keeps 2155938328 s (State.coreLr n rd a u s) := by
  unfold State.coreLr
  repeat' first
    | with_reducible exact Keeps.refl _ _
    | with_reducible assumption
    | (extract_lets +onlyGivenNames x; refine Keeps.cut (m := 2155938328) (s := s) (u := x) ?_ ?_; rotate_left; all_goals first | (intro _; clear_value x) | subst x)
    | (extract_lets +onlyGivenNames x; clear_value x)
    | with_reducible refine (k_loadFault ..).step (by decide) ?_
    | with_reducible refine (k_answer ..).step (by decide) ?_
    | with_reducible refine (k_trap ..).step (by decide) ?_
    | with_reducible refine (k_modCore ..).step (by decide) ?_
    | with_reducible refine Keeps.ite ?_ ?_
    | split
    | with_reducible refine Keeps.ofSnd (by assumption) ?_
    | with_reducible refine (k_memLoad ..).step (by decide) ?_
    | with_reducible dsimp only

/-- `coreSc` changes at most: out, wr, mem, cores, mems, can, sys, env, dbg. -/
theorem k_coreSc (n : Nat) (rd : Nat) (a : Nat) (v : Nat) (u : Upset) (s : State) : Keeps 2860581400 s (State.coreSc n rd a v u s) := by
  unfold State.coreSc
  repeat' first
    | with_reducible exact Keeps.refl _ _
    | with_reducible assumption
    | (extract_lets +onlyGivenNames x; refine Keeps.cut (m := 2860581400) (s := s) (u := x) ?_ ?_; rotate_left; all_goals first | (intro _; clear_value x) | subst x)
    | (extract_lets +onlyGivenNames x; clear_value x)
    | with_reducible refine (k_storeFault ..).step (by decide) ?_
    | with_reducible refine (k_trap ..).step (by decide) ?_
    | with_reducible refine (k_modCore ..).step (by decide) ?_
    | with_reducible refine Keeps.ite ?_ ?_
    | split
    | with_reducible refine Keeps.ofSnd (by assumption) ?_
    | with_reducible refine (k_storeBytes ..).step (by decide) ?_
    | with_reducible refine (k_mayWrite ..).step (by decide) ?_
    | with_reducible dsimp only

/-- `coreAmo` changes at most: out, wr, mem, cores, mems, can, sys, env, dbg. -/
theorem k_coreAmo (n : Nat) (op : Nat) (rd : Nat) (a : Nat) (v : Nat) (u : Upset) (s : State) : Keeps 2860581400 s (State.coreAmo n op rd a v u s) := by
  unfold State.coreAmo
  repeat' first
    | with_reducible exact Keeps.refl _ _
    | with_reducible assumption
    | (extract_lets +onlyGivenNames x; refine Keeps.cut (m := 2860581400) (s := s) (u := x) ?_ ?_; rotate_left; all_goals first | (intro _; clear_value x) | subst x)
    | (extract_lets +onlyGivenNames x; clear_value x)
    | with_reducible refine (k_storeFault ..).step (by decide) ?_
    | with_reducible refine (k_answer ..).step (by decide) ?_
    | with_reducible refine (k_trap ..).step (by decide) ?_
    | with_reducible refine (k_modCore ..).step (by decide) ?_
    | with_reducible refine Keeps.ite ?_ ?_
    | split
    | with_reducible refine Keeps.ofSnd (by assumption) ?_
    | with_reducible refine (k_memLoad ..).step (by decide) ?_
    | with_reducible refine (k_storeBytes ..).step (by decide) ?_
    | with_reducible refine (k_mayWrite ..).step (by decide) ?_
    | with_reducible dsimp only

/-- `proxyData` changes at most: out, cores, dbg. -/
theorem k_proxyData (p : Nat) (a : Access) (data : Nat) (s : State) : Keeps 2147549192 s (State.proxyData p a data s) := by
  unfold State.proxyData
  repeat' first
    | with_reducible exact Keeps.refl _ _
    | with_reducible assumption
    | (extract_lets +onlyGivenNames x; refine Keeps.cut (m := 2147549192) (s := s) (u := x) ?_ ?_; rotate_left; all_goals first | (intro _; clear_value x) | subst x)
    | (extract_lets +onlyGivenNames x; clear_value x)
    | with_reducible refine (k_modDbg ..).step (by decide) ?_
    | with_reducible refine (k_answer ..).step (by decide) ?_
    | with_reducible refine (k_modCore ..).step (by decide) ?_
    | with_reducible refine Keeps.ite ?_ ?_
    | split

/-- `proxyLate` changes at most: out, wr, dlinks, cores, dbg. -/
theorem k_proxyLate (p : Nat) (s : State) : Keeps 2147565592 s (State.proxyLate p s) := by
  unfold State.proxyLate
  repeat' first
    | with_reducible exact Keeps.refl _ _
    | with_reducible assumption
    | (extract_lets +onlyGivenNames x; refine Keeps.cut (m := 2147565592) (s := s) (u := x) ?_ ?_; rotate_left; all_goals first | (intro _; clear_value x) | subst x)
    | (extract_lets +onlyGivenNames x; clear_value x)
    | with_reducible refine (k_loadFault ..).step (by decide) ?_
    | with_reducible refine (k_proxyTimeout ..).step (by decide) ?_
    | with_reducible refine Keeps.foldl _ ?_ (fun _ _ _ => ?_)

end Sys2Proof.Machine
end

