-- ==== Sys2Proof/Laws/KeepsExTlTime.lean ====
section
/-! SUPPORT. What the operations of Machine/TlTime.lean may change: the commands. -/

namespace Sys2Proof.Machine

open Sys2Proof

/-- `execTladonPllLock` changes at most: tl. -/
theorem k_execTladonPllLock (port : Nat) (s : State) : Keeps 32 s (stateOf s (execTladonPllLock port s)) := by
  unfold execTladonPllLock
  repeat' first
    | with_reducible refine Keeps.next ?_
    | with_reducible exact Keeps.refl _ _
    | with_reducible assumption
    | with_reducible refine (k_modTl ..).step (by decide) ?_
    | with_reducible refine Keeps.ite ?_ ?_
    | split

/-- `execTladonPllLockLost` changes at most: tl. -/
theorem k_execTladonPllLockLost (port : Nat) (s : State) : Keeps 32 s (stateOf s (execTladonPllLockLost port s)) := by
  unfold execTladonPllLockLost
  repeat' first
    | with_reducible refine Keeps.next ?_
    | with_reducible exact Keeps.refl _ _
    | with_reducible assumption
    | with_reducible refine (k_modTl ..).step (by decide) ?_
    | with_reducible refine Keeps.ite ?_ ?_
    | split

/-- `execEpochTakeEffect` changes at most: tl. -/
theorem k_execEpochTakeEffect (port : Nat) (s : State) : Keeps 32 s (stateOf s (execEpochTakeEffect port s)) := by
  unfold execEpochTakeEffect
  repeat' first
    | with_reducible refine Keeps.next ?_
    | with_reducible exact Keeps.refl _ _
    | with_reducible assumption
    | with_reducible refine (k_modTl ..).step (by decide) ?_
    | split

/-- `execHoldoverLimit` changes at most: tl. -/
theorem k_execHoldoverLimit (port : Nat) (s : State) : Keeps 32 s (stateOf s (execHoldoverLimit port s)) := by
  unfold execHoldoverLimit
  repeat' first
    | with_reducible refine Keeps.next ?_
    | with_reducible exact Keeps.refl _ _
    | with_reducible assumption
    | with_reducible refine (k_modTl ..).step (by decide) ?_
    | split

/-- `execObeyChange` changes at most: tl. -/
theorem k_execObeyChange (port : Nat) (phase : Nat) (s : State) : Keeps 32 s (stateOf s (execObeyChange port phase s)) := by
  unfold execObeyChange
  repeat' first
    | with_reducible refine Keeps.next ?_
    | with_reducible exact Keeps.refl _ _
    | with_reducible assumption
    | with_reducible refine (k_modTl ..).step (by decide) ?_
    | split

end Sys2Proof.Machine
end

