-- ==== Sys2Proof/Laws/KeepsExTlSurvey.lean ====
section
/-! SUPPORT. What the operations of Machine/TlSurvey.lean may change: the commands. -/

namespace Sys2Proof.Machine

open Sys2Proof

/-- `execSurveyStart` changes at most: tl. -/
theorem k_execSurveyStart (port : Nat) (s : State) : Keeps 32 s (stateOf s (execSurveyStart port s)) := by
  unfold execSurveyStart
  repeat' first
    | with_reducible refine Keeps.next ?_
    | with_reducible exact Keeps.refl _ _
    | with_reducible assumption
    | with_reducible refine (k_modTl ..).step (by decide) ?_
    | split

/-- `execSurveyArm` changes at most: tl. -/
theorem k_execSurveyArm (port : Nat) (s : State) : Keeps 32 s (stateOf s (execSurveyArm port s)) := by
  unfold execSurveyArm
  repeat' first
    | with_reducible refine Keeps.next ?_
    | with_reducible exact Keeps.refl _ _
    | with_reducible assumption
    | with_reducible refine (k_modTl ..).step (by decide) ?_
    | split

/-- `execSurveyGateOpen` changes at most: tl. -/
theorem k_execSurveyGateOpen (port : Nat) (s : State) : Keeps 32 s (stateOf s (execSurveyGateOpen port s)) := by
  unfold execSurveyGateOpen
  repeat' first
    | with_reducible refine Keeps.next ?_
    | with_reducible exact Keeps.refl _ _
    | with_reducible assumption
    | with_reducible refine (k_modTl ..).step (by decide) ?_
    | split

/-- `execSurveyAbort` changes at most: tl. -/
theorem k_execSurveyAbort (port : Nat) (s : State) : Keeps 32 s (stateOf s (execSurveyAbort port s)) := by
  unfold execSurveyAbort
  repeat' first
    | with_reducible refine Keeps.next ?_
    | with_reducible exact Keeps.refl _ _
    | with_reducible assumption
    | with_reducible refine (k_modTl ..).step (by decide) ?_
    | split

/-- `execSurveyCfgWrite` changes at most: tl. -/
theorem k_execSurveyCfgWrite (port : Nat) (addr : Nat) (value : Nat) (s : State) : Keeps 32 s (stateOf s (execSurveyCfgWrite port addr value s)) := by
  unfold execSurveyCfgWrite
  repeat' first
    | with_reducible refine Keeps.next ?_
    | with_reducible exact Keeps.refl _ _
    | with_reducible assumption
    | with_reducible refine (k_modTl ..).step (by decide) ?_
    | split

/-- `execSurveyGateEnd` changes at most: tl. -/
theorem k_execSurveyGateEnd (port : Nat) (s : State) : Keeps 32 s (stateOf s (execSurveyGateEnd port s)) := by
  unfold execSurveyGateEnd
  repeat' first
    | with_reducible refine Keeps.next ?_
    | with_reducible exact Keeps.refl _ _
    | with_reducible assumption
    | with_reducible refine (k_modTl ..).step (by decide) ?_
    | split

/-- `execSurveyResult` changes at most: tl. -/
theorem k_execSurveyResult (port : Nat) (s : State) : Keeps 32 s (stateOf s (execSurveyResult port s)) := by
  unfold execSurveyResult
  repeat' first
    | with_reducible refine Keeps.next ?_
    | with_reducible exact Keeps.refl _ _
    | with_reducible assumption
    | with_reducible refine (k_modTl ..).step (by decide) ?_
    | split

/-- `execSurveyInEdge` changes at most: tl. -/
theorem k_execSurveyInEdge (port : Nat) (raw : Nat) (s : State) : Keeps 32 s (stateOf s (execSurveyInEdge port raw s)) := by
  unfold execSurveyInEdge
  repeat' first
    | with_reducible refine Keeps.next ?_
    | with_reducible exact Keeps.refl _ _
    | with_reducible assumption
    | with_reducible refine (k_modTl ..).step (by decide) ?_
    | with_reducible refine Keeps.ite ?_ ?_
    | split

/-- `execDitherConversion` changes at most: tl. -/
theorem k_execDitherConversion (port : Nat) (interp : Nat) (raw : Nat) (s : State) : Keeps 32 s (stateOf s (execDitherConversion port interp raw s)) := by
  unfold execDitherConversion
  repeat' first
    | with_reducible refine Keeps.next ?_
    | with_reducible exact Keeps.refl _ _
    | with_reducible assumption
    | with_reducible refine (k_modTl ..).step (by decide) ?_
    | split

/-- `execCalSwap` changes at most: tl. -/
theorem k_execCalSwap (port : Nat) (s : State) : Keeps 32 s (stateOf s (execCalSwap port s)) := by
  unfold execCalSwap
  repeat' first
    | with_reducible refine Keeps.next ?_
    | with_reducible exact Keeps.refl _ _
    | with_reducible assumption
    | with_reducible refine (k_modTl ..).step (by decide) ?_
    | split

/-- `execCalRetire` changes at most: tl. -/
theorem k_execCalRetire (port : Nat) (s : State) : Keeps 32 s (stateOf s (execCalRetire port s)) := by
  unfold execCalRetire
  repeat' first
    | with_reducible refine Keeps.next ?_
    | with_reducible exact Keeps.refl _ _
    | with_reducible assumption
    | with_reducible refine (k_modTl ..).step (by decide) ?_
    | split

/-- `execCalTimeout` changes at most: tl. -/
theorem k_execCalTimeout (port : Nat) (s : State) : Keeps 32 s (stateOf s (execCalTimeout port s)) := by
  unfold execCalTimeout
  repeat' first
    | with_reducible refine Keeps.next ?_
    | with_reducible exact Keeps.refl _ _
    | with_reducible assumption
    | with_reducible refine (k_modTl ..).step (by decide) ?_
    | split

/-- `execCalCtrlWrite` changes at most: tl. -/
theorem k_execCalCtrlWrite (port : Nat) (value : Nat) (s : State) : Keeps 32 s (stateOf s (execCalCtrlWrite port value s)) := by
  unfold execCalCtrlWrite
  repeat' first
    | with_reducible refine Keeps.next ?_
    | with_reducible exact Keeps.refl _ _
    | with_reducible assumption
    | with_reducible refine (k_modTl ..).step (by decide) ?_
    | split

end Sys2Proof.Machine
end

