-- ==== Sys2Proof/Laws/KeepsExTlSampler.lean ====
section
/-! SUPPORT. What the operations of Machine/TlSampler.lean may change: the commands. -/

namespace Sys2Proof.Machine

open Sys2Proof

/-- `execSampRefWrite` changes at most: tl. -/
theorem k_execSampRefWrite (port : Nat) (en : Bool) (s : State) : Keeps 32 s (stateOf s (execSampRefWrite port en s)) := by
  unfold execSampRefWrite
  repeat' first
    | with_reducible refine Keeps.next ?_
    | with_reducible exact Keeps.refl _ _
    | with_reducible assumption
    | with_reducible refine (k_modTl ..).step (by decide) ?_
    | split

/-- `execSampRefReady` changes at most: tl. -/
theorem k_execSampRefReady (port : Nat) (s : State) : Keeps 32 s (stateOf s (execSampRefReady port s)) := by
  unfold execSampRefReady
  repeat' first
    | with_reducible refine Keeps.next ?_
    | with_reducible exact Keeps.refl _ _
    | with_reducible assumption
    | with_reducible refine (k_modTl ..).step (by decide) ?_
    | with_reducible refine Keeps.ite ?_ ?_
    | split

/-- `execSampEnWrite` changes at most: tl. -/
theorem k_execSampEnWrite (port : Nat) (g : Nat) (en : Bool) (s : State) : Keeps 32 s (stateOf s (execSampEnWrite port g en s)) := by
  unfold execSampEnWrite
  repeat' first
    | with_reducible refine Keeps.next ?_
    | with_reducible exact Keeps.refl _ _
    | with_reducible assumption
    | with_reducible refine (k_modTl ..).step (by decide) ?_
    | split

/-- `execSampCfgWrite` changes at most: tl. -/
theorem k_execSampCfgWrite (port : Nat) (g : Nat) (ofs : Nat) (value : Nat) (s : State) : Keeps 32 s (stateOf s (execSampCfgWrite port g ofs value s)) := by
  unfold execSampCfgWrite
  repeat' first
    | with_reducible refine Keeps.next ?_
    | with_reducible exact Keeps.refl _ _
    | with_reducible assumption
    | with_reducible refine (k_modTl ..).step (by decide) ?_
    | split

/-- `execSampArm` changes at most: tl. -/
theorem k_execSampArm (port : Nat) (mask : Nat) (s : State) : Keeps 32 s (stateOf s (execSampArm port mask s)) := by
  unfold execSampArm
  repeat' first
    | with_reducible refine Keeps.next ?_
    | with_reducible exact Keeps.refl _ _
    | with_reducible assumption
    | with_reducible refine (k_modTl ..).step (by decide) ?_
    | split

/-- `execSampForce` changes at most: tl. -/
theorem k_execSampForce (port : Nat) (mask : Nat) (s : State) : Keeps 32 s (stateOf s (execSampForce port mask s)) := by
  unfold execSampForce
  repeat' first
    | with_reducible refine Keeps.next ?_
    | with_reducible exact Keeps.refl _ _
    | with_reducible assumption
    | with_reducible refine (k_modTl ..).step (by decide) ?_
    | split

/-- `execSampDisarm` changes at most: tl. -/
theorem k_execSampDisarm (port : Nat) (mask : Nat) (s : State) : Keeps 32 s (stateOf s (execSampDisarm port mask s)) := by
  unfold execSampDisarm
  repeat' first
    | with_reducible refine Keeps.next ?_
    | with_reducible exact Keeps.refl _ _
    | with_reducible assumption
    | with_reducible refine (k_modTl ..).step (by decide) ?_
    | split

/-- `execPulseWidthEvent` changes at most: tl. -/
theorem k_execPulseWidthEvent (port : Nat) (ch : Nat) (s : State) : Keeps 32 s (stateOf s (execPulseWidthEvent port ch s)) := by
  unfold execPulseWidthEvent
  repeat' first
    | with_reducible refine Keeps.next ?_
    | with_reducible exact Keeps.refl _ _
    | with_reducible assumption
    | with_reducible refine (k_modTl ..).step (by decide) ?_
    | split

/-- `execSampTimerEvent` changes at most: tl. -/
theorem k_execSampTimerEvent (port : Nat) (g : Nat) (s : State) : Keeps 32 s (stateOf s (execSampTimerEvent port g s)) := by
  unfold execSampTimerEvent
  repeat' first
    | with_reducible refine Keeps.next ?_
    | with_reducible exact Keeps.refl _ _
    | with_reducible assumption
    | with_reducible refine (k_modTl ..).step (by decide) ?_
    | split

/-- `execSampTriggerTick` changes at most: tl. -/
theorem k_execSampTriggerTick (port : Nat) (g : Nat) (s : State) : Keeps 32 s (stateOf s (execSampTriggerTick port g s)) := by
  unfold execSampTriggerTick
  repeat' first
    | with_reducible refine Keeps.next ?_
    | with_reducible exact Keeps.refl _ _
    | with_reducible assumption
    | with_reducible refine (k_modTl ..).step (by decide) ?_
    | split

/-- `execSampFreeze` changes at most: tl. -/
theorem k_execSampFreeze (port : Nat) (g : Nat) (s : State) : Keeps 32 s (stateOf s (execSampFreeze port g s)) := by
  unfold execSampFreeze
  repeat' first
    | with_reducible refine Keeps.next ?_
    | with_reducible exact Keeps.refl _ _
    | with_reducible assumption
    | with_reducible refine (k_modTl ..).step (by decide) ?_
    | split

/-- `execSampWordOffer` changes at most: tl. -/
theorem k_execSampWordOffer (port : Nat) (x0 : Nat) (x1 : Nat) (x2 : Nat) (x3 : Nat) (s : State) : Keeps 32 s (stateOf s (execSampWordOffer port x0 x1 x2 x3 s)) := by
  unfold execSampWordOffer
  repeat' first
    | with_reducible refine Keeps.next ?_
    | with_reducible exact Keeps.refl _ _
    | with_reducible assumption
    | with_reducible refine (k_modTl ..).step (by decide) ?_
    | split

/-- `execSampHoldoffEnd` changes at most: tl. -/
theorem k_execSampHoldoffEnd (port : Nat) (g : Nat) (s : State) : Keeps 32 s (stateOf s (execSampHoldoffEnd port g s)) := by
  unfold execSampHoldoffEnd
  repeat' first
    | with_reducible refine Keeps.next ?_
    | with_reducible exact Keeps.refl _ _
    | with_reducible assumption
    | with_reducible refine (k_modTl ..).step (by decide) ?_
    | split

/-- `execSampTrimWrite` changes at most: tl. -/
theorem k_execSampTrimWrite (port : Nat) (g : Nat) (ofs : Nat) (value : Nat) (s : State) : Keeps 32 s (stateOf s (execSampTrimWrite port g ofs value s)) := by
  unfold execSampTrimWrite
  repeat' first
    | with_reducible refine Keeps.next ?_
    | with_reducible exact Keeps.refl _ _
    | with_reducible assumption
    | with_reducible refine (k_modTl ..).step (by decide) ?_
    | split

/-- `execMonGo` changes at most: tl. -/
theorem k_execMonGo (port : Nat) (s : State) : Keeps 32 s (stateOf s (execMonGo port s)) := by
  unfold execMonGo
  repeat' first
    | with_reducible refine Keeps.next ?_
    | with_reducible exact Keeps.refl _ _
    | with_reducible assumption
    | with_reducible refine (k_modTl ..).step (by decide) ?_
    | split

/-- `execMonTimerSweep` changes at most: tl. -/
theorem k_execMonTimerSweep (port : Nat) (s : State) : Keeps 32 s (stateOf s (execMonTimerSweep port s)) := by
  unfold execMonTimerSweep
  repeat' first
    | with_reducible refine Keeps.next ?_
    | with_reducible exact Keeps.refl _ _
    | with_reducible assumption
    | with_reducible refine (k_modTl ..).step (by decide) ?_
    | split

/-- `execMonConversionDone` changes at most: tl. -/
theorem k_execMonConversionDone (port : Nat) (code : Nat) (s : State) : Keeps 32 s (stateOf s (execMonConversionDone port code s)) := by
  unfold execMonConversionDone
  repeat' first
    | with_reducible refine Keeps.next ?_
    | with_reducible exact Keeps.refl _ _
    | with_reducible assumption
    | with_reducible refine (k_modTl ..).step (by decide) ?_
    | split

end Sys2Proof.Machine
end

