-- ==== Sys2Proof/Laws/KeepsExTlChannels.lean ====
section
/-! SUPPORT. What the operations of Machine/TlChannels.lean may change: the commands. -/

namespace Sys2Proof.Machine

open Sys2Proof

/-- `execDiscriminatorLeadingEdge` changes at most: tl. -/
theorem k_execDiscriminatorLeadingEdge (port : Nat) (ch : Nat) (raw : Nat) (sraw : Nat) (dith : Bool) (s : State) : Keeps 32 s (stateOf s (execDiscriminatorLeadingEdge port ch raw sraw dith s)) := by
  unfold execDiscriminatorLeadingEdge
  repeat' first
    | with_reducible refine Keeps.next ?_
    | with_reducible exact Keeps.refl _ _
    | with_reducible assumption
    | with_reducible refine (k_modTl ..).step (by decide) ?_
    | split

/-- `execDiscriminatorTrailingEdge` changes at most: tl. -/
theorem k_execDiscriminatorTrailingEdge (port : Nat) (ch : Nat) (raw : Nat) (s : State) : Keeps 32 s (stateOf s (execDiscriminatorTrailingEdge port ch raw s)) := by
  unfold execDiscriminatorTrailingEdge
  repeat' first
    | with_reducible refine Keeps.next ?_
    | with_reducible exact Keeps.refl _ _
    | with_reducible assumption
    | with_reducible refine (k_modTl ..).step (by decide) ?_
    | split

/-- `execTotSaturation` changes at most: tl. -/
theorem k_execTotSaturation (port : Nat) (ch : Nat) (s : State) : Keeps 32 s (stateOf s (execTotSaturation port ch s)) := by
  unfold execTotSaturation
  repeat' first
    | with_reducible refine Keeps.next ?_
    | with_reducible exact Keeps.refl _ _
    | with_reducible assumption
    | with_reducible refine (k_modTl ..).step (by decide) ?_
    | split

/-- `execHitWordComplete` changes at most: tl. -/
theorem k_execHitWordComplete (port : Nat) (ch : Nat) (s : State) : Keeps 32 s (stateOf s (execHitWordComplete port ch s)) := by
  unfold execHitWordComplete
  repeat' first
    | with_reducible refine Keeps.next ?_
    | with_reducible exact Keeps.refl _ _
    | with_reducible assumption
    | with_reducible refine (k_modTl ..).step (by decide) ?_
    | split

/-- `execChannelRearm` changes at most: tl. -/
theorem k_execChannelRearm (port : Nat) (ch : Nat) (s : State) : Keeps 32 s (stateOf s (execChannelRearm port ch s)) := by
  unfold execChannelRearm
  repeat' first
    | with_reducible refine Keeps.next ?_
    | with_reducible exact Keeps.refl _ _
    | with_reducible assumption
    | with_reducible refine (k_modTl ..).step (by decide) ?_
    | with_reducible refine Keeps.ite ?_ ?_
    | split

/-- `execClampEngage` changes at most: tl. -/
theorem k_execClampEngage (port : Nat) (ch : Nat) (s : State) : Keeps 32 s (stateOf s (execClampEngage port ch s)) := by
  unfold execClampEngage
  repeat' first
    | with_reducible refine Keeps.next ?_
    | with_reducible exact Keeps.refl _ _
    | with_reducible assumption
    | with_reducible refine (k_modTl ..).step (by decide) ?_
    | split

/-- `execClampRelease` changes at most: tl. -/
theorem k_execClampRelease (port : Nat) (ch : Nat) (s : State) : Keeps 32 s (stateOf s (execClampRelease port ch s)) := by
  unfold execClampRelease
  repeat' first
    | with_reducible refine Keeps.next ?_
    | with_reducible exact Keeps.refl _ _
    | with_reducible assumption
    | with_reducible refine (k_modTl ..).step (by decide) ?_
    | split

/-- `execChCfgWrite` changes at most: tl. -/
theorem k_execChCfgWrite (port : Nat) (ch : Nat) (value : Nat) (s : State) : Keeps 32 s (stateOf s (execChCfgWrite port ch value s)) := by
  unfold execChCfgWrite
  repeat' first
    | with_reducible refine Keeps.next ?_
    | with_reducible exact Keeps.refl _ _
    | with_reducible assumption
    | with_reducible refine (k_modTl ..).step (by decide) ?_
    | split

/-- `execChThrWrite` changes at most: tl. -/
theorem k_execChThrWrite (port : Nat) (ch : Nat) (value : Nat) (s : State) : Keeps 32 s (stateOf s (execChThrWrite port ch value s)) := by
  unfold execChThrWrite
  repeat' first
    | with_reducible refine Keeps.next ?_
    | with_reducible exact Keeps.refl _ _
    | with_reducible assumption
    | with_reducible refine (k_modTl ..).step (by decide) ?_
    | split

/-- `execSettlingEnd` changes at most: tl. -/
theorem k_execSettlingEnd (port : Nat) (ch : Nat) (s : State) : Keeps 32 s (stateOf s (execSettlingEnd port ch s)) := by
  unfold execSettlingEnd
  repeat' first
    | with_reducible refine Keeps.next ?_
    | with_reducible exact Keeps.refl _ _
    | with_reducible assumption
    | with_reducible refine (k_modTl ..).step (by decide) ?_
    | split

/-- `execConfigScrub` changes at most: tl. -/
theorem k_execConfigScrub (port : Nat) (n : Nat) (s : State) : Keeps 32 s (stateOf s (execConfigScrub port n s)) := by
  unfold execConfigScrub
  repeat' first
    | with_reducible refine Keeps.next ?_
    | with_reducible exact Keeps.refl _ _
    | with_reducible assumption
    | with_reducible refine (k_modTl ..).step (by decide) ?_
    | split

/-- `execIntervalStartEdge` changes at most: tl. -/
theorem k_execIntervalStartEdge (port : Nat) (g : Nat) (raw : Nat) (s : State) : Keeps 32 s (stateOf s (execIntervalStartEdge port g raw s)) := by
  unfold execIntervalStartEdge
  repeat' first
    | with_reducible refine Keeps.next ?_
    | with_reducible exact Keeps.refl _ _
    | with_reducible assumption
    | with_reducible refine (k_modTl ..).step (by decide) ?_
    | split

/-- `execIntervalStopEdge` changes at most: tl. -/
theorem k_execIntervalStopEdge (port : Nat) (ch : Nat) (raw : Nat) (s : State) : Keeps 32 s (stateOf s (execIntervalStopEdge port ch raw s)) := by
  unfold execIntervalStopEdge
  repeat' first
    | with_reducible refine Keeps.next ?_
    | with_reducible exact Keeps.refl _ _
    | with_reducible assumption
    | with_reducible refine (k_modTl ..).step (by decide) ?_
    | split

/-- `execIntervalTimeout` changes at most: tl. -/
theorem k_execIntervalTimeout (port : Nat) (g : Nat) (s : State) : Keeps 32 s (stateOf s (execIntervalTimeout port g s)) := by
  unfold execIntervalTimeout
  repeat' first
    | with_reducible refine Keeps.next ?_
    | with_reducible exact Keeps.refl _ _
    | with_reducible assumption
    | with_reducible refine (k_modTl ..).step (by decide) ?_
    | split

/-- `execChnIntWrite` changes at most: tl. -/
theorem k_execChnIntWrite (port : Nat) (addr : Nat) (value : Nat) (s : State) : Keeps 32 s (stateOf s (execChnIntWrite port addr value s)) := by
  unfold execChnIntWrite
  repeat' first
    | with_reducible refine Keeps.next ?_
    | with_reducible exact Keeps.refl _ _
    | with_reducible assumption
    | with_reducible refine (k_modTl ..).step (by decide) ?_
    | split

end Sys2Proof.Machine
end

