-- ==== Sys2Proof/Laws/KeepsExTlPaddock.lean ====
section
/-! SUPPORT. What the operations of Machine/TlPaddock.lean may change: the commands. -/

namespace Sys2Proof.Machine

open Sys2Proof

/-- `execHitQueueDrain` changes at most: tl. -/
theorem k_execHitQueueDrain (port : Nat) (g : Nat) (err : Nat) (s : State) : Keeps 32 s (stateOf s (execHitQueueDrain port g err s)) := by
  unfold execHitQueueDrain
  repeat' first
    | with_reducible refine Keeps.next ?_
    | with_reducible exact Keeps.refl _ _
    | with_reducible assumption
    | with_reducible refine (k_modTl ..).step (by decide) ?_
    | split

/-- `execSlotClose` changes at most: tl. -/
theorem k_execSlotClose (port : Nat) (slot : Nat) (corr : Nat) (bad : List Nat) (s : State) : Keeps 32 s (stateOf s (execSlotClose port slot corr bad s)) := by
  unfold execSlotClose
  repeat' first
    | with_reducible refine Keeps.next ?_
    | with_reducible exact Keeps.refl _ _
    | with_reducible assumption
    | with_reducible refine (k_modTl ..).step (by decide) ?_
    | split

/-- `execSlotRelease` changes at most: tl. -/
theorem k_execSlotRelease (port : Nat) (slot : Nat) (s : State) : Keeps 32 s (stateOf s (execSlotRelease port slot s)) := by
  unfold execSlotRelease
  repeat' first
    | with_reducible refine Keeps.next ?_
    | with_reducible exact Keeps.refl _ _
    | with_reducible assumption
    | with_reducible refine (k_modTl ..).step (by decide) ?_
    | split

/-- `execAcceptTakeEffect` changes at most: tl. -/
theorem k_execAcceptTakeEffect (port : Nat) (s : State) : Keeps 32 s (stateOf s (execAcceptTakeEffect port s)) := by
  unfold execAcceptTakeEffect
  repeat' first
    | with_reducible refine Keeps.next ?_
    | with_reducible exact Keeps.refl _ _
    | with_reducible assumption
    | with_reducible refine (k_modTl ..).step (by decide) ?_
    | split

/-- `execFragmentBuild` changes at most: tl. -/
theorem k_execFragmentBuild (port : Nat) (corr : Nat) (bad : List Nat) (s : State) : Keeps 32 s (stateOf s (execFragmentBuild port corr bad s)) := by
  unfold execFragmentBuild
  repeat' first
    | with_reducible refine Keeps.next ?_
    | with_reducible exact Keeps.refl _ _
    | with_reducible assumption
    | with_reducible refine (k_modTl ..).step (by decide) ?_
    | split

/-- `execTladonFrameBoundary` changes at most: tl. -/
theorem k_execTladonFrameBoundary (port : Nat) (s : State) : Keeps 32 s (stateOf s (execTladonFrameBoundary port s)) := by
  unfold execTladonFrameBoundary
  repeat' first
    | with_reducible refine Keeps.next ?_
    | with_reducible exact Keeps.refl _ _
    | with_reducible assumption
    | with_reducible refine (k_modTl ..).step (by decide) ?_
    | split

/-- `execPadCtrlWrite` changes at most: tl. -/
theorem k_execPadCtrlWrite (port : Nat) (hold : Bool) (s : State) : Keeps 32 s (stateOf s (execPadCtrlWrite port hold s)) := by
  unfold execPadCtrlWrite
  repeat' first
    | with_reducible refine Keeps.next ?_
    | with_reducible exact Keeps.refl _ _
    | with_reducible assumption
    | with_reducible refine (k_modTl ..).step (by decide) ?_
    | split

/-- `execPadHoldChange` changes at most: tl. -/
theorem k_execPadHoldChange (port : Nat) (s : State) : Keeps 32 s (stateOf s (execPadHoldChange port s)) := by
  unfold execPadHoldChange
  repeat' first
    | with_reducible refine Keeps.next ?_
    | with_reducible exact Keeps.refl _ _
    | with_reducible assumption
    | with_reducible refine (k_modTl ..).step (by decide) ?_
    | split

/-- `execPadConfigWrite` changes at most: tl. -/
theorem k_execPadConfigWrite (port : Nat) (addr : Nat) (value : Nat) (s : State) : Keeps 32 s (stateOf s (execPadConfigWrite port addr value s)) := by
  unfold execPadConfigWrite
  repeat' first
    | with_reducible refine Keeps.next ?_
    | with_reducible exact Keeps.refl _ _
    | with_reducible assumption
    | with_reducible refine (k_modTl ..).step (by decide) ?_
    | split

/-- `execPrimitiveForm` changes at most: tl. -/
theorem k_execPrimitiveForm (port : Nat) (slot : Nat) (s : State) : Keeps 32 s (stateOf s (execPrimitiveForm port slot s)) := by
  unfold execPrimitiveForm
  repeat' first
    | with_reducible refine Keeps.next ?_
    | with_reducible exact Keeps.refl _ _
    | with_reducible assumption
    | with_reducible refine (k_modTl ..).step (by decide) ?_
    | split

/-- `execPrimitiveWindow` changes at most: out, tl. -/
theorem k_execPrimitiveWindow (port : Nat) (slot : Nat) (s : State) : Keeps 40 s (stateOf s (execPrimitiveWindow port slot s)) := by
  unfold execPrimitiveWindow
  repeat' first
    | with_reducible refine Keeps.next ?_
    | with_reducible exact Keeps.refl _ _
    | with_reducible assumption
    | (extract_lets +onlyGivenNames x; refine Keeps.cut (m := 40) (s := s) (u := x) ?_ ?_; rotate_left; all_goals first | (intro _; clear_value x) | subst x)
    | (extract_lets +onlyGivenNames x; clear_value x)
    | with_reducible refine (k_emit ..).step (by decide) ?_
    | with_reducible refine (k_modTl ..).step (by decide) ?_
    | with_reducible refine Keeps.ite ?_ ?_
    | with_reducible refine Keeps.foldl _ ?_ (fun _ _ _ => ?_)
    | split

end Sys2Proof.Machine
end

