-- ==== Sys2Proof/Laws/KeepsExTlBus.lean ====
section
/-! SUPPORT. What the operations of Machine/TlBus.lean may change: the commands. -/

namespace Sys2Proof.Machine

open Sys2Proof

/-- `execLinkCfgWrite` changes at most: tl. -/
theorem k_execLinkCfgWrite (port : Nat) (value : Nat) (s : State) : Keeps 32 s (stateOf s (execLinkCfgWrite port value s)) := by
  unfold execLinkCfgWrite
  repeat' first
    | with_reducible refine Keeps.next ?_
    | with_reducible exact Keeps.refl _ _
    | with_reducible assumption
    | with_reducible refine (k_modTl ..).step (by decide) ?_
    | split

end Sys2Proof.Machine
end

