-- ==== Sys2Proof/Laws/KeepsExTlLinks.lean ====
section
/-! SUPPORT. What the operations of Machine/TlLinks.lean may change: the commands. -/

namespace Sys2Proof.Machine

open Sys2Proof

/-- `tlCmd` changes at most: freeCnt, tl. -/
theorem k_tlCmd (port : Nat) (f : Nat → Nat → Tladon → Tladon) (s : State) : Keeps 34 s (stateOf s (s.tlCmd port f)) :=
  Keeps.part (fun p hp => by cases p <;> first | rfl | exact absurd hp (by decide)) (.inl rfl) (.inl rfl)
    (List.prefix_refl _) (Nat.le_succ _)

/-- `execEpoch` changes at most: tl. -/
theorem k_execEpoch (port : Nat) (dl : Bool) (j : Nat) (s : State) : Keeps 32 s (stateOf s (execEpoch port dl j s)) := by
  unfold execEpoch
  repeat' first
    | with_reducible refine Keeps.next ?_
    | with_reducible exact Keeps.refl _ _
    | with_reducible assumption
    | with_reducible refine (k_modTl ..).step (by decide) ?_
    | split

/-- `execRegWrite` changes at most: freeCnt, tl. -/
theorem k_execRegWrite (port : Nat) (dl : Bool) (tag : Nat) (addr : Nat) (value : Nat) (s : State) : Keeps 34 s (stateOf s (execRegWrite port dl tag addr value s)) := by
  unfold execRegWrite
  repeat' first
    | with_reducible refine Keeps.next ?_
    | with_reducible refine (k_tlCmd ..).step (by decide) ?_
    | with_reducible exact Keeps.refl _ _
    | with_reducible assumption

/-- `execRegRead` changes at most: freeCnt, tl. -/
theorem k_execRegRead (port : Nat) (dl : Bool) (tag : Nat) (addr : Nat) (s : State) : Keeps 34 s (stateOf s (execRegRead port dl tag addr s)) := by
  unfold execRegRead
  repeat' first
    | with_reducible refine Keeps.next ?_
    | with_reducible refine (k_tlCmd ..).step (by decide) ?_
    | with_reducible exact Keeps.refl _ _
    | with_reducible assumption

/-- `execRegPeek` changes at most: freeCnt, tl. -/
theorem k_execRegPeek (port : Nat) (dl : Bool) (tag : Nat) (addr : Nat) (s : State) : Keeps 34 s (stateOf s (execRegPeek port dl tag addr s)) := by
  unfold execRegPeek
  repeat' first
    | with_reducible refine Keeps.next ?_
    | with_reducible refine (k_tlCmd ..).step (by decide) ?_
    | with_reducible exact Keeps.refl _ _
    | with_reducible assumption

/-- `execMonSweep` changes at most: tl. -/
theorem k_execMonSweep (port : Nat) (dl : Bool) (s : State) : Keeps 32 s (stateOf s (execMonSweep port dl s)) := by
  unfold execMonSweep
  repeat' first
    | with_reducible refine Keeps.next ?_
    | with_reducible exact Keeps.refl _ _
    | with_reducible assumption
    | with_reducible refine (k_modTl ..).step (by decide) ?_
    | split

/-- `execHold` changes at most: tl. -/
theorem k_execHold (port : Nat) (dl : Bool) (s : State) : Keeps 32 s (stateOf s (execHold port dl s)) := by
  unfold execHold
  repeat' first
    | with_reducible refine Keeps.next ?_
    | with_reducible exact Keeps.refl _ _
    | with_reducible assumption
    | with_reducible refine (k_modTl ..).step (by decide) ?_
    | split

/-- `execRelease` changes at most: tl. -/
theorem k_execRelease (port : Nat) (dl : Bool) (s : State) : Keeps 32 s (stateOf s (execRelease port dl s)) := by
  unfold execRelease
  repeat' first
    | with_reducible refine Keeps.next ?_
    | with_reducible exact Keeps.refl _ _
    | with_reducible assumption
    | with_reducible refine (k_modTl ..).step (by decide) ?_
    | split

/-- `execStateListen` changes at most: tl. -/
theorem k_execStateListen (port : Nat) (dl : Bool) (s : State) : Keeps 32 s (stateOf s (execStateListen port dl s)) := by
  unfold execStateListen
  repeat' first
    | with_reducible refine Keeps.next ?_
    | with_reducible exact Keeps.refl _ _
    | with_reducible assumption
    | with_reducible refine (k_modTl ..).step (by decide) ?_
    | split

/-- `execStateConfigure` changes at most: tl. -/
theorem k_execStateConfigure (port : Nat) (dl : Bool) (s : State) : Keeps 32 s (stateOf s (execStateConfigure port dl s)) := by
  unfold execStateConfigure
  repeat' first
    | with_reducible refine Keeps.next ?_
    | with_reducible exact Keeps.refl _ _
    | with_reducible assumption
    | with_reducible refine (k_modTl ..).step (by decide) ?_
    | split

/-- `execStateAcquire` changes at most: tl. -/
theorem k_execStateAcquire (port : Nat) (dl : Bool) (s : State) : Keeps 32 s (stateOf s (execStateAcquire port dl s)) := by
  unfold execStateAcquire
  repeat' first
    | with_reducible refine Keeps.next ?_
    | with_reducible exact Keeps.refl _ _
    | with_reducible assumption
    | with_reducible refine (k_modTl ..).step (by decide) ?_
    | split

/-- `execStateQuiet` changes at most: tl. -/
theorem k_execStateQuiet (port : Nat) (dl : Bool) (s : State) : Keeps 32 s (stateOf s (execStateQuiet port dl s)) := by
  unfold execStateQuiet
  repeat' first
    | with_reducible refine Keeps.next ?_
    | with_reducible exact Keeps.refl _ _
    | with_reducible assumption
    | with_reducible refine (k_modTl ..).step (by decide) ?_
    | split

/-- `execStateAcquireEffect` changes at most: tl. -/
theorem k_execStateAcquireEffect (port : Nat) (s : State) : Keeps 32 s (stateOf s (execStateAcquireEffect port s)) := by
  unfold execStateAcquireEffect
  repeat' first
    | with_reducible refine Keeps.next ?_
    | with_reducible exact Keeps.refl _ _
    | with_reducible assumption
    | with_reducible refine (k_modTl ..).step (by decide) ?_
    | split

/-- `execStateConfigureEffect` changes at most: tl. -/
theorem k_execStateConfigureEffect (port : Nat) (s : State) : Keeps 32 s (stateOf s (execStateConfigureEffect port s)) := by
  unfold execStateConfigureEffect
  repeat' first
    | with_reducible refine Keeps.next ?_
    | with_reducible exact Keeps.refl _ _
    | with_reducible assumption
    | with_reducible refine (k_modTl ..).step (by decide) ?_
    | split

/-- `execQuietPowerDown` changes at most: tl. -/
theorem k_execQuietPowerDown (port : Nat) (s : State) : Keeps 32 s (stateOf s (execQuietPowerDown port s)) := by
  unfold execQuietPowerDown
  repeat' first
    | with_reducible refine Keeps.next ?_
    | with_reducible exact Keeps.refl _ _
    | with_reducible assumption
    | with_reducible refine (k_modTl ..).step (by decide) ?_
    | split

/-- `execReset` changes at most: tl. -/
theorem k_execReset (port : Nat) (dl : Bool) (s : State) : Keeps 32 s (stateOf s (execReset port dl s)) := by
  unfold execReset
  repeat' first
    | with_reducible refine Keeps.next ?_
    | with_reducible exact Keeps.refl _ _
    | with_reducible assumption
    | with_reducible refine (k_modTl ..).step (by decide) ?_
    | split

/-- `execClaim` changes at most: tl. -/
theorem k_execClaim (port : Nat) (dl : Bool) (value : Nat) (s : State) : Keeps 32 s (stateOf s (execClaim port dl value s)) := by
  unfold execClaim
  repeat' first
    | with_reducible refine Keeps.next ?_
    | with_reducible exact Keeps.refl _ _
    | with_reducible assumption
    | with_reducible refine (k_modTl ..).step (by decide) ?_
    | split

/-- `execReplay` changes at most: tl. -/
theorem k_execReplay (port : Nat) (dl : Bool) (k : Nat) (num : Nat) (s : State) : Keeps 32 s (stateOf s (execReplay port dl k num s)) := by
  unfold execReplay
  repeat' first
    | with_reducible refine Keeps.next ?_
    | with_reducible exact Keeps.refl _ _
    | with_reducible assumption
    | with_reducible refine (k_modTl ..).step (by decide) ?_
    | split

/-- `execRelink` changes at most: tl. -/
theorem k_execRelink (port : Nat) (dl : Bool) (mask : Nat) (s : State) : Keeps 32 s (stateOf s (execRelink port dl mask s)) := by
  unfold execRelink
  repeat' first
    | with_reducible refine Keeps.next ?_
    | with_reducible exact Keeps.refl _ _
    | with_reducible assumption
    | with_reducible refine (k_modTl ..).step (by decide) ?_
    | split

/-- `execClaimExpiry` changes at most: tl. -/
theorem k_execClaimExpiry (port : Nat) (dl : Bool) (s : State) : Keeps 32 s (stateOf s (execClaimExpiry port dl s)) := by
  unfold execClaimExpiry
  repeat' first
    | with_reducible refine Keeps.next ?_
    | with_reducible exact Keeps.refl _ _
    | with_reducible assumption
    | with_reducible refine (k_modTl ..).step (by decide) ?_
    | split

/-- `execDownlinkCellRx` changes at most: freeCnt, tl. -/
theorem k_execDownlinkCellRx (port : Nat) (dl : Bool) (cell : Nat) (raw : Nat) (s : State) : Keeps 34 s (stateOf s (execDownlinkCellRx port dl cell raw s)) := by
  unfold execDownlinkCellRx
  repeat' first
    | with_reducible refine Keeps.next ?_
    | with_reducible refine (k_tlCmd ..).step (by decide) ?_
    | with_reducible exact Keeps.refl _ _
    | with_reducible assumption

/-- `execTladonDlCdrLock` changes at most: tl. -/
theorem k_execTladonDlCdrLock (port : Nat) (dl : Bool) (s : State) : Keeps 32 s (stateOf s (execTladonDlCdrLock port dl s)) := by
  unfold execTladonDlCdrLock
  repeat' first
    | with_reducible refine Keeps.next ?_
    | with_reducible exact Keeps.refl _ _
    | with_reducible assumption
    | with_reducible refine (k_modTl ..).step (by decide) ?_
    | with_reducible refine Keeps.ite ?_ ?_
    | split

/-- `execTladonDlCdrLoss` changes at most: tl. -/
theorem k_execTladonDlCdrLoss (port : Nat) (dl : Bool) (s : State) : Keeps 32 s (stateOf s (execTladonDlCdrLoss port dl s)) := by
  unfold execTladonDlCdrLoss
  repeat' first
    | with_reducible refine Keeps.next ?_
    | with_reducible exact Keeps.refl _ _
    | with_reducible assumption
    | with_reducible refine (k_modTl ..).step (by decide) ?_
    | with_reducible refine Keeps.ite ?_ ?_
    | split

/-- `execPoweredToListening` changes at most: tl. -/
theorem k_execPoweredToListening (port : Nat) (s : State) : Keeps 32 s (stateOf s (execPoweredToListening port s)) := by
  unfold execPoweredToListening
  repeat' first
    | with_reducible refine Keeps.next ?_
    | with_reducible exact Keeps.refl _ _
    | with_reducible assumption
    | with_reducible refine (k_modTl ..).step (by decide) ?_
    | with_reducible refine Keeps.ite ?_ ?_
    | split

/-- `execTladonPorRelease` changes at most: tl. -/
theorem k_execTladonPorRelease (port : Nat) (s : State) : Keeps 32 s (stateOf s (execTladonPorRelease port s)) := by
  unfold execTladonPorRelease
  repeat' first
    | with_reducible refine Keeps.next ?_
    | with_reducible exact Keeps.refl _ _
    | with_reducible assumption
    | with_reducible refine (k_modTl ..).step (by decide) ?_
    | with_reducible refine Keeps.ite ?_ ?_
    | split

/-- `execTladonRailDrop` changes at most: tl. -/
theorem k_execTladonRailDrop (port : Nat) (s : State) : Keeps 32 s (stateOf s (execTladonRailDrop port s)) := by
  unfold execTladonRailDrop
  repeat' first
    | with_reducible refine Keeps.next ?_
    | with_reducible exact Keeps.refl _ _
    | with_reducible assumption
    | with_reducible refine (k_modTl ..).step (by decide) ?_
    | split

/-- `execUplinkBlockSend` changes at most: out, tl. -/
theorem k_execUplinkBlockSend (port : Nat) (k : Nat) (offset : Nat) (s : State) : Keeps 40 s (stateOf s (execUplinkBlockSend port k offset s)) := by
  unfold execUplinkBlockSend
  repeat' first
    | with_reducible refine Keeps.next ?_
    | with_reducible exact Keeps.refl _ _
    | with_reducible assumption
    | (extract_lets +onlyGivenNames x; refine Keeps.cut (m := 40) (s := s) (u := x) ?_ ?_; rotate_left; all_goals first | (intro _; clear_value x) | subst x)
    | (extract_lets +onlyGivenNames x; clear_value x)
    | with_reducible refine (k_emit ..).step (by decide) ?_
    | with_reducible refine (k_modTl ..).step (by decide) ?_
    | with_reducible refine Keeps.ite ?_ ?_
    | with_reducible refine Keeps.foldl _ ?_ (fun _ _ _ => ?_)
    | split
    | with_reducible dsimp only

end Sys2Proof.Machine
end

