-- ==== Sys2Proof/Laws/KeepsExWnMem.lean ====
section
/-! SUPPORT. What the operations of Machine/WnMem.lean may change: the commands. -/

namespace Sys2Proof.Machine

open Sys2Proof

/-- `execGroomVisit` changes at most: wr, mem, mems. -/
theorem k_execGroomVisit (m : Nat) (flip : Nat) (path : Nat) (again : Nat) (s : State) : Keeps 8389136 s (stateOf s (execGroomVisit m flip path again s)) := by
  unfold execGroomVisit
  repeat' first
    | with_reducible refine Keeps.next ?_
    | with_reducible exact Keeps.refl _ _
    | with_reducible assumption
    | with_reducible refine (k_groomVisit ..).step (by decide) ?_
    | split

/-- `execGroomConfirmVisit` changes at most: wr, mem, mems. -/
theorem k_execGroomConfirmVisit (flip : Nat) (path : Nat) (again : Nat) (s : State) : Keeps 8389136 s (stateOf s (execGroomConfirmVisit flip path again s)) := by
  unfold execGroomConfirmVisit
  repeat' first
    | with_reducible refine Keeps.next ?_
    | with_reducible exact Keeps.refl _ _
    | with_reducible assumption
    | with_reducible refine (k_groomConfirm ..).step (by decide) ?_
    | split

/-- `execMemFarDataWrite` changes at most: wr, mems. -/
theorem k_execMemFarDataWrite (value : Nat) (s : State) : Keeps 8388624 s (stateOf s (execMemFarDataWrite value s)) := by
  unfold execMemFarDataWrite
  repeat' first
    | with_reducible refine Keeps.next ?_
    | with_reducible exact Keeps.refl _ _
    | with_reducible assumption
    | with_reducible refine (k_writeFar ..).step (by decide) ?_
    | split

/-- `execMemLogRead` changes at most: wr, mems. -/
theorem k_execMemLogRead (s : State) : Keeps 8388624 s (stateOf s (execMemLogRead s)) := by
  unfold execMemLogRead
  repeat' first
    | with_reducible refine Keeps.next ?_
    | with_reducible exact Keeps.refl _ _
    | with_reducible assumption
    | with_reducible refine (k_readLog ..).step (by decide) ?_

/-- `execGroomEnWrite` changes at most: wr. -/
theorem k_execGroomEnWrite (en : Bool) (s : State) : Keeps 16 s (stateOf s (execGroomEnWrite en s)) := by
  unfold execGroomEnWrite
  repeat' first
    | with_reducible refine Keeps.next ?_
    | with_reducible exact Keeps.refl _ _
    | with_reducible assumption
    | with_reducible refine (k_wset ..).step (by decide) ?_
    | split

end Sys2Proof.Machine
end

