-- ==== Sys2Proof/Laws/KeepsExWnSch.lean ====
section
/-! SUPPORT. What the operations of Machine/WnSch.lean may change: the commands. -/

namespace Sys2Proof.Machine

open Sys2Proof

/-- `execSchSetflagWrite` changes at most: wr, sch. -/
theorem k_execSchSetflagWrite (value : Nat) (s : State) : Keeps 32784 s (stateOf s (execSchSetflagWrite value s)) := by
  unfold execSchSetflagWrite
  repeat' first
    | with_reducible refine Keeps.next ?_
    | with_reducible exact Keeps.refl _ _
    | with_reducible assumption
    | with_reducible refine (k_setFlag ..).step (by decide) ?_
    | split

/-- `execUnitEventRoute` changes at most: wr, sch. -/
theorem k_execUnitEventRoute (e : Nat) (s : State) : Keeps 32784 s (stateOf s (execUnitEventRoute e s)) := by
  unfold execUnitEventRoute
  repeat' first
    | with_reducible refine Keeps.next ?_
    | with_reducible exact Keeps.refl _ _
    | with_reducible assumption
    | with_reducible refine (k_setFlag ..).step (by decide) ?_
    | with_reducible refine Keeps.ite ?_ ?_
    | split

/-- `execSchPost` changes at most: wr, sch. -/
theorem k_execSchPost (value : Nat) (s : State) : Keeps 32784 s (stateOf s (execSchPost value s)) := by
  unfold execSchPost
  repeat' first
    | with_reducible refine Keeps.next ?_
    | with_reducible exact Keeps.refl _ _
    | with_reducible assumption
    | with_reducible refine (k_post ..).step (by decide) ?_
    | split

/-- `execSchReserve` changes at most: sch. -/
theorem k_execSchReserve (s : State) : Keeps 32768 s (stateOf s (execSchReserve s)) := by
  unfold execSchReserve
  repeat' first
    | with_reducible refine Keeps.next ?_
    | with_reducible exact Keeps.refl _ _
    | with_reducible assumption
    | with_reducible refine (k_reserveAll ..).step (by decide) ?_

/-- `execSchNextRead` changes at most: wr, sch. -/
theorem k_execSchNextRead (core : Nat) (s : State) : Keeps 32784 s (stateOf s (execSchNextRead core s)) := by
  unfold execSchNextRead
  repeat' first
    | with_reducible refine Keeps.next ?_
    | with_reducible exact Keeps.refl _ _
    | with_reducible assumption
    | with_reducible refine (k_claim ..).step (by decide) ?_
    | split

/-- `execSchEndWrite` changes at most: wr, sch. -/
theorem k_execSchEndWrite (core : Nat) (s : State) : Keeps 32784 s (stateOf s (execSchEndWrite core s)) := by
  unfold execSchEndWrite
  repeat' first
    | with_reducible refine Keeps.next ?_
    | with_reducible exact Keeps.refl _ _
    | with_reducible assumption
    | with_reducible refine (k_endItem ..).step (by decide) ?_
    | split

/-- `execSchNopreemptWrite` changes at most: wr, sch. -/
theorem k_execSchNopreemptWrite (core : Nat) (v : Bool) (s : State) : Keeps 32784 s (stateOf s (execSchNopreemptWrite core v s)) := by
  unfold execSchNopreemptWrite
  repeat' first
    | with_reducible refine Keeps.next ?_
    | with_reducible exact Keeps.refl _ _
    | with_reducible assumption
    | with_reducible refine (k_writeNp ..).step (by decide) ?_
    | split

/-- `execNpSpanOver` changes at most: wr. -/
theorem k_execNpSpanOver (core : Nat) (s : State) : Keeps 16 s (stateOf s (execNpSpanOver core s)) := by
  unfold execNpSpanOver
  repeat' first
    | with_reducible refine Keeps.next ?_
    | with_reducible exact Keeps.refl _ _
    | with_reducible assumption
    | with_reducible refine (k_wsets ..).step (by decide) ?_
    | with_reducible refine Keeps.ite ?_ ?_
    | split

/-- `execSchCoreCtrlWrite` changes at most: wr, sch. -/
theorem k_execSchCoreCtrlWrite (core : Nat) (value : Nat) (s : State) : Keeps 32784 s (stateOf s (execSchCoreCtrlWrite core value s)) := by
  unfold execSchCoreCtrlWrite
  repeat' first
    | with_reducible refine Keeps.next ?_
    | with_reducible exact Keeps.refl _ _
    | with_reducible assumption
    | with_reducible refine (k_writeCoreCtrl ..).step (by decide) ?_
    | split

/-- `execSchTaskDisable` changes at most: wr, sch. -/
theorem k_execSchTaskDisable (task : Nat) (s : State) : Keeps 32784 s (stateOf s (execSchTaskDisable task s)) := by
  unfold execSchTaskDisable
  repeat' first
    | with_reducible refine Keeps.next ?_
    | with_reducible exact Keeps.refl _ _
    | with_reducible assumption
    | with_reducible refine (k_disableTask ..).step (by decide) ?_
    | split

/-- `execSpillRefill` changes at most: freeCnt, wr, sch, mems. -/
theorem k_execSpillRefill (level : Nat) (lost : Bool) (s : State) : Keeps 8421394 s (stateOf s (execSpillRefill level lost s)) := by
  unfold execSpillRefill
  repeat' first
    | with_reducible refine Keeps.next ?_
    | with_reducible exact Keeps.refl _ _
    | with_reducible assumption
    | with_reducible refine (k_refill ..).step (by decide) ?_
    | split

/-- `execItemAgeStep` changes at most: wr, sch. -/
theorem k_execItemAgeStep (level : Nat) (s : State) : Keeps 32784 s (stateOf s (execItemAgeStep level s)) := by
  unfold execItemAgeStep
  repeat' first
    | with_reducible refine Keeps.next ?_
    | with_reducible exact Keeps.refl _ _
    | with_reducible assumption
    | with_reducible refine (k_ageStep ..).step (by decide) ?_
    | split

/-- `execPeriodicSlotEnable` changes at most: wr, sch. -/
theorem k_execPeriodicSlotEnable (k : Nat) (value : Nat) (s : State) : Keeps 32784 s (stateOf s (execPeriodicSlotEnable k value s)) := by
  unfold execPeriodicSlotEnable
  repeat' first
    | with_reducible refine Keeps.next ?_
    | with_reducible exact Keeps.refl _ _
    | with_reducible assumption
    | with_reducible refine (k_writePeriodic ..).step (by decide) ?_
    | split

/-- `execPeriodicRelease` changes at most: wr, sch. -/
theorem k_execPeriodicRelease (k : Nat) (s : State) : Keeps 32784 s (stateOf s (execPeriodicRelease k s)) := by
  unfold execPeriodicRelease
  repeat' first
    | with_reducible refine Keeps.next ?_
    | with_reducible exact Keeps.refl _ _
    | with_reducible assumption
    | with_reducible refine (k_release ..).step (by decide) ?_
    | split

/-- `execDeadlineMiss` changes at most: wr, sch. -/
theorem k_execDeadlineMiss (k : Nat) (s : State) : Keeps 32784 s (stateOf s (execDeadlineMiss k s)) := by
  unfold execDeadlineMiss
  repeat' first
    | with_reducible refine Keeps.next ?_
    | with_reducible exact Keeps.refl _ _
    | with_reducible assumption
    | with_reducible refine (k_deadlineMiss ..).step (by decide) ?_
    | split

/-- `execStandstill` changes at most: wr, sch. -/
theorem k_execStandstill (s : State) : Keeps 32784 s (stateOf s (execStandstill s)) := by
  unfold execStandstill
  repeat' first
    | with_reducible refine Keeps.next ?_
    | with_reducible exact Keeps.refl _ _
    | with_reducible assumption
    | with_reducible refine (k_standstill ..).step (by decide) ?_

/-- `execMtimeTimerInterrupt` changes at most: cores. -/
theorem k_execMtimeTimerInterrupt (core : Nat) (s : State) : Keeps 65536 s (stateOf s (execMtimeTimerInterrupt core s)) := by
  unfold execMtimeTimerInterrupt
  repeat' first
    | with_reducible refine Keeps.next ?_
    | with_reducible exact Keeps.refl _ _
    | with_reducible assumption
    | with_reducible refine (k_timerCheck ..).step (by decide) ?_
    | split

/-- `execMtimecmpWrite` changes at most: wr, cores. -/
theorem k_execMtimecmpWrite (core : Nat) (hi : Bool) (value : Nat) (s : State) : Keeps 65552 s (stateOf s (execMtimecmpWrite core hi value s)) := by
  unfold execMtimecmpWrite
  repeat' first
    | with_reducible refine Keeps.next ?_
    | with_reducible exact Keeps.refl _ _
    | with_reducible assumption
    | with_reducible refine (k_timerCheck ..).step (by decide) ?_
    | with_reducible refine (k_wset ..).step (by decide) ?_
    | with_reducible refine Keeps.ite ?_ ?_
    | split

/-- `execSchMsipWrite` changes at most: wr, cores. -/
theorem k_execSchMsipWrite (value : Nat) (s : State) : Keeps 65552 s (stateOf s (execSchMsipWrite value s)) := by
  unfold execSchMsipWrite
  repeat' first
    | with_reducible refine Keeps.next ?_
    | with_reducible exact Keeps.refl _ _
    | with_reducible assumption
    | with_reducible refine (k_writeMsip ..).step (by decide) ?_
    | split

/-- `execSchWindowPublish` changes at most: wr, sch. -/
theorem k_execSchWindowPublish (sec : Bool) (s : State) : Keeps 32784 s (stateOf s (execSchWindowPublish sec s)) := by
  unfold execSchWindowPublish
  repeat' first
    | with_reducible refine Keeps.next ?_
    | with_reducible exact Keeps.refl _ _
    | with_reducible assumption
    | with_reducible refine (k_publish ..).step (by decide) ?_
    | split

end Sys2Proof.Machine
end

