-- ==== Sys2Proof/Laws/KeepsExWnQueue.lean ====
section
/-! SUPPORT. What the operations of Machine/WnQueue.lean may change: the commands. -/

namespace Sys2Proof.Machine

open Sys2Proof

/-- `execQueueWrite` changes at most: out, wr, sch, queues, can. -/
theorem k_execQueueWrite (n : Nat) (data : Nat) (eop : Bool) (bad : Bool) (s : State) : Keeps 33718296 s (stateOf s (execQueueWrite n data eop bad s)) := by
  unfold execQueueWrite
  repeat' first
    | with_reducible refine Keeps.next ?_
    | with_reducible exact Keeps.refl _ _
    | with_reducible assumption
    | with_reducible refine (k_offer ..).step (by decide) ?_
    | split

/-- `execQueueRead` changes at most: out, wr, sch, queues, can. -/
theorem k_execQueueRead (n : Nat) (err : Nat) (s : State) : Keeps 33718296 s (stateOf s (execQueueRead n err s)) := by
  unfold execQueueRead
  repeat' first
    | with_reducible refine Keeps.next ?_
    | with_reducible exact Keeps.refl _ _
    | with_reducible assumption
    | (extract_lets +onlyGivenNames x; refine Keeps.cut (m := 33718296) (s := s) (u := x) ?_ ?_; rotate_left; all_goals first | (intro _; clear_value x) | subst x)
    | (extract_lets +onlyGivenNames x; clear_value x)
    | with_reducible refine (k_readQData ..).step (by decide) ?_
    | with_reducible refine (k_emit ..).step (by decide) ?_
    | with_reducible refine Keeps.ite ?_ ?_
    | split
    | with_reducible refine Keeps.ofThd (by assumption) ?_
    | with_reducible refine (k_pop ..).step (by decide) ?_
    | with_reducible dsimp only

/-- `execQueueFlush` changes at most: wr, sch, queues. -/
theorem k_execQueueFlush (n : Nat) (s : State) : Keeps 163856 s (stateOf s (execQueueFlush n s)) := by
  unfold execQueueFlush
  repeat' first
    | with_reducible refine Keeps.next ?_
    | with_reducible exact Keeps.refl _ _
    | with_reducible assumption
    | with_reducible refine (k_flush ..).step (by decide) ?_
    | with_reducible refine Keeps.ite ?_ ?_
    | split

/-- `execQueueStagedWrite` changes at most: wr, sch, queues. -/
theorem k_execQueueStagedWrite (n : Nat) (v : Bool) (s : State) : Keeps 163856 s (stateOf s (execQueueStagedWrite n v s)) := by
  unfold execQueueStagedWrite
  repeat' first
    | with_reducible refine Keeps.next ?_
    | with_reducible exact Keeps.refl _ _
    | with_reducible assumption
    | with_reducible refine (k_writeStaged ..).step (by decide) ?_
    | with_reducible refine Keeps.ite ?_ ?_
    | split

end Sys2Proof.Machine
end

