-- ==== Sys2Proof/Laws/KeepsExWnTime.lean ====
section
/-! SUPPORT. What the operations of Machine/WnTime.lean may change: the commands. -/

namespace Sys2Proof.Machine

open Sys2Proof

/-- `execWonanFrameBoundary` changes at most: out, wr, mer, pair. -/
theorem k_execWonanFrameBoundary (span : Nat) (meas : Nat) (loop : Nat) (s : State) : Keeps 525336 s (stateOf s (execWonanFrameBoundary span meas loop s)) := by
  unfold execWonanFrameBoundary
  repeat' first
    | with_reducible refine Keeps.next ?_
    | with_reducible exact Keeps.refl _ _
    | with_reducible assumption
    | with_reducible refine (k_frameBoundary ..).step (by decide) ?_
    | with_reducible refine Keeps.ite ?_ ?_
    | split

/-- `execMerStepApply` changes at most: out, wr, mer, pair. -/
theorem k_execMerStepApply (s : State) : Keeps 525336 s (stateOf s (execMerStepApply s)) := by
  unfold execMerStepApply
  repeat' first
    | with_reducible refine Keeps.next ?_
    | with_reducible exact Keeps.refl _ _
    | with_reducible assumption
    | (extract_lets +onlyGivenNames x; refine Keeps.cut (m := 525336) (s := s) (u := x) ?_ ?_; rotate_left; all_goals first | (intro _; clear_value x) | subst x)
    | (extract_lets +onlyGivenNames x; clear_value x)
    | with_reducible refine (k_applyStep ..).step (by decide) ?_
    | with_reducible refine (k_frameBoundary ..).step (by decide) ?_
    | with_reducible refine Keeps.ite ?_ ?_
    | split

/-- `execMerRateHiWrite` changes at most: mer. -/
theorem k_execMerRateHiWrite (value : Nat) (s : State) : Keeps 1024 s (stateOf s (execMerRateHiWrite value s)) := by
  unfold execMerRateHiWrite
  repeat' first
    | with_reducible refine Keeps.next ?_
    | with_reducible exact Keeps.refl _ _
    | with_reducible assumption
    | with_reducible refine (k_writeRateHi ..).step (by decide) ?_
    | split

/-- `execMerAdjWrite` changes at most: wr, mer. -/
theorem k_execMerAdjWrite (value : Nat) (s : State) : Keeps 1040 s (stateOf s (execMerAdjWrite value s)) := by
  unfold execMerAdjWrite
  repeat' first
    | with_reducible refine Keeps.next ?_
    | with_reducible exact Keeps.refl _ _
    | with_reducible assumption
    | with_reducible refine (k_writeAdj ..).step (by decide) ?_
    | split

/-- `execAdjCancel` changes at most: wr, mer. -/
theorem k_execAdjCancel (s : State) : Keeps 1040 s (stateOf s (execAdjCancel s)) := by
  unfold execAdjCancel
  repeat' first
    | with_reducible refine Keeps.next ?_
    | with_reducible exact Keeps.refl _ _
    | with_reducible assumption
    | with_reducible refine (k_adjCancel ..).step (by decide) ?_

/-- `execMerStep` changes at most: mer. -/
theorem k_execMerStep (s : State) : Keeps 1024 s (stateOf s (execMerStep s)) := by
  unfold execMerStep
  repeat' first
    | with_reducible refine Keeps.next ?_
    | with_reducible exact Keeps.refl _ _
    | with_reducible assumption
    | with_reducible refine (k_writeStep ..).step (by decide) ?_

/-- `execMerStepNsWrite` changes at most: wr. -/
theorem k_execMerStepNsWrite (value : Nat) (s : State) : Keeps 16 s (stateOf s (execMerStepNsWrite value s)) := by
  unfold execMerStepNsWrite
  repeat' first
    | with_reducible refine Keeps.next ?_
    | with_reducible exact Keeps.refl _ _
    | with_reducible assumption
    | with_reducible refine (k_writeStepNs ..).step (by decide) ?_
    | split

/-- `execMerLock` changes at most: wr, mer. -/
theorem k_execMerLock (refOk : Bool) (s : State) : Keeps 1040 s (stateOf s (execMerLock refOk s)) := by
  unfold execMerLock
  repeat' first
    | with_reducible refine Keeps.next ?_
    | with_reducible exact Keeps.refl _ _
    | with_reducible assumption
    | with_reducible refine (k_lock ..).step (by decide) ?_
    | with_reducible refine (k_modMer ..).step (by decide) ?_

/-- `execMerRelock` changes at most: wr, mer. -/
theorem k_execMerRelock (refOk : Bool) (s : State) : Keeps 1040 s (stateOf s (execMerRelock refOk s)) := by
  unfold execMerRelock
  repeat' first
    | with_reducible refine Keeps.next ?_
    | with_reducible exact Keeps.refl _ _
    | with_reducible assumption
    | with_reducible refine (k_relock ..).step (by decide) ?_
    | with_reducible refine (k_modMer ..).step (by decide) ?_

/-- `execMerSrcWrite` changes at most: wr, mer. -/
theorem k_execMerSrcWrite (src : Nat) (s : State) : Keeps 1040 s (stateOf s (execMerSrcWrite src s)) := by
  unfold execMerSrcWrite
  repeat' first
    | with_reducible refine Keeps.next ?_
    | with_reducible exact Keeps.refl _ _
    | with_reducible assumption
    | with_reducible refine (k_writeSrc ..).step (by decide) ?_
    | split

/-- `execSyncLost` changes at most: wr, mer. -/
theorem k_execSyncLost (s : State) : Keeps 1040 s (stateOf s (execSyncLost s)) := by
  unfold execSyncLost
  repeat' first
    | with_reducible refine Keeps.next ?_
    | with_reducible exact Keeps.refl _ _
    | with_reducible assumption
    | with_reducible refine (k_loss ..).step (by decide) ?_
    | with_reducible refine (k_modMer ..).step (by decide) ?_
    | with_reducible refine Keeps.ite ?_ ?_
    | split

/-- `execMerPtpParentPortWrite` changes at most: wr, mer. -/
theorem k_execMerPtpParentPortWrite (value : Nat) (s : State) : Keeps 1040 s (stateOf s (execMerPtpParentPortWrite value s)) := by
  unfold execMerPtpParentPortWrite
  repeat' first
    | with_reducible refine Keeps.next ?_
    | with_reducible exact Keeps.refl _ _
    | with_reducible assumption
    | with_reducible refine (k_commitParent ..).step (by decide) ?_
    | split

/-- `execSynceLost` changes at most: wr, mer. -/
theorem k_execSynceLost (s : State) : Keeps 1040 s (stateOf s (execSynceLost s)) := by
  unfold execSynceLost
  repeat' first
    | with_reducible refine Keeps.next ?_
    | with_reducible exact Keeps.refl _ _
    | with_reducible assumption
    | with_reducible refine (k_loss ..).step (by decide) ?_
    | with_reducible refine (k_modMer ..).step (by decide) ?_
    | split

/-- `execRefLost` changes at most: wr, mer. -/
theorem k_execRefLost (s : State) : Keeps 1040 s (stateOf s (execRefLost s)) := by
  unfold execRefLost
  repeat' first
    | with_reducible refine Keeps.next ?_
    | with_reducible exact Keeps.refl _ _
    | with_reducible assumption
    | with_reducible refine (k_loss ..).step (by decide) ?_
    | with_reducible refine (k_modMer ..).step (by decide) ?_
    | split

/-- `execPpsInEdge` changes at most: mer. -/
theorem k_execPpsInEdge (fall : Bool) (fine : Nat) (s : State) : Keeps 1024 s (stateOf s (execPpsInEdge fall fine s)) := by
  unfold execPpsInEdge
  repeat' first
    | with_reducible refine Keeps.next ?_
    | with_reducible exact Keeps.refl _ _
    | with_reducible assumption
    | with_reducible refine (k_modMer ..).step (by decide) ?_
    | with_reducible refine Keeps.ite ?_ ?_
    | split

/-- `execPpsLost` changes at most: wr, mer. -/
theorem k_execPpsLost (s : State) : Keeps 1040 s (stateOf s (execPpsLost s)) := by
  unfold execPpsLost
  repeat' first
    | with_reducible refine Keeps.next ?_
    | with_reducible exact Keeps.refl _ _
    | with_reducible assumption
    | with_reducible refine (k_loss ..).step (by decide) ?_
    | with_reducible refine (k_modMer ..).step (by decide) ?_
    | with_reducible refine Keeps.ite ?_ ?_
    | split

/-- `execPpsOutPulse` changes at most: out, mer. -/
theorem k_execPpsOutPulse (s : State) : Keeps 1032 s (stateOf s (execPpsOutPulse s)) := by
  unfold execPpsOutPulse
  repeat' first
    | with_reducible refine Keeps.next ?_
    | with_reducible exact Keeps.refl _ _
    | with_reducible assumption
    | with_reducible refine (k_modMer ..).step (by decide) ?_
    | with_reducible refine (k_emitPin ..).step (by decide) ?_
    | with_reducible refine Keeps.ite ?_ ?_
    | split

/-- `execTxStampCapture` changes at most: wr, mer. -/
theorem k_execTxStampCapture (port : Nat) (id : Nat) (fine : Nat) (s : State) : Keeps 1040 s (stateOf s (execTxStampCapture port id fine s)) := by
  unfold execTxStampCapture
  repeat' first
    | with_reducible refine Keeps.next ?_
    | with_reducible exact Keeps.refl _ _
    | with_reducible assumption
    | with_reducible refine (k_txArrive ..).step (by decide) ?_
    | split

/-- `execMerTxtsIdRead` changes at most: wr, mer. -/
theorem k_execMerTxtsIdRead (s : State) : Keeps 1040 s (stateOf s (execMerTxtsIdRead s)) := by
  unfold execMerTxtsIdRead
  repeat' first
    | with_reducible refine Keeps.next ?_
    | with_reducible exact Keeps.refl _ _
    | with_reducible assumption
    | with_reducible refine (k_txRead ..).step (by decide) ?_

/-- `execTxStampAgeOut` changes at most: wr, mer. -/
theorem k_execTxStampAgeOut (s : State) : Keeps 1040 s (stateOf s (execTxStampAgeOut s)) := by
  unfold execTxStampAgeOut
  repeat' first
    | with_reducible refine Keeps.next ?_
    | with_reducible exact Keeps.refl _ _
    | with_reducible assumption
    | with_reducible refine (k_txAgeOut ..).step (by decide) ?_

/-- `execAlarmArm` changes at most: wr, mer. -/
theorem k_execAlarmArm (n : Nat) (value : Nat) (s : State) : Keeps 1040 s (stateOf s (execAlarmArm n value s)) := by
  unfold execAlarmArm
  repeat' first
    | with_reducible refine Keeps.next ?_
    | with_reducible exact Keeps.refl _ _
    | with_reducible assumption
    | with_reducible refine (k_writeAlmCtrl ..).step (by decide) ?_
    | split

/-- `execMerAlarmParamWrite` changes at most: wr. -/
theorem k_execMerAlarmParamWrite (n : Nat) (reg : Nat) (value : Nat) (s : State) : Keeps 16 s (stateOf s (execMerAlarmParamWrite n reg value s)) := by
  unfold execMerAlarmParamWrite
  repeat' first
    | with_reducible refine Keeps.next ?_
    | with_reducible exact Keeps.refl _ _
    | with_reducible assumption
    | with_reducible refine (k_writeAlmParam ..).step (by decide) ?_
    | with_reducible refine Keeps.ite ?_ ?_
    | split

end Sys2Proof.Machine
end

