-- ==== Sys2Proof/Laws/KeepsExWnTri.lean ====
section
/-! SUPPORT. What the operations of Machine/WnTri.lean may change: the commands. -/

namespace Sys2Proof.Machine

open Sys2Proof

/-- `execMarkerSend` changes at most: out, tri. -/
theorem k_execMarkerSend (port : Nat) (s : State) : Keeps 2056 s (stateOf s (execMarkerSend port s)) := by
  unfold execMarkerSend
  repeat' first
    | with_reducible refine Keeps.next ?_
    | with_reducible exact Keeps.refl _ _
    | with_reducible assumption
    | (extract_lets +onlyGivenNames x; refine Keeps.cut (m := 2056) (s := s) (u := x) ?_ ?_; rotate_left; all_goals first | (intro _; clear_value x) | subst x)
    | (extract_lets +onlyGivenNames x; clear_value x)
    | with_reducible refine (k_modTri ..).step (by decide) ?_
    | with_reducible refine (k_emit ..).step (by decide) ?_
    | with_reducible refine Keeps.ite ?_ ?_
    | split

/-- `execTriStampRx` changes at most: out, wr, tri, pair. -/
theorem k_execTriStampRx (port : Nat) (dl : Bool) (num : Nat) (tick : Nat) (fine : Nat) (s : State) : Keeps 526360 s (stateOf s (execTriStampRx port dl num tick fine s)) := by
  unfold execTriStampRx
  repeat' first
    | with_reducible refine Keeps.next ?_
    | with_reducible exact Keeps.refl _ _
    | with_reducible assumption
    | with_reducible refine (k_triStamp ..).step (by decide) ?_
    | with_reducible refine Keeps.ite ?_ ?_
    | split

/-- `execTriStampMissed` changes at most: wr, tri. -/
theorem k_execTriStampMissed (port : Nat) (num : Nat) (s : State) : Keeps 2064 s (stateOf s (execTriStampMissed port num s)) := by
  unfold execTriStampMissed
  repeat' first
    | with_reducible refine Keeps.next ?_
    | with_reducible exact Keeps.refl _ _
    | with_reducible assumption
    | with_reducible refine (k_modTri ..).step (by decide) ?_
    | with_reducible refine (k_wadd ..).step (by decide) ?_
    | with_reducible refine Keeps.ite ?_ ?_
    | split

/-- `execTriCtrlWrite` changes at most: wr, tri. -/
theorem k_execTriCtrlWrite (port : Nat) (value : Nat) (s : State) : Keeps 2064 s (stateOf s (execTriCtrlWrite port value s)) := by
  unfold execTriCtrlWrite
  repeat' first
    | with_reducible refine Keeps.next ?_
    | with_reducible exact Keeps.refl _ _
    | with_reducible assumption
    | with_reducible refine (k_writeTriCtrl ..).step (by decide) ?_
    | split

/-- `execTriAlphaWrite` changes at most: wr, tri. -/
theorem k_execTriAlphaWrite (port : Nat) (value : Nat) (s : State) : Keeps 2064 s (stateOf s (execTriAlphaWrite port value s)) := by
  unfold execTriAlphaWrite
  repeat' first
    | with_reducible refine Keeps.next ?_
    | with_reducible exact Keeps.refl _ _
    | with_reducible assumption
    | with_reducible refine (k_writeTriParam ..).step (by decide) ?_
    | split

/-- `execTriKdownWrite` changes at most: wr, tri. -/
theorem k_execTriKdownWrite (port : Nat) (value : Nat) (s : State) : Keeps 2064 s (stateOf s (execTriKdownWrite port value s)) := by
  unfold execTriKdownWrite
  repeat' first
    | with_reducible refine Keeps.next ?_
    | with_reducible exact Keeps.refl _ _
    | with_reducible assumption
    | with_reducible refine (k_writeTriParam ..).step (by decide) ?_
    | split

/-- `execTriKupWrite` changes at most: wr, tri. -/
theorem k_execTriKupWrite (port : Nat) (value : Nat) (s : State) : Keeps 2064 s (stateOf s (execTriKupWrite port value s)) := by
  unfold execTriKupWrite
  repeat' first
    | with_reducible refine Keeps.next ?_
    | with_reducible exact Keeps.refl _ _
    | with_reducible assumption
    | with_reducible refine (k_writeTriParam ..).step (by decide) ?_
    | split

/-- `execWalkTableWrite` changes at most: wr, mem. -/
theorem k_execWalkTableWrite (offset : Nat) (value : Nat) (s : State) : Keeps 528 s (stateOf s (execWalkTableWrite offset value s)) := by
  unfold execWalkTableWrite
  repeat' first
    | with_reducible refine Keeps.next ?_
    | with_reducible exact Keeps.refl _ _
    | with_reducible assumption
    | (extract_lets +onlyGivenNames x; refine Keeps.cut (m := 528) (s := s) (u := x) ?_ ?_; rotate_left; all_goals first | (intro _; clear_value x) | subst x)
    | (extract_lets +onlyGivenNames x; clear_value x)
    | with_reducible refine (k_walkRefused ..).step (by decide) ?_
    | with_reducible refine (k_store ..).step (by decide) ?_
    | with_reducible refine Keeps.ite ?_ ?_
    | split

end Sys2Proof.Machine
end

