-- ==== Sys2Proof/Laws/KeepsExWnMus.lean ====
section
/-! SUPPORT. What the operations of Machine/WnMus.lean may change: the commands. -/

namespace Sys2Proof.Machine

open Sys2Proof

/-- `execHitWordRx` changes at most: freeCnt, wr, mus, mems. -/
theorem k_execHitWordRx (lane : Nat) (word : Nat) (err : Bool) (s : State) : Keeps 9437202 s (stateOf s (execHitWordRx lane word err s)) := by
  unfold execHitWordRx
  repeat' first
    | with_reducible refine Keeps.next ?_
    | with_reducible exact Keeps.refl _ _
    | with_reducible assumption
    | with_reducible refine (k_streamWord ..).step (by decide) ?_
    | with_reducible refine (k_fragWord ..).step (by decide) ?_
    | with_reducible refine Keeps.ite ?_ ?_
    | split

/-- `execFragHeadRx` changes at most: wr, mus. -/
theorem k_execFragHeadRx (lane : Nat) (acc : Nat) (start : Nat) (s : State) : Keeps 1048592 s (stateOf s (execFragHeadRx lane acc start s)) := by
  unfold execFragHeadRx
  repeat' first
    | with_reducible refine Keeps.next ?_
    | with_reducible exact Keeps.refl _ _
    | with_reducible assumption
    | with_reducible refine (k_fragHead ..).step (by decide) ?_
    | with_reducible refine Keeps.ite ?_ ?_
    | split

/-- `execFragTailRx` changes at most: wr, mus. -/
theorem k_execFragTailRx (lane : Nat) (body : Nat) (s : State) : Keeps 1048592 s (stateOf s (execFragTailRx lane body s)) := by
  unfold execFragTailRx
  repeat' first
    | with_reducible refine Keeps.next ?_
    | with_reducible exact Keeps.refl _ _
    | with_reducible assumption
    | with_reducible refine (k_fragTail ..).step (by decide) ?_
    | with_reducible refine Keeps.ite ?_ ?_
    | split

/-- `execStreamHeadRx` changes at most: mus. -/
theorem k_execStreamHeadRx (lane : Nat) (frame : Nat) (s : State) : Keeps 1048576 s (stateOf s (execStreamHeadRx lane frame s)) := by
  unfold execStreamHeadRx
  repeat' first
    | with_reducible refine Keeps.next ?_
    | with_reducible exact Keeps.refl _ _
    | with_reducible assumption
    | with_reducible refine (k_streamHead ..).step (by decide) ?_
    | with_reducible refine Keeps.ite ?_ ?_
    | split

/-- `execStreamEndRx` changes at most: wr, mus. -/
theorem k_execStreamEndRx (lane : Nat) (body : Nat) (s : State) : Keeps 1048592 s (stateOf s (execStreamEndRx lane body s)) := by
  unfold execStreamEndRx
  repeat' first
    | with_reducible refine Keeps.next ?_
    | with_reducible exact Keeps.refl _ _
    | with_reducible assumption
    | with_reducible refine (k_streamEnd ..).step (by decide) ?_
    | with_reducible refine Keeps.ite ?_ ?_
    | split

/-- `execEventDeadline` changes at most: wr, mus. -/
theorem k_execEventDeadline (key : Nat) (s : State) : Keeps 1048592 s (stateOf s (execEventDeadline key s)) := by
  unfold execEventDeadline
  repeat' first
    | with_reducible refine Keeps.next ?_
    | with_reducible exact Keeps.refl _ _
    | with_reducible assumption
    | with_reducible refine (k_evDeadline ..).step (by decide) ?_
    | with_reducible refine (k_openSlices ..).step (by decide) ?_
    | split

/-- `execEventCommit` changes at most: freeCnt, out, wr, sch, queues, pair, mus, mems, can. -/
theorem k_execEventCommit (lost : Nat) (s : State) : Keeps 43679770 s (stateOf s (execEventCommit lost s)) := by
  unfold execEventCommit
  repeat' first
    | with_reducible refine Keeps.next ?_
    | with_reducible exact Keeps.refl _ _
    | with_reducible assumption
    | with_reducible refine (k_commitFront ..).step (by decide) ?_
    | split

/-- `execAnchorWaitExpiry` changes at most: freeCnt, out, wr, sch, queues, pair, mus, mems, can. -/
theorem k_execAnchorWaitExpiry (s : State) : Keeps 43679770 s (stateOf s (execAnchorWaitExpiry s)) := by
  unfold execAnchorWaitExpiry
  repeat' first
    | with_reducible refine Keeps.next ?_
    | with_reducible exact Keeps.refl _ _
    | with_reducible assumption
    | with_reducible refine (k_commitFront ..).step (by decide) ?_
    | split

/-- `execCandidateComplete` changes at most: wr, mus. -/
theorem k_execCandidateComplete (slot : Nat) (s : State) : Keeps 1048592 s (stateOf s (execCandidateComplete slot s)) := by
  unfold execCandidateComplete
  repeat' first
    | with_reducible refine Keeps.next ?_
    | with_reducible exact Keeps.refl _ _
    | with_reducible assumption
    | with_reducible refine (k_evComplete ..).step (by decide) ?_
    | with_reducible refine (k_modMus ..).step (by decide) ?_
    | with_reducible refine Keeps.ite ?_ ?_
    | split

/-- `execStallRelease` changes at most: mus. -/
theorem k_execStallRelease (s : State) : Keeps 1048576 s (stateOf s (execStallRelease s)) := by
  unfold execStallRelease
  repeat' first
    | with_reducible refine Keeps.next ?_
    | with_reducible exact Keeps.refl _ _
    | with_reducible assumption
    | (extract_lets +onlyGivenNames x; refine Keeps.cut (m := 1048576) (s := s) (u := x) ?_ ?_; rotate_left; all_goals first | (intro _; clear_value x) | subst x)
    | (extract_lets +onlyGivenNames x; clear_value x)
    | with_reducible refine (k_modMus ..).step (by decide) ?_
    | with_reducible refine Keeps.ite ?_ ?_
    | split

/-- `execHorizonExpiry` changes at most: wr, mus. -/
theorem k_execHorizonExpiry (slot : Nat) (s : State) : Keeps 1048592 s (stateOf s (execHorizonExpiry slot s)) := by
  unfold execHorizonExpiry
  repeat' first
    | with_reducible refine Keeps.next ?_
    | with_reducible exact Keeps.refl _ _
    | with_reducible assumption
    | (extract_lets +onlyGivenNames x; refine Keeps.cut (m := 1048592) (s := s) (u := x) ?_ ?_; rotate_left; all_goals first | (intro _; clear_value x) | subst x)
    | (extract_lets +onlyGivenNames x; clear_value x)
    | with_reducible refine (k_expireCand ..).step (by decide) ?_
    | with_reducible refine Keeps.ite ?_ ?_
    | split

/-- `execMusViewDataRead` changes at most: wr, mus. -/
theorem k_execMusViewDataRead (s : State) : Keeps 1048592 s (stateOf s (execMusViewDataRead s)) := by
  unfold execMusViewDataRead
  repeat' first
    | with_reducible refine Keeps.next ?_
    | with_reducible exact Keeps.refl _ _
    | with_reducible assumption
    | with_reducible refine (k_viewRead ..).step (by decide) ?_

end Sys2Proof.Machine
end

