-- ==== Sys2Proof/Laws/KeepsExWnTrig.lean ====
section
/-! SUPPORT. What the operations of Machine/WnTrig.lean may change: the commands. -/

namespace Sys2Proof.Machine

open Sys2Proof

/-- `execTlDecisionRx` changes at most: out, wr, pair, mus. -/
theorem k_execTlDecisionRx (link : Bool) (hdr : Nat) (word : Nat) (s : State) : Keeps 1572888 s (stateOf s (execTlDecisionRx link hdr word s)) := by
  unfold execTlDecisionRx
  repeat' first
    | with_reducible refine Keeps.next ?_
    | with_reducible exact Keeps.refl _ _
    | with_reducible assumption
    | with_reducible refine (k_tlBlock ..).step (by decide) ?_
    | split

/-- `execAcceptForward` changes at most: out, wr, mus. -/
theorem k_execAcceptForward (s : State) : Keeps 1048600 s (stateOf s (execAcceptForward s)) := by
  unfold execAcceptForward
  repeat' first
    | with_reducible refine Keeps.next ?_
    | with_reducible exact Keeps.refl _ _
    | with_reducible assumption
    | with_reducible refine (k_forwardCell ..).step (by decide) ?_
    | with_reducible refine Keeps.ite ?_ ?_
    | split

/-- `execPrimitiveCapture` changes at most: wr, mus. -/
theorem k_execPrimitiveCapture (slot : Nat) (s : State) : Keeps 1048592 s (stateOf s (execPrimitiveCapture slot s)) := by
  unfold execPrimitiveCapture
  repeat' first
    | with_reducible refine Keeps.next ?_
    | with_reducible exact Keeps.refl _ _
    | with_reducible assumption
    | with_reducible refine (k_capture ..).step (by decide) ?_
    | with_reducible refine Keeps.ite ?_ ?_
    | split

/-- `execPoCellRelease` changes at most: out, wr, mus. -/
theorem k_execPoCellRelease (slot : Nat) (s : State) : Keeps 1048600 s (stateOf s (execPoCellRelease slot s)) := by
  unfold execPoCellRelease
  repeat' first
    | with_reducible refine Keeps.next ?_
    | with_reducible exact Keeps.refl _ _
    | with_reducible assumption
    | with_reducible refine (k_releaseCell ..).step (by decide) ?_
    | with_reducible refine Keeps.ite ?_ ?_
    | split

/-- `execSelfTriggerAccept` changes at most: out, wr, pair, mus. -/
theorem k_execSelfTriggerAccept (slot : Nat) (s : State) : Keeps 1572888 s (stateOf s (execSelfTriggerAccept slot s)) := by
  unfold execSelfTriggerAccept
  repeat' first
    | with_reducible refine Keeps.next ?_
    | with_reducible exact Keeps.refl _ _
    | with_reducible assumption
    | with_reducible refine (k_selfAccept ..).step (by decide) ?_
    | with_reducible refine (k_modMus ..).step (by decide) ?_
    | with_reducible refine Keeps.ite ?_ ?_
    | split

/-- `execSelfTriggerContentTest` changes at most: wr, mus. -/
theorem k_execSelfTriggerContentTest (slot : Nat) (s : State) : Keeps 1048592 s (stateOf s (execSelfTriggerContentTest slot s)) := by
  unfold execSelfTriggerContentTest
  repeat' first
    | with_reducible refine Keeps.next ?_
    | with_reducible exact Keeps.refl _ _
    | with_reducible assumption
    | (extract_lets +onlyGivenNames x; refine Keeps.cut (m := 1048592) (s := s) (u := x) ?_ ?_; rotate_left; all_goals first | (intro _; clear_value x) | subst x)
    | (extract_lets +onlyGivenNames x; clear_value x)
    | with_reducible refine (k_selfFire ..).step (by decide) ?_
    | with_reducible refine (k_modMus ..).step (by decide) ?_
    | with_reducible refine Keeps.ite ?_ ?_
    | split

end Sys2Proof.Machine
end

