-- ==== Sys2Proof/Laws/KeepsExWnIng.lean ====
section
/-! SUPPORT. What the operations of Machine/WnIng.lean may change: the commands. -/

namespace Sys2Proof.Machine

open Sys2Proof

/-- `execRsBlockRx` changes at most: wr, tri, lanes, dlinks, mus. -/
theorem k_execRsBlockRx (lane : Nat) (num : Nat) (replay : Bool) (fix : Nat) (bad : Nat) (s : State) : Keeps 1071120 s (stateOf s (execRsBlockRx lane num replay fix bad s)) := by
  unfold execRsBlockRx
  repeat' first
    | with_reducible refine Keeps.next ?_
    | with_reducible exact Keeps.refl _ _
    | with_reducible assumption
    | (extract_lets +onlyGivenNames x; refine Keeps.cut (m := 1071120) (s := s) (u := x) ?_ ?_; rotate_left; all_goals first | (intro _; clear_value x) | subst x)
    | (extract_lets +onlyGivenNames x; clear_value x)
    | with_reducible refine (k_rsBlock ..).step (by decide) ?_
    | with_reducible refine (k_wadd ..).step (by decide) ?_
    | with_reducible refine Keeps.ite ?_ ?_
    | split

/-- `execReplayNackRx` changes at most: wr, lanes, mus. -/
theorem k_execReplayNackRx (lane : Nat) (num : Nat) (s : State) : Keeps 1052688 s (stateOf s (execReplayNackRx lane num s)) := by
  unfold execReplayNackRx
  repeat' first
    | with_reducible refine Keeps.next ?_
    | with_reducible exact Keeps.refl _ _
    | with_reducible assumption
    | with_reducible refine (k_blockLost ..).step (by decide) ?_
    | with_reducible refine Keeps.ite ?_ ?_
    | split

/-- `execFrameHeadRx` changes at most: out, wr, tri, pair. -/
theorem k_execFrameHeadRx (lane : Nat) (frame : Nat) (offset : Nat) (fine : Nat) (s : State) : Keeps 526360 s (stateOf s (execFrameHeadRx lane frame offset fine s)) := by
  unfold execFrameHeadRx
  repeat' first
    | with_reducible refine Keeps.next ?_
    | with_reducible exact Keeps.refl _ _
    | with_reducible assumption
    | with_reducible refine (k_triStart ..).step (by decide) ?_
    | with_reducible refine Keeps.ite ?_ ?_
    | split

/-- `execLaneIdRx` changes at most: wr, lanes, ports, dlinks, mus. -/
theorem k_execLaneIdRx (lane : Nat) (body : Nat) (s : State) : Keeps 1077264 s (stateOf s (execLaneIdRx lane body s)) := by
  unfold execLaneIdRx
  repeat' first
    | with_reducible refine Keeps.next ?_
    | with_reducible exact Keeps.refl _ _
    | with_reducible assumption
    | with_reducible refine (k_laneId ..).step (by decide) ?_
    | split

/-- `execLaneCdrLock` changes at most: wr, lanes, dlinks, mus. -/
theorem k_execLaneCdrLock (lane : Nat) (s : State) : Keeps 1069072 s (stateOf s (execLaneCdrLock lane s)) := by
  unfold execLaneCdrLock
  repeat' first
    | with_reducible refine Keeps.next ?_
    | with_reducible exact Keeps.refl _ _
    | with_reducible assumption
    | (extract_lets +onlyGivenNames x; refine Keeps.cut (m := 1069072) (s := s) (u := x) ?_ ?_; rotate_left; all_goals first | (intro _; clear_value x) | subst x)
    | (extract_lets +onlyGivenNames x; clear_value x)
    | with_reducible refine (k_laneHunt ..).step (by decide) ?_
    | with_reducible refine (k_modLane ..).step (by decide) ?_
    | with_reducible refine Keeps.ite ?_ ?_
    | split

/-- `execLaneCdrLoss` changes at most: wr, lanes, mus. -/
theorem k_execLaneCdrLoss (lane : Nat) (s : State) : Keeps 1052688 s (stateOf s (execLaneCdrLoss lane s)) := by
  unfold execLaneCdrLoss
  repeat' first
    | with_reducible refine Keeps.next ?_
    | with_reducible exact Keeps.refl _ _
    | with_reducible assumption
    | (extract_lets +onlyGivenNames x; refine Keeps.cut (m := 1052688) (s := s) (u := x) ?_ ?_; rotate_left; all_goals first | (intro _; clear_value x) | subst x)
    | (extract_lets +onlyGivenNames x; clear_value x)
    | with_reducible refine (k_laneDrop ..).step (by decide) ?_
    | with_reducible refine (k_modLane ..).step (by decide) ?_
    | with_reducible refine Keeps.ite ?_ ?_
    | split

/-- `execClkswRx` changes at most: wr, tri, ports. -/
theorem k_execClkswRx (lane : Nat) (dep : Nat) (body : Nat) (s : State) : Keeps 10256 s (stateOf s (execClkswRx lane dep body s)) := by
  unfold execClkswRx
  repeat' first
    | with_reducible refine Keeps.next ?_
    | with_reducible exact Keeps.refl _ _
    | with_reducible assumption
    | with_reducible refine (k_clksw ..).step (by decide) ?_
    | with_reducible refine Keeps.ite ?_ ?_
    | split

/-- `execHoldWordRx` changes at most: wr, tri, ports. -/
theorem k_execHoldWordRx (lane : Nat) (dep : Nat) (body : Nat) (s : State) : Keeps 10256 s (stateOf s (execHoldWordRx lane dep body s)) := by
  unfold execHoldWordRx
  repeat' first
    | with_reducible refine Keeps.next ?_
    | with_reducible exact Keeps.refl _ _
    | with_reducible assumption
    | with_reducible refine (k_holdWord ..).step (by decide) ?_
    | with_reducible refine Keeps.ite ?_ ?_
    | split

/-- `execEpochDoneRx` changes at most: wr, tri. -/
theorem k_execEpochDoneRx (lane : Nat) (s : State) : Keeps 2064 s (stateOf s (execEpochDoneRx lane s)) := by
  unfold execEpochDoneRx
  repeat' first
    | with_reducible refine Keeps.next ?_
    | with_reducible exact Keeps.refl _ _
    | with_reducible assumption
    | with_reducible refine (k_epochDone ..).step (by decide) ?_
    | with_reducible refine Keeps.ite ?_ ?_
    | split

/-- `execStateWordRx` changes at most: wr, ports, mus. -/
theorem k_execStateWordRx (lane : Nat) (body : Nat) (s : State) : Keeps 1056784 s (stateOf s (execStateWordRx lane body s)) := by
  unfold execStateWordRx
  repeat' first
    | with_reducible refine Keeps.next ?_
    | with_reducible exact Keeps.refl _ _
    | with_reducible assumption
    | with_reducible refine (k_stateWord ..).step (by decide) ?_
    | with_reducible refine Keeps.ite ?_ ?_
    | split

/-- `execAttachEpoch` changes at most: out, wr, ports, dlinks, pair. -/
theorem k_execAttachEpoch (port : Nat) (s : State) : Keeps 548888 s (stateOf s (execAttachEpoch port s)) := by
  unfold execAttachEpoch
  repeat' first
    | with_reducible refine Keeps.next ?_
    | with_reducible exact Keeps.refl _ _
    | with_reducible assumption
    | with_reducible refine (k_acquire ..).step (by decide) ?_
    | split

/-- `execPortDetached` changes at most: wr, ports, mus. -/
theorem k_execPortDetached (port : Nat) (s : State) : Keeps 1056784 s (stateOf s (execPortDetached port s)) := by
  unfold execPortDetached
  repeat' first
    | with_reducible refine Keeps.next ?_
    | with_reducible exact Keeps.refl _ _
    | with_reducible assumption
    | with_reducible refine (k_detached ..).step (by decide) ?_
    | split

/-- `execClaimSend` changes at most: dlinks. -/
theorem k_execClaimSend (port : Nat) (s : State) : Keeps 16384 s (stateOf s (execClaimSend port s)) := by
  unfold execClaimSend
  repeat' first
    | with_reducible refine Keeps.next ?_
    | with_reducible exact Keeps.refl _ _
    | with_reducible assumption
    | (extract_lets +onlyGivenNames x; refine Keeps.cut (m := 16384) (s := s) (u := x) ?_ ?_; rotate_left; all_goals first | (intro _; clear_value x) | subst x)
    | (extract_lets +onlyGivenNames x; clear_value x)
    | with_reducible refine (k_modDlink ..).step (by decide) ?_
    | with_reducible refine Keeps.ite ?_ ?_
    | split

/-- `execDownlinkCommandSlot` changes at most: out, wr, tri, ports, dlinks. -/
theorem k_execDownlinkCommandSlot (port : Nat) (s : State) : Keeps 26648 s (stateOf s (execDownlinkCommandSlot port s)) := by
  unfold execDownlinkCommandSlot
  repeat' first
    | with_reducible refine Keeps.next ?_
    | with_reducible exact Keeps.refl _ _
    | with_reducible assumption
    | with_reducible refine (k_commandSlot ..).step (by decide) ?_
    | with_reducible refine Keeps.ite ?_ ?_
    | split

/-- `execProxyLoad` changes at most: out, dlinks. -/
theorem k_execProxyLoad (port : Nat) (addr : Nat) (quiet : Bool) (s : State) : Keeps 16392 s (stateOf s (execProxyLoad port addr quiet s)) := by
  unfold execProxyLoad
  repeat' first
    | with_reducible refine Keeps.next ?_
    | with_reducible exact Keeps.refl _ _
    | with_reducible assumption
    | with_reducible refine (k_proxyLoad ..).step (by decide) ?_
    | split

/-- `execProxyStore` changes at most: out, dlinks. -/
theorem k_execProxyStore (port : Nat) (addr : Nat) (data : Nat) (s : State) : Keeps 16392 s (stateOf s (execProxyStore port addr data s)) := by
  unfold execProxyStore
  repeat' first
    | with_reducible refine Keeps.next ?_
    | with_reducible exact Keeps.refl _ _
    | with_reducible assumption
    | with_reducible refine (k_proxyStore ..).step (by decide) ?_
    | split

/-- `execPrimitiveWindowRx` changes at most: wr, lanes, dlinks, mus. -/
theorem k_execPrimitiveWindowRx (lane : Nat) (slot : Nat) (ph : Nat) (w0 : Nat) (w1 : Nat) (s : State) : Keeps 1069072 s (stateOf s (execPrimitiveWindowRx lane slot ph w0 w1 s)) := by
  unfold execPrimitiveWindowRx
  repeat' first
    | with_reducible refine Keeps.next ?_
    | with_reducible exact Keeps.refl _ _
    | with_reducible assumption
    | with_reducible refine (k_windowRx ..).step (by decide) ?_
    | with_reducible refine Keeps.ite ?_ ?_
    | split

end Sys2Proof.Machine
end

