-- ==== Sys2Proof/Laws/KeepsExWnCmp.lean ====
section
/-! SUPPORT. What the operations of Machine/WnCmp.lean may change: the commands. -/

namespace Sys2Proof.Machine

open Sys2Proof

/-- `execCmpDispatch` changes at most: freeCnt, out, wr, sch, queues, cmp, mems, can. -/
theorem k_execCmpDispatch (poison : Bool) (s : State) : Keeps 44204058 s (stateOf s (execCmpDispatch poison s)) := by
  unfold execCmpDispatch
  repeat' first
    | with_reducible refine Keeps.next ?_
    | with_reducible exact Keeps.refl _ _
    | with_reducible assumption
    | with_reducible refine (k_dispatch ..).step (by decide) ?_
    | with_reducible refine Keeps.ite ?_ ?_
    | with_reducible refine Keeps.getD (fun _ _ => ?_) ?_
    | split

/-- `execCmpFormDone` changes at most: freeCnt, wr, mus, cmp. -/
theorem k_execCmpFormDone (engine : Nat) (ok : Bool) (s : State) : Keeps 3145746 s (stateOf s (execCmpFormDone engine ok s)) := by
  unfold execCmpFormDone
  repeat' first
    | with_reducible refine Keeps.next ?_
    | with_reducible exact Keeps.refl _ _
    | with_reducible assumption
    | with_reducible refine (k_formDone ..).step (by decide) ?_
    | with_reducible refine Keeps.getD (fun _ _ => ?_) ?_
    | split

/-- `execCmpStoredDone` changes at most: freeCnt, wr, mus, cmp, mems. -/
theorem k_execCmpStoredDone (engine : Nat) (ok : Bool) (err : Bool) (s : State) : Keeps 11534354 s (stateOf s (execCmpStoredDone engine ok err s)) := by
  unfold execCmpStoredDone
  repeat' first
    | with_reducible refine Keeps.next ?_
    | with_reducible exact Keeps.refl _ _
    | with_reducible assumption
    | with_reducible refine (k_storedDone ..).step (by decide) ?_
    | with_reducible refine Keeps.getD (fun _ _ => ?_) ?_
    | split

/-- `execFormerRecordDone` changes at most: freeCnt, wr, mus, cmp. -/
theorem k_execFormerRecordDone (bad : Nat) (s : State) : Keeps 3145746 s (stateOf s (execFormerRecordDone bad s)) := by
  unfold execFormerRecordDone
  repeat' first
    | with_reducible refine Keeps.next ?_
    | with_reducible exact Keeps.refl _ _
    | with_reducible assumption
    | with_reducible refine (k_formerDone ..).step (by decide) ?_
    | with_reducible refine Keeps.getD (fun _ _ => ?_) ?_
    | split

/-- `execCmpReorderRelease` changes at most: out, wr, sch, queues, cmp, can. -/
theorem k_execCmpReorderRelease (s : State) : Keeps 35815448 s (stateOf s (execCmpReorderRelease s)) := by
  unfold execCmpReorderRelease
  repeat' first
    | with_reducible refine Keeps.next ?_
    | with_reducible exact Keeps.refl _ _
    | with_reducible assumption
    | with_reducible refine (k_releaseNext ..).step (by decide) ?_
    | with_reducible refine Keeps.ite ?_ ?_
    | with_reducible refine Keeps.getD (fun _ _ => ?_) ?_
    | split

/-- `execCmpRatioWindow` changes at most: freeCnt, wr, cmp. -/
theorem k_execCmpRatioWindow (sec : Bool) (s : State) : Keeps 2097170 s (stateOf s (execCmpRatioWindow sec s)) := by
  unfold execCmpRatioWindow
  repeat' first
    | with_reducible refine Keeps.next ?_
    | with_reducible exact Keeps.refl _ _
    | with_reducible assumption
    | with_reducible refine (k_ratioWindow ..).step (by decide) ?_
    | with_reducible refine Keeps.getD (fun _ _ => ?_) ?_
    | split

/-- `execCmpEngEnWrite` changes at most: wr. -/
theorem k_execCmpEngEnWrite (engine : Nat) (v : Bool) (s : State) : Keeps 16 s (stateOf s (execCmpEngEnWrite engine v s)) := by
  unfold execCmpEngEnWrite
  repeat' first
    | with_reducible refine Keeps.next ?_
    | with_reducible exact Keeps.refl _ _
    | with_reducible assumption
    | with_reducible refine (k_writeEngEn ..).step (by decide) ?_
    | with_reducible refine Keeps.getD (fun _ _ => ?_) ?_
    | split

/-- `execCmpReenableDone` changes at most: wr. -/
theorem k_execCmpReenableDone (engine : Nat) (pass : Bool) (s : State) : Keeps 16 s (stateOf s (execCmpReenableDone engine pass s)) := by
  unfold execCmpReenableDone
  repeat' first
    | with_reducible refine Keeps.next ?_
    | with_reducible exact Keeps.refl _ _
    | with_reducible assumption
    | with_reducible refine (k_engRest ..).step (by decide) ?_
    | with_reducible refine (k_engFault ..).step (by decide) ?_
    | with_reducible refine (k_wset ..).step (by decide) ?_
    | with_reducible refine Keeps.ite ?_ ?_
    | with_reducible refine Keeps.getD (fun _ _ => ?_) ?_
    | split

/-- `execCmpBypassWrite` changes at most: wr. -/
theorem k_execCmpBypassWrite (value : Nat) (s : State) : Keeps 16 s (stateOf s (execCmpBypassWrite value s)) := by
  unfold execCmpBypassWrite
  repeat' first
    | with_reducible refine Keeps.next ?_
    | with_reducible exact Keeps.refl _ _
    | with_reducible assumption
    | with_reducible refine (k_wstore ..).step (by decide) ?_
    | with_reducible refine Keeps.getD (fun _ _ => ?_) ?_
    | split

end Sys2Proof.Machine
end

