-- ==== Sys2Proof/Laws/KeepsExWnEth.lean ====
section
/-! SUPPORT. What the operations of Machine/WnEth.lean may change: the commands. -/

namespace Sys2Proof.Machine

open Sys2Proof

/-- `execPortLinkUp` changes at most: out, wr, eth. -/
theorem k_execPortLinkUp (port : Nat) (stable : Bool) (s : State) : Keeps 4194328 s (stateOf s (execPortLinkUp port stable s)) := by
  unfold execPortLinkUp
  repeat' first
    | with_reducible refine Keeps.next ?_
    | with_reducible exact Keeps.refl _ _
    | with_reducible assumption
    | with_reducible refine (k_linkUp ..).step (by decide) ?_
    | split

/-- `execPortLinkDown` changes at most: wr, eth. -/
theorem k_execPortLinkDown (port : Nat) (cause : Nat) (s : State) : Keeps 4194320 s (stateOf s (execPortLinkDown port cause s)) := by
  unfold execPortLinkDown
  repeat' first
    | with_reducible refine Keeps.next ?_
    | with_reducible exact Keeps.refl _ _
    | with_reducible assumption
    | with_reducible refine (k_linkDown ..).step (by decide) ?_
    | split

/-- `execEpFrameRx` changes at most: out, wr, mer, sch, queues, can. -/
theorem k_execEpFrameRx (port : Nat) (fcs : Bool) (bytes : List Nat) (fine : Nat) (s : State) : Keeps 33719320 s (stateOf s (execEpFrameRx port fcs bytes fine s)) := by
  unfold execEpFrameRx
  repeat' first
    | with_reducible refine Keeps.next ?_
    | with_reducible exact Keeps.refl _ _
    | with_reducible assumption
    | with_reducible refine (k_frameRx ..).step (by decide) ?_
    | split

/-- `execPtpFrameRx` changes at most: out, wr, mer, sch, queues, can. -/
theorem k_execPtpFrameRx (port : Nat) (bytes : List Nat) (fine : Nat) (s : State) : Keeps 33719320 s (stateOf s (execPtpFrameRx port bytes fine s)) := by
  unfold execPtpFrameRx
  repeat' first
    | with_reducible refine Keeps.next ?_
    | with_reducible exact Keeps.refl _ _
    | with_reducible assumption
    | with_reducible refine (k_ptpDeliver ..).step (by decide) ?_
    | with_reducible refine Keeps.ite ?_ ?_
    | split

/-- `execRecordSteer` changes at most: freeCnt, out, wr, sch, queues, cmp, eth, mems, can. -/
theorem k_execRecordSteer (bad : Nat) (s : State) : Keeps 48398362 s (stateOf s (execRecordSteer bad s)) := by
  unfold execRecordSteer
  repeat' first
    | with_reducible refine Keeps.next ?_
    | with_reducible exact Keeps.refl _ _
    | with_reducible assumption
    | with_reducible refine (k_steer ..).step (by decide) ?_
    | with_reducible refine Keeps.ite ?_ ?_
    | split

/-- `execDatagramSent` changes at most: out, wr, sch, queues, eth, can. -/
theorem k_execDatagramSent (port : Nat) (s : State) : Keeps 37912600 s (stateOf s (execDatagramSent port s)) := by
  unfold execDatagramSent
  repeat' first
    | with_reducible refine Keeps.next ?_
    | with_reducible exact Keeps.refl _ _
    | with_reducible assumption
    | with_reducible refine (k_datagram ..).step (by decide) ?_
    | split

/-- `execSteerAdd` changes at most: wr, sch, queues, eth. -/
theorem k_execSteerAdd (port : Nat) (s : State) : Keeps 4358160 s (stateOf s (execSteerAdd port s)) := by
  unfold execSteerAdd
  repeat' first
    | with_reducible refine Keeps.next ?_
    | with_reducible exact Keeps.refl _ _
    | with_reducible assumption
    | with_reducible refine (k_steerCmd ..).step (by decide) ?_
    | split

/-- `execSteerRemove` changes at most: wr, sch, queues, eth. -/
theorem k_execSteerRemove (port : Nat) (s : State) : Keeps 4358160 s (stateOf s (execSteerRemove port s)) := by
  unfold execSteerRemove
  repeat' first
    | with_reducible refine Keeps.next ?_
    | with_reducible exact Keeps.refl _ _
    | with_reducible assumption
    | with_reducible refine (k_steerCmd ..).step (by decide) ?_
    | split

/-- `execSteerCommit` changes at most: wr, sch, queues, eth. -/
theorem k_execSteerCommit (s : State) : Keeps 4358160 s (stateOf s (execSteerCommit s)) := by
  unfold execSteerCommit
  repeat' first
    | with_reducible refine Keeps.next ?_
    | with_reducible exact Keeps.refl _ _
    | with_reducible assumption
    | with_reducible refine (k_steerCmd ..).step (by decide) ?_
    | split

/-- `execSteerOpInvalid` changes at most: wr, sch, queues, eth. -/
theorem k_execSteerOpInvalid (s : State) : Keeps 4358160 s (stateOf s (execSteerOpInvalid s)) := by
  unfold execSteerOpInvalid
  repeat' first
    | with_reducible refine Keeps.next ?_
    | with_reducible exact Keeps.refl _ _
    | with_reducible assumption
    | with_reducible refine (k_steerCmd ..).step (by decide) ?_
    | split

/-- `execSteerBoundary` changes at most: wr, eth. -/
theorem k_execSteerBoundary (s : State) : Keeps 4194320 s (stateOf s (execSteerBoundary s)) := by
  unfold execSteerBoundary
  repeat' first
    | with_reducible refine Keeps.next ?_
    | with_reducible exact Keeps.refl _ _
    | with_reducible assumption
    | with_reducible refine (k_boundary ..).step (by decide) ?_

/-- `execPortLinkTimeout` changes at most: wr, sch, queues, eth. -/
theorem k_execPortLinkTimeout (port : Nat) (s : State) : Keeps 4358160 s (stateOf s (execPortLinkTimeout port s)) := by
  unfold execPortLinkTimeout
  repeat' first
    | with_reducible refine Keeps.next ?_
    | with_reducible exact Keeps.refl _ _
    | with_reducible assumption
    | with_reducible refine (k_linkTimeout ..).step (by decide) ?_
    | split

end Sys2Proof.Machine
end

