-- ==== Sys2Proof/Laws/KeepsExWnAdm.lean ====
section
/-! SUPPORT. What the operations of Machine/WnAdm.lean may change: the commands. -/

namespace Sys2Proof.Machine

open Sys2Proof

/-- `execPaceRingSample` changes at most: out, wr, dlinks, can, gov, sys, env. -/
theorem k_execPaceRingSample (counts : List Nat) (s : State) : Keeps 771768344 s (stateOf s (execPaceRingSample counts s)) := by
  unfold execPaceRingSample
  repeat' first
    | with_reducible refine Keeps.next ?_
    | with_reducible exact Keeps.refl _ _
    | with_reducible assumption
    | with_reducible refine (k_ringSample ..).step (by decide) ?_
    | with_reducible refine Keeps.getD (fun _ _ => ?_) ?_
    | split

/-- `execShedStep` changes at most: wr, dlinks, gov. -/
theorem k_execShedStep (s : State) : Keeps 67125264 s (stateOf s (execShedStep s)) := by
  unfold execShedStep
  repeat' first
    | with_reducible refine Keeps.next ?_
    | with_reducible exact Keeps.refl _ _
    | with_reducible assumption
    | with_reducible refine (k_shedDue ..).step (by decide) ?_
    | with_reducible refine Keeps.getD (fun _ _ => ?_) ?_

/-- `execHoldCycleToggle` changes at most: wr, dlinks, gov. -/
theorem k_execHoldCycleToggle (s : State) : Keeps 67125264 s (stateOf s (execHoldCycleToggle s)) := by
  unfold execHoldCycleToggle
  repeat' first
    | with_reducible refine Keeps.next ?_
    | with_reducible exact Keeps.refl _ _
    | with_reducible assumption
    | with_reducible refine (k_toggleHold ..).step (by decide) ?_
    | with_reducible refine Keeps.getD (fun _ _ => ?_) ?_

/-- `execDegradedRecoverStep` changes at most: out, wr, dlinks, can, gov, sys, env. -/
theorem k_execDegradedRecoverStep (s : State) : Keeps 771768344 s (stateOf s (execDegradedRecoverStep s)) := by
  unfold execDegradedRecoverStep
  repeat' first
    | with_reducible refine Keeps.next ?_
    | with_reducible exact Keeps.refl _ _
    | with_reducible assumption
    | with_reducible refine (k_recoverStep ..).step (by decide) ?_
    | with_reducible refine Keeps.getD (fun _ _ => ?_) ?_

/-- `execAdmCheck` changes at most: wr, sys. -/
theorem k_execAdmCheck (s : State) : Keeps 134217744 s (stateOf s (execAdmCheck s)) := by
  unfold execAdmCheck
  repeat' first
    | with_reducible refine Keeps.next ?_
    | with_reducible exact Keeps.refl _ _
    | with_reducible assumption
    | with_reducible refine (k_admCheck ..).step (by decide) ?_
    | with_reducible refine Keeps.getD (fun _ _ => ?_) ?_

/-- `execAdmRun` changes at most: out, wr, ports, dlinks, sch, queues, pair, mus, eth, can, gov, sys, env. -/
theorem k_execAdmRun (s : State) : Keeps 777707544 s (stateOf s (execAdmRun s)) := by
  unfold execAdmRun
  repeat' first
    | with_reducible refine Keeps.next ?_
    | with_reducible exact Keeps.refl _ _
    | with_reducible assumption
    | with_reducible refine (k_enterRun ..).step (by decide) ?_
    | with_reducible refine Keeps.getD (fun _ _ => ?_) ?_

/-- `execAdmStop` changes at most: out, wr, ports, dlinks, sch, queues, pair, mus, cmp, eth, can, gov, sys, env. -/
theorem k_execAdmStop (s : State) : Keeps 779804696 s (stateOf s (execAdmStop s)) := by
  unfold execAdmStop
  repeat' first
    | with_reducible refine Keeps.next ?_
    | with_reducible exact Keeps.refl _ _
    | with_reducible assumption
    | with_reducible refine (k_admStop ..).step (by decide) ?_
    | with_reducible refine Keeps.getD (fun _ _ => ?_) ?_

/-- `execAdmStore` changes at most: wr, sys. -/
theorem k_execAdmStore (s : State) : Keeps 134217744 s (stateOf s (execAdmStore s)) := by
  unfold execAdmStore
  repeat' first
    | with_reducible refine Keeps.next ?_
    | with_reducible exact Keeps.refl _ _
    | with_reducible assumption
    | with_reducible refine (k_admStore ..).step (by decide) ?_
    | with_reducible refine Keeps.getD (fun _ _ => ?_) ?_

/-- `execAdmStoreDone` changes at most: wr, sys. -/
theorem k_execAdmStoreDone (ok : Bool) (s : State) : Keeps 134217744 s (stateOf s (execAdmStoreDone ok s)) := by
  unfold execAdmStoreDone
  repeat' first
    | with_reducible refine Keeps.next ?_
    | with_reducible exact Keeps.refl _ _
    | with_reducible assumption
    | with_reducible refine (k_admStored ..).step (by decide) ?_
    | with_reducible refine Keeps.getD (fun _ _ => ?_) ?_
    | split

/-- `execAdmReload` changes at most: wr, sys. -/
theorem k_execAdmReload (s : State) : Keeps 134217744 s (stateOf s (execAdmReload s)) := by
  unfold execAdmReload
  repeat' first
    | with_reducible refine Keeps.next ?_
    | with_reducible exact Keeps.refl _ _
    | with_reducible assumption
    | with_reducible refine (k_admReload ..).step (by decide) ?_
    | with_reducible refine Keeps.getD (fun _ _ => ?_) ?_

/-- `execNorImageCopyDone` changes at most: wr, mem, mems, sys. -/
theorem k_execNorImageCopyDone (s : State) : Keeps 142606864 s (stateOf s (execNorImageCopyDone s)) := by
  unfold execNorImageCopyDone
  repeat' first
    | with_reducible refine Keeps.next ?_
    | with_reducible exact Keeps.refl _ _
    | with_reducible assumption
    | with_reducible refine (k_norCopied ..).step (by decide) ?_
    | with_reducible refine Keeps.getD (fun _ _ => ?_) ?_

/-- `execAutoRunEntry` changes at most: out, wr, ports, dlinks, sch, queues, pair, mus, eth, can, gov, sys, env. -/
theorem k_execAutoRunEntry (s : State) : Keeps 777707544 s (stateOf s (execAutoRunEntry s)) := by
  unfold execAutoRunEntry
  repeat' first
    | with_reducible refine Keeps.next ?_
    | with_reducible exact Keeps.refl _ _
    | with_reducible assumption
    | with_reducible refine (k_autoRun ..).step (by decide) ?_
    | with_reducible refine Keeps.getD (fun _ _ => ?_) ?_

end Sys2Proof.Machine
end

