-- ==== Sys2Proof/Laws/KeepsExWnDma.lean ====
section
/-! SUPPORT. What the operations of Machine/WnDma.lean may change: the commands. -/

namespace Sys2Proof.Machine

open Sys2Proof

/-- `execDmaGo` changes at most: wr, sch. -/
theorem k_execDmaGo (c : Nat) (s : State) : Keeps 32784 s (stateOf s (execDmaGo c s)) := by
  unfold execDmaGo
  repeat' first
    | with_reducible refine Keeps.next ?_
    | with_reducible exact Keeps.refl _ _
    | with_reducible assumption
    | with_reducible refine (k_dmaGo ..).step (by decide) ?_
    | split

/-- `execDmaUnitTransfer` changes at most: out, wr, mem, sch, cores, mems, can, sys, mbx, env. -/
theorem k_execDmaUnitTransfer (f1 : Nat) (p1 : Nat) (a1 : Nat) (f2 : Nat) (p2 : Nat) (a2 : Nat) (f3 : Nat) (p3 : Nat) (a3 : Nat) (s : State) : Keeps 981565976 s (stateOf s (execDmaUnitTransfer f1 p1 a1 f2 p2 a2 f3 p3 a3 s)) := by
  unfold execDmaUnitTransfer
  repeat' first
    | with_reducible refine Keeps.next ?_
    | with_reducible exact Keeps.refl _ _
    | with_reducible assumption
    | with_reducible refine (k_dmaUnit ..).step (by decide) ?_
    | split
    | with_reducible refine Keeps.upd_mbx ?_ (by decide)

/-- `execDmaResume` changes at most: wr, sch. -/
theorem k_execDmaResume (c : Nat) (s : State) : Keeps 32784 s (stateOf s (execDmaResume c s)) := by
  unfold execDmaResume
  repeat' first
    | with_reducible refine Keeps.next ?_
    | with_reducible exact Keeps.refl _ _
    | with_reducible assumption
    | with_reducible refine (k_dmaResume ..).step (by decide) ?_
    | split

/-- `execDmaSkip` changes at most: wr, sch. -/
theorem k_execDmaSkip (c : Nat) (s : State) : Keeps 32784 s (stateOf s (execDmaSkip c s)) := by
  unfold execDmaSkip
  repeat' first
    | with_reducible refine Keeps.next ?_
    | with_reducible exact Keeps.refl _ _
    | with_reducible assumption
    | with_reducible refine (k_dmaSkip ..).step (by decide) ?_
    | split

/-- `execDmaAbort` changes at most: wr, sch. -/
theorem k_execDmaAbort (c : Nat) (s : State) : Keeps 32784 s (stateOf s (execDmaAbort c s)) := by
  unfold execDmaAbort
  repeat' first
    | with_reducible refine Keeps.next ?_
    | with_reducible exact Keeps.refl _ _
    | with_reducible assumption
    | with_reducible refine (k_dmaAbort ..).step (by decide) ?_
    | split

end Sys2Proof.Machine
end

