-- ==== Sys2Proof/Laws/KeepsExWnMbx.lean ====
section
/-! SUPPORT. What the operations of Machine/WnMbx.lean may change: the commands. -/

namespace Sys2Proof.Machine

open Sys2Proof

/-- `execMbxDataWrite` changes at most: wr, mbx. -/
theorem k_execMbxDataWrite (agent : Nat) (m : Nat) (j : Nat) (value : Nat) (s : State) : Keeps 268435472 s (stateOf s (execMbxDataWrite agent m j value s)) := by
  unfold execMbxDataWrite
  repeat' first
    | with_reducible refine Keeps.next ?_
    | with_reducible exact Keeps.refl _ _
    | with_reducible assumption
    | with_reducible refine (k_mbxData ..).step (by decide) ?_
    | split

/-- `execMbxSend` changes at most: out, wr, pair, mbx. -/
theorem k_execMbxSend (agent : Nat) (m : Nat) (s : State) : Keeps 268959768 s (stateOf s (execMbxSend agent m s)) := by
  unfold execMbxSend
  repeat' first
    | with_reducible refine Keeps.next ?_
    | with_reducible exact Keeps.refl _ _
    | with_reducible assumption
    | with_reducible refine (k_mbxSend ..).step (by decide) ?_
    | split

/-- `execMbxAck` changes at most: wr, mbx. -/
theorem k_execMbxAck (m : Nat) (s : State) : Keeps 268435472 s (stateOf s (execMbxAck m s)) := by
  unfold execMbxAck
  repeat' first
    | with_reducible refine Keeps.next ?_
    | with_reducible exact Keeps.refl _ _
    | with_reducible assumption
    | with_reducible refine (k_mbxAck ..).step (by decide) ?_
    | split

/-- `execMbxLockRead` changes at most: out, wr, mbx. -/
theorem k_execMbxLockRead (agent : Nat) (m : Nat) (s : State) : Keeps 268435480 s (stateOf s (execMbxLockRead agent m s)) := by
  unfold execMbxLockRead
  repeat' first
    | with_reducible refine Keeps.next ?_
    | with_reducible exact Keeps.refl _ _
    | with_reducible assumption
    | (extract_lets +onlyGivenNames x; refine Keeps.cut (m := 268435480) (s := s) (u := x) ?_ ?_; rotate_left; all_goals first | (intro _; clear_value x) | subst x)
    | (extract_lets +onlyGivenNames x; clear_value x)
    | with_reducible refine (k_emit ..).step (by decide) ?_
    | split
    | with_reducible refine Keeps.ofSnd (by assumption) ?_
    | with_reducible refine (k_lockRead ..).step (by decide) ?_
    | with_reducible dsimp only

/-- `execMbxLockWrite` changes at most: wr, mbx. -/
theorem k_execMbxLockWrite (agent : Nat) (m : Nat) (value : Nat) (s : State) : Keeps 268435472 s (stateOf s (execMbxLockWrite agent m value s)) := by
  unfold execMbxLockWrite
  repeat' first
    | with_reducible refine Keeps.next ?_
    | with_reducible exact Keeps.refl _ _
    | with_reducible assumption
    | with_reducible refine (k_lockWrite ..).step (by decide) ?_
    | split

/-- `execLockLeaseLapse` changes at most: wr, mbx. -/
theorem k_execLockLeaseLapse (m : Nat) (s : State) : Keeps 268435472 s (stateOf s (execLockLeaseLapse m s)) := by
  unfold execLockLeaseLapse
  repeat' first
    | with_reducible refine Keeps.next ?_
    | with_reducible exact Keeps.refl _ _
    | with_reducible assumption
    | with_reducible refine (k_lockLapse ..).step (by decide) ?_
    | split

/-- `execMbxLockForce` changes at most: wr, mbx. -/
theorem k_execMbxLockForce (agent : Nat) (m : Nat) (s : State) : Keeps 268435472 s (stateOf s (execMbxLockForce agent m s)) := by
  unfold execMbxLockForce
  repeat' first
    | with_reducible refine Keeps.next ?_
    | with_reducible exact Keeps.refl _ _
    | with_reducible assumption
    | with_reducible refine (k_lockForce ..).step (by decide) ?_
    | split

/-- `execLoftRelease` changes at most: wr. -/
theorem k_execLoftRelease (s : State) : Keeps 16 s (stateOf s (execLoftRelease s)) := by
  unfold execLoftRelease
  repeat' first
    | with_reducible refine Keeps.next ?_
    | with_reducible exact Keeps.refl _ _
    | with_reducible assumption
    | with_reducible refine (k_loftRelease ..).step (by decide) ?_

/-- `execUartStartEdge` changes at most: wr, mbx. -/
theorem k_execUartStartEdge (sample : Bool) (s : State) : Keeps 268435472 s (stateOf s (execUartStartEdge sample s)) := by
  unfold execUartStartEdge
  repeat' first
    | with_reducible refine Keeps.next ?_
    | with_reducible exact Keeps.refl _ _
    | with_reducible assumption
    | with_reducible refine (k_uartEdge ..).step (by decide) ?_
    | with_reducible refine Keeps.ite ?_ ?_
    | split

/-- `execUartCharRx` changes at most: wr, mbx. -/
theorem k_execUartCharRx (data : Nat) (par : Bool) (stop : Bool) (s : State) : Keeps 268435472 s (stateOf s (execUartCharRx data par stop s)) := by
  unfold execUartCharRx
  repeat' first
    | with_reducible refine Keeps.next ?_
    | with_reducible exact Keeps.refl _ _
    | with_reducible assumption
    | with_reducible refine (k_uartChar ..).step (by decide) ?_
    | with_reducible refine Keeps.ite ?_ ?_
    | split

/-- `execUartTxWrite` changes at most: out, wr, mbx. -/
theorem k_execUartTxWrite (data : Nat) (s : State) : Keeps 268435480 s (stateOf s (execUartTxWrite data s)) := by
  unfold execUartTxWrite
  repeat' first
    | with_reducible refine Keeps.next ?_
    | with_reducible exact Keeps.refl _ _
    | with_reducible assumption
    | with_reducible refine (k_uartWrite ..).step (by decide) ?_
    | split

/-- `execUartRxRead` changes at most: wr, mbx. -/
theorem k_execUartRxRead (s : State) : Keeps 268435472 s (stateOf s (execUartRxRead s)) := by
  unfold execUartRxRead
  repeat' first
    | with_reducible refine Keeps.next ?_
    | with_reducible exact Keeps.refl _ _
    | with_reducible assumption
    | with_reducible refine (k_uartRead ..).step (by decide) ?_

/-- `execUartCharTxDone` changes at most: out, wr, mbx. -/
theorem k_execUartCharTxDone (s : State) : Keeps 268435480 s (stateOf s (execUartCharTxDone s)) := by
  unfold execUartCharTxDone
  repeat' first
    | with_reducible refine Keeps.next ?_
    | with_reducible exact Keeps.refl _ _
    | with_reducible assumption
    | with_reducible refine (k_uartSent ..).step (by decide) ?_

end Sys2Proof.Machine
end

