-- ==== Sys2Proof/Laws/KeepsExWnPair.lean ====
section
/-! SUPPORT. What the operations of Machine/WnPair.lean may change: the commands. -/

namespace Sys2Proof.Machine

open Sys2Proof

/-- `execTickCountAlign` changes at most: out, wr, wclk, mer, tri, lanes, ports, dlinks, pair, mus. -/
theorem k_execTickCountAlign (s : State) : Keeps 1604760 s (stateOf s (execTickCountAlign s)) := by
  unfold execTickCountAlign
  repeat' first
    | with_reducible refine Keeps.next ?_
    | with_reducible exact Keeps.refl _ _
    | with_reducible assumption
    | with_reducible refine (k_alignTick ..).step (by decide) ?_

/-- `execPairHeartbeatSend` changes at most: out, pair. -/
theorem k_execPairHeartbeatSend (s : State) : Keeps 524296 s (stateOf s (execPairHeartbeatSend s)) := by
  unfold execPairHeartbeatSend
  repeat' first
    | with_reducible refine Keeps.next ?_
    | with_reducible exact Keeps.refl _ _
    | with_reducible assumption
    | with_reducible refine (k_sendHb ..).step (by decide) ?_

/-- `execPairHeartbeatRx` changes at most: out, wr, dlinks, pair, gov. -/
theorem k_execPairHeartbeatRx (hdr : Nat) (ws : List Nat) (s : State) : Keeps 67649560 s (stateOf s (execPairHeartbeatRx hdr ws s)) := by
  unfold execPairHeartbeatRx
  repeat' first
    | with_reducible refine Keeps.next ?_
    | with_reducible refine k_plReceive _ _ _ _ _ (fun _ _ => ?_) (by decide)
    | with_reducible exact Keeps.refl _ _
    | with_reducible assumption
    | with_reducible refine (k_plReceive ..).step (by decide) ?_
    | with_reducible refine (k_hbRx ..).step (by decide) ?_
    | split

/-- `execPartnerLost` changes at most: wr, dlinks, pair, gov. -/
theorem k_execPartnerLost (s : State) : Keeps 67649552 s (stateOf s (execPartnerLost s)) := by
  unfold execPartnerLost
  repeat' first
    | with_reducible refine Keeps.next ?_
    | with_reducible exact Keeps.refl _ _
    | with_reducible assumption
    | with_reducible refine (k_partnerLost ..).step (by decide) ?_

/-- `execPairDecisionRx` changes at most: wr, pair, mus. -/
theorem k_execPairDecisionRx (hdr : Nat) (ws : List Nat) (s : State) : Keeps 1572880 s (stateOf s (execPairDecisionRx hdr ws s)) := by
  unfold execPairDecisionRx
  repeat' first
    | with_reducible refine Keeps.next ?_
    | with_reducible refine k_plReceive _ _ _ _ _ (fun _ _ => ?_) (by decide)
    | with_reducible exact Keeps.refl _ _
    | with_reducible assumption
    | with_reducible refine (k_plReceive ..).step (by decide) ?_
    | with_reducible refine (k_partnerDecision ..).step (by decide) ?_
    | split

/-- `execPairAnchorRx` changes at most: wr, pair. -/
theorem k_execPairAnchorRx (hdr : Nat) (ws : List Nat) (s : State) : Keeps 524304 s (stateOf s (execPairAnchorRx hdr ws s)) := by
  unfold execPairAnchorRx
  repeat' first
    | with_reducible refine Keeps.next ?_
    | with_reducible refine k_plReceive _ _ _ _ _ (fun _ _ => ?_) (by decide)
    | with_reducible exact Keeps.refl _ _
    | with_reducible assumption
    | with_reducible refine (k_plReceive ..).step (by decide) ?_
    | with_reducible refine (k_anchorRx ..).step (by decide) ?_
    | split

/-- `execPairThetaRx` changes at most: wr, pair. -/
theorem k_execPairThetaRx (hdr : Nat) (ws : List Nat) (s : State) : Keeps 524304 s (stateOf s (execPairThetaRx hdr ws s)) := by
  unfold execPairThetaRx
  repeat' first
    | with_reducible refine Keeps.next ?_
    | with_reducible refine k_plReceive _ _ _ _ _ (fun _ _ => ?_) (by decide)
    | with_reducible exact Keeps.refl _ _
    | with_reducible assumption
    | with_reducible refine (k_plReceive ..).step (by decide) ?_
    | with_reducible refine (k_thetaRx ..).step (by decide) ?_
    | split

/-- `execEpochNoteRx` changes at most: wr, tri, ports, pair. -/
theorem k_execEpochNoteRx (hdr : Nat) (ws : List Nat) (s : State) : Keeps 534544 s (stateOf s (execEpochNoteRx hdr ws s)) := by
  unfold execEpochNoteRx
  repeat' first
    | with_reducible refine Keeps.next ?_
    | with_reducible refine k_plReceive _ _ _ _ _ (fun _ _ => ?_) (by decide)
    | with_reducible exact Keeps.refl _ _
    | with_reducible assumption
    | with_reducible refine (k_plReceive ..).step (by decide) ?_
    | with_reducible refine (k_noteRx ..).step (by decide) ?_
    | split

/-- `execPairDigestRx` changes at most: out, wr, pair, can. -/
theorem k_execPairDigestRx (hdr : Nat) (ws : List Nat) (s : State) : Keeps 34078744 s (stateOf s (execPairDigestRx hdr ws s)) := by
  unfold execPairDigestRx
  repeat' first
    | with_reducible refine Keeps.next ?_
    | with_reducible refine k_plReceive _ _ _ _ _ (fun _ _ => ?_) (by decide)
    | with_reducible exact Keeps.refl _ _
    | with_reducible assumption
    | with_reducible refine (k_plReceive ..).step (by decide) ?_
    | with_reducible refine (k_digestRx ..).step (by decide) ?_
    | split

/-- `execDigestEntryExpiry` changes at most: wr, pair. -/
theorem k_execDigestEntryExpiry (s : State) : Keeps 524304 s (stateOf s (execDigestEntryExpiry s)) := by
  unfold execDigestEntryExpiry
  repeat' first
    | with_reducible refine Keeps.next ?_
    | with_reducible exact Keeps.refl _ _
    | with_reducible assumption
    | with_reducible refine (k_digestExpire ..).step (by decide) ?_

/-- `execJoinRequestRx` changes at most: out, wr, pair. -/
theorem k_execJoinRequestRx (hdr : Nat) (ws : List Nat) (s : State) : Keeps 524312 s (stateOf s (execJoinRequestRx hdr ws s)) := by
  unfold execJoinRequestRx
  repeat' first
    | with_reducible refine Keeps.next ?_
    | with_reducible refine k_plReceive _ _ _ _ _ (fun _ _ => ?_) (by decide)
    | with_reducible exact Keeps.refl _ _
    | with_reducible assumption
    | with_reducible refine (k_plReceive ..).step (by decide) ?_
    | with_reducible refine (k_joinRequest ..).step (by decide) ?_
    | with_reducible refine Keeps.ite ?_ ?_
    | split

/-- `execJoinAtRx` changes at most: wr, pair. -/
theorem k_execJoinAtRx (hdr : Nat) (ws : List Nat) (s : State) : Keeps 524304 s (stateOf s (execJoinAtRx hdr ws s)) := by
  unfold execJoinAtRx
  repeat' first
    | with_reducible refine Keeps.next ?_
    | with_reducible refine k_plReceive _ _ _ _ _ (fun _ _ => ?_) (by decide)
    | with_reducible exact Keeps.refl _ _
    | with_reducible assumption
    | with_reducible refine (k_plReceive ..).step (by decide) ?_
    | with_reducible refine (k_joinAt ..).step (by decide) ?_
    | with_reducible refine Keeps.ite ?_ ?_
    | split

/-- `execJoinSeqRx` changes at most: freeCnt, out, wr, sch, queues, pair, mus, mems, can. -/
theorem k_execJoinSeqRx (hdr : Nat) (ws : List Nat) (s : State) : Keeps 43679770 s (stateOf s (execJoinSeqRx hdr ws s)) := by
  unfold execJoinSeqRx
  repeat' first
    | with_reducible refine Keeps.next ?_
    | with_reducible refine k_plReceive _ _ _ _ _ (fun _ _ => ?_) (by decide)
    | with_reducible exact Keeps.refl _ _
    | with_reducible assumption
    | with_reducible refine (k_plReceive ..).step (by decide) ?_
    | with_reducible refine (k_joinSeq ..).step (by decide) ?_
    | with_reducible refine Keeps.ite ?_ ?_
    | split

/-- `execPairFwRx` changes at most: out, wr, pair, mbx. -/
theorem k_execPairFwRx (hdr : Nat) (ws : List Nat) (s : State) : Keeps 268959768 s (stateOf s (execPairFwRx hdr ws s)) := by
  unfold execPairFwRx
  repeat' first
    | with_reducible refine Keeps.next ?_
    | with_reducible refine k_plReceive _ _ _ _ _ (fun _ _ => ?_) (by decide)
    | with_reducible exact Keeps.refl _ _
    | with_reducible assumption
    | with_reducible refine (k_plReceive ..).step (by decide) ?_
    | with_reducible refine (k_fwRx ..).step (by decide) ?_
    | split

/-- `execPairRejoin` changes at most: out, wr, dlinks, pair, mus. -/
theorem k_execPairRejoin (s : State) : Keeps 1589272 s (stateOf s (execPairRejoin s)) := by
  unfold execPairRejoin
  repeat' first
    | with_reducible refine Keeps.next ?_
    | with_reducible exact Keeps.refl _ _
    | with_reducible assumption
    | with_reducible refine (k_rejoin ..).step (by decide) ?_

/-- `execPairGoAlone` changes at most: wr, dlinks, pair. -/
theorem k_execPairGoAlone (s : State) : Keeps 540688 s (stateOf s (execPairGoAlone s)) := by
  unfold execPairGoAlone
  repeat' first
    | with_reducible refine Keeps.next ?_
    | with_reducible exact Keeps.refl _ _
    | with_reducible assumption
    | with_reducible refine (k_goAloneWrite ..).step (by decide) ?_

/-- `execPairMuteWrite` changes at most: wr. -/
theorem k_execPairMuteWrite (v : Bool) (s : State) : Keeps 16 s (stateOf s (execPairMuteWrite v s)) := by
  unfold execPairMuteWrite
  repeat' first
    | with_reducible refine Keeps.next ?_
    | with_reducible exact Keeps.refl _ _
    | with_reducible assumption
    | with_reducible refine (k_wset ..).step (by decide) ?_
    | split

/-- `execPairEnWrite` changes at most: out, wr, dlinks, pair, can, sys, env. -/
theorem k_execPairEnWrite (en : Bool) (s : State) : Keeps 705183768 s (stateOf s (execPairEnWrite en s)) := by
  unfold execPairEnWrite
  repeat' first
    | with_reducible refine Keeps.next ?_
    | with_reducible exact Keeps.refl _ _
    | with_reducible assumption
    | with_reducible refine (k_writePairEn ..).step (by decide) ?_
    | split

/-- `execPairClaimWrite` changes at most: wr, dlinks. -/
theorem k_execPairClaimWrite (value : Nat) (s : State) : Keeps 16400 s (stateOf s (execPairClaimWrite value s)) := by
  unfold execPairClaimWrite
  repeat' first
    | with_reducible refine Keeps.next ?_
    | with_reducible exact Keeps.refl _ _
    | with_reducible assumption
    | with_reducible refine (k_writeClaim ..).step (by decide) ?_
    | split

/-- `execPlLockSet` changes at most: wr. -/
theorem k_execPlLockSet (s : State) : Keeps 16 s (stateOf s (execPlLockSet s)) := by
  unfold execPlLockSet
  repeat' first
    | with_reducible refine Keeps.next ?_
    | with_reducible exact Keeps.refl _ _
    | with_reducible assumption
    | with_reducible refine (k_wset ..).step (by decide) ?_
    | split

/-- `execPlLockClear` changes at most: wr. -/
theorem k_execPlLockClear (s : State) : Keeps 16 s (stateOf s (execPlLockClear s)) := by
  unfold execPlLockClear
  repeat' first
    | with_reducible refine Keeps.next ?_
    | with_reducible exact Keeps.refl _ _
    | with_reducible assumption
    | with_reducible refine (k_wadd ..).step (by decide) ?_
    | with_reducible refine (k_wset ..).step (by decide) ?_
    | split

end Sys2Proof.Machine
end

