-- ==== Sys2Proof/Laws/KeepsExWnEnv.lean ====
section
/-! SUPPORT. What the operations of Machine/WnEnv.lean may change: the commands. -/

namespace Sys2Proof.Machine

open Sys2Proof

/-- `execEnvGo` changes at most: wr, env. -/
theorem k_execEnvGo (s : State) : Keeps 536870928 s (stateOf s (execEnvGo s)) := by
  unfold execEnvGo
  repeat' first
    | with_reducible refine Keeps.next ?_
    | with_reducible exact Keeps.refl _ _
    | with_reducible assumption
    | with_reducible refine (k_envGo ..).step (by decide) ?_

/-- `execEnvTimerSweep` changes at most: wr, env. -/
theorem k_execEnvTimerSweep (s : State) : Keeps 536870928 s (stateOf s (execEnvTimerSweep s)) := by
  unfold execEnvTimerSweep
  repeat' first
    | with_reducible refine Keeps.next ?_
    | with_reducible exact Keeps.refl _ _
    | with_reducible assumption
    | with_reducible refine (k_envTimer ..).step (by decide) ?_

/-- `execEnvConversionDone` changes at most: wr, env. -/
theorem k_execEnvConversionDone (vp : Nat) (vn : Nat) (s : State) : Keeps 536870928 s (stateOf s (execEnvConversionDone vp vn s)) := by
  unfold execEnvConversionDone
  repeat' first
    | with_reducible refine Keeps.next ?_
    | with_reducible exact Keeps.refl _ _
    | with_reducible assumption
    | with_reducible refine (k_envConvEnd ..).step (by decide) ?_
    | split

/-- `execEnvRefWrite` changes at most: wr, env. -/
theorem k_execEnvRefWrite (en : Bool) (s : State) : Keeps 536870928 s (stateOf s (execEnvRefWrite en s)) := by
  unfold execEnvRefWrite
  repeat' first
    | with_reducible refine Keeps.next ?_
    | with_reducible exact Keeps.refl _ _
    | with_reducible assumption
    | with_reducible refine (k_envRefWrite ..).step (by decide) ?_
    | split

/-- `execEnvRefReady` changes at most: wr. -/
theorem k_execEnvRefReady (s : State) : Keeps 16 s (stateOf s (execEnvRefReady s)) := by
  unfold execEnvRefReady
  repeat' first
    | with_reducible refine Keeps.next ?_
    | with_reducible exact Keeps.refl _ _
    | with_reducible assumption
    | with_reducible refine (k_envRefReady ..).step (by decide) ?_

/-- `execEnvRangeWrite` changes at most: wr, env. -/
theorem k_execEnvRangeWrite (ch : Nat) (range : Nat) (s : State) : Keeps 536870928 s (stateOf s (execEnvRangeWrite ch range s)) := by
  unfold execEnvRangeWrite
  repeat' first
    | with_reducible refine Keeps.next ?_
    | with_reducible exact Keeps.refl _ _
    | with_reducible assumption
    | with_reducible refine (k_envRange ..).step (by decide) ?_
    | split

/-- `execRangeSwitch` changes at most: wr, env. -/
theorem k_execRangeSwitch (ch : Nat) (s : State) : Keeps 536870928 s (stateOf s (execRangeSwitch ch s)) := by
  unfold execRangeSwitch
  repeat' first
    | with_reducible refine Keeps.next ?_
    | with_reducible exact Keeps.refl _ _
    | with_reducible assumption
    | with_reducible refine (k_envSwitch ..).step (by decide) ?_
    | split

/-- `execRangeRampDone` changes at most: wr, env. -/
theorem k_execRangeRampDone (ch : Nat) (s : State) : Keeps 536870928 s (stateOf s (execRangeRampDone ch s)) := by
  unfold execRangeRampDone
  repeat' first
    | with_reducible refine Keeps.next ?_
    | with_reducible exact Keeps.refl _ _
    | with_reducible assumption
    | with_reducible refine (k_envRampEnd ..).step (by decide) ?_
    | split

/-- `execOpenDetect` changes at most: wr, env. -/
theorem k_execOpenDetect (ch : Nat) (s : State) : Keeps 536870928 s (stateOf s (execOpenDetect ch s)) := by
  unfold execOpenDetect
  repeat' first
    | with_reducible refine Keeps.next ?_
    | with_reducible exact Keeps.refl _ _
    | with_reducible assumption
    | with_reducible refine (k_envOpen ..).step (by decide) ?_
    | split

/-- `execOpenClear` changes at most: wr, env. -/
theorem k_execOpenClear (ch : Nat) (s : State) : Keeps 536870928 s (stateOf s (execOpenClear ch s)) := by
  unfold execOpenClear
  repeat' first
    | with_reducible refine Keeps.next ?_
    | with_reducible exact Keeps.refl _ _
    | with_reducible assumption
    | with_reducible refine (k_envShow ..).step (by decide) ?_
    | with_reducible refine (k_wset ..).step (by decide) ?_
    | split

/-- `execProbeClampEngage` changes at most: wr, env. -/
theorem k_execProbeClampEngage (ch : Nat) (s : State) : Keeps 536870928 s (stateOf s (execProbeClampEngage ch s)) := by
  unfold execProbeClampEngage
  repeat' first
    | with_reducible refine Keeps.next ?_
    | with_reducible exact Keeps.refl _ _
    | with_reducible assumption
    | with_reducible refine (k_envClamp ..).step (by decide) ?_
    | split

/-- `execProbeClampRelease` changes at most: env. -/
theorem k_execProbeClampRelease (ch : Nat) (s : State) : Keeps 536870912 s (stateOf s (execProbeClampRelease ch s)) := by
  unfold execProbeClampRelease
  repeat' first
    | with_reducible refine Keeps.next ?_
    | with_reducible exact Keeps.refl _ _
    | with_reducible assumption
    | with_reducible refine (k_envUnclamp ..).step (by decide) ?_
    | split

/-- `execSourceFed` changes at most: wr, env. -/
theorem k_execSourceFed (ch : Nat) (s : State) : Keeps 536870928 s (stateOf s (execSourceFed ch s)) := by
  unfold execSourceFed
  repeat' first
    | with_reducible refine Keeps.next ?_
    | with_reducible exact Keeps.refl _ _
    | with_reducible assumption
    | with_reducible refine (k_envFed ..).step (by decide) ?_
    | split

/-- `execEnvRetry` changes at most: wr, env. -/
theorem k_execEnvRetry (ch : Nat) (s : State) : Keeps 536870928 s (stateOf s (execEnvRetry ch s)) := by
  unfold execEnvRetry
  repeat' first
    | with_reducible refine Keeps.next ?_
    | with_reducible exact Keeps.refl _ _
    | with_reducible assumption
    | with_reducible refine (k_envRetry ..).step (by decide) ?_
    | split

/-- `execContendSet` changes at most: wr, env. -/
theorem k_execContendSet (a : Nat) (b : Nat) (s : State) : Keeps 536870928 s (stateOf s (execContendSet a b s)) := by
  unfold execContendSet
  repeat' first
    | with_reducible refine Keeps.next ?_
    | with_reducible exact Keeps.refl _ _
    | with_reducible assumption
    | with_reducible refine (k_envContend ..).step (by decide) ?_
    | split

/-- `execContendClear` changes at most: wr, env. -/
theorem k_execContendClear (a : Nat) (b : Nat) (s : State) : Keeps 536870928 s (stateOf s (execContendClear a b s)) := by
  unfold execContendClear
  repeat' first
    | with_reducible refine Keeps.next ?_
    | with_reducible exact Keeps.refl _ _
    | with_reducible assumption
    | with_reducible refine (k_envShow ..).step (by decide) ?_
    | with_reducible refine (k_wsets ..).step (by decide) ?_
    | split

/-- `execIlReqWrite` changes at most: wr, env. -/
theorem k_execIlReqWrite (agent : Nat) (k : Nat) (value : Nat) (s : State) : Keeps 536870928 s (stateOf s (execIlReqWrite agent k value s)) := by
  unfold execIlReqWrite
  repeat' first
    | with_reducible refine Keeps.next ?_
    | with_reducible exact Keeps.refl _ _
    | with_reducible assumption
    | with_reducible refine (k_ilWrite ..).step (by decide) ?_
    | split

/-- `execEnvKickWrite` changes at most: wr, env. -/
theorem k_execEnvKickWrite (agent : Nat) (s : State) : Keeps 536870928 s (stateOf s (execEnvKickWrite agent s)) := by
  unfold execEnvKickWrite
  repeat' first
    | with_reducible refine Keeps.next ?_
    | with_reducible exact Keeps.refl _ _
    | with_reducible assumption
    | with_reducible refine (k_envKick ..).step (by decide) ?_
    | split

/-- `execKickExpiry` changes at most: wr, env. -/
theorem k_execKickExpiry (s : State) : Keeps 536870928 s (stateOf s (execKickExpiry s)) := by
  unfold execKickExpiry
  repeat' first
    | with_reducible refine Keeps.next ?_
    | with_reducible exact Keeps.refl _ _
    | with_reducible assumption
    | with_reducible refine (k_envShow ..).step (by decide) ?_

/-- `execResultAgeExpiry` changes at most: wr, env. -/
theorem k_execResultAgeExpiry (s : State) : Keeps 536870928 s (stateOf s (execResultAgeExpiry s)) := by
  unfold execResultAgeExpiry
  repeat' first
    | with_reducible refine Keeps.next ?_
    | with_reducible exact Keeps.refl _ _
    | with_reducible assumption
    | with_reducible refine (k_envShow ..).step (by decide) ?_

/-- `execIlOvertemp` changes at most: wr, env. -/
theorem k_execIlOvertemp (k : Nat) (s : State) : Keeps 536870928 s (stateOf s (execIlOvertemp k s)) := by
  unfold execIlOvertemp
  repeat' first
    | with_reducible refine Keeps.next ?_
    | with_reducible exact Keeps.refl _ _
    | with_reducible assumption
    | with_reducible refine (k_envShow ..).step (by decide) ?_
    | with_reducible refine (k_wset ..).step (by decide) ?_
    | split

/-- `execIlOvertempClear` changes at most: wr, env. -/
theorem k_execIlOvertempClear (k : Nat) (s : State) : Keeps 536870928 s (stateOf s (execIlOvertempClear k s)) := by
  unfold execIlOvertempClear
  repeat' first
    | with_reducible refine Keeps.next ?_
    | with_reducible exact Keeps.refl _ _
    | with_reducible assumption
    | with_reducible refine (k_envShow ..).step (by decide) ?_
    | with_reducible refine (k_wset ..).step (by decide) ?_
    | split

/-- `execIlShort` changes at most: wr. -/
theorem k_execIlShort (k : Nat) (s : State) : Keeps 16 s (stateOf s (execIlShort k s)) := by
  unfold execIlShort
  repeat' first
    | with_reducible refine Keeps.next ?_
    | with_reducible exact Keeps.refl _ _
    | with_reducible assumption
    | with_reducible refine (k_wset ..).step (by decide) ?_
    | with_reducible refine Keeps.ite ?_ ?_
    | split

end Sys2Proof.Machine
end

