-- ==== Sys2Proof/Laws/KeepsExWnPwr.lean ====
section
/-! SUPPORT. What the operations of Machine/WnPwr.lean may change: the commands. -/

namespace Sys2Proof.Machine

open Sys2Proof

/-- `execVinUvloRelease` changes at most: sys, pwr. -/
theorem k_execVinUvloRelease (s : State) : Keeps 1207959552 s (stateOf s (execVinUvloRelease s)) := by
  unfold execVinUvloRelease
  repeat' first
    | with_reducible refine Keeps.next ?_
    | with_reducible exact Keeps.refl _ _
    | with_reducible assumption
    | with_reducible refine (k_uvloRelease ..).step (by decide) ?_

/-- `execVinUvloAssert` changes at most: wr, sys, pwr. -/
theorem k_execVinUvloAssert (s : State) : Keeps 1207959568 s (stateOf s (execVinUvloAssert s)) := by
  unfold execVinUvloAssert
  repeat' first
    | with_reducible refine Keeps.next ?_
    | with_reducible exact Keeps.refl _ _
    | with_reducible assumption
    | with_reducible refine (k_uvloAssert ..).step (by decide) ?_

/-- `execVinOvloAssert` changes at most: wr, sys, pwr. -/
theorem k_execVinOvloAssert (s : State) : Keeps 1207959568 s (stateOf s (execVinOvloAssert s)) := by
  unfold execVinOvloAssert
  repeat' first
    | with_reducible refine Keeps.next ?_
    | with_reducible exact Keeps.refl _ _
    | with_reducible assumption
    | with_reducible refine (k_ovloAssert ..).step (by decide) ?_

/-- `execVinOvloRelease` changes at most: freeCnt, sys, pwr. -/
theorem k_execVinOvloRelease (s : State) : Keeps 1207959554 s (stateOf s (execVinOvloRelease s)) := by
  unfold execVinOvloRelease
  repeat' first
    | with_reducible refine Keeps.next ?_
    | with_reducible exact Keeps.refl _ _
    | with_reducible assumption
    | with_reducible refine (k_ovloRelease ..).step (by decide) ?_

/-- `execVintRegulation` changes at most: pwr. -/
theorem k_execVintRegulation (rise : Nat) (s : State) : Keeps 1073741824 s (stateOf s (execVintRegulation rise s)) := by
  unfold execVintRegulation
  repeat' first
    | with_reducible refine Keeps.next ?_
    | with_reducible exact Keeps.refl _ _
    | with_reducible assumption
    | with_reducible refine (k_vintGood ..).step (by decide) ?_
    | split

/-- `execRailStart` changes at most: pwr. -/
theorem k_execRailStart (rise : Nat) (s : State) : Keeps 1073741824 s (stateOf s (execRailStart rise s)) := by
  unfold execRailStart
  repeat' first
    | with_reducible refine Keeps.next ?_
    | with_reducible exact Keeps.refl _ _
    | with_reducible assumption
    | with_reducible refine (k_railStart ..).step (by decide) ?_
    | split

/-- `execPgRelease` changes at most: wr, pwr. -/
theorem k_execPgRelease (s : State) : Keeps 1073741840 s (stateOf s (execPgRelease s)) := by
  unfold execPgRelease
  repeat' first
    | with_reducible refine Keeps.next ?_
    | with_reducible exact Keeps.refl _ _
    | with_reducible assumption
    | with_reducible refine (k_pgRelease ..).step (by decide) ?_

/-- `execRailFault` changes at most: wr, sys, pwr. -/
theorem k_execRailFault (rail : Nat) (s : State) : Keeps 1207959568 s (stateOf s (execRailFault rail s)) := by
  unfold execRailFault
  repeat' first
    | with_reducible refine Keeps.next ?_
    | with_reducible exact Keeps.refl _ _
    | with_reducible assumption
    | with_reducible refine (k_powerFault ..).step (by decide) ?_
    | with_reducible refine Keeps.ite ?_ ?_
    | split

/-- `execPowerStageOvertemp` changes at most: wr, sys, pwr. -/
theorem k_execPowerStageOvertemp (s : State) : Keeps 1207959568 s (stateOf s (execPowerStageOvertemp s)) := by
  unfold execPowerStageOvertemp
  repeat' first
    | with_reducible refine Keeps.next ?_
    | with_reducible exact Keeps.refl _ _
    | with_reducible assumption
    | with_reducible refine (k_powerFault ..).step (by decide) ?_
    | split

/-- `execPowerRestart` changes at most: sys, pwr. -/
theorem k_execPowerRestart (cool : Bool) (s : State) : Keeps 1207959552 s (stateOf s (execPowerRestart cool s)) := by
  unfold execPowerRestart
  repeat' first
    | with_reducible refine Keeps.next ?_
    | with_reducible exact Keeps.refl _ _
    | with_reducible assumption
    | with_reducible refine (k_powerRestart ..).step (by decide) ?_
    | split

/-- `execVinBelow12v` changes at most: wr. -/
theorem k_execVinBelow12v (s : State) : Keeps 16 s (stateOf s (execVinBelow12v s)) := by
  unfold execVinBelow12v
  repeat' first
    | with_reducible refine Keeps.next ?_
    | with_reducible exact Keeps.refl _ _
    | with_reducible assumption
    | with_reducible refine (k_wsets ..).step (by decide) ?_
    | split

/-- `execPwrMeasure` changes at most: wr. -/
theorem k_execPwrMeasure (vin : Nat) (iin : Nat) (v : List Nat) (i : List Nat) (pdie : Nat) (cdie : Nat) (ok : Nat) (flags : Nat) (s : State) : Keeps 16 s (stateOf s (execPwrMeasure vin iin v i pdie cdie ok flags s)) := by
  unfold execPwrMeasure
  repeat' first
    | with_reducible refine Keeps.next ?_
    | with_reducible exact Keeps.refl _ _
    | with_reducible assumption
    | with_reducible refine (k_measure ..).step (by decide) ?_
    | split

/-- `execResetNAssert` changes at most: sys. -/
theorem k_execResetNAssert (s : State) : Keeps 134217728 s (stateOf s (execResetNAssert s)) := by
  unfold execResetNAssert
  repeat' first
    | with_reducible refine Keeps.next ?_
    | with_reducible exact Keeps.refl _ _
    | with_reducible assumption
    | with_reducible refine (k_askReset ..).step (by decide) ?_
    | with_reducible refine Keeps.ite ?_ ?_
    | split

/-- `execSysResetWarm` changes at most: sys. -/
theorem k_execSysResetWarm (agent : Nat) (s : State) : Keeps 134217728 s (stateOf s (execSysResetWarm agent s)) := by
  unfold execSysResetWarm
  repeat' first
    | with_reducible refine Keeps.next ?_
    | with_reducible exact Keeps.refl _ _
    | with_reducible assumption
    | with_reducible refine (k_writeReset ..).step (by decide) ?_
    | split

/-- `execResetAssert` changes at most: out, wr, wclk, mtime0, mem, mer, tri, lanes, ports, dlinks, sch, cores, queues, image, pair, mus, cmp, eth, mems, can, gov, sys, mbx, env, dbg, taps, held. -/
theorem k_execResetAssert (s : State) : Keeps 16089350040 s (stateOf s (execResetAssert s)) := by
  unfold execResetAssert
  repeat' first
    | with_reducible refine Keeps.next ?_
    | with_reducible exact Keeps.refl _ _
    | with_reducible assumption
    | with_reducible refine (k_resetAssert ..).step (by decide) ?_

/-- `execSelfTestStart` changes at most: out, wr, mtime0, sch, queues, can, sys, env. -/
theorem k_execSelfTestStart (s : State) : Keeps 704807192 s (stateOf s (execSelfTestStart s)) := by
  unfold execSelfTestStart
  repeat' first
    | with_reducible refine Keeps.next ?_
    | with_reducible exact Keeps.refl _ _
    | with_reducible assumption
    | with_reducible refine (k_testStart ..).step (by decide) ?_

/-- `execXoInPresent` changes at most: wr, mem, mems, sys. -/
theorem k_execXoInPresent (words : List Nat) (spares : List Nat) (checks : Nat) (queues : Nat) (engs : Nat) (counts : List Nat) (s : State) : Keeps 142606864 s (stateOf s (execXoInPresent words spares checks queues engs counts s)) := by
  unfold execXoInPresent
  repeat' first
    | with_reducible refine Keeps.next ?_
    | with_reducible exact Keeps.refl _ _
    | with_reducible assumption
    | with_reducible refine (k_selfTest ..).step (by decide) ?_
    | split

/-- `execSelfTestComplete` changes at most: out, wr, ports, dlinks, sch, cores, queues, pair, mus, cmp, eth, mems, can, gov, sys, env. -/
theorem k_execSelfTestComplete (s : State) : Keeps 788258840 s (stateOf s (execSelfTestComplete s)) := by
  unfold execSelfTestComplete
  repeat' first
    | with_reducible refine Keeps.next ?_
    | with_reducible exact Keeps.refl _ _
    | with_reducible assumption
    | with_reducible refine (k_testEnd ..).step (by decide) ?_

/-- `execFirmwareLoaded` changes at most: wr, mem, cores, mems, sys. -/
theorem k_execFirmwareLoaded (ok0 : Bool) (ok1 : Bool) (s : State) : Keeps 142672400 s (stateOf s (execFirmwareLoaded ok0 ok1 s)) := by
  unfold execFirmwareLoaded
  repeat' first
    | with_reducible refine Keeps.next ?_
    | with_reducible exact Keeps.refl _ _
    | with_reducible assumption
    | with_reducible refine (k_firmware ..).step (by decide) ?_
    | split

/-- `execWatchdogKick` changes at most: sys. -/
theorem k_execWatchdogKick (agent : Nat) (s : State) : Keeps 134217728 s (stateOf s (execWatchdogKick agent s)) := by
  unfold execWatchdogKick
  repeat' first
    | with_reducible refine Keeps.next ?_
    | with_reducible exact Keeps.refl _ _
    | with_reducible assumption
    | with_reducible refine (k_wdKick ..).step (by decide) ?_
    | split

/-- `execWatchdogExpiry` changes at most: out, wr, ports, dlinks, pair, mus, cmp, eth, can, gov, sys, env. -/
theorem k_execWatchdogExpiry (s : State) : Keeps 779640856 s (stateOf s (execWatchdogExpiry s)) := by
  unfold execWatchdogExpiry
  repeat' first
    | with_reducible refine Keeps.next ?_
    | with_reducible exact Keeps.refl _ _
    | with_reducible assumption
    | with_reducible refine (k_wdExpiry ..).step (by decide) ?_

/-- `execSysFatalEnter` changes at most: out, wr, ports, dlinks, pair, mus, cmp, eth, can, gov, sys, env. -/
theorem k_execSysFatalEnter (agent : Nat) (code : Nat) (s : State) : Keeps 779640856 s (stateOf s (execSysFatalEnter agent code s)) := by
  unfold execSysFatalEnter
  repeat' first
    | with_reducible refine Keeps.next ?_
    | with_reducible exact Keeps.refl _ _
    | with_reducible assumption
    | with_reducible refine (k_fatalEnter ..).step (by decide) ?_
    | split

/-- `execFatalTimer` changes at most: sys. -/
theorem k_execFatalTimer (s : State) : Keeps 134217728 s (stateOf s (execFatalTimer s)) := by
  unfold execFatalTimer
  repeat' first
    | with_reducible refine Keeps.next ?_
    | with_reducible exact Keeps.refl _ _
    | with_reducible assumption
    | with_reducible refine (k_fatalTimer ..).step (by decide) ?_

/-- `execFatalRunClear` changes at most: wr. -/
theorem k_execFatalRunClear (s : State) : Keeps 16 s (stateOf s (execFatalRunClear s)) := by
  unfold execFatalRunClear
  repeat' first
    | with_reducible refine Keeps.next ?_
    | with_reducible exact Keeps.refl _ _
    | with_reducible assumption
    | with_reducible refine (k_fatalRunClear ..).step (by decide) ?_

/-- `execNdmreset` changes at most: sys. -/
theorem k_execNdmreset (s : State) : Keeps 134217728 s (stateOf s (execNdmreset s)) := by
  unfold execNdmreset
  repeat' first
    | with_reducible refine Keeps.next ?_
    | with_reducible exact Keeps.refl _ _
    | with_reducible assumption
    | with_reducible refine (k_askReset ..).step (by decide) ?_
    | split

end Sys2Proof.Machine
end

