-- ==== Sys2Proof/Laws/KeepsExWnAlarm.lean ====
section
/-! SUPPORT. What the operations of Machine/WnAlarm.lean may change: the commands. -/

namespace Sys2Proof.Machine

open Sys2Proof

/-- `execAlarmFire` changes at most: out, wr, mer, ports, dlinks, sch, pair, env. -/
theorem k_execAlarmFire (n : Nat) (s : State) : Keeps 537453592 s (stateOf s (execAlarmFire n s)) := by
  unfold execAlarmFire
  repeat' first
    | with_reducible refine Keeps.next ?_
    | with_reducible exact Keeps.refl _ _
    | with_reducible assumption
    | with_reducible refine (k_fireAlarm ..).step (by decide) ?_
    | split

end Sys2Proof.Machine
end

