-- ==== Sys2Proof/Laws/KeepsExWnBus.lean ====
section
/-! SUPPORT. What the operations of Machine/WnBus.lean may change: the commands. -/

namespace Sys2Proof.Machine

open Sys2Proof

/-- `execRegisterRead` changes at most: freeCnt, out, wr, mer, sch, cores, queues, mus, mems, can, mbx, dbg, held. -/
theorem k_execRegisterRead (agent : Nat) (addr : Nat) (err : Nat) (s : State) : Keeps 11049075738 s (stateOf s (execRegisterRead agent addr err s)) := by
  unfold execRegisterRead
  repeat' first
    | with_reducible refine Keeps.next ?_
    | with_reducible exact Keeps.refl _ _
    | with_reducible assumption
    | with_reducible refine (k_endLoad ..).step (by decide) ?_
    | split
    | with_reducible refine Keeps.ofSnd (by assumption) ?_
    | with_reducible refine (k_busRead ..).step (by decide) ?_
    | with_reducible dsimp only

/-- `execRegisterWrite` changes at most: out, wr, mer, tri, lanes, ports, dlinks, sch, cores, queues, pair, mus, cmp, eth, mems, can, gov, sys, mbx, env, dbg. -/
theorem k_execRegisterWrite (agent : Nat) (addr : Nat) (value : Nat) (s : State) : Keeps 3204185112 s (stateOf s (execRegisterWrite agent addr value s)) := by
  unfold execRegisterWrite
  repeat' first
    | with_reducible refine Keeps.next ?_
    | with_reducible exact Keeps.refl _ _
    | with_reducible assumption
    | with_reducible refine (k_busWrite ..).step (by decide) ?_
    | split

/-- `execQuietAliasWrite` changes at most: out, cores, dbg. -/
theorem k_execQuietAliasWrite (agent : Nat) (addr : Nat) (s : State) : Keeps 2147549192 s (stateOf s (execQuietAliasWrite agent addr s)) := by
  unfold execQuietAliasWrite
  repeat' first
    | with_reducible refine Keeps.next ?_
    | with_reducible exact Keeps.refl _ _
    | with_reducible assumption
    | with_reducible refine (k_storeFault ..).step (by decide) ?_
    | split

end Sys2Proof.Machine
end

