-- ==== Sys2Proof/Laws/KeepsExWnChecks.lean ====
section
/-! SUPPORT. What the operations of Machine/WnChecks.lean may change: the commands. -/

namespace Sys2Proof.Machine

open Sys2Proof

/-- `execAdmissionChecksDone` changes at most: freeCnt, out, wr, mer, tri, lanes, ports, dlinks, sch, cores, queues, image, pair, mus, cmp, eth, mems, can, gov, sys, mbx, env. -/
theorem k_execAdmissionChecksDone (s : State) : Keeps 1056963610 s (stateOf s (execAdmissionChecksDone s)) := by
  unfold execAdmissionChecksDone
  repeat' first
    | with_reducible refine Keeps.next ?_
    | with_reducible exact Keeps.refl _ _
    | with_reducible assumption
    | with_reducible refine (k_checksDone ..).step (by decide) ?_

end Sys2Proof.Machine
end

