-- ==== Sys2Proof/Laws/KeepsExWnDict.lean ====
section
/-! SUPPORT. What the operations of Machine/WnDict.lean may change: the commands. -/

namespace Sys2Proof.Machine

open Sys2Proof

/-- `execDictRead` changes at most: freeCnt, out, wr, mem, mer, tri, lanes, ports, dlinks, sch, cores, queues, pair, mus, cmp, eth, mems, can, gov, sys, mbx, env, held. -/
theorem k_execDictRead (err : Nat) (us : List Nat) (s : State) : Keeps 9646636570 s (stateOf s (execDictRead err us s)) := by
  unfold execDictRead
  repeat' first
    | with_reducible refine Keeps.next ?_
    | with_reducible exact Keeps.refl _ _
    | with_reducible assumption
    | with_reducible refine (k_dictServe ..).step (by decide) ?_
    | split

/-- `execDictWrite` changes at most: freeCnt, out, wr, mem, mer, tri, lanes, ports, dlinks, sch, cores, queues, pair, mus, cmp, eth, mems, can, gov, sys, mbx, env, held. -/
theorem k_execDictWrite (err : Nat) (us : List Nat) (s : State) : Keeps 9646636570 s (stateOf s (execDictWrite err us s)) := by
  unfold execDictWrite
  repeat' first
    | with_reducible refine Keeps.next ?_
    | with_reducible exact Keeps.refl _ _
    | with_reducible assumption
    | with_reducible refine (k_dictServe ..).step (by decide) ?_
    | split

/-- `execRpdoInband` changes at most: freeCnt, out, wr, mem, mer, tri, lanes, ports, dlinks, sch, cores, queues, pair, mus, cmp, eth, mems, can, gov, sys, mbx, env, held. -/
theorem k_execRpdoInband (err : Nat) (s : State) : Keeps 9646636570 s (stateOf s (execRpdoInband err s)) := by
  unfold execRpdoInband
  repeat' first
    | with_reducible refine Keeps.next ?_
    | with_reducible exact Keeps.refl _ _
    | with_reducible assumption
    | with_reducible refine (k_dictServe ..).step (by decide) ?_
    | split

/-- `execUsdoDownload` changes at most: freeCnt, out, wr, mem, mer, tri, lanes, ports, dlinks, sch, cores, queues, pair, mus, cmp, eth, mems, can, gov, sys, mbx, env, held. -/
theorem k_execUsdoDownload (node : Nat) (cmd : Nat) (index : Nat) (sub : Nat) (data : List Nat) (us : List Nat) (ack : Bool) (s : State) : Keeps 9646636570 s (stateOf s (execUsdoDownload node cmd index sub data us ack s)) := by
  unfold execUsdoDownload
  repeat' first
    | with_reducible refine Keeps.next ?_
    | with_reducible exact Keeps.refl _ _
    | with_reducible assumption
    | (extract_lets +onlyGivenNames x; refine Keeps.cut (m := 9646636570) (s := s) (u := x) ?_ ?_; rotate_left; all_goals first | (intro _; clear_value x) | subst x)
    | (extract_lets +onlyGivenNames x; clear_value x)
    | with_reducible refine (k_usdoDown ..).step (by decide) ?_
    | with_reducible refine (k_canHeard ..).step (by decide) ?_
    | with_reducible refine (k_canOutcome ..).step (by decide) ?_
    | with_reducible refine Keeps.ite ?_ ?_
    | split

/-- `execUsdoUpload` changes at most: freeCnt, out, wr, mem, mer, tri, lanes, ports, dlinks, sch, cores, queues, pair, mus, cmp, eth, mems, can, gov, sys, mbx, env, held. -/
theorem k_execUsdoUpload (node : Nat) (cmd : Nat) (index : Nat) (sub : Nat) (us : List Nat) (ack : Bool) (s : State) : Keeps 9646636570 s (stateOf s (execUsdoUpload node cmd index sub us ack s)) := by
  unfold execUsdoUpload
  repeat' first
    | with_reducible refine Keeps.next ?_
    | with_reducible exact Keeps.refl _ _
    | with_reducible assumption
    | (extract_lets +onlyGivenNames x; refine Keeps.cut (m := 9646636570) (s := s) (u := x) ?_ ?_; rotate_left; all_goals first | (intro _; clear_value x) | subst x)
    | (extract_lets +onlyGivenNames x; clear_value x)
    | with_reducible refine (k_usdoUp ..).step (by decide) ?_
    | with_reducible refine (k_canHeard ..).step (by decide) ?_
    | with_reducible refine (k_canOutcome ..).step (by decide) ?_
    | with_reducible refine Keeps.ite ?_ ?_
    | split

/-- `execUsdoTimeout` changes at most: out, wr, eth, can. -/
theorem k_execUsdoTimeout (node : Nat) (s : State) : Keeps 37748760 s (stateOf s (execUsdoTimeout node s)) := by
  unfold execUsdoTimeout
  repeat' first
    | with_reducible refine Keeps.next ?_
    | with_reducible exact Keeps.refl _ _
    | with_reducible assumption
    | with_reducible refine (k_endSession ..).step (by decide) ?_
    | with_reducible refine (k_answerDict ..).step (by decide) ?_
    | with_reducible refine Keeps.ite ?_ ?_
    | split

/-- `execCanRpdoRx` changes at most: freeCnt, out, wr, mer, tri, lanes, ports, dlinks, sch, cores, queues, pair, mus, cmp, eth, mems, can, gov, sys, mbx, env. -/
theorem k_execCanRpdoRx (n : Nat) (data : List Nat) (s : State) : Keeps 1056701466 s (stateOf s (execCanRpdoRx n data s)) := by
  unfold execCanRpdoRx
  repeat' first
    | with_reducible refine Keeps.next ?_
    | with_reducible exact Keeps.refl _ _
    | with_reducible assumption
    | (extract_lets +onlyGivenNames x; refine Keeps.cut (m := 1056701466) (s := s) (u := x) ?_ ?_; rotate_left; all_goals first | (intro _; clear_value x) | subst x)
    | (extract_lets +onlyGivenNames x; clear_value x)
    | with_reducible refine (k_canHeard ..).step (by decide) ?_
    | with_reducible refine (k_rpdo ..).step (by decide) ?_
    | with_reducible refine Keeps.ite ?_ ?_
    | split

/-- `execCanSyncRx` changes at most: freeCnt, out, wr, mer, tri, lanes, ports, dlinks, sch, cores, queues, pair, mus, cmp, eth, mems, can, gov, sys, mbx, env, held. -/
theorem k_execCanSyncRx (ack : Bool) (s : State) : Keeps 9646636058 s (stateOf s (execCanSyncRx ack s)) := by
  unfold execCanSyncRx
  repeat' first
    | with_reducible refine Keeps.next ?_
    | with_reducible exact Keeps.refl _ _
    | with_reducible assumption
    | (extract_lets +onlyGivenNames x; refine Keeps.cut (m := 9646636058) (s := s) (u := x) ?_ ?_; rotate_left; all_goals first | (intro _; clear_value x) | subst x)
    | (extract_lets +onlyGivenNames x; clear_value x)
    | with_reducible refine (k_sync ..).step (by decide) ?_
    | with_reducible refine (k_canHeard ..).step (by decide) ?_
    | with_reducible refine (k_canOutcome ..).step (by decide) ?_
    | with_reducible refine Keeps.ite ?_ ?_
    | split

/-- `execTpdoEvent` changes at most: freeCnt, out, wr, mer, sch, queues, mus, mems, can, mbx, held. -/
theorem k_execTpdoEvent (n : Nat) (ack : Bool) (s : State) : Keeps 8901526554 s (stateOf s (execTpdoEvent n ack s)) := by
  unfold execTpdoEvent
  repeat' first
    | with_reducible refine Keeps.next ?_
    | with_reducible exact Keeps.refl _ _
    | with_reducible assumption
    | with_reducible refine (k_tpdoEvent ..).step (by decide) ?_
    | with_reducible refine (k_canOutcome ..).step (by decide) ?_
    | split

/-- `execCanHeartbeatSend` changes at most: out, wr, can. -/
theorem k_execCanHeartbeatSend (ack : Bool) (s : State) : Keeps 33554456 s (stateOf s (execCanHeartbeatSend ack s)) := by
  unfold execCanHeartbeatSend
  repeat' first
    | with_reducible refine Keeps.next ?_
    | with_reducible exact Keeps.refl _ _
    | with_reducible assumption
    | (extract_lets +onlyGivenNames x; refine Keeps.cut (m := 33554456) (s := s) (u := x) ?_ ?_; rotate_left; all_goals first | (intro _; clear_value x) | subst x)
    | (extract_lets +onlyGivenNames x; clear_value x)
    | with_reducible refine (k_canOutcome ..).step (by decide) ?_
    | with_reducible refine (k_modCan ..).step (by decide) ?_
    | with_reducible refine (k_emitPin ..).step (by decide) ?_
    | with_reducible refine Keeps.ite ?_ ?_
    | split

/-- `execNmtStart` changes at most: freeCnt, wr. -/
theorem k_execNmtStart (s : State) : Keeps 18 s (stateOf s (execNmtStart s)) := by
  unfold execNmtStart
  repeat' first
    | with_reducible refine Keeps.next ?_
    | with_reducible exact Keeps.refl _ _
    | with_reducible assumption
    | with_reducible refine (k_nmtSet ..).step (by decide) ?_
    | with_reducible refine (k_canHeard ..).step (by decide) ?_
    | split

/-- `execNmtStop` changes at most: freeCnt, wr. -/
theorem k_execNmtStop (s : State) : Keeps 18 s (stateOf s (execNmtStop s)) := by
  unfold execNmtStop
  repeat' first
    | with_reducible refine Keeps.next ?_
    | with_reducible exact Keeps.refl _ _
    | with_reducible assumption
    | with_reducible refine (k_nmtSet ..).step (by decide) ?_
    | with_reducible refine (k_canHeard ..).step (by decide) ?_
    | split

/-- `execNmtEnterPreoperational` changes at most: freeCnt, wr. -/
theorem k_execNmtEnterPreoperational (s : State) : Keeps 18 s (stateOf s (execNmtEnterPreoperational s)) := by
  unfold execNmtEnterPreoperational
  repeat' first
    | with_reducible refine Keeps.next ?_
    | with_reducible exact Keeps.refl _ _
    | with_reducible assumption
    | with_reducible refine (k_nmtSet ..).step (by decide) ?_
    | with_reducible refine (k_canHeard ..).step (by decide) ?_
    | split

/-- `execNmtResetNode` changes at most: freeCnt, out, wr, can, sys. -/
theorem k_execNmtResetNode (s : State) : Keeps 167772186 s (stateOf s (execNmtResetNode s)) := by
  unfold execNmtResetNode
  repeat' first
    | with_reducible refine Keeps.next ?_
    | with_reducible exact Keeps.refl _ _
    | with_reducible assumption
    | with_reducible refine (k_resetComm ..).step (by decide) ?_
    | with_reducible refine (k_canHeard ..).step (by decide) ?_
    | with_reducible refine (k_askReset ..).step (by decide) ?_
    | with_reducible refine Keeps.ite ?_ ?_
    | split

/-- `execNmtResetCommunication` changes at most: freeCnt, out, wr, can. -/
theorem k_execNmtResetCommunication (s : State) : Keeps 33554458 s (stateOf s (execNmtResetCommunication s)) := by
  unfold execNmtResetCommunication
  repeat' first
    | with_reducible refine Keeps.next ?_
    | with_reducible exact Keeps.refl _ _
    | with_reducible assumption
    | with_reducible refine (k_resetComm ..).step (by decide) ?_
    | with_reducible refine (k_canHeard ..).step (by decide) ?_
    | with_reducible refine Keeps.ite ?_ ?_
    | split

/-- `execCanAckError` changes at most: wr, can. -/
theorem k_execCanAckError (s : State) : Keeps 33554448 s (stateOf s (execCanAckError s)) := by
  unfold execCanAckError
  repeat' first
    | with_reducible refine Keeps.next ?_
    | with_reducible exact Keeps.refl _ _
    | with_reducible assumption
    | with_reducible refine (k_canNoAck ..).step (by decide) ?_
    | with_reducible refine Keeps.ite ?_ ?_
    | split

/-- `execCanBusError` changes at most: wr. -/
theorem k_execCanBusError (tx : Bool) (eight : Bool) (s : State) : Keeps 16 s (stateOf s (execCanBusError tx eight s)) := by
  unfold execCanBusError
  repeat' first
    | with_reducible refine Keeps.next ?_
    | with_reducible exact Keeps.refl _ _
    | with_reducible assumption
    | with_reducible refine (k_canErrState ..).step (by decide) ?_
    | with_reducible refine (k_wadd ..).step (by decide) ?_
    | with_reducible refine Keeps.ite ?_ ?_
    | split

/-- `execBusOffRecovery` changes at most: out, wr, can. -/
theorem k_execBusOffRecovery (s : State) : Keeps 33554456 s (stateOf s (execBusOffRecovery s)) := by
  unfold execBusOffRecovery
  repeat' first
    | with_reducible refine Keeps.next ?_
    | with_reducible exact Keeps.refl _ _
    | with_reducible assumption
    | with_reducible refine (k_emcy ..).step (by decide) ?_
    | with_reducible refine (k_wadd ..).step (by decide) ?_
    | with_reducible refine (k_wsets ..).step (by decide) ?_
    | with_reducible refine Keeps.ite ?_ ?_
    | split

/-- `execCanExtendedFrameRx` changes at most: freeCnt, wr. -/
theorem k_execCanExtendedFrameRx (s : State) : Keeps 18 s (stateOf s (execCanExtendedFrameRx s)) := by
  unfold execCanExtendedFrameRx
  repeat' first
    | with_reducible refine Keeps.next ?_
    | with_reducible exact Keeps.refl _ _
    | with_reducible assumption
    | with_reducible refine (k_canHeard ..).step (by decide) ?_
    | with_reducible refine (k_wadd ..).step (by decide) ?_
    | with_reducible refine Keeps.ite ?_ ?_
    | split

/-- `execImageDataWrite` changes at most: freeCnt, out, wr, mem, mer, tri, lanes, ports, dlinks, sch, cores, queues, pair, mus, cmp, eth, mems, can, gov, sys, mbx, env, held. -/
theorem k_execImageDataWrite (node : Nat) (off : Nat) (data : List Nat) (us : List Nat) (ack : Bool) (s : State) : Keeps 9646636570 s (stateOf s (execImageDataWrite node off data us ack s)) := by
  unfold execImageDataWrite
  repeat' first
    | with_reducible refine Keeps.next ?_
    | with_reducible exact Keeps.refl _ _
    | with_reducible assumption
    | (extract_lets +onlyGivenNames x; refine Keeps.cut (m := 9646636570) (s := s) (u := x) ?_ ?_; rotate_left; all_goals first | (intro _; clear_value x) | subst x)
    | (extract_lets +onlyGivenNames x; clear_value x)
    | with_reducible refine (k_canHeard ..).step (by decide) ?_
    | with_reducible refine (k_canOutcome ..).step (by decide) ?_
    | with_reducible refine (k_serve ..).step (by decide) ?_
    | with_reducible refine (k_modCan ..).step (by decide) ?_
    | with_reducible refine Keeps.ite ?_ ?_
    | split

/-- `execImageOwnerTimeout` changes at most: can. -/
theorem k_execImageOwnerTimeout (s : State) : Keeps 33554432 s (stateOf s (execImageOwnerTimeout s)) := by
  unfold execImageOwnerTimeout
  repeat' first
    | with_reducible refine Keeps.next ?_
    | with_reducible exact Keeps.refl _ _
    | with_reducible assumption
    | with_reducible refine (k_modCan ..).step (by decide) ?_
    | with_reducible refine Keeps.ite ?_ ?_
    | split

/-- `execDictWarmReset` changes at most: can, sys. -/
theorem k_execDictWarmReset (s : State) : Keeps 167772160 s (stateOf s (execDictWarmReset s)) := by
  unfold execDictWarmReset
  repeat' first
    | with_reducible refine Keeps.next ?_
    | with_reducible exact Keeps.refl _ _
    | with_reducible assumption
    | with_reducible refine (k_askReset ..).step (by decide) ?_
    | with_reducible refine (k_modCan ..).step (by decide) ?_
    | with_reducible refine Keeps.ite ?_ ?_
    | split

end Sys2Proof.Machine
end

