-- ==== Sys2Proof/Laws/KeepsExWnDbg.lean ====
section
/-! SUPPORT. What the operations of Machine/WnDbg.lean may change: the commands. -/

namespace Sys2Proof.Machine

open Sys2Proof

/-- `execDebugHalt` changes at most: sch, cores, sys. -/
theorem k_execDebugHalt (core : Nat) (s : State) : Keeps 134316032 s (stateOf s (execDebugHalt core s)) := by
  unfold execDebugHalt
  repeat' first
    | with_reducible refine Keeps.next ?_
    | with_reducible exact Keeps.refl _ _
    | with_reducible assumption
    | with_reducible refine (k_haltHart ..).step (by decide) ?_
    | with_reducible refine Keeps.ite ?_ ?_
    | split

/-- `execDebugResume` changes at most: cores, sys. -/
theorem k_execDebugResume (core : Nat) (s : State) : Keeps 134283264 s (stateOf s (execDebugResume core s)) := by
  unfold execDebugResume
  repeat' first
    | with_reducible refine Keeps.next ?_
    | with_reducible exact Keeps.refl _ _
    | with_reducible assumption
    | with_reducible refine (k_resumeHart ..).step (by decide) ?_
    | with_reducible refine Keeps.ite ?_ ?_
    | split

/-- `execDebugAbstractCommand` changes at most: freeCnt, cores, dbg. -/
theorem k_execDebugAbstractCommand (core : Nat) (command : Nat) (data : Nat) (s : State) : Keeps 2147549186 s (stateOf s (execDebugAbstractCommand core command data s)) := by
  unfold execDebugAbstractCommand
  repeat' first
    | with_reducible refine Keeps.next ?_
    | with_reducible exact Keeps.refl _ _
    | with_reducible assumption
    | with_reducible refine (k_abstractCmd ..).step (by decide) ?_
    | with_reducible refine (k_modDbg ..).step (by decide) ?_
    | with_reducible refine Keeps.ite ?_ ?_
    | split

/-- `execDebugSysbusAccess` changes at most: freeCnt, out, wr, mem, mer, tri, lanes, ports, dlinks, sch, cores, queues, pair, mus, cmp, eth, mems, can, gov, sys, mbx, env, dbg, held. -/
theorem k_execDebugSysbusAccess (clear : Bool) (write : Bool) (k : Nat) (addr : Nat) (data : Nat) (inc : Bool) (err : Nat) (f : Nat) (p : Nat) (a : Nat) (s : State) : Keeps 11794120218 s (stateOf s (execDebugSysbusAccess clear write k addr data inc err f p a s)) := by
  unfold execDebugSysbusAccess
  repeat' first
    | with_reducible refine Keeps.next ?_
    | with_reducible exact Keeps.refl _ _
    | with_reducible assumption
    | with_reducible refine (k_sbAccess ..).step (by decide) ?_
    | with_reducible refine (k_modDbg ..).step (by decide) ?_
    | with_reducible refine Keeps.ite ?_ ?_
    | split

/-- `execIdcode` changes at most: freeCnt, wr, taps. -/
theorem k_execIdcode (chip : Nat) (s : State) : Keeps 4294967314 s (stateOf s (execIdcode chip s)) := by
  unfold execIdcode
  repeat' first
    | with_reducible refine Keeps.next ?_
    | with_reducible exact Keeps.refl _ _
    | with_reducible assumption
    | (extract_lets +onlyGivenNames x; refine Keeps.cut (m := 4294967314) (s := s) (u := x) ?_ ?_; rotate_left; all_goals first | (intro _; clear_value x) | subst x)
    | (extract_lets +onlyGivenNames x; clear_value x)
    | with_reducible refine (k_tapIr ..).step (by decide) ?_
    | split
    | with_reducible refine Keeps.ofSnd (by assumption) ?_
    | with_reducible refine (k_idcode ..).step (by decide) ?_
    | with_reducible dsimp only

/-- `execSamplePreload` changes at most: wr, taps. -/
theorem k_execSamplePreload (chip : Nat) (pins : Nat) (cells : Nat) (s : State) : Keeps 4294967312 s (stateOf s (execSamplePreload chip pins cells s)) := by
  unfold execSamplePreload
  repeat' first
    | with_reducible refine Keeps.next ?_
    | with_reducible exact Keeps.refl _ _
    | with_reducible assumption
    | with_reducible refine (k_tapCells ..).step (by decide) ?_
    | with_reducible refine (k_tapIr ..).step (by decide) ?_
    | split

/-- `execExtest` changes at most: wr, taps. -/
theorem k_execExtest (chip : Nat) (pins : Nat) (cells : Nat) (s : State) : Keeps 4294967312 s (stateOf s (execExtest chip pins cells s)) := by
  unfold execExtest
  repeat' first
    | with_reducible refine Keeps.next ?_
    | with_reducible exact Keeps.refl _ _
    | with_reducible assumption
    | with_reducible refine (k_tapCells ..).step (by decide) ?_
    | with_reducible refine (k_tapIr ..).step (by decide) ?_
    | split

/-- `execClamp` changes at most: wr, taps. -/
theorem k_execClamp (chip : Nat) (s : State) : Keeps 4294967312 s (stateOf s (execClamp chip s)) := by
  unfold execClamp
  repeat' first
    | with_reducible refine Keeps.next ?_
    | with_reducible exact Keeps.refl _ _
    | with_reducible assumption
    | with_reducible refine (k_tapIr ..).step (by decide) ?_
    | split

/-- `execHighz` changes at most: wr, taps. -/
theorem k_execHighz (chip : Nat) (s : State) : Keeps 4294967312 s (stateOf s (execHighz chip s)) := by
  unfold execHighz
  repeat' first
    | with_reducible refine Keeps.next ?_
    | with_reducible exact Keeps.refl _ _
    | with_reducible assumption
    | with_reducible refine (k_tapIr ..).step (by decide) ?_
    | split

/-- `execBypass` changes at most: wr, taps. -/
theorem k_execBypass (chip : Nat) (code : Nat) (s : State) : Keeps 4294967312 s (stateOf s (execBypass chip code s)) := by
  unfold execBypass
  repeat' first
    | with_reducible refine Keeps.next ?_
    | with_reducible exact Keeps.refl _ _
    | with_reducible assumption
    | with_reducible refine (k_tapIr ..).step (by decide) ?_
    | split

/-- `execDtmcs` changes at most: wr, taps. -/
theorem k_execDtmcs (chip : Nat) (s : State) : Keeps 4294967312 s (stateOf s (execDtmcs chip s)) := by
  unfold execDtmcs
  repeat' first
    | with_reducible refine Keeps.next ?_
    | with_reducible exact Keeps.refl _ _
    | with_reducible assumption
    | with_reducible refine (k_tapIr ..).step (by decide) ?_
    | with_reducible refine Keeps.ite ?_ ?_
    | split

/-- `execDmi` changes at most: freeCnt, out, wr, mem, mer, tri, lanes, ports, dlinks, sch, cores, queues, pair, mus, cmp, eth, mems, can, gov, sys, mbx, env, dbg, taps, held. -/
theorem k_execDmi (chip : Nat) (op : Nat) (addr : Nat) (data : Nat) (s : State) : Keeps 16089087514 s (stateOf s (execDmi chip op addr data s)) := by
  unfold execDmi
  repeat' first
    | with_reducible refine Keeps.next ?_
    | with_reducible exact Keeps.refl _ _
    | with_reducible assumption
    | (extract_lets +onlyGivenNames x; refine Keeps.cut (m := 16089087514) (s := s) (u := x) ?_ ?_; rotate_left; all_goals first | (intro _; clear_value x) | subst x)
    | (extract_lets +onlyGivenNames x; clear_value x)
    | with_reducible refine (k_tapIr ..).step (by decide) ?_
    | with_reducible refine (k_dmWrite ..).step (by decide) ?_
    | with_reducible refine Keeps.ite ?_ ?_
    | split
    | with_reducible refine Keeps.ofSnd (by assumption) ?_
    | with_reducible refine (k_dmRead ..).step (by decide) ?_
    | with_reducible dsimp only

/-- `execTapReset` changes at most: taps. -/
theorem k_execTapReset (chip : Nat) (s : State) : Keeps 4294967296 s (stateOf s (execTapReset chip s)) := by
  unfold execTapReset
  repeat' first
    | with_reducible refine Keeps.next ?_
    | with_reducible exact Keeps.refl _ _
    | with_reducible assumption
    | split
    | with_reducible refine Keeps.upd_taps ?_ (by decide)

end Sys2Proof.Machine
end

