-- ==== Sys2Proof/Laws/KeepsExWnCore.lean ====
section
/-! SUPPORT. What the operations of Machine/WnCore.lean may change: the commands. -/

namespace Sys2Proof.Machine

open Sys2Proof

/-- `execCoreMemoryAccess` changes at most: freeCnt, out, wr, mem, mer, tri, lanes, ports, dlinks, sch, cores, queues, pair, mus, cmp, eth, mems, can, gov, sys, mbx, env, dbg, held. -/
theorem k_execCoreMemoryAccess (n : Nat) (kind : Nat) (k : Nat) (sgn : Bool) (addr : Nat) (data : Nat) (rd : Nat) (err : Nat) (f : Nat) (p : Nat) (a : Nat) (s : State) : Keeps 11794120218 s (stateOf s (execCoreMemoryAccess n kind k sgn addr data rd err f p a s)) := by
  unfold execCoreMemoryAccess
  repeat' first
    | with_reducible refine Keeps.next ?_
    | with_reducible exact Keeps.refl _ _
    | with_reducible assumption
    | (extract_lets +onlyGivenNames x; refine Keeps.cut (m := 11794120218) (s := s) (u := x) ?_ ?_; rotate_left; all_goals first | (intro _; clear_value x) | subst x)
    | (extract_lets +onlyGivenNames x; clear_value x)
    | with_reducible refine (k_coreAmo ..).step (by decide) ?_
    | with_reducible refine (k_coreSc ..).step (by decide) ?_
    | with_reducible refine (k_coreLr ..).step (by decide) ?_
    | with_reducible refine (k_coreStore ..).step (by decide) ?_
    | with_reducible refine (k_coreLoad ..).step (by decide) ?_
    | with_reducible refine (k_coreFetch ..).step (by decide) ?_
    | with_reducible refine Keeps.ite ?_ ?_
    | split

/-- `execRegDataRx` changes at most: out, wr, ports, dlinks, cores, eth, can, dbg. -/
theorem k_execRegDataRx (port : Nat) (tag : Nat) (data : Nat) (s : State) : Keeps 2185322520 s (stateOf s (execRegDataRx port tag data s)) := by
  unfold execRegDataRx
  repeat' first
    | with_reducible refine Keeps.next ?_
    | with_reducible exact Keeps.refl _ _
    | with_reducible assumption
    | (extract_lets +onlyGivenNames x; refine Keeps.cut (m := 2185322520) (s := s) (u := x) ?_ ?_; rotate_left; all_goals first | (intro _; clear_value x) | subst x)
    | (extract_lets +onlyGivenNames x; clear_value x)
    | with_reducible refine (k_proxyData ..).step (by decide) ?_
    | with_reducible refine (k_dictData ..).step (by decide) ?_
    | with_reducible refine (k_regData ..).step (by decide) ?_
    | with_reducible refine Keeps.ite ?_ ?_
    | split
    | with_reducible refine Keeps.ofSnd (by assumption) ?_
    | with_reducible refine (k_takeWait ..).step (by decide) ?_
    | with_reducible dsimp only

/-- `execProxyTimeout` changes at most: out, wr, dlinks, cores, eth, can, dbg. -/
theorem k_execProxyTimeout (port : Nat) (s : State) : Keeps 2185314328 s (stateOf s (execProxyTimeout port s)) := by
  unfold execProxyTimeout
  repeat' first
    | with_reducible refine Keeps.next ?_
    | with_reducible exact Keeps.refl _ _
    | with_reducible assumption
    | with_reducible refine (k_proxyLate ..).step (by decide) ?_
    | with_reducible refine (k_dictTimeout ..).step (by decide) ?_
    | split

end Sys2Proof.Machine
end

