-- ==== Sys2Proof/Laws/State.lean ====
section
/-! SUPPORT. What each field of the state is after each named update of it, and what is read of registers, memory
and Tladons then. -/

namespace Sys2Proof.Machine

open Sys2Proof

namespace State

/-- The fields after `wset`. -/
@[simp] theorem wset_fields (f : Fld) (v : Nat) (s : State) :
    (s.wset f v).pending = s.pending ∧ (s.wset f v).freeCnt = s.freeCnt ∧ (s.wset f v).now = s.now ∧
    (s.wset f v).out = s.out ∧ (s.wset f v).wr = s.wr.set f v ∧ (s.wset f v).tl = s.tl ∧
    (s.wset f v).variant = s.variant ∧ (s.wset f v).wclk = s.wclk ∧ (s.wset f v).mtime0 = s.mtime0 ∧
    (s.wset f v).mem = s.mem ∧ (s.wset f v).mer = s.mer ∧ (s.wset f v).tri = s.tri ∧
    (s.wset f v).lanes = s.lanes ∧ (s.wset f v).ports = s.ports ∧ (s.wset f v).dlinks = s.dlinks ∧
    (s.wset f v).sch = s.sch ∧ (s.wset f v).cores = s.cores ∧ (s.wset f v).queues = s.queues ∧
    (s.wset f v).image = s.image ∧ (s.wset f v).pair = s.pair ∧ (s.wset f v).mus = s.mus ∧
    (s.wset f v).cmp = s.cmp ∧ (s.wset f v).eth = s.eth ∧ (s.wset f v).mems = s.mems ∧
    (s.wset f v).canid = s.canid ∧ (s.wset f v).can = s.can ∧ (s.wset f v).gov = s.gov ∧
    (s.wset f v).sys = s.sys ∧ (s.wset f v).mbx = s.mbx ∧ (s.wset f v).env = s.env ∧
    (s.wset f v).pwr = s.pwr ∧ (s.wset f v).dbg = s.dbg ∧ (s.wset f v).taps = s.taps ∧
    (s.wset f v).held = s.held :=
  ⟨rfl, rfl, rfl, rfl, rfl, rfl, rfl, rfl, rfl, rfl, rfl, rfl, rfl, rfl, rfl, rfl, rfl, rfl, rfl, rfl,
    rfl, rfl, rfl, rfl, rfl, rfl, rfl, rfl, rfl, rfl, rfl, rfl, rfl, rfl⟩

/-- What `wset` leaves to be read. -/
@[simp] theorem wset_reads (f : Fld) (v : Nat) (s : State) :
    (∀ b : Nat, (s.wset f v).byte b = s.byte b) ∧ (∀ q : Nat, (s.wset f v).tladon q = s.tladon q) ∧
    (s.wset f v).tick = s.tick :=
  ⟨fun _ => rfl, fun _ => rfl, rfl⟩

/-- The fields after `wsets`. -/
@[simp] theorem wsets_fields (l : List (Fld × Nat)) (s : State) :
    (s.wsets l).pending = s.pending ∧ (s.wsets l).freeCnt = s.freeCnt ∧ (s.wsets l).now = s.now ∧
    (s.wsets l).out = s.out ∧ (s.wsets l).wr = s.wr.sets l ∧ (s.wsets l).tl = s.tl ∧
    (s.wsets l).variant = s.variant ∧ (s.wsets l).wclk = s.wclk ∧ (s.wsets l).mtime0 = s.mtime0 ∧
    (s.wsets l).mem = s.mem ∧ (s.wsets l).mer = s.mer ∧ (s.wsets l).tri = s.tri ∧
    (s.wsets l).lanes = s.lanes ∧ (s.wsets l).ports = s.ports ∧ (s.wsets l).dlinks = s.dlinks ∧
    (s.wsets l).sch = s.sch ∧ (s.wsets l).cores = s.cores ∧ (s.wsets l).queues = s.queues ∧
    (s.wsets l).image = s.image ∧ (s.wsets l).pair = s.pair ∧ (s.wsets l).mus = s.mus ∧
    (s.wsets l).cmp = s.cmp ∧ (s.wsets l).eth = s.eth ∧ (s.wsets l).mems = s.mems ∧
    (s.wsets l).canid = s.canid ∧ (s.wsets l).can = s.can ∧ (s.wsets l).gov = s.gov ∧
    (s.wsets l).sys = s.sys ∧ (s.wsets l).mbx = s.mbx ∧ (s.wsets l).env = s.env ∧ (s.wsets l).pwr = s.pwr ∧
    (s.wsets l).dbg = s.dbg ∧ (s.wsets l).taps = s.taps ∧ (s.wsets l).held = s.held :=
  ⟨rfl, rfl, rfl, rfl, rfl, rfl, rfl, rfl, rfl, rfl, rfl, rfl, rfl, rfl, rfl, rfl, rfl, rfl, rfl, rfl,
    rfl, rfl, rfl, rfl, rfl, rfl, rfl, rfl, rfl, rfl, rfl, rfl, rfl, rfl⟩

/-- What `wsets` leaves to be read. -/
@[simp] theorem wsets_reads (l : List (Fld × Nat)) (s : State) :
    (∀ b : Nat, (s.wsets l).byte b = s.byte b) ∧ (∀ q : Nat, (s.wsets l).tladon q = s.tladon q) ∧
    (s.wsets l).tick = s.tick :=
  ⟨fun _ => rfl, fun _ => rfl, rfl⟩

/-- The fields after `wadd`. -/
@[simp] theorem wadd_fields (f : Fld) (n : Nat) (s : State) :
    (s.wadd f n).pending = s.pending ∧ (s.wadd f n).freeCnt = s.freeCnt ∧ (s.wadd f n).now = s.now ∧
    (s.wadd f n).out = s.out ∧ (s.wadd f n).wr = s.wr.add f n ∧ (s.wadd f n).tl = s.tl ∧
    (s.wadd f n).variant = s.variant ∧ (s.wadd f n).wclk = s.wclk ∧ (s.wadd f n).mtime0 = s.mtime0 ∧
    (s.wadd f n).mem = s.mem ∧ (s.wadd f n).mer = s.mer ∧ (s.wadd f n).tri = s.tri ∧
    (s.wadd f n).lanes = s.lanes ∧ (s.wadd f n).ports = s.ports ∧ (s.wadd f n).dlinks = s.dlinks ∧
    (s.wadd f n).sch = s.sch ∧ (s.wadd f n).cores = s.cores ∧ (s.wadd f n).queues = s.queues ∧
    (s.wadd f n).image = s.image ∧ (s.wadd f n).pair = s.pair ∧ (s.wadd f n).mus = s.mus ∧
    (s.wadd f n).cmp = s.cmp ∧ (s.wadd f n).eth = s.eth ∧ (s.wadd f n).mems = s.mems ∧
    (s.wadd f n).canid = s.canid ∧ (s.wadd f n).can = s.can ∧ (s.wadd f n).gov = s.gov ∧
    (s.wadd f n).sys = s.sys ∧ (s.wadd f n).mbx = s.mbx ∧ (s.wadd f n).env = s.env ∧
    (s.wadd f n).pwr = s.pwr ∧ (s.wadd f n).dbg = s.dbg ∧ (s.wadd f n).taps = s.taps ∧
    (s.wadd f n).held = s.held :=
  ⟨rfl, rfl, rfl, rfl, rfl, rfl, rfl, rfl, rfl, rfl, rfl, rfl, rfl, rfl, rfl, rfl, rfl, rfl, rfl, rfl,
    rfl, rfl, rfl, rfl, rfl, rfl, rfl, rfl, rfl, rfl, rfl, rfl, rfl, rfl⟩

/-- What `wadd` leaves to be read. -/
@[simp] theorem wadd_reads (f : Fld) (n : Nat) (s : State) :
    (∀ b : Nat, (s.wadd f n).byte b = s.byte b) ∧ (∀ q : Nat, (s.wadd f n).tladon q = s.tladon q) ∧
    (s.wadd f n).tick = s.tick :=
  ⟨fun _ => rfl, fun _ => rfl, rfl⟩

/-- The fields after `wraise`. -/
@[simp] theorem wraise_fields (f : Fld) (v : Nat) (s : State) :
    (s.wraise f v).pending = s.pending ∧ (s.wraise f v).freeCnt = s.freeCnt ∧ (s.wraise f v).now = s.now ∧
    (s.wraise f v).out = s.out ∧ (s.wraise f v).wr = s.wr.raise f v ∧ (s.wraise f v).tl = s.tl ∧
    (s.wraise f v).variant = s.variant ∧ (s.wraise f v).wclk = s.wclk ∧ (s.wraise f v).mtime0 = s.mtime0 ∧
    (s.wraise f v).mem = s.mem ∧ (s.wraise f v).mer = s.mer ∧ (s.wraise f v).tri = s.tri ∧
    (s.wraise f v).lanes = s.lanes ∧ (s.wraise f v).ports = s.ports ∧ (s.wraise f v).dlinks = s.dlinks ∧
    (s.wraise f v).sch = s.sch ∧ (s.wraise f v).cores = s.cores ∧ (s.wraise f v).queues = s.queues ∧
    (s.wraise f v).image = s.image ∧ (s.wraise f v).pair = s.pair ∧ (s.wraise f v).mus = s.mus ∧
    (s.wraise f v).cmp = s.cmp ∧ (s.wraise f v).eth = s.eth ∧ (s.wraise f v).mems = s.mems ∧
    (s.wraise f v).canid = s.canid ∧ (s.wraise f v).can = s.can ∧ (s.wraise f v).gov = s.gov ∧
    (s.wraise f v).sys = s.sys ∧ (s.wraise f v).mbx = s.mbx ∧ (s.wraise f v).env = s.env ∧
    (s.wraise f v).pwr = s.pwr ∧ (s.wraise f v).dbg = s.dbg ∧ (s.wraise f v).taps = s.taps ∧
    (s.wraise f v).held = s.held :=
  ⟨rfl, rfl, rfl, rfl, rfl, rfl, rfl, rfl, rfl, rfl, rfl, rfl, rfl, rfl, rfl, rfl, rfl, rfl, rfl, rfl,
    rfl, rfl, rfl, rfl, rfl, rfl, rfl, rfl, rfl, rfl, rfl, rfl, rfl, rfl⟩

/-- What `wraise` leaves to be read. -/
@[simp] theorem wraise_reads (f : Fld) (v : Nat) (s : State) :
    (∀ b : Nat, (s.wraise f v).byte b = s.byte b) ∧ (∀ q : Nat, (s.wraise f v).tladon q = s.tladon q) ∧
    (s.wraise f v).tick = s.tick :=
  ⟨fun _ => rfl, fun _ => rfl, rfl⟩

/-- The fields after `emit`. -/
@[simp] theorem emit_fields (o : Out) (s : State) :
    (s.emit o).pending = s.pending ∧ (s.emit o).freeCnt = s.freeCnt ∧ (s.emit o).now = s.now ∧
    (s.emit o).out = s.out ++ [o] ∧ (s.emit o).wr = s.wr ∧ (s.emit o).tl = s.tl ∧
    (s.emit o).variant = s.variant ∧ (s.emit o).wclk = s.wclk ∧ (s.emit o).mtime0 = s.mtime0 ∧
    (s.emit o).mem = s.mem ∧ (s.emit o).mer = s.mer ∧ (s.emit o).tri = s.tri ∧ (s.emit o).lanes = s.lanes ∧
    (s.emit o).ports = s.ports ∧ (s.emit o).dlinks = s.dlinks ∧ (s.emit o).sch = s.sch ∧
    (s.emit o).cores = s.cores ∧ (s.emit o).queues = s.queues ∧ (s.emit o).image = s.image ∧
    (s.emit o).pair = s.pair ∧ (s.emit o).mus = s.mus ∧ (s.emit o).cmp = s.cmp ∧ (s.emit o).eth = s.eth ∧
    (s.emit o).mems = s.mems ∧ (s.emit o).canid = s.canid ∧ (s.emit o).can = s.can ∧ (s.emit o).gov = s.gov ∧
    (s.emit o).sys = s.sys ∧ (s.emit o).mbx = s.mbx ∧ (s.emit o).env = s.env ∧ (s.emit o).pwr = s.pwr ∧
    (s.emit o).dbg = s.dbg ∧ (s.emit o).taps = s.taps ∧ (s.emit o).held = s.held :=
  ⟨rfl, rfl, rfl, rfl, rfl, rfl, rfl, rfl, rfl, rfl, rfl, rfl, rfl, rfl, rfl, rfl, rfl, rfl, rfl, rfl,
    rfl, rfl, rfl, rfl, rfl, rfl, rfl, rfl, rfl, rfl, rfl, rfl, rfl, rfl⟩

/-- What `emit` leaves to be read. -/
@[simp] theorem emit_reads (o : Out) (s : State) :
    (∀ g : Fld, (s.emit o).wget g = s.wget g) ∧ (∀ g : Fld, (s.emit o).won g = s.won g) ∧
    (∀ b : Nat, (s.emit o).byte b = s.byte b) ∧ (∀ q : Nat, (s.emit o).tladon q = s.tladon q) ∧
    (s.emit o).ws = s.ws ∧ (s.emit o).tick = s.tick :=
  ⟨fun _ => rfl, fun _ => rfl, fun _ => rfl, fun _ => rfl, rfl, rfl⟩

/-- The fields after `setByte`. -/
@[simp] theorem setByte_fields (a : Nat) (v : Byte) (s : State) :
    (s.setByte a v).pending = s.pending ∧ (s.setByte a v).freeCnt = s.freeCnt ∧ (s.setByte a v).now = s.now ∧
    (s.setByte a v).out = s.out ∧ (s.setByte a v).wr = s.wr ∧ (s.setByte a v).tl = s.tl ∧
    (s.setByte a v).variant = s.variant ∧ (s.setByte a v).wclk = s.wclk ∧ (s.setByte a v).mtime0 = s.mtime0 ∧
    (s.setByte a v).mem = (if v = 0 then SMap.erase a s.mem else SMap.insert a v s.mem) ∧
    (s.setByte a v).mer = s.mer ∧ (s.setByte a v).tri = s.tri ∧ (s.setByte a v).lanes = s.lanes ∧
    (s.setByte a v).ports = s.ports ∧ (s.setByte a v).dlinks = s.dlinks ∧ (s.setByte a v).sch = s.sch ∧
    (s.setByte a v).cores = s.cores ∧ (s.setByte a v).queues = s.queues ∧ (s.setByte a v).image = s.image ∧
    (s.setByte a v).pair = s.pair ∧ (s.setByte a v).mus = s.mus ∧ (s.setByte a v).cmp = s.cmp ∧
    (s.setByte a v).eth = s.eth ∧ (s.setByte a v).mems = s.mems ∧ (s.setByte a v).canid = s.canid ∧
    (s.setByte a v).can = s.can ∧ (s.setByte a v).gov = s.gov ∧ (s.setByte a v).sys = s.sys ∧
    (s.setByte a v).mbx = s.mbx ∧ (s.setByte a v).env = s.env ∧ (s.setByte a v).pwr = s.pwr ∧
    (s.setByte a v).dbg = s.dbg ∧ (s.setByte a v).taps = s.taps ∧ (s.setByte a v).held = s.held :=
  ⟨rfl, rfl, rfl, rfl, rfl, rfl, rfl, rfl, rfl, rfl, rfl, rfl, rfl, rfl, rfl, rfl, rfl, rfl, rfl, rfl,
    rfl, rfl, rfl, rfl, rfl, rfl, rfl, rfl, rfl, rfl, rfl, rfl, rfl, rfl⟩

/-- What `setByte` leaves to be read. -/
@[simp] theorem setByte_reads (a : Nat) (v : Byte) (s : State) :
    (∀ g : Fld, (s.setByte a v).wget g = s.wget g) ∧ (∀ g : Fld, (s.setByte a v).won g = s.won g) ∧
    (∀ q : Nat, (s.setByte a v).tladon q = s.tladon q) ∧ (s.setByte a v).ws = s.ws ∧
    (s.setByte a v).tick = s.tick :=
  ⟨fun _ => rfl, fun _ => rfl, fun _ => rfl, rfl, rfl⟩

/-- The fields after `fresh`. -/
@[simp] theorem fresh_fields (n : Nat) (s : State) :
    (s.fresh n).2.pending = s.pending ∧ ((s.fresh n).2).freeCnt = s.freeCnt + 1 ∧ (s.fresh n).2.now = s.now ∧
    (s.fresh n).2.out = s.out ∧ (s.fresh n).2.wr = s.wr ∧ (s.fresh n).2.tl = s.tl ∧
    (s.fresh n).2.variant = s.variant ∧ (s.fresh n).2.wclk = s.wclk ∧ (s.fresh n).2.mtime0 = s.mtime0 ∧
    (s.fresh n).2.mem = s.mem ∧ (s.fresh n).2.mer = s.mer ∧ (s.fresh n).2.tri = s.tri ∧
    (s.fresh n).2.lanes = s.lanes ∧ (s.fresh n).2.ports = s.ports ∧ (s.fresh n).2.dlinks = s.dlinks ∧
    (s.fresh n).2.sch = s.sch ∧ (s.fresh n).2.cores = s.cores ∧ (s.fresh n).2.queues = s.queues ∧
    (s.fresh n).2.image = s.image ∧ (s.fresh n).2.pair = s.pair ∧ (s.fresh n).2.mus = s.mus ∧
    (s.fresh n).2.cmp = s.cmp ∧ (s.fresh n).2.eth = s.eth ∧ (s.fresh n).2.mems = s.mems ∧
    (s.fresh n).2.canid = s.canid ∧ (s.fresh n).2.can = s.can ∧ (s.fresh n).2.gov = s.gov ∧
    (s.fresh n).2.sys = s.sys ∧ (s.fresh n).2.mbx = s.mbx ∧ (s.fresh n).2.env = s.env ∧
    (s.fresh n).2.pwr = s.pwr ∧ (s.fresh n).2.dbg = s.dbg ∧ (s.fresh n).2.taps = s.taps ∧
    (s.fresh n).2.held = s.held :=
  ⟨rfl, rfl, rfl, rfl, rfl, rfl, rfl, rfl, rfl, rfl, rfl, rfl, rfl, rfl, rfl, rfl, rfl, rfl, rfl, rfl,
    rfl, rfl, rfl, rfl, rfl, rfl, rfl, rfl, rfl, rfl, rfl, rfl, rfl, rfl⟩

/-- What `fresh` leaves to be read. -/
@[simp] theorem fresh_reads (n : Nat) (s : State) :
    (∀ g : Fld, ((s.fresh n).2).wget g = s.wget g) ∧ (∀ g : Fld, ((s.fresh n).2).won g = s.won g) ∧
    (∀ b : Nat, ((s.fresh n).2).byte b = s.byte b) ∧ (∀ q : Nat, ((s.fresh n).2).tladon q = s.tladon q) ∧
    ((s.fresh n).2).ws = s.ws ∧ ((s.fresh n).2).tick = s.tick :=
  ⟨fun _ => rfl, fun _ => rfl, fun _ => rfl, fun _ => rfl, rfl, rfl⟩

/-- The fields after `modTl`. -/
@[simp] theorem modTl_fields (p : Nat) (f : Tladon → Tladon) (s : State) :
    (s.modTl p f).pending = s.pending ∧ (s.modTl p f).freeCnt = s.freeCnt ∧ (s.modTl p f).now = s.now ∧
    (s.modTl p f).out = s.out ∧ (s.modTl p f).wr = s.wr ∧
    (s.modTl p f).tl = SMap.insert p (f (s.tladon p)) s.tl ∧ (s.modTl p f).variant = s.variant ∧
    (s.modTl p f).wclk = s.wclk ∧ (s.modTl p f).mtime0 = s.mtime0 ∧ (s.modTl p f).mem = s.mem ∧
    (s.modTl p f).mer = s.mer ∧ (s.modTl p f).tri = s.tri ∧ (s.modTl p f).lanes = s.lanes ∧
    (s.modTl p f).ports = s.ports ∧ (s.modTl p f).dlinks = s.dlinks ∧ (s.modTl p f).sch = s.sch ∧
    (s.modTl p f).cores = s.cores ∧ (s.modTl p f).queues = s.queues ∧ (s.modTl p f).image = s.image ∧
    (s.modTl p f).pair = s.pair ∧ (s.modTl p f).mus = s.mus ∧ (s.modTl p f).cmp = s.cmp ∧
    (s.modTl p f).eth = s.eth ∧ (s.modTl p f).mems = s.mems ∧ (s.modTl p f).canid = s.canid ∧
    (s.modTl p f).can = s.can ∧ (s.modTl p f).gov = s.gov ∧ (s.modTl p f).sys = s.sys ∧
    (s.modTl p f).mbx = s.mbx ∧ (s.modTl p f).env = s.env ∧ (s.modTl p f).pwr = s.pwr ∧
    (s.modTl p f).dbg = s.dbg ∧ (s.modTl p f).taps = s.taps ∧ (s.modTl p f).held = s.held :=
  ⟨rfl, rfl, rfl, rfl, rfl, rfl, rfl, rfl, rfl, rfl, rfl, rfl, rfl, rfl, rfl, rfl, rfl, rfl, rfl, rfl,
    rfl, rfl, rfl, rfl, rfl, rfl, rfl, rfl, rfl, rfl, rfl, rfl, rfl, rfl⟩

/-- What `modTl` leaves to be read. -/
@[simp] theorem modTl_reads (p : Nat) (f : Tladon → Tladon) (s : State) :
    (∀ g : Fld, (s.modTl p f).wget g = s.wget g) ∧ (∀ g : Fld, (s.modTl p f).won g = s.won g) ∧
    (∀ b : Nat, (s.modTl p f).byte b = s.byte b) ∧ (s.modTl p f).ws = s.ws ∧ (s.modTl p f).tick = s.tick :=
  ⟨fun _ => rfl, fun _ => rfl, fun _ => rfl, rfl, rfl⟩

/-- The fields after `modPort`. -/
@[simp] theorem modPort_fields (p : Nat) (f : Port → Port) (s : State) :
    (s.modPort p f).pending = s.pending ∧ (s.modPort p f).freeCnt = s.freeCnt ∧ (s.modPort p f).now = s.now ∧
    (s.modPort p f).out = s.out ∧ (s.modPort p f).wr = s.wr ∧ (s.modPort p f).tl = s.tl ∧
    (s.modPort p f).variant = s.variant ∧ (s.modPort p f).wclk = s.wclk ∧ (s.modPort p f).mtime0 = s.mtime0 ∧
    (s.modPort p f).mem = s.mem ∧ (s.modPort p f).mer = s.mer ∧ (s.modPort p f).tri = s.tri ∧
    (s.modPort p f).lanes = s.lanes ∧ (s.modPort p f).ports = SMap.modify Port.reset p f s.ports ∧
    (s.modPort p f).dlinks = s.dlinks ∧ (s.modPort p f).sch = s.sch ∧ (s.modPort p f).cores = s.cores ∧
    (s.modPort p f).queues = s.queues ∧ (s.modPort p f).image = s.image ∧ (s.modPort p f).pair = s.pair ∧
    (s.modPort p f).mus = s.mus ∧ (s.modPort p f).cmp = s.cmp ∧ (s.modPort p f).eth = s.eth ∧
    (s.modPort p f).mems = s.mems ∧ (s.modPort p f).canid = s.canid ∧ (s.modPort p f).can = s.can ∧
    (s.modPort p f).gov = s.gov ∧ (s.modPort p f).sys = s.sys ∧ (s.modPort p f).mbx = s.mbx ∧
    (s.modPort p f).env = s.env ∧ (s.modPort p f).pwr = s.pwr ∧ (s.modPort p f).dbg = s.dbg ∧
    (s.modPort p f).taps = s.taps ∧ (s.modPort p f).held = s.held :=
  ⟨rfl, rfl, rfl, rfl, rfl, rfl, rfl, rfl, rfl, rfl, rfl, rfl, rfl, rfl, rfl, rfl, rfl, rfl, rfl, rfl,
    rfl, rfl, rfl, rfl, rfl, rfl, rfl, rfl, rfl, rfl, rfl, rfl, rfl, rfl⟩

/-- What `modPort` leaves to be read. -/
@[simp] theorem modPort_reads (p : Nat) (f : Port → Port) (s : State) :
    (∀ g : Fld, (s.modPort p f).wget g = s.wget g) ∧ (∀ g : Fld, (s.modPort p f).won g = s.won g) ∧
    (∀ b : Nat, (s.modPort p f).byte b = s.byte b) ∧ (∀ q : Nat, (s.modPort p f).tladon q = s.tladon q) ∧
    (s.modPort p f).ws = s.ws ∧ (s.modPort p f).tick = s.tick :=
  ⟨fun _ => rfl, fun _ => rfl, fun _ => rfl, fun _ => rfl, rfl, rfl⟩

/-- The fields after `modTri`. -/
@[simp] theorem modTri_fields (p : Nat) (f : Tri → Tri) (s : State) :
    (s.modTri p f).pending = s.pending ∧ (s.modTri p f).freeCnt = s.freeCnt ∧ (s.modTri p f).now = s.now ∧
    (s.modTri p f).out = s.out ∧ (s.modTri p f).wr = s.wr ∧ (s.modTri p f).tl = s.tl ∧
    (s.modTri p f).variant = s.variant ∧ (s.modTri p f).wclk = s.wclk ∧ (s.modTri p f).mtime0 = s.mtime0 ∧
    (s.modTri p f).mem = s.mem ∧ (s.modTri p f).mer = s.mer ∧
    (s.modTri p f).tri = SMap.modify Tri.reset p f s.tri ∧ (s.modTri p f).lanes = s.lanes ∧
    (s.modTri p f).ports = s.ports ∧ (s.modTri p f).dlinks = s.dlinks ∧ (s.modTri p f).sch = s.sch ∧
    (s.modTri p f).cores = s.cores ∧ (s.modTri p f).queues = s.queues ∧ (s.modTri p f).image = s.image ∧
    (s.modTri p f).pair = s.pair ∧ (s.modTri p f).mus = s.mus ∧ (s.modTri p f).cmp = s.cmp ∧
    (s.modTri p f).eth = s.eth ∧ (s.modTri p f).mems = s.mems ∧ (s.modTri p f).canid = s.canid ∧
    (s.modTri p f).can = s.can ∧ (s.modTri p f).gov = s.gov ∧ (s.modTri p f).sys = s.sys ∧
    (s.modTri p f).mbx = s.mbx ∧ (s.modTri p f).env = s.env ∧ (s.modTri p f).pwr = s.pwr ∧
    (s.modTri p f).dbg = s.dbg ∧ (s.modTri p f).taps = s.taps ∧ (s.modTri p f).held = s.held :=
  ⟨rfl, rfl, rfl, rfl, rfl, rfl, rfl, rfl, rfl, rfl, rfl, rfl, rfl, rfl, rfl, rfl, rfl, rfl, rfl, rfl,
    rfl, rfl, rfl, rfl, rfl, rfl, rfl, rfl, rfl, rfl, rfl, rfl, rfl, rfl⟩

/-- What `modTri` leaves to be read. -/
@[simp] theorem modTri_reads (p : Nat) (f : Tri → Tri) (s : State) :
    (∀ g : Fld, (s.modTri p f).wget g = s.wget g) ∧ (∀ g : Fld, (s.modTri p f).won g = s.won g) ∧
    (∀ b : Nat, (s.modTri p f).byte b = s.byte b) ∧ (∀ q : Nat, (s.modTri p f).tladon q = s.tladon q) ∧
    (s.modTri p f).ws = s.ws ∧ (s.modTri p f).tick = s.tick :=
  ⟨fun _ => rfl, fun _ => rfl, fun _ => rfl, fun _ => rfl, rfl, rfl⟩

/-- The fields after `modLane`. -/
@[simp] theorem modLane_fields (l : Nat) (f : Lane → Lane) (s : State) :
    (s.modLane l f).pending = s.pending ∧ (s.modLane l f).freeCnt = s.freeCnt ∧ (s.modLane l f).now = s.now ∧
    (s.modLane l f).out = s.out ∧ (s.modLane l f).wr = s.wr ∧ (s.modLane l f).tl = s.tl ∧
    (s.modLane l f).variant = s.variant ∧ (s.modLane l f).wclk = s.wclk ∧ (s.modLane l f).mtime0 = s.mtime0 ∧
    (s.modLane l f).mem = s.mem ∧ (s.modLane l f).mer = s.mer ∧ (s.modLane l f).tri = s.tri ∧
    (s.modLane l f).lanes = SMap.modify Lane.reset l f s.lanes ∧ (s.modLane l f).ports = s.ports ∧
    (s.modLane l f).dlinks = s.dlinks ∧ (s.modLane l f).sch = s.sch ∧ (s.modLane l f).cores = s.cores ∧
    (s.modLane l f).queues = s.queues ∧ (s.modLane l f).image = s.image ∧ (s.modLane l f).pair = s.pair ∧
    (s.modLane l f).mus = s.mus ∧ (s.modLane l f).cmp = s.cmp ∧ (s.modLane l f).eth = s.eth ∧
    (s.modLane l f).mems = s.mems ∧ (s.modLane l f).canid = s.canid ∧ (s.modLane l f).can = s.can ∧
    (s.modLane l f).gov = s.gov ∧ (s.modLane l f).sys = s.sys ∧ (s.modLane l f).mbx = s.mbx ∧
    (s.modLane l f).env = s.env ∧ (s.modLane l f).pwr = s.pwr ∧ (s.modLane l f).dbg = s.dbg ∧
    (s.modLane l f).taps = s.taps ∧ (s.modLane l f).held = s.held :=
  ⟨rfl, rfl, rfl, rfl, rfl, rfl, rfl, rfl, rfl, rfl, rfl, rfl, rfl, rfl, rfl, rfl, rfl, rfl, rfl, rfl,
    rfl, rfl, rfl, rfl, rfl, rfl, rfl, rfl, rfl, rfl, rfl, rfl, rfl, rfl⟩

/-- What `modLane` leaves to be read. -/
@[simp] theorem modLane_reads (l : Nat) (f : Lane → Lane) (s : State) :
    (∀ g : Fld, (s.modLane l f).wget g = s.wget g) ∧ (∀ g : Fld, (s.modLane l f).won g = s.won g) ∧
    (∀ b : Nat, (s.modLane l f).byte b = s.byte b) ∧ (∀ q : Nat, (s.modLane l f).tladon q = s.tladon q) ∧
    (s.modLane l f).ws = s.ws ∧ (s.modLane l f).tick = s.tick :=
  ⟨fun _ => rfl, fun _ => rfl, fun _ => rfl, fun _ => rfl, rfl, rfl⟩

/-- The fields after `modDlink`. -/
@[simp] theorem modDlink_fields (p : Nat) (f : Dlink → Dlink) (s : State) :
    (s.modDlink p f).pending = s.pending ∧ (s.modDlink p f).freeCnt = s.freeCnt ∧
    (s.modDlink p f).now = s.now ∧ (s.modDlink p f).out = s.out ∧ (s.modDlink p f).wr = s.wr ∧
    (s.modDlink p f).tl = s.tl ∧ (s.modDlink p f).variant = s.variant ∧ (s.modDlink p f).wclk = s.wclk ∧
    (s.modDlink p f).mtime0 = s.mtime0 ∧ (s.modDlink p f).mem = s.mem ∧ (s.modDlink p f).mer = s.mer ∧
    (s.modDlink p f).tri = s.tri ∧ (s.modDlink p f).lanes = s.lanes ∧ (s.modDlink p f).ports = s.ports ∧
    (s.modDlink p f).dlinks = SMap.modify Dlink.reset p f s.dlinks ∧ (s.modDlink p f).sch = s.sch ∧
    (s.modDlink p f).cores = s.cores ∧ (s.modDlink p f).queues = s.queues ∧
    (s.modDlink p f).image = s.image ∧ (s.modDlink p f).pair = s.pair ∧ (s.modDlink p f).mus = s.mus ∧
    (s.modDlink p f).cmp = s.cmp ∧ (s.modDlink p f).eth = s.eth ∧ (s.modDlink p f).mems = s.mems ∧
    (s.modDlink p f).canid = s.canid ∧ (s.modDlink p f).can = s.can ∧ (s.modDlink p f).gov = s.gov ∧
    (s.modDlink p f).sys = s.sys ∧ (s.modDlink p f).mbx = s.mbx ∧ (s.modDlink p f).env = s.env ∧
    (s.modDlink p f).pwr = s.pwr ∧ (s.modDlink p f).dbg = s.dbg ∧ (s.modDlink p f).taps = s.taps ∧
    (s.modDlink p f).held = s.held :=
  ⟨rfl, rfl, rfl, rfl, rfl, rfl, rfl, rfl, rfl, rfl, rfl, rfl, rfl, rfl, rfl, rfl, rfl, rfl, rfl, rfl,
    rfl, rfl, rfl, rfl, rfl, rfl, rfl, rfl, rfl, rfl, rfl, rfl, rfl, rfl⟩

/-- What `modDlink` leaves to be read. -/
@[simp] theorem modDlink_reads (p : Nat) (f : Dlink → Dlink) (s : State) :
    (∀ g : Fld, (s.modDlink p f).wget g = s.wget g) ∧ (∀ g : Fld, (s.modDlink p f).won g = s.won g) ∧
    (∀ b : Nat, (s.modDlink p f).byte b = s.byte b) ∧ (∀ q : Nat, (s.modDlink p f).tladon q = s.tladon q) ∧
    (s.modDlink p f).ws = s.ws ∧ (s.modDlink p f).tick = s.tick :=
  ⟨fun _ => rfl, fun _ => rfl, fun _ => rfl, fun _ => rfl, rfl, rfl⟩

/-- The fields after `modMer`. -/
@[simp] theorem modMer_fields (f : Mer → Mer) (s : State) :
    (s.modMer f).pending = s.pending ∧ (s.modMer f).freeCnt = s.freeCnt ∧ (s.modMer f).now = s.now ∧
    (s.modMer f).out = s.out ∧ (s.modMer f).wr = s.wr ∧ (s.modMer f).tl = s.tl ∧
    (s.modMer f).variant = s.variant ∧ (s.modMer f).wclk = s.wclk ∧ (s.modMer f).mtime0 = s.mtime0 ∧
    (s.modMer f).mem = s.mem ∧ (s.modMer f).mer = f s.mer ∧ (s.modMer f).tri = s.tri ∧
    (s.modMer f).lanes = s.lanes ∧ (s.modMer f).ports = s.ports ∧ (s.modMer f).dlinks = s.dlinks ∧
    (s.modMer f).sch = s.sch ∧ (s.modMer f).cores = s.cores ∧ (s.modMer f).queues = s.queues ∧
    (s.modMer f).image = s.image ∧ (s.modMer f).pair = s.pair ∧ (s.modMer f).mus = s.mus ∧
    (s.modMer f).cmp = s.cmp ∧ (s.modMer f).eth = s.eth ∧ (s.modMer f).mems = s.mems ∧
    (s.modMer f).canid = s.canid ∧ (s.modMer f).can = s.can ∧ (s.modMer f).gov = s.gov ∧
    (s.modMer f).sys = s.sys ∧ (s.modMer f).mbx = s.mbx ∧ (s.modMer f).env = s.env ∧
    (s.modMer f).pwr = s.pwr ∧ (s.modMer f).dbg = s.dbg ∧ (s.modMer f).taps = s.taps ∧
    (s.modMer f).held = s.held :=
  ⟨rfl, rfl, rfl, rfl, rfl, rfl, rfl, rfl, rfl, rfl, rfl, rfl, rfl, rfl, rfl, rfl, rfl, rfl, rfl, rfl,
    rfl, rfl, rfl, rfl, rfl, rfl, rfl, rfl, rfl, rfl, rfl, rfl, rfl, rfl⟩

/-- What `modMer` leaves to be read. -/
@[simp] theorem modMer_reads (f : Mer → Mer) (s : State) :
    (∀ g : Fld, (s.modMer f).wget g = s.wget g) ∧ (∀ g : Fld, (s.modMer f).won g = s.won g) ∧
    (∀ b : Nat, (s.modMer f).byte b = s.byte b) ∧ (∀ q : Nat, (s.modMer f).tladon q = s.tladon q) ∧
    (s.modMer f).ws = s.ws ∧ (s.modMer f).tick = s.tick :=
  ⟨fun _ => rfl, fun _ => rfl, fun _ => rfl, fun _ => rfl, rfl, rfl⟩

/-- The fields after `modSch`. -/
@[simp] theorem modSch_fields (f : Sch → Sch) (s : State) :
    (s.modSch f).pending = s.pending ∧ (s.modSch f).freeCnt = s.freeCnt ∧ (s.modSch f).now = s.now ∧
    (s.modSch f).out = s.out ∧ (s.modSch f).wr = s.wr ∧ (s.modSch f).tl = s.tl ∧
    (s.modSch f).variant = s.variant ∧ (s.modSch f).wclk = s.wclk ∧ (s.modSch f).mtime0 = s.mtime0 ∧
    (s.modSch f).mem = s.mem ∧ (s.modSch f).mer = s.mer ∧ (s.modSch f).tri = s.tri ∧
    (s.modSch f).lanes = s.lanes ∧ (s.modSch f).ports = s.ports ∧ (s.modSch f).dlinks = s.dlinks ∧
    (s.modSch f).sch = f s.sch ∧ (s.modSch f).cores = s.cores ∧ (s.modSch f).queues = s.queues ∧
    (s.modSch f).image = s.image ∧ (s.modSch f).pair = s.pair ∧ (s.modSch f).mus = s.mus ∧
    (s.modSch f).cmp = s.cmp ∧ (s.modSch f).eth = s.eth ∧ (s.modSch f).mems = s.mems ∧
    (s.modSch f).canid = s.canid ∧ (s.modSch f).can = s.can ∧ (s.modSch f).gov = s.gov ∧
    (s.modSch f).sys = s.sys ∧ (s.modSch f).mbx = s.mbx ∧ (s.modSch f).env = s.env ∧
    (s.modSch f).pwr = s.pwr ∧ (s.modSch f).dbg = s.dbg ∧ (s.modSch f).taps = s.taps ∧
    (s.modSch f).held = s.held :=
  ⟨rfl, rfl, rfl, rfl, rfl, rfl, rfl, rfl, rfl, rfl, rfl, rfl, rfl, rfl, rfl, rfl, rfl, rfl, rfl, rfl,
    rfl, rfl, rfl, rfl, rfl, rfl, rfl, rfl, rfl, rfl, rfl, rfl, rfl, rfl⟩

/-- What `modSch` leaves to be read. -/
@[simp] theorem modSch_reads (f : Sch → Sch) (s : State) :
    (∀ g : Fld, (s.modSch f).wget g = s.wget g) ∧ (∀ g : Fld, (s.modSch f).won g = s.won g) ∧
    (∀ b : Nat, (s.modSch f).byte b = s.byte b) ∧ (∀ q : Nat, (s.modSch f).tladon q = s.tladon q) ∧
    (s.modSch f).ws = s.ws ∧ (s.modSch f).tick = s.tick :=
  ⟨fun _ => rfl, fun _ => rfl, fun _ => rfl, fun _ => rfl, rfl, rfl⟩

/-- The fields after `modPair`. -/
@[simp] theorem modPair_fields (f : Pair → Pair) (s : State) :
    (s.modPair f).pending = s.pending ∧ (s.modPair f).freeCnt = s.freeCnt ∧ (s.modPair f).now = s.now ∧
    (s.modPair f).out = s.out ∧ (s.modPair f).wr = s.wr ∧ (s.modPair f).tl = s.tl ∧
    (s.modPair f).variant = s.variant ∧ (s.modPair f).wclk = s.wclk ∧ (s.modPair f).mtime0 = s.mtime0 ∧
    (s.modPair f).mem = s.mem ∧ (s.modPair f).mer = s.mer ∧ (s.modPair f).tri = s.tri ∧
    (s.modPair f).lanes = s.lanes ∧ (s.modPair f).ports = s.ports ∧ (s.modPair f).dlinks = s.dlinks ∧
    (s.modPair f).sch = s.sch ∧ (s.modPair f).cores = s.cores ∧ (s.modPair f).queues = s.queues ∧
    (s.modPair f).image = s.image ∧ (s.modPair f).pair = f s.pair ∧ (s.modPair f).mus = s.mus ∧
    (s.modPair f).cmp = s.cmp ∧ (s.modPair f).eth = s.eth ∧ (s.modPair f).mems = s.mems ∧
    (s.modPair f).canid = s.canid ∧ (s.modPair f).can = s.can ∧ (s.modPair f).gov = s.gov ∧
    (s.modPair f).sys = s.sys ∧ (s.modPair f).mbx = s.mbx ∧ (s.modPair f).env = s.env ∧
    (s.modPair f).pwr = s.pwr ∧ (s.modPair f).dbg = s.dbg ∧ (s.modPair f).taps = s.taps ∧
    (s.modPair f).held = s.held :=
  ⟨rfl, rfl, rfl, rfl, rfl, rfl, rfl, rfl, rfl, rfl, rfl, rfl, rfl, rfl, rfl, rfl, rfl, rfl, rfl, rfl,
    rfl, rfl, rfl, rfl, rfl, rfl, rfl, rfl, rfl, rfl, rfl, rfl, rfl, rfl⟩

/-- What `modPair` leaves to be read. -/
@[simp] theorem modPair_reads (f : Pair → Pair) (s : State) :
    (∀ g : Fld, (s.modPair f).wget g = s.wget g) ∧ (∀ g : Fld, (s.modPair f).won g = s.won g) ∧
    (∀ b : Nat, (s.modPair f).byte b = s.byte b) ∧ (∀ q : Nat, (s.modPair f).tladon q = s.tladon q) ∧
    (s.modPair f).ws = s.ws ∧ (s.modPair f).tick = s.tick :=
  ⟨fun _ => rfl, fun _ => rfl, fun _ => rfl, fun _ => rfl, rfl, rfl⟩

/-- The fields after `modMus`. -/
@[simp] theorem modMus_fields (f : Mus → Mus) (s : State) :
    (s.modMus f).pending = s.pending ∧ (s.modMus f).freeCnt = s.freeCnt ∧ (s.modMus f).now = s.now ∧
    (s.modMus f).out = s.out ∧ (s.modMus f).wr = s.wr ∧ (s.modMus f).tl = s.tl ∧
    (s.modMus f).variant = s.variant ∧ (s.modMus f).wclk = s.wclk ∧ (s.modMus f).mtime0 = s.mtime0 ∧
    (s.modMus f).mem = s.mem ∧ (s.modMus f).mer = s.mer ∧ (s.modMus f).tri = s.tri ∧
    (s.modMus f).lanes = s.lanes ∧ (s.modMus f).ports = s.ports ∧ (s.modMus f).dlinks = s.dlinks ∧
    (s.modMus f).sch = s.sch ∧ (s.modMus f).cores = s.cores ∧ (s.modMus f).queues = s.queues ∧
    (s.modMus f).image = s.image ∧ (s.modMus f).pair = s.pair ∧ (s.modMus f).mus = f s.mus ∧
    (s.modMus f).cmp = s.cmp ∧ (s.modMus f).eth = s.eth ∧ (s.modMus f).mems = s.mems ∧
    (s.modMus f).canid = s.canid ∧ (s.modMus f).can = s.can ∧ (s.modMus f).gov = s.gov ∧
    (s.modMus f).sys = s.sys ∧ (s.modMus f).mbx = s.mbx ∧ (s.modMus f).env = s.env ∧
    (s.modMus f).pwr = s.pwr ∧ (s.modMus f).dbg = s.dbg ∧ (s.modMus f).taps = s.taps ∧
    (s.modMus f).held = s.held :=
  ⟨rfl, rfl, rfl, rfl, rfl, rfl, rfl, rfl, rfl, rfl, rfl, rfl, rfl, rfl, rfl, rfl, rfl, rfl, rfl, rfl,
    rfl, rfl, rfl, rfl, rfl, rfl, rfl, rfl, rfl, rfl, rfl, rfl, rfl, rfl⟩

/-- What `modMus` leaves to be read. -/
@[simp] theorem modMus_reads (f : Mus → Mus) (s : State) :
    (∀ g : Fld, (s.modMus f).wget g = s.wget g) ∧ (∀ g : Fld, (s.modMus f).won g = s.won g) ∧
    (∀ b : Nat, (s.modMus f).byte b = s.byte b) ∧ (∀ q : Nat, (s.modMus f).tladon q = s.tladon q) ∧
    (s.modMus f).ws = s.ws ∧ (s.modMus f).tick = s.tick :=
  ⟨fun _ => rfl, fun _ => rfl, fun _ => rfl, fun _ => rfl, rfl, rfl⟩

/-- The fields after `modCmp`. -/
@[simp] theorem modCmp_fields (f : Cmp → Cmp) (s : State) :
    (s.modCmp f).pending = s.pending ∧ (s.modCmp f).freeCnt = s.freeCnt ∧ (s.modCmp f).now = s.now ∧
    (s.modCmp f).out = s.out ∧ (s.modCmp f).wr = s.wr ∧ (s.modCmp f).tl = s.tl ∧
    (s.modCmp f).variant = s.variant ∧ (s.modCmp f).wclk = s.wclk ∧ (s.modCmp f).mtime0 = s.mtime0 ∧
    (s.modCmp f).mem = s.mem ∧ (s.modCmp f).mer = s.mer ∧ (s.modCmp f).tri = s.tri ∧
    (s.modCmp f).lanes = s.lanes ∧ (s.modCmp f).ports = s.ports ∧ (s.modCmp f).dlinks = s.dlinks ∧
    (s.modCmp f).sch = s.sch ∧ (s.modCmp f).cores = s.cores ∧ (s.modCmp f).queues = s.queues ∧
    (s.modCmp f).image = s.image ∧ (s.modCmp f).pair = s.pair ∧ (s.modCmp f).mus = s.mus ∧
    (s.modCmp f).cmp = f s.cmp ∧ (s.modCmp f).eth = s.eth ∧ (s.modCmp f).mems = s.mems ∧
    (s.modCmp f).canid = s.canid ∧ (s.modCmp f).can = s.can ∧ (s.modCmp f).gov = s.gov ∧
    (s.modCmp f).sys = s.sys ∧ (s.modCmp f).mbx = s.mbx ∧ (s.modCmp f).env = s.env ∧
    (s.modCmp f).pwr = s.pwr ∧ (s.modCmp f).dbg = s.dbg ∧ (s.modCmp f).taps = s.taps ∧
    (s.modCmp f).held = s.held :=
  ⟨rfl, rfl, rfl, rfl, rfl, rfl, rfl, rfl, rfl, rfl, rfl, rfl, rfl, rfl, rfl, rfl, rfl, rfl, rfl, rfl,
    rfl, rfl, rfl, rfl, rfl, rfl, rfl, rfl, rfl, rfl, rfl, rfl, rfl, rfl⟩

/-- What `modCmp` leaves to be read. -/
@[simp] theorem modCmp_reads (f : Cmp → Cmp) (s : State) :
    (∀ g : Fld, (s.modCmp f).wget g = s.wget g) ∧ (∀ g : Fld, (s.modCmp f).won g = s.won g) ∧
    (∀ b : Nat, (s.modCmp f).byte b = s.byte b) ∧ (∀ q : Nat, (s.modCmp f).tladon q = s.tladon q) ∧
    (s.modCmp f).ws = s.ws ∧ (s.modCmp f).tick = s.tick :=
  ⟨fun _ => rfl, fun _ => rfl, fun _ => rfl, fun _ => rfl, rfl, rfl⟩

/-- The fields after `modEth`. -/
@[simp] theorem modEth_fields (f : Eth → Eth) (s : State) :
    (s.modEth f).pending = s.pending ∧ (s.modEth f).freeCnt = s.freeCnt ∧ (s.modEth f).now = s.now ∧
    (s.modEth f).out = s.out ∧ (s.modEth f).wr = s.wr ∧ (s.modEth f).tl = s.tl ∧
    (s.modEth f).variant = s.variant ∧ (s.modEth f).wclk = s.wclk ∧ (s.modEth f).mtime0 = s.mtime0 ∧
    (s.modEth f).mem = s.mem ∧ (s.modEth f).mer = s.mer ∧ (s.modEth f).tri = s.tri ∧
    (s.modEth f).lanes = s.lanes ∧ (s.modEth f).ports = s.ports ∧ (s.modEth f).dlinks = s.dlinks ∧
    (s.modEth f).sch = s.sch ∧ (s.modEth f).cores = s.cores ∧ (s.modEth f).queues = s.queues ∧
    (s.modEth f).image = s.image ∧ (s.modEth f).pair = s.pair ∧ (s.modEth f).mus = s.mus ∧
    (s.modEth f).cmp = s.cmp ∧ (s.modEth f).eth = f s.eth ∧ (s.modEth f).mems = s.mems ∧
    (s.modEth f).canid = s.canid ∧ (s.modEth f).can = s.can ∧ (s.modEth f).gov = s.gov ∧
    (s.modEth f).sys = s.sys ∧ (s.modEth f).mbx = s.mbx ∧ (s.modEth f).env = s.env ∧
    (s.modEth f).pwr = s.pwr ∧ (s.modEth f).dbg = s.dbg ∧ (s.modEth f).taps = s.taps ∧
    (s.modEth f).held = s.held :=
  ⟨rfl, rfl, rfl, rfl, rfl, rfl, rfl, rfl, rfl, rfl, rfl, rfl, rfl, rfl, rfl, rfl, rfl, rfl, rfl, rfl,
    rfl, rfl, rfl, rfl, rfl, rfl, rfl, rfl, rfl, rfl, rfl, rfl, rfl, rfl⟩

/-- What `modEth` leaves to be read. -/
@[simp] theorem modEth_reads (f : Eth → Eth) (s : State) :
    (∀ g : Fld, (s.modEth f).wget g = s.wget g) ∧ (∀ g : Fld, (s.modEth f).won g = s.won g) ∧
    (∀ b : Nat, (s.modEth f).byte b = s.byte b) ∧ (∀ q : Nat, (s.modEth f).tladon q = s.tladon q) ∧
    (s.modEth f).ws = s.ws ∧ (s.modEth f).tick = s.tick :=
  ⟨fun _ => rfl, fun _ => rfl, fun _ => rfl, fun _ => rfl, rfl, rfl⟩

/-- The fields after `modMems`. -/
@[simp] theorem modMems_fields (f : Mems → Mems) (s : State) :
    (s.modMems f).pending = s.pending ∧ (s.modMems f).freeCnt = s.freeCnt ∧ (s.modMems f).now = s.now ∧
    (s.modMems f).out = s.out ∧ (s.modMems f).wr = s.wr ∧ (s.modMems f).tl = s.tl ∧
    (s.modMems f).variant = s.variant ∧ (s.modMems f).wclk = s.wclk ∧ (s.modMems f).mtime0 = s.mtime0 ∧
    (s.modMems f).mem = s.mem ∧ (s.modMems f).mer = s.mer ∧ (s.modMems f).tri = s.tri ∧
    (s.modMems f).lanes = s.lanes ∧ (s.modMems f).ports = s.ports ∧ (s.modMems f).dlinks = s.dlinks ∧
    (s.modMems f).sch = s.sch ∧ (s.modMems f).cores = s.cores ∧ (s.modMems f).queues = s.queues ∧
    (s.modMems f).image = s.image ∧ (s.modMems f).pair = s.pair ∧ (s.modMems f).mus = s.mus ∧
    (s.modMems f).cmp = s.cmp ∧ (s.modMems f).eth = s.eth ∧ (s.modMems f).mems = f s.mems ∧
    (s.modMems f).canid = s.canid ∧ (s.modMems f).can = s.can ∧ (s.modMems f).gov = s.gov ∧
    (s.modMems f).sys = s.sys ∧ (s.modMems f).mbx = s.mbx ∧ (s.modMems f).env = s.env ∧
    (s.modMems f).pwr = s.pwr ∧ (s.modMems f).dbg = s.dbg ∧ (s.modMems f).taps = s.taps ∧
    (s.modMems f).held = s.held :=
  ⟨rfl, rfl, rfl, rfl, rfl, rfl, rfl, rfl, rfl, rfl, rfl, rfl, rfl, rfl, rfl, rfl, rfl, rfl, rfl, rfl,
    rfl, rfl, rfl, rfl, rfl, rfl, rfl, rfl, rfl, rfl, rfl, rfl, rfl, rfl⟩

/-- What `modMems` leaves to be read. -/
@[simp] theorem modMems_reads (f : Mems → Mems) (s : State) :
    (∀ g : Fld, (s.modMems f).wget g = s.wget g) ∧ (∀ g : Fld, (s.modMems f).won g = s.won g) ∧
    (∀ b : Nat, (s.modMems f).byte b = s.byte b) ∧ (∀ q : Nat, (s.modMems f).tladon q = s.tladon q) ∧
    (s.modMems f).ws = s.ws ∧ (s.modMems f).tick = s.tick :=
  ⟨fun _ => rfl, fun _ => rfl, fun _ => rfl, fun _ => rfl, rfl, rfl⟩

/-- The fields after `modCan`. -/
@[simp] theorem modCan_fields (f : Can → Can) (s : State) :
    (s.modCan f).pending = s.pending ∧ (s.modCan f).freeCnt = s.freeCnt ∧ (s.modCan f).now = s.now ∧
    (s.modCan f).out = s.out ∧ (s.modCan f).wr = s.wr ∧ (s.modCan f).tl = s.tl ∧
    (s.modCan f).variant = s.variant ∧ (s.modCan f).wclk = s.wclk ∧ (s.modCan f).mtime0 = s.mtime0 ∧
    (s.modCan f).mem = s.mem ∧ (s.modCan f).mer = s.mer ∧ (s.modCan f).tri = s.tri ∧
    (s.modCan f).lanes = s.lanes ∧ (s.modCan f).ports = s.ports ∧ (s.modCan f).dlinks = s.dlinks ∧
    (s.modCan f).sch = s.sch ∧ (s.modCan f).cores = s.cores ∧ (s.modCan f).queues = s.queues ∧
    (s.modCan f).image = s.image ∧ (s.modCan f).pair = s.pair ∧ (s.modCan f).mus = s.mus ∧
    (s.modCan f).cmp = s.cmp ∧ (s.modCan f).eth = s.eth ∧ (s.modCan f).mems = s.mems ∧
    (s.modCan f).canid = s.canid ∧ (s.modCan f).can = f s.can ∧ (s.modCan f).gov = s.gov ∧
    (s.modCan f).sys = s.sys ∧ (s.modCan f).mbx = s.mbx ∧ (s.modCan f).env = s.env ∧
    (s.modCan f).pwr = s.pwr ∧ (s.modCan f).dbg = s.dbg ∧ (s.modCan f).taps = s.taps ∧
    (s.modCan f).held = s.held :=
  ⟨rfl, rfl, rfl, rfl, rfl, rfl, rfl, rfl, rfl, rfl, rfl, rfl, rfl, rfl, rfl, rfl, rfl, rfl, rfl, rfl,
    rfl, rfl, rfl, rfl, rfl, rfl, rfl, rfl, rfl, rfl, rfl, rfl, rfl, rfl⟩

/-- What `modCan` leaves to be read. -/
@[simp] theorem modCan_reads (f : Can → Can) (s : State) :
    (∀ g : Fld, (s.modCan f).wget g = s.wget g) ∧ (∀ g : Fld, (s.modCan f).won g = s.won g) ∧
    (∀ b : Nat, (s.modCan f).byte b = s.byte b) ∧ (∀ q : Nat, (s.modCan f).tladon q = s.tladon q) ∧
    (s.modCan f).ws = s.ws ∧ (s.modCan f).tick = s.tick :=
  ⟨fun _ => rfl, fun _ => rfl, fun _ => rfl, fun _ => rfl, rfl, rfl⟩

/-- The fields after `modGov`. -/
@[simp] theorem modGov_fields (f : Gov → Gov) (s : State) :
    (s.modGov f).pending = s.pending ∧ (s.modGov f).freeCnt = s.freeCnt ∧ (s.modGov f).now = s.now ∧
    (s.modGov f).out = s.out ∧ (s.modGov f).wr = s.wr ∧ (s.modGov f).tl = s.tl ∧
    (s.modGov f).variant = s.variant ∧ (s.modGov f).wclk = s.wclk ∧ (s.modGov f).mtime0 = s.mtime0 ∧
    (s.modGov f).mem = s.mem ∧ (s.modGov f).mer = s.mer ∧ (s.modGov f).tri = s.tri ∧
    (s.modGov f).lanes = s.lanes ∧ (s.modGov f).ports = s.ports ∧ (s.modGov f).dlinks = s.dlinks ∧
    (s.modGov f).sch = s.sch ∧ (s.modGov f).cores = s.cores ∧ (s.modGov f).queues = s.queues ∧
    (s.modGov f).image = s.image ∧ (s.modGov f).pair = s.pair ∧ (s.modGov f).mus = s.mus ∧
    (s.modGov f).cmp = s.cmp ∧ (s.modGov f).eth = s.eth ∧ (s.modGov f).mems = s.mems ∧
    (s.modGov f).canid = s.canid ∧ (s.modGov f).can = s.can ∧ (s.modGov f).gov = f s.gov ∧
    (s.modGov f).sys = s.sys ∧ (s.modGov f).mbx = s.mbx ∧ (s.modGov f).env = s.env ∧
    (s.modGov f).pwr = s.pwr ∧ (s.modGov f).dbg = s.dbg ∧ (s.modGov f).taps = s.taps ∧
    (s.modGov f).held = s.held :=
  ⟨rfl, rfl, rfl, rfl, rfl, rfl, rfl, rfl, rfl, rfl, rfl, rfl, rfl, rfl, rfl, rfl, rfl, rfl, rfl, rfl,
    rfl, rfl, rfl, rfl, rfl, rfl, rfl, rfl, rfl, rfl, rfl, rfl, rfl, rfl⟩

/-- What `modGov` leaves to be read. -/
@[simp] theorem modGov_reads (f : Gov → Gov) (s : State) :
    (∀ g : Fld, (s.modGov f).wget g = s.wget g) ∧ (∀ g : Fld, (s.modGov f).won g = s.won g) ∧
    (∀ b : Nat, (s.modGov f).byte b = s.byte b) ∧ (∀ q : Nat, (s.modGov f).tladon q = s.tladon q) ∧
    (s.modGov f).ws = s.ws ∧ (s.modGov f).tick = s.tick :=
  ⟨fun _ => rfl, fun _ => rfl, fun _ => rfl, fun _ => rfl, rfl, rfl⟩

/-- The fields after `modSys`. -/
@[simp] theorem modSys_fields (f : Sys → Sys) (s : State) :
    (s.modSys f).pending = s.pending ∧ (s.modSys f).freeCnt = s.freeCnt ∧ (s.modSys f).now = s.now ∧
    (s.modSys f).out = s.out ∧ (s.modSys f).wr = s.wr ∧ (s.modSys f).tl = s.tl ∧
    (s.modSys f).variant = s.variant ∧ (s.modSys f).wclk = s.wclk ∧ (s.modSys f).mtime0 = s.mtime0 ∧
    (s.modSys f).mem = s.mem ∧ (s.modSys f).mer = s.mer ∧ (s.modSys f).tri = s.tri ∧
    (s.modSys f).lanes = s.lanes ∧ (s.modSys f).ports = s.ports ∧ (s.modSys f).dlinks = s.dlinks ∧
    (s.modSys f).sch = s.sch ∧ (s.modSys f).cores = s.cores ∧ (s.modSys f).queues = s.queues ∧
    (s.modSys f).image = s.image ∧ (s.modSys f).pair = s.pair ∧ (s.modSys f).mus = s.mus ∧
    (s.modSys f).cmp = s.cmp ∧ (s.modSys f).eth = s.eth ∧ (s.modSys f).mems = s.mems ∧
    (s.modSys f).canid = s.canid ∧ (s.modSys f).can = s.can ∧ (s.modSys f).gov = s.gov ∧
    (s.modSys f).sys = f s.sys ∧ (s.modSys f).mbx = s.mbx ∧ (s.modSys f).env = s.env ∧
    (s.modSys f).pwr = s.pwr ∧ (s.modSys f).dbg = s.dbg ∧ (s.modSys f).taps = s.taps ∧
    (s.modSys f).held = s.held :=
  ⟨rfl, rfl, rfl, rfl, rfl, rfl, rfl, rfl, rfl, rfl, rfl, rfl, rfl, rfl, rfl, rfl, rfl, rfl, rfl, rfl,
    rfl, rfl, rfl, rfl, rfl, rfl, rfl, rfl, rfl, rfl, rfl, rfl, rfl, rfl⟩

/-- What `modSys` leaves to be read. -/
@[simp] theorem modSys_reads (f : Sys → Sys) (s : State) :
    (∀ g : Fld, (s.modSys f).wget g = s.wget g) ∧ (∀ g : Fld, (s.modSys f).won g = s.won g) ∧
    (∀ b : Nat, (s.modSys f).byte b = s.byte b) ∧ (∀ q : Nat, (s.modSys f).tladon q = s.tladon q) ∧
    (s.modSys f).ws = s.ws ∧ (s.modSys f).tick = s.tick :=
  ⟨fun _ => rfl, fun _ => rfl, fun _ => rfl, fun _ => rfl, rfl, rfl⟩

/-- The fields after `modMbx`. -/
@[simp] theorem modMbx_fields (f : Mbx → Mbx) (s : State) :
    (s.modMbx f).pending = s.pending ∧ (s.modMbx f).freeCnt = s.freeCnt ∧ (s.modMbx f).now = s.now ∧
    (s.modMbx f).out = s.out ∧ (s.modMbx f).wr = s.wr ∧ (s.modMbx f).tl = s.tl ∧
    (s.modMbx f).variant = s.variant ∧ (s.modMbx f).wclk = s.wclk ∧ (s.modMbx f).mtime0 = s.mtime0 ∧
    (s.modMbx f).mem = s.mem ∧ (s.modMbx f).mer = s.mer ∧ (s.modMbx f).tri = s.tri ∧
    (s.modMbx f).lanes = s.lanes ∧ (s.modMbx f).ports = s.ports ∧ (s.modMbx f).dlinks = s.dlinks ∧
    (s.modMbx f).sch = s.sch ∧ (s.modMbx f).cores = s.cores ∧ (s.modMbx f).queues = s.queues ∧
    (s.modMbx f).image = s.image ∧ (s.modMbx f).pair = s.pair ∧ (s.modMbx f).mus = s.mus ∧
    (s.modMbx f).cmp = s.cmp ∧ (s.modMbx f).eth = s.eth ∧ (s.modMbx f).mems = s.mems ∧
    (s.modMbx f).canid = s.canid ∧ (s.modMbx f).can = s.can ∧ (s.modMbx f).gov = s.gov ∧
    (s.modMbx f).sys = s.sys ∧ (s.modMbx f).mbx = f s.mbx ∧ (s.modMbx f).env = s.env ∧
    (s.modMbx f).pwr = s.pwr ∧ (s.modMbx f).dbg = s.dbg ∧ (s.modMbx f).taps = s.taps ∧
    (s.modMbx f).held = s.held :=
  ⟨rfl, rfl, rfl, rfl, rfl, rfl, rfl, rfl, rfl, rfl, rfl, rfl, rfl, rfl, rfl, rfl, rfl, rfl, rfl, rfl,
    rfl, rfl, rfl, rfl, rfl, rfl, rfl, rfl, rfl, rfl, rfl, rfl, rfl, rfl⟩

/-- What `modMbx` leaves to be read. -/
@[simp] theorem modMbx_reads (f : Mbx → Mbx) (s : State) :
    (∀ g : Fld, (s.modMbx f).wget g = s.wget g) ∧ (∀ g : Fld, (s.modMbx f).won g = s.won g) ∧
    (∀ b : Nat, (s.modMbx f).byte b = s.byte b) ∧ (∀ q : Nat, (s.modMbx f).tladon q = s.tladon q) ∧
    (s.modMbx f).ws = s.ws ∧ (s.modMbx f).tick = s.tick :=
  ⟨fun _ => rfl, fun _ => rfl, fun _ => rfl, fun _ => rfl, rfl, rfl⟩

/-- The fields after `modEnv`. -/
@[simp] theorem modEnv_fields (f : Env → Env) (s : State) :
    (s.modEnv f).pending = s.pending ∧ (s.modEnv f).freeCnt = s.freeCnt ∧ (s.modEnv f).now = s.now ∧
    (s.modEnv f).out = s.out ∧ (s.modEnv f).wr = s.wr ∧ (s.modEnv f).tl = s.tl ∧
    (s.modEnv f).variant = s.variant ∧ (s.modEnv f).wclk = s.wclk ∧ (s.modEnv f).mtime0 = s.mtime0 ∧
    (s.modEnv f).mem = s.mem ∧ (s.modEnv f).mer = s.mer ∧ (s.modEnv f).tri = s.tri ∧
    (s.modEnv f).lanes = s.lanes ∧ (s.modEnv f).ports = s.ports ∧ (s.modEnv f).dlinks = s.dlinks ∧
    (s.modEnv f).sch = s.sch ∧ (s.modEnv f).cores = s.cores ∧ (s.modEnv f).queues = s.queues ∧
    (s.modEnv f).image = s.image ∧ (s.modEnv f).pair = s.pair ∧ (s.modEnv f).mus = s.mus ∧
    (s.modEnv f).cmp = s.cmp ∧ (s.modEnv f).eth = s.eth ∧ (s.modEnv f).mems = s.mems ∧
    (s.modEnv f).canid = s.canid ∧ (s.modEnv f).can = s.can ∧ (s.modEnv f).gov = s.gov ∧
    (s.modEnv f).sys = s.sys ∧ (s.modEnv f).mbx = s.mbx ∧ (s.modEnv f).env = f s.env ∧
    (s.modEnv f).pwr = s.pwr ∧ (s.modEnv f).dbg = s.dbg ∧ (s.modEnv f).taps = s.taps ∧
    (s.modEnv f).held = s.held :=
  ⟨rfl, rfl, rfl, rfl, rfl, rfl, rfl, rfl, rfl, rfl, rfl, rfl, rfl, rfl, rfl, rfl, rfl, rfl, rfl, rfl,
    rfl, rfl, rfl, rfl, rfl, rfl, rfl, rfl, rfl, rfl, rfl, rfl, rfl, rfl⟩

/-- What `modEnv` leaves to be read. -/
@[simp] theorem modEnv_reads (f : Env → Env) (s : State) :
    (∀ g : Fld, (s.modEnv f).wget g = s.wget g) ∧ (∀ g : Fld, (s.modEnv f).won g = s.won g) ∧
    (∀ b : Nat, (s.modEnv f).byte b = s.byte b) ∧ (∀ q : Nat, (s.modEnv f).tladon q = s.tladon q) ∧
    (s.modEnv f).ws = s.ws ∧ (s.modEnv f).tick = s.tick :=
  ⟨fun _ => rfl, fun _ => rfl, fun _ => rfl, fun _ => rfl, rfl, rfl⟩

/-- The fields after `modPwr`. -/
@[simp] theorem modPwr_fields (f : Pwr → Pwr) (s : State) :
    (s.modPwr f).pending = s.pending ∧ (s.modPwr f).freeCnt = s.freeCnt ∧ (s.modPwr f).now = s.now ∧
    (s.modPwr f).out = s.out ∧ (s.modPwr f).wr = s.wr ∧ (s.modPwr f).tl = s.tl ∧
    (s.modPwr f).variant = s.variant ∧ (s.modPwr f).wclk = s.wclk ∧ (s.modPwr f).mtime0 = s.mtime0 ∧
    (s.modPwr f).mem = s.mem ∧ (s.modPwr f).mer = s.mer ∧ (s.modPwr f).tri = s.tri ∧
    (s.modPwr f).lanes = s.lanes ∧ (s.modPwr f).ports = s.ports ∧ (s.modPwr f).dlinks = s.dlinks ∧
    (s.modPwr f).sch = s.sch ∧ (s.modPwr f).cores = s.cores ∧ (s.modPwr f).queues = s.queues ∧
    (s.modPwr f).image = s.image ∧ (s.modPwr f).pair = s.pair ∧ (s.modPwr f).mus = s.mus ∧
    (s.modPwr f).cmp = s.cmp ∧ (s.modPwr f).eth = s.eth ∧ (s.modPwr f).mems = s.mems ∧
    (s.modPwr f).canid = s.canid ∧ (s.modPwr f).can = s.can ∧ (s.modPwr f).gov = s.gov ∧
    (s.modPwr f).sys = s.sys ∧ (s.modPwr f).mbx = s.mbx ∧ (s.modPwr f).env = s.env ∧
    (s.modPwr f).pwr = f s.pwr ∧ (s.modPwr f).dbg = s.dbg ∧ (s.modPwr f).taps = s.taps ∧
    (s.modPwr f).held = s.held :=
  ⟨rfl, rfl, rfl, rfl, rfl, rfl, rfl, rfl, rfl, rfl, rfl, rfl, rfl, rfl, rfl, rfl, rfl, rfl, rfl, rfl,
    rfl, rfl, rfl, rfl, rfl, rfl, rfl, rfl, rfl, rfl, rfl, rfl, rfl, rfl⟩

/-- What `modPwr` leaves to be read. -/
@[simp] theorem modPwr_reads (f : Pwr → Pwr) (s : State) :
    (∀ g : Fld, (s.modPwr f).wget g = s.wget g) ∧ (∀ g : Fld, (s.modPwr f).won g = s.won g) ∧
    (∀ b : Nat, (s.modPwr f).byte b = s.byte b) ∧ (∀ q : Nat, (s.modPwr f).tladon q = s.tladon q) ∧
    (s.modPwr f).ws = s.ws ∧ (s.modPwr f).tick = s.tick :=
  ⟨fun _ => rfl, fun _ => rfl, fun _ => rfl, fun _ => rfl, rfl, rfl⟩

/-- The fields after `modDbg`. -/
@[simp] theorem modDbg_fields (f : Dbg → Dbg) (s : State) :
    (s.modDbg f).pending = s.pending ∧ (s.modDbg f).freeCnt = s.freeCnt ∧ (s.modDbg f).now = s.now ∧
    (s.modDbg f).out = s.out ∧ (s.modDbg f).wr = s.wr ∧ (s.modDbg f).tl = s.tl ∧
    (s.modDbg f).variant = s.variant ∧ (s.modDbg f).wclk = s.wclk ∧ (s.modDbg f).mtime0 = s.mtime0 ∧
    (s.modDbg f).mem = s.mem ∧ (s.modDbg f).mer = s.mer ∧ (s.modDbg f).tri = s.tri ∧
    (s.modDbg f).lanes = s.lanes ∧ (s.modDbg f).ports = s.ports ∧ (s.modDbg f).dlinks = s.dlinks ∧
    (s.modDbg f).sch = s.sch ∧ (s.modDbg f).cores = s.cores ∧ (s.modDbg f).queues = s.queues ∧
    (s.modDbg f).image = s.image ∧ (s.modDbg f).pair = s.pair ∧ (s.modDbg f).mus = s.mus ∧
    (s.modDbg f).cmp = s.cmp ∧ (s.modDbg f).eth = s.eth ∧ (s.modDbg f).mems = s.mems ∧
    (s.modDbg f).canid = s.canid ∧ (s.modDbg f).can = s.can ∧ (s.modDbg f).gov = s.gov ∧
    (s.modDbg f).sys = s.sys ∧ (s.modDbg f).mbx = s.mbx ∧ (s.modDbg f).env = s.env ∧
    (s.modDbg f).pwr = s.pwr ∧ (s.modDbg f).dbg = f s.dbg ∧ (s.modDbg f).taps = s.taps ∧
    (s.modDbg f).held = s.held :=
  ⟨rfl, rfl, rfl, rfl, rfl, rfl, rfl, rfl, rfl, rfl, rfl, rfl, rfl, rfl, rfl, rfl, rfl, rfl, rfl, rfl,
    rfl, rfl, rfl, rfl, rfl, rfl, rfl, rfl, rfl, rfl, rfl, rfl, rfl, rfl⟩

/-- What `modDbg` leaves to be read. -/
@[simp] theorem modDbg_reads (f : Dbg → Dbg) (s : State) :
    (∀ g : Fld, (s.modDbg f).wget g = s.wget g) ∧ (∀ g : Fld, (s.modDbg f).won g = s.won g) ∧
    (∀ b : Nat, (s.modDbg f).byte b = s.byte b) ∧ (∀ q : Nat, (s.modDbg f).tladon q = s.tladon q) ∧
    (s.modDbg f).ws = s.ws ∧ (s.modDbg f).tick = s.tick :=
  ⟨fun _ => rfl, fun _ => rfl, fun _ => rfl, fun _ => rfl, rfl, rfl⟩

/-- The fields after `modCore`. -/
@[simp] theorem modCore_fields (n : Nat) (f : Core → Core) (s : State) :
    (s.modCore n f).pending = s.pending ∧ (s.modCore n f).freeCnt = s.freeCnt ∧ (s.modCore n f).now = s.now ∧
    (s.modCore n f).out = s.out ∧ (s.modCore n f).wr = s.wr ∧ (s.modCore n f).tl = s.tl ∧
    (s.modCore n f).variant = s.variant ∧ (s.modCore n f).wclk = s.wclk ∧ (s.modCore n f).mtime0 = s.mtime0 ∧
    (s.modCore n f).mem = s.mem ∧ (s.modCore n f).mer = s.mer ∧ (s.modCore n f).tri = s.tri ∧
    (s.modCore n f).lanes = s.lanes ∧ (s.modCore n f).ports = s.ports ∧ (s.modCore n f).dlinks = s.dlinks ∧
    (s.modCore n f).sch = s.sch ∧ (s.modCore n f).queues = s.queues ∧ (s.modCore n f).image = s.image ∧
    (s.modCore n f).pair = s.pair ∧ (s.modCore n f).mus = s.mus ∧ (s.modCore n f).cmp = s.cmp ∧
    (s.modCore n f).eth = s.eth ∧ (s.modCore n f).mems = s.mems ∧ (s.modCore n f).canid = s.canid ∧
    (s.modCore n f).can = s.can ∧ (s.modCore n f).gov = s.gov ∧ (s.modCore n f).sys = s.sys ∧
    (s.modCore n f).mbx = s.mbx ∧ (s.modCore n f).env = s.env ∧ (s.modCore n f).pwr = s.pwr ∧
    (s.modCore n f).dbg = s.dbg ∧ (s.modCore n f).taps = s.taps ∧ (s.modCore n f).held = s.held :=
  ⟨rfl, rfl, rfl, rfl, rfl, rfl, rfl, rfl, rfl, rfl, rfl, rfl, rfl, rfl, rfl, rfl, rfl, rfl, rfl, rfl,
    rfl, rfl, rfl, rfl, rfl, rfl, rfl, rfl, rfl, rfl, rfl, rfl, rfl⟩

/-- What `modCore` leaves to be read. -/
@[simp] theorem modCore_reads (n : Nat) (f : Core → Core) (s : State) :
    (∀ g : Fld, (s.modCore n f).wget g = s.wget g) ∧ (∀ g : Fld, (s.modCore n f).won g = s.won g) ∧
    (∀ b : Nat, (s.modCore n f).byte b = s.byte b) ∧ (∀ q : Nat, (s.modCore n f).tladon q = s.tladon q) ∧
    (s.modCore n f).ws = s.ws ∧ (s.modCore n f).tick = s.tick :=
  ⟨fun _ => rfl, fun _ => rfl, fun _ => rfl, fun _ => rfl, rfl, rfl⟩

/-- A stored field reads what was stored, cut to its width. -/
@[simp] theorem wget_wset_self (f : Fld) (v : Nat) (s : State) : (s.wset f v).wget f = v % f.size :=
  RegFile.get_set_self f v s.wr

/-- A stored field leaves the others alone. -/
theorem wget_wset_other {f g : Fld} (h : f.key ≠ g.key) (v : Nat) (s : State) : (s.wset g v).wget f = s.wget f :=
  RegFile.get_set_other h v s.wr

/-- A counting field reads the sum, at most its largest value. -/
@[simp] theorem wget_wadd_self (f : Fld) (n : Nat) (s : State) : (s.wadd f n).wget f = min (s.wget f + n) (f.size - 1) :=
  RegFile.get_add_self f n s.wr

/-- A counting field leaves the others alone. -/
theorem wget_wadd_other {f g : Fld} (h : f.key ≠ g.key) (n : Nat) (s : State) : (s.wadd g n).wget f = s.wget f :=
  RegFile.get_add_other h n s.wr

/-- A field that keeps its largest value leaves the others alone. -/
theorem wget_wraise_other {f g : Fld} (h : f.key ≠ g.key) (n : Nat) (s : State) : (s.wraise g n).wget f = s.wget f :=
  RegFile.get_set_other h _ s.wr

/-- Several stores, one by one. -/
theorem wsets_cons (f : Fld) (v : Nat) (l : List (Fld × Nat)) (s : State) : s.wsets ((f, v) :: l) = (s.wset f v).wsets l := rfl

/-- No store. -/
@[simp] theorem wsets_nil (s : State) : s.wsets [] = s := rfl

/-- A flag is a field that is not zero. -/
theorem won_eq (f : Fld) (s : State) : s.won f = (s.wget f != 0) := rfl

/-- The state of Wonan is SYS_STATE.STATE. -/
theorem ws_eq (s : State) : s.ws = s.wget WR.SYS_STATE_STATE := rfl

/-- A stored byte is read. -/
@[simp] theorem byte_setByte_self (a : Nat) (v : Byte) (s : State) : (s.setByte a v).byte a = v := by
  unfold byte setByte
  dsimp only
  split
  · rename_i h
    rw [SMap.find_erase_self]
    exact h.symm
  · rw [SMap.find_insert_self]
    rfl

/-- A stored byte leaves the others alone. -/
theorem byte_setByte_other {a b : Nat} (h : b ≠ a) (v : Byte) (s : State) : (s.setByte a v).byte b = s.byte b := by
  unfold byte setByte
  dsimp only
  split
  · rw [SMap.find_erase_other h]
  · rw [SMap.find_insert_other h]

/-- The changed Tladon is read. -/
@[simp] theorem tladon_modTl_self (p : Nat) (f : Tladon → Tladon) (s : State) : (s.modTl p f).tladon p = f (s.tladon p) := by
  simp [tladon, modTl]

/-- The Tladons of the other ports stay. -/
theorem tladon_modTl_other {p q : Nat} (h : q ≠ p) (f : Tladon → Tladon) (s : State) :
    (s.modTl p f).tladon q = s.tladon q := by
  simp [tladon, modTl, SMap.getD_insert_other h]

end State

end Sys2Proof.Machine
end

