-- ==== Sys2Proof/Laws/Tladon.lean ====
section
/-! SUPPORT. What each field of a Tladon is after each named update of it, and what is read of its registers. -/

namespace Sys2Proof.Machine

open Sys2Proof

namespace Tladon

/-- What every step of a fold leaves alone, the fold leaves alone. -/
theorem foldl_keeps {α β : Type} (g : Tladon → β) (f : Tladon → α → Tladon) (h : ∀ t a, g (f t a) = g t) (l : List α)
    (t : Tladon) : g (l.foldl f t) = g t := by
  induction l generalizing t with
  | nil => rfl
  | cons a l ih => exact (ih _).trans (h t a)

/-- The fields after `set`. -/
@[simp] theorem set_fields (f : Fld) (v : Nat) (t : Tladon) :
    (t.set f v).tl512t = t.tl512t ∧ (t.set f v).straps = t.straps ∧ (t.set f v).powered = t.powered ∧
    (t.set f v).clk = t.clk ∧ (t.set f v).epoch = t.epoch ∧ (t.set f v).holdAt = t.holdAt ∧
    (t.set f v).obeyed = t.obeyed ∧ (t.set f v).sched = t.sched ∧ (t.set f v).linkDue = t.linkDue ∧
    (t.set f v).dls = t.dls ∧ (t.set f v).ups = t.ups ∧ (t.set f v).chans = t.chans ∧
    (t.set f v).ints = t.ints ∧ (t.set f v).gate = t.gate ∧ (t.set f v).arm = t.arm ∧
    (t.set f v).computing = t.computing ∧ (t.set f v).res = t.res ∧ (t.set f v).cal = t.cal ∧
    (t.set f v).samps = t.samps ∧ (t.set f v).refAt = t.refAt ∧ (t.set f v).sweep = t.sweep ∧
    (t.set f v).monFrames = t.monFrames ∧ (t.set f v).sampNext = t.sampNext ∧ (t.set f v).pad = t.pad ∧
    (t.set f v).regs = t.regs.set f v :=
  ⟨rfl, rfl, rfl, rfl, rfl, rfl, rfl, rfl, rfl, rfl, rfl, rfl, rfl, rfl, rfl, rfl, rfl, rfl, rfl, rfl,
    rfl, rfl, rfl, rfl, rfl⟩

/-- `set` leaves the tick count. -/
@[simp] theorem set_count (f : Fld) (v : Nat) (now : Nat) (t : Tladon) : (t.set f v).count now = t.count now := rfl

/-- The fields after `sets`. -/
@[simp] theorem sets_fields (l : List (Fld × Nat)) (t : Tladon) :
    (t.sets l).tl512t = t.tl512t ∧ (t.sets l).straps = t.straps ∧ (t.sets l).powered = t.powered ∧
    (t.sets l).clk = t.clk ∧ (t.sets l).epoch = t.epoch ∧ (t.sets l).holdAt = t.holdAt ∧
    (t.sets l).obeyed = t.obeyed ∧ (t.sets l).sched = t.sched ∧ (t.sets l).linkDue = t.linkDue ∧
    (t.sets l).dls = t.dls ∧ (t.sets l).ups = t.ups ∧ (t.sets l).chans = t.chans ∧ (t.sets l).ints = t.ints ∧
    (t.sets l).gate = t.gate ∧ (t.sets l).arm = t.arm ∧ (t.sets l).computing = t.computing ∧
    (t.sets l).res = t.res ∧ (t.sets l).cal = t.cal ∧ (t.sets l).samps = t.samps ∧
    (t.sets l).refAt = t.refAt ∧ (t.sets l).sweep = t.sweep ∧ (t.sets l).monFrames = t.monFrames ∧
    (t.sets l).sampNext = t.sampNext ∧ (t.sets l).pad = t.pad ∧ (t.sets l).regs = t.regs.sets l :=
  ⟨rfl, rfl, rfl, rfl, rfl, rfl, rfl, rfl, rfl, rfl, rfl, rfl, rfl, rfl, rfl, rfl, rfl, rfl, rfl, rfl,
    rfl, rfl, rfl, rfl, rfl⟩

/-- `sets` leaves the tick count. -/
@[simp] theorem sets_count (l : List (Fld × Nat)) (now : Nat) (t : Tladon) : (t.sets l).count now = t.count now := rfl

/-- The fields after `add`. -/
@[simp] theorem add_fields (f : Fld) (n : Nat) (t : Tladon) :
    (t.add f n).tl512t = t.tl512t ∧ (t.add f n).straps = t.straps ∧ (t.add f n).powered = t.powered ∧
    (t.add f n).clk = t.clk ∧ (t.add f n).epoch = t.epoch ∧ (t.add f n).holdAt = t.holdAt ∧
    (t.add f n).obeyed = t.obeyed ∧ (t.add f n).sched = t.sched ∧ (t.add f n).linkDue = t.linkDue ∧
    (t.add f n).dls = t.dls ∧ (t.add f n).ups = t.ups ∧ (t.add f n).chans = t.chans ∧
    (t.add f n).ints = t.ints ∧ (t.add f n).gate = t.gate ∧ (t.add f n).arm = t.arm ∧
    (t.add f n).computing = t.computing ∧ (t.add f n).res = t.res ∧ (t.add f n).cal = t.cal ∧
    (t.add f n).samps = t.samps ∧ (t.add f n).refAt = t.refAt ∧ (t.add f n).sweep = t.sweep ∧
    (t.add f n).monFrames = t.monFrames ∧ (t.add f n).sampNext = t.sampNext ∧ (t.add f n).pad = t.pad ∧
    (t.add f n).regs = t.regs.add f n :=
  ⟨rfl, rfl, rfl, rfl, rfl, rfl, rfl, rfl, rfl, rfl, rfl, rfl, rfl, rfl, rfl, rfl, rfl, rfl, rfl, rfl,
    rfl, rfl, rfl, rfl, rfl⟩

/-- `add` leaves the tick count. -/
@[simp] theorem add_count (f : Fld) (n : Nat) (now : Nat) (t : Tladon) : (t.add f n).count now = t.count now := rfl

/-- The fields after `addMod`. -/
@[simp] theorem addMod_fields (f : Fld) (n : Nat) (t : Tladon) :
    (t.addMod f n).tl512t = t.tl512t ∧ (t.addMod f n).straps = t.straps ∧
    (t.addMod f n).powered = t.powered ∧ (t.addMod f n).clk = t.clk ∧ (t.addMod f n).epoch = t.epoch ∧
    (t.addMod f n).holdAt = t.holdAt ∧ (t.addMod f n).obeyed = t.obeyed ∧ (t.addMod f n).sched = t.sched ∧
    (t.addMod f n).linkDue = t.linkDue ∧ (t.addMod f n).dls = t.dls ∧ (t.addMod f n).ups = t.ups ∧
    (t.addMod f n).chans = t.chans ∧ (t.addMod f n).ints = t.ints ∧ (t.addMod f n).gate = t.gate ∧
    (t.addMod f n).arm = t.arm ∧ (t.addMod f n).computing = t.computing ∧ (t.addMod f n).res = t.res ∧
    (t.addMod f n).cal = t.cal ∧ (t.addMod f n).samps = t.samps ∧ (t.addMod f n).refAt = t.refAt ∧
    (t.addMod f n).sweep = t.sweep ∧ (t.addMod f n).monFrames = t.monFrames ∧
    (t.addMod f n).sampNext = t.sampNext ∧ (t.addMod f n).pad = t.pad ∧
    (t.addMod f n).regs = t.regs.addMod f n :=
  ⟨rfl, rfl, rfl, rfl, rfl, rfl, rfl, rfl, rfl, rfl, rfl, rfl, rfl, rfl, rfl, rfl, rfl, rfl, rfl, rfl,
    rfl, rfl, rfl, rfl, rfl⟩

/-- `addMod` leaves the tick count. -/
@[simp] theorem addMod_count (f : Fld) (n : Nat) (now : Nat) (t : Tladon) : (t.addMod f n).count now = t.count now := rfl

/-- The fields after `modUp`. -/
@[simp] theorem modUp_fields (k : Nat) (f : Uplink → Uplink) (t : Tladon) :
    (t.modUp k f).tl512t = t.tl512t ∧ (t.modUp k f).straps = t.straps ∧ (t.modUp k f).powered = t.powered ∧
    (t.modUp k f).regs = t.regs ∧ (t.modUp k f).clk = t.clk ∧ (t.modUp k f).epoch = t.epoch ∧
    (t.modUp k f).holdAt = t.holdAt ∧ (t.modUp k f).obeyed = t.obeyed ∧ (t.modUp k f).sched = t.sched ∧
    (t.modUp k f).linkDue = t.linkDue ∧ (t.modUp k f).dls = t.dls ∧ (t.modUp k f).chans = t.chans ∧
    (t.modUp k f).ints = t.ints ∧ (t.modUp k f).gate = t.gate ∧ (t.modUp k f).arm = t.arm ∧
    (t.modUp k f).computing = t.computing ∧ (t.modUp k f).res = t.res ∧ (t.modUp k f).cal = t.cal ∧
    (t.modUp k f).samps = t.samps ∧ (t.modUp k f).refAt = t.refAt ∧ (t.modUp k f).sweep = t.sweep ∧
    (t.modUp k f).monFrames = t.monFrames ∧ (t.modUp k f).sampNext = t.sampNext ∧ (t.modUp k f).pad = t.pad :=
  ⟨rfl, rfl, rfl, rfl, rfl, rfl, rfl, rfl, rfl, rfl, rfl, rfl, rfl, rfl, rfl, rfl, rfl, rfl, rfl, rfl,
    rfl, rfl, rfl, rfl⟩

/-- What `modUp` leaves to be read. -/
@[simp] theorem modUp_reads (k : Nat) (f : Uplink → Uplink) (t : Tladon) :
    (∀ g : Fld, (t.modUp k f).get g = t.get g) ∧ (∀ g : Fld, (t.modUp k f).on g = t.on g) ∧ (t.modUp k f).state = t.state ∧
    (t.modUp k f).locked = t.locked :=
  ⟨fun _ => rfl, fun _ => rfl, rfl, rfl⟩

/-- `modUp` leaves the tick count. -/
@[simp] theorem modUp_count (k : Nat) (f : Uplink → Uplink) (now : Nat) (t : Tladon) : (t.modUp k f).count now = t.count now := rfl

/-- The fields after `modDl`. -/
@[simp] theorem modDl_fields (d : Bool) (f : Downlink → Downlink) (t : Tladon) :
    (t.modDl d f).tl512t = t.tl512t ∧ (t.modDl d f).straps = t.straps ∧ (t.modDl d f).powered = t.powered ∧
    (t.modDl d f).regs = t.regs ∧ (t.modDl d f).clk = t.clk ∧ (t.modDl d f).epoch = t.epoch ∧
    (t.modDl d f).holdAt = t.holdAt ∧ (t.modDl d f).obeyed = t.obeyed ∧ (t.modDl d f).sched = t.sched ∧
    (t.modDl d f).linkDue = t.linkDue ∧ (t.modDl d f).ups = t.ups ∧ (t.modDl d f).chans = t.chans ∧
    (t.modDl d f).ints = t.ints ∧ (t.modDl d f).gate = t.gate ∧ (t.modDl d f).arm = t.arm ∧
    (t.modDl d f).computing = t.computing ∧ (t.modDl d f).res = t.res ∧ (t.modDl d f).cal = t.cal ∧
    (t.modDl d f).samps = t.samps ∧ (t.modDl d f).refAt = t.refAt ∧ (t.modDl d f).sweep = t.sweep ∧
    (t.modDl d f).monFrames = t.monFrames ∧ (t.modDl d f).sampNext = t.sampNext ∧ (t.modDl d f).pad = t.pad :=
  ⟨rfl, rfl, rfl, rfl, rfl, rfl, rfl, rfl, rfl, rfl, rfl, rfl, rfl, rfl, rfl, rfl, rfl, rfl, rfl, rfl,
    rfl, rfl, rfl, rfl⟩

/-- What `modDl` leaves to be read. -/
@[simp] theorem modDl_reads (d : Bool) (f : Downlink → Downlink) (t : Tladon) :
    (∀ g : Fld, (t.modDl d f).get g = t.get g) ∧ (∀ g : Fld, (t.modDl d f).on g = t.on g) ∧ (t.modDl d f).state = t.state ∧
    (t.modDl d f).locked = t.locked :=
  ⟨fun _ => rfl, fun _ => rfl, rfl, rfl⟩

/-- `modDl` leaves the tick count. -/
@[simp] theorem modDl_count (d : Bool) (f : Downlink → Downlink) (now : Nat) (t : Tladon) : (t.modDl d f).count now = t.count now := rfl

/-- The fields after `modChan`. -/
@[simp] theorem modChan_fields (c : Nat) (f : Chan → Chan) (t : Tladon) :
    (t.modChan c f).tl512t = t.tl512t ∧ (t.modChan c f).straps = t.straps ∧
    (t.modChan c f).powered = t.powered ∧ (t.modChan c f).regs = t.regs ∧ (t.modChan c f).clk = t.clk ∧
    (t.modChan c f).epoch = t.epoch ∧ (t.modChan c f).holdAt = t.holdAt ∧ (t.modChan c f).obeyed = t.obeyed ∧
    (t.modChan c f).sched = t.sched ∧ (t.modChan c f).linkDue = t.linkDue ∧ (t.modChan c f).dls = t.dls ∧
    (t.modChan c f).ups = t.ups ∧ (t.modChan c f).ints = t.ints ∧ (t.modChan c f).gate = t.gate ∧
    (t.modChan c f).arm = t.arm ∧ (t.modChan c f).computing = t.computing ∧ (t.modChan c f).res = t.res ∧
    (t.modChan c f).cal = t.cal ∧ (t.modChan c f).samps = t.samps ∧ (t.modChan c f).refAt = t.refAt ∧
    (t.modChan c f).sweep = t.sweep ∧ (t.modChan c f).monFrames = t.monFrames ∧
    (t.modChan c f).sampNext = t.sampNext ∧ (t.modChan c f).pad = t.pad :=
  ⟨rfl, rfl, rfl, rfl, rfl, rfl, rfl, rfl, rfl, rfl, rfl, rfl, rfl, rfl, rfl, rfl, rfl, rfl, rfl, rfl,
    rfl, rfl, rfl, rfl⟩

/-- What `modChan` leaves to be read. -/
@[simp] theorem modChan_reads (c : Nat) (f : Chan → Chan) (t : Tladon) :
    (∀ g : Fld, (t.modChan c f).get g = t.get g) ∧ (∀ g : Fld, (t.modChan c f).on g = t.on g) ∧ (t.modChan c f).state = t.state ∧
    (t.modChan c f).locked = t.locked :=
  ⟨fun _ => rfl, fun _ => rfl, rfl, rfl⟩

/-- `modChan` leaves the tick count. -/
@[simp] theorem modChan_count (c : Nat) (f : Chan → Chan) (now : Nat) (t : Tladon) : (t.modChan c f).count now = t.count now := rfl

/-- The fields after `modPad`. -/
@[simp] theorem modPad_fields (f : Paddock → Paddock) (t : Tladon) :
    (t.modPad f).tl512t = t.tl512t ∧ (t.modPad f).straps = t.straps ∧ (t.modPad f).powered = t.powered ∧
    (t.modPad f).regs = t.regs ∧ (t.modPad f).clk = t.clk ∧ (t.modPad f).epoch = t.epoch ∧
    (t.modPad f).holdAt = t.holdAt ∧ (t.modPad f).obeyed = t.obeyed ∧ (t.modPad f).sched = t.sched ∧
    (t.modPad f).linkDue = t.linkDue ∧ (t.modPad f).dls = t.dls ∧ (t.modPad f).ups = t.ups ∧
    (t.modPad f).chans = t.chans ∧ (t.modPad f).ints = t.ints ∧ (t.modPad f).gate = t.gate ∧
    (t.modPad f).arm = t.arm ∧ (t.modPad f).computing = t.computing ∧ (t.modPad f).res = t.res ∧
    (t.modPad f).cal = t.cal ∧ (t.modPad f).samps = t.samps ∧ (t.modPad f).refAt = t.refAt ∧
    (t.modPad f).sweep = t.sweep ∧ (t.modPad f).monFrames = t.monFrames ∧
    (t.modPad f).sampNext = t.sampNext ∧ (t.modPad f).pad = f t.pad :=
  ⟨rfl, rfl, rfl, rfl, rfl, rfl, rfl, rfl, rfl, rfl, rfl, rfl, rfl, rfl, rfl, rfl, rfl, rfl, rfl, rfl,
    rfl, rfl, rfl, rfl, rfl⟩

/-- What `modPad` leaves to be read. -/
@[simp] theorem modPad_reads (f : Paddock → Paddock) (t : Tladon) :
    (∀ g : Fld, (t.modPad f).get g = t.get g) ∧ (∀ g : Fld, (t.modPad f).on g = t.on g) ∧ (t.modPad f).state = t.state ∧
    (t.modPad f).locked = t.locked :=
  ⟨fun _ => rfl, fun _ => rfl, rfl, rfl⟩

/-- `modPad` leaves the tick count. -/
@[simp] theorem modPad_count (f : Paddock → Paddock) (now : Nat) (t : Tladon) : (t.modPad f).count now = t.count now := rfl

/-- The fields after `modSlot`. -/
@[simp] theorem modSlot_fields (k : Nat) (f : Slot → Slot) (t : Tladon) :
    (t.modSlot k f).tl512t = t.tl512t ∧ (t.modSlot k f).straps = t.straps ∧
    (t.modSlot k f).powered = t.powered ∧ (t.modSlot k f).regs = t.regs ∧ (t.modSlot k f).clk = t.clk ∧
    (t.modSlot k f).epoch = t.epoch ∧ (t.modSlot k f).holdAt = t.holdAt ∧ (t.modSlot k f).obeyed = t.obeyed ∧
    (t.modSlot k f).sched = t.sched ∧ (t.modSlot k f).linkDue = t.linkDue ∧ (t.modSlot k f).dls = t.dls ∧
    (t.modSlot k f).ups = t.ups ∧ (t.modSlot k f).chans = t.chans ∧ (t.modSlot k f).ints = t.ints ∧
    (t.modSlot k f).gate = t.gate ∧ (t.modSlot k f).arm = t.arm ∧ (t.modSlot k f).computing = t.computing ∧
    (t.modSlot k f).res = t.res ∧ (t.modSlot k f).cal = t.cal ∧ (t.modSlot k f).samps = t.samps ∧
    (t.modSlot k f).refAt = t.refAt ∧ (t.modSlot k f).sweep = t.sweep ∧
    (t.modSlot k f).monFrames = t.monFrames ∧ (t.modSlot k f).sampNext = t.sampNext :=
  ⟨rfl, rfl, rfl, rfl, rfl, rfl, rfl, rfl, rfl, rfl, rfl, rfl, rfl, rfl, rfl, rfl, rfl, rfl, rfl, rfl,
    rfl, rfl, rfl, rfl⟩

/-- What `modSlot` leaves to be read. -/
@[simp] theorem modSlot_reads (k : Nat) (f : Slot → Slot) (t : Tladon) :
    (∀ g : Fld, (t.modSlot k f).get g = t.get g) ∧ (∀ g : Fld, (t.modSlot k f).on g = t.on g) ∧ (t.modSlot k f).state = t.state ∧
    (t.modSlot k f).locked = t.locked :=
  ⟨fun _ => rfl, fun _ => rfl, rfl, rfl⟩

/-- `modSlot` leaves the tick count. -/
@[simp] theorem modSlot_count (k : Nat) (f : Slot → Slot) (now : Nat) (t : Tladon) : (t.modSlot k f).count now = t.count now := rfl

/-- The fields after `markCaptures`. -/
@[simp] theorem markCaptures_fields (f : Capture → Capture) (t : Tladon) :
    (t.markCaptures f).tl512t = t.tl512t ∧ (t.markCaptures f).straps = t.straps ∧
    (t.markCaptures f).powered = t.powered ∧ (t.markCaptures f).regs = t.regs ∧
    (t.markCaptures f).clk = t.clk ∧ (t.markCaptures f).epoch = t.epoch ∧
    (t.markCaptures f).holdAt = t.holdAt ∧ (t.markCaptures f).obeyed = t.obeyed ∧
    (t.markCaptures f).sched = t.sched ∧ (t.markCaptures f).linkDue = t.linkDue ∧
    (t.markCaptures f).dls = t.dls ∧ (t.markCaptures f).ups = t.ups ∧ (t.markCaptures f).chans = t.chans ∧
    (t.markCaptures f).ints = t.ints ∧ (t.markCaptures f).gate = t.gate ∧ (t.markCaptures f).arm = t.arm ∧
    (t.markCaptures f).computing = t.computing ∧ (t.markCaptures f).res = t.res ∧
    (t.markCaptures f).cal = t.cal ∧ (t.markCaptures f).refAt = t.refAt ∧
    (t.markCaptures f).sweep = t.sweep ∧ (t.markCaptures f).monFrames = t.monFrames ∧
    (t.markCaptures f).sampNext = t.sampNext ∧ (t.markCaptures f).pad = t.pad :=
  ⟨rfl, rfl, rfl, rfl, rfl, rfl, rfl, rfl, rfl, rfl, rfl, rfl, rfl, rfl, rfl, rfl, rfl, rfl, rfl, rfl,
    rfl, rfl, rfl, rfl⟩

/-- What `markCaptures` leaves to be read. -/
@[simp] theorem markCaptures_reads (f : Capture → Capture) (t : Tladon) :
    (∀ g : Fld, (t.markCaptures f).get g = t.get g) ∧ (∀ g : Fld, (t.markCaptures f).on g = t.on g) ∧ (t.markCaptures f).state = t.state ∧
    (t.markCaptures f).locked = t.locked :=
  ⟨fun _ => rfl, fun _ => rfl, rfl, rfl⟩

/-- `markCaptures` leaves the tick count. -/
@[simp] theorem markCaptures_count (f : Capture → Capture) (now : Nat) (t : Tladon) : (t.markCaptures f).count now = t.count now := rfl

/-- The fields after `modSamp`. -/
@[simp] theorem modSamp_fields (g : Nat) (f : Sampler → Sampler) (t : Tladon) :
    (t.modSamp g f).tl512t = t.tl512t ∧ (t.modSamp g f).straps = t.straps ∧
    (t.modSamp g f).powered = t.powered ∧ (t.modSamp g f).clk = t.clk ∧ (t.modSamp g f).epoch = t.epoch ∧
    (t.modSamp g f).holdAt = t.holdAt ∧ (t.modSamp g f).obeyed = t.obeyed ∧ (t.modSamp g f).sched = t.sched ∧
    (t.modSamp g f).linkDue = t.linkDue ∧ (t.modSamp g f).dls = t.dls ∧ (t.modSamp g f).ups = t.ups ∧
    (t.modSamp g f).chans = t.chans ∧ (t.modSamp g f).ints = t.ints ∧ (t.modSamp g f).gate = t.gate ∧
    (t.modSamp g f).arm = t.arm ∧ (t.modSamp g f).computing = t.computing ∧ (t.modSamp g f).res = t.res ∧
    (t.modSamp g f).cal = t.cal ∧ (t.modSamp g f).refAt = t.refAt ∧ (t.modSamp g f).sweep = t.sweep ∧
    (t.modSamp g f).monFrames = t.monFrames ∧ (t.modSamp g f).sampNext = t.sampNext ∧
    (t.modSamp g f).pad = t.pad :=
  ⟨rfl, rfl, rfl, rfl, rfl, rfl, rfl, rfl, rfl, rfl, rfl, rfl, rfl, rfl, rfl, rfl, rfl, rfl, rfl, rfl,
    rfl, rfl, rfl⟩

/-- `modSamp` leaves the tick count. -/
@[simp] theorem modSamp_count (g : Nat) (f : Sampler → Sampler) (now : Nat) (t : Tladon) : (t.modSamp g f).count now = t.count now := rfl

/-- The fields after `enqueue`. -/
@[simp] theorem enqueue_fields (c : Nat) (i : UpItem) (k : Nat) (t : Tladon) :
    (t.enqueue c i k).tl512t = t.tl512t ∧ (t.enqueue c i k).straps = t.straps ∧
    (t.enqueue c i k).powered = t.powered ∧ (t.enqueue c i k).regs = t.regs ∧ (t.enqueue c i k).clk = t.clk ∧
    (t.enqueue c i k).epoch = t.epoch ∧ (t.enqueue c i k).holdAt = t.holdAt ∧
    (t.enqueue c i k).obeyed = t.obeyed ∧ (t.enqueue c i k).sched = t.sched ∧
    (t.enqueue c i k).linkDue = t.linkDue ∧ (t.enqueue c i k).dls = t.dls ∧
    (t.enqueue c i k).chans = t.chans ∧ (t.enqueue c i k).ints = t.ints ∧ (t.enqueue c i k).gate = t.gate ∧
    (t.enqueue c i k).arm = t.arm ∧ (t.enqueue c i k).computing = t.computing ∧
    (t.enqueue c i k).res = t.res ∧ (t.enqueue c i k).cal = t.cal ∧ (t.enqueue c i k).samps = t.samps ∧
    (t.enqueue c i k).refAt = t.refAt ∧ (t.enqueue c i k).sweep = t.sweep ∧
    (t.enqueue c i k).monFrames = t.monFrames ∧ (t.enqueue c i k).sampNext = t.sampNext ∧
    (t.enqueue c i k).pad = t.pad := by
  unfold enqueue
  exact modUp_fields _ _ _

/-- What `enqueue` leaves to be read. -/
@[simp] theorem enqueue_reads (c : Nat) (i : UpItem) (k : Nat) (t : Tladon) :
    (∀ g : Fld, (t.enqueue c i k).get g = t.get g) ∧ (∀ g : Fld, (t.enqueue c i k).on g = t.on g) ∧ (t.enqueue c i k).state = t.state ∧
    (t.enqueue c i k).locked = t.locked :=
  ⟨fun _ => rfl, fun _ => rfl, rfl, rfl⟩

/-- `enqueue` leaves the tick count. -/
@[simp] theorem enqueue_count (c : Nat) (i : UpItem) (k : Nat) (now : Nat) (t : Tladon) : (t.enqueue c i k).count now = t.count now := rfl

/-- The fields after `sendOn`. -/
@[simp] theorem sendOn_fields (c : Nat) (i : UpItem) (l : List Nat) (t : Tladon) :
    (t.sendOn c i l).tl512t = t.tl512t ∧ (t.sendOn c i l).straps = t.straps ∧
    (t.sendOn c i l).powered = t.powered ∧ (t.sendOn c i l).regs = t.regs ∧ (t.sendOn c i l).clk = t.clk ∧
    (t.sendOn c i l).epoch = t.epoch ∧ (t.sendOn c i l).holdAt = t.holdAt ∧
    (t.sendOn c i l).obeyed = t.obeyed ∧ (t.sendOn c i l).sched = t.sched ∧
    (t.sendOn c i l).linkDue = t.linkDue ∧ (t.sendOn c i l).dls = t.dls ∧ (t.sendOn c i l).chans = t.chans ∧
    (t.sendOn c i l).ints = t.ints ∧ (t.sendOn c i l).gate = t.gate ∧ (t.sendOn c i l).arm = t.arm ∧
    (t.sendOn c i l).computing = t.computing ∧ (t.sendOn c i l).res = t.res ∧ (t.sendOn c i l).cal = t.cal ∧
    (t.sendOn c i l).samps = t.samps ∧ (t.sendOn c i l).refAt = t.refAt ∧ (t.sendOn c i l).sweep = t.sweep ∧
    (t.sendOn c i l).monFrames = t.monFrames ∧ (t.sendOn c i l).sampNext = t.sampNext ∧
    (t.sendOn c i l).pad = t.pad := by
  have h : ∀ (β : Type) (g : Tladon → β), (∀ x k, g (enqueue c i k x) = g x) → g (t.sendOn c i l) = g t := by
    intro β g hg
    unfold sendOn
    split
    · exact foldl_keeps g _ (fun x k => hg x k) l t
    · rfl
  exact ⟨h _ _ fun _ _ => rfl, h _ _ fun _ _ => rfl, h _ _ fun _ _ => rfl, h _ _ fun _ _ => rfl, h _ _ fun _
    _ => rfl, h _ _ fun _ _ => rfl, h _ _ fun _ _ => rfl, h _ _ fun _ _ => rfl, h _ _ fun _ _ => rfl, h
    _ _ fun _ _ => rfl, h _ _ fun _ _ => rfl, h _ _ fun _ _ => rfl, h _ _ fun _ _ => rfl, h _ _ fun _ _
    => rfl, h _ _ fun _ _ => rfl, h _ _ fun _ _ => rfl, h _ _ fun _ _ => rfl, h _ _ fun _ _ => rfl, h _
    _ fun _ _ => rfl, h _ _ fun _ _ => rfl, h _ _ fun _ _ => rfl, h _ _ fun _ _ => rfl, h _ _ fun _ _ =>
    rfl, h _ _ fun _ _ => rfl⟩

/-- What `sendOn` leaves to be read. -/
@[simp] theorem sendOn_reads (c : Nat) (i : UpItem) (l : List Nat) (t : Tladon) :
    (∀ g : Fld, (t.sendOn c i l).get g = t.get g) ∧ (∀ g : Fld, (t.sendOn c i l).on g = t.on g) ∧ (t.sendOn c i l).state = t.state ∧
    (t.sendOn c i l).locked = t.locked :=
  have h : (t.sendOn c i l).regs = t.regs := by simp
  ⟨fun g => by simp only [get, h], fun g => by simp only [on, h], by simp only [state, get, h], by
    simp only [locked, on, h]⟩

/-- `sendOn` leaves the tick count. -/
@[simp] theorem sendOn_count (c : Nat) (i : UpItem) (l : List Nat) (now : Nat) (t : Tladon) : (t.sendOn c i l).count now = t.count now := by simp [count]

/-- The fields after `sendLow`. -/
@[simp] theorem sendLow_fields (c : Nat) (w : Word64) (t : Tladon) :
    (t.sendLow c w).tl512t = t.tl512t ∧ (t.sendLow c w).straps = t.straps ∧
    (t.sendLow c w).powered = t.powered ∧ (t.sendLow c w).regs = t.regs ∧ (t.sendLow c w).clk = t.clk ∧
    (t.sendLow c w).epoch = t.epoch ∧ (t.sendLow c w).holdAt = t.holdAt ∧ (t.sendLow c w).obeyed = t.obeyed ∧
    (t.sendLow c w).sched = t.sched ∧ (t.sendLow c w).linkDue = t.linkDue ∧ (t.sendLow c w).dls = t.dls ∧
    (t.sendLow c w).chans = t.chans ∧ (t.sendLow c w).ints = t.ints ∧ (t.sendLow c w).gate = t.gate ∧
    (t.sendLow c w).arm = t.arm ∧ (t.sendLow c w).computing = t.computing ∧ (t.sendLow c w).res = t.res ∧
    (t.sendLow c w).cal = t.cal ∧ (t.sendLow c w).samps = t.samps ∧ (t.sendLow c w).refAt = t.refAt ∧
    (t.sendLow c w).sweep = t.sweep ∧ (t.sendLow c w).monFrames = t.monFrames ∧
    (t.sendLow c w).sampNext = t.sampNext ∧ (t.sendLow c w).pad = t.pad :=
  sendOn_fields _ _ _ t

/-- What `sendLow` leaves to be read. -/
@[simp] theorem sendLow_reads (c : Nat) (w : Word64) (t : Tladon) :
    (∀ g : Fld, (t.sendLow c w).get g = t.get g) ∧ (∀ g : Fld, (t.sendLow c w).on g = t.on g) ∧ (t.sendLow c w).state = t.state ∧
    (t.sendLow c w).locked = t.locked :=
  have h : (t.sendLow c w).regs = t.regs := by simp
  ⟨fun g => by simp only [get, h], fun g => by simp only [on, h], by simp only [state, get, h], by
    simp only [locked, on, h]⟩

/-- `sendLow` leaves the tick count. -/
@[simp] theorem sendLow_count (c : Nat) (w : Word64) (now : Nat) (t : Tladon) : (t.sendLow c w).count now = t.count now := by simp [count]

/-- The fields after `sendAll`. -/
@[simp] theorem sendAll_fields (w : Word64) (t : Tladon) :
    (t.sendAll w).tl512t = t.tl512t ∧ (t.sendAll w).straps = t.straps ∧ (t.sendAll w).powered = t.powered ∧
    (t.sendAll w).regs = t.regs ∧ (t.sendAll w).clk = t.clk ∧ (t.sendAll w).epoch = t.epoch ∧
    (t.sendAll w).holdAt = t.holdAt ∧ (t.sendAll w).obeyed = t.obeyed ∧ (t.sendAll w).sched = t.sched ∧
    (t.sendAll w).linkDue = t.linkDue ∧ (t.sendAll w).dls = t.dls ∧ (t.sendAll w).chans = t.chans ∧
    (t.sendAll w).ints = t.ints ∧ (t.sendAll w).gate = t.gate ∧ (t.sendAll w).arm = t.arm ∧
    (t.sendAll w).computing = t.computing ∧ (t.sendAll w).res = t.res ∧ (t.sendAll w).cal = t.cal ∧
    (t.sendAll w).samps = t.samps ∧ (t.sendAll w).refAt = t.refAt ∧ (t.sendAll w).sweep = t.sweep ∧
    (t.sendAll w).monFrames = t.monFrames ∧ (t.sendAll w).sampNext = t.sampNext ∧ (t.sendAll w).pad = t.pad :=
  sendOn_fields _ _ _ t

/-- What `sendAll` leaves to be read. -/
@[simp] theorem sendAll_reads (w : Word64) (t : Tladon) :
    (∀ g : Fld, (t.sendAll w).get g = t.get g) ∧ (∀ g : Fld, (t.sendAll w).on g = t.on g) ∧ (t.sendAll w).state = t.state ∧
    (t.sendAll w).locked = t.locked :=
  have h : (t.sendAll w).regs = t.regs := by simp
  ⟨fun g => by simp only [get, h], fun g => by simp only [on, h], by simp only [state, get, h], by
    simp only [locked, on, h]⟩

/-- `sendAll` leaves the tick count. -/
@[simp] theorem sendAll_count (w : Word64) (now : Nat) (t : Tladon) : (t.sendAll w).count now = t.count now := by simp [count]

/-- The fields after `countIf`. -/
@[simp] theorem countIf_fields (b : Bool) (f : Fld) (t : Tladon) :
    (t.countIf b f).tl512t = t.tl512t ∧ (t.countIf b f).straps = t.straps ∧
    (t.countIf b f).powered = t.powered ∧ (t.countIf b f).clk = t.clk ∧ (t.countIf b f).epoch = t.epoch ∧
    (t.countIf b f).holdAt = t.holdAt ∧ (t.countIf b f).obeyed = t.obeyed ∧ (t.countIf b f).sched = t.sched ∧
    (t.countIf b f).linkDue = t.linkDue ∧ (t.countIf b f).dls = t.dls ∧ (t.countIf b f).ups = t.ups ∧
    (t.countIf b f).chans = t.chans ∧ (t.countIf b f).ints = t.ints ∧ (t.countIf b f).gate = t.gate ∧
    (t.countIf b f).arm = t.arm ∧ (t.countIf b f).computing = t.computing ∧ (t.countIf b f).res = t.res ∧
    (t.countIf b f).cal = t.cal ∧ (t.countIf b f).samps = t.samps ∧ (t.countIf b f).refAt = t.refAt ∧
    (t.countIf b f).sweep = t.sweep ∧ (t.countIf b f).monFrames = t.monFrames ∧
    (t.countIf b f).sampNext = t.sampNext ∧ (t.countIf b f).pad = t.pad := by
  unfold countIf
  split <;> exact ⟨rfl, rfl, rfl, rfl, rfl, rfl, rfl, rfl, rfl, rfl, rfl, rfl, rfl, rfl, rfl, rfl, rfl, rfl, rfl, rfl,
    rfl, rfl, rfl, rfl⟩

/-- `countIf` leaves the tick count. -/
@[simp] theorem countIf_count (b : Bool) (f : Fld) (now : Nat) (t : Tladon) : (t.countIf b f).count now = t.count now := by simp [count]

/-- The fields after `showUps`. -/
@[simp] theorem showUps_fields  (t : Tladon) :
    (t.showUps).tl512t = t.tl512t ∧ (t.showUps).straps = t.straps ∧ (t.showUps).powered = t.powered ∧
    (t.showUps).clk = t.clk ∧ (t.showUps).epoch = t.epoch ∧ (t.showUps).holdAt = t.holdAt ∧
    (t.showUps).obeyed = t.obeyed ∧ (t.showUps).sched = t.sched ∧ (t.showUps).linkDue = t.linkDue ∧
    (t.showUps).dls = t.dls ∧ (t.showUps).ups = t.ups ∧ (t.showUps).chans = t.chans ∧
    (t.showUps).ints = t.ints ∧ (t.showUps).gate = t.gate ∧ (t.showUps).arm = t.arm ∧
    (t.showUps).computing = t.computing ∧ (t.showUps).res = t.res ∧ (t.showUps).cal = t.cal ∧
    (t.showUps).samps = t.samps ∧ (t.showUps).refAt = t.refAt ∧ (t.showUps).sweep = t.sweep ∧
    (t.showUps).monFrames = t.monFrames ∧ (t.showUps).sampNext = t.sampNext ∧ (t.showUps).pad = t.pad :=
  ⟨rfl, rfl, rfl, rfl, rfl, rfl, rfl, rfl, rfl, rfl, rfl, rfl, rfl, rfl, rfl, rfl, rfl, rfl, rfl, rfl,
    rfl, rfl, rfl, rfl⟩

/-- `showUps` leaves the tick count. -/
@[simp] theorem showUps_count  (now : Nat) (t : Tladon) : (t.showUps).count now = t.count now := rfl

/-- The fields after `markTie`. -/
@[simp] theorem markTie_fields  (t : Tladon) :
    (t.markTie).tl512t = t.tl512t ∧ (t.markTie).straps = t.straps ∧ (t.markTie).powered = t.powered ∧
    (t.markTie).clk = t.clk ∧ (t.markTie).epoch = t.epoch ∧ (t.markTie).holdAt = t.holdAt ∧
    (t.markTie).obeyed = t.obeyed ∧ (t.markTie).sched = t.sched ∧ (t.markTie).linkDue = t.linkDue ∧
    (t.markTie).dls = t.dls ∧ (t.markTie).ups = t.ups ∧ (t.markTie).chans = t.chans ∧
    (t.markTie).ints = t.ints ∧ (t.markTie).gate = t.gate ∧ (t.markTie).arm = t.arm ∧
    (t.markTie).computing = t.computing ∧ (t.markTie).res = t.res ∧ (t.markTie).cal = t.cal ∧
    (t.markTie).samps = t.samps ∧ (t.markTie).refAt = t.refAt ∧ (t.markTie).sweep = t.sweep ∧
    (t.markTie).monFrames = t.monFrames ∧ (t.markTie).sampNext = t.sampNext ∧ (t.markTie).pad = t.pad := by
  unfold markTie
  split <;> exact ⟨rfl, rfl, rfl, rfl, rfl, rfl, rfl, rfl, rfl, rfl, rfl, rfl, rfl, rfl, rfl, rfl, rfl, rfl, rfl, rfl,
    rfl, rfl, rfl, rfl⟩

/-- `markTie` leaves the tick count. -/
@[simp] theorem markTie_count  (now : Nat) (t : Tladon) : (t.markTie).count now = t.count now := by simp [count]

/-- The fields after `unlock`. -/
@[simp] theorem unlock_fields  (t : Tladon) :
    (t.unlock).tl512t = t.tl512t ∧ (t.unlock).straps = t.straps ∧ (t.unlock).powered = t.powered ∧
    (t.unlock).clk = t.clk ∧ (t.unlock).obeyed = t.obeyed ∧ (t.unlock).sched = t.sched ∧
    (t.unlock).linkDue = t.linkDue ∧ (t.unlock).dls = t.dls ∧ (t.unlock).ups = t.ups ∧
    (t.unlock).chans = t.chans ∧ (t.unlock).ints = t.ints ∧ (t.unlock).gate = t.gate ∧
    (t.unlock).arm = t.arm ∧ (t.unlock).computing = t.computing ∧ (t.unlock).res = t.res ∧
    (t.unlock).cal = t.cal ∧ (t.unlock).samps = t.samps ∧ (t.unlock).refAt = t.refAt ∧
    (t.unlock).sweep = t.sweep ∧ (t.unlock).monFrames = t.monFrames ∧ (t.unlock).sampNext = t.sampNext ∧
    (t.unlock).pad = t.pad :=
  ⟨rfl, rfl, rfl, rfl, rfl, rfl, rfl, rfl, rfl, rfl, rfl, rfl, rfl, rfl, rfl, rfl, rfl, rfl, rfl, rfl,
    rfl, rfl⟩

/-- `unlock` leaves the tick count. -/
@[simp] theorem unlock_count  (now : Nat) (t : Tladon) : (t.unlock).count now = t.count now := rfl

/-- The fields after `refuse`. -/
@[simp] theorem refuse_fields  (t : Tladon) :
    (t.refuse).tl512t = t.tl512t ∧ (t.refuse).straps = t.straps ∧ (t.refuse).powered = t.powered ∧
    (t.refuse).clk = t.clk ∧ (t.refuse).epoch = t.epoch ∧ (t.refuse).holdAt = t.holdAt ∧
    (t.refuse).obeyed = t.obeyed ∧ (t.refuse).sched = t.sched ∧ (t.refuse).linkDue = t.linkDue ∧
    (t.refuse).dls = t.dls ∧ (t.refuse).ups = t.ups ∧ (t.refuse).chans = t.chans ∧ (t.refuse).ints = t.ints ∧
    (t.refuse).gate = t.gate ∧ (t.refuse).arm = t.arm ∧ (t.refuse).computing = t.computing ∧
    (t.refuse).res = t.res ∧ (t.refuse).cal = t.cal ∧ (t.refuse).samps = t.samps ∧
    (t.refuse).refAt = t.refAt ∧ (t.refuse).sweep = t.sweep ∧ (t.refuse).monFrames = t.monFrames ∧
    (t.refuse).sampNext = t.sampNext ∧ (t.refuse).pad = t.pad :=
  ⟨rfl, rfl, rfl, rfl, rfl, rfl, rfl, rfl, rfl, rfl, rfl, rfl, rfl, rfl, rfl, rfl, rfl, rfl, rfl, rfl,
    rfl, rfl, rfl, rfl⟩

/-- `refuse` leaves the tick count. -/
@[simp] theorem refuse_count  (now : Nat) (t : Tladon) : (t.refuse).count now = t.count now := rfl

/-- A stored field reads what was stored, cut to its width. -/
@[simp] theorem get_set_self (f : Fld) (v : Nat) (t : Tladon) : (t.set f v).get f = v % f.size := RegFile.get_set_self f v t.regs

/-- A stored field leaves the others alone. -/
theorem get_set_other {f g : Fld} (h : f.key ≠ g.key) (v : Nat) (t : Tladon) : (t.set g v).get f = t.get f :=
  RegFile.get_set_other h v t.regs

/-- A counting field reads the sum, at most its largest value. -/
@[simp] theorem get_add_self (f : Fld) (n : Nat) (t : Tladon) : (t.add f n).get f = min (t.get f + n) (f.size - 1) :=
  RegFile.get_add_self f n t.regs

/-- A counting field leaves the others alone. -/
theorem get_add_other {f g : Fld} (h : f.key ≠ g.key) (n : Nat) (t : Tladon) : (t.add g n).get f = t.get f :=
  RegFile.get_add_other h n t.regs

/-- A field that counts round reads the sum, cut to its width. -/
@[simp] theorem get_addMod_self (f : Fld) (n : Nat) (t : Tladon) : (t.addMod f n).get f = (t.get f + n) % f.size :=
  RegFile.get_set_self f _ t.regs

/-- A field that counts round leaves the others alone. -/
theorem get_addMod_other {f g : Fld} (h : f.key ≠ g.key) (n : Nat) (t : Tladon) : (t.addMod g n).get f = t.get f :=
  RegFile.get_set_other h _ t.regs

/-- Several stores, one by one. -/
theorem sets_cons (f : Fld) (v : Nat) (l : List (Fld × Nat)) (t : Tladon) : t.sets ((f, v) :: l) = (t.set f v).sets l := rfl

/-- No store. -/
@[simp] theorem sets_nil (t : Tladon) : t.sets [] = t := rfl

/-- Registers that no store names stay. -/
theorem get_sets_other {f : Fld} (l : List (Fld × Nat)) (h : ∀ p ∈ l, f.key ≠ p.1.key) (t : Tladon) : (t.sets l).get f = t.get f :=
  RegFile.get_sets_other l h t.regs

/-- A flag is a field that is not zero. -/
theorem on_eq (f : Fld) (t : Tladon) : t.on f = (t.get f != 0) := rfl

/-- The lock is TIME_STATUS.PLL_LOCK. -/
theorem locked_eq (t : Tladon) : t.locked = (t.get TR.TIME_STATUS_PLL_LOCK != 0) := rfl

/-- The state is ID_STATE.STATE. -/
theorem state_eq (t : Tladon) : t.state = t.get TR.ID_STATE_STATE := rfl

/-- What shows the uplinks in UP_ACTIVE leaves the other registers. -/
theorem get_showUps_other {f : Fld} (h : f.key ≠ TR.LINK_STATUS_UP_ACTIVE.key) (t : Tladon) : t.showUps.get f = t.get f :=
  get_set_other h _ t

/-- What an aborted gate leaves. -/
@[simp] theorem abortGate_fields (c : Nat) (t : Tladon) :
    (t.abortGate c).tl512t = t.tl512t ∧ (t.abortGate c).straps = t.straps ∧
    (t.abortGate c).powered = t.powered ∧ (t.abortGate c).clk = t.clk ∧ (t.abortGate c).epoch = t.epoch ∧
    (t.abortGate c).holdAt = t.holdAt ∧ (t.abortGate c).obeyed = t.obeyed ∧ (t.abortGate c).sched = t.sched ∧
    (t.abortGate c).linkDue = t.linkDue ∧ (t.abortGate c).dls = t.dls ∧ (t.abortGate c).ups = t.ups ∧
    (t.abortGate c).chans = t.chans ∧ (t.abortGate c).ints = t.ints ∧ (t.abortGate c).arm = t.arm ∧
    (t.abortGate c).computing = t.computing ∧ (t.abortGate c).res = t.res ∧ (t.abortGate c).cal = t.cal ∧
    (t.abortGate c).samps = t.samps ∧ (t.abortGate c).refAt = t.refAt ∧ (t.abortGate c).sweep = t.sweep ∧
    (t.abortGate c).monFrames = t.monFrames ∧ (t.abortGate c).sampNext = t.sampNext ∧
    (t.abortGate c).pad = t.pad ∧ (t.abortGate c).gate = none := by
  unfold abortGate
  split
  · rename_i h
    exact ⟨rfl, rfl, rfl, rfl, rfl, rfl, rfl, rfl, rfl, rfl, rfl, rfl, rfl, rfl, rfl, rfl, rfl, rfl, rfl, rfl,
    rfl, rfl, rfl, h⟩
  · exact ⟨rfl, rfl, rfl, rfl, rfl, rfl, rfl, rfl, rfl, rfl, rfl, rfl, rfl, rfl, rfl, rfl, rfl, rfl, rfl, rfl,
    rfl, rfl, rfl, rfl⟩

/-- Nothing but the listed parts of a Tladon differs after an update that leaves them. -/
theorem onlyTlParts_refl (l : List TlPart) (t : Tladon) : OnlyTlParts l t t := fun p _ => by cases p <;> rfl

end Tladon

end Sys2Proof.Machine
end

