-- ==== Sys2Proof/Laws/Runs.lean ====
section
/-! SUPPORT. How a completion is shown: from the state `exec` answers, and what may differ in it. -/

namespace Sys2Proof.Machine

open Sys2Proof

/-- A change of one Tladon leaves every other part and every other Tladon. -/
theorem OnlyTladon.modTl (p : Nat) (f : Tladon → Tladon) (s : State) : OnlyTladon p s (s.modTl p f) :=
  ⟨fun q hq => by cases q <;> first | rfl | exact absurd hq (by decide), fun _ hq => State.tladon_modTl_other hq f s⟩

/-- A command that changes one Tladon completes. -/
theorem TlRuns.of {c : Instr} {p : Nat} {s : State} {g : Tladon → Tladon} {post : Tladon → Prop}
    (h : exec c s = .next (s.modTl p g)) (hl : OnlyTlParts (tlTouches c) (s.tladon p) (g (s.tladon p)))
    (hp : post (g (s.tladon p))) : TlRuns c p s post :=
  ⟨_, h, OnlyTladon.modTl p g s, by simpa using hl, by simpa using hp⟩

/-- A command completes with the state it answers. -/
theorem Runs.of {c : Instr} {s t : State} {post : State → Prop} (h : exec c s = .next t)
    (hl : OnlyParts (touches c) s t) (hp : post t) : Runs c s post := ⟨t, h, hl, hp⟩

/-- Parts that stay over two steps. -/
theorem OnlyParts.trans {l : List Part} {s t u : State} (h : OnlyParts l s t) (k : OnlyParts l t u) : OnlyParts l s u :=
  fun p hp => Part.same_trans (h p hp) (k p hp)

/-- Registers that one store leaves. -/
theorem OnlyRegs.wset {l : List Fld} {s t : State} {f : Fld} (v : Nat) (h : OnlyRegs l s t) (hf : f ∈ l) :
    OnlyRegs l s (t.wset f v) :=
  fun g hg => (State.wget_wset_other (hg f hf) v t).trans (h g hg)

/-- Registers that one count leaves. -/
theorem OnlyRegs.wadd {l : List Fld} {s t : State} {f : Fld} (n : Nat) (h : OnlyRegs l s t) (hf : f ∈ l) :
    OnlyRegs l s (t.wadd f n) :=
  fun g hg => (State.wget_wadd_other (hg f hf) n t).trans (h g hg)

/-- Registers that several stores leave. -/
theorem OnlyRegs.wsets {l : List Fld} {s t : State} (m : List (Fld × Nat)) (h : OnlyRegs l s t) (hm : ∀ x ∈ m, x.1 ∈ l) :
    OnlyRegs l s (t.wsets m) :=
  fun g hg => (RegFile.get_sets_other m (fun x hx => hg _ (hm x hx)) t.wr).trans (h g hg)

/-- Equal register files read alike. -/
theorem OnlyRegs.of_wr {l : List Fld} {s t u : State} (h : OnlyRegs l s t) (e : u.wr = t.wr) : OnlyRegs l s u :=
  fun g hg => by rw [← h g hg, State.wget, State.wget, e]

/-- Registers of a Tladon that one store leaves. -/
theorem OnlyTlRegs.set {l : List Fld} {s t : Tladon} {f : Fld} (v : Nat) (h : OnlyTlRegs l s t) (hf : f ∈ l) :
    OnlyTlRegs l s (t.set f v) :=
  fun g hg => (Tladon.get_set_other (hg f hf) v t).trans (h g hg)

/-- Registers of a Tladon that one count leaves. -/
theorem OnlyTlRegs.add {l : List Fld} {s t : Tladon} {f : Fld} (n : Nat) (h : OnlyTlRegs l s t) (hf : f ∈ l) :
    OnlyTlRegs l s (t.add f n) :=
  fun g hg => (Tladon.get_add_other (hg f hf) n t).trans (h g hg)

/-- Registers of a Tladon that one round count leaves. -/
theorem OnlyTlRegs.addMod {l : List Fld} {s t : Tladon} {f : Fld} (n : Nat) (h : OnlyTlRegs l s t) (hf : f ∈ l) :
    OnlyTlRegs l s (t.addMod f n) :=
  fun g hg => (Tladon.get_addMod_other (hg f hf) n t).trans (h g hg)

/-- Registers of a Tladon that several stores leave. -/
theorem OnlyTlRegs.sets {l : List Fld} {s t : Tladon} (m : List (Fld × Nat)) (h : OnlyTlRegs l s t)
    (hm : ∀ x ∈ m, x.1 ∈ l) : OnlyTlRegs l s (t.sets m) :=
  fun g hg => (Tladon.get_sets_other m (fun x hx => hg _ (hm x hx)) t).trans (h g hg)

/-- Equal register files of Tladons read alike. -/
theorem OnlyTlRegs.of_regs {l : List Fld} {s t u : Tladon} (h : OnlyTlRegs l s t) (e : u.regs = t.regs) : OnlyTlRegs l s u :=
  fun g hg => by rw [← h g hg, Tladon.get, Tladon.get, e]

/-- No register differs where nothing happens. -/
theorem OnlyTlRegs.refl (l : List Fld) (t : Tladon) : OnlyTlRegs l t t := fun _ _ => rfl

/-- No register differs where nothing happens. -/
theorem OnlyRegs.refl (l : List Fld) (s : State) : OnlyRegs l s s := fun _ _ => rfl

/-- A Tladon is the same in the parts that two steps leave. -/
theorem OnlyTlParts.trans {l : List TlPart} {s t u : Tladon} (h : OnlyTlParts l s t) (k : OnlyTlParts l t u) :
    OnlyTlParts l s u := fun p hp => by
  have a := h p hp
  have b := k p hp
  cases p <;> exact b.trans a

end Sys2Proof.Machine
end

