-- ==== Sys2Proof/Laws/TlFrames.lean ====
section
/-! SUPPORT. `TKeeps m t u`: between two Tladons only the parts in the mask `m` change. How it composes, and what the
primitive updates keep. -/

namespace Sys2Proof.Machine

open Sys2Proof

/-- The place of a part in a mask. -/
def TlPart.idx : TlPart → Nat
  | .tl512t => 0
  | .straps => 1
  | .powered => 2
  | .regs => 3
  | .clk => 4
  | .epoch => 5
  | .holdAt => 6
  | .obeyed => 7
  | .sched => 8
  | .linkDue => 9
  | .dls => 10
  | .ups => 11
  | .chans => 12
  | .ints => 13
  | .gate => 14
  | .arm => 15
  | .computing => 16
  | .res => 17
  | .cal => 18
  | .samps => 19
  | .refAt => 20
  | .sweep => 21
  | .monFrames => 22
  | .sampNext => 23
  | .pad => 24

/-- Only the parts of the mask change. -/
structure TKeeps (m : Nat) (t u : Tladon) : Prop where
  keep : ∀ p : TlPart, m.testBit p.idx = false → p.same t u

/-- A part is the same as itself. -/
theorem TlPart.same_refl (p : TlPart) (t : Tladon) : p.same t t := by cases p <;> rfl

/-- Equal parts stay equal over two steps. -/
theorem TlPart.same_trans {p : TlPart} {s t u : Tladon} (h : p.same s t) (k : p.same t u) : p.same s u := by
  cases p <;> exact k.trans h

/-- The mask of a list of parts. -/
def TlPart.mask : List TlPart → Nat
  | [] => 0
  | p :: l => 2 ^ p.idx ||| TlPart.mask l

/-- Different parts have different places. -/
theorem TlPart.idx_inj {p q : TlPart} (h : p.idx = q.idx) : p = q := by
  cases p <;> cases q <;> first | rfl | exact absurd h (by decide)

/-- A part that is not listed is not in the mask. -/
theorem TlPart.mask_testBit {p : TlPart} {l : List TlPart} (h : p ∉ l) : (TlPart.mask l).testBit p.idx = false := by
  induction l with
  | nil => simp [TlPart.mask]
  | cons q l ih =>
    have h1 : p ≠ q := fun e => h (e ▸ List.mem_cons_self)
    have h2 : p ∉ l := fun e => h (List.mem_cons_of_mem _ e)
    have hq : q.idx ≠ p.idx := fun e => h1 (TlPart.idx_inj e.symm)
    simp [TlPart.mask, Nat.testBit_or, ih h2, hq]

namespace TKeeps

variable {α β : Type} {m n : Nat} {s t u : Tladon}

/-- Nothing changes where nothing happens. -/
theorem refl (m : Nat) (s : Tladon) : TKeeps m s s := ⟨fun p _ => p.same_refl s⟩

/-- One step after another. -/
theorem trans (h : TKeeps m s t) (k : TKeeps m t u) : TKeeps m s u :=
  ⟨fun p e => TlPart.same_trans (h.keep p e) (k.keep p e)⟩

/-- A larger mask allows more. -/
theorem weaken (h : TKeeps n s t) (e : n ||| m = m) : TKeeps m s t := by
  refine ⟨fun p hp => h.keep p ?_⟩
  have := congrArg (fun x => Nat.testBit x p.idx) e
  simp only [Nat.testBit_or, hp] at this
  simpa using this

/-- A further step whose own mask is within the mask. -/
theorem step (k : TKeeps n t u) (e : n ||| m = m) (h : TKeeps m s t) : TKeeps m s u := h.trans (k.weaken e)

/-- A choice. -/
theorem ite {c : Prop} [Decidable c] (h : TKeeps m s t) (k : TKeeps m s u) : TKeeps m s (if c then t else u) := by
  split <;> assumption

/-- A fold. -/
theorem foldl {f : Tladon → α → Tladon} (l : List α) (h : TKeeps m s t)
    (k : ∀ x a, TKeeps m s x → TKeeps m s (f x a)) : TKeeps m s (l.foldl f t) := by
  induction l generalizing t with
  | nil => exact h
  | cons a l ih => exact ih (k t a h)

/-- The Tladon of a triple known by an equation. -/
theorem ofThd {p : α × β × Tladon} {a : α} {b : β} (e : p = (a, b, t)) (h : TKeeps m s p.2.2) : TKeeps m s t := by
  subst e; exact h

/-- A fact about an intermediate Tladon, first. -/
theorem cut {P : Prop} (h : TKeeps m s u) (k : TKeeps m s u → P) : P := k h

/-- What a mask says in terms of parts. -/
theorem only (h : TKeeps m s t) (l : List TlPart) (e : m ||| TlPart.mask l = TlPart.mask l) : OnlyTlParts l s t :=
  fun p hp => (h.weaken e).keep p (TlPart.mask_testBit hp)

/-- A change of `regs`. -/
theorem upd_regs {v3} (h : TKeeps m s t) (e : 8 ||| m = m) :
    TKeeps m s { t with regs := v3 } :=
  h.trans (weaken (n := 8) ⟨fun p hp => by cases p <;> first | exact absurd hp (by decide) | rfl⟩ e)

/-- A change of `regs`, `chans`, `ints`, `gate`, `arm`, `samps`, `refAt`, `sweep`, `pad`. -/
theorem upd_regs_chans_ints_gate_arm_samps_refAt_sweep_pad {v3 v12 v13 v14 v15 v19 v20 v21 v24} (h : TKeeps m s t) (e : 20508680 ||| m = m) :
    TKeeps m s { t with regs := v3, chans := v12, ints := v13, gate := v14, arm := v15, samps := v19, refAt := v20, sweep := v21, pad := v24 } :=
  h.trans (weaken (n := 20508680) ⟨fun p hp => by cases p <;> first | exact absurd hp (by decide) | rfl⟩ e)

/-- A change of `regs`, `samps`. -/
theorem upd_regs_samps {v3 v19} (h : TKeeps m s t) (e : 524296 ||| m = m) :
    TKeeps m s { t with regs := v3, samps := v19 } :=
  h.trans (weaken (n := 524296) ⟨fun p hp => by cases p <;> first | exact absurd hp (by decide) | rfl⟩ e)

/-- A change of `clk`, `epoch`. -/
theorem upd_clk_epoch {v4 v5} (h : TKeeps m s t) (e : 48 ||| m = m) :
    TKeeps m s { t with clk := v4, epoch := v5 } :=
  h.trans (weaken (n := 48) ⟨fun p hp => by cases p <;> first | exact absurd hp (by decide) | rfl⟩ e)

/-- A change of `clk`, `epoch`, `holdAt`, `ups`. -/
theorem upd_clk_epoch_holdAt_ups {v4 v5 v6 v11} (h : TKeeps m s t) (e : 2160 ||| m = m) :
    TKeeps m s { t with clk := v4, epoch := v5, holdAt := v6, ups := v11 } :=
  h.trans (weaken (n := 2160) ⟨fun p hp => by cases p <;> first | exact absurd hp (by decide) | rfl⟩ e)

/-- A change of `epoch`. -/
theorem upd_epoch {v5} (h : TKeeps m s t) (e : 32 ||| m = m) :
    TKeeps m s { t with epoch := v5 } :=
  h.trans (weaken (n := 32) ⟨fun p hp => by cases p <;> first | exact absurd hp (by decide) | rfl⟩ e)

/-- A change of `epoch`, `holdAt`. -/
theorem upd_epoch_holdAt {v5 v6} (h : TKeeps m s t) (e : 96 ||| m = m) :
    TKeeps m s { t with epoch := v5, holdAt := v6 } :=
  h.trans (weaken (n := 96) ⟨fun p hp => by cases p <;> first | exact absurd hp (by decide) | rfl⟩ e)

/-- A change of `holdAt`. -/
theorem upd_holdAt {v6} (h : TKeeps m s t) (e : 64 ||| m = m) :
    TKeeps m s { t with holdAt := v6 } :=
  h.trans (weaken (n := 64) ⟨fun p hp => by cases p <;> first | exact absurd hp (by decide) | rfl⟩ e)

/-- A change of `obeyed`. -/
theorem upd_obeyed {v7} (h : TKeeps m s t) (e : 128 ||| m = m) :
    TKeeps m s { t with obeyed := v7 } :=
  h.trans (weaken (n := 128) ⟨fun p hp => by cases p <;> first | exact absurd hp (by decide) | rfl⟩ e)

/-- A change of `sched`. -/
theorem upd_sched {v8} (h : TKeeps m s t) (e : 256 ||| m = m) :
    TKeeps m s { t with sched := v8 } :=
  h.trans (weaken (n := 256) ⟨fun p hp => by cases p <;> first | exact absurd hp (by decide) | rfl⟩ e)

/-- A change of `linkDue`. -/
theorem upd_linkDue {v9} (h : TKeeps m s t) (e : 512 ||| m = m) :
    TKeeps m s { t with linkDue := v9 } :=
  h.trans (weaken (n := 512) ⟨fun p hp => by cases p <;> first | exact absurd hp (by decide) | rfl⟩ e)

/-- A change of `dls`. -/
theorem upd_dls {v10} (h : TKeeps m s t) (e : 1024 ||| m = m) :
    TKeeps m s { t with dls := v10 } :=
  h.trans (weaken (n := 1024) ⟨fun p hp => by cases p <;> first | exact absurd hp (by decide) | rfl⟩ e)

/-- A change of `ups`. -/
theorem upd_ups {v11} (h : TKeeps m s t) (e : 2048 ||| m = m) :
    TKeeps m s { t with ups := v11 } :=
  h.trans (weaken (n := 2048) ⟨fun p hp => by cases p <;> first | exact absurd hp (by decide) | rfl⟩ e)

/-- A change of `ups`, `chans`, `ints`, `pad`. -/
theorem upd_ups_chans_ints_pad {v11 v12 v13 v24} (h : TKeeps m s t) (e : 16791552 ||| m = m) :
    TKeeps m s { t with ups := v11, chans := v12, ints := v13, pad := v24 } :=
  h.trans (weaken (n := 16791552) ⟨fun p hp => by cases p <;> first | exact absurd hp (by decide) | rfl⟩ e)

/-- A change of `chans`. -/
theorem upd_chans {v12} (h : TKeeps m s t) (e : 4096 ||| m = m) :
    TKeeps m s { t with chans := v12 } :=
  h.trans (weaken (n := 4096) ⟨fun p hp => by cases p <;> first | exact absurd hp (by decide) | rfl⟩ e)

/-- A change of `ints`. -/
theorem upd_ints {v13} (h : TKeeps m s t) (e : 8192 ||| m = m) :
    TKeeps m s { t with ints := v13 } :=
  h.trans (weaken (n := 8192) ⟨fun p hp => by cases p <;> first | exact absurd hp (by decide) | rfl⟩ e)

/-- A change of `gate`. -/
theorem upd_gate {v14} (h : TKeeps m s t) (e : 16384 ||| m = m) :
    TKeeps m s { t with gate := v14 } :=
  h.trans (weaken (n := 16384) ⟨fun p hp => by cases p <;> first | exact absurd hp (by decide) | rfl⟩ e)

/-- A change of `gate`, `arm`. -/
theorem upd_gate_arm {v14 v15} (h : TKeeps m s t) (e : 49152 ||| m = m) :
    TKeeps m s { t with gate := v14, arm := v15 } :=
  h.trans (weaken (n := 49152) ⟨fun p hp => by cases p <;> first | exact absurd hp (by decide) | rfl⟩ e)

/-- A change of `gate`, `computing`. -/
theorem upd_gate_computing {v14 v16} (h : TKeeps m s t) (e : 81920 ||| m = m) :
    TKeeps m s { t with gate := v14, computing := v16 } :=
  h.trans (weaken (n := 81920) ⟨fun p hp => by cases p <;> first | exact absurd hp (by decide) | rfl⟩ e)

/-- A change of `arm`. -/
theorem upd_arm {v15} (h : TKeeps m s t) (e : 32768 ||| m = m) :
    TKeeps m s { t with arm := v15 } :=
  h.trans (weaken (n := 32768) ⟨fun p hp => by cases p <;> first | exact absurd hp (by decide) | rfl⟩ e)

/-- A change of `arm`, `sweep`. -/
theorem upd_arm_sweep {v15 v21} (h : TKeeps m s t) (e : 2129920 ||| m = m) :
    TKeeps m s { t with arm := v15, sweep := v21 } :=
  h.trans (weaken (n := 2129920) ⟨fun p hp => by cases p <;> first | exact absurd hp (by decide) | rfl⟩ e)

/-- A change of `computing`, `res`. -/
theorem upd_computing_res {v16 v17} (h : TKeeps m s t) (e : 196608 ||| m = m) :
    TKeeps m s { t with computing := v16, res := v17 } :=
  h.trans (weaken (n := 196608) ⟨fun p hp => by cases p <;> first | exact absurd hp (by decide) | rfl⟩ e)

/-- A change of `cal`. -/
theorem upd_cal {v18} (h : TKeeps m s t) (e : 262144 ||| m = m) :
    TKeeps m s { t with cal := v18 } :=
  h.trans (weaken (n := 262144) ⟨fun p hp => by cases p <;> first | exact absurd hp (by decide) | rfl⟩ e)

/-- A change of `samps`. -/
theorem upd_samps {v19} (h : TKeeps m s t) (e : 524288 ||| m = m) :
    TKeeps m s { t with samps := v19 } :=
  h.trans (weaken (n := 524288) ⟨fun p hp => by cases p <;> first | exact absurd hp (by decide) | rfl⟩ e)

/-- A change of `refAt`. -/
theorem upd_refAt {v20} (h : TKeeps m s t) (e : 1048576 ||| m = m) :
    TKeeps m s { t with refAt := v20 } :=
  h.trans (weaken (n := 1048576) ⟨fun p hp => by cases p <;> first | exact absurd hp (by decide) | rfl⟩ e)

/-- A change of `sweep`. -/
theorem upd_sweep {v21} (h : TKeeps m s t) (e : 2097152 ||| m = m) :
    TKeeps m s { t with sweep := v21 } :=
  h.trans (weaken (n := 2097152) ⟨fun p hp => by cases p <;> first | exact absurd hp (by decide) | rfl⟩ e)

/-- A change of `monFrames`. -/
theorem upd_monFrames {v22} (h : TKeeps m s t) (e : 4194304 ||| m = m) :
    TKeeps m s { t with monFrames := v22 } :=
  h.trans (weaken (n := 4194304) ⟨fun p hp => by cases p <;> first | exact absurd hp (by decide) | rfl⟩ e)

/-- A change of `sampNext`. -/
theorem upd_sampNext {v23} (h : TKeeps m s t) (e : 8388608 ||| m = m) :
    TKeeps m s { t with sampNext := v23 } :=
  h.trans (weaken (n := 8388608) ⟨fun p hp => by cases p <;> first | exact absurd hp (by decide) | rfl⟩ e)

/-- A change of `pad`. -/
theorem upd_pad {v24} (h : TKeeps m s t) (e : 16777216 ||| m = m) :
    TKeeps m s { t with pad := v24 } :=
  h.trans (weaken (n := 16777216) ⟨fun p hp => by cases p <;> first | exact absurd hp (by decide) | rfl⟩ e)

end TKeeps

end Sys2Proof.Machine
end

