-- ==== Sys2Proof/Laws/TkTlOps.lean ====
section
/-! SUPPORT. What the operations of Machine/TlOps.lean may change. -/

namespace Sys2Proof.Machine

open Sys2Proof

/-- `set` changes at most: regs. -/
theorem kt_set (f : Fld) (v : Nat) (t : Tladon) : TKeeps 8 t (Tladon.set f v t) := by
  unfold Tladon.set
  repeat' first
    | with_reducible exact TKeeps.refl _ _
    | with_reducible assumption
    | with_reducible refine TKeeps.upd_regs ?_ (by decide)

/-- `sets` changes at most: regs. -/
theorem kt_sets (l : List (Fld × Nat)) (t : Tladon) : TKeeps 8 t (Tladon.sets l t) := by
  unfold Tladon.sets
  repeat' first
    | with_reducible exact TKeeps.refl _ _
    | with_reducible assumption
    | with_reducible refine TKeeps.upd_regs ?_ (by decide)

/-- `add` changes at most: regs. -/
theorem kt_add (f : Fld) (n : Nat) (t : Tladon) : TKeeps 8 t (Tladon.add f n t) := by
  unfold Tladon.add
  repeat' first
    | with_reducible exact TKeeps.refl _ _
    | with_reducible assumption
    | with_reducible refine TKeeps.upd_regs ?_ (by decide)

/-- `addMod` changes at most: regs. -/
theorem kt_addMod (f : Fld) (n : Nat) (t : Tladon) : TKeeps 8 t (Tladon.addMod f n t) := by
  unfold Tladon.addMod
  repeat' first
    | with_reducible exact TKeeps.refl _ _
    | with_reducible assumption
    | with_reducible refine TKeeps.upd_regs ?_ (by decide)

/-- `modUp` changes at most: ups. -/
theorem kt_modUp (k : Nat) (f : Uplink → Uplink) (t : Tladon) : TKeeps 2048 t (Tladon.modUp k f t) := by
  unfold Tladon.modUp
  repeat' first
    | with_reducible exact TKeeps.refl _ _
    | with_reducible assumption
    | with_reducible refine TKeeps.ite ?_ ?_
    | split
    | with_reducible refine TKeeps.upd_ups ?_ (by decide)

/-- `modDl` changes at most: dls. -/
theorem kt_modDl (dl : Bool) (f : Downlink → Downlink) (t : Tladon) : TKeeps 1024 t (Tladon.modDl dl f t) := by
  unfold Tladon.modDl
  repeat' first
    | with_reducible exact TKeeps.refl _ _
    | with_reducible assumption
    | with_reducible refine TKeeps.ite ?_ ?_
    | split
    | with_reducible refine TKeeps.upd_dls ?_ (by decide)

/-- `enqueue` changes at most: ups. -/
theorem kt_enqueue (cls : Nat) (i : UpItem) (k : Nat) (t : Tladon) : TKeeps 2048 t (Tladon.enqueue cls i k t) := by
  unfold Tladon.enqueue
  repeat' first
    | with_reducible exact TKeeps.refl _ _
    | with_reducible assumption
    | with_reducible refine (kt_modUp ..).step (by decide) ?_
    | split

/-- `sendOn` changes at most: ups. -/
theorem kt_sendOn (cls : Nat) (i : UpItem) (ks : List Nat) (t : Tladon) : TKeeps 2048 t (Tladon.sendOn cls i ks t) := by
  unfold Tladon.sendOn
  repeat' first
    | with_reducible exact TKeeps.refl _ _
    | with_reducible assumption
    | with_reducible refine (kt_enqueue ..).step (by decide) ?_
    | with_reducible refine TKeeps.ite ?_ ?_
    | with_reducible refine TKeeps.foldl _ ?_ (fun _ _ _ => ?_)
    | split

/-- `sendLow` changes at most: ups. -/
theorem kt_sendLow (cls : Nat) (w : Word64) (t : Tladon) : TKeeps 2048 t (Tladon.sendLow cls w t) := by
  unfold Tladon.sendLow
  repeat' first
    | with_reducible exact TKeeps.refl _ _
    | with_reducible assumption
    | with_reducible refine (kt_sendOn ..).step (by decide) ?_

/-- `sendAll` changes at most: ups. -/
theorem kt_sendAll (w : Word64) (t : Tladon) : TKeeps 2048 t (Tladon.sendAll w t) := by
  unfold Tladon.sendAll
  repeat' first
    | with_reducible exact TKeeps.refl _ _
    | with_reducible assumption
    | with_reducible refine (kt_sendOn ..).step (by decide) ?_

/-- `modChan` changes at most: chans. -/
theorem kt_modChan (c : Nat) (f : Chan → Chan) (t : Tladon) : TKeeps 4096 t (Tladon.modChan c f t) := by
  unfold Tladon.modChan
  repeat' first
    | with_reducible exact TKeeps.refl _ _
    | with_reducible assumption
    | with_reducible refine TKeeps.upd_chans ?_ (by decide)

/-- `modSamp` changes at most: regs, samps. -/
theorem kt_modSamp (g : Nat) (f : Sampler → Sampler) (t : Tladon) : TKeeps 524296 t (Tladon.modSamp g f t) := by
  unfold Tladon.modSamp
  repeat' first
    | with_reducible exact TKeeps.refl _ _
    | with_reducible assumption
    | (extract_lets +onlyGivenNames x; refine TKeeps.cut (m := 524296) (s := t) (u := x) ?_ ?_; rotate_left; all_goals first | (intro _; clear_value x) | subst x)
    | (extract_lets +onlyGivenNames x; clear_value x)
    | with_reducible refine TKeeps.upd_regs_samps ?_ (by decide)

/-- `markCaptures` changes at most: samps. -/
theorem kt_markCaptures (f : Capture → Capture) (t : Tladon) : TKeeps 524288 t (Tladon.markCaptures f t) := by
  unfold Tladon.markCaptures
  repeat' first
    | with_reducible exact TKeeps.refl _ _
    | with_reducible assumption
    | with_reducible refine TKeeps.ite ?_ ?_
    | split
    | with_reducible refine TKeeps.upd_samps ?_ (by decide)

/-- `abortGate` changes at most: regs, gate. -/
theorem kt_abortGate (cause : Nat) (t : Tladon) : TKeeps 16392 t (Tladon.abortGate cause t) := by
  unfold Tladon.abortGate
  repeat' first
    | with_reducible exact TKeeps.refl _ _
    | with_reducible assumption
    | with_reducible refine (kt_sets ..).step (by decide) ?_
    | split
    | with_reducible refine TKeeps.upd_gate ?_ (by decide)

/-- `discard` changes at most: ups, chans, ints, pad. -/
theorem kt_discard (t : Tladon) : TKeeps 16791552 t (Tladon.discard t) := by
  unfold Tladon.discard
  repeat' first
    | with_reducible exact TKeeps.refl _ _
    | with_reducible assumption
    | with_reducible refine TKeeps.upd_ups_chans_ints_pad ?_ (by decide)

/-- `quiesce` changes at most: regs, gate, arm, samps, sweep. -/
theorem kt_quiesce (t : Tladon) : TKeeps 2670600 t (Tladon.quiesce t) := by
  unfold Tladon.quiesce
  repeat' first
    | with_reducible exact TKeeps.refl _ _
    | with_reducible assumption
    | (extract_lets +onlyGivenNames x; refine TKeeps.cut (m := 2670600) (s := t) (u := x) ?_ ?_; rotate_left; all_goals first | (intro _; clear_value x) | subst x)
    | (extract_lets +onlyGivenNames x; clear_value x)
    | with_reducible refine (kt_abortGate ..).step (by decide) ?_
    | with_reducible refine (kt_modSamp ..).step (by decide) ?_
    | with_reducible refine (kt_set ..).step (by decide) ?_
    | with_reducible refine TKeeps.ite ?_ ?_
    | with_reducible refine TKeeps.foldl _ ?_ (fun _ _ _ => ?_)
    | split
    | with_reducible refine TKeeps.upd_arm_sweep ?_ (by decide)

/-- `changeState` changes at most: regs, sched, ups, chans, ints, gate, arm, samps, sweep, pad. -/
theorem kt_changeState (now : Nat) (new : Nat) (cause : Nat) (t : Tladon) : TKeeps 19462408 t (Tladon.changeState now new cause t) := by
  unfold Tladon.changeState
  repeat' first
    | with_reducible exact TKeeps.refl _ _
    | with_reducible assumption
    | (extract_lets +onlyGivenNames x; refine TKeeps.cut (m := 19462408) (s := t) (u := x) ?_ ?_; rotate_left; all_goals first | (intro _; clear_value x) | subst x)
    | (extract_lets +onlyGivenNames x; clear_value x)
    | with_reducible refine (kt_quiesce ..).step (by decide) ?_
    | with_reducible refine (kt_discard ..).step (by decide) ?_
    | with_reducible refine (kt_sendLow ..).step (by decide) ?_
    | with_reducible refine (kt_sets ..).step (by decide) ?_
    | with_reducible refine TKeeps.ite ?_ ?_
    | split
    | with_reducible refine TKeeps.upd_pad ?_ (by decide)
    | with_reducible refine TKeeps.upd_sched ?_ (by decide)

/-- `showUps` changes at most: regs. -/
theorem kt_showUps (t : Tladon) : TKeeps 8 t (Tladon.showUps t) := by
  unfold Tladon.showUps
  repeat' first
    | with_reducible exact TKeeps.refl _ _
    | with_reducible assumption
    | with_reducible refine (kt_set ..).step (by decide) ?_
    | with_reducible refine TKeeps.ite ?_ ?_
    | split

end Sys2Proof.Machine
end

