-- ==== Sys2Proof/Laws/TkTlTime.lean ====
section
/-! SUPPORT. What the operations of Machine/TlTime.lean may change. -/

namespace Sys2Proof.Machine

open Sys2Proof

/-- `markTie` changes at most: regs. -/
theorem kt_markTie (t : Tladon) : TKeeps 8 t (Tladon.markTie t) := by
  unfold Tladon.markTie
  repeat' first
    | with_reducible exact TKeeps.refl _ _
    | with_reducible assumption
    | with_reducible refine (kt_set ..).step (by decide) ?_
    | with_reducible refine TKeeps.ite ?_ ?_
    | split

/-- `unlock` changes at most: regs, epoch, holdAt. -/
theorem kt_unlock (t : Tladon) : TKeeps 104 t (Tladon.unlock t) := by
  unfold Tladon.unlock
  repeat' first
    | with_reducible exact TKeeps.refl _ _
    | with_reducible assumption
    | with_reducible refine (kt_sets ..).step (by decide) ?_
    | with_reducible refine TKeeps.upd_epoch_holdAt ?_ (by decide)

/-- `lock` changes at most: regs, clk, epoch, holdAt, ups. -/
theorem kt_lock (now : Nat) (d : Bool) (t : Tladon) : TKeeps 2168 t (Tladon.lock now d t) := by
  unfold Tladon.lock
  repeat' first
    | with_reducible exact TKeeps.refl _ _
    | with_reducible assumption
    | (extract_lets +onlyGivenNames x; refine TKeeps.cut (m := 2168) (s := t) (u := x) ?_ ?_; rotate_left; all_goals first | (intro _; clear_value x) | subst x)
    | (extract_lets +onlyGivenNames x; clear_value x)
    | with_reducible refine (kt_showUps ..).step (by decide) ?_
    | with_reducible refine (kt_sets ..).step (by decide) ?_
    | with_reducible refine (kt_set ..).step (by decide) ?_
    | with_reducible refine TKeeps.upd_clk_epoch_holdAt_ups ?_ (by decide)

/-- `clockSwitch` changes at most: regs, ups, gate, samps. -/
theorem kt_clockSwitch (now : Nat) (phase : Nat) (new : Bool) (t : Tladon) : TKeeps 542728 t (Tladon.clockSwitch now phase new t) := by
  unfold Tladon.clockSwitch
  repeat' first
    | with_reducible exact TKeeps.refl _ _
    | with_reducible assumption
    | (extract_lets +onlyGivenNames x; refine TKeeps.cut (m := 542728) (s := t) (u := x) ?_ ?_; rotate_left; all_goals first | (intro _; clear_value x) | subst x)
    | (extract_lets +onlyGivenNames x; clear_value x)
    | with_reducible refine (kt_markCaptures ..).step (by decide) ?_
    | with_reducible refine (kt_sendAll ..).step (by decide) ?_
    | with_reducible refine (kt_sets ..).step (by decide) ?_
    | with_reducible refine TKeeps.upd_gate ?_ (by decide)

/-- `markHoldover` changes at most: gate, samps. -/
theorem kt_markHoldover (t : Tladon) : TKeeps 540672 t (Tladon.markHoldover t) := by
  unfold Tladon.markHoldover
  repeat' first
    | with_reducible exact TKeeps.refl _ _
    | with_reducible assumption
    | (extract_lets +onlyGivenNames x; refine TKeeps.cut (m := 540672) (s := t) (u := x) ?_ ?_; rotate_left; all_goals first | (intro _; clear_value x) | subst x)
    | (extract_lets +onlyGivenNames x; clear_value x)
    | with_reducible refine (kt_markCaptures ..).step (by decide) ?_
    | with_reducible refine TKeeps.upd_gate ?_ (by decide)

/-- `enterHoldover` changes at most: regs, holdAt, ups, gate, samps. -/
theorem kt_enterHoldover (now : Nat) (t : Tladon) : TKeeps 542792 t (Tladon.enterHoldover now t) := by
  unfold Tladon.enterHoldover
  repeat' first
    | with_reducible exact TKeeps.refl _ _
    | with_reducible assumption
    | (extract_lets +onlyGivenNames x; refine TKeeps.cut (m := 542792) (s := t) (u := x) ?_ ?_; rotate_left; all_goals first | (intro _; clear_value x) | subst x)
    | (extract_lets +onlyGivenNames x; clear_value x)
    | with_reducible refine (kt_markHoldover ..).step (by decide) ?_
    | with_reducible refine (kt_sendAll ..).step (by decide) ?_
    | with_reducible refine (kt_sets ..).step (by decide) ?_
    | with_reducible refine TKeeps.upd_holdAt ?_ (by decide)

/-- `leaveHoldover` changes at most: regs, holdAt, ups, gate, samps. -/
theorem kt_leaveHoldover (now : Nat) (phase : Nat) (new : Bool) (t : Tladon) : TKeeps 542792 t (Tladon.leaveHoldover now phase new t) := by
  unfold Tladon.leaveHoldover
  repeat' first
    | with_reducible exact TKeeps.refl _ _
    | with_reducible assumption
    | (extract_lets +onlyGivenNames x; refine TKeeps.cut (m := 542792) (s := t) (u := x) ?_ ?_; rotate_left; all_goals first | (intro _; clear_value x) | subst x)
    | (extract_lets +onlyGivenNames x; clear_value x)
    | with_reducible refine (kt_markHoldover ..).step (by decide) ?_
    | with_reducible refine (kt_clockSwitch ..).step (by decide) ?_
    | with_reducible refine (kt_sendAll ..).step (by decide) ?_
    | with_reducible refine (kt_sets ..).step (by decide) ?_
    | with_reducible refine TKeeps.ite ?_ ?_
    | split
    | with_reducible refine TKeeps.upd_holdAt ?_ (by decide)

/-- `abandon` changes at most: regs, dls. -/
theorem kt_abandon (d : Bool) (t : Tladon) : TKeeps 1032 t (Tladon.abandon d t) := by
  unfold Tladon.abandon
  repeat' first
    | with_reducible exact TKeeps.refl _ _
    | with_reducible assumption
    | with_reducible refine (kt_modDl ..).step (by decide) ?_
    | with_reducible refine (kt_add ..).step (by decide) ?_
    | split

/-- `followClock` changes at most: regs, holdAt, ups, gate, samps. -/
theorem kt_followClock (now : Nat) (phase : Nat) (old : Option Bool) (new : Option Bool) (t : Tladon) : TKeeps 542792 t (Tladon.followClock now phase old new t) := by
  unfold Tladon.followClock
  repeat' first
    | with_reducible exact TKeeps.refl _ _
    | with_reducible assumption
    | with_reducible refine (kt_leaveHoldover ..).step (by decide) ?_
    | with_reducible refine (kt_enterHoldover ..).step (by decide) ?_
    | with_reducible refine (kt_clockSwitch ..).step (by decide) ?_
    | with_reducible refine TKeeps.ite ?_ ?_
    | split

/-- `obeyChange` changes at most: regs, holdAt, obeyed, dls, ups, gate, samps. -/
theorem kt_obeyChange (now : Nat) (phase : Nat) (t : Tladon) : TKeeps 543944 t (Tladon.obeyChange now phase t) := by
  unfold Tladon.obeyChange
  repeat' first
    | with_reducible exact TKeeps.refl _ _
    | with_reducible assumption
    | (extract_lets +onlyGivenNames x; refine TKeeps.cut (m := 543944) (s := t) (u := x) ?_ ?_; rotate_left; all_goals first | (intro _; clear_value x) | subst x)
    | (extract_lets +onlyGivenNames x; clear_value x)
    | with_reducible refine (kt_followClock ..).step (by decide) ?_
    | with_reducible refine (kt_abandon ..).step (by decide) ?_
    | with_reducible refine (kt_markTie ..).step (by decide) ?_
    | with_reducible refine (kt_sets ..).step (by decide) ?_
    | with_reducible refine TKeeps.ite ?_ ?_
    | split
    | with_reducible refine TKeeps.upd_obeyed ?_ (by decide)

/-- `epochCmd` changes at most: regs, epoch. -/
theorem kt_epochCmd (marker : Nat) (j : Nat) (t : Tladon) : TKeeps 40 t (Tladon.epochCmd marker j t) := by
  unfold Tladon.epochCmd
  repeat' first
    | with_reducible exact TKeeps.refl _ _
    | with_reducible assumption
    | with_reducible refine (kt_set ..).step (by decide) ?_
    | with_reducible refine TKeeps.ite ?_ ?_
    | split
    | with_reducible refine TKeeps.upd_epoch ?_ (by decide)

/-- `epochEffect` changes at most: regs, clk, epoch, ups, gate, samps. -/
theorem kt_epochEffect (now : Nat) (t : Tladon) : TKeeps 542776 t (Tladon.epochEffect now t) := by
  unfold Tladon.epochEffect
  repeat' first
    | with_reducible exact TKeeps.refl _ _
    | with_reducible assumption
    | (extract_lets +onlyGivenNames x; refine TKeeps.cut (m := 542776) (s := t) (u := x) ?_ ?_; rotate_left; all_goals first | (intro _; clear_value x) | subst x)
    | (extract_lets +onlyGivenNames x; clear_value x)
    | with_reducible refine (kt_abortGate ..).step (by decide) ?_
    | with_reducible refine (kt_markCaptures ..).step (by decide) ?_
    | with_reducible refine (kt_sendAll ..).step (by decide) ?_
    | with_reducible refine (kt_addMod ..).step (by decide) ?_
    | with_reducible refine (kt_sets ..).step (by decide) ?_
    | with_reducible refine TKeeps.ite ?_ ?_
    | split
    | with_reducible refine TKeeps.upd_ups ?_ (by decide)
    | with_reducible refine TKeeps.upd_clk_epoch ?_ (by decide)

/-- `holdExit` changes at most: regs, epoch, holdAt, sched, ups, chans, ints, gate, arm, samps, sweep, pad. -/
theorem kt_holdExit (now : Nat) (t : Tladon) : TKeeps 19462504 t (Tladon.holdExit now t) := by
  unfold Tladon.holdExit
  repeat' first
    | with_reducible exact TKeeps.refl _ _
    | with_reducible assumption
    | (extract_lets +onlyGivenNames x; refine TKeeps.cut (m := 19462504) (s := t) (u := x) ?_ ?_; rotate_left; all_goals first | (intro _; clear_value x) | subst x)
    | (extract_lets +onlyGivenNames x; clear_value x)
    | with_reducible refine (kt_unlock ..).step (by decide) ?_
    | with_reducible refine (kt_changeState ..).step (by decide) ?_
    | with_reducible refine (kt_set ..).step (by decide) ?_
    | with_reducible refine TKeeps.ite ?_ ?_
    | split

end Sys2Proof.Machine
end

