-- ==== Sys2Proof/Laws/TkTlSurvey.lean ====
section
/-! SUPPORT. What the operations of Machine/TlSurvey.lean may change. -/

namespace Sys2Proof.Machine

open Sys2Proof

/-- `dither` changes at most: regs, cal. -/
theorem kt_dither (i : Nat) (raw : Nat) (t : Tladon) : TKeeps 262152 t (Tladon.dither i raw t) := by
  unfold Tladon.dither
  repeat' first
    | with_reducible exact TKeeps.refl _ _
    | with_reducible assumption
    | (extract_lets +onlyGivenNames x; refine TKeeps.cut (m := 262152) (s := t) (u := x) ?_ ?_; rotate_left; all_goals first | (intro _; clear_value x) | subst x)
    | (extract_lets +onlyGivenNames x; clear_value x)
    | with_reducible refine (kt_add ..).step (by decide) ?_
    | with_reducible refine (kt_set ..).step (by decide) ?_
    | with_reducible refine TKeeps.ite ?_ ?_
    | split
    | with_reducible refine TKeeps.upd_cal ?_ (by decide)

/-- `calSwap` changes at most: regs, cal. -/
theorem kt_calSwap (now : Nat) (t : Tladon) : TKeeps 262152 t (Tladon.calSwap now t) := by
  unfold Tladon.calSwap
  repeat' first
    | with_reducible exact TKeeps.refl _ _
    | with_reducible assumption
    | (extract_lets +onlyGivenNames x; refine TKeeps.cut (m := 262152) (s := t) (u := x) ?_ ?_; rotate_left; all_goals first | (intro _; clear_value x) | subst x)
    | (extract_lets +onlyGivenNames x; clear_value x)
    | with_reducible refine (kt_addMod ..).step (by decide) ?_
    | with_reducible refine (kt_add ..).step (by decide) ?_
    | with_reducible refine (kt_set ..).step (by decide) ?_
    | with_reducible refine TKeeps.ite ?_ ?_
    | with_reducible refine TKeeps.foldl _ ?_ (fun _ _ _ => ?_)
    | split
    | with_reducible refine TKeeps.upd_cal ?_ (by decide)

/-- `calRetire` changes at most: cal. -/
theorem kt_calRetire (now : Nat) (t : Tladon) : TKeeps 262144 t (Tladon.calRetire now t) := by
  unfold Tladon.calRetire
  repeat' first
    | with_reducible exact TKeeps.refl _ _
    | with_reducible assumption
    | (extract_lets +onlyGivenNames x; refine TKeeps.cut (m := 262144) (s := t) (u := x) ?_ ?_; rotate_left; all_goals first | (intro _; clear_value x) | subst x)
    | (extract_lets +onlyGivenNames x; clear_value x)
    | with_reducible refine TKeeps.ite ?_ ?_
    | split
    | with_reducible refine TKeeps.upd_cal ?_ (by decide)

/-- `calTimeout` changes at most: regs, cal. -/
theorem kt_calTimeout (now : Nat) (t : Tladon) : TKeeps 262152 t (Tladon.calTimeout now t) := by
  unfold Tladon.calTimeout
  repeat' first
    | with_reducible exact TKeeps.refl _ _
    | with_reducible assumption
    | (extract_lets +onlyGivenNames x; refine TKeeps.cut (m := 262152) (s := t) (u := x) ?_ ?_; rotate_left; all_goals first | (intro _; clear_value x) | subst x)
    | (extract_lets +onlyGivenNames x; clear_value x)
    | with_reducible refine (kt_sets ..).step (by decide) ?_
    | with_reducible refine TKeeps.ite ?_ ?_
    | split
    | with_reducible refine TKeeps.upd_cal ?_ (by decide)

/-- `calCtrlWrite` changes at most: regs, cal. -/
theorem kt_calCtrlWrite (now : Nat) (v : Nat) (t : Tladon) : TKeeps 262152 t (Tladon.calCtrlWrite now v t) := by
  unfold Tladon.calCtrlWrite
  repeat' first
    | with_reducible exact TKeeps.refl _ _
    | with_reducible assumption
    | (extract_lets +onlyGivenNames x; refine TKeeps.cut (m := 262152) (s := t) (u := x) ?_ ?_; rotate_left; all_goals first | (intro _; clear_value x) | subst x)
    | (extract_lets +onlyGivenNames x; clear_value x)
    | with_reducible refine (kt_sets ..).step (by decide) ?_
    | with_reducible refine TKeeps.ite ?_ ?_
    | split
    | with_reducible refine TKeeps.upd_cal ?_ (by decide)

/-- `openGate` changes at most: regs, gate, arm. -/
theorem kt_openGate (at' : Nat) (now : Nat) (t : Tladon) : TKeeps 49160 t (Tladon.openGate at' now t) := by
  unfold Tladon.openGate
  repeat' first
    | with_reducible exact TKeeps.refl _ _
    | with_reducible assumption
    | with_reducible refine (kt_set ..).step (by decide) ?_
    | with_reducible refine TKeeps.upd_gate_arm ?_ (by decide)

/-- `surveyStart` changes at most: regs, gate, arm. -/
theorem kt_surveyStart (now : Nat) (t : Tladon) : TKeeps 49160 t (Tladon.surveyStart now t) := by
  unfold Tladon.surveyStart
  repeat' first
    | with_reducible exact TKeeps.refl _ _
    | with_reducible assumption
    | with_reducible refine (kt_openGate ..).step (by decide) ?_
    | with_reducible refine TKeeps.ite ?_ ?_
    | split

/-- `surveyArm` changes at most: regs, gate, arm. -/
theorem kt_surveyArm (now : Nat) (t : Tladon) : TKeeps 49160 t (Tladon.surveyArm now t) := by
  unfold Tladon.surveyArm
  repeat' first
    | with_reducible exact TKeeps.refl _ _
    | with_reducible assumption
    | with_reducible refine (kt_openGate ..).step (by decide) ?_
    | with_reducible refine (kt_set ..).step (by decide) ?_
    | with_reducible refine TKeeps.ite ?_ ?_
    | split
    | with_reducible refine TKeeps.upd_arm ?_ (by decide)

/-- `surveyGateOpen` changes at most: regs, gate, arm. -/
theorem kt_surveyGateOpen (now : Nat) (t : Tladon) : TKeeps 49160 t (Tladon.surveyGateOpen now t) := by
  unfold Tladon.surveyGateOpen
  repeat' first
    | with_reducible exact TKeeps.refl _ _
    | with_reducible assumption
    | with_reducible refine (kt_openGate ..).step (by decide) ?_
    | with_reducible refine TKeeps.ite ?_ ?_
    | split

/-- `surveyGateEnd` changes at most: regs, gate, arm, computing. -/
theorem kt_surveyGateEnd (now : Nat) (t : Tladon) : TKeeps 114696 t (Tladon.surveyGateEnd now t) := by
  unfold Tladon.surveyGateEnd
  repeat' first
    | with_reducible exact TKeeps.refl _ _
    | with_reducible assumption
    | (extract_lets +onlyGivenNames x; refine TKeeps.cut (m := 114696) (s := t) (u := x) ?_ ?_; rotate_left; all_goals first | (intro _; clear_value x) | subst x)
    | (extract_lets +onlyGivenNames x; clear_value x)
    | with_reducible refine (kt_openGate ..).step (by decide) ?_
    | with_reducible refine TKeeps.ite ?_ ?_
    | split
    | with_reducible refine TKeeps.upd_gate_computing ?_ (by decide)

/-- `surveyEdge` changes at most: gate. -/
theorem kt_surveyEdge (now : Nat) (fine : Nat) (t : Tladon) : TKeeps 16384 t (Tladon.surveyEdge now fine t) := by
  unfold Tladon.surveyEdge
  repeat' first
    | with_reducible exact TKeeps.refl _ _
    | with_reducible assumption
    | (extract_lets +onlyGivenNames x; refine TKeeps.cut (m := 16384) (s := t) (u := x) ?_ ?_; rotate_left; all_goals first | (intro _; clear_value x) | subst x)
    | (extract_lets +onlyGivenNames x; clear_value x)
    | with_reducible refine TKeeps.ite ?_ ?_
    | split
    | with_reducible refine TKeeps.upd_gate ?_ (by decide)

/-- `surveyResult` changes at most: regs, computing, res. -/
theorem kt_surveyResult (t : Tladon) : TKeeps 196616 t (Tladon.surveyResult t) := by
  unfold Tladon.surveyResult
  repeat' first
    | with_reducible exact TKeeps.refl _ _
    | with_reducible assumption
    | (extract_lets +onlyGivenNames x; refine TKeeps.cut (m := 196616) (s := t) (u := x) ?_ ?_; rotate_left; all_goals first | (intro _; clear_value x) | subst x)
    | (extract_lets +onlyGivenNames x; clear_value x)
    | with_reducible refine (kt_addMod ..).step (by decide) ?_
    | with_reducible refine (kt_sets ..).step (by decide) ?_
    | split
    | with_reducible refine TKeeps.upd_computing_res ?_ (by decide)
    | with_reducible dsimp only

/-- `surveyLatch` changes at most: regs. -/
theorem kt_surveyLatch (t : Tladon) : TKeeps 8 t (Tladon.surveyLatch t) := by
  unfold Tladon.surveyLatch
  repeat' first
    | with_reducible exact TKeeps.refl _ _
    | with_reducible assumption
    | (extract_lets +onlyGivenNames x; refine TKeeps.cut (m := 8) (s := t) (u := x) ?_ ?_; rotate_left; all_goals first | (intro _; clear_value x) | subst x)
    | (extract_lets +onlyGivenNames x; clear_value x)
    | with_reducible refine (kt_sets ..).step (by decide) ?_

/-- `surveyCfgWrite` changes at most: regs. -/
theorem kt_surveyCfgWrite (a : Nat) (v : Nat) (t : Tladon) : TKeeps 8 t (Tladon.surveyCfgWrite a v t) := by
  unfold Tladon.surveyCfgWrite
  repeat' first
    | with_reducible exact TKeeps.refl _ _
    | with_reducible assumption
    | (extract_lets +onlyGivenNames x; refine TKeeps.cut (m := 8) (s := t) (u := x) ?_ ?_; rotate_left; all_goals first | (intro _; clear_value x) | subst x)
    | (extract_lets +onlyGivenNames x; clear_value x)
    | with_reducible refine (kt_set ..).step (by decide) ?_
    | with_reducible refine TKeeps.ite ?_ ?_
    | split
    | with_reducible refine TKeeps.upd_regs ?_ (by decide)

end Sys2Proof.Machine
end

