-- ==== Sys2Proof/Laws/TkTlSampler.lean ====
section
/-! SUPPORT. What the operations of Machine/TlSampler.lean may change. -/

namespace Sys2Proof.Machine

open Sys2Proof

/-- `markCold` changes at most: samps. -/
theorem kt_markCold (t : Tladon) : TKeeps 524288 t (Tladon.markCold t) := by
  unfold Tladon.markCold
  repeat' first
    | with_reducible exact TKeeps.refl _ _
    | with_reducible assumption
    | with_reducible refine (kt_markCaptures ..).step (by decide) ?_

/-- `refWrite` changes at most: regs, samps, refAt. -/
theorem kt_refWrite (now : Nat) (en : Bool) (t : Tladon) : TKeeps 1572872 t (Tladon.refWrite now en t) := by
  unfold Tladon.refWrite
  repeat' first
    | with_reducible exact TKeeps.refl _ _
    | with_reducible assumption
    | with_reducible refine (kt_markCold ..).step (by decide) ?_
    | with_reducible refine (kt_sets ..).step (by decide) ?_
    | with_reducible refine TKeeps.ite ?_ ?_
    | split
    | with_reducible refine TKeeps.upd_refAt ?_ (by decide)

/-- `missEvent` changes at most: regs, samps. -/
theorem kt_missEvent (now : Nat) (g : Nat) (t : Tladon) : TKeeps 524296 t (Tladon.missEvent now g t) := by
  unfold Tladon.missEvent
  repeat' first
    | with_reducible exact TKeeps.refl _ _
    | with_reducible assumption
    | (extract_lets +onlyGivenNames x; refine TKeeps.cut (m := 524296) (s := t) (u := x) ?_ ?_; rotate_left; all_goals first | (intro _; clear_value x) | subst x)
    | (extract_lets +onlyGivenNames x; clear_value x)
    | with_reducible refine (kt_modSamp ..).step (by decide) ?_
    | with_reducible refine (kt_add ..).step (by decide) ?_
    | with_reducible refine TKeeps.ite ?_ ?_
    | split

/-- `sampEvent` changes at most: regs, samps. -/
theorem kt_sampEvent (g e : Nat) (tr : Nat × Nat × Nat) (t : Tladon) : TKeeps 524296 t (t.sampEvent g e tr) := by
  unfold Tladon.sampEvent
  extract_lets s take
  have k : ∀ x, TKeeps 524296 x (take x) := fun x => (kt_modSamp ..).weaken (by decide)
  clear_value take
  have k0 : TKeeps 524296 t (t.missEvent e g) := (kt_missEvent ..).weaken (by decide)
  split
  · split
    · split
      · exact k0.trans (k _)
      · exact k0
    · exact k0
  · split
    · exact k _
    · exact k0

/-- `pulseWidth` changes at most: regs, samps. -/
theorem kt_pulseWidth (now : Nat) (c : Nat) (t : Tladon) : TKeeps 524296 t (Tladon.pulseWidth now c t) := by
  unfold Tladon.pulseWidth
  repeat' first
    | with_reducible exact TKeeps.refl _ _
    | with_reducible assumption
    | (extract_lets +onlyGivenNames x; refine TKeeps.cut (m := 524296) (s := t) (u := x) ?_ ?_; rotate_left; all_goals first | (intro _; clear_value x) | subst x)
    | (extract_lets +onlyGivenNames x; clear_value x)
    | with_reducible refine (kt_sampEvent ..).step (by decide) ?_
    | with_reducible refine TKeeps.ite ?_ ?_
    | split

/-- `timerEvent` changes at most: regs, samps. -/
theorem kt_timerEvent (now : Nat) (g : Nat) (t : Tladon) : TKeeps 524296 t (Tladon.timerEvent now g t) := by
  unfold Tladon.timerEvent
  repeat' first
    | with_reducible exact TKeeps.refl _ _
    | with_reducible assumption
    | (extract_lets +onlyGivenNames x; refine TKeeps.cut (m := 524296) (s := t) (u := x) ?_ ?_; rotate_left; all_goals first | (intro _; clear_value x) | subst x)
    | (extract_lets +onlyGivenNames x; clear_value x)
    | with_reducible refine (kt_sampEvent ..).step (by decide) ?_
    | with_reducible refine TKeeps.ite ?_ ?_
    | split

/-- `forceMask` changes at most: regs, samps. -/
theorem kt_forceMask (now : Nat) (mask : Nat) (t : Tladon) : TKeeps 524296 t (Tladon.forceMask now mask t) := by
  unfold Tladon.forceMask
  repeat' first
    | with_reducible exact TKeeps.refl _ _
    | with_reducible assumption
    | with_reducible refine (kt_sampEvent ..).step (by decide) ?_
    | with_reducible refine TKeeps.ite ?_ ?_
    | with_reducible refine TKeeps.foldl _ ?_ (fun _ _ _ => ?_)
    | split

/-- `armMask` changes at most: regs, samps. -/
theorem kt_armMask (now : Nat) (mask : Nat) (t : Tladon) : TKeeps 524296 t (Tladon.armMask now mask t) := by
  unfold Tladon.armMask
  repeat' first
    | with_reducible exact TKeeps.refl _ _
    | with_reducible assumption
    | with_reducible refine (kt_modSamp ..).step (by decide) ?_
    | with_reducible refine TKeeps.ite ?_ ?_
    | with_reducible refine TKeeps.foldl _ ?_ (fun _ _ _ => ?_)
    | split

/-- `disarmMask` changes at most: regs, samps. -/
theorem kt_disarmMask (mask : Nat) (t : Tladon) : TKeeps 524296 t (Tladon.disarmMask mask t) := by
  unfold Tladon.disarmMask
  repeat' first
    | with_reducible exact TKeeps.refl _ _
    | with_reducible assumption
    | with_reducible refine (kt_modSamp ..).step (by decide) ?_
    | with_reducible refine TKeeps.ite ?_ ?_
    | with_reducible refine TKeeps.foldl _ ?_ (fun _ _ _ => ?_)
    | split

/-- `triggerTick` changes at most: regs, samps. -/
theorem kt_triggerTick (now : Nat) (g : Nat) (t : Tladon) : TKeeps 524296 t (Tladon.triggerTick now g t) := by
  unfold Tladon.triggerTick
  repeat' first
    | with_reducible exact TKeeps.refl _ _
    | with_reducible assumption
    | (extract_lets +onlyGivenNames x; refine TKeeps.cut (m := 524296) (s := t) (u := x) ?_ ?_; rotate_left; all_goals first | (intro _; clear_value x) | subst x)
    | (extract_lets +onlyGivenNames x; clear_value x)
    | with_reducible refine (kt_modSamp ..).step (by decide) ?_
    | with_reducible refine (kt_add ..).step (by decide) ?_
    | with_reducible refine (kt_set ..).step (by decide) ?_
    | with_reducible refine TKeeps.ite ?_ ?_
    | split

/-- `freeze` changes at most: regs, samps. -/
theorem kt_freeze (now : Nat) (g : Nat) (t : Tladon) : TKeeps 524296 t (Tladon.freeze now g t) := by
  unfold Tladon.freeze
  repeat' first
    | with_reducible exact TKeeps.refl _ _
    | with_reducible assumption
    | (extract_lets +onlyGivenNames x; refine TKeeps.cut (m := 524296) (s := t) (u := x) ?_ ?_; rotate_left; all_goals first | (intro _; clear_value x) | subst x)
    | (extract_lets +onlyGivenNames x; clear_value x)
    | with_reducible refine (kt_modSamp ..).step (by decide) ?_
    | with_reducible refine (kt_set ..).step (by decide) ?_
    | with_reducible refine TKeeps.ite ?_ ?_
    | split

/-- `sampWord` changes at most: regs, ups, samps, sampNext. -/
theorem kt_sampWord (now : Nat) (x : List Nat) (t : Tladon) : TKeeps 8914952 t (Tladon.sampWord now x t) := by
  unfold Tladon.sampWord
  repeat' first
    | with_reducible exact TKeeps.refl _ _
    | with_reducible assumption
    | (extract_lets +onlyGivenNames x; refine TKeeps.cut (m := 8914952) (s := t) (u := x) ?_ ?_; rotate_left; all_goals first | (intro _; clear_value x) | subst x)
    | (extract_lets +onlyGivenNames x; clear_value x)
    | with_reducible refine (kt_modSamp ..).step (by decide) ?_
    | with_reducible refine (kt_sendLow ..).step (by decide) ?_
    | with_reducible refine (kt_add ..).step (by decide) ?_
    | with_reducible refine TKeeps.ite ?_ ?_
    | with_reducible refine TKeeps.foldl _ ?_ (fun _ _ _ => ?_)
    | split
    | with_reducible refine TKeeps.upd_sampNext ?_ (by decide)

/-- `holdoffEnd` changes at most: regs, samps. -/
theorem kt_holdoffEnd (now : Nat) (g : Nat) (t : Tladon) : TKeeps 524296 t (Tladon.holdoffEnd now g t) := by
  unfold Tladon.holdoffEnd
  repeat' first
    | with_reducible exact TKeeps.refl _ _
    | with_reducible assumption
    | (extract_lets +onlyGivenNames x; refine TKeeps.cut (m := 524296) (s := t) (u := x) ?_ ?_; rotate_left; all_goals first | (intro _; clear_value x) | subst x)
    | (extract_lets +onlyGivenNames x; clear_value x)
    | with_reducible refine (kt_modSamp ..).step (by decide) ?_
    | with_reducible refine TKeeps.ite ?_ ?_
    | split

/-- `sampEn` changes at most: regs, samps. -/
theorem kt_sampEn (now : Nat) (g : Nat) (en : Bool) (t : Tladon) : TKeeps 524296 t (Tladon.sampEn now g en t) := by
  unfold Tladon.sampEn
  repeat' first
    | with_reducible exact TKeeps.refl _ _
    | with_reducible assumption
    | (extract_lets +onlyGivenNames x; refine TKeeps.cut (m := 524296) (s := t) (u := x) ?_ ?_; rotate_left; all_goals first | (intro _; clear_value x) | subst x)
    | (extract_lets +onlyGivenNames x; clear_value x)
    | with_reducible refine (kt_modSamp ..).step (by decide) ?_
    | with_reducible refine (kt_set ..).step (by decide) ?_
    | with_reducible refine TKeeps.ite ?_ ?_
    | split

/-- `sampCfg` changes at most: regs, samps. -/
theorem kt_sampCfg (now : Nat) (g : Nat) (o : Nat) (v : Nat) (t : Tladon) : TKeeps 524296 t (Tladon.sampCfg now g o v t) := by
  unfold Tladon.sampCfg
  repeat' first
    | with_reducible exact TKeeps.refl _ _
    | with_reducible assumption
    | (extract_lets +onlyGivenNames x; refine TKeeps.cut (m := 524296) (s := t) (u := x) ?_ ?_; rotate_left; all_goals first | (intro _; clear_value x) | subst x)
    | (extract_lets +onlyGivenNames x; clear_value x)
    | with_reducible refine (kt_sampEn ..).step (by decide) ?_
    | with_reducible refine (kt_modSamp ..).step (by decide) ?_
    | with_reducible refine (kt_set ..).step (by decide) ?_
    | with_reducible refine TKeeps.ite ?_ ?_
    | split
    | with_reducible refine TKeeps.upd_regs ?_ (by decide)

/-- `trimWrite` changes at most: regs, samps. -/
theorem kt_trimWrite (now : Nat) (g : Nat) (o : Nat) (v : Nat) (t : Tladon) : TKeeps 524296 t (Tladon.trimWrite now g o v t) := by
  unfold Tladon.trimWrite
  repeat' first
    | with_reducible exact TKeeps.refl _ _
    | with_reducible assumption
    | (extract_lets +onlyGivenNames x; refine TKeeps.cut (m := 524296) (s := t) (u := x) ?_ ?_; rotate_left; all_goals first | (intro _; clear_value x) | subst x)
    | (extract_lets +onlyGivenNames x; clear_value x)
    | with_reducible refine (kt_modSamp ..).step (by decide) ?_
    | with_reducible refine (kt_sets ..).step (by decide) ?_
    | with_reducible refine (kt_set ..).step (by decide) ?_
    | with_reducible refine TKeeps.ite ?_ ?_
    | split

/-- `monStart` changes at most: regs, sweep. -/
theorem kt_monStart (now : Nat) (t : Tladon) : TKeeps 2097160 t (Tladon.monStart now t) := by
  unfold Tladon.monStart
  repeat' first
    | with_reducible exact TKeeps.refl _ _
    | with_reducible assumption
    | with_reducible refine (kt_addMod ..).step (by decide) ?_
    | with_reducible refine (kt_add ..).step (by decide) ?_
    | with_reducible refine (kt_sets ..).step (by decide) ?_
    | with_reducible refine TKeeps.ite ?_ ?_
    | split
    | with_reducible refine TKeeps.upd_sweep ?_ (by decide)

/-- `monTimer` changes at most: regs, sweep, monFrames. -/
theorem kt_monTimer (now : Nat) (t : Tladon) : TKeeps 6291464 t (Tladon.monTimer now t) := by
  unfold Tladon.monTimer
  repeat' first
    | with_reducible exact TKeeps.refl _ _
    | with_reducible assumption
    | with_reducible refine (kt_monStart ..).step (by decide) ?_
    | with_reducible refine TKeeps.ite ?_ ?_
    | split
    | with_reducible refine TKeeps.upd_monFrames ?_ (by decide)

/-- `monCtrlWrite` changes at most: regs, sweep, monFrames. -/
theorem kt_monCtrlWrite (now : Nat) (v : Nat) (t : Tladon) : TKeeps 6291464 t (Tladon.monCtrlWrite now v t) := by
  unfold Tladon.monCtrlWrite
  repeat' first
    | with_reducible exact TKeeps.refl _ _
    | with_reducible assumption
    | (extract_lets +onlyGivenNames x; refine TKeeps.cut (m := 6291464) (s := t) (u := x) ?_ ?_; rotate_left; all_goals first | (intro _; clear_value x) | subst x)
    | (extract_lets +onlyGivenNames x; clear_value x)
    | with_reducible refine (kt_monStart ..).step (by decide) ?_
    | with_reducible refine (kt_sets ..).step (by decide) ?_
    | with_reducible refine TKeeps.ite ?_ ?_
    | split
    | with_reducible refine TKeeps.upd_monFrames ?_ (by decide)

/-- `monDone` changes at most: regs, ups, sweep. -/
theorem kt_monDone (now : Nat) (code : Nat) (t : Tladon) : TKeeps 2099208 t (Tladon.monDone now code t) := by
  unfold Tladon.monDone
  repeat' first
    | with_reducible exact TKeeps.refl _ _
    | with_reducible assumption
    | (extract_lets +onlyGivenNames x; refine TKeeps.cut (m := 2099208) (s := t) (u := x) ?_ ?_; rotate_left; all_goals first | (intro _; clear_value x) | subst x)
    | (extract_lets +onlyGivenNames x; clear_value x)
    | with_reducible refine (kt_sendLow ..).step (by decide) ?_
    | with_reducible refine (kt_addMod ..).step (by decide) ?_
    | with_reducible refine (kt_sets ..).step (by decide) ?_
    | with_reducible refine (kt_set ..).step (by decide) ?_
    | with_reducible refine TKeeps.ite ?_ ?_
    | split
    | with_reducible refine TKeeps.upd_sweep ?_ (by decide)

end Sys2Proof.Machine
end

