-- ==== Sys2Proof/Laws/TkTlChannels.lean ====
section
/-! SUPPORT. What the operations of Machine/TlChannels.lean may change. -/

namespace Sys2Proof.Machine

open Sys2Proof

/-- `modSlot` changes at most: pad. -/
theorem kt_modSlot (k : Nat) (f : Slot → Slot) (t : Tladon) : TKeeps 16777216 t (Tladon.modSlot k f t) := by
  unfold Tladon.modSlot
  repeat' first
    | with_reducible exact TKeeps.refl _ _
    | with_reducible assumption
    | with_reducible refine TKeeps.upd_pad ?_ (by decide)

/-- `pushWord` changes at most: regs, chans, pad. -/
theorem kt_pushWord (c : Nat) (w : HWord) (t : Tladon) : TKeeps 16781320 t (Tladon.pushWord c w t) := by
  unfold Tladon.pushWord
  repeat' first
    | with_reducible exact TKeeps.refl _ _
    | with_reducible assumption
    | with_reducible refine (kt_modSlot ..).step (by decide) ?_
    | with_reducible refine (kt_modChan ..).step (by decide) ?_
    | with_reducible refine (kt_add ..).step (by decide) ?_
    | with_reducible refine TKeeps.ite ?_ ?_
    | split

/-- `closeWindow` changes at most: regs, chans, ints, pad. -/
theorem kt_closeWindow (at' : Nat) (g : Nat) (t : Tladon) : TKeeps 16789512 t (Tladon.closeWindow at' g t) := by
  unfold Tladon.closeWindow
  repeat' first
    | with_reducible exact TKeeps.refl _ _
    | with_reducible assumption
    | (extract_lets +onlyGivenNames x; refine TKeeps.cut (m := 16789512) (s := t) (u := x) ?_ ?_; rotate_left; all_goals first | (intro _; clear_value x) | subst x)
    | (extract_lets +onlyGivenNames x; clear_value x)
    | with_reducible refine (kt_pushWord ..).step (by decide) ?_
    | with_reducible refine (kt_add ..).step (by decide) ?_
    | with_reducible refine (kt_set ..).step (by decide) ?_
    | with_reducible refine TKeeps.ite ?_ ?_
    | split
    | with_reducible refine TKeeps.upd_ints ?_ (by decide)

/-- `intTimeout` changes at most: regs, chans, ints, pad. -/
theorem kt_intTimeout (now : Nat) (g : Nat) (t : Tladon) : TKeeps 16789512 t (Tladon.intTimeout now g t) := by
  unfold Tladon.intTimeout
  repeat' first
    | with_reducible exact TKeeps.refl _ _
    | with_reducible assumption
    | with_reducible refine (kt_closeWindow ..).step (by decide) ?_
    | with_reducible refine TKeeps.ite ?_ ?_
    | split

/-- `intWrite` changes at most: regs, chans, ints, pad. -/
theorem kt_intWrite (now : Nat) (a : Nat) (v : Nat) (t : Tladon) : TKeeps 16789512 t (Tladon.intWrite now a v t) := by
  unfold Tladon.intWrite
  repeat' first
    | with_reducible exact TKeeps.refl _ _
    | with_reducible assumption
    | (extract_lets +onlyGivenNames x; refine TKeeps.cut (m := 16789512) (s := t) (u := x) ?_ ?_; rotate_left; all_goals first | (intro _; clear_value x) | subst x)
    | (extract_lets +onlyGivenNames x; clear_value x)
    | with_reducible refine (kt_closeWindow ..).step (by decide) ?_
    | with_reducible refine (kt_set ..).step (by decide) ?_
    | split
    | with_reducible refine TKeeps.upd_regs ?_ (by decide)

/-- `intEdge` changes at most: regs, chans, ints, pad. -/
theorem kt_intEdge (now : Nat) (c : Nat) (t : Tladon) : TKeeps 16789512 t (Tladon.intEdge now c t).2.2 := by
  unfold Tladon.intEdge
  repeat' first
    | with_reducible exact TKeeps.refl _ _
    | with_reducible assumption
    | (extract_lets +onlyGivenNames x; refine TKeeps.cut (m := 16789512) (s := t) (u := x) ?_ ?_; rotate_left; all_goals first | (intro _; clear_value x) | subst x)
    | (extract_lets +onlyGivenNames x; clear_value x)
    | with_reducible refine (kt_intTimeout ..).step (by decide) ?_
    | with_reducible refine (kt_add ..).step (by decide) ?_
    | with_reducible refine (kt_set ..).step (by decide) ?_
    | split
    | with_reducible refine TKeeps.upd_ints ?_ (by decide)
    | with_reducible dsimp only

/-- `stampEdge` changes at most: regs, chans, ints, pad. -/
theorem kt_stampEdge (now c raw : Nat) (d : Bool) (t : Tladon) : TKeeps 16789512 t (t.stampEdge now c raw d) := by
  unfold Tladon.stampEdge
  extract_lets x
  have h1 : TKeeps 16789512 t x := by
    show TKeeps 16789512 t (if d then t.add TR.CAL_CNT_ABORTED 1 else t)
    split
    · exact (kt_add ..).weaken (by decide)
    · exact TKeeps.refl _ _
  clear_value x
  have h2 : TKeeps 16789512 t (if x.get (TR.CH_CFG_MODE c) = 2 then
      if x.on (TR.CHN_INT_STATUS_CFG_ERR (c / 64)) then (3, 0, x) else x.intEdge now c
      else (0, 0, x)).2.2 := by
    split
    · split
      · exact h1
      · exact (kt_intEdge ..).step (by decide) h1
    · exact h1
  generalize (if x.get (TR.CH_CFG_MODE c) = 2 then
      if x.on (TR.CHN_INT_STATUS_CFG_ERR (c / 64)) then (3, 0, x) else x.intEdge now c
      else (0, 0, x)) = r at h2
  obtain ⟨role, stop, u⟩ := r
  dsimp only at h2 ⊢
  have h3 : ∀ f, TKeeps 16789512 t (u.modChan c f) := fun f => (kt_modChan ..).step (by decide) h2
  split
  · exact TKeeps.upd_pad (h3 _) (by decide)
  · exact h3 _

/-- `leadEdge` changes at most: regs, chans, ints, gate, pad. -/
theorem kt_leadEdge (now : Nat) (c : Nat) (raw : Nat) (sraw : Nat) (dith : Bool) (t : Tladon) : TKeeps 16805896 t (Tladon.leadEdge now c raw sraw dith t) := by
  unfold Tladon.leadEdge
  repeat' first
    | with_reducible exact TKeeps.refl _ _
    | with_reducible assumption
    | (extract_lets +onlyGivenNames x; refine TKeeps.cut (m := 16805896) (s := t) (u := x) ?_ ?_; rotate_left; all_goals first | (intro _; clear_value x) | subst x)
    | (extract_lets +onlyGivenNames x; clear_value x)
    | with_reducible refine (kt_stampEdge ..).step (by decide) ?_
    | with_reducible refine (kt_surveyEdge ..).step (by decide) ?_
    | with_reducible refine (kt_modChan ..).step (by decide) ?_
    | with_reducible refine (kt_add ..).step (by decide) ?_
    | with_reducible refine TKeeps.ite ?_ ?_
    | split

/-- `closePrim` changes at most: pad. -/
theorem kt_closePrim (now : Nat) (c : Nat) (t : Tladon) : TKeeps 16777216 t (Tladon.closePrim now c t) := by
  unfold Tladon.closePrim
  repeat' first
    | with_reducible exact TKeeps.refl _ _
    | with_reducible assumption
    | (extract_lets +onlyGivenNames x; refine TKeeps.cut (m := 16777216) (s := t) (u := x) ?_ ?_; rotate_left; all_goals first | (intro _; clear_value x) | subst x)
    | (extract_lets +onlyGivenNames x; clear_value x)
    | with_reducible refine TKeeps.ite ?_ ?_
    | split
    | with_reducible refine TKeeps.upd_pad ?_ (by decide)

/-- `trailEdge` changes at most: chans, pad. -/
theorem kt_trailEdge (now : Nat) (c : Nat) (raw : Nat) (t : Tladon) : TKeeps 16781312 t (Tladon.trailEdge now c raw t) := by
  unfold Tladon.trailEdge
  repeat' first
    | with_reducible exact TKeeps.refl _ _
    | with_reducible assumption
    | (extract_lets +onlyGivenNames x; refine TKeeps.cut (m := 16781312) (s := t) (u := x) ?_ ?_; rotate_left; all_goals first | (intro _; clear_value x) | subst x)
    | (extract_lets +onlyGivenNames x; clear_value x)
    | with_reducible refine (kt_closePrim ..).step (by decide) ?_
    | with_reducible refine (kt_modChan ..).step (by decide) ?_
    | with_reducible refine TKeeps.ite ?_ ?_
    | split

/-- `saturate` changes at most: chans. -/
theorem kt_saturate (now : Nat) (c : Nat) (t : Tladon) : TKeeps 4096 t (Tladon.saturate now c t) := by
  unfold Tladon.saturate
  repeat' first
    | with_reducible exact TKeeps.refl _ _
    | with_reducible assumption
    | with_reducible refine (kt_modChan ..).step (by decide) ?_
    | with_reducible refine TKeeps.ite ?_ ?_
    | split

/-- `hitComplete` changes at most: regs, chans, pad. -/
theorem kt_hitComplete (now : Nat) (c : Nat) (t : Tladon) : TKeeps 16781320 t (Tladon.hitComplete now c t) := by
  unfold Tladon.hitComplete
  repeat' first
    | with_reducible exact TKeeps.refl _ _
    | with_reducible assumption
    | (extract_lets +onlyGivenNames x; refine TKeeps.cut (m := 16781320) (s := t) (u := x) ?_ ?_; rotate_left; all_goals first | (intro _; clear_value x) | subst x)
    | (extract_lets +onlyGivenNames x; clear_value x)
    | with_reducible refine (kt_pushWord ..).step (by decide) ?_
    | with_reducible refine (kt_modChan ..).step (by decide) ?_
    | with_reducible refine (kt_add ..).step (by decide) ?_
    | with_reducible refine (kt_set ..).step (by decide) ?_
    | with_reducible refine TKeeps.ite ?_ ?_
    | split

/-- `chCfg` changes at most: regs, chans, ints, pad. -/
theorem kt_chCfg (now : Nat) (c : Nat) (v : Nat) (t : Tladon) : TKeeps 16789512 t (Tladon.chCfg now c v t) := by
  unfold Tladon.chCfg
  repeat' first
    | with_reducible exact TKeeps.refl _ _
    | with_reducible assumption
    | (extract_lets +onlyGivenNames x; refine TKeeps.cut (m := 16789512) (s := t) (u := x) ?_ ?_; rotate_left; all_goals first | (intro _; clear_value x) | subst x)
    | (extract_lets +onlyGivenNames x; clear_value x)
    | with_reducible refine (kt_closeWindow ..).step (by decide) ?_
    | with_reducible refine (kt_modChan ..).step (by decide) ?_
    | with_reducible refine (kt_sets ..).step (by decide) ?_
    | with_reducible refine TKeeps.ite ?_ ?_
    | split

/-- `chThr` changes at most: regs, chans. -/
theorem kt_chThr (now : Nat) (c : Nat) (v : Nat) (t : Tladon) : TKeeps 4104 t (Tladon.chThr now c v t) := by
  unfold Tladon.chThr
  repeat' first
    | with_reducible exact TKeeps.refl _ _
    | with_reducible assumption
    | (extract_lets +onlyGivenNames x; refine TKeeps.cut (m := 4104) (s := t) (u := x) ?_ ?_; rotate_left; all_goals first | (intro _; clear_value x) | subst x)
    | (extract_lets +onlyGivenNames x; clear_value x)
    | with_reducible refine (kt_modChan ..).step (by decide) ?_
    | with_reducible refine (kt_sets ..).step (by decide) ?_
    | with_reducible refine TKeeps.ite ?_ ?_
    | split

/-- `settleEnd` changes at most: chans. -/
theorem kt_settleEnd (now : Nat) (c : Nat) (t : Tladon) : TKeeps 4096 t (Tladon.settleEnd now c t) := by
  unfold Tladon.settleEnd
  repeat' first
    | with_reducible exact TKeeps.refl _ _
    | with_reducible assumption
    | with_reducible refine (kt_modChan ..).step (by decide) ?_
    | with_reducible refine TKeeps.ite ?_ ?_
    | split

/-- `clampEngage` changes at most: regs, chans. -/
theorem kt_clampEngage (c : Nat) (t : Tladon) : TKeeps 4104 t (Tladon.clampEngage c t) := by
  unfold Tladon.clampEngage
  repeat' first
    | with_reducible exact TKeeps.refl _ _
    | with_reducible assumption
    | with_reducible refine (kt_modChan ..).step (by decide) ?_
    | with_reducible refine (kt_add ..).step (by decide) ?_
    | with_reducible refine (kt_set ..).step (by decide) ?_
    | with_reducible refine TKeeps.ite ?_ ?_
    | split

/-- `clampRelease` changes at most: chans. -/
theorem kt_clampRelease (now : Nat) (c : Nat) (t : Tladon) : TKeeps 4096 t (Tladon.clampRelease now c t) := by
  unfold Tladon.clampRelease
  repeat' first
    | with_reducible exact TKeeps.refl _ _
    | with_reducible assumption
    | with_reducible refine (kt_modChan ..).step (by decide) ?_
    | with_reducible refine TKeeps.ite ?_ ?_
    | split

end Sys2Proof.Machine
end

