-- ==== Sys2Proof/Laws/TkTlPaddock.lean ====
section
/-! SUPPORT. What the operations of Machine/TlPaddock.lean may change. -/

namespace Sys2Proof.Machine

open Sys2Proof

/-- `modPad` changes at most: pad. -/
theorem kt_modPad (f : Paddock → Paddock) (t : Tladon) : TKeeps 16777216 t (Tladon.modPad f t) := by
  unfold Tladon.modPad
  repeat' first
    | with_reducible exact TKeeps.refl _ _
    | with_reducible assumption
    | with_reducible refine TKeeps.upd_pad ?_ (by decide)

/-- `drain` changes at most: regs, chans, pad. -/
theorem kt_drain (now : Nat) (g : Nat) (err : Nat) (t : Tladon) : TKeeps 16781320 t (Tladon.drain now g err t) := by
  unfold Tladon.drain
  repeat' first
    | with_reducible exact TKeeps.refl _ _
    | with_reducible assumption
    | (extract_lets +onlyGivenNames x; refine TKeeps.cut (m := 16781320) (s := t) (u := x) ?_ ?_; rotate_left; all_goals first | (intro _; clear_value x) | subst x)
    | (extract_lets +onlyGivenNames x; clear_value x)
    | with_reducible refine (kt_modPad ..).step (by decide) ?_
    | with_reducible refine (kt_modSlot ..).step (by decide) ?_
    | with_reducible refine (kt_modChan ..).step (by decide) ?_
    | with_reducible refine (kt_add ..).step (by decide) ?_
    | with_reducible refine TKeeps.ite ?_ ?_
    | split
    | with_reducible refine TKeeps.upd_regs ?_ (by decide)

/-- `countEcc` changes at most: regs. -/
theorem kt_countEcc (n : Nat) (corr : Nat) (bad : List Nat) (t : Tladon) : TKeeps 8 t (Tladon.countEcc n corr bad t) := by
  unfold Tladon.countEcc
  repeat' first
    | with_reducible exact TKeeps.refl _ _
    | with_reducible assumption
    | with_reducible refine (kt_add ..).step (by decide) ?_

/-- `sendHits` changes at most: ups, pad. -/
theorem kt_sendHits (k : Nat) (ws : List HWord) (t : Tladon) : TKeeps 16779264 t (Tladon.sendHits k ws t) := by
  unfold Tladon.sendHits
  repeat' first
    | with_reducible exact TKeeps.refl _ _
    | with_reducible assumption
    | (extract_lets +onlyGivenNames x; refine TKeeps.cut (m := 16779264) (s := t) (u := x) ?_ ?_; rotate_left; all_goals first | (intro _; clear_value x) | subst x)
    | (extract_lets +onlyGivenNames x; clear_value x)
    | with_reducible refine (kt_modSlot ..).step (by decide) ?_
    | with_reducible refine (kt_sendOn ..).step (by decide) ?_
    | with_reducible refine TKeeps.ite ?_ ?_
    | with_reducible refine TKeeps.foldl _ ?_ (fun _ _ _ => ?_)
    | split

/-- `streamHead` changes at most: ups, pad. -/
theorem kt_streamHead (f : Nat) (t : Tladon) : TKeeps 16779264 t (Tladon.streamHead f t) := by
  unfold Tladon.streamHead
  repeat' first
    | with_reducible exact TKeeps.refl _ _
    | with_reducible assumption
    | with_reducible refine (kt_modPad ..).step (by decide) ?_
    | with_reducible refine (kt_sendOn ..).step (by decide) ?_

/-- `streamEnd` changes at most: regs, ups, pad. -/
theorem kt_streamEnd (f : Nat) (x : FrameStat) (t : Tladon) : TKeeps 16779272 t (Tladon.streamEnd f x t) := by
  unfold Tladon.streamEnd
  repeat' first
    | with_reducible exact TKeeps.refl _ _
    | with_reducible assumption
    | (extract_lets +onlyGivenNames x; refine TKeeps.cut (m := 16779272) (s := t) (u := x) ?_ ?_; rotate_left; all_goals first | (intro _; clear_value x) | subst x)
    | (extract_lets +onlyGivenNames x; clear_value x)
    | with_reducible refine (kt_modPad ..).step (by decide) ?_
    | with_reducible refine (kt_sendOn ..).step (by decide) ?_
    | with_reducible refine (kt_add ..).step (by decide) ?_
    | with_reducible refine TKeeps.ite ?_ ?_
    | with_reducible refine TKeeps.foldl _ ?_ (fun _ _ _ => ?_)
    | split

/-- `streamSlot` changes at most: regs, ups, pad. -/
theorem kt_streamSlot (k : Nat) (corr : Nat) (bad : List Nat) (t : Tladon) : TKeeps 16779272 t (Tladon.streamSlot k corr bad t) := by
  unfold Tladon.streamSlot
  repeat' first
    | with_reducible exact TKeeps.refl _ _
    | with_reducible assumption
    | (extract_lets +onlyGivenNames x; refine TKeeps.cut (m := 16779272) (s := t) (u := x) ?_ ?_; rotate_left; all_goals first | (intro _; clear_value x) | subst x)
    | (extract_lets +onlyGivenNames x; clear_value x)
    | with_reducible refine (kt_streamEnd ..).step (by decide) ?_
    | with_reducible refine (kt_streamHead ..).step (by decide) ?_
    | with_reducible refine (kt_sendHits ..).step (by decide) ?_
    | with_reducible refine (kt_countEcc ..).step (by decide) ?_
    | with_reducible refine (kt_modPad ..).step (by decide) ?_
    | with_reducible refine (kt_modSlot ..).step (by decide) ?_
    | with_reducible refine (kt_add ..).step (by decide) ?_
    | with_reducible refine TKeeps.ite ?_ ?_
    | split

/-- `slotClose` changes at most: regs, ups, pad. -/
theorem kt_slotClose (now : Nat) (k : Nat) (corr : Nat) (bad : List Nat) (t : Tladon) : TKeeps 16779272 t (Tladon.slotClose now k corr bad t) := by
  unfold Tladon.slotClose
  repeat' first
    | with_reducible exact TKeeps.refl _ _
    | with_reducible assumption
    | (extract_lets +onlyGivenNames x; refine TKeeps.cut (m := 16779272) (s := t) (u := x) ?_ ?_; rotate_left; all_goals first | (intro _; clear_value x) | subst x)
    | (extract_lets +onlyGivenNames x; clear_value x)
    | with_reducible refine (kt_streamSlot ..).step (by decide) ?_
    | with_reducible refine (kt_modSlot ..).step (by decide) ?_
    | with_reducible refine TKeeps.ite ?_ ?_
    | split

/-- `slotRelease` changes at most: pad. -/
theorem kt_slotRelease (now : Nat) (k : Nat) (t : Tladon) : TKeeps 16777216 t (Tladon.slotRelease now k t) := by
  unfold Tladon.slotRelease
  repeat' first
    | with_reducible exact TKeeps.refl _ _
    | with_reducible assumption
    | (extract_lets +onlyGivenNames x; refine TKeeps.cut (m := 16777216) (s := t) (u := x) ?_ ?_; rotate_left; all_goals first | (intro _; clear_value x) | subst x)
    | (extract_lets +onlyGivenNames x; clear_value x)
    | with_reducible refine (kt_modPad ..).step (by decide) ?_
    | with_reducible refine TKeeps.ite ?_ ?_
    | split

/-- `countIf` changes at most: regs. -/
theorem kt_countIf (b : Bool) (f : Fld) (t : Tladon) : TKeeps 8 t (Tladon.countIf b f t) := by
  unfold Tladon.countIf
  repeat' first
    | with_reducible exact TKeeps.refl _ _
    | with_reducible assumption
    | with_reducible refine (kt_add ..).step (by decide) ?_
    | with_reducible refine TKeeps.ite ?_ ?_
    | split

/-- `acceptEffect` changes at most: regs, pad. -/
theorem kt_acceptEffect (now : Nat) (t : Tladon) : TKeeps 16777224 t (Tladon.acceptEffect now t) := by
  unfold Tladon.acceptEffect
  repeat' first
    | with_reducible exact TKeeps.refl _ _
    | with_reducible assumption
    | (extract_lets +onlyGivenNames x; refine TKeeps.cut (m := 16777224) (s := t) (u := x) ?_ ?_; rotate_left; all_goals first | (intro _; clear_value x) | subst x)
    | (extract_lets +onlyGivenNames x; clear_value x)
    | with_reducible refine (kt_countIf ..).step (by decide) ?_
    | with_reducible refine (kt_modPad ..).step (by decide) ?_
    | with_reducible refine (kt_addMod ..).step (by decide) ?_
    | with_reducible refine (kt_add ..).step (by decide) ?_
    | with_reducible refine TKeeps.ite ?_ ?_
    | split

/-- `fragmentBuild` changes at most: regs, ups, pad. -/
theorem kt_fragmentBuild (now : Nat) (corr : Nat) (bad : List Nat) (t : Tladon) : TKeeps 16779272 t (Tladon.fragmentBuild now corr bad t) := by
  unfold Tladon.fragmentBuild
  repeat' first
    | with_reducible exact TKeeps.refl _ _
    | with_reducible assumption
    | (extract_lets +onlyGivenNames x; refine TKeeps.cut (m := 16779272) (s := t) (u := x) ?_ ?_; rotate_left; all_goals first | (intro _; clear_value x) | subst x)
    | (extract_lets +onlyGivenNames x; clear_value x)
    | with_reducible refine (kt_countIf ..).step (by decide) ?_
    | with_reducible refine (kt_sendHits ..).step (by decide) ?_
    | with_reducible refine (kt_countEcc ..).step (by decide) ?_
    | with_reducible refine (kt_modPad ..).step (by decide) ?_
    | with_reducible refine (kt_sendOn ..).step (by decide) ?_
    | with_reducible refine (kt_add ..).step (by decide) ?_
    | with_reducible refine TKeeps.ite ?_ ?_
    | split

/-- `linkApply` changes at most: regs, linkDue. -/
theorem kt_linkApply (now : Nat) (t : Tladon) : TKeeps 520 t (Tladon.linkApply now t) := by
  unfold Tladon.linkApply
  repeat' first
    | with_reducible exact TKeeps.refl _ _
    | with_reducible assumption
    | (extract_lets +onlyGivenNames x; refine TKeeps.cut (m := 520) (s := t) (u := x) ?_ ?_; rotate_left; all_goals first | (intro _; clear_value x) | subst x)
    | (extract_lets +onlyGivenNames x; clear_value x)
    | with_reducible refine (kt_showUps ..).step (by decide) ?_
    | with_reducible refine (kt_sets ..).step (by decide) ?_
    | with_reducible refine TKeeps.ite ?_ ?_
    | split
    | with_reducible refine TKeeps.upd_linkDue ?_ (by decide)

/-- `frameBoundary` changes at most: regs, linkDue, ups, pad. -/
theorem kt_frameBoundary (now : Nat) (t : Tladon) : TKeeps 16779784 t (Tladon.frameBoundary now t) := by
  unfold Tladon.frameBoundary
  repeat' first
    | with_reducible exact TKeeps.refl _ _
    | with_reducible assumption
    | (extract_lets +onlyGivenNames x; refine TKeeps.cut (m := 16779784) (s := t) (u := x) ?_ ?_; rotate_left; all_goals first | (intro _; clear_value x) | subst x)
    | (extract_lets +onlyGivenNames x; clear_value x)
    | with_reducible refine (kt_linkApply ..).step (by decide) ?_
    | with_reducible refine (kt_streamHead ..).step (by decide) ?_
    | with_reducible refine TKeeps.ite ?_ ?_
    | split
    | with_reducible refine TKeeps.upd_ups ?_ (by decide)

/-- `holdRequest` changes at most: regs, pad. -/
theorem kt_holdRequest (now : Nat) (v : Bool) (t : Tladon) : TKeeps 16777224 t (Tladon.holdRequest now v t) := by
  unfold Tladon.holdRequest
  repeat' first
    | with_reducible exact TKeeps.refl _ _
    | with_reducible assumption
    | (extract_lets +onlyGivenNames x; refine TKeeps.cut (m := 16777224) (s := t) (u := x) ?_ ?_; rotate_left; all_goals first | (intro _; clear_value x) | subst x)
    | (extract_lets +onlyGivenNames x; clear_value x)
    | with_reducible refine (kt_modPad ..).step (by decide) ?_
    | with_reducible refine (kt_set ..).step (by decide) ?_

/-- `holdChange` changes at most: regs, pad. -/
theorem kt_holdChange (now : Nat) (t : Tladon) : TKeeps 16777224 t (Tladon.holdChange now t) := by
  unfold Tladon.holdChange
  repeat' first
    | with_reducible exact TKeeps.refl _ _
    | with_reducible assumption
    | with_reducible refine (kt_modPad ..).step (by decide) ?_
    | with_reducible refine (kt_set ..).step (by decide) ?_
    | with_reducible refine TKeeps.ite ?_ ?_
    | split

/-- `padConfig` changes at most: regs. -/
theorem kt_padConfig (a : Nat) (v : Nat) (t : Tladon) : TKeeps 8 t (Tladon.padConfig a v t) := by
  unfold Tladon.padConfig
  repeat' first
    | with_reducible exact TKeeps.refl _ _
    | with_reducible assumption
    | (extract_lets +onlyGivenNames x; refine TKeeps.cut (m := 8) (s := t) (u := x) ?_ ?_; rotate_left; all_goals first | (intro _; clear_value x) | subst x)
    | (extract_lets +onlyGivenNames x; clear_value x)
    | with_reducible refine (kt_set ..).step (by decide) ?_
    | with_reducible refine TKeeps.ite ?_ ?_
    | split
    | with_reducible refine TKeeps.upd_regs ?_ (by decide)

/-- `primForm` changes at most: pad. -/
theorem kt_primForm (now : Nat) (k : Nat) (t : Tladon) : TKeeps 16777216 t (Tladon.primForm now k t) := by
  unfold Tladon.primForm
  repeat' first
    | with_reducible exact TKeeps.refl _ _
    | with_reducible assumption
    | (extract_lets +onlyGivenNames x; refine TKeeps.cut (m := 16777216) (s := t) (u := x) ?_ ?_; rotate_left; all_goals first | (intro _; clear_value x) | subst x)
    | (extract_lets +onlyGivenNames x; clear_value x)
    | with_reducible refine (kt_modPad ..).step (by decide) ?_
    | with_reducible refine TKeeps.ite ?_ ?_
    | split

end Sys2Proof.Machine
end

