-- ==== Sys2Proof/Laws/TkTlBus.lean ====
section
/-! SUPPORT. What the operations of Machine/TlBus.lean may change. -/

namespace Sys2Proof.Machine

open Sys2Proof

/-- `readEffect` changes at most: regs. -/
theorem kt_readEffect (now : Nat) (free : Nat) (a : Nat) (t : Tladon) : TKeeps 8 t (Tladon.readEffect now free a t) := by
  unfold Tladon.readEffect
  repeat' first
    | with_reducible exact TKeeps.refl _ _
    | with_reducible assumption
    | (extract_lets +onlyGivenNames x; refine TKeeps.cut (m := 8) (s := t) (u := x) ?_ ?_; rotate_left; all_goals first | (intro _; clear_value x) | subst x)
    | (extract_lets +onlyGivenNames x; clear_value x)
    | with_reducible refine (kt_surveyLatch ..).step (by decide) ?_
    | with_reducible refine (kt_set ..).step (by decide) ?_
    | with_reducible refine TKeeps.ite ?_ ?_
    | split
    | with_reducible refine TKeeps.upd_regs ?_ (by decide)

/-- `surveyCtrl` changes at most: regs, gate, arm. -/
theorem kt_surveyCtrl (now : Nat) (v : Nat) (t : Tladon) : TKeeps 49160 t (Tladon.surveyCtrl now v t) := by
  unfold Tladon.surveyCtrl
  repeat' first
    | with_reducible exact TKeeps.refl _ _
    | with_reducible assumption
    | (extract_lets +onlyGivenNames x; refine TKeeps.cut (m := 49160) (s := t) (u := x) ?_ ?_; rotate_left; all_goals first | (intro _; clear_value x) | subst x)
    | (extract_lets +onlyGivenNames x; clear_value x)
    | with_reducible refine (kt_surveyArm ..).step (by decide) ?_
    | with_reducible refine (kt_surveyStart ..).step (by decide) ?_
    | with_reducible refine (kt_abortGate ..).step (by decide) ?_
    | with_reducible refine (kt_set ..).step (by decide) ?_
    | with_reducible refine TKeeps.ite ?_ ?_
    | split

/-- `sampCtrl` changes at most: regs, samps. -/
theorem kt_sampCtrl (now : Nat) (v : Nat) (t : Tladon) : TKeeps 524296 t (Tladon.sampCtrl now v t) := by
  unfold Tladon.sampCtrl
  repeat' first
    | with_reducible exact TKeeps.refl _ _
    | with_reducible assumption
    | with_reducible refine (kt_disarmMask ..).step (by decide) ?_
    | with_reducible refine (kt_armMask ..).step (by decide) ?_
    | with_reducible refine (kt_forceMask ..).step (by decide) ?_

/-- `linkCfg` changes at most: linkDue. -/
theorem kt_linkCfg (now : Nat) (v : Nat) (t : Tladon) : TKeeps 512 t (Tladon.linkCfg now v t) := by
  unfold Tladon.linkCfg
  repeat' first
    | with_reducible exact TKeeps.refl _ _
    | with_reducible assumption
    | with_reducible refine TKeeps.ite ?_ ?_
    | split
    | with_reducible refine TKeeps.upd_linkDue ?_ (by decide)

/-- `write` changes at most: regs, linkDue, chans, ints, gate, arm, cal, samps, refAt, sweep, monFrames, pad. -/
theorem kt_write (now : Nat) (a : Nat) (v : Nat) (t : Tladon) : TKeeps 24965640 t (Tladon.write now a v t) := by
  unfold Tladon.write
  repeat' first
    | with_reducible exact TKeeps.refl _ _
    | with_reducible assumption
    | with_reducible refine (kt_linkCfg ..).step (by decide) ?_
    | with_reducible refine (kt_sampCtrl ..).step (by decide) ?_
    | with_reducible refine (kt_surveyCtrl ..).step (by decide) ?_
    | with_reducible refine (kt_padConfig ..).step (by decide) ?_
    | with_reducible refine (kt_holdRequest ..).step (by decide) ?_
    | with_reducible refine (kt_chThr ..).step (by decide) ?_
    | with_reducible refine (kt_chCfg ..).step (by decide) ?_
    | with_reducible refine (kt_intWrite ..).step (by decide) ?_
    | with_reducible refine (kt_monCtrlWrite ..).step (by decide) ?_
    | with_reducible refine (kt_trimWrite ..).step (by decide) ?_
    | with_reducible refine (kt_sampCfg ..).step (by decide) ?_
    | with_reducible refine (kt_refWrite ..).step (by decide) ?_
    | with_reducible refine (kt_surveyCfgWrite ..).step (by decide) ?_
    | with_reducible refine (kt_calCtrlWrite ..).step (by decide) ?_
    | with_reducible refine TKeeps.ite ?_ ?_
    | split
    | with_reducible refine TKeeps.upd_regs ?_ (by decide)

end Sys2Proof.Machine
end

