-- ==== Sys2Proof/Laws/TkTlLinks.lean ====
section
/-! SUPPORT. What the operations of Machine/TlLinks.lean may change. -/

namespace Sys2Proof.Machine

open Sys2Proof

/-- `stateListen` changes at most: regs, sched, ups, chans, ints, gate, arm, samps, sweep, pad. -/
theorem kt_stateListen (now : Nat) (t : Tladon) : TKeeps 19462408 t (Tladon.stateListen now t) := by
  unfold Tladon.stateListen
  repeat' first
    | with_reducible exact TKeeps.refl _ _
    | with_reducible assumption
    | with_reducible refine (kt_showUps ..).step (by decide) ?_
    | with_reducible refine (kt_changeState ..).step (by decide) ?_
    | with_reducible refine TKeeps.ite ?_ ?_
    | split

/-- `stateConfigure` changes at most: regs, sched, ups, chans, ints, gate, arm, samps, sweep, pad. -/
theorem kt_stateConfigure (now : Nat) (t : Tladon) : TKeeps 19462408 t (Tladon.stateConfigure now t) := by
  unfold Tladon.stateConfigure
  repeat' first
    | with_reducible exact TKeeps.refl _ _
    | with_reducible assumption
    | with_reducible refine (kt_changeState ..).step (by decide) ?_
    | with_reducible refine TKeeps.ite ?_ ?_
    | split
    | with_reducible refine TKeeps.upd_sched ?_ (by decide)

/-- `stateAcquire` changes at most: sched. -/
theorem kt_stateAcquire (now : Nat) (t : Tladon) : TKeeps 256 t (Tladon.stateAcquire now t) := by
  unfold Tladon.stateAcquire
  repeat' first
    | with_reducible exact TKeeps.refl _ _
    | with_reducible assumption
    | with_reducible refine TKeeps.ite ?_ ?_
    | split
    | with_reducible refine TKeeps.upd_sched ?_ (by decide)

/-- `stateQuiet` changes at most: regs, sched, ups, chans, ints, gate, arm, samps, sweep, pad. -/
theorem kt_stateQuiet (now : Nat) (t : Tladon) : TKeeps 19462408 t (Tladon.stateQuiet now t) := by
  unfold Tladon.stateQuiet
  repeat' first
    | with_reducible exact TKeeps.refl _ _
    | with_reducible assumption
    | with_reducible refine (kt_changeState ..).step (by decide) ?_
    | with_reducible refine TKeeps.upd_sched ?_ (by decide)

/-- `acquireEffect` changes at most: regs, sched, ups, chans, ints, gate, arm, samps, sweep, pad. -/
theorem kt_acquireEffect (now : Nat) (t : Tladon) : TKeeps 19462408 t (Tladon.acquireEffect now t) := by
  unfold Tladon.acquireEffect
  repeat' first
    | with_reducible exact TKeeps.refl _ _
    | with_reducible assumption
    | with_reducible refine (kt_changeState ..).step (by decide) ?_
    | with_reducible refine TKeeps.ite ?_ ?_
    | split

/-- `configureEffect` changes at most: regs, sched, ups, chans, ints, gate, arm, samps, sweep, pad. -/
theorem kt_configureEffect (now : Nat) (t : Tladon) : TKeeps 19462408 t (Tladon.configureEffect now t) := by
  unfold Tladon.configureEffect
  repeat' first
    | with_reducible exact TKeeps.refl _ _
    | with_reducible assumption
    | with_reducible refine (kt_changeState ..).step (by decide) ?_
    | with_reducible refine TKeeps.ite ?_ ?_
    | split

/-- `powerDown` changes at most: regs, sched. -/
theorem kt_powerDown (now : Nat) (t : Tladon) : TKeeps 264 t (Tladon.powerDown now t) := by
  unfold Tladon.powerDown
  repeat' first
    | with_reducible exact TKeeps.refl _ _
    | with_reducible assumption
    | with_reducible refine (kt_showUps ..).step (by decide) ?_
    | with_reducible refine TKeeps.ite ?_ ?_
    | split
    | with_reducible refine TKeeps.upd_sched ?_ (by decide)

/-- `resetCmd` changes at most: regs, sched, ups, chans, ints, gate, arm, samps, refAt, sweep, pad. -/
theorem kt_resetCmd (now : Nat) (t : Tladon) : TKeeps 20510984 t (Tladon.resetCmd now t) := by
  unfold Tladon.resetCmd
  repeat' first
    | with_reducible exact TKeeps.refl _ _
    | with_reducible assumption
    | (extract_lets +onlyGivenNames x; refine TKeeps.cut (m := 20510984) (s := t) (u := x) ?_ ?_; rotate_left; all_goals first | (intro _; clear_value x) | subst x)
    | (extract_lets +onlyGivenNames x; clear_value x)
    | with_reducible refine (kt_showUps ..).step (by decide) ?_
    | with_reducible refine (kt_changeState ..).step (by decide) ?_
    | with_reducible refine TKeeps.upd_regs_chans_ints_gate_arm_samps_refAt_sweep_pad ?_ (by decide)

/-- `claim` changes at most: regs, dls. -/
theorem kt_claim (now : Nat) (d : Bool) (v : Nat) (t : Tladon) : TKeeps 1032 t (Tladon.claim now d v t) := by
  unfold Tladon.claim
  repeat' first
    | with_reducible exact TKeeps.refl _ _
    | with_reducible assumption
    | (extract_lets +onlyGivenNames x; refine TKeeps.cut (m := 1032) (s := t) (u := x) ?_ ?_; rotate_left; all_goals first | (intro _; clear_value x) | subst x)
    | (extract_lets +onlyGivenNames x; clear_value x)
    | with_reducible refine (kt_modDl ..).step (by decide) ?_
    | with_reducible refine (kt_sets ..).step (by decide) ?_
    | with_reducible refine TKeeps.ite ?_ ?_
    | split

/-- `dropClaim` changes at most: regs, dls. -/
theorem kt_dropClaim (d : Bool) (t : Tladon) : TKeeps 1032 t (Tladon.dropClaim d t) := by
  unfold Tladon.dropClaim
  repeat' first
    | with_reducible exact TKeeps.refl _ _
    | with_reducible assumption
    | with_reducible refine (kt_modDl ..).step (by decide) ?_
    | with_reducible refine (kt_set ..).step (by decide) ?_
    | with_reducible refine TKeeps.ite ?_ ?_
    | split

/-- `claimExpiry` changes at most: regs, dls. -/
theorem kt_claimExpiry (now : Nat) (d : Bool) (t : Tladon) : TKeeps 1032 t (Tladon.claimExpiry now d t) := by
  unfold Tladon.claimExpiry
  repeat' first
    | with_reducible exact TKeeps.refl _ _
    | with_reducible assumption
    | with_reducible refine (kt_dropClaim ..).step (by decide) ?_
    | with_reducible refine TKeeps.ite ?_ ?_
    | split

/-- `refuse` changes at most: regs. -/
theorem kt_refuse (t : Tladon) : TKeeps 8 t (Tladon.refuse t) := by
  unfold Tladon.refuse
  repeat' first
    | with_reducible exact TKeeps.refl _ _
    | with_reducible assumption
    | with_reducible refine (kt_add ..).step (by decide) ?_

/-- `gate_` changes at most: regs. -/
theorem kt_gate_ {m : Nat} (d : Bool) (op arg : Nat) (f : Tladon → Tladon) (t : Tladon) (h : ∀ x, TKeeps m x (f x))
    (e : 8 ||| m = m) : TKeeps m t (t.gate' d op arg f) := by
  unfold Tladon.gate'
  dsimp only
  split
  · exact TKeeps.refl _ _
  · exact TKeeps.ite (((kt_add ..).weaken e).trans (h _)) ((kt_refuse ..).weaken e)

/-- `regWrite` changes at most: regs, linkDue, ups, chans, ints, gate, arm, cal, samps, refAt, sweep, monFrames, pad. -/
theorem kt_regWrite (now : Nat) (free : Nat) (tag : Nat) (a : Nat) (v : Nat) (t : Tladon) : TKeeps 24967688 t (Tladon.regWrite now free tag a v t) := by
  unfold Tladon.regWrite
  repeat' first
    | with_reducible exact TKeeps.refl _ _
    | with_reducible assumption
    | (extract_lets +onlyGivenNames x; refine TKeeps.cut (m := 24967688) (s := t) (u := x) ?_ ?_; rotate_left; all_goals first | (intro _; clear_value x) | subst x)
    | (extract_lets +onlyGivenNames x; clear_value x)
    | with_reducible refine (kt_write ..).step (by decide) ?_
    | with_reducible refine (kt_sendLow ..).step (by decide) ?_

/-- `regRead` changes at most: regs, ups. -/
theorem kt_regRead (now : Nat) (free : Nat) (tag : Nat) (a : Nat) (t : Tladon) : TKeeps 2056 t (Tladon.regRead now free tag a t) := by
  unfold Tladon.regRead
  repeat' first
    | with_reducible exact TKeeps.refl _ _
    | with_reducible assumption
    | (extract_lets +onlyGivenNames x; refine TKeeps.cut (m := 2056) (s := t) (u := x) ?_ ?_; rotate_left; all_goals first | (intro _; clear_value x) | subst x)
    | (extract_lets +onlyGivenNames x; clear_value x)
    | with_reducible refine (kt_readEffect ..).step (by decide) ?_
    | with_reducible refine (kt_sendLow ..).step (by decide) ?_

/-- `regPeek` changes at most: ups. -/
theorem kt_regPeek (now : Nat) (free : Nat) (tag : Nat) (a : Nat) (t : Tladon) : TKeeps 2048 t (Tladon.regPeek now free tag a t) := by
  unfold Tladon.regPeek
  repeat' first
    | with_reducible exact TKeeps.refl _ _
    | with_reducible assumption
    | with_reducible refine (kt_sendLow ..).step (by decide) ?_

/-- `replayCmd` changes at most: ups. -/
theorem kt_replayCmd (d : Bool) (k : Nat) (n : Nat) (t : Tladon) : TKeeps 2048 t (Tladon.replayCmd d k n t) := by
  unfold Tladon.replayCmd
  repeat' first
    | with_reducible exact TKeeps.refl _ _
    | with_reducible assumption
    | (extract_lets +onlyGivenNames x; refine TKeeps.cut (m := 2048) (s := t) (u := x) ?_ ?_; rotate_left; all_goals first | (intro _; clear_value x) | subst x)
    | (extract_lets +onlyGivenNames x; clear_value x)
    | with_reducible refine (kt_modUp ..).step (by decide) ?_
    | with_reducible refine TKeeps.ite ?_ ?_
    | split

/-- `relinkCmd` changes at most: ups. -/
theorem kt_relinkCmd (now : Nat) (d : Bool) (mask : Nat) (t : Tladon) : TKeeps 2048 t (Tladon.relinkCmd now d mask t) := by
  unfold Tladon.relinkCmd
  repeat' first
    | with_reducible exact TKeeps.refl _ _
    | with_reducible assumption
    | (extract_lets +onlyGivenNames x; refine TKeeps.cut (m := 2048) (s := t) (u := x) ?_ ?_; rotate_left; all_goals first | (intro _; clear_value x) | subst x)
    | (extract_lets +onlyGivenNames x; clear_value x)
    | with_reducible refine TKeeps.ite ?_ ?_
    | split
    | with_reducible refine TKeeps.upd_ups ?_ (by decide)

/-- `epochFrom` changes at most: regs, epoch. -/
theorem kt_epochFrom (now : Nat) (d : Bool) (j : Nat) (t : Tladon) : TKeeps 40 t (Tladon.epochFrom now d j t) := by
  unfold Tladon.epochFrom
  repeat' first
    | with_reducible exact TKeeps.refl _ _
    | with_reducible assumption
    | with_reducible refine (kt_refuse ..).step (by decide) ?_
    | with_reducible refine (kt_epochCmd ..).step (by decide) ?_
    | with_reducible refine (kt_add ..).step (by decide) ?_
    | with_reducible refine (kt_set ..).step (by decide) ?_
    | with_reducible refine TKeeps.ite ?_ ?_
    | split

/-- `stateCmd` changes at most: regs, sched, ups, chans, ints, gate, arm, samps, sweep, pad. -/
theorem kt_stateCmd (now : Nat) (arg : Nat) (t : Tladon) : TKeeps 19462408 t (Tladon.stateCmd now arg t) := by
  unfold Tladon.stateCmd
  repeat' first
    | with_reducible exact TKeeps.refl _ _
    | with_reducible assumption
    | with_reducible refine (kt_stateQuiet ..).step (by decide) ?_
    | with_reducible refine (kt_stateAcquire ..).step (by decide) ?_
    | with_reducible refine (kt_stateConfigure ..).step (by decide) ?_
    | with_reducible refine (kt_stateListen ..).step (by decide) ?_
    | split

/-- `runCommand` changes at most: regs, epoch, sched, linkDue, dls, ups, chans, ints, gate, arm, cal, samps, refAt, sweep, monFrames, pad. -/
theorem kt_runCommand (now : Nat) (free : Nat) (d : Bool) (h : Nat) (p : Nat) (t : Tladon) : TKeeps 24969000 t (Tladon.runCommand now free d h p t) := by
  unfold Tladon.runCommand
  repeat' first
    | with_reducible exact TKeeps.refl _ _
    | with_reducible refine kt_gate_ _ _ _ _ _ (fun _ => ?_) (by decide)
    | with_reducible assumption
    | (extract_lets +onlyGivenNames x; refine TKeeps.cut (m := 24969000) (s := t) (u := x) ?_ ?_; rotate_left; all_goals first | (intro _; clear_value x) | subst x)
    | (extract_lets +onlyGivenNames x; clear_value x)
    | with_reducible refine (kt_stateCmd ..).step (by decide) ?_
    | with_reducible refine (kt_epochFrom ..).step (by decide) ?_
    | with_reducible refine (kt_relinkCmd ..).step (by decide) ?_
    | with_reducible refine (kt_replayCmd ..).step (by decide) ?_
    | with_reducible refine (kt_regPeek ..).step (by decide) ?_
    | with_reducible refine (kt_regRead ..).step (by decide) ?_
    | with_reducible refine (kt_regWrite ..).step (by decide) ?_
    | with_reducible refine (kt_gate_ ..).step (by decide) ?_
    | with_reducible refine (kt_claim ..).step (by decide) ?_
    | with_reducible refine (kt_resetCmd ..).step (by decide) ?_
    | with_reducible refine (kt_holdRequest ..).step (by decide) ?_
    | with_reducible refine (kt_monStart ..).step (by decide) ?_
    | with_reducible refine TKeeps.ite ?_ ?_
    | split

/-- `finishCommand` changes at most: regs, epoch, sched, linkDue, dls, ups, chans, ints, gate, arm, cal, samps, refAt, sweep, monFrames, pad. -/
theorem kt_finishCommand (now : Nat) (free : Nat) (d : Bool) (ws : List Nat) (t : Tladon) : TKeeps 24969000 t (Tladon.finishCommand now free d ws t) := by
  unfold Tladon.finishCommand
  repeat' first
    | with_reducible exact TKeeps.refl _ _
    | with_reducible assumption
    | (extract_lets +onlyGivenNames x; refine TKeeps.cut (m := 24969000) (s := t) (u := x) ?_ ?_; rotate_left; all_goals first | (intro _; clear_value x) | subst x)
    | (extract_lets +onlyGivenNames x; clear_value x)
    | with_reducible refine (kt_runCommand ..).step (by decide) ?_
    | with_reducible refine (kt_modDl ..).step (by decide) ?_
    | with_reducible refine (kt_add ..).step (by decide) ?_
    | with_reducible refine TKeeps.ite ?_ ?_
    | split

/-- `commandWord` changes at most: regs, epoch, sched, linkDue, dls, ups, chans, ints, gate, arm, cal, samps, refAt, sweep, monFrames, pad. -/
theorem kt_commandWord (now : Nat) (free : Nat) (d : Bool) (start : Bool) (w : Nat) (t : Tladon) : TKeeps 24969000 t (Tladon.commandWord now free d start w t) := by
  unfold Tladon.commandWord
  repeat' first
    | with_reducible exact TKeeps.refl _ _
    | with_reducible assumption
    | (extract_lets +onlyGivenNames x; refine TKeeps.cut (m := 24969000) (s := t) (u := x) ?_ ?_; rotate_left; all_goals first | (intro _; clear_value x) | subst x)
    | (extract_lets +onlyGivenNames x; clear_value x)
    | with_reducible refine (kt_finishCommand ..).step (by decide) ?_
    | with_reducible refine (kt_refuse ..).step (by decide) ?_
    | with_reducible refine (kt_modDl ..).step (by decide) ?_
    | with_reducible refine (kt_add ..).step (by decide) ?_
    | with_reducible refine TKeeps.ite ?_ ?_
    | split

/-- `marker` changes at most: regs, ups. -/
theorem kt_marker (now : Nat) (d : Bool) (num : Nat) (raw : Nat) (t : Tladon) : TKeeps 2056 t (Tladon.marker now d num raw t) := by
  unfold Tladon.marker
  repeat' first
    | with_reducible exact TKeeps.refl _ _
    | with_reducible assumption
    | (extract_lets +onlyGivenNames x; refine TKeeps.cut (m := 2056) (s := t) (u := x) ?_ ?_; rotate_left; all_goals first | (intro _; clear_value x) | subst x)
    | (extract_lets +onlyGivenNames x; clear_value x)
    | with_reducible refine (kt_sendLow ..).step (by decide) ?_
    | with_reducible refine (kt_sets ..).step (by decide) ?_
    | with_reducible refine TKeeps.ite ?_ ?_
    | split

/-- `loseLock` changes at most: regs, dls. -/
theorem kt_loseLock (d : Bool) (t : Tladon) : TKeeps 1032 t (Tladon.loseLock d t) := by
  unfold Tladon.loseLock
  repeat' first
    | with_reducible exact TKeeps.refl _ _
    | with_reducible assumption
    | (extract_lets +onlyGivenNames x; refine TKeeps.cut (m := 1032) (s := t) (u := x) ?_ ?_; rotate_left; all_goals first | (intro _; clear_value x) | subst x)
    | (extract_lets +onlyGivenNames x; clear_value x)
    | with_reducible refine (kt_dropClaim ..).step (by decide) ?_
    | with_reducible refine (kt_modDl ..).step (by decide) ?_
    | with_reducible refine (kt_add ..).step (by decide) ?_
    | with_reducible refine (kt_set ..).step (by decide) ?_
    | with_reducible refine TKeeps.ite ?_ ?_
    | split

/-- `cellBody` changes at most: regs, epoch, sched, linkDue, dls, ups, chans, ints, gate, arm, cal, samps, refAt, sweep, monFrames, pad. -/
theorem kt_cellBody (now : Nat) (free : Nat) (d : Bool) (data : Nat) (raw : Nat) (t : Tladon) : TKeeps 24969000 t (Tladon.cellBody now free d data raw t) := by
  unfold Tladon.cellBody
  repeat' first
    | with_reducible exact TKeeps.refl _ _
    | with_reducible assumption
    | (extract_lets +onlyGivenNames x; refine TKeeps.cut (m := 24969000) (s := t) (u := x) ?_ ?_; rotate_left; all_goals first | (intro _; clear_value x) | subst x)
    | (extract_lets +onlyGivenNames x; clear_value x)
    | with_reducible refine (kt_marker ..).step (by decide) ?_
    | with_reducible refine (kt_commandWord ..).step (by decide) ?_
    | with_reducible refine (kt_modPad ..).step (by decide) ?_
    | with_reducible refine TKeeps.ite ?_ ?_
    | split

/-- `cell` changes at most: regs, epoch, sched, linkDue, dls, ups, chans, ints, gate, arm, cal, samps, refAt, sweep, monFrames, pad. -/
theorem kt_cell (now : Nat) (free : Nat) (d : Bool) (w : Nat) (raw : Nat) (t : Tladon) : TKeeps 24969000 t (Tladon.cell now free d w raw t) := by
  unfold Tladon.cell
  repeat' first
    | with_reducible exact TKeeps.refl _ _
    | with_reducible assumption
    | (extract_lets +onlyGivenNames x; refine TKeeps.cut (m := 24969000) (s := t) (u := x) ?_ ?_; rotate_left; all_goals first | (intro _; clear_value x) | subst x)
    | (extract_lets +onlyGivenNames x; clear_value x)
    | with_reducible refine (kt_cellBody ..).step (by decide) ?_
    | with_reducible refine (kt_loseLock ..).step (by decide) ?_
    | with_reducible refine (kt_modDl ..).step (by decide) ?_
    | with_reducible refine (kt_add ..).step (by decide) ?_
    | with_reducible refine (kt_set ..).step (by decide) ?_
    | with_reducible refine TKeeps.ite ?_ ?_
    | split

end Sys2Proof.Machine
end

