-- ==== Sys2Proof/Laws/TlRegs.lean ====
section
/-! SUPPORT. Which registers of a Tladon its larger operations may change. -/

namespace Sys2Proof.Machine

open Sys2Proof

namespace OnlyTlRegs

variable {l l' : List Fld} {s t u : Tladon}

/-- More registers may change. -/
theorem mono (h : OnlyTlRegs l s t) (k : ∀ f ∈ l, f ∈ l') : OnlyTlRegs l' s t := fun f hf => h f fun g hg => hf g (k g hg)

/-- One step after another. -/
theorem trans (h : OnlyTlRegs l s t) (k : OnlyTlRegs l t u) : OnlyTlRegs l s u := fun f hf => (k f hf).trans (h f hf)

/-- A fold. -/
theorem foldl {α : Type} {f : Tladon → α → Tladon} (m : List α) (h : OnlyTlRegs l s t)
    (k : ∀ x, ∀ a ∈ m, OnlyTlRegs l s x → OnlyTlRegs l s (f x a)) : OnlyTlRegs l s (m.foldl f t) := by
  induction m generalizing t with
  | nil => exact h
  | cons a m ih => exact ih (k t a List.mem_cons_self h) fun x b hb => k x b (List.mem_cons_of_mem _ hb)

/-- Sending a word changes no register. -/
theorem sendAll (w : Word64) (h : OnlyTlRegs l s t) : OnlyTlRegs l s (t.sendAll w) := of_regs h (by simp)

/-- Sending a word changes no register. -/
theorem sendLow (c : Nat) (w : Word64) (h : OnlyTlRegs l s t) : OnlyTlRegs l s (t.sendLow c w) := of_regs h (by simp)

end OnlyTlRegs

namespace Tladon

/-- Aborting a gate changes its status only. -/
theorem abortGate_regs (c : Nat) (t : Tladon) : OnlyTlRegs gateRegs t (t.abortGate c) := by
  unfold abortGate
  split
  · exact OnlyTlRegs.refl _ _
  · refine OnlyTlRegs.sets _ (OnlyTlRegs.of_regs (OnlyTlRegs.refl _ t) rfl) ?_
    simp [gateRegs]

/-- Leaving CONFIGURED and ACQUIRING changes the status of the gate, the sweep and the samplers only. -/
theorem quiesce_regs (t : Tladon) : OnlyTlRegs quiesceRegs t t.quiesce := by
  unfold quiesce
  refine OnlyTlRegs.foldl _ (OnlyTlRegs.set _ (OnlyTlRegs.of_regs ((abortGate_regs 2 t).mono ?_) rfl) ?_) ?_
  · intro f hf
    exact List.mem_append_left _ hf
  · simp [quiesceRegs]
  · intro x g hg h
    split
    · exact h
    · refine h.trans (OnlyTlRegs.of_regs (OnlyTlRegs.set (f := TR.SAMPG_STATE_STATE g) _ (OnlyTlRegs.refl _ x) ?_) rfl)
      exact List.mem_append_right _ (List.mem_cons_of_mem _ (List.mem_map_of_mem hg))

/-- A change of state changes the state, its cause, the accept count and what leaving a state clears. -/
theorem changeState_regs (now new cause : Nat) (t : Tladon) : OnlyTlRegs stateRegs t (t.changeState now new cause) := by
  unfold changeState
  extract_lets old a b c d
  have ha : OnlyTlRegs stateRegs t a := (OnlyTlRegs.refl _ t).sendLow _ _
  have hb : OnlyTlRegs stateRegs t b := by
    show OnlyTlRegs stateRegs t (if old = 3 ∧ new ≠ 3 then a.discard else a)
    split
    · exact OnlyTlRegs.of_regs ha rfl
    · exact ha
  have hc : OnlyTlRegs stateRegs t c := by
    show OnlyTlRegs stateRegs t (if (old = 2 ∨ old = 3) ∧ new ≠ 2 ∧ new ≠ 3 then b.quiesce else b)
    split
    · exact hb.trans ((quiesce_regs b).mono fun f hf => List.mem_append_left _ hf)
    · exact hb
  have hd : OnlyTlRegs stateRegs t d :=
    OnlyTlRegs.sets _ (OnlyTlRegs.of_regs hc rfl) (by simp [stateRegs])
  clear_value a b c d
  split
  · exact OnlyTlRegs.sets _ (OnlyTlRegs.of_regs hd rfl) (by simp [stateRegs])
  · exact hd

/-- After a change of state the state register holds the new one. -/
theorem changeState_state (now new cause : Nat) (h : new < 8) (t : Tladon) : (t.changeState now new cause).state = new := by
  unfold changeState
  extract_lets old a b c d
  have hd : d.state = new := by
    show RegFile.get TR.ID_STATE_STATE (RegFile.sets [(TR.ID_STATE_STATE, new), (TR.ID_STATE_CAUSE, cause)] c.regs) = new
    rw [RegFile.sets_cons, RegFile.sets_cons, RegFile.sets_nil, RegFile.get_set_other (by decide), RegFile.get_set_self]
    exact Nat.mod_eq_of_lt h
  clear_value a b c d
  split
  · rw [← hd]
    show RegFile.get TR.ID_STATE_STATE (RegFile.sets [(TR.PAD_ACC_CNT_ACCEPTS, 0)] d.regs) = _
    rw [RegFile.sets_cons, RegFile.sets_nil, RegFile.get_set_other (by decide)]
    rfl
  · exact hd

end Tladon

end Sys2Proof.Machine
end

