-- ==== Sys2Proof/Laws/Reads.lean ====
section
/-! SUPPORT. What reads back after the keyed updates of a Tladon. -/

namespace Sys2Proof.Machine

open Sys2Proof

namespace Tladon

/-- A changed channel reads as changed. -/
@[simp] theorem chan_modChan_self (c : Nat) (f : Chan → Chan) (t : Tladon) : (t.modChan c f).chan c = f (t.chan c) :=
  SMap.getD_modify_self _ _ _ _

/-- The other channels read as before. -/
theorem chan_modChan_other {c d : Nat} (h : d ≠ c) (f : Chan → Chan) (t : Tladon) : (t.modChan c f).chan d = t.chan d :=
  SMap.getD_modify_other h _ _ _

/-- Stores and counts leave the channels. -/
@[simp] theorem chan_set (f : Fld) (v c : Nat) (t : Tladon) : (t.set f v).chan c = t.chan c := rfl

/-- Stores and counts leave the channels. -/
@[simp] theorem chan_sets (l : List (Fld × Nat)) (c : Nat) (t : Tladon) : (t.sets l).chan c = t.chan c := rfl

/-- Stores and counts leave the channels. -/
@[simp] theorem chan_add (f : Fld) (n c : Nat) (t : Tladon) : (t.add f n).chan c = t.chan c := rfl

/-- A changed slot reads as changed. -/
@[simp] theorem slot_modSlot_self (k : Nat) (f : Slot → Slot) (t : Tladon) : (t.modSlot k f).slot k = f (t.slot k) :=
  SMap.getD_modify_self _ _ _ _

/-- The other slots read as before. -/
theorem slot_modSlot_other {j k : Nat} (h : j ≠ k) (f : Slot → Slot) (t : Tladon) : (t.modSlot k f).slot j = t.slot j :=
  SMap.getD_modify_other h _ _ _

/-- A changed sampler reads as changed. -/
@[simp] theorem samp_modSamp_self (g : Nat) (f : Sampler → Sampler) (t : Tladon) : (t.modSamp g f).samp g = f (t.samp g) :=
  SMap.getD_insert_self _ _ _ _

/-- The other samplers read as before. -/
theorem samp_modSamp_other {g h : Nat} (k : h ≠ g) (f : Sampler → Sampler) (t : Tladon) : (t.modSamp g f).samp h = t.samp h :=
  SMap.getD_insert_other k _ _ _

/-- Stores and counts leave the samplers. -/
@[simp] theorem samp_set (f : Fld) (v g : Nat) (t : Tladon) : (t.set f v).samp g = t.samp g := rfl

/-- Stores and counts leave the samplers. -/
@[simp] theorem samp_sets (l : List (Fld × Nat)) (g : Nat) (t : Tladon) : (t.sets l).samp g = t.samp g := rfl

/-- Stores and counts leave the samplers. -/
@[simp] theorem samp_add (f : Fld) (n g : Nat) (t : Tladon) : (t.add f n).samp g = t.samp g := rfl

/-- A stamped edge of an enabled interval unit. -/
theorem stampEdge_interval {now c raw r n : Nat} {t t' : Tladon} (h1 : t.get (TR.CH_CFG_MODE c) = 2)
    (h2 : t.get (TR.CHN_INT_STATUS_CFG_ERR (c / 64)) = 0) (h3 : t.intEdge now c = (r, n, t')) :
    (∃ e, ((t.stampEdge now c raw false).chan c).edge = some e ∧ e.role = r ∧ e.stop = n ∧ e.tick = t'.count now) ∧
      (t.stampEdge now c raw false).regs = t'.regs ∧ (t.stampEdge now c raw false).ints = t'.ints := by
  have h2' : t.on (TR.CHN_INT_STATUS_CFG_ERR (c / 64)) = false := by rw [on_eq, h2]; rfl
  unfold stampEdge
  extract_lets t0
  have et : t0 = t := rfl
  clear_value t0
  subst et
  simp -zeta only [h1, if_true, h2', Bool.false_eq_true, if_false, h3]
  extract_lets e t2
  have k : ∀ z : Tladon, z.chans = t2.chans → z.regs = t'.regs → z.ints = t'.ints →
      (∃ e, (z.chan c).edge = some e ∧ e.role = r ∧ e.stop = n ∧ e.tick = t'.count now) ∧ z.regs = t'.regs ∧ z.ints = t'.ints := by
    intro z a b d
    refine ⟨⟨e, ?_, rfl, rfl, rfl⟩, b, d⟩
    have : z.chan c = t2.chan c := by simp only [chan, a]
    rw [this]; simp [t2]
  split <;> exact k _ rfl rfl rfl

/-- A changed sampler changes its state register only. -/
theorem modSamp_regs {l : List Fld} {s t : Tladon} {g : Nat} (f : Sampler → Sampler) (h : OnlyTlRegs l s t)
    (k : TR.SAMPG_STATE_STATE g ∈ l) : OnlyTlRegs l s (t.modSamp g f) := fun x hx =>
  (RegFile.get_set_other (hx _ k) _ _).trans (h x hx)

/-- A changed sampler leaves the other registers. -/
theorem get_modSamp_other {f : Fld} {g : Nat} (h : f.key ≠ (TR.SAMPG_STATE_STATE g).key) (k : Sampler → Sampler)
    (t : Tladon) : (t.modSamp g k).get f = t.get f := RegFile.get_set_other h _ _

/-- What a fold over distinct groups does to one of them, where each step changes its own group only and reads of the
others nothing that they change. -/
theorem foldl_group {α β : Type} (F : Tladon → Nat → Tladon) (V : Nat → Tladon → α) (W : Nat → Tladon → β)
    (K : Nat → α → β) (hV : ∀ t g h, h ≠ g → V h (F t g) = V h t) (hW : ∀ t h, W h (F t h) = K h (V h t))
    (hO : ∀ t g h, h ≠ g → W h (F t g) = W h t) :
    ∀ (l : List Nat) (t : Tladon) (h : Nat), l.Nodup → (h ∈ l → W h (l.foldl F t) = K h (V h t)) ∧ (h ∉ l → W h (l.foldl F t) = W h t) := by
  intro l
  induction l with
  | nil => intro t h _; simp
  | cons a l ih =>
    intro t h n
    obtain ⟨n1, n2⟩ := List.nodup_cons.1 n
    obtain ⟨i1, i2⟩ := ih (F t a) h n2
    rw [List.foldl_cons]
    by_cases e : h = a
    · subst e
      refine ⟨fun _ => (i2 n1).trans (hW t h), fun k => absurd List.mem_cons_self k⟩
    · refine ⟨fun k => ?_, fun k => ?_⟩
      · rw [i1 ((List.mem_cons.1 k).resolve_left e), hV t a h e]
      · rw [i2 fun q => k (List.mem_cons_of_mem _ q), hO t a h e]

/-- A missed event leaves the other samplers. -/
theorem missEvent_samp_other {g h : Nat} (k : h ≠ g) (now : Nat) (t : Tladon) : (t.missEvent now g).samp h = t.samp h := by
  simp only [missEvent]
  split
  · rfl
  · simp [samp_modSamp_other k]

/-- A missed event changes its sampler's state register and count only. -/
theorem missEvent_regs {l : List Fld} {s t : Tladon} {g : Nat} (now : Nat) (a : OnlyTlRegs l s t)
    (b : TR.SAMPG_STATE_STATE g ∈ l) (c : TR.SAMPG_CNT_MISSED g ∈ l) : OnlyTlRegs l s (t.missEvent now g) := by
  simp only [missEvent]
  split
  · exact a
  · exact OnlyTlRegs.add _ (modSamp_regs _ a b) c

/-- An event leaves the other samplers. -/
theorem sampEvent_samp_other {g h : Nat} (k : h ≠ g) (e : Nat) (tr : Nat × Nat × Nat) (t : Tladon) :
    (t.sampEvent g e tr).samp h = t.samp h := by
  simp only [sampEvent]
  repeat' split
  all_goals simp [samp_modSamp_other k, missEvent_samp_other k]

/-- An event changes its sampler's state register and count only. -/
theorem sampEvent_regs {l : List Fld} {s t : Tladon} {g : Nat} (e : Nat) (tr : Nat × Nat × Nat) (a : OnlyTlRegs l s t)
    (b : TR.SAMPG_STATE_STATE g ∈ l) (c : TR.SAMPG_CNT_MISSED g ∈ l) : OnlyTlRegs l s (t.sampEvent g e tr) := by
  have d := missEvent_regs e a b c
  simp only [sampEvent]
  repeat' split
  all_goals first | exact d | exact modSamp_regs _ d b | exact modSamp_regs _ a b

/-- An armed sampler with enough history takes the event. -/
theorem sampEvent_takes {g e : Nat} {tr : Nat × Nat × Nat} {t : Tladon} (a : (t.samp g).st = 2)
    (b : (t.samp g).trig = none) (c : t.preOf g / 2 ≤ tr.1 - (t.samp g).since) :
    (t.sampEvent g e tr).samp g = { t.samp g with trig := some tr, st := if e < tr.1 then 3 else 2 } ∧
      OnlyTlRegs [TR.SAMPG_STATE_STATE g] t (t.sampEvent g e tr) := by
  simp only [sampEvent, b, a, c, and_self, if_true]
  exact ⟨by simp, modSamp_regs _ (OnlyTlRegs.refl _ t) (by simp)⟩

/-- A command that is heard, from a downlink that may send it and in a state that allows it, is obeyed and counted. -/
theorem gate'_obeys {d : Bool} {op arg : Nat} {t : Tladon} (f : Tladon → Tladon) (h : t.hears d = true)
    (k : (if op = 0x0A then true else if op = 0x10 ∨ op = 0x11 then !d || t.mirror else t.obeyed == some d) = true)
    (a : t.allowed op arg = true) : t.gate' d op arg f = f (t.add TR.LINK_CMD_CNT_OBEYED 1) := by
  simp only [gate', h, k, a, Bool.not_true, Bool.false_eq_true, if_false, Bool.and_self, if_true]

/-- A command that is heard and not from a downlink that may send it is refused. -/
theorem gate'_refuses {d : Bool} {op arg : Nat} {t : Tladon} (f : Tladon → Tladon) (h : t.hears d = true)
    (k : (if op = 0x0A then true else if op = 0x10 ∨ op = 0x11 then !d || t.mirror else t.obeyed == some d) = false) :
    t.gate' d op arg f = t.refuse := by
  simp only [gate', h, k, Bool.not_true, Bool.false_eq_true, if_false, Bool.false_and]

end Tladon

/-- A Tladon command that takes a free value. -/
theorem State.tladon_tlCmd (p : Nat) (f : Nat → Nat → Tladon → Tladon) (s : State) :
    ∃ z, s.tlCmd p f = .next z ∧ z.tladon p = f s.now (Config.freeValue s.freeCnt) (s.tladon p) ∧
      z.freeCnt = s.freeCnt + 1 ∧ ∀ q, q ≠ p → z.tladon q = s.tladon q := by
  refine ⟨_, rfl, ?_, rfl, fun q hq => ?_⟩
  · exact State.tladon_modTl_self p _ s
  · exact State.tladon_modTl_other hq _ s

end Sys2Proof.Machine
end

