-- ==== Sys2Proof/Laws/RegTable.lean ====
section
/-! SUPPORT. What holds of every row of the two register indexes: its fields stand in one register, at different
bits, and each reset value fits its field. -/

namespace Sys2Proof

/-- The fields of a row stand at its address, at different bits of one word, with reset values that fit. -/
def RegRow.ok (r : RegRow) : Bool :=
  r.flds.all (fun f => f.addr == r.addr && decide (f.lo ≤ f.hi) && decide (f.hi ≤ 31) && decide (f.reset < f.size)) &&
    decide ((r.flds.map (·.lo)).Nodup)

/-- What a list of fields of one register satisfies. -/
structure FldsOk (a : Nat) (fs : List Fld) : Prop where
  addr : ∀ f ∈ fs, f.addr = a
  fits : ∀ f ∈ fs, f.lo ≤ f.hi ∧ f.hi ≤ 31 ∧ f.reset < f.size
  keys : (fs.map Fld.key).Nodup

/-- Fields at one address with different lowest bits have different keys. -/
theorem nodup_keys {a : Nat} {fs : List Fld} (h : ∀ f ∈ fs, f.addr = a) (k : (fs.map (·.lo)).Nodup) :
    (fs.map Fld.key).Nodup := by
  induction fs with
  | nil => exact List.nodup_nil
  | cons f l ih =>
    rw [List.map_cons, List.nodup_cons] at *
    refine ⟨fun e => k.1 ?_, ih (fun g hg => h g (List.mem_cons_of_mem _ hg)) k.2⟩
    obtain ⟨g, hg, e⟩ := List.mem_map.1 e
    refine List.mem_map.2 ⟨g, hg, ?_⟩
    have h1 := h f List.mem_cons_self
    have h2 := h g (List.mem_cons_of_mem _ hg)
    unfold Fld.key at e
    omega

/-- The fields of an instance of a good row. -/
theorem RegRow.ok_at {r : RegRow} {a : Nat} {fs : List Fld} (h : r.ok = true) (e : r.at a = some fs) : FldsOk a fs := by
  unfold RegRow.ok at h
  simp only [Bool.and_eq_true, List.all_eq_true, beq_iff_eq, decide_eq_true_eq] at h
  obtain ⟨h1, h2⟩ := h
  unfold RegRow.at at e
  dsimp only at e
  rw [Option.ite_none_left_eq_some, Option.ite_none_right_eq_some] at e
  obtain ⟨hlt, -, e⟩ := e
  cases e
  have ha : ∀ f ∈ r.flds.map (Fld.shift (a - r.addr)), f.addr = a := by
    intro f hf
    obtain ⟨g, hg, rfl⟩ := List.mem_map.1 hf
    have := (h1 g hg).1.1.1
    simp only [Fld.shift]
    omega
  refine ⟨ha, fun f hf => ?_, nodup_keys ha ?_⟩
  · obtain ⟨g, hg, rfl⟩ := List.mem_map.1 hf
    exact ⟨(h1 g hg).1.1.2, (h1 g hg).1.2, (h1 g hg).2⟩
  · rw [List.map_map]
    exact h2

/-- The fields of a register that an index of good rows names. -/
theorem regAt_ok {rs : List RegRow} (h : ∀ r ∈ rs, r.ok = true) {a : Nat} {fs : List Fld} (e : regAt rs a = some fs) :
    FldsOk a fs := by
  induction rs with
  | nil => exact absurd e (by simp [regAt])
  | cons r l ih =>
    unfold regAt at e
    split at e
    · rename_i x hx
      cases e
      exact RegRow.ok_at (h r List.mem_cons_self) hx
    · exact ih (fun q hq => h q (List.mem_cons_of_mem _ hq)) e


/-- Rows of Wonan's index, part 0. -/
theorem WR.rows0_ok : ∀ r ∈ WR.rows0, r.ok = true := by decide

/-- Rows of Wonan's index, part 1. -/
theorem WR.rows1_ok : ∀ r ∈ WR.rows1, r.ok = true := by decide

/-- Rows of Wonan's index, part 2. -/
theorem WR.rows2_ok : ∀ r ∈ WR.rows2, r.ok = true := by decide

/-- Rows of Wonan's index, part 3. -/
theorem WR.rows3_ok : ∀ r ∈ WR.rows3, r.ok = true := by decide

/-- Rows of Wonan's index, part 4. -/
theorem WR.rows4_ok : ∀ r ∈ WR.rows4, r.ok = true := by decide

/-- Rows of Wonan's index, part 5. -/
theorem WR.rows5_ok : ∀ r ∈ WR.rows5, r.ok = true := by decide

/-- Rows of Wonan's index, part 6. -/
theorem WR.rows6_ok : ∀ r ∈ WR.rows6, r.ok = true := by decide

/-- Rows of Wonan's index, part 7. -/
theorem WR.rows7_ok : ∀ r ∈ WR.rows7, r.ok = true := by decide

/-- The fields of every register of Wonan. -/
theorem WR.regAt_fields {a : Nat} {fs : List Fld} (e : regAt WR.rows a = some fs) : FldsOk a fs := by
  refine regAt_ok (fun r hr => ?_) e
  unfold WR.rows at hr
  simp only [List.mem_append] at hr
  rcases hr with ((((((hr | hr) | hr) | hr) | hr) | hr) | hr) | hr
  · exact WR.rows0_ok r hr
  · exact WR.rows1_ok r hr
  · exact WR.rows2_ok r hr
  · exact WR.rows3_ok r hr
  · exact WR.rows4_ok r hr
  · exact WR.rows5_ok r hr
  · exact WR.rows6_ok r hr
  · exact WR.rows7_ok r hr

/-- Rows of Tladon's index, part 0. -/
theorem TR.rows0_ok : ∀ r ∈ TR.rows0, r.ok = true := by decide

/-- Rows of Tladon's index, part 1. -/
theorem TR.rows1_ok : ∀ r ∈ TR.rows1, r.ok = true := by decide

/-- Rows of Tladon's index, part 2. -/
theorem TR.rows2_ok : ∀ r ∈ TR.rows2, r.ok = true := by decide

/-- The fields of every register of Tladon. -/
theorem TR.regAt_fields {a : Nat} {fs : List Fld} (e : regAt TR.rows a = some fs) : FldsOk a fs := by
  refine regAt_ok (fun r hr => ?_) e
  unfold TR.rows at hr
  simp only [List.mem_append] at hr
  rcases hr with (hr | hr) | hr
  · exact TR.rows0_ok r hr
  · exact TR.rows1_ok r hr
  · exact TR.rows2_ok r hr

end Sys2Proof
end

