-- ==== Sys2Proof/Laws/SysKept.lean ====
section
/-! SUPPORT. `SysKept s t`: between `s` and `t` the registers of the system page (0x40000000 to 0x40007FFF: SYS_STATE
and what stands beside it) read alike. How it composes. -/

namespace Sys2Proof.Machine

open Sys2Proof

/-- The registers of the system page read alike. -/
structure SysKept (s t : State) : Prop where
  same : ∀ f : Fld, f.addr < 0x40008000 → f.lo < 32 → t.wget f = s.wget f

namespace SysKept

variable {α β : Type} {s t u : State}

/-- Nothing changes where nothing happens. -/
theorem refl (s : State) : SysKept s s := ⟨fun _ _ _ => rfl⟩

/-- One step after another. -/
theorem trans (h : SysKept s t) (k : SysKept t u) : SysKept s u :=
  ⟨fun f a b => (k.same f a b).trans (h.same f a b)⟩

/-- A further step. -/
theorem step (k : SysKept t u) (h : SysKept s t) : SysKept s u := h.trans k

/-- The state of Wonan stays. -/
theorem ws (h : SysKept s t) : t.ws = s.ws := h.same _ (by decide) (by decide)

/-- Equal register files read alike. -/
theorem ofWr (h : SysKept s t) (e : u.wr = t.wr) : SysKept s u :=
  ⟨fun f a b => by rw [← h.same f a b, State.wget, State.wget, e]⟩

/-- A step that leaves the registers. -/
theorem ofKeeps {m : Nat} (h : SysKept s t) (k : Keeps m t u) (e : m.testBit 4 = false) : SysKept s u := h.ofWr (k.1 .wr e)

/-- A register of another page has another key. -/
theorem key_ne {f g : Fld} (h : f.addr < 0x40008000) (k : f.lo < 32) (hg : 0x40008000 ≤ g.addr) : f.key ≠ g.key := by
  unfold Fld.key; omega

/-- A store to another page. -/
theorem wset {f : Fld} {v : Nat} (h : SysKept s t) (hf : 0x40008000 ≤ f.addr) : SysKept s (t.wset f v) :=
  ⟨fun g a b => (State.wget_wset_other (key_ne a b hf) v t).trans (h.same g a b)⟩

/-- A count on another page. -/
theorem wadd {f : Fld} {n : Nat} (h : SysKept s t) (hf : 0x40008000 ≤ f.addr) : SysKept s (t.wadd f n) :=
  ⟨fun g a b => (State.wget_wadd_other (key_ne a b hf) n t).trans (h.same g a b)⟩

/-- A high-water mark on another page. -/
theorem wraise {f : Fld} {n : Nat} (h : SysKept s t) (hf : 0x40008000 ≤ f.addr) : SysKept s (t.wraise f n) :=
  ⟨fun g a b => (State.wget_wraise_other (key_ne a b hf) n t).trans (h.same g a b)⟩

/-- Stores to other pages. -/
theorem wsets {l : List (Fld × Nat)} (h : SysKept s t) (hl : ∀ x ∈ l, 0x40008000 ≤ x.1.addr) : SysKept s (t.wsets l) :=
  ⟨fun g a b => (RegFile.get_sets_other l (fun x hx => key_ne a b (hl x hx)) t.wr).trans (h.same g a b)⟩

/-- A count under a condition. -/
theorem wcountIf {b : Bool} {f : Fld} (h : SysKept s t) (hf : 0x40008000 ≤ f.addr) : SysKept s (t.wcountIf b f) := by
  unfold State.wcountIf
  split
  · exact h.wadd hf
  · exact h

/-- An output. -/
theorem emit {o : Out} (h : SysKept s t) : SysKept s (t.emit o) := h.ofWr rfl

/-- A free value. -/
theorem fresh {n : Nat} (h : SysKept s t) : SysKept s (t.fresh n).2 := h.ofWr rfl

/-- A choice. -/
theorem ite {c : Prop} [Decidable c] (h : SysKept s t) (k : SysKept s u) : SysKept s (if c then t else u) := by
  split <;> assumption

/-- A choice between pairs. -/
theorem iteSnd {c : Prop} [Decidable c] {p q : α × State} (h : SysKept s p.2) (k : SysKept s q.2) :
    SysKept s (if c then p else q).2 := by
  split <;> assumption

/-- A fold. -/
theorem foldl {f : State → α → State} (l : List α) (h : SysKept s t) (k : ∀ x a, SysKept s x → SysKept s (f x a)) :
    SysKept s (l.foldl f t) := by
  induction l generalizing t with
  | nil => exact h
  | cons a l ih => exact ih (k t a h)

/-- The state of a pair known by an equation. -/
theorem ofSnd {p : α × State} {a : α} (e : p = (a, t)) (h : SysKept s p.2) : SysKept s t := by subst e; exact h

/-- The state of a triple known by an equation. -/
theorem ofThd {p : α × β × State} {a : α} {b : β} (e : p = (a, b, t)) (h : SysKept s p.2.2) : SysKept s t := by
  subst e; exact h

/-- The state of an option, or another. -/
theorem getD {o : Option State} (h : ∀ x, o = some x → SysKept s x) (k : SysKept s t) : SysKept s (o.getD t) := by
  cases o with
  | none => exact k
  | some x => exact h x rfl

/-- A fact about an intermediate state, first. -/
theorem cut {P : Prop} (h : SysKept s u) (k : SysKept s u → P) : P := k h

/-- A change of `pending`. -/
theorem upd_pending {v} (h : SysKept s t) : SysKept s { t with pending := v } := h.ofWr rfl

/-- A change of `freeCnt`. -/
theorem upd_freeCnt {v} (h : SysKept s t) : SysKept s { t with freeCnt := v } := h.ofWr rfl

/-- A change of `now`. -/
theorem upd_now {v} (h : SysKept s t) : SysKept s { t with now := v } := h.ofWr rfl

/-- A change of `out`. -/
theorem upd_out {v} (h : SysKept s t) : SysKept s { t with out := v } := h.ofWr rfl

/-- A change of `tl`. -/
theorem upd_tl {v} (h : SysKept s t) : SysKept s { t with tl := v } := h.ofWr rfl

/-- A change of `variant`. -/
theorem upd_variant {v} (h : SysKept s t) : SysKept s { t with variant := v } := h.ofWr rfl

/-- A change of `wclk`. -/
theorem upd_wclk {v} (h : SysKept s t) : SysKept s { t with wclk := v } := h.ofWr rfl

/-- A change of `mtime0`. -/
theorem upd_mtime0 {v} (h : SysKept s t) : SysKept s { t with mtime0 := v } := h.ofWr rfl

/-- A change of `mem`. -/
theorem upd_mem {v} (h : SysKept s t) : SysKept s { t with mem := v } := h.ofWr rfl

/-- A change of `mer`. -/
theorem upd_mer {v} (h : SysKept s t) : SysKept s { t with mer := v } := h.ofWr rfl

/-- A change of `tri`. -/
theorem upd_tri {v} (h : SysKept s t) : SysKept s { t with tri := v } := h.ofWr rfl

/-- A change of `lanes`. -/
theorem upd_lanes {v} (h : SysKept s t) : SysKept s { t with lanes := v } := h.ofWr rfl

/-- A change of `ports`. -/
theorem upd_ports {v} (h : SysKept s t) : SysKept s { t with ports := v } := h.ofWr rfl

/-- A change of `dlinks`. -/
theorem upd_dlinks {v} (h : SysKept s t) : SysKept s { t with dlinks := v } := h.ofWr rfl

/-- A change of `sch`. -/
theorem upd_sch {v} (h : SysKept s t) : SysKept s { t with sch := v } := h.ofWr rfl

/-- A change of `cores`. -/
theorem upd_cores {v} (h : SysKept s t) : SysKept s { t with cores := v } := h.ofWr rfl

/-- A change of `queues`. -/
theorem upd_queues {v} (h : SysKept s t) : SysKept s { t with queues := v } := h.ofWr rfl

/-- A change of `image`. -/
theorem upd_image {v} (h : SysKept s t) : SysKept s { t with image := v } := h.ofWr rfl

/-- A change of `pair`. -/
theorem upd_pair {v} (h : SysKept s t) : SysKept s { t with pair := v } := h.ofWr rfl

/-- A change of `mus`. -/
theorem upd_mus {v} (h : SysKept s t) : SysKept s { t with mus := v } := h.ofWr rfl

/-- A change of `cmp`. -/
theorem upd_cmp {v} (h : SysKept s t) : SysKept s { t with cmp := v } := h.ofWr rfl

/-- A change of `eth`. -/
theorem upd_eth {v} (h : SysKept s t) : SysKept s { t with eth := v } := h.ofWr rfl

/-- A change of `mems`. -/
theorem upd_mems {v} (h : SysKept s t) : SysKept s { t with mems := v } := h.ofWr rfl

/-- A change of `canid`. -/
theorem upd_canid {v} (h : SysKept s t) : SysKept s { t with canid := v } := h.ofWr rfl

/-- A change of `can`. -/
theorem upd_can {v} (h : SysKept s t) : SysKept s { t with can := v } := h.ofWr rfl

/-- A change of `gov`. -/
theorem upd_gov {v} (h : SysKept s t) : SysKept s { t with gov := v } := h.ofWr rfl

/-- A change of `sys`. -/
theorem upd_sys {v} (h : SysKept s t) : SysKept s { t with sys := v } := h.ofWr rfl

/-- A change of `mbx`. -/
theorem upd_mbx {v} (h : SysKept s t) : SysKept s { t with mbx := v } := h.ofWr rfl

/-- A change of `env`. -/
theorem upd_env {v} (h : SysKept s t) : SysKept s { t with env := v } := h.ofWr rfl

/-- A change of `pwr`. -/
theorem upd_pwr {v} (h : SysKept s t) : SysKept s { t with pwr := v } := h.ofWr rfl

/-- A change of `dbg`. -/
theorem upd_dbg {v} (h : SysKept s t) : SysKept s { t with dbg := v } := h.ofWr rfl

/-- A change of `taps`. -/
theorem upd_taps {v} (h : SysKept s t) : SysKept s { t with taps := v } := h.ofWr rfl

/-- A change of `held`. -/
theorem upd_held {v} (h : SysKept s t) : SysKept s { t with held := v } := h.ofWr rfl

end SysKept

/-- A step that leaves the registers leaves the system page. -/
theorem Keeps.sys {m : Nat} {s t u : State} (k : Keeps m t u) (e : m.testBit 4 = false) (h : SysKept s t) : SysKept s u :=
  h.ofKeeps k e

end Sys2Proof.Machine
end

