-- ==== Sys2Proof/Laws/SysWnMem.lean ====
section
/-! SUPPORT. The operations of Machine/WnMem.lean that leave the system page. -/

namespace Sys2Proof.Machine

open Sys2Proof

/-- `showMem` leaves the system page. -/
theorem y_showMem (s : State) : SysKept s (State.showMem s) := by
  unfold State.showMem
  repeat' first
    | with_reducible exact SysKept.refl _
    | with_reducible assumption
    | ((with_reducible refine SysKept.wsets ?_ ?_); rotate_left; (((repeat refine List.forall_mem_cons.2 ⟨by dsimp only; first | decide | exact Nat.le_add_right_of_le (by decide) | exact Nat.le_add_right_of_le (Nat.le_add_right_of_le (by decide)), ?_⟩); (intro _ h; cases h))))

/-- `memLog` leaves the system page. -/
theorem y_memLog (m : Nat) (i : Nat) (cls : Nat) (outcome : Nat) (src : Nat) (ch : Nat) (syn : Nat) (s : State) : SysKept s (State.memLog m i cls outcome src ch syn s) := by
  unfold State.memLog
  repeat' first
    | with_reducible exact SysKept.refl _
    | with_reducible assumption
    | with_reducible refine (y_showMem ..).step ?_
    | with_reducible refine (k_modMems ..).sys (by decide) ?_
    | ((with_reducible refine SysKept.wadd ?_ ?_); rotate_left; (first | decide | exact Nat.le_add_right_of_le (by decide) | exact Nat.le_add_right_of_le (Nat.le_add_right_of_le (by decide))))
    | ((with_reducible refine SysKept.wset ?_ ?_); rotate_left; (first | decide | exact Nat.le_add_right_of_le (by decide) | exact Nat.le_add_right_of_le (Nat.le_add_right_of_le (by decide))))
    | with_reducible refine SysKept.ite ?_ ?_
    | split

/-- `confirm` leaves the system page. -/
theorem y_confirm (m : Nat) (i : Nat) (s : State) : SysKept s (State.confirm m i s) := by
  unfold State.confirm
  repeat' first
    | with_reducible exact SysKept.refl _
    | with_reducible assumption
    | with_reducible refine (y_showMem ..).step ?_
    | with_reducible refine (k_modMems ..).sys (by decide) ?_
    | with_reducible refine SysKept.ite ?_ ?_
    | split

/-- `showSpares` leaves the system page. -/
theorem y_showSpares (m : Nat) (s : State) : SysKept s (State.showSpares m s) := by
  unfold State.showSpares
  repeat' first
    | with_reducible exact SysKept.refl _
    | with_reducible assumption
    | ((with_reducible refine SysKept.wsets ?_ ?_); rotate_left; (((repeat refine List.forall_mem_cons.2 ⟨by dsimp only; first | decide | exact Nat.le_add_right_of_le (by decide) | exact Nat.le_add_right_of_le (Nat.le_add_right_of_le (by decide)), ?_⟩); (intro _ h; cases h))))

/-- `remap` leaves the system page. -/
theorem y_remap (m : Nat) (i : Nat) (s : State) : SysKept s (State.remap m i s).2 := by
  unfold State.remap
  repeat' first
    | with_reducible exact SysKept.refl _
    | with_reducible assumption
    | (extract_lets +onlyGivenNames x; refine SysKept.cut (s := s) (u := x) ?_ ?_; rotate_left; all_goals first | (intro _; clear_value x) | subst x)
    | (extract_lets +onlyGivenNames x; clear_value x)
    | with_reducible refine (k_farCopy ..).sys (by decide) ?_
    | with_reducible refine (y_showSpares ..).step ?_
    | with_reducible refine (k_setFar ..).sys (by decide) ?_
    | with_reducible refine (k_modMems ..).sys (by decide) ?_
    | ((with_reducible refine SysKept.wset ?_ ?_); rotate_left; (first | decide | exact Nat.le_add_right_of_le (by decide) | exact Nat.le_add_right_of_le (Nat.le_add_right_of_le (by decide))))
    | with_reducible refine SysKept.iteSnd ?_ ?_
    | split
    | with_reducible dsimp only

/-- `lasting` leaves the system page. -/
theorem y_lasting (m : Nat) (i : Nat) (s : State) : SysKept s (State.lasting m i s).2 := by
  unfold State.lasting
  repeat' first
    | with_reducible exact SysKept.refl _
    | with_reducible assumption
    | (extract_lets +onlyGivenNames x; refine SysKept.cut (s := s) (u := x) ?_ ?_; rotate_left; all_goals first | (intro _; clear_value x) | subst x)
    | (extract_lets +onlyGivenNames x; clear_value x)
    | ((with_reducible refine SysKept.wadd ?_ ?_); rotate_left; (first | decide | exact Nat.le_add_right_of_le (by decide) | exact Nat.le_add_right_of_le (Nat.le_add_right_of_le (by decide))))
    | with_reducible refine SysKept.iteSnd ?_ ?_
    | split
    | with_reducible refine SysKept.ofSnd (by assumption) ?_
    | with_reducible refine (y_remap ..).step ?_
    | with_reducible dsimp only

/-- `retrySingle` leaves the system page. -/
theorem y_retrySingle (m : Nat) (i : Nat) (src : Nat) (ch : Nat) (cls : Nat) (syn : Nat) (fix : Nat) (again : Nat) (groom : Bool) (s : State) : SysKept s (State.retrySingle m i src ch cls syn fix again groom s) := by
  unfold State.retrySingle
  repeat' first
    | with_reducible exact SysKept.refl _
    | with_reducible assumption
    | (extract_lets +onlyGivenNames x; refine SysKept.cut (s := s) (u := x) ?_ ?_; rotate_left; all_goals first | (intro _; clear_value x) | subst x)
    | (extract_lets +onlyGivenNames x; clear_value x)
    | with_reducible refine (k_xorWord ..).sys (by decide) ?_
    | with_reducible refine (y_confirm ..).step ?_
    | with_reducible refine (y_memLog ..).step ?_
    | with_reducible refine (k_setFlips ..).sys (by decide) ?_
    | ((with_reducible refine SysKept.wadd ?_ ?_); rotate_left; (first | decide | exact Nat.le_add_right_of_le (by decide) | exact Nat.le_add_right_of_le (Nat.le_add_right_of_le (by decide))))
    | with_reducible refine SysKept.ite ?_ ?_
    | split
    | with_reducible refine SysKept.ofSnd (by assumption) ?_
    | with_reducible refine (y_lasting ..).step ?_
    | with_reducible dsimp only

/-- `memStand` leaves the system page. -/
theorem y_memStand (m : Nat) (i : Nat) (src : Nat) (ch : Nat) (cls : Nat) (syn : Nat) (s : State) : SysKept s (State.memStand m i src ch cls syn s) := by
  unfold State.memStand
  repeat' first
    | with_reducible exact SysKept.refl _
    | with_reducible assumption
    | (extract_lets +onlyGivenNames x; refine SysKept.cut (s := s) (u := x) ?_ ?_; rotate_left; all_goals first | (intro _; clear_value x) | subst x)
    | (extract_lets +onlyGivenNames x; clear_value x)
    | with_reducible refine (y_memLog ..).step ?_
    | ((with_reducible refine SysKept.wadd ?_ ?_); rotate_left; (first | decide | exact Nat.le_add_right_of_le (by decide) | exact Nat.le_add_right_of_le (Nat.le_add_right_of_le (by decide))))
    | ((with_reducible refine SysKept.wset ?_ ?_); rotate_left; (first | decide | exact Nat.le_add_right_of_le (by decide) | exact Nat.le_add_right_of_le (Nat.le_add_right_of_le (by decide))))
    | with_reducible refine SysKept.ite ?_ ?_
    | split

/-- `readWord` leaves the system page. -/
theorem y_readWord (m : Nat) (i : Nat) (src : Nat) (ch : Nat) (groom : Bool) (u : Upset) (s : State) : SysKept s (State.readWord m i src ch groom u s).2.2 := by
  unfold State.readWord
  repeat' first
    | with_reducible exact SysKept.refl _
    | with_reducible assumption
    | (extract_lets +onlyGivenNames x; refine SysKept.cut (s := s) (u := x) ?_ ?_; rotate_left; all_goals first | (intro _; clear_value x) | subst x)
    | (extract_lets +onlyGivenNames x; clear_value x)
    | with_reducible refine (y_memStand ..).step ?_
    | with_reducible refine (y_retrySingle ..).step ?_
    | with_reducible refine (y_confirm ..).step ?_
    | with_reducible refine (y_memLog ..).step ?_
    | with_reducible refine (k_setFlips ..).sys (by decide) ?_
    | ((with_reducible refine SysKept.wadd ?_ ?_); rotate_left; (first | decide | exact Nat.le_add_right_of_le (by decide) | exact Nat.le_add_right_of_le (Nat.le_add_right_of_le (by decide))))
    | split
    | with_reducible dsimp only

/-- `unitStand` leaves the system page. -/
theorem y_unitStand (m : Nat) (src : Nat) (s : State) : SysKept s (State.unitStand m src s) := by
  unfold State.unitStand
  repeat' first
    | with_reducible exact SysKept.refl _
    | with_reducible assumption
    | (extract_lets +onlyGivenNames x; refine SysKept.cut (s := s) (u := x) ?_ ?_; rotate_left; all_goals first | (intro _; clear_value x) | subst x)
    | (extract_lets +onlyGivenNames x; clear_value x)
    | with_reducible refine (y_memStand ..).step ?_
    | split
    | with_reducible refine SysKept.ofSnd (by assumption) ?_
    | with_reducible refine SysKept.fresh ?_
    | with_reducible dsimp only

/-- `memRead` leaves the system page. -/
theorem y_memRead (a : Nat) (n : Nat) (src : Nat) (ch : Nat) (u : Upset) (s : State) : SysKept s (State.memRead a n src ch u s).2.2 := by
  unfold State.memRead
  repeat' first
    | with_reducible exact SysKept.refl _
    | with_reducible assumption
    | (extract_lets +onlyGivenNames x; refine SysKept.cut (s := s) (u := x) ?_ ?_; rotate_left; all_goals first | (intro _; clear_value x) | subst x)
    | (extract_lets +onlyGivenNames x; clear_value x)
    | split
    | with_reducible refine SysKept.ofThd (by assumption) ?_
    | with_reducible refine (y_readWord ..).step ?_
    | with_reducible dsimp only

/-- `fullWrite` leaves the system page. -/
theorem y_fullWrite (m : Nat) (i : Nat) (s : State) : SysKept s (State.fullWrite m i s) := by
  unfold State.fullWrite
  repeat' first
    | with_reducible exact SysKept.refl _
    | with_reducible assumption
    | (extract_lets +onlyGivenNames x; refine SysKept.cut (s := s) (u := x) ?_ ?_; rotate_left; all_goals first | (intro _; clear_value x) | subst x)
    | (extract_lets +onlyGivenNames x; clear_value x)
    | with_reducible refine (y_showMem ..).step ?_
    | with_reducible refine (k_setFlips ..).sys (by decide) ?_
    | with_reducible refine (k_modMems ..).sys (by decide) ?_
    | ((with_reducible refine SysKept.wset ?_ ?_); rotate_left; (first | decide | exact Nat.le_add_right_of_le (by decide) | exact Nat.le_add_right_of_le (Nat.le_add_right_of_le (by decide))))
    | with_reducible refine SysKept.ite ?_ ?_
    | split
    | with_reducible dsimp only

/-- `memWrite` leaves the system page. -/
theorem y_memWrite (a : Nat) (bs : List Nat) (src : Nat) (ch : Nat) (u : Upset) (s : State) : SysKept s (State.memWrite a bs src ch u s).2 := by
  unfold State.memWrite
  repeat' first
    | with_reducible exact SysKept.refl _
    | with_reducible assumption
    | (extract_lets +onlyGivenNames x; refine SysKept.cut (s := s) (u := x) ?_ ?_; rotate_left; all_goals first | (intro _; clear_value x) | subst x)
    | (extract_lets +onlyGivenNames x; clear_value x)
    | with_reducible refine (y_fullWrite ..).step ?_
    | with_reducible refine (k_setBytes ..).sys (by decide) ?_
    | with_reducible refine SysKept.iteSnd ?_ ?_
    | split
    | with_reducible refine SysKept.ofThd (by assumption) ?_
    | with_reducible refine (y_readWord ..).step ?_
    | with_reducible dsimp only

/-- `groomMove` leaves the system page. -/
theorem y_groomMove (m : Nat) (s : State) : SysKept s (State.groomMove m s) := by
  unfold State.groomMove
  repeat' first
    | with_reducible exact SysKept.refl _
    | with_reducible assumption
    | (extract_lets +onlyGivenNames x; refine SysKept.cut (s := s) (u := x) ?_ ?_; rotate_left; all_goals first | (intro _; clear_value x) | subst x)
    | (extract_lets +onlyGivenNames x; clear_value x)
    | with_reducible refine (k_modMems ..).sys (by decide) ?_
    | ((with_reducible refine SysKept.wset ?_ ?_); rotate_left; (first | decide | exact Nat.le_add_right_of_le (by decide) | exact Nat.le_add_right_of_le (Nat.le_add_right_of_le (by decide))))
    | with_reducible refine SysKept.ite ?_ ?_
    | split

/-- `groomVisit` leaves the system page. -/
theorem y_groomVisit (m : Nat) (u : Upset) (s : State) : SysKept s (State.groomVisit m u s) := by
  unfold State.groomVisit
  repeat' first
    | with_reducible exact SysKept.refl _
    | with_reducible assumption
    | with_reducible refine (y_groomMove ..).step ?_
    | with_reducible refine SysKept.ite ?_ ?_
    | split
    | with_reducible refine SysKept.ofThd (by assumption) ?_
    | with_reducible refine (y_readWord ..).step ?_
    | with_reducible dsimp only

/-- `groomConfirm` leaves the system page. -/
theorem y_groomConfirm (u : Upset) (s : State) : SysKept s (s.groomConfirm u) := by
  unfold State.groomConfirm
  split
  · exact SysKept.refl _
  · rename_i m i _ _
    split
    · exact SysKept.refl _
    · dsimp only
      have k := y_readWord m i 0 0 true u s
      generalize s.readWord m i 0 0 true u = r at k
      obtain ⟨bad, v, t⟩ := r
      dsimp only at k ⊢
      have k2 : SysKept s ((t.modMems fun x => { x with confirm := x.confirm.erase (m, i) }).showMem) :=
        (y_showMem ..).step (k.ofWr rfl)
      generalize (t.modMems fun x => { x with confirm := x.confirm.erase (m, i) }).showMem = t2 at k2
      split
      · exact ((y_lasting m i t2).step k2).ofWr rfl
      · split
        · exact k2.wadd (Nat.le_add_right_of_le (by decide))
        · exact k2

/-- `showLog` leaves the system page. -/
theorem y_showLog (s : State) : SysKept s (State.showLog s) := by
  unfold State.showLog
  repeat' first
    | with_reducible exact SysKept.refl _
    | with_reducible assumption
    | ((with_reducible refine SysKept.wsets ?_ ?_); rotate_left; (((repeat refine List.forall_mem_cons.2 ⟨by dsimp only; first | decide | exact Nat.le_add_right_of_le (by decide) | exact Nat.le_add_right_of_le (Nat.le_add_right_of_le (by decide)), ?_⟩); (intro _ h; cases h))))
    | ((with_reducible refine SysKept.wset ?_ ?_); rotate_left; (first | decide | exact Nat.le_add_right_of_le (by decide) | exact Nat.le_add_right_of_le (Nat.le_add_right_of_le (by decide))))
    | split

/-- `readLog` leaves the system page. -/
theorem y_readLog (s : State) : SysKept s (State.readLog s) := by
  unfold State.readLog
  repeat' first
    | with_reducible exact SysKept.refl _
    | with_reducible assumption
    | with_reducible refine (y_showLog ..).step ?_
    | with_reducible refine (y_showMem ..).step ?_
    | with_reducible refine (k_modMems ..).sys (by decide) ?_

/-- `showFar` leaves the system page. -/
theorem y_showFar (s : State) : SysKept s (State.showFar s) := by
  unfold State.showFar
  repeat' first
    | with_reducible exact SysKept.refl _
    | with_reducible assumption
    | (extract_lets +onlyGivenNames x; refine SysKept.cut (s := s) (u := x) ?_ ?_; rotate_left; all_goals first | (intro _; clear_value x) | subst x)
    | (extract_lets +onlyGivenNames x; clear_value x)
    | ((with_reducible refine SysKept.wsets ?_ ?_); rotate_left; (((repeat refine List.forall_mem_cons.2 ⟨by dsimp only; first | decide | exact Nat.le_add_right_of_le (by decide) | exact Nat.le_add_right_of_le (Nat.le_add_right_of_le (by decide)), ?_⟩); (intro _ h; cases h))))
    | with_reducible refine SysKept.ite ?_ ?_
    | split
    | with_reducible dsimp only

/-- `writeFar` leaves the system page. -/
theorem y_writeFar (v : Nat) (s : State) : SysKept s (State.writeFar v s) := by
  unfold State.writeFar
  repeat' first
    | with_reducible exact SysKept.refl _
    | with_reducible assumption
    | (extract_lets +onlyGivenNames x; refine SysKept.cut (s := s) (u := x) ?_ ?_; rotate_left; all_goals first | (intro _; clear_value x) | subst x)
    | (extract_lets +onlyGivenNames x; clear_value x)
    | with_reducible refine (y_showFar ..).step ?_
    | with_reducible refine (k_farCopy ..).sys (by decide) ?_
    | with_reducible refine (y_showSpares ..).step ?_
    | with_reducible refine (k_setFar ..).sys (by decide) ?_
    | ((with_reducible refine SysKept.wset ?_ ?_); rotate_left; (first | decide | exact Nat.le_add_right_of_le (by decide) | exact Nat.le_add_right_of_le (Nat.le_add_right_of_le (by decide))))
    | with_reducible refine SysKept.ite ?_ ?_
    | split
    | with_reducible dsimp only

/-- `memClear` leaves the system page. -/
theorem y_memClear (s : State) : SysKept s (State.memClear s) := by
  unfold State.memClear
  repeat' first
    | with_reducible exact SysKept.refl _
    | with_reducible assumption
    | (extract_lets +onlyGivenNames x; refine SysKept.cut (s := s) (u := x) ?_ ?_; rotate_left; all_goals first | (intro _; clear_value x) | subst x)
    | (extract_lets +onlyGivenNames x; clear_value x)
    | with_reducible refine (y_showMem ..).step ?_
    | with_reducible refine (k_modMems ..).sys (by decide) ?_
    | ((with_reducible refine SysKept.wsets ?_ ?_); rotate_left; (((repeat refine List.forall_mem_cons.2 ⟨by dsimp only; first | decide | exact Nat.le_add_right_of_le (by decide) | exact Nat.le_add_right_of_le (Nat.le_add_right_of_le (by decide)), ?_⟩); (intro _ h; cases h))))
    | ((with_reducible refine SysKept.wset ?_ ?_); rotate_left; (first | decide | exact Nat.le_add_right_of_le (by decide) | exact Nat.le_add_right_of_le (Nat.le_add_right_of_le (by decide))))
    | with_reducible refine SysKept.foldl _ ?_ (fun _ _ _ => ?_)
    | split

end Sys2Proof.Machine
end

