-- ==== Sys2Proof/Laws/SysWnEnvOps.lean ====
section
/-! SUPPORT. The operations of Machine/WnEnvOps.lean that leave the system page. -/

namespace Sys2Proof.Machine

open Sys2Proof

/-- `ilEval` leaves the system page. -/
theorem y_ilEval (k : Nat) (s : State) : SysKept s (State.ilEval k s) := by
  unfold State.ilEval
  repeat' first
    | with_reducible exact SysKept.refl _
    | with_reducible assumption
    | (extract_lets +onlyGivenNames x; refine SysKept.cut (s := s) (u := x) ?_ ?_; rotate_left; all_goals first | (intro _; clear_value x) | subst x)
    | (extract_lets +onlyGivenNames x; clear_value x)
    | ((with_reducible refine SysKept.wadd ?_ ?_); rotate_left; (first | decide | exact Nat.le_add_right_of_le (by decide) | exact Nat.le_add_right_of_le (Nat.le_add_right_of_le (by decide))))
    | ((with_reducible refine SysKept.wsets ?_ ?_); rotate_left; (((repeat refine List.forall_mem_cons.2 ⟨by dsimp only; first | decide | exact Nat.le_add_right_of_le (by decide) | exact Nat.le_add_right_of_le (Nat.le_add_right_of_le (by decide)), ?_⟩); (intro _ h; cases h))))
    | ((with_reducible refine SysKept.wset ?_ ?_); rotate_left; (first | decide | exact Nat.le_add_right_of_le (by decide) | exact Nat.le_add_right_of_le (Nat.le_add_right_of_le (by decide))))
    | with_reducible refine SysKept.ite ?_ ?_
    | split

/-- `envAbandon` leaves the system page. -/
theorem y_envAbandon (s : State) : SysKept s (State.envAbandon s) := by
  unfold State.envAbandon
  repeat' first
    | with_reducible exact SysKept.refl _
    | with_reducible assumption
    | with_reducible refine (k_modEnv ..).sys (by decide) ?_
    | ((with_reducible refine SysKept.wset ?_ ?_); rotate_left; (first | decide | exact Nat.le_add_right_of_le (by decide) | exact Nat.le_add_right_of_le (Nat.le_add_right_of_le (by decide))))
    | with_reducible refine SysKept.ite ?_ ?_
    | split

/-- `envShow` leaves the system page. -/
theorem y_envShow (s : State) : SysKept s (State.envShow s) := by
  unfold State.envShow
  repeat' first
    | with_reducible exact SysKept.refl _
    | with_reducible assumption
    | (extract_lets +onlyGivenNames x; refine SysKept.cut (s := s) (u := x) ?_ ?_; rotate_left; all_goals first | (intro _; clear_value x) | subst x)
    | (extract_lets +onlyGivenNames x; clear_value x)
    | with_reducible refine (y_envAbandon ..).step ?_
    | with_reducible refine (y_ilEval ..).step ?_
    | ((with_reducible refine SysKept.wsets ?_ ?_); rotate_left; (((repeat refine List.forall_mem_cons.2 ⟨by dsimp only; first | decide | exact Nat.le_add_right_of_le (by decide) | exact Nat.le_add_right_of_le (Nat.le_add_right_of_le (by decide)), ?_⟩); (intro _ h; cases h))))
    | ((with_reducible refine SysKept.wset ?_ ?_); rotate_left; (first | decide | exact Nat.le_add_right_of_le (by decide) | exact Nat.le_add_right_of_le (Nat.le_add_right_of_le (by decide))))
    | with_reducible refine SysKept.foldl _ ?_ (fun _ _ _ => ?_)

end Sys2Proof.Machine
end

