-- ==== Sys2Proof/Laws/SysWnSch.lean ====
section
/-! SUPPORT. The operations of Machine/WnSch.lean that leave the system page. -/

namespace Sys2Proof.Machine

open Sys2Proof

/-- `traceEntry` leaves the system page. -/
theorem y_traceEntry (kind : Nat) (core : Nat) (task : Nat) (prio : Nat) (resume : Bool) (flow : Option Nat) (detail : Nat) (s : State) : SysKept s (State.traceEntry kind core task prio resume flow detail s) := by
  unfold State.traceEntry
  repeat' first
    | with_reducible exact SysKept.refl _
    | with_reducible assumption
    | (extract_lets +onlyGivenNames x; refine SysKept.cut (s := s) (u := x) ?_ ?_; rotate_left; all_goals first | (intro _; clear_value x) | subst x)
    | (extract_lets +onlyGivenNames x; clear_value x)
    | with_reducible refine (k_modSch ..).sys (by decide) ?_
    | ((with_reducible refine SysKept.wset ?_ ?_); rotate_left; (first | decide | exact Nat.le_add_right_of_le (by decide) | exact Nat.le_add_right_of_le (Nat.le_add_right_of_le (by decide))))
    | with_reducible refine SysKept.ite ?_ ?_
    | split

/-- `traceItem` leaves the system page. -/
theorem y_traceItem (kind : Nat) (core : Nat) (i : Item) (detail : Nat) (s : State) : SysKept s (State.traceItem kind core i detail s) := by
  unfold State.traceItem
  repeat' first
    | with_reducible exact SysKept.refl _
    | with_reducible assumption
    | with_reducible refine (y_traceEntry ..).step ?_
    | with_reducible refine SysKept.ite ?_ ?_
    | split

/-- `raiseDepths` leaves the system page. -/
theorem y_raiseDepths (s : State) : SysKept s (State.raiseDepths s) := by
  unfold State.raiseDepths
  repeat' first
    | with_reducible exact SysKept.refl _
    | with_reducible assumption
    | ((with_reducible refine SysKept.wraise ?_ ?_); rotate_left; (first | decide | exact Nat.le_add_right_of_le (by decide) | exact Nat.le_add_right_of_le (Nat.le_add_right_of_le (by decide))))
    | with_reducible refine SysKept.foldl _ ?_ (fun _ _ _ => ?_)

/-- `newItem` leaves the system page. -/
theorem y_newItem (t : Nat) (isFlag : Bool) (flow : Option Nat) (arg : Nat) (why : Nat) (s : State) : SysKept s (State.newItem t isFlag flow arg why s) := by
  unfold State.newItem
  repeat' first
    | with_reducible exact SysKept.refl _
    | with_reducible assumption
    | (extract_lets +onlyGivenNames x; refine SysKept.cut (s := s) (u := x) ?_ ?_; rotate_left; all_goals first | (intro _; clear_value x) | subst x)
    | (extract_lets +onlyGivenNames x; clear_value x)
    | with_reducible refine (y_raiseDepths ..).step ?_
    | with_reducible refine (k_pushTail ..).sys (by decide) ?_
    | with_reducible refine (k_standTouch ..).sys (by decide) ?_
    | with_reducible refine (y_traceItem ..).step ?_

/-- `evalTask` leaves the system page. -/
theorem y_evalTask (t : Nat) (why : Nat) (s : State) : SysKept s (State.evalTask t why s) := by
  unfold State.evalTask
  repeat' first
    | with_reducible exact SysKept.refl _
    | with_reducible assumption
    | with_reducible refine (y_newItem ..).step ?_
    | with_reducible refine SysKept.ite ?_ ?_
    | split

/-- `setFlag` leaves the system page. -/
theorem y_setFlag (t : Nat) (f : Nat) (s : State) : SysKept s (State.setFlag t f s) := by
  unfold State.setFlag
  repeat' first
    | with_reducible exact SysKept.refl _
    | with_reducible assumption
    | with_reducible refine (y_evalTask ..).step ?_
    | ((with_reducible refine SysKept.wset ?_ ?_); rotate_left; (first | decide | exact Nat.le_add_right_of_le (by decide) | exact Nat.le_add_right_of_le (Nat.le_add_right_of_le (by decide))))
    | with_reducible refine SysKept.ite ?_ ?_
    | split

/-- `post` leaves the system page. -/
theorem y_post (t : Nat) (sel : Nat) (flow : Nat) (arg : Nat) (s : State) : SysKept s (State.post t sel flow arg s) := by
  unfold State.post
  repeat' first
    | with_reducible exact SysKept.refl _
    | with_reducible assumption
    | with_reducible refine (y_newItem ..).step ?_
    | ((with_reducible refine SysKept.wadd ?_ ?_); rotate_left; (first | decide | exact Nat.le_add_right_of_le (by decide) | exact Nat.le_add_right_of_le (Nat.le_add_right_of_le (by decide))))
    | ((with_reducible refine SysKept.wset ?_ ?_); rotate_left; (first | decide | exact Nat.le_add_right_of_le (by decide) | exact Nat.le_add_right_of_le (Nat.le_add_right_of_le (by decide))))
    | with_reducible refine SysKept.ite ?_ ?_
    | split

/-- `postRecovery` leaves the system page. -/
theorem y_postRecovery (arg : Nat) (s : State) : SysKept s (State.postRecovery arg s) := by
  unfold State.postRecovery
  repeat' first
    | with_reducible exact SysKept.refl _
    | with_reducible assumption
    | with_reducible refine (y_newItem ..).step ?_

/-- `consume` leaves the system page. -/
theorem y_consume (i : Item) (s : State) : SysKept s (State.consume i s).2 := by
  unfold State.consume
  repeat' first
    | with_reducible exact SysKept.refl _
    | with_reducible assumption
    | (extract_lets +onlyGivenNames x; refine SysKept.cut (s := s) (u := x) ?_ ?_; rotate_left; all_goals first | (intro _; clear_value x) | subst x)
    | (extract_lets +onlyGivenNames x; clear_value x)
    | with_reducible refine (k_modSch ..).sys (by decide) ?_
    | ((with_reducible refine SysKept.wset ?_ ?_); rotate_left; (first | decide | exact Nat.le_add_right_of_le (by decide) | exact Nat.le_add_right_of_le (Nat.le_add_right_of_le (by decide))))
    | with_reducible refine SysKept.iteSnd ?_ ?_
    | split
    | with_reducible dsimp only

/-- `preemptRun` leaves the system page. -/
theorem y_preemptRun (n : Nat) (by' : Nat) (s : State) : SysKept s (State.preemptRun n by' s) := by
  unfold State.preemptRun
  repeat' first
    | with_reducible exact SysKept.refl _
    | with_reducible assumption
    | (extract_lets +onlyGivenNames x; refine SysKept.cut (s := s) (u := x) ?_ ?_; rotate_left; all_goals first | (intro _; clear_value x) | subst x)
    | (extract_lets +onlyGivenNames x; clear_value x)
    | with_reducible refine (k_addBusy ..).sys (by decide) ?_
    | with_reducible refine (k_pushHead ..).sys (by decide) ?_
    | with_reducible refine (y_traceItem ..).step ?_
    | with_reducible refine (k_modSchCore ..).sys (by decide) ?_
    | split

/-- `claim` leaves the system page. -/
theorem y_claim (n : Nat) (s : State) : SysKept s (State.claim n s) := by
  unfold State.claim
  repeat' first
    | with_reducible exact SysKept.refl _
    | with_reducible assumption
    | (extract_lets +onlyGivenNames x; refine SysKept.cut (s := s) (u := x) ?_ ?_; rotate_left; all_goals first | (intro _; clear_value x) | subst x)
    | (extract_lets +onlyGivenNames x; clear_value x)
    | with_reducible refine (y_preemptRun ..).step ?_
    | with_reducible refine (k_addBusy ..).sys (by decide) ?_
    | with_reducible refine (y_traceItem ..).step ?_
    | with_reducible refine (y_traceEntry ..).step ?_
    | with_reducible refine (k_modSchCore ..).sys (by decide) ?_
    | with_reducible refine (k_modSch ..).sys (by decide) ?_
    | ((with_reducible refine SysKept.wsets ?_ ?_); rotate_left; (((repeat refine List.forall_mem_cons.2 ⟨by dsimp only; first | decide | exact Nat.le_add_right_of_le (by decide) | exact Nat.le_add_right_of_le (Nat.le_add_right_of_le (by decide)), ?_⟩); (intro _ h; cases h))))
    | ((with_reducible refine SysKept.wset ?_ ?_); rotate_left; (first | decide | exact Nat.le_add_right_of_le (by decide) | exact Nat.le_add_right_of_le (Nat.le_add_right_of_le (by decide))))
    | with_reducible refine SysKept.ite ?_ ?_
    | split
    | with_reducible refine SysKept.ofSnd (by assumption) ?_
    | with_reducible refine (y_consume ..).step ?_
    | with_reducible dsimp only

/-- `npEnd` leaves the system page. -/
theorem y_npEnd (n : Nat) (s : State) : SysKept s (State.npEnd n s) := by
  unfold State.npEnd
  repeat' first
    | with_reducible exact SysKept.refl _
    | with_reducible assumption
    | with_reducible refine (k_modSchCore ..).sys (by decide) ?_
    | ((with_reducible refine SysKept.wraise ?_ ?_); rotate_left; (first | decide | exact Nat.le_add_right_of_le (by decide) | exact Nat.le_add_right_of_le (Nat.le_add_right_of_le (by decide))))
    | split

/-- `endItem` leaves the system page. -/
theorem y_endItem (n : Nat) (s : State) : SysKept s (State.endItem n s) := by
  unfold State.endItem
  repeat' first
    | with_reducible exact SysKept.refl _
    | with_reducible assumption
    | (extract_lets +onlyGivenNames x; refine SysKept.cut (s := s) (u := x) ?_ ?_; rotate_left; all_goals first | (intro _; clear_value x) | subst x)
    | (extract_lets +onlyGivenNames x; clear_value x)
    | with_reducible refine (y_npEnd ..).step ?_
    | with_reducible refine (k_addBusy ..).sys (by decide) ?_
    | with_reducible refine (y_evalTask ..).step ?_
    | with_reducible refine (k_standTouch ..).sys (by decide) ?_
    | with_reducible refine (y_traceItem ..).step ?_
    | with_reducible refine (y_traceEntry ..).step ?_
    | with_reducible refine (k_modSchCore ..).sys (by decide) ?_
    | with_reducible refine SysKept.ite ?_ ?_
    | split

/-- `writeNp` leaves the system page. -/
theorem y_writeNp (n : Nat) (v : Bool) (s : State) : SysKept s (State.writeNp n v s) := by
  unfold State.writeNp
  repeat' first
    | with_reducible exact SysKept.refl _
    | with_reducible assumption
    | (extract_lets +onlyGivenNames x; refine SysKept.cut (s := s) (u := x) ?_ ?_; rotate_left; all_goals first | (intro _; clear_value x) | subst x)
    | (extract_lets +onlyGivenNames x; clear_value x)
    | with_reducible refine (y_npEnd ..).step ?_
    | with_reducible refine (k_unreserve ..).sys (by decide) ?_
    | with_reducible refine (k_modSchCore ..).sys (by decide) ?_
    | ((with_reducible refine SysKept.wset ?_ ?_); rotate_left; (first | decide | exact Nat.le_add_right_of_le (by decide) | exact Nat.le_add_right_of_le (Nat.le_add_right_of_le (by decide))))
    | with_reducible refine SysKept.ite ?_ ?_
    | split

/-- `writeCoreCtrl` leaves the system page. -/
theorem y_writeCoreCtrl (n : Nat) (v : Nat) (s : State) : SysKept s (State.writeCoreCtrl n v s) := by
  unfold State.writeCoreCtrl
  repeat' first
    | with_reducible exact SysKept.refl _
    | with_reducible assumption
    | (extract_lets +onlyGivenNames x; refine SysKept.cut (s := s) (u := x) ?_ ?_; rotate_left; all_goals first | (intro _; clear_value x) | subst x)
    | (extract_lets +onlyGivenNames x; clear_value x)
    | with_reducible refine (y_writeNp ..).step ?_
    | with_reducible refine (k_unreserve ..).sys (by decide) ?_
    | ((with_reducible refine SysKept.wset ?_ ?_); rotate_left; (first | decide | exact Nat.le_add_right_of_le (by decide) | exact Nat.le_add_right_of_le (Nat.le_add_right_of_le (by decide))))
    | with_reducible refine SysKept.ite ?_ ?_
    | split

/-- `discardItem` leaves the system page. -/
theorem y_discardItem (s : State) (i : Item) : SysKept s (State.discardItem s i) := by
  unfold State.discardItem
  repeat' first
    | with_reducible exact SysKept.refl _
    | with_reducible assumption
    | with_reducible refine (y_traceItem ..).step ?_

/-- `disableTask` leaves the system page. -/
theorem y_disableTask (t : Nat) (s : State) : SysKept s (State.disableTask t s) := by
  unfold State.disableTask
  repeat' first
    | with_reducible exact SysKept.refl _
    | with_reducible assumption
    | (extract_lets +onlyGivenNames x; refine SysKept.cut (s := s) (u := x) ?_ ?_; rotate_left; all_goals first | (intro _; clear_value x) | subst x)
    | (extract_lets +onlyGivenNames x; clear_value x)
    | with_reducible refine (y_discardItem ..).step ?_
    | with_reducible refine (k_standTouch ..).sys (by decide) ?_
    | with_reducible refine (k_modSch ..).sys (by decide) ?_
    | ((with_reducible refine SysKept.wset ?_ ?_); rotate_left; (first | decide | exact Nat.le_add_right_of_le (by decide) | exact Nat.le_add_right_of_le (Nat.le_add_right_of_le (by decide))))
    | with_reducible refine SysKept.ite ?_ ?_
    | with_reducible refine SysKept.foldl _ ?_ (fun _ _ _ => ?_)
    | split

/-- `writeTaskCfg` leaves the system page. -/
theorem y_writeTaskCfg (t : Nat) (v : Nat) (s : State) : SysKept s (State.writeTaskCfg t v s) := by
  unfold State.writeTaskCfg
  repeat' first
    | with_reducible exact SysKept.refl _
    | with_reducible assumption
    | (extract_lets +onlyGivenNames x; refine SysKept.cut (s := s) (u := x) ?_ ?_; rotate_left; all_goals first | (intro _; clear_value x) | subst x)
    | (extract_lets +onlyGivenNames x; clear_value x)
    | with_reducible refine (y_disableTask ..).step ?_
    | with_reducible refine (y_evalTask ..).step ?_
    | ((with_reducible refine SysKept.wsets ?_ ?_); rotate_left; (((repeat refine List.forall_mem_cons.2 ⟨by dsimp only; first | decide | exact Nat.le_add_right_of_le (by decide) | exact Nat.le_add_right_of_le (Nat.le_add_right_of_le (by decide)), ?_⟩); (intro _ h; cases h))))
    | ((with_reducible refine SysKept.wset ?_ ?_); rotate_left; (first | decide | exact Nat.le_add_right_of_le (by decide) | exact Nat.le_add_right_of_le (Nat.le_add_right_of_le (by decide))))
    | with_reducible refine SysKept.ite ?_ ?_
    | split

/-- `refill` leaves the system page. -/
theorem y_refill (l : Nat) (lost : Bool) (s : State) : SysKept s (State.refill l lost s) := by
  unfold State.refill
  repeat' first
    | with_reducible exact SysKept.refl _
    | with_reducible assumption
    | (extract_lets +onlyGivenNames x; refine SysKept.cut (s := s) (u := x) ?_ ?_; rotate_left; all_goals first | (intro _; clear_value x) | subst x)
    | (extract_lets +onlyGivenNames x; clear_value x)
    | with_reducible refine (y_postRecovery ..).step ?_
    | with_reducible refine (y_evalTask ..).step ?_
    | with_reducible refine (y_traceItem ..).step ?_
    | with_reducible refine (k_modSch ..).sys (by decide) ?_
    | with_reducible refine (y_unitStand ..).step ?_
    | ((with_reducible refine SysKept.wadd ?_ ?_); rotate_left; (first | decide | exact Nat.le_add_right_of_le (by decide) | exact Nat.le_add_right_of_le (Nat.le_add_right_of_le (by decide))))
    | ((with_reducible refine SysKept.wset ?_ ?_); rotate_left; (first | decide | exact Nat.le_add_right_of_le (by decide) | exact Nat.le_add_right_of_le (Nat.le_add_right_of_le (by decide))))
    | with_reducible refine SysKept.ite ?_ ?_
    | split

/-- `ageStep` leaves the system page. -/
theorem y_ageStep (l : Nat) (s : State) : SysKept s (State.ageStep l s) := by
  unfold State.ageStep
  repeat' first
    | with_reducible exact SysKept.refl _
    | with_reducible assumption
    | (extract_lets +onlyGivenNames x; refine SysKept.cut (s := s) (u := x) ?_ ?_; rotate_left; all_goals first | (intro _; clear_value x) | subst x)
    | (extract_lets +onlyGivenNames x; clear_value x)
    | with_reducible refine (k_pushTail ..).sys (by decide) ?_
    | with_reducible refine (y_traceItem ..).step ?_
    | with_reducible refine (k_modSch ..).sys (by decide) ?_
    | with_reducible refine SysKept.ite ?_ ?_
    | split

/-- `writePeriodic` leaves the system page. -/
theorem y_writePeriodic (k : Nat) (v : Nat) (s : State) : SysKept s (State.writePeriodic k v s) := by
  unfold State.writePeriodic
  repeat' first
    | with_reducible exact SysKept.refl _
    | with_reducible assumption
    | (extract_lets +onlyGivenNames x; refine SysKept.cut (s := s) (u := x) ?_ ?_; rotate_left; all_goals first | (intro _; clear_value x) | subst x)
    | (extract_lets +onlyGivenNames x; clear_value x)
    | with_reducible refine (k_modSch ..).sys (by decide) ?_
    | ((with_reducible refine SysKept.wsets ?_ ?_); rotate_left; (((repeat refine List.forall_mem_cons.2 ⟨by dsimp only; first | decide | exact Nat.le_add_right_of_le (by decide) | exact Nat.le_add_right_of_le (Nat.le_add_right_of_le (by decide)), ?_⟩); (intro _ h; cases h))))
    | ((with_reducible refine SysKept.wset ?_ ?_); rotate_left; (first | decide | exact Nat.le_add_right_of_le (by decide) | exact Nat.le_add_right_of_le (Nat.le_add_right_of_le (by decide))))
    | with_reducible refine SysKept.ite ?_ ?_
    | split

/-- `countMiss` leaves the system page. -/
theorem y_countMiss (k : Nat) (core : Nat) (level : Nat) (s : State) : SysKept s (State.countMiss k core level s) := by
  unfold State.countMiss
  repeat' first
    | with_reducible exact SysKept.refl _
    | with_reducible assumption
    | with_reducible refine (y_traceEntry ..).step ?_
    | ((with_reducible refine SysKept.wadd ?_ ?_); rotate_left; (first | decide | exact Nat.le_add_right_of_le (by decide) | exact Nat.le_add_right_of_le (Nat.le_add_right_of_le (by decide))))
    | ((with_reducible refine SysKept.wsets ?_ ?_); rotate_left; (((repeat refine List.forall_mem_cons.2 ⟨by dsimp only; first | decide | exact Nat.le_add_right_of_le (by decide) | exact Nat.le_add_right_of_le (Nat.le_add_right_of_le (by decide)), ?_⟩); (intro _ h; cases h))))

/-- `release` leaves the system page. -/
theorem y_release (k : Nat) (s : State) : SysKept s (State.release k s) := by
  unfold State.release
  repeat' first
    | with_reducible exact SysKept.refl _
    | with_reducible assumption
    | (extract_lets +onlyGivenNames x; refine SysKept.cut (s := s) (u := x) ?_ ?_; rotate_left; all_goals first | (intro _; clear_value x) | subst x)
    | (extract_lets +onlyGivenNames x; clear_value x)
    | with_reducible refine (y_countMiss ..).step ?_
    | with_reducible refine (y_setFlag ..).step ?_
    | with_reducible refine (k_modSch ..).sys (by decide) ?_
    | ((with_reducible refine SysKept.wadd ?_ ?_); rotate_left; (first | decide | exact Nat.le_add_right_of_le (by decide) | exact Nat.le_add_right_of_le (Nat.le_add_right_of_le (by decide))))
    | with_reducible refine SysKept.ite ?_ ?_
    | split

/-- `deadlineMiss` leaves the system page. -/
theorem y_deadlineMiss (k : Nat) (s : State) : SysKept s (State.deadlineMiss k s) := by
  unfold State.deadlineMiss
  repeat' first
    | with_reducible exact SysKept.refl _
    | with_reducible assumption
    | (extract_lets +onlyGivenNames x; refine SysKept.cut (s := s) (u := x) ?_ ?_; rotate_left; all_goals first | (intro _; clear_value x) | subst x)
    | (extract_lets +onlyGivenNames x; clear_value x)
    | with_reducible refine (y_countMiss ..).step ?_
    | with_reducible refine (k_modSch ..).sys (by decide) ?_
    | with_reducible refine SysKept.ite ?_ ?_
    | split

/-- `standstill` leaves the system page. -/
theorem y_standstill (s : State) : SysKept s (State.standstill s) := by
  unfold State.standstill
  repeat' first
    | with_reducible exact SysKept.refl _
    | with_reducible assumption
    | (extract_lets +onlyGivenNames x; refine SysKept.cut (s := s) (u := x) ?_ ?_; rotate_left; all_goals first | (intro _; clear_value x) | subst x)
    | (extract_lets +onlyGivenNames x; clear_value x)
    | with_reducible refine (y_postRecovery ..).step ?_
    | with_reducible refine (y_traceEntry ..).step ?_
    | with_reducible refine (k_modSch ..).sys (by decide) ?_
    | ((with_reducible refine SysKept.wadd ?_ ?_); rotate_left; (first | decide | exact Nat.le_add_right_of_le (by decide) | exact Nat.le_add_right_of_le (Nat.le_add_right_of_le (by decide))))
    | ((with_reducible refine SysKept.wset ?_ ?_); rotate_left; (first | decide | exact Nat.le_add_right_of_le (by decide) | exact Nat.le_add_right_of_le (Nat.le_add_right_of_le (by decide))))
    | with_reducible refine SysKept.ite ?_ ?_
    | split

/-- `publish` leaves the system page. -/
theorem y_publish (sec : Bool) (s : State) : SysKept s (State.publish sec s) := by
  unfold State.publish
  repeat' first
    | with_reducible exact SysKept.refl _
    | with_reducible assumption
    | (extract_lets +onlyGivenNames x; refine SysKept.cut (s := s) (u := x) ?_ ?_; rotate_left; all_goals first | (intro _; clear_value x) | subst x)
    | (extract_lets +onlyGivenNames x; clear_value x)
    | with_reducible refine (k_addBusy ..).sys (by decide) ?_
    | with_reducible refine (k_modSchCore ..).sys (by decide) ?_
    | ((with_reducible refine SysKept.wsets ?_ ?_); rotate_left; (((repeat refine List.forall_mem_cons.2 ⟨by dsimp only; first | decide | exact Nat.le_add_right_of_le (by decide) | exact Nat.le_add_right_of_le (Nat.le_add_right_of_le (by decide)), ?_⟩); (intro _ h; cases h))))
    | with_reducible refine SysKept.ite ?_ ?_
    | with_reducible refine SysKept.foldl _ ?_ (fun _ _ _ => ?_)
    | split

/-- `writeMsip` leaves the system page. -/
theorem y_writeMsip (v : Nat) (s : State) : SysKept s (State.writeMsip v s) := by
  unfold State.writeMsip
  repeat' first
    | with_reducible exact SysKept.refl _
    | with_reducible assumption
    | with_reducible refine (k_msipStart ..).sys (by decide) ?_
    | ((with_reducible refine SysKept.wset ?_ ?_); rotate_left; (first | decide | exact Nat.le_add_right_of_le (by decide) | exact Nat.le_add_right_of_le (Nat.le_add_right_of_le (by decide))))

end Sys2Proof.Machine
end

