-- ==== Sys2Proof/Laws/SysWnQueue.lean ====
section
/-! SUPPORT. The operations of Machine/WnQueue.lean that leave the system page. -/

namespace Sys2Proof.Machine

open Sys2Proof

/-- `putQueue` leaves the system page. -/
theorem y_putQueue (n : Nat) (q : Queue) (s : State) : SysKept s (State.putQueue n q s) := by
  unfold State.putQueue
  repeat' first
    | with_reducible exact SysKept.refl _
    | with_reducible assumption
    | (extract_lets +onlyGivenNames x; refine SysKept.cut (s := s) (u := x) ?_ ?_; rotate_left; all_goals first | (intro _; clear_value x) | subst x)
    | (extract_lets +onlyGivenNames x; clear_value x)
    | with_reducible refine (y_setFlag ..).step ?_
    | ((with_reducible refine SysKept.wraise ?_ ?_); rotate_left; (first | decide | exact Nat.le_add_right_of_le (by decide) | exact Nat.le_add_right_of_le (Nat.le_add_right_of_le (by decide))))
    | ((with_reducible refine SysKept.wsets ?_ ?_); rotate_left; (((repeat refine List.forall_mem_cons.2 ⟨by dsimp only; first | decide | exact Nat.le_add_right_of_le (by decide) | exact Nat.le_add_right_of_le (Nat.le_add_right_of_le (by decide)), ?_⟩); (intro _ h; cases h))))
    | with_reducible refine SysKept.ite ?_ ?_
    | split
    | with_reducible refine SysKept.upd_queues ?_

/-- `qOverrun` leaves the system page. -/
theorem y_qOverrun (n : Nat) (s : State) : SysKept s (State.qOverrun n s) := by
  unfold State.qOverrun
  repeat' first
    | with_reducible exact SysKept.refl _
    | with_reducible assumption
    | (extract_lets +onlyGivenNames x; refine SysKept.cut (s := s) (u := x) ?_ ?_; rotate_left; all_goals first | (intro _; clear_value x) | subst x)
    | (extract_lets +onlyGivenNames x; clear_value x)
    | with_reducible refine (k_emcy ..).sys (by decide) ?_
    | ((with_reducible refine SysKept.wadd ?_ ?_); rotate_left; (first | decide | exact Nat.le_add_right_of_le (by decide) | exact Nat.le_add_right_of_le (Nat.le_add_right_of_le (by decide))))
    | ((with_reducible refine SysKept.wset ?_ ?_); rotate_left; (first | decide | exact Nat.le_add_right_of_le (by decide) | exact Nat.le_add_right_of_le (Nat.le_add_right_of_le (by decide))))
    | with_reducible refine SysKept.ite ?_ ?_
    | split

/-- `qRewind` leaves the system page. -/
theorem y_qRewind (n : Nat) (eop : Bool) (q : Queue) (s : State) : SysKept s (State.qRewind n eop q s) := by
  unfold State.qRewind
  repeat' first
    | with_reducible exact SysKept.refl _
    | with_reducible assumption
    | with_reducible refine (y_putQueue ..).step ?_
    | ((with_reducible refine SysKept.wadd ?_ ?_); rotate_left; (first | decide | exact Nat.le_add_right_of_le (by decide) | exact Nat.le_add_right_of_le (Nat.le_add_right_of_le (by decide))))

/-- `offerStaged` leaves the system page. -/
theorem y_offerStaged (n : Nat) (data : Nat) (eop : Bool) (bad : Bool) (q : Queue) (s : State) : SysKept s (State.offerStaged n data eop bad q s) := by
  unfold State.offerStaged
  repeat' first
    | with_reducible exact SysKept.refl _
    | with_reducible assumption
    | (extract_lets +onlyGivenNames x; refine SysKept.cut (s := s) (u := x) ?_ ?_; rotate_left; all_goals first | (intro _; clear_value x) | subst x)
    | (extract_lets +onlyGivenNames x; clear_value x)
    | with_reducible refine (y_qRewind ..).step ?_
    | with_reducible refine (y_qOverrun ..).step ?_
    | with_reducible refine (y_putQueue ..).step ?_
    | with_reducible refine SysKept.ite ?_ ?_
    | split

/-- `offerNormal` leaves the system page. -/
theorem y_offerNormal (n : Nat) (data : Nat) (eop : Bool) (bad : Bool) (q : Queue) (s : State) : SysKept s (State.offerNormal n data eop bad q s) := by
  unfold State.offerNormal
  repeat' first
    | with_reducible exact SysKept.refl _
    | with_reducible assumption
    | (extract_lets +onlyGivenNames x; refine SysKept.cut (s := s) (u := x) ?_ ?_; rotate_left; all_goals first | (intro _; clear_value x) | subst x)
    | (extract_lets +onlyGivenNames x; clear_value x)
    | with_reducible refine (y_qOverrun ..).step ?_
    | with_reducible refine (y_putQueue ..).step ?_
    | ((with_reducible refine SysKept.wcountIf ?_ ?_); rotate_left; (first | decide | exact Nat.le_add_right_of_le (by decide) | exact Nat.le_add_right_of_le (Nat.le_add_right_of_le (by decide))))
    | ((with_reducible refine SysKept.wadd ?_ ?_); rotate_left; (first | decide | exact Nat.le_add_right_of_le (by decide) | exact Nat.le_add_right_of_le (Nat.le_add_right_of_le (by decide))))
    | with_reducible refine SysKept.ite ?_ ?_
    | split

/-- `offer` leaves the system page. -/
theorem y_offer (n : Nat) (data : Nat) (eop : Bool) (bad : Bool) (s : State) : SysKept s (State.offer n data eop bad s) := by
  unfold State.offer
  repeat' first
    | with_reducible exact SysKept.refl _
    | with_reducible assumption
    | (extract_lets +onlyGivenNames x; refine SysKept.cut (s := s) (u := x) ?_ ?_; rotate_left; all_goals first | (intro _; clear_value x) | subst x)
    | (extract_lets +onlyGivenNames x; clear_value x)
    | with_reducible refine (y_offerNormal ..).step ?_
    | with_reducible refine (y_offerStaged ..).step ?_
    | with_reducible refine (y_putQueue ..).step ?_
    | with_reducible refine SysKept.ite ?_ ?_
    | split

/-- `offerPacket` leaves the system page. -/
theorem y_offerPacket (n : Nat) (bad : Bool) (l : List Nat) (s : State) : SysKept s (s.offerPacket n bad l) := by
  induction l generalizing s with
  | nil => exact SysKept.refl _
  | cons w l ih =>
    cases l with
    | nil => exact y_offer ..
    | cons v l => exact (ih _).step (y_offer ..)

/-- `offerHeld` leaves the system page. -/
theorem y_offerHeld (n : Nat) (s : State) : SysKept s (State.offerHeld n s) := by
  unfold State.offerHeld
  repeat' first
    | with_reducible exact SysKept.refl _
    | with_reducible assumption
    | (extract_lets +onlyGivenNames x; refine SysKept.cut (s := s) (u := x) ?_ ?_; rotate_left; all_goals first | (intro _; clear_value x) | subst x)
    | (extract_lets +onlyGivenNames x; clear_value x)
    | with_reducible refine (y_offer ..).step ?_
    | with_reducible refine SysKept.ite ?_ ?_
    | split
    | with_reducible refine SysKept.upd_queues ?_

/-- `pop` leaves the system page. -/
theorem y_pop (n : Nat) (err : Nat) (s : State) : SysKept s (State.pop n err s).2.2 := by
  unfold State.pop
  repeat' first
    | with_reducible exact SysKept.refl _
    | with_reducible assumption
    | (extract_lets +onlyGivenNames x; refine SysKept.cut (s := s) (u := x) ?_ ?_; rotate_left; all_goals first | (intro _; clear_value x) | subst x)
    | (extract_lets +onlyGivenNames x; clear_value x)
    | with_reducible refine (y_offerHeld ..).step ?_
    | with_reducible refine (y_putQueue ..).step ?_
    | ((with_reducible refine SysKept.wcountIf ?_ ?_); rotate_left; (first | decide | exact Nat.le_add_right_of_le (by decide) | exact Nat.le_add_right_of_le (Nat.le_add_right_of_le (by decide))))
    | ((with_reducible refine SysKept.wadd ?_ ?_); rotate_left; (first | decide | exact Nat.le_add_right_of_le (by decide) | exact Nat.le_add_right_of_le (Nat.le_add_right_of_le (by decide))))
    | ((with_reducible refine SysKept.wset ?_ ?_); rotate_left; (first | decide | exact Nat.le_add_right_of_le (by decide) | exact Nat.le_add_right_of_le (Nat.le_add_right_of_le (by decide))))
    | split
    | with_reducible dsimp only

/-- `flush` leaves the system page. -/
theorem y_flush (n : Nat) (s : State) : SysKept s (State.flush n s) := by
  unfold State.flush
  repeat' first
    | with_reducible exact SysKept.refl _
    | with_reducible assumption
    | (extract_lets +onlyGivenNames x; refine SysKept.cut (s := s) (u := x) ?_ ?_; rotate_left; all_goals first | (intro _; clear_value x) | subst x)
    | (extract_lets +onlyGivenNames x; clear_value x)
    | with_reducible refine (y_putQueue ..).step ?_
    | ((with_reducible refine SysKept.wcountIf ?_ ?_); rotate_left; (first | decide | exact Nat.le_add_right_of_le (by decide) | exact Nat.le_add_right_of_le (Nat.le_add_right_of_le (by decide))))

/-- `writeStaged` leaves the system page. -/
theorem y_writeStaged (n : Nat) (v : Bool) (s : State) : SysKept s (State.writeStaged n v s) := by
  unfold State.writeStaged
  repeat' first
    | with_reducible exact SysKept.refl _
    | with_reducible assumption
    | (extract_lets +onlyGivenNames x; refine SysKept.cut (s := s) (u := x) ?_ ?_; rotate_left; all_goals first | (intro _; clear_value x) | subst x)
    | (extract_lets +onlyGivenNames x; clear_value x)
    | with_reducible refine (y_putQueue ..).step ?_
    | ((with_reducible refine SysKept.wset ?_ ?_); rotate_left; (first | decide | exact Nat.le_add_right_of_le (by decide) | exact Nat.le_add_right_of_le (Nat.le_add_right_of_le (by decide))))
    | with_reducible refine SysKept.ite ?_ ?_
    | split

/-- `writeQCtrl` leaves the system page. -/
theorem y_writeQCtrl (n : Nat) (v : Nat) (s : State) : SysKept s (State.writeQCtrl n v s) := by
  unfold State.writeQCtrl
  repeat' first
    | with_reducible exact SysKept.refl _
    | with_reducible assumption
    | (extract_lets +onlyGivenNames x; refine SysKept.cut (s := s) (u := x) ?_ ?_; rotate_left; all_goals first | (intro _; clear_value x) | subst x)
    | (extract_lets +onlyGivenNames x; clear_value x)
    | with_reducible refine (y_writeStaged ..).step ?_
    | with_reducible refine (y_flush ..).step ?_
    | ((with_reducible refine SysKept.wsets ?_ ?_); rotate_left; (((repeat refine List.forall_mem_cons.2 ⟨by dsimp only; first | decide | exact Nat.le_add_right_of_le (by decide) | exact Nat.le_add_right_of_le (Nat.le_add_right_of_le (by decide)), ?_⟩); (intro _ h; cases h))))
    | with_reducible refine SysKept.ite ?_ ?_
    | split

/-- `queuesRun` leaves the system page. -/
theorem y_queuesRun (s : State) : SysKept s (State.queuesRun s) := by
  unfold State.queuesRun
  repeat' first
    | with_reducible exact SysKept.refl _
    | with_reducible assumption
    | (extract_lets +onlyGivenNames x; refine SysKept.cut (s := s) (u := x) ?_ ?_; rotate_left; all_goals first | (intro _; clear_value x) | subst x)
    | (extract_lets +onlyGivenNames x; clear_value x)
    | with_reducible refine (y_flush ..).step ?_
    | with_reducible refine (y_putQueue ..).step ?_
    | ((with_reducible refine SysKept.wset ?_ ?_); rotate_left; (first | decide | exact Nat.le_add_right_of_le (by decide) | exact Nat.le_add_right_of_le (Nat.le_add_right_of_le (by decide))))
    | with_reducible refine SysKept.ite ?_ ?_
    | with_reducible refine SysKept.foldl _ ?_ (fun _ _ _ => ?_)
    | split

/-- `queuesStage` leaves the system page. -/
theorem y_queuesStage (s : State) : SysKept s (State.queuesStage s) := by
  unfold State.queuesStage
  repeat' first
    | with_reducible exact SysKept.refl _
    | with_reducible assumption
    | (extract_lets +onlyGivenNames x; refine SysKept.cut (s := s) (u := x) ?_ ?_; rotate_left; all_goals first | (intro _; clear_value x) | subst x)
    | (extract_lets +onlyGivenNames x; clear_value x)
    | with_reducible refine (y_flush ..).step ?_
    | with_reducible refine (y_putQueue ..).step ?_
    | ((with_reducible refine SysKept.wset ?_ ?_); rotate_left; (first | decide | exact Nat.le_add_right_of_le (by decide) | exact Nat.le_add_right_of_le (Nat.le_add_right_of_le (by decide))))
    | with_reducible refine SysKept.ite ?_ ?_
    | with_reducible refine SysKept.foldl _ ?_ (fun _ _ _ => ?_)
    | split

/-- `latchHead` leaves the system page. -/
theorem y_latchHead (n : Nat) (w : Option QWord) (poison : Bool) (s : State) : SysKept s (State.latchHead n w poison s) := by
  unfold State.latchHead
  repeat' first
    | with_reducible exact SysKept.refl _
    | with_reducible assumption
    | ((with_reducible refine SysKept.wsets ?_ ?_); rotate_left; (((repeat refine List.forall_mem_cons.2 ⟨by dsimp only; first | decide | exact Nat.le_add_right_of_le (by decide) | exact Nat.le_add_right_of_le (Nat.le_add_right_of_le (by decide)), ?_⟩); (intro _ h; cases h))))
    | split

/-- `readQData` leaves the system page. -/
theorem y_readQData (n : Nat) (err : Nat) (s : State) : SysKept s (State.readQData n err s) := by
  unfold State.readQData
  repeat' first
    | with_reducible exact SysKept.refl _
    | with_reducible assumption
    | (extract_lets +onlyGivenNames x; refine SysKept.cut (s := s) (u := x) ?_ ?_; rotate_left; all_goals first | (intro _; clear_value x) | subst x)
    | (extract_lets +onlyGivenNames x; clear_value x)
    | with_reducible refine (y_latchHead ..).step ?_
    | with_reducible refine SysKept.ite ?_ ?_
    | split
    | with_reducible refine SysKept.ofThd (by assumption) ?_
    | with_reducible refine (y_pop ..).step ?_
    | with_reducible dsimp only

/-- `peekQData` leaves the system page. -/
theorem y_peekQData (n : Nat) (s : State) : SysKept s (State.peekQData n s) := by
  unfold State.peekQData
  repeat' first
    | with_reducible exact SysKept.refl _
    | with_reducible assumption
    | with_reducible refine (y_latchHead ..).step ?_
    | with_reducible refine SysKept.ite ?_ ?_
    | split

end Sys2Proof.Machine
end

