-- ==== Sys2Proof/Laws/SysWnPairOps.lean ====
section
/-! SUPPORT. The operations of Machine/WnPairOps.lean that leave the system page. -/

namespace Sys2Proof.Machine

open Sys2Proof

/-- `diverge` leaves the system page. -/
theorem y_diverge (seq : Nat) (s : State) : SysKept s (State.diverge seq s) := by
  unfold State.diverge
  repeat' first
    | with_reducible exact SysKept.refl _
    | with_reducible assumption
    | (extract_lets +onlyGivenNames x; refine SysKept.cut (s := s) (u := x) ?_ ?_; rotate_left; all_goals first | (intro _; clear_value x) | subst x)
    | (extract_lets +onlyGivenNames x; clear_value x)
    | with_reducible refine (k_emcy ..).sys (by decide) ?_
    | ((with_reducible refine SysKept.wadd ?_ ?_); rotate_left; (first | decide | exact Nat.le_add_right_of_le (by decide) | exact Nat.le_add_right_of_le (Nat.le_add_right_of_le (by decide))))
    | ((with_reducible refine SysKept.wsets ?_ ?_); rotate_left; (((repeat refine List.forall_mem_cons.2 ⟨by dsimp only; first | decide | exact Nat.le_add_right_of_le (by decide) | exact Nat.le_add_right_of_le (Nat.le_add_right_of_le (by decide)), ?_⟩); (intro _ h; cases h))))
    | with_reducible refine SysKept.ite ?_ ?_
    | split

/-- `digestEnter` leaves the system page. -/
theorem y_digestEnter (seq : Nat) (dig : Nat) (partner : Bool) (s : State) : SysKept s (State.digestEnter seq dig partner s) := by
  unfold State.digestEnter
  repeat' first
    | with_reducible exact SysKept.refl _
    | with_reducible assumption
    | (extract_lets +onlyGivenNames x; refine SysKept.cut (s := s) (u := x) ?_ ?_; rotate_left; all_goals first | (intro _; clear_value x) | subst x)
    | (extract_lets +onlyGivenNames x; clear_value x)
    | with_reducible refine (y_diverge ..).step ?_
    | with_reducible refine (k_modPair ..).sys (by decide) ?_
    | ((with_reducible refine SysKept.wadd ?_ ?_); rotate_left; (first | decide | exact Nat.le_add_right_of_le (by decide) | exact Nat.le_add_right_of_le (Nat.le_add_right_of_le (by decide))))
    | with_reducible refine SysKept.ite ?_ ?_
    | split

/-- `joinTry` leaves the system page. -/
theorem y_joinTry (s : State) : SysKept s s.joinTry := by
  unfold State.joinTry
  split
  · dsimp only
    have k : SysKept s (([(WR.PAIR_STATUS_CFG_MISMATCH, bits 55 55 (s.pair.hb.getD 0 0) == s.wget WR.PAIR_CFG_SIDE ||
        bits 54 54 (s.pair.hb.getD 0 0) != s.wget WR.PAIR_CFG_LEAD_B),
      (WR.PAIR_STATUS_IMG_MISMATCH, bits 63 32 (s.pair.hb.getD 2 0) != s.pair.imgDigest),
      (WR.PAIR_STATUS_WALK_MISMATCH, bits 31 0 (s.pair.hb.getD 2 0) != s.pair.walkCrc),
      (WR.PAIR_STATUS_DWIN_SHORT, s.dwinShort)].filter (·.2)).foldl (fun s x => s.wset x.1 1) s) := by
      have go : ∀ (l : List (Fld × Bool)) (t : State), SysKept s t → (∀ x ∈ l, 0x40008000 ≤ x.1.addr) →
          SysKept s (l.foldl (fun s x => s.wset x.1 1) t) := by
        intro l
        induction l with
        | nil => intro t h _; exact h
        | cons a l ih =>
          intro t h hl
          exact ih _ (h.wset (hl a List.mem_cons_self)) fun x hx => hl x (List.mem_cons_of_mem _ hx)
      refine go _ _ (SysKept.refl _) fun x hx => ?_
      have hx := (List.mem_filter.1 hx).1
      simp only [List.mem_cons, List.not_mem_nil, or_false] at hx
      rcases hx with rfl | rfl | rfl | rfl <;> (dsimp only; decide)
    split
    · exact k.wset (by decide)
    · exact ((k_plSend ..).sys (by decide) k).ofWr rfl
  · exact SysKept.refl _

end Sys2Proof.Machine
end

