-- ==== Sys2Proof/Laws/SysWnTime.lean ====
section
/-! SUPPORT. The operations of Machine/WnTime.lean that leave the system page. -/

namespace Sys2Proof.Machine

open Sys2Proof

/-- `showRem` leaves the system page. -/
theorem y_showRem (s : State) : SysKept s (State.showRem s) := by
  unfold State.showRem
  repeat' first
    | with_reducible exact SysKept.refl _
    | with_reducible assumption
    | ((with_reducible refine SysKept.wset ?_ ?_); rotate_left; (first | decide | exact Nat.le_add_right_of_le (by decide) | exact Nat.le_add_right_of_le (Nat.le_add_right_of_le (by decide))))

/-- `ramp` leaves the system page. -/
theorem y_ramp (s : State) : SysKept s (State.ramp s) := by
  unfold State.ramp
  repeat' first
    | with_reducible exact SysKept.refl _
    | with_reducible assumption
    | (extract_lets +onlyGivenNames x; refine SysKept.cut (s := s) (u := x) ?_ ?_; rotate_left; all_goals first | (intro _; clear_value x) | subst x)
    | (extract_lets +onlyGivenNames x; clear_value x)
    | with_reducible refine (k_modMer ..).sys (by decide) ?_
    | ((with_reducible refine SysKept.wset ?_ ?_); rotate_left; (first | decide | exact Nat.le_add_right_of_le (by decide) | exact Nat.le_add_right_of_le (Nat.le_add_right_of_le (by decide))))

/-- `checkSplit` leaves the system page. -/
theorem y_checkSplit (s : State) : SysKept s (State.checkSplit s) := by
  unfold State.checkSplit
  repeat' first
    | with_reducible exact SysKept.refl _
    | with_reducible assumption
    | (extract_lets +onlyGivenNames x; refine SysKept.cut (s := s) (u := x) ?_ ?_; rotate_left; all_goals first | (intro _; clear_value x) | subst x)
    | (extract_lets +onlyGivenNames x; clear_value x)
    | ((with_reducible refine SysKept.wset ?_ ?_); rotate_left; (first | decide | exact Nat.le_add_right_of_le (by decide) | exact Nat.le_add_right_of_le (Nat.le_add_right_of_le (by decide))))
    | with_reducible refine SysKept.ite ?_ ?_
    | split

/-- `frameBoundary` leaves the system page. -/
theorem y_frameBoundary (span : Nat) (meas : Nat) (loop : Option Int) (s : State) : SysKept s (State.frameBoundary span meas loop s) := by
  unfold State.frameBoundary
  repeat' first
    | with_reducible exact SysKept.refl _
    | with_reducible assumption
    | (extract_lets +onlyGivenNames x; refine SysKept.cut (s := s) (u := x) ?_ ?_; rotate_left; all_goals first | (intro _; clear_value x) | subst x)
    | (extract_lets +onlyGivenNames x; clear_value x)
    | with_reducible refine (y_checkSplit ..).step ?_
    | with_reducible refine (k_sendAnchor ..).sys (by decide) ?_
    | with_reducible refine (k_latchAnchor ..).sys (by decide) ?_
    | with_reducible refine (y_ramp ..).step ?_
    | with_reducible refine (k_slewAccount ..).sys (by decide) ?_
    | with_reducible refine (y_showRem ..).step ?_
    | with_reducible refine (k_modMer ..).sys (by decide) ?_
    | ((with_reducible refine SysKept.wset ?_ ?_); rotate_left; (first | decide | exact Nat.le_add_right_of_le (by decide) | exact Nat.le_add_right_of_le (Nat.le_add_right_of_le (by decide))))
    | with_reducible refine SysKept.ite ?_ ?_
    | split

/-- `applyStep` leaves the system page. -/
theorem y_applyStep (s : State) : SysKept s (State.applyStep s) := by
  unfold State.applyStep
  repeat' first
    | with_reducible exact SysKept.refl _
    | with_reducible assumption
    | (extract_lets +onlyGivenNames x; refine SysKept.cut (s := s) (u := x) ?_ ?_; rotate_left; all_goals first | (intro _; clear_value x) | subst x)
    | (extract_lets +onlyGivenNames x; clear_value x)
    | with_reducible refine (k_setLate ..).sys (by decide) ?_
    | with_reducible refine (k_modMer ..).sys (by decide) ?_
    | ((with_reducible refine SysKept.wsets ?_ ?_); rotate_left; (((repeat refine List.forall_mem_cons.2 ⟨by dsimp only; first | decide | exact Nat.le_add_right_of_le (by decide) | exact Nat.le_add_right_of_le (Nat.le_add_right_of_le (by decide)), ?_⟩); (intro _ h; cases h))))
    | with_reducible refine SysKept.ite ?_ ?_
    | with_reducible refine SysKept.foldl _ ?_ (fun _ _ _ => ?_)
    | split

/-- `setMerState` leaves the system page. -/
theorem y_setMerState (n : Nat) (s : State) : SysKept s (State.setMerState n s) := by
  unfold State.setMerState
  repeat' first
    | with_reducible exact SysKept.refl _
    | with_reducible assumption
    | ((with_reducible refine SysKept.wsets ?_ ?_); rotate_left; (((repeat refine List.forall_mem_cons.2 ⟨by dsimp only; first | decide | exact Nat.le_add_right_of_le (by decide) | exact Nat.le_add_right_of_le (Nat.le_add_right_of_le (by decide)), ?_⟩); (intro _ h; cases h))))

/-- `enterMerHoldover` leaves the system page. -/
theorem y_enterMerHoldover (s : State) : SysKept s (State.enterMerHoldover s) := by
  unfold State.enterMerHoldover
  repeat' first
    | with_reducible exact SysKept.refl _
    | with_reducible assumption
    | with_reducible refine (y_setMerState ..).step ?_
    | with_reducible refine (k_modMer ..).sys (by decide) ?_
    | split

/-- `leaveMerHoldover` leaves the system page. -/
theorem y_leaveMerHoldover (s : State) : SysKept s (State.leaveMerHoldover s) := by
  unfold State.leaveMerHoldover
  repeat' first
    | with_reducible exact SysKept.refl _
    | with_reducible assumption
    | with_reducible refine (y_showRem ..).step ?_
    | with_reducible refine (k_modMer ..).sys (by decide) ?_
    | with_reducible refine SysKept.ite ?_ ?_
    | split

/-- `enterAcquiring` leaves the system page. -/
theorem y_enterAcquiring (s : State) : SysKept s (State.enterAcquiring s) := by
  unfold State.enterAcquiring
  repeat' first
    | with_reducible exact SysKept.refl _
    | with_reducible assumption
    | with_reducible refine (y_leaveMerHoldover ..).step ?_
    | with_reducible refine (y_setMerState ..).step ?_
    | with_reducible refine (k_modMer ..).sys (by decide) ?_

/-- `writeSrc` leaves the system page. -/
theorem y_writeSrc (v : Nat) (s : State) : SysKept s (State.writeSrc v s) := by
  unfold State.writeSrc
  repeat' first
    | with_reducible exact SysKept.refl _
    | with_reducible assumption
    | (extract_lets +onlyGivenNames x; refine SysKept.cut (s := s) (u := x) ?_ ?_; rotate_left; all_goals first | (intro _; clear_value x) | subst x)
    | (extract_lets +onlyGivenNames x; clear_value x)
    | with_reducible refine (y_enterAcquiring ..).step ?_
    | with_reducible refine (y_leaveMerHoldover ..).step ?_
    | with_reducible refine (y_setMerState ..).step ?_
    | ((with_reducible refine SysKept.wset ?_ ?_); rotate_left; (first | decide | exact Nat.le_add_right_of_le (by decide) | exact Nat.le_add_right_of_le (Nat.le_add_right_of_le (by decide))))
    | with_reducible refine SysKept.ite ?_ ?_
    | split

/-- `adjCancel` leaves the system page. -/
theorem y_adjCancel (s : State) : SysKept s (State.adjCancel s) := by
  unfold State.adjCancel
  repeat' first
    | with_reducible exact SysKept.refl _
    | with_reducible assumption
    | with_reducible refine (y_showRem ..).step ?_
    | with_reducible refine (k_modMer ..).sys (by decide) ?_
    | with_reducible refine SysKept.ite ?_ ?_
    | split

/-- `relock` leaves the system page. -/
theorem y_relock (s : State) : SysKept s (State.relock s) := by
  unfold State.relock
  repeat' first
    | with_reducible exact SysKept.refl _
    | with_reducible assumption
    | with_reducible refine (y_enterAcquiring ..).step ?_
    | with_reducible refine SysKept.ite ?_ ?_
    | split

/-- `lock` leaves the system page. -/
theorem y_lock (s : State) : SysKept s (State.lock s) := by
  unfold State.lock
  repeat' first
    | with_reducible exact SysKept.refl _
    | with_reducible assumption
    | with_reducible refine (y_setMerState ..).step ?_
    | with_reducible refine SysKept.ite ?_ ?_
    | split

/-- `writeMerCtrl` leaves the system page. -/
theorem y_writeMerCtrl (v : Nat) (s : State) : SysKept s (State.writeMerCtrl v s) := by
  unfold State.writeMerCtrl
  repeat' first
    | with_reducible exact SysKept.refl _
    | with_reducible assumption
    | (extract_lets +onlyGivenNames x; refine SysKept.cut (s := s) (u := x) ?_ ?_; rotate_left; all_goals first | (intro _; clear_value x) | subst x)
    | (extract_lets +onlyGivenNames x; clear_value x)
    | with_reducible refine (y_lock ..).step ?_
    | with_reducible refine (y_relock ..).step ?_
    | with_reducible refine (y_adjCancel ..).step ?_
    | with_reducible refine (k_writeStep ..).sys (by decide) ?_
    | with_reducible refine (y_writeSrc ..).step ?_
    | ((with_reducible refine SysKept.wset ?_ ?_); rotate_left; (first | decide | exact Nat.le_add_right_of_le (by decide) | exact Nat.le_add_right_of_le (Nat.le_add_right_of_le (by decide))))
    | with_reducible refine SysKept.ite ?_ ?_
    | split

/-- `writeAdj` leaves the system page. -/
theorem y_writeAdj (v : Nat) (s : State) : SysKept s (State.writeAdj v s) := by
  unfold State.writeAdj
  repeat' first
    | with_reducible exact SysKept.refl _
    | with_reducible assumption
    | with_reducible refine (y_showRem ..).step ?_
    | with_reducible refine (k_modMer ..).sys (by decide) ?_
    | with_reducible refine SysKept.ite ?_ ?_
    | split

/-- `writeStepNs` leaves the system page. -/
theorem y_writeStepNs (v : Nat) (s : State) : SysKept s (State.writeStepNs v s) := by
  unfold State.writeStepNs
  repeat' first
    | with_reducible exact SysKept.refl _
    | with_reducible assumption
    | ((with_reducible refine SysKept.wset ?_ ?_); rotate_left; (first | decide | exact Nat.le_add_right_of_le (by decide) | exact Nat.le_add_right_of_le (Nat.le_add_right_of_le (by decide))))
    | with_reducible refine SysKept.ite ?_ ?_
    | split

/-- `writeDatumCfg` leaves the system page. -/
theorem y_writeDatumCfg (v : Nat) (s : State) : SysKept s (State.writeDatumCfg v s) := by
  unfold State.writeDatumCfg
  repeat' first
    | with_reducible exact SysKept.refl _
    | with_reducible assumption
    | (extract_lets +onlyGivenNames x; refine SysKept.cut (s := s) (u := x) ?_ ?_; rotate_left; all_goals first | (intro _; clear_value x) | subst x)
    | (extract_lets +onlyGivenNames x; clear_value x)
    | ((with_reducible refine SysKept.wset ?_ ?_); rotate_left; (first | decide | exact Nat.le_add_right_of_le (by decide) | exact Nat.le_add_right_of_le (Nat.le_add_right_of_le (by decide))))
    | with_reducible refine SysKept.ite ?_ ?_
    | split

/-- `commitParent` leaves the system page. -/
theorem y_commitParent (v : Nat) (s : State) : SysKept s (State.commitParent v s) := by
  unfold State.commitParent
  repeat' first
    | with_reducible exact SysKept.refl _
    | with_reducible assumption
    | (extract_lets +onlyGivenNames x; refine SysKept.cut (s := s) (u := x) ?_ ?_; rotate_left; all_goals first | (intro _; clear_value x) | subst x)
    | (extract_lets +onlyGivenNames x; clear_value x)
    | with_reducible refine (y_enterMerHoldover ..).step ?_
    | with_reducible refine (k_modMer ..).sys (by decide) ?_
    | ((with_reducible refine SysKept.wset ?_ ?_); rotate_left; (first | decide | exact Nat.le_add_right_of_le (by decide) | exact Nat.le_add_right_of_le (Nat.le_add_right_of_le (by decide))))
    | with_reducible refine SysKept.ite ?_ ?_
    | split

/-- `showTx` leaves the system page. -/
theorem y_showTx (s : State) : SysKept s (State.showTx s) := by
  unfold State.showTx
  repeat' first
    | with_reducible exact SysKept.refl _
    | with_reducible assumption
    | ((with_reducible refine SysKept.wset ?_ ?_); rotate_left; (first | decide | exact Nat.le_add_right_of_le (by decide) | exact Nat.le_add_right_of_le (Nat.le_add_right_of_le (by decide))))

/-- `txAgeOut` leaves the system page. -/
theorem y_txAgeOut (s : State) : SysKept s (State.txAgeOut s) := by
  unfold State.txAgeOut
  repeat' first
    | with_reducible exact SysKept.refl _
    | with_reducible assumption
    | (extract_lets +onlyGivenNames x; refine SysKept.cut (s := s) (u := x) ?_ ?_; rotate_left; all_goals first | (intro _; clear_value x) | subst x)
    | (extract_lets +onlyGivenNames x; clear_value x)
    | with_reducible refine (y_showTx ..).step ?_
    | with_reducible refine (k_modMer ..).sys (by decide) ?_
    | ((with_reducible refine SysKept.wadd ?_ ?_); rotate_left; (first | decide | exact Nat.le_add_right_of_le (by decide) | exact Nat.le_add_right_of_le (Nat.le_add_right_of_le (by decide))))
    | ((with_reducible refine SysKept.wset ?_ ?_); rotate_left; (first | decide | exact Nat.le_add_right_of_le (by decide) | exact Nat.le_add_right_of_le (Nat.le_add_right_of_le (by decide))))
    | with_reducible refine SysKept.ite ?_ ?_
    | split

/-- `txArrive` leaves the system page. -/
theorem y_txArrive (x : TxStamp) (s : State) : SysKept s (State.txArrive x s) := by
  unfold State.txArrive
  repeat' first
    | with_reducible exact SysKept.refl _
    | with_reducible assumption
    | (extract_lets +onlyGivenNames x; refine SysKept.cut (s := s) (u := x) ?_ ?_; rotate_left; all_goals first | (intro _; clear_value x) | subst x)
    | (extract_lets +onlyGivenNames x; clear_value x)
    | with_reducible refine (y_txAgeOut ..).step ?_
    | with_reducible refine (y_showTx ..).step ?_
    | with_reducible refine (k_modMer ..).sys (by decide) ?_
    | ((with_reducible refine SysKept.wadd ?_ ?_); rotate_left; (first | decide | exact Nat.le_add_right_of_le (by decide) | exact Nat.le_add_right_of_le (Nat.le_add_right_of_le (by decide))))
    | ((with_reducible refine SysKept.wset ?_ ?_); rotate_left; (first | decide | exact Nat.le_add_right_of_le (by decide) | exact Nat.le_add_right_of_le (Nat.le_add_right_of_le (by decide))))
    | with_reducible refine SysKept.ite ?_ ?_
    | split

/-- `txHead` leaves the system page. -/
theorem y_txHead (s : State) : SysKept s (State.txHead s) := by
  unfold State.txHead
  repeat' first
    | with_reducible exact SysKept.refl _
    | with_reducible assumption
    | ((with_reducible refine SysKept.wsets ?_ ?_); rotate_left; (((repeat refine List.forall_mem_cons.2 ⟨by dsimp only; first | decide | exact Nat.le_add_right_of_le (by decide) | exact Nat.le_add_right_of_le (Nat.le_add_right_of_le (by decide)), ?_⟩); (intro _ h; cases h))))
    | split

/-- `txRead` leaves the system page. -/
theorem y_txRead (s : State) : SysKept s (State.txRead s) := by
  unfold State.txRead
  repeat' first
    | with_reducible exact SysKept.refl _
    | with_reducible assumption
    | (extract_lets +onlyGivenNames x; refine SysKept.cut (s := s) (u := x) ?_ ?_; rotate_left; all_goals first | (intro _; clear_value x) | subst x)
    | (extract_lets +onlyGivenNames x; clear_value x)
    | with_reducible refine (y_txHead ..).step ?_
    | with_reducible refine (y_showTx ..).step ?_
    | with_reducible refine (k_modMer ..).sys (by decide) ?_
    | ((with_reducible refine SysKept.wsets ?_ ?_); rotate_left; (((repeat refine List.forall_mem_cons.2 ⟨by dsimp only; first | decide | exact Nat.le_add_right_of_le (by decide) | exact Nat.le_add_right_of_le (Nat.le_add_right_of_le (by decide)), ?_⟩); (intro _ h; cases h))))
    | split

end Sys2Proof.Machine
end

