-- ==== Sys2Proof/Laws/SysWnTri.lean ====
section
/-! SUPPORT. The operations of Machine/WnTri.lean that leave the system page. -/

namespace Sys2Proof.Machine

open Sys2Proof

/-- `putTheta` leaves the system page. -/
theorem y_putTheta (p : Nat) (v : Int) (s : State) : SysKept s (State.putTheta p v s) := by
  unfold State.putTheta
  repeat' first
    | with_reducible exact SysKept.refl _
    | with_reducible assumption
    | (extract_lets +onlyGivenNames x; refine SysKept.cut (s := s) (u := x) ?_ ?_; rotate_left; all_goals first | (intro _; clear_value x) | subst x)
    | (extract_lets +onlyGivenNames x; clear_value x)
    | ((with_reducible refine SysKept.wsets ?_ ?_); rotate_left; (((repeat refine List.forall_mem_cons.2 ⟨by dsimp only; first | decide | exact Nat.le_add_right_of_le (by decide) | exact Nat.le_add_right_of_le (Nat.le_add_right_of_le (by decide)), ?_⟩); (intro _ h; cases h))))

/-- `triRestart` leaves the system page. -/
theorem y_triRestart (p : Nat) (s : State) : SysKept s (State.triRestart p s) := by
  unfold State.triRestart
  repeat' first
    | with_reducible exact SysKept.refl _
    | with_reducible assumption
    | (extract_lets +onlyGivenNames x; refine SysKept.cut (s := s) (u := x) ?_ ?_; rotate_left; all_goals first | (intro _; clear_value x) | subst x)
    | (extract_lets +onlyGivenNames x; clear_value x)
    | with_reducible refine (k_modTri ..).sys (by decide) ?_
    | ((with_reducible refine SysKept.wsets ?_ ?_); rotate_left; (((repeat refine List.forall_mem_cons.2 ⟨by dsimp only; first | decide | exact Nat.le_add_right_of_le (by decide) | exact Nat.le_add_right_of_le (Nat.le_add_right_of_le (by decide)), ?_⟩); (intro _ h; cases h))))
    | split

/-- `publishAvg` leaves the system page. -/
theorem y_publishAvg (p : Nat) (all : List TriSample) (last : Int) (s : State) : SysKept s (State.publishAvg p all last s) := by
  unfold State.publishAvg
  repeat' first
    | with_reducible exact SysKept.refl _
    | with_reducible assumption
    | (extract_lets +onlyGivenNames x; refine SysKept.cut (s := s) (u := x) ?_ ?_; rotate_left; all_goals first | (intro _; clear_value x) | subst x)
    | (extract_lets +onlyGivenNames x; clear_value x)
    | with_reducible refine (k_sendTheta ..).sys (by decide) ?_
    | with_reducible refine (y_putTheta ..).step ?_
    | with_reducible refine (k_modTri ..).sys (by decide) ?_
    | ((with_reducible refine SysKept.wset ?_ ?_); rotate_left; (first | decide | exact Nat.le_add_right_of_le (by decide) | exact Nat.le_add_right_of_le (Nat.le_add_right_of_le (by decide))))
    | with_reducible refine SysKept.ite ?_ ?_
    | split

/-- `triSample` leaves the system page. -/
theorem y_triSample (p : Nat) (stamp : Nat × Nat × Int) (start : Nat × Nat × Int) (s : State) : SysKept s (State.triSample p stamp start s) := by
  unfold State.triSample
  repeat' first
    | with_reducible exact SysKept.refl _
    | with_reducible assumption
    | (extract_lets +onlyGivenNames x; refine SysKept.cut (s := s) (u := x) ?_ ?_; rotate_left; all_goals first | (intro _; clear_value x) | subst x)
    | (extract_lets +onlyGivenNames x; clear_value x)
    | with_reducible refine (y_publishAvg ..).step ?_
    | with_reducible refine (y_putTheta ..).step ?_
    | with_reducible refine (k_modTri ..).sys (by decide) ?_
    | ((with_reducible refine SysKept.wset ?_ ?_); rotate_left; (first | decide | exact Nat.le_add_right_of_le (by decide) | exact Nat.le_add_right_of_le (Nat.le_add_right_of_le (by decide))))
    | with_reducible refine SysKept.ite ?_ ?_
    | split
    | with_reducible dsimp only

/-- `triStamp` leaves the system page. -/
theorem y_triStamp (p : Nat) (num : Nat) (tick : Nat) (fine : Nat) (s : State) : SysKept s (State.triStamp p num tick fine s) := by
  unfold State.triStamp
  repeat' first
    | with_reducible exact SysKept.refl _
    | with_reducible assumption
    | (extract_lets +onlyGivenNames x; refine SysKept.cut (s := s) (u := x) ?_ ?_; rotate_left; all_goals first | (intro _; clear_value x) | subst x)
    | (extract_lets +onlyGivenNames x; clear_value x)
    | with_reducible refine (y_triSample ..).step ?_
    | with_reducible refine (k_modTri ..).sys (by decide) ?_
    | ((with_reducible refine SysKept.wadd ?_ ?_); rotate_left; (first | decide | exact Nat.le_add_right_of_le (by decide) | exact Nat.le_add_right_of_le (Nat.le_add_right_of_le (by decide))))
    | with_reducible refine SysKept.ite ?_ ?_
    | split

/-- `triStart` leaves the system page. -/
theorem y_triStart (p : Nat) (frame : Nat) (b : Int) (s : State) : SysKept s (State.triStart p frame b s) := by
  unfold State.triStart
  repeat' first
    | with_reducible exact SysKept.refl _
    | with_reducible assumption
    | (extract_lets +onlyGivenNames x; refine SysKept.cut (s := s) (u := x) ?_ ?_; rotate_left; all_goals first | (intro _; clear_value x) | subst x)
    | (extract_lets +onlyGivenNames x; clear_value x)
    | with_reducible refine (y_triSample ..).step ?_
    | with_reducible refine (k_modTri ..).sys (by decide) ?_
    | with_reducible refine SysKept.ite ?_ ?_
    | with_reducible refine SysKept.foldl _ ?_ (fun _ _ _ => ?_)
    | split

/-- `triMove` leaves the system page. -/
theorem y_triMove (p : Nat) (d : Int) (j : Int) (s : State) : SysKept s (State.triMove p d j s) := by
  unfold State.triMove
  repeat' first
    | with_reducible exact SysKept.refl _
    | with_reducible assumption
    | (extract_lets +onlyGivenNames x; refine SysKept.cut (s := s) (u := x) ?_ ?_; rotate_left; all_goals first | (intro _; clear_value x) | subst x)
    | (extract_lets +onlyGivenNames x; clear_value x)
    | with_reducible refine (y_putTheta ..).step ?_
    | with_reducible refine (k_modTri ..).sys (by decide) ?_

/-- `triEpoch` leaves the system page. -/
theorem y_triEpoch (p : Nat) (j : Int) (s : State) : SysKept s (State.triEpoch p j s) := by
  unfold State.triEpoch
  repeat' first
    | with_reducible exact SysKept.refl _
    | with_reducible assumption
    | (extract_lets +onlyGivenNames x; refine SysKept.cut (s := s) (u := x) ?_ ?_; rotate_left; all_goals first | (intro _; clear_value x) | subst x)
    | (extract_lets +onlyGivenNames x; clear_value x)
    | with_reducible refine (y_triMove ..).step ?_
    | with_reducible refine (y_putTheta ..).step ?_
    | with_reducible refine (k_modTri ..).sys (by decide) ?_
    | with_reducible refine SysKept.ite ?_ ?_
    | split

/-- `epochDone` leaves the system page. -/
theorem y_epochDone (p : Nat) (s : State) : SysKept s (State.epochDone p s) := by
  unfold State.epochDone
  repeat' first
    | with_reducible exact SysKept.refl _
    | with_reducible assumption
    | with_reducible refine (y_triEpoch ..).step ?_
    | with_reducible refine (k_modTri ..).sys (by decide) ?_
    | split

/-- `walk` leaves the system page. -/
theorem y_walk (p : Nat) (w : Nat) (err : Bool) (s : State) : SysKept s (State.walk p w err s).2 := by
  unfold State.walk
  repeat' first
    | with_reducible exact SysKept.refl _
    | with_reducible assumption
    | with_reducible refine (y_unitStand ..).step ?_
    | ((with_reducible refine SysKept.wadd ?_ ?_); rotate_left; (first | decide | exact Nat.le_add_right_of_le (by decide) | exact Nat.le_add_right_of_le (Nat.le_add_right_of_le (by decide))))
    | with_reducible refine SysKept.iteSnd ?_ ?_
    | split
    | with_reducible dsimp only

/-- `walkRefused` leaves the system page. -/
theorem y_walkRefused (a : Nat) (s : State) : SysKept s (State.walkRefused a s) := by
  unfold State.walkRefused
  repeat' first
    | with_reducible exact SysKept.refl _
    | with_reducible assumption
    | (extract_lets +onlyGivenNames x; refine SysKept.cut (s := s) (u := x) ?_ ?_; rotate_left; all_goals first | (intro _; clear_value x) | subst x)
    | (extract_lets +onlyGivenNames x; clear_value x)
    | ((with_reducible refine SysKept.wset ?_ ?_); rotate_left; (first | decide | exact Nat.le_add_right_of_le (by decide) | exact Nat.le_add_right_of_le (Nat.le_add_right_of_le (by decide))))
    | with_reducible refine SysKept.ite ?_ ?_
    | with_reducible refine SysKept.foldl _ ?_ (fun _ _ _ => ?_)
    | split

end Sys2Proof.Machine
end

