-- ==== Sys2Proof/Laws/SysWnMus.lean ====
section
/-! SUPPORT. The operations of Machine/WnMus.lean that leave the system page. -/

namespace Sys2Proof.Machine

open Sys2Proof

/-- `giveBack` leaves the system page. -/
theorem y_giveBack (desc : Nat) (bytes : Nat) (s : State) : SysKept s (State.giveBack desc bytes s) := by
  unfold State.giveBack
  repeat' first
    | with_reducible exact SysKept.refl _
    | with_reducible assumption
    | with_reducible refine (k_modMus ..).sys (by decide) ?_
    | ((with_reducible refine SysKept.wset ?_ ?_); rotate_left; (first | decide | exact Nat.le_add_right_of_le (by decide) | exact Nat.le_add_right_of_le (Nat.le_add_right_of_le (by decide))))

/-- `freeRecord` leaves the system page. -/
theorem y_freeRecord (seq : Nat) (s : State) : SysKept s (State.freeRecord seq s) := by
  unfold State.freeRecord
  repeat' first
    | with_reducible exact SysKept.refl _
    | with_reducible assumption
    | with_reducible refine (y_giveBack ..).step ?_
    | with_reducible refine (k_modMus ..).sys (by decide) ?_
    | split

/-- `makeMissing` leaves the system page. -/
theorem y_makeMissing (k : Int) (p : Nat) (s : State) : SysKept s (State.makeMissing k p s) := by
  unfold State.makeMissing
  repeat' first
    | with_reducible exact SysKept.refl _
    | with_reducible assumption
    | with_reducible refine (k_modSec ..).sys (by decide) ?_
    | with_reducible refine (y_giveBack ..).step ?_
    | split

/-- `takeDesc` leaves the system page. -/
theorem y_takeDesc (k : Int) (p : Nat) (s : State) : SysKept s (State.takeDesc k p s) := by
  unfold State.takeDesc
  repeat' first
    | with_reducible exact SysKept.refl _
    | with_reducible assumption
    | (extract_lets +onlyGivenNames x; refine SysKept.cut (s := s) (u := x) ?_ ?_; rotate_left; all_goals first | (intro _; clear_value x) | subst x)
    | (extract_lets +onlyGivenNames x; clear_value x)
    | (unfold State.noRoom; try dsimp only)
    | with_reducible refine (y_makeMissing ..).step ?_
    | with_reducible refine (k_modSec ..).sys (by decide) ?_
    | ((with_reducible refine SysKept.wraise ?_ ?_); rotate_left; (first | decide | exact Nat.le_add_right_of_le (by decide) | exact Nat.le_add_right_of_le (Nat.le_add_right_of_le (by decide))))
    | ((with_reducible refine SysKept.wadd ?_ ?_); rotate_left; (first | decide | exact Nat.le_add_right_of_le (by decide) | exact Nat.le_add_right_of_le (Nat.le_add_right_of_le (by decide))))
    | ((with_reducible refine SysKept.wset ?_ ?_); rotate_left; (first | decide | exact Nat.le_add_right_of_le (by decide) | exact Nat.le_add_right_of_le (Nat.le_add_right_of_le (by decide))))
    | with_reducible refine SysKept.ite ?_ ?_
    | split

/-- `addWord` leaves the system page. -/
theorem y_addWord (k : Int) (p : Nat) (full : Int) (w : Int) (word : Nat) (s : State) : SysKept s (State.addWord k p full w word s) := by
  unfold State.addWord
  repeat' first
    | with_reducible exact SysKept.refl _
    | with_reducible assumption
    | (extract_lets +onlyGivenNames x; refine SysKept.cut (s := s) (u := x) ?_ ?_; rotate_left; all_goals first | (intro _; clear_value x) | subst x)
    | (extract_lets +onlyGivenNames x; clear_value x)
    | with_reducible refine (y_takeDesc ..).step ?_
    | (unfold State.noRoom; try dsimp only)
    | with_reducible refine (y_makeMissing ..).step ?_
    | with_reducible refine (k_modSec ..).sys (by decide) ?_
    | with_reducible refine (k_modMus ..).sys (by decide) ?_
    | ((with_reducible refine SysKept.wadd ?_ ?_); rotate_left; (first | decide | exact Nat.le_add_right_of_le (by decide) | exact Nat.le_add_right_of_le (Nat.le_add_right_of_le (by decide))))
    | ((with_reducible refine SysKept.wset ?_ ?_); rotate_left; (first | decide | exact Nat.le_add_right_of_le (by decide) | exact Nat.le_add_right_of_le (Nat.le_add_right_of_le (by decide))))
    | with_reducible refine SysKept.ite ?_ ?_
    | split

/-- `leaveBuilding` leaves the system page. -/
theorem y_leaveBuilding (p : Nat) (s : State) : SysKept s (State.leaveBuilding p s) := by
  unfold State.leaveBuilding
  repeat' first
    | with_reducible exact SysKept.refl _
    | with_reducible assumption
    | (extract_lets +onlyGivenNames x; refine SysKept.cut (s := s) (u := x) ?_ ?_; rotate_left; all_goals first | (intro _; clear_value x) | subst x)
    | (extract_lets +onlyGivenNames x; clear_value x)
    | with_reducible refine (k_closeSec ..).sys (by decide) ?_
    | with_reducible refine (y_makeMissing ..).step ?_
    | with_reducible refine (k_modPrx ..).sys (by decide) ?_
    | with_reducible refine SysKept.ite ?_ ?_
    | with_reducible refine SysKept.foldl _ ?_ (fun _ _ _ => ?_)
    | split

/-- `takeHeads` leaves the system page. -/
theorem y_takeHeads (p : Nat) (s : State) (x2 : Nat) : SysKept s (State.takeHeads p s x2) := by
  induction x2 generalizing s with
  | zero =>
    unfold State.takeHeads
    repeat' first
      | with_reducible exact SysKept.refl _
      | with_reducible assumption
      | (extract_lets +onlyGivenNames x; refine SysKept.cut (s := s) (u := x) ?_ ?_; rotate_left; all_goals first | (intro _; clear_value x) | subst x)
      | (extract_lets +onlyGivenNames x; clear_value x)
      | with_reducible refine (y_makeMissing ..).step ?_
      | with_reducible refine (k_modEv ..).sys (by decide) ?_
      | with_reducible refine (k_modPrx ..).sys (by decide) ?_
      | ((with_reducible refine SysKept.wadd ?_ ?_); rotate_left; (first | decide | exact Nat.le_add_right_of_le (by decide) | exact Nat.le_add_right_of_le (Nat.le_add_right_of_le (by decide))))
      | with_reducible refine SysKept.ite ?_ ?_
      | with_reducible refine SysKept.foldl _ ?_ (fun _ _ _ => ?_)
      | split
      | with_reducible dsimp only
  | succ fuel ih =>
    unfold State.takeHeads
    repeat' first
      | with_reducible exact SysKept.refl _
      | with_reducible assumption
      | (extract_lets +onlyGivenNames x; refine SysKept.cut (s := s) (u := x) ?_ ?_; rotate_left; all_goals first | (intro _; clear_value x) | subst x)
      | (extract_lets +onlyGivenNames x; clear_value x)
      | with_reducible refine (ih ..).step ?_
      | with_reducible refine (y_makeMissing ..).step ?_
      | with_reducible refine (k_modEv ..).sys (by decide) ?_
      | with_reducible refine (k_modPrx ..).sys (by decide) ?_
      | ((with_reducible refine SysKept.wadd ?_ ?_); rotate_left; (first | decide | exact Nat.le_add_right_of_le (by decide) | exact Nat.le_add_right_of_le (Nat.le_add_right_of_le (by decide))))
      | with_reducible refine SysKept.ite ?_ ?_
      | with_reducible refine SysKept.foldl _ ?_ (fun _ _ _ => ?_)
      | split
      | with_reducible dsimp only

/-- `fragHead` leaves the system page. -/
theorem y_fragHead (p : Nat) (k : Nat) (acc : Nat) (ts : Nat) (s : State) : SysKept s (State.fragHead p k acc ts s) := by
  unfold State.fragHead
  repeat' first
    | with_reducible exact SysKept.refl _
    | with_reducible assumption
    | (extract_lets +onlyGivenNames x; refine SysKept.cut (s := s) (u := x) ?_ ?_; rotate_left; all_goals first | (intro _; clear_value x) | subst x)
    | (extract_lets +onlyGivenNames x; clear_value x)
    | with_reducible refine (y_takeHeads ..).step ?_
    | with_reducible refine (y_takeDesc ..).step ?_
    | with_reducible refine (k_closeSec ..).sys (by decide) ?_
    | with_reducible refine (k_modSec ..).sys (by decide) ?_
    | with_reducible refine (k_modEv ..).sys (by decide) ?_
    | with_reducible refine (k_modPrx ..).sys (by decide) ?_
    | ((with_reducible refine SysKept.wadd ?_ ?_); rotate_left; (first | decide | exact Nat.le_add_right_of_le (by decide) | exact Nat.le_add_right_of_le (Nat.le_add_right_of_le (by decide))))
    | ((with_reducible refine SysKept.wset ?_ ?_); rotate_left; (first | decide | exact Nat.le_add_right_of_le (by decide) | exact Nat.le_add_right_of_le (Nat.le_add_right_of_le (by decide))))
    | with_reducible refine SysKept.ite ?_ ?_
    | split

/-- `fragWord` leaves the system page. -/
theorem y_fragWord (p : Nat) (k : Nat) (w : Nat) (err : Bool) (s : State) : SysKept s (State.fragWord p k w err s) := by
  unfold State.fragWord
  repeat' first
    | with_reducible exact SysKept.refl _
    | with_reducible assumption
    | (extract_lets +onlyGivenNames x; refine SysKept.cut (s := s) (u := x) ?_ ?_; rotate_left; all_goals first | (intro _; clear_value x) | subst x)
    | (extract_lets +onlyGivenNames x; clear_value x)
    | with_reducible refine (y_addWord ..).step ?_
    | with_reducible refine (k_modPrx ..).sys (by decide) ?_
    | with_reducible refine SysKept.foldl _ ?_ (fun _ _ _ => ?_)
    | split
    | with_reducible refine SysKept.ofSnd (by assumption) ?_
    | with_reducible refine (y_walk ..).step ?_
    | with_reducible dsimp only

/-- `fragTail` leaves the system page. -/
theorem y_fragTail (p : Nat) (k : Nat) (body : Nat) (s : State) : SysKept s (State.fragTail p k body s) := by
  unfold State.fragTail
  repeat' first
    | with_reducible exact SysKept.refl _
    | with_reducible assumption
    | (extract_lets +onlyGivenNames x; refine SysKept.cut (s := s) (u := x) ?_ ?_; rotate_left; all_goals first | (intro _; clear_value x) | subst x)
    | (extract_lets +onlyGivenNames x; clear_value x)
    | with_reducible refine (k_closeSec ..).sys (by decide) ?_
    | with_reducible refine (k_modPrx ..).sys (by decide) ?_
    | ((with_reducible refine SysKept.wadd ?_ ?_); rotate_left; (first | decide | exact Nat.le_add_right_of_le (by decide) | exact Nat.le_add_right_of_le (Nat.le_add_right_of_le (by decide))))
    | with_reducible refine SysKept.ite ?_ ?_
    | split

/-- `specCount` leaves the system page. -/
theorem y_specCount (n : Nat) (s : State) : SysKept s (State.specCount n s) := by
  unfold State.specCount
  repeat' first
    | with_reducible exact SysKept.refl _
    | with_reducible assumption
    | ((with_reducible refine SysKept.wadd ?_ ?_); rotate_left; (first | decide | exact Nat.le_add_right_of_le (by decide) | exact Nat.le_add_right_of_le (Nat.le_add_right_of_le (by decide))))

/-- `expireCand` leaves the system page. -/
theorem y_expireCand (slot : Int) (s : State) : SysKept s (State.expireCand slot s) := by
  unfold State.expireCand
  repeat' first
    | with_reducible exact SysKept.refl _
    | with_reducible assumption
    | with_reducible refine (y_specCount ..).step ?_
    | with_reducible refine (k_modMus ..).sys (by decide) ?_
    | ((with_reducible refine SysKept.wset ?_ ?_); rotate_left; (first | decide | exact Nat.le_add_right_of_le (by decide) | exact Nat.le_add_right_of_le (Nat.le_add_right_of_le (by decide))))
    | with_reducible refine SysKept.ite ?_ ?_
    | split

/-- `releaseEarly` leaves the system page. -/
theorem y_releaseEarly {s t : State} (e : s.releaseEarly = some t) : SysKept s t := by
  unfold State.releaseEarly at e
  extract_lets heads at e
  clear_value heads
  split at e
  · cases e
  · extract_lets s0 free x y gone at e
    split at e
    · obtain rfl := Option.some.inj e
      refine SysKept.foldl _ ?_ (fun _ _ h => (y_expireCand ..).step h)
      refine SysKept.wset ?_ (by decide)
      refine (y_specCount ..).step ?_
      exact (SysKept.refl s).ofWr rfl
    · cases e

/-- `stallRoom` leaves the system page. -/
theorem y_stallRoom (s : State) (x1 : Nat) : SysKept s (State.stallRoom s x1) := by
  induction x1 generalizing s with
  | zero =>
    unfold State.stallRoom
    repeat' first
      | with_reducible exact SysKept.refl _
      | with_reducible assumption
      | with_reducible refine (y_releaseEarly (by assumption)).step ?_
      | with_reducible refine SysKept.ite ?_ ?_
      | split
      | with_reducible dsimp only
  | succ fuel ih =>
    unfold State.stallRoom
    repeat' first
      | with_reducible exact SysKept.refl _
      | with_reducible assumption
      | with_reducible refine (y_releaseEarly (by assumption)).step ?_
      | with_reducible refine SysKept.ite ?_ ?_
      | with_reducible refine (ih ..).step ?_
      | split
      | with_reducible dsimp only

/-- `stallWord` leaves the system page. -/
theorem y_stallWord (p : Nat) (frame : Nat) (w : Nat) (full : Int) (t : Int) (s : State) : SysKept s (State.stallWord p frame w full t s) := by
  unfold State.stallWord
  repeat' first
    | with_reducible exact SysKept.refl _
    | with_reducible assumption
    | (extract_lets +onlyGivenNames x; refine SysKept.cut (s := s) (u := x) ?_ ?_; rotate_left; all_goals first | (intro _; clear_value x) | subst x)
    | (extract_lets +onlyGivenNames x; clear_value x)
    | with_reducible refine (y_stallRoom ..).step ?_
    | with_reducible refine (k_frameFlags ..).sys (by decide) ?_
    | with_reducible refine (k_modMus ..).sys (by decide) ?_
    | with_reducible refine SysKept.ite ?_ ?_
    | split

/-- `streamWord` leaves the system page. -/
theorem y_streamWord (p : Nat) (k : Nat) (w : Nat) (err : Bool) (s : State) : SysKept s (State.streamWord p k w err s) := by
  unfold State.streamWord
  repeat' first
    | with_reducible exact SysKept.refl _
    | with_reducible assumption
    | (extract_lets +onlyGivenNames x; refine SysKept.cut (s := s) (u := x) ?_ ?_; rotate_left; all_goals first | (intro _; clear_value x) | subst x)
    | (extract_lets +onlyGivenNames x; clear_value x)
    | with_reducible refine (y_stallWord ..).step ?_
    | with_reducible refine (k_openSlices ..).sys (by decide) ?_
    | with_reducible refine (y_addWord ..).step ?_
    | with_reducible refine (k_modPrx ..).sys (by decide) ?_
    | with_reducible refine SysKept.ite ?_ ?_
    | split
    | with_reducible refine SysKept.ofSnd (by assumption) ?_
    | with_reducible refine (y_walk ..).step ?_
    | with_reducible dsimp only

/-- `streamEnd` leaves the system page. -/
theorem y_streamEnd (p : Nat) (k : Nat) (body : Nat) (s : State) : SysKept s (State.streamEnd p k body s) := by
  unfold State.streamEnd
  repeat' first
    | with_reducible exact SysKept.refl _
    | with_reducible assumption
    | (extract_lets +onlyGivenNames x; refine SysKept.cut (s := s) (u := x) ?_ ?_; rotate_left; all_goals first | (intro _; clear_value x) | subst x)
    | (extract_lets +onlyGivenNames x; clear_value x)
    | with_reducible refine (k_frameFlags ..).sys (by decide) ?_
    | with_reducible refine (k_openSlices ..).sys (by decide) ?_
    | with_reducible refine (y_takeDesc ..).step ?_
    | with_reducible refine (k_closeSec ..).sys (by decide) ?_
    | with_reducible refine (k_modPrx ..).sys (by decide) ?_
    | ((with_reducible refine SysKept.wcountIf ?_ ?_); rotate_left; (first | decide | exact Nat.le_add_right_of_le (by decide) | exact Nat.le_add_right_of_le (Nat.le_add_right_of_le (by decide))))
    | with_reducible refine SysKept.ite ?_ ?_
    | split

/-- `specClose` leaves the system page. -/
theorem y_specClose (k : Int) (p : Nat) (extra : Nat) (s : State) : SysKept s (State.specClose k p extra s) := by
  unfold State.specClose
  repeat' first
    | with_reducible exact SysKept.refl _
    | with_reducible assumption
    | (extract_lets +onlyGivenNames x; refine SysKept.cut (s := s) (u := x) ?_ ?_; rotate_left; all_goals first | (intro _; clear_value x) | subst x)
    | (extract_lets +onlyGivenNames x; clear_value x)
    | with_reducible refine (y_addWord ..).step ?_
    | with_reducible refine (y_takeDesc ..).step ?_
    | with_reducible refine (k_closeSec ..).sys (by decide) ?_
    | with_reducible refine (y_makeMissing ..).step ?_
    | with_reducible refine SysKept.ite ?_ ?_
    | with_reducible refine SysKept.foldl _ ?_ (fun _ _ _ => ?_)
    | split

/-- `evComplete` leaves the system page. -/
theorem y_evComplete (k : Int) (s : State) : SysKept s (State.evComplete k s) := by
  unfold State.evComplete
  repeat' first
    | with_reducible exact SysKept.refl _
    | with_reducible assumption
    | with_reducible refine (y_specClose ..).step ?_
    | with_reducible refine (k_modEv ..).sys (by decide) ?_
    | with_reducible refine SysKept.ite ?_ ?_
    | with_reducible refine SysKept.foldl _ ?_ (fun _ _ _ => ?_)
    | split

/-- `evDeadline` leaves the system page. -/
theorem y_evDeadline (k : Int) (s : State) : SysKept s (State.evDeadline k s) := by
  unfold State.evDeadline
  repeat' first
    | with_reducible exact SysKept.refl _
    | with_reducible assumption
    | with_reducible refine (y_specClose ..).step ?_
    | with_reducible refine (k_closeSec ..).sys (by decide) ?_
    | with_reducible refine (y_makeMissing ..).step ?_
    | with_reducible refine SysKept.ite ?_ ?_
    | with_reducible refine SysKept.foldl _ ?_ (fun _ _ _ => ?_)
    | split

/-- `setSeq` leaves the system page. -/
theorem y_setSeq (n : Nat) (s : State) : SysKept s (State.setSeq n s) := by
  unfold State.setSeq
  repeat' first
    | with_reducible exact SysKept.refl _
    | with_reducible assumption
    | ((with_reducible refine SysKept.wsets ?_ ?_); rotate_left; (((repeat refine List.forall_mem_cons.2 ⟨by dsimp only; first | decide | exact Nat.le_add_right_of_le (by decide) | exact Nat.le_add_right_of_le (Nat.le_add_right_of_le (by decide)), ?_⟩); (intro _ h; cases h))))

/-- `joinCommit` leaves the system page. -/
theorem y_joinCommit (e : Ev) (s : State) : SysKept s (State.joinCommit e s) := by
  unfold State.joinCommit
  repeat' first
    | with_reducible exact SysKept.refl _
    | with_reducible assumption
    | (extract_lets +onlyGivenNames x; refine SysKept.cut (s := s) (u := x) ?_ ?_; rotate_left; all_goals first | (intro _; clear_value x) | subst x)
    | (extract_lets +onlyGivenNames x; clear_value x)
    | with_reducible refine (y_setSeq ..).step ?_
    | with_reducible refine (k_plSend ..).sys (by decide) ?_
    | with_reducible refine (k_modPair ..).sys (by decide) ?_
    | ((with_reducible refine SysKept.wsets ?_ ?_); rotate_left; (((repeat refine List.forall_mem_cons.2 ⟨by dsimp only; first | decide | exact Nat.le_add_right_of_le (by decide) | exact Nat.le_add_right_of_le (Nat.le_add_right_of_le (by decide)), ?_⟩); (intro _ h; cases h))))
    | ((with_reducible refine SysKept.wset ?_ ?_); rotate_left; (first | decide | exact Nat.le_add_right_of_le (by decide) | exact Nat.le_add_right_of_le (Nat.le_add_right_of_le (by decide))))
    | with_reducible refine SysKept.ite ?_ ?_
    | split

/-- `commitEv` leaves the system page. -/
theorem y_commitEv (e : Ev) (s : State) : SysKept s (State.commitEv e s) := by
  unfold State.commitEv
  repeat' first
    | with_reducible exact SysKept.refl _
    | with_reducible assumption
    | (extract_lets +onlyGivenNames x; refine SysKept.cut (s := s) (u := x) ?_ ?_; rotate_left; all_goals first | (intro _; clear_value x) | subst x)
    | (extract_lets +onlyGivenNames x; clear_value x)
    | with_reducible refine (y_joinCommit ..).step ?_
    | with_reducible refine (y_setSeq ..).step ?_
    | with_reducible refine (k_modMus ..).sys (by decide) ?_
    | with_reducible refine (y_digestEnter ..).step ?_
    | with_reducible refine (k_plSend ..).sys (by decide) ?_
    | with_reducible refine (y_offerPacket ..).step ?_
    | ((with_reducible refine SysKept.wcountIf ?_ ?_); rotate_left; (first | decide | exact Nat.le_add_right_of_le (by decide) | exact Nat.le_add_right_of_le (Nat.le_add_right_of_le (by decide))))
    | with_reducible refine SysKept.ite ?_ ?_
    | with_reducible refine SysKept.foldl _ ?_ (fun _ _ _ => ?_)
    | split
    | with_reducible dsimp only

/-- `loseDesc` leaves the system page. -/
theorem y_loseDesc (k : Int) (p : Nat) (s : State) : SysKept s (State.loseDesc k p s) := by
  unfold State.loseDesc
  repeat' first
    | with_reducible exact SysKept.refl _
    | with_reducible assumption
    | with_reducible refine (k_modSec ..).sys (by decide) ?_
    | with_reducible refine (y_giveBack ..).step ?_
    | with_reducible refine (y_unitStand ..).step ?_
    | with_reducible refine SysKept.ite ?_ ?_
    | split

/-- `commitFront` leaves the system page. -/
theorem y_commitFront (lost : Nat) (s : State) : SysKept s (State.commitFront lost s) := by
  unfold State.commitFront
  repeat' first
    | with_reducible exact SysKept.refl _
    | with_reducible assumption
    | (extract_lets +onlyGivenNames x; refine SysKept.cut (s := s) (u := x) ?_ ?_; rotate_left; all_goals first | (intro _; clear_value x) | subst x)
    | (extract_lets +onlyGivenNames x; clear_value x)
    | with_reducible refine (y_loseDesc ..).step ?_
    | with_reducible refine (y_commitEv ..).step ?_
    | with_reducible refine (k_openSlices ..).sys (by decide) ?_
    | with_reducible refine SysKept.ite ?_ ?_
    | with_reducible refine SysKept.foldl _ ?_ (fun _ _ _ => ?_)
    | split

/-- `musRun` leaves the system page. -/
theorem y_musRun (s : State) : SysKept s (State.musRun s) := by
  unfold State.musRun
  repeat' first
    | with_reducible exact SysKept.refl _
    | with_reducible assumption
    | (extract_lets +onlyGivenNames x; refine SysKept.cut (s := s) (u := x) ?_ ?_; rotate_left; all_goals first | (intro _; clear_value x) | subst x)
    | (extract_lets +onlyGivenNames x; clear_value x)
    | with_reducible refine (y_setSeq ..).step ?_
    | ((with_reducible refine SysKept.wsets ?_ ?_); rotate_left; (((repeat refine List.forall_mem_cons.2 ⟨by dsimp only; first | decide | exact Nat.le_add_right_of_le (by decide) | exact Nat.le_add_right_of_le (Nat.le_add_right_of_le (by decide)), ?_⟩); (intro _ h; cases h))))
    | with_reducible refine SysKept.ite ?_ ?_
    | split
    | with_reducible refine SysKept.upd_mus ?_

/-- `musStop` leaves the system page. -/
theorem y_musStop (s : State) : SysKept s (State.musStop s) := by
  unfold State.musStop
  repeat' first
    | with_reducible exact SysKept.refl _
    | with_reducible assumption
    | (extract_lets +onlyGivenNames x; refine SysKept.cut (s := s) (u := x) ?_ ?_; rotate_left; all_goals first | (intro _; clear_value x) | subst x)
    | (extract_lets +onlyGivenNames x; clear_value x)
    | ((with_reducible refine SysKept.wsets ?_ ?_); rotate_left; (((repeat refine List.forall_mem_cons.2 ⟨by dsimp only; first | decide | exact Nat.le_add_right_of_le (by decide) | exact Nat.le_add_right_of_le (Nat.le_add_right_of_le (by decide)), ?_⟩); (intro _ h; cases h))))
    | with_reducible refine SysKept.upd_mus ?_

/-- `viewLatch` leaves the system page. -/
theorem y_viewLatch (s : State) : SysKept s (State.viewLatch s) := by
  unfold State.viewLatch
  repeat' first
    | with_reducible exact SysKept.refl _
    | with_reducible assumption
    | ((with_reducible refine SysKept.wsets ?_ ?_); rotate_left; (((repeat refine List.forall_mem_cons.2 ⟨by dsimp only; first | decide | exact Nat.le_add_right_of_le (by decide) | exact Nat.le_add_right_of_le (Nat.le_add_right_of_le (by decide)), ?_⟩); (intro _ h; cases h))))
    | with_reducible refine SysKept.ite ?_ ?_
    | split

/-- `viewRead` leaves the system page. -/
theorem y_viewRead (s : State) : SysKept s (State.viewRead s) := by
  unfold State.viewRead
  repeat' first
    | with_reducible exact SysKept.refl _
    | with_reducible assumption
    | (extract_lets +onlyGivenNames x; refine SysKept.cut (s := s) (u := x) ?_ ?_; rotate_left; all_goals first | (intro _; clear_value x) | subst x)
    | (extract_lets +onlyGivenNames x; clear_value x)
    | with_reducible refine (y_viewLatch ..).step ?_
    | with_reducible refine (k_modMus ..).sys (by decide) ?_
    | with_reducible refine SysKept.ite ?_ ?_
    | split

end Sys2Proof.Machine
end

