-- ==== Sys2Proof/Laws/SysWnTrig.lean ====
section
/-! SUPPORT. The operations of Machine/WnTrig.lean that leave the system page. -/

namespace Sys2Proof.Machine

open Sys2Proof

/-- `openTriggered` leaves the system page. -/
theorem y_openTriggered (slot : Int) (cls : Nat) (own : Bool) (s : State) : SysKept s (State.openTriggered slot cls own s) := by
  unfold State.openTriggered
  repeat' first
    | with_reducible exact SysKept.refl _
    | with_reducible assumption
    | (extract_lets +onlyGivenNames x; refine SysKept.cut (s := s) (u := x) ?_ ?_; rotate_left; all_goals first | (intro _; clear_value x) | subst x)
    | (extract_lets +onlyGivenNames x; clear_value x)
    | with_reducible refine (k_mergeEv ..).sys (by decide) ?_
    | with_reducible refine (k_openEv ..).sys (by decide) ?_
    | with_reducible refine (k_modMus ..).sys (by decide) ?_
    | ((with_reducible refine SysKept.wcountIf ?_ ?_); rotate_left; (first | decide | exact Nat.le_add_right_of_le (by decide) | exact Nat.le_add_right_of_le (Nat.le_add_right_of_le (by decide))))
    | with_reducible refine SysKept.ite ?_ ?_
    | split

/-- `specDecide` leaves the system page. -/
theorem y_specDecide (code : Nat) (slot : Int) (cls : Nat) (own : Bool) (s : State) : SysKept s (State.specDecide code slot cls own s) := by
  unfold State.specDecide
  repeat' first
    | with_reducible exact SysKept.refl _
    | with_reducible assumption
    | (extract_lets +onlyGivenNames x; refine SysKept.cut (s := s) (u := x) ?_ ?_; rotate_left; all_goals first | (intro _; clear_value x) | subst x)
    | (extract_lets +onlyGivenNames x; clear_value x)
    | with_reducible refine (k_dropCand ..).sys (by decide) ?_
    | with_reducible refine (k_mergeEv ..).sys (by decide) ?_
    | with_reducible refine (y_evComplete ..).step ?_
    | with_reducible refine (y_specCount ..).step ?_
    | with_reducible refine (k_openEv ..).sys (by decide) ?_
    | ((with_reducible refine SysKept.wadd ?_ ?_); rotate_left; (first | decide | exact Nat.le_add_right_of_le (by decide) | exact Nat.le_add_right_of_le (Nat.le_add_right_of_le (by decide))))
    | ((with_reducible refine SysKept.wset ?_ ?_); rotate_left; (first | decide | exact Nat.le_add_right_of_le (by decide) | exact Nat.le_add_right_of_le (Nat.le_add_right_of_le (by decide))))
    | with_reducible refine SysKept.ite ?_ ?_
    | split

/-- `partnerDecision` leaves the system page. -/
theorem y_partnerDecision (word : Nat) (s : State) : SysKept s (State.partnerDecision word s) := by
  unfold State.partnerDecision
  repeat' first
    | with_reducible exact SysKept.refl _
    | with_reducible assumption
    | (extract_lets +onlyGivenNames x; refine SysKept.cut (s := s) (u := x) ?_ ?_; rotate_left; all_goals first | (intro _; clear_value x) | subst x)
    | (extract_lets +onlyGivenNames x; clear_value x)
    | with_reducible refine (y_specDecide ..).step ?_
    | with_reducible refine (y_openTriggered ..).step ?_
    | with_reducible refine SysKept.ite ?_ ?_
    | split

/-- `tlBlock` leaves the system page. -/
theorem y_tlBlock (t : Nat) (hdr : Nat) (word : Nat) (s : State) : SysKept s (State.tlBlock t hdr word s) := by
  unfold State.tlBlock
  repeat' first
    | with_reducible exact SysKept.refl _
    | with_reducible assumption
    | (extract_lets +onlyGivenNames x; refine SysKept.cut (s := s) (u := x) ?_ ?_; rotate_left; all_goals first | (intro _; clear_value x) | subst x)
    | (extract_lets +onlyGivenNames x; clear_value x)
    | with_reducible refine (k_queueAccept ..).sys (by decide) ?_
    | with_reducible refine (k_tellPartner ..).sys (by decide) ?_
    | with_reducible refine (y_specDecide ..).step ?_
    | ((with_reducible refine SysKept.wadd ?_ ?_); rotate_left; (first | decide | exact Nat.le_add_right_of_le (by decide) | exact Nat.le_add_right_of_le (Nat.le_add_right_of_le (by decide))))
    | with_reducible refine SysKept.ite ?_ ?_
    | split

/-- `forwardCell` leaves the system page. -/
theorem y_forwardCell (s : State) : SysKept s (State.forwardCell s) := by
  unfold State.forwardCell
  repeat' first
    | with_reducible exact SysKept.refl _
    | with_reducible assumption
    | (extract_lets +onlyGivenNames x; refine SysKept.cut (s := s) (u := x) ?_ ?_; rotate_left; all_goals first | (intro _; clear_value x) | subst x)
    | (extract_lets +onlyGivenNames x; clear_value x)
    | with_reducible refine (y_openTriggered ..).step ?_
    | with_reducible refine (k_modMus ..).sys (by decide) ?_
    | ((with_reducible refine SysKept.wadd ?_ ?_); rotate_left; (first | decide | exact Nat.le_add_right_of_le (by decide) | exact Nat.le_add_right_of_le (Nat.le_add_right_of_le (by decide))))
    | ((with_reducible refine SysKept.wset ?_ ?_); rotate_left; (first | decide | exact Nat.le_add_right_of_le (by decide) | exact Nat.le_add_right_of_le (Nat.le_add_right_of_le (by decide))))
    | with_reducible refine SysKept.emit ?_
    | with_reducible refine SysKept.ite ?_ ?_
    | with_reducible refine SysKept.foldl _ ?_ (fun _ _ _ => ?_)
    | split

/-- `selfFire` leaves the system page. -/
theorem y_selfFire (slot : Int) (s : State) : SysKept s (State.selfFire slot s) := by
  unfold State.selfFire
  repeat' first
    | with_reducible exact SysKept.refl _
    | with_reducible assumption
    | (extract_lets +onlyGivenNames x; refine SysKept.cut (s := s) (u := x) ?_ ?_; rotate_left; all_goals first | (intro _; clear_value x) | subst x)
    | (extract_lets +onlyGivenNames x; clear_value x)
    | with_reducible refine (k_modMus ..).sys (by decide) ?_
    | ((with_reducible refine SysKept.wadd ?_ ?_); rotate_left; (first | decide | exact Nat.le_add_right_of_le (by decide) | exact Nat.le_add_right_of_le (Nat.le_add_right_of_le (by decide))))
    | with_reducible refine SysKept.ite ?_ ?_
    | split

/-- `selfEval` leaves the system page. -/
theorem y_selfEval (slot : Nat) (l : List Prim) (s : State) : SysKept s (State.selfEval slot l s) := by
  unfold State.selfEval
  repeat' first
    | with_reducible exact SysKept.refl _
    | with_reducible assumption
    | with_reducible refine (y_selfFire ..).step ?_
    | with_reducible refine (k_modMus ..).sys (by decide) ?_
    | with_reducible refine SysKept.ite ?_ ?_
    | split

/-- `capture` leaves the system page. -/
theorem y_capture (slot : Nat) (s : State) : SysKept s (State.capture slot s) := by
  unfold State.capture
  repeat' first
    | with_reducible exact SysKept.refl _
    | with_reducible assumption
    | (extract_lets +onlyGivenNames x; refine SysKept.cut (s := s) (u := x) ?_ ?_; rotate_left; all_goals first | (intro _; clear_value x) | subst x)
    | (extract_lets +onlyGivenNames x; clear_value x)
    | with_reducible refine (y_selfEval ..).step ?_
    | with_reducible refine (k_modMus ..).sys (by decide) ?_
    | ((with_reducible refine SysKept.wadd ?_ ?_); rotate_left; (first | decide | exact Nat.le_add_right_of_le (by decide) | exact Nat.le_add_right_of_le (Nat.le_add_right_of_le (by decide))))
    | ((with_reducible refine SysKept.wset ?_ ?_); rotate_left; (first | decide | exact Nat.le_add_right_of_le (by decide) | exact Nat.le_add_right_of_le (Nat.le_add_right_of_le (by decide))))
    | with_reducible refine SysKept.foldl _ ?_ (fun _ _ _ => ?_)
    | split

/-- `openCand` leaves the system page. -/
theorem y_openCand (slot : Nat) (l : List Prim) (s : State) : SysKept s (State.openCand slot l s) := by
  unfold State.openCand
  repeat' first
    | with_reducible exact SysKept.refl _
    | with_reducible assumption
    | with_reducible refine (y_specCount ..).step ?_
    | with_reducible refine (k_modMus ..).sys (by decide) ?_
    | with_reducible refine SysKept.ite ?_ ?_
    | split

/-- `releaseCell` leaves the system page. -/
theorem y_releaseCell (slot : Nat) (s : State) : SysKept s (State.releaseCell slot s) := by
  unfold State.releaseCell
  repeat' first
    | with_reducible exact SysKept.refl _
    | with_reducible assumption
    | (extract_lets +onlyGivenNames x; refine SysKept.cut (s := s) (u := x) ?_ ?_; rotate_left; all_goals first | (intro _; clear_value x) | subst x)
    | (extract_lets +onlyGivenNames x; clear_value x)
    | with_reducible refine (y_openCand ..).step ?_
    | with_reducible refine (k_modMus ..).sys (by decide) ?_
    | with_reducible refine SysKept.emit ?_

/-- `selfAccept` leaves the system page. -/
theorem y_selfAccept (slot : Int) (s : State) : SysKept s (State.selfAccept slot s) := by
  unfold State.selfAccept
  repeat' first
    | with_reducible exact SysKept.refl _
    | with_reducible assumption
    | (extract_lets +onlyGivenNames x; refine SysKept.cut (s := s) (u := x) ?_ ?_; rotate_left; all_goals first | (intro _; clear_value x) | subst x)
    | (extract_lets +onlyGivenNames x; clear_value x)
    | with_reducible refine (k_queueAccept ..).sys (by decide) ?_
    | with_reducible refine (k_tellPartner ..).sys (by decide) ?_
    | with_reducible refine (y_specDecide ..).step ?_
    | ((with_reducible refine SysKept.wadd ?_ ?_); rotate_left; (first | decide | exact Nat.le_add_right_of_le (by decide) | exact Nat.le_add_right_of_le (Nat.le_add_right_of_le (by decide))))
    | with_reducible refine SysKept.ite ?_ ?_
    | split

end Sys2Proof.Machine
end

