-- ==== Sys2Proof/Laws/SysWnIng.lean ====
section
/-! SUPPORT. The operations of Machine/WnIng.lean that leave the system page. -/

namespace Sys2Proof.Machine

open Sys2Proof

/-- `setPort` leaves the system page. -/
theorem y_setPort (p : Nat) (st : Nat) (s : State) : SysKept s (State.setPort p st s) := by
  unfold State.setPort
  repeat' first
    | with_reducible exact SysKept.refl _
    | with_reducible assumption
    | (extract_lets +onlyGivenNames x; refine SysKept.cut (s := s) (u := x) ?_ ?_; rotate_left; all_goals first | (intro _; clear_value x) | subst x)
    | (extract_lets +onlyGivenNames x; clear_value x)
    | ((with_reducible refine SysKept.wsets ?_ ?_); rotate_left; (((repeat refine List.forall_mem_cons.2 ⟨by dsimp only; first | decide | exact Nat.le_add_right_of_le (by decide) | exact Nat.le_add_right_of_le (Nat.le_add_right_of_le (by decide)), ?_⟩); (intro _ h; cases h))))
    | ((with_reducible refine SysKept.wset ?_ ?_); rotate_left; (first | decide | exact Nat.le_add_right_of_le (by decide) | exact Nat.le_add_right_of_le (Nat.le_add_right_of_le (by decide))))
    | split

/-- `laneDrop` leaves the system page. -/
theorem y_laneDrop (l : Nat) (st : Nat) (s : State) : SysKept s (State.laneDrop l st s) := by
  unfold State.laneDrop
  repeat' first
    | with_reducible exact SysKept.refl _
    | with_reducible assumption
    | (extract_lets +onlyGivenNames x; refine SysKept.cut (s := s) (u := x) ?_ ?_; rotate_left; all_goals first | (intro _; clear_value x) | subst x)
    | (extract_lets +onlyGivenNames x; clear_value x)
    | with_reducible refine (k_wordsLost ..).sys (by decide) ?_
    | with_reducible refine (k_modLane ..).sys (by decide) ?_
    | ((with_reducible refine SysKept.wadd ?_ ?_); rotate_left; (first | decide | exact Nat.le_add_right_of_le (by decide) | exact Nat.le_add_right_of_le (Nat.le_add_right_of_le (by decide))))
    | ((with_reducible refine SysKept.wset ?_ ?_); rotate_left; (first | decide | exact Nat.le_add_right_of_le (by decide) | exact Nat.le_add_right_of_le (Nat.le_add_right_of_le (by decide))))
    | with_reducible refine SysKept.ite ?_ ?_
    | split

/-- `laneHunt` leaves the system page. -/
theorem y_laneHunt (l : Nat) (s : State) : SysKept s (State.laneHunt l s) := by
  unfold State.laneHunt
  repeat' first
    | with_reducible exact SysKept.refl _
    | with_reducible assumption
    | (extract_lets +onlyGivenNames x; refine SysKept.cut (s := s) (u := x) ?_ ?_; rotate_left; all_goals first | (intro _; clear_value x) | subst x)
    | (extract_lets +onlyGivenNames x; clear_value x)
    | with_reducible refine (y_laneDrop ..).step ?_
    | with_reducible refine (k_relink ..).sys (by decide) ?_
    | with_reducible refine SysKept.ite ?_ ?_
    | split

/-- `laneFaulty` leaves the system page. -/
theorem y_laneFaulty (l : Nat) (cause : Nat) (s : State) : SysKept s (State.laneFaulty l cause s) := by
  unfold State.laneFaulty
  repeat' first
    | with_reducible exact SysKept.refl _
    | with_reducible assumption
    | (extract_lets +onlyGivenNames x; refine SysKept.cut (s := s) (u := x) ?_ ?_; rotate_left; all_goals first | (intro _; clear_value x) | subst x)
    | (extract_lets +onlyGivenNames x; clear_value x)
    | with_reducible refine (y_leaveBuilding ..).step ?_
    | with_reducible refine (k_modLane ..).sys (by decide) ?_
    | ((with_reducible refine SysKept.wsets ?_ ?_); rotate_left; (((repeat refine List.forall_mem_cons.2 ⟨by dsimp only; first | decide | exact Nat.le_add_right_of_le (by decide) | exact Nat.le_add_right_of_le (Nat.le_add_right_of_le (by decide)), ?_⟩); (intro _ h; cases h))))

/-- `blockLost` leaves the system page. -/
theorem y_blockLost (l : Nat) (num : Nat) (s : State) : SysKept s (State.blockLost l num s) := by
  unfold State.blockLost
  repeat' first
    | with_reducible exact SysKept.refl _
    | with_reducible assumption
    | with_reducible refine (k_wordsLost ..).sys (by decide) ?_
    | with_reducible refine (k_modLane ..).sys (by decide) ?_
    | ((with_reducible refine SysKept.wadd ?_ ?_); rotate_left; (first | decide | exact Nat.le_add_right_of_le (by decide) | exact Nat.le_add_right_of_le (Nat.le_add_right_of_le (by decide))))

/-- `huntBlock` leaves the system page. -/
theorem y_huntBlock (l : Nat) (num : Nat) (ok : Bool) (s : State) : SysKept s (State.huntBlock l num ok s) := by
  unfold State.huntBlock
  repeat' first
    | with_reducible exact SysKept.refl _
    | with_reducible assumption
    | (extract_lets +onlyGivenNames x; refine SysKept.cut (s := s) (u := x) ?_ ?_; rotate_left; all_goals first | (intro _; clear_value x) | subst x)
    | (extract_lets +onlyGivenNames x; clear_value x)
    | with_reducible refine (y_triRestart ..).step ?_
    | with_reducible refine (k_modLane ..).sys (by decide) ?_
    | ((with_reducible refine SysKept.wset ?_ ?_); rotate_left; (first | decide | exact Nat.le_add_right_of_le (by decide) | exact Nat.le_add_right_of_le (Nat.le_add_right_of_le (by decide))))
    | with_reducible refine SysKept.ite ?_ ?_
    | split

/-- `badBlock` leaves the system page. -/
theorem y_badBlock (l : Nat) (num : Nat) (s : State) : SysKept s (State.badBlock l num s) := by
  unfold State.badBlock
  repeat' first
    | with_reducible exact SysKept.refl _
    | with_reducible assumption
    | (extract_lets +onlyGivenNames x; refine SysKept.cut (s := s) (u := x) ?_ ?_; rotate_left; all_goals first | (intro _; clear_value x) | subst x)
    | (extract_lets +onlyGivenNames x; clear_value x)
    | with_reducible refine (y_laneFaulty ..).step ?_
    | with_reducible refine (y_laneHunt ..).step ?_
    | with_reducible refine (k_wordsLost ..).sys (by decide) ?_
    | with_reducible refine (k_dlOp ..).sys (by decide) ?_
    | with_reducible refine (k_modLane ..).sys (by decide) ?_
    | ((with_reducible refine SysKept.wadd ?_ ?_); rotate_left; (first | decide | exact Nat.le_add_right_of_le (by decide) | exact Nat.le_add_right_of_le (Nat.le_add_right_of_le (by decide))))
    | with_reducible refine SysKept.ite ?_ ?_
    | split

/-- `rsBlock` leaves the system page. -/
theorem y_rsBlock (l : Nat) (num : Nat) (replay : Bool) (fix : Nat) (s : State) : SysKept s (State.rsBlock l num replay fix s) := by
  unfold State.rsBlock
  repeat' first
    | with_reducible exact SysKept.refl _
    | with_reducible assumption
    | (extract_lets +onlyGivenNames x; refine SysKept.cut (s := s) (u := x) ?_ ?_; rotate_left; all_goals first | (intro _; clear_value x) | subst x)
    | (extract_lets +onlyGivenNames x; clear_value x)
    | with_reducible refine (y_badBlock ..).step ?_
    | with_reducible refine (y_huntBlock ..).step ?_
    | with_reducible refine (y_blockLost ..).step ?_
    | with_reducible refine (y_laneFaulty ..).step ?_
    | with_reducible refine (k_modLane ..).sys (by decide) ?_
    | ((with_reducible refine SysKept.wadd ?_ ?_); rotate_left; (first | decide | exact Nat.le_add_right_of_le (by decide) | exact Nat.le_add_right_of_le (Nat.le_add_right_of_le (by decide))))
    | with_reducible refine SysKept.ite ?_ ?_
    | with_reducible refine SysKept.foldl _ ?_ (fun _ _ _ => ?_)
    | split

/-- `attach` leaves the system page. -/
theorem y_attach (p : Nat) (n : Nat) (s : State) : SysKept s (State.attach p n s) := by
  unfold State.attach
  repeat' first
    | with_reducible exact SysKept.refl _
    | with_reducible assumption
    | with_reducible refine (y_setPort ..).step ?_
    | with_reducible refine (k_dlAccess ..).sys (by decide) ?_
    | with_reducible refine (k_modPort ..).sys (by decide) ?_

/-- `configure` leaves the system page. -/
theorem y_configure (p : Nat) (s : State) : SysKept s (State.configure p s) := by
  unfold State.configure
  repeat' first
    | with_reducible exact SysKept.refl _
    | with_reducible assumption
    | (extract_lets +onlyGivenNames x; refine SysKept.cut (s := s) (u := x) ?_ ?_; rotate_left; all_goals first | (intro _; clear_value x) | subst x)
    | (extract_lets +onlyGivenNames x; clear_value x)
    | with_reducible refine (y_setPort ..).step ?_
    | with_reducible refine (k_dlAccess ..).sys (by decide) ?_
    | with_reducible refine (k_dlOp ..).sys (by decide) ?_
    | with_reducible refine (k_modPort ..).sys (by decide) ?_
    | ((with_reducible refine SysKept.wset ?_ ?_); rotate_left; (first | decide | exact Nat.le_add_right_of_le (by decide) | exact Nat.le_add_right_of_le (Nat.le_add_right_of_le (by decide))))
    | with_reducible refine SysKept.ite ?_ ?_
    | with_reducible refine SysKept.foldl _ ?_ (fun _ _ _ => ?_)
    | split

/-- `acquire` leaves the system page. -/
theorem y_acquire (p : Nat) (s : State) : SysKept s (State.acquire p s) := by
  unfold State.acquire
  repeat' first
    | with_reducible exact SysKept.refl _
    | with_reducible assumption
    | with_reducible refine (k_sendEpoch ..).sys (by decide) ?_
    | with_reducible refine (y_setPort ..).step ?_
    | with_reducible refine (k_dlOp ..).sys (by decide) ?_
    | with_reducible refine (k_modPort ..).sys (by decide) ?_
    | with_reducible refine SysKept.ite ?_ ?_
    | split

/-- `regroup` leaves the system page. -/
theorem y_regroup (l : Nat) (s : State) : SysKept s (State.regroup l s) := by
  unfold State.regroup
  repeat' first
    | with_reducible exact SysKept.refl _
    | with_reducible assumption
    | (extract_lets +onlyGivenNames x; refine SysKept.cut (s := s) (u := x) ?_ ?_; rotate_left; all_goals first | (intro _; clear_value x) | subst x)
    | (extract_lets +onlyGivenNames x; clear_value x)
    | with_reducible refine (y_attach ..).step ?_
    | ((with_reducible refine SysKept.wsets ?_ ?_); rotate_left; (((repeat refine List.forall_mem_cons.2 ⟨by dsimp only; first | decide | exact Nat.le_add_right_of_le (by decide) | exact Nat.le_add_right_of_le (Nat.le_add_right_of_le (by decide)), ?_⟩); (intro _ h; cases h))))
    | ((with_reducible refine SysKept.wset ?_ ?_); rotate_left; (first | decide | exact Nat.le_add_right_of_le (by decide) | exact Nat.le_add_right_of_le (Nat.le_add_right_of_le (by decide))))
    | with_reducible refine SysKept.ite ?_ ?_
    | split

/-- `laneIdPort` leaves the system page. -/
theorem y_laneIdPort (p : Nat) (body : Nat) (s : State) : SysKept s (State.laneIdPort p body s) := by
  unfold State.laneIdPort
  repeat' first
    | with_reducible exact SysKept.refl _
    | with_reducible assumption
    | ((with_reducible refine SysKept.wsets ?_ ?_); rotate_left; (((repeat refine List.forall_mem_cons.2 ⟨by dsimp only; first | decide | exact Nat.le_add_right_of_le (by decide) | exact Nat.le_add_right_of_le (Nat.le_add_right_of_le (by decide)), ?_⟩); (intro _ h; cases h))))

/-- `followAcquire` leaves the system page. -/
theorem y_followAcquire (p : Nat) (s : State) : SysKept s (State.followAcquire p s) := by
  unfold State.followAcquire
  repeat' first
    | with_reducible exact SysKept.refl _
    | with_reducible assumption
    | with_reducible refine (y_setPort ..).step ?_
    | with_reducible refine SysKept.ite ?_ ?_
    | split

/-- `laneId` leaves the system page. -/
theorem y_laneId (l : Nat) (body : Nat) (s : State) : SysKept s (State.laneId l body s) := by
  unfold State.laneId
  repeat' first
    | with_reducible exact SysKept.refl _
    | with_reducible assumption
    | (extract_lets +onlyGivenNames x; refine SysKept.cut (s := s) (u := x) ?_ ?_; rotate_left; all_goals first | (intro _; clear_value x) | subst x)
    | (extract_lets +onlyGivenNames x; clear_value x)
    | with_reducible refine (y_followAcquire ..).step ?_
    | with_reducible refine (y_laneIdPort ..).step ?_
    | with_reducible refine (y_regroup ..).step ?_
    | with_reducible refine (y_laneHunt ..).step ?_
    | with_reducible refine (k_modLane ..).sys (by decide) ?_
    | with_reducible refine (k_modPort ..).sys (by decide) ?_
    | ((with_reducible refine SysKept.wsets ?_ ?_); rotate_left; (((repeat refine List.forall_mem_cons.2 ⟨by dsimp only; first | decide | exact Nat.le_add_right_of_le (by decide) | exact Nat.le_add_right_of_le (Nat.le_add_right_of_le (by decide)), ?_⟩); (intro _ h; cases h))))
    | ((with_reducible refine SysKept.wset ?_ ?_); rotate_left; (first | decide | exact Nat.le_add_right_of_le (by decide) | exact Nat.le_add_right_of_le (Nat.le_add_right_of_le (by decide))))
    | with_reducible refine SysKept.ite ?_ ?_
    | split

/-- `detached` leaves the system page. -/
theorem y_detached (p : Nat) (s : State) : SysKept s (State.detached p s) := by
  unfold State.detached
  repeat' first
    | with_reducible exact SysKept.refl _
    | with_reducible assumption
    | (extract_lets +onlyGivenNames x; refine SysKept.cut (s := s) (u := x) ?_ ?_; rotate_left; all_goals first | (intro _; clear_value x) | subst x)
    | (extract_lets +onlyGivenNames x; clear_value x)
    | with_reducible refine (y_setPort ..).step ?_
    | with_reducible refine (y_leaveBuilding ..).step ?_
    | with_reducible refine (k_modPort ..).sys (by decide) ?_
    | with_reducible refine SysKept.ite ?_ ?_
    | split

/-- `detach` leaves the system page. -/
theorem y_detach (p : Nat) (s : State) : SysKept s (State.detach p s) := by
  unfold State.detach
  repeat' first
    | with_reducible exact SysKept.refl _
    | with_reducible assumption
    | (extract_lets +onlyGivenNames x; refine SysKept.cut (s := s) (u := x) ?_ ?_; rotate_left; all_goals first | (intro _; clear_value x) | subst x)
    | (extract_lets +onlyGivenNames x; clear_value x)
    | with_reducible refine (y_setPort ..).step ?_
    | with_reducible refine (y_leaveBuilding ..).step ?_
    | with_reducible refine (k_dlOp ..).sys (by decide) ?_
    | with_reducible refine (k_modPort ..).sys (by decide) ?_
    | with_reducible refine SysKept.ite ?_ ?_
    | split

/-- `attachWrite` leaves the system page. -/
theorem y_attachWrite (p : Nat) (s : State) : SysKept s (State.attachWrite p s) := by
  unfold State.attachWrite
  repeat' first
    | with_reducible exact SysKept.refl _
    | with_reducible assumption
    | (extract_lets +onlyGivenNames x; refine SysKept.cut (s := s) (u := x) ?_ ?_; rotate_left; all_goals first | (intro _; clear_value x) | subst x)
    | (extract_lets +onlyGivenNames x; clear_value x)
    | with_reducible refine (y_attach ..).step ?_
    | with_reducible refine (y_setPort ..).step ?_
    | with_reducible refine (k_dlOp ..).sys (by decide) ?_
    | with_reducible refine (k_modPort ..).sys (by decide) ?_
    | with_reducible refine SysKept.ite ?_ ?_
    | split

/-- `portsRun` leaves the system page. -/
theorem y_portsRun (s : State) : SysKept s (State.portsRun s) := by
  unfold State.portsRun
  repeat' first
    | with_reducible exact SysKept.refl _
    | with_reducible assumption
    | with_reducible refine (y_configure ..).step ?_
    | with_reducible refine SysKept.foldl _ ?_ (fun _ _ _ => ?_)

/-- `portsStop` leaves the system page. -/
theorem y_portsStop (tell : Bool) (s : State) : SysKept s (State.portsStop tell s) := by
  unfold State.portsStop
  repeat' first
    | with_reducible exact SysKept.refl _
    | with_reducible assumption
    | (extract_lets +onlyGivenNames x; refine SysKept.cut (s := s) (u := x) ?_ ?_; rotate_left; all_goals first | (intro _; clear_value x) | subst x)
    | (extract_lets +onlyGivenNames x; clear_value x)
    | with_reducible refine (y_attach ..).step ?_
    | with_reducible refine (k_dlOp ..).sys (by decide) ?_
    | with_reducible refine (k_modPort ..).sys (by decide) ?_
    | with_reducible refine SysKept.ite ?_ ?_
    | with_reducible refine SysKept.foldl _ ?_ (fun _ _ _ => ?_)
    | split

/-- `clksw` leaves the system page. -/
theorem y_clksw (p : Nat) (dep : Nat) (body : Nat) (s : State) : SysKept s (State.clksw p dep body s) := by
  unfold State.clksw
  repeat' first
    | with_reducible exact SysKept.refl _
    | with_reducible assumption
    | (extract_lets +onlyGivenNames x; refine SysKept.cut (s := s) (u := x) ?_ ?_; rotate_left; all_goals first | (intro _; clear_value x) | subst x)
    | (extract_lets +onlyGivenNames x; clear_value x)
    | with_reducible refine (y_triRestart ..).step ?_
    | with_reducible refine (k_modPort ..).sys (by decide) ?_
    | ((with_reducible refine SysKept.wset ?_ ?_); rotate_left; (first | decide | exact Nat.le_add_right_of_le (by decide) | exact Nat.le_add_right_of_le (Nat.le_add_right_of_le (by decide))))
    | with_reducible refine SysKept.ite ?_ ?_
    | split

/-- `holdWord` leaves the system page. -/
theorem y_holdWord (p : Nat) (dep : Nat) (body : Nat) (s : State) : SysKept s (State.holdWord p dep body s) := by
  unfold State.holdWord
  repeat' first
    | with_reducible exact SysKept.refl _
    | with_reducible assumption
    | (extract_lets +onlyGivenNames x; refine SysKept.cut (s := s) (u := x) ?_ ?_; rotate_left; all_goals first | (intro _; clear_value x) | subst x)
    | (extract_lets +onlyGivenNames x; clear_value x)
    | with_reducible refine (y_triRestart ..).step ?_
    | with_reducible refine (k_modPort ..).sys (by decide) ?_
    | with_reducible refine SysKept.ite ?_ ?_
    | split

/-- `stateWord` leaves the system page. -/
theorem y_stateWord (p : Nat) (body : Nat) (s : State) : SysKept s (State.stateWord p body s) := by
  unfold State.stateWord
  repeat' first
    | with_reducible exact SysKept.refl _
    | with_reducible assumption
    | (extract_lets +onlyGivenNames x; refine SysKept.cut (s := s) (u := x) ?_ ?_; rotate_left; all_goals first | (intro _; clear_value x) | subst x)
    | (extract_lets +onlyGivenNames x; clear_value x)
    | with_reducible refine (y_followAcquire ..).step ?_
    | with_reducible refine (y_leaveBuilding ..).step ?_
    | with_reducible refine (k_modPrx ..).sys (by decide) ?_
    | with_reducible refine (k_modPort ..).sys (by decide) ?_
    | ((with_reducible refine SysKept.wset ?_ ?_); rotate_left; (first | decide | exact Nat.le_add_right_of_le (by decide) | exact Nat.le_add_right_of_le (Nat.le_add_right_of_le (by decide))))
    | with_reducible refine SysKept.ite ?_ ?_
    | split

/-- `regData` leaves the system page. -/
theorem y_regData (p : Nat) (a : Access) (data : Nat) (s : State) : SysKept s (State.regData p a data s) := by
  unfold State.regData
  repeat' first
    | with_reducible exact SysKept.refl _
    | with_reducible assumption
    | with_reducible refine (y_configure ..).step ?_
    | with_reducible refine (k_modPort ..).sys (by decide) ?_
    | ((with_reducible refine SysKept.wset ?_ ?_); rotate_left; (first | decide | exact Nat.le_add_right_of_le (by decide) | exact Nat.le_add_right_of_le (Nat.le_add_right_of_le (by decide))))
    | with_reducible refine SysKept.emit ?_
    | with_reducible refine SysKept.ite ?_ ?_
    | split

/-- `commandSlot` leaves the system page. -/
theorem y_commandSlot (x : Nat) (s : State) : SysKept s (State.commandSlot x s) := by
  unfold State.commandSlot
  repeat' first
    | with_reducible exact SysKept.refl _
    | with_reducible assumption
    | (extract_lets +onlyGivenNames x; refine SysKept.cut (s := s) (u := x) ?_ ?_; rotate_left; all_goals first | (intro _; clear_value x) | subst x)
    | (extract_lets +onlyGivenNames x; clear_value x)
    | with_reducible refine (k_noteCmd ..).sys (by decide) ?_
    | with_reducible refine (k_modDlink ..).sys (by decide) ?_
    | ((with_reducible refine SysKept.wadd ?_ ?_); rotate_left; (first | decide | exact Nat.le_add_right_of_le (by decide) | exact Nat.le_add_right_of_le (Nat.le_add_right_of_le (by decide))))
    | with_reducible refine SysKept.emit ?_
    | with_reducible refine SysKept.ite ?_ ?_
    | split
    | with_reducible refine SysKept.upd_dlinks ?_

/-- `proxyTimeout` leaves the system page. -/
theorem y_proxyTimeout (p : Nat) (s : State) : SysKept s (State.proxyTimeout p s) := by
  unfold State.proxyTimeout
  repeat' first
    | with_reducible exact SysKept.refl _
    | with_reducible assumption
    | (extract_lets +onlyGivenNames x; refine SysKept.cut (s := s) (u := x) ?_ ?_; rotate_left; all_goals first | (intro _; clear_value x) | subst x)
    | (extract_lets +onlyGivenNames x; clear_value x)
    | with_reducible refine (k_modDlink ..).sys (by decide) ?_
    | ((with_reducible refine SysKept.wadd ?_ ?_); rotate_left; (first | decide | exact Nat.le_add_right_of_le (by decide) | exact Nat.le_add_right_of_le (Nat.le_add_right_of_le (by decide))))
    | ((with_reducible refine SysKept.wset ?_ ?_); rotate_left; (first | decide | exact Nat.le_add_right_of_le (by decide) | exact Nat.le_add_right_of_le (Nat.le_add_right_of_le (by decide))))
    | with_reducible refine SysKept.emit ?_
    | with_reducible refine SysKept.ite ?_ ?_
    | with_reducible refine SysKept.foldl _ ?_ (fun _ _ _ => ?_)
    | split

/-- `windowRx` leaves the system page. -/
theorem y_windowRx (l : Nat) (slot : Nat) (ph : Nat) (w0 : Nat) (w1 : Nat) (s : State) : SysKept s (State.windowRx l slot ph w0 w1 s) := by
  unfold State.windowRx
  repeat' first
    | with_reducible exact SysKept.refl _
    | with_reducible assumption
    | (extract_lets +onlyGivenNames x; refine SysKept.cut (s := s) (u := x) ?_ ?_; rotate_left; all_goals first | (intro _; clear_value x) | subst x)
    | (extract_lets +onlyGivenNames x; clear_value x)
    | with_reducible refine (y_laneHunt ..).step ?_
    | with_reducible refine (k_offerPrim ..).sys (by decide) ?_
    | ((with_reducible refine SysKept.wcountIf ?_ ?_); rotate_left; (first | decide | exact Nat.le_add_right_of_le (by decide) | exact Nat.le_add_right_of_le (Nat.le_add_right_of_le (by decide))))
    | ((with_reducible refine SysKept.wadd ?_ ?_); rotate_left; (first | decide | exact Nat.le_add_right_of_le (by decide) | exact Nat.le_add_right_of_le (Nat.le_add_right_of_le (by decide))))
    | with_reducible refine SysKept.ite ?_ ?_
    | split

/-- `writeLaneEn` leaves the system page. -/
theorem y_writeLaneEn (l : Nat) (v : Bool) (s : State) : SysKept s (State.writeLaneEn l v s) := by
  unfold State.writeLaneEn
  repeat' first
    | with_reducible exact SysKept.refl _
    | with_reducible assumption
    | (extract_lets +onlyGivenNames x; refine SysKept.cut (s := s) (u := x) ?_ ?_; rotate_left; all_goals first | (intro _; clear_value x) | subst x)
    | (extract_lets +onlyGivenNames x; clear_value x)
    | with_reducible refine (y_laneHunt ..).step ?_
    | with_reducible refine (y_laneDrop ..).step ?_
    | ((with_reducible refine SysKept.wset ?_ ?_); rotate_left; (first | decide | exact Nat.le_add_right_of_le (by decide) | exact Nat.le_add_right_of_le (Nat.le_add_right_of_le (by decide))))
    | with_reducible refine SysKept.ite ?_ ?_
    | split

end Sys2Proof.Machine
end

