-- ==== Sys2Proof/Laws/SysWnCmp.lean ====
section
/-! SUPPORT. The operations of Machine/WnCmp.lean that leave the system page. -/

namespace Sys2Proof.Machine

open Sys2Proof

/-- `setEng` leaves the system page. -/
theorem y_setEng (e : Nat) (st : Nat) (s : State) : SysKept s (State.setEng e st s) := by
  unfold State.setEng
  repeat' first
    | with_reducible exact SysKept.refl _
    | with_reducible assumption
    | (extract_lets +onlyGivenNames x; refine SysKept.cut (s := s) (u := x) ?_ ?_; rotate_left; all_goals first | (intro _; clear_value x) | subst x)
    | (extract_lets +onlyGivenNames x; clear_value x)
    | ((with_reducible refine SysKept.wsets ?_ ?_); rotate_left; (((repeat refine List.forall_mem_cons.2 ⟨by dsimp only; first | decide | exact Nat.le_add_right_of_le (by decide) | exact Nat.le_add_right_of_le (Nat.le_add_right_of_le (by decide)), ?_⟩); (intro _ h; cases h))))
    | ((with_reducible refine SysKept.wset ?_ ?_); rotate_left; (first | decide | exact Nat.le_add_right_of_le (by decide) | exact Nat.le_add_right_of_le (Nat.le_add_right_of_le (by decide))))
    | with_reducible refine SysKept.ite ?_ ?_
    | with_reducible refine SysKept.foldl _ ?_ (fun _ _ _ => ?_)
    | split

/-- `engFault` leaves the system page. -/
theorem y_engFault (e : Nat) (cause : Nat) (s : State) : SysKept s (State.engFault e cause s) := by
  unfold State.engFault
  repeat' first
    | with_reducible exact SysKept.refl _
    | with_reducible assumption
    | with_reducible refine (y_setEng ..).step ?_
    | ((with_reducible refine SysKept.wsets ?_ ?_); rotate_left; (((repeat refine List.forall_mem_cons.2 ⟨by dsimp only; first | decide | exact Nat.le_add_right_of_le (by decide) | exact Nat.le_add_right_of_le (Nat.le_add_right_of_le (by decide)), ?_⟩); (intro _ h; cases h))))

/-- `engRest` leaves the system page. -/
theorem y_engRest (e : Nat) (s : State) : SysKept s (State.engRest e s) := by
  unfold State.engRest
  repeat' first
    | with_reducible exact SysKept.refl _
    | with_reducible assumption
    | with_reducible refine (y_setEng ..).step ?_
    | with_reducible refine SysKept.ite ?_ ?_
    | split

/-- `dispatchJob` leaves the system page. -/
theorem y_dispatchJob {j : CmpJob} {s t : State} (e : s.dispatchJob j = some t) : SysKept s t := by
  unfold State.dispatchJob at e
  split at e
  · split at e
    · cases e
      exact (SysKept.refl s).ofWr rfl
    · cases e
  · split at e
    · cases e
      exact (y_setEng ..).step ((SysKept.refl s).ofWr rfl)
    · cases e

/-- `takePacket` leaves the system page. -/
theorem y_takePacket (err : Nat) (x1 : Nat) (s : State) : SysKept s (State.takePacket err x1 s).2 := by
  induction x1 generalizing err s with
  | zero =>
    unfold State.takePacket
    repeat' first
      | with_reducible exact SysKept.refl _
      | with_reducible assumption
      | with_reducible refine SysKept.iteSnd ?_ ?_
      | split
      | with_reducible refine SysKept.ofSnd (by assumption) ?_
      | with_reducible refine SysKept.ofThd (by assumption) ?_
      | with_reducible refine (y_pop ..).step ?_
      | with_reducible dsimp only
  | succ fuel ih =>
    unfold State.takePacket
    repeat' first
      | with_reducible exact SysKept.refl _
      | with_reducible assumption
      | with_reducible refine SysKept.iteSnd ?_ ?_
      | split
      | with_reducible refine (ih ..).step ?_
      | with_reducible refine SysKept.ofSnd (by assumption) ?_
      | with_reducible refine SysKept.ofThd (by assumption) ?_
      | with_reducible refine (y_pop ..).step ?_
      | with_reducible dsimp only

/-- `headJob` leaves the system page. -/
theorem y_headJob {p : Bool} {s t : State} {j : CmpJob} (e : s.headJob p = some (j, t)) : SysKept s t := by
  unfold State.headJob at e
  dsimp only at e
  split at e
  · rename_i h
    cases e
    refine SysKept.ite ?_ ?_
    · refine (y_unitStand ..).step ?_
      refine SysKept.wset ?_ (by decide)
      refine SysKept.wadd ?_ (by decide)
      exact SysKept.ofSnd h (y_takePacket ..)
    · exact SysKept.ofSnd h (y_takePacket ..)
  · cases e

/-- `dispatch` leaves the system page. -/
theorem y_dispatch (poison : Bool) (s : State) : SysKept s (State.dispatch poison s) := by
  unfold State.dispatch
  repeat' first
    | with_reducible exact SysKept.refl _
    | with_reducible assumption
    | with_reducible refine (y_headJob (by assumption)).step ?_
    | with_reducible refine (y_dispatchJob (by assumption)).step ?_
    | with_reducible refine (k_modCmp ..).sys (by decide) ?_
    | with_reducible refine SysKept.ite ?_ ?_
    | with_reducible refine SysKept.getD (fun _ _ => ?_) ?_
    | split

/-- `showReorder` leaves the system page. -/
theorem y_showReorder (s : State) : SysKept s (State.showReorder s) := by
  unfold State.showReorder
  repeat' first
    | with_reducible exact SysKept.refl _
    | with_reducible assumption
    | ((with_reducible refine SysKept.wraise ?_ ?_); rotate_left; (first | decide | exact Nat.le_add_right_of_le (by decide) | exact Nat.le_add_right_of_le (Nat.le_add_right_of_le (by decide))))
    | ((with_reducible refine SysKept.wset ?_ ?_); rotate_left; (first | decide | exact Nat.le_add_right_of_le (by decide) | exact Nat.le_add_right_of_le (Nat.le_add_right_of_le (by decide))))

/-- `freeUnit` leaves the system page. -/
theorem y_freeUnit (engine : Nat) (s : State) : SysKept s (State.freeUnit engine s) := by
  unfold State.freeUnit
  repeat' first
    | with_reducible exact SysKept.refl _
    | with_reducible assumption
    | (extract_lets +onlyGivenNames x; refine SysKept.cut (s := s) (u := x) ?_ ?_; rotate_left; all_goals first | (intro _; clear_value x) | subst x)
    | (extract_lets +onlyGivenNames x; clear_value x)
    | with_reducible refine (y_engRest ..).step ?_
    | with_reducible refine (y_engFault ..).step ?_
    | with_reducible refine (k_modCmp ..).sys (by decide) ?_
    | with_reducible refine SysKept.ite ?_ ?_
    | split

/-- `fillTable` leaves the system page. -/
theorem y_fillTable (s : State) : SysKept s (State.fillTable s) := by
  unfold State.fillTable
  repeat' first
    | with_reducible exact SysKept.refl _
    | with_reducible assumption
    | with_reducible refine (y_freeUnit ..).step ?_
    | with_reducible refine (y_showReorder ..).step ?_
    | with_reducible refine (k_modCmp ..).sys (by decide) ?_
    | with_reducible refine SysKept.ite ?_ ?_
    | split

/-- `complete` leaves the system page. -/
theorem y_complete (engine : Nat) (j : CmpJob) (stored : Bool) (unver : Bool) (stream : List Nat) (s : State) : SysKept s (State.complete engine j stored unver stream s) := by
  unfold State.complete
  repeat' first
    | with_reducible exact SysKept.refl _
    | with_reducible assumption
    | (extract_lets +onlyGivenNames x; refine SysKept.cut (s := s) (u := x) ?_ ?_; rotate_left; all_goals first | (intro _; clear_value x) | subst x)
    | (extract_lets +onlyGivenNames x; clear_value x)
    | with_reducible refine (y_fillTable ..).step ?_
    | (unfold State.addBytes; try dsimp only)
    | with_reducible refine (k_modCmp ..).sys (by decide) ?_
    | with_reducible refine (y_freeRecord ..).step ?_
    | ((with_reducible refine SysKept.wadd ?_ ?_); rotate_left; (first | decide | exact Nat.le_add_right_of_le (by decide) | exact Nat.le_add_right_of_le (Nat.le_add_right_of_le (by decide))))
    | ((with_reducible refine SysKept.wsets ?_ ?_); rotate_left; (((repeat refine List.forall_mem_cons.2 ⟨by dsimp only; first | decide | exact Nat.le_add_right_of_le (by decide) | exact Nat.le_add_right_of_le (Nat.le_add_right_of_le (by decide)), ?_⟩); (intro _ h; cases h))))
    | with_reducible refine SysKept.ite ?_ ?_
    | split
    | with_reducible refine SysKept.ofSnd (by assumption) ?_
    | with_reducible refine SysKept.fresh ?_
    | with_reducible dsimp only

/-- `setRel` leaves the system page. -/
theorem y_setRel (n : Nat) (s : State) : SysKept s (State.setRel n s) := by
  unfold State.setRel
  repeat' first
    | with_reducible exact SysKept.refl _
    | with_reducible assumption
    | ((with_reducible refine SysKept.wsets ?_ ?_); rotate_left; (((repeat refine List.forall_mem_cons.2 ⟨by dsimp only; first | decide | exact Nat.le_add_right_of_le (by decide) | exact Nat.le_add_right_of_le (Nat.le_add_right_of_le (by decide)), ?_⟩); (intro _ h; cases h))))

/-- `passOver` leaves the system page. -/
theorem y_passOver (s : State) : SysKept s (State.passOver s) := by
  unfold State.passOver
  repeat' first
    | with_reducible exact SysKept.refl _
    | with_reducible assumption
    | (extract_lets +onlyGivenNames x; refine SysKept.cut (s := s) (u := x) ?_ ?_; rotate_left; all_goals first | (intro _; clear_value x) | subst x)
    | (extract_lets +onlyGivenNames x; clear_value x)
    | with_reducible refine (y_setRel ..).step ?_
    | ((with_reducible refine SysKept.wadd ?_ ?_); rotate_left; (first | decide | exact Nat.le_add_right_of_le (by decide) | exact Nat.le_add_right_of_le (Nat.le_add_right_of_le (by decide))))
    | with_reducible refine SysKept.foldl _ ?_ (fun _ _ _ => ?_)

/-- `releaseNext` leaves the system page. -/
theorem y_releaseNext (s : State) : SysKept s (State.releaseNext s) := by
  unfold State.releaseNext
  repeat' first
    | with_reducible exact SysKept.refl _
    | with_reducible assumption
    | (extract_lets +onlyGivenNames x; refine SysKept.cut (s := s) (u := x) ?_ ?_; rotate_left; all_goals first | (intro _; clear_value x) | subst x)
    | (extract_lets +onlyGivenNames x; clear_value x)
    | with_reducible refine (y_passOver ..).step ?_
    | with_reducible refine (y_setRel ..).step ?_
    | with_reducible refine (y_fillTable ..).step ?_
    | with_reducible refine (y_showReorder ..).step ?_
    | with_reducible refine (k_modCmp ..).sys (by decide) ?_
    | with_reducible refine (y_offer ..).step ?_
    | split

/-- `fallBack` leaves the system page. -/
theorem y_fallBack (e : Nat) (j : CmpJob) (s : State) : SysKept s (State.fallBack e j s) := by
  unfold State.fallBack
  repeat' first
    | with_reducible exact SysKept.refl _
    | with_reducible assumption
    | with_reducible refine (y_setEng ..).step ?_
    | with_reducible refine (k_modCmp ..).sys (by decide) ?_

/-- `formDone` leaves the system page. -/
theorem y_formDone (e : Nat) (ok : Bool) (s : State) : SysKept s (State.formDone e ok s) := by
  unfold State.formDone
  repeat' first
    | with_reducible exact SysKept.refl _
    | with_reducible assumption
    | (extract_lets +onlyGivenNames x; refine SysKept.cut (s := s) (u := x) ?_ ?_; rotate_left; all_goals first | (intro _; clear_value x) | subst x)
    | (extract_lets +onlyGivenNames x; clear_value x)
    | with_reducible refine (y_fallBack ..).step ?_
    | with_reducible refine (y_complete ..).step ?_
    | ((with_reducible refine SysKept.wadd ?_ ?_); rotate_left; (first | decide | exact Nat.le_add_right_of_le (by decide) | exact Nat.le_add_right_of_le (Nat.le_add_right_of_le (by decide))))
    | ((with_reducible refine SysKept.wsets ?_ ?_); rotate_left; (((repeat refine List.forall_mem_cons.2 ⟨by dsimp only; first | decide | exact Nat.le_add_right_of_le (by decide) | exact Nat.le_add_right_of_le (Nat.le_add_right_of_le (by decide)), ?_⟩); (intro _ h; cases h))))
    | ((with_reducible refine SysKept.wset ?_ ?_); rotate_left; (first | decide | exact Nat.le_add_right_of_le (by decide) | exact Nat.le_add_right_of_le (Nat.le_add_right_of_le (by decide))))
    | with_reducible refine SysKept.ite ?_ ?_
    | split

/-- `poisonJob` leaves the system page. -/
theorem y_poisonJob (j : CmpJob) (err : Bool) (s : State) : SysKept s (State.poisonJob j err s).2 := by
  unfold State.poisonJob
  repeat' first
    | with_reducible exact SysKept.refl _
    | with_reducible assumption
    | (extract_lets +onlyGivenNames x; refine SysKept.cut (s := s) (u := x) ?_ ?_; rotate_left; all_goals first | (intro _; clear_value x) | subst x)
    | (extract_lets +onlyGivenNames x; clear_value x)
    | with_reducible refine (y_unitStand ..).step ?_
    | ((with_reducible refine SysKept.wadd ?_ ?_); rotate_left; (first | decide | exact Nat.le_add_right_of_le (by decide) | exact Nat.le_add_right_of_le (Nat.le_add_right_of_le (by decide))))
    | ((with_reducible refine SysKept.wset ?_ ?_); rotate_left; (first | decide | exact Nat.le_add_right_of_le (by decide) | exact Nat.le_add_right_of_le (Nat.le_add_right_of_le (by decide))))
    | with_reducible refine SysKept.iteSnd ?_ ?_
    | split
    | with_reducible dsimp only

/-- `storedDone` leaves the system page. -/
theorem y_storedDone (e : Nat) (ok : Bool) (err : Bool) (s : State) : SysKept s (State.storedDone e ok err s) := by
  unfold State.storedDone
  repeat' first
    | with_reducible exact SysKept.refl _
    | with_reducible assumption
    | (extract_lets +onlyGivenNames x; refine SysKept.cut (s := s) (u := x) ?_ ?_; rotate_left; all_goals first | (intro _; clear_value x) | subst x)
    | (extract_lets +onlyGivenNames x; clear_value x)
    | with_reducible refine (y_complete ..).step ?_
    | with_reducible refine (y_engFault ..).step ?_
    | with_reducible refine (k_modCmp ..).sys (by decide) ?_
    | with_reducible refine SysKept.ite ?_ ?_
    | split
    | with_reducible refine SysKept.ofSnd (by assumption) ?_
    | with_reducible refine (y_poisonJob ..).step ?_
    | with_reducible dsimp only

/-- `formerDone` leaves the system page. -/
theorem y_formerDone (bad : Nat) (s : State) : SysKept s (State.formerDone bad s) := by
  unfold State.formerDone
  repeat' first
    | with_reducible exact SysKept.refl _
    | with_reducible assumption
    | (extract_lets +onlyGivenNames x; refine SysKept.cut (s := s) (u := x) ?_ ?_; rotate_left; all_goals first | (intro _; clear_value x) | subst x)
    | (extract_lets +onlyGivenNames x; clear_value x)
    | with_reducible refine (y_complete ..).step ?_
    | ((with_reducible refine SysKept.wcountIf ?_ ?_); rotate_left; (first | decide | exact Nat.le_add_right_of_le (by decide) | exact Nat.le_add_right_of_le (Nat.le_add_right_of_le (by decide))))
    | ((with_reducible refine SysKept.wadd ?_ ?_); rotate_left; (first | decide | exact Nat.le_add_right_of_le (by decide) | exact Nat.le_add_right_of_le (Nat.le_add_right_of_le (by decide))))
    | ((with_reducible refine SysKept.wset ?_ ?_); rotate_left; (first | decide | exact Nat.le_add_right_of_le (by decide) | exact Nat.le_add_right_of_le (Nat.le_add_right_of_le (by decide))))
    | with_reducible refine SysKept.ite ?_ ?_
    | split

/-- `ratioWindow` leaves the system page. -/
theorem y_ratioWindow (sec : Bool) (s : State) : SysKept s (State.ratioWindow sec s) := by
  unfold State.ratioWindow
  repeat' first
    | with_reducible exact SysKept.refl _
    | with_reducible assumption
    | (extract_lets +onlyGivenNames x; refine SysKept.cut (s := s) (u := x) ?_ ?_; rotate_left; all_goals first | (intro _; clear_value x) | subst x)
    | (extract_lets +onlyGivenNames x; clear_value x)
    | with_reducible refine (k_modCmp ..).sys (by decide) ?_
    | ((with_reducible refine SysKept.wset ?_ ?_); rotate_left; (first | decide | exact Nat.le_add_right_of_le (by decide) | exact Nat.le_add_right_of_le (Nat.le_add_right_of_le (by decide))))
    | with_reducible refine SysKept.ite ?_ ?_
    | split
    | with_reducible refine SysKept.ofSnd (by assumption) ?_
    | with_reducible refine (k_ratioOf ..).sys (by decide) ?_
    | with_reducible dsimp only

/-- `writeEngEn` leaves the system page. -/
theorem y_writeEngEn (e : Nat) (v : Bool) (s : State) : SysKept s (State.writeEngEn e v s) := by
  unfold State.writeEngEn
  repeat' first
    | with_reducible exact SysKept.refl _
    | with_reducible assumption
    | (extract_lets +onlyGivenNames x; refine SysKept.cut (s := s) (u := x) ?_ ?_; rotate_left; all_goals first | (intro _; clear_value x) | subst x)
    | (extract_lets +onlyGivenNames x; clear_value x)
    | with_reducible refine (y_engRest ..).step ?_
    | ((with_reducible refine SysKept.wset ?_ ?_); rotate_left; (first | decide | exact Nat.le_add_right_of_le (by decide) | exact Nat.le_add_right_of_le (Nat.le_add_right_of_le (by decide))))
    | with_reducible refine SysKept.ite ?_ ?_
    | split

/-- `cmpStop` leaves the system page. -/
theorem y_cmpStop (s : State) : SysKept s s.cmpStop := by
  unfold State.cmpStop
  refine (y_showReorder ..).step ?_
  refine SysKept.foldl _ ((SysKept.refl s).ofWr rfl) (fun t e h => ?_)
  have k : SysKept s (t.wset (WR.CMP_ENG_STATUS_MISMATCH_RUN e) 0) := h.wset (Nat.le_add_right_of_le (by decide))
  exact SysKept.ite ((y_engRest ..).step k) k

/-- `cmpRun` leaves the system page. -/
theorem y_cmpRun (s : State) : SysKept s (State.cmpRun s) := by
  unfold State.cmpRun
  repeat' first
    | with_reducible exact SysKept.refl _
    | with_reducible assumption
    | with_reducible refine (y_setRel ..).step ?_
    | ((with_reducible refine SysKept.wsets ?_ ?_); rotate_left; (((repeat refine List.forall_mem_cons.2 ⟨by dsimp only; first | decide | exact Nat.le_add_right_of_le (by decide) | exact Nat.le_add_right_of_le (Nat.le_add_right_of_le (by decide)), ?_⟩); (intro _ h; cases h))))

end Sys2Proof.Machine
end

