-- ==== Sys2Proof/Laws/SysWnEth.lean ====
section
/-! SUPPORT. The operations of Machine/WnEth.lean that leave the system page. -/

namespace Sys2Proof.Machine

open Sys2Proof

/-- `showEth` leaves the system page. -/
theorem y_showEth (s : State) : SysKept s (State.showEth s) := by
  unfold State.showEth
  repeat' first
    | with_reducible exact SysKept.refl _
    | with_reducible assumption
    | (extract_lets +onlyGivenNames x; refine SysKept.cut (s := s) (u := x) ?_ ?_; rotate_left; all_goals first | (intro _; clear_value x) | subst x)
    | (extract_lets +onlyGivenNames x; clear_value x)
    | ((with_reducible refine SysKept.wsets ?_ ?_); rotate_left; (((repeat refine List.forall_mem_cons.2 ⟨by dsimp only; first | decide | exact Nat.le_add_right_of_le (by decide) | exact Nat.le_add_right_of_le (Nat.le_add_right_of_le (by decide)), ?_⟩); (intro _ h; cases h))))
    | with_reducible refine SysKept.ite ?_ ?_
    | with_reducible refine SysKept.foldl _ ?_ (fun _ _ _ => ?_)
    | split

/-- `setEp` leaves the system page. -/
theorem y_setEp (k : Nat) (st : Nat) (s : State) : SysKept s (State.setEp k st s) := by
  unfold State.setEp
  repeat' first
    | with_reducible exact SysKept.refl _
    | with_reducible assumption
    | with_reducible refine (y_showEth ..).step ?_
    | ((with_reducible refine SysKept.wset ?_ ?_); rotate_left; (first | decide | exact Nat.le_add_right_of_le (by decide) | exact Nat.le_add_right_of_le (Nat.le_add_right_of_le (by decide))))

/-- `epMode` leaves the system page. -/
theorem y_epMode (k : Nat) (s : State) : SysKept s (State.epMode k s) := by
  unfold State.epMode
  repeat' first
    | with_reducible exact SysKept.refl _
    | with_reducible assumption
    | (extract_lets +onlyGivenNames x; refine SysKept.cut (s := s) (u := x) ?_ ?_; rotate_left; all_goals first | (intro _; clear_value x) | subst x)
    | (extract_lets +onlyGivenNames x; clear_value x)
    | with_reducible refine (k_putActive ..).sys (by decide) ?_
    | with_reducible refine (y_setEp ..).step ?_
    | with_reducible refine (k_modEth ..).sys (by decide) ?_
    | ((with_reducible refine SysKept.wsets ?_ ?_); rotate_left; (((repeat refine List.forall_mem_cons.2 ⟨by dsimp only; first | decide | exact Nat.le_add_right_of_le (by decide) | exact Nat.le_add_right_of_le (Nat.le_add_right_of_le (by decide)), ?_⟩); (intro _ h; cases h))))
    | with_reducible refine SysKept.ite ?_ ?_
    | split

/-- `takeTab` leaves the system page. -/
theorem y_takeTab (s : State) : SysKept s (State.takeTab s) := by
  unfold State.takeTab
  repeat' first
    | with_reducible exact SysKept.refl _
    | with_reducible assumption
    | with_reducible refine (k_modEth ..).sys (by decide) ?_
    | ((with_reducible refine SysKept.wset ?_ ?_); rotate_left; (first | decide | exact Nat.le_add_right_of_le (by decide) | exact Nat.le_add_right_of_le (Nat.le_add_right_of_le (by decide))))

/-- `boundary` leaves the system page. -/
theorem y_boundary (s : State) : SysKept s (State.boundary s) := by
  unfold State.boundary
  repeat' first
    | with_reducible exact SysKept.refl _
    | with_reducible assumption
    | (extract_lets +onlyGivenNames x; refine SysKept.cut (s := s) (u := x) ?_ ?_; rotate_left; all_goals first | (intro _; clear_value x) | subst x)
    | (extract_lets +onlyGivenNames x; clear_value x)
    | with_reducible refine (y_takeTab ..).step ?_
    | with_reducible refine (k_putActive ..).sys (by decide) ?_
    | with_reducible refine (y_setEp ..).step ?_
    | with_reducible refine (y_showEth ..).step ?_
    | with_reducible refine (k_modEth ..).sys (by decide) ?_
    | with_reducible refine SysKept.ite ?_ ?_
    | split

/-- `nextArea` leaves the system page. -/
theorem y_nextArea {s t : State} {a : Area} {b : Bool} (e : s.nextArea = some (a, b, t)) : SysKept s t := by
  unfold State.nextArea at e
  extract_lets fromBack new at e
  have hb : ∀ a b t, fromBack = some (a, b, t) → SysKept s t := by
    intro a b t h
    simp only [fromBack] at h
    split at h
    · cases h
      exact (SysKept.refl s).ofWr rfl
    · cases h
  have hn : ∀ a b t, new = some (a, b, t) → SysKept s t := by
    intro a b t h
    simp only [new] at h
    split at h
    · split at h
      · rename_i k
        split at h
        · cases h
          exact (SysKept.ofThd k (y_pop ..)).ofWr rfl
        · cases h
      · cases h
    · split at h
      · cases h
        exact (SysKept.refl s).ofWr rfl
      · cases h
  clear_value fromBack new
  split at e
  · split at e
    · exact hb _ _ _ e
    · split at e
      · split at e
        · exact hn _ _ _ e
        · exact hb _ _ _ e
      · exact hb _ _ _ e
  · exact hn _ _ _ e

/-- `steer` leaves the system page. -/
theorem y_steer (bad : Nat) (s : State) : SysKept s (State.steer bad s) := by
  unfold State.steer
  repeat' first
    | with_reducible exact SysKept.refl _
    | with_reducible assumption
    | (extract_lets +onlyGivenNames x; refine SysKept.cut (s := s) (u := x) ?_ ?_; rotate_left; all_goals first | (intro _; clear_value x) | subst x)
    | (extract_lets +onlyGivenNames x; clear_value x)
    | with_reducible refine (y_nextArea (by assumption)).step ?_
    | with_reducible refine (y_boundary ..).step ?_
    | with_reducible refine (y_showEth ..).step ?_
    | with_reducible refine (k_modEth ..).sys (by decide) ?_
    | with_reducible refine (y_offerPacket ..).step ?_
    | with_reducible refine (y_unitStand ..).step ?_
    | ((with_reducible refine SysKept.wadd ?_ ?_); rotate_left; (first | decide | exact Nat.le_add_right_of_le (by decide) | exact Nat.le_add_right_of_le (Nat.le_add_right_of_le (by decide))))
    | ((with_reducible refine SysKept.wset ?_ ?_); rotate_left; (first | decide | exact Nat.le_add_right_of_le (by decide) | exact Nat.le_add_right_of_le (Nat.le_add_right_of_le (by decide))))
    | with_reducible refine SysKept.ite ?_ ?_
    | with_reducible refine SysKept.foldl _ ?_ (fun _ _ _ => ?_)
    | split
    | with_reducible dsimp only

/-- `dropPacket` leaves the system page. -/
theorem y_dropPacket (n : Nat) (x1 : Nat) (s : State) : SysKept s (State.dropPacket n x1 s) := by
  induction x1 generalizing s with
  | zero =>
    unfold State.dropPacket
    repeat' first
      | with_reducible exact SysKept.refl _
      | with_reducible assumption
      | with_reducible refine SysKept.ite ?_ ?_
      | split
      | with_reducible refine SysKept.ofThd (by assumption) ?_
      | with_reducible refine (y_pop ..).step ?_
      | with_reducible dsimp only
  | succ fuel ih =>
    unfold State.dropPacket
    repeat' first
      | with_reducible exact SysKept.refl _
      | with_reducible assumption
      | with_reducible refine SysKept.ite ?_ ?_
      | split
      | with_reducible refine (ih ..).step ?_
      | with_reducible refine SysKept.ofThd (by assumption) ?_
      | with_reducible refine (y_pop ..).step ?_
      | with_reducible dsimp only

/-- `datagram` leaves the system page. -/
theorem y_datagram (k : Nat) (s : State) : SysKept s (State.datagram k s) := by
  unfold State.datagram
  repeat' first
    | with_reducible exact SysKept.refl _
    | with_reducible assumption
    | (extract_lets +onlyGivenNames x; refine SysKept.cut (s := s) (u := x) ?_ ?_; rotate_left; all_goals first | (intro _; clear_value x) | subst x)
    | (extract_lets +onlyGivenNames x; clear_value x)
    | with_reducible refine (y_dropPacket ..).step ?_
    | with_reducible refine (k_modEth ..).sys (by decide) ?_
    | ((with_reducible refine SysKept.wadd ?_ ?_); rotate_left; (first | decide | exact Nat.le_add_right_of_le (by decide) | exact Nat.le_add_right_of_le (Nat.le_add_right_of_le (by decide))))
    | ((with_reducible refine SysKept.wset ?_ ?_); rotate_left; (first | decide | exact Nat.le_add_right_of_le (by decide) | exact Nat.le_add_right_of_le (Nat.le_add_right_of_le (by decide))))
    | with_reducible refine SysKept.emit ?_
    | with_reducible refine SysKept.ite ?_ ?_
    | split

/-- `removePort` leaves the system page. -/
theorem y_removePort (k : Nat) (cause : Nat) (up : Bool) (s : State) : SysKept s (State.removePort k cause up s) := by
  unfold State.removePort
  repeat' first
    | with_reducible exact SysKept.refl _
    | with_reducible assumption
    | (extract_lets +onlyGivenNames x; refine SysKept.cut (s := s) (u := x) ?_ ?_; rotate_left; all_goals first | (intro _; clear_value x) | subst x)
    | (extract_lets +onlyGivenNames x; clear_value x)
    | with_reducible refine (y_boundary ..).step ?_
    | with_reducible refine (y_setEp ..).step ?_
    | with_reducible refine (y_showEth ..).step ?_
    | with_reducible refine (k_modEth ..).sys (by decide) ?_
    | with_reducible refine (y_flush ..).step ?_
    | ((with_reducible refine SysKept.wadd ?_ ?_); rotate_left; (first | decide | exact Nat.le_add_right_of_le (by decide) | exact Nat.le_add_right_of_le (Nat.le_add_right_of_le (by decide))))
    | ((with_reducible refine SysKept.wsets ?_ ?_); rotate_left; (((repeat refine List.forall_mem_cons.2 ⟨by dsimp only; first | decide | exact Nat.le_add_right_of_le (by decide) | exact Nat.le_add_right_of_le (Nat.le_add_right_of_le (by decide)), ?_⟩); (intro _ h; cases h))))
    | with_reducible refine SysKept.ite ?_ ?_
    | with_reducible refine SysKept.foldl _ ?_ (fun _ _ _ => ?_)
    | split
    | with_reducible refine SysKept.upd_queues ?_

/-- `stateBound` leaves the system page. -/
theorem y_stateBound (p : Option Nat) (s : State) : SysKept s (State.stateBound p s) := by
  unfold State.stateBound
  repeat' first
    | with_reducible exact SysKept.refl _
    | with_reducible assumption
    | (extract_lets +onlyGivenNames x; refine SysKept.cut (s := s) (u := x) ?_ ?_; rotate_left; all_goals first | (intro _; clear_value x) | subst x)
    | (extract_lets +onlyGivenNames x; clear_value x)
    | with_reducible refine (y_boundary ..).step ?_
    | with_reducible refine (y_showEth ..).step ?_
    | with_reducible refine (k_modEth ..).sys (by decide) ?_
    | ((with_reducible refine SysKept.wset ?_ ?_); rotate_left; (first | decide | exact Nat.le_add_right_of_le (by decide) | exact Nat.le_add_right_of_le (Nat.le_add_right_of_le (by decide))))
    | with_reducible refine SysKept.ite ?_ ?_
    | split

/-- `refuseCmd` leaves the system page. -/
theorem y_refuseCmd (s : State) : SysKept s (State.refuseCmd s) := by
  unfold State.refuseCmd
  repeat' first
    | with_reducible exact SysKept.refl _
    | with_reducible assumption
    | ((with_reducible refine SysKept.wset ?_ ?_); rotate_left; (first | decide | exact Nat.le_add_right_of_le (by decide) | exact Nat.le_add_right_of_le (Nat.le_add_right_of_le (by decide))))

/-- `steerCmd` leaves the system page. -/
theorem y_steerCmd (op : Nat) (k : Nat) (s : State) : SysKept s (State.steerCmd op k s) := by
  unfold State.steerCmd
  repeat' first
    | with_reducible exact SysKept.refl _
    | with_reducible assumption
    | with_reducible refine (y_refuseCmd ..).step ?_
    | with_reducible refine (y_stateBound ..).step ?_
    | with_reducible refine (y_removePort ..).step ?_
    | with_reducible refine (k_cancelAdd ..).sys (by decide) ?_
    | with_reducible refine (y_setEp ..).step ?_
    | with_reducible refine SysKept.ite ?_ ?_
    | split

/-- `ethRun` leaves the system page. -/
theorem y_ethRun (s : State) : SysKept s (State.ethRun s) := by
  unfold State.ethRun
  repeat' first
    | with_reducible exact SysKept.refl _
    | with_reducible assumption
    | (extract_lets +onlyGivenNames x; refine SysKept.cut (s := s) (u := x) ?_ ?_; rotate_left; all_goals first | (intro _; clear_value x) | subst x)
    | (extract_lets +onlyGivenNames x; clear_value x)
    | with_reducible refine (y_takeTab ..).step ?_
    | with_reducible refine (y_setEp ..).step ?_
    | with_reducible refine (y_showEth ..).step ?_
    | with_reducible refine SysKept.foldl _ ?_ (fun _ _ _ => ?_)
    | with_reducible refine SysKept.upd_eth ?_

/-- `ethStop` leaves the system page. -/
theorem y_ethStop (s : State) : SysKept s (State.ethStop s) := by
  unfold State.ethStop
  repeat' first
    | with_reducible exact SysKept.refl _
    | with_reducible assumption
    | (extract_lets +onlyGivenNames x; refine SysKept.cut (s := s) (u := x) ?_ ?_; rotate_left; all_goals first | (intro _; clear_value x) | subst x)
    | (extract_lets +onlyGivenNames x; clear_value x)
    | with_reducible refine (y_setEp ..).step ?_
    | with_reducible refine (y_showEth ..).step ?_
    | with_reducible refine (k_modEth ..).sys (by decide) ?_
    | ((with_reducible refine SysKept.wadd ?_ ?_); rotate_left; (first | decide | exact Nat.le_add_right_of_le (by decide) | exact Nat.le_add_right_of_le (Nat.le_add_right_of_le (by decide))))
    | ((with_reducible refine SysKept.wset ?_ ?_); rotate_left; (first | decide | exact Nat.le_add_right_of_le (by decide) | exact Nat.le_add_right_of_le (Nat.le_add_right_of_le (by decide))))
    | with_reducible refine SysKept.ite ?_ ?_
    | with_reducible refine SysKept.foldl _ ?_ (fun _ _ _ => ?_)
    | split

/-- `respond` leaves the system page. -/
theorem y_respond (k : Nat) (f : List Nat) (s : State) : SysKept s (State.respond k f s) := by
  unfold State.respond
  repeat' first
    | with_reducible exact SysKept.refl _
    | with_reducible assumption
    | with_reducible refine (k_modEth ..).sys (by decide) ?_
    | ((with_reducible refine SysKept.wadd ?_ ?_); rotate_left; (first | decide | exact Nat.le_add_right_of_le (by decide) | exact Nat.le_add_right_of_le (Nat.le_add_right_of_le (by decide))))
    | with_reducible refine SysKept.emit ?_
    | with_reducible refine SysKept.ite ?_ ?_
    | split

/-- `linkUp` leaves the system page. -/
theorem y_linkUp (k : Nat) (stable : Bool) (s : State) : SysKept s (State.linkUp k stable s) := by
  unfold State.linkUp
  repeat' first
    | with_reducible exact SysKept.refl _
    | with_reducible assumption
    | (extract_lets +onlyGivenNames x; refine SysKept.cut (s := s) (u := x) ?_ ?_; rotate_left; all_goals first | (intro _; clear_value x) | subst x)
    | (extract_lets +onlyGivenNames x; clear_value x)
    | with_reducible refine (k_sendResp ..).sys (by decide) ?_
    | with_reducible refine (y_setEp ..).step ?_
    | ((with_reducible refine SysKept.wsets ?_ ?_); rotate_left; (((repeat refine List.forall_mem_cons.2 ⟨by dsimp only; first | decide | exact Nat.le_add_right_of_le (by decide) | exact Nat.le_add_right_of_le (Nat.le_add_right_of_le (by decide)), ?_⟩); (intro _ h; cases h))))
    | with_reducible refine SysKept.ite ?_ ?_
    | split

/-- `linkDown` leaves the system page. -/
theorem y_linkDown (k : Nat) (cause : Nat) (s : State) : SysKept s (State.linkDown k cause s) := by
  unfold State.linkDown
  repeat' first
    | with_reducible exact SysKept.refl _
    | with_reducible assumption
    | (extract_lets +onlyGivenNames x; refine SysKept.cut (s := s) (u := x) ?_ ?_; rotate_left; all_goals first | (intro _; clear_value x) | subst x)
    | (extract_lets +onlyGivenNames x; clear_value x)
    | with_reducible refine (k_cancelAdd ..).sys (by decide) ?_
    | with_reducible refine (y_setEp ..).step ?_
    | with_reducible refine (k_modEth ..).sys (by decide) ?_
    | ((with_reducible refine SysKept.wsets ?_ ?_); rotate_left; (((repeat refine List.forall_mem_cons.2 ⟨by dsimp only; first | decide | exact Nat.le_add_right_of_le (by decide) | exact Nat.le_add_right_of_le (Nat.le_add_right_of_le (by decide)), ?_⟩); (intro _ h; cases h))))
    | ((with_reducible refine SysKept.wset ?_ ?_); rotate_left; (first | decide | exact Nat.le_add_right_of_le (by decide) | exact Nat.le_add_right_of_le (Nat.le_add_right_of_le (by decide))))
    | with_reducible refine SysKept.ite ?_ ?_
    | split

/-- `linkTimeout` leaves the system page. -/
theorem y_linkTimeout (k : Nat) (s : State) : SysKept s (State.linkTimeout k s) := by
  unfold State.linkTimeout
  repeat' first
    | with_reducible exact SysKept.refl _
    | with_reducible assumption
    | (extract_lets +onlyGivenNames x; refine SysKept.cut (s := s) (u := x) ?_ ?_; rotate_left; all_goals first | (intro _; clear_value x) | subst x)
    | (extract_lets +onlyGivenNames x; clear_value x)
    | with_reducible refine (y_removePort ..).step ?_
    | ((with_reducible refine SysKept.wset ?_ ?_); rotate_left; (first | decide | exact Nat.le_add_right_of_le (by decide) | exact Nat.le_add_right_of_le (Nat.le_add_right_of_le (by decide))))
    | with_reducible refine SysKept.ite ?_ ?_
    | split

/-- `ptpDeliver` leaves the system page. -/
theorem y_ptpDeliver (k : Nat) (fine : Nat) (b : List Nat) (msg : List Nat) (s : State) : SysKept s (State.ptpDeliver k fine b msg s) := by
  unfold State.ptpDeliver
  repeat' first
    | with_reducible exact SysKept.refl _
    | with_reducible assumption
    | (extract_lets +onlyGivenNames x; refine SysKept.cut (s := s) (u := x) ?_ ?_; rotate_left; all_goals first | (intro _; clear_value x) | subst x)
    | (extract_lets +onlyGivenNames x; clear_value x)
    | with_reducible refine (k_syncArrives ..).sys (by decide) ?_
    | with_reducible refine (y_offerPacket ..).step ?_
    | ((with_reducible refine SysKept.wadd ?_ ?_); rotate_left; (first | decide | exact Nat.le_add_right_of_le (by decide) | exact Nat.le_add_right_of_le (Nat.le_add_right_of_le (by decide))))
    | with_reducible refine SysKept.ite ?_ ?_
    | split

/-- `frameRx` leaves the system page. -/
theorem y_frameRx (k : Nat) (fcs : Bool) (b : List Nat) (fine : Nat) (s : State) : SysKept s (State.frameRx k fcs b fine s) := by
  unfold State.frameRx
  repeat' first
    | with_reducible exact SysKept.refl _
    | with_reducible assumption
    | with_reducible refine (y_ptpDeliver ..).step ?_
    | with_reducible refine (y_offerPacket ..).step ?_
    | ((with_reducible refine SysKept.wadd ?_ ?_); rotate_left; (first | decide | exact Nat.le_add_right_of_le (by decide) | exact Nat.le_add_right_of_le (Nat.le_add_right_of_le (by decide))))
    | with_reducible refine SysKept.ite ?_ ?_
    | split

end Sys2Proof.Machine
end

