-- ==== Sys2Proof/Laws/SysWnAdm.lean ====
section
/-! SUPPORT. The operations of Machine/WnAdm.lean that leave the system page. -/

namespace Sys2Proof.Machine

open Sys2Proof

/-- `ringCounts` leaves the system page. -/
theorem y_ringCounts (counts : List Nat) (s : State) : SysKept s (State.ringCounts counts s).2 := by
  unfold State.ringCounts
  repeat' first
    | with_reducible exact SysKept.refl _
    | with_reducible assumption
    | (extract_lets +onlyGivenNames x; refine SysKept.cut (s := s) (u := x) ?_ ?_; rotate_left; all_goals first | (intro _; clear_value x) | subst x)
    | (extract_lets +onlyGivenNames x; clear_value x)
    | ((with_reducible refine SysKept.wsets ?_ ?_); rotate_left; (((repeat refine List.forall_mem_cons.2 ⟨by dsimp only; first | decide | exact Nat.le_add_right_of_le (by decide) | exact Nat.le_add_right_of_le (Nat.le_add_right_of_le (by decide)), ?_⟩); (intro _ h; cases h))))
    | ((with_reducible refine SysKept.wset ?_ ?_); rotate_left; (first | decide | exact Nat.le_add_right_of_le (by decide) | exact Nat.le_add_right_of_le (Nat.le_add_right_of_le (by decide))))
    | with_reducible refine SysKept.iteSnd ?_ ?_
    | with_reducible refine SysKept.foldl _ ?_ (fun _ _ _ => ?_)
    | split
    | with_reducible dsimp only

/-- `setVcore` leaves the system page. -/
theorem y_setVcore (v : Nat) (s : State) : SysKept s (State.setVcore v s) := by
  unfold State.setVcore
  repeat' first
    | with_reducible exact SysKept.refl _
    | with_reducible assumption
    | ((with_reducible refine SysKept.wset ?_ ?_); rotate_left; (first | decide | exact Nat.le_add_right_of_le (by decide) | exact Nat.le_add_right_of_le (Nat.le_add_right_of_le (by decide))))

/-- `govern` leaves the system page. -/
theorem y_govern (known : Bool) (s : State) : SysKept s (State.govern known s) := by
  unfold State.govern
  repeat' first
    | with_reducible exact SysKept.refl _
    | with_reducible assumption
    | (extract_lets +onlyGivenNames x; refine SysKept.cut (s := s) (u := x) ?_ ?_; rotate_left; all_goals first | (intro _; clear_value x) | subst x)
    | (extract_lets +onlyGivenNames x; clear_value x)
    | with_reducible refine (y_setVcore ..).step ?_
    | with_reducible refine (k_modGov ..).sys (by decide) ?_
    | with_reducible refine SysKept.ite ?_ ?_
    | split

/-- `applyShed` leaves the system page. -/
theorem y_applyShed (s : State) : SysKept s (State.applyShed s) := by
  unfold State.applyShed
  repeat' first
    | with_reducible exact SysKept.refl _
    | with_reducible assumption
    | (extract_lets +onlyGivenNames x; refine SysKept.cut (s := s) (u := x) ?_ ?_; rotate_left; all_goals first | (intro _; clear_value x) | subst x)
    | (extract_lets +onlyGivenNames x; clear_value x)
    | with_reducible refine (k_holdPorts ..).sys (by decide) ?_
    | with_reducible refine (k_modGov ..).sys (by decide) ?_
    | ((with_reducible refine SysKept.wsets ?_ ?_); rotate_left; (((repeat refine List.forall_mem_cons.2 ⟨by dsimp only; first | decide | exact Nat.le_add_right_of_le (by decide) | exact Nat.le_add_right_of_le (Nat.le_add_right_of_le (by decide)), ?_⟩); (intro _ h; cases h))))
    | with_reducible refine SysKept.ite ?_ ?_
    | split

/-- `shedNext` leaves the system page. -/
theorem y_shedNext (x0 : Nat) (s : State) : SysKept s (State.shedNext x0 s) := by
  induction x0 generalizing s with
  | zero =>
    unfold State.shedNext
    repeat' first
      | with_reducible exact SysKept.refl _
      | with_reducible assumption
      | (extract_lets +onlyGivenNames x; refine SysKept.cut (s := s) (u := x) ?_ ?_; rotate_left; all_goals first | (intro _; clear_value x) | subst x)
      | (extract_lets +onlyGivenNames x; clear_value x)
      | with_reducible refine (y_applyShed ..).step ?_
      | with_reducible refine (k_modGov ..).sys (by decide) ?_
      | with_reducible refine SysKept.ite ?_ ?_
      | split
      | with_reducible dsimp only
  | succ fuel ih =>
    unfold State.shedNext
    repeat' first
      | with_reducible exact SysKept.refl _
      | with_reducible assumption
      | (extract_lets +onlyGivenNames x; refine SysKept.cut (s := s) (u := x) ?_ ?_; rotate_left; all_goals first | (intro _; clear_value x) | subst x)
      | (extract_lets +onlyGivenNames x; clear_value x)
      | with_reducible refine (ih ..).step ?_
      | with_reducible refine (y_applyShed ..).step ?_
      | with_reducible refine (k_modGov ..).sys (by decide) ?_
      | with_reducible refine SysKept.ite ?_ ?_
      | split
      | with_reducible dsimp only

/-- `causes` leaves the system page. -/
theorem y_causes (known : Bool) (low : Bool) (s : State) : SysKept s (State.causes known low s) := by
  unfold State.causes
  repeat' first
    | with_reducible exact SysKept.refl _
    | with_reducible assumption
    | (extract_lets +onlyGivenNames x; refine SysKept.cut (s := s) (u := x) ?_ ?_; rotate_left; all_goals first | (intro _; clear_value x) | subst x)
    | (extract_lets +onlyGivenNames x; clear_value x)
    | with_reducible refine (k_modGov ..).sys (by decide) ?_
    | ((with_reducible refine SysKept.wsets ?_ ?_); rotate_left; (((repeat refine List.forall_mem_cons.2 ⟨by dsimp only; first | decide | exact Nat.le_add_right_of_le (by decide) | exact Nat.le_add_right_of_le (Nat.le_add_right_of_le (by decide)), ?_⟩); (intro _ h; cases h))))
    | with_reducible refine SysKept.ite ?_ ?_
    | split

/-- `shedDue` leaves the system page. -/
theorem y_shedDue (s : State) : SysKept s (State.shedDue s) := by
  unfold State.shedDue
  repeat' first
    | with_reducible exact SysKept.refl _
    | with_reducible assumption
    | with_reducible refine (y_shedNext ..).step ?_
    | with_reducible refine SysKept.ite ?_ ?_
    | split

/-- `toggleHold` leaves the system page. -/
theorem y_toggleHold (s : State) : SysKept s (State.toggleHold s) := by
  unfold State.toggleHold
  repeat' first
    | with_reducible exact SysKept.refl _
    | with_reducible assumption
    | with_reducible refine (k_holdPorts ..).sys (by decide) ?_
    | with_reducible refine (k_modGov ..).sys (by decide) ?_
    | ((with_reducible refine SysKept.wadd ?_ ?_); rotate_left; (first | decide | exact Nat.le_add_right_of_le (by decide) | exact Nat.le_add_right_of_le (Nat.le_add_right_of_le (by decide))))
    | with_reducible refine SysKept.ite ?_ ?_
    | split

/-- `startChecks` leaves the system page. -/
theorem y_startChecks (src : Nat) (s : State) : SysKept s (State.startChecks src s) := by
  unfold State.startChecks
  repeat' first
    | with_reducible exact SysKept.refl _
    | with_reducible assumption
    | with_reducible refine (k_modSys ..).sys (by decide) ?_
    | ((with_reducible refine SysKept.wset ?_ ?_); rotate_left; (first | decide | exact Nat.le_add_right_of_le (by decide) | exact Nat.le_add_right_of_le (Nat.le_add_right_of_le (by decide))))

/-- `selectImage` leaves the system page. -/
theorem y_selectImage (s : State) : SysKept s (State.selectImage s) := by
  unfold State.selectImage
  repeat' first
    | with_reducible exact SysKept.refl _
    | with_reducible assumption
    | (extract_lets +onlyGivenNames x; refine SysKept.cut (s := s) (u := x) ?_ ?_; rotate_left; all_goals first | (intro _; clear_value x) | subst x)
    | (extract_lets +onlyGivenNames x; clear_value x)
    | with_reducible refine (y_startChecks ..).step ?_
    | with_reducible refine (k_modSys ..).sys (by decide) ?_
    | ((with_reducible refine SysKept.wset ?_ ?_); rotate_left; (first | decide | exact Nat.le_add_right_of_le (by decide) | exact Nat.le_add_right_of_le (Nat.le_add_right_of_le (by decide))))
    | with_reducible refine SysKept.ite ?_ ?_
    | split

/-- `admCheck` leaves the system page. -/
theorem y_admCheck (s : State) : SysKept s (State.admCheck s) := by
  unfold State.admCheck
  repeat' first
    | with_reducible exact SysKept.refl _
    | with_reducible assumption
    | with_reducible refine (y_startChecks ..).step ?_
    | with_reducible refine SysKept.ite ?_ ?_
    | split

/-- `admReload` leaves the system page. -/
theorem y_admReload (s : State) : SysKept s (State.admReload s) := by
  unfold State.admReload
  repeat' first
    | with_reducible exact SysKept.refl _
    | with_reducible assumption
    | with_reducible refine (y_selectImage ..).step ?_
    | with_reducible refine SysKept.ite ?_ ?_
    | split

/-- `norCopied` leaves the system page. -/
theorem y_norCopied (s : State) : SysKept s (State.norCopied s) := by
  unfold State.norCopied
  repeat' first
    | with_reducible exact SysKept.refl _
    | with_reducible assumption
    | with_reducible refine (y_startChecks ..).step ?_
    | with_reducible refine (k_putYard ..).sys (by decide) ?_
    | with_reducible refine SysKept.ite ?_ ?_
    | split

/-- `admStore` leaves the system page. -/
theorem y_admStore (s : State) : SysKept s (State.admStore s) := by
  unfold State.admStore
  repeat' first
    | with_reducible exact SysKept.refl _
    | with_reducible assumption
    | (extract_lets +onlyGivenNames x; refine SysKept.cut (s := s) (u := x) ?_ ?_; rotate_left; all_goals first | (intro _; clear_value x) | subst x)
    | (extract_lets +onlyGivenNames x; clear_value x)
    | with_reducible refine (k_setNor ..).sys (by decide) ?_
    | with_reducible refine (k_modSys ..).sys (by decide) ?_
    | ((with_reducible refine SysKept.wset ?_ ?_); rotate_left; (first | decide | exact Nat.le_add_right_of_le (by decide) | exact Nat.le_add_right_of_le (Nat.le_add_right_of_le (by decide))))
    | with_reducible refine SysKept.ite ?_ ?_
    | split

/-- `admStored` leaves the system page. -/
theorem y_admStored (ok : Bool) (s : State) : SysKept s (State.admStored ok s) := by
  unfold State.admStored
  repeat' first
    | with_reducible exact SysKept.refl _
    | with_reducible assumption
    | (extract_lets +onlyGivenNames x; refine SysKept.cut (s := s) (u := x) ?_ ?_; rotate_left; all_goals first | (intro _; clear_value x) | subst x)
    | (extract_lets +onlyGivenNames x; clear_value x)
    | with_reducible refine (k_setNor ..).sys (by decide) ?_
    | with_reducible refine (k_modSys ..).sys (by decide) ?_
    | ((with_reducible refine SysKept.wset ?_ ?_); rotate_left; (first | decide | exact Nat.le_add_right_of_le (by decide) | exact Nat.le_add_right_of_le (Nat.le_add_right_of_le (by decide))))
    | with_reducible refine SysKept.ite ?_ ?_
    | split

/-- `becomeJoining` leaves the system page. -/
theorem y_becomeJoining (s : State) : SysKept s (State.becomeJoining s) := by
  unfold State.becomeJoining
  repeat' first
    | with_reducible exact SysKept.refl _
    | with_reducible assumption
    | with_reducible refine (k_claimNow ..).sys (by decide) ?_
    | with_reducible refine (y_joinTry ..).step ?_
    | with_reducible refine (k_modPair ..).sys (by decide) ?_
    | ((with_reducible refine SysKept.wset ?_ ?_); rotate_left; (first | decide | exact Nat.le_add_right_of_le (by decide) | exact Nat.le_add_right_of_le (Nat.le_add_right_of_le (by decide))))

/-- `pairRun` leaves the system page. -/
theorem y_pairRun (s : State) : SysKept s (State.pairRun s) := by
  unfold State.pairRun
  repeat' first
    | with_reducible exact SysKept.refl _
    | with_reducible assumption
    | (extract_lets +onlyGivenNames x; refine SysKept.cut (s := s) (u := x) ?_ ?_; rotate_left; all_goals first | (intro _; clear_value x) | subst x)
    | (extract_lets +onlyGivenNames x; clear_value x)
    | with_reducible refine (y_becomeJoining ..).step ?_
    | with_reducible refine (k_claimNow ..).sys (by decide) ?_
    | with_reducible refine (k_modPair ..).sys (by decide) ?_
    | with_reducible refine SysKept.ite ?_ ?_
    | split

/-- `pairStop` leaves the system page. -/
theorem y_pairStop (s : State) : SysKept s (State.pairStop s) := by
  unfold State.pairStop
  repeat' first
    | with_reducible exact SysKept.refl _
    | with_reducible assumption
    | with_reducible refine (k_claimNow ..).sys (by decide) ?_
    | with_reducible refine (k_modPair ..).sys (by decide) ?_
    | ((with_reducible refine SysKept.wset ?_ ?_); rotate_left; (first | decide | exact Nat.le_add_right_of_le (by decide) | exact Nat.le_add_right_of_le (Nat.le_add_right_of_le (by decide))))
    | with_reducible refine SysKept.ite ?_ ?_
    | split

/-- `leaveRun` leaves the system page. -/
theorem y_leaveRun (s : State) : SysKept s (State.leaveRun s) := by
  unfold State.leaveRun
  repeat' first
    | with_reducible exact SysKept.refl _
    | with_reducible assumption
    | (extract_lets +onlyGivenNames x; refine SysKept.cut (s := s) (u := x) ?_ ?_; rotate_left; all_goals first | (intro _; clear_value x) | subst x)
    | (extract_lets +onlyGivenNames x; clear_value x)
    | with_reducible refine (y_pairStop ..).step ?_
    | with_reducible refine (k_modGov ..).sys (by decide) ?_
    | with_reducible refine (y_ethStop ..).step ?_
    | with_reducible refine (y_cmpStop ..).step ?_
    | with_reducible refine (y_musStop ..).step ?_
    | ((with_reducible refine SysKept.wsets ?_ ?_); rotate_left; (((repeat refine List.forall_mem_cons.2 ⟨by dsimp only; first | decide | exact Nat.le_add_right_of_le (by decide) | exact Nat.le_add_right_of_le (Nat.le_add_right_of_le (by decide)), ?_⟩); (intro _ h; cases h))))
    | with_reducible refine SysKept.ite ?_ ?_
    | split

end Sys2Proof.Machine
end

