-- ==== Sys2Proof/Laws/SysWnMap.lean ====
section
/-! SUPPORT. The operations of Machine/WnMap.lean that leave the system page. -/

namespace Sys2Proof.Machine

open Sys2Proof

/-- `fenceRefuse` leaves the system page. -/
theorem y_fenceRefuse (agent : Nat) (a : Nat) (s : State) : SysKept s (State.fenceRefuse agent a s) := by
  unfold State.fenceRefuse
  repeat' first
    | with_reducible exact SysKept.refl _
    | with_reducible assumption
    | ((with_reducible refine SysKept.wadd ?_ ?_); rotate_left; (first | decide | exact Nat.le_add_right_of_le (by decide) | exact Nat.le_add_right_of_le (Nat.le_add_right_of_le (by decide))))
    | ((with_reducible refine SysKept.wsets ?_ ?_); rotate_left; (((repeat refine List.forall_mem_cons.2 ⟨by dsimp only; first | decide | exact Nat.le_add_right_of_le (by decide) | exact Nat.le_add_right_of_le (Nat.le_add_right_of_le (by decide)), ?_⟩); (intro _ h; cases h))))

/-- `mayWrite` leaves the system page. -/
theorem y_mayWrite (agent : Nat) (a : Nat) (n : Nat) (s : State) : SysKept s (State.mayWrite agent a n s).2 := by
  unfold State.mayWrite
  repeat' first
    | with_reducible exact SysKept.refl _
    | with_reducible assumption
    | with_reducible refine (y_walkRefused ..).step ?_
    | with_reducible refine SysKept.iteSnd ?_ ?_
    | split
    | with_reducible dsimp only

/-- `mayWriteFenced` leaves the system page. -/
theorem y_mayWriteFenced (agent : Nat) (a : Nat) (n : Nat) (s : State) : SysKept s (State.mayWriteFenced agent a n s).2 := by
  unfold State.mayWriteFenced
  repeat' first
    | with_reducible exact SysKept.refl _
    | with_reducible assumption
    | with_reducible refine (y_fenceRefuse ..).step ?_
    | with_reducible refine (y_walkRefused ..).step ?_
    | with_reducible refine SysKept.iteSnd ?_ ?_
    | split
    | with_reducible dsimp only

end Sys2Proof.Machine
end

