-- ==== Sys2Proof/Laws/SysWnDma.lean ====
section
/-! SUPPORT. The operations of Machine/WnDma.lean that leave the system page. -/

namespace Sys2Proof.Machine

open Sys2Proof

/-- `dmaFlag` leaves the system page. -/
theorem y_dmaFlag (c : Nat) (s : State) : SysKept s (State.dmaFlag c s) := by
  unfold State.dmaFlag
  repeat' first
    | with_reducible exact SysKept.refl _
    | with_reducible assumption
    | with_reducible refine (y_setFlag ..).step ?_
    | with_reducible refine SysKept.ite ?_ ?_
    | split

/-- `dmaHalt` leaves the system page. -/
theorem y_dmaHalt (c : Nat) (cause : Nat) (a : Nat) (s : State) : SysKept s (State.dmaHalt c cause a s) := by
  unfold State.dmaHalt
  repeat' first
    | with_reducible exact SysKept.refl _
    | with_reducible assumption
    | with_reducible refine (y_dmaFlag ..).step ?_
    | ((with_reducible refine SysKept.wsets ?_ ?_); rotate_left; (((repeat refine List.forall_mem_cons.2 ⟨by dsimp only; first | decide | exact Nat.le_add_right_of_le (by decide) | exact Nat.le_add_right_of_le (Nat.le_add_right_of_le (by decide)), ?_⟩); (intro _ h; cases h))))

/-- `dmaDone` leaves the system page. -/
theorem y_dmaDone (c : Nat) (s : State) : SysKept s (State.dmaDone c s) := by
  unfold State.dmaDone
  repeat' first
    | with_reducible exact SysKept.refl _
    | with_reducible assumption
    | with_reducible refine (y_dmaFlag ..).step ?_
    | ((with_reducible refine SysKept.wset ?_ ?_); rotate_left; (first | decide | exact Nat.le_add_right_of_le (by decide) | exact Nat.le_add_right_of_le (Nat.le_add_right_of_le (by decide))))

/-- `dmaRun` leaves the system page. -/
theorem y_dmaRun (c : Nat) (s : State) : SysKept s (State.dmaRun c s) := by
  unfold State.dmaRun
  repeat' first
    | with_reducible exact SysKept.refl _
    | with_reducible assumption
    | with_reducible refine (y_dmaHalt ..).step ?_
    | ((with_reducible refine SysKept.wsets ?_ ?_); rotate_left; (((repeat refine List.forall_mem_cons.2 ⟨by dsimp only; first | decide | exact Nat.le_add_right_of_le (by decide) | exact Nat.le_add_right_of_le (Nat.le_add_right_of_le (by decide)), ?_⟩); (intro _ h; cases h))))
    | split

/-- `dmaGo` leaves the system page. -/
theorem y_dmaGo (c : Nat) (s : State) : SysKept s (State.dmaGo c s) := by
  unfold State.dmaGo
  repeat' first
    | with_reducible exact SysKept.refl _
    | with_reducible assumption
    | with_reducible refine (y_dmaRun ..).step ?_
    | ((with_reducible refine SysKept.wset ?_ ?_); rotate_left; (first | decide | exact Nat.le_add_right_of_le (by decide) | exact Nat.le_add_right_of_le (Nat.le_add_right_of_le (by decide))))
    | with_reducible refine SysKept.ite ?_ ?_
    | split

/-- `dmaAdvance` leaves the system page. -/
theorem y_dmaAdvance (c : Nat) (s : State) : SysKept s (State.dmaAdvance c s) := by
  unfold State.dmaAdvance
  repeat' first
    | with_reducible exact SysKept.refl _
    | with_reducible assumption
    | ((with_reducible refine SysKept.wsets ?_ ?_); rotate_left; (((repeat refine List.forall_mem_cons.2 ⟨by dsimp only; first | decide | exact Nat.le_add_right_of_le (by decide) | exact Nat.le_add_right_of_le (Nat.le_add_right_of_le (by decide)), ?_⟩); (intro _ h; cases h))))

/-- `dmaResume` leaves the system page. -/
theorem y_dmaResume (c : Nat) (s : State) : SysKept s (State.dmaResume c s) := by
  unfold State.dmaResume
  repeat' first
    | with_reducible exact SysKept.refl _
    | with_reducible assumption
    | with_reducible refine (y_dmaRun ..).step ?_
    | with_reducible refine SysKept.ite ?_ ?_
    | split

/-- `dmaSkip` leaves the system page. -/
theorem y_dmaSkip (c : Nat) (s : State) : SysKept s (State.dmaSkip c s) := by
  unfold State.dmaSkip
  repeat' first
    | with_reducible exact SysKept.refl _
    | with_reducible assumption
    | (extract_lets +onlyGivenNames x; refine SysKept.cut (s := s) (u := x) ?_ ?_; rotate_left; all_goals first | (intro _; clear_value x) | subst x)
    | (extract_lets +onlyGivenNames x; clear_value x)
    | with_reducible refine (y_dmaAdvance ..).step ?_
    | with_reducible refine (y_dmaRun ..).step ?_
    | with_reducible refine (y_dmaDone ..).step ?_
    | with_reducible refine SysKept.ite ?_ ?_
    | split

/-- `dmaAbort` leaves the system page. -/
theorem y_dmaAbort (c : Nat) (s : State) : SysKept s (State.dmaAbort c s) := by
  unfold State.dmaAbort
  repeat' first
    | with_reducible exact SysKept.refl _
    | with_reducible assumption
    | with_reducible refine (y_dmaHalt ..).step ?_
    | ((with_reducible refine SysKept.wsets ?_ ?_); rotate_left; (((repeat refine List.forall_mem_cons.2 ⟨by dsimp only; first | decide | exact Nat.le_add_right_of_le (by decide) | exact Nat.le_add_right_of_le (Nat.le_add_right_of_le (by decide)), ?_⟩); (intro _ h; cases h))))
    | with_reducible refine SysKept.ite ?_ ?_
    | split

/-- `writeDmaCtrl` leaves the system page. -/
theorem y_writeDmaCtrl (c : Nat) (v : Nat) (s : State) : SysKept s (State.writeDmaCtrl c v s) := by
  unfold State.writeDmaCtrl
  repeat' first
    | with_reducible exact SysKept.refl _
    | with_reducible assumption
    | with_reducible refine (y_dmaAbort ..).step ?_
    | with_reducible refine (y_dmaSkip ..).step ?_
    | with_reducible refine (y_dmaResume ..).step ?_
    | with_reducible refine (y_dmaGo ..).step ?_
    | with_reducible refine SysKept.ite ?_ ?_
    | split

/-- `dmaRead` leaves the system page. -/
theorem y_dmaRead (c : Nat) (x1 : List (Nat × Nat)) (x2 : List Upset) (s : State) : SysKept s (State.dmaRead c x1 x2 s).2.2 := by
  induction x1 generalizing x2 s with
  | nil =>
    unfold State.dmaRead
    repeat' first
      | with_reducible exact SysKept.refl _
      | with_reducible assumption
      | (extract_lets +onlyGivenNames x; refine SysKept.cut (s := s) (u := x) ?_ ?_; rotate_left; all_goals first | (intro _; clear_value x) | subst x)
      | (extract_lets +onlyGivenNames x; clear_value x)
      | split
      | with_reducible refine SysKept.ofThd (by assumption) ?_
      | with_reducible refine (y_memRead ..).step ?_
      | with_reducible dsimp only
  | cons e l ih =>
    unfold State.dmaRead
    repeat' first
      | with_reducible exact SysKept.refl _
      | with_reducible assumption
      | (extract_lets +onlyGivenNames x; refine SysKept.cut (s := s) (u := x) ?_ ?_; rotate_left; all_goals first | (intro _; clear_value x) | subst x)
      | (extract_lets +onlyGivenNames x; clear_value x)
      | with_reducible refine (ih ..).step ?_
      | split
      | with_reducible refine SysKept.ofThd (by assumption) ?_
      | with_reducible refine (y_memRead ..).step ?_
      | with_reducible dsimp only

end Sys2Proof.Machine
end

