-- ==== Sys2Proof/Laws/SysWnPair.lean ====
section
/-! SUPPORT. The operations of Machine/WnPair.lean that leave the system page. -/

namespace Sys2Proof.Machine

open Sys2Proof

/-- `goAlone` leaves the system page. -/
theorem y_goAlone (s : State) : SysKept s (State.goAlone s) := by
  unfold State.goAlone
  repeat' first
    | with_reducible exact SysKept.refl _
    | with_reducible assumption
    | with_reducible refine (k_claimNow ..).sys (by decide) ?_
    | with_reducible refine (k_modPair ..).sys (by decide) ?_
    | ((with_reducible refine SysKept.wset ?_ ?_); rotate_left; (first | decide | exact Nat.le_add_right_of_le (by decide) | exact Nat.le_add_right_of_le (Nat.le_add_right_of_le (by decide))))

/-- `abandonJoin` leaves the system page. -/
theorem y_abandonJoin (s : State) : SysKept s (State.abandonJoin s) := by
  unfold State.abandonJoin
  repeat' first
    | with_reducible exact SysKept.refl _
    | with_reducible assumption
    | (extract_lets +onlyGivenNames x; refine SysKept.cut (s := s) (u := x) ?_ ?_; rotate_left; all_goals first | (intro _; clear_value x) | subst x)
    | (extract_lets +onlyGivenNames x; clear_value x)
    | with_reducible refine (y_goAlone ..).step ?_
    | with_reducible refine (y_setSeq ..).step ?_
    | ((with_reducible refine SysKept.wset ?_ ?_); rotate_left; (first | decide | exact Nat.le_add_right_of_le (by decide) | exact Nat.le_add_right_of_le (Nat.le_add_right_of_le (by decide))))
    | split

/-- `partnerMoved` leaves the system page. -/
theorem y_partnerMoved (run : Bool) (joining : Bool) (s : State) : SysKept s (State.partnerMoved run joining s) := by
  unfold State.partnerMoved
  repeat' first
    | with_reducible exact SysKept.refl _
    | with_reducible assumption
    | (extract_lets +onlyGivenNames x; refine SysKept.cut (s := s) (u := x) ?_ ?_; rotate_left; all_goals first | (intro _; clear_value x) | subst x)
    | (extract_lets +onlyGivenNames x; clear_value x)
    | with_reducible refine (y_goAlone ..).step ?_
    | with_reducible refine (k_modPair ..).sys (by decide) ?_
    | with_reducible refine SysKept.ite ?_ ?_
    | split

/-- `hbRx` leaves the system page. -/
theorem y_hbRx (ws : List Nat) (s : State) : SysKept s (State.hbRx ws s) := by
  unfold State.hbRx
  repeat' first
    | with_reducible exact SysKept.refl _
    | with_reducible assumption
    | (extract_lets +onlyGivenNames x; refine SysKept.cut (s := s) (u := x) ?_ ?_; rotate_left; all_goals first | (intro _; clear_value x) | subst x)
    | (extract_lets +onlyGivenNames x; clear_value x)
    | with_reducible refine (y_partnerMoved ..).step ?_
    | with_reducible refine (y_applyShed ..).step ?_
    | with_reducible refine (y_joinTry ..).step ?_
    | with_reducible refine (k_modPair ..).sys (by decide) ?_
    | ((with_reducible refine SysKept.wsets ?_ ?_); rotate_left; (((repeat refine List.forall_mem_cons.2 ⟨by dsimp only; first | decide | exact Nat.le_add_right_of_le (by decide) | exact Nat.le_add_right_of_le (Nat.le_add_right_of_le (by decide)), ?_⟩); (intro _ h; cases h))))
    | ((with_reducible refine SysKept.wset ?_ ?_); rotate_left; (first | decide | exact Nat.le_add_right_of_le (by decide) | exact Nat.le_add_right_of_le (Nat.le_add_right_of_le (by decide))))
    | with_reducible refine SysKept.ite ?_ ?_
    | split

/-- `partnerLost` leaves the system page. -/
theorem y_partnerLost (s : State) : SysKept s (State.partnerLost s) := by
  unfold State.partnerLost
  repeat' first
    | with_reducible exact SysKept.refl _
    | with_reducible assumption
    | (extract_lets +onlyGivenNames x; refine SysKept.cut (s := s) (u := x) ?_ ?_; rotate_left; all_goals first | (intro _; clear_value x) | subst x)
    | (extract_lets +onlyGivenNames x; clear_value x)
    | with_reducible refine (y_abandonJoin ..).step ?_
    | with_reducible refine (y_goAlone ..).step ?_
    | with_reducible refine (y_applyShed ..).step ?_
    | with_reducible refine (k_modPair ..).sys (by decide) ?_
    | ((with_reducible refine SysKept.wsets ?_ ?_); rotate_left; (((repeat refine List.forall_mem_cons.2 ⟨by dsimp only; first | decide | exact Nat.le_add_right_of_le (by decide) | exact Nat.le_add_right_of_le (Nat.le_add_right_of_le (by decide)), ?_⟩); (intro _ h; cases h))))
    | with_reducible refine SysKept.ite ?_ ?_
    | split

/-- `dropEvents` leaves the system page. -/
theorem y_dropEvents (s : State) : SysKept s (State.dropEvents s) := by
  unfold State.dropEvents
  repeat' first
    | with_reducible exact SysKept.refl _
    | with_reducible assumption
    | (extract_lets +onlyGivenNames x; refine SysKept.cut (s := s) (u := x) ?_ ?_; rotate_left; all_goals first | (intro _; clear_value x) | subst x)
    | (extract_lets +onlyGivenNames x; clear_value x)
    | with_reducible refine (y_giveBack ..).step ?_
    | with_reducible refine (k_modMus ..).sys (by decide) ?_
    | with_reducible refine SysKept.foldl _ ?_ (fun _ _ _ => ?_)

/-- `rejoin` leaves the system page. -/
theorem y_rejoin (s : State) : SysKept s (State.rejoin s) := by
  unfold State.rejoin
  repeat' first
    | with_reducible exact SysKept.refl _
    | with_reducible assumption
    | with_reducible refine (y_dropEvents ..).step ?_
    | with_reducible refine (y_becomeJoining ..).step ?_
    | with_reducible refine SysKept.ite ?_ ?_
    | split

/-- `goAloneWrite` leaves the system page. -/
theorem y_goAloneWrite (s : State) : SysKept s (State.goAloneWrite s) := by
  unfold State.goAloneWrite
  repeat' first
    | with_reducible exact SysKept.refl _
    | with_reducible assumption
    | with_reducible refine (y_abandonJoin ..).step ?_
    | with_reducible refine SysKept.ite ?_ ?_
    | split

/-- `writePairCtrl` leaves the system page. -/
theorem y_writePairCtrl (v : Nat) (s : State) : SysKept s (State.writePairCtrl v s) := by
  unfold State.writePairCtrl
  repeat' first
    | with_reducible exact SysKept.refl _
    | with_reducible assumption
    | (extract_lets +onlyGivenNames x; refine SysKept.cut (s := s) (u := x) ?_ ?_; rotate_left; all_goals first | (intro _; clear_value x) | subst x)
    | (extract_lets +onlyGivenNames x; clear_value x)
    | with_reducible refine (y_goAloneWrite ..).step ?_
    | with_reducible refine (y_rejoin ..).step ?_
    | ((with_reducible refine SysKept.wset ?_ ?_); rotate_left; (first | decide | exact Nat.le_add_right_of_le (by decide) | exact Nat.le_add_right_of_le (Nat.le_add_right_of_le (by decide))))
    | with_reducible refine SysKept.ite ?_ ?_
    | split

/-- `writeClaim` leaves the system page. -/
theorem y_writeClaim (v : Nat) (s : State) : SysKept s (State.writeClaim v s) := by
  unfold State.writeClaim
  repeat' first
    | with_reducible exact SysKept.refl _
    | with_reducible assumption
    | with_reducible refine (k_claimNow ..).sys (by decide) ?_
    | ((with_reducible refine SysKept.wset ?_ ?_); rotate_left; (first | decide | exact Nat.le_add_right_of_le (by decide) | exact Nat.le_add_right_of_le (Nat.le_add_right_of_le (by decide))))

/-- `anchorRx` leaves the system page. -/
theorem y_anchorRx (ws : List Nat) (s : State) : SysKept s (State.anchorRx ws s) := by
  unfold State.anchorRx
  repeat' first
    | with_reducible exact SysKept.refl _
    | with_reducible assumption
    | (extract_lets +onlyGivenNames x; refine SysKept.cut (s := s) (u := x) ?_ ?_; rotate_left; all_goals first | (intro _; clear_value x) | subst x)
    | (extract_lets +onlyGivenNames x; clear_value x)
    | with_reducible refine (k_modPair ..).sys (by decide) ?_
    | ((with_reducible refine SysKept.wset ?_ ?_); rotate_left; (first | decide | exact Nat.le_add_right_of_le (by decide) | exact Nat.le_add_right_of_le (Nat.le_add_right_of_le (by decide))))
    | with_reducible refine SysKept.ite ?_ ?_
    | split

/-- `thetaRx` leaves the system page. -/
theorem y_thetaRx (ws : List Nat) (s : State) : SysKept s (State.thetaRx ws s) := by
  unfold State.thetaRx
  repeat' first
    | with_reducible exact SysKept.refl _
    | with_reducible assumption
    | (extract_lets +onlyGivenNames x; refine SysKept.cut (s := s) (u := x) ?_ ?_; rotate_left; all_goals first | (intro _; clear_value x) | subst x)
    | (extract_lets +onlyGivenNames x; clear_value x)
    | with_reducible refine (k_modPair ..).sys (by decide) ?_
    | ((with_reducible refine SysKept.wcountIf ?_ ?_); rotate_left; (first | decide | exact Nat.le_add_right_of_le (by decide) | exact Nat.le_add_right_of_le (Nat.le_add_right_of_le (by decide))))
    | ((with_reducible refine SysKept.wset ?_ ?_); rotate_left; (first | decide | exact Nat.le_add_right_of_le (by decide) | exact Nat.le_add_right_of_le (Nat.le_add_right_of_le (by decide))))
    | with_reducible refine SysKept.ite ?_ ?_
    | split

/-- `digestRx` leaves the system page. -/
theorem y_digestRx (ws : List Nat) (s : State) : SysKept s (State.digestRx ws s) := by
  unfold State.digestRx
  repeat' first
    | with_reducible exact SysKept.refl _
    | with_reducible assumption
    | with_reducible refine (y_digestEnter ..).step ?_
    | with_reducible refine SysKept.ite ?_ ?_
    | split

/-- `digestExpire` leaves the system page. -/
theorem y_digestExpire (s : State) : SysKept s (State.digestExpire s) := by
  unfold State.digestExpire
  repeat' first
    | with_reducible exact SysKept.refl _
    | with_reducible assumption
    | (extract_lets +onlyGivenNames x; refine SysKept.cut (s := s) (u := x) ?_ ?_; rotate_left; all_goals first | (intro _; clear_value x) | subst x)
    | (extract_lets +onlyGivenNames x; clear_value x)
    | with_reducible refine (k_modPair ..).sys (by decide) ?_
    | ((with_reducible refine SysKept.wadd ?_ ?_); rotate_left; (first | decide | exact Nat.le_add_right_of_le (by decide) | exact Nat.le_add_right_of_le (Nat.le_add_right_of_le (by decide))))

/-- `setJoinSlot` leaves the system page. -/
theorem y_setJoinSlot (sj : Nat) (s : State) : SysKept s (State.setJoinSlot sj s) := by
  unfold State.setJoinSlot
  repeat' first
    | with_reducible exact SysKept.refl _
    | with_reducible assumption
    | ((with_reducible refine SysKept.wsets ?_ ?_); rotate_left; (((repeat refine List.forall_mem_cons.2 ⟨by dsimp only; first | decide | exact Nat.le_add_right_of_le (by decide) | exact Nat.le_add_right_of_le (Nat.le_add_right_of_le (by decide)), ?_⟩); (intro _ h; cases h))))

/-- `joinRequest` leaves the system page. -/
theorem y_joinRequest (s : State) : SysKept s (State.joinRequest s) := by
  unfold State.joinRequest
  repeat' first
    | with_reducible exact SysKept.refl _
    | with_reducible assumption
    | (extract_lets +onlyGivenNames x; refine SysKept.cut (s := s) (u := x) ?_ ?_; rotate_left; all_goals first | (intro _; clear_value x) | subst x)
    | (extract_lets +onlyGivenNames x; clear_value x)
    | with_reducible refine (y_setJoinSlot ..).step ?_
    | with_reducible refine (k_sendTheta ..).sys (by decide) ?_
    | with_reducible refine (k_plSend ..).sys (by decide) ?_
    | with_reducible refine (k_modPair ..).sys (by decide) ?_
    | with_reducible refine SysKept.ite ?_ ?_
    | with_reducible refine SysKept.foldl _ ?_ (fun _ _ _ => ?_)
    | split

/-- `joinAt` leaves the system page. -/
theorem y_joinAt (w0 : Nat) (s : State) : SysKept s (State.joinAt w0 s) := by
  unfold State.joinAt
  repeat' first
    | with_reducible exact SysKept.refl _
    | with_reducible assumption
    | with_reducible refine (y_setJoinSlot ..).step ?_
    | with_reducible refine (k_modPair ..).sys (by decide) ?_
    | with_reducible refine SysKept.ite ?_ ?_
    | split

/-- `joinSeq` leaves the system page. -/
theorem y_joinSeq (seq : Nat) (s : State) : SysKept s (State.joinSeq seq s) := by
  unfold State.joinSeq
  repeat' first
    | with_reducible exact SysKept.refl _
    | with_reducible assumption
    | with_reducible refine (y_commitFront ..).step ?_
    | with_reducible refine (k_modPair ..).sys (by decide) ?_
    | ((with_reducible refine SysKept.wsets ?_ ?_); rotate_left; (((repeat refine List.forall_mem_cons.2 ⟨by dsimp only; first | decide | exact Nat.le_add_right_of_le (by decide) | exact Nat.le_add_right_of_le (Nat.le_add_right_of_le (by decide)), ?_⟩); (intro _ h; cases h))))
    | with_reducible refine SysKept.ite ?_ ?_
    | split

/-- `fwRx` leaves the system page. -/
theorem y_fwRx (ws : List Nat) (s : State) : SysKept s (State.fwRx ws s) := by
  unfold State.fwRx
  repeat' first
    | with_reducible exact SysKept.refl _
    | with_reducible assumption
    | (extract_lets +onlyGivenNames x; refine SysKept.cut (s := s) (u := x) ?_ ?_; rotate_left; all_goals first | (intro _; clear_value x) | subst x)
    | (extract_lets +onlyGivenNames x; clear_value x)
    | with_reducible refine (y_mbxSend ..).step ?_
    | with_reducible refine (y_mbxData ..).step ?_
    | ((with_reducible refine SysKept.wadd ?_ ?_); rotate_left; (first | decide | exact Nat.le_add_right_of_le (by decide) | exact Nat.le_add_right_of_le (Nat.le_add_right_of_le (by decide))))
    | with_reducible refine SysKept.ite ?_ ?_
    | with_reducible refine SysKept.foldl _ ?_ (fun _ _ _ => ?_)
    | split

/-- `plReceive` leaves the system page. -/
theorem y_plReceive (code hdr : Nat) (ws : List Nat) (eff : List Nat → State → State) (s : State)
    (h : ∀ l t, SysKept t (eff l t)) : SysKept s (State.plReceive code hdr ws eff s) := by
  unfold State.plReceive
  dsimp only
  split
  · exact SysKept.refl _
  · split
    · exact (SysKept.refl s).wadd (by decide)
    · have k : SysKept s ((s.wcountIf (match s.pair.rxSeq with
          | some m => bits 51 36 hdr != (m + 1) % 65536
          | none => false) WR.PAIR_PL_CNT_GAPS).modPair fun a => { a with rxSeq := some (bits 51 36 hdr) }) :=
        ((SysKept.refl s).wcountIf (by decide)).ofWr rfl
      split
      · exact k.trans (h _ _)
      · exact k

/-- `alignTri` leaves the system page. -/
theorem y_alignTri (d : Int) (p : Nat) (s : State) : SysKept s (State.alignTri d p s) := by
  unfold State.alignTri
  repeat' first
    | with_reducible exact SysKept.refl _
    | with_reducible assumption
    | (extract_lets +onlyGivenNames x; refine SysKept.cut (s := s) (u := x) ?_ ?_; rotate_left; all_goals first | (intro _; clear_value x) | subst x)
    | (extract_lets +onlyGivenNames x; clear_value x)
    | with_reducible refine (y_triMove ..).step ?_
    | with_reducible refine (k_modTri ..).sys (by decide) ?_

/-- `alignPort` leaves the system page. -/
theorem y_alignPort (p : Nat) (s : State) : SysKept s (State.alignPort p s) := by
  unfold State.alignPort
  repeat' first
    | with_reducible exact SysKept.refl _
    | with_reducible assumption
    | (extract_lets +onlyGivenNames x; refine SysKept.cut (s := s) (u := x) ?_ ?_; rotate_left; all_goals first | (intro _; clear_value x) | subst x)
    | (extract_lets +onlyGivenNames x; clear_value x)
    | with_reducible refine (y_attach ..).step ?_
    | with_reducible refine (y_leaveBuilding ..).step ?_
    | with_reducible refine (k_dlOp ..).sys (by decide) ?_
    | with_reducible refine SysKept.ite ?_ ?_
    | split

/-- `alignTick` leaves the system page. -/
theorem y_alignTick (s : State) : SysKept s (State.alignTick s) := by
  unfold State.alignTick
  repeat' first
    | with_reducible exact SysKept.refl _
    | with_reducible assumption
    | (extract_lets +onlyGivenNames x; refine SysKept.cut (s := s) (u := x) ?_ ?_; rotate_left; all_goals first | (intro _; clear_value x) | subst x)
    | (extract_lets +onlyGivenNames x; clear_value x)
    | with_reducible refine (y_alignPort ..).step ?_
    | with_reducible refine (k_alignMarks ..).sys (by decide) ?_
    | with_reducible refine (y_alignTri ..).step ?_
    | with_reducible refine (y_checkSplit ..).step ?_
    | with_reducible refine (k_sendAnchor ..).sys (by decide) ?_
    | with_reducible refine (k_modMer ..).sys (by decide) ?_
    | with_reducible refine (k_modPair ..).sys (by decide) ?_
    | with_reducible refine SysKept.ite ?_ ?_
    | with_reducible refine SysKept.foldl _ ?_ (fun _ _ _ => ?_)
    | split
    | with_reducible refine SysKept.upd_wclk ?_

end Sys2Proof.Machine
end

