-- ==== Sys2Proof/Laws/SysWnEnv.lean ====
section
/-! SUPPORT. The operations of Machine/WnEnv.lean that leave the system page. -/

namespace Sys2Proof.Machine

open Sys2Proof

/-- `envNext` leaves the system page. -/
theorem y_envNext (at' : Nat) (todo : List Nat) (s : State) : SysKept s (State.envNext at' todo s) := by
  unfold State.envNext
  repeat' first
    | with_reducible exact SysKept.refl _
    | with_reducible assumption
    | with_reducible refine (k_modEnv ..).sys (by decide) ?_
    | ((with_reducible refine SysKept.wsets ?_ ?_); rotate_left; (((repeat refine List.forall_mem_cons.2 ⟨by dsimp only; first | decide | exact Nat.le_add_right_of_le (by decide) | exact Nat.le_add_right_of_le (Nat.le_add_right_of_le (by decide)), ?_⟩); (intro _ h; cases h))))
    | ((with_reducible refine SysKept.wset ?_ ?_); rotate_left; (first | decide | exact Nat.le_add_right_of_le (by decide) | exact Nat.le_add_right_of_le (Nat.le_add_right_of_le (by decide))))
    | split

/-- `envStart` leaves the system page. -/
theorem y_envStart (at' : Nat) (s : State) : SysKept s (State.envStart at' s) := by
  unfold State.envStart
  repeat' first
    | with_reducible exact SysKept.refl _
    | with_reducible assumption
    | (extract_lets +onlyGivenNames x; refine SysKept.cut (s := s) (u := x) ?_ ?_; rotate_left; all_goals first | (intro _; clear_value x) | subst x)
    | (extract_lets +onlyGivenNames x; clear_value x)
    | with_reducible refine (y_envNext ..).step ?_
    | with_reducible refine (k_modEnv ..).sys (by decide) ?_
    | ((with_reducible refine SysKept.wadd ?_ ?_); rotate_left; (first | decide | exact Nat.le_add_right_of_le (by decide) | exact Nat.le_add_right_of_le (Nat.le_add_right_of_le (by decide))))
    | with_reducible refine SysKept.ite ?_ ?_
    | split

/-- `envGo` leaves the system page. -/
theorem y_envGo (s : State) : SysKept s (State.envGo s) := by
  unfold State.envGo
  repeat' first
    | with_reducible exact SysKept.refl _
    | with_reducible assumption
    | with_reducible refine (y_envStart ..).step ?_

/-- `writeEnvCtrl` leaves the system page. -/
theorem y_writeEnvCtrl (v : Nat) (s : State) : SysKept s (State.writeEnvCtrl v s) := by
  unfold State.writeEnvCtrl
  repeat' first
    | with_reducible exact SysKept.refl _
    | with_reducible assumption
    | (extract_lets +onlyGivenNames x; refine SysKept.cut (s := s) (u := x) ?_ ?_; rotate_left; all_goals first | (intro _; clear_value x) | subst x)
    | (extract_lets +onlyGivenNames x; clear_value x)
    | with_reducible refine (y_envGo ..).step ?_
    | with_reducible refine (k_modEnv ..).sys (by decide) ?_
    | ((with_reducible refine SysKept.wset ?_ ?_); rotate_left; (first | decide | exact Nat.le_add_right_of_le (by decide) | exact Nat.le_add_right_of_le (Nat.le_add_right_of_le (by decide))))
    | with_reducible refine SysKept.ite ?_ ?_
    | split

/-- `envTimer` leaves the system page. -/
theorem y_envTimer (s : State) : SysKept s (State.envTimer s) := by
  unfold State.envTimer
  repeat' first
    | with_reducible exact SysKept.refl _
    | with_reducible assumption
    | with_reducible refine (y_envStart ..).step ?_
    | with_reducible refine (k_modEnv ..).sys (by decide) ?_
    | with_reducible refine SysKept.ite ?_ ?_
    | split

/-- `envConvEnd` leaves the system page. -/
theorem y_envConvEnd (vp : Nat) (vn : Nat) (s : State) : SysKept s (State.envConvEnd vp vn s) := by
  unfold State.envConvEnd
  repeat' first
    | with_reducible exact SysKept.refl _
    | with_reducible assumption
    | (extract_lets +onlyGivenNames x; refine SysKept.cut (s := s) (u := x) ?_ ?_; rotate_left; all_goals first | (intro _; clear_value x) | subst x)
    | (extract_lets +onlyGivenNames x; clear_value x)
    | with_reducible refine (y_envNext ..).step ?_
    | with_reducible refine (y_envShow ..).step ?_
    | with_reducible refine (k_modEnv ..).sys (by decide) ?_
    | ((with_reducible refine SysKept.wsets ?_ ?_); rotate_left; (((repeat refine List.forall_mem_cons.2 ⟨by dsimp only; first | decide | exact Nat.le_add_right_of_le (by decide) | exact Nat.le_add_right_of_le (Nat.le_add_right_of_le (by decide)), ?_⟩); (intro _ h; cases h))))
    | ((with_reducible refine SysKept.wset ?_ ?_); rotate_left; (first | decide | exact Nat.le_add_right_of_le (by decide) | exact Nat.le_add_right_of_le (Nat.le_add_right_of_le (by decide))))
    | with_reducible refine SysKept.ite ?_ ?_
    | split

/-- `envRefWrite` leaves the system page. -/
theorem y_envRefWrite (en : Bool) (s : State) : SysKept s (State.envRefWrite en s) := by
  unfold State.envRefWrite
  repeat' first
    | with_reducible exact SysKept.refl _
    | with_reducible assumption
    | with_reducible refine (k_envMarkAny ..).sys (by decide) ?_
    | with_reducible refine (k_modEnv ..).sys (by decide) ?_
    | ((with_reducible refine SysKept.wsets ?_ ?_); rotate_left; (((repeat refine List.forall_mem_cons.2 ⟨by dsimp only; first | decide | exact Nat.le_add_right_of_le (by decide) | exact Nat.le_add_right_of_le (Nat.le_add_right_of_le (by decide)), ?_⟩); (intro _ h; cases h))))
    | ((with_reducible refine SysKept.wset ?_ ?_); rotate_left; (first | decide | exact Nat.le_add_right_of_le (by decide) | exact Nat.le_add_right_of_le (Nat.le_add_right_of_le (by decide))))
    | with_reducible refine SysKept.ite ?_ ?_
    | split

/-- `envRefReady` leaves the system page. -/
theorem y_envRefReady (s : State) : SysKept s (State.envRefReady s) := by
  unfold State.envRefReady
  repeat' first
    | with_reducible exact SysKept.refl _
    | with_reducible assumption
    | ((with_reducible refine SysKept.wset ?_ ?_); rotate_left; (first | decide | exact Nat.le_add_right_of_le (by decide) | exact Nat.le_add_right_of_le (Nat.le_add_right_of_le (by decide))))
    | with_reducible refine SysKept.ite ?_ ?_
    | split

/-- `setEnvRamp` leaves the system page. -/
theorem y_setEnvRamp (n : Nat) (v : Nat) (s : State) : SysKept s (State.setEnvRamp n v s) := by
  unfold State.setEnvRamp
  repeat' first
    | with_reducible exact SysKept.refl _
    | with_reducible assumption
    | with_reducible refine (k_envMark ..).sys (by decide) ?_
    | with_reducible refine (k_modEnv ..).sys (by decide) ?_
    | ((with_reducible refine SysKept.wset ?_ ?_); rotate_left; (first | decide | exact Nat.le_add_right_of_le (by decide) | exact Nat.le_add_right_of_le (Nat.le_add_right_of_le (by decide))))
    | with_reducible refine SysKept.ite ?_ ?_
    | split

/-- `envRange` leaves the system page. -/
theorem y_envRange (n : Nat) (r : Nat) (s : State) : SysKept s (State.envRange n r s) := by
  unfold State.envRange
  repeat' first
    | with_reducible exact SysKept.refl _
    | with_reducible assumption
    | (extract_lets +onlyGivenNames x; refine SysKept.cut (s := s) (u := x) ?_ ?_; rotate_left; all_goals first | (intro _; clear_value x) | subst x)
    | (extract_lets +onlyGivenNames x; clear_value x)
    | with_reducible refine (y_setEnvRamp ..).step ?_
    | ((with_reducible refine SysKept.wset ?_ ?_); rotate_left; (first | decide | exact Nat.le_add_right_of_le (by decide) | exact Nat.le_add_right_of_le (Nat.le_add_right_of_le (by decide))))
    | with_reducible refine SysKept.ite ?_ ?_
    | split

/-- `envSwitch` leaves the system page. -/
theorem y_envSwitch (n : Nat) (s : State) : SysKept s (State.envSwitch n s) := by
  unfold State.envSwitch
  repeat' first
    | with_reducible exact SysKept.refl _
    | with_reducible assumption
    | with_reducible refine (y_setEnvRamp ..).step ?_
    | with_reducible refine SysKept.ite ?_ ?_
    | split

/-- `envRampEnd` leaves the system page. -/
theorem y_envRampEnd (n : Nat) (s : State) : SysKept s (State.envRampEnd n s) := by
  unfold State.envRampEnd
  repeat' first
    | with_reducible exact SysKept.refl _
    | with_reducible assumption
    | with_reducible refine (y_setEnvRamp ..).step ?_
    | with_reducible refine SysKept.ite ?_ ?_
    | split

/-- `writeEnvCfg` leaves the system page. -/
theorem y_writeEnvCfg (n : Nat) (v : Nat) (s : State) : SysKept s (State.writeEnvCfg n v s) := by
  unfold State.writeEnvCfg
  repeat' first
    | with_reducible exact SysKept.refl _
    | with_reducible assumption
    | (extract_lets +onlyGivenNames x; refine SysKept.cut (s := s) (u := x) ?_ ?_; rotate_left; all_goals first | (intro _; clear_value x) | subst x)
    | (extract_lets +onlyGivenNames x; clear_value x)
    | with_reducible refine (y_envRange ..).step ?_
    | with_reducible refine (y_setEnvRamp ..).step ?_
    | with_reducible refine (k_envMark ..).sys (by decide) ?_
    | with_reducible refine (y_envShow ..).step ?_
    | ((with_reducible refine SysKept.wsets ?_ ?_); rotate_left; (((repeat refine List.forall_mem_cons.2 ⟨by dsimp only; first | decide | exact Nat.le_add_right_of_le (by decide) | exact Nat.le_add_right_of_le (Nat.le_add_right_of_le (by decide)), ?_⟩); (intro _ h; cases h))))
    | with_reducible refine SysKept.ite ?_ ?_
    | split

/-- `envFed` leaves the system page. -/
theorem y_envFed (n : Nat) (s : State) : SysKept s (State.envFed n s) := by
  unfold State.envFed
  repeat' first
    | with_reducible exact SysKept.refl _
    | with_reducible assumption
    | with_reducible refine (y_setEnvRamp ..).step ?_
    | with_reducible refine (k_envMark ..).sys (by decide) ?_
    | with_reducible refine (y_envShow ..).step ?_
    | ((with_reducible refine SysKept.wadd ?_ ?_); rotate_left; (first | decide | exact Nat.le_add_right_of_le (by decide) | exact Nat.le_add_right_of_le (Nat.le_add_right_of_le (by decide))))
    | ((with_reducible refine SysKept.wsets ?_ ?_); rotate_left; (((repeat refine List.forall_mem_cons.2 ⟨by dsimp only; first | decide | exact Nat.le_add_right_of_le (by decide) | exact Nat.le_add_right_of_le (Nat.le_add_right_of_le (by decide)), ?_⟩); (intro _ h; cases h))))
    | with_reducible refine SysKept.ite ?_ ?_
    | split

/-- `envRetry` leaves the system page. -/
theorem y_envRetry (n : Nat) (s : State) : SysKept s (State.envRetry n s) := by
  unfold State.envRetry
  repeat' first
    | with_reducible exact SysKept.refl _
    | with_reducible assumption
    | (extract_lets +onlyGivenNames x; refine SysKept.cut (s := s) (u := x) ?_ ?_; rotate_left; all_goals first | (intro _; clear_value x) | subst x)
    | (extract_lets +onlyGivenNames x; clear_value x)
    | with_reducible refine (y_setEnvRamp ..).step ?_
    | with_reducible refine (y_envShow ..).step ?_
    | ((with_reducible refine SysKept.wset ?_ ?_); rotate_left; (first | decide | exact Nat.le_add_right_of_le (by decide) | exact Nat.le_add_right_of_le (Nat.le_add_right_of_le (by decide))))
    | with_reducible refine SysKept.ite ?_ ?_
    | split

/-- `envOpen` leaves the system page. -/
theorem y_envOpen (n : Nat) (s : State) : SysKept s (State.envOpen n s) := by
  unfold State.envOpen
  repeat' first
    | with_reducible exact SysKept.refl _
    | with_reducible assumption
    | with_reducible refine (k_envMark ..).sys (by decide) ?_
    | with_reducible refine (y_envShow ..).step ?_
    | ((with_reducible refine SysKept.wsets ?_ ?_); rotate_left; (((repeat refine List.forall_mem_cons.2 ⟨by dsimp only; first | decide | exact Nat.le_add_right_of_le (by decide) | exact Nat.le_add_right_of_le (Nat.le_add_right_of_le (by decide)), ?_⟩); (intro _ h; cases h))))
    | with_reducible refine SysKept.ite ?_ ?_
    | split

/-- `envClamp` leaves the system page. -/
theorem y_envClamp (n : Nat) (s : State) : SysKept s (State.envClamp n s) := by
  unfold State.envClamp
  repeat' first
    | with_reducible exact SysKept.refl _
    | with_reducible assumption
    | with_reducible refine (k_envMark ..).sys (by decide) ?_
    | with_reducible refine (k_modEnv ..).sys (by decide) ?_
    | ((with_reducible refine SysKept.wadd ?_ ?_); rotate_left; (first | decide | exact Nat.le_add_right_of_le (by decide) | exact Nat.le_add_right_of_le (Nat.le_add_right_of_le (by decide))))
    | ((with_reducible refine SysKept.wset ?_ ?_); rotate_left; (first | decide | exact Nat.le_add_right_of_le (by decide) | exact Nat.le_add_right_of_le (Nat.le_add_right_of_le (by decide))))
    | with_reducible refine SysKept.ite ?_ ?_
    | split

/-- `envContend` leaves the system page. -/
theorem y_envContend (a : Nat) (b : Nat) (s : State) : SysKept s (State.envContend a b s) := by
  unfold State.envContend
  repeat' first
    | with_reducible exact SysKept.refl _
    | with_reducible assumption
    | with_reducible refine (k_envMark ..).sys (by decide) ?_
    | with_reducible refine (y_envShow ..).step ?_
    | ((with_reducible refine SysKept.wsets ?_ ?_); rotate_left; (((repeat refine List.forall_mem_cons.2 ⟨by dsimp only; first | decide | exact Nat.le_add_right_of_le (by decide) | exact Nat.le_add_right_of_le (Nat.le_add_right_of_le (by decide)), ?_⟩); (intro _ h; cases h))))
    | with_reducible refine SysKept.ite ?_ ?_
    | split

/-- `ilWrite` leaves the system page. -/
theorem y_ilWrite (agent : Nat) (k : Nat) (v : Nat) (s : State) : SysKept s (State.ilWrite agent k v s) := by
  unfold State.ilWrite
  repeat' first
    | with_reducible exact SysKept.refl _
    | with_reducible assumption
    | (extract_lets +onlyGivenNames x; refine SysKept.cut (s := s) (u := x) ?_ ?_; rotate_left; all_goals first | (intro _; clear_value x) | subst x)
    | (extract_lets +onlyGivenNames x; clear_value x)
    | with_reducible refine (y_envShow ..).step ?_
    | with_reducible refine (y_ilEval ..).step ?_
    | ((with_reducible refine SysKept.wsets ?_ ?_); rotate_left; (((repeat refine List.forall_mem_cons.2 ⟨by dsimp only; first | decide | exact Nat.le_add_right_of_le (by decide) | exact Nat.le_add_right_of_le (Nat.le_add_right_of_le (by decide)), ?_⟩); (intro _ h; cases h))))
    | ((with_reducible refine SysKept.wset ?_ ?_); rotate_left; (first | decide | exact Nat.le_add_right_of_le (by decide) | exact Nat.le_add_right_of_le (Nat.le_add_right_of_le (by decide))))
    | with_reducible refine SysKept.ite ?_ ?_
    | split

/-- `envKick` leaves the system page. -/
theorem y_envKick (agent : Nat) (v : Nat) (s : State) : SysKept s (State.envKick agent v s) := by
  unfold State.envKick
  repeat' first
    | with_reducible exact SysKept.refl _
    | with_reducible assumption
    | (extract_lets +onlyGivenNames x; refine SysKept.cut (s := s) (u := x) ?_ ?_; rotate_left; all_goals first | (intro _; clear_value x) | subst x)
    | (extract_lets +onlyGivenNames x; clear_value x)
    | with_reducible refine (y_envShow ..).step ?_
    | with_reducible refine (k_modEnv ..).sys (by decide) ?_
    | ((with_reducible refine SysKept.wset ?_ ?_); rotate_left; (first | decide | exact Nat.le_add_right_of_le (by decide) | exact Nat.le_add_right_of_le (Nat.le_add_right_of_le (by decide))))
    | with_reducible refine SysKept.ite ?_ ?_
    | split

end Sys2Proof.Machine
end

