-- ==== Sys2Proof/Laws/SysWnPwr.lean ====
section
/-! SUPPORT. The operations of Machine/WnPwr.lean that leave the system page. -/

namespace Sys2Proof.Machine

open Sys2Proof

/-- `powerOff` leaves the system page. -/
theorem y_powerOff (cause : Nat) (s : State) : SysKept s (State.powerOff cause s) := by
  unfold State.powerOff
  repeat' first
    | with_reducible exact SysKept.refl _
    | with_reducible assumption
    | with_reducible refine (k_askReset ..).sys (by decide) ?_
    | with_reducible refine (k_modPwr ..).sys (by decide) ?_
    | ((with_reducible refine SysKept.wset ?_ ?_); rotate_left; (first | decide | exact Nat.le_add_right_of_le (by decide) | exact Nat.le_add_right_of_le (Nat.le_add_right_of_le (by decide))))

/-- `lockout` leaves the system page. -/
theorem y_lockout (cause : Nat) (s : State) : SysKept s (State.lockout cause s) := by
  unfold State.lockout
  repeat' first
    | with_reducible exact SysKept.refl _
    | with_reducible assumption
    | with_reducible refine (y_powerOff ..).step ?_
    | ((with_reducible refine SysKept.wadd ?_ ?_); rotate_left; (first | decide | exact Nat.le_add_right_of_le (by decide) | exact Nat.le_add_right_of_le (Nat.le_add_right_of_le (by decide))))
    | ((with_reducible refine SysKept.wsets ?_ ?_); rotate_left; (((repeat refine List.forall_mem_cons.2 ⟨by dsimp only; first | decide | exact Nat.le_add_right_of_le (by decide) | exact Nat.le_add_right_of_le (Nat.le_add_right_of_le (by decide)), ?_⟩); (intro _ h; cases h))))

/-- `powerFault` leaves the system page. -/
theorem y_powerFault (cause : Nat) (rail : Nat) (hot : Bool) (s : State) : SysKept s (State.powerFault cause rail hot s) := by
  unfold State.powerFault
  repeat' first
    | with_reducible exact SysKept.refl _
    | with_reducible assumption
    | (extract_lets +onlyGivenNames x; refine SysKept.cut (s := s) (u := x) ?_ ?_; rotate_left; all_goals first | (intro _; clear_value x) | subst x)
    | (extract_lets +onlyGivenNames x; clear_value x)
    | with_reducible refine (y_powerOff ..).step ?_
    | with_reducible refine (k_modPwr ..).sys (by decide) ?_
    | ((with_reducible refine SysKept.wadd ?_ ?_); rotate_left; (first | decide | exact Nat.le_add_right_of_le (by decide) | exact Nat.le_add_right_of_le (Nat.le_add_right_of_le (by decide))))
    | ((with_reducible refine SysKept.wsets ?_ ?_); rotate_left; (((repeat refine List.forall_mem_cons.2 ⟨by dsimp only; first | decide | exact Nat.le_add_right_of_le (by decide) | exact Nat.le_add_right_of_le (Nat.le_add_right_of_le (by decide)), ?_⟩); (intro _ h; cases h))))
    | with_reducible refine SysKept.ite ?_ ?_
    | split

/-- `uvloAssert` leaves the system page. -/
theorem y_uvloAssert (s : State) : SysKept s (State.uvloAssert s) := by
  unfold State.uvloAssert
  repeat' first
    | with_reducible exact SysKept.refl _
    | with_reducible assumption
    | with_reducible refine (y_lockout ..).step ?_
    | with_reducible refine (k_modPwr ..).sys (by decide) ?_
    | with_reducible refine SysKept.ite ?_ ?_
    | split

/-- `ovloAssert` leaves the system page. -/
theorem y_ovloAssert (s : State) : SysKept s (State.ovloAssert s) := by
  unfold State.ovloAssert
  repeat' first
    | with_reducible exact SysKept.refl _
    | with_reducible assumption
    | with_reducible refine (y_lockout ..).step ?_
    | with_reducible refine (k_modPwr ..).sys (by decide) ?_
    | with_reducible refine SysKept.ite ?_ ?_
    | split

/-- `pgRelease` leaves the system page. -/
theorem y_pgRelease (s : State) : SysKept s (State.pgRelease s) := by
  unfold State.pgRelease
  repeat' first
    | with_reducible exact SysKept.refl _
    | with_reducible assumption
    | with_reducible refine (k_modPwr ..).sys (by decide) ?_
    | ((with_reducible refine SysKept.wset ?_ ?_); rotate_left; (first | decide | exact Nat.le_add_right_of_le (by decide) | exact Nat.le_add_right_of_le (Nat.le_add_right_of_le (by decide))))
    | with_reducible refine SysKept.ite ?_ ?_
    | split

/-- `marchWord` leaves the system page. -/
theorem y_marchWord (s : State) (key : Nat) : SysKept s (State.marchWord s key) := by
  unfold State.marchWord
  repeat' first
    | with_reducible exact SysKept.refl _
    | with_reducible assumption
    | (extract_lets +onlyGivenNames x; refine SysKept.cut (s := s) (u := x) ?_ ?_; rotate_left; all_goals first | (intro _; clear_value x) | subst x)
    | (extract_lets +onlyGivenNames x; clear_value x)
    | ((with_reducible refine SysKept.wsets ?_ ?_); rotate_left; (((repeat refine List.forall_mem_cons.2 ⟨by dsimp only; first | decide | exact Nat.le_add_right_of_le (by decide) | exact Nat.le_add_right_of_le (Nat.le_add_right_of_le (by decide)), ?_⟩); (intro _ h; cases h))))
    | with_reducible refine SysKept.ite ?_ ?_
    | split
    | with_reducible refine SysKept.ofSnd (by assumption) ?_
    | with_reducible refine (y_remap ..).step ?_
    | with_reducible dsimp only

/-- `marchSpare` leaves the system page. -/
theorem y_marchSpare (s : State) (key : Nat) : SysKept s (State.marchSpare s key) := by
  unfold State.marchSpare
  repeat' first
    | with_reducible exact SysKept.refl _
    | with_reducible assumption
    | (extract_lets +onlyGivenNames x; refine SysKept.cut (s := s) (u := x) ?_ ?_; rotate_left; all_goals first | (intro _; clear_value x) | subst x)
    | (extract_lets +onlyGivenNames x; clear_value x)
    | with_reducible refine (y_showSpares ..).step ?_
    | with_reducible refine (k_modMems ..).sys (by decide) ?_
    | with_reducible refine SysKept.ite ?_ ?_
    | split
    | with_reducible refine SysKept.ofSnd (by assumption) ?_
    | with_reducible refine (y_remap ..).step ?_
    | with_reducible dsimp only

/-- `readPass` leaves the system page. -/
theorem y_readPass (s : State) : SysKept s (State.readPass s) := by
  unfold State.readPass
  repeat' first
    | with_reducible exact SysKept.refl _
    | with_reducible assumption
    | with_reducible refine SysKept.foldl _ ?_ (fun _ _ _ => ?_)
    | with_reducible refine SysKept.ofThd (by assumption) ?_
    | with_reducible refine (y_readWord ..).step ?_
    | with_reducible dsimp only

/-- `loftCheck` leaves the system page. -/
theorem y_loftCheck (s : State) : SysKept s (State.loftCheck s) := by
  unfold State.loftCheck
  repeat' first
    | with_reducible exact SysKept.refl _
    | with_reducible assumption
    | ((with_reducible refine SysKept.wsets ?_ ?_); rotate_left; (((repeat refine List.forall_mem_cons.2 ⟨by dsimp only; first | decide | exact Nat.le_add_right_of_le (by decide) | exact Nat.le_add_right_of_le (Nat.le_add_right_of_le (by decide)), ?_⟩); (intro _ h; cases h))))
    | with_reducible refine SysKept.ite ?_ ?_
    | split

/-- `canBoot` leaves the system page. -/
theorem y_canBoot (s : State) : SysKept s (State.canBoot s) := by
  unfold State.canBoot
  repeat' first
    | with_reducible exact SysKept.refl _
    | with_reducible assumption
    | (extract_lets +onlyGivenNames x; refine SysKept.cut (s := s) (u := x) ?_ ?_; rotate_left; all_goals first | (intro _; clear_value x) | subst x)
    | (extract_lets +onlyGivenNames x; clear_value x)
    | with_reducible refine (k_modCan ..).sys (by decide) ?_
    | with_reducible refine (k_emitPin ..).sys (by decide) ?_
    | ((with_reducible refine SysKept.wsets ?_ ?_); rotate_left; (((repeat refine List.forall_mem_cons.2 ⟨by dsimp only; first | decide | exact Nat.le_add_right_of_le (by decide) | exact Nat.le_add_right_of_le (Nat.le_add_right_of_le (by decide)), ?_⟩); (intro _ h; cases h))))
    | with_reducible refine SysKept.ite ?_ ?_
    | split

end Sys2Proof.Machine
end

