-- ==== Sys2Proof/Laws/SysWnChecks.lean ====
section
/-! SUPPORT. The operations of Machine/WnChecks.lean that leave the system page. -/

namespace Sys2Proof.Machine

open Sys2Proof

/-- `fillSlot` leaves the system page. -/
theorem y_fillSlot (s : State) (x : Nat × ImgTask) : SysKept s (State.fillSlot s x) := by
  unfold State.fillSlot
  repeat' first
    | with_reducible exact SysKept.refl _
    | with_reducible assumption
    | (extract_lets +onlyGivenNames x; refine SysKept.cut (s := s) (u := x) ?_ ?_; rotate_left; all_goals first | (intro _; clear_value x) | subst x)
    | (extract_lets +onlyGivenNames x; clear_value x)
    | ((with_reducible refine SysKept.wsets ?_ ?_); rotate_left; (((repeat refine List.forall_mem_cons.2 ⟨by dsimp only; first | decide | exact Nat.le_add_right_of_le (by decide) | exact Nat.le_add_right_of_le (Nat.le_add_right_of_le (by decide)), ?_⟩); (intro _ h; cases h))))

/-- `refuseImage` leaves the system page. -/
theorem y_refuseImage (x : Refused) (s : State) : SysKept s (State.refuseImage x s) := by
  unfold State.refuseImage
  repeat' first
    | with_reducible exact SysKept.refl _
    | with_reducible assumption
    | (extract_lets +onlyGivenNames x; refine SysKept.cut (s := s) (u := x) ?_ ?_; rotate_left; all_goals first | (intro _; clear_value x) | subst x)
    | (extract_lets +onlyGivenNames x; clear_value x)
    | with_reducible refine (k_emcy ..).sys (by decide) ?_
    | ((with_reducible refine SysKept.wsets ?_ ?_); rotate_left; (((repeat refine List.forall_mem_cons.2 ⟨by dsimp only; first | decide | exact Nat.le_add_right_of_le (by decide) | exact Nat.le_add_right_of_le (Nat.le_add_right_of_le (by decide)), ?_⟩); (intro _ h; cases h))))
    | split
    | with_reducible refine SysKept.ofSnd (by assumption) ?_
    | with_reducible refine SysKept.fresh ?_
    | with_reducible dsimp only

end Sys2Proof.Machine
end

