-- ==== Sys2Proof/Laws/SysWnObj.lean ====
section
/-! SUPPORT. The operations of Machine/WnObj.lean that leave the system page. -/

namespace Sys2Proof.Machine

open Sys2Proof

/-- `readParts` leaves the system page. -/
theorem y_readParts (x0 : List (Nat × Nat)) (x1 : List Upset) (s : State) : SysKept s (State.readParts x0 x1 s).2 := by
  induction x0 generalizing x1 s with
  | nil =>
    unfold State.readParts
    repeat' first
      | with_reducible exact SysKept.refl _
      | with_reducible assumption
      | with_reducible refine (y_fenceRefuse ..).step ?_
      | with_reducible refine SysKept.iteSnd ?_ ?_
      | split
      | with_reducible refine SysKept.ofSnd (by assumption) ?_
      | with_reducible refine SysKept.ofThd (by assumption) ?_
      | with_reducible refine (y_memRead ..).step ?_
      | with_reducible dsimp only
  | cons e l ih =>
    unfold State.readParts
    repeat' first
      | with_reducible exact SysKept.refl _
      | with_reducible assumption
      | with_reducible refine (y_fenceRefuse ..).step ?_
      | with_reducible refine SysKept.iteSnd ?_ ?_
      | with_reducible refine (ih ..).step ?_
      | split
      | with_reducible refine SysKept.ofSnd (by assumption) ?_
      | with_reducible refine SysKept.ofThd (by assumption) ?_
      | with_reducible refine (y_memRead ..).step ?_
      | with_reducible dsimp only

end Sys2Proof.Machine
end

