-- ==== Sys2Proof/Laws/SysWnDict.lean ====
section
/-! SUPPORT. The operations of Machine/WnDict.lean that leave the system page. -/

namespace Sys2Proof.Machine

open Sys2Proof

/-- `sendTo` leaves the system page. -/
theorem y_sendTo (k : Nat) (frame : List Nat) (payload : List Nat) (s : State) : SysKept s (State.sendTo k frame payload s) := by
  unfold State.sendTo
  repeat' first
    | with_reducible exact SysKept.refl _
    | with_reducible assumption
    | with_reducible refine (y_respond ..).step ?_
    | split

/-- `answerDict` leaves the system page. -/
theorem y_answerDict (c : Client) (write : Bool) (index : Nat) (sub : Nat) (a : Ans) (s : State) : SysKept s (State.answerDict c write index sub a s) := by
  unfold State.answerDict
  repeat' first
    | with_reducible exact SysKept.refl _
    | with_reducible assumption
    | (extract_lets +onlyGivenNames x; refine SysKept.cut (s := s) (u := x) ?_ ?_; rotate_left; all_goals first | (intro _; clear_value x) | subst x)
    | (extract_lets +onlyGivenNames x; clear_value x)
    | with_reducible refine (k_keep ..).sys (by decide) ?_
    | with_reducible refine (y_sendTo ..).step ?_
    | with_reducible refine (k_emitPin ..).sys (by decide) ?_
    | ((with_reducible refine SysKept.wadd ?_ ?_); rotate_left; (first | decide | exact Nat.le_add_right_of_le (by decide) | exact Nat.le_add_right_of_le (Nat.le_add_right_of_le (by decide))))
    | ((with_reducible refine SysKept.wset ?_ ?_); rotate_left; (first | decide | exact Nat.le_add_right_of_le (by decide) | exact Nat.le_add_right_of_le (Nat.le_add_right_of_le (by decide))))
    | with_reducible refine SysKept.ite ?_ ?_
    | split

/-- `dictData` leaves the system page. -/
theorem y_dictData (p : Nat) (tag : Nat) (data : Nat) (s : State) : SysKept s (State.dictData p tag data s) := by
  unfold State.dictData
  repeat' first
    | with_reducible exact SysKept.refl _
    | with_reducible assumption
    | with_reducible refine (y_answerDict ..).step ?_
    | with_reducible refine (k_modCan ..).sys (by decide) ?_
    | with_reducible refine SysKept.ite ?_ ?_
    | split

/-- `dictTimeout` leaves the system page. -/
theorem y_dictTimeout (p : Nat) (s : State) : SysKept s (State.dictTimeout p s) := by
  unfold State.dictTimeout
  repeat' first
    | with_reducible exact SysKept.refl _
    | with_reducible assumption
    | with_reducible refine (y_answerDict ..).step ?_
    | with_reducible refine (k_modCan ..).sys (by decide) ?_
    | with_reducible refine SysKept.ite ?_ ?_
    | split

/-- `canErrState` leaves the system page. -/
theorem y_canErrState (s : State) : SysKept s (State.canErrState s) := by
  unfold State.canErrState
  repeat' first
    | with_reducible exact SysKept.refl _
    | with_reducible assumption
    | (extract_lets +onlyGivenNames x; refine SysKept.cut (s := s) (u := x) ?_ ?_; rotate_left; all_goals first | (intro _; clear_value x) | subst x)
    | (extract_lets +onlyGivenNames x; clear_value x)
    | ((with_reducible refine SysKept.wsets ?_ ?_); rotate_left; (((repeat refine List.forall_mem_cons.2 ⟨by dsimp only; first | decide | exact Nat.le_add_right_of_le (by decide) | exact Nat.le_add_right_of_le (Nat.le_add_right_of_le (by decide)), ?_⟩); (intro _ h; cases h))))
    | ((with_reducible refine SysKept.wset ?_ ?_); rotate_left; (first | decide | exact Nat.le_add_right_of_le (by decide) | exact Nat.le_add_right_of_le (Nat.le_add_right_of_le (by decide))))
    | with_reducible refine SysKept.ite ?_ ?_
    | split

/-- `canNoAck` leaves the system page. -/
theorem y_canNoAck (s : State) : SysKept s (State.canNoAck s) := by
  unfold State.canNoAck
  repeat' first
    | with_reducible exact SysKept.refl _
    | with_reducible assumption
    | (extract_lets +onlyGivenNames x; refine SysKept.cut (s := s) (u := x) ?_ ?_; rotate_left; all_goals first | (intro _; clear_value x) | subst x)
    | (extract_lets +onlyGivenNames x; clear_value x)
    | with_reducible refine (y_canErrState ..).step ?_
    | with_reducible refine (k_modCan ..).sys (by decide) ?_
    | ((with_reducible refine SysKept.wadd ?_ ?_); rotate_left; (first | decide | exact Nat.le_add_right_of_le (by decide) | exact Nat.le_add_right_of_le (Nat.le_add_right_of_le (by decide))))
    | ((with_reducible refine SysKept.wsets ?_ ?_); rotate_left; (((repeat refine List.forall_mem_cons.2 ⟨by dsimp only; first | decide | exact Nat.le_add_right_of_le (by decide) | exact Nat.le_add_right_of_le (Nat.le_add_right_of_le (by decide)), ?_⟩); (intro _ h; cases h))))
    | with_reducible refine SysKept.ite ?_ ?_
    | split

/-- `canAcked` leaves the system page. -/
theorem y_canAcked (s : State) : SysKept s (State.canAcked s) := by
  unfold State.canAcked
  repeat' first
    | with_reducible exact SysKept.refl _
    | with_reducible assumption
    | (extract_lets +onlyGivenNames x; refine SysKept.cut (s := s) (u := x) ?_ ?_; rotate_left; all_goals first | (intro _; clear_value x) | subst x)
    | (extract_lets +onlyGivenNames x; clear_value x)
    | with_reducible refine (y_canErrState ..).step ?_
    | with_reducible refine (k_modCan ..).sys (by decide) ?_
    | ((with_reducible refine SysKept.wsets ?_ ?_); rotate_left; (((repeat refine List.forall_mem_cons.2 ⟨by dsimp only; first | decide | exact Nat.le_add_right_of_le (by decide) | exact Nat.le_add_right_of_le (Nat.le_add_right_of_le (by decide)), ?_⟩); (intro _ h; cases h))))
    | with_reducible refine SysKept.ite ?_ ?_
    | split

/-- `canOutcome` leaves the system page. -/
theorem y_canOutcome (s : State) (ack : Bool) (b : State) : SysKept s (s.canOutcome ack b) := by
  unfold State.canOutcome
  split
  · exact SysKept.refl _
  · split
    · exact y_canAcked ..
    · exact y_canNoAck ..

/-- `canHeard` leaves the system page. -/
theorem y_canHeard (s : State) : SysKept s (State.canHeard s) := by
  unfold State.canHeard
  repeat' first
    | with_reducible exact SysKept.refl _
    | with_reducible assumption
    | (extract_lets +onlyGivenNames x; refine SysKept.cut (s := s) (u := x) ?_ ?_; rotate_left; all_goals first | (intro _; clear_value x) | subst x)
    | (extract_lets +onlyGivenNames x; clear_value x)
    | with_reducible refine (y_canErrState ..).step ?_
    | ((with_reducible refine SysKept.wset ?_ ?_); rotate_left; (first | decide | exact Nat.le_add_right_of_le (by decide) | exact Nat.le_add_right_of_le (Nat.le_add_right_of_le (by decide))))
    | with_reducible refine SysKept.ite ?_ ?_
    | split
    | with_reducible refine SysKept.ofSnd (by assumption) ?_
    | with_reducible refine SysKept.fresh ?_
    | with_reducible dsimp only

/-- `takeRequest` leaves the system page. -/
theorem y_takeRequest (err : Nat) (x1 : Nat) (s : State) : SysKept s (State.takeRequest err x1 s).2 := by
  induction x1 generalizing err s with
  | zero =>
    unfold State.takeRequest
    repeat' first
      | with_reducible exact SysKept.refl _
      | with_reducible assumption
      | with_reducible refine SysKept.iteSnd ?_ ?_
      | split
      | with_reducible refine SysKept.ofSnd (by assumption) ?_
      | with_reducible refine SysKept.ofThd (by assumption) ?_
      | with_reducible refine (y_pop ..).step ?_
      | with_reducible dsimp only
  | succ fuel ih =>
    unfold State.takeRequest
    repeat' first
      | with_reducible exact SysKept.refl _
      | with_reducible assumption
      | with_reducible refine SysKept.iteSnd ?_ ?_
      | split
      | with_reducible refine (ih ..).step ?_
      | with_reducible refine SysKept.ofSnd (by assumption) ?_
      | with_reducible refine SysKept.ofThd (by assumption) ?_
      | with_reducible refine (y_pop ..).step ?_
      | with_reducible dsimp only

/-- `nmtSet` leaves the system page. -/
theorem y_nmtSet (n : Nat) (s : State) : SysKept s (State.nmtSet n s) := by
  unfold State.nmtSet
  repeat' first
    | with_reducible exact SysKept.refl _
    | with_reducible assumption
    | ((with_reducible refine SysKept.wset ?_ ?_); rotate_left; (first | decide | exact Nat.le_add_right_of_le (by decide) | exact Nat.le_add_right_of_le (Nat.le_add_right_of_le (by decide))))
    | with_reducible refine SysKept.ite ?_ ?_
    | split

/-- `resetComm` leaves the system page. -/
theorem y_resetComm (s : State) : SysKept s (State.resetComm s) := by
  unfold State.resetComm
  repeat' first
    | with_reducible exact SysKept.refl _
    | with_reducible assumption
    | with_reducible refine (y_canBoot ..).step ?_
    | with_reducible refine (k_modCan ..).sys (by decide) ?_

end Sys2Proof.Machine
end

