-- ==== Sys2Proof/Laws/SysWnDbg.lean ====
section
/-! SUPPORT. The operations of Machine/WnDbg.lean that leave the system page. -/

namespace Sys2Proof.Machine

open Sys2Proof

/-- `memLoad` leaves the system page. -/
theorem y_memLoad (agent : Nat) (a : Nat) (n : Nat) (u : Upset) (s : State) : SysKept s (State.memLoad agent a n u s).2 := by
  unfold State.memLoad
  repeat' first
    | with_reducible exact SysKept.refl _
    | with_reducible assumption
    | (extract_lets +onlyGivenNames x; refine SysKept.cut (s := s) (u := x) ?_ ?_; rotate_left; all_goals first | (intro _; clear_value x) | subst x)
    | (extract_lets +onlyGivenNames x; clear_value x)
    | with_reducible refine SysKept.iteSnd ?_ ?_
    | split
    | with_reducible refine SysKept.ofThd (by assumption) ?_
    | with_reducible refine (y_memRead ..).step ?_
    | with_reducible dsimp only

/-- `tapIr` leaves the system page. -/
theorem y_tapIr (chip : Nat) (ir : Nat) (dr : Nat) (s : State) : SysKept s (State.tapIr chip ir dr s) := by
  unfold State.tapIr
  repeat' first
    | with_reducible exact SysKept.refl _
    | with_reducible assumption
    | (extract_lets +onlyGivenNames x; refine SysKept.cut (s := s) (u := x) ?_ ?_; rotate_left; all_goals first | (intro _; clear_value x) | subst x)
    | (extract_lets +onlyGivenNames x; clear_value x)
    | ((with_reducible refine SysKept.wset ?_ ?_); rotate_left; (first | decide | exact Nat.le_add_right_of_le (by decide) | exact Nat.le_add_right_of_le (Nat.le_add_right_of_le (by decide))))
    | with_reducible refine SysKept.ite ?_ ?_
    | split
    | with_reducible refine SysKept.upd_taps ?_

end Sys2Proof.Machine
end

