-- ==== Sys2Proof/Laws/SysWnCore.lean ====
section
/-! SUPPORT. The operations of Machine/WnCore.lean that leave the system page. -/

namespace Sys2Proof.Machine

open Sys2Proof

/-- `coreFetch` leaves the system page. -/
theorem y_coreFetch (n : Nat) (a : Nat) (k : Nat) (u : Upset) (s : State) : SysKept s (State.coreFetch n a k u s) := by
  unfold State.coreFetch
  repeat' first
    | with_reducible exact SysKept.refl _
    | with_reducible assumption
    | (extract_lets +onlyGivenNames x; refine SysKept.cut (s := s) (u := x) ?_ ?_; rotate_left; all_goals first | (intro _; clear_value x) | subst x)
    | (extract_lets +onlyGivenNames x; clear_value x)
    | with_reducible refine (k_answer ..).sys (by decide) ?_
    | with_reducible refine (k_trap ..).sys (by decide) ?_
    | with_reducible refine SysKept.ite ?_ ?_
    | split
    | with_reducible refine SysKept.ofThd (by assumption) ?_
    | with_reducible refine (y_memRead ..).step ?_
    | with_reducible dsimp only

/-- `coreLr` leaves the system page. -/
theorem y_coreLr (n : Nat) (rd : Nat) (a : Nat) (u : Upset) (s : State) : SysKept s (State.coreLr n rd a u s) := by
  unfold State.coreLr
  repeat' first
    | with_reducible exact SysKept.refl _
    | with_reducible assumption
    | (extract_lets +onlyGivenNames x; refine SysKept.cut (s := s) (u := x) ?_ ?_; rotate_left; all_goals first | (intro _; clear_value x) | subst x)
    | (extract_lets +onlyGivenNames x; clear_value x)
    | with_reducible refine (k_loadFault ..).sys (by decide) ?_
    | with_reducible refine (k_answer ..).sys (by decide) ?_
    | with_reducible refine (k_trap ..).sys (by decide) ?_
    | with_reducible refine (k_modCore ..).sys (by decide) ?_
    | with_reducible refine SysKept.ite ?_ ?_
    | split
    | with_reducible refine SysKept.ofSnd (by assumption) ?_
    | with_reducible refine (y_memLoad ..).step ?_
    | with_reducible dsimp only

/-- `proxyLate` leaves the system page. -/
theorem y_proxyLate (p : Nat) (s : State) : SysKept s (State.proxyLate p s) := by
  unfold State.proxyLate
  repeat' first
    | with_reducible exact SysKept.refl _
    | with_reducible assumption
    | (extract_lets +onlyGivenNames x; refine SysKept.cut (s := s) (u := x) ?_ ?_; rotate_left; all_goals first | (intro _; clear_value x) | subst x)
    | (extract_lets +onlyGivenNames x; clear_value x)
    | with_reducible refine (k_loadFault ..).sys (by decide) ?_
    | with_reducible refine (y_proxyTimeout ..).step ?_
    | with_reducible refine SysKept.foldl _ ?_ (fun _ _ _ => ?_)

end Sys2Proof.Machine
end

