-- ==== Sys2Proof/Laws/WonanReads.lean ====
section
/-! SUPPORT. What is read of lanes, ports, links, queues, clocks and modes after each named update of the state. -/

namespace Sys2Proof.Machine

open Sys2Proof

namespace State

/-- What `wset` leaves to be read of the units. -/
@[simp] theorem wset_units (f : Fld) (v : Nat) (s : State) :
    (∀ x0 : Nat, (s.wset f v).tri' x0 = s.tri' x0) ∧ (∀ x0 : Nat, (s.wset f v).port x0 = s.port x0) ∧
    (∀ x0 : Nat, (s.wset f v).lane x0 = s.lane x0) ∧ (∀ x0 : Nat, (s.wset f v).dlink x0 = s.dlink x0) ∧
    (∀ x0 : Nat, (s.wset f v).queue x0 = s.queue x0) ∧ (∀ x0 : Nat, (s.wset f v).prx x0 = s.prx x0) ∧
    (∀ x0 : Nat, (s.wset f v).tap x0 = s.tap x0) ∧ (s.wset f v).wframe = s.wframe ∧
    (s.wset f v).mtime = s.mtime ∧ (s.wset f v).lanesCount = s.lanesCount ∧
    (s.wset f v).epCount = s.epCount ∧ (s.wset f v).engCount = s.engCount ∧
    (s.wset f v).pinsHeld = s.pinsHeld ∧ (s.wset f v).anchorNow = s.anchorNow ∧
    (s.wset f v).timeNow = s.timeNow ∧ (∀ x0 : Nat, (s.wset f v).ext42 x0 = s.ext42 x0) ∧
    (∀ x0 : Nat, (s.wset f v).pairThetas x0 = s.pairThetas x0) ∧
    (∀ x0 x1 : Nat, (s.wset f v).load x0 x1 = s.load x0 x1) :=
  ⟨fun _ => rfl, fun _ => rfl, fun _ => rfl, fun _ => rfl, fun _ => rfl, fun _ => rfl, fun _ => rfl, rfl,
    rfl, rfl, rfl, rfl, rfl, rfl, rfl, fun _ => rfl, fun _ => rfl, fun _ _ => rfl⟩

/-- What `wsets` leaves to be read of the units. -/
@[simp] theorem wsets_units (l : List (Fld × Nat)) (s : State) :
    (∀ x0 : Nat, (s.wsets l).tri' x0 = s.tri' x0) ∧ (∀ x0 : Nat, (s.wsets l).port x0 = s.port x0) ∧
    (∀ x0 : Nat, (s.wsets l).lane x0 = s.lane x0) ∧ (∀ x0 : Nat, (s.wsets l).dlink x0 = s.dlink x0) ∧
    (∀ x0 : Nat, (s.wsets l).queue x0 = s.queue x0) ∧ (∀ x0 : Nat, (s.wsets l).prx x0 = s.prx x0) ∧
    (∀ x0 : Nat, (s.wsets l).tap x0 = s.tap x0) ∧ (s.wsets l).wframe = s.wframe ∧
    (s.wsets l).mtime = s.mtime ∧ (s.wsets l).lanesCount = s.lanesCount ∧ (s.wsets l).epCount = s.epCount ∧
    (s.wsets l).engCount = s.engCount ∧ (s.wsets l).pinsHeld = s.pinsHeld ∧
    (s.wsets l).anchorNow = s.anchorNow ∧ (s.wsets l).timeNow = s.timeNow ∧
    (∀ x0 : Nat, (s.wsets l).ext42 x0 = s.ext42 x0) ∧
    (∀ x0 : Nat, (s.wsets l).pairThetas x0 = s.pairThetas x0) ∧
    (∀ x0 x1 : Nat, (s.wsets l).load x0 x1 = s.load x0 x1) :=
  ⟨fun _ => rfl, fun _ => rfl, fun _ => rfl, fun _ => rfl, fun _ => rfl, fun _ => rfl, fun _ => rfl, rfl,
    rfl, rfl, rfl, rfl, rfl, rfl, rfl, fun _ => rfl, fun _ => rfl, fun _ _ => rfl⟩

/-- What `wadd` leaves to be read of the units. -/
@[simp] theorem wadd_units (f : Fld) (n : Nat) (s : State) :
    (∀ x0 : Nat, (s.wadd f n).tri' x0 = s.tri' x0) ∧ (∀ x0 : Nat, (s.wadd f n).port x0 = s.port x0) ∧
    (∀ x0 : Nat, (s.wadd f n).lane x0 = s.lane x0) ∧ (∀ x0 : Nat, (s.wadd f n).dlink x0 = s.dlink x0) ∧
    (∀ x0 : Nat, (s.wadd f n).queue x0 = s.queue x0) ∧ (∀ x0 : Nat, (s.wadd f n).prx x0 = s.prx x0) ∧
    (∀ x0 : Nat, (s.wadd f n).tap x0 = s.tap x0) ∧ (s.wadd f n).wframe = s.wframe ∧
    (s.wadd f n).mtime = s.mtime ∧ (s.wadd f n).lanesCount = s.lanesCount ∧
    (s.wadd f n).epCount = s.epCount ∧ (s.wadd f n).engCount = s.engCount ∧
    (s.wadd f n).pinsHeld = s.pinsHeld ∧ (s.wadd f n).anchorNow = s.anchorNow ∧
    (s.wadd f n).timeNow = s.timeNow ∧ (∀ x0 : Nat, (s.wadd f n).ext42 x0 = s.ext42 x0) ∧
    (∀ x0 : Nat, (s.wadd f n).pairThetas x0 = s.pairThetas x0) ∧
    (∀ x0 x1 : Nat, (s.wadd f n).load x0 x1 = s.load x0 x1) :=
  ⟨fun _ => rfl, fun _ => rfl, fun _ => rfl, fun _ => rfl, fun _ => rfl, fun _ => rfl, fun _ => rfl, rfl,
    rfl, rfl, rfl, rfl, rfl, rfl, rfl, fun _ => rfl, fun _ => rfl, fun _ _ => rfl⟩

/-- What `wraise` leaves to be read of the units. -/
@[simp] theorem wraise_units (f : Fld) (v : Nat) (s : State) :
    (∀ x0 : Nat, (s.wraise f v).tri' x0 = s.tri' x0) ∧ (∀ x0 : Nat, (s.wraise f v).port x0 = s.port x0) ∧
    (∀ x0 : Nat, (s.wraise f v).lane x0 = s.lane x0) ∧ (∀ x0 : Nat, (s.wraise f v).dlink x0 = s.dlink x0) ∧
    (∀ x0 : Nat, (s.wraise f v).queue x0 = s.queue x0) ∧ (∀ x0 : Nat, (s.wraise f v).prx x0 = s.prx x0) ∧
    (∀ x0 : Nat, (s.wraise f v).tap x0 = s.tap x0) ∧ (s.wraise f v).wframe = s.wframe ∧
    (s.wraise f v).mtime = s.mtime ∧ (s.wraise f v).lanesCount = s.lanesCount ∧
    (s.wraise f v).epCount = s.epCount ∧ (s.wraise f v).engCount = s.engCount ∧
    (s.wraise f v).pinsHeld = s.pinsHeld ∧ (s.wraise f v).anchorNow = s.anchorNow ∧
    (s.wraise f v).timeNow = s.timeNow ∧ (∀ x0 : Nat, (s.wraise f v).ext42 x0 = s.ext42 x0) ∧
    (∀ x0 : Nat, (s.wraise f v).pairThetas x0 = s.pairThetas x0) ∧
    (∀ x0 x1 : Nat, (s.wraise f v).load x0 x1 = s.load x0 x1) :=
  ⟨fun _ => rfl, fun _ => rfl, fun _ => rfl, fun _ => rfl, fun _ => rfl, fun _ => rfl, fun _ => rfl, rfl,
    rfl, rfl, rfl, rfl, rfl, rfl, rfl, fun _ => rfl, fun _ => rfl, fun _ _ => rfl⟩

/-- What `emit` leaves to be read of the units. -/
@[simp] theorem emit_units (o : Out) (s : State) :
    (∀ x0 : Nat, (s.emit o).tri' x0 = s.tri' x0) ∧ (∀ x0 : Nat, (s.emit o).port x0 = s.port x0) ∧
    (∀ x0 : Nat, (s.emit o).lane x0 = s.lane x0) ∧ (∀ x0 : Nat, (s.emit o).dlink x0 = s.dlink x0) ∧
    (∀ x0 : Nat, (s.emit o).queue x0 = s.queue x0) ∧ (∀ x0 : Nat, (s.emit o).prx x0 = s.prx x0) ∧
    (∀ x0 : Nat, (s.emit o).tap x0 = s.tap x0) ∧ (s.emit o).wframe = s.wframe ∧ (s.emit o).mtime = s.mtime ∧
    (s.emit o).isOpen = s.isOpen ∧ (s.emit o).isRun = s.isRun ∧
    (∀ x0 : Nat, (s.emit o).laneUp x0 = s.laneUp x0) ∧ (∀ x0 : Nat, (s.emit o).lanePort x0 = s.lanePort x0) ∧
    (∀ x0 : Nat, (s.emit o).laneK x0 = s.laneK x0) ∧ (∀ x0 : Nat, (s.emit o).portState x0 = s.portState x0) ∧
    (s.emit o).lanesCount = s.lanesCount ∧ (s.emit o).epCount = s.epCount ∧
    (s.emit o).engCount = s.engCount ∧ (s.emit o).timeValid = s.timeValid ∧
    (s.emit o).pinsHeld = s.pinsHeld ∧ (s.emit o).anchorNow = s.anchorNow ∧ (s.emit o).timeNow = s.timeNow ∧
    (∀ x0 : Nat, (s.emit o).ext42 x0 = s.ext42 x0) ∧ (∀ x0 : Nat, (s.emit o).triTheta x0 = s.triTheta x0) ∧
    (∀ x0 : Nat, (s.emit o).avgLen x0 = s.avgLen x0) ∧ (s.emit o).pairOn = s.pairOn ∧
    (s.emit o).isLead = s.isLead ∧ (∀ x0 : Nat, (s.emit o).pairThetas x0 = s.pairThetas x0) ∧
    (∀ x0 x1 : Nat, (s.emit o).load x0 x1 = s.load x0 x1) ∧ (s.emit o).inHoldover = s.inHoldover ∧
    (s.emit o).tracking = s.tracking ∧ (s.emit o).merSrc = s.merSrc ∧ (s.emit o).pNom = s.pNom ∧
    (s.emit o).trigger = s.trigger :=
  ⟨fun _ => rfl, fun _ => rfl, fun _ => rfl, fun _ => rfl, fun _ => rfl, fun _ => rfl, fun _ => rfl, rfl,
    rfl, rfl, rfl, fun _ => rfl, fun _ => rfl, fun _ => rfl, fun _ => rfl, rfl, rfl, rfl, rfl, rfl, rfl,
    rfl, fun _ => rfl, fun _ => rfl, fun _ => rfl, rfl, rfl, fun _ => rfl, fun _ _ => rfl, rfl, rfl, rfl,
    rfl, rfl⟩

/-- What `setByte` leaves to be read of the units. -/
@[simp] theorem setByte_units (a : Nat) (v : Byte) (s : State) :
    (∀ x0 : Nat, (s.setByte a v).tri' x0 = s.tri' x0) ∧ (∀ x0 : Nat, (s.setByte a v).port x0 = s.port x0) ∧
    (∀ x0 : Nat, (s.setByte a v).lane x0 = s.lane x0) ∧ (∀ x0 : Nat, (s.setByte a v).dlink x0 = s.dlink x0) ∧
    (∀ x0 : Nat, (s.setByte a v).queue x0 = s.queue x0) ∧ (∀ x0 : Nat, (s.setByte a v).prx x0 = s.prx x0) ∧
    (∀ x0 : Nat, (s.setByte a v).tap x0 = s.tap x0) ∧ (s.setByte a v).wframe = s.wframe ∧
    (s.setByte a v).mtime = s.mtime ∧ (s.setByte a v).isOpen = s.isOpen ∧ (s.setByte a v).isRun = s.isRun ∧
    (∀ x0 : Nat, (s.setByte a v).laneUp x0 = s.laneUp x0) ∧
    (∀ x0 : Nat, (s.setByte a v).lanePort x0 = s.lanePort x0) ∧
    (∀ x0 : Nat, (s.setByte a v).laneK x0 = s.laneK x0) ∧
    (∀ x0 : Nat, (s.setByte a v).portState x0 = s.portState x0) ∧ (s.setByte a v).lanesCount = s.lanesCount ∧
    (s.setByte a v).epCount = s.epCount ∧ (s.setByte a v).engCount = s.engCount ∧
    (s.setByte a v).timeValid = s.timeValid ∧ (s.setByte a v).pinsHeld = s.pinsHeld ∧
    (s.setByte a v).anchorNow = s.anchorNow ∧ (s.setByte a v).timeNow = s.timeNow ∧
    (∀ x0 : Nat, (s.setByte a v).ext42 x0 = s.ext42 x0) ∧
    (∀ x0 : Nat, (s.setByte a v).triTheta x0 = s.triTheta x0) ∧
    (∀ x0 : Nat, (s.setByte a v).avgLen x0 = s.avgLen x0) ∧ (s.setByte a v).pairOn = s.pairOn ∧
    (s.setByte a v).isLead = s.isLead ∧ (∀ x0 : Nat, (s.setByte a v).pairThetas x0 = s.pairThetas x0) ∧
    (s.setByte a v).inHoldover = s.inHoldover ∧ (s.setByte a v).tracking = s.tracking ∧
    (s.setByte a v).merSrc = s.merSrc ∧ (s.setByte a v).pNom = s.pNom ∧ (s.setByte a v).trigger = s.trigger :=
  ⟨fun _ => rfl, fun _ => rfl, fun _ => rfl, fun _ => rfl, fun _ => rfl, fun _ => rfl, fun _ => rfl, rfl,
    rfl, rfl, rfl, fun _ => rfl, fun _ => rfl, fun _ => rfl, fun _ => rfl, rfl, rfl, rfl, rfl, rfl, rfl,
    rfl, fun _ => rfl, fun _ => rfl, fun _ => rfl, rfl, rfl, fun _ => rfl, rfl, rfl, rfl, rfl, rfl⟩

/-- What `fresh` leaves to be read of the units. -/
@[simp] theorem fresh_units (n : Nat) (s : State) :
    (∀ x0 : Nat, ((s.fresh n).2).tri' x0 = s.tri' x0) ∧ (∀ x0 : Nat, ((s.fresh n).2).port x0 = s.port x0) ∧
    (∀ x0 : Nat, ((s.fresh n).2).lane x0 = s.lane x0) ∧ (∀ x0 : Nat, ((s.fresh n).2).dlink x0 = s.dlink x0) ∧
    (∀ x0 : Nat, ((s.fresh n).2).queue x0 = s.queue x0) ∧ (∀ x0 : Nat, ((s.fresh n).2).prx x0 = s.prx x0) ∧
    (∀ x0 : Nat, ((s.fresh n).2).tap x0 = s.tap x0) ∧ ((s.fresh n).2).wframe = s.wframe ∧
    ((s.fresh n).2).mtime = s.mtime ∧ ((s.fresh n).2).isOpen = s.isOpen ∧ ((s.fresh n).2).isRun = s.isRun ∧
    (∀ x0 : Nat, ((s.fresh n).2).laneUp x0 = s.laneUp x0) ∧
    (∀ x0 : Nat, ((s.fresh n).2).lanePort x0 = s.lanePort x0) ∧
    (∀ x0 : Nat, ((s.fresh n).2).laneK x0 = s.laneK x0) ∧
    (∀ x0 : Nat, ((s.fresh n).2).portState x0 = s.portState x0) ∧ ((s.fresh n).2).lanesCount = s.lanesCount ∧
    ((s.fresh n).2).epCount = s.epCount ∧ ((s.fresh n).2).engCount = s.engCount ∧
    ((s.fresh n).2).timeValid = s.timeValid ∧ ((s.fresh n).2).pinsHeld = s.pinsHeld ∧
    ((s.fresh n).2).anchorNow = s.anchorNow ∧ ((s.fresh n).2).timeNow = s.timeNow ∧
    (∀ x0 : Nat, ((s.fresh n).2).ext42 x0 = s.ext42 x0) ∧
    (∀ x0 : Nat, ((s.fresh n).2).triTheta x0 = s.triTheta x0) ∧
    (∀ x0 : Nat, ((s.fresh n).2).avgLen x0 = s.avgLen x0) ∧ ((s.fresh n).2).pairOn = s.pairOn ∧
    ((s.fresh n).2).isLead = s.isLead ∧ (∀ x0 : Nat, ((s.fresh n).2).pairThetas x0 = s.pairThetas x0) ∧
    (∀ x0 x1 : Nat, ((s.fresh n).2).load x0 x1 = s.load x0 x1) ∧ ((s.fresh n).2).inHoldover = s.inHoldover ∧
    ((s.fresh n).2).tracking = s.tracking ∧ ((s.fresh n).2).merSrc = s.merSrc ∧
    ((s.fresh n).2).pNom = s.pNom ∧ ((s.fresh n).2).trigger = s.trigger :=
  ⟨fun _ => rfl, fun _ => rfl, fun _ => rfl, fun _ => rfl, fun _ => rfl, fun _ => rfl, fun _ => rfl, rfl,
    rfl, rfl, rfl, fun _ => rfl, fun _ => rfl, fun _ => rfl, fun _ => rfl, rfl, rfl, rfl, rfl, rfl, rfl,
    rfl, fun _ => rfl, fun _ => rfl, fun _ => rfl, rfl, rfl, fun _ => rfl, fun _ _ => rfl, rfl, rfl, rfl,
    rfl, rfl⟩

/-- What `modTl` leaves to be read of the units. -/
@[simp] theorem modTl_units (p : Nat) (f : Tladon → Tladon) (s : State) :
    (∀ x0 : Nat, (s.modTl p f).tri' x0 = s.tri' x0) ∧ (∀ x0 : Nat, (s.modTl p f).port x0 = s.port x0) ∧
    (∀ x0 : Nat, (s.modTl p f).lane x0 = s.lane x0) ∧ (∀ x0 : Nat, (s.modTl p f).dlink x0 = s.dlink x0) ∧
    (∀ x0 : Nat, (s.modTl p f).queue x0 = s.queue x0) ∧ (∀ x0 : Nat, (s.modTl p f).prx x0 = s.prx x0) ∧
    (∀ x0 : Nat, (s.modTl p f).tap x0 = s.tap x0) ∧ (s.modTl p f).wframe = s.wframe ∧
    (s.modTl p f).mtime = s.mtime ∧ (s.modTl p f).isOpen = s.isOpen ∧ (s.modTl p f).isRun = s.isRun ∧
    (∀ x0 : Nat, (s.modTl p f).laneUp x0 = s.laneUp x0) ∧
    (∀ x0 : Nat, (s.modTl p f).lanePort x0 = s.lanePort x0) ∧
    (∀ x0 : Nat, (s.modTl p f).laneK x0 = s.laneK x0) ∧
    (∀ x0 : Nat, (s.modTl p f).portState x0 = s.portState x0) ∧ (s.modTl p f).lanesCount = s.lanesCount ∧
    (s.modTl p f).epCount = s.epCount ∧ (s.modTl p f).engCount = s.engCount ∧
    (s.modTl p f).timeValid = s.timeValid ∧ (s.modTl p f).pinsHeld = s.pinsHeld ∧
    (s.modTl p f).anchorNow = s.anchorNow ∧ (s.modTl p f).timeNow = s.timeNow ∧
    (∀ x0 : Nat, (s.modTl p f).ext42 x0 = s.ext42 x0) ∧
    (∀ x0 : Nat, (s.modTl p f).triTheta x0 = s.triTheta x0) ∧
    (∀ x0 : Nat, (s.modTl p f).avgLen x0 = s.avgLen x0) ∧ (s.modTl p f).pairOn = s.pairOn ∧
    (s.modTl p f).isLead = s.isLead ∧ (∀ x0 : Nat, (s.modTl p f).pairThetas x0 = s.pairThetas x0) ∧
    (∀ x0 x1 : Nat, (s.modTl p f).load x0 x1 = s.load x0 x1) ∧ (s.modTl p f).inHoldover = s.inHoldover ∧
    (s.modTl p f).tracking = s.tracking ∧ (s.modTl p f).merSrc = s.merSrc ∧ (s.modTl p f).pNom = s.pNom ∧
    (s.modTl p f).trigger = s.trigger :=
  ⟨fun _ => rfl, fun _ => rfl, fun _ => rfl, fun _ => rfl, fun _ => rfl, fun _ => rfl, fun _ => rfl, rfl,
    rfl, rfl, rfl, fun _ => rfl, fun _ => rfl, fun _ => rfl, fun _ => rfl, rfl, rfl, rfl, rfl, rfl, rfl,
    rfl, fun _ => rfl, fun _ => rfl, fun _ => rfl, rfl, rfl, fun _ => rfl, fun _ _ => rfl, rfl, rfl, rfl,
    rfl, rfl⟩

/-- What `modPort` leaves to be read of the units. -/
@[simp] theorem modPort_units (p : Nat) (f : Port → Port) (s : State) :
    (∀ x0 : Nat, (s.modPort p f).tri' x0 = s.tri' x0) ∧ (∀ x0 : Nat, (s.modPort p f).lane x0 = s.lane x0) ∧
    (∀ x0 : Nat, (s.modPort p f).dlink x0 = s.dlink x0) ∧
    (∀ x0 : Nat, (s.modPort p f).queue x0 = s.queue x0) ∧ (∀ x0 : Nat, (s.modPort p f).prx x0 = s.prx x0) ∧
    (∀ x0 : Nat, (s.modPort p f).tap x0 = s.tap x0) ∧ (s.modPort p f).wframe = s.wframe ∧
    (s.modPort p f).mtime = s.mtime ∧ (s.modPort p f).isOpen = s.isOpen ∧ (s.modPort p f).isRun = s.isRun ∧
    (∀ x0 : Nat, (s.modPort p f).laneUp x0 = s.laneUp x0) ∧
    (∀ x0 : Nat, (s.modPort p f).lanePort x0 = s.lanePort x0) ∧
    (∀ x0 : Nat, (s.modPort p f).laneK x0 = s.laneK x0) ∧
    (∀ x0 : Nat, (s.modPort p f).portState x0 = s.portState x0) ∧ (s.modPort p f).lanesCount = s.lanesCount ∧
    (s.modPort p f).epCount = s.epCount ∧ (s.modPort p f).engCount = s.engCount ∧
    (s.modPort p f).timeValid = s.timeValid ∧ (s.modPort p f).pinsHeld = s.pinsHeld ∧
    (s.modPort p f).anchorNow = s.anchorNow ∧ (s.modPort p f).timeNow = s.timeNow ∧
    (∀ x0 : Nat, (s.modPort p f).ext42 x0 = s.ext42 x0) ∧
    (∀ x0 : Nat, (s.modPort p f).triTheta x0 = s.triTheta x0) ∧
    (∀ x0 : Nat, (s.modPort p f).avgLen x0 = s.avgLen x0) ∧ (s.modPort p f).pairOn = s.pairOn ∧
    (s.modPort p f).isLead = s.isLead ∧ (∀ x0 : Nat, (s.modPort p f).pairThetas x0 = s.pairThetas x0) ∧
    (∀ x0 x1 : Nat, (s.modPort p f).load x0 x1 = s.load x0 x1) ∧ (s.modPort p f).inHoldover = s.inHoldover ∧
    (s.modPort p f).tracking = s.tracking ∧ (s.modPort p f).merSrc = s.merSrc ∧
    (s.modPort p f).pNom = s.pNom ∧ (s.modPort p f).trigger = s.trigger :=
  ⟨fun _ => rfl, fun _ => rfl, fun _ => rfl, fun _ => rfl, fun _ => rfl, fun _ => rfl, rfl, rfl, rfl, rfl,
    fun _ => rfl, fun _ => rfl, fun _ => rfl, fun _ => rfl, rfl, rfl, rfl, rfl, rfl, rfl, rfl, fun _ => rfl,
    fun _ => rfl, fun _ => rfl, rfl, rfl, fun _ => rfl, fun _ _ => rfl, rfl, rfl, rfl, rfl, rfl⟩

/-- What `modTri` leaves to be read of the units. -/
@[simp] theorem modTri_units (p : Nat) (f : Tri → Tri) (s : State) :
    (∀ x0 : Nat, (s.modTri p f).port x0 = s.port x0) ∧ (∀ x0 : Nat, (s.modTri p f).lane x0 = s.lane x0) ∧
    (∀ x0 : Nat, (s.modTri p f).dlink x0 = s.dlink x0) ∧ (∀ x0 : Nat, (s.modTri p f).queue x0 = s.queue x0) ∧
    (∀ x0 : Nat, (s.modTri p f).prx x0 = s.prx x0) ∧ (∀ x0 : Nat, (s.modTri p f).tap x0 = s.tap x0) ∧
    (s.modTri p f).wframe = s.wframe ∧ (s.modTri p f).mtime = s.mtime ∧ (s.modTri p f).isOpen = s.isOpen ∧
    (s.modTri p f).isRun = s.isRun ∧ (∀ x0 : Nat, (s.modTri p f).laneUp x0 = s.laneUp x0) ∧
    (∀ x0 : Nat, (s.modTri p f).lanePort x0 = s.lanePort x0) ∧
    (∀ x0 : Nat, (s.modTri p f).laneK x0 = s.laneK x0) ∧
    (∀ x0 : Nat, (s.modTri p f).portState x0 = s.portState x0) ∧ (s.modTri p f).lanesCount = s.lanesCount ∧
    (s.modTri p f).epCount = s.epCount ∧ (s.modTri p f).engCount = s.engCount ∧
    (s.modTri p f).timeValid = s.timeValid ∧ (s.modTri p f).pinsHeld = s.pinsHeld ∧
    (s.modTri p f).anchorNow = s.anchorNow ∧ (s.modTri p f).timeNow = s.timeNow ∧
    (∀ x0 : Nat, (s.modTri p f).ext42 x0 = s.ext42 x0) ∧
    (∀ x0 : Nat, (s.modTri p f).triTheta x0 = s.triTheta x0) ∧
    (∀ x0 : Nat, (s.modTri p f).avgLen x0 = s.avgLen x0) ∧ (s.modTri p f).pairOn = s.pairOn ∧
    (s.modTri p f).isLead = s.isLead ∧ (∀ x0 : Nat, (s.modTri p f).pairThetas x0 = s.pairThetas x0) ∧
    (∀ x0 x1 : Nat, (s.modTri p f).load x0 x1 = s.load x0 x1) ∧ (s.modTri p f).inHoldover = s.inHoldover ∧
    (s.modTri p f).tracking = s.tracking ∧ (s.modTri p f).merSrc = s.merSrc ∧ (s.modTri p f).pNom = s.pNom ∧
    (s.modTri p f).trigger = s.trigger :=
  ⟨fun _ => rfl, fun _ => rfl, fun _ => rfl, fun _ => rfl, fun _ => rfl, fun _ => rfl, rfl, rfl, rfl, rfl,
    fun _ => rfl, fun _ => rfl, fun _ => rfl, fun _ => rfl, rfl, rfl, rfl, rfl, rfl, rfl, rfl, fun _ => rfl,
    fun _ => rfl, fun _ => rfl, rfl, rfl, fun _ => rfl, fun _ _ => rfl, rfl, rfl, rfl, rfl, rfl⟩

/-- What `modLane` leaves to be read of the units. -/
@[simp] theorem modLane_units (l : Nat) (f : Lane → Lane) (s : State) :
    (∀ x0 : Nat, (s.modLane l f).tri' x0 = s.tri' x0) ∧ (∀ x0 : Nat, (s.modLane l f).port x0 = s.port x0) ∧
    (∀ x0 : Nat, (s.modLane l f).dlink x0 = s.dlink x0) ∧
    (∀ x0 : Nat, (s.modLane l f).queue x0 = s.queue x0) ∧ (∀ x0 : Nat, (s.modLane l f).prx x0 = s.prx x0) ∧
    (∀ x0 : Nat, (s.modLane l f).tap x0 = s.tap x0) ∧ (s.modLane l f).wframe = s.wframe ∧
    (s.modLane l f).mtime = s.mtime ∧ (s.modLane l f).isOpen = s.isOpen ∧ (s.modLane l f).isRun = s.isRun ∧
    (∀ x0 : Nat, (s.modLane l f).laneUp x0 = s.laneUp x0) ∧
    (∀ x0 : Nat, (s.modLane l f).lanePort x0 = s.lanePort x0) ∧
    (∀ x0 : Nat, (s.modLane l f).laneK x0 = s.laneK x0) ∧
    (∀ x0 : Nat, (s.modLane l f).portState x0 = s.portState x0) ∧ (s.modLane l f).lanesCount = s.lanesCount ∧
    (s.modLane l f).epCount = s.epCount ∧ (s.modLane l f).engCount = s.engCount ∧
    (s.modLane l f).timeValid = s.timeValid ∧ (s.modLane l f).pinsHeld = s.pinsHeld ∧
    (s.modLane l f).anchorNow = s.anchorNow ∧ (s.modLane l f).timeNow = s.timeNow ∧
    (∀ x0 : Nat, (s.modLane l f).ext42 x0 = s.ext42 x0) ∧
    (∀ x0 : Nat, (s.modLane l f).triTheta x0 = s.triTheta x0) ∧
    (∀ x0 : Nat, (s.modLane l f).avgLen x0 = s.avgLen x0) ∧ (s.modLane l f).pairOn = s.pairOn ∧
    (s.modLane l f).isLead = s.isLead ∧ (∀ x0 : Nat, (s.modLane l f).pairThetas x0 = s.pairThetas x0) ∧
    (∀ x0 x1 : Nat, (s.modLane l f).load x0 x1 = s.load x0 x1) ∧ (s.modLane l f).inHoldover = s.inHoldover ∧
    (s.modLane l f).tracking = s.tracking ∧ (s.modLane l f).merSrc = s.merSrc ∧
    (s.modLane l f).pNom = s.pNom ∧ (s.modLane l f).trigger = s.trigger :=
  ⟨fun _ => rfl, fun _ => rfl, fun _ => rfl, fun _ => rfl, fun _ => rfl, fun _ => rfl, rfl, rfl, rfl, rfl,
    fun _ => rfl, fun _ => rfl, fun _ => rfl, fun _ => rfl, rfl, rfl, rfl, rfl, rfl, rfl, rfl, fun _ => rfl,
    fun _ => rfl, fun _ => rfl, rfl, rfl, fun _ => rfl, fun _ _ => rfl, rfl, rfl, rfl, rfl, rfl⟩

/-- What `modDlink` leaves to be read of the units. -/
@[simp] theorem modDlink_units (p : Nat) (f : Dlink → Dlink) (s : State) :
    (∀ x0 : Nat, (s.modDlink p f).tri' x0 = s.tri' x0) ∧ (∀ x0 : Nat, (s.modDlink p f).port x0 = s.port x0) ∧
    (∀ x0 : Nat, (s.modDlink p f).lane x0 = s.lane x0) ∧
    (∀ x0 : Nat, (s.modDlink p f).queue x0 = s.queue x0) ∧ (∀ x0 : Nat, (s.modDlink p f).prx x0 = s.prx x0) ∧
    (∀ x0 : Nat, (s.modDlink p f).tap x0 = s.tap x0) ∧ (s.modDlink p f).wframe = s.wframe ∧
    (s.modDlink p f).mtime = s.mtime ∧ (s.modDlink p f).isOpen = s.isOpen ∧
    (s.modDlink p f).isRun = s.isRun ∧ (∀ x0 : Nat, (s.modDlink p f).laneUp x0 = s.laneUp x0) ∧
    (∀ x0 : Nat, (s.modDlink p f).lanePort x0 = s.lanePort x0) ∧
    (∀ x0 : Nat, (s.modDlink p f).laneK x0 = s.laneK x0) ∧
    (∀ x0 : Nat, (s.modDlink p f).portState x0 = s.portState x0) ∧
    (s.modDlink p f).lanesCount = s.lanesCount ∧ (s.modDlink p f).epCount = s.epCount ∧
    (s.modDlink p f).engCount = s.engCount ∧ (s.modDlink p f).timeValid = s.timeValid ∧
    (s.modDlink p f).pinsHeld = s.pinsHeld ∧ (s.modDlink p f).anchorNow = s.anchorNow ∧
    (s.modDlink p f).timeNow = s.timeNow ∧ (∀ x0 : Nat, (s.modDlink p f).ext42 x0 = s.ext42 x0) ∧
    (∀ x0 : Nat, (s.modDlink p f).triTheta x0 = s.triTheta x0) ∧
    (∀ x0 : Nat, (s.modDlink p f).avgLen x0 = s.avgLen x0) ∧ (s.modDlink p f).pairOn = s.pairOn ∧
    (s.modDlink p f).isLead = s.isLead ∧ (∀ x0 : Nat, (s.modDlink p f).pairThetas x0 = s.pairThetas x0) ∧
    (∀ x0 x1 : Nat, (s.modDlink p f).load x0 x1 = s.load x0 x1) ∧
    (s.modDlink p f).inHoldover = s.inHoldover ∧ (s.modDlink p f).tracking = s.tracking ∧
    (s.modDlink p f).merSrc = s.merSrc ∧ (s.modDlink p f).pNom = s.pNom ∧ (s.modDlink p f).trigger = s.trigger :=
  ⟨fun _ => rfl, fun _ => rfl, fun _ => rfl, fun _ => rfl, fun _ => rfl, fun _ => rfl, rfl, rfl, rfl, rfl,
    fun _ => rfl, fun _ => rfl, fun _ => rfl, fun _ => rfl, rfl, rfl, rfl, rfl, rfl, rfl, rfl, fun _ => rfl,
    fun _ => rfl, fun _ => rfl, rfl, rfl, fun _ => rfl, fun _ _ => rfl, rfl, rfl, rfl, rfl, rfl⟩

/-- What `modMer` leaves to be read of the units. -/
@[simp] theorem modMer_units (f : Mer → Mer) (s : State) :
    (∀ x0 : Nat, (s.modMer f).tri' x0 = s.tri' x0) ∧ (∀ x0 : Nat, (s.modMer f).port x0 = s.port x0) ∧
    (∀ x0 : Nat, (s.modMer f).lane x0 = s.lane x0) ∧ (∀ x0 : Nat, (s.modMer f).dlink x0 = s.dlink x0) ∧
    (∀ x0 : Nat, (s.modMer f).queue x0 = s.queue x0) ∧ (∀ x0 : Nat, (s.modMer f).prx x0 = s.prx x0) ∧
    (∀ x0 : Nat, (s.modMer f).tap x0 = s.tap x0) ∧ (s.modMer f).wframe = s.wframe ∧
    (s.modMer f).mtime = s.mtime ∧ (s.modMer f).isOpen = s.isOpen ∧ (s.modMer f).isRun = s.isRun ∧
    (∀ x0 : Nat, (s.modMer f).laneUp x0 = s.laneUp x0) ∧
    (∀ x0 : Nat, (s.modMer f).lanePort x0 = s.lanePort x0) ∧
    (∀ x0 : Nat, (s.modMer f).laneK x0 = s.laneK x0) ∧
    (∀ x0 : Nat, (s.modMer f).portState x0 = s.portState x0) ∧ (s.modMer f).lanesCount = s.lanesCount ∧
    (s.modMer f).epCount = s.epCount ∧ (s.modMer f).engCount = s.engCount ∧
    (s.modMer f).timeValid = s.timeValid ∧ (s.modMer f).pinsHeld = s.pinsHeld ∧
    (∀ x0 : Nat, (s.modMer f).ext42 x0 = s.ext42 x0) ∧
    (∀ x0 : Nat, (s.modMer f).triTheta x0 = s.triTheta x0) ∧
    (∀ x0 : Nat, (s.modMer f).avgLen x0 = s.avgLen x0) ∧ (s.modMer f).pairOn = s.pairOn ∧
    (s.modMer f).isLead = s.isLead ∧ (∀ x0 : Nat, (s.modMer f).pairThetas x0 = s.pairThetas x0) ∧
    (∀ x0 x1 : Nat, (s.modMer f).load x0 x1 = s.load x0 x1) ∧ (s.modMer f).inHoldover = s.inHoldover ∧
    (s.modMer f).tracking = s.tracking ∧ (s.modMer f).merSrc = s.merSrc ∧ (s.modMer f).pNom = s.pNom ∧
    (s.modMer f).trigger = s.trigger :=
  ⟨fun _ => rfl, fun _ => rfl, fun _ => rfl, fun _ => rfl, fun _ => rfl, fun _ => rfl, fun _ => rfl, rfl,
    rfl, rfl, rfl, fun _ => rfl, fun _ => rfl, fun _ => rfl, fun _ => rfl, rfl, rfl, rfl, rfl, rfl, fun _ =>
    rfl, fun _ => rfl, fun _ => rfl, rfl, rfl, fun _ => rfl, fun _ _ => rfl, rfl, rfl, rfl, rfl, rfl⟩

/-- What `modSch` leaves to be read of the units. -/
@[simp] theorem modSch_units (f : Sch → Sch) (s : State) :
    (∀ x0 : Nat, (s.modSch f).tri' x0 = s.tri' x0) ∧ (∀ x0 : Nat, (s.modSch f).port x0 = s.port x0) ∧
    (∀ x0 : Nat, (s.modSch f).lane x0 = s.lane x0) ∧ (∀ x0 : Nat, (s.modSch f).dlink x0 = s.dlink x0) ∧
    (∀ x0 : Nat, (s.modSch f).queue x0 = s.queue x0) ∧ (∀ x0 : Nat, (s.modSch f).prx x0 = s.prx x0) ∧
    (∀ x0 : Nat, (s.modSch f).tap x0 = s.tap x0) ∧ (s.modSch f).wframe = s.wframe ∧
    (s.modSch f).mtime = s.mtime ∧ (s.modSch f).isOpen = s.isOpen ∧ (s.modSch f).isRun = s.isRun ∧
    (∀ x0 : Nat, (s.modSch f).laneUp x0 = s.laneUp x0) ∧
    (∀ x0 : Nat, (s.modSch f).lanePort x0 = s.lanePort x0) ∧
    (∀ x0 : Nat, (s.modSch f).laneK x0 = s.laneK x0) ∧
    (∀ x0 : Nat, (s.modSch f).portState x0 = s.portState x0) ∧ (s.modSch f).lanesCount = s.lanesCount ∧
    (s.modSch f).epCount = s.epCount ∧ (s.modSch f).engCount = s.engCount ∧
    (s.modSch f).timeValid = s.timeValid ∧ (s.modSch f).pinsHeld = s.pinsHeld ∧
    (s.modSch f).anchorNow = s.anchorNow ∧ (s.modSch f).timeNow = s.timeNow ∧
    (∀ x0 : Nat, (s.modSch f).ext42 x0 = s.ext42 x0) ∧
    (∀ x0 : Nat, (s.modSch f).triTheta x0 = s.triTheta x0) ∧
    (∀ x0 : Nat, (s.modSch f).avgLen x0 = s.avgLen x0) ∧ (s.modSch f).pairOn = s.pairOn ∧
    (s.modSch f).isLead = s.isLead ∧ (∀ x0 : Nat, (s.modSch f).pairThetas x0 = s.pairThetas x0) ∧
    (∀ x0 x1 : Nat, (s.modSch f).load x0 x1 = s.load x0 x1) ∧ (s.modSch f).inHoldover = s.inHoldover ∧
    (s.modSch f).tracking = s.tracking ∧ (s.modSch f).merSrc = s.merSrc ∧ (s.modSch f).pNom = s.pNom ∧
    (s.modSch f).trigger = s.trigger :=
  ⟨fun _ => rfl, fun _ => rfl, fun _ => rfl, fun _ => rfl, fun _ => rfl, fun _ => rfl, fun _ => rfl, rfl,
    rfl, rfl, rfl, fun _ => rfl, fun _ => rfl, fun _ => rfl, fun _ => rfl, rfl, rfl, rfl, rfl, rfl, rfl,
    rfl, fun _ => rfl, fun _ => rfl, fun _ => rfl, rfl, rfl, fun _ => rfl, fun _ _ => rfl, rfl, rfl, rfl,
    rfl, rfl⟩

/-- What `modPair` leaves to be read of the units. -/
@[simp] theorem modPair_units (f : Pair → Pair) (s : State) :
    (∀ x0 : Nat, (s.modPair f).tri' x0 = s.tri' x0) ∧ (∀ x0 : Nat, (s.modPair f).port x0 = s.port x0) ∧
    (∀ x0 : Nat, (s.modPair f).lane x0 = s.lane x0) ∧ (∀ x0 : Nat, (s.modPair f).dlink x0 = s.dlink x0) ∧
    (∀ x0 : Nat, (s.modPair f).queue x0 = s.queue x0) ∧ (∀ x0 : Nat, (s.modPair f).prx x0 = s.prx x0) ∧
    (∀ x0 : Nat, (s.modPair f).tap x0 = s.tap x0) ∧ (s.modPair f).wframe = s.wframe ∧
    (s.modPair f).mtime = s.mtime ∧ (s.modPair f).isOpen = s.isOpen ∧ (s.modPair f).isRun = s.isRun ∧
    (∀ x0 : Nat, (s.modPair f).laneUp x0 = s.laneUp x0) ∧
    (∀ x0 : Nat, (s.modPair f).lanePort x0 = s.lanePort x0) ∧
    (∀ x0 : Nat, (s.modPair f).laneK x0 = s.laneK x0) ∧
    (∀ x0 : Nat, (s.modPair f).portState x0 = s.portState x0) ∧ (s.modPair f).lanesCount = s.lanesCount ∧
    (s.modPair f).epCount = s.epCount ∧ (s.modPair f).engCount = s.engCount ∧
    (s.modPair f).timeValid = s.timeValid ∧ (s.modPair f).pinsHeld = s.pinsHeld ∧
    (s.modPair f).anchorNow = s.anchorNow ∧ (s.modPair f).timeNow = s.timeNow ∧
    (∀ x0 : Nat, (s.modPair f).ext42 x0 = s.ext42 x0) ∧
    (∀ x0 : Nat, (s.modPair f).triTheta x0 = s.triTheta x0) ∧
    (∀ x0 : Nat, (s.modPair f).avgLen x0 = s.avgLen x0) ∧ (s.modPair f).pairOn = s.pairOn ∧
    (∀ x0 x1 : Nat, (s.modPair f).load x0 x1 = s.load x0 x1) ∧ (s.modPair f).inHoldover = s.inHoldover ∧
    (s.modPair f).tracking = s.tracking ∧ (s.modPair f).merSrc = s.merSrc ∧ (s.modPair f).pNom = s.pNom ∧
    (s.modPair f).trigger = s.trigger :=
  ⟨fun _ => rfl, fun _ => rfl, fun _ => rfl, fun _ => rfl, fun _ => rfl, fun _ => rfl, fun _ => rfl, rfl,
    rfl, rfl, rfl, fun _ => rfl, fun _ => rfl, fun _ => rfl, fun _ => rfl, rfl, rfl, rfl, rfl, rfl, rfl,
    rfl, fun _ => rfl, fun _ => rfl, fun _ => rfl, rfl, fun _ _ => rfl, rfl, rfl, rfl, rfl, rfl⟩

/-- What `modMus` leaves to be read of the units. -/
@[simp] theorem modMus_units (f : Mus → Mus) (s : State) :
    (∀ x0 : Nat, (s.modMus f).tri' x0 = s.tri' x0) ∧ (∀ x0 : Nat, (s.modMus f).port x0 = s.port x0) ∧
    (∀ x0 : Nat, (s.modMus f).lane x0 = s.lane x0) ∧ (∀ x0 : Nat, (s.modMus f).dlink x0 = s.dlink x0) ∧
    (∀ x0 : Nat, (s.modMus f).queue x0 = s.queue x0) ∧ (∀ x0 : Nat, (s.modMus f).tap x0 = s.tap x0) ∧
    (s.modMus f).wframe = s.wframe ∧ (s.modMus f).mtime = s.mtime ∧ (s.modMus f).isOpen = s.isOpen ∧
    (s.modMus f).isRun = s.isRun ∧ (∀ x0 : Nat, (s.modMus f).laneUp x0 = s.laneUp x0) ∧
    (∀ x0 : Nat, (s.modMus f).lanePort x0 = s.lanePort x0) ∧
    (∀ x0 : Nat, (s.modMus f).laneK x0 = s.laneK x0) ∧
    (∀ x0 : Nat, (s.modMus f).portState x0 = s.portState x0) ∧ (s.modMus f).lanesCount = s.lanesCount ∧
    (s.modMus f).epCount = s.epCount ∧ (s.modMus f).engCount = s.engCount ∧
    (s.modMus f).timeValid = s.timeValid ∧ (s.modMus f).pinsHeld = s.pinsHeld ∧
    (s.modMus f).anchorNow = s.anchorNow ∧ (s.modMus f).timeNow = s.timeNow ∧
    (∀ x0 : Nat, (s.modMus f).ext42 x0 = s.ext42 x0) ∧
    (∀ x0 : Nat, (s.modMus f).triTheta x0 = s.triTheta x0) ∧
    (∀ x0 : Nat, (s.modMus f).avgLen x0 = s.avgLen x0) ∧ (s.modMus f).pairOn = s.pairOn ∧
    (s.modMus f).isLead = s.isLead ∧ (∀ x0 : Nat, (s.modMus f).pairThetas x0 = s.pairThetas x0) ∧
    (∀ x0 x1 : Nat, (s.modMus f).load x0 x1 = s.load x0 x1) ∧ (s.modMus f).inHoldover = s.inHoldover ∧
    (s.modMus f).tracking = s.tracking ∧ (s.modMus f).merSrc = s.merSrc ∧ (s.modMus f).pNom = s.pNom ∧
    (s.modMus f).trigger = s.trigger :=
  ⟨fun _ => rfl, fun _ => rfl, fun _ => rfl, fun _ => rfl, fun _ => rfl, fun _ => rfl, rfl, rfl, rfl, rfl,
    fun _ => rfl, fun _ => rfl, fun _ => rfl, fun _ => rfl, rfl, rfl, rfl, rfl, rfl, rfl, rfl, fun _ => rfl,
    fun _ => rfl, fun _ => rfl, rfl, rfl, fun _ => rfl, fun _ _ => rfl, rfl, rfl, rfl, rfl, rfl⟩

/-- What `modCmp` leaves to be read of the units. -/
@[simp] theorem modCmp_units (f : Cmp → Cmp) (s : State) :
    (∀ x0 : Nat, (s.modCmp f).tri' x0 = s.tri' x0) ∧ (∀ x0 : Nat, (s.modCmp f).port x0 = s.port x0) ∧
    (∀ x0 : Nat, (s.modCmp f).lane x0 = s.lane x0) ∧ (∀ x0 : Nat, (s.modCmp f).dlink x0 = s.dlink x0) ∧
    (∀ x0 : Nat, (s.modCmp f).queue x0 = s.queue x0) ∧ (∀ x0 : Nat, (s.modCmp f).prx x0 = s.prx x0) ∧
    (∀ x0 : Nat, (s.modCmp f).tap x0 = s.tap x0) ∧ (s.modCmp f).wframe = s.wframe ∧
    (s.modCmp f).mtime = s.mtime ∧ (s.modCmp f).isOpen = s.isOpen ∧ (s.modCmp f).isRun = s.isRun ∧
    (∀ x0 : Nat, (s.modCmp f).laneUp x0 = s.laneUp x0) ∧
    (∀ x0 : Nat, (s.modCmp f).lanePort x0 = s.lanePort x0) ∧
    (∀ x0 : Nat, (s.modCmp f).laneK x0 = s.laneK x0) ∧
    (∀ x0 : Nat, (s.modCmp f).portState x0 = s.portState x0) ∧ (s.modCmp f).lanesCount = s.lanesCount ∧
    (s.modCmp f).epCount = s.epCount ∧ (s.modCmp f).engCount = s.engCount ∧
    (s.modCmp f).timeValid = s.timeValid ∧ (s.modCmp f).pinsHeld = s.pinsHeld ∧
    (s.modCmp f).anchorNow = s.anchorNow ∧ (s.modCmp f).timeNow = s.timeNow ∧
    (∀ x0 : Nat, (s.modCmp f).ext42 x0 = s.ext42 x0) ∧
    (∀ x0 : Nat, (s.modCmp f).triTheta x0 = s.triTheta x0) ∧
    (∀ x0 : Nat, (s.modCmp f).avgLen x0 = s.avgLen x0) ∧ (s.modCmp f).pairOn = s.pairOn ∧
    (s.modCmp f).isLead = s.isLead ∧ (∀ x0 : Nat, (s.modCmp f).pairThetas x0 = s.pairThetas x0) ∧
    (∀ x0 x1 : Nat, (s.modCmp f).load x0 x1 = s.load x0 x1) ∧ (s.modCmp f).inHoldover = s.inHoldover ∧
    (s.modCmp f).tracking = s.tracking ∧ (s.modCmp f).merSrc = s.merSrc ∧ (s.modCmp f).pNom = s.pNom ∧
    (s.modCmp f).trigger = s.trigger :=
  ⟨fun _ => rfl, fun _ => rfl, fun _ => rfl, fun _ => rfl, fun _ => rfl, fun _ => rfl, fun _ => rfl, rfl,
    rfl, rfl, rfl, fun _ => rfl, fun _ => rfl, fun _ => rfl, fun _ => rfl, rfl, rfl, rfl, rfl, rfl, rfl,
    rfl, fun _ => rfl, fun _ => rfl, fun _ => rfl, rfl, rfl, fun _ => rfl, fun _ _ => rfl, rfl, rfl, rfl,
    rfl, rfl⟩

/-- What `modEth` leaves to be read of the units. -/
@[simp] theorem modEth_units (f : Eth → Eth) (s : State) :
    (∀ x0 : Nat, (s.modEth f).tri' x0 = s.tri' x0) ∧ (∀ x0 : Nat, (s.modEth f).port x0 = s.port x0) ∧
    (∀ x0 : Nat, (s.modEth f).lane x0 = s.lane x0) ∧ (∀ x0 : Nat, (s.modEth f).dlink x0 = s.dlink x0) ∧
    (∀ x0 : Nat, (s.modEth f).queue x0 = s.queue x0) ∧ (∀ x0 : Nat, (s.modEth f).prx x0 = s.prx x0) ∧
    (∀ x0 : Nat, (s.modEth f).tap x0 = s.tap x0) ∧ (s.modEth f).wframe = s.wframe ∧
    (s.modEth f).mtime = s.mtime ∧ (s.modEth f).isOpen = s.isOpen ∧ (s.modEth f).isRun = s.isRun ∧
    (∀ x0 : Nat, (s.modEth f).laneUp x0 = s.laneUp x0) ∧
    (∀ x0 : Nat, (s.modEth f).lanePort x0 = s.lanePort x0) ∧
    (∀ x0 : Nat, (s.modEth f).laneK x0 = s.laneK x0) ∧
    (∀ x0 : Nat, (s.modEth f).portState x0 = s.portState x0) ∧ (s.modEth f).lanesCount = s.lanesCount ∧
    (s.modEth f).epCount = s.epCount ∧ (s.modEth f).engCount = s.engCount ∧
    (s.modEth f).timeValid = s.timeValid ∧ (s.modEth f).pinsHeld = s.pinsHeld ∧
    (s.modEth f).anchorNow = s.anchorNow ∧ (s.modEth f).timeNow = s.timeNow ∧
    (∀ x0 : Nat, (s.modEth f).ext42 x0 = s.ext42 x0) ∧
    (∀ x0 : Nat, (s.modEth f).triTheta x0 = s.triTheta x0) ∧
    (∀ x0 : Nat, (s.modEth f).avgLen x0 = s.avgLen x0) ∧ (s.modEth f).pairOn = s.pairOn ∧
    (s.modEth f).isLead = s.isLead ∧ (∀ x0 : Nat, (s.modEth f).pairThetas x0 = s.pairThetas x0) ∧
    (∀ x0 x1 : Nat, (s.modEth f).load x0 x1 = s.load x0 x1) ∧ (s.modEth f).inHoldover = s.inHoldover ∧
    (s.modEth f).tracking = s.tracking ∧ (s.modEth f).merSrc = s.merSrc ∧ (s.modEth f).pNom = s.pNom ∧
    (s.modEth f).trigger = s.trigger :=
  ⟨fun _ => rfl, fun _ => rfl, fun _ => rfl, fun _ => rfl, fun _ => rfl, fun _ => rfl, fun _ => rfl, rfl,
    rfl, rfl, rfl, fun _ => rfl, fun _ => rfl, fun _ => rfl, fun _ => rfl, rfl, rfl, rfl, rfl, rfl, rfl,
    rfl, fun _ => rfl, fun _ => rfl, fun _ => rfl, rfl, rfl, fun _ => rfl, fun _ _ => rfl, rfl, rfl, rfl,
    rfl, rfl⟩

/-- What `modMems` leaves to be read of the units. -/
@[simp] theorem modMems_units (f : Mems → Mems) (s : State) :
    (∀ x0 : Nat, (s.modMems f).tri' x0 = s.tri' x0) ∧ (∀ x0 : Nat, (s.modMems f).port x0 = s.port x0) ∧
    (∀ x0 : Nat, (s.modMems f).lane x0 = s.lane x0) ∧ (∀ x0 : Nat, (s.modMems f).dlink x0 = s.dlink x0) ∧
    (∀ x0 : Nat, (s.modMems f).queue x0 = s.queue x0) ∧ (∀ x0 : Nat, (s.modMems f).prx x0 = s.prx x0) ∧
    (∀ x0 : Nat, (s.modMems f).tap x0 = s.tap x0) ∧ (s.modMems f).wframe = s.wframe ∧
    (s.modMems f).mtime = s.mtime ∧ (s.modMems f).isOpen = s.isOpen ∧ (s.modMems f).isRun = s.isRun ∧
    (∀ x0 : Nat, (s.modMems f).laneUp x0 = s.laneUp x0) ∧
    (∀ x0 : Nat, (s.modMems f).lanePort x0 = s.lanePort x0) ∧
    (∀ x0 : Nat, (s.modMems f).laneK x0 = s.laneK x0) ∧
    (∀ x0 : Nat, (s.modMems f).portState x0 = s.portState x0) ∧ (s.modMems f).lanesCount = s.lanesCount ∧
    (s.modMems f).epCount = s.epCount ∧ (s.modMems f).engCount = s.engCount ∧
    (s.modMems f).timeValid = s.timeValid ∧ (s.modMems f).pinsHeld = s.pinsHeld ∧
    (s.modMems f).anchorNow = s.anchorNow ∧ (s.modMems f).timeNow = s.timeNow ∧
    (∀ x0 : Nat, (s.modMems f).ext42 x0 = s.ext42 x0) ∧
    (∀ x0 : Nat, (s.modMems f).triTheta x0 = s.triTheta x0) ∧
    (∀ x0 : Nat, (s.modMems f).avgLen x0 = s.avgLen x0) ∧ (s.modMems f).pairOn = s.pairOn ∧
    (s.modMems f).isLead = s.isLead ∧ (∀ x0 : Nat, (s.modMems f).pairThetas x0 = s.pairThetas x0) ∧
    (∀ x0 x1 : Nat, (s.modMems f).load x0 x1 = s.load x0 x1) ∧ (s.modMems f).inHoldover = s.inHoldover ∧
    (s.modMems f).tracking = s.tracking ∧ (s.modMems f).merSrc = s.merSrc ∧ (s.modMems f).pNom = s.pNom ∧
    (s.modMems f).trigger = s.trigger :=
  ⟨fun _ => rfl, fun _ => rfl, fun _ => rfl, fun _ => rfl, fun _ => rfl, fun _ => rfl, fun _ => rfl, rfl,
    rfl, rfl, rfl, fun _ => rfl, fun _ => rfl, fun _ => rfl, fun _ => rfl, rfl, rfl, rfl, rfl, rfl, rfl,
    rfl, fun _ => rfl, fun _ => rfl, fun _ => rfl, rfl, rfl, fun _ => rfl, fun _ _ => rfl, rfl, rfl, rfl,
    rfl, rfl⟩

/-- What `modCan` leaves to be read of the units. -/
@[simp] theorem modCan_units (f : Can → Can) (s : State) :
    (∀ x0 : Nat, (s.modCan f).tri' x0 = s.tri' x0) ∧ (∀ x0 : Nat, (s.modCan f).port x0 = s.port x0) ∧
    (∀ x0 : Nat, (s.modCan f).lane x0 = s.lane x0) ∧ (∀ x0 : Nat, (s.modCan f).dlink x0 = s.dlink x0) ∧
    (∀ x0 : Nat, (s.modCan f).queue x0 = s.queue x0) ∧ (∀ x0 : Nat, (s.modCan f).prx x0 = s.prx x0) ∧
    (∀ x0 : Nat, (s.modCan f).tap x0 = s.tap x0) ∧ (s.modCan f).wframe = s.wframe ∧
    (s.modCan f).mtime = s.mtime ∧ (s.modCan f).isOpen = s.isOpen ∧ (s.modCan f).isRun = s.isRun ∧
    (∀ x0 : Nat, (s.modCan f).laneUp x0 = s.laneUp x0) ∧
    (∀ x0 : Nat, (s.modCan f).lanePort x0 = s.lanePort x0) ∧
    (∀ x0 : Nat, (s.modCan f).laneK x0 = s.laneK x0) ∧
    (∀ x0 : Nat, (s.modCan f).portState x0 = s.portState x0) ∧ (s.modCan f).lanesCount = s.lanesCount ∧
    (s.modCan f).epCount = s.epCount ∧ (s.modCan f).engCount = s.engCount ∧
    (s.modCan f).timeValid = s.timeValid ∧ (s.modCan f).pinsHeld = s.pinsHeld ∧
    (s.modCan f).anchorNow = s.anchorNow ∧ (s.modCan f).timeNow = s.timeNow ∧
    (∀ x0 : Nat, (s.modCan f).ext42 x0 = s.ext42 x0) ∧
    (∀ x0 : Nat, (s.modCan f).triTheta x0 = s.triTheta x0) ∧
    (∀ x0 : Nat, (s.modCan f).avgLen x0 = s.avgLen x0) ∧ (s.modCan f).pairOn = s.pairOn ∧
    (s.modCan f).isLead = s.isLead ∧ (∀ x0 : Nat, (s.modCan f).pairThetas x0 = s.pairThetas x0) ∧
    (∀ x0 x1 : Nat, (s.modCan f).load x0 x1 = s.load x0 x1) ∧ (s.modCan f).inHoldover = s.inHoldover ∧
    (s.modCan f).tracking = s.tracking ∧ (s.modCan f).merSrc = s.merSrc ∧ (s.modCan f).pNom = s.pNom ∧
    (s.modCan f).trigger = s.trigger :=
  ⟨fun _ => rfl, fun _ => rfl, fun _ => rfl, fun _ => rfl, fun _ => rfl, fun _ => rfl, fun _ => rfl, rfl,
    rfl, rfl, rfl, fun _ => rfl, fun _ => rfl, fun _ => rfl, fun _ => rfl, rfl, rfl, rfl, rfl, rfl, rfl,
    rfl, fun _ => rfl, fun _ => rfl, fun _ => rfl, rfl, rfl, fun _ => rfl, fun _ _ => rfl, rfl, rfl, rfl,
    rfl, rfl⟩

/-- What `modGov` leaves to be read of the units. -/
@[simp] theorem modGov_units (f : Gov → Gov) (s : State) :
    (∀ x0 : Nat, (s.modGov f).tri' x0 = s.tri' x0) ∧ (∀ x0 : Nat, (s.modGov f).port x0 = s.port x0) ∧
    (∀ x0 : Nat, (s.modGov f).lane x0 = s.lane x0) ∧ (∀ x0 : Nat, (s.modGov f).dlink x0 = s.dlink x0) ∧
    (∀ x0 : Nat, (s.modGov f).queue x0 = s.queue x0) ∧ (∀ x0 : Nat, (s.modGov f).prx x0 = s.prx x0) ∧
    (∀ x0 : Nat, (s.modGov f).tap x0 = s.tap x0) ∧ (s.modGov f).wframe = s.wframe ∧
    (s.modGov f).mtime = s.mtime ∧ (s.modGov f).isOpen = s.isOpen ∧ (s.modGov f).isRun = s.isRun ∧
    (∀ x0 : Nat, (s.modGov f).laneUp x0 = s.laneUp x0) ∧
    (∀ x0 : Nat, (s.modGov f).lanePort x0 = s.lanePort x0) ∧
    (∀ x0 : Nat, (s.modGov f).laneK x0 = s.laneK x0) ∧
    (∀ x0 : Nat, (s.modGov f).portState x0 = s.portState x0) ∧ (s.modGov f).lanesCount = s.lanesCount ∧
    (s.modGov f).epCount = s.epCount ∧ (s.modGov f).engCount = s.engCount ∧
    (s.modGov f).timeValid = s.timeValid ∧ (s.modGov f).pinsHeld = s.pinsHeld ∧
    (s.modGov f).anchorNow = s.anchorNow ∧ (s.modGov f).timeNow = s.timeNow ∧
    (∀ x0 : Nat, (s.modGov f).ext42 x0 = s.ext42 x0) ∧
    (∀ x0 : Nat, (s.modGov f).triTheta x0 = s.triTheta x0) ∧
    (∀ x0 : Nat, (s.modGov f).avgLen x0 = s.avgLen x0) ∧ (s.modGov f).pairOn = s.pairOn ∧
    (s.modGov f).isLead = s.isLead ∧ (∀ x0 : Nat, (s.modGov f).pairThetas x0 = s.pairThetas x0) ∧
    (∀ x0 x1 : Nat, (s.modGov f).load x0 x1 = s.load x0 x1) ∧ (s.modGov f).inHoldover = s.inHoldover ∧
    (s.modGov f).tracking = s.tracking ∧ (s.modGov f).merSrc = s.merSrc ∧ (s.modGov f).pNom = s.pNom ∧
    (s.modGov f).trigger = s.trigger :=
  ⟨fun _ => rfl, fun _ => rfl, fun _ => rfl, fun _ => rfl, fun _ => rfl, fun _ => rfl, fun _ => rfl, rfl,
    rfl, rfl, rfl, fun _ => rfl, fun _ => rfl, fun _ => rfl, fun _ => rfl, rfl, rfl, rfl, rfl, rfl, rfl,
    rfl, fun _ => rfl, fun _ => rfl, fun _ => rfl, rfl, rfl, fun _ => rfl, fun _ _ => rfl, rfl, rfl, rfl,
    rfl, rfl⟩

/-- What `modSys` leaves to be read of the units. -/
@[simp] theorem modSys_units (f : Sys → Sys) (s : State) :
    (∀ x0 : Nat, (s.modSys f).tri' x0 = s.tri' x0) ∧ (∀ x0 : Nat, (s.modSys f).port x0 = s.port x0) ∧
    (∀ x0 : Nat, (s.modSys f).lane x0 = s.lane x0) ∧ (∀ x0 : Nat, (s.modSys f).dlink x0 = s.dlink x0) ∧
    (∀ x0 : Nat, (s.modSys f).queue x0 = s.queue x0) ∧ (∀ x0 : Nat, (s.modSys f).prx x0 = s.prx x0) ∧
    (∀ x0 : Nat, (s.modSys f).tap x0 = s.tap x0) ∧ (s.modSys f).wframe = s.wframe ∧
    (s.modSys f).mtime = s.mtime ∧ (s.modSys f).isOpen = s.isOpen ∧ (s.modSys f).isRun = s.isRun ∧
    (∀ x0 : Nat, (s.modSys f).laneUp x0 = s.laneUp x0) ∧
    (∀ x0 : Nat, (s.modSys f).lanePort x0 = s.lanePort x0) ∧
    (∀ x0 : Nat, (s.modSys f).laneK x0 = s.laneK x0) ∧
    (∀ x0 : Nat, (s.modSys f).portState x0 = s.portState x0) ∧ (s.modSys f).lanesCount = s.lanesCount ∧
    (s.modSys f).epCount = s.epCount ∧ (s.modSys f).engCount = s.engCount ∧
    (s.modSys f).timeValid = s.timeValid ∧ (s.modSys f).pinsHeld = s.pinsHeld ∧
    (s.modSys f).anchorNow = s.anchorNow ∧ (s.modSys f).timeNow = s.timeNow ∧
    (∀ x0 : Nat, (s.modSys f).ext42 x0 = s.ext42 x0) ∧
    (∀ x0 : Nat, (s.modSys f).triTheta x0 = s.triTheta x0) ∧
    (∀ x0 : Nat, (s.modSys f).avgLen x0 = s.avgLen x0) ∧ (s.modSys f).pairOn = s.pairOn ∧
    (s.modSys f).isLead = s.isLead ∧ (∀ x0 : Nat, (s.modSys f).pairThetas x0 = s.pairThetas x0) ∧
    (∀ x0 x1 : Nat, (s.modSys f).load x0 x1 = s.load x0 x1) ∧ (s.modSys f).inHoldover = s.inHoldover ∧
    (s.modSys f).tracking = s.tracking ∧ (s.modSys f).merSrc = s.merSrc ∧ (s.modSys f).pNom = s.pNom ∧
    (s.modSys f).trigger = s.trigger :=
  ⟨fun _ => rfl, fun _ => rfl, fun _ => rfl, fun _ => rfl, fun _ => rfl, fun _ => rfl, fun _ => rfl, rfl,
    rfl, rfl, rfl, fun _ => rfl, fun _ => rfl, fun _ => rfl, fun _ => rfl, rfl, rfl, rfl, rfl, rfl, rfl,
    rfl, fun _ => rfl, fun _ => rfl, fun _ => rfl, rfl, rfl, fun _ => rfl, fun _ _ => rfl, rfl, rfl, rfl,
    rfl, rfl⟩

/-- What `modMbx` leaves to be read of the units. -/
@[simp] theorem modMbx_units (f : Mbx → Mbx) (s : State) :
    (∀ x0 : Nat, (s.modMbx f).tri' x0 = s.tri' x0) ∧ (∀ x0 : Nat, (s.modMbx f).port x0 = s.port x0) ∧
    (∀ x0 : Nat, (s.modMbx f).lane x0 = s.lane x0) ∧ (∀ x0 : Nat, (s.modMbx f).dlink x0 = s.dlink x0) ∧
    (∀ x0 : Nat, (s.modMbx f).queue x0 = s.queue x0) ∧ (∀ x0 : Nat, (s.modMbx f).prx x0 = s.prx x0) ∧
    (∀ x0 : Nat, (s.modMbx f).tap x0 = s.tap x0) ∧ (s.modMbx f).wframe = s.wframe ∧
    (s.modMbx f).mtime = s.mtime ∧ (s.modMbx f).isOpen = s.isOpen ∧ (s.modMbx f).isRun = s.isRun ∧
    (∀ x0 : Nat, (s.modMbx f).laneUp x0 = s.laneUp x0) ∧
    (∀ x0 : Nat, (s.modMbx f).lanePort x0 = s.lanePort x0) ∧
    (∀ x0 : Nat, (s.modMbx f).laneK x0 = s.laneK x0) ∧
    (∀ x0 : Nat, (s.modMbx f).portState x0 = s.portState x0) ∧ (s.modMbx f).lanesCount = s.lanesCount ∧
    (s.modMbx f).epCount = s.epCount ∧ (s.modMbx f).engCount = s.engCount ∧
    (s.modMbx f).timeValid = s.timeValid ∧ (s.modMbx f).pinsHeld = s.pinsHeld ∧
    (s.modMbx f).anchorNow = s.anchorNow ∧ (s.modMbx f).timeNow = s.timeNow ∧
    (∀ x0 : Nat, (s.modMbx f).ext42 x0 = s.ext42 x0) ∧
    (∀ x0 : Nat, (s.modMbx f).triTheta x0 = s.triTheta x0) ∧
    (∀ x0 : Nat, (s.modMbx f).avgLen x0 = s.avgLen x0) ∧ (s.modMbx f).pairOn = s.pairOn ∧
    (s.modMbx f).isLead = s.isLead ∧ (∀ x0 : Nat, (s.modMbx f).pairThetas x0 = s.pairThetas x0) ∧
    (∀ x0 x1 : Nat, (s.modMbx f).load x0 x1 = s.load x0 x1) ∧ (s.modMbx f).inHoldover = s.inHoldover ∧
    (s.modMbx f).tracking = s.tracking ∧ (s.modMbx f).merSrc = s.merSrc ∧ (s.modMbx f).pNom = s.pNom ∧
    (s.modMbx f).trigger = s.trigger :=
  ⟨fun _ => rfl, fun _ => rfl, fun _ => rfl, fun _ => rfl, fun _ => rfl, fun _ => rfl, fun _ => rfl, rfl,
    rfl, rfl, rfl, fun _ => rfl, fun _ => rfl, fun _ => rfl, fun _ => rfl, rfl, rfl, rfl, rfl, rfl, rfl,
    rfl, fun _ => rfl, fun _ => rfl, fun _ => rfl, rfl, rfl, fun _ => rfl, fun _ _ => rfl, rfl, rfl, rfl,
    rfl, rfl⟩

/-- What `modEnv` leaves to be read of the units. -/
@[simp] theorem modEnv_units (f : Env → Env) (s : State) :
    (∀ x0 : Nat, (s.modEnv f).tri' x0 = s.tri' x0) ∧ (∀ x0 : Nat, (s.modEnv f).port x0 = s.port x0) ∧
    (∀ x0 : Nat, (s.modEnv f).lane x0 = s.lane x0) ∧ (∀ x0 : Nat, (s.modEnv f).dlink x0 = s.dlink x0) ∧
    (∀ x0 : Nat, (s.modEnv f).queue x0 = s.queue x0) ∧ (∀ x0 : Nat, (s.modEnv f).prx x0 = s.prx x0) ∧
    (∀ x0 : Nat, (s.modEnv f).tap x0 = s.tap x0) ∧ (s.modEnv f).wframe = s.wframe ∧
    (s.modEnv f).mtime = s.mtime ∧ (s.modEnv f).isOpen = s.isOpen ∧ (s.modEnv f).isRun = s.isRun ∧
    (∀ x0 : Nat, (s.modEnv f).laneUp x0 = s.laneUp x0) ∧
    (∀ x0 : Nat, (s.modEnv f).lanePort x0 = s.lanePort x0) ∧
    (∀ x0 : Nat, (s.modEnv f).laneK x0 = s.laneK x0) ∧
    (∀ x0 : Nat, (s.modEnv f).portState x0 = s.portState x0) ∧ (s.modEnv f).lanesCount = s.lanesCount ∧
    (s.modEnv f).epCount = s.epCount ∧ (s.modEnv f).engCount = s.engCount ∧
    (s.modEnv f).timeValid = s.timeValid ∧ (s.modEnv f).pinsHeld = s.pinsHeld ∧
    (s.modEnv f).anchorNow = s.anchorNow ∧ (s.modEnv f).timeNow = s.timeNow ∧
    (∀ x0 : Nat, (s.modEnv f).ext42 x0 = s.ext42 x0) ∧
    (∀ x0 : Nat, (s.modEnv f).triTheta x0 = s.triTheta x0) ∧
    (∀ x0 : Nat, (s.modEnv f).avgLen x0 = s.avgLen x0) ∧ (s.modEnv f).pairOn = s.pairOn ∧
    (s.modEnv f).isLead = s.isLead ∧ (∀ x0 : Nat, (s.modEnv f).pairThetas x0 = s.pairThetas x0) ∧
    (∀ x0 x1 : Nat, (s.modEnv f).load x0 x1 = s.load x0 x1) ∧ (s.modEnv f).inHoldover = s.inHoldover ∧
    (s.modEnv f).tracking = s.tracking ∧ (s.modEnv f).merSrc = s.merSrc ∧ (s.modEnv f).pNom = s.pNom ∧
    (s.modEnv f).trigger = s.trigger :=
  ⟨fun _ => rfl, fun _ => rfl, fun _ => rfl, fun _ => rfl, fun _ => rfl, fun _ => rfl, fun _ => rfl, rfl,
    rfl, rfl, rfl, fun _ => rfl, fun _ => rfl, fun _ => rfl, fun _ => rfl, rfl, rfl, rfl, rfl, rfl, rfl,
    rfl, fun _ => rfl, fun _ => rfl, fun _ => rfl, rfl, rfl, fun _ => rfl, fun _ _ => rfl, rfl, rfl, rfl,
    rfl, rfl⟩

/-- What `modPwr` leaves to be read of the units. -/
@[simp] theorem modPwr_units (f : Pwr → Pwr) (s : State) :
    (∀ x0 : Nat, (s.modPwr f).tri' x0 = s.tri' x0) ∧ (∀ x0 : Nat, (s.modPwr f).port x0 = s.port x0) ∧
    (∀ x0 : Nat, (s.modPwr f).lane x0 = s.lane x0) ∧ (∀ x0 : Nat, (s.modPwr f).dlink x0 = s.dlink x0) ∧
    (∀ x0 : Nat, (s.modPwr f).queue x0 = s.queue x0) ∧ (∀ x0 : Nat, (s.modPwr f).prx x0 = s.prx x0) ∧
    (∀ x0 : Nat, (s.modPwr f).tap x0 = s.tap x0) ∧ (s.modPwr f).wframe = s.wframe ∧
    (s.modPwr f).mtime = s.mtime ∧ (s.modPwr f).isOpen = s.isOpen ∧ (s.modPwr f).isRun = s.isRun ∧
    (∀ x0 : Nat, (s.modPwr f).laneUp x0 = s.laneUp x0) ∧
    (∀ x0 : Nat, (s.modPwr f).lanePort x0 = s.lanePort x0) ∧
    (∀ x0 : Nat, (s.modPwr f).laneK x0 = s.laneK x0) ∧
    (∀ x0 : Nat, (s.modPwr f).portState x0 = s.portState x0) ∧ (s.modPwr f).lanesCount = s.lanesCount ∧
    (s.modPwr f).epCount = s.epCount ∧ (s.modPwr f).engCount = s.engCount ∧
    (s.modPwr f).timeValid = s.timeValid ∧ (s.modPwr f).pinsHeld = s.pinsHeld ∧
    (s.modPwr f).anchorNow = s.anchorNow ∧ (s.modPwr f).timeNow = s.timeNow ∧
    (∀ x0 : Nat, (s.modPwr f).ext42 x0 = s.ext42 x0) ∧
    (∀ x0 : Nat, (s.modPwr f).triTheta x0 = s.triTheta x0) ∧
    (∀ x0 : Nat, (s.modPwr f).avgLen x0 = s.avgLen x0) ∧ (s.modPwr f).pairOn = s.pairOn ∧
    (s.modPwr f).isLead = s.isLead ∧ (∀ x0 : Nat, (s.modPwr f).pairThetas x0 = s.pairThetas x0) ∧
    (∀ x0 x1 : Nat, (s.modPwr f).load x0 x1 = s.load x0 x1) ∧ (s.modPwr f).inHoldover = s.inHoldover ∧
    (s.modPwr f).tracking = s.tracking ∧ (s.modPwr f).merSrc = s.merSrc ∧ (s.modPwr f).pNom = s.pNom ∧
    (s.modPwr f).trigger = s.trigger :=
  ⟨fun _ => rfl, fun _ => rfl, fun _ => rfl, fun _ => rfl, fun _ => rfl, fun _ => rfl, fun _ => rfl, rfl,
    rfl, rfl, rfl, fun _ => rfl, fun _ => rfl, fun _ => rfl, fun _ => rfl, rfl, rfl, rfl, rfl, rfl, rfl,
    rfl, fun _ => rfl, fun _ => rfl, fun _ => rfl, rfl, rfl, fun _ => rfl, fun _ _ => rfl, rfl, rfl, rfl,
    rfl, rfl⟩

/-- What `modDbg` leaves to be read of the units. -/
@[simp] theorem modDbg_units (f : Dbg → Dbg) (s : State) :
    (∀ x0 : Nat, (s.modDbg f).tri' x0 = s.tri' x0) ∧ (∀ x0 : Nat, (s.modDbg f).port x0 = s.port x0) ∧
    (∀ x0 : Nat, (s.modDbg f).lane x0 = s.lane x0) ∧ (∀ x0 : Nat, (s.modDbg f).dlink x0 = s.dlink x0) ∧
    (∀ x0 : Nat, (s.modDbg f).queue x0 = s.queue x0) ∧ (∀ x0 : Nat, (s.modDbg f).prx x0 = s.prx x0) ∧
    (∀ x0 : Nat, (s.modDbg f).tap x0 = s.tap x0) ∧ (s.modDbg f).wframe = s.wframe ∧
    (s.modDbg f).mtime = s.mtime ∧ (s.modDbg f).isOpen = s.isOpen ∧ (s.modDbg f).isRun = s.isRun ∧
    (∀ x0 : Nat, (s.modDbg f).laneUp x0 = s.laneUp x0) ∧
    (∀ x0 : Nat, (s.modDbg f).lanePort x0 = s.lanePort x0) ∧
    (∀ x0 : Nat, (s.modDbg f).laneK x0 = s.laneK x0) ∧
    (∀ x0 : Nat, (s.modDbg f).portState x0 = s.portState x0) ∧ (s.modDbg f).lanesCount = s.lanesCount ∧
    (s.modDbg f).epCount = s.epCount ∧ (s.modDbg f).engCount = s.engCount ∧
    (s.modDbg f).timeValid = s.timeValid ∧ (s.modDbg f).pinsHeld = s.pinsHeld ∧
    (s.modDbg f).anchorNow = s.anchorNow ∧ (s.modDbg f).timeNow = s.timeNow ∧
    (∀ x0 : Nat, (s.modDbg f).ext42 x0 = s.ext42 x0) ∧
    (∀ x0 : Nat, (s.modDbg f).triTheta x0 = s.triTheta x0) ∧
    (∀ x0 : Nat, (s.modDbg f).avgLen x0 = s.avgLen x0) ∧ (s.modDbg f).pairOn = s.pairOn ∧
    (s.modDbg f).isLead = s.isLead ∧ (∀ x0 : Nat, (s.modDbg f).pairThetas x0 = s.pairThetas x0) ∧
    (∀ x0 x1 : Nat, (s.modDbg f).load x0 x1 = s.load x0 x1) ∧ (s.modDbg f).inHoldover = s.inHoldover ∧
    (s.modDbg f).tracking = s.tracking ∧ (s.modDbg f).merSrc = s.merSrc ∧ (s.modDbg f).pNom = s.pNom ∧
    (s.modDbg f).trigger = s.trigger :=
  ⟨fun _ => rfl, fun _ => rfl, fun _ => rfl, fun _ => rfl, fun _ => rfl, fun _ => rfl, fun _ => rfl, rfl,
    rfl, rfl, rfl, fun _ => rfl, fun _ => rfl, fun _ => rfl, fun _ => rfl, rfl, rfl, rfl, rfl, rfl, rfl,
    rfl, fun _ => rfl, fun _ => rfl, fun _ => rfl, rfl, rfl, fun _ => rfl, fun _ _ => rfl, rfl, rfl, rfl,
    rfl, rfl⟩

/-- What `modCore` leaves to be read of the units. -/
@[simp] theorem modCore_units (n : Nat) (f : Core → Core) (s : State) :
    (∀ x0 : Nat, (s.modCore n f).tri' x0 = s.tri' x0) ∧ (∀ x0 : Nat, (s.modCore n f).port x0 = s.port x0) ∧
    (∀ x0 : Nat, (s.modCore n f).lane x0 = s.lane x0) ∧ (∀ x0 : Nat, (s.modCore n f).dlink x0 = s.dlink x0) ∧
    (∀ x0 : Nat, (s.modCore n f).queue x0 = s.queue x0) ∧ (∀ x0 : Nat, (s.modCore n f).prx x0 = s.prx x0) ∧
    (∀ x0 : Nat, (s.modCore n f).tap x0 = s.tap x0) ∧ (s.modCore n f).wframe = s.wframe ∧
    (s.modCore n f).mtime = s.mtime ∧ (s.modCore n f).isOpen = s.isOpen ∧ (s.modCore n f).isRun = s.isRun ∧
    (∀ x0 : Nat, (s.modCore n f).laneUp x0 = s.laneUp x0) ∧
    (∀ x0 : Nat, (s.modCore n f).lanePort x0 = s.lanePort x0) ∧
    (∀ x0 : Nat, (s.modCore n f).laneK x0 = s.laneK x0) ∧
    (∀ x0 : Nat, (s.modCore n f).portState x0 = s.portState x0) ∧ (s.modCore n f).lanesCount = s.lanesCount ∧
    (s.modCore n f).epCount = s.epCount ∧ (s.modCore n f).engCount = s.engCount ∧
    (s.modCore n f).timeValid = s.timeValid ∧ (s.modCore n f).pinsHeld = s.pinsHeld ∧
    (s.modCore n f).anchorNow = s.anchorNow ∧ (s.modCore n f).timeNow = s.timeNow ∧
    (∀ x0 : Nat, (s.modCore n f).ext42 x0 = s.ext42 x0) ∧
    (∀ x0 : Nat, (s.modCore n f).triTheta x0 = s.triTheta x0) ∧
    (∀ x0 : Nat, (s.modCore n f).avgLen x0 = s.avgLen x0) ∧ (s.modCore n f).pairOn = s.pairOn ∧
    (s.modCore n f).isLead = s.isLead ∧ (∀ x0 : Nat, (s.modCore n f).pairThetas x0 = s.pairThetas x0) ∧
    (∀ x0 x1 : Nat, (s.modCore n f).load x0 x1 = s.load x0 x1) ∧ (s.modCore n f).inHoldover = s.inHoldover ∧
    (s.modCore n f).tracking = s.tracking ∧ (s.modCore n f).merSrc = s.merSrc ∧
    (s.modCore n f).pNom = s.pNom ∧ (s.modCore n f).trigger = s.trigger :=
  ⟨fun _ => rfl, fun _ => rfl, fun _ => rfl, fun _ => rfl, fun _ => rfl, fun _ => rfl, fun _ => rfl, rfl,
    rfl, rfl, rfl, fun _ => rfl, fun _ => rfl, fun _ => rfl, fun _ => rfl, rfl, rfl, rfl, rfl, rfl, rfl,
    rfl, fun _ => rfl, fun _ => rfl, fun _ => rfl, rfl, rfl, fun _ => rfl, fun _ _ => rfl, rfl, rfl, rfl,
    rfl, rfl⟩

/-- The changed triangulation is read. -/
@[simp] theorem tri_modTri_self (p : Nat) (f : Tri → Tri) (s : State) : (s.modTri p f).tri' p = f (s.tri' p) :=
  SMap.getD_modify_self ..

/-- The others stay. -/
theorem tri_modTri_other {p q : Nat} (h : q ≠ p) (f : Tri → Tri) (s : State) :
    (s.modTri p f).tri' q = s.tri' q :=
  SMap.getD_modify_other h ..

/-- The changed port is read. -/
@[simp] theorem port_modPort_self (p : Nat) (f : Port → Port) (s : State) : (s.modPort p f).port p = f (s.port p) :=
  SMap.getD_modify_self ..

/-- The others stay. -/
theorem port_modPort_other {p q : Nat} (h : q ≠ p) (f : Port → Port) (s : State) :
    (s.modPort p f).port q = s.port q :=
  SMap.getD_modify_other h ..

/-- The changed lane is read. -/
@[simp] theorem lane_modLane_self (p : Nat) (f : Lane → Lane) (s : State) : (s.modLane p f).lane p = f (s.lane p) :=
  SMap.getD_modify_self ..

/-- The others stay. -/
theorem lane_modLane_other {p q : Nat} (h : q ≠ p) (f : Lane → Lane) (s : State) :
    (s.modLane p f).lane q = s.lane q :=
  SMap.getD_modify_other h ..

/-- The changed downlink is read. -/
@[simp] theorem dlink_modDlink_self (p : Nat) (f : Dlink → Dlink) (s : State) : (s.modDlink p f).dlink p = f (s.dlink p) :=
  SMap.getD_modify_self ..

/-- The others stay. -/
theorem dlink_modDlink_other {p q : Nat} (h : q ≠ p) (f : Dlink → Dlink) (s : State) :
    (s.modDlink p f).dlink q = s.dlink q :=
  SMap.getD_modify_other h ..

/-- The changed receiver is read. -/
@[simp] theorem prx_modPrx_self (p : Nat) (f : PortRx → PortRx) (s : State) : (s.modPrx p f).prx p = f (s.prx p) :=
  SMap.getD_modify_self ..

/-- The others stay. -/
theorem prx_modPrx_other {p q : Nat} (h : q ≠ p) (f : PortRx → PortRx) (s : State) :
    (s.modPrx p f).prx q = s.prx q :=
  SMap.getD_modify_other h ..

end State

end Sys2Proof.Machine
end

