-- ==== Sys2Proof/Tests/Slice0.lean ====
section
/-! SUPPORT. Small tests of the checks and of the commands, and for every statement with hypotheses a state that meets
them. -/

open Sys2Proof Sys2Proof.Machine

/-- The state after reset with some register fields of Tladon 0 set and one further change of it. -/
def tl (l : List (Fld × Nat)) (f : Tladon → Tladon := id) : State :=
  State.reset.modTl 0 fun t => (f t).sets l

/-- A leading edge at tick 0. -/
def edge0 : Edge := ⟨0, 0, 0, 0, false, false, 0, 0, false⟩

/-- A gate of 1,024 ticks that opened at tick 0. -/
def gate0 : Gate := ⟨0, 0, 1024, 4, 0, 0, [], none, false, false, false⟩

/-- A capture of 16 samples that is frozen at tick 0. -/
def cap0 : Capture := ⟨0, 0, 2, 0, 0, 8, 8, false, false, false, false, false, false, 0, 0, 0xFFFF⟩

/-- Tladon 0 powered in a state, obeying downlink A, with both downlinks in cell lock. -/
def dlk (st : Nat) : State :=
  tl [(TR.ID_STATE_STATE, st), (TR.LINK_STATUS_LOCK_A, 1), (TR.LINK_STATUS_LOCK_B, 1)] fun t =>
    { t with powered := true, obeyed := some false, ups := [Uplink.start, Uplink.start, Uplink.start, Uplink.start],
             dls := [Downlink.idle, Downlink.idle] }


/-- The state after reset with some register fields of Wonan set. -/
def wn (l : List (Fld × Nat)) : State := State.reset.wsets l

/-- Tick 70,100 with lane 0 locked and marker 3 of port 0 awaited since `dep`. -/
def triW (dep : Nat) (l : List (Fld × Nat)) : State :=
  { (wn ((WR.ING_LANE_STATUS_STATE 0, 3) :: l)).modTri 0 fun t => { t with sent := [(3, dep)] } with now := 70100 }

/-- A state in which a shifted second begins. -/
def ppsW : State :=
  { wn [(WR.MER_PPS_CTRL_OUT_EN, 1), (WR.MER_STATUS_TIME_VALID, 1)] with now := 1280000000 }

/-- An open section of port 0 that holds a descriptor. -/
def sec0 : Sec := ⟨0, 0, 0, [], true, true, 0⟩

/-- An event of slot 0 with the given sections. -/
def ev0 (l : List Sec) : Ev := ⟨0, 0, 0, 0, 0, 0, 0, 0, l, [], false, true⟩

/-- Lane 0 locked, events being built in a mode, one open event with one section, a fragment of it on uplink 0. -/
def musW (mode : Nat) (k : Option Int) (l : List (Fld × Nat)) : State :=
  ((wn ([(WR.ING_LANE_STATUS_STATE 0, 3), (WR.MUS_STATUS_BUILDING, 1), (WR.MUS_CFG_MODE, mode)] ++ l)).modMus fun m => { m with
    evs := [ev0 [sec0]] }).modPrx 0 fun r => { r with frag := [(0, ⟨k, 0, 0, 0, 0, false⟩)] }

/-- Queue 12 full. -/
def full12 : Queue := ⟨List.replicate 127 ⟨0, true, false⟩, 0, 0, false, false, []⟩

/-- A record in compression with a body. -/
def job0 (b : List Nat) : CmpJob := ⟨0, 0, b, false, false, false, false⟩

/-- The packed bytes are at most the fuel. -/
theorem packBits_length : ∀ (n : Nat) (l : List Bool), (packBits n l).length ≤ n
  | 0, _ => by simp [packBits]
  | n + 1, [] => by simp [packBits]
  | n + 1, b :: l => by simp [packBits, packBits_length n]

/-- Whatever the dynamic code, the form of an empty body is no longer than its stored form. -/
theorem test_form_of_empty_body (s : State) : (s.formOf (job0 [])).length ≤ storedSize 0 := by
  have h : ∀ n m : Nat, (codeBlock true (tokens [].toArray s.chainMax s.niceLen (s.won WR.CMP_CTRL_LAZY) 0 n m)).length ≤ 10 := by
    intro n m
    have e : tokens [].toArray s.chainMax s.niceLen (s.won WR.CMP_CTRL_LAZY) 0 n m = [] := by
      cases n <;> simp [tokens]
    rw [e]
    unfold codeBlock
    dsimp only
    have : (fixedBlock true []).length = 10 := rfl
    split <;> omega
  unfold State.formOf
  rw [show State.wordBytes (if (job0 []).pre then precode (job0 []).body else (job0 []).body) = [] from rfl]
  unfold deflate
  dsimp only
  refine Nat.le_trans (packBits_length _ _) ?_
  refine Nat.le_trans (Nat.succ_le_succ (Nat.div_le_div_right (c := 8) (b := 10) ?_)) (by decide)
  rw [show max 1 ((([] : List Nat).length + 16383) / 16384) = 1 from rfl, show List.range 1 = [0] from rfl]
  simp only [List.map_cons, List.map_nil, List.flatten_cons, List.flatten_nil, List.append_nil, List.length_nil, Nat.zero_min]
  exact h _ _

/-- A valid image of 64 bytes with an event and an egress partition. -/
def goodImage : List Nat :=
  [197, 163, 1, 1, 0, 0, 0, 7, 0, 0, 0, 64, 0, 1, 0, 0, 0, 0, 0, 0, 0, 0, 0, 0, 0, 0, 0, 0, 0, 0, 0, 0] ++
  [3, 0, 0, 0, 0, 0, 0, 16, 2, 0, 0, 0, 0, 128, 0, 0, 4, 0, 0, 128, 0, 16, 0, 0, 94, 161, 197, 163, 86, 6, 17, 112]

/-- A posted item of task 1 at level 3. -/
def item3 : Item := ⟨1, false, false, none, 3, false, 0, 3, 0, 0, 0, 0, [], 32⟩

/-- Core CC1 enabled and free, one item of task 1 waiting at level 3. -/
def loneW : State :=
  (wn [(WR.SCH_C_CTRL_EN 0, 1), (WR.SCH_C_CTRL_EN 1, 0), (WR.SCH_C_CTRL_EN 2, 0), (WR.SCH_C_CTRL_EN 3, 0), (WR.SCH_T_CFG_EN 1, 1),
    (WR.SCH_T_CFG_CORES 1, 15), (WR.SCH_CTRL_AGE_MS, 1), (WR.SCH_T_CFG_CEIL 1, 15)]).modSch fun x => { x with
      chip := x.chip.mapIdx fun k q => if k = 3 then [item3] else q }

/-! An ill-formed term for each check: one operand past its range, the others within theirs. -/

/-- Ill-formed commands, part 1. -/
theorem test_wf_refuses_1 : (
    [.tladonPllLock 48, .tladonPllLockLost 48, .epoch 48 false 0, .epoch 0 false (2 ^ 42), .epochTakeEffect 48,
      .markerSend 48, .triStampRx 48 false 0 0 0, .triStampRx 0 false 16 0 0, .triStampRx 0 false 0 (2 ^ 42) 0,
      .triStampRx 0 false 0 0 (2 ^ 8), .triStampMissed 48 0, .triStampMissed 0 16, .triCtrlWrite 48 0,
      .triCtrlWrite 0 (2 ^ 32), .triAlphaWrite 48 0, .triAlphaWrite 0 (2 ^ 32), .triKdownWrite 48 0,
      .triKdownWrite 0 (2 ^ 32), .triKupWrite 48 0, .triKupWrite 0 (2 ^ 32), .hitWordRx 48 0 false,
      .hitWordRx 0 (2 ^ 64) false, .wonanFrameBoundary (2 ^ 32) 0 0, .wonanFrameBoundary 0 (2 ^ 32) 0,
      .wonanFrameBoundary 0 0 (2 ^ 48), .holdoverLimit 48, .clkswRx 48 0 0, .clkswRx 0 (2 ^ 42) 0,
      .clkswRx 0 0 (2 ^ 56), .holdWordRx 48 0 0, .holdWordRx 0 (2 ^ 42) 0, .holdWordRx 0 0 (2 ^ 56),
      .epochDoneRx 48, .merRateHiWrite (2 ^ 32), .merAdjWrite (2 ^ 32), .merStepNsWrite (2 ^ 32),
      .merSrcWrite 8, .merPtpParentPortWrite (2 ^ 32), .ppsInEdge false (2 ^ 8), .ptpFrameRx 8 [] 0,
      .ptpFrameRx 0 [256] 0, .ptpFrameRx 0 [] (2 ^ 8), .txStampCapture 8 0 0, .txStampCapture 0 (2 ^ 16) 0,
      .txStampCapture 0 0 (2 ^ 8)].all fun c : Instr => !c.wf) = true := by decide

/-- Ill-formed commands, part 2. -/
theorem test_wf_refuses_2 : (
    [.alarmArm 8 0, .alarmArm 0 (2 ^ 32), .merAlarmParamWrite 8 0 0, .merAlarmParamWrite 0 6 0,
      .merAlarmParamWrite 0 0 (2 ^ 32), .alarmFire 8, .discriminatorLeadingEdge 48 0 0 0 false,
      .discriminatorLeadingEdge 0 512 0 0 false, .discriminatorLeadingEdge 0 0 384 0 false,
      .discriminatorLeadingEdge 0 0 0 384 false, .discriminatorTrailingEdge 48 0 0,
      .discriminatorTrailingEdge 0 512 0, .discriminatorTrailingEdge 0 0 384, .totSaturation 48 0,
      .totSaturation 0 512, .hitWordComplete 48 0, .hitWordComplete 0 512, .channelRearm 48 0,
      .channelRearm 0 512, .clampEngage 48 0, .clampEngage 0 512, .clampRelease 48 0, .clampRelease 0 512,
      .chCfgWrite 48 0 0, .chCfgWrite 0 512 0, .chCfgWrite 0 0 (2 ^ 32), .chThrWrite 48 0 0,
      .chThrWrite 0 512 0, .chThrWrite 0 0 (2 ^ 32), .settlingEnd 48 0, .settlingEnd 0 512, .configScrub 48 0,
      .intervalStartEdge 48 0 0, .intervalStartEdge 0 8 0, .intervalStartEdge 0 0 384,
      .intervalStopEdge 48 0 0, .intervalStopEdge 0 512 0, .intervalStopEdge 0 0 384, .intervalTimeout 48 0,
      .intervalTimeout 0 8, .chnIntWrite 48 0 0, .chnIntWrite 0 (2 ^ 16) 0, .chnIntWrite 0 0 (2 ^ 32),
      .walkTableWrite (2 ^ 24) 0, .walkTableWrite 0 (2 ^ 16)].all fun c : Instr => !c.wf) = true := by decide

/-- Ill-formed commands, part 3. -/
theorem test_wf_refuses_3 : (
    [.surveyStart 48, .surveyArm 48, .surveyGateOpen 48, .surveyAbort 48, .surveyCfgWrite 48 0 0,
      .surveyCfgWrite 0 (2 ^ 16) 0, .surveyCfgWrite 0 0 (2 ^ 32), .surveyGateEnd 48, .surveyResult 48,
      .ditherConversion 48 0 0, .ditherConversion 0 1027 0, .ditherConversion 0 0 384, .calSwap 48,
      .calRetire 48, .calTimeout 48, .calCtrlWrite 48 0, .calCtrlWrite 0 (2 ^ 32), .sampRefWrite 48 false,
      .sampRefReady 48, .sampEnWrite 48 0 false, .sampEnWrite 0 8 false, .sampCfgWrite 48 0 0 0,
      .sampCfgWrite 0 8 0 0, .sampCfgWrite 0 0 32 0, .sampCfgWrite 0 0 0 (2 ^ 32), .sampArm 48 0,
      .sampArm 0 (2 ^ 8), .sampForce 48 0, .sampForce 0 (2 ^ 8), .sampDisarm 48 0, .sampDisarm 0 (2 ^ 8),
      .pulseWidthEvent 48 0, .pulseWidthEvent 0 512, .sampTimerEvent 48 0, .sampTimerEvent 0 8,
      .sampTriggerTick 48 0, .sampTriggerTick 0 8, .sampFreeze 48 0, .sampFreeze 0 8,
      .sampWordOffer 48 0 0 0 0, .sampWordOffer 0 (2 ^ 12) 0 0 0, .sampWordOffer 0 0 (2 ^ 12) 0 0,
      .sampWordOffer 0 0 0 (2 ^ 12) 0, .sampWordOffer 0 0 0 0 (2 ^ 12), .sampHoldoffEnd 48 0].all fun c : Instr => !c.wf) = true := by decide

/-- Ill-formed commands, part 4. -/
theorem test_wf_refuses_4 : (
    [.sampHoldoffEnd 0 8, .sampTrimWrite 48 0 0 0, .sampTrimWrite 0 8 0 0, .sampTrimWrite 0 0 8 0,
      .sampTrimWrite 0 0 0 (2 ^ 32), .monGo 48, .monTimerSweep 48, .monConversionDone 48 0,
      .monConversionDone 0 (2 ^ 12), .hitQueueDrain 48 0 0, .hitQueueDrain 0 8 0, .hitQueueDrain 0 0 3,
      .slotClose 48 0 0 [], .slotClose 0 (2 ^ 37) 0 [], .slotRelease 48 0, .slotRelease 0 (2 ^ 37),
      .acceptTakeEffect 48, .fragmentBuild 48 0 [], .tladonFrameBoundary 48, .padCtrlWrite 48 false,
      .padHoldChange 48, .padConfigWrite 48 0 0, .padConfigWrite 0 (2 ^ 16) 0, .padConfigWrite 0 0 (2 ^ 32),
      .primitiveForm 48 0, .primitiveForm 0 (2 ^ 37), .primitiveWindow 48 0, .primitiveWindow 0 (2 ^ 37),
      .rsBlockRx 48 0 false 0 0, .rsBlockRx 0 (2 ^ 7) false 0 0, .rsBlockRx 0 0 false 10 0,
      .rsBlockRx 0 0 false 0 (2 ^ 8), .replayNackRx 48 0, .replayNackRx 0 (2 ^ 7), .frameHeadRx 48 0 0 0,
      .frameHeadRx 0 (2 ^ 26) 0 0, .frameHeadRx 0 0 (2 ^ 9) 0, .frameHeadRx 0 0 0 (2 ^ 8), .laneIdRx 48 0,
      .laneIdRx 0 (2 ^ 56), .laneCdrLock 48, .laneCdrLoss 48, .primitiveWindowRx 48 0 0 0 0,
      .primitiveWindowRx 0 (2 ^ 37) 0 0 0, .primitiveWindowRx 0 0 (2 ^ 8) 0 0].all fun c : Instr => !c.wf) = true := by decide

/-- Ill-formed commands, part 5. -/
theorem test_wf_refuses_5 : (
    [.primitiveWindowRx 0 0 0 (2 ^ 64) 0, .primitiveWindowRx 0 0 0 0 (2 ^ 64), .ingLaneClear 48,
      .attachEpoch 48, .portAttachWrite 48, .portDetachWrite 48, .portDetached 48,
      .downlinkCellRx 48 false 0 0, .downlinkCellRx 0 false (2 ^ 64) 0, .downlinkCellRx 0 false 0 384,
      .tladonDlCdrLock 48 false, .tladonDlCdrLoss 48 false, .regWrite 48 false 0 0 0,
      .regWrite 0 false (2 ^ 8) 0 0, .regWrite 0 false 0 (2 ^ 16) 0, .regWrite 0 false 0 0 (2 ^ 32),
      .regRead 48 false 0 0, .regRead 0 false (2 ^ 8) 0, .regRead 0 false 0 (2 ^ 16), .regPeek 48 false 0 0,
      .regPeek 0 false (2 ^ 8) 0, .regPeek 0 false 0 (2 ^ 16), .monSweep 48 false, .hold 48 false,
      .release 48 false, .stateListen 48 false, .stateConfigure 48 false, .stateAcquire 48 false,
      .stateQuiet 48 false, .stateAcquireEffect 48, .stateConfigureEffect 48, .quietPowerDown 48,
      .reset 48 false, .claim 48 false 0, .claim 0 false (2 ^ 32), .replay 48 false 0 0, .replay 0 false 4 0,
      .replay 0 false 0 (2 ^ 7), .relink 48 false 0, .relink 0 false (2 ^ 4), .regDataRx 48 0 0,
      .regDataRx 0 (2 ^ 8) 0, .regDataRx 0 0 (2 ^ 32), .stateWordRx 48 0, .stateWordRx 0 (2 ^ 56)].all fun c : Instr => !c.wf) = true := by decide

/-- Ill-formed commands, part 6. -/
theorem test_wf_refuses_6 : (
    [.claimExpiry 48 false, .obeyChange 48 0, .obeyChange 0 (2 ^ 16), .claimSend 48, .downlinkCommandSlot 48,
      .poweredToListening 48, .proxyLoad 48 0 false, .proxyLoad 0 (2 ^ 16) false, .proxyStore 48 0 0,
      .proxyStore 0 (2 ^ 16) 0, .proxyStore 0 0 (2 ^ 32), .proxyTimeout 48, .linkCfgWrite 48 0,
      .linkCfgWrite 0 (2 ^ 32), .tlDecisionRx false 4 0, .tlDecisionRx false 0 (2 ^ 64),
      .selfTriggerAccept (2 ^ 64), .selfTriggerContentTest (2 ^ 64), .fragHeadRx 48 0 0,
      .fragHeadRx 0 (2 ^ 14) 0, .fragHeadRx 0 0 (2 ^ 42), .fragTailRx 48 0, .fragTailRx 0 (2 ^ 56),
      .streamHeadRx 48 0, .streamHeadRx 0 (2 ^ 26), .streamEndRx 48 0, .streamEndRx 0 (2 ^ 56),
      .eventDeadline (2 ^ 64), .eventCommit (2 ^ 48), .candidateComplete (2 ^ 64), .horizonExpiry (2 ^ 64),
      .musViewSelWrite false (2 ^ 32), .queueWrite 16 0 false false, .queueWrite 0 (2 ^ 256) false false,
      .queueRead 16 0, .queueRead 0 3, .queueFlush 16, .queueStagedWrite 16 false, .qWtagWrite 16 0,
      .qWtagWrite 0 (2 ^ 32), .cmpFormDone 16 false, .cmpStoredDone 16 false false, .formerRecordDone 3,
      .cmpEngEnWrite 16 false, .cmpReenable 16].all fun c : Instr => !c.wf) = true := by decide

/-- Ill-formed commands, part 7. -/
theorem test_wf_refuses_7 : (
    [.cmpReenableDone 16 false, .cmpBypassWrite (2 ^ 32), .portLinkUp 8 false, .portLinkDown 8 0,
      .portLinkDown 0 3, .epFrameRx 8 false [] 0, .epFrameRx 0 false [256] 0, .epFrameRx 0 false [] (2 ^ 8),
      .datagramSent 8, .steerAdd 8, .steerRemove 8, .portLinkTimeout 8, .paceRingSample [2 ^ 64],
      .primitiveCapture (2 ^ 64), .poCellRelease (2 ^ 64), .groomVisit 6 0 0 0, .groomVisit 0 (2 ^ 160) 0 0,
      .groomVisit 0 0 (2 ^ 160) 0, .groomVisit 0 0 0 (2 ^ 160), .groomConfirmVisit (2 ^ 160) 0 0,
      .groomConfirmVisit 0 (2 ^ 160) 0, .groomConfirmVisit 0 0 (2 ^ 160), .memFarDataWrite (2 ^ 32),
      .schSetflagWrite (2 ^ 32), .unitEventRoute 64, .schPost (2 ^ 32), .schNextRead 4, .schEndWrite 4,
      .schNopreemptWrite 4 false, .npSpanOver 4, .schCoreCtrlWrite 4 0, .schCoreCtrlWrite 0 (2 ^ 32),
      .schTaskDisable (2 ^ 10), .spillRefill 16 false, .itemAgeStep 16, .periodicSlotEnable 64 0,
      .periodicSlotEnable 0 (2 ^ 32), .periodicRelease 64, .deadlineMiss 64, .schTraceMarkWrite 5 0,
      .schTraceMarkWrite 1 (2 ^ 32), .mtimeTimerInterrupt 4, .mtimecmpWrite 4 false 0,
      .mtimecmpWrite 0 false (2 ^ 32), .schMsipWrite (2 ^ 32)].all fun c : Instr => !c.wf) = true := by decide

/-- Ill-formed commands, part 8. -/
theorem test_wf_refuses_8 : (
    [.dmaGo 16, .dmaUnitTransfer (2 ^ 160) 0 0 0 0 0 0 0 0, .dmaUnitTransfer 0 (2 ^ 160) 0 0 0 0 0 0 0,
      .dmaUnitTransfer 0 0 (2 ^ 160) 0 0 0 0 0 0, .dmaUnitTransfer 0 0 0 (2 ^ 160) 0 0 0 0 0,
      .dmaUnitTransfer 0 0 0 0 (2 ^ 160) 0 0 0 0, .dmaUnitTransfer 0 0 0 0 0 (2 ^ 160) 0 0 0,
      .dmaUnitTransfer 0 0 0 0 0 0 (2 ^ 160) 0 0, .dmaUnitTransfer 0 0 0 0 0 0 0 (2 ^ 160) 0,
      .dmaUnitTransfer 0 0 0 0 0 0 0 0 (2 ^ 160), .dmaResume 16, .dmaSkip 16, .dmaAbort 16,
      .mbxDataWrite 5 0 0 0, .mbxDataWrite 1 16 0 0, .mbxDataWrite 1 0 8 0, .mbxDataWrite 1 0 0 (2 ^ 32),
      .mbxSend 5 0, .mbxSend 1 16, .mbxAck 16, .mbxLockRead 5 0, .mbxLockRead 1 16, .mbxLockWrite 5 0 0,
      .mbxLockWrite 1 16 0, .mbxLockWrite 1 0 (2 ^ 32), .lockLeaseLapse 16, .mbxLockForce 5 0,
      .mbxLockForce 1 16, .fenceWrite 5 0 0 0, .fenceWrite 1 16 0 0, .fenceWrite 1 0 3 0,
      .fenceWrite 1 0 0 (2 ^ 32), .quietAliasWrite 5 0x48000000, .quietAliasWrite 1 0x40000000,
      .uartCharRx (2 ^ 8) false false, .uartTxWrite (2 ^ 8), .debugHalt 4, .debugResume 4,
      .debugAbstractCommand 4 0 0, .debugAbstractCommand 0 (2 ^ 32) 0, .debugAbstractCommand 0 0 (2 ^ 32),
      .debugSysbusAccess false false 8 0 0 false 0 0 0 0,
      .debugSysbusAccess false false 0 (2 ^ 32) 0 false 0 0 0 0,
      .debugSysbusAccess false false 0 0 (2 ^ 32) false 0 0 0 0,
      .debugSysbusAccess false false 0 0 0 false 3 0 0 0].all fun c : Instr => !c.wf) = true := by decide

/-- Ill-formed commands, part 9. -/
theorem test_wf_refuses_9 : (
    [.debugSysbusAccess false false 0 0 0 false 0 (2 ^ 160) 0 0,
      .debugSysbusAccess false false 0 0 0 false 0 0 (2 ^ 160) 0,
      .debugSysbusAccess false false 0 0 0 false 0 0 0 (2 ^ 160), .idcode 49, .samplePreload 49 0 0,
      .extest 49 0 0, .clamp 49, .highz 49, .bypass 49 0, .bypass 0 1, .dtmcs 49, .dmi 49 0 0 0, .dmi 0 4 0 0,
      .dmi 0 0 (2 ^ 7) 0, .dmi 0 0 0 (2 ^ 32), .tapReset 49, .pairHeartbeatRx (2 ^ 64) [],
      .pairHeartbeatRx 0 [2 ^ 64], .pairDecisionRx (2 ^ 64) [], .pairDecisionRx 0 [2 ^ 64],
      .pairAnchorRx (2 ^ 64) [], .pairAnchorRx 0 [2 ^ 64], .pairThetaRx (2 ^ 64) [], .pairThetaRx 0 [2 ^ 64],
      .epochNoteRx (2 ^ 64) [], .epochNoteRx 0 [2 ^ 64], .pairDigestRx (2 ^ 64) [], .pairDigestRx 0 [2 ^ 64],
      .joinRequestRx (2 ^ 64) [], .joinRequestRx 0 [2 ^ 64], .joinAtRx (2 ^ 64) [], .joinAtRx 0 [2 ^ 64],
      .joinSeqRx (2 ^ 64) [], .joinSeqRx 0 [2 ^ 64], .pairFwRx (2 ^ 64) [], .pairFwRx 0 [2 ^ 64],
      .pairClaimWrite (2 ^ 32), .dictRead 3 [], .dictWrite 3 [], .usdoDownload 128 0 0 0 [] [] false,
      .usdoDownload 0 (2 ^ 8) 0 0 [] [] false, .usdoDownload 0 0 (2 ^ 16) 0 [] [] false,
      .usdoDownload 0 0 0 (2 ^ 8) [] [] false, .usdoDownload 0 0 0 0 [256] [] false,
      .usdoUpload 128 0 0 0 [] false].all fun c : Instr => !c.wf) = true := by decide

/-- Ill-formed commands, part 10. -/
theorem test_wf_refuses_10 : (
    [.usdoUpload 0 (2 ^ 8) 0 0 [] false, .usdoUpload 0 0 (2 ^ 16) 0 [] false,
      .usdoUpload 0 0 0 (2 ^ 8) [] false, .usdoTimeout 128, .rpdoInband 3, .canRpdoRx 4 [], .canRpdoRx 0 [256],
      .tpdoEvent 4 false, .imageDataWrite 128 0 [] [] false, .imageDataWrite 0 (2 ^ 32) [] [] false,
      .imageDataWrite 0 0 [256] [] false, .envConversionDone (2 ^ 64) 0, .envConversionDone 0 (2 ^ 64),
      .envRangeWrite 16 0, .envRangeWrite 0 4, .rangeSwitch 16, .rangeRampDone 16, .openDetect 16,
      .openClear 16, .probeClampEngage 16, .probeClampRelease 16, .sourceFed 16, .envRetry 16,
      .contendSet 16 0, .contendSet 0 16, .contendClear 16 0, .contendClear 0 16, .ilReqWrite 5 0 0,
      .ilReqWrite 1 4 0, .ilReqWrite 1 0 (2 ^ 32), .envKickWrite 5, .ilOvertemp 4, .ilOvertempClear 4,
      .ilShort 4, .vintRegulation (2 ^ 20), .railStart (2 ^ 20), .railFault 5,
      .pwrMeasure (2 ^ 16) 0 [] [] 0 0 0 0, .pwrMeasure 0 (2 ^ 16) [] [] 0 0 0 0,
      .pwrMeasure 0 0 [] [] (2 ^ 16) 0 0 0, .pwrMeasure 0 0 [] [] 0 (2 ^ 16) 0 0,
      .pwrMeasure 0 0 [] [] 0 0 (2 ^ 4) 0, .pwrMeasure 0 0 [] [] 0 0 0 (2 ^ 4), .sysResetWarm 5,
      .xoInPresent [] [] (2 ^ 6) 0 0 []].all fun c : Instr => !c.wf) = true := by decide

/-- Ill-formed commands, part 11. -/
theorem test_wf_refuses_11 : (
    [.xoInPresent [] [] 0 (2 ^ 16) 0 [], .xoInPresent [] [] 0 0 (2 ^ 16) [], .xoInPresent [] [] 0 0 0 [2 ^ 64],
      .watchdogKick 5, .sysFatalEnter 5 0, .sysFatalEnter 1 (2 ^ 16), .tladonPorRelease 48, .tladonRailDrop 48,
      .registerWrite 5 0x40000000 0, .registerWrite 1 0x40000002 0, .registerWrite 1 0x40000000 (2 ^ 32),
      .uplinkBlockSend 48 0 0, .uplinkBlockSend 0 4 0, .uplinkBlockSend 0 0 (2 ^ 9), .surveyInEdge 48 0,
      .surveyInEdge 0 384, .registerRead 5 0x40000000 0, .registerRead 1 0x40000002 0,
      .registerRead 1 0x40000000 3, .coreMemoryAccess 4 0 0 false 0 0 0 0 0 0 0,
      .coreMemoryAccess 0 14 0 false 0 0 0 0 0 0 0, .coreMemoryAccess 0 0 3 false 0 0 0 0 0 0 0,
      .coreMemoryAccess 0 0 0 false (2 ^ 32) 0 0 0 0 0 0, .coreMemoryAccess 0 0 0 false 0 (2 ^ 32) 0 0 0 0 0,
      .coreMemoryAccess 0 0 0 false 0 0 32 0 0 0 0, .coreMemoryAccess 0 0 0 false 0 0 0 3 0 0 0,
      .coreMemoryAccess 0 0 0 false 0 0 0 0 (2 ^ 160) 0 0, .coreMemoryAccess 0 0 0 false 0 0 0 0 0 (2 ^ 160) 0,
      .coreMemoryAccess 0 0 0 false 0 0 0 0 0 0 (2 ^ 160)].all fun c : Instr => !c.wf) = true := by decide

/-- Well-formed commands, part 1. -/
theorem test_wf_takes_1 : (
    [.tladonPllLock 0, .tladonPllLockLost 0, .epoch 0 false 0, .epochTakeEffect 0, .markerSend 0,
      .triStampRx 0 false 0 0 0, .triStampMissed 0 0, .triCtrlWrite 0 0, .triAlphaWrite 0 0,
      .triKdownWrite 0 0, .triKupWrite 0 0, .hitWordRx 0 0 false, .wonanFrameBoundary 0 0 0, .holdoverLimit 0,
      .clkswRx 0 0 0, .holdWordRx 0 0 0, .epochDoneRx 0, .merRateHiWrite 0, .merAdjWrite 0, .adjCancel,
      .merStep, .merStepNsWrite 0, .merStepApply, .merLock false, .merRelock false, .merSrcWrite 0, .syncLost,
      .merPtpParentPortWrite 0, .synceLost, .refLost, .ppsInEdge false 0, .ppsLost, .ppsOutPulse,
      .ptpFrameRx 0 [] 0, .txStampCapture 0 0 0, .merTxtsIdRead, .txStampAgeOut, .alarmArm 0 0,
      .merAlarmParamWrite 0 0 0, .alarmFire 0, .discriminatorLeadingEdge 0 0 0 0 false,
      .discriminatorTrailingEdge 0 0 0, .totSaturation 0 0, .hitWordComplete 0 0, .channelRearm 0 0,
      .clampEngage 0 0, .clampRelease 0 0, .chCfgWrite 0 0 0, .chThrWrite 0 0 0, .settlingEnd 0 0,
      .configScrub 0 0, .intervalStartEdge 0 0 0, .intervalStopEdge 0 0 0, .intervalTimeout 0 0,
      .chnIntWrite 0 0 0, .walkTableWrite 0 0, .surveyStart 0, .surveyArm 0, .surveyGateOpen 0, .surveyAbort 0].all fun c : Instr => c.wf) = true := by decide

/-- Well-formed commands, part 2. -/
theorem test_wf_takes_2 : (
    [.surveyCfgWrite 0 0 0, .surveyGateEnd 0, .surveyResult 0, .ditherConversion 0 0 0, .calSwap 0,
      .calRetire 0, .calTimeout 0, .calCtrlWrite 0 0, .sampRefWrite 0 false, .sampRefReady 0,
      .sampEnWrite 0 0 false, .sampCfgWrite 0 0 0 0, .sampArm 0 0, .sampForce 0 0, .sampDisarm 0 0,
      .pulseWidthEvent 0 0, .sampTimerEvent 0 0, .sampTriggerTick 0 0, .sampFreeze 0 0,
      .sampWordOffer 0 0 0 0 0, .sampHoldoffEnd 0 0, .sampTrimWrite 0 0 0 0, .monGo 0, .monTimerSweep 0,
      .monConversionDone 0 0, .hitQueueDrain 0 0 0, .slotClose 0 0 0 [], .slotRelease 0 0, .acceptTakeEffect 0,
      .fragmentBuild 0 0 [], .tladonFrameBoundary 0, .padCtrlWrite 0 false, .padHoldChange 0,
      .padConfigWrite 0 0 0, .primitiveForm 0 0, .primitiveWindow 0 0, .rsBlockRx 0 0 false 0 0,
      .replayNackRx 0 0, .frameHeadRx 0 0 0 0, .laneIdRx 0 0, .laneCdrLock 0, .laneCdrLoss 0,
      .primitiveWindowRx 0 0 0 0 0, .ingLaneClear 0, .attachEpoch 0, .portAttachWrite 0, .portDetachWrite 0,
      .portDetached 0, .downlinkCellRx 0 false 0 0, .tladonDlCdrLock 0 false, .tladonDlCdrLoss 0 false,
      .regWrite 0 false 0 0 0, .regRead 0 false 0 0, .regPeek 0 false 0 0, .monSweep 0 false, .hold 0 false,
      .release 0 false, .stateListen 0 false, .stateConfigure 0 false, .stateAcquire 0 false].all fun c : Instr => c.wf) = true := by decide

/-- Well-formed commands, part 3. -/
theorem test_wf_takes_3 : (
    [.stateQuiet 0 false, .stateAcquireEffect 0, .stateConfigureEffect 0, .quietPowerDown 0, .reset 0 false,
      .claim 0 false 0, .replay 0 false 0 0, .relink 0 false 0, .regDataRx 0 0 0, .stateWordRx 0 0,
      .claimExpiry 0 false, .obeyChange 0 0, .claimSend 0, .downlinkCommandSlot 0, .poweredToListening 0,
      .proxyLoad 0 0 false, .proxyStore 0 0 0, .proxyTimeout 0, .linkCfgWrite 0 0, .tlDecisionRx false 0 0,
      .acceptForward, .selfTriggerAccept 0, .selfTriggerContentTest 0, .fragHeadRx 0 0 0, .fragTailRx 0 0,
      .streamHeadRx 0 0, .streamEndRx 0 0, .eventDeadline 0, .eventCommit 0, .candidateComplete 0,
      .horizonExpiry 0, .stallRelease, .musViewSelWrite false 0, .musViewDataRead, .queueWrite 0 0 false false,
      .queueRead 0 0, .queueFlush 0, .queueStagedWrite 0 false, .qWtagWrite 0 0, .cmpDispatch false,
      .cmpFormDone 0 false, .cmpStoredDone 0 false false, .formerRecordDone 0, .cmpReorderRelease,
      .cmpRatioWindow false, .cmpEngEnWrite 0 false, .cmpReenable 0, .cmpReenableDone 0 false,
      .cmpBypassWrite 0, .portLinkUp 0 false, .portLinkDown 0 0, .epFrameRx 0 false [] 0, .datagramSent 0,
      .steerAdd 0, .steerRemove 0, .steerCommit, .steerOpInvalid, .steerBoundary, .portLinkTimeout 0,
      .paceRingSample []].all fun c : Instr => c.wf) = true := by decide

/-- Well-formed commands, part 4. -/
theorem test_wf_takes_4 : (
    [.shedStep, .holdCycleToggle, .degradedRecoverStep, .primitiveCapture 0, .poCellRelease 0, .admCheck,
      .admissionChecksDone, .admRun, .admStop, .admStore, .admStoreDone false, .admReload, .groomVisit 0 0 0 0,
      .groomConfirmVisit 0 0 0, .memFarDataWrite 0, .memLogRead, .groomEnWrite false, .schSetflagWrite 0,
      .unitEventRoute 0, .schPost 0, .schReserve, .schNextRead 0, .schEndWrite 0, .schNopreemptWrite 0 false,
      .npSpanOver 0, .schCoreCtrlWrite 0 0, .schTaskDisable 0, .spillRefill 0 false, .itemAgeStep 0,
      .periodicSlotEnable 0 0, .periodicRelease 0, .deadlineMiss 0, .standstill, .schTraceMarkWrite 1 0,
      .mtimeTimerInterrupt 0, .mtimecmpWrite 0 false 0, .schMsipWrite 0, .dmaGo 0,
      .dmaUnitTransfer 0 0 0 0 0 0 0 0 0, .dmaResume 0, .dmaSkip 0, .dmaAbort 0, .mbxDataWrite 1 0 0 0,
      .mbxSend 1 0, .mbxAck 0, .mbxLockRead 1 0, .mbxLockWrite 1 0 0, .lockLeaseLapse 0, .mbxLockForce 1 0,
      .fenceWrite 1 0 0 0, .quietAliasWrite 1 0x48000000, .loftRelease, .uartStartEdge false,
      .uartCharRx 0 false false, .uartTxWrite 0, .uartRxRead, .debugHalt 0, .debugResume 0,
      .debugAbstractCommand 0 0 0, .debugSysbusAccess false false 0 0 0 false 0 0 0 0].all fun c : Instr => c.wf) = true := by decide

/-- Well-formed commands, part 5. -/
theorem test_wf_takes_5 : (
    [.ndmreset, .idcode 0, .samplePreload 0 0 0, .extest 0 0 0, .clamp 0, .highz 0, .bypass 0 0, .dtmcs 0,
      .dmi 0 0 0 0, .tapReset 0, .tickCountAlign, .pairHeartbeatSend, .pairHeartbeatRx 0 [], .partnerLost,
      .pairDecisionRx 0 [], .pairAnchorRx 0 [], .anchorWaitExpiry, .pairThetaRx 0 [], .epochNoteRx 0 [],
      .pairDigestRx 0 [], .digestEntryExpiry, .joinRequestRx 0 [], .joinAtRx 0 [], .joinSeqRx 0 [],
      .pairFwRx 0 [], .pairRejoin, .pairGoAlone, .pairMuteWrite false, .pairEnWrite false, .pairClaimWrite 0,
      .dictRead 0 [], .dictWrite 0 [], .usdoDownload 0 0 0 0 [] [] false, .usdoUpload 0 0 0 0 [] false,
      .usdoTimeout 0, .rpdoInband 0, .canRpdoRx 0 [], .canSyncRx false, .tpdoEvent 0 false,
      .canHeartbeatSend false, .nmtStart, .nmtStop, .nmtEnterPreoperational, .nmtResetNode,
      .nmtResetCommunication, .canAckError, .busOffRecovery, .imageDataWrite 0 0 [] [] false,
      .imageOwnerTimeout, .dictWarmReset, .envGo, .envTimerSweep, .envConversionDone 0 0, .envRefWrite false,
      .envRefReady, .envRangeWrite 0 0, .rangeSwitch 0, .rangeRampDone 0, .openDetect 0, .openClear 0].all fun c : Instr => c.wf) = true := by decide

/-- Well-formed commands, part 6. -/
theorem test_wf_takes_6 : (
    [.probeClampEngage 0, .probeClampRelease 0, .sourceFed 0, .envRetry 0, .contendSet 0 0, .contendClear 0 0,
      .ilReqWrite 1 0 0, .envKickWrite 1, .kickExpiry, .resultAgeExpiry, .ilOvertemp 0, .ilOvertempClear 0,
      .ilShort 0, .vinUvloRelease, .vinUvloAssert, .vinOvloAssert, .vinOvloRelease, .vintRegulation 0,
      .railStart 0, .pgRelease, .railFault 0, .powerStageOvertemp, .powerRestart false, .vinBelow12v,
      .pwrMeasure 0 0 [] [] 0 0 0 0, .resetNAssert, .sysResetWarm 1, .resetAssert, .selfTestStart,
      .xoInPresent [] [] 0 0 0 [], .selfTestComplete, .firmwareLoaded false false, .autoRunEntry,
      .watchdogKick 1, .watchdogExpiry, .sysFatalEnter 1 0, .fatalTimer, .fatalRunClear, .tladonPorRelease 0,
      .tladonRailDrop 0, .registerWrite 1 0x40000000 0, .uplinkBlockSend 0 0 0, .surveyInEdge 0 0,
      .registerRead 1 0x40000000 0, .coreMemoryAccess 0 0 0 false 0 0 0 0 0 0 0, .canBusError false false,
      .canExtendedFrameRx, .plLockSet, .plLockClear, .uartCharTxDone, .norImageCopyDone, .schWindowPublish false].all fun c : Instr => c.wf) = true := by decide

/-- The record with a bad word past its range. -/
theorem test_wf_refuses_recordSteer : (Instr.recordSteer (2 ^ 1200)).wf = false := by
  simp only [Instr.wf, Wf.fits, Nat.lt_irrefl, decide_false]

/-- The record within its range. -/
theorem test_wf_takes_recordSteer : (Instr.recordSteer 0).wf = true := by
  simp only [Instr.wf, Wf.fits]
  exact decide_eq_true (Nat.pow_pos (by decide))

/-! Check codes over the nine ASCII digits "123456789": the published check values of the polynomials that R197, R299,
R375 and IEEE 802.3 name. -/

/-- The bytes of "123456789". -/
def digits9 : List Nat := [0x31, 0x32, 0x33, 0x34, 0x35, 0x36, 0x37, 0x38, 0x39]

set_option maxRecDepth 20000 in
theorem test_crc16_check : crc16 digits9 = 0x29B1 := by decide

set_option maxRecDepth 20000 in
theorem test_crc8_check : crc8 digits9 = 0xF4 := by decide

set_option maxRecDepth 20000 in
theorem test_crc32_check : crc32 digits9 = 0xCBF43926 := by decide

set_option maxRecDepth 20000 in
theorem test_crc32c_check : crc32c digits9 = 0xE3069283 := by decide

/-! One step each, with results worked out by hand from the rule named. -/

/-- The state that one command leaves from a state, through the queue. -/
def after (c : Instr) (s : State) : State := stateOf s (step { s with pending := [c] })

/-- R76: 999,999,999 ns is taken, 1,000,000,000 ns and -1,000,000,000 ns are not. -/
theorem test_step_ns :
    (after (.merStepNsWrite 999999999) State.reset).wget WR.MER_STEP_NS_NS = 999999999 ∧
    (after (.merStepNsWrite 1000000000) State.reset).wget WR.MER_STEP_NS_NS = 0 ∧
    (after (.merStepNsWrite (2 ^ 32 - 1000000000)) State.reset).wget WR.MER_STEP_NS_NS = 0 := by decide

/-- R57: a tick that has wrapped is the one just ahead, one just below 2^42 is just behind. -/
theorem test_extension :
    ({ State.reset with now := 2 ^ 42 - 1 } : State).ext42 1 = 2 ^ 42 + 1 ∧
    ({ State.reset with now := 2 ^ 42 + 1 } : State).ext42 (2 ^ 42 - 1) = 2 ^ 42 - 1 := by decide

/-- R440: a store of two bytes is little-endian and removes nothing else. -/
theorem test_store_bytes :
    (State.reset.store 0x20000010 2 0x1234).mem = [(0x20000010, 0x34), (0x20000011, 0x12)] ∧
    ((State.reset.store 0x20000010 2 0x1234).store 0x20000010 1 0).mem = [(0x20000011, 0x12)] := by decide

/-- R505: a data word of a free mailbox takes the value, one of a full mailbox does not. -/
theorem test_mailbox_full :
    (after (.mbxDataWrite 1 3 7 5) State.reset).wget (WR.MBX_DATA_DATA 3 7) = 5 ∧
    (after (.mbxDataWrite 1 3 7 5) (wn [(WR.MBX_STATUS_FULL 3, 1)])).wget (WR.MBX_DATA_DATA 3 7) = 0 ∧
    (after (.mbxDataWrite 1 3 7 5) (wn [(WR.MBX_STATUS_FULL 3, 1)])).wget (WR.MBX_STATUS_WR_REFUSED 3) = 1 := by decide

/-- R186: PRE4 + POST4 of 1,025 words sets CFG_ERR, 1,024 does not. -/
theorem test_sampler_lengths :
    ((after (.sampCfgWrite 0 2 4 (1 * 65536 + 1023)) State.reset).tladon 0).get (TR.SAMPG_STATE_CFG_ERR 2) = 0 ∧
    ((after (.sampCfgWrite 0 2 4 (2 * 65536 + 1023)) State.reset).tladon 0).get (TR.SAMPG_STATE_CFG_ERR 2) = 1 := by decide

/-- R149: START in LISTENING opens no gate. -/
theorem test_survey_listening :
    ((after (.surveyStart 0) (tl [(TR.ID_STATE_STATE, 1), (TR.SURVEY_CFG_SRC, 1)])).tladon 0).gate = none := by decide

/-- An idle tick. -/
theorem test_idle : step State.reset = .next { State.reset with now := 1 } := rfl

/-- A state for each clause of `TladonClockCommands`. -/
theorem wit_TladonClockCommands :
    (let p := 0; let d := false; let s := tl [] (fun t => { t with powered := true, obeyed := some false, dls := [{ Downlink.idle with cdr := true }, Downlink.idle] }); (s.tladon p).obeyed = some d ∧ (s.tladon p).powered = true ∧ (s.tladon p).locked = false ∧ ((s.tladon p).dl d).cdr = true) ∧
    (let p := 0; let s := tl [(TR.TIME_STATUS_PLL_LOCK, 1)]; (s.tladon p).locked = true) ∧
    (let p := 0; let d := false; let j := 32; let s := tl [(TR.ID_STATE_STATE, 2), (TR.LINK_STATUS_LOCK_A, 1)] (fun t => { t with powered := true, obeyed := some false }); (s.tladon p).hears d = true ∧ (s.tladon p).obeyed = some d ∧ (s.tladon p).state = 2 ∧ j % 32 = 0 ∧ j < 2 ^ 42) ∧
    (let p := 0; let d := false; let s := tl [(TR.ID_STATE_STATE, 3), (TR.LINK_STATUS_LOCK_A, 1)] (fun t => { t with powered := true, obeyed := some false }); (s.tladon p).hears d = true ∧ (s.tladon p).obeyed = some d ∧ (s.tladon p).state ≠ 2) ∧
    (let p := 0; let j := 64; let due := 0; let s := tl [] (fun t => { t with epoch := some (64, 0) }); (s.tladon p).epoch = some (j, due) ∧ due ≤ s.now) ∧
    (let p := 0; let h := 0; let s := { tl [(TR.TIME_CTRL_HOLD_MAX, 1)] (fun t => { t with holdAt := some 0 }) with now := 65537 }; (s.tladon p).holdAt = some h ∧ h + (s.tladon p).holdLimit < s.now) ∧
    (let p := 0; let s := tl [(TR.LINK_STATUS_CLAIM_A, 1)]; (s.tladon p).markTie.claimed ≠ (s.tladon p).obeyed) := by
  refine ⟨?_, ?_, ?_, ?_, ?_, ?_, ?_⟩ <;> first | decide | exact rfl

/-- A state for each clause of `ChannelEdges`. -/
theorem wit_ChannelEdges :
    (let p := 0; let c := 3; let s := tl [(TR.ID_STATE_STATE, 3), (TR.CH_CFG_MODE 3, 1), (TR.CH_THR_THR 3, 5), (TR.SURVEY_CFG_SRC, 1)]; let t := s.tladon p; t.dead c = false ∧ t.get (TR.CH_THR_THR c) ≠ 1023 ∧ t.state = 3 ∧ (t.chan c).high = none ∧ t.settling s.now c = false ∧ ¬(t.get TR.SURVEY_CFG_SRC = 2 ∧ t.get TR.SURVEY_CFG_CHANNEL = c) ∧ (t.chan c).rearm ≤ s.now ∧ t.get (TR.CH_CFG_MODE c) ≠ 2) ∧
    (let p := 0; let c := 3; let s := tl [(TR.ID_STATE_STATE, 3), (TR.CH_CFG_MODE 3, 1), (TR.CH_THR_THR 3, 5), (TR.SURVEY_CFG_SRC, 1)] (Tladon.modChan 3 fun x => { x with rearm := 9 }); let t := s.tladon p; t.dead c = false ∧ t.get (TR.CH_THR_THR c) ≠ 1023 ∧ t.state = 3 ∧ (t.chan c).high = none ∧ t.settling s.now c = false ∧ ¬(t.get TR.SURVEY_CFG_SRC = 2 ∧ t.get TR.SURVEY_CFG_CHANNEL = c) ∧ s.now < (t.chan c).rearm) ∧
    (let p := 0; let c := 3; let h := 1; let e := edge0; let s := tl [] (Tladon.modChan 3 fun x => { x with high := some 1, edge := some edge0 }); let t := s.tladon p; (t.chan c).high = some h ∧ (t.chan c).ignore = false ∧ (t.chan c).edge = some e) ∧
    (let p := 0; let c := 3; let e := edge0; let s := { tl [] (Tladon.modChan 3 fun x => { x with edge := some edge0 }) with now := 1024 }; let t := s.tladon p; (t.chan c).edge = some e ∧ e.t0 + 1024 ≤ s.now) ∧
    (let p := 0; let c := 3; let d := ⟨edge0, 0, 64⟩; let r := []; let s := { tl [(TR.ID_STATE_STATE, 3), (TR.CH_CFG_MIN_TOT 3, 1)] (Tladon.modChan 3 fun x => { x with done := [⟨edge0, 0, 64⟩] }) with now := 24 }; let t := s.tladon p; (t.chan c).done = d :: r ∧ d.t1 + 24 ≤ s.now ∧ t.state = 3 ∧ t.get (TR.CH_CFG_MIN_TOT c) * 64 ≤ d.tot ∧ d.edge.role ≠ 3 ∧ (t.chan c).q.length < 16) ∧
    (let p := 0; let c := 3; let d := ⟨edge0, 0, 63⟩; let r := []; let s := { tl [(TR.ID_STATE_STATE, 3), (TR.CH_CFG_MIN_TOT 3, 1)] (Tladon.modChan 3 fun x => { x with done := [⟨edge0, 0, 63⟩] }) with now := 24 }; let t := s.tladon p; (t.chan c).done = d :: r ∧ d.t1 + 24 ≤ s.now ∧ t.state = 3 ∧ d.tot < t.get (TR.CH_CFG_MIN_TOT c) * 64) ∧
    (let p := 0; let c := 3; let s := { tl [] (Tladon.modChan 3 fun x => { x with rearm := 9 }) with now := 9 }; let t := s.tladon p; (t.chan c).rearm ≤ s.now) ∧
    (let p := 0; let c := 3; let s := tl []; let t := s.tladon p; (t.chan c).clampOn = false) ∧
    (let p := 0; let c := 3; let s := tl [] (Tladon.modChan 3 fun x => { x with clampOn := true }); let t := s.tladon p; (t.chan c).clampOn = true) ∧
    (let p := 0; let c := 3; let s := tl [(TR.CH_CFG_MODE 3, 1)]; let t := s.tladon p; ¬(t.get (TR.CH_CFG_MODE c) = 2 ∧ t.inUnit c)) := by
  refine ⟨?_, ?_, ?_, ?_, ?_, ?_, ?_, ?_, ?_, ?_⟩ <;> first | decide | exact rfl

/-- A state for each clause of `IntervalUnits`. -/
theorem wit_IntervalUnits :
    (let p := 0; let c := 3; let s := tl []; let t := s.tladon p; t.settling s.now c = false) ∧
    (let p := 0; let g := 1; let s := tl [(TR.ID_STATE_STATE, 3), (TR.CHN_INT_CFG_EN 1, 1), (TR.CHN_INT_CFG_START 1, 5), (TR.CH_CFG_MODE 69, 2), (TR.CH_THR_THR 69, 5)]; let t := s.tladon p; t.get (TR.CHN_INT_CFG_START g) < 64 ∧ t.dead (t.startCh g) = false ∧ t.get (TR.CH_THR_THR (t.startCh g)) ≠ 1023 ∧ t.state = 3 ∧ (t.chan (t.startCh g)).high = none ∧ t.settling s.now (t.startCh g) = false ∧ t.get TR.SURVEY_CFG_SRC ≠ 2 ∧ (t.chan (t.startCh g)).rearm ≤ s.now ∧ t.get (TR.CH_CFG_MODE (t.startCh g)) = 2 ∧ t.get (TR.CHN_INT_STATUS_CFG_ERR g) = 0 ∧ SMap.find g t.ints = none) ∧
    (let p := 0; let c := 70; let w := ⟨0, 0, 0⟩; let s := tl [(TR.ID_STATE_STATE, 3), (TR.CHN_INT_CFG_EN 1, 1), (TR.CHN_INT_CFG_START 1, 5), (TR.CHN_INT_STOP_LO_STOP 1, 64), (TR.CH_CFG_MODE 70, 2), (TR.CH_THR_THR 70, 5), (TR.CHN_INT_WIN_WINDOW 1, 100)] (fun t => { t with ints := [(1, ⟨0, 0, 0⟩)] }); let t := s.tladon p; t.dead c = false ∧ t.get (TR.CH_THR_THR c) ≠ 1023 ∧ t.state = 3 ∧ (t.chan c).high = none ∧ t.settling s.now c = false ∧ t.get TR.SURVEY_CFG_SRC ≠ 2 ∧ (t.chan c).rearm ≤ s.now ∧ t.get (TR.CH_CFG_MODE c) = 2 ∧ t.get (TR.CHN_INT_STATUS_CFG_ERR (c / 64)) = 0 ∧ c ≠ t.startCh (c / 64) ∧ SMap.find (c / 64) t.ints = some w ∧ s.now < w.t0 + t.winLen (c / 64)) ∧
    (let p := 0; let g := 1; let w := ⟨0, 0, 0⟩; let s := { tl [(TR.CHN_INT_WIN_WINDOW 1, 100)] (fun t => { t with ints := [(1, ⟨0, 0, 0⟩)] }) with now := 100 }; let t := s.tladon p; SMap.find g t.ints = some w ∧ w.t0 + t.winLen g ≤ s.now ∧ t.state ≠ 3) ∧
    (let p := 0; let a := 0x420; let s := tl []; let t := s.tladon p; SMap.find ((a - 0x400) / 0x20) t.ints = none) := by
  refine ⟨?_, ?_, ?_, ?_, ?_⟩ <;> first | decide | exact rfl

/-- A state for each clause of `SurveyCommands`. -/
theorem wit_SurveyCommands :
    (let p := 0; let s := tl [(TR.ID_STATE_STATE, 2), (TR.SURVEY_CFG_SRC, 0)]; let t := s.tladon p; t.surveyReady = true) ∧
    (let p := 0; let s := tl [(TR.ID_STATE_STATE, 2), (TR.SURVEY_CFG_SRC, 0), (TR.SURVEY_START_LO_START_LO, 9)]; let t := s.tladon p; t.surveyReady = true ∧ 0 < Tladon.dist t.startTick (t.count s.now)) ∧
    (let p := 0; let s := tl [(TR.ID_STATE_STATE, 2), (TR.SURVEY_CFG_SRC, 0)]; let t := s.tladon p; t.surveyReady = true ∧ Tladon.dist t.startTick (t.count s.now) ≤ 0) ∧
    (let p := 0; let a := 0; let s := tl [] (fun t => { t with arm := some 0 }); let t := s.tladon p; t.arm = some a ∧ t.count s.now = a ∧ t.gate = none) ∧
    (let p := 0; let g := gate0; let s := tl [] (fun t => { t with gate := some gate0 }); let t := s.tladon p; t.gate = some g) ∧
    (let p := 0; let s := tl []; let t := s.tladon p; t.gate = none) ∧
    (let p := 0; let g := gate0; let s := { tl [] (fun t => { t with gate := some gate0 }) with now := 1024 }; let t := s.tladon p; t.gate = some g ∧ g.t0 + g.len ≤ s.now) ∧
    (let p := 0; let g := gate0; let rest := []; let ratio := 0; let resid := 0; let ok := false; let s := tl [] (fun t => { t with computing := [gate0] }); let t := s.tladon p; t.computing = g :: rest ∧ Tladon.regress g.edges.reverse = (ratio, resid, ok)) ∧
    (let p := 0; let g := gate0; let s := tl [(TR.SURVEY_CFG_SRC, 0)] (fun t => { t with gate := some gate0 }); let t := s.tladon p; t.gate = some g ∧ t.get TR.SURVEY_CFG_SRC ≤ 1 ∧ g.t0 ≤ s.now ∧ s.now < g.t0 + g.len) := by
  refine ⟨?_, ?_, ?_, ?_, ?_, ?_, ?_, ?_, ?_⟩ <;> first | decide | exact rfl

/-- A state for each clause of `CalibrationCommands`. -/
theorem wit_CalibrationCommands :
    (let p := 0; let i := 1026; let raw := 9; let s := tl [(TR.ID_STATE_STATE, 2), (TR.CAL_CTRL_EN, 1), (TR.TIME_STATUS_PLL_LOCK, 1)]; let t := s.tladon p; t.calRuns = true ∧ t.participates i = true ∧ SMap.find i t.cal.shadow = none ∧ raw < 384) ∧
    (let p := 0; let d := 5; let s := { tl [] (fun t => { t with cal := { t.cal with retireAt := some 5 } }) with now := 5 }; let t := s.tladon p; t.cal.retireAt = some d ∧ d ≤ s.now) ∧
    (let p := 0; let s := { tl [(TR.ID_STATE_STATE, 2), (TR.CAL_CTRL_EN, 1), (TR.TIME_STATUS_PLL_LOCK, 1), (TR.CAL_CTRL_CAL_TMO, 1)] with now := 65536 }; let t := s.tladon p; t.calRuns = true ∧ t.cal.started + max 1 (t.get TR.CAL_CTRL_CAL_TMO) * 65536 ≤ s.now) := by
  refine ⟨?_, ?_, ?_⟩ <;> first | decide | exact rfl

/-- A state for each clause of `SamplerCommands`. -/
theorem wit_SamplerCommands :
    (let p := 0; let en := true; let s := tl []; let t := s.tladon p; t.tl512t = false ∧ (en = true → t.get TR.SAMP_REF_EN = 0)) ∧
    (let p := 0; let s := tl [(TR.TIME_STATUS_PLL_LOCK, 1)] (fun t => { t with refAt := some 0 }); let t := s.tladon p; t.refReady s.now = true) ∧
    (let p := 0; let g := 7; let en := true; let s := tl []; let t := s.tladon p; t.tl512t = false ∧ (en = true → (t.samp g).st = 0)) ∧
    (let p := 0; let g := 7; let s := tl []; let t := s.tladon p; t.tl512t = false ∧ g < 8 ∧ (t.samp g).st ≤ 1) ∧
    (let p := 0; let g := 7; let s := tl [] (Tladon.modSamp 7 fun x => { x with st := 2 }); let t := s.tladon p; t.tl512t = false ∧ 1 < (t.samp g).st) ∧
    (let p := 0; let mask := 128; let g := 7; let s := tl [(TR.ID_STATE_STATE, 3)] (Tladon.modSamp 7 fun x => { x with st := 1 }); let t := s.tladon p; t.tl512t = false ∧ t.running = true ∧ g < 8 ∧ bit g mask = true ∧ (t.samp g).st = 1 ∧ t.get (TR.SAMPG_STATE_CFG_ERR g) = 0) ∧
    (let p := 0; let mask := 128; let g := 7; let s := { tl [(TR.ID_STATE_STATE, 3)] (Tladon.modSamp 7 fun x => { x with st := 2 }) with now := 1000 }; let t := s.tladon p; t.tl512t = false ∧ t.running = true ∧ g < 8 ∧ bit g mask = true ∧ (t.samp g).st = 2 ∧ (t.samp g).trig = none ∧ t.preOf g / 2 ≤ s.now + 1 - (t.samp g).since) ∧
    (let g := 7; g < 8) ∧
    (let p := 0; let s := tl []; let t := s.tladon p; t.tl512t = false) := by
  refine ⟨?_, ?_, ?_, ?_, ?_, ?_, ?_, ?_, ?_⟩ <;> first | decide | exact rfl

/-- A state for each clause of `SamplerEvents`. -/
theorem wit_SamplerEvents :
    (let p := 0; let c := 448; let l := 0; let s := { tl [(TR.ID_STATE_STATE, 3), (TR.SAMPG_CFG_PW_EN 7, 1), (TR.SAMPG_CHMASK_LO_MASK 7, 1), (TR.CH_CFG_MODE 448, 1), (TR.SAMPG_LEN_PRE4 7, 0)] (fun t => (t.modSamp 7 fun x => { x with st := 2 }).modChan 448 fun x => { x with high := some 0 }) with now := 65 }; let t := s.tladon p; (t.chan c).high = some l ∧ t.tl512t = false ∧ t.running = true ∧ t.get (TR.SAMPG_CFG_PW_EN (c / 64)) ≠ 0 ∧ t.chMask (c / 64) (c % 64) = true ∧ t.off c = false ∧ s.now = l + t.pwWidth (c / 64) + 1 ∧ (t.samp (c / 64)).st = 2 ∧ (t.samp (c / 64)).trig = none ∧ t.preOf (c / 64) / 2 ≤ s.now + t.get (TR.SAMPG_PW_DELAY (c / 64)) - (t.samp (c / 64)).since) ∧
    (let p := 0; let g := 7; let s := { tl [(TR.ID_STATE_STATE, 3), (TR.SAMPG_CFG_TIMER_EN 7, 1), (TR.SAMPG_TIMER_PERIOD 7, 2048)] (Tladon.modSamp 7 fun x => { x with st := 2 }) with now := 2048 }; let t := s.tladon p; t.tl512t = false ∧ t.running = true ∧ t.get (TR.SAMPG_CFG_TIMER_EN g) ≠ 0 ∧ (t.samp g).timer < s.now ∧ (s.now - (t.samp g).timer) % max 2048 (t.get (TR.SAMPG_TIMER_PERIOD g)) = 0 ∧ (t.samp g).st = 2 ∧ (t.samp g).trig = none ∧ t.preOf g / 2 ≤ s.now - (t.samp g).since) ∧
    (let p := 0; let g := 7; let tt := 3; let cause := 2; let ch := 0; let s := { tl [] (Tladon.modSamp 7 fun x => { x with st := 2, trig := some (3, 2, 0) }) with now := 3 }; let t := s.tladon p; (t.samp g).trig = some (tt, cause, ch) ∧ ((t.samp g).st = 2 ∨ (t.samp g).st = 3) ∧ tt ≤ s.now) ∧
    (let p := 0; let g := 7; let c := cap0; let s := { tl [] (Tladon.modSamp 7 fun x => { x with st := 4, cap := some cap0 }) with now := 4 }; let t := s.tladon p; (t.samp g).cap = some c ∧ (t.samp g).st = 4 ∧ c.tt + c.post / 2 ≤ s.now) ∧
    (let p := 0; let g := 7; let c := cap0; let s := { tl [] (Tladon.modSamp 7 fun x => { x with st := 5, cap := some cap0 }) with now := 64 }; let t := s.tladon p; t.readout = some g ∧ (t.samp g).cap = some c ∧ c.frozenAt + (c.sent + 1) * max 16 (t.get TR.SAMP_RDOUT_SPACING) ≤ s.now ∧ t.sampNext ≤ s.now) ∧
    (let p := 0; let g := 7; let s := { tl [] (Tladon.modSamp 7 fun x => { x with st := 6 }) with now := 4 }; let t := s.tladon p; (t.samp g).st = 6 ∧ (t.samp g).holdTick ≤ s.now ∧ (t.samp g).holdEv = 0 ∧ (t.samp g).since < s.now) := by
  refine ⟨?_, ?_, ?_, ?_, ?_, ?_⟩ <;> first | decide | exact rfl

/-- A state for each clause of `MonitorCommands`. -/
theorem wit_MonitorCommands :
    (let p := 0; let n := 0; let r := (List.range 16).tail; let s := tl [(TR.ID_STATE_STATE, 2)]; let t := s.tladon p; t.running = true ∧ t.sweep = none ∧ ((List.range 16).filter fun i => bit i (t.get TR.MON_MASK_MASK)) = n :: r) ∧
    (let p := 0; let s := tl [(TR.ID_STATE_STATE, 2)] (fun t => { t with sweep := some ⟨[1], 0, 0⟩ }); let t := s.tladon p; t.running = true ∧ t.sweep ≠ none) ∧
    (let p := 0; let n := 0; let r := (List.range 16).tail; let s := { tl [(TR.ID_STATE_STATE, 2), (TR.MON_CTRL_TIMER_EN, 1), (TR.MON_PERIOD_PERIOD, 1)] with now := 65536 }; let t := s.tladon p; t.get TR.MON_CTRL_TIMER_EN ≠ 0 ∧ t.count s.now % 65536 = 0 ∧ t.monFrames + max 1 (t.get TR.MON_PERIOD_PERIOD) * 65536 ≤ s.now ∧ t.running = true ∧ t.sweep = none ∧ ((List.range 16).filter fun i => bit i (t.get TR.MON_MASK_MASK)) = n :: r) ∧
    (let p := 0; let n := 1; let r := []; let t0 := 0; let start := 0; let s := { tl [] (fun t => { t with sweep := some ⟨[1], 0, 0⟩ }) with now := 12800 }; let t := s.tladon p; t.sweep = some ⟨n :: r, t0, start⟩ ∧ t0 + 12800 ≤ s.now) := by
  refine ⟨?_, ?_, ?_, ?_⟩ <;> first | decide | exact rfl

/-- A state for each clause of `PaddockIntake`. -/
theorem wit_PaddockIntake :
    (let p := 0; let g := 0; let c := 0; let w := ⟨0, 0⟩; let r := []; let err := 1; let s := tl [] (Tladon.modChan 0 fun x => { x with q := [⟨0, 0⟩] }); let t := s.tladon p; t.drainFrom g = some c ∧ (t.chan c).q = w :: r ∧ err < 2 ∧ t.fill < 98304) ∧
    (let p := 0; let g := 0; let c := 0; let w := ⟨0, 0⟩; let r := []; let s := tl [] (Tladon.modChan 0 fun x => { x with q := [⟨0, 0⟩] }); let t := s.tladon p; t.drainFrom g = some c ∧ (t.chan c).q = w :: r) ∧
    (let p := 0; let k := 0; let s := { tl [(TR.ID_STATE_STATE, 3)] with now := 2592 }; let t := s.tladon p; t.state = 3 ∧ t.passed s.now ((t.slotTick (k + 1) + 2560) % 2 ^ 42) = true ∧ (t.slot k).closed = false ∧ t.get TR.PAD_CFG_MODE = 0) ∧
    (let p := 0; let k := 0; let s := { tl [] (Tladon.modSlot 0 fun x => { x with closed := true }) with now := 70000 }; let t := s.tladon p; (t.slot k).closed = true ∧ (t.slot k).pins = 0 ∧ 0 < Tladon.dist (t.count s.now) ((t.slotTick k + 31 + 65536) % 2 ^ 42) ∧ t.pad.accQ = []) ∧
    (let p := 0; let d := 5; let s := { tl [] (Tladon.modPad fun p => { p with holdDue := some 5 }) with now := 5 }; let t := s.tladon p; t.pad.holdDue = some d ∧ d ≤ s.now) ∧
    (let p := 0; let s := tl [(TR.ID_STATE_STATE, 3)]; let t := s.tladon p; t.state = 3) ∧
    (let p := 0; let s := tl [(TR.ID_STATE_STATE, 2)]; let t := s.tladon p; t.state ≠ 3) := by
  refine ⟨?_, ?_, ?_, ?_, ?_, ?_, ?_⟩ <;> first | decide | exact rfl

/-- A state for each clause of `PaddockOutput`. -/
theorem wit_PaddockOutput :
    (let p := 0; let due := 0; let q := 0; let r := []; let s := tl [(TR.ID_STATE_STATE, 3)] (Tladon.modPad fun p => { p with arriving := [(0, 0)] }); let t := s.tladon p; t.pad.arriving = (due, q) :: r ∧ due ≤ s.now ∧ t.state = 3 ∧ t.get TR.PAD_CFG_MODE = 0 ∧ t.get TR.PAD_STATUS_CFG_ERR = 0 ∧ (t.pad.accQ.filter (·.form != 2)).length < 64 ∧ t.get TR.PAD_STATUS_HOLD = 0 ∧ t.get TR.PAD_HOLDOFF_HO_MODE = 0 ∧ t.pad.lastTrig = none) ∧
    (let p := 0; let due := 0; let q := 0; let r := []; let s := tl [(TR.ID_STATE_STATE, 3), (TR.PAD_CFG_MODE, 1)] (Tladon.modPad fun p => { p with arriving := [(0, 0)] }); let t := s.tladon p; t.pad.arriving = (due, q) :: r ∧ due ≤ s.now ∧ t.state = 3 ∧ t.get TR.PAD_CFG_MODE ≠ 0) ∧
    (let p := 0; let a := ⟨0, 0, 64, 1, true, false, false, false, false⟩; let r := []; let s := tl [(TR.ID_STATE_STATE, 3)] (Tladon.modPad fun p => { p with accQ := [⟨0, 0, 64, 1, true, false, false, false, false⟩] }); let t := s.tladon p; t.pad.accQ = a :: r ∧ t.state = 3 ∧ (a.form ≠ 0 ∨ t.windowClosed s.now a = true)) ∧
    (let p := 0; let s := tl [(TR.ID_STATE_STATE, 2), (TR.TIME_STATUS_PLL_LOCK, 1)]; let t := s.tladon p; t.locked = true ∧ t.count s.now % 65536 = 0 ∧ t.linkDue = none ∧ t.state ≠ 3) ∧
    (let p := 0; let v := 1; let due := 0; let s := tl [(TR.ID_STATE_STATE, 2), (TR.TIME_STATUS_PLL_LOCK, 1)] (fun t => { t with linkDue := some (1, 0) }); let t := s.tladon p; t.locked = true ∧ t.count s.now % 65536 = 0 ∧ t.linkDue = some (v, due) ∧ due ≤ s.now ∧ t.state ≠ 3) ∧
    (let p := 0; let k := 0; let s := { tl [(TR.ID_STATE_STATE, 3), (TR.PAD_PRIM_EN, 1)] with now := 64 }; let t := s.tladon p; t.primSlot s.now k = true ∧ t.passed s.now ((t.slotTick k + 64) % 2 ^ 42) = true) ∧
    (let p := 0; let k := 0; let s := { tl [(TR.ID_STATE_STATE, 3), (TR.PAD_PRIM_EN, 1), (TR.TIME_STATUS_PLL_LOCK, 1)] with now := 127 }; let t := s.tladon p; t.primSlot s.now k = true ∧ t.count s.now = (t.slotTick k + 127) % 2 ^ 42 ∧ t.upOn = true ∧ t.get TR.LINK_CFG_MIRROR = 0 ∧ (t.up 0).mute ≤ s.now) ∧
    (let p := 0; let k := 0; let off := 0; let hdr := 2; let body := 0; let u := { Uplink.start with idx := 1 }; let s := tl [(TR.ID_STATE_STATE, 3), (TR.TIME_STATUS_PLL_LOCK, 1)] (fun t => { t with ups := [Uplink.start] }); let t := s.tladon p; t.upOn = true ∧ t.active.contains k = true ∧ k < t.ups.length ∧ t.nextBlock k off = (hdr, body, u, none)) := by
  refine ⟨?_, ?_, ?_, ?_, ?_, ?_, ?_, ?_⟩ <;> first | decide | exact rfl

/-- A state for each clause of `DownlinkCommands`. -/
theorem wit_DownlinkCommands :
    (let p := 0; let d := false; let a := 0; let s := dlk 2; let t := s.tladon p; t.hears d = true ∧ t.obeyed = some d ∧ t.allowed 0x01 a = true) ∧
    (let p := 0; let d := false; let s := dlk 2; let t := s.tladon p; t.hears d = true ∧ t.obeyed = some d ∧ t.allowed 0x01 TR.MON_MASK = true) ∧
    (let p := 0; let d := false; let a := TR.MON_MASK; let fs := [TR.MON_MASK_MASK]; let s := dlk 2; let t := s.tladon p; t.hears d = true ∧ t.obeyed = some d ∧ t.allowed 0x02 a = true ∧ t.fields a = some fs ∧ a ≠ TR.TIME_COUNT_LO ∧ a ≠ TR.SURVEY_RATIO_LO) ∧
    (let p := 0; let d := false; let a := TR.MON_MASK; let s := dlk 2; let t := s.tladon p; t.hears d = true ∧ t.obeyed = some d ∧ t.allowed 0x03 a = true) ∧
    (let p := 0; let d := false; let n := 0; let r := (List.range 16).tail; let s := dlk 2; let t := s.tladon p; t.hears d = true ∧ t.obeyed = some d ∧ t.running = true ∧ t.sweep = none ∧ ((List.range 16).filter fun i => bit i (t.get TR.MON_MASK_MASK)) = n :: r) ∧
    (let p := 0; let d := false; let s := dlk 1; let t := s.tladon p; t.hears d = true ∧ t.obeyed = some d ∧ t.allowed 0x06 0 = true) ∧
    (let p := 0; let d := true; let s := dlk 2; let t := s.tladon p; t.hears d = true ∧ t.obeyed ≠ some d) ∧
    (let p := 0; let d := true; let s := dlk 2; let t := s.tladon p; t.hears d = true ∧ t.dls.length = 2) ∧
    (let p := 0; let d := false; let k := 0; let s := dlk 2; let t := s.tladon p; t.hears d = true ∧ (d = false ∨ t.mirror = true) ∧ t.allowed 0x10 0 = true ∧ t.active.contains (k + 2 * b2n d) = true ∧ k + 2 * b2n d < t.ups.length) ∧
    (let p := 0; let d := false; let mask := 1; let k := 0; let s := dlk 2; let t := s.tladon p; t.hears d = true ∧ (d = false ∨ t.mirror = true) ∧ t.allowed 0x11 0 = true ∧ bit k (mask % 16) = true ∧ k + 2 * b2n d < t.ups.length) := by
  refine ⟨?_, ?_, ?_, ?_, ?_, ?_, ?_, ?_, ?_, ?_⟩ <;> first | decide | exact rfl

/-- A state for each clause of `StateCommands`. -/
theorem wit_StateCommands :
    (let p := 0; let d := false; let s := dlk 2; let t := s.tladon p; t.hears d = true ∧ t.obeyed = some d ∧ t.allowed 0x08 1 = true ∧ t.state ≠ 1) ∧
    (let p := 0; let d := false; let s := tl [(TR.TIME_STATUS_PLL_LOCK, 1), (TR.ID_STATE_STATE, 1), (TR.LINK_STATUS_LOCK_A, 1)] fun t => { t with powered := true, obeyed := some false }; let t := s.tladon p; t.hears d = true ∧ t.obeyed = some d ∧ t.state = 1 ∧ t.locked = true) ∧
    (let p := 0; let d := false; let s := dlk 2; let t := s.tladon p; t.hears d = true ∧ t.obeyed = some d ∧ t.state = 2) ∧
    (let p := 0; let d := false; let s := dlk 3; let t := s.tladon p; t.hears d = true ∧ t.obeyed = some d ∧ t.state = 1 ∨ t.state = 2 ∨ t.state = 3) ∧
    (let p := 0; let due := 0; let s := tl [(TR.TIME_STATUS_PLL_LOCK, 1), (TR.ID_STATE_STATE, 2)] fun t => { t with sched := some (3, 0) }; let t := s.tladon p; t.sched = some (3, due) ∧ due ≤ s.now ∧ t.locked = true ∧ t.count s.now % 65536 = 0 ∧ t.epoch = none) ∧
    (let p := 0; let due := 0; let s := tl [(TR.ID_STATE_STATE, 3)] fun t => { t with sched := some (2, 0) }; let t := s.tladon p; t.sched = some (2, due) ∧ due ≤ s.now ∧ t.state = 3) ∧
    (let p := 0; let due := 0; let s := tl [(TR.ID_STATE_STATE, 4)] fun t => { t with sched := some (4, 0) }; let t := s.tladon p; t.sched = some (4, due) ∧ due ≤ s.now ∧ t.state = 4) ∧
    (let p := 0; let d := false; let s := dlk 2; let t := s.tladon p; t.hears d = true ∧ t.obeyed = some d ∧ t.state = 1 ∨ t.state = 2 ∨ t.state = 3) ∧
    (let p := 0; let s := tl [] fun t => { t with powered := true }; let t := s.tladon p; t.powered = true ∧ t.state = 0) ∧
    (let p := 0; let s := State.reset; let t := s.tladon p; t.powered = false) := by
  refine ⟨?_, ?_, ?_, ?_, ?_, ?_, ?_, ?_, ?_, ?_⟩ <;> first | decide | exact rfl

set_option maxRecDepth 4000 in
/-- A state for each clause of `DownlinkReceiver`. -/
theorem wit_DownlinkReceiver :
    (let p := 0; let d := false; let w := 2 ^ 63; let s := tl [(TR.ID_STATE_STATE, 1)] fun t => { t with powered := true, dls := [{ Downlink.idle with cdr := true, good := 15 }, Downlink.idle] }; let t := s.tladon p; t.powered = true ∧ t.state ≠ 0 ∧ (t.dl d).cdr = true ∧ t.cellLock d = false ∧ Tladon.goodCell w = true ∧ (t.dl d).good = 15) ∧
    (let p := 0; let d := false; let w := 0; let s := tl [(TR.ID_STATE_STATE, 1), (TR.LINK_STATUS_LOCK_A, 1)] fun t => { t with powered := true, dls := [{ Downlink.idle with cdr := true }, Downlink.idle] }; let t := s.tladon p; t.powered = true ∧ t.state ≠ 0 ∧ (t.dl d).cdr = true ∧ t.cellLock d = true ∧ Tladon.goodCell w = false ∧ t.dls.length = 2 ∧ (t.dl d).bad + 1 ≠ 8) ∧
    (let p := 0; let d := true; let w := 0; let s := tl [(TR.ID_STATE_STATE, 1), (TR.LINK_STATUS_LOCK_B, 1)] fun t => { t with powered := true, dls := [Downlink.idle, { Downlink.idle with cdr := true, bad := 7 }] }; let t := s.tladon p; t.powered = true ∧ t.state ≠ 0 ∧ (t.dl d).cdr = true ∧ t.cellLock d = true ∧ Tladon.goodCell w = false ∧ (t.dl d).bad = 7 ∧ (t.dl d).cmd = none) ∧
    (let p := 0; let d := false; let w := 2 ^ 63; let data := 0; let corr := false; let s := tl [(TR.ID_STATE_STATE, 1), (TR.LINK_STATUS_LOCK_A, 1)] fun t => { t with powered := true, dls := [{ Downlink.idle with cdr := true }, Downlink.idle] }; let t := s.tladon p; t.powered = true ∧ t.state ≠ 0 ∧ (t.dl d).cdr = true ∧ t.cellLock d = true ∧ Tladon.goodCell w = true ∧ Tladon.decodeCell w = some (data, corr) ∧ bit 37 data = false ∧ bit 32 data = false ∧ (t.dl d).cmd = none) ∧
    (let p := 0; let d := false; let data := 4395630592; let w := 10124091966724505600; let n := 2; let s := tl [(TR.ID_STATE_STATE, 1), (TR.LINK_STATUS_LOCK_A, 1)] fun t => { t with powered := true, dls := [{ Downlink.idle with cdr := true }, Downlink.idle] }; let t := s.tladon p; t.powered = true ∧ t.state ≠ 0 ∧ (t.dl d).cdr = true ∧ t.cellLock d = true ∧ Tladon.goodCell w = true ∧ Tladon.decodeCell w = some (data, false) ∧ bit 54 data = false ∧ bit 37 data = false ∧ bit 32 data = true ∧ (t.dl d).cmd = none ∧ Tladon.cmdCells (bits 31 24 (bits 31 0 data)) = some n ∧ t.dls.length = 2) ∧
    (let p := 0; let s := dlk 1; let t := s.tladon p; t.powered = true ∧ t.state ≠ 0 ∧ t.dls.length = 2) ∧
    (let p := 0; let d := false; let s := dlk 1; let t := s.tladon p; t.dls.length = 2 ∧ (t.dl d).cmd = none) ∧
    (let p := 0; let d := false; let at' := 0; let s := let s := tl [] fun t => { t with dls := [{ Downlink.idle with claimAt := some 0 }, Downlink.idle] }; { s with now := 131072 }; let t := s.tladon p; (t.dl d).claimAt = some at' ∧ at' + 131072 ≤ s.now ∧ t.dls.length = 2) ∧
    (let p := 0; let s := dlk 1; let t := s.tladon p; t.state = 1 ∨ t.state = 2) := by
  refine ⟨?_, ?_, ?_, ?_, ?_, ?_, ?_, ?_, ?_⟩ <;> first | decide | exact rfl

/-- A state for each clause of `Triangulation`. -/
theorem wit_Triangulation :
    (let p := 0; let s := wn [(WR.SYS_STATE_STATE, 2)]; let t := s.tri' p; s.portHere p = true ∧ 2 ≤ s.ws ∧ s.tick % 32 = 0 ∧ t.markAt ≤ s.wframe) ∧
    (let p := 0; let d := false; let num := 3; let dep := 0; let s := triW 0 []; let t := s.tri' p; s.portHere p = true ∧ s.laneUp p = true ∧ d = s.sideB ∧ (t.sent.find? fun x => x.1 == num) = some (num, dep) ∧ dep + 65536 < s.tick) ∧
    (let p := 0; let d := false; let num := 3; let tick := 0; let fine := 0; let dep := 70000; let s := triW 70000 []; let t := s.tri' p; let a := s.ext42 tick * 256 + fine; s.portHere p = true ∧ s.laneUp p = true ∧ d = s.sideB ∧ (t.sent.find? fun x => x.1 == num) = some (num, dep) ∧ s.tick ≤ dep + 65536 ∧ s.wget (WR.TRI_CTRL_EN p) ≠ 0 ∧ s.triBlocked p = false ∧ (t.starts.find? fun x => x.2.1 == State.pairedFrame a) = none) ∧
    (let p := 0; let d := false; let num := 3; let tick := 70001; let fine := 0; let dep := 70000; let at' := 70000; let b := 0; let s := (triW 70000 [(WR.TRI_STATUS_AVERAGED 0, 1)]).modTri 0 fun t => { t with starts := [(70000, 2, 0)] }; let t := s.tri' p; let a := s.ext42 tick * 256 + fine; s.portHere p = true ∧ s.laneUp p = true ∧ d = s.sideB ∧ (t.sent.find? fun x => x.1 == num) = some (num, dep) ∧ s.tick ≤ dep + 65536 ∧ s.wget (WR.TRI_CTRL_EN p) ≠ 0 ∧ s.triBlocked p = false ∧ (t.starts.find? fun x => x.2.1 == State.pairedFrame a) = some (at', State.pairedFrame a, b) ∧ t.part.length + 1 < s.avgLen p ∧ s.wget (WR.TRI_STATUS_AVERAGED p) ≠ 0) ∧
    (let p := 0; let num := 3; let dep := 0; let s := triW 0 []; let t := s.tri' p; (t.sent.find? fun x => x.1 == num) = some (num, dep) ∧ dep + 65536 < s.tick) ∧
    (let p := 0; let v := 1; let s := wn [(WR.TRI_CTRL_EN 0, 0)]; s.portHere p = true ∧ bit 0 v = true ∧ s.wget (WR.TRI_CTRL_EN p) = 0) ∧
    (let p := 0; let s := wn [(WR.SYS_STATE_STATE, 2)]; s.portHere p = true ∧ s.ws = 2 ∨ s.ws = 3) ∧
    (let off := 0; let s := { State.reset with image := some ⟨1, 0, 0, 0, [], [], [(1, 0, 1)], [], []⟩ }; let a := 0x20000000 + off; s.inPart 1 a = true) ∧
    (let l := 0; let at' := 0; let j := 32; let r := []; let s := (triW 0 []).modTri 0 fun t => { t with epochs := [(0, 32)] }; let p := s.lanePort l; let t := s.tri' p; s.laneUp l = true ∧ s.laneK l = 0 ∧ t.epochs = (at', j) :: r ∧ at' + 2048 ≤ s.tick ∧ t.part = []) ∧
    (let s := wn [(WR.SYS_STATE_STATE, 2)]; 1 % 2 ^ 32 ≠ s.wget (WR.TRI_ALPHA_ALPHA 0) ∧ 1 % 2 ^ 32 ≠ s.wget (WR.TRI_KDOWN_K 0) ∧ 1 % 2 ^ 32 ≠ s.wget (WR.TRI_KUP_K 0)) ∧
    (let s := wn [(WR.SYS_STATE_STATE, 2)]; s.ws = 2 ∨ s.ws = 3) ∧
    (let s := wn []; s.ws ≠ 2 ∧ s.ws ≠ 3) := by
  refine ⟨?_, ?_, ?_, ?_, ?_, ?_, ?_, ?_, ?_, ?_, ?_, ?_⟩ <;> first | decide | exact rfl

/-- A state for each clause of `MeridianClock`. -/
theorem wit_MeridianClock :
    (let s := { wn [] with now := 65536 }; s.boundaryDue = true ∧ s.wget WR.MER_STATUS_STATE ≠ 4 ∧ s.wget WR.MER_DATUM_CFG_DATUM_SRC = 0) ∧
    (let s := { wn [(WR.MER_STATUS_STATE, 4)] with now := 65536 }; s.boundaryDue = true ∧ s.wget WR.MER_STATUS_STATE = 4) ∧
    (let d := 5; let a := ⟨0, 0, 3355443200, false, false⟩; let r := []; let s := (wn []).modMer fun g => { g with step := some 5 }; s.mer.step = some d ∧ s.mer.anchors = a :: r ∧ s.tick = 65536 * a.frame) ∧
    (let s := wn []; s.wget WR.MER_STATUS_STATE ≠ 4 ∧ s.wget WR.MER_CTRL_SRC ≠ 2 ∧ s.wget WR.MER_CTRL_SRC ≠ 3) ∧
    (let s := wn []; s.wget WR.MER_STATUS_STATE ≠ 4) ∧
    (let s := wn [(WR.MER_STATUS_STATE, 4)]; s.wget WR.MER_STATUS_STATE = 4) ∧
    (let ok := true; let s := wn [(WR.MER_STATUS_STATE, 1), (WR.MER_STATUS_TIME_VALID, 1)]; s.wget WR.MER_STATUS_STATE = 1 ∧ s.wget WR.MER_STATUS_TIME_VALID ≠ 0 ∧ ({ s with mer := { s.mer with lostFreq := !ok } } : State).lossPersists = false) ∧
    (let ok := true; let s := wn [(WR.MER_STATUS_STATE, 4)]; s.wget WR.MER_STATUS_STATE = 4 ∧ ({ s with mer := { s.mer with lostFreq := !ok } } : State).lossPersists = false) ∧
    (let src := 1; let s := wn [(WR.SYS_STATE_STATE, 2)]; s.ws = 2 ∨ s.ws = 3 ∧ src < 4 ∧ src ≠ s.wget WR.MER_CTRL_SRC) ∧
    ((signed 32 0).natAbs < 1000000000) ∧
    (1000000000 ≤ (signed 32 0x7FFFFFFF).natAbs) := by
  refine ⟨?_, ?_, ?_, ?_, ?_, ?_, ?_, ?_, ?_, ?_, ?_⟩ <;> first | decide | exact rfl

/-- A state for each clause of `MeridianEvents`. -/
theorem wit_MeridianEvents :
    (let t := 0; let s := { (wn []).modMer fun g => { g with lastSync := some 0 } with now := 20000000000 }; s.mer.lastSync = some t ∧ t + s.syncLimit ≤ s.now ∧ s.mer.lostSync = false) ∧
    (let v := 1; let s := wn []; let id := (s.wget WR.MER_PTP_PARENT_HI_ID_HI * 2 ^ 32 + s.wget WR.MER_PTP_PARENT_LO_ID_LO) * 65536 + v % 65536; id ≠ s.mer.parent) ∧
    (let fall := false; let s := wn []; fall = s.won WR.MER_PPS_CTRL_IN_EDGE ∧ s.pinsHeld = false) ∧
    (let t := 0; let s := { (wn []).modMer fun g => { g with lastPps := some 0 } with now := 20000000000 }; s.mer.lastPps = some t ∧ t + 1001 * Config.msTicks ≤ s.now ∧ s.mer.lostPps = false) ∧
    (let s := ppsW; s.wget WR.MER_PPS_CTRL_OUT_EN ≠ 0 ∧ s.wget WR.MER_STATUS_TIME_VALID ≠ 0 ∧ s.ppsDue = true ∧ s.pinsHeld = false) ∧
    (let x := ⟨0, 0, 0, 0⟩; let r := []; let s := (wn []).modMer fun g => { g with txts := [⟨0, 0, 0, 0⟩] }; s.mer.txts = x :: r ∧ r.length < 32) ∧
    (let n := 0; let v := 2 ^ 31; let s := wn []; n < 8 ∧ s.mer.almLate.length = 8 ∧ s.mer.almHi.length = 8 ∧ bit 31 v = true ∧ s.wget (WR.MER_ALM_CTRL_EN n) = 0) ∧
    (let n := 7; n < 8) ∧
    (let n := 0; let s := wn [(WR.MER_STATUS_TIME_VALID, 1), (WR.MER_ALM_CTRL_EN 0, 1)]; s.wget WR.MER_STATUS_TIME_VALID ≠ 0 ∧ s.wget (WR.MER_ALM_CTRL_EN n) ≠ 0 ∧ s.almTarget n ≤ s.timeNow ∧ s.wget (WR.MER_ALM_CTRL_KIND n) = 0 ∧ s.wget (WR.MER_ALM_PERIOD_NS_PERIOD n) = 0) ∧
    (let n := 0; let s := wn [(WR.MER_STATUS_TIME_VALID, 1), (WR.MER_ALM_CTRL_EN 0, 1), (WR.MER_ALM_PERIOD_NS_PERIOD 0, 5)]; s.wget WR.MER_STATUS_TIME_VALID ≠ 0 ∧ s.wget (WR.MER_ALM_CTRL_EN n) ≠ 0 ∧ s.almTarget n ≤ s.timeNow ∧ s.wget (WR.MER_ALM_CTRL_KIND n) = 0 ∧ s.wget (WR.MER_ALM_PERIOD_NS_PERIOD n) ≠ 0 ∧ s.mer.almLate.getD n false = false) ∧
    (let s := wn []; s.wget (WR.MER_ALM_CTRL_EN 7) = 0) ∧
    (let s := wn [(WR.MER_ALM_CTRL_EN 7, 1)]; s.wget (WR.MER_ALM_CTRL_EN 7) ≠ 0) ∧
    (let s := wn [(WR.MER_STATUS_STATE, 2), (WR.MER_CTRL_SRC, 2)]; s.wget WR.MER_CTRL_SRC = 2 ∧ s.tracking = true) ∧
    (let s := wn []; (s.mer.txts.filter fun x => decide (s.now < x.arrived + s.txAge)).length < 16) ∧
    (let s := (wn []).modMer fun g => { g with txts := List.replicate 16 ⟨0, 0, 0, 0⟩ }; 16 ≤ (s.mer.txts.filter fun x => decide (s.now < x.arrived + s.txAge)).length) := by
  refine ⟨?_, ?_, ?_, ?_, ?_, ?_, ?_, ?_, ?_, ?_, ?_, ?_, ?_, ?_, ?_⟩ <;> first | decide | exact rfl

/-- A state for each clause of `LaneEvents`. -/
theorem wit_LaneEvents :
    (let l := 0; let dep := 0; let body := 0; let s := wn [(WR.ING_LANE_STATUS_STATE 0, 2)]; let p := s.lanePort l; s.laneUp l = true ∧ (s.port p).clksw.contains (s.eventTick dep (bits 54 39 body)) = false) ∧
    (let l := 0; let dep := 0; let body := 2 ^ 55; let s := wn [(WR.ING_LANE_STATUS_STATE 0, 3)]; let p := s.lanePort l; s.laneUp l = true ∧ bit 55 body = true ∧ ((s.port p).holds.any fun h => h.1 == s.eventTick dep (bits 54 39 body)) = false) ∧
    (let l := 0; let body := 0; let s := (wn [(WR.ING_LANE_STATUS_STATE 0, 3)]).modPort 0 fun t => { t with holds := [(0, none)] }; let p := s.lanePort l; s.laneUp l = true ∧ bit 55 body = false ∧ ((s.port p).holds.any fun h => h.2 == none) = true) ∧
    (let l := 0; let p := 0; let num := 8; let fix := 0; let s := (wn [(WR.ING_LANE_STATUS_STATE 0, 1)]).modLane 0 fun x => { x with num := some 7, good := 7 }; l < 48 ∧ p < 48 ∧ s.lanePort l = p ∧ s.wget (WR.ING_LANE_STATUS_STATE l) = 1 ∧ fix ≤ 8 ∧ (s.lane l).num = some ((num + 127) % 128) ∧ 7 ≤ (s.lane l).good) ∧
    (let l := 0; let num := 8; let fix := 8; let s := (wn [(WR.ING_LANE_STATUS_STATE 0, 3)]).modLane 0 fun x => { x with wait := [(8, 0)] }; s.laneUp l = true ∧ fix ≤ 8 ∧ ((s.lane l).wait.any fun y => y.1 == num) = true) ∧
    (let l := 0; let num := 8; let s := (wn [(WR.ING_LANE_STATUS_STATE 0, 3)]).modLane 0 fun x => { x with wait := [(8, 0)] }; l < 48 ∧ s.laneUp l = true ∧ ((s.lane l).wait.any fun y => y.1 == num) = true) ∧
    (let l := 0; let num := 8; let s := (wn [(WR.ING_LANE_STATUS_STATE 0, 3)]).modLane 0 fun x => { x with wait := [(8, 0)] }; s.laneUp l = true ∧ ((s.lane l).wait.any fun y => y.1 == num) = true) ∧
    (let l := 0; let frame := 0; let s := (wn [(WR.ING_LANE_STATUS_STATE 0, 3), (WR.TRI_CTRL_EN 0, 1)]); let p := s.lanePort l; s.laneUp l = true ∧ s.laneK l = 0 ∧ s.triBlocked p = false ∧ ((s.tri' p).stamps.filter fun x => State.pairedFrame x.2.2 == frame) = []) ∧
    (let l := 0; let body := 0; let i := (⟨0, 1, 0, 0⟩ : LaneIdent); let s := (wn [(WR.ING_LANE_STATUS_STATE 0, 2)]); s.wget (WR.ING_LANE_STATUS_STATE l) = 2 ∧ State.laneIdOf body = some i ∧ (s.lane l).ident ≠ some i) ∧
    (let l := 0; let body := 0; let i := (⟨0, 1, 0, 0⟩ : LaneIdent); let s := (wn [(WR.ING_LANE_STATUS_STATE 0, 2)]).modLane 0 fun x => { x with ident := some ⟨0, 1, 0, 0⟩ }; l < s.lanesCount ∧ s.wget (WR.ING_LANE_STATUS_STATE l) = 2 ∧ State.laneIdOf body = some i ∧ (s.lane l).ident = some i ∧ i.bond = 1 ∧ i.pos = 0 ∧ s.portState l = 0 ∧ (∀ q < 48, q ≠ l → s.wget (WR.ING_LANE_STATUS_STATE q) ≠ 3)) ∧
    (let l := 0; let body := 0; let i := (⟨0, 1, 0, 0⟩ : LaneIdent); let s := (wn [(WR.ING_LANE_STATUS_STATE 0, 3)]); s.wget (WR.ING_LANE_STATUS_STATE l) = 3 ∧ State.laneIdOf body = some i ∧ (s.lane l).ident ≠ some i) ∧
    (let l := 0; let s := wn [(WR.ING_LANE_CTRL_EN 0, 1)]; l < s.lanesCount ∧ s.wget (WR.ING_LANE_STATUS_STATE l) = 0 ∧ s.wget (WR.ING_LANE_CTRL_EN l) ≠ 0) ∧
    (let l := 0; let s := wn [(WR.ING_LANE_STATUS_STATE 0, 2)]; s.laneUp l = true ∧ s.laneK l = 0) ∧
    (let l := 0; let s := wn [(WR.ING_LANE_STATUS_STATE 0, 4)]; s.wget (WR.ING_LANE_STATUS_STATE l) = 4) ∧
    (State.decodePh 0x03 = none ∧ State.decodePh 0x01 = some 0 ∧ (wn [(WR.ING_LANE_STATUS_STATE 0, 4)]).wget (WR.ING_LANE_STATUS_STATE 0) = 4 ∧ (wn []).wget (WR.ING_LANE_STATUS_STATE 0) ≠ 4) := by
  refine ⟨?_, ?_, ?_, ?_, ?_, ?_, ?_, ?_, ?_, ?_, ?_, ?_, ?_, ?_, ?_⟩ <;> first | decide | exact rfl

/-- A state for each clause of `PortsDownlinksProxy`. -/
theorem wit_PortsDownlinksProxy :
    (let p := 0; let s := (wn [(WR.SYS_STATE_STATE, 4), (WR.ING_PORT_STATUS_STATE 0, 1), (WR.TRI_STATUS_VALID 0, 1), (WR.TRI_STATUS_AVERAGED 0, 1)]).modPort 0 fun t => { t with step := 3 }; s.isRun = true ∧ s.portState p = 1 ∧ (s.port p).step = 3 ∧ s.r54 p = true ∧ s.partnerHolds p = false) ∧
    (let p := 0; let s := (wn [(WR.ING_PORT_STATUS_STATE 0, 3)]); s.portHere p = true ∧ s.portState p = 3) ∧
    (let p := 0; let s := (wn [(WR.ING_PORT_STATUS_STATE 0, 5)]); s.portHere p = true ∧ s.portState p = 5 ∧ (s.port p).group ≤ 4 ∧ s.attachable p = false) ∧
    (let p := 0; let s := (wn [(WR.ING_PORT_STATUS_STATE 0, 4)]); s.portHere p = true ∧ s.portState p ≠ 0 ∧ s.portState p ≠ 5 ∧ s.portState p ≠ 6) ∧
    (let p := 0; let s := { (wn [(WR.ING_PORT_STATUS_STATE 0, 4)]) with now := 5000 }; s.portState p ≠ 0 ∧ s.portState p ≠ 5 ∧ s.portState p ≠ 6 ∧ (∀ l ∈ s.portLanes p, s.wget (WR.ING_LANE_STATUS_STATE l) < 2 ∧ (s.lane l).lostAt + 4096 ≤ s.tick)) ∧
    (let l := 0; let body := 3 * 2 ^ 53; let s := (wn [(WR.ING_LANE_STATUS_STATE 0, 3)]); let p := s.lanePort l; s.laneUp l = true ∧ s.laneK l = 0 ∧ bits 55 53 body = 3 ∧ s.partnerHolds p = false) ∧
    (let p := 0; let s := { (wn [(WR.SYS_STATE_STATE, 2)]).modDlink 0 fun d => { d with claimAt := some 0 } with now := 32768 }; s.portHere p = true ∧ 2 ≤ s.ws ∧ (∀ t, (s.dlink p).claimAt = some t → t + 32768 ≤ s.tick)) ∧
    (let p := 0; let c := (⟨0x07, 0, 0, 0⟩ : DlCmd); let r := []; let s := (wn [(WR.SYS_STATE_STATE, 2)]).modDlink 0 fun d => { d with p3 := [⟨0x07, 0, 0, 0⟩] }; p < s.lanesCount ∧ 2 ≤ s.ws ∧ s.tick % 32 = 0 ∧ (s.dlink p).busy ≤ s.tick ∧ s.nonFirst p = false ∧ s.isRun = true ∨ State.safeCmd c = true ∧ ((s.dlink p).p1 = c :: r ∨ (s.dlink p).p1 = [] ∧ (s.dlink p).claimDue = false ∧ (s.dlink p).p3 = c :: r)) ∧
    (let p := 0; let tag := 0; let a := (⟨0, 4, 2, 0⟩ : Access); let s := (wn []).modDlink 0 fun d => { d with waits := [⟨0, 4, 2, 0⟩] }; (s.dlink p).waits.find? (fun a => a.tag == tag) = some a ∧ a.kind = 2) ∧
    (let p := 0; let a := (⟨0, 4, 2, 0⟩ : Access); let s := (wn []).modDlink 0 fun d => { d with waits := [⟨0, 4, 2, 0⟩] }; (s.dlink p).waits = [a] ∧ a.kind = 2 ∧ a.due ≤ s.now ∧ s.can.wait = none) ∧
    (let n := 0; let k := 2; let addr := 0x10000000; let m := 3; let i := 0; let s := wn [(WR.SYS_STATE_STATE, 2)]; n < s.cores.length ∧ 2 ≤ s.ws ∧ (s.core n).halted = false ∧ addr % 2 ^ k = 0 ∧ (regionOf addr).isMem = true ∧ ¬ (regionOf addr = .yard ∧ s.inStall addr = true) ∧ ¬ (s.variant = 2 ∧ regionOf addr = .history) ∧ memAt addr = some (m, i) ∧ s.flipsOf m i = 0 ∧ (s.core n).pmpOk addr (2 ^ k) false true false (s.core n).dataUser = true) ∧
    (let n := 0; let addr := 0x10000000; let rd := 1; let s := wn [(WR.SYS_STATE_STATE, 2)]; n < s.cores.length ∧ 2 ≤ s.ws ∧ (s.core n).halted = false ∧ addr % 4 = 0 ∧ regionOf addr = .core ∧ (s.core n).pmpOk addr 4 false false true (s.core n).dataUser = true ∧ (s.core n).lr = none ∧ rd < (s.core n).x.length ∧ rd ≠ 0) ∧
    ((wn []).lanesCount ≤ 48 ∧ 0 < (wn []).lanesCount ∧ (wn []).proxyOk 0 = false ∧ (wn [(WR.ING_PORT_STATUS_STATE 0, 4)]).proxyOk 0 = true) ∧
    ((wn [(WR.ING_PORT_STATUS_STATE 0, 4), (WR.SYS_STATE_STATE, 4)]).proxyOk 0 = true ∧ (wn [(WR.ING_PORT_STATUS_STATE 0, 4), (WR.SYS_STATE_STATE, 4)]).isRun = true ∧ (wn []).isRun = false) := by
  refine ⟨?_, ?_, ?_, ?_, ?_, ?_, ?_, ?_, ?_, ?_, ?_, ?_, ?_, ?_⟩ <;> first | decide | exact rfl

set_option maxRecDepth 4000 in
/-- A state for each clause of `MusterEvents`. -/
theorem wit_MusterEvents :
    (let l := 0; let s := wn [(WR.ING_LANE_STATUS_STATE 0, 2)]; s.laneUp l = true) ∧
    (let l := 0; let w := 0; let f := (⟨none, 0, 0, 0, 0, false⟩ : RxFrag); let s := musW 0 none []; let p := s.lanePort l; let k := s.laneK l; s.laneUp l = true ∧ s.building' = true ∧ w / 2 ^ 62 < 2 ∧ s.musMode = 0 ∧ SMap.find k (s.prx p).frag = some f) ∧
    (let l := 0; let s := musW 0 none []; s.laneUp l = true ∧ s.building' = true ∧ s.musMode = 0) ∧
    (let l := 0; let f := (⟨some 0, 0, 0, 0, 0, false⟩ : RxFrag); let key := (0 : Int); let x := sec0; let s := musW 0 (some 0) []; let p := s.lanePort l; let k := s.laneK l; s.laneUp l = true ∧ s.building' = true ∧ s.musMode = 0 ∧ SMap.find k (s.prx p).frag = some f ∧ f.ev = some key ∧ f.lost = false ∧ s.openSec key p = some x) ∧
    (let l := 0; let s := musW 2 none []; s.laneUp l = true ∧ s.building' = true ∧ s.musMode = 2) ∧
    (let key := 0; let e := ev0 [sec0]; let s := musW 0 none []; s.musMode = 0 ∧ s.ev key = some e) ∧
    (let slot := 5; let s := musW 0 none []; s.ev slot = none) ∧
    (let s := wn []; s.pinned = none ∧ s.pairOn = false) ∧
    (let slot := 0; let s := (wn []).modMus fun m => { m with cands := [⟨0, false⟩] }; s.pairOn = false ∧ (s.mus.cands.any fun c => c.slot == (slot : Int)) = true) ∧
    (let x := (⟨0, 0, 0, 7⟩ : StallWord); let s := (wn [(WR.MUS_WIN_W_PRE, 0), (WR.MUS_WIN_W_POST, 32)]).modMus fun m => { m with cands := [⟨0, false⟩], stall := [(0, [⟨0, 0, 0, 7⟩])] }; (s.mus.cands.any fun c => c.slot == s.viewSlot) = true ∧ (s.window (s.wget WR.MUS_VIEW_SEL_PORT) s.viewSlot)[s.mus.view]? = some x) ∧
    (let e := ev0 []; let r := []; let s := (wn [(WR.MUS_STATUS_BUILDING, 1)]).modMus fun m => { m with evs := [ev0 []] }; s.musMode = 0 ∧ s.mus.evs = e :: r ∧ s.building' = true ∧ s.evReady e = true) ∧
    ((musW 0 (some 0) []).walkNone 0 0 = true ∧ (musW 0 (some 0) []).openSec 0 0 = some sec0 ∧ { (musW 0 (some 0) []) with image := some ⟨1, 0, 0, 0, [], [], [(2, 0, 1)], [], []⟩ }.mus.yard + 8 ≤ { (musW 0 (some 0) []) with image := some ⟨1, 0, 0, 0, [], [], [(2, 0, 1)], [], []⟩ }.partSize 2) ∧
    ((let s := { (musW 0 none []) with now := 100000000 }; let e := ev0 [sec0]; e.due + s.evtTmo ≤ (s.tick : Int) ∧ e.secs = [sec0] ∧ sec0.settled = 0 ∧ sec0.arrived = true) ∧ ((musW 0 none []).tick : Int) < (ev0 [sec0]).due + (musW 0 none []).evtTmo) ∧
    ((let s := { (wn []) with now := 100000000 }; 32 * 0 + s.horizon * 32 ≤ s.tick) ∧ (wn []).tick < 32 * 0 + (wn []).horizon * 32) := by
  refine ⟨?_, ?_, ?_, ?_, ?_, ?_, ?_, ?_, ?_, ?_, ?_, ?_, ?_, ?_⟩ <;> first | decide | exact rfl

set_option maxRecDepth 8000 in
/-- A state for each clause of `TriggersAndPrimitives`. -/
theorem wit_TriggersAndPrimitives :
    (let link := false; let word := 1153153501560307712; let s := wn [(WR.SYS_STATE_STATE, 4), (WR.MUS_CFG_TL0_EN, 1)]; let t := b2n link; State.decisionOk word = true ∧ bits 63 60 word = 1 ∧ s.tlEn t = true ∧ s.pairOn = false ∧ s.isRun = true ∧ s.musMode = 0) ∧
    (let a := (⟨0, 0, 0, 0⟩ : AccIn); let s := (wn [(WR.SYS_STATE_STATE, 4), (WR.MUS_STATUS_BUILDING, 1)]).modMus fun m => { m with accs := [⟨0, 0, 0, 0⟩] }; s.isRun = true ∧ s.musMode = 0 ∧ s.tick % 32 = 0 ∧ s.mus.accs = [a] ∧ a.cell ≤ s.tick / 32 ∧ s.building' = true ∧ s.pairOn = false) ∧
    (let slot := 0; let s := { (wn []) with now := 246 }; s.tick + 10 = s.releaseTick slot) ∧
    (let slot := 0; let s := { (wn [(WR.SYS_STATE_STATE, 2)]) with now := 256 }; s.tick = s.releaseTick slot ∧ 2 ≤ s.ws) ∧
    (let slot : Nat := 0; let s := { (wn [(WR.SYS_STATE_STATE, 4)]).modMus fun m => { m with fired := [(0, true)] } with now := 300 }; s.isRun = true ∧ (s.mus.fired.any fun x => x.1 == (slot : Int) && x.2) = true ∧ s.releaseTick slot ≤ s.tick ∧ s.musMode = 0 ∧ s.pairOn = false) ∧
    (let slot := 0; let s := (wn []).modMus fun m => { m with fired := [(0, false)], cands := [⟨0, true⟩] }; (s.mus.fired.any fun x => x.1 == (slot : Int) && !x.2) = true ∧ (s.mus.cands.any fun c => c.slot == (slot : Int) && c.complete) = true ∧ s.wget WR.MUS_STATUS_SHED_SPEC = 0 ∧ s.wget WR.MUS_STATUS_SHED_SELF = 0) ∧
    ((let s := (wn []).modMus fun m => { m with fired := [(0, false)], cands := [⟨0, true⟩] }; s.wget WR.MUS_SELF_THR1_MIN_HITS ≤ s.contentHits 0 ∧ s.selfFree 0 = true) ∧ (wn [(WR.MUS_SELF_THR1_MIN_HITS, 1)]).contentHits 0 < (wn [(WR.MUS_SELF_THR1_MIN_HITS, 1)]).wget WR.MUS_SELF_THR1_MIN_HITS) := by
  refine ⟨?_, ?_, ?_, ?_, ?_, ?_, ?_⟩ <;> first | decide | exact rfl

set_option maxRecDepth 20000 in
/-- A state for each clause of `PacketQueues`. -/
theorem wit_PacketQueues :
    (let n := 0; let s := wn [(WR.Q_CTRL_STAGED 0, 0)]; let q := s.queue n; s.qHere n = true ∧ q.discard = false ∧ q.held = [] ∧ s.staged n = false ∧ State.qFull n q = false ∧ s.wget (WR.Q_CTRL_NOTIFY_EN n) = 0) ∧
    (let n := 12; let s := { (wn [(WR.Q_CTRL_STAGED 12, 0)]) with queues := [(12, full12)] }; let q := s.queue n; s.qHere n = true ∧ q.discard = false ∧ q.held = [] ∧ s.staged n = false ∧ State.qFull n q = true ∧ s.wget (WR.Q_CTRL_NOTIFY_EN n) = 0) ∧
    (let n := 0; let s := wn []; let q := s.queue n; s.qHere n = true ∧ q.discard = false ∧ q.held = [] ∧ s.staged n = true ∧ State.qFull n q = false ∧ s.wget (WR.Q_CTRL_NOTIFY_EN n) = 0) ∧
    (let n := 0; let w := (⟨7, true, false⟩ : QWord); let r := []; let s := { (wn []) with queues := [(0, ⟨[⟨7, true, false⟩], 1, 0, false, false, []⟩)] }; let q := s.queue n; n ≠ 10 ∧ s.qHere n = true ∧ q.words = w :: r ∧ s.qVisible n ≠ 0 ∧ q.held = [] ∧ s.wget (WR.Q_CTRL_NOTIFY_EN n) = 0) ∧
    (let n := 0; let s := wn []; n ≠ 10 ∧ s.qVisible n = 0) ∧
    (let n := 0; let s := wn []; s.qHere n = true ∧ s.wget (WR.Q_CTRL_NOTIFY_EN n) = 0) ∧
    (let n := 0; let v := false; let s := wn []; s.qHere n = true ∧ b2n v ≠ s.wget (WR.Q_CTRL_STAGED n) ∧ s.wget (WR.Q_CTRL_NOTIFY_EN n) = 0) ∧
    (let s := wn [(WR.Q_CTRL_STAGED 14, 0)]; let q := s.queue 14; q.discard = false ∧ q.held = [] ∧ s.staged 14 = false ∧ State.qFull 14 q = false ∧ s.variant ≠ 2 ∧ s.wget (WR.Q_CTRL_NOTIFY_EN 14) = 0) ∧
    (State.qWaits 0 = true ∧ State.qWaits 13 = false ∧ Queue.empty.packet = 0 ∧ (⟨[], 0, 1, true, false, []⟩ : Queue).packet ≠ 0) := by
  refine ⟨?_, ?_, ?_, ?_, ?_, ?_, ?_, ?_, ?_⟩ <;> first | decide | exact rfl

set_option maxRecDepth 8000 in
/-- A state for each clause of `DmaAndFence`. -/
theorem wit_DmaAndFence :
    (let c := 0; let s := wn []; c < 16 ∧ s.wget (WR.DMA_EVT_EN c) = 0 ∧ s.dmaState c = 0 ∨ s.dmaState c = 3) ∧
    (let c := 0; let s := wn [(WR.DMA_STATUS_STATE 0, 1)]; s.dmaState c = 1 ∨ s.dmaState c = 2) ∧
    (let c := 0; let s := { wn [(WR.DMA_STATUS_STATE 0, 1), (WR.DMA_SRC_SRC 0, 0x20000000)] with image := some ⟨1, 0, 0, 0, [], [], [(3, 0, 1)], [], []⟩ }; let src := s.wget (WR.DMA_SRC_SRC c); s.dmaNext = some c ∧ s.inStall src = true ∧ s.wget (WR.DMA_EVT_EN c) = 0) ∧
    (let c := 0; let s := wn [(WR.DMA_STATUS_STATE 0, 1), (WR.DMA_SRC_SRC 0, 0x10000000), (WR.DMA_DST_DST 0, 0x10000100), (WR.FENCE_BASE_ADDR 0, 0x400000), (WR.FENCE_LIMIT_ADDR 0, 0x400010), (WR.FENCE_CFG_VALID 0, 1), (WR.FENCE_CFG_DMA_W 0, 1), (WR.FENCE_CFG_DMA_R 0, 1)]; let src := s.wget (WR.DMA_SRC_SRC c); let dst := s.wget (WR.DMA_DST_DST c); let i := (src - 0x10000000) / 4; s.dmaNext = some c ∧ s.inStall src = false ∧ s.fenceOk 6 false src 8 = true ∧ (s.mayWriteFenced 6 dst 8).1 = true ∧ 0x10000000 ≤ src ∧ src + 8 ≤ 0x10180000 ∧ src % 8 = 0 ∧ 0x10000000 ≤ dst ∧ dst + 8 ≤ 0x10180000 ∧ dst % 8 = 0 ∧ s.flipsOf 3 i = 0 ∧ s.flipsOf 3 (i + 1) = 0 ∧ s.wget WR.MEM_INJECT_ARM = 0 ∧ s.wget (WR.DMA_EVT_EN c) = 0) ∧
    (let c := 0; let s := wn [(WR.DMA_STATUS_STATE 0, 2), (WR.DMA_STATUS_REMAIN 0, 8), (WR.DMA_SRC_SRC 0, 0x10000000), (WR.DMA_DST_DST 0, 0x10000100)]; s.dmaState c = 2 ∧ State.dmaBad (s.wget (WR.DMA_SRC_SRC c)) (s.wget (WR.DMA_DST_DST c)) (s.wget (WR.DMA_STATUS_REMAIN c)) = none) ∧
    (let c := 0; let s := wn [(WR.DMA_STATUS_STATE 0, 2), (WR.DMA_STATUS_REMAIN 0, 8)]; s.dmaState c = 2 ∧ s.wget (WR.DMA_STATUS_REMAIN c) = 8 ∧ s.wget (WR.DMA_EVT_EN c) = 0) ∧
    (let c := 0; let s := wn [(WR.DMA_STATUS_STATE 0, 1)]; s.wget (WR.DMA_EVT_EN c) = 0) ∧
    (let row := 15; row < 16) ∧
    (State.dmaBad 0x10000000 0x10000100 8 = none ∧ State.dmaBad 4 0x10000100 8 = some 4 ∧ (wn []).dmaState 0 = 0 ∧ (wn [(WR.DMA_STATUS_STATE 0, 2)]).dmaState 0 = 2) := by
  refine ⟨?_, ?_, ?_, ?_, ?_, ?_, ?_, ?_, ?_⟩ <;> first | decide | exact rfl

set_option maxRecDepth 8000 in
/-- A state for each clause of `CompressionEngines`. -/
theorem wit_CompressionEngines :
    (let e := 0; let j := job0 []; let r := []; let s := (wn [(WR.SYS_STATE_STATE, 4)]).modCmp fun c => { c with redo := [job0 []] }; s.isRun = true ∧ s.formerServes = false ∧ (List.range s.engCount).find? (fun e => s.engState e == 0) = some e ∧ s.cmp.redo = j :: r) ∧
    (let j := job0 []; let r := []; let s := (wn [(WR.SYS_STATE_STATE, 4), (WR.CMP_CTRL_BYPASS, 1)]).modCmp fun c => { c with redo := [job0 []] }; s.isRun = true ∧ s.formerServes = true ∧ s.cmp.former = none ∧ s.cmp.redo = j :: r) ∧
    (let e := 0; let j := job0 []; let s := (wn [(WR.CMP_ENG_STATUS_STATE 0, 1)]).modCmp fun c => { c with engs := [(0, job0 [])] }; e < 16 ∧ SMap.find e s.cmp.engs = some j ∧ s.engState e = 1) ∧
    (let e := 0; let j := job0 []; let s := (wn [(WR.CMP_ENG_STATUS_STATE 0, 2)]).modCmp fun c => { c with engs := [(0, job0 [])] }; e < 16 ∧ SMap.find e s.cmp.engs = some j ∧ s.engState e = 2 ∧ s.cmp.waiting = [] ∧ s.cmp.table.length < 64) ∧
    (let j := job0 []; let s := (wn []).modCmp fun c => { c with former := some (job0 []) }; s.cmp.former = some j ∧ s.cmp.waiting = [] ∧ s.cmp.table.length < 64) := by
  refine ⟨?_, ?_, ?_, ?_, ?_⟩ <;> first | decide | exact rfl

set_option maxRecDepth 8000 in
/-- A state for each clause of `ReorderAndEngineControl`. -/
theorem wit_ReorderAndEngineControl :
    (let a := (⟨0, 0, [], 0, false, false, false, false, 0⟩ : Area); let s := (wn [(WR.SYS_STATE_STATE, 4)]).modCmp fun c => { c with table := [⟨0, 0, [], 0, false, false, false, false, 0⟩] }; s.isRun = true ∧ s.relNext < 2 ^ 64 ∧ s.cmp.waiting = [] ∧ s.cmp.table.find? (fun x => State.recSeq x.ctx0 == s.relNext) = some a) ∧
    (let s := (wn []).modCmp fun c => { c with inMs := 5, outMs := 4 }; 0 < s.cmp.outMs) ∧
    (let s := (wn []).modCmp fun c => { c with inS := 5, outS := 4 }; 0 < s.cmp.outS) ∧
    (let e := 15; let s := wn []; e < s.engCount) ∧
    (let e := 15; let s := wn [(WR.CMP_ENG_STATUS_STATE 15, 4)]; e < s.engCount ∧ s.engState e = 4) ∧
    (let e := 15; let s := wn [(WR.CMP_ENG_STATUS_STATE 15, 5)]; s.engState e = 5) ∧
    ((wn []).ws = 1 ∧ (wn [(WR.SYS_STATE_STATE, 2)]).ws = 2) := by
  refine ⟨?_, ?_, ?_, ?_, ?_, ?_, ?_⟩ <;> first | decide | exact rfl

set_option maxRecDepth 8000 in
/-- A state for each clause of `EgressPorts`. -/
theorem wit_EgressPorts :
    (let k := 7; let s := wn [(WR.ETH_P_STATUS_STATE 7, 1)]; s.epState k = 1) ∧
    (let k := 0; let s := wn [(WR.ETH_P_STATUS_STATE 0, 4)]; 2 ≤ s.epState k) ∧
    (let k := 0; let s := ({ (wn [(WR.ETH_P_STATUS_STATE 0, 1)]) with now := 1280000000 }).modEth fun e => { e with active := [0] }; s.eth.active.contains k = true ∧ s.epState k = 1 ∧ s.eth.pend = none ∧ SMap.getD 0 k s.eth.down + max 1 (s.wget WR.ETH_CFG_LINK_TMO) * Config.usTicks ≤ s.now) ∧
    (let k := 0; let b := ([0x01, 0x1B, 0x19, 0, 0, 0, 0, 0, 0, 0, 0, 0, 0x88, 0xF7, 11] : List Nat); let m := ([11] : List Nat); let s := wn [(WR.ETH_P_STATUS_STATE 0, 2)]; 2 ≤ s.epState k ∧ s.ptpOf k b = some m) ∧
    ((untag [0, 0, 0, 0, 0, 0, 0, 0, 0, 0, 0, 0, 0x88, 0x08]).2.1 = 0x8808 ∧ (wn []).ptpOf 0 [] = none ∧ (wn []).dictFrame 0 [] = false ∧ (wn []).epState 0 < 2) ∧
    ((wn [(WR.DICT_OPT_INBAND_EN, 1)]).ptpOf 0 ([0, 0, 0, 0, 0, 0, 0, 0, 0, 0, 0, 0, 8, 0, 0x45, 0, 0, 0, 0, 0, 0, 0, 0, 17, 0, 0, 0, 0, 0, 0, 0, 0, 0, 0, 0, 0, 0x13, 0x2F, 0, 8, 0, 0]) = none ∧ (wn [(WR.DICT_OPT_INBAND_EN, 1)]).dictFrame 0 ([0, 0, 0, 0, 0, 0, 0, 0, 0, 0, 0, 0, 8, 0, 0x45, 0, 0, 0, 0, 0, 0, 0, 0, 17, 0, 0, 0, 0, 0, 0, 0, 0, 0, 0, 0, 0, 0x13, 0x2F, 0, 8, 0, 0]) = true) ∧
    ((wn []).ptpOf 0 [0x01, 0x1B, 0x19, 0, 0, 0, 0, 0, 0, 0, 0, 0, 0x88, 0xF7, 1] = some [1]) := by
  refine ⟨?_, ?_, ?_, ?_, ?_, ?_, ?_⟩ <;> first | decide | exact rfl

set_option maxRecDepth 8000 in
/-- A state for each clause of `RecordSteering`. -/
theorem wit_RecordSteering :
    (let a := (⟨0, 0, [], 0, false, false, false, false, 0⟩ : Area); let again := false; let t := (({ (wn [(WR.SYS_STATE_STATE, 4)]) with variant := 2 }).modEth fun e => { e with active := [0] }); let s := (({ (wn [(WR.SYS_STATE_STATE, 4)]) with variant := 2 }).modEth fun e => { e with active := [0] }).modCmp fun c => { c with areas := [⟨0, 0, [], 0, false, false, false, false, 0⟩] }; s.isRun = true ∧ s.eth.pend = none ∧ s.nextArea = some (a, again, t) ∧ s.won WR.PAIR_CTRL_MUTE = false ∧ s.eth.active ≠ [] ∧ s.qBlocked (State.epQueue (s.route (State.recSeq a.ctx0)).1) = false) ∧
    (let k := 0; let x := (⟨0, ⟨0, 0, [], 0, false, false, false, false, 0⟩, 0, 0, [[1]], false, false⟩ : Steered); let f := [1]; let r := []; let s := { ((wn [(WR.ETH_P_STATUS_STATE 0, 4)]).modEth fun e => { e with active := [0], sent := [⟨0, ⟨0, 0, [], 0, false, false, false, false, 0⟩, 0, 0, [[1]], false, false⟩] }) with queues := [(2, { Queue.empty with words := [⟨0, true, false⟩], visible := 1 })] }; s.epState k = 4 ∧ s.qPkts (State.epQueue k) ≠ 0 ∧ s.eth.sent.find? (fun x => x.port == k && !x.frames.isEmpty) = some x ∧ x.frames = f :: r ∧ f ≠ []) ∧
    (let k := 0; let s := wn [(WR.ETH_P_STATUS_STATE 0, 2)]; s.epState k = 2 ∧ s.eth.pend = none) ∧
    (let k := 0; let s := wn []; s.epState k ≠ 2 ∨ s.eth.pend.isSome = true) ∧
    (let k := 0; let s := wn []; s.eth.active.contains k = false) ∧
    (let k := 0; let s := (wn [(WR.ETH_P_STATUS_STATE 0, 4)]).modEth fun e => { e with active := [0] }; s.eth.active.contains k = true ∧ s.epState k = 4 ∧ s.eth.pend = none) ∧
    (let b := 0; let p := none; let s := (wn []).modEth fun e => { e with pend := some (none, 0) }; s.eth.pend = some (p, b)) ∧
    ((wn [(WR.ETH_BOUND_LO_BOUND, 1)]).steerNext < (wn [(WR.ETH_BOUND_LO_BOUND, 1)]).wget WR.ETH_BOUND_LO_BOUND ∧ (wn []).eth.pend = none ∧ (wn []).steerNext = 0) ∧
    (((wn [(WR.ETH_P_STATUS_STATE 0, 3)]).modEth fun e => { e with pend := some (some 0, 5) }).epState 0 = 3 ∧ ((wn [(WR.ETH_P_STATUS_STATE 0, 3)]).modEth fun e => { e with pend := some (some 0, 5) }).eth.pend = some (some 0, 5)) := by
  refine ⟨?_, ?_, ?_, ?_, ?_, ?_, ?_, ?_, ?_⟩ <;> first | decide | exact rfl

set_option maxRecDepth 8000 in
/-- A state for each clause of `PaceAndShedding`. -/
theorem wit_PaceAndShedding :
    (let s := wn []; s.ws ≠ 4 ∧ s.ws ≠ 5) ∧
    (let counts := List.replicate 8 300; let c := 300; let r := List.replicate 7 300; let s := (wn [(WR.ADM_VCORE_GOV_EN, 1), (WR.ADM_VCORE_SET, 900), (WR.ADM_VCORE_LIM_VMAX, 1000), (WR.ADM_PACE_CFG_ADMIT_PACE, 500)]).modGov fun g => { g with live := true }; let set := max s.vmin (min s.vmax (s.wget WR.ADM_VCORE_SET)); s.ws ≠ 4 ∧ s.ws ≠ 5 ∧ s.gov.live = true ∧ s.won WR.ADM_VCORE_GOV_EN = true ∧ s.gov.pause = 0 ∧ 5 ≤ (s.ringsUsed counts).length ∧ (s.ringsUsed counts).map (fun n => counts.getD n 0) = c :: r ∧ min 65535 (r.foldl min c) < s.admitPace + s.wget WR.ADM_PACE_CFG_GUARD ∧ set < s.vmax) ∧
    (let s := { (wn [(WR.SYS_STATE_STATE, 5), (WR.MUS_CFG_MODE, 2)]).modGov fun g => { g with cause := true } with now := 12800000000 }; s.ws = 5 ∧ s.gov.cause = true ∧ s.gov.step < 3 ∧ s.canShed (s.gov.step + 1) = true ∧ s.gov.since + max 1 (s.wget WR.ADM_SHED_CFG_STEP_US) * Config.usTicks ≤ s.now) ∧
    (let t := 0; let s := { (wn [(WR.SYS_STATE_STATE, 5)]).modGov fun g => { g with step := 1, quiet := some 0 } with now := 12800000000000 }; s.ws = 5 ∧ s.gov.quiet = some t ∧ t + max 1 (s.wget WR.ADM_SHED_CFG_RECOVER_MS) * Config.msTicks ≤ s.now) ∧
    (((wn []).modGov fun g => { g with cycle := some (true, 0) }).gov.cycle = some (true, 0) ∧ ((wn []).modGov fun g => { g with cycle := some (false, 0) }).gov.cycle = some (false, 0)) := by
  refine ⟨?_, ?_, ?_, ?_, ?_⟩ <;> first | decide | exact rfl

/-- The small image passes every check. -/
theorem test_good_image_passes : (State.reset.admOf (readImage goodImage)).check = none := by decide +kernel

set_option maxRecDepth 20000 in
/-- A state for each clause of `ImagesAndRun`. -/
theorem wit_ImagesAndRun :
    (let s := wn [(WR.SYS_STATE_STATE, 2)]; s.ws = 2 ∧ s.sys.busy = 0) ∧
    (let y := ((wn [(WR.SYS_STATE_STATE, 2)]).setBytes 0x20F80000 goodImage).yardCopy; let n := ((wn [(WR.SYS_STATE_STATE, 2)]).setBytes 0x20F80000 goodImage).norCopy; let s := (wn [(WR.SYS_STATE_STATE, 2)]).setBytes 0x20F80000 goodImage; s.ws = 2 ∧ s.sys.busy = 0 ∧ s.yardCopy = y ∧ s.norCopy = n) ∧
    (let s := (wn []).modSys fun y => { y with busy := 1 }; s.sys.busy = 1) ∧
    (let n := 0; let s := { ((wn [(WR.SYS_STATE_STATE, 3)]).modSys fun y => { y with raw := List.replicate 8 1 }) with image := some (readImage goodImage).image }; s.ws = 3 ∨ s.ws = 4 ∧ s.image.isSome = true ∧ s.sys.store = none ∧ s.sys.raw.length = n + 8) ∧
    (let n := 0; let t := 0; let s := (wn []).modSys fun y => { y with raw := List.replicate 8 1, store := some 0 }; s.sys.store = some t ∧ s.sys.raw.length = n + 8) ∧
    (let s := wn [(WR.SYS_STATE_STATE, 3), (WR.MER_STATUS_TIME_VALID, 1)]; s.ws = 3 ∧ s.timeValid = true) ∧
    (let s := wn [(WR.SYS_STATE_STATE, 4)]; s.isRun = true) ∧
    (let r := (readImage ((wn [(WR.SYS_STATE_STATE, 2)]).modSys fun y => { y with busy := 2 }).yardCopy); let s := (wn [(WR.SYS_STATE_STATE, 2)]).modSys fun y => { y with busy := 2 }; s.ws = 2 ∧ s.sys.busy = 2 ∧ readImage s.yardCopy = r) ∧
    (imgValid goodImage = true ∧ ((wn [(WR.SYS_STATE_STATE, 2)]).setBytes 0x20F80000 goodImage).yardCopy = goodImage ∧ ((wn [(WR.SYS_STATE_STATE, 2)])).norCopy = List.replicate 32 255) ∧
    (((State.reset.admOf (readImage [])).check) ≠ none) ∧
    ((wn [(WR.SYS_BOOT_AUTO_RUN, 1), (WR.SYS_STATE_STATE, 3), (WR.MER_STATUS_TIME_VALID, 1)]).timeValid = true ∧ (wn [(WR.SYS_BOOT_AUTO_RUN, 1)]).won WR.SYS_BOOT_AUTO_RUN = true ∧ (wn [(WR.SYS_BOOT_AUTO_RUN, 1)]).won WR.SYS_BOOT_STORM = false ∧ (wn []).won WR.SYS_BOOT_AUTO_RUN = false) := by
  refine ⟨?_, ?_, ?_, ?_, ?_, ?_, ?_, ?_, ?_, ?_, ?_⟩ <;> first | decide | exact rfl

set_option maxRecDepth 8000 in
/-- A state for each clause of `GroomLogAndRegisterAccess`. -/
theorem wit_GroomLogAndRegisterAccess :
    (let m := 0; let s := wn [(WR.SYS_STATE_STATE, 2), (WR.MEM_CTRL_GROOM_EN, 1)]; let i := s.mems.cursors.getD m 0; s.groomRuns = true ∧ m < 6 ∧ s.flipsOf m i = 0 ∧ i + 1 < memWords m ∧ s.mems.wrapped.length < 6) ∧
    (let m := 0; let s := (wn [(WR.SYS_STATE_STATE, 2), (WR.MEM_CTRL_GROOM_EN, 1)]).modMems fun x => { x with cursors := [1048575, 0, 0, 0, 0, 0], wrapped := [1, 2, 3, 4, 5] }; let i := s.mems.cursors.getD m 0; s.groomRuns = true ∧ m < 6 ∧ s.flipsOf m i = 0 ∧ memWords m ≤ i + 1 ∧ s.mems.wrapped.length = 5 ∧ m ∉ s.mems.wrapped) ∧
    (let m := 3; let flip := 1; let s := wn [(WR.SYS_STATE_STATE, 2), (WR.MEM_CTRL_GROOM_EN, 1)]; let i := s.mems.cursors.getD m 0; s.groomRuns = true ∧ m < 5 ∧ s.ws ≠ 6 ∧ s.flipsOf m i = 0 ∧ i + 1 < memWords m ∧ s.mems.wrapped.length < 6 ∧ flip < 2 ^ ((memSpec m).1 + (memSpec m).2.2) ∧ memClass m (syndrome m flip) = 1 ∧ s.mems.log.length < 32) ∧
    (let m := 3; let i := 5; let r := [(2, 1)]; let s := (wn [(WR.SYS_STATE_STATE, 2), (WR.MEM_CTRL_GROOM_EN, 1)]).modMems fun x => { x with confirm := [(3, 5), (2, 1)] }; s.groomRuns = true ∧ s.mems.confirm = (m, i) :: r ∧ s.flipsOf m i = 0) ∧
    (let m := 0; let g := 0; let e := 0; let s := wn []; s.farSel = (m, g, e) ∧ m < 5 ∧ g < memGroups m) ∧
    (let a := WR.MEM_CTRL; a ∈ [WR.MEM_CTRL, WR.ADM_PACE_CFG, WR.CMP_CTRL, WR.MUS_CFG]) ∧
    (let a := 0x40030400; let s := { (wn []) with variant := 3 }; a < 0x40098000 ∧ s.regHere a = false) ∧
    (let n := 0; n < 4) ∧
    (bit 31 (2 ^ 31 + 5) = true ∧ ((wn []).farEntry 0 0 0).valid = false ∧ farKey 0 0 (bits 19 16 (2 ^ 31 + 5)) ∉ (wn []).mems.bad ∧ (∀ k < 16, ((wn []).farEntry 0 0 k).valid = false) ∧ (((wn []).setFar 0 0 0 ⟨true, 0, 0⟩).farEntry 0 0 0).valid = true) ∧
    ((wn []).pmpData 9 WR.MEM_CTRL 4 false = true ∧ (wn []).pmpData 9 WR.MEM_CTRL 4 true = true ∧ ((wn []).modCore 0 fun c => { c with user := true }).pmpData 1 0x40000000 4 false = false ∧ ((wn []).modCore 0 fun c => { c with user := true }).pmpData 1 0x40000000 4 true = false) ∧
    (((wn []).modMems fun x => { x with log := [⟨3, 1, 0, 0, 0, 1, 5, 0⟩] }).mems.log = [⟨3, 1, 0, 0, 0, 1, 5, 0⟩] ∧ (wn []).mems.log = []) := by
  refine ⟨?_, ?_, ?_, ?_, ?_, ?_, ?_, ?_, ?_, ?_, ?_⟩ <;> first | decide | exact rfl

set_option maxRecDepth 8000 in
/-- A state for each clause of `SchedulerEventsAndPosts`. -/
theorem wit_SchedulerEventsAndPosts :
    (let value := 2 ^ 15; let t := 1; let f := 0; t = bits 24 15 value ∧ f = bits 29 25 value) ∧
    (let e := 0; let t := 0; let s := wn []; t = s.wget (WR.SCH_ROUTE_TASK e)) ∧
    (let value := 0; let t := 0; let sel := 0; t = bits 24 15 value ∧ sel = bits 13 12 value) ∧
    (let t := 1; t ≠ 0) ∧
    (let p := 0; let s := wn [(WR.SYS_STATE_STATE, 2), (WR.SCH_TRACE_CTRL_EN, 1)]; p = s.wget WR.SCH_TRACE_CTRL_WPTR ∧ s.won WR.SCH_TRACE_CTRL_EN = true ∧ s.won WR.SCH_TRACE_CTRL_FREEZE = false ∧ s.ws ≠ 0 ∧ s.ws ≠ 1) ∧
    (let n := 0; let s := wn []; n < s.cores.length) ∧
    (let n := 0; let s := wn []; n < 4 ∧ s.sch.cores.length = 4) ∧
    (((wn [(WR.SCH_T_CFG_EN 1, 1)]).newItem 1 true none 0 0).hasFlagItem 1 = true ∧ (wn [(WR.SCH_T_CFG_EN 1, 1)]).taskEn 1 = true ∧ (wn [(WR.SCH_T_CFG_EN 1, 1)]).hasFlagItem 1 = false ∧ (wn []).taskEn 1 = false ∧ ((wn [(WR.SCH_T_CFG_EN 1, 1), (WR.SCH_T_MASK_MASK 1, 1)]).wset (WR.SCH_T_FLAGS_FLAGS 1) 1).flagsMeet 1 = true ∧ (wn []).sch.chip.length = 16) ∧
    ((wn [(WR.SCH_ROUTE_EN 0, 1)]).won (WR.SCH_ROUTE_EN 0) = true ∧ (wn [(WR.SCH_ROUTE_EN 0, 1)]).taskEn 0 = true ∧ ((wn [(WR.SCH_ROUTE_EN 0, 1)]).newItem 0 true none 0 0).hasFlagItem 0 = true) ∧
    ((wn []).taskEn 0 = true ∧ 1024 < (wn []).freePlaces) ∧
    (((wn []).modSys fun y => { y with fw := true }).sys.fw = true ∧ (wn []).sys.fw = false ∧ ((wn []).core 1).pc = 0 ∧ ((wn []).core 1).halted = false ∧ 1 < (wn []).cores.length) ∧
    ((wn []).mtime % 25000000 = 0) := by
  refine ⟨?_, ?_, ?_, ?_, ?_, ?_, ?_, ?_, ?_, ?_, ?_, ?_⟩ <;> first | decide | exact rfl

set_option maxRecDepth 8000 in
/-- A state for each clause of `SchedulerDispatch`. -/
theorem wit_SchedulerDispatch :
    (let n := 0; let l := 3; let i := item3; let s := loneW; n < s.sch.cores.length ∧ n < 4 ∧ l < 16 ∧ s.sch.chip.length = 16 ∧ i.level = l ∧ (∀ k < 16, s.sch.chip.getD k [] = if k = l then [i] else []) ∧ (∀ k < 4, k ≠ n → s.coreUp k = false) ∧ s.coreUp n = true ∧ (s.schCore n).res = none ∧ s.eligible n i = true) ∧
    (let s := wn []; (∀ k < 16, s.sch.chip.getD k [] = [])) ∧
    (let n := 0; let s := loneW; n < 4 ∧ n < s.sch.cores.length) ∧
    (let n := 0; let s := (wn []).modSchCore 0 fun c => { c with run := some item3 }; n < s.sch.cores.length) ∧
    (let n := 0; let s := (wn []).modSchCore 0 fun c => { c with np := some 0 }; n < s.sch.cores.length) ∧
    (let n := 0; let t := 0; let s := { (wn []).modSchCore 0 fun c => { c with np := some 0 } with now := 1280 * 1000000 }; (s.schCore n).np = some t ∧ t + s.wget (WR.SCH_C_CTRL_BC n) * 25 < s.mtime) ∧
    (let n := 0; let s := wn []; n < s.sch.cores.length) ∧
    (let l := 3; let i := item3; let r := []; let s := (wn []).modSch fun x => { x with spill := x.spill.mapIdx fun k q => if k = 3 then [item3] else q }; s.sch.spill.getD l [] = i :: r ∧ l < s.sch.spill.length ∧ l < s.sch.chip.length ∧ (s.sch.chip.getD l []).length < 256) ∧
    (let l := 3; let s := { loneW with now := 1280 * 1000000 }; l + 1 < s.sch.chip.length ∧ (s.sch.chip.getD (l + 1) []).length < 256 ∧ s.sch.spill.getD (l + 1) [] = []) ∧
    ((loneW.schCore 0).run = none ∧ (loneW.modSchCore 0 fun c => { c with run := some { item3 with prio := 1 } }).sch.cores.map (fun c => c.run.isSome) = [true, false, false, false]) ∧
    ((((wn []).modSchCore 0 fun c => { c with res := some item3 }).schCore 0).res = some item3 ∧ item3.isFlag = false ∧ item3.resume = false) ∧
    (({ loneW with now := 1280 * 1000000 }).sch.chip.getD 3 [] = [item3]) := by
  refine ⟨?_, ?_, ?_, ?_, ?_, ?_, ?_, ?_, ?_, ?_, ?_, ?_⟩ <;> first | decide | exact rfl

set_option maxRecDepth 8000 in
/-- A state for each clause of `PeriodicSlotsAndStandstill`. -/
theorem wit_PeriodicSlotsAndStandstill :
    (let k := 0; let r := 0; let t := 0; let s := ((wn []).newItem 0 true none 0 0).modSch fun x => { x with perNext := [(0, 0)] }; SMap.find k s.sch.perNext = some r ∧ r * 25 ≤ s.mtime ∧ t = s.wget (WR.SCH_PER_CFG_TASK k) ∧ s.taskEn t = true ∧ s.hasFlagItem t = true ∧ k < 64 ∧ t < 1024) ∧
    (let k := 0; let s := wn []; SMap.find k s.sch.perNext = none ∨ (∃ r, SMap.find k s.sch.perNext = some r ∧ s.mtime < r * 25)) ∧
    ((wn [(WR.SYS_STATE_STATE, 2)]).isOpen = true ∧ bit 31 (2 ^ 31) = true ∧ (wn []).isOpen = false ∧ (wn []).won (WR.SCH_PER_CFG_EN 0) = false) ∧
    (({ (wn []) with now := 12800000 }).standing = true ∧ ({ (wn []) with now := 12800000 }).sch.standDone = false ∧ 0 < ({ (wn []) with now := 12800000 }).mtime) ∧
    (((wn []).modSchCore 0 fun c => { c with run := some ⟨1, true, false, none, 3, false, 0, 3, 0, 0, 0, 0, [(0, 0)], 31⟩ }).items.map (·.rels) = [[(0, 0)]]) := by
  refine ⟨?_, ?_, ?_, ?_, ?_⟩ <;> first | decide | exact rfl

set_option maxRecDepth 8000 in
/-- A state for each clause of `MailboxesAndLocks`. -/
theorem wit_MailboxesAndLocks :
    (let m := 0; let j := 0; m < 16 ∧ j < 8) ∧
    (let m := 0; m < 16) ∧
    (let m := 0; let l := 0; let s := { (wn []) with variant := 1 }; m < 16 ∧ l = s.wget (WR.MBX_LKCFG_LEASE m) ∧ (SMap.find m s.mbx.leases = none ∨ ∃ t, SMap.find m s.mbx.leases = some t ∧ s.mtime < t)) ∧
    (let m := 0; let s := { (wn []) with variant := 1 }; m < 16 ∧ (SMap.find m s.mbx.leases = none ∨ ∃ t, SMap.find m s.mbx.leases = some t ∧ s.mtime < t)) ∧
    (let m := 0; let t := 0; let s := (wn []).modMbx fun x => { x with leases := [(0, 0)] }; m < 16 ∧ SMap.find m s.mbx.leases = some t) ∧
    (let m := 0; let s := { (wn []) with variant := 1 }; m < 16 ∧ (SMap.find m s.mbx.leases = none ∨ ∃ t, SMap.find m s.mbx.leases = some t ∧ s.mtime < t)) ∧
    ((wn []).mbxFull 0 = false ∧ (wn [(WR.MBX_STATUS_FULL 0, 1)]).mbxFull 0 = true ∧ (wn []).pairOn = false ∧ (wn [(WR.PAIR_CFG_EN, 1), (WR.PAIR_CFG_FW_EN, 1)]).pairOn = true ∧ (wn [(WR.MBX_STATUS_OWNER 0, 1)]).lockOwner 0 = 1 ∧ (wn []).lockOwner 0 = 0) := by
  refine ⟨?_, ?_, ?_, ?_, ?_, ?_, ?_⟩ <;> first | decide | exact rfl

set_option maxRecDepth 8000 in
/-- A state for each clause of `ConsoleUartAndLoft`. -/
theorem wit_ConsoleUartAndLoft :
    (let data := 0; let par := false; let stop := true; let pe := false; let brk := false; let s := (wn [(WR.UART_CTRL_RX_EN, 1)]).modMbx fun x => { x with uartIn := true }; s.pinsHeld = false ∧ s.won WR.UART_CTRL_RX_EN = true ∧ s.mbx.uartIn = true ∧ pe = (s.won WR.UART_CTRL_PAR_EN && par != s.uartParity data) ∧ brk = (!stop && data % 256 == 0 && !(s.won WR.UART_CTRL_PAR_EN && par))) ∧
    ((wn [(WR.UART_CTRL_RX_EN, 1)]).won WR.UART_CTRL_RX_EN = true ∧ (wn []).pinsHeld = false ∧ (wn []).mbx.uartIn = false ∧ (wn []).mbx.uartTx = [] ∧ (wn []).mbx.uartEnd = none ∧ (wn [(WR.UART_CTRL_TX_EN, 1)]).won WR.UART_CTRL_TX_EN = true ∧ (wn []).mbx.uartRx = []) ∧
    (((wn []).modMbx fun x => { x with uartRx := [65], uartTx := [66], uartEnd := some 0 }).mbx.uartRx = [65] ∧ ((wn []).modMbx fun x => { x with uartRx := [65], uartTx := [66], uartEnd := some 0 }).mbx.uartEnd = some 0) := by
  refine ⟨?_, ?_, ?_⟩ <;> first | decide | exact rfl

/-- A state for each clause of `TestAccessPorts`. -/
theorem wit_TestAccessPorts :
    (let chip := 1; chip ≠ 0) ∧
    (({ State.reset with dbg := { Dbg.reset with active := true } } : State).dbg.active = true ∧ bit 0 1 = true ∧ bit 0 2 = false ∧ State.reset.dbg.active = false) := by
  refine ⟨?_, ?_⟩ <;> first | decide | exact rfl

set_option maxRecDepth 8000 in
/-- A state for each clause of `DebugModule`. -/
theorem wit_DebugModule :
    (let n := 0; let s := { wn [(WR.SYS_STATE_STATE, 2)] with dbg := { Dbg.reset with active := true }, sys := { Sys.reset with boot := 1 } }; let c := s.core n; n < s.cores.length ∧ s.hartUp = true ∧ c.halted = false) ∧
    (let n := 0; let s := State.reset; s.hartUp = false ∨ (s.core n).halted = true) ∧
    (let n := 0; let s := { State.reset with dbg := { Dbg.reset with active := true }, cores := [{ Core.reset with halted := true }] }; let c := s.core n; n < s.cores.length ∧ s.dbg.active = true ∧ c.halted = true) ∧
    (let n := 0; let s := State.reset; s.dbg.active = false ∨ (s.core n).halted = false) ∧
    (let n := 0; let v := 0x00221001; let s := { State.reset with dbg := { Dbg.reset with active := true }, cores := [{ Core.reset with halted := true }] }; n < s.cores.length ∧ s.dbg.active = true ∧ s.dbg.cmderr = 0 ∧ bits 31 24 v = 0 ∧ bit 19 v = false ∧ bit 17 v = true ∧ bits 22 20 v = 2) ∧
    (let clear := false; let s := { State.reset with dbg := { Dbg.reset with active := true } }; s.dbg.active = true ∧ clear = true ∨ s.dbg.sberror = 0) ∧
    (bit 16 0x00231001 = true ∧ bit 17 0x00231001 = true ∧ bits 22 20 0x00231001 = 2 ∧ bits 31 24 0x01221001 ≠ 0 ∧ bit 16 0x00221001 = false ∧ 0x00221F14 % 65536 = 0x1F14 ∧ 0x00220F14 % 65536 = 0xF14 ∧ 0x00230340 % 65536 = 0x340 ∧ regionOf 0 = .rom ∧ regionOf 0xF0000000 = .unmapped ∧ ({ Core.reset with halted := true } : Core).halted = true) := by
  refine ⟨?_, ?_, ?_, ?_, ?_, ?_, ?_⟩ <;> first | decide | exact rfl

set_option maxRecDepth 8000 in
/-- A state for each clause of `PowerStageFollowsTheSupply`. -/
theorem wit_PowerStageFollowsTheSupply :
    (let n := 0; let s := { State.reset with pwr := { Pwr.reset with uvlo := false, ovlo := false, latched := false, offAt := none, faults := [] } }; s.converterOn = true ∧ n = (s.pwr.faults.filter fun t => decide (s.now < t + Config.secTicks)).length) ∧
    (let s := { State.reset with pwr := { Pwr.reset with uvlo := true } }; s.converterOn = false) ∧
    (let t := 0; let s := { State.reset with now := 10 ^ 9, pwr := { Pwr.reset with offAt := some 0 } }; s.pwr.offAt = some t) := by
  refine ⟨?_, ?_, ?_⟩ <;> first | decide | exact rfl

set_option maxRecDepth 8000 in
/-- A state for each clause of `ResetsWatchdogFatal`. -/
theorem wit_ResetsWatchdogFatal :
    (let r := ⟨false, 7, 0, false⟩; let s := { wn [(WR.SYS_STATE_STATE, 6)] with sys := { Sys.reset with rst := some ⟨false, 7, 0, false⟩ } }; s.sys.rst = some r ∧ r.done = false ∧ r.cause < 8) ∧
    (let s := State.reset; s.sys.rst = none) ∧
    (let t := 5; let s := { wn [(WR.SYS_STATE_STATE, 2)] with now := 5, sys := { Sys.reset with wdSeg := some 0 } }; t = s.counted s.sys.wdCnt s.sys.wdSeg) ∧
    (let t := 10 ^ 10; let s := { wn [(WR.SYS_STATE_STATE, 6)] with sys := { Sys.reset with ftCnt := 10 ^ 10 } }; t = s.counted s.sys.ftCnt s.sys.ftSeg ∧ s.ws = 6 ∧ s.sys.rst = none) := by
  refine ⟨?_, ?_, ?_, ?_⟩ <;> first | decide | exact rfl

set_option maxRecDepth 8000 in
/-- A state for each clause of `SelfTestAndFirmware`. -/
theorem wit_SelfTestAndFirmware :
    (let r := ⟨false, 7, 0, true⟩; let s := { State.reset with now := 10 ^ 6, sys := { Sys.reset with rst := some ⟨false, 7, 0, true⟩ } }; s.sys.rst = some r) ∧
    (let s := State.reset; s.sys.rst = none) ∧
    (let s := { wn [(WR.SYS_STATE_STATE, 1)] with sys := { Sys.reset with test := 2 } }; s.ws = 1 ∧ s.sys.test = 2) ∧
    (let s := State.reset; s.ws ≠ 1 ∨ s.sys.test ≠ 2) ∧
    (let s := { State.reset with sys := { Sys.reset with boot := 1 } }; s.sys.boot = 1 ∧ s.sys.busy ≠ 1 ∧ (s.core 0).halted = false ∧ 0 < s.cores.length) ∧
    (let s := State.reset; s.sys.boot ≠ 1 ∨ s.sys.busy = 1 ∨ (s.core 0).halted = true) := by
  refine ⟨?_, ?_, ?_, ?_, ?_, ?_⟩ <;> first | decide | exact rfl

set_option maxRecDepth 8000 in
/-- A state for each clause of `PairMessages`. -/
theorem wit_PairMessages :
    (let ws := []; let w := []; w = ws.map (· % 2 ^ 64)) ∧
    (let hdr := 1 * 2 ^ 56 + crc32c []; let ws := []; let w := []; let s := wn [(WR.PAIR_CFG_EN, 1)]; w = ws.map (· % 2 ^ 64) ∧ s.pairOn = true ∧ w.length = bits 55 52 hdr ∧ crc32c (State.wordBytes w) = bits 31 0 hdr ∧ bits 63 56 hdr = 0x01) ∧
    (let hdr := 2 * 2 ^ 56 + crc32c []; let ws := []; let w := []; let s := wn [(WR.PAIR_CFG_EN, 1)]; let slot := State.extend (2 ^ 40) 0 0; w = ws.map (· % 2 ^ 64) ∧ s.pairOn = true ∧ w.length = bits 55 52 hdr ∧ crc32c (State.wordBytes w) = bits 31 0 hdr ∧ bits 63 56 hdr = 0x02 ∧ slot = State.extend (2 ^ 40) (bits 39 0 (w.getD 0 0) : Nat) (s.tick / 32 : Nat)) ∧
    (let hdr := 3 * 2 ^ 56 + crc32c []; let ws := []; let w := []; let s := wn [(WR.PAIR_CFG_EN, 1)]; let k := 0; let t := 0; w = ws.map (· % 2 ^ 64) ∧ s.pairOn = true ∧ w.length = bits 55 52 hdr ∧ crc32c (State.wordBytes w) = bits 31 0 hdr ∧ bits 63 56 hdr = 0x03 ∧ k = w.getD 0 0 ∧ t = (w.getD 1 0 * 1000000000 + bits 63 32 (w.getD 2 0)) * 65536 + bits 31 16 (w.getD 2 0)) ∧
    (let hdr := 4 * 2 ^ 56 + crc32c []; let ws := []; let w := []; let s := wn [(WR.PAIR_CFG_EN, 1)]; let p := 0; let v := 0; let now := 0; let f := State.extend (2 ^ 26) 0 0; w = ws.map (· % 2 ^ 64) ∧ s.pairOn = true ∧ w.length = bits 55 52 hdr ∧ crc32c (State.wordBytes w) = bits 31 0 hdr ∧ bits 63 56 hdr = 0x04 ∧ p = bits 63 58 (w.getD 0 0) ∧ v = signed 64 (w.getD 1 0) ∧ now = ((s.tick : Int) * 65536 - v) / 2 ^ 32 ∧ f = State.extend (2 ^ 26) (bits 57 32 (w.getD 0 0) : Nat) now) ∧
    (let hdr := 5 * 2 ^ 56 + crc32c []; let ws := []; let w := []; let s := wn [(WR.PAIR_CFG_EN, 1)]; let p := 0; w = ws.map (· % 2 ^ 64) ∧ s.pairOn = true ∧ w.length = bits 55 52 hdr ∧ crc32c (State.wordBytes w) = bits 31 0 hdr ∧ bits 63 56 hdr = 0x05 ∧ p = bits 63 58 (w.getD 0 0)) ∧
    (let hdr := 6 * 2 ^ 56 + crc32c []; let ws := []; let w := []; let s := wn [(WR.PAIR_CFG_EN, 1)]; let seq := 0; let dig := 0; w = ws.map (· % 2 ^ 64) ∧ s.pairOn = true ∧ w.length = bits 55 52 hdr ∧ crc32c (State.wordBytes w) = bits 31 0 hdr ∧ bits 63 56 hdr = 0x06 ∧ seq = w.getD 0 0 ∧ dig = w.getD 1 0 % 2 ^ 32) ∧
    (let hdr := 7 * 2 ^ 56 + crc32c []; let ws := []; let w := []; let s := wn [(WR.PAIR_CFG_EN, 1)]; w = ws.map (· % 2 ^ 64) ∧ s.pairOn = true ∧ w.length = bits 55 52 hdr ∧ crc32c (State.wordBytes w) = bits 31 0 hdr ∧ bits 63 56 hdr = 0x07) ∧
    (let hdr := 16 * 2 ^ 56 + crc32c []; let ws := []; let w := []; let s := wn [(WR.PAIR_CFG_EN, 1)]; let m := 0; w = ws.map (· % 2 ^ 64) ∧ s.pairOn = true ∧ w.length = bits 55 52 hdr ∧ crc32c (State.wordBytes w) = bits 31 0 hdr ∧ bits 63 56 hdr = 0x10 ∧ m = s.wget WR.PAIR_CFG_MBX_IN) := by
  refine ⟨?_, ?_, ?_, ?_, ?_, ?_, ?_, ?_, ?_⟩ <;> first | decide | exact rfl

set_option maxRecDepth 8000 in
/-- A state for each clause of `PairStateAndClaims`. -/
theorem wit_PairStateAndClaims :
    (let moved := (wn []).timeNow * 32 * (wn []).freq / 65536000000000 % 2 ^ 64; let s := wn []; moved = s.timeNow * 32 * s.freq / 65536000000000 % 2 ^ 64) ∧
    (let t := 0; let s := { wn [] with pair := { Pair.reset with hbAt := some 0 } }; s.pair.hbAt = some t) ∧
    (({ wn [] with pair := { Pair.reset with runNext := some 5 } } : State).pair.runNext = some 5 ∧ (wn [(WR.PAIR_CFG_EN, 1), (WR.MER_STATUS_TIME_VALID, 1), (WR.SYS_STATE_STATE, 4), (WR.PAIR_STATUS_STATE, 1)]).isRun = true ∧ (wn [(WR.PAIR_CFG_EN, 1), (WR.MER_STATUS_TIME_VALID, 1)]).timeValid = true ∧ (wn [(WR.SYS_STATE_STATE, 2)]).isOpen = true) := by
  refine ⟨?_, ?_, ?_⟩ <;> first | decide | exact rfl

set_option maxRecDepth 8000 in
/-- A state for each clause of `SourcesAndInterlocks`. -/
theorem wit_SourcesAndInterlocks :
    (let n := 0; n < 16) ∧
    (let n := 0; n < 16) ∧
    (let n := 0; n < 16) ∧
    (let a := 0; let b := 2; a < 16 ∧ b < 16) ∧
    (let k := 0; k < 4) ∧
    (let k := 0; k < 4) ∧
    ((wn [(WR.SYS_STATE_STATE, 4), (WR.SYS_STATE_WAS_ADMITTED, 1), (WR.ENV_CH_CFG_MODE 0, 1), (WR.ENV_CH_CFG_EXC_EN 0, 1)]).envDrives 0 = true ∧ (wn []).envDrives 0 = false ∧ (wn [(WR.ENV_CH_STATUS_FED_NOW 0, 1)]).won (WR.ENV_CH_STATUS_FED_NOW 0) = true) ∧
    ((wn [(WR.SYS_STATE_STATE, 4), (WR.SYS_STATE_WAS_ADMITTED, 1), (WR.ENV_CH_CFG_MODE 0, 1), (WR.ENV_CH_CFG_EXC_EN 0, 1), (WR.ENV_CH_CFG_MODE 2, 1), (WR.ENV_CH_CFG_EXC_EN 2, 1)]).envDrives 2 = true) ∧
    ((wn [(WR.SYS_STATE_STATE, 4), (WR.ENV_IL_CTRL_REQ 0, 1)]).ilFails 0 = 0 ∧ (wn [(WR.ENV_IL_RULE_KICK_EN 0, 1)]).won (WR.ENV_IL_RULE_KICK_EN 0) = true ∧ (wn []).env.kickAt = none ∧ (wn []).won (WR.ENV_CH_RES_VALID 0) = false ∧ (wn [(WR.ENV_IL_STATUS_ON 0, 1)]).won (WR.ENV_IL_STATUS_ON 0) = true) := by
  refine ⟨?_, ?_, ?_, ?_, ?_, ?_, ?_, ?_, ?_⟩ <;> first | decide | exact rfl

set_option maxRecDepth 8000 in
/-- A state for each clause of `SweepsAndRanges`. -/
theorem wit_SweepsAndRanges :
    (let c := ⟨0, 0, 0⟩; let s := { wn [(WR.SYS_STATE_STATE, 4)] with env := { Env.reset with conv := some ⟨0, 0, 0⟩ } }; s.env.conv = some c) ∧
    (let n := 0; n < 16) ∧
    ((wn [(WR.SYS_STATE_STATE, 4)]).envSweeps = true ∧ (wn []).envSweeps = false ∧ (wn []).env.startUs = none ∧ (wn []).env.conv = none) ∧
    ((List.range 16).filter (fun n => bit n ((wn [(WR.ENV_MASK_MASK, 3), (WR.ENV_CH_CFG_MODE 0, 1), (WR.ENV_CH_CFG_MODE 1, 1)]).wget WR.ENV_MASK_MASK) && (wn [(WR.ENV_MASK_MASK, 3), (WR.ENV_CH_CFG_MODE 0, 1), (WR.ENV_CH_CFG_MODE 1, 1)]).envMode n != 0) = [0, 1]) ∧
    ((wn []).now / Config.usTicks + 1 ≠ (wn []).now / Config.usTicks ∧ (wn [(WR.SYS_STATE_STATE, 2)]).ws = 2 ∧ 1 % 4 ≠ (wn [(WR.SYS_STATE_STATE, 2)]).wget (WR.ENV_CH_CFG_RANGE 0) ∧ (wn [(WR.ENV_REF_EN, 1)]).won WR.ENV_REF_EN = true ∧ (wn []).won WR.ENV_REF_EN = false) := by
  refine ⟨?_, ?_, ?_, ?_, ?_⟩ <;> first | decide | exact rfl

set_option maxRecDepth 8000 in
/-- A state for each clause of `CanNode`. -/
theorem wit_CanNode :
    (let s := wn [(WR.CAN_STATUS_NMT, 1)]; s.wget WR.CAN_ERR_REC ≤ 127) ∧
    (let s := wn [(WR.CAN_STATUS_NMT, 1)]; s.wget WR.CAN_ERR_REC ≤ 127) ∧
    (let gap := 100 * Config.msTicks; let s := wn [(WR.CAN_STATUS_NMT, 1)]; gap = (if s.solitary then Config.secTicks else s.canObj 0x1017 0 100 * Config.msTicks)) ∧
    (({ wn [(WR.CAN_STATUS_NMT, 1)] with can := Can.reset 5 } : State).canTakes = true ∧ ({ wn [(WR.CAN_STATUS_NMT, 1)] with can := Can.reset 5 } : State).canOn = true ∧ (wn []).canHears = false ∧ (wn []).canOn = false ∧ (wn [(WR.CAN_STATUS_NMT, 1)]).canHears = true ∧ (wn [(WR.CAN_STATUS_NMT, 1)]).canOn = false ∧ 127 < (wn [(WR.CAN_ERR_REC, 128)]).wget WR.CAN_ERR_REC ∧ (wn []).pinsHeld = false) ∧
    ((wn []).sys.rst = none ∧ (wn [(WR.DICT_OPT_NMT_RESET_APP, 1)]).won WR.DICT_OPT_NMT_RESET_APP = true ∧ (wn [(WR.CAN_ERR_NOACK_RUN, 15)]).wget WR.CAN_ERR_NOACK_RUN = 15 ∧ (wn []).solitary = false ∧ (wn []).can.hbAt + Config.secTicks ≤ ({ wn [] with now := Config.secTicks } : State).now) := by
  refine ⟨?_, ?_, ?_, ?_, ?_⟩ <;> first | decide | exact rfl

set_option maxRecDepth 8000 in
/-- A state for each clause of `FieldNetworkAccess`. -/
theorem wit_FieldNetworkAccess :
    (let s := { wn [(WR.SYS_STATE_STATE, 2), (WR.CAN_STATUS_NMT, 2), (WR.CAN_CLI_CTRL_VALID 0, 1), (WR.CAN_CLI_CTRL_NODE_ID 0, 3), (WR.CAN_CLI_CTRL_PRIV 0, 2)] with can := Can.reset 5 }; s.wget WR.CAN_ERR_REC ≤ 127 ∧ s.usdoTakes = true ∧ s.ws ≠ 6) ∧
    (let s := { wn [(WR.SYS_STATE_STATE, 2), (WR.CAN_STATUS_NMT, 2)] with can := Can.reset 5 }; s.wget WR.CAN_ERR_REC ≤ 127 ∧ s.usdoTakes = true) ∧
    (let s := wn []; s.usdoTakes = false) ∧
    (let node := 3; let off := 0; let data := [1, 2]; let us := []; let s := { wn [(WR.SYS_STATE_STATE, 2), (WR.CAN_STATUS_NMT, 2), (WR.CAN_CLI_CTRL_VALID 0, 1), (WR.CAN_CLI_CTRL_NODE_ID 0, 3), (WR.CAN_CLI_CTRL_PRIV 0, 2)] with can := Can.reset 5 }; let u := s.canHeard.modCan (fun c => { c with objs := SMap.insert (0x2501 * 256 + 1) off c.objs }); let w := (u.writeParts (State.pieceParts (data.length + 1) (0x20F80000 + off) data.length) data (upsetsOf us)).2; u = s.canHeard.modCan (fun c => { c with objs := SMap.insert (0x2501 * 256 + 1) off c.objs }) ∧ u.writeParts (State.pieceParts (data.length + 1) (0x20F80000 + off) data.length) data (upsetsOf us) = (.ok [], w) ∧ s.wget WR.CAN_ERR_REC ≤ 127 ∧ s.usdoTakes = true ∧ 2 ≤ s.privOf (.can node) ∧ s.isOpen = true ∧ s.imageOwner = none ∨ s.imageOwner = some (.can node) ∧ off + data.length ≤ 524288 ∧ data.length ≤ 65536) ∧
    (({ wn [(WR.SYS_STATE_STATE, 2), (WR.CAN_STATUS_NMT, 2), (WR.CAN_CLI_CTRL_VALID 0, 1), (WR.CAN_CLI_CTRL_NODE_ID 0, 3), (WR.CAN_CLI_CTRL_PRIV 0, 2)] with can := Can.reset 5 } : State).privOf (.can 3) = 2 ∧ (wn []).privOf (.can 3) = 0 ∧ (wn []).session 3 = none ∧ ({ wn [] with can := { Can.reset 5 with sessions := [⟨3, true, 0, 0, [], 0⟩] } } : State).session 3 = some ⟨3, true, 0, 0, [], 0⟩) ∧
    ((wn []).sys.rst = none ∧ ({ wn [] with can := { Can.reset 5 with owner := some (.can 3, 0), warm := true } } : State).can.owner = some (.can 3, 0) ∧ ({ wn [] with can := { Can.reset 5 with owner := some (.can 3, 0), warm := true } } : State).can.warm = true ∧ 2 ≤ (wn [(WR.SYS_STATE_STATE, 2)]).ws) := by
  refine ⟨?_, ?_, ?_, ?_, ?_, ?_⟩ <;> first | decide | exact rfl

set_option maxRecDepth 8000 in
/-- A state for each clause of `ProcessData`. -/
theorem wit_ProcessData :
    (let n := 0; let s := { wn [(WR.CAN_STATUS_NMT, 2)] with can := { Can.reset 5 with objs := [(0x160000, 1), (0x160001, 0x10170010)], rpdos := [(0, [1, 0])] } }; s.canObj (0x1600 + n) 0 0 = 1 ∧ s.canObj (0x1600 + n) 1 0 = 0x10170010 ∧ s.canObj (0x1400 + n) 1 (0x200 + 0x100 * n + s.can.node) / 2 ^ 31 % 2 ≠ 1 ∧ s.ws ≠ 6) ∧
    (let s := wn []; s.canTakes = false) ∧
    (let n := 0; let timer := Config.msTicks; let gap := 0; let s := { wn [(WR.CAN_STATUS_NMT, 2)] with can := { Can.reset 5 with objs := [(0x180005, 1), (0x1A0000, 1), (0x1A0001, 0x10170010)] } }; timer = s.canObj (0x1800 + n) 5 0 * Config.msTicks ∧ gap = s.canObj (0x1800 + n) 3 0 * 100 * Config.usTicks) ∧
    (({ wn [(WR.CAN_STATUS_NMT, 2)] with can := { Can.reset 5 with objs := [(0x160000, 1), (0x160001, 0x10170010)], rpdos := [(0, [1, 0])] } } : State).canTakes = true ∧ (wn []).canObj 0x1400 2 255 = 255 ∧ (wn []).canObj 0x1803 2 255 = 255 ∧ ({ wn [(WR.CAN_STATUS_NMT, 2)] with can := Can.reset 5, now := Config.msTicks } : State).canOn = true ∧ SMap.getD 0 0 (wn []).can.tpdoAt + max Config.msTicks 0 ≤ ({ wn [] with now := Config.msTicks } : State).now ∧ (wn []).pinsHeld = false ∧ (wn []).solitary = false ∧ Config.msTicks ≠ 0) ∧
    (({ wn [] with can := { Can.reset 5 with objs := [(0x180005, 1), (0x1A0000, 1), (0x1A0001, 0x10170010)] } } : State).canObj 0x1A00 1 0 = 0x10170010 ∧ (wn []).canObj 0x1800 1 0x185 / 2 ^ 31 % 2 ≠ 1 ∧ (wn [(WR.CAN_STATUS_SOLITARY, 1)]).solitary = true) := by
  refine ⟨?_, ?_, ?_, ?_, ?_⟩ <;> first | decide | exact rfl

/-- A frame with a UDP payload for port 4911. -/
def dictFrame (p : List Nat) : List Nat :=
  [2, 0, 0, 0, 0, 1, 2, 0, 0, 0, 0, 2, 8, 0, 0x45, 0, 0, 0, 0, 0, 0, 0, 64, 17, 0, 0, 10, 0, 0, 2, 10, 0, 0, 1, 0x20, 0, 0x13, 0x2F] ++
    beBytes 2 (8 + p.length) ++ [0, 0] ++ p

/-- HELD, with a request in queue 11. -/
def dictW (p : List Nat) : State :=
  let ws := State.rxPacket 0 (dictFrame p)
  (wn [(WR.SYS_STATE_STATE, 2)]).putQueue 11 { Queue.empty with words := ws.mapIdx (fun k w => ⟨w, k + 1 == ws.length, false⟩), visible := ws.length }

set_option maxRecDepth 20000 in
/-- A state for each clause of `InBandDictionary`. -/
theorem wit_InBandDictionary :
    (let write := false; let index := 0; let sub := 0; let piece : Option (Nat × Nat) := none; let e := 0x06020000; let s := wn []; s.findObj index sub write (piece.map (·.1)) = .error e) ∧
    (let write := true; let index := 0x1017; let sub := 0; let piece : Option (Nat × Nat) := none; let o : Obj := ⟨2, true, true, false, 0, 1, .kept 100⟩; let s := wn []; s.findObj index sub write (piece.map (·.1)) = .ok o) ∧
    (let err := 0; let s := dictW [0xC5, 0xA2, 0x10, 1, 0, 7, 0x10, 0x17, 0, 0, 0, 0, 0, 0, 0, 0]; let h := s.dictHead.getD (0, [], ⟨false, [], none, [], [], 0, 0, 0, []⟩); let k := h.1; let b := h.2.1; let u := h.2.2; let t := (s.takeRequest err (s.queue 11).words.length).2; s.dictHead = some (k, b, u) ∧ State.headBroken (s.queue 11).words = false ∧ s.takeRequest err (s.queue 11).words.length = (false, t)) ∧
    ((dictW [0xC5, 0xA2, 0x10, 1, 0, 7, 0x10, 0x17, 0, 0, 0, 0, 0, 0, 0, 0]).dictHas 1 = true ∧ (dictW [0xC5, 0xA2, 0x10, 0x11, 0, 7, 0, 0, 0, 0, 0, 0, 0, 0, 0, 0]).dictHas 0x11 = true ∧ (dictW [0xC5, 0xA2, 0x10, 2, 0, 7, 0, 0, 0, 0, 0, 0, 0, 0, 0, 0]).dictHas 2 = true ∧ (wn []).dictHas 1 = false) ∧
    (((wn [(WR.SYS_STATE_STATE, 2)]).access (.inband 0 [] [10, 0, 0, 2] 8192 []) false 0x1017 0 (some (0, 0)) [] []).1 = .ok [100, 0] ∧ ((wn [(WR.SYS_STATE_STATE, 2)]).access (.inband 0 [] [10, 0, 0, 2] 8192 []) false 0x0FFF 0 (some (0, 0)) [] []).1 = .abort 0x06020000 ∧ ((wn [(WR.SYS_STATE_STATE, 2)]).access (.inband 0 [] [10, 0, 0, 2] 8192 []) true 0x1017 0 (some (0, 0)) [1, 0] []).1 = .abort 0x06010000 ∧ (wn []).privOf (.can 3) < 1) := by
  refine ⟨?_, ?_, ?_, ?_, ?_⟩ <;> first | decide | exact rfl

/-- A state for each clause of `StepRunsFront`. -/
theorem wit_StepRunsFront :
    (let c := .mtimeTimerInterrupt 0; let r := [.fatalRunClear]; let s := { State.reset with pending := [.mtimeTimerInterrupt 0, .fatalRunClear] }; s.pending = c :: r) ∧
    (let c := .fatalRunClear; let r := [.vinBelow12v]; let s := { State.reset with pending := [.fatalRunClear, .vinBelow12v] }; let t := stateOf s (step s); s.pending = c :: r ∧ step s = .next t) := by
  refine ⟨?_, ?_⟩ <;> first | decide | exact rfl | (intros; and_intros <;> first | rfl | decide | (intro _ h; exact Instr.noConfusion h) | (intro _; rfl))

/-- A state for each clause of `ResetState`. -/
theorem wit_ResetState :
    (let n := 3; n < 4) ∧
    (let s := State.reset; s.pending = []) := by
  refine ⟨?_, ?_⟩ <;> first | decide | exact rfl

/-- A state for each clause of `CommandsTouchOnlyTheirParts`. -/
theorem wit_CommandsTouchOnlyTheirParts :
    (let c := .fatalRunClear; let t := stateOf State.reset (exec .fatalRunClear State.reset); let s := State.reset; exec c s = .next t) := by
  (intros; and_intros <;> first | rfl | decide | (intro _ h; exact Instr.noConfusion h) | (intro _; rfl))

/-- A state for each clause of `TladonCommandsStayInTheirTladon`. -/
theorem wit_TladonCommandsStayInTheirTladon :
    (let c := .configScrub 0 1; let p := 0; let t := stateOf State.reset (exec (.configScrub 0 1) State.reset); let s := State.reset; tlPort c = some p ∧ exec c s = .next t) ∧
    (let c := .fatalRunClear; let t := stateOf State.reset (exec .fatalRunClear State.reset); let s := State.reset; tlPort c = none ∧ c ≠ .resetAssert ∧ exec c s = .next t) ∧
    (let c := .configScrub 0 1; let p := 0; let t := stateOf State.reset (exec (.configScrub 0 1) State.reset); let s := State.reset; tlPort c = some p ∧ (∀ q, c ≠ .tladonPorRelease q) ∧ (∀ q, c ≠ .tladonRailDrop q) ∧ exec c s = .next t) := by
  refine ⟨?_, ?_, ?_⟩ <;> first | decide | exact rfl | (intros; and_intros <;> first | rfl | decide | (intro _ h; exact Instr.noConfusion h) | (intro _; rfl))

/-- A state for each clause of `MemoryReadsWhatWasWritten`. -/
theorem wit_MemoryReadsWhatWasWritten :
    (let s := State.reset; Memory.wf s.mem = true) ∧
    (let s := State.reset; let t := State.reset; Memory.wf s.mem = true ∧ Memory.wf t.mem = true ∧ (∀ a, s.byte a = t.byte a)) := by
  refine ⟨?_, ?_⟩ <;> first | decide | exact rfl | (intros; and_intros <;> first | rfl | decide | (intro _ h; exact Instr.noConfusion h) | (intro _; rfl))

/-- A state for each clause of `AccessCodes`. -/
theorem wit_AccessCodes :
    (let a := WR.MER_STEP_NS; let fs := [WR.MER_STEP_NS_NS]; let f := WR.MER_STEP_NS_NS; regAt WR.rows a = some fs ∧ f ∈ fs) ∧
    (let a := WR.MER_STEP_NS; let fs := [WR.MER_STEP_NS_NS]; regAt WR.rows a = some fs) ∧
    (let a := 0x4000F000; regAt WR.rows a = none) ∧
    (let a := WR.MER_STEP_NS; let fs := [WR.MER_STEP_NS_NS]; let f := WR.MER_STEP_NS_NS; regAt WR.rows a = some fs ∧ f ∈ fs) ∧
    (let a := WR.MER_STEP_NS; let fs := [WR.MER_STEP_NS_NS]; regAt WR.rows a = some fs) := by
  refine ⟨?_, ?_, ?_, ?_, ?_⟩ <;> first | decide | exact rfl

/-- A state for each clause of `TickExtension`. -/
theorem wit_TickExtension :
    (let t := 0; let s := State.reset; let x := 0; x % 2 ^ 42 = (t : Int) % 2 ^ 42 ∧ (s.tick : Int) - 2 ^ 41 ≤ x ∧ x < (s.tick : Int) + 2 ^ 41) ∧
    (let s := { State.reset with now := 2 ^ 41 }; 2 ^ 41 ≤ s.tick ∧ s.tick ≤ 2 ^ 64 - 2 ^ 41) := by
  refine ⟨?_, ?_⟩ <;> first | decide | exact rfl

/-- A state for each clause of `StepNanosecondsOutOfRange`. -/
theorem wit_StepNanosecondsOutOfRange :
    (let v := 1000000000; 1000000000 ≤ (signed 32 v).natAbs) ∧
    (let v := 3294967296; 1000000000 ≤ (signed 32 v).natAbs) := by
  refine ⟨?_, ?_⟩ <;> first | decide | exact rfl

/-- A state for each clause of `TransmitStampQueueFull`. -/
theorem wit_TransmitStampQueueFull :
    (let s := { State.reset with mer := { State.reset.mer with txts := List.replicate 16 ⟨0, 0, 0, 0⟩ } }; 16 ≤ (s.mer.txts.filter fun x => decide (s.now < x.arrived + s.txAge)).length) := by decide

/-- A state for each clause of `AlarmParametersLocked`. -/
theorem wit_AlarmParametersLocked :
    (let n := 7; let r := 5; let s := wn [(WR.MER_ALM_CTRL_EN 7, 1)]; s.wget (WR.MER_ALM_CTRL_EN n) = 1 ∧ 1 ≤ r ∧ r ≤ 5) ∧
    (let n := 7; let a := WR.MER_ALM_PMASK_HI 7; let s := wn [(WR.MER_ALM_CTRL_EN 7, 1)]; n < 8 ∧ s.wget (WR.MER_ALM_CTRL_EN n) = 1 ∧ a ∈ [WR.MER_ALM_SEC n, WR.MER_ALM_NS n, WR.MER_ALM_PERIOD_NS n, WR.MER_ALM_PMASK_LO n, WR.MER_ALM_PMASK_HI n]) := by
  refine ⟨?_, ?_⟩ <;> first | decide | exact rfl

/-- A state for each clause of `SurveyObeysInTwoStates`. -/
theorem wit_SurveyObeysInTwoStates :
    (let p := 0; let s := State.reset; (s.tladon p).state ≠ 2 ∧ (s.tladon p).state ≠ 3) ∧
    (let p := 0; let s := tl [(TR.ID_STATE_STATE, 3), (TR.SURVEY_CFG_SRC, 1)]; ((s.tladon p).state = 2 ∨ (s.tladon p).state = 3) ∧ (s.tladon p).get TR.SURVEY_CFG_SRC ≠ 3 ∧ (s.tladon p).get TR.SURVEY_STATUS_CFG_ERR = 0 ∧ (s.tladon p).gate = none) := by
  refine ⟨?_, ?_⟩ <;> first | decide | exact rfl

/-- A state for each clause of `MailboxDataWhileFull`. -/
theorem wit_MailboxDataWhileFull :
    (let m := 15; let j := 7; let s := wn [(WR.MBX_STATUS_FULL 15, 1)]; m < 16 ∧ j < 8 ∧ s.wget (WR.MBX_STATUS_FULL m) = 1) ∧
    (let m := 15; let j := 7; let s := wn [(WR.MBX_STATUS_FULL 15, 1)]; m < 16 ∧ j < 8 ∧ s.wget (WR.MBX_STATUS_FULL m) = 1) ∧
    (let m := 15; let j := 7; let s := State.reset; m < 16 ∧ j < 8 ∧ s.wget (WR.MBX_STATUS_FULL m) = 0) ∧
    (let m := 15; let j := 7; let e := 0; m < 16 ∧ j < 8 ∧ e < 2) := by
  refine ⟨?_, ?_, ?_, ?_⟩ <;> first | decide | exact rfl
end

section
/-! PROOF. Every command answers a next state, changes only its own parts and leaves the run in order (O50, O51). -/

namespace Sys2Proof.Machine

open Sys2Proof

/-- No command stops the block. Most answer their next state outright; the others choose between next states. -/
theorem exec_completes (c : Instr) (s : State) : ∃ t, exec c s = .next t := by
  cases c <;> try exact ⟨_, rfl⟩
  all_goals
    simp only [exec, execMarkerSend, execTriStampRx, execTriStampMissed, execHitWordRx, execSyncLost, execPpsInEdge,
      execPpsLost, execPpsOutPulse, execPtpFrameRx, execMerAlarmParamWrite, execWalkTableWrite,
      execPrimitiveWindow, execIngLaneClear, execRegDataRx, execSelfTriggerAccept,
      execSelfTriggerContentTest, execFragHeadRx, execFragTailRx, execStreamHeadRx, execStreamEndRx,
      execQueueRead, execQWtagWrite, execCmpReenableDone, execUnitEventRoute, execNpSpanOver,
      execSchTraceMarkWrite, execDmaUnitTransfer, execUsdoTimeout, execUplinkBlockSend]
    repeat' first
      | exact ⟨_, rfl⟩
      | split

/-- What a command answers is the state that `stateOf` reads off. -/
theorem exec_eq_next (c : Instr) (s : State) : exec c s = .next (stateOf s (exec c s)) := by
  obtain ⟨t, ht⟩ := exec_completes c s
  rw [ht, stateOf]

/-- Each command changes only the parts that `touches` lists for it and leaves the run in order: the law of its own
operation, command by command. -/
theorem exec_keeps (s : State) : ∀ c : Instr, Keeps (Part.mask (touches c)) s (stateOf s (exec c s))
  | .tladonPllLock .. => k_execTladonPllLock ..
  | .tladonPllLockLost .. => k_execTladonPllLockLost ..
  | .epoch .. => k_execEpoch ..
  | .epochTakeEffect .. => k_execEpochTakeEffect ..
  | .markerSend .. => k_execMarkerSend ..
  | .triStampRx .. => k_execTriStampRx ..
  | .triStampMissed .. => k_execTriStampMissed ..
  | .triCtrlWrite .. => k_execTriCtrlWrite ..
  | .triAlphaWrite .. => k_execTriAlphaWrite ..
  | .triKdownWrite .. => k_execTriKdownWrite ..
  | .triKupWrite .. => k_execTriKupWrite ..
  | .hitWordRx .. => k_execHitWordRx ..
  | .wonanFrameBoundary .. => k_execWonanFrameBoundary ..
  | .holdoverLimit .. => k_execHoldoverLimit ..
  | .clkswRx .. => k_execClkswRx ..
  | .holdWordRx .. => k_execHoldWordRx ..
  | .epochDoneRx .. => k_execEpochDoneRx ..
  | .merRateHiWrite .. => k_execMerRateHiWrite ..
  | .merAdjWrite .. => k_execMerAdjWrite ..
  | .adjCancel => k_execAdjCancel ..
  | .merStep => k_execMerStep ..
  | .merStepNsWrite .. => k_execMerStepNsWrite ..
  | .merStepApply => k_execMerStepApply ..
  | .merLock .. => k_execMerLock ..
  | .merRelock .. => k_execMerRelock ..
  | .merSrcWrite .. => k_execMerSrcWrite ..
  | .syncLost => k_execSyncLost ..
  | .merPtpParentPortWrite .. => k_execMerPtpParentPortWrite ..
  | .synceLost => k_execSynceLost ..
  | .refLost => k_execRefLost ..
  | .ppsInEdge .. => k_execPpsInEdge ..
  | .ppsLost => k_execPpsLost ..
  | .ppsOutPulse => k_execPpsOutPulse ..
  | .ptpFrameRx .. => k_execPtpFrameRx ..
  | .txStampCapture .. => k_execTxStampCapture ..
  | .merTxtsIdRead => k_execMerTxtsIdRead ..
  | .txStampAgeOut => k_execTxStampAgeOut ..
  | .alarmArm .. => k_execAlarmArm ..
  | .merAlarmParamWrite .. => k_execMerAlarmParamWrite ..
  | .alarmFire .. => k_execAlarmFire ..
  | .discriminatorLeadingEdge .. => k_execDiscriminatorLeadingEdge ..
  | .discriminatorTrailingEdge .. => k_execDiscriminatorTrailingEdge ..
  | .totSaturation .. => k_execTotSaturation ..
  | .hitWordComplete .. => k_execHitWordComplete ..
  | .channelRearm .. => k_execChannelRearm ..
  | .clampEngage .. => k_execClampEngage ..
  | .clampRelease .. => k_execClampRelease ..
  | .chCfgWrite .. => k_execChCfgWrite ..
  | .chThrWrite .. => k_execChThrWrite ..
  | .settlingEnd .. => k_execSettlingEnd ..
  | .configScrub .. => k_execConfigScrub ..
  | .intervalStartEdge .. => k_execIntervalStartEdge ..
  | .intervalStopEdge .. => k_execIntervalStopEdge ..
  | .intervalTimeout .. => k_execIntervalTimeout ..
  | .chnIntWrite .. => k_execChnIntWrite ..
  | .walkTableWrite .. => k_execWalkTableWrite ..
  | .surveyStart .. => k_execSurveyStart ..
  | .surveyArm .. => k_execSurveyArm ..
  | .surveyGateOpen .. => k_execSurveyGateOpen ..
  | .surveyAbort .. => k_execSurveyAbort ..
  | .surveyCfgWrite .. => k_execSurveyCfgWrite ..
  | .surveyGateEnd .. => k_execSurveyGateEnd ..
  | .surveyResult .. => k_execSurveyResult ..
  | .ditherConversion .. => k_execDitherConversion ..
  | .calSwap .. => k_execCalSwap ..
  | .calRetire .. => k_execCalRetire ..
  | .calTimeout .. => k_execCalTimeout ..
  | .calCtrlWrite .. => k_execCalCtrlWrite ..
  | .sampRefWrite .. => k_execSampRefWrite ..
  | .sampRefReady .. => k_execSampRefReady ..
  | .sampEnWrite .. => k_execSampEnWrite ..
  | .sampCfgWrite .. => k_execSampCfgWrite ..
  | .sampArm .. => k_execSampArm ..
  | .sampForce .. => k_execSampForce ..
  | .sampDisarm .. => k_execSampDisarm ..
  | .pulseWidthEvent .. => k_execPulseWidthEvent ..
  | .sampTimerEvent .. => k_execSampTimerEvent ..
  | .sampTriggerTick .. => k_execSampTriggerTick ..
  | .sampFreeze .. => k_execSampFreeze ..
  | .sampWordOffer .. => k_execSampWordOffer ..
  | .sampHoldoffEnd .. => k_execSampHoldoffEnd ..
  | .sampTrimWrite .. => k_execSampTrimWrite ..
  | .monGo .. => k_execMonGo ..
  | .monTimerSweep .. => k_execMonTimerSweep ..
  | .monConversionDone .. => k_execMonConversionDone ..
  | .hitQueueDrain .. => k_execHitQueueDrain ..
  | .slotClose .. => k_execSlotClose ..
  | .slotRelease .. => k_execSlotRelease ..
  | .acceptTakeEffect .. => k_execAcceptTakeEffect ..
  | .fragmentBuild .. => k_execFragmentBuild ..
  | .tladonFrameBoundary .. => k_execTladonFrameBoundary ..
  | .padCtrlWrite .. => k_execPadCtrlWrite ..
  | .padHoldChange .. => k_execPadHoldChange ..
  | .padConfigWrite .. => k_execPadConfigWrite ..
  | .primitiveForm .. => k_execPrimitiveForm ..
  | .primitiveWindow .. => k_execPrimitiveWindow ..
  | .rsBlockRx .. => k_execRsBlockRx ..
  | .replayNackRx .. => k_execReplayNackRx ..
  | .frameHeadRx .. => k_execFrameHeadRx ..
  | .laneIdRx .. => k_execLaneIdRx ..
  | .laneCdrLock .. => k_execLaneCdrLock ..
  | .laneCdrLoss .. => k_execLaneCdrLoss ..
  | .primitiveWindowRx .. => k_execPrimitiveWindowRx ..
  | .ingLaneClear .. => k_execIngLaneClear ..
  | .attachEpoch .. => k_execAttachEpoch ..
  | .portAttachWrite .. => k_execPortAttachWrite ..
  | .portDetachWrite .. => k_execPortDetachWrite ..
  | .portDetached .. => k_execPortDetached ..
  | .downlinkCellRx .. => k_execDownlinkCellRx ..
  | .tladonDlCdrLock .. => k_execTladonDlCdrLock ..
  | .tladonDlCdrLoss .. => k_execTladonDlCdrLoss ..
  | .regWrite .. => k_execRegWrite ..
  | .regRead .. => k_execRegRead ..
  | .regPeek .. => k_execRegPeek ..
  | .monSweep .. => k_execMonSweep ..
  | .hold .. => k_execHold ..
  | .release .. => k_execRelease ..
  | .stateListen .. => k_execStateListen ..
  | .stateConfigure .. => k_execStateConfigure ..
  | .stateAcquire .. => k_execStateAcquire ..
  | .stateQuiet .. => k_execStateQuiet ..
  | .stateAcquireEffect .. => k_execStateAcquireEffect ..
  | .stateConfigureEffect .. => k_execStateConfigureEffect ..
  | .quietPowerDown .. => k_execQuietPowerDown ..
  | .reset .. => k_execReset ..
  | .claim .. => k_execClaim ..
  | .replay .. => k_execReplay ..
  | .relink .. => k_execRelink ..
  | .regDataRx .. => k_execRegDataRx ..
  | .stateWordRx .. => k_execStateWordRx ..
  | .claimExpiry .. => k_execClaimExpiry ..
  | .obeyChange .. => k_execObeyChange ..
  | .claimSend .. => k_execClaimSend ..
  | .downlinkCommandSlot .. => k_execDownlinkCommandSlot ..
  | .poweredToListening .. => k_execPoweredToListening ..
  | .proxyLoad .. => k_execProxyLoad ..
  | .proxyStore .. => k_execProxyStore ..
  | .proxyTimeout .. => k_execProxyTimeout ..
  | .linkCfgWrite .. => k_execLinkCfgWrite ..
  | .tlDecisionRx .. => k_execTlDecisionRx ..
  | .acceptForward => k_execAcceptForward ..
  | .selfTriggerAccept .. => k_execSelfTriggerAccept ..
  | .selfTriggerContentTest .. => k_execSelfTriggerContentTest ..
  | .fragHeadRx .. => k_execFragHeadRx ..
  | .fragTailRx .. => k_execFragTailRx ..
  | .streamHeadRx .. => k_execStreamHeadRx ..
  | .streamEndRx .. => k_execStreamEndRx ..
  | .eventDeadline .. => k_execEventDeadline ..
  | .eventCommit .. => k_execEventCommit ..
  | .candidateComplete .. => k_execCandidateComplete ..
  | .horizonExpiry .. => k_execHorizonExpiry ..
  | .stallRelease => k_execStallRelease ..
  | .musViewSelWrite .. => k_execMusViewSelWrite ..
  | .musViewDataRead => k_execMusViewDataRead ..
  | .queueWrite .. => k_execQueueWrite ..
  | .queueRead .. => k_execQueueRead ..
  | .queueFlush .. => k_execQueueFlush ..
  | .queueStagedWrite .. => k_execQueueStagedWrite ..
  | .qWtagWrite .. => k_execQWtagWrite ..
  | .cmpDispatch .. => k_execCmpDispatch ..
  | .cmpFormDone .. => k_execCmpFormDone ..
  | .cmpStoredDone .. => k_execCmpStoredDone ..
  | .formerRecordDone .. => k_execFormerRecordDone ..
  | .cmpReorderRelease => k_execCmpReorderRelease ..
  | .cmpRatioWindow .. => k_execCmpRatioWindow ..
  | .cmpEngEnWrite .. => k_execCmpEngEnWrite ..
  | .cmpReenable .. => k_execCmpReenable ..
  | .cmpReenableDone .. => k_execCmpReenableDone ..
  | .cmpBypassWrite .. => k_execCmpBypassWrite ..
  | .portLinkUp .. => k_execPortLinkUp ..
  | .portLinkDown .. => k_execPortLinkDown ..
  | .epFrameRx .. => k_execEpFrameRx ..
  | .recordSteer .. => k_execRecordSteer ..
  | .datagramSent .. => k_execDatagramSent ..
  | .steerAdd .. => k_execSteerAdd ..
  | .steerRemove .. => k_execSteerRemove ..
  | .steerCommit => k_execSteerCommit ..
  | .steerOpInvalid => k_execSteerOpInvalid ..
  | .steerBoundary => k_execSteerBoundary ..
  | .portLinkTimeout .. => k_execPortLinkTimeout ..
  | .paceRingSample .. => k_execPaceRingSample ..
  | .shedStep => k_execShedStep ..
  | .holdCycleToggle => k_execHoldCycleToggle ..
  | .degradedRecoverStep => k_execDegradedRecoverStep ..
  | .primitiveCapture .. => k_execPrimitiveCapture ..
  | .poCellRelease .. => k_execPoCellRelease ..
  | .admCheck => k_execAdmCheck ..
  | .admissionChecksDone => k_execAdmissionChecksDone ..
  | .admRun => k_execAdmRun ..
  | .admStop => k_execAdmStop ..
  | .admStore => k_execAdmStore ..
  | .admStoreDone .. => k_execAdmStoreDone ..
  | .admReload => k_execAdmReload ..
  | .groomVisit .. => k_execGroomVisit ..
  | .groomConfirmVisit .. => k_execGroomConfirmVisit ..
  | .memFarDataWrite .. => k_execMemFarDataWrite ..
  | .memLogRead => k_execMemLogRead ..
  | .groomEnWrite .. => k_execGroomEnWrite ..
  | .schSetflagWrite .. => k_execSchSetflagWrite ..
  | .unitEventRoute .. => k_execUnitEventRoute ..
  | .schPost .. => k_execSchPost ..
  | .schReserve => k_execSchReserve ..
  | .schNextRead .. => k_execSchNextRead ..
  | .schEndWrite .. => k_execSchEndWrite ..
  | .schNopreemptWrite .. => k_execSchNopreemptWrite ..
  | .npSpanOver .. => k_execNpSpanOver ..
  | .schCoreCtrlWrite .. => k_execSchCoreCtrlWrite ..
  | .schTaskDisable .. => k_execSchTaskDisable ..
  | .spillRefill .. => k_execSpillRefill ..
  | .itemAgeStep .. => k_execItemAgeStep ..
  | .periodicSlotEnable .. => k_execPeriodicSlotEnable ..
  | .periodicRelease .. => k_execPeriodicRelease ..
  | .deadlineMiss .. => k_execDeadlineMiss ..
  | .standstill => k_execStandstill ..
  | .schTraceMarkWrite .. => k_execSchTraceMarkWrite ..
  | .mtimeTimerInterrupt .. => k_execMtimeTimerInterrupt ..
  | .mtimecmpWrite .. => k_execMtimecmpWrite ..
  | .schMsipWrite .. => k_execSchMsipWrite ..
  | .dmaGo .. => k_execDmaGo ..
  | .dmaUnitTransfer .. => k_execDmaUnitTransfer ..
  | .dmaResume .. => k_execDmaResume ..
  | .dmaSkip .. => k_execDmaSkip ..
  | .dmaAbort .. => k_execDmaAbort ..
  | .mbxDataWrite .. => k_execMbxDataWrite ..
  | .mbxSend .. => k_execMbxSend ..
  | .mbxAck .. => k_execMbxAck ..
  | .mbxLockRead .. => k_execMbxLockRead ..
  | .mbxLockWrite .. => k_execMbxLockWrite ..
  | .lockLeaseLapse .. => k_execLockLeaseLapse ..
  | .mbxLockForce .. => k_execMbxLockForce ..
  | .fenceWrite .. => k_execFenceWrite ..
  | .quietAliasWrite .. => k_execQuietAliasWrite ..
  | .loftRelease => k_execLoftRelease ..
  | .uartStartEdge .. => k_execUartStartEdge ..
  | .uartCharRx .. => k_execUartCharRx ..
  | .uartTxWrite .. => k_execUartTxWrite ..
  | .uartRxRead => k_execUartRxRead ..
  | .debugHalt .. => k_execDebugHalt ..
  | .debugResume .. => k_execDebugResume ..
  | .debugAbstractCommand .. => k_execDebugAbstractCommand ..
  | .debugSysbusAccess .. => k_execDebugSysbusAccess ..
  | .ndmreset => k_execNdmreset ..
  | .idcode .. => k_execIdcode ..
  | .samplePreload .. => k_execSamplePreload ..
  | .extest .. => k_execExtest ..
  | .clamp .. => k_execClamp ..
  | .highz .. => k_execHighz ..
  | .bypass .. => k_execBypass ..
  | .dtmcs .. => k_execDtmcs ..
  | .dmi .. => k_execDmi ..
  | .tapReset .. => k_execTapReset ..
  | .tickCountAlign => k_execTickCountAlign ..
  | .pairHeartbeatSend => k_execPairHeartbeatSend ..
  | .pairHeartbeatRx .. => k_execPairHeartbeatRx ..
  | .partnerLost => k_execPartnerLost ..
  | .pairDecisionRx .. => k_execPairDecisionRx ..
  | .pairAnchorRx .. => k_execPairAnchorRx ..
  | .anchorWaitExpiry => k_execAnchorWaitExpiry ..
  | .pairThetaRx .. => k_execPairThetaRx ..
  | .epochNoteRx .. => k_execEpochNoteRx ..
  | .pairDigestRx .. => k_execPairDigestRx ..
  | .digestEntryExpiry => k_execDigestEntryExpiry ..
  | .joinRequestRx .. => k_execJoinRequestRx ..
  | .joinAtRx .. => k_execJoinAtRx ..
  | .joinSeqRx .. => k_execJoinSeqRx ..
  | .pairFwRx .. => k_execPairFwRx ..
  | .pairRejoin => k_execPairRejoin ..
  | .pairGoAlone => k_execPairGoAlone ..
  | .pairMuteWrite .. => k_execPairMuteWrite ..
  | .pairEnWrite .. => k_execPairEnWrite ..
  | .pairClaimWrite .. => k_execPairClaimWrite ..
  | .dictRead .. => k_execDictRead ..
  | .dictWrite .. => k_execDictWrite ..
  | .usdoDownload .. => k_execUsdoDownload ..
  | .usdoUpload .. => k_execUsdoUpload ..
  | .usdoTimeout .. => k_execUsdoTimeout ..
  | .rpdoInband .. => k_execRpdoInband ..
  | .canRpdoRx .. => k_execCanRpdoRx ..
  | .canSyncRx .. => k_execCanSyncRx ..
  | .tpdoEvent .. => k_execTpdoEvent ..
  | .canHeartbeatSend .. => k_execCanHeartbeatSend ..
  | .nmtStart => k_execNmtStart ..
  | .nmtStop => k_execNmtStop ..
  | .nmtEnterPreoperational => k_execNmtEnterPreoperational ..
  | .nmtResetNode => k_execNmtResetNode ..
  | .nmtResetCommunication => k_execNmtResetCommunication ..
  | .canAckError => k_execCanAckError ..
  | .busOffRecovery => k_execBusOffRecovery ..
  | .imageDataWrite .. => k_execImageDataWrite ..
  | .imageOwnerTimeout => k_execImageOwnerTimeout ..
  | .dictWarmReset => k_execDictWarmReset ..
  | .envGo => k_execEnvGo ..
  | .envTimerSweep => k_execEnvTimerSweep ..
  | .envConversionDone .. => k_execEnvConversionDone ..
  | .envRefWrite .. => k_execEnvRefWrite ..
  | .envRefReady => k_execEnvRefReady ..
  | .envRangeWrite .. => k_execEnvRangeWrite ..
  | .rangeSwitch .. => k_execRangeSwitch ..
  | .rangeRampDone .. => k_execRangeRampDone ..
  | .openDetect .. => k_execOpenDetect ..
  | .openClear .. => k_execOpenClear ..
  | .probeClampEngage .. => k_execProbeClampEngage ..
  | .probeClampRelease .. => k_execProbeClampRelease ..
  | .sourceFed .. => k_execSourceFed ..
  | .envRetry .. => k_execEnvRetry ..
  | .contendSet .. => k_execContendSet ..
  | .contendClear .. => k_execContendClear ..
  | .ilReqWrite .. => k_execIlReqWrite ..
  | .envKickWrite .. => k_execEnvKickWrite ..
  | .kickExpiry => k_execKickExpiry ..
  | .resultAgeExpiry => k_execResultAgeExpiry ..
  | .ilOvertemp .. => k_execIlOvertemp ..
  | .ilOvertempClear .. => k_execIlOvertempClear ..
  | .ilShort .. => k_execIlShort ..
  | .vinUvloRelease => k_execVinUvloRelease ..
  | .vinUvloAssert => k_execVinUvloAssert ..
  | .vinOvloAssert => k_execVinOvloAssert ..
  | .vinOvloRelease => k_execVinOvloRelease ..
  | .vintRegulation .. => k_execVintRegulation ..
  | .railStart .. => k_execRailStart ..
  | .pgRelease => k_execPgRelease ..
  | .railFault .. => k_execRailFault ..
  | .powerStageOvertemp => k_execPowerStageOvertemp ..
  | .powerRestart .. => k_execPowerRestart ..
  | .vinBelow12v => k_execVinBelow12v ..
  | .pwrMeasure .. => k_execPwrMeasure ..
  | .resetNAssert => k_execResetNAssert ..
  | .sysResetWarm .. => k_execSysResetWarm ..
  | .resetAssert => k_execResetAssert ..
  | .selfTestStart => k_execSelfTestStart ..
  | .xoInPresent .. => k_execXoInPresent ..
  | .selfTestComplete => k_execSelfTestComplete ..
  | .firmwareLoaded .. => k_execFirmwareLoaded ..
  | .autoRunEntry => k_execAutoRunEntry ..
  | .watchdogKick .. => k_execWatchdogKick ..
  | .watchdogExpiry => k_execWatchdogExpiry ..
  | .sysFatalEnter .. => k_execSysFatalEnter ..
  | .fatalTimer => k_execFatalTimer ..
  | .fatalRunClear => k_execFatalRunClear ..
  | .tladonPorRelease .. => k_execTladonPorRelease ..
  | .tladonRailDrop .. => k_execTladonRailDrop ..
  | .registerWrite .. => k_execRegisterWrite ..
  | .uplinkBlockSend .. => k_execUplinkBlockSend ..
  | .surveyInEdge .. => k_execSurveyInEdge ..
  | .registerRead .. => k_execRegisterRead ..
  | .coreMemoryAccess .. => k_execCoreMemoryAccess ..
  | .canBusError .. => k_execCanBusError ..
  | .canExtendedFrameRx => k_execCanExtendedFrameRx ..
  | .plLockSet => k_execPlLockSet ..
  | .plLockClear => k_execPlLockClear ..
  | .uartCharTxDone => k_execUartCharTxDone ..
  | .norImageCopyDone => k_execNorImageCopyDone ..
  | .schWindowPublish .. => k_execSchWindowPublish ..

/-- The same of the state that is answered. -/
theorem Keeps.of_exec {c : Instr} {s t : State} (h : exec c s = .next t) : Keeps (Part.mask (touches c)) s t := by
  have k := exec_keeps s c
  rwa [h] at k

/-- A command leaves every part that is not in its list. -/
theorem OnlyParts.of_exec {c : Instr} {s t : State} (h : exec c s = .next t) : OnlyParts (touches c) s t :=
  (Keeps.of_exec h).only _ (Nat.or_self _)

/-- The queue of commands, the time, the part fitted and its address straps are in no command's list. -/
theorem fixedParts_not_touched (c : Instr) :
    .pending ∉ touches c ∧ .now ∉ touches c ∧ .variant ∉ touches c ∧ .canid ∉ touches c := by
  cases c <;> exact of_decide_eq_true rfl

/-- A change of the queue or of the time alone leaves the run in order. -/
theorem Orderly.of_eq {s t : State} (hm : t.mem = s.mem) (hr : t.wr = s.wr) (ho : t.out = s.out)
    (hf : t.freeCnt = s.freeCnt) : Orderly s t :=
  ⟨fun c => by rwa [State.Canon, hm, hr], ho ▸ List.prefix_refl _, Nat.le_of_eq hf.symm⟩

/-- Settles O50: on an empty queue only the time moves; else the command at the front runs by its own law. -/
theorem everyStepCompletesInOrder : Obligations.EveryStepCompletesInOrder := by
  intro s
  cases h : s.pending with
  | nil => exact ⟨{ s with now := s.now + 1 }, by rw [step, h], Orderly.of_eq rfl rfl rfl rfl⟩
  | cons c r =>
    obtain ⟨t, ht⟩ := exec_completes c { s with pending := r }
    refine ⟨t, by rw [step, h]; exact ht, Orderly.trans ?_ (Keeps.of_exec ht).2⟩
    exact Orderly.of_eq rfl rfl rfl rfl

/-- Settles O51: by the law of each command's own operation. -/
theorem commandsTouchOnlyTheirParts : Obligations.CommandsTouchOnlyTheirParts := by
  refine ⟨fun c s => ?_, fun c s t h => ?_⟩
  · obtain ⟨t, ht⟩ := exec_completes c s
    exact ⟨t, ht, OnlyParts.of_exec ht⟩
  · obtain ⟨hp, hn, hv, hc⟩ := fixedParts_not_touched c
    have k := OnlyParts.of_exec h
    exact ⟨k _ hp, k _ hn, k _ hv, k _ hc⟩

end Sys2Proof.Machine
end

section
/-! PROOF. The state after reset, and a tick on an empty queue (O49). -/

namespace Sys2Proof.Machine

open Sys2Proof

/-- Settles O49: reset lists no register, so each reads its table's value; nothing has happened to a Tladon; the four
cores are alike. -/
theorem resetState : Obligations.ResetState := by
  refine ⟨⟨⟨rfl, rfl⟩, rfl, rfl, rfl⟩, fun f => ⟨rfl, fun p => rfl⟩, fun p => ⟨rfl, rfl, rfl⟩, fun n hn => ?_,
    fun s h => by rw [step, h]⟩
  have hc : State.reset.core n = Core.reset :=
    congrArg (Option.getD · Core.reset) (List.getElem?_replicate.trans (if_pos hn))
  rw [hc]
  exact ⟨rfl, rfl, rfl⟩

end Sys2Proof.Machine
end

section
/-! SUPPORT and PROOF. Sparse maps and memory: what is read after a store (O53). -/

namespace Sys2Proof

namespace SMap

variable {α : Type}

/-- What is found in a map is an entry of it. -/
theorem mem_of_find {k : Nat} {v : α} {m : SMap α} (h : find k m = some v) : (k, v) ∈ m := by
  induction m with
  | nil => exact nomatch h
  | cons p m ih =>
    obtain ⟨a, w⟩ := p
    rw [find] at h
    split at h
    · rename_i e
      cases h
      exact e ▸ List.mem_cons_self
    · exact List.mem_cons_of_mem _ (ih h)

/-- Nothing is found at the first key in the rest of a sorted map. -/
theorem find_tail {p : Nat × α} {m : SMap α} (h : sorted (p :: m) = true) : find p.1 m = none := by
  cases e : find p.1 m with
  | none => rfl
  | some v => exact absurd ((sorted_cons.1 h).1 _ (mem_of_find e)) (Nat.lt_irrefl _)

/-- What is found in a sorted map stands at its first key or above. -/
theorem head_le_of_find {k : Nat} {v : α} {p : Nat × α} {m : SMap α} (h : sorted (p :: m) = true)
    (e : find k (p :: m) = some v) : p.1 ≤ k := by
  rcases List.mem_cons.1 (mem_of_find e) with rfl | hm
  · exact Nat.le_refl _
  · exact Nat.le_of_lt ((sorted_cons.1 h).1 _ hm)

/-- Two sorted maps in which the same is found at every key are the same list. -/
theorem ext_find {m n : SMap α} (hm : sorted m = true) (hn : sorted n = true) (h : ∀ k, find k m = find k n) :
    m = n := by
  induction m generalizing n with
  | nil =>
    cases n with
    | nil => rfl
    | cons q n => exact absurd (h q.1) (by simp [find])
  | cons p m ih =>
    cases n with
    | nil => exact absurd (h p.1) (by simp [find])
    | cons q n =>
      have hp : find p.1 (p :: m) = some p.2 := by simp [find]
      have hq : find q.1 (q :: n) = some q.2 := by simp [find]
      have hkey : p.1 = q.1 :=
        Nat.le_antisymm (head_le_of_find hm ((h q.1).trans hq)) (head_le_of_find hn ((h p.1).symm.trans hp))
      have hval : p.2 = q.2 := Option.some.inj (hp.symm.trans ((h p.1).trans (hkey ▸ hq)))
      obtain rfl : p = q := Prod.ext hkey hval
      congr 1
      refine ih (sorted_cons.1 hm).2 (sorted_cons.1 hn).2 fun k => ?_
      by_cases hk : p.1 = k
      · subst hk
        rw [find_tail hm, find_tail hn]
      · simpa [find, hk] using h k

end SMap

end Sys2Proof

namespace Sys2Proof.Machine

open Sys2Proof

/-- A little-endian number has the bytes asked for. -/
@[simp] theorem length_leBytes (n v : Nat) : (leBytes n v).length = n := by
  induction n generalizing v with
  | zero => rfl
  | succ n ih => simp [leBytes, ih]

/-- The bytes of a number give the number back, cut to their count. -/
theorem ofLe_leBytes (n v : Nat) : ofLe (leBytes n v) = v % 256 ^ n := by
  induction n generalizing v with
  | zero => simp [leBytes, ofLe, Nat.mod_one]
  | succ n ih => rw [leBytes, ofLe, ih, Nat.mod_mod, Nat.pow_succ', Nat.mod_mul]

/-- Only the low eight bits of each byte count. -/
theorem ofLe_map_mod (l : List Nat) : ofLe (l.map (· % 256)) = ofLe l := by
  induction l with
  | nil => rfl
  | cons b r ih => simp [ofLe, ih]

namespace State

/-- The bytes from an address: the first one, and those that follow. -/
theorem bytes_succ (a n : Nat) (s : State) : s.bytes a (n + 1) = (s.byte a).toNat :: s.bytes (a + 1) n := by
  rw [bytes, List.range_succ_eq_map, List.map_cons, List.map_map]
  refine congrArg (_ :: ·) (List.map_congr_left fun i _ => ?_)
  rw [Function.comp_apply, Nat.succ_eq_one_add, Nat.add_assoc]

/-- A list of stored bytes leaves the bytes outside it alone. -/
theorem byte_setBytes_other {a b : Nat} {l : List Nat} (h : b < a ∨ a + l.length ≤ b) (s : State) :
    (s.setBytes a l).byte b = s.byte b := by
  induction l generalizing a s with
  | nil => rfl
  | cons x r ih =>
    rw [List.length_cons] at h
    rw [setBytes, ih (by omega), byte_setByte_other (by omega)]

/-- A list of stored bytes reads back. -/
theorem bytes_setBytes (a : Nat) (l : List Nat) (s : State) : (s.setBytes a l).bytes a l.length = l.map (· % 256) := by
  induction l generalizing a s with
  | nil => rfl
  | cons x r ih =>
    rw [List.length_cons, bytes_succ, setBytes, ih, byte_setBytes_other (.inl (Nat.lt_succ_self a)),
      byte_setByte_self, BitVec.toNat_ofNat, List.map_cons]

/-- A list of stored bytes keeps memory canonical. -/
theorem setBytes_wf (a : Nat) (l : List Nat) {s : State} (h : Memory.wf s.mem = true) :
    Memory.wf (s.setBytes a l).mem = true := by
  induction l generalizing a s with
  | nil => exact h
  | cons x r ih => exact ih _ (setByte_wf a _ h)

/-- A stored number reads back, cut to its bytes. -/
theorem load_store (a n v : Nat) (s : State) : (s.store a n v).load a n = v % 256 ^ n := by
  have h := bytes_setBytes a (leBytes n v) s
  rw [length_leBytes] at h
  rw [load, store, h, ofLe_map_mod, ofLe_leBytes]

/-- A stored number leaves the bytes outside it alone. -/
theorem store_onlyBytes (a n v : Nat) (s : State) : OnlyBytes a n s (s.store a n v) := fun _ hb =>
  byte_setBytes_other (by rwa [length_leBytes]) s

/-- In a canonical memory the byte that is read says what is listed. -/
theorem find_mem_eq {s : State} (h : Memory.wf s.mem = true) (a : Nat) :
    SMap.find a s.mem = if s.byte a = 0 then none else some (s.byte a) := by
  unfold byte
  cases e : SMap.find a s.mem with
  | none => simp
  | some v =>
    have hv : v ≠ 0 := (Memory.wf_iff.1 h).2 _ (SMap.mem_of_find e)
    exact (if_neg hv).symm

end State

/-- Settles O53: a store is a list of bytes, stored and read back one by one; in canonical memory what is listed is
what is read, and a sorted list is what is found in it. -/
theorem memoryReadsWhatWasWritten : Obligations.MemoryReadsWhatWasWritten := by
  refine ⟨fun a n v s => ⟨s.load_store a n v, s.store_onlyBytes a n v, (k_store a n v s).only _ (by decide)⟩,
    fun a n v s h => s.setBytes_wf a _ h, fun s t hs ht h => ?_⟩
  refine SMap.ext_find (Memory.wf_iff.1 hs).1 (Memory.wf_iff.1 ht).1 fun a => ?_
  rw [s.find_mem_eq hs, t.find_mem_eq ht, h]

end Sys2Proof.Machine
end

section
/-! SUPPORT and PROOF. What a write and a clearing read do to each field of a register (O54). -/

namespace Sys2Proof

namespace RegFile

section pass

variable {step : RegFile → Fld → RegFile}

/-- A pass over fields, each step of which leaves the other keys, leaves a field at another key. -/
theorem get_foldl_other (hstep : ∀ m g f, f.key ≠ g.key → get f (step m g) = get f m) {f : Fld} {fs : List Fld}
    (h : ∀ g ∈ fs, f.key ≠ g.key) (m : RegFile) : get f (fs.foldl step m) = get f m := by
  induction fs generalizing m with
  | nil => rfl
  | cons g fs ih =>
    rw [List.foldl_cons, ih fun x hx => h x (List.mem_cons_of_mem _ hx)]
    exact hstep m g f (h g List.mem_cons_self)

/-- A pass over fields at different keys gives each field the value its own step gives it. -/
theorem get_foldl_of_mem (hstep : ∀ m g f, f.key ≠ g.key → get f (step m g) = get f m) {val : Nat → Nat} {f : Fld}
    (hval : ∀ m, get f (step m f) = val (get f m)) {fs : List Fld} (hk : (fs.map Fld.key).Nodup) (hf : f ∈ fs)
    (m : RegFile) : get f (fs.foldl step m) = val (get f m) := by
  induction fs generalizing m with
  | nil => exact nomatch hf
  | cons g fs ih =>
    rw [List.map_cons, List.nodup_cons] at hk
    rw [List.foldl_cons]
    rcases List.mem_cons.1 hf with rfl | hf
    · rw [get_foldl_other hstep fun x hx e => hk.1 (e ▸ List.mem_map_of_mem hx), hval]
    · rw [ih hk.2 hf, hstep m g f fun e => hk.1 (e ▸ List.mem_map_of_mem hf)]

end pass

/-- What a write by access codes does to one field of the register. -/
def writeFld (open' : Bool) (v : Nat) (m : RegFile) (f : Fld) : RegFile :=
  match f.acc with
  | .rw => m.set f (bits f.hi f.lo v)
  | .rwa => if open' then m.set f (bits f.hi f.lo v) else m
  | .w1c => m.set f (m.get f &&& (f.size - 1 - bits f.hi f.lo v))
  | _ => m

/-- A write is a pass over the register's fields. -/
theorem write_eq (open' : Bool) (fs : List Fld) (v : Nat) (m : RegFile) :
    write open' fs v m = fs.foldl (writeFld open' v) m := rfl

/-- A write to a field leaves the fields at other keys. -/
theorem get_writeFld_other (open' : Bool) (v : Nat) (m : RegFile) (g f : Fld) (h : f.key ≠ g.key) :
    get f (writeFld open' v m g) = get f m := by
  unfold writeFld
  split
  · exact get_set_other h _ _
  · split
    · exact get_set_other h _ _
    · rfl
  · exact get_set_other h _ _
  · rfl

/-- What a write leaves in a field of the register: by its access code, from what it held. -/
def written (open' : Bool) (v : Nat) (f : Fld) (old : Nat) : Nat :=
  match f.acc with
  | .rw => bits f.hi f.lo v
  | .rwa => if open' then bits f.hi f.lo v else old
  | .w1c => (old &&& (f.size - 1 - bits f.hi f.lo v)) % f.size
  | _ => old

/-- The bits of a field fit it. -/
theorem bits_mod_size (f : Fld) (v : Nat) : bits f.hi f.lo v % f.size = bits f.hi f.lo v := Nat.mod_mod _ _

/-- A write to a field leaves there what its access code says. -/
theorem get_writeFld_self (open' : Bool) (v : Nat) (f : Fld) (m : RegFile) :
    get f (writeFld open' v m f) = written open' v f (get f m) := by
  unfold writeFld written
  cases f.acc with
  | rw => exact (get_set_self ..).trans (bits_mod_size f v)
  | rwa =>
    cases open'
    · rfl
    · exact (get_set_self ..).trans (bits_mod_size f v)
  | w1c => exact get_set_self ..
  | ro | wo | rc => rfl

/-- A write leaves in each field of the register what its access code says. -/
theorem get_write_of_mem (open' : Bool) (v : Nat) {a : Nat} {fs : List Fld} (ok : FldsOk a fs) {f : Fld} (hf : f ∈ fs)
    (m : RegFile) : get f (write open' fs v m) = written open' v f (get f m) := by
  rw [write_eq]
  exact get_foldl_of_mem (get_writeFld_other open' v) (get_writeFld_self open' v f) ok.keys hf m

/-- A write leaves the fields of other registers. -/
theorem get_write_other (open' : Bool) (v : Nat) {fs : List Fld} {f : Fld} (h : ∀ g ∈ fs, f.key ≠ g.key) (m : RegFile) :
    get f (write open' fs v m) = get f m := by
  rw [write_eq]
  exact get_foldl_other (get_writeFld_other open' v) h m

/-- A clearing read returns the RC fields of the register to their reset values and leaves its other fields. -/
theorem get_clearRC_of_mem {a : Nat} {fs : List Fld} (ok : FldsOk a fs) {f : Fld} (hf : f ∈ fs) (m : RegFile) :
    get f (clearRC fs m) = if f.acc = .rc then f.reset else get f m := by
  unfold clearRC
  refine get_foldl_of_mem (val := fun old => if f.acc = .rc then f.reset else old) (fun m g f h => ?_) (fun m => ?_)
    ok.keys hf m
  · split
    · exact get_set_other h _ _
    · rfl
  · split
    · exact (get_set_self ..).trans (Nat.mod_eq_of_lt (ok.fits f hf).2.2)
    · rfl

/-- The word of a register is the sum of its readable fields at their places. -/
theorem word_eq_sum (fs : List Fld) (m : RegFile) :
    word fs m = (fs.map fun f => if f.acc = .wo then 0 else get f m * 2 ^ f.lo).sum := by
  have h (l : List Fld) (w : Nat) : l.foldl (fun w f => if f.acc = .wo then w else w + get f m * 2 ^ f.lo) w =
      w + (l.map fun f => if f.acc = .wo then 0 else get f m * 2 ^ f.lo).sum := by
    induction l generalizing w with
    | nil => rfl
    | cons f l ih =>
      rw [List.foldl_cons, ih, List.map_cons, List.sum_cons]
      split <;> omega
  exact (h fs 0).trans (Nat.zero_add _)

end RegFile

end Sys2Proof

namespace Sys2Proof.Machine

open Sys2Proof

/-- A write at the address of a register is a write of its fields; RWA fields are open in HELD and ADMITTED. -/
theorem State.wstore_eq {a : Nat} {fs : List Fld} (h : regAt WR.rows a = some fs) (v : Nat) (s : State) :
    s.wstore a v = { s with wr := s.wr.write s.isOpen fs v } := by
  unfold wstore
  rw [h]
  rfl

/-- A write at an address that names no register is ignored. -/
theorem State.wstore_none {a : Nat} (h : regAt WR.rows a = none) (v : Nat) (s : State) : s.wstore a v = s := by
  unfold wstore
  rw [h]

/-- What a field of the register holds after a write at its address. -/
theorem State.wget_wstore {a : Nat} {fs : List Fld} {f : Fld} (h : regAt WR.rows a = some fs) (hf : f ∈ fs) (v : Nat)
    (s : State) : (s.wstore a v).wget f = RegFile.written s.isOpen v f (s.wget f) := by
  rw [wstore_eq h]
  exact RegFile.get_write_of_mem _ _ (WR.regAt_fields h) hf _

/-- Settles O54: a write and a clearing read pass over the fields of one register, which stand at different keys. -/
theorem accessCodes : Obligations.AccessCodes := by
  refine ⟨fun a v fs f s h hf => ?_, fun a v fs s h => ⟨fun f hf => ?_, ?_⟩, fun a v s h => s.wstore_none h v,
    fun a fs f s h hf => RegFile.get_clearRC_of_mem (WR.regAt_fields h) hf _, fun a fs s _ => RegFile.word_eq_sum fs _⟩
  · rw [State.wget_wstore h hf]
    unfold RegFile.written
    refine ⟨fun e => by rw [e], fun e => by rw [e], fun e hlt => ?_, ?_⟩
    · rw [e]
      exact Nat.mod_eq_of_lt (Nat.lt_of_le_of_lt Nat.and_le_left hlt)
    · rintro (e | e | e) <;> rw [e]
  · rw [State.wstore_eq h]
    exact RegFile.get_write_other _ _ hf _
  · exact (k_wstore a v s).only _ (by decide)

end Sys2Proof.Machine
end

section
/-! SUPPORT and PROOF. A command of one Tladon changes only the parts of that Tladon that are its own (O52). -/

namespace Sys2Proof.Machine

open Sys2Proof

/-- Of the Tladons only that of port `p` changes, and of it only the parts in the mask `m`. -/
structure TlKept (p m : Nat) (s t : State) : Prop where
  others : ∀ q, q ≠ p → t.tladon q = s.tladon q
  parts : TKeeps m (s.tladon p) (t.tladon p)

namespace TlKept

variable {p m : Nat} {s t u : State}

/-- Nothing changes where nothing happens. -/
theorem refl (p m : Nat) (s : State) : TlKept p m s s := ⟨fun _ _ => rfl, TKeeps.refl _ _⟩

/-- One step after another. -/
theorem trans (h : TlKept p m s t) (k : TlKept p m t u) : TlKept p m s u :=
  ⟨fun q hq => (k.others q hq).trans (h.others q hq), h.parts.trans k.parts⟩

/-- A change of the Tladon. -/
theorem modTl {f : Tladon → Tladon} (h : TKeeps m (s.tladon p) (f (s.tladon p))) : TlKept p m s (s.modTl p f) :=
  ⟨fun _ hq => State.tladon_modTl_other hq f s, (State.tladon_modTl_self p f s).symm ▸ h⟩

/-- A command that arrives on a downlink of the Tladon. -/
theorem tlCmd {f : Nat → Nat → Tladon → Tladon} (h : ∀ now free t, TKeeps m t (f now free t)) :
    TlKept p m s (stateOf s (s.tlCmd p f)) :=
  have k : TlKept p m s (s.modTl p (f s.now (Config.freeValue s.freeCnt))) := modTl (h ..)
  ⟨k.others, k.parts⟩

/-- Something leaves a pin or a link. -/
theorem emit (o : Out) (h : TlKept p m s t) : TlKept p m s (t.emit o) := ⟨h.others, h.parts⟩

/-- The next state that is answered. -/
theorem next {d : State} (h : TlKept p m s t) : TlKept p m s (stateOf d (.next t)) := h

/-- A fold. -/
theorem foldl {α : Type} {f : State → α → State} (l : List α) (h : TlKept p m s t)
    (k : ∀ x a, TlKept p m s x → TlKept p m s (f x a)) : TlKept p m s (l.foldl f t) := by
  induction l generalizing t with
  | nil => exact h
  | cons a l ih => exact ih (k t a h)

end TlKept

/-- A command behind the gate of its downlink changes the command counts and what it changes itself. -/
theorem kt_gate {m n op arg : Nat} {d : Bool} {f : Tladon → Tladon} {t : Tladon} (h : ∀ x, TKeeps n x (f x))
    (e : n ||| (8 ||| m) = 8 ||| m) : TKeeps (8 ||| m) t (t.gate' d op arg f) :=
  kt_gate_ d op arg f t (fun x => (h x).weaken e) (by rw [← Nat.or_assoc, Nat.or_self])

/-! ### Commands whose effect on the Tladon stands in the command itself -/

/-- `execTladonPllLock` changes of its Tladon at most: regs, clk, epoch, holdAt, ups. -/
theorem kt_execTladonPllLock (p : Nat) (s : State) :
    TlKept p (TlPart.mask [.regs, .clk, .epoch, .holdAt, .ups]) s (stateOf s (execTladonPllLock p s)) := by
  refine .next (.modTl ?_)
  split
  · exact .ite ((kt_lock ..).weaken (by decide)) (.refl _ _)
  · exact .refl _ _

/-- `execTladonPllLockLost` changes of its Tladon at most: regs, epoch, holdAt. -/
theorem kt_execTladonPllLockLost (p : Nat) (s : State) :
    TlKept p (TlPart.mask [.regs, .epoch, .holdAt]) s (stateOf s (execTladonPllLockLost p s)) :=
  .next (.modTl (.ite ((kt_unlock ..).step (by decide) ((kt_set ..).weaken (by decide))) (.refl _ _)))

/-- `execChannelRearm` changes of its Tladon at most: chans. -/
theorem kt_execChannelRearm (p ch : Nat) (s : State) :
    TlKept p (TlPart.mask [.chans]) s (stateOf s (execChannelRearm p ch s)) :=
  .next (.modTl (.ite (kt_modChan ..) (.refl _ _)))

/-- `execSampRefReady` changes of its Tladon at most: regs. -/
theorem kt_execSampRefReady (p : Nat) (s : State) :
    TlKept p (TlPart.mask [.regs]) s (stateOf s (execSampRefReady p s)) :=
  .next (.modTl (.ite (kt_set ..) (.refl _ _)))

/-- `execTladonDlCdrLock` changes of its Tladon at most: dls. -/
theorem kt_execTladonDlCdrLock (p : Nat) (d : Bool) (s : State) :
    TlKept p (TlPart.mask [.dls]) s (stateOf s (execTladonDlCdrLock p d s)) :=
  .next (.modTl (.ite (kt_modDl ..) (.refl _ _)))

/-- `execTladonDlCdrLoss` changes of its Tladon at most: regs, dls. -/
theorem kt_execTladonDlCdrLoss (p : Nat) (d : Bool) (s : State) :
    TlKept p (TlPart.mask [.regs, .dls]) s (stateOf s (execTladonDlCdrLoss p d s)) :=
  .next (.modTl ((kt_modDl ..).step (m := 1032) (by decide) (.ite (kt_loseLock ..) (.refl _ _))))

/-- `execPoweredToListening` changes of its Tladon at most: regs, sched, ups, chans, ints, gate, arm, samps, sweep,
pad. -/
theorem kt_execPoweredToListening (p : Nat) (s : State) :
    TlKept p (TlPart.mask [.regs, .sched, .ups, .chans, .ints, .gate, .arm, .samps, .sweep, .pad]) s
      (stateOf s (execPoweredToListening p s)) :=
  .next (.modTl (.ite ((kt_showUps ..).step (by decide) (kt_changeState ..)) (.refl _ _)))

/-- `execSurveyInEdge` changes of its Tladon at most: gate. -/
theorem kt_execSurveyInEdge (p raw : Nat) (s : State) :
    TlKept p (TlPart.mask [.gate]) s (stateOf s (execSurveyInEdge p raw s)) :=
  .next (.modTl (.ite (kt_surveyEdge ..) (.refl _ _)))

/-- `execDownlinkCellRx` changes of its Tladon at most: regs, epoch, sched, linkDue, dls, ups, chans, ints, gate, arm,
cal, samps, refAt, sweep, monFrames, pad. -/
theorem kt_execDownlinkCellRx (p : Nat) (d : Bool) (cell raw : Nat) (s : State) :
    TlKept p (TlPart.mask [.regs, .epoch, .sched, .linkDue, .dls, .ups, .chans, .ints, .gate, .arm, .cal, .samps,
      .refAt, .sweep, .monFrames, .pad]) s (stateOf s (execDownlinkCellRx p d cell raw s)) :=
  .tlCmd fun _ _ _ => kt_cell ..

/-- `execRegWrite` changes of its Tladon at most: regs, linkDue, ups, chans, ints, gate, arm, cal, samps, refAt,
sweep, monFrames, pad. -/
theorem kt_execRegWrite (p : Nat) (d : Bool) (tag addr value : Nat) (s : State) :
    TlKept p (TlPart.mask [.regs, .linkDue, .ups, .chans, .ints, .gate, .arm, .cal, .samps, .refAt, .sweep,
      .monFrames, .pad]) s (stateOf s (execRegWrite p d tag addr value s)) :=
  .tlCmd fun _ _ _ => kt_gate (fun _ => kt_regWrite ..) (by decide)

/-- `execRegRead` changes of its Tladon at most: regs, ups. -/
theorem kt_execRegRead (p : Nat) (d : Bool) (tag addr : Nat) (s : State) :
    TlKept p (TlPart.mask [.regs, .ups]) s (stateOf s (execRegRead p d tag addr s)) :=
  .tlCmd fun _ _ _ => kt_gate (fun _ => kt_regRead ..) (by decide)

/-- `execRegPeek` changes of its Tladon at most: regs, ups. -/
theorem kt_execRegPeek (p : Nat) (d : Bool) (tag addr : Nat) (s : State) :
    TlKept p (TlPart.mask [.regs, .ups]) s (stateOf s (execRegPeek p d tag addr s)) :=
  .tlCmd fun _ _ _ => kt_gate (fun _ => kt_regPeek ..) (by decide)

/-- A window is counted as suppressed or leaves; then its words are dropped. -/
theorem kt_execPrimitiveWindow (p slot : Nat) (s : State) :
    TlKept p (TlPart.mask [.regs, .pad]) s (stateOf s (execPrimitiveWindow p slot s)) := by
  unfold execPrimitiveWindow
  extract_lets t gate ws words x
  split
  · have hx : TlKept p (TlPart.mask [.regs, .pad]) s x := by
      refine .foldl _ (.refl _ _ _) fun y k hy => ?_
      split
      · exact hy.trans (.modTl ((kt_add ..).weaken (by decide)))
      · exact hy.emit _
    exact hx.trans (.modTl ((kt_modPad ..).weaken (by decide)))
  · exact .refl _ _ _

/-- A block leaves; the uplink moves on, a slot's pin is given back and the link's counts are kept. -/
theorem kt_execUplinkBlockSend (p k offset : Nat) (s : State) :
    TlKept p (TlPart.mask [.regs, .ups, .pad]) s (stateOf s (execUplinkBlockSend p k offset s)) := by
  unfold execUplinkBlockSend
  extract_lets t
  split
  · refine .foldl _ (.emit _ (.modTl ?_)) fun y k hy => hy.emit _
    refine (kt_add ..).step (by decide) ((kt_countIf ..).step (by decide) ?_)
    split
    · exact (kt_modSlot ..).step (by decide) ((kt_modUp ..).weaken (by decide))
    · exact (kt_modUp ..).weaken (by decide)
  · exact .refl _ _ _

/-- Power comes and goes: every part of a Tladon may change. -/
theorem TKeeps.of_all_parts (t u : Tladon) : TKeeps (2 ^ 25 - 1) t u :=
  ⟨fun p hp => by cases p <;> exact absurd hp (by decide)⟩

/-- Every command of a Tladon keeps the other Tladons and, of its own, the parts that `tlTouches` does not list: the
law of its own operation, command by command. -/
theorem exec_tlKept {c : Instr} {p : Nat} (h : tlPort c = some p) (s : State) :
    TlKept p (TlPart.mask (tlTouches c)) s (stateOf s (exec c s)) := by
  cases c <;> cases h
  case tladonPllLock => exact kt_execTladonPllLock ..
  case tladonPllLockLost => exact kt_execTladonPllLockLost ..
  case epoch => exact .next <| .modTl (kt_epochFrom ..)
  case epochTakeEffect => exact .next <| .modTl (kt_epochEffect ..)
  case holdoverLimit => exact .next <| .modTl (kt_holdExit ..)
  case discriminatorLeadingEdge => exact .next <| .modTl (kt_leadEdge ..)
  case discriminatorTrailingEdge => exact .next <| .modTl (kt_trailEdge ..)
  case totSaturation => exact .next <| .modTl (kt_saturate ..)
  case hitWordComplete => exact .next <| .modTl (kt_hitComplete ..)
  case channelRearm => exact kt_execChannelRearm ..
  case clampEngage => exact .next <| .modTl (kt_clampEngage ..)
  case clampRelease => exact .next <| .modTl (kt_clampRelease ..)
  case chCfgWrite => exact .next <| .modTl (kt_chCfg ..)
  case chThrWrite => exact .next <| .modTl (kt_chThr ..)
  case settlingEnd => exact .next <| .modTl (kt_settleEnd ..)
  case configScrub => exact .next <| .modTl (kt_add ..)
  case intervalStartEdge => exact .next <| .modTl (kt_leadEdge ..)
  case intervalStopEdge => exact .next <| .modTl (kt_leadEdge ..)
  case intervalTimeout => exact .next <| .modTl (kt_intTimeout ..)
  case chnIntWrite => exact .next <| .modTl (kt_intWrite ..)
  case surveyStart => exact .next <| .modTl (kt_surveyStart ..)
  case surveyArm => exact .next <| .modTl (kt_surveyArm ..)
  case surveyGateOpen => exact .next <| .modTl (kt_surveyGateOpen ..)
  case surveyAbort => exact .next <| .modTl (kt_abortGate ..)
  case surveyCfgWrite => exact .next <| .modTl (kt_surveyCfgWrite ..)
  case surveyGateEnd => exact .next <| .modTl (kt_surveyGateEnd ..)
  case surveyResult => exact .next <| .modTl (kt_surveyResult ..)
  case ditherConversion => exact .next <| .modTl (kt_dither ..)
  case calSwap => exact .next <| .modTl (kt_calSwap ..)
  case calRetire => exact .next <| .modTl (kt_calRetire ..)
  case calTimeout => exact .next <| .modTl (kt_calTimeout ..)
  case calCtrlWrite => exact .next <| .modTl (kt_calCtrlWrite ..)
  case sampRefWrite => exact .next <| .modTl (kt_refWrite ..)
  case sampRefReady => exact kt_execSampRefReady ..
  case sampEnWrite => exact .next <| .modTl (kt_sampEn ..)
  case sampCfgWrite => exact .next <| .modTl (kt_sampCfg ..)
  case sampArm => exact .next <| .modTl (kt_armMask ..)
  case sampForce => exact .next <| .modTl (kt_forceMask ..)
  case sampDisarm => exact .next <| .modTl (kt_disarmMask ..)
  case pulseWidthEvent => exact .next <| .modTl (kt_pulseWidth ..)
  case sampTimerEvent => exact .next <| .modTl (kt_timerEvent ..)
  case sampTriggerTick => exact .next <| .modTl (kt_triggerTick ..)
  case sampFreeze => exact .next <| .modTl (kt_freeze ..)
  case sampWordOffer => exact .next <| .modTl (kt_sampWord ..)
  case sampHoldoffEnd => exact .next <| .modTl (kt_holdoffEnd ..)
  case sampTrimWrite => exact .next <| .modTl (kt_trimWrite ..)
  case monGo => exact .next <| .modTl (kt_monStart ..)
  case monTimerSweep => exact .next <| .modTl (kt_monTimer ..)
  case monConversionDone => exact .next <| .modTl (kt_monDone ..)
  case hitQueueDrain => exact .next <| .modTl (kt_drain ..)
  case slotClose => exact .next <| .modTl (kt_slotClose ..)
  case slotRelease => exact .next <| .modTl (kt_slotRelease ..)
  case acceptTakeEffect => exact .next <| .modTl (kt_acceptEffect ..)
  case fragmentBuild => exact .next <| .modTl (kt_fragmentBuild ..)
  case tladonFrameBoundary => exact .next <| .modTl (kt_frameBoundary ..)
  case padCtrlWrite => exact .next <| .modTl (kt_holdRequest ..)
  case padHoldChange => exact .next <| .modTl (kt_holdChange ..)
  case padConfigWrite => exact .next <| .modTl (kt_padConfig ..)
  case primitiveForm => exact .next <| .modTl (kt_primForm ..)
  case primitiveWindow => exact kt_execPrimitiveWindow ..
  case downlinkCellRx => exact kt_execDownlinkCellRx ..
  case tladonDlCdrLock => exact kt_execTladonDlCdrLock ..
  case tladonDlCdrLoss => exact kt_execTladonDlCdrLoss ..
  case regWrite => exact kt_execRegWrite ..
  case regRead => exact kt_execRegRead ..
  case regPeek => exact kt_execRegPeek ..
  case monSweep => exact .next <| .modTl (kt_gate (fun _ => kt_monStart ..) (by decide))
  case hold => exact .next <| .modTl (kt_gate (fun _ => kt_holdRequest ..) (by decide))
  case release => exact .next <| .modTl (kt_gate (fun _ => kt_holdRequest ..) (by decide))
  case stateListen => exact .next <| .modTl (kt_gate (fun _ => kt_stateListen ..) (by decide))
  case stateConfigure => exact .next <| .modTl (kt_gate (fun _ => kt_stateConfigure ..) (by decide))
  case stateAcquire => exact .next <| .modTl (kt_gate (fun _ => kt_stateAcquire ..) (by decide))
  case stateQuiet => exact .next <| .modTl (kt_gate (fun _ => kt_stateQuiet ..) (by decide))
  case stateAcquireEffect => exact .next <| .modTl (kt_acquireEffect ..)
  case stateConfigureEffect => exact .next <| .modTl (kt_configureEffect ..)
  case quietPowerDown => exact .next <| .modTl (kt_powerDown ..)
  case reset => exact .next <| .modTl (kt_gate (fun _ => kt_resetCmd ..) (by decide))
  case claim => exact .next <| .modTl (kt_gate (fun _ => kt_claim ..) (by decide))
  case replay => exact .next <| .modTl (kt_gate (fun _ => kt_replayCmd ..) (by decide))
  case relink => exact .next <| .modTl (kt_gate (fun _ => kt_relinkCmd ..) (by decide))
  case claimExpiry => exact .next <| .modTl (kt_claimExpiry ..)
  case obeyChange => exact .next <| .modTl (kt_obeyChange ..)
  case poweredToListening => exact kt_execPoweredToListening ..
  case linkCfgWrite => exact .next <| .modTl (kt_linkCfg ..)
  case tladonPorRelease => exact .next <| .modTl (.of_all_parts _ _)
  case tladonRailDrop => exact .next <| .modTl (.of_all_parts _ _)
  case uplinkBlockSend => exact kt_execUplinkBlockSend ..
  case surveyInEdge => exact kt_execSurveyInEdge ..

/-- A command addresses a Tladon where its list names the Tladons. -/
theorem tlPort_isSome (c : Instr) : (tlPort c).isSome = decide (.tl ∈ touches c) := by cases c <;> rfl

/-- Supply, part number and straps are in the list of the power-on reset's release and of the supply's drop only. -/
theorem supply_not_touched {c : Instr} (hr : ∀ q, c ≠ .tladonPorRelease q) (hd : ∀ q, c ≠ .tladonRailDrop q) :
    .powered ∉ tlTouches c ∧ .tl512t ∉ tlTouches c ∧ .straps ∉ tlTouches c := by
  cases c
  case tladonPorRelease => exact absurd rfl (hr _)
  case tladonRailDrop => exact absurd rfl (hd _)
  all_goals exact of_decide_eq_true rfl

/-- A command of a Tladon changes of it only the parts in the command's list. -/
theorem TlKept.of_exec {c : Instr} {p : Nat} {s t : State} (h : tlPort c = some p) (e : exec c s = .next t) :
    TlKept p (TlPart.mask (tlTouches c)) s t := by
  have k := exec_tlKept h s
  rwa [e] at k

/-- Settles O52: by the law of each command's own operation on its Tladon; a command of no Tladon does not list them. -/
theorem tladonCommandsStayInTheirTladon : Obligations.TladonCommandsStayInTheirTladon := by
  refine ⟨fun c p s t h e => ?_, fun c s t h _ e q => ?_, fun c p s t h hr hd e => ?_⟩
  · have k := TlKept.of_exec h e
    exact ⟨k.others, k.parts.only _ (Nat.or_self _)⟩
  · have ht : .tl ∉ touches c := by simpa [h] using tlPort_isSome c
    have k : t.tl = s.tl := OnlyParts.of_exec e _ ht
    rw [State.tladon, State.tladon, k]
  · obtain ⟨hp, hn, hs⟩ := supply_not_touched hr hd
    have k : OnlyTlParts (tlTouches c) (s.tladon p) (t.tladon p) := (TlKept.of_exec h e).parts.only _ (Nat.or_self _)
    exact ⟨k _ hp, k _ hn, k _ hs⟩

end Sys2Proof.Machine
end

section
/-! SUPPORT. Groom, the error log and the Farrier table: what each operation does (O29). -/

namespace Sys2Proof

/-- Of several stores to fields at different keys each is read. -/
theorem RegFile.get_sets_of_mem {l : List (Fld × Nat)} (hk : (l.map fun p => p.1.key).Nodup) {f : Fld} {v : Nat}
    (h : (f, v) ∈ l) (m : RegFile) : get f (sets l m) = v % f.size := by
  induction l generalizing m with
  | nil => exact nomatch h
  | cons p l ih =>
    obtain ⟨g, w⟩ := p
    rw [List.map_cons, List.nodup_cons] at hk
    rw [sets_cons]
    rcases List.mem_cons.1 h with e | h
    · cases e
      rw [get_sets_other l (fun q hq e => hk.1 (e ▸ List.mem_map_of_mem hq)), get_set_self]
    · exact ih hk.2 h _

end Sys2Proof

namespace Sys2Proof.Machine

open Sys2Proof

/-- A command completes with what it answers. -/
theorem Runs.of_exec {c : Instr} {s t : State} {post : State → Prop} (h : exec c s = .next t) (hp : post t) :
    Runs c s post := .of h (OnlyParts.of_exec h) hp

/-! ### Codes and wrong bits -/

/-- No wrong bit, no syndrome. -/
@[simp] theorem syndrome_zero (m : Nat) : syndrome m 0 = 0 := by
  have h (l : List Nat) : synOf l 0 = 0 := by
    induction l with
    | nil => rfl
    | cons c l ih => simp [synOf, ih]
  exact h _

/-- No syndrome, a clean word (R441). -/
@[simp] theorem memClass_zero (m : Nat) : memClass m 0 = 0 := rfl

namespace State

/-! ### What the operations of protected memory leave -/

/-- Wrong bits are stored beside everything else. -/
@[simp] theorem setFlips_fields (m i v : Nat) (s : State) :
    (s.setFlips m i v).wr = s.wr ∧ (s.setFlips m i v).now = s.now ∧ (s.setFlips m i v).tick = s.tick ∧
    (s.setFlips m i v).mems.cursors = s.mems.cursors ∧ (s.setFlips m i v).mems.wrapped = s.mems.wrapped ∧
    (s.setFlips m i v).mems.log = s.mems.log ∧ (s.setFlips m i v).mems.confirm = s.mems.confirm ∧
    (s.setFlips m i v).mems.far = s.mems.far ∧ (s.setFlips m i v).mems.bad = s.mems.bad :=
  ⟨rfl, rfl, rfl, rfl, rfl, rfl, rfl, rfl, rfl⟩

/-- Wrong bits are stored beside the registers. -/
@[simp] theorem wget_setFlips (m i v : Nat) (f : Fld) (s : State) : (s.setFlips m i v).wget f = s.wget f := rfl

/-- The wrong bits that are stored are read. -/
@[simp] theorem flipsOf_setFlips (m i v : Nat) (s : State) : (s.setFlips m i v).flipsOf m i = v := by
  show SMap.getD 0 (memKey m i) (if v = 0 then SMap.erase (memKey m i) s.mems.flips
    else SMap.insert (memKey m i) v s.mems.flips) = v
  split
  · rename_i h
    rw [SMap.getD, SMap.find_erase_self, h, Option.getD_none]
  · exact SMap.getD_insert_self ..

/-- The confirm list and the log are shown beside the memories. -/
@[simp] theorem showMem_mems (s : State) : s.showMem.mems = s.mems := (k_showMem s).1 .mems rfl

/-- Showing the confirm list and the log stores two fields. -/
theorem showMem_onlyRegs (s : State) : OnlyRegs [WR.MEM_STATUS_CONFIRM, WR.MEM_LOG_CNT_DEPTH] s s.showMem :=
  (OnlyRegs.refl _ s).wsets _ (by simp)

/-- A word is corrected beside the memories' bookkeeping and the registers. -/
@[simp] theorem xorWord_fields (m i mask : Nat) (s : State) :
    (s.xorWord m i mask).mems = s.mems ∧ (s.xorWord m i mask).wr = s.wr ∧ (s.xorWord m i mask).tick = s.tick :=
  have k := (k_xorWord m i mask s).1
  have hnow : (s.xorWord m i mask).now = s.now := k .now rfl
  have hclk : (s.xorWord m i mask).wclk = s.wclk := k .wclk rfl
  ⟨k .mems rfl, k .wr rfl, by rw [tick, hnow, hclk, tick]⟩

/-- A word is corrected beside the registers. -/
@[simp] theorem wget_xorWord (m i mask : Nat) (f : Fld) (s : State) : (s.xorWord m i mask).wget f = s.wget f := by
  rw [wget, (xorWord_fields m i mask s).2.1, wget]

/-! ### Groom (R444, R445, R453) -/

/-- A read of a word without wrong bits is clean. -/
theorem readWord_clean {m i : Nat} {s : State} (h : s.flipsOf m i = 0) (src ch : Nat) (groom : Bool) :
    s.readWord m i src ch groom ⟨0, 0, 0⟩ = (false, 0, s.setFlips m i 0) := by
  simp [readWord, h]

/-- A cursor that does not wrap moves to the next word. -/
theorem groomMove_next {m i : Nat} {s : State} (hc : s.mems.cursors.getD m 0 = i) (hi : i + 1 < memWords m)
    (hw : s.mems.wrapped.length < 6) :
    ∃ p, s.groomMove m =
      (s.modMems fun x => { x with cursors := x.cursors.set m (i + 1) }).wset WR.MEM_GROOM_PROGRESS p := by
  refine ⟨(s.mems.cursors.set m (i + 1)).getD 0 0 / 4096, ?_⟩
  unfold groomMove
  simp only [hc, if_pos hi, Nat.succ_ne_zero, false_and, if_false]
  exact if_neg (Nat.ne_of_lt hw)

/-- The last cursor to wrap ends the pass: it is counted, and a late one is shown (R453, R454). -/
theorem groomMove_pass {m i : Nat} {s : State} (hc : s.mems.cursors.getD m 0 = i) (hi : memWords m ≤ i + 1)
    (hw : s.mems.wrapped.length = 5) (hm : m ∉ s.mems.wrapped) :
    ∃ p, ∃ late : Bool, s.groomMove m =
      let t := ((s.modMems fun x => { x with cursors := x.cursors.set m 0, wrapped := [], passAt := s.now }).wset
        WR.MEM_GROOM_PROGRESS p).wset WR.MEM_GROOM_PASSES (s.wget WR.MEM_GROOM_PASSES + 1)
      if late then t.wset WR.MEM_STATUS_GROOM_LATE 1 else t := by
  have hj : ¬ i + 1 < memWords m := Nat.not_lt.2 hi
  have hl : (m :: s.mems.wrapped).length = 6 := by rw [List.length_cons, hw]
  have hget {f : Fld} (h : f.key ≠ WR.MEM_GROOM_PROGRESS.key) (p : Nat) :
      (s.wr.set WR.MEM_GROOM_PROGRESS p).get f = s.wr.get f := RegFile.get_set_other h p s.wr
  refine ⟨(s.mems.cursors.set m 0).getD 0 0 / 4096, decide (s.groomPeriod + Config.secTicks < s.now - s.mems.passAt), ?_⟩
  unfold groomMove modMems
  simp only [hc, if_neg hj, true_and, if_pos hm, wset_fields, hl, if_true, groomPeriod, wget,
    hget (f := WR.MEM_CTRL_PERIOD) (by decide), hget (f := WR.MEM_GROOM_PASSES) (by decide)]
  rfl

/-- Groom's visit reads the word at its cursor and moves the cursor on. -/
theorem groomVisit_eq {m i : Nat} {s : State} (hr : s.groomRuns = true) (hm : m < 6)
    (hc : s.mems.cursors.getD m 0 = i) (u : Upset) :
    s.groomVisit m u = (s.readWord m i 0 0 true u).2.2.groomMove m := by
  rw [groomVisit, hr, hc]
  exact if_pos (by simpa using hm)

/-- Groom's visit to a word without wrong bits moves the cursor on. -/
theorem groomVisit_clean {m i : Nat} {s : State} (hr : s.groomRuns = true) (hm : m < 6)
    (hc : s.mems.cursors.getD m 0 = i) (hf : s.flipsOf m i = 0) :
    s.groomVisit m ⟨0, 0, 0⟩ = (s.setFlips m i 0).groomMove m := by
  rw [groomVisit_eq hr hm hc, readWord_clean hf]

/-- A detection enters a log that has room (R445). -/
theorem memLog_of_room {s : State} (h : s.mems.log.length < 32) (m i cls o src ch syn : Nat) :
    s.memLog m i cls o src ch syn =
      (s.modMems fun x => { x with log := x.log ++ [⟨m, cls, o, src, ch, syn, i, s.tick⟩] }).showMem := if_pos h

/-- The wrong bits of a word are read from where they are stored. -/
theorem flipsOf_congr {s t : State} (h : t.mems.flips = s.mems.flips) (m i : Nat) : t.flipsOf m i = s.flipsOf m i := by
  rw [flipsOf, h, flipsOf]

/-- Groom's retry corrects the word, writes it back and reads it clean: counted and logged (R444, R445). -/
theorem retrySingle_groom {m : Nat} {s : State} (hm : m ≠ 5) (hws : s.ws ≠ 6) (i src ch cls syn fix : Nat) :
    s.retrySingle m i src ch cls syn fix 0 true =
      ((((s.wadd (WR.MEM_CNTA_CORR m) 1).xorWord m i ((s.flipsOf m i ^^^ fix) % 2 ^ (memSpec m).1)).setFlips m i 0).wadd
        (WR.MEM_CNTB_TRANSIENT m) 1).memLog m i cls 0 src ch syn := by
  have hkept : (s.wadd (WR.MEM_CNTA_CORR m) 1).ws = s.ws :=
    ((SysKept.refl s).wadd (Nat.le_add_right_of_le (by decide))).ws
  have hquiet : (m == 5 || (s.wadd (WR.MEM_CNTA_CORR m) 1).ws == 6 && true) = false := by simp [hkept, hm, hws]
  unfold retrySingle
  simp only [hquiet, Bool.false_eq_true, if_false, Nat.zero_mod, syndrome_zero, beq_self_eq_true, if_true]
  rfl

/-- Groom corrects, writes back and counts an upset that the code can correct, and logs it (R441, R444, R445). -/
theorem readWord_corrected {m flip : Nat} {s : State} (hm : m ≠ 5) (hws : s.ws ≠ 6) (i : Nat) (hf : s.flipsOf m i = 0)
    (hlt : flip < 2 ^ ((memSpec m).1 + (memSpec m).2.2)) (hc : memClass m (syndrome m flip) = 1) :
    ∃ mask, (s.readWord m i 0 0 true ⟨flip, 0, 0⟩).2.2 =
      (((((s.setFlips m i flip).wadd (WR.MEM_CNTA_CORR m) 1).xorWord m i mask).setFlips m i 0).wadd
        (WR.MEM_CNTB_TRANSIENT m) 1).memLog m i 1 0 0 0 (syndrome m flip) := by
  have hflip : flip % 2 ^ ((memSpec m).1 + (memSpec m).2.2) = flip := Nat.mod_eq_of_lt hlt
  have hread : (s.readWord m i 0 0 true ⟨flip, 0, 0⟩).2.2 =
      (s.setFlips m i flip).retrySingle m i 0 0 1 (syndrome m flip) (fixMask m (syndrome m flip)) 0 true := by
    simp [readWord, hf, hflip, hc]
  exact ⟨_, hread.trans (retrySingle_groom (s := s.setFlips m i flip) hm hws ..)⟩

/-- A confirm visit that reads clean takes the word off the list and counts it (R445). -/
theorem groomConfirm_clean {m i : Nat} {r : List (Nat × Nat)} {s : State} (hr : s.groomRuns = true)
    (hl : s.mems.confirm = (m, i) :: r) (hf : s.flipsOf m i = 0) :
    s.groomConfirm ⟨0, 0, 0⟩ =
      (((s.setFlips m i 0).modMems fun x => { x with confirm := x.confirm.erase (m, i) }).showMem).wadd
        (WR.MEM_CNTB_TRANSIENT m) 1 := by
  unfold groomConfirm
  rw [hl]
  simp [hr, readWord_clean hf, hf]

/-! ### The Farrier table (R457, R458, R460) -/

/-- Copying a word leaves the table. -/
@[simp] theorem farCopy_far (m i : Nat) (s : State) : (s.farCopy m i).mems.far = s.mems.far := by
  unfold farCopy
  extract_lets f
  split <;> rfl

/-- The spares are shown beside the memories. -/
@[simp] theorem showSpares_mems (m : Nat) (s : State) : (s.showSpares m).mems = s.mems := (k_showSpares m s).1 .mems rfl

/-- The selected entry is shown beside the memories. -/
@[simp] theorem showFar_mems (s : State) : s.showFar.mems = s.mems := (k_showFar s).1 .mems rfl

/-- Whether an entry may be written: it is free to take a usable spare for a row that no other entry serves, or it is
given up. -/
def FarTakes (m g e v : Nat) (s : State) : Prop :=
  bit 31 v = true → (s.farEntry m g e).valid = false ∧ farKey m g (bits 19 16 v) ∉ s.mems.bad ∧
    ∀ k < 16, (s.farEntry m g k).valid = true →
      (s.farEntry m g k).row ≠ bits 15 0 v ∧ (s.farEntry m g k).spare ≠ bits 19 16 v

/-- An entry that may be written is stored; a new mapping copies its word first (R458). -/
theorem writeFar_taken {m g e v : Nat} {s : State} (hs : s.farSel = (m, g, e)) (hm : m < 5) (hg : g < memGroups m)
    (ht : FarTakes m g e v s) :
    (s.writeFar v).mems =
      let t := s.setFar m g e ⟨bit 31 v, bits 19 16 v, bits 15 0 v⟩
      (if bit 31 v then t.farCopy m (memIndex m g (bits 15 0 v)) else t).mems := by
  unfold writeFar
  simp only [hs, hm, hg, and_self, if_true]
  split
  · rename_i hno
    obtain ⟨hv, hno⟩ := Bool.and_eq_true_iff.1 hno
    obtain ⟨hval, hbad, hoth⟩ := ht hv
    simp only [hval, hbad, decide_false, Bool.or_false, Bool.or_eq_true, List.any_eq_true, List.mem_range,
      Bool.and_eq_true, beq_iff_eq] at hno
    rcases hno with ⟨k, hk, ⟨-, hkv⟩, hrow⟩ | ⟨k, hk, ⟨-, hkv⟩, hsp⟩
    · exact absurd hrow (hoth k hk hkv).1
    · exact absurd hsp (hoth k hk hkv).2
  · simp

/-- A mapping of an entry in use, or to a spare that is not usable, is refused (R460). -/
theorem writeFar_refused {m g e v : Nat} {s : State} (hs : s.farSel = (m, g, e)) (hm : m < 5) (hg : g < memGroups m)
    (hv : bit 31 v = true) (hno : (s.farEntry m g e).valid = true ∨ farKey m g (bits 19 16 v) ∈ s.mems.bad) :
    s.writeFar v = s.wset WR.MEM_STATUS_FAR_REFUSED 1 := by
  unfold writeFar
  simp only [hs, hm, hg, and_self, if_true, hv, Bool.true_and]
  refine if_pos ?_
  rcases hno with h | h <;> simp [h]

/-! ### The error log (R467) -/

/-- The head of the log as its registers show it. -/
def logShown (e : MemErr) : List (Fld × Nat) :=
  [(WR.MEM_LOG_INFO_VALID, 1), (WR.MEM_LOG_INFO_MEM, e.mem), (WR.MEM_LOG_INFO_CLASS, e.cls),
    (WR.MEM_LOG_INFO_OUTCOME, e.outcome), (WR.MEM_LOG_INFO_SOURCE, e.source), (WR.MEM_LOG_INFO_CHANNEL, e.channel),
    (WR.MEM_LOG_INFO_SYNDROME, e.syndrome), (WR.MEM_LOG_ADDR_INDEX, e.index), (WR.MEM_LOG_TIME_LO_TIME, e.time),
    (WR.MEM_LOG_TIME_HI_TIME, e.time / 2 ^ 32)]

/-- The registers that show the head of the log are different ones. -/
theorem logShown_keys (e : MemErr) : ((logShown e).map fun p => p.1.key).Nodup := by
  show ((logShown ⟨0, 0, 0, 0, 0, 0, 0, 0⟩).map fun p => p.1.key).Nodup
  decide

/-- A read of MEM_LOG_INFO shows the head of the log and takes it. -/
theorem readLog_cons {e : MemErr} {r : List MemErr} {s : State} (h : s.mems.log = e :: r) :
    s.readLog = ((s.wsets (logShown e)).modMems fun x => { x with log := r }).showMem := by
  have hd : s.mems.log.drop 1 = r := by rw [h]; rfl
  have hs : s.showLog = s.wsets (logShown e) := by
    unfold showLog
    rw [h]
    rfl
  unfold readLog
  rw [hs, ← hd]
  rfl

/-- A read of MEM_LOG_INFO of an empty log shows that it is empty. -/
theorem readLog_nil {s : State} (h : s.mems.log = []) : s.readLog = (s.wset WR.MEM_LOG_INFO_VALID 0).showMem := by
  have hd : s.mems.log.drop 1 = s.mems.log := by rw [h]; rfl
  have hs : s.showLog = s.wset WR.MEM_LOG_INFO_VALID 0 := by
    unfold showLog
    rw [h]
  unfold readLog
  rw [hs]
  refine congrArg showMem ?_
  unfold modMems
  simp only [wset_fields, hd]
  rfl

end State
end Sys2Proof.Machine
end

section
/-! SUPPORT. An agent's access to a register that has no action of its own, to one of an absent unit, and one that
faults (O29). -/

namespace Sys2Proof.Machine

open Sys2Proof

namespace State

/-- Registers without an action of their own, one of each of four blocks: those that O29 names. -/
def plainRegs : List Nat := [WR.MEM_CTRL, WR.ADM_PACE_CFG, WR.CMP_CTRL, WR.MUS_CFG]

/-- A plain register is one of the four. -/
theorem mem_plainRegs {a : Nat} : a ∈ plainRegs ↔ a = WR.MEM_CTRL ∨ a = WR.ADM_PACE_CFG ∨ a = WR.CMP_CTRL ∨ a = WR.MUS_CFG := by
  simp [plainRegs]

/-- No variant lacks a plain register. -/
theorem absentReg_of_plain {a : Nat} (h : a ∈ plainRegs) (variant : Nat) : absentReg variant a = false := by
  unfold absentReg
  dsimp only
  split
  · rcases mem_plainRegs.1 h with rfl | rfl | rfl | rfl <;> rfl
  · split
    · rcases mem_plainRegs.1 h with rfl | rfl | rfl | rfl <;> rfl
    · rfl

/-- A plain register exists. -/
theorem regHere_of_plain {a : Nat} (h : a ∈ plainRegs) (s : State) : s.regHere a = true := by
  unfold regHere
  rw [absentReg_of_plain h]
  rcases mem_plainRegs.1 h with rfl | rfl | rfl | rfl <;> rfl

/-- A read of a plain register answers its word and leaves the state. -/
theorem regRead_of_plain {a : Nat} (h : a ∈ plainRegs) (agent err : Nat) (s : State) :
    s.regRead agent a err = (s.regWord a, s) := by
  unfold regRead
  rw [regHere_of_plain h]
  rcases mem_plainRegs.1 h with rfl | rfl | rfl | rfl <;> rfl

/-- A read of a plain register through the quiet address answers its word and leaves the state. -/
theorem regQuiet_of_plain {a : Nat} (h : a ∈ plainRegs) (agent : Nat) (s : State) :
    s.regQuiet agent a = (s.regWord a, s) := by
  unfold regQuiet
  rw [regRead_of_plain h]
  rcases mem_plainRegs.1 h with rfl | rfl | rfl | rfl <;> rfl

/-- A write of a plain register is a store by its access codes. -/
theorem regWrite_of_plain {a : Nat} (h : a ∈ plainRegs) (agent v : Nat) (s : State) :
    s.regWrite agent a v = s.wstore a v := by
  unfold regWrite
  rw [regHere_of_plain h]
  rcases mem_plainRegs.1 h with rfl | rfl | rfl | rfl <;> rfl

/-- An agent that may load at a normal address below the scheduler's window gets what the register reads. -/
theorem busRead_normal {agent a : Nat} {s : State} (hp : s.pmpData agent a 4 false = true) (ha : a < 0x40098000)
    (err : Nat) : s.busRead agent a err = (((s.regRead agent a err).1, none), (s.regRead agent a err).2) := by
  have hq : decide (0x48000000 ≤ a) = false := decide_eq_false (by omega)
  have hw : ¬ (err = 2 ∧ 0x40098000 ≤ a ∧ a < 0x400A0000) := by omega
  unfold busRead
  simp only [hp, hq, Bool.not_true, Bool.false_eq_true, if_false]
  exact if_neg hw

/-- An agent that may load at a quiet address gets what the register reads there. -/
theorem busRead_quiet {agent a b : Nat} {s : State} (hp : s.pmpData agent b 4 false = true) (hb : 0x48000000 ≤ b)
    (hab : b - 0x08000000 = a) (ha : a < 0x40098000) (err : Nat) :
    s.busRead agent b err = (((s.regQuiet agent a).1, none), (s.regQuiet agent a).2) := by
  have hq : decide (0x48000000 ≤ b) = true := decide_eq_true hb
  have hw : ¬ (err = 2 ∧ 0x40098000 ≤ a ∧ a < 0x400A0000) := by omega
  unfold busRead
  simp only [hp, hq, hab, Bool.not_true, Bool.false_eq_true, if_false, if_true]
  exact if_neg hw

/-- The plain registers stand below the scheduler's window. -/
theorem plain_range {a : Nat} (h : a ∈ plainRegs) : 0x40000000 ≤ a ∧ a < 0x40098000 := by
  rcases mem_plainRegs.1 h with rfl | rfl | rfl | rfl <;> decide

/-- A load that the PMP refuses answers a fault (R514, R659). -/
theorem busRead_refused {agent a : Nat} {s : State} (hp : s.pmpData agent a 4 false = false) (err : Nat) :
    s.busRead agent a err = ((0, some 2), s) := by
  unfold busRead
  rw [hp]
  rfl

/-- A core that faults takes a trap. -/
theorem busFault_core {n : Nat} (hn : n < 4) (cause sb a : Nat) (s : State) :
    s.busFault (n + 1) cause sb a = s.trap n cause a := if_pos (by omega)

/-- A core's faulting store traps with cause 7. -/
theorem storeFault_core {n : Nat} (hn : n < 4) (a sb : Nat) (s : State) :
    s.storeFault (n + 1) a sb = (s.trap n 7 a).emit (.storeFault (n + 1) a 7) := by
  have h9 : n + 1 ≠ 9 := by omega
  rw [storeFault, busFault_core hn, if_neg h9]

/-- A core's faulting load traps with cause 5. -/
theorem loadFault_core {n : Nat} (hn : n < 4) (a v sb : Nat) (s : State) :
    s.loadFault (n + 1) a v sb = (s.trap n 5 a).answer (n + 1) a v (some 5) := by
  have h9 : n + 1 ≠ 9 := by omega
  rw [loadFault, busFault_core hn, if_neg h9]

end State
end Sys2Proof.Machine
end

section
/-! PROOF. Groom, the error log, the Farrier table and access to registers (O29): one theorem for each clause. -/

namespace Sys2Proof.Machine

open Sys2Proof

/-- The counters of corrected words stand apart from what Groom and the log show. -/
theorem corr_key_ne (m : Nat) :
    ∀ g ∈ [WR.MEM_GROOM_PROGRESS, WR.MEM_STATUS_CONFIRM, WR.MEM_LOG_CNT_DEPTH, WR.MEM_CNTB_TRANSIENT m],
      (WR.MEM_CNTA_CORR m).key ≠ g.key := by
  intro g hg
  simp only [List.mem_cons, List.not_mem_nil, or_false] at hg
  rcases hg with rfl | rfl | rfl | rfl
  all_goals
    simp only [Fld.key, WR.MEM_CNTA_CORR, WR.MEM_CNTA, WR.MEM_CNTB_TRANSIENT, WR.MEM_CNTB, WR.MEM_GROOM_PROGRESS,
      WR.MEM_GROOM, WR.MEM_STATUS_CONFIRM, WR.MEM_STATUS, WR.MEM_LOG_CNT_DEPTH, WR.MEM_LOG_CNT, ne_eq]
    omega

/-- The counters of words that read clean again stand apart from what Groom and the log show. -/
theorem transient_key_ne (m : Nat) :
    ∀ g ∈ [WR.MEM_GROOM_PROGRESS, WR.MEM_STATUS_CONFIRM, WR.MEM_LOG_CNT_DEPTH, WR.MEM_CNTA_CORR m],
      (WR.MEM_CNTB_TRANSIENT m).key ≠ g.key := by
  intro g hg
  simp only [List.mem_cons, List.not_mem_nil, or_false] at hg
  rcases hg with rfl | rfl | rfl | rfl
  all_goals
    simp only [Fld.key, WR.MEM_CNTA_CORR, WR.MEM_CNTA, WR.MEM_CNTB_TRANSIENT, WR.MEM_CNTB, WR.MEM_GROOM_PROGRESS,
      WR.MEM_GROOM, WR.MEM_STATUS_CONFIRM, WR.MEM_STATUS, WR.MEM_LOG_CNT_DEPTH, WR.MEM_LOG_CNT, ne_eq]
    omega

/-- A visit to a clean word moves the cursor and changes nothing else. -/
theorem groomVisit_moves (m : Nat) (s : State) : let i := s.mems.cursors.getD m 0
    s.groomRuns = true → m < 6 → s.flipsOf m i = 0 → i + 1 < memWords m → s.mems.wrapped.length < 6 →
    Runs (.groomVisit m 0 0 0) s fun z =>
      z.mems.cursors = s.mems.cursors.set m (i + 1) ∧ z.mems.wrapped = s.mems.wrapped ∧ z.mems.log = s.mems.log ∧
      z.mems.confirm = s.mems.confirm ∧ z.flipsOf m i = 0 ∧ OnlyRegs [WR.MEM_GROOM_PROGRESS] s z := by
  intro i hr hm hf hi hw
  obtain ⟨p, hp⟩ := State.groomMove_next (s := s.setFlips m i 0) rfl hi hw
  refine .of_exec (congrArg Host.Outcome.next ((State.groomVisit_clean hr hm rfl hf).trans hp)) ?_
  refine ⟨rfl, rfl, rfl, rfl, State.flipsOf_setFlips m i 0 s, ?_⟩
  exact ((OnlyRegs.refl _ s).of_wr rfl).wset _ List.mem_cons_self

/-- The visit at which the last cursor wraps ends the pass. -/
theorem groomVisit_ends_pass (m : Nat) (s : State) : let i := s.mems.cursors.getD m 0
    s.groomRuns = true → m < 6 → s.flipsOf m i = 0 → memWords m ≤ i + 1 → s.mems.wrapped.length = 5 → m ∉ s.mems.wrapped →
    Runs (.groomVisit m 0 0 0) s fun z =>
      z.mems.cursors = s.mems.cursors.set m 0 ∧ z.mems.wrapped = [] ∧ z.mems.passAt = s.now ∧
      z.wget WR.MEM_GROOM_PASSES = (s.wget WR.MEM_GROOM_PASSES + 1) % WR.MEM_GROOM_PASSES.size ∧
      OnlyRegs [WR.MEM_GROOM_PROGRESS, WR.MEM_GROOM_PASSES, WR.MEM_STATUS_GROOM_LATE] s z := by
  intro i hr hm hf hi hw hn
  obtain ⟨p, late, hp⟩ := State.groomMove_pass (s := s.setFlips m i 0) rfl hi hw hn
  refine .of_exec (congrArg Host.Outcome.next ((State.groomVisit_clean hr hm rfl hf).trans hp)) ?_
  have ht : OnlyRegs [WR.MEM_GROOM_PROGRESS, WR.MEM_GROOM_PASSES, WR.MEM_STATUS_GROOM_LATE] s
      (((s.setFlips m i 0).modMems fun x => { x with cursors := x.cursors.set m 0, wrapped := [], passAt := s.now }).wset
        WR.MEM_GROOM_PROGRESS p |>.wset WR.MEM_GROOM_PASSES (s.wget WR.MEM_GROOM_PASSES + 1)) :=
    (((OnlyRegs.refl _ s).of_wr rfl).wset _ (by simp)).wset _ (by simp)
  cases late with
  | false => exact ⟨rfl, rfl, rfl, State.wget_wset_self .., ht⟩
  | true =>
    exact ⟨rfl, rfl, rfl, (State.wget_wset_other (by decide) ..).trans (State.wget_wset_self ..), ht.wset _ (by simp)⟩

/-- The memories stand beside the registers. -/
theorem State.wget_modMems (u : Mems → Mems) (f : Fld) (s : State) : (s.modMems u).wget f = s.wget f := rfl

/-- What Groom leaves of a word whose upset the code corrects: clean, counted and logged. -/
theorem readWord_corrected_effect {m flip : Nat} {s : State} (hm : m ≠ 5) (hws : s.ws ≠ 6) (i : Nat)
    (hf : s.flipsOf m i = 0) (hlt : flip < 2 ^ ((memSpec m).1 + (memSpec m).2.2))
    (hc : memClass m (syndrome m flip) = 1) (hl : s.mems.log.length < 32) :
    ∃ t, (s.readWord m i 0 0 true ⟨flip, 0, 0⟩).2.2 = t ∧
      t.wget (WR.MEM_CNTA_CORR m) = min (s.wget (WR.MEM_CNTA_CORR m) + 1) ((WR.MEM_CNTA_CORR m).size - 1) ∧
      t.wget (WR.MEM_CNTB_TRANSIENT m) = min (s.wget (WR.MEM_CNTB_TRANSIENT m) + 1) ((WR.MEM_CNTB_TRANSIENT m).size - 1) ∧
      t.mems.log = s.mems.log ++ [⟨m, 1, 0, 0, 0, syndrome m flip, i, s.tick⟩] ∧ t.flipsOf m i = 0 ∧
      t.mems.cursors = s.mems.cursors ∧ t.mems.wrapped = s.mems.wrapped := by
  obtain ⟨mask, hread⟩ := State.readWord_corrected hm hws i hf hlt hc
  have hc1 := corr_key_ne m
  have hc2 := transient_key_ne m
  rw [hread, State.memLog_of_room (by simpa using hl)]
  refine ⟨_, rfl, ?_, ?_, ?_, ?_, ?_, ?_⟩
  · rw [State.showMem_onlyRegs _ _ fun g hg => hc1 g (List.mem_cons_of_mem _ (List.mem_append_left _ hg)), State.wget_modMems,
      State.wget_wadd_other (hc1 _ (by simp)), State.wget_setFlips, State.wget_xorWord, State.wget_wadd_self,
      State.wget_setFlips]
  · rw [State.showMem_onlyRegs _ _ fun g hg => hc2 g (List.mem_cons_of_mem _ (List.mem_append_left _ hg)), State.wget_modMems,
      State.wget_wadd_self, State.wget_setFlips, State.wget_xorWord, State.wget_wadd_other (hc2 _ (by simp)),
      State.wget_setFlips]
  · simp
  · exact (State.flipsOf_congr (by simp; rfl) m i).trans (State.flipsOf_setFlips m i 0 _)
  · simp
  · simp

/-- A visit to a word with an upset that the code can correct corrects, counts and logs it. -/
theorem groomVisit_corrects (m flip : Nat) (s : State) : let i := s.mems.cursors.getD m 0
    s.groomRuns = true → m < 5 → s.ws ≠ 6 → s.flipsOf m i = 0 → i + 1 < memWords m → s.mems.wrapped.length < 6 →
    flip < 2 ^ ((memSpec m).1 + (memSpec m).2.2) → memClass m (syndrome m flip) = 1 → s.mems.log.length < 32 →
    Runs (.groomVisit m flip 0 0) s fun z =>
      z.wget (WR.MEM_CNTA_CORR m) = min (s.wget (WR.MEM_CNTA_CORR m) + 1) ((WR.MEM_CNTA_CORR m).size - 1) ∧
      z.wget (WR.MEM_CNTB_TRANSIENT m) = min (s.wget (WR.MEM_CNTB_TRANSIENT m) + 1) ((WR.MEM_CNTB_TRANSIENT m).size - 1) ∧
      z.mems.log = s.mems.log ++ [⟨m, 1, 0, 0, 0, syndrome m flip, i, s.tick⟩] ∧ z.flipsOf m i = 0 ∧
      z.mems.cursors = s.mems.cursors.set m (i + 1) := by
  intro i hr hm hws hf hi hw hlt hc hl
  obtain ⟨t, hread, hcorr, htrans, hlog, hflips, hcur, hwr⟩ :=
    readWord_corrected_effect (Nat.ne_of_lt hm) hws i hf hlt hc hl
  obtain ⟨p, hp⟩ := State.groomMove_next (s := t) (by rw [hcur]) hi (hwr ▸ hw)
  refine .of_exec (congrArg Host.Outcome.next
    ((State.groomVisit_eq hr (Nat.lt_succ_of_lt hm) rfl _).trans ((congrArg _ hread).trans hp))) ?_
  refine ⟨?_, ?_, hlog, (State.flipsOf_congr rfl m i).trans hflips, congrArg (fun l => List.set l m (i + 1)) hcur⟩
  · rw [State.wget_wset_other (corr_key_ne m _ (by simp))]
    exact hcorr
  · rw [State.wget_wset_other (transient_key_ne m _ (by simp))]
    exact htrans

/-- A confirm visit that reads clean takes the word off the list and counts it. -/
theorem groomConfirmVisit_clean (m i : Nat) (r : List (Nat × Nat)) (s : State) :
    s.groomRuns = true → s.mems.confirm = (m, i) :: r → s.flipsOf m i = 0 →
    Runs (.groomConfirmVisit 0 0 0) s fun z =>
      z.mems.confirm = r ∧ z.mems.log = s.mems.log ∧ z.flipsOf m i = 0 ∧
      z.wget (WR.MEM_CNTB_TRANSIENT m) = min (s.wget (WR.MEM_CNTB_TRANSIENT m) + 1) ((WR.MEM_CNTB_TRANSIENT m).size - 1) ∧
      OnlyRegs [WR.MEM_STATUS_CONFIRM, WR.MEM_LOG_CNT_DEPTH, WR.MEM_CNTB_TRANSIENT m] s z := by
  intro hr hl hf
  refine .of_exec (congrArg Host.Outcome.next (State.groomConfirm_clean hr hl hf)) ?_
  have hkey := transient_key_ne m
  refine ⟨?_, ?_, ?_, ?_, ?_⟩
  · simp [hl]
  · simp
  · exact (State.flipsOf_congr (s := s.setFlips m i 0) rfl m i).trans (State.flipsOf_setFlips m i 0 s)
  · rw [State.wget_wadd_self, State.showMem_onlyRegs _ _ (by simpa using ⟨hkey _ (by simp), hkey _ (by simp)⟩)]
    rfl
  · have hshow : OnlyRegs [WR.MEM_STATUS_CONFIRM, WR.MEM_LOG_CNT_DEPTH, WR.MEM_CNTB_TRANSIENT m] s
        (((s.setFlips m i 0).modMems fun x => { x with confirm := x.confirm.erase (m, i) }).showMem) :=
      ((OnlyRegs.refl _ s).of_wr rfl).wsets _ (by simp)
    exact hshow.wadd 1 (by simp)

/-- An entry that may be written reads as written. -/
theorem State.writeFar_farEntry {m g e v : Nat} {s : State} (hs : s.farSel = (m, g, e)) (hm : m < 5)
    (hg : g < memGroups m) (ht : State.FarTakes m g e v s) :
    (s.writeFar v).farEntry m g e = ⟨bit 31 v, bits 19 16 v, bits 15 0 v⟩ := by
  have hfar : (s.writeFar v).mems.far = (s.setFar m g e ⟨bit 31 v, bits 19 16 v, bits 15 0 v⟩).mems.far := by
    rw [State.writeFar_taken hs hm hg ht]
    cases bit 31 v
    · rfl
    · exact State.farCopy_far ..
  unfold State.farEntry
  rw [hfar]
  exact SMap.getD_insert_self ..

/-- A write of MEM_FAR_DATA is taken or refused. -/
theorem memFarDataWrite_taken_or_refused (m g e v : Nat) (s : State) :
    s.farSel = (m, g, e) → m < 5 → g < memGroups m →
    (bit 31 v = false → Runs (.memFarDataWrite v) s fun z =>
      z.farEntry m g e = ⟨false, bits 19 16 v, bits 15 0 v⟩ ∧ z.flipsOf = s.flipsOf) ∧
    (bit 31 v = true → (s.farEntry m g e).valid = false → farKey m g (bits 19 16 v) ∉ s.mems.bad →
      (∀ k < 16, (s.farEntry m g k).valid = true → (s.farEntry m g k).row ≠ bits 15 0 v ∧ (s.farEntry m g k).spare ≠ bits 19 16 v) →
      Runs (.memFarDataWrite v) s fun z => z.farEntry m g e = ⟨true, bits 19 16 v, bits 15 0 v⟩) ∧
    (bit 31 v = true → (s.farEntry m g e).valid = true ∨ farKey m g (bits 19 16 v) ∈ s.mems.bad →
      Runs (.memFarDataWrite v) s fun z =>
        z.mems = s.mems ∧ z.wget WR.MEM_STATUS_FAR_REFUSED = 1 ∧ OnlyRegs [WR.MEM_STATUS_FAR_REFUSED] s z) := by
  intro hs hm hg
  refine ⟨fun hv => .of_exec rfl ⟨?_, ?_⟩, fun hv hval hbad hoth => .of_exec rfl ?_, fun hv hno => ?_⟩
  · rw [State.writeFar_farEntry hs hm hg fun h => absurd (hv ▸ h) (by decide), hv]
  · have hw := State.writeFar_taken hs hm hg (v := v) fun h => absurd (hv ▸ h) (by decide)
    simp only [hv, if_neg Bool.false_ne_true] at hw
    exact funext fun k => funext fun i => State.flipsOf_congr (hw ▸ rfl) k i
  · rw [State.writeFar_farEntry hs hm hg fun _ => ⟨hval, hbad, hoth⟩, hv]
  · refine .of_exec (congrArg Host.Outcome.next (State.writeFar_refused hs hm hg hv hno)) ?_
    exact ⟨rfl, State.wget_wset_self .., (OnlyRegs.refl _ s).wset _ List.mem_cons_self⟩

/-- A read of MEM_LOG_INFO takes the head of the log. -/
theorem memLogRead_takes_head (e : MemErr) (r : List MemErr) (s : State) :
    (s.mems.log = e :: r →
      Runs .memLogRead s fun z =>
        z.mems.log = r ∧ z.wget WR.MEM_LOG_INFO_VALID = 1 ∧ z.wget WR.MEM_LOG_INFO_MEM = e.mem % WR.MEM_LOG_INFO_MEM.size ∧
        z.wget WR.MEM_LOG_INFO_CLASS = e.cls % WR.MEM_LOG_INFO_CLASS.size ∧
        z.wget WR.MEM_LOG_INFO_OUTCOME = e.outcome % WR.MEM_LOG_INFO_OUTCOME.size ∧
        z.wget WR.MEM_LOG_ADDR_INDEX = e.index % WR.MEM_LOG_ADDR_INDEX.size ∧
        z.wget WR.MEM_LOG_TIME_LO_TIME = e.time % 2 ^ 32) ∧
    (s.mems.log = [] → Runs .memLogRead s fun z => z.wget WR.MEM_LOG_INFO_VALID = 0 ∧ z.mems = s.mems) := by
  refine ⟨fun h => ?_, fun h => ?_⟩
  · refine .of_exec (congrArg Host.Outcome.next (State.readLog_cons h)) ?_
    have hread {f : Fld} {v : Nat} (hf : (f, v) ∈ State.logShown e)
        (hk : f.key ≠ WR.MEM_STATUS_CONFIRM.key ∧ f.key ≠ WR.MEM_LOG_CNT_DEPTH.key) :
        (((s.wsets (State.logShown e)).modMems fun x => { x with log := r }).showMem).wget f = v % f.size := by
      rw [State.showMem_onlyRegs _ _ (by simpa using hk)]
      exact RegFile.get_sets_of_mem (State.logShown_keys e) hf _
    refine ⟨by simp, hread (f := WR.MEM_LOG_INFO_VALID) (v := 1) (by simp [State.logShown]) (by decide), ?_, ?_, ?_, ?_, ?_⟩
    · exact hread (f := WR.MEM_LOG_INFO_MEM) (v := e.mem) (by simp [State.logShown]) (by decide)
    · exact hread (f := WR.MEM_LOG_INFO_CLASS) (v := e.cls) (by simp [State.logShown]) (by decide)
    · exact hread (f := WR.MEM_LOG_INFO_OUTCOME) (v := e.outcome) (by simp [State.logShown]) (by decide)
    · exact hread (f := WR.MEM_LOG_ADDR_INDEX) (v := e.index) (by simp [State.logShown]) (by decide)
    · exact hread (f := WR.MEM_LOG_TIME_LO_TIME) (v := e.time) (by simp [State.logShown]) (by decide)
  · refine .of_exec (congrArg Host.Outcome.next (State.readLog_nil h)) ⟨?_, ?_⟩
    · rw [State.showMem_onlyRegs _ _ (by decide)]
      exact State.wget_wset_self ..
    · exact State.showMem_mems _

/-- GROOM_EN is written, and nothing else. -/
theorem groomEnWrite_sets (en : Bool) (s : State) :
    Runs (.groomEnWrite en) s fun z =>
      z.wget WR.MEM_CTRL_GROOM_EN = b2n en ∧ z.mems = s.mems ∧ OnlyRegs [WR.MEM_CTRL_GROOM_EN] s z := by
  refine .of_exec rfl ⟨?_, rfl, (OnlyRegs.refl _ s).wset _ List.mem_cons_self⟩
  rw [State.wget_wset_self]
  cases en <;> rfl

/-- A plain register reads as its word, also through the quiet address, and is stored by its access codes. -/
theorem plain_register_access (agent a err : Nat) (s : State) :
    a ∈ [WR.MEM_CTRL, WR.ADM_PACE_CFG, WR.CMP_CTRL, WR.MUS_CFG] →
    (s.pmpData agent a 4 false = true →
      Runs (.registerRead agent a err) s fun z => z = s.answer agent a (s.regWord a) none) ∧
    (s.pmpData agent (a + 0x08000000) 4 false = true →
      Runs (.registerRead agent (a + 0x08000000) err) s fun z =>
        z = s.answer agent (a + 0x08000000) (s.regWord a) none) ∧
    (∀ v, s.pmpData agent a 4 true = true → Runs (.registerWrite agent a v) s fun z => z = s.wstore a v) := by
  intro h
  obtain ⟨hlo, hhi⟩ := State.plain_range h
  refine ⟨fun hp => .of_exec rfl ?_, fun hp => .of_exec rfl ?_, fun v hp => .of_exec rfl ?_⟩
  · rw [State.busRead_normal hp hhi, State.regRead_of_plain h]
    rfl
  · rw [State.busRead_quiet hp (by omega) (Nat.add_sub_cancel ..) hhi, State.regQuiet_of_plain h]
    rfl
  · rw [State.busWrite, if_pos hp, State.regWrite_of_plain h]

/-- A register of an absent unit reads 0 and ignores writes. -/
theorem absent_register_access (agent a err v : Nat) (s : State) :
    a < 0x40098000 → s.regHere a = false →
    (s.pmpData agent a 4 false = true → Runs (.registerRead agent a err) s fun z => z = s.answer agent a 0 none) ∧
    (s.pmpData agent a 4 true = true → Runs (.registerWrite agent a v) s fun z => z = s) := by
  intro ha h
  have hread : s.regRead agent a err = (0, s) := by
    unfold State.regRead
    rw [h]
    rfl
  have hwrite : s.regWrite agent a v = s := by
    unfold State.regWrite
    rw [h]
    rfl
  refine ⟨fun hp => .of_exec rfl ?_, fun hp => .of_exec rfl ?_⟩
  · rw [State.busRead_normal hp ha, hread]
    rfl
  · rw [State.busWrite, if_pos hp, hwrite]

/-- An access that a core's PMP refuses traps, and so does a core's write of the quiet address. -/
theorem core_access_traps (n a err v : Nat) (s : State) :
    n < 4 →
    (s.pmpData (n + 1) a 4 false = false → Runs (.registerRead (n + 1) a err) s fun z =>
      z = (s.trap n 5 a).answer (n + 1) a 0 (some 5)) ∧
    (s.pmpData (n + 1) a 4 true = false → Runs (.registerWrite (n + 1) a v) s fun z =>
      z = (s.trap n 7 a).emit (.storeFault (n + 1) a 7)) ∧
    Runs (.quietAliasWrite (n + 1) a) s (fun z => z = (s.trap n 7 a).emit (.storeFault (n + 1) a 7) ∧ z.wr = s.wr) := by
  intro hn
  refine ⟨fun hp => .of_exec rfl ?_, fun hp => .of_exec rfl ?_, .of_exec rfl ⟨?_, ?_⟩⟩
  · rw [State.busRead_refused hp]
    exact State.loadFault_core hn ..
  · rw [State.busWrite, hp]
    exact State.storeFault_core hn ..
  · exact State.storeFault_core hn ..
  · exact (k_storeFault ..).1 .wr rfl

/-- The debug agent's write of the quiet address sets sberror. -/
theorem debug_quietAliasWrite (a : Nat) (s : State) :
    Runs (.quietAliasWrite 9 a) s fun z =>
      z.dbg = { s.dbg with sberror := if s.dbg.sberror = 0 then 2 else s.dbg.sberror } ∧
      z.out = s.out ++ [.storeFault 9 a 2] ∧ z.wr = s.wr :=
  .of_exec rfl ⟨rfl, rfl, rfl⟩

/-- Settles O29, clause by clause. -/
theorem groomLogAndRegisterAccess : Obligations.GroomLogAndRegisterAccess :=
  ⟨groomVisit_moves, groomVisit_ends_pass, groomVisit_corrects, groomConfirmVisit_clean,
    memFarDataWrite_taken_or_refused, memLogRead_takes_head, groomEnWrite_sets, plain_register_access,
    absent_register_access, core_access_traps, debug_quietAliasWrite⟩

end Sys2Proof.Machine
end

section
/-! SUPPORT. Losses of the Meridian sources, transmit time stamps, alarms and their registers: what each operation
does (O16, O56, O57, O58). -/

namespace Sys2Proof

/-- The registers of an alarm in the index. -/
theorem WR.regAt_alm : ∀ n < 8,
    regAt WR.rows (WR.MER_ALM_CTRL n) = some [WR.MER_ALM_CTRL_EN n, WR.MER_ALM_CTRL_LATE n, WR.MER_ALM_CTRL_FLAG n,
      WR.MER_ALM_CTRL_TASK n, WR.MER_ALM_CTRL_KIND n] ∧
    regAt WR.rows (WR.MER_ALM_SEC n) = some [WR.MER_ALM_SEC_SEC n] ∧
    regAt WR.rows (WR.MER_ALM_NS n) = some [WR.MER_ALM_NS_NS n] ∧
    regAt WR.rows (WR.MER_ALM_PERIOD_NS n) = some [WR.MER_ALM_PERIOD_NS_PERIOD n] ∧
    regAt WR.rows (WR.MER_ALM_PMASK_LO n) = some [WR.MER_ALM_PMASK_LO_PMASK_LO n] ∧
    regAt WR.rows (WR.MER_ALM_PMASK_HI n) = some [WR.MER_ALM_PMASK_HI_PMASK_HI n] := by decide

end Sys2Proof

namespace Sys2Proof.Machine

open Sys2Proof

/-- A write by access codes changes the fields of its register only. -/
theorem OnlyRegs.wstore {a : Nat} {fs : List Fld} (h : regAt WR.rows a = some fs) (v : Nat) (s : State) :
    OnlyRegs fs s (s.wstore a v) := fun f hf => by
  rw [State.wstore_eq h]
  exact RegFile.get_write_other _ _ hf _

/-- The low bits of a number are its remainder. -/
theorem bits_low (hi v : Nat) : bits hi 0 v = v % 2 ^ (hi + 1) := by
  rw [bits, Nat.pow_zero, Nat.div_one, Nat.sub_zero]

/-- A flag of one bit is its bit. -/
theorem bits_flag {i v : Nat} (h : bit i v = true) : bits i i v = 1 := by
  have hone : i + 1 - i = 1 := Nat.add_sub_cancel_left i 1
  rw [bits, hone]
  exact of_decide_eq_true h

/-- The flags of the four losses. -/
def lossFlags : List Fld :=
  [WR.MER_STATUS_SYNC_LOST, WR.MER_STATUS_SYNCE_LOST, WR.MER_STATUS_REF_LOST, WR.MER_STATUS_PPS_LOST]

/-- A loss flag is one bit apart from STATE and HOLDOVER. -/
theorem lossFlags_apart : ∀ f ∈ lossFlags,
    f.key ≠ WR.MER_STATUS_STATE.key ∧ f.key ≠ WR.MER_STATUS_HOLDOVER.key ∧ f.size = 2 := by decide

namespace State

/-! ### Losses and HOLDOVER (R80, R81, R85, R86, R88) -/

/-- A store beside STATE leaves the clock in tracking or not. -/
theorem tracking_wset {f : Fld} (h : WR.MER_STATUS_STATE.key ≠ f.key) (v : Nat) (s : State) :
    (s.wset f v).tracking = s.tracking := by
  rw [tracking, tracking, wget_wset_other h]

/-- In HOLDOVER, STATE reads 4 and HOLDOVER 1. -/
@[simp] theorem wget_enterMerHoldover (s : State) :
    s.enterMerHoldover.wget WR.MER_STATUS_STATE = 4 ∧ s.enterMerHoldover.wget WR.MER_STATUS_HOLDOVER = 1 :=
  have hk : ([(WR.MER_STATUS_STATE, 4), (WR.MER_STATUS_HOLDOVER, 1)].map fun p => p.1.key).Nodup := by decide
  ⟨RegFile.get_sets_of_mem (v := 4) hk (by simp) s.wr, RegFile.get_sets_of_mem (v := 1) hk (by simp) s.wr⟩

/-- Entry to HOLDOVER stores STATE and HOLDOVER. -/
theorem enterMerHoldover_onlyRegs (s : State) :
    OnlyRegs [WR.MER_STATUS_STATE, WR.MER_STATUS_HOLDOVER] s s.enterMerHoldover :=
  ((OnlyRegs.refl _ s).wsets _ (by simp)).of_wr rfl

/-- A loss sets its flag; where it is of the source, armed and in tracking, the clock enters HOLDOVER. -/
theorem loss_eq {flag : Fld} (h : WR.MER_STATUS_STATE.key ≠ flag.key) (mine armed : Bool) (s : State) :
    s.loss flag mine armed =
      if mine && armed && s.tracking then (s.wset flag 1).enterMerHoldover else s.wset flag 1 := by
  rw [← tracking_wset h 1 s]
  rfl

/-- A loss leaves the loss conditions. -/
@[simp] theorem loss_mer (flag : Fld) (mine armed : Bool) (s : State) :
    (s.loss flag mine armed).mer.lostSync = s.mer.lostSync ∧
    (s.loss flag mine armed).mer.lostFreq = s.mer.lostFreq ∧
    (s.loss flag mine armed).mer.lostPps = s.mer.lostPps := by
  unfold loss
  extract_lets t
  cases mine && armed && t.tracking <;> exact ⟨rfl, rfl, rfl⟩

/-- What a loss leaves in the registers: its flag, and HOLDOVER where the clock enters it. -/
theorem loss_effect {flag : Fld} (hf : flag ∈ lossFlags) (mine armed : Bool) (s : State) :
    (s.loss flag mine armed).wget flag = 1 ∧
    (mine = true → armed = true → s.tracking = true →
      (s.loss flag mine armed).wget WR.MER_STATUS_STATE = 4 ∧
      (s.loss flag mine armed).wget WR.MER_STATUS_HOLDOVER = 1) ∧
    OnlyRegs [flag, WR.MER_STATUS_STATE, WR.MER_STATUS_HOLDOVER] s (s.loss flag mine armed) := by
  obtain ⟨hstate, hhold, hsize⟩ := lossFlags_apart flag hf
  have hset : (s.wset flag 1).wget flag = 1 := by rw [wget_wset_self, hsize]
  have hregs : OnlyRegs [flag, WR.MER_STATUS_STATE, WR.MER_STATUS_HOLDOVER] s (s.wset flag 1) :=
    (OnlyRegs.refl _ s).wset 1 (by simp)
  rw [loss_eq hstate.symm]
  split
  · refine ⟨?_, fun _ _ _ => wget_enterMerHoldover _, (hregs.wsets _ (by simp)).of_wr rfl⟩
    rw [enterMerHoldover_onlyRegs _ flag (by simp [hstate, hhold]), hset]
  · rename_i hno
    exact ⟨hset, fun hm ha ht => absurd (by simp [hm, ha, ht]) hno, hregs⟩

/-- A Sync that stays out for the timeout is lost (R85). -/
theorem execSyncLost_due {t : Nat} {s : State} (ht : s.mer.lastSync = some t) (hdue : t + s.syncLimit ≤ s.now)
    (hl : s.mer.lostSync = false) :
    execSyncLost s = .next ((s.modMer fun g => { g with lostSync := true }).loss WR.MER_STATUS_SYNC_LOST
      (s.merSrc == 1 || s.merSrc == 2) s.mer.armSync) := by
  unfold execSyncLost
  rw [ht]
  exact congrArg _ (if_pos ⟨hdue, hl⟩)

/-- PPS_IN that stays out for 1.001 s is lost (R89). -/
theorem execPpsLost_due {t : Nat} {s : State} (ht : s.mer.lastPps = some t)
    (hdue : t + 1001 * Config.msTicks ≤ s.now) (hl : s.mer.lostPps = false) :
    execPpsLost s = .next ((s.modMer fun g => { g with lostPps := true }).loss WR.MER_STATUS_PPS_LOST
      (s.merSrc == 3) s.mer.armPps) := by
  unfold execPpsLost
  rw [ht]
  exact congrArg _ (if_pos ⟨hdue, hl⟩)

/-- The parent identity that a write of MER_PTP_PARENT_PORT commits. -/
def parentId (v : Nat) (s : State) : Nat :=
  (s.wget WR.MER_PTP_PARENT_HI_ID_HI * 2 ^ 32 + s.wget WR.MER_PTP_PARENT_LO_ID_LO) * 65536 + v % 65536

/-- The state in which a new parent has been committed. -/
def withParent (v : Nat) (s : State) : State :=
  (s.wset WR.MER_PTP_PARENT_PORT_PORT v).modMer fun g => { g with parent := s.parentId v }

/-- A new parent is committed; in tracking with the condition armed the clock enters HOLDOVER (R80, R86). -/
theorem commitParent_new {v : Nat} {s : State} (h : s.parentId v ≠ s.mer.parent) :
    s.commitParent v =
      if (s.merSrc == 1 || s.merSrc == 2) && s.tracking && s.mer.armSync then
        ((s.withParent v).wset WR.MER_STATUS_PARENT_CHANGE 1).enterMerHoldover
      else s.withParent v := by
  have hport {f : Fld} (hf : f.key ≠ WR.MER_PTP_PARENT_PORT_PORT.key) :
      (s.wset WR.MER_PTP_PARENT_PORT_PORT v).wget f = s.wget f := wget_wset_other hf v s
  have hid : ((s.wset WR.MER_PTP_PARENT_PORT_PORT v).wget WR.MER_PTP_PARENT_HI_ID_HI * 2 ^ 32 +
      (s.wset WR.MER_PTP_PARENT_PORT_PORT v).wget WR.MER_PTP_PARENT_LO_ID_LO) * 65536 +
      (s.wset WR.MER_PTP_PARENT_PORT_PORT v).wget WR.MER_PTP_PARENT_PORT_PORT = s.parentId v := by
    rw [hport (by decide), hport (by decide), wget_wset_self]
    rfl
  have hsrc : (s.wset WR.MER_PTP_PARENT_PORT_PORT v).merSrc = s.merSrc := hport (by decide)
  have htrack : (s.wset WR.MER_PTP_PARENT_PORT_PORT v).tracking = s.tracking := tracking_wset (by decide) v s
  unfold commitParent
  simp only [hid, wset_fields, modMer_fields, modMer_units, hsrc, htrack]
  exact if_neg h

/-! ### Transmit time stamps (R96–R100) -/

/-- The entries that have not aged out. -/
def txKept (s : State) : List TxStamp := s.mer.txts.filter fun x => decide (s.now < x.arrived + s.txAge)

/-- The registers that age-out may change. -/
def txAgeRegs : List Fld := [WR.MER_STATUS_QUEUE_OVF, WR.MER_TXTS_CNT_AGED, WR.MER_TXTS_CNT_DEPTH]

/-- Nothing ages out where as many entries are kept as there are. -/
theorem txKept_eq {s : State} (h : s.mer.txts.length - s.txKept.length = 0) : s.txKept = s.mer.txts :=
  List.filter_sublist.eq_of_length_le (Nat.le_of_sub_eq_zero h)

/-- Age-out leaves the entries that are kept, and of Meridian nothing else changes. -/
@[simp] theorem txAgeOut_mer (s : State) : s.txAgeOut.mer = { s.mer with txts := s.txKept } := by
  unfold txAgeOut
  extract_lets keep n
  split
  · rename_i h
    exact congrArg (fun l => { s.mer with txts := l }) (txKept_eq h).symm
  · rfl

/-- Age-out changes registers of its own. -/
theorem txAgeOut_onlyRegs (s : State) : OnlyRegs txAgeRegs s s.txAgeOut := by
  unfold txAgeOut
  extract_lets keep n
  split
  · exact OnlyRegs.refl _ s
  · exact ((((OnlyRegs.refl _ s).of_wr rfl).wset 1 (by simp [txAgeRegs])).wadd n (by simp [txAgeRegs])).wset _
      (by simp [txAgeRegs])

/-- An entry that ages out sets QUEUE_OVF (R98). -/
theorem txAgeOut_overflow {s : State} (h : ∃ x ∈ s.mer.txts, x.arrived + s.txAge ≤ s.now) :
    s.txAgeOut.wget WR.MER_STATUS_QUEUE_OVF = 1 := by
  obtain ⟨x, hx, hage⟩ := h
  have hn : s.mer.txts.length - s.txKept.length ≠ 0 := fun e => by
    have hk : x ∈ s.txKept := txKept_eq e ▸ hx
    have hyoung := of_decide_eq_true (List.mem_filter.1 hk).2
    omega
  have hout : s.txAgeOut = (((s.modMer fun g => { g with txts := s.txKept }).wset WR.MER_STATUS_QUEUE_OVF 1).wadd
      WR.MER_TXTS_CNT_AGED (s.mer.txts.length - s.txKept.length)).showTx := if_neg hn
  rw [hout, showTx, wget_wset_other (by decide), wget_wadd_other (by decide), wget_wset_self]
  rfl

/-- A stamp that finds room joins the queue. -/
theorem txArrive_room {s : State} (h : s.txKept.length < 16) (x : TxStamp) :
    s.txArrive x = (s.txAgeOut.modMer fun g => { g with txts := g.txts ++ [x] }).showTx :=
  if_pos (by rwa [txAgeOut_mer])

/-- What a stamp that finds room leaves: the entries with the stamp behind them, and their number. -/
theorem txArrive_room_effect {s : State} (h : s.txKept.length < 16) (x : TxStamp) :
    (s.txArrive x).mer.txts = s.txKept ++ [x] ∧ (s.txArrive x).wget WR.MER_TXTS_CNT_DEPTH = s.txKept.length + 1 ∧
    OnlyRegs txAgeRegs s (s.txArrive x) := by
  have htxts : (s.txAgeOut.modMer fun g => { g with txts := g.txts ++ [x] }).mer.txts = s.txKept ++ [x] := by simp
  rw [txArrive_room h, showTx, htxts, List.length_append]
  refine ⟨htxts, ?_, ((txAgeOut_onlyRegs s).of_wr rfl).wset _ (by simp [txAgeRegs])⟩
  rw [wget_wset_self]
  exact Nat.mod_eq_of_lt (show s.txKept.length + 1 < 32 by omega)

/-- A stamp that finds 16 entries is lost (R99). -/
theorem txArrive_full {s : State} (h : 16 ≤ s.txKept.length) (x : TxStamp) :
    s.txArrive x = (s.txAgeOut.wset WR.MER_STATUS_QUEUE_OVF 1).wadd WR.MER_TXTS_CNT_DROPPED 1 :=
  if_neg (by rw [txAgeOut_mer]; exact Nat.not_lt.2 h)

/-- What a stamp that finds 16 entries leaves: the entries, the flag and the count. -/
theorem txArrive_full_effect {s : State} (h : 16 ≤ s.txKept.length) (x : TxStamp) :
    (s.txArrive x).mer = { s.mer with txts := s.txKept } ∧
    (s.txArrive x).wget WR.MER_STATUS_QUEUE_OVF = 1 ∧
    (s.txArrive x).wget WR.MER_TXTS_CNT_DROPPED = min (s.wget WR.MER_TXTS_CNT_DROPPED + 1) 255 ∧
    OnlyRegs [WR.MER_STATUS_QUEUE_OVF, WR.MER_TXTS_CNT_AGED, WR.MER_TXTS_CNT_DEPTH, WR.MER_TXTS_CNT_DROPPED] s
      (s.txArrive x) := by
  rw [txArrive_full h]
  refine ⟨txAgeOut_mer s, ?_, ?_, ?_⟩
  · rw [wget_wadd_other (by decide), wget_wset_self]
    rfl
  · rw [wget_wadd_self, wget_wset_other (by decide), txAgeOut_onlyRegs s _ (by decide)]
    rfl
  · have hage : OnlyRegs [WR.MER_STATUS_QUEUE_OVF, WR.MER_TXTS_CNT_AGED, WR.MER_TXTS_CNT_DEPTH,
        WR.MER_TXTS_CNT_DROPPED] s s.txAgeOut := fun f hf =>
      txAgeOut_onlyRegs s f fun g hg => hf g (List.mem_append_left [WR.MER_TXTS_CNT_DROPPED] hg)
    exact (hage.wset 1 (by simp)).wadd 1 (by simp)

/-- An entry as its registers show it. -/
def txShown (x : TxStamp) : List (Fld × Nat) :=
  [(WR.MER_TXTS_ID_VALID, 1), (WR.MER_TXTS_ID_PORT, x.port), (WR.MER_TXTS_ID_ID, x.id),
    (WR.MER_TXTS_SEC_LO_SEC_LO, timeSec x.stamp), (WR.MER_TXTS_SEC_HI_SEC_HI, timeSec x.stamp / 2 ^ 32),
    (WR.MER_TXTS_NS_NS, timeNs x.stamp), (WR.MER_TXTS_FRAC_FRAC, x.stamp % 65536)]

/-- The registers that show an entry are different ones. -/
theorem txShown_keys (x : TxStamp) : ((txShown x).map fun p => p.1.key).Nodup := by
  show ((txShown ⟨0, 0, 0, 0⟩).map fun p => p.1.key).Nodup
  decide

/-- A read of MER_TXTS_ID shows the head of the queue and takes it (R97). -/
theorem txRead_cons {x : TxStamp} {r : List TxStamp} {s : State} (h : s.mer.txts = x :: r) :
    s.txRead = ((s.wsets (txShown x)).modMer fun g => { g with txts := r }).wset WR.MER_TXTS_CNT_DEPTH r.length := by
  unfold txRead txHead
  simp only [h, wsets_fields]
  rfl

/-! ### Alarms (R102–R105, R108) -/

/-- A late mark that is set is read. -/
theorem setLate_getD {n : Nat} {s : State} (h : n < s.mer.almLate.length) (v : Bool) :
    (s.setLate n v).mer.almLate.getD n false = v := by
  simp [setLate, modMer, List.getD_eq_getElem?_getD, List.getElem?_mapIdx, List.getElem?_eq_getElem h]

/-- Arming leaves the registers. -/
theorem armAlarm_wr (n : Nat) (s : State) : (s.armAlarm n).wr = s.wr := rfl

/-- Arming marks an alarm late where its target has passed (R105). -/
theorem armAlarm_late {n : Nat} {s : State} (h : n < s.mer.almLate.length) :
    (s.armAlarm n).mer.almLate.getD n false = decide ((s.armAlarm n).almTarget n ≤ s.timeNow) :=
  setLate_getD (s := s.modMer _) h _

/-- A write of MER_ALMn_CTRL that enables a disabled alarm arms it. -/
theorem writeAlmCtrl_arm {n v : Nat} {s : State} (hv : bit 31 v = true) (hen : s.wget (WR.MER_ALM_CTRL_EN n) = 0) :
    s.writeAlmCtrl n v = (s.wstore (WR.MER_ALM_CTRL n) v).armAlarm n := by
  have hoff : s.won (WR.MER_ALM_CTRL_EN n) = false := by rw [won_eq, hen]; rfl
  unfold writeAlmCtrl
  simp only [hv, hoff, Bool.not_false, Bool.and_self, if_true]

/-- The parameters of an enabled alarm are locked (R108). -/
theorem writeAlmParam_locked {n : Nat} {s : State} (h : s.wget (WR.MER_ALM_CTRL_EN n) ≠ 0) (a v : Nat) :
    s.writeAlmParam n a v = s := if_pos (by simpa [won_eq] using h)

/-- The parameters of a disabled alarm are stored. -/
theorem writeAlmParam_open {n : Nat} {s : State} (h : s.wget (WR.MER_ALM_CTRL_EN n) = 0) (a v : Nat) :
    s.writeAlmParam n a v = s.wstore a v := if_neg (by simp [won_eq, h])

/-- An alarm of kind 0 has no action (R103). -/
theorem almAct_none {n : Nat} {s : State} (h : s.wget (WR.MER_ALM_CTRL_KIND n) = 0) : s.almAct n = s := by
  simp [almAct, h]

/-- An alarm whose time has come acts and is armed anew. -/
theorem fireAlarm_due {n : Nat} {s : State} (hv : s.wget WR.MER_STATUS_TIME_VALID ≠ 0)
    (hen : s.wget (WR.MER_ALM_CTRL_EN n) ≠ 0) (ht : s.almTarget n ≤ s.timeNow) :
    s.fireAlarm n =
      let t := if s.mer.almLate.getD n false then s.wsets [(WR.MER_ALM_CTRL_LATE n, 1), (WR.MER_STATUS_LATE, 1)] else s
      ((t.almAct n).rearm n (s.mer.almLate.getD n false)).setLate n false :=
  if_pos (by simp [timeValid, won_eq, hv, hen, ht])

/-- Kind and period of an alarm stand apart from the late flags. -/
theorem almKind_key_ne (n : Nat) :
    ∀ f ∈ [WR.MER_ALM_CTRL_KIND n, WR.MER_ALM_PERIOD_NS_PERIOD n], ∀ g ∈ [WR.MER_ALM_CTRL_LATE n, WR.MER_STATUS_LATE],
      f.key ≠ g.key := by
  simp only [List.forall_mem_cons, List.not_mem_nil, false_imp_iff, implies_true, and_true, Fld.key,
    WR.MER_ALM_CTRL_KIND, WR.MER_ALM_PERIOD_NS_PERIOD, WR.MER_ALM_CTRL_LATE, WR.MER_STATUS_LATE, WR.MER_ALM_CTRL,
    WR.MER_ALM_PERIOD_NS, WR.MER_STATUS]
  omega

/-- The late flags and EN of an alarm stand apart. -/
theorem almLate_key_ne (n : Nat) :
    (WR.MER_ALM_CTRL_LATE n).key ≠ WR.MER_STATUS_LATE.key ∧
    (WR.MER_ALM_CTRL_LATE n).key ≠ (WR.MER_ALM_CTRL_EN n).key ∧
    WR.MER_STATUS_LATE.key ≠ (WR.MER_ALM_CTRL_EN n).key := by
  simp only [Fld.key, WR.MER_ALM_CTRL_LATE, WR.MER_STATUS_LATE, WR.MER_ALM_CTRL_EN, WR.MER_ALM_CTRL, WR.MER_STATUS]
  omega

/-- The target's registers stand apart. -/
theorem almTarget_key_ne (n : Nat) : (WR.MER_ALM_SEC_SEC n).key ≠ (WR.MER_ALM_NS_NS n).key := by
  simp only [Fld.key, WR.MER_ALM_SEC_SEC, WR.MER_ALM_NS_NS, WR.MER_ALM_SEC, WR.MER_ALM_NS]
  omega

/-- A one-shot alarm of kind 0 sets its late flags where it is late, and is disabled (R104, R105). -/
theorem fireAlarm_once {n : Nat} {s : State} (hv : s.wget WR.MER_STATUS_TIME_VALID ≠ 0)
    (hen : s.wget (WR.MER_ALM_CTRL_EN n) ≠ 0) (ht : s.almTarget n ≤ s.timeNow)
    (hk : s.wget (WR.MER_ALM_CTRL_KIND n) = 0) (hp : s.wget (WR.MER_ALM_PERIOD_NS_PERIOD n) = 0) :
    s.fireAlarm n =
      ((if s.mer.almLate.getD n false then s.wsets [(WR.MER_ALM_CTRL_LATE n, 1), (WR.MER_STATUS_LATE, 1)] else s).wset
        (WR.MER_ALM_CTRL_EN n) 0).setLate n false := by
  have hread : ∀ f ∈ [WR.MER_ALM_CTRL_KIND n, WR.MER_ALM_PERIOD_NS_PERIOD n], s.wget f = 0 →
      (if s.mer.almLate.getD n false then s.wsets [(WR.MER_ALM_CTRL_LATE n, 1), (WR.MER_STATUS_LATE, 1)]
        else s).wget f = 0 := by
    intro f hf h0
    split
    · refine (RegFile.get_sets_other _ ?_ s.wr).trans h0
      simpa using almKind_key_ne n f hf
    · exact h0
  rw [fireAlarm_due hv hen ht]
  dsimp only
  rw [almAct_none (hread _ (by simp) hk), rearm]
  simp only [hread _ (by simp) hp, Nat.zero_mul, if_true]

/-- A periodic alarm of kind 0 that is not late moves its target by its period (R104). -/
theorem fireAlarm_periodic {n : Nat} {s : State} (hv : s.wget WR.MER_STATUS_TIME_VALID ≠ 0)
    (hen : s.wget (WR.MER_ALM_CTRL_EN n) ≠ 0) (ht : s.almTarget n ≤ s.timeNow)
    (hk : s.wget (WR.MER_ALM_CTRL_KIND n) = 0) (hp : s.wget (WR.MER_ALM_PERIOD_NS_PERIOD n) ≠ 0)
    (hl : s.mer.almLate.getD n false = false) :
    s.fireAlarm n =
      (s.setTarget n (timeAdd (s.almTarget n) (s.wget (WR.MER_ALM_PERIOD_NS_PERIOD n) * 65536 : Nat))).setLate n
        false := by
  have hd : s.wget (WR.MER_ALM_PERIOD_NS_PERIOD n) * 65536 ≠ 0 := by omega
  rw [fireAlarm_due hv hen ht]
  simp only [hl, Bool.false_eq_true, if_false, almAct_none hk, rearm, hd]

/-! ### The registers as an agent writes them (R9, R76, R108, R659) -/

/-- A register of the MER block is written by the rules of that block, if it is here. -/
theorem regWrite_merBlock {a : Nat} (hb : (a - 0x40000000) / 65536 = 2) (agent v : Nat) (s : State) :
    s.regWrite agent a v = if s.regHere a then s.writeMer a v else s := by
  unfold regWrite
  rw [hb]
  cases s.regHere a <;> rfl

/-- A write of the MER block that is ignored there completes for every agent, with the registers and Meridian as they
were; where the agent's PMP refuses it, it faults. -/
theorem registerWrite_ignored {a v : Nat} {s : State} (hb : (a - 0x40000000) / 65536 = 2) (hw : s.writeMer a v = s)
    (agent : Nat) : ∃ t, exec (.registerWrite agent a v) s = .next t ∧ t.wr = s.wr ∧ t.mer = s.mer := by
  refine ⟨s.busWrite agent a v, rfl, ?_⟩
  unfold busWrite
  split
  · rw [regWrite_merBlock hb, hw, ite_self]
    exact ⟨rfl, rfl⟩
  · have hfault := (k_storeFault agent a 2 s).1
    exact ⟨hfault .wr rfl, hfault .mer rfl⟩

/-- An address in an alarm's registers names the alarm and the offset. -/
theorem instOf_alm {n o : Nat} (hn : n < 8) (ho : o < 0x20) :
    instOf 0x40020100 0x20 8 (WR.MER_ALM_CTRL n + o) = some (n, o) := by
  have hoff : WR.MER_ALM_CTRL n + o - 0x40020100 = 0x20 * n + o := by unfold WR.MER_ALM_CTRL; omega
  have hin : 0x40020100 ≤ WR.MER_ALM_CTRL n + o ∧ WR.MER_ALM_CTRL n + o < 0x40020100 + 0x20 * 8 := by
    unfold WR.MER_ALM_CTRL; omega
  rw [instOf, if_pos hin, hoff]
  exact congrArg some (Prod.ext (by omega) (by omega))

/-- A write in an alarm's parameters is one of a parameter. -/
theorem writeMer_almParam {n r : Nat} (hn : n < 8) (hr : 1 ≤ r ∧ r ≤ 5) (v : Nat) (s : State) :
    s.writeMer (WR.MER_ALM_CTRL n + 4 * r) v = s.writeAlmParam n (WR.MER_ALM_CTRL n + 4 * r) v := by
  have hne {b : Nat} (hb : b < 0x40020100) : WR.MER_ALM_CTRL n + 4 * r ≠ b := by unfold WR.MER_ALM_CTRL; omega
  have ho : 4 * r ≠ 0 := by omega
  have hle : 4 * r ≤ 0x14 := by omega
  unfold writeMer
  rw [if_neg (hne (b := WR.MER_CTRL) (by decide)), if_neg (hne (b := WR.MER_DATUM_CFG) (by decide)),
    if_neg (hne (b := WR.MER_RATE_LO) (by decide)), if_neg (hne (b := WR.MER_RATE_HI) (by decide)),
    if_neg (hne (b := WR.MER_ADJ) (by decide)), if_neg (hne (b := WR.MER_STEP_NS) (by decide)),
    if_neg (hne (b := WR.MER_PTP_PARENT_PORT) (by decide)), instOf_alm hn (by omega)]
  exact (if_neg ho).trans (if_pos hle)

end State

end Sys2Proof.Machine
end

section
/-! PROOF. What Meridian ignores: a step of a second or more, a stamp that finds 16 entries, the parameters of an
enabled alarm (O56, O57, O58). -/

namespace Sys2Proof.Machine

open Sys2Proof

/-- Settles O56: the rule of MER_STEP_NS ignores the value, and an agent's write reaches that rule or faults. -/
theorem stepNanosecondsOutOfRange : Obligations.StepNanosecondsOutOfRange := by
  have hrule (v : Nat) (s : State) (h : 1000000000 ≤ (signed 32 v).natAbs) : s.writeStepNs v = s :=
    if_neg (Nat.not_lt.2 h)
  exact ⟨fun v s h => congrArg Host.Outcome.next (hrule v s h),
    fun g v s h => State.registerWrite_ignored (a := WR.MER_STEP_NS) rfl (hrule v s h) g⟩

/-- Settles O57: after age-out 16 entries are still waiting, and the stamp is counted and not kept. -/
theorem transmitStampQueueFull : Obligations.TransmitStampQueueFull := by
  intro p id fine s h
  obtain ⟨hmer, hovf, hdropped, -⟩ := State.txArrive_full_effect h ⟨p, id,
    State.timeAdd (s.timeFine fine) (signed 32 (s.wget WR.MER_PTP_TX_LAT_LAT)), s.now⟩
  exact .of_exec rfl ⟨hmer, hovf, hdropped⟩

/-- The five parameters of an alarm follow its control register. -/
theorem almParam_addr (n : Nat) :
    WR.MER_ALM_CTRL n + 4 * 1 = WR.MER_ALM_SEC n ∧ WR.MER_ALM_CTRL n + 4 * 2 = WR.MER_ALM_NS n ∧
    WR.MER_ALM_CTRL n + 4 * 3 = WR.MER_ALM_PERIOD_NS n ∧ WR.MER_ALM_CTRL n + 4 * 4 = WR.MER_ALM_PMASK_LO n ∧
    WR.MER_ALM_CTRL n + 4 * 5 = WR.MER_ALM_PMASK_HI n := by
  simp only [WR.MER_ALM_CTRL, WR.MER_ALM_SEC, WR.MER_ALM_NS, WR.MER_ALM_PERIOD_NS, WR.MER_ALM_PMASK_LO,
    WR.MER_ALM_PMASK_HI]
  omega

/-- The address of a parameter has its number. -/
theorem almParam_number {n a : Nat} (h : a ∈ [WR.MER_ALM_SEC n, WR.MER_ALM_NS n, WR.MER_ALM_PERIOD_NS n,
    WR.MER_ALM_PMASK_LO n, WR.MER_ALM_PMASK_HI n]) : ∃ r, (1 ≤ r ∧ r ≤ 5) ∧ a = WR.MER_ALM_CTRL n + 4 * r := by
  obtain ⟨hsec, hns, hperiod, hlo, hhi⟩ := almParam_addr n
  simp only [List.mem_cons, List.not_mem_nil, or_false] at h
  rcases h with rfl | rfl | rfl | rfl | rfl
  · exact ⟨1, by decide, hsec.symm⟩
  · exact ⟨2, by decide, hns.symm⟩
  · exact ⟨3, by decide, hperiod.symm⟩
  · exact ⟨4, by decide, hlo.symm⟩
  · exact ⟨5, by decide, hhi.symm⟩

/-- A write of a parameter by its number is a write at its address. -/
theorem exec_merAlarmParamWrite {n r : Nat} (hr : 1 ≤ r ∧ r ≤ 5) (v : Nat) (s : State) :
    exec (.merAlarmParamWrite n r v) s = .next (s.writeAlmParam n (WR.MER_ALM_CTRL n + 4 * r) v) := if_pos hr

/-- Settles O58: both ways to write a parameter meet the lock of the alarm that is enabled. -/
theorem alarmParametersLocked : Obligations.AlarmParametersLocked := by
  have hlock {n : Nat} {s : State} (hen : s.wget (WR.MER_ALM_CTRL_EN n) = 1) (a v : Nat) : s.writeAlmParam n a v = s :=
    State.writeAlmParam_locked (by rw [hen]; decide) a v
  refine ⟨fun n r v s hen h1 h5 => ?_, fun g n a v s hn hen ha => ?_⟩
  · rw [exec_merAlarmParamWrite ⟨h1, h5⟩, hlock hen]
  · obtain ⟨r, hr, rfl⟩ := almParam_number ha
    refine State.registerWrite_ignored ?_ ((State.writeMer_almParam hn hr v s).trans (hlock hen _ v)) g
    unfold WR.MER_ALM_CTRL
    omega

end Sys2Proof.Machine
end

section
/-! PROOF. Losses of the Meridian sources, PPS, transmit time stamps and alarms (O16): one theorem for each clause. -/

namespace Sys2Proof.Machine

open Sys2Proof

/-! ### Losses and the parent -/

/-- The Sync timeout is a loss of the PTP sources. -/
theorem syncLost_is_loss (t : Nat) (s : State) :
    s.mer.lastSync = some t → t + s.syncLimit ≤ s.now → s.mer.lostSync = false →
    Runs .syncLost s fun z =>
      z.wget WR.MER_STATUS_SYNC_LOST = 1 ∧ z.mer.lostSync = true ∧
      ((s.wget WR.MER_CTRL_SRC = 1 ∨ s.wget WR.MER_CTRL_SRC = 2) → s.mer.armSync = true → s.tracking = true →
        z.wget WR.MER_STATUS_STATE = 4 ∧ z.wget WR.MER_STATUS_HOLDOVER = 1) ∧
      OnlyRegs [WR.MER_STATUS_SYNC_LOST, WR.MER_STATUS_STATE, WR.MER_STATUS_HOLDOVER] s z := by
  intro ht hdue hl
  obtain ⟨hflag, hhold, hregs⟩ := State.loss_effect (flag := WR.MER_STATUS_SYNC_LOST) (by decide)
    (s.merSrc == 1 || s.merSrc == 2) s.mer.armSync (s.modMer fun g => { g with lostSync := true })
  refine .of_exec (State.execSyncLost_due ht hdue hl) ⟨hflag, by simp, fun hsrc => hhold ?_, hregs⟩
  simpa [State.merSrc] using hsrc

/-- A new parent is a loss of the PTP sources. -/
theorem merPtpParentPortWrite_new (v : Nat) (s : State) : let id := s.parentId v
    id ≠ s.mer.parent →
    Runs (.merPtpParentPortWrite v) s fun z =>
      z.mer.parent = id ∧ z.wget WR.MER_PTP_PARENT_PORT_PORT = v % 65536 ∧
      ((s.wget WR.MER_CTRL_SRC = 1 ∨ s.wget WR.MER_CTRL_SRC = 2) → s.mer.armSync = true → s.tracking = true →
        z.wget WR.MER_STATUS_PARENT_CHANGE = 1 ∧ z.wget WR.MER_STATUS_STATE = 4) ∧
      OnlyRegs [WR.MER_PTP_PARENT_PORT_PORT, WR.MER_STATUS_PARENT_CHANGE, WR.MER_STATUS_STATE, WR.MER_STATUS_HOLDOVER] s
        z := by
  intro id hid
  have hport : (s.withParent v).wget WR.MER_PTP_PARENT_PORT_PORT = v % 65536 := State.wget_wset_self ..
  have hregs : OnlyRegs [WR.MER_PTP_PARENT_PORT_PORT, WR.MER_STATUS_PARENT_CHANGE, WR.MER_STATUS_STATE,
      WR.MER_STATUS_HOLDOVER] s (s.withParent v) := ((OnlyRegs.refl _ s).wset v (by simp)).of_wr rfl
  refine .of_exec (congrArg Host.Outcome.next (State.commitParent_new hid)) ?_
  split
  · refine ⟨rfl, ?_, fun _ _ _ => ⟨?_, (State.wget_enterMerHoldover _).1⟩,
      ((hregs.wset 1 (by simp)).wsets _ (by simp)).of_wr rfl⟩
    · rw [State.enterMerHoldover_onlyRegs _ _ (by decide), State.wget_wset_other (by decide), hport]
    · rw [State.enterMerHoldover_onlyRegs _ _ (by decide), State.wget_wset_self]
      rfl
  · rename_i hno
    exact ⟨rfl, hport, fun hsrc harm ht => absurd (by simpa [State.merSrc, harm, ht] using hsrc) hno, hregs⟩

/-- The loss of a frequency reference is a loss of the source that runs on it. -/
theorem synceLost_refLost_are_losses (s : State) :
    (Runs .synceLost s fun z =>
      z.wget WR.MER_STATUS_SYNCE_LOST = 1 ∧ z.mer.lostFreq = true ∧
      (s.wget WR.MER_CTRL_SRC = 2 → s.tracking = true → z.wget WR.MER_STATUS_STATE = 4) ∧
      OnlyRegs [WR.MER_STATUS_SYNCE_LOST, WR.MER_STATUS_STATE, WR.MER_STATUS_HOLDOVER] s z) ∧
    Runs .refLost s fun z =>
      z.wget WR.MER_STATUS_REF_LOST = 1 ∧ z.mer.lostFreq = true ∧
      (s.wget WR.MER_CTRL_SRC = 3 → s.tracking = true → z.wget WR.MER_STATUS_STATE = 4) ∧
      OnlyRegs [WR.MER_STATUS_REF_LOST, WR.MER_STATUS_STATE, WR.MER_STATUS_HOLDOVER] s z := by
  have heffect {flag : Fld} (hf : flag ∈ lossFlags) (src : Nat) :
      let z := (s.modMer fun g => { g with lostFreq := true }).loss flag (s.merSrc == src) true
      z.wget flag = 1 ∧ z.mer.lostFreq = true ∧
      (s.wget WR.MER_CTRL_SRC = src → s.tracking = true → z.wget WR.MER_STATUS_STATE = 4) ∧
      OnlyRegs [flag, WR.MER_STATUS_STATE, WR.MER_STATUS_HOLDOVER] s z := by
    obtain ⟨hflag, hhold, hregs⟩ :=
      State.loss_effect hf (s.merSrc == src) true (s.modMer fun g => { g with lostFreq := true })
    exact ⟨hflag, by simp, fun hsrc ht => (hhold (beq_iff_eq.2 hsrc) rfl ht).1, hregs⟩
  exact ⟨.of_exec rfl (heffect (by decide) 2), .of_exec rfl (heffect (by decide) 3)⟩

/-! ### PPS -/

/-- The edge of PPS_IN that is chosen is stamped. -/
theorem ppsInEdge_stamped (fall : Bool) (fine : Nat) (s : State) :
    fall = s.won WR.MER_PPS_CTRL_IN_EDGE → s.pinsHeld = false →
    Runs (.ppsInEdge fall fine) s fun z =>
      z.mer.pps = s.timeFine fine ∧ z.mer.lastPps = some s.now ∧ z.mer.lostPps = false ∧ OnlyRegs [] s z :=
  fun hedge hpins => .of_exec (if_pos ⟨hedge, hpins⟩) ⟨rfl, rfl, rfl, OnlyRegs.refl _ s⟩

/-- PPS_IN that stays out is a loss of the REF source. -/
theorem ppsLost_is_loss (t : Nat) (s : State) :
    s.mer.lastPps = some t → t + 1001 * Config.msTicks ≤ s.now → s.mer.lostPps = false →
    Runs .ppsLost s fun z =>
      z.wget WR.MER_STATUS_PPS_LOST = 1 ∧ z.mer.lostPps = true ∧
      (s.wget WR.MER_CTRL_SRC = 3 → s.mer.armPps = true → s.tracking = true → z.wget WR.MER_STATUS_STATE = 4) ∧
      OnlyRegs [WR.MER_STATUS_PPS_LOST, WR.MER_STATUS_STATE, WR.MER_STATUS_HOLDOVER] s z := by
  intro ht hdue hl
  obtain ⟨hflag, hhold, hregs⟩ := State.loss_effect (flag := WR.MER_STATUS_PPS_LOST) (by decide) (s.merSrc == 3)
    s.mer.armPps (s.modMer fun g => { g with lostPps := true })
  exact .of_exec (State.execPpsLost_due ht hdue hl)
    ⟨hflag, by simp, fun hsrc harm htr => (hhold (beq_iff_eq.2 hsrc) harm htr).1, hregs⟩

/-- In the tick in which a shifted second begins, a pulse begins on PPS_OUT. -/
theorem ppsOutPulse_begins (s : State) :
    s.wget WR.MER_PPS_CTRL_OUT_EN ≠ 0 → s.wget WR.MER_STATUS_TIME_VALID ≠ 0 → s.ppsDue = true → s.pinsHeld = false →
    Runs .ppsOutPulse s fun z => z.out = s.out ++ [.pps] ∧ z.mer.ppsOut = some s.tick ∧ OnlyRegs [] s z := by
  intro hen hvalid hdue hpins
  have hact : (s.won WR.MER_PPS_CTRL_OUT_EN && s.timeValid && s.ppsDue) = true := by
    simp [State.timeValid, State.won_eq, hen, hvalid, hdue]
  have hpin : (s.modMer fun g => { g with ppsOut := some s.tick }).emitPin .pps =
      (s.modMer fun g => { g with ppsOut := some s.tick }).emit .pps := if_neg (by simp [hpins])
  exact .of_exec ((if_pos hact).trans (congrArg Host.Outcome.next hpin)) ⟨rfl, rfl, OnlyRegs.refl _ s⟩

/-! ### Transmit time stamps -/

/-- A stamp joins the queue, or is lost and counted. -/
theorem txStampCapture_queued_or_lost (p id fine : Nat) (s : State) :
    let n := (s.mer.txts.filter fun x => decide (s.now < x.arrived + s.txAge)).length
    (n < 16 →
      Runs (.txStampCapture p id fine) s fun z =>
        z.mer.txts = s.mer.txts.filter (fun x => decide (s.now < x.arrived + s.txAge)) ++ [⟨p, id,
          State.timeAdd (s.timeFine fine) (signed 32 (s.wget WR.MER_PTP_TX_LAT_LAT)), s.now⟩] ∧
        z.wget WR.MER_TXTS_CNT_DEPTH = n + 1 ∧
        OnlyRegs [WR.MER_STATUS_QUEUE_OVF, WR.MER_TXTS_CNT_AGED, WR.MER_TXTS_CNT_DEPTH] s z) ∧
    (16 ≤ n →
      Runs (.txStampCapture p id fine) s fun z =>
        z.mer.txts = s.mer.txts.filter (fun x => decide (s.now < x.arrived + s.txAge)) ∧
        z.wget WR.MER_STATUS_QUEUE_OVF = 1 ∧
        z.wget WR.MER_TXTS_CNT_DROPPED = min (s.wget WR.MER_TXTS_CNT_DROPPED + 1) 255 ∧
        OnlyRegs [WR.MER_STATUS_QUEUE_OVF, WR.MER_TXTS_CNT_AGED, WR.MER_TXTS_CNT_DEPTH, WR.MER_TXTS_CNT_DROPPED] s
          z) := by
  intro n
  refine ⟨fun h => ?_, fun h => ?_⟩
  · exact .of_exec rfl (State.txArrive_room_effect h _)
  · obtain ⟨hmer, heffect⟩ := State.txArrive_full_effect h ⟨p, id,
      State.timeAdd (s.timeFine fine) (signed 32 (s.wget WR.MER_PTP_TX_LAT_LAT)), s.now⟩
    exact .of_exec rfl ⟨congrArg Mer.txts hmer, heffect⟩

/-- A read of MER_TXTS_ID takes the head of the queue. -/
theorem merTxtsIdRead_takes_head (x : TxStamp) (r : List TxStamp) (s : State) :
    s.mer.txts = x :: r → r.length < 32 →
    Runs .merTxtsIdRead s fun z =>
      z.mer.txts = r ∧ z.wget WR.MER_TXTS_ID_VALID = 1 ∧ z.wget WR.MER_TXTS_ID_PORT = x.port % 8 ∧
      z.wget WR.MER_TXTS_ID_ID = x.id % 65536 ∧ z.wget WR.MER_TXTS_NS_NS = State.timeNs x.stamp % 2 ^ 30 ∧
      z.wget WR.MER_TXTS_CNT_DEPTH = r.length ∧
      OnlyRegs [WR.MER_TXTS_ID_VALID, WR.MER_TXTS_ID_PORT, WR.MER_TXTS_ID_ID, WR.MER_TXTS_SEC_LO_SEC_LO,
        WR.MER_TXTS_SEC_HI_SEC_HI, WR.MER_TXTS_NS_NS, WR.MER_TXTS_FRAC_FRAC, WR.MER_TXTS_CNT_DEPTH] s z := by
  intro h hr
  have hread {f : Fld} {v : Nat} (hf : (f, v) ∈ State.txShown x) (hk : f.key ≠ WR.MER_TXTS_CNT_DEPTH.key) :
      (((s.wsets (State.txShown x)).modMer fun g => { g with txts := r }).wset WR.MER_TXTS_CNT_DEPTH r.length).wget f =
        v % f.size := by
    rw [State.wget_wset_other hk]
    exact RegFile.get_sets_of_mem (State.txShown_keys x) hf s.wr
  refine .of_exec (congrArg Host.Outcome.next (State.txRead_cons h)) ⟨rfl, ?_, ?_, ?_, ?_, ?_, ?_⟩
  · exact hread (f := WR.MER_TXTS_ID_VALID) (v := 1) (by simp [State.txShown]) (by decide)
  · exact hread (f := WR.MER_TXTS_ID_PORT) (v := x.port) (by simp [State.txShown]) (by decide)
  · exact hread (f := WR.MER_TXTS_ID_ID) (v := x.id) (by simp [State.txShown]) (by decide)
  · exact hread (f := WR.MER_TXTS_NS_NS) (v := State.timeNs x.stamp) (by simp [State.txShown]) (by decide)
  · exact (State.wget_wset_self ..).trans (Nat.mod_eq_of_lt hr)
  · exact (((OnlyRegs.refl _ s).wsets _ (by simp [State.txShown])).of_wr rfl).wset _ (by simp)

/-- Age-out drops the entries that are too old, and says so. -/
theorem txStampAgeOut_drops_old (s : State) :
    Runs .txStampAgeOut s fun z =>
      z.mer.txts = s.mer.txts.filter (fun x => decide (s.now < x.arrived + s.txAge)) ∧
      ((∃ x ∈ s.mer.txts, x.arrived + s.txAge ≤ s.now) → z.wget WR.MER_STATUS_QUEUE_OVF = 1) ∧
      OnlyRegs [WR.MER_STATUS_QUEUE_OVF, WR.MER_TXTS_CNT_AGED, WR.MER_TXTS_CNT_DEPTH] s z :=
  .of_exec rfl ⟨congrArg Mer.txts (State.txAgeOut_mer s), State.txAgeOut_overflow, State.txAgeOut_onlyRegs s⟩

/-! ### Alarms -/

/-- Enabling an alarm arms it, late where its target has passed. -/
theorem alarmArm_enables (n v : Nat) (s : State) :
    n < 8 → s.mer.almLate.length = 8 → s.mer.almHi.length = 8 → bit 31 v = true → s.wget (WR.MER_ALM_CTRL_EN n) = 0 →
    Runs (.alarmArm n v) s fun z =>
      z.wget (WR.MER_ALM_CTRL_EN n) = 1 ∧ z.mer.almLate.getD n false = decide (z.almTarget n ≤ s.timeNow) ∧
      OnlyRegs [WR.MER_ALM_CTRL_EN n, WR.MER_ALM_CTRL_LATE n, WR.MER_ALM_CTRL_FLAG n, WR.MER_ALM_CTRL_TASK n,
        WR.MER_ALM_CTRL_KIND n] s z := by
  intro hn hlate _ hv hen
  obtain ⟨hctrl, -⟩ := WR.regAt_alm n hn
  have hmer : (s.wstore (WR.MER_ALM_CTRL n) v).mer = s.mer := by rw [State.wstore_eq hctrl]
  have htime : (s.wstore (WR.MER_ALM_CTRL n) v).timeNow = s.timeNow := by rw [State.wstore_eq hctrl]; rfl
  refine .of_exec (congrArg Host.Outcome.next (State.writeAlmCtrl_arm hv hen)) ⟨?_, ?_, ?_⟩
  · exact (State.wget_wstore hctrl (f := WR.MER_ALM_CTRL_EN n) (by simp) v s).trans (bits_flag hv)
  · rw [State.armAlarm_late (by rwa [hmer, hlate]), htime]
  · exact (OnlyRegs.wstore hctrl v s).of_wr (State.armAlarm_wr n _)

/-- A parameter of a disabled alarm that is one RW field from bit 0 takes the value. -/
theorem merAlarmParamWrite_stored {n r a : Nat} {f : Fld} {s : State} (hen : s.wget (WR.MER_ALM_CTRL_EN n) = 0)
    (hr : 1 ≤ r ∧ r ≤ 5) (ha : WR.MER_ALM_CTRL n + 4 * r = a) (hreg : regAt WR.rows a = some [f]) (hrw : f.acc = .rw)
    (hlo : f.lo = 0) (v : Nat) :
    Runs (.merAlarmParamWrite n r v) s fun z => z.wget f = v % 2 ^ (f.hi + 1) ∧ OnlyRegs [f] s z := by
  refine .of_exec (exec_merAlarmParamWrite hr v s) ?_
  rw [State.writeAlmParam_open hen, ha]
  refine ⟨?_, OnlyRegs.wstore hreg v s⟩
  rw [State.wget_wstore hreg (by simp), RegFile.written, hrw, hlo]
  exact bits_low f.hi v

/-- The parameters of an alarm are locked while it is enabled, and stored while it is disabled. -/
theorem merAlarmParamWrite_locked_or_stored (n v : Nat) (s : State) :
    n < 8 →
    (s.wget (WR.MER_ALM_CTRL_EN n) ≠ 0 → ∀ r, Runs (.merAlarmParamWrite n r v) s fun z => z = s) ∧
    (s.wget (WR.MER_ALM_CTRL_EN n) = 0 →
      (Runs (.merAlarmParamWrite n 1 v) s fun z =>
        z.wget (WR.MER_ALM_SEC_SEC n) = v % 2 ^ 32 ∧ OnlyRegs [WR.MER_ALM_SEC_SEC n] s z) ∧
      (Runs (.merAlarmParamWrite n 2 v) s fun z =>
        z.wget (WR.MER_ALM_NS_NS n) = v % 2 ^ 30 ∧ OnlyRegs [WR.MER_ALM_NS_NS n] s z) ∧
      (Runs (.merAlarmParamWrite n 3 v) s fun z =>
        z.wget (WR.MER_ALM_PERIOD_NS_PERIOD n) = v % 2 ^ 32 ∧ OnlyRegs [WR.MER_ALM_PERIOD_NS_PERIOD n] s z) ∧
      (Runs (.merAlarmParamWrite n 4 v) s fun z =>
        z.wget (WR.MER_ALM_PMASK_LO_PMASK_LO n) = v % 2 ^ 32 ∧ OnlyRegs [WR.MER_ALM_PMASK_LO_PMASK_LO n] s z) ∧
      Runs (.merAlarmParamWrite n 5 v) s fun z =>
        z.wget (WR.MER_ALM_PMASK_HI_PMASK_HI n) = v % 2 ^ 16 ∧ OnlyRegs [WR.MER_ALM_PMASK_HI_PMASK_HI n] s z) := by
  intro hn
  refine ⟨fun hen r => ?_, fun hen => ?_⟩
  · by_cases hr : 1 ≤ r ∧ r ≤ 5
    · exact .of_exec (exec_merAlarmParamWrite hr v s) (State.writeAlmParam_locked hen _ v)
    · exact .of_exec (if_neg hr) rfl
  · obtain ⟨-, hsec, hns, hperiod, hlo, hhi⟩ := WR.regAt_alm n hn
    obtain ⟨asec, ans, aperiod, alo, ahi⟩ := almParam_addr n
    exact ⟨merAlarmParamWrite_stored hen (by decide) asec hsec rfl rfl v,
      merAlarmParamWrite_stored hen (by decide) ans hns rfl rfl v,
      merAlarmParamWrite_stored hen (by decide) aperiod hperiod rfl rfl v,
      merAlarmParamWrite_stored hen (by decide) alo hlo rfl rfl v,
      merAlarmParamWrite_stored hen (by decide) ahi hhi rfl rfl v⟩

/-- A one-shot alarm fires and is disabled; a late one sets its flags. -/
theorem alarmFire_once (n : Nat) (s : State) :
    s.wget WR.MER_STATUS_TIME_VALID ≠ 0 → s.wget (WR.MER_ALM_CTRL_EN n) ≠ 0 → s.almTarget n ≤ s.timeNow →
    s.wget (WR.MER_ALM_CTRL_KIND n) = 0 → s.wget (WR.MER_ALM_PERIOD_NS_PERIOD n) = 0 →
    Runs (.alarmFire n) s fun z =>
      z.wget (WR.MER_ALM_CTRL_EN n) = 0 ∧
      (s.mer.almLate.getD n false = true → z.wget (WR.MER_ALM_CTRL_LATE n) = 1 ∧ z.wget WR.MER_STATUS_LATE = 1) ∧
      OnlyRegs [WR.MER_ALM_CTRL_EN n, WR.MER_ALM_CTRL_LATE n, WR.MER_STATUS_LATE] s z := by
  intro hv hen ht hk hp
  obtain ⟨hlate, hlateEn, hstatusEn⟩ := State.almLate_key_ne n
  have hkeys : ([(WR.MER_ALM_CTRL_LATE n, 1), (WR.MER_STATUS_LATE, 1)].map fun p => p.1.key).Nodup := by
    simpa using hlate
  refine .of_exec (congrArg Host.Outcome.next (State.fireAlarm_once hv hen ht hk hp)) ⟨?_, ?_, ?_⟩
  · exact (State.wget_wset_self (WR.MER_ALM_CTRL_EN n) 0 _).trans (Nat.zero_mod _)
  · intro hl
    rw [if_pos hl]
    have hflag {f : Fld} (hf : (f, 1) ∈ [(WR.MER_ALM_CTRL_LATE n, 1), (WR.MER_STATUS_LATE, 1)])
        (hk : f.key ≠ (WR.MER_ALM_CTRL_EN n).key) :
        ((s.wsets [(WR.MER_ALM_CTRL_LATE n, 1), (WR.MER_STATUS_LATE, 1)]).wset (WR.MER_ALM_CTRL_EN n) 0).wget f =
          1 % f.size := by
      rw [State.wget_wset_other hk]
      exact RegFile.get_sets_of_mem hkeys hf s.wr
    exact ⟨hflag (by simp) hlateEn, hflag (by simp) hstatusEn⟩
  · refine (OnlyRegs.wset (f := WR.MER_ALM_CTRL_EN n) 0 ?_ (by simp)).of_wr rfl
    split
    · exact (OnlyRegs.refl _ s).wsets _ (by simp)
    · exact OnlyRegs.refl _ s

/-- A periodic alarm that is not late moves its target by its period. -/
theorem alarmFire_periodic (n : Nat) (s : State) :
    let t := State.timeAdd (s.almTarget n) (s.wget (WR.MER_ALM_PERIOD_NS_PERIOD n) * 65536 : Nat)
    s.wget WR.MER_STATUS_TIME_VALID ≠ 0 → s.wget (WR.MER_ALM_CTRL_EN n) ≠ 0 → s.almTarget n ≤ s.timeNow →
    s.wget (WR.MER_ALM_CTRL_KIND n) = 0 → s.wget (WR.MER_ALM_PERIOD_NS_PERIOD n) ≠ 0 →
    s.mer.almLate.getD n false = false →
    Runs (.alarmFire n) s fun z =>
      z.wget (WR.MER_ALM_SEC_SEC n) = State.timeSec t % 2 ^ 32 ∧ z.wget (WR.MER_ALM_NS_NS n) = State.timeNs t % 2 ^ 30 ∧
      OnlyRegs [WR.MER_ALM_SEC_SEC n, WR.MER_ALM_NS_NS n] s z := by
  intro t hv hen ht hk hp hl
  have hkeys : ([(WR.MER_ALM_SEC_SEC n, State.timeSec t % 2 ^ 32), (WR.MER_ALM_NS_NS n, State.timeNs t)].map
      fun p => p.1.key).Nodup := by simpa using State.almTarget_key_ne n
  refine .of_exec (congrArg Host.Outcome.next (State.fireAlarm_periodic hv hen ht hk hp hl)) ⟨?_, ?_, ?_⟩
  · exact (RegFile.get_sets_of_mem (v := State.timeSec t % 2 ^ 32) hkeys (by simp) s.wr).trans (Nat.mod_mod _ _)
  · exact RegFile.get_sets_of_mem (v := State.timeNs t) hkeys (by simp) s.wr
  · exact ((OnlyRegs.refl _ s).wsets _ (by simp)).of_wr rfl

/-- Settles O16, clause by clause. -/
theorem meridianEvents : Obligations.MeridianEvents :=
  ⟨syncLost_is_loss, merPtpParentPortWrite_new, synceLost_refLost_are_losses, ppsInEdge_stamped, ppsLost_is_loss,
    ppsOutPulse_begins, txStampCapture_queued_or_lost, merTxtsIdRead_takes_head, txStampAgeOut_drops_old,
    alarmArm_enables, merAlarmParamWrite_locked_or_stored, alarmFire_once, alarmFire_periodic⟩

end Sys2Proof.Machine
end

section
/-! SUPPORT. Timing channels (spec/04): what a command of one channel leaves, and what the edges, the completion, the
clamp and the configuration of a channel do (O2). -/

namespace Sys2Proof

/-- A field at a lower address has another key. -/
theorem Fld.key_ne_of_addr_lt {f g : Fld} (h : f.addr < g.addr) (hf : f.lo < 32) : f.key ≠ g.key := by
  unfold Fld.key
  omega

end Sys2Proof

namespace Sys2Proof.Machine

open Sys2Proof

/-- A command that makes `u` of its Tladon completes; the law of the command says what else stays. -/
theorem TlRuns.of_exec {c : Instr} {p : Nat} {s : State} {g : Tladon → Tladon} {u : Tladon} {post : Tladon → Prop}
    (hc : tlPort c = some p) (h : exec c s = .next (s.modTl p g)) (hu : g (s.tladon p) = u) (hp : post u) :
    TlRuns c p s post :=
  have k : OnlyTlParts (tlTouches c) (s.tladon p) ((s.modTl p g).tladon p) :=
    (TlKept.of_exec hc h).parts.only _ (Nat.or_self _)
  .of h (State.tladon_modTl_self p g s ▸ k) (hu ▸ hp)

/-- Of the channels only `c` differs, and of the registers only the listed ones. -/
def OnlyChan (c : Nat) (l : List Fld) (t u : Tladon) : Prop := (∀ d, d ≠ c → u.chan d = t.chan d) ∧ OnlyTlRegs l t u

namespace OnlyChan

variable {c : Nat} {l : List Fld} {t u w : Tladon} {f : Fld}

/-- Nothing differs where nothing happens. -/
theorem refl (c : Nat) (l : List Fld) (t : Tladon) : OnlyChan c l t t := ⟨fun _ _ => rfl, .refl l t⟩

/-- A change of the channel. -/
theorem modChan (g : Chan → Chan) (h : OnlyChan c l t u) : OnlyChan c l t (u.modChan c g) :=
  ⟨fun d hd => (Tladon.chan_modChan_other hd g u).trans (h.1 d hd), .of_regs h.2 rfl⟩

/-- A store to a listed register. -/
theorem set (v : Nat) (h : OnlyChan c l t u) (hf : f ∈ l) : OnlyChan c l t (u.set f v) := ⟨h.1, .set v h.2 hf⟩

/-- A count in a listed register. -/
theorem add (n : Nat) (h : OnlyChan c l t u) (hf : f ∈ l) : OnlyChan c l t (u.add f n) := ⟨h.1, .add n h.2 hf⟩

/-- Stores to listed registers. -/
theorem sets (m : List (Fld × Nat)) (h : OnlyChan c l t u) (hm : ∀ x ∈ m, x.1 ∈ l) : OnlyChan c l t (u.sets m) :=
  ⟨h.1, .sets m h.2 hm⟩

/-- A count in a listed register, or nothing. -/
theorem countIf (b : Bool) (h : OnlyChan c l t u) (hf : f ∈ l) : OnlyChan c l t (u.countIf b f) := by
  cases b
  · exact h
  · exact h.add 1 hf

/-- Equal channels and registers read alike. -/
theorem of_eq (h : OnlyChan c l t u) (hc : w.chans = u.chans) (hr : w.regs = u.regs) : OnlyChan c l t w :=
  ⟨fun d hd => (congrArg (SMap.getD Chan.idle d) hc).trans (h.1 d hd), .of_regs h.2 hr⟩

end OnlyChan

namespace Tladon

/-! ### Leading edges (R117, R119, R122, R163) -/

/-- A channel within its dead time counts the edge as lost and ignores it (R122). -/
theorem leadEdge_deadTime {now c : Nat} {t : Tladon} (hdead : t.dead c = false) (hthr : t.get (TR.CH_THR_THR c) ≠ 1023)
    (hstate : t.state = 3) (hhigh : (t.chan c).high = none) (hset : t.settling now c = false)
    (hsrc : ¬(t.get TR.SURVEY_CFG_SRC = 2 ∧ t.get TR.SURVEY_CFG_CHANNEL = c)) (hre : now < (t.chan c).rearm)
    (raw sraw : Nat) (dith : Bool) :
    t.leadEdge now c raw sraw dith =
      (t.modChan c fun x => { x with high := some now, ignore := true, lost := true }).add (TR.CH_CNT_LOST c) 1 := by
  simp [leadEdge, running, hdead, hthr, hstate, hhigh, hset, hsrc, hre]

/-- An armed channel stamps the edge (R119). -/
theorem leadEdge_armed {now c : Nat} {t : Tladon} (hdead : t.dead c = false) (hthr : t.get (TR.CH_THR_THR c) ≠ 1023)
    (hstate : t.state = 3) (hhigh : (t.chan c).high = none) (hset : t.settling now c = false)
    (hsrc : ¬(t.get TR.SURVEY_CFG_SRC = 2 ∧ t.get TR.SURVEY_CFG_CHANNEL = c)) (hre : (t.chan c).rearm ≤ now)
    (raw sraw : Nat) (dith : Bool) : t.leadEdge now c raw sraw dith = t.stampEdge now c raw dith := by
  simp [leadEdge, running, hdead, hthr, hstate, hhigh, hset, hsrc, Nat.not_lt.2 hre]

/-- The stamp of a PULSE channel's leading edge: role 0, no stop number. -/
def pulseEdge (now c raw : Nat) (dith : Bool) (t : Tladon) : Edge where
  t0 := now
  tick := t.count now
  fine := t.fineNow (2 * c + b2n dith) raw
  epoch := t.get TR.CAL_STATUS_EPOCH
  clamp := clampFlag now (t.chan c)
  pile := t.pileFlag now c
  role := 0
  stop := 0
  alt := dith

/-- The count of aborted conversions is no register of a channel. -/
theorem chCfg_key_ne_aborted {f : Fld} {c : Nat} (ha : f.addr = TR.CH_CFG c) : f.key ≠ TR.CAL_CNT_ABORTED.key :=
  (Fld.key_ne_of_addr_lt (by rw [ha]; exact Nat.lt_add_right _ (by decide)) (by decide)).symm

/-- The count of aborted conversions has no part in an edge's stamp. -/
theorem pulseEdge_countIf (now c raw : Nat) (dith : Bool) (t : Tladon) :
    (t.countIf dith TR.CAL_CNT_ABORTED).pulseEdge now c raw dith = t.pulseEdge now c raw dith := by
  cases dith
  · rfl
  · have hread (f : Fld) (h : f.key ≠ TR.CAL_CNT_ABORTED.key) : (t.add TR.CAL_CNT_ABORTED 1).get f = t.get f :=
      get_add_other h 1 t
    have hwin := hread (TR.CH_CFG_PILEUP_WIN c) (chCfg_key_ne_aborted rfl)
    have hepoch := hread TR.CAL_STATUS_EPOCH (by decide)
    have hserial := hread TR.ID_SERIAL_SERIAL (by decide)
    simp [countIf, pulseEdge, fineNow, fineBin, pileFlag, hwin, hepoch, hserial]

/-- A PULSE channel's stamped edge waits for its end; nothing is lost since. -/
theorem stampEdge_pulse {now c : Nat} {t : Tladon} (hmode : t.get (TR.CH_CFG_MODE c) ≠ 2) (raw : Nat) (dith : Bool) :
    (t.stampEdge now c raw dith).chan c =
      { t.chan c with edge := some (t.pulseEdge now c raw dith), high := some now, lost := false } ∧
    OnlyChan c [TR.CAL_CNT_ABORTED] t (t.stampEdge now c raw dith) := by
  have hchan : (t.countIf dith TR.CAL_CNT_ABORTED).chan c = t.chan c := by simp [chan]
  have honly : OnlyChan c [TR.CAL_CNT_ABORTED] t (t.countIf dith TR.CAL_CNT_ABORTED) :=
    (OnlyChan.refl ..).countIf dith (by simp)
  have hpulse : (t.countIf dith TR.CAL_CNT_ABORTED).get (TR.CH_CFG_MODE c) ≠ 2 := by
    rwa [honly.2 _ (by simpa using chCfg_key_ne_aborted rfl)]
  have hedge := pulseEdge_countIf now c raw dith t
  unfold stampEdge
  extract_lets x
  change x.chan c = _ at hchan
  change OnlyChan c _ t x at honly
  change x.get _ ≠ 2 at hpulse
  change x.pulseEdge now c raw dith = _ at hedge
  clear_value x
  simp -zeta only [if_neg hpulse]
  extract_lets e v
  have hv : v.chan c = { t.chan c with edge := some (t.pulseEdge now c raw dith), high := some now, lost := false } := by
    rw [chan_modChan_self, hchan, ← hedge]
    rfl
  have hother : OnlyChan c [TR.CAL_CNT_ABORTED] t v := honly.modChan _
  clear_value v
  split
  · exact ⟨hv, hother.of_eq rfl rfl⟩
  · exact ⟨hv, hother⟩

/-! ### The end of a hit (R120, R122, R124, R125) -/

/-- The primitives have no part in the bin tables. -/
@[simp] theorem fineBin_closePrim (now c interp raw epoch : Nat) (t : Tladon) :
    (t.closePrim now c).fineBin interp raw epoch = t.fineBin interp raw epoch := rfl

/-- The falling output completes the pending hit with its time over threshold. -/
theorem trailEdge_completes {now c h : Nat} {e : Edge} {t : Tladon} (hhigh : (t.chan c).high = some h)
    (hign : (t.chan c).ignore = false) (hedge : (t.chan c).edge = some e) (raw : Nat) :
    t.trailEdge now c raw = (t.closePrim now c).modChan c fun x => { x with
      high := none, edge := none, rearm := now + 16, lastTrail := some now
      done := x.done ++ [⟨e, now,
        min 65535 (((now - e.t0) * 256 + t.fineBin (2 * c + b2n (!e.alt)) raw e.epoch - e.fine) / 4)⟩] } := by
  simp [trailEdge, hhigh, hign, hedge]

/-- After 1,024 ticks without a trailing edge the pending hit is complete with all ones. -/
theorem saturate_due {now c : Nat} {e : Edge} {t : Tladon} (hedge : (t.chan c).edge = some e) (hdue : e.t0 + 1024 ≤ now) :
    t.saturate now c = t.modChan c fun x => { x with
      edge := none, rearm := e.t0 + 1040, done := x.done ++ [⟨e, e.t0 + 1024, 0xFFFF⟩] } := by
  simp [saturate, hedge, hdue]

/-- A queue with room takes the word (R208). -/
theorem pushWord_room {c : Nat} {t : Tladon} (h : (t.chan c).q.length < 16) (w : HWord) :
    t.pushWord c w = t.modChan c fun x => { x with q := x.q ++ [w] } := if_pos h

/-- A word that passes MIN_TOT goes to its channel's hit queue; a piled-up one is marked (R124, R125). -/
theorem hitComplete_passes {now c : Nat} {d : DoneHit} {r : List DoneHit} {t : Tladon} (hdone : (t.chan c).done = d :: r)
    (hdue : d.t1 + 24 ≤ now) (hstate : t.state = 3) (htot : t.get (TR.CH_CFG_MIN_TOT c) * 64 ≤ d.tot)
    (hrole : d.edge.role ≠ 3) :
    t.hitComplete now c =
      (if d.edge.pile then (t.modChan c fun x => { x with done := r }).set (TR.CH_STATUS_PILEUP_SEEN c) 1
        else t.modChan c fun x => { x with done := r }).pushWord c ⟨d.edge.tick, hitWord c d⟩ := by
  simp [hitComplete, hdone, hdue, hstate, Nat.not_lt.2 htot, hrole]

/-- A word below MIN_TOT is dropped and counted (R125). -/
theorem hitComplete_short {now c : Nat} {d : DoneHit} {r : List DoneHit} {t : Tladon} (hdone : (t.chan c).done = d :: r)
    (hdue : d.t1 + 24 ≤ now) (hstate : t.state = 3) (htot : d.tot < t.get (TR.CH_CFG_MIN_TOT c) * 64) :
    t.hitComplete now c = (t.modChan c fun x => { x with done := r }).add (TR.CH_CNT_SHORT c) 1 := by
  simp [hitComplete, hdone, hdue, hstate, htot]

/-- The word that leaves `done` stands at the end of a queue with room. -/
theorem hitComplete_queues {now c : Nat} {d : DoneHit} {r : List DoneHit} {t : Tladon} (hdone : (t.chan c).done = d :: r)
    (hdue : d.t1 + 24 ≤ now) (hstate : t.state = 3) (htot : t.get (TR.CH_CFG_MIN_TOT c) * 64 ≤ d.tot)
    (hrole : d.edge.role ≠ 3) (hroom : (t.chan c).q.length < 16) :
    (t.hitComplete now c).chan c = { t.chan c with done := r, q := (t.chan c).q ++ [⟨d.edge.tick, hitWord c d⟩] } ∧
    OnlyChan c [TR.CH_STATUS_PILEUP_SEEN c] t (t.hitComplete now c) := by
  have hqueue {v : Tladon} (hv : v.chan c = { t.chan c with done := r })
      (honly : OnlyChan c [TR.CH_STATUS_PILEUP_SEEN c] t v) :
      (v.pushWord c ⟨d.edge.tick, hitWord c d⟩).chan c =
        { t.chan c with done := r, q := (t.chan c).q ++ [⟨d.edge.tick, hitWord c d⟩] } ∧
      OnlyChan c [TR.CH_STATUS_PILEUP_SEEN c] t (v.pushWord c ⟨d.edge.tick, hitWord c d⟩) := by
    rw [pushWord_room (by rw [hv]; exact hroom)]
    exact ⟨by rw [chan_modChan_self, hv], honly.modChan _⟩
  have htaken : (t.modChan c fun x => { x with done := r }).chan c = { t.chan c with done := r } := chan_modChan_self ..
  have honly : OnlyChan c [TR.CH_STATUS_PILEUP_SEEN c] t (t.modChan c fun x => { x with done := r }) :=
    (OnlyChan.refl ..).modChan _
  rw [hitComplete_passes hdone hdue hstate htot hrole]
  split
  · exact hqueue htaken (honly.set 1 (by simp))
  · exact hqueue htaken honly

/-! ### The clamp (R114, R115) -/

/-- The clamp engages: the channel and its pending edge are marked, the status and the count show it. -/
theorem clampEngage_off {c : Nat} {t : Tladon} (h : (t.chan c).clampOn = false) :
    t.clampEngage c = ((t.modChan c fun x => { x with
      clampOn := true, edge := x.edge.map fun e => { e with clamp := true } }).set (TR.CH_STATUS_CLAMP c) 1).add
        (TR.CH_CNT_CLAMP_EVENTS c) 1 := if_neg (by simp [h])

/-- The engaged clamp marks the channel and its pending edge. -/
theorem clampEngage_chan {c : Nat} {t : Tladon} (h : (t.chan c).clampOn = false) :
    (t.clampEngage c).chan c =
      { t.chan c with clampOn := true, edge := (t.chan c).edge.map fun e => { e with clamp := true } } := by
  rw [clampEngage_off h, chan_add, chan_set, chan_modChan_self]

/-- The clamp releases at this tick. -/
theorem clampRelease_on {now c : Nat} {t : Tladon} (h : (t.chan c).clampOn = true) :
    t.clampRelease now c = t.modChan c fun x => { x with clampOn := false, clampRel := some now } := if_pos h

/-- The clamp's flag and its count are two registers of the channel. -/
theorem clamp_key_ne (c : Nat) : (TR.CH_STATUS_CLAMP c).key ≠ (TR.CH_CNT_CLAMP_EVENTS c).key :=
  Fld.key_ne_of_addr_lt (Nat.add_lt_add_right (by decide) _) (Nat.zero_lt_succ _)

/-! ### Configuration (R117, R118) -/

/-- What a write to CH_CFG stores. -/
def chCfgFields (c v : Nat) : List (Fld × Nat) :=
  [(TR.CH_CFG_PRIM_EN c, bits 24 24 v), (TR.CH_CFG_MIN_TOT c, bits 23 20 v), (TR.CH_CFG_PILEUP_WIN c, bits 15 8 v),
    (TR.CH_CFG_RANGE c, bits 4 3 v), (TR.CH_CFG_POL c, bits 2 2 v), (TR.CH_CFG_MODE c, bits 1 0 v)]

/-- What a write to CH_THR stores. -/
def chThrFields (c v : Nat) : List (Fld × Nat) := [(TR.CH_THR_TRIM c, bits 21 16 v), (TR.CH_THR_THR c, bits 9 0 v)]

/-- The fields of CH_CFG stand apart. -/
theorem chCfgFields_keys (c v : Nat) : ((chCfgFields c v).map fun p => p.1.key).Nodup := by
  simp [chCfgFields, Fld.key, TR.CH_CFG_PRIM_EN, TR.CH_CFG_MIN_TOT, TR.CH_CFG_PILEUP_WIN, TR.CH_CFG_RANGE, TR.CH_CFG_POL,
    TR.CH_CFG_MODE]

/-- The fields of CH_THR stand apart. -/
theorem chThrFields_keys (c v : Nat) : ((chThrFields c v).map fun p => p.1.key).Nodup := by
  simp [chThrFields, Fld.key, TR.CH_THR_TRIM, TR.CH_THR_THR]

/-- Stored bits of a field of fields that stand apart read back. -/
theorem get_sets_bits {m : List (Fld × Nat)} (hm : (m.map fun p => p.1.key).Nodup) {f : Fld} {v : Nat}
    (hf : (f, bits f.hi f.lo v) ∈ m) (t : Tladon) : (t.sets m).get f = bits f.hi f.lo v :=
  (RegFile.get_sets_of_mem hm hf t.regs).trans (RegFile.bits_mod_size f v)

/-- OFF is MODE 0 or 3. -/
theorem off_eq {c m : Nat} {t : Tladon} (h : t.get (TR.CH_CFG_MODE c) = m) : t.off c = (m == 0 || m == 3) := by
  rw [off, h]

/-- A write to CH_CFG of a channel of no interval unit stores its fields; a channel turned on, or with another range or
polarity, settles, and one that is OFF drops its edge. -/
theorem chCfg_outside_unit {now c v : Nat} {t : Tladon} (h : ¬(t.get (TR.CH_CFG_MODE c) = 2 ∧ t.inUnit c)) :
    t.chCfg now c v = (t.sets (chCfgFields c v)).modChan c fun x =>
      let isOff := (t.sets (chCfgFields c v)).off c
      { x with
        modeEnd := if t.off c && !isOff then max x.modeEnd (now + 1 + 25600) else x.modeEnd
        cntEnd := if t.get (TR.CH_CFG_RANGE c) ≠ bits 4 3 v ∨ t.get (TR.CH_CFG_POL c) ≠ bits 2 2 v then
          max x.cntEnd (now + 1 + 2560) else x.cntEnd
        edge := if isOff then none else x.edge
        high := if isOff then none else x.high
        ignore := x.ignore && !isOff } := by
  unfold chCfg
  rw [if_neg h]
  rfl

/-- The fields of CH_CFG read back. -/
theorem chCfg_get {now c v : Nat} {t : Tladon} (h : ¬(t.get (TR.CH_CFG_MODE c) = 2 ∧ t.inUnit c)) {f : Fld}
    (hf : (f, bits f.hi f.lo v) ∈ chCfgFields c v) : (t.chCfg now c v).get f = bits f.hi f.lo v := by
  rw [chCfg_outside_unit h]
  exact t.get_sets_bits (chCfgFields_keys c v) hf

/-- A write to CH_CFG leaves the other channels and registers. -/
theorem chCfg_onlyChan {now c v : Nat} {t : Tladon} (h : ¬(t.get (TR.CH_CFG_MODE c) = 2 ∧ t.inUnit c)) :
    OnlyChan c [TR.CH_CFG_PRIM_EN c, TR.CH_CFG_MIN_TOT c, TR.CH_CFG_PILEUP_WIN c, TR.CH_CFG_RANGE c, TR.CH_CFG_POL c,
      TR.CH_CFG_MODE c] t (t.chCfg now c v) := by
  rw [chCfg_outside_unit h]
  exact ((OnlyChan.refl ..).sets _ (by simp [chCfgFields])).modChan _

/-- After the stores the channel is OFF where MODE is 0 or 3. -/
theorem off_sets_chCfgFields (c v : Nat) (t : Tladon) :
    (t.sets (chCfgFields c v)).off c = (bits 1 0 v == 0 || bits 1 0 v == 3) :=
  off_eq (t.get_sets_bits (chCfgFields_keys c v) (f := TR.CH_CFG_MODE c) (by simp [chCfgFields, TR.CH_CFG_MODE]))

/-- A channel turned on to PULSE settles for 25,600 ticks from the next. -/
theorem chCfg_on_settles {now c v : Nat} {t : Tladon} (h : ¬(t.get (TR.CH_CFG_MODE c) = 2 ∧ t.inUnit c))
    (hoff : t.off c = true) (hpulse : bits 1 0 v = 1) : now + 25601 ≤ ((t.chCfg now c v).chan c).modeEnd := by
  rw [chCfg_outside_unit h, chan_modChan_self]
  have hon : (t.sets (chCfgFields c v)).off c = false := by rw [off_sets_chCfgFields, hpulse]; rfl
  simp only [hoff, hon, Bool.not_false, Bool.and_self, if_true]
  omega

/-- A channel turned off drops its edge and its output. -/
theorem chCfg_off_drops {now c v : Nat} {t : Tladon} (h : ¬(t.get (TR.CH_CFG_MODE c) = 2 ∧ t.inUnit c))
    (hoff : bits 1 0 v = 0) :
    ((t.chCfg now c v).chan c).edge = none ∧ ((t.chCfg now c v).chan c).high = none := by
  rw [chCfg_outside_unit h, chan_modChan_self]
  simp [off_sets_chCfgFields, hoff]

/-- A write to CH_THR stores its fields. -/
theorem chThr_regs (now c v : Nat) (t : Tladon) : (t.chThr now c v).regs = (t.sets (chThrFields c v)).regs := by
  unfold chThr
  extract_lets new u
  split <;> rfl

/-- A write to CH_THR leaves the other channels and registers. -/
theorem chThr_onlyChan (now c v : Nat) (t : Tladon) :
    OnlyChan c [TR.CH_THR_THR c, TR.CH_THR_TRIM c] t (t.chThr now c v) := by
  have hstore : OnlyChan c [TR.CH_THR_THR c, TR.CH_THR_TRIM c] t (t.sets (chThrFields c v)) :=
    (OnlyChan.refl ..).sets _ (by simp [chThrFields])
  unfold chThr
  extract_lets new u
  split
  · exact hstore.modChan _
  · exact hstore

/-- Another threshold makes the channel settle for 256 ticks from the next. -/
theorem chThr_settles {now c v : Nat} {t : Tladon} (h : t.get (TR.CH_THR_THR c) ≠ bits 9 0 v) :
    now + 257 ≤ ((t.chThr now c v).chan c).cntEnd := by
  unfold chThr
  extract_lets new u
  rw [if_pos (show new from .inl h), chan_modChan_self]
  dsimp only
  omega

end Tladon

end Sys2Proof.Machine
end

section
/-! PROOF. The edges, the words, the clamp and the configuration of a timing channel (O2): one theorem for each clause. -/

namespace Sys2Proof.Machine

open Sys2Proof

/-! ### Edges -/

/-- An armed PULSE channel records its leading edge. -/
theorem discriminatorLeadingEdge_stamped (p c raw sraw : Nat) (dith : Bool) (s : State) :
    let t := s.tladon p
    t.dead c = false → t.get (TR.CH_THR_THR c) ≠ 1023 → t.state = 3 → (t.chan c).high = none →
    t.settling s.now c = false → ¬(t.get TR.SURVEY_CFG_SRC = 2 ∧ t.get TR.SURVEY_CFG_CHANNEL = c) →
    (t.chan c).rearm ≤ s.now → t.get (TR.CH_CFG_MODE c) ≠ 2 →
    TlRuns (.discriminatorLeadingEdge p c raw sraw dith) p s fun u =>
      (u.chan c).high = some s.now ∧ (u.chan c).lost = false ∧
      (∃ e, (u.chan c).edge = some e ∧ e.t0 = s.now ∧ e.tick = t.count s.now ∧
        e.fine = t.fineNow (2 * c + b2n dith) raw ∧ e.role = 0 ∧ e.pile = t.pileFlag s.now c) ∧
      (∀ d, d ≠ c → u.chan d = t.chan d) ∧ OnlyTlRegs [TR.CAL_CNT_ABORTED] t u := by
  intro t hdead hthr hstate hhigh hset hsrc hre hmode
  obtain ⟨hchan, honly⟩ := Tladon.stampEdge_pulse (now := s.now) hmode raw dith
  refine .of_exec rfl rfl (Tladon.leadEdge_armed hdead hthr hstate hhigh hset hsrc hre raw sraw dith) ?_
  rw [hchan]
  exact ⟨rfl, rfl, ⟨t.pulseEdge s.now c raw dith, rfl, rfl, rfl, rfl, rfl, rfl⟩, honly⟩

/-- Within the dead time a leading edge is counted lost. -/
theorem discriminatorLeadingEdge_lost (p c raw sraw : Nat) (dith : Bool) (s : State) :
    let t := s.tladon p
    t.dead c = false → t.get (TR.CH_THR_THR c) ≠ 1023 → t.state = 3 → (t.chan c).high = none →
    t.settling s.now c = false → ¬(t.get TR.SURVEY_CFG_SRC = 2 ∧ t.get TR.SURVEY_CFG_CHANNEL = c) →
    s.now < (t.chan c).rearm →
    TlRuns (.discriminatorLeadingEdge p c raw sraw dith) p s fun u =>
      u.get (TR.CH_CNT_LOST c) = min (t.get (TR.CH_CNT_LOST c) + 1) ((TR.CH_CNT_LOST c).size - 1) ∧
      u.chan c = { t.chan c with high := some s.now, ignore := true, lost := true } ∧
      (∀ d, d ≠ c → u.chan d = t.chan d) ∧ OnlyTlRegs [TR.CH_CNT_LOST c] t u := by
  intro t hdead hthr hstate hhigh hset hsrc hre
  exact .of_exec rfl rfl (Tladon.leadEdge_deadTime hdead hthr hstate hhigh hset hsrc hre raw sraw dith)
    ⟨Tladon.get_add_self .., (Tladon.chan_add ..).trans (Tladon.chan_modChan_self ..),
      ((OnlyChan.refl ..).modChan _).add 1 (by simp)⟩

/-- The trailing edge completes the hit. -/
theorem discriminatorTrailingEdge_completes (p c raw h : Nat) (e : Edge) (s : State) :
    let t := s.tladon p
    (t.chan c).high = some h → (t.chan c).ignore = false → (t.chan c).edge = some e →
    TlRuns (.discriminatorTrailingEdge p c raw) p s fun u =>
      u.chan c = { t.chan c with
        high := none, edge := none, rearm := s.now + 16, lastTrail := some s.now
        done := (t.chan c).done ++ [⟨e, s.now,
          min 65535 (((s.now - e.t0) * 256 + t.fineBin (2 * c + b2n (!e.alt)) raw e.epoch - e.fine) / 4)⟩] } ∧
      (∀ d, d ≠ c → u.chan d = t.chan d) ∧ OnlyTlRegs [] t u := by
  intro t hhigh hign hedge
  have hprims : OnlyChan c [] t (t.closePrim s.now c) := (OnlyChan.refl ..).of_eq rfl rfl
  exact .of_exec rfl rfl (Tladon.trailEdge_completes hhigh hign hedge raw)
    ⟨Tladon.chan_modChan_self .., hprims.modChan _⟩

/-- Saturation completes the hit with all ones. -/
theorem totSaturation_completes (p c : Nat) (e : Edge) (s : State) :
    let t := s.tladon p
    (t.chan c).edge = some e → e.t0 + 1024 ≤ s.now →
    TlRuns (.totSaturation p c) p s fun u =>
      u.chan c = { t.chan c with
        edge := none, rearm := e.t0 + 1040, done := (t.chan c).done ++ [⟨e, e.t0 + 1024, 0xFFFF⟩] } ∧
      (∀ d, d ≠ c → u.chan d = t.chan d) ∧ OnlyTlRegs [] t u := by
  intro t hedge hdue
  exact .of_exec rfl rfl (Tladon.saturate_due hedge hdue)
    ⟨Tladon.chan_modChan_self .., (OnlyChan.refl ..).modChan _⟩

/-! ### Words -/

/-- A completed word that passes MIN_TOT is queued. -/
theorem hitWordComplete_queued (p c : Nat) (d : DoneHit) (r : List DoneHit) (s : State) :
    let t := s.tladon p
    (t.chan c).done = d :: r → d.t1 + 24 ≤ s.now → t.state = 3 →
    t.get (TR.CH_CFG_MIN_TOT c) * 64 ≤ d.tot → d.edge.role ≠ 3 → (t.chan c).q.length < 16 →
    TlRuns (.hitWordComplete p c) p s fun u =>
      u.chan c = { t.chan c with done := r, q := (t.chan c).q ++ [⟨d.edge.tick, Tladon.hitWord c d⟩] } ∧
      (∀ d, d ≠ c → u.chan d = t.chan d) ∧ OnlyTlRegs [TR.CH_STATUS_PILEUP_SEEN c] t u := by
  intro t hdone hdue hstate htot hrole hroom
  exact .of_exec rfl rfl rfl (Tladon.hitComplete_queues hdone hdue hstate htot hrole hroom)

/-- A completed word below MIN_TOT is counted short. -/
theorem hitWordComplete_short (p c : Nat) (d : DoneHit) (r : List DoneHit) (s : State) :
    let t := s.tladon p
    (t.chan c).done = d :: r → d.t1 + 24 ≤ s.now → t.state = 3 → d.tot < t.get (TR.CH_CFG_MIN_TOT c) * 64 →
    TlRuns (.hitWordComplete p c) p s fun u =>
      u.chan c = { t.chan c with done := r } ∧
      u.get (TR.CH_CNT_SHORT c) = min (t.get (TR.CH_CNT_SHORT c) + 1) ((TR.CH_CNT_SHORT c).size - 1) ∧
      (∀ d, d ≠ c → u.chan d = t.chan d) ∧ OnlyTlRegs [TR.CH_CNT_SHORT c] t u := by
  intro t hdone hdue hstate htot
  exact .of_exec rfl rfl (Tladon.hitComplete_short hdone hdue hstate htot)
    ⟨(Tladon.chan_add ..).trans (Tladon.chan_modChan_self ..), Tladon.get_add_self ..,
      ((OnlyChan.refl ..).modChan _).add 1 (by simp)⟩

/-! ### The re-arm and the clamp -/

/-- The re-arm time has passed. -/
theorem channelRearm_rearms (p c : Nat) (s : State) :
    let t := s.tladon p
    (t.chan c).rearm ≤ s.now →
    TlRuns (.channelRearm p c) p s fun u =>
      u.chan c = { t.chan c with rearm := 0 } ∧ (∀ d, d ≠ c → u.chan d = t.chan d) := by
  intro t hre
  exact .of_exec rfl rfl (if_pos hre) ⟨Tladon.chan_modChan_self .., ((OnlyChan.refl c [] t).modChan _).1⟩

/-- The clamp engages, marks the pending edge and is counted. -/
theorem clampEngage_engages (p c : Nat) (s : State) :
    let t := s.tladon p
    (t.chan c).clampOn = false →
    TlRuns (.clampEngage p c) p s fun u =>
      (u.chan c).clampOn = true ∧ (u.chan c).edge = (t.chan c).edge.map (fun e => { e with clamp := true }) ∧
      u.get (TR.CH_STATUS_CLAMP c) = 1 ∧
      u.get (TR.CH_CNT_CLAMP_EVENTS c) = min (t.get (TR.CH_CNT_CLAMP_EVENTS c) + 1) ((TR.CH_CNT_CLAMP_EVENTS c).size - 1) ∧
      (∀ d, d ≠ c → u.chan d = t.chan d) ∧ OnlyTlRegs [TR.CH_STATUS_CLAMP c, TR.CH_CNT_CLAMP_EVENTS c] t u := by
  intro t hoff
  have hchan := Tladon.clampEngage_chan hoff
  rw [Tladon.clampEngage_off hoff] at hchan
  refine .of_exec rfl rfl (Tladon.clampEngage_off hoff)
    ⟨congrArg Chan.clampOn hchan, congrArg Chan.edge hchan, ?_, ?_, ?_⟩
  · rw [Tladon.get_add_other (Tladon.clamp_key_ne c), Tladon.get_set_self]
    rfl
  · rw [Tladon.get_add_self, Tladon.get_set_other (Tladon.clamp_key_ne c).symm]
    rfl
  · exact (((OnlyChan.refl ..).modChan _).set 1 (by simp)).add 1 (by simp)

/-- The clamp releases. -/
theorem clampRelease_releases (p c : Nat) (s : State) :
    let t := s.tladon p
    (t.chan c).clampOn = true →
    TlRuns (.clampRelease p c) p s fun u =>
      u.chan c = { t.chan c with clampOn := false, clampRel := some s.now } ∧
      (∀ d, d ≠ c → u.chan d = t.chan d) ∧ OnlyTlRegs [] t u := by
  intro t hon
  exact .of_exec rfl rfl (Tladon.clampRelease_on hon) ⟨Tladon.chan_modChan_self .., (OnlyChan.refl ..).modChan _⟩

/-! ### Configuration -/

/-- A write to CH_CFG stores its fields; a channel turned on settles, one turned off drops its edge. -/
theorem chCfgWrite_configures (p c v : Nat) (s : State) :
    let t := s.tladon p
    ¬(t.get (TR.CH_CFG_MODE c) = 2 ∧ t.inUnit c) →
    TlRuns (.chCfgWrite p c v) p s fun u =>
      u.get (TR.CH_CFG_PRIM_EN c) = bits 24 24 v ∧ u.get (TR.CH_CFG_MIN_TOT c) = bits 23 20 v ∧
      u.get (TR.CH_CFG_PILEUP_WIN c) = bits 15 8 v ∧ u.get (TR.CH_CFG_RANGE c) = bits 4 3 v ∧
      u.get (TR.CH_CFG_POL c) = bits 2 2 v ∧ u.get (TR.CH_CFG_MODE c) = bits 1 0 v ∧
      (t.off c = true → bits 1 0 v = 1 → s.now + 25601 ≤ (u.chan c).modeEnd) ∧
      (bits 1 0 v = 0 → (u.chan c).edge = none ∧ (u.chan c).high = none) ∧
      (∀ d, d ≠ c → u.chan d = t.chan d) ∧
      OnlyTlRegs [TR.CH_CFG_PRIM_EN c, TR.CH_CFG_MIN_TOT c, TR.CH_CFG_PILEUP_WIN c, TR.CH_CFG_RANGE c,
        TR.CH_CFG_POL c, TR.CH_CFG_MODE c] t u := by
  intro t hunit
  have hread {f : Fld} (hf : (f, bits f.hi f.lo v) ∈ Tladon.chCfgFields c v) :
      (t.chCfg s.now c v).get f = bits f.hi f.lo v := Tladon.chCfg_get hunit hf
  refine .of_exec rfl rfl rfl ⟨hread ?_, hread ?_, hread ?_, hread ?_, hread ?_, hread ?_,
    Tladon.chCfg_on_settles hunit, Tladon.chCfg_off_drops hunit, Tladon.chCfg_onlyChan hunit⟩
  all_goals simp [Tladon.chCfgFields, TR.CH_CFG_PRIM_EN, TR.CH_CFG_MIN_TOT, TR.CH_CFG_PILEUP_WIN, TR.CH_CFG_RANGE,
    TR.CH_CFG_POL, TR.CH_CFG_MODE]

/-- A write to CH_THR stores its fields; another threshold makes the channel settle. -/
theorem chThrWrite_configures (p c v : Nat) (s : State) :
    let t := s.tladon p
    TlRuns (.chThrWrite p c v) p s fun u =>
      u.get (TR.CH_THR_THR c) = bits 9 0 v ∧ u.get (TR.CH_THR_TRIM c) = bits 21 16 v ∧
      (t.get (TR.CH_THR_THR c) ≠ bits 9 0 v → s.now + 257 ≤ (u.chan c).cntEnd) ∧
      (∀ d, d ≠ c → u.chan d = t.chan d) ∧ OnlyTlRegs [TR.CH_THR_THR c, TR.CH_THR_TRIM c] t u := by
  intro t
  have hread {f : Fld} (hf : (f, bits f.hi f.lo v) ∈ Tladon.chThrFields c v) :
      (t.chThr s.now c v).get f = bits f.hi f.lo v :=
    (congrArg (RegFile.get f) (t.chThr_regs s.now c v)).trans (t.get_sets_bits (Tladon.chThrFields_keys c v) hf)
  exact .of_exec rfl rfl rfl ⟨hread (by simp [Tladon.chThrFields, TR.CH_THR_THR]),
    hread (by simp [Tladon.chThrFields, TR.CH_THR_TRIM]), Tladon.chThr_settles, Tladon.chThr_onlyChan ..⟩

/-- Settles O2, clause by clause. -/
theorem channelEdges : Obligations.ChannelEdges :=
  ⟨discriminatorLeadingEdge_stamped, discriminatorLeadingEdge_lost, discriminatorTrailingEdge_completes,
    totSaturation_completes, hitWordComplete_queued, hitWordComplete_short, channelRearm_rearms, clampEngage_engages,
    clampRelease_releases, chCfgWrite_configures, chThrWrite_configures⟩

end Sys2Proof.Machine
end

section
/-! SUPPORT. The survey unit (spec/05): when it is ready, and what its commands, the edges of the surveyed input, the
end of a gate and its result do (O4, O59). -/

namespace Sys2Proof.Machine

open Sys2Proof

/-- A truth value fits a field of one bit. -/
theorem b2n_mod_size {f : Fld} (hf : f.size = 2) (b : Bool) : b2n b % f.size = b2n b := by
  rw [hf]
  cases b <;> rfl

namespace Tladon

/-- A flag that does not show is a field that is zero. -/
theorem on_eq_false {f : Fld} {t : Tladon} : t.on f = false ↔ t.get f = 0 := by
  rw [on_eq, bne_eq_false_iff_eq]

/-- A flag that shows is a field that is not zero. -/
theorem on_eq_true {f : Fld} {t : Tladon} : t.on f = true ↔ t.get f ≠ 0 := by
  rw [on_eq, bne_iff_ne]

/-- A stored truth value reads back from a field of one bit. -/
theorem get_set_flag {f : Fld} (hf : f.size = 2) (b : Bool) (t : Tladon) : (t.set f (b2n b)).get f = b2n b :=
  (get_set_self ..).trans (b2n_mod_size hf b)

/-- A truth value stored among fields that stand apart reads back from a field of one bit. -/
theorem get_sets_flag {l : List (Fld × Nat)} (hl : (l.map fun x => x.1.key).Nodup) {f : Fld} (hf : f.size = 2) {b : Bool}
    (h : (f, b2n b) ∈ l) (t : Tladon) : (t.sets l).get f = b2n b :=
  (RegFile.get_sets_of_mem hl h t.regs).trans (b2n_mod_size hf b)

/-! ### START and ARM (R147, R149, R151, R153, R158) -/

/-- The survey unit is ready in CONFIGURED and ACQUIRING, with a source, no configuration error and no open gate. -/
theorem surveyReady_iff {t : Tladon} : t.surveyReady = true ↔
    (t.state = 2 ∨ t.state = 3) ∧ t.get TR.SURVEY_CFG_SRC ≠ 3 ∧ t.get TR.SURVEY_STATUS_CFG_ERR = 0 ∧ t.gate = none := by
  simp only [surveyReady, on_eq, Bool.and_eq_true, Bool.or_eq_true, beq_iff_eq, bne_iff_ne, Bool.not_eq_true',
    bne_eq_false_iff_eq, Option.isNone_iff_eq_none, and_assoc]

/-- Outside CONFIGURED and ACQUIRING the survey unit is not ready. -/
theorem surveyReady_other_state {t : Tladon} (h2 : t.state ≠ 2) (h3 : t.state ≠ 3) : ¬t.surveyReady = true :=
  fun h => (surveyReady_iff.1 h).1.elim h2 h3

/-- A gate opened `d` ticks on starts at the tick count then. -/
theorem openGate_gate (now d : Nat) (t : Tladon) : (t.openGate (now + d) now).gate =
    some ⟨now + d, (t.count now + d) % 2 ^ 42, t.gateLen, t.gateNs, 0, 0, [], none, false, false, false⟩ := by
  rw [openGate, Nat.add_sub_cancel_left]
  rfl

/-- An open gate shows BUSY. -/
@[simp] theorem openGate_busy (at' now : Nat) (t : Tladon) : (t.openGate at' now).get TR.SURVEY_STATUS_BUSY = 1 :=
  get_set_self ..

/-- The opening of a gate changes no register but BUSY. -/
theorem openGate_onlyTlRegs (at' now : Nat) (t : Tladon) :
    OnlyTlRegs [TR.SURVEY_STATUS_BUSY] t (t.openGate at' now) :=
  .set _ (.of_regs (.refl _ t) rfl) List.mem_cons_self

/-- ARM with a start tick ahead waits for it. -/
theorem surveyArm_ahead {now : Nat} {t : Tladon} (h : t.surveyReady = true)
    (hd : 0 < dist t.startTick (t.count now)) : t.surveyArm now = { t with arm := some t.startTick } := by
  rw [surveyArm, if_pos h, if_pos hd]

/-- ARM with a start tick that has passed opens the gate at the next tick, late. -/
theorem surveyArm_late {now : Nat} {t : Tladon} (h : t.surveyReady = true)
    (hd : dist t.startTick (t.count now) ≤ 0) :
    t.surveyArm now = (t.openGate (now + 1) now).set TR.SURVEY_STATUS_LATE 1 := by
  rw [surveyArm, if_pos h, if_neg (Int.not_lt.2 hd)]

/-- The armed tick opens the gate. -/
theorem surveyGateOpen_due {now a : Nat} {t : Tladon} (harm : t.arm = some a) (hnow : t.count now = a)
    (hgate : t.gate = none) : t.surveyGateOpen now = t.openGate now now := by
  simp only [surveyGateOpen, harm, hnow, hgate, Option.isNone_none, and_self, if_true]

/-! ### Abort and configuration (R153, R158, R175) -/

/-- What the abort of a gate stores. -/
def abortFields (cause : Nat) (t : Tladon) : List (Fld × Nat) :=
  [(TR.SURVEY_STATUS_ABORT, cause), (TR.SURVEY_STATUS_VALID, 0), (TR.SURVEY_STATUS_BUSY, b2n (!t.computing.isEmpty))]

/-- The fields of an abort stand apart. -/
theorem abortFields_keys (cause : Nat) (t : Tladon) : ((abortFields cause t).map fun x => x.1.key).Nodup := by
  simp [abortFields, Fld.key, TR.SURVEY_STATUS_ABORT, TR.SURVEY_STATUS_VALID, TR.SURVEY_STATUS_BUSY]

/-- An open gate is aborted with its cause. -/
theorem abortGate_open {g : Gate} {t : Tladon} (h : t.gate = some g) (cause : Nat) :
    t.abortGate cause = { t with gate := none }.sets (abortFields cause t) := by
  rw [abortGate, h]
  rfl

/-- SURVEY_GATE holds the gate length alone. -/
theorem regAt_surveyGate : regAt TR.rows TR.SURVEY_GATE = some [TR.SURVEY_GATE_GATE] := by decide

/-- While no gate is open a write to SURVEY_GATE stores the length and shows whether the gate is too short. -/
theorem surveyCfgWrite_gate {v : Nat} {t : Tladon} (h : t.gate = none) :
    t.surveyCfgWrite TR.SURVEY_GATE v =
      let w := t.set TR.SURVEY_GATE_GATE (bits 23 0 v)
      w.set TR.SURVEY_STATUS_CFG_ERR (b2n (decide (w.gateLen < 16 * w.gateNs))) := by
  have hopen : ¬t.gate.isSome = true := by simp [h]
  rw [surveyCfgWrite, if_neg hopen, regAt_surveyGate]
  rfl

/-- CFG_ERR has no part in the length of a gate. -/
theorem gateLen_set_cfgErr (v : Nat) (t : Tladon) : (t.set TR.SURVEY_STATUS_CFG_ERR v).gateLen = t.gateLen := by
  rw [gateLen, get_set_other (by decide), gateLen]

/-- CFG_ERR has no part in the number of sampling instants. -/
theorem gateNs_set_cfgErr (v : Nat) (t : Tladon) : (t.set TR.SURVEY_STATUS_CFG_ERR v).gateNs = t.gateNs := by
  rw [gateNs, get_set_other (by decide), gateNs]

/-! ### Edges, the end of a gate and its result (R152, R154–R157) -/

/-- A gate at its end waits for its result, and without CONT none follows it. -/
theorem surveyGateEnd_last {now : Nat} {g : Gate} {t : Tladon} (hgate : t.gate = some g) (hend : g.t0 + g.len ≤ now)
    (hcont : t.get TR.SURVEY_CTRL_CONT = 0) :
    t.surveyGateEnd now = { t with gate := none, computing := t.computing ++ [g] } := by
  have hoff : t.regs.on TR.SURVEY_CTRL_CONT = false := on_eq_false.2 hcont
  simp only [surveyGateEnd, hgate, if_pos hend, on, hoff, Bool.false_eq_true, if_false]

/-- A gate at its end waits for its result, and with CONT the next opens there. -/
theorem surveyGateEnd_cont {now : Nat} {g : Gate} {t : Tladon} (hgate : t.gate = some g) (hend : g.t0 + g.len ≤ now)
    (hcont : t.get TR.SURVEY_CTRL_CONT ≠ 0) :
    t.surveyGateEnd now =
      { t with gate := none, computing := t.computing ++ [g] }.openGate (g.t0 + g.len) (g.t0 + g.len) := by
  have hon : t.regs.on TR.SURVEY_CTRL_CONT = true := on_eq_true.2 hcont
  simp only [surveyGateEnd, hgate, if_pos hend, on, hon, if_true]

/-- An edge within the gate counts one cycle, and is stamped or not. -/
theorem surveyEdge_within {now : Nat} {g : Gate} {t : Tladon} (hgate : t.gate = some g) (hfrom : g.t0 ≤ now)
    (hto : now < g.t0 + g.len) (fine : Nat) :
    ∃ h : Gate, t.surveyEdge now fine = { t with gate := some h } ∧ h.cycles = g.cycles + 1 ∧ h.last = some now ∧
      h.t0 = g.t0 ∧ h.len = g.len ∧
      (h.edges = g.edges ∨ h.edges = (g.cycles + 1, (((now - g.t0) * 256 + fine : Nat) : Int)) :: g.edges) := by
  simp only [surveyEdge, hgate, if_pos (And.intro hfrom hto)]
  refine ⟨_, rfl, rfl, rfl, rfl, rfl, ?_⟩
  dsimp only
  split
  · exact .inr rfl
  · exact .inl rfl

/-- What a published result stores beside SEQ. -/
def resultFields (g : Gate) (ratio : Nat) (ok busy : Bool) : List (Fld × Nat) :=
  [(TR.SURVEY_STATUS_VALID, b2n (ok && !g.tooMany)), (TR.SURVEY_STATUS_NO_SIGNAL, b2n !ok),
    (TR.SURVEY_STATUS_OVERRATE, b2n g.tooMany), (TR.SURVEY_STATUS_CLKSW, b2n g.clksw),
    (TR.SURVEY_STATUS_HOLDOVER, b2n g.holdover), (TR.SURVEY_RATIO_LO_RATIO, ratio), (TR.SURVEY_STATUS_BUSY, b2n busy)]

/-- The fields of a result stand apart. -/
theorem resultFields_keys (g : Gate) (ratio : Nat) (ok busy : Bool) :
    ((resultFields g ratio ok busy).map fun x => x.1.key).Nodup := by
  simp [resultFields, Fld.key, TR.SURVEY_STATUS, TR.SURVEY_STATUS_VALID, TR.SURVEY_STATUS_NO_SIGNAL,
    TR.SURVEY_STATUS_OVERRATE, TR.SURVEY_STATUS_CLKSW, TR.SURVEY_STATUS_HOLDOVER, TR.SURVEY_RATIO_LO,
    TR.SURVEY_RATIO_LO_RATIO, TR.SURVEY_STATUS_BUSY]

/-- SEQ is no field of a result's other stores. -/
theorem seq_apart_resultFields {g : Gate} {ratio : Nat} {ok busy : Bool} :
    ∀ x ∈ resultFields g ratio ok busy, TR.SURVEY_STATUS_SEQ.key ≠ x.1.key := by
  simp [resultFields, Fld.key, TR.SURVEY_STATUS, TR.SURVEY_STATUS_SEQ, TR.SURVEY_STATUS_VALID,
    TR.SURVEY_STATUS_NO_SIGNAL, TR.SURVEY_STATUS_OVERRATE, TR.SURVEY_STATUS_CLKSW, TR.SURVEY_STATUS_HOLDOVER,
    TR.SURVEY_RATIO_LO, TR.SURVEY_RATIO_LO_RATIO, TR.SURVEY_STATUS_BUSY]

/-- The oldest ended gate publishes the regression of its edges and its flags. -/
theorem surveyResult_oldest {g : Gate} {rest : List Gate} {ratio resid : Nat} {ok : Bool} {t : Tladon}
    (hcomp : t.computing = g :: rest) (hreg : regress g.edges.reverse = (ratio, resid, ok)) :
    ∃ r : SurveyRes, t.surveyResult = ({ t with computing := rest, res := r }.addMod TR.SURVEY_STATUS_SEQ 1).sets
        (resultFields g ratio ok (t.gate.isSome || !rest.isEmpty)) ∧
      r.ratio = ratio ∧ r.resid = resid ∧ r.edges = g.edges.length := by
  simp only [surveyResult, hcomp, hreg]
  exact ⟨_, rfl, rfl, rfl, List.length_reverse⟩

end Tladon

end Sys2Proof.Machine
end

section
/-! PROOF. START and ARM outside and inside CONFIGURED and ACQUIRING (O59). -/

namespace Sys2Proof.Machine

open Sys2Proof

/-- Settles O59, by what makes the survey unit ready. -/
theorem surveyObeysInTwoStates : Obligations.SurveyObeysInTwoStates := by
  refine ⟨fun p s h2 h3 => ?_, fun p s hstate hsrc herr hgate => ?_⟩
  · have hnot := Tladon.surveyReady_other_state h2 h3
    exact ⟨.of_exec rfl rfl (if_neg hnot) rfl, .of_exec rfl rfl (if_neg hnot) rfl⟩
  · have hready : (s.tladon p).surveyReady = true := Tladon.surveyReady_iff.2 ⟨hstate, hsrc, herr, hgate⟩
    exact ⟨.of_exec rfl rfl (if_pos hready) ⟨rfl, Tladon.openGate_busy ..⟩,
      fun hahead => .of_exec rfl rfl (Tladon.surveyArm_ahead hready hahead) rfl⟩

end Sys2Proof.Machine
end

section
/-! PROOF. The survey measurement (O4): one theorem for each clause. -/

namespace Sys2Proof.Machine

open Sys2Proof

/-! ### START, ARM and the armed tick -/

/-- START opens the gate at the next tick. -/
theorem surveyStart_opens (p : Nat) (s : State) :
    let t := s.tladon p
    t.surveyReady = true →
    TlRuns (.surveyStart p) p s fun u =>
      u.gate = some ⟨s.now + 1, (t.count s.now + 1) % 2 ^ 42, t.gateLen, t.gateNs, 0, 0, [], none, false, false, false⟩ ∧
      u.arm = none ∧ u.get TR.SURVEY_STATUS_BUSY = 1 ∧ OnlyTlRegs [TR.SURVEY_STATUS_BUSY] t u := by
  intro t hready
  exact .of_exec rfl rfl (if_pos hready)
    ⟨Tladon.openGate_gate .., rfl, Tladon.openGate_busy .., t.openGate_onlyTlRegs _ _⟩

/-- ARM waits for a start tick ahead. -/
theorem surveyArm_waits (p : Nat) (s : State) :
    let t := s.tladon p
    t.surveyReady = true → 0 < Tladon.dist t.startTick (t.count s.now) →
    TlRuns (.surveyArm p) p s fun u => u.arm = some t.startTick ∧ u.gate = none ∧ OnlyTlRegs [] t u := by
  intro t hready hahead
  obtain ⟨-, -, -, hgate⟩ := Tladon.surveyReady_iff.1 hready
  exact .of_exec rfl rfl (Tladon.surveyArm_ahead hready hahead) ⟨rfl, hgate, .of_regs (.refl _ t) rfl⟩

/-- ARM opens a late gate for a start tick that has passed. -/
theorem surveyArm_opens_late (p : Nat) (s : State) :
    let t := s.tladon p
    t.surveyReady = true → Tladon.dist t.startTick (t.count s.now) ≤ 0 →
    TlRuns (.surveyArm p) p s fun u =>
      (∃ g, u.gate = some g ∧ g.t0 = s.now + 1) ∧ u.get TR.SURVEY_STATUS_LATE = 1 ∧
      OnlyTlRegs [TR.SURVEY_STATUS_BUSY, TR.SURVEY_STATUS_LATE] t u := by
  intro t hready hpast
  have hopen : OnlyTlRegs [TR.SURVEY_STATUS_BUSY, TR.SURVEY_STATUS_LATE] t (t.openGate (s.now + 1) s.now) :=
    (t.openGate_onlyTlRegs _ _).mono (by simp)
  exact .of_exec rfl rfl (Tladon.surveyArm_late hready hpast)
    ⟨⟨_, Tladon.openGate_gate .., rfl⟩, Tladon.get_set_self .., hopen.set 1 (by simp)⟩

/-- The armed tick opens the gate. -/
theorem surveyGateOpen_opens (p a : Nat) (s : State) :
    let t := s.tladon p
    t.arm = some a → t.count s.now = a → t.gate = none →
    TlRuns (.surveyGateOpen p) p s fun u =>
      u.gate = some ⟨s.now, a % 2 ^ 42, t.gateLen, t.gateNs, 0, 0, [], none, false, false, false⟩ ∧
      u.arm = none ∧ u.get TR.SURVEY_STATUS_BUSY = 1 ∧ OnlyTlRegs [TR.SURVEY_STATUS_BUSY] t u := by
  intro t harm hnow hgate
  subst hnow
  exact .of_exec rfl rfl (Tladon.surveyGateOpen_due harm rfl hgate)
    ⟨Tladon.openGate_gate s.now 0 t, rfl, Tladon.openGate_busy .., t.openGate_onlyTlRegs _ _⟩

/-! ### Abort and configuration -/

/-- ABORT closes the open gate with cause 3. -/
theorem surveyAbort_closes (p : Nat) (g : Gate) (s : State) :
    let t := s.tladon p
    t.gate = some g →
    TlRuns (.surveyAbort p) p s fun u =>
      u.gate = none ∧ u.get TR.SURVEY_STATUS_ABORT = 3 ∧ u.get TR.SURVEY_STATUS_VALID = 0 ∧
      u.get TR.SURVEY_STATUS_BUSY = b2n (!t.computing.isEmpty) ∧
      OnlyTlRegs [TR.SURVEY_STATUS_ABORT, TR.SURVEY_STATUS_VALID, TR.SURVEY_STATUS_BUSY] t u := by
  intro t hgate
  have hkeys := Tladon.abortFields_keys 3 t
  exact .of_exec rfl rfl (Tladon.abortGate_open hgate 3)
    ⟨rfl, RegFile.get_sets_of_mem hkeys (v := 3) (by simp [Tladon.abortFields]) _,
      RegFile.get_sets_of_mem hkeys (v := 0) (by simp [Tladon.abortFields]) _,
      Tladon.get_sets_flag hkeys rfl (by simp [Tladon.abortFields]) _,
      .sets _ (.of_regs (.refl _ t) rfl) (by simp [Tladon.abortFields])⟩

/-- A write to SURVEY_GATE takes the length and shows whether the gate is too short. -/
theorem surveyCfgWrite_configures (p v : Nat) (s : State) :
    let t := s.tladon p
    t.gate = none →
    TlRuns (.surveyCfgWrite p TR.SURVEY_GATE v) p s fun u =>
      u.get TR.SURVEY_GATE_GATE = bits 23 0 v ∧ u.get TR.SURVEY_STATUS_CFG_ERR = b2n (u.gateLen < 16 * u.gateNs) ∧
      OnlyTlRegs [TR.SURVEY_GATE_GATE, TR.SURVEY_STATUS_CFG_ERR] t u := by
  intro t hgate
  refine .of_exec rfl rfl (Tladon.surveyCfgWrite_gate hgate) ⟨?_, ?_, ?_⟩
  · rw [Tladon.get_set_other (by decide), Tladon.get_set_self]
    exact RegFile.bits_mod_size TR.SURVEY_GATE_GATE v
  · rw [Tladon.gateLen_set_cfgErr, Tladon.gateNs_set_cfgErr]
    exact Tladon.get_set_flag rfl ..
  · exact ((OnlyTlRegs.refl _ t).set _ (by simp)).set _ (by simp)

/-! ### The end of a gate, its result and its edges -/

/-- A gate at its end is put up for its result; CONT opens the next one there. -/
theorem surveyGateEnd_ends (p : Nat) (g : Gate) (s : State) :
    let t := s.tladon p
    t.gate = some g → g.t0 + g.len ≤ s.now →
    TlRuns (.surveyGateEnd p) p s fun u =>
      u.computing = t.computing ++ [g] ∧
      (t.get TR.SURVEY_CTRL_CONT = 0 → u.gate = none ∧ OnlyTlRegs [] t u) ∧
      (t.get TR.SURVEY_CTRL_CONT ≠ 0 → (∃ h, u.gate = some h ∧ h.t0 = g.t0 + g.len ∧ h.cycles = 0) ∧
        OnlyTlRegs [TR.SURVEY_STATUS_BUSY] t u) := by
  intro t hgate hend
  by_cases hcont : t.get TR.SURVEY_CTRL_CONT = 0
  · exact .of_exec rfl rfl (Tladon.surveyGateEnd_last hgate hend hcont)
      ⟨rfl, fun _ => ⟨rfl, .of_regs (.refl _ t) rfl⟩, fun h => absurd hcont h⟩
  · exact .of_exec rfl rfl (Tladon.surveyGateEnd_cont hgate hend hcont)
      ⟨rfl, fun h => absurd h hcont, fun _ => ⟨⟨_, Tladon.openGate_gate _ 0 _, rfl, rfl⟩,
        Tladon.openGate_onlyTlRegs _ _ { t with gate := none, computing := t.computing ++ [g] }⟩⟩

/-- The result of the oldest gate is the regression of its edges and its flags. -/
theorem surveyResult_publishes (p : Nat) (g : Gate) (rest : List Gate) (ratio resid : Nat) (ok : Bool) (s : State) :
    let t := s.tladon p
    t.computing = g :: rest → Tladon.regress g.edges.reverse = (ratio, resid, ok) →
    TlRuns (.surveyResult p) p s fun u =>
      u.computing = rest ∧ u.res.ratio = ratio ∧ u.res.resid = resid ∧ u.res.edges = g.edges.length ∧
      u.get TR.SURVEY_STATUS_VALID = b2n (ok && !g.tooMany) ∧ u.get TR.SURVEY_STATUS_NO_SIGNAL = b2n (!ok) ∧
      u.get TR.SURVEY_STATUS_OVERRATE = b2n g.tooMany ∧
      u.get TR.SURVEY_STATUS_SEQ = (t.get TR.SURVEY_STATUS_SEQ + 1) % TR.SURVEY_STATUS_SEQ.size ∧
      OnlyTlRegs [TR.SURVEY_STATUS_SEQ, TR.SURVEY_STATUS_VALID, TR.SURVEY_STATUS_NO_SIGNAL,
        TR.SURVEY_STATUS_OVERRATE, TR.SURVEY_STATUS_CLKSW, TR.SURVEY_STATUS_HOLDOVER,
        TR.SURVEY_RATIO_LO_RATIO, TR.SURVEY_STATUS_BUSY] t u := by
  intro t hcomp hreg
  obtain ⟨r, hu, hratio, hresid, hedges⟩ := Tladon.surveyResult_oldest hcomp hreg
  have hkeys := Tladon.resultFields_keys g ratio ok (t.gate.isSome || !rest.isEmpty)
  refine .of_exec rfl rfl hu ⟨rfl, hratio, hresid, hedges, Tladon.get_sets_flag hkeys rfl ?_ _,
    Tladon.get_sets_flag hkeys rfl ?_ _, Tladon.get_sets_flag hkeys rfl ?_ _, ?_, ?_⟩
  · simp [Tladon.resultFields]
  · simp [Tladon.resultFields]
  · simp [Tladon.resultFields]
  · rw [Tladon.get_sets_other _ Tladon.seq_apart_resultFields, Tladon.get_addMod_self]
    rfl
  · refine ((OnlyTlRegs.of_regs (.refl _ t) ?_).addMod 1 List.mem_cons_self).sets _ (by simp [Tladon.resultFields])
    rfl

/-- An edge of the selected input within the gate counts one cycle. -/
theorem surveyInEdge_counts (p : Nat) (g : Gate) (raw : Nat) (s : State) :
    let t := s.tladon p
    t.gate = some g → t.get TR.SURVEY_CFG_SRC ≤ 1 → g.t0 ≤ s.now → s.now < g.t0 + g.len →
    TlRuns (.surveyInEdge p raw) p s fun u =>
      (∃ h, u.gate = some h ∧ h.cycles = g.cycles + 1 ∧ h.last = some s.now ∧ h.t0 = g.t0 ∧ h.len = g.len ∧
        (h.edges = g.edges ∨
          h.edges = (g.cycles + 1, (((s.now - g.t0) * 256 + t.fineNow 1024 raw : Nat) : Int)) :: g.edges)) ∧
      OnlyTlRegs [] t u := by
  intro t hgate hsrc hfrom hto
  obtain ⟨h, hu, hcounts⟩ := Tladon.surveyEdge_within hgate hfrom hto (t.fineNow 1024 raw)
  exact .of_exec rfl rfl ((if_pos hsrc).trans hu) ⟨⟨h, rfl, hcounts⟩, .of_regs (.refl _ t) rfl⟩

/-- Settles O4, clause by clause. -/
theorem surveyCommands : Obligations.SurveyCommands :=
  ⟨surveyStart_opens, surveyArm_waits, surveyArm_opens_late, surveyGateOpen_opens, surveyAbort_closes,
    surveyCfgWrite_configures, surveyGateEnd_ends, surveyResult_publishes, surveyInEdge_counts⟩

end Sys2Proof.Machine
end

section
/-! SUPPORT. Code-density calibration (spec/05): what a dither conversion, the swap, the retirement, the time limit and
a write to CAL_CTRL do (O5). -/

namespace Sys2Proof.Machine

open Sys2Proof

namespace Tladon

/-! ### Dither conversions (R162, R164, R165) -/

/-- The histogram of an interpolator with one more sample of a raw code. -/
def countedHist (i raw : Nat) (t : Tladon) : SMap Nat := SMap.modify 0 raw (· + 1) (SMap.getD [] i t.cal.hist)

section conversion

variable {i raw : Nat} {t : Tladon} (hruns : t.calRuns = true) (hpart : t.participates i = true)
  (hopen : SMap.find i t.cal.shadow = none) (hraw : raw < 384)

include hruns hpart hopen hraw

/-- A conversion for a table still to be completed counts in its histogram; a full histogram is rejected or gives its
table. -/
theorem dither_open : t.dither i raw =
    let h := t.countedHist i raw
    if (h.map (·.2)).sum < t.calH then { t with cal := { t.cal with hist := SMap.insert i h t.cal.hist } }
    else if rejectHist h t.calH then
      ({ t with cal := { t.cal with hist := SMap.erase i t.cal.hist } }.add TR.CAL_CNT_REJECTS 1).set
        TR.CAL_STATUS_REJECT 1
    else
      let u : Tladon := { t with cal := { t.cal with
        hist := SMap.insert i h t.cal.hist
        shadow := SMap.insert i (buildTable h t.calH) t.cal.shadow } }
      u.set TR.CAL_STATUS_READY (b2n u.shadowsDone) := by
  have hall : (t.calRuns && t.participates i && (SMap.find i t.cal.shadow).isNone && decide (raw < 384)) = true := by
    simp [hruns, hpart, hopen, hraw]
  rw [dither, if_pos hall]
  rfl

/-- A histogram that is not full keeps the sample. -/
theorem dither_counts (hsum : ((t.countedHist i raw).map (·.2)).sum < t.calH) : t.dither i raw =
    { t with cal := { t.cal with hist := SMap.insert i (t.countedHist i raw) t.cal.hist } } :=
  (dither_open hruns hpart hopen hraw).trans (if_pos hsum)

/-- A full histogram that R165 rejects is dropped, flagged and counted. -/
theorem dither_rejects (hsum : t.calH ≤ ((t.countedHist i raw).map (·.2)).sum)
    (hrej : rejectHist (t.countedHist i raw) t.calH = true) : t.dither i raw =
    ({ t with cal := { t.cal with hist := SMap.erase i t.cal.hist } }.add TR.CAL_CNT_REJECTS 1).set
      TR.CAL_STATUS_REJECT 1 :=
  (dither_open hruns hpart hopen hraw).trans ((if_neg (Nat.not_lt.2 hsum)).trans (if_pos hrej))

/-- A full histogram that passes gives the bin table of R164. -/
theorem dither_builds (hsum : t.calH ≤ ((t.countedHist i raw).map (·.2)).sum)
    (hrej : rejectHist (t.countedHist i raw) t.calH = false) : t.dither i raw =
    let u : Tladon := { t with cal := { t.cal with
      hist := SMap.insert i (t.countedHist i raw) t.cal.hist
      shadow := SMap.insert i (buildTable (t.countedHist i raw) t.calH) t.cal.shadow } }
    u.set TR.CAL_STATUS_READY (b2n u.shadowsDone) :=
  (dither_open hruns hpart hopen hraw).trans
    ((if_neg (Nat.not_lt.2 hsum)).trans (if_neg (Bool.not_eq_true _ ▸ hrej)))

end conversion

/-- READY has no part in which interpolators take part: CH_CFG alone says which channels are OFF. -/
theorem participates_set_ready (v i : Nat) (t : Tladon) :
    (t.set TR.CAL_STATUS_READY v).participates i = t.participates i := by
  have hkey : (TR.CH_CFG_MODE (i / 2)).key ≠ TR.CAL_STATUS_READY.key :=
    (Fld.key_ne_of_addr_lt (Nat.lt_add_right _ (by decide)) (by decide)).symm
  rw [participates, off_eq (get_set_other hkey v t), participates, off]

/-- READY has no part in the completed tables. -/
theorem shadowsDone_set_ready (v : Nat) (t : Tladon) :
    (t.set TR.CAL_STATUS_READY v).shadowsDone = t.shadowsDone := by
  simp only [shadowsDone, participates_set_ready, set_fields]

/-! ### The swap, the retirement and the time limit (R166–R169) -/

/-- The swap at a frame boundary: the shadow tables become active, the former ones are kept 1,040 ticks. -/
theorem calSwap_due {now : Nat} {t : Tladon} (hruns : t.calRuns = true) (hdone : t.shadowsDone = true)
    (hfreeze : t.get TR.CAL_CTRL_FREEZE = 0) (hframe : t.count now % 65536 = 0) :
    t.calSwap now = (({ t with cal := { t.cal with
      shadow := []
      retired := t.cal.active
      active := t.cal.shadow.foldl (fun m (x : Nat × List Nat) => SMap.insert x.1 x.2 m) t.cal.active
      activeHist := t.cal.hist.foldl (fun m (x : Nat × SMap Nat) => SMap.insert x.1 x.2 m) t.cal.activeHist
      retireAt := some (now + 1040) } }.addMod TR.CAL_STATUS_EPOCH 1).add TR.CAL_STATUS_SWAPS 1).set
        TR.CAL_STATUS_READY 0 := by
  have hall : (t.calRuns && t.shadowsDone && !t.on TR.CAL_CTRL_FREEZE && t.count now % 65536 == 0) = true := by
    simp [hruns, hdone, on_eq_false.2 hfreeze, hframe]
  rw [calSwap, if_pos hall]

/-- The retired tables are released at their tick. -/
theorem calRetire_due {now d : Nat} {t : Tladon} (hat : t.cal.retireAt = some d) (hdue : d ≤ now) :
    t.calRetire now = { t with cal := { t.cal with hist := [], retired := [], retireAt := none, started := d } } := by
  simp only [calRetire, hat, if_pos hdue]

/-- Past CAL_TMO every shadow histogram starts again. -/
theorem calTimeout_due {now : Nat} {t : Tladon} (hruns : t.calRuns = true)
    (hdue : t.cal.started + max 1 (t.get TR.CAL_CTRL_CAL_TMO) * 65536 ≤ now) :
    t.calTimeout now = { t with cal := { t.cal with hist := [], shadow := [], started := now } }.sets
      [(TR.CAL_STATUS_CAL_STALL, 1), (TR.CAL_STATUS_READY, 0)] := by
  rw [calTimeout, if_pos (by rw [hruns, decide_eq_true hdue]; rfl)]

/-! ### CAL_CTRL (R162, R168, R169) -/

/-- What a write to CAL_CTRL stores. -/
def calCtrlFields (v : Nat) : List (Fld × Nat) :=
  [(TR.CAL_CTRL_CAL_TMO, bits 23 16 v), (TR.CAL_CTRL_CD_LOG2, bits 12 8 v), (TR.CAL_CTRL_FREEZE, bits 1 1 v),
    (TR.CAL_CTRL_EN, bits 0 0 v)]

/-- The fields of CAL_CTRL stand apart. -/
theorem calCtrlFields_keys (v : Nat) : ((calCtrlFields v).map fun x => x.1.key).Nodup := by
  simp [calCtrlFields, Fld.key, TR.CAL_CTRL_CAL_TMO, TR.CAL_CTRL_CD_LOG2, TR.CAL_CTRL_FREEZE, TR.CAL_CTRL_EN]

/-- A write to CAL_CTRL stores its fields. -/
theorem calCtrlWrite_regs (now v : Nat) (t : Tladon) :
    (t.calCtrlWrite now v).regs = (t.sets (calCtrlFields v)).regs := by
  unfold calCtrlWrite
  extract_lets was u cal
  split <;> rfl

/-- The fields of CAL_CTRL read back. -/
theorem calCtrlWrite_get {v : Nat} {f : Fld} (hf : (f, bits f.hi f.lo v) ∈ calCtrlFields v) (now : Nat) (t : Tladon) :
    (t.calCtrlWrite now v).get f = bits f.hi f.lo v :=
  (congrArg (RegFile.get f) (t.calCtrlWrite_regs now v)).trans (t.get_sets_bits (calCtrlFields_keys v) hf)

/-- EN written from 0 to 1 starts the histograms. -/
theorem calCtrlWrite_starts {v : Nat} {t : Tladon} (hwas : t.get TR.CAL_CTRL_EN = 0) (hen : bit 0 v = true) (now : Nat) :
    (t.calCtrlWrite now v).cal = { t.cal with hist := [], shadow := [], started := now } := by
  have hstart : (!t.on TR.CAL_CTRL_EN && bit 0 v) = true := by rw [on_eq_false.2 hwas, hen]; rfl
  unfold calCtrlWrite
  rw [if_pos hstart]
  rfl

/-- A write to CAL_CTRL that leaves EN set, or clears it, leaves the histograms. -/
theorem calCtrlWrite_continues {v : Nat} {t : Tladon} (h : t.get TR.CAL_CTRL_EN ≠ 0 ∨ bit 0 v = false) (now : Nat) :
    (t.calCtrlWrite now v).cal = t.cal := by
  have hgoes : ¬(!t.on TR.CAL_CTRL_EN && bit 0 v) = true := by
    rcases h with hon | hoff
    · simp [on_eq_true.2 hon]
    · simp [hoff]
  unfold calCtrlWrite
  rw [if_neg hgoes]
  rfl

end Tladon

end Sys2Proof.Machine
end

section
/-! PROOF. The calibration (O5): one theorem for each clause. -/

namespace Sys2Proof.Machine

open Sys2Proof

/-- A dither conversion counts, or its full histogram is rejected or gives its table. -/
theorem ditherConversion_counts_rejects_or_builds (p i raw : Nat) (s : State) :
    let t := s.tladon p
    let h := SMap.modify 0 raw (· + 1) (SMap.getD [] i t.cal.hist)
    t.calRuns = true → t.participates i = true → SMap.find i t.cal.shadow = none → raw < 384 →
    TlRuns (.ditherConversion p i raw) p s fun u =>
      ((h.map (·.2)).sum < t.calH →
        u.cal = { t.cal with hist := SMap.insert i h t.cal.hist } ∧ OnlyTlRegs [] t u) ∧
      (t.calH ≤ (h.map (·.2)).sum → Tladon.rejectHist h t.calH = true →
        u.cal = { t.cal with hist := SMap.erase i t.cal.hist } ∧ u.get TR.CAL_STATUS_REJECT = 1 ∧
        OnlyTlRegs [TR.CAL_CNT_REJECTS, TR.CAL_STATUS_REJECT] t u) ∧
      (t.calH ≤ (h.map (·.2)).sum → Tladon.rejectHist h t.calH = false →
        SMap.find i u.cal.shadow = some (Tladon.buildTable h t.calH) ∧ u.get TR.CAL_STATUS_READY = b2n u.shadowsDone ∧
        OnlyTlRegs [TR.CAL_STATUS_READY] t u) := by
  intro t h hruns hpart hopen hraw
  refine .of_exec rfl rfl rfl ⟨fun hsum => ?_, fun hsum hrej => ?_, fun hsum hrej => ?_⟩
  · rw [Tladon.dither_counts hruns hpart hopen hraw hsum]
    exact ⟨rfl, .of_regs (.refl _ t) rfl⟩
  · rw [Tladon.dither_rejects hruns hpart hopen hraw hsum hrej]
    refine ⟨rfl, Tladon.get_set_self .., ((OnlyTlRegs.of_regs (.refl _ t) ?_).add 1 (by simp)).set 1 (by simp)⟩
    rfl
  · rw [Tladon.dither_builds hruns hpart hopen hraw hsum hrej]
    refine ⟨SMap.find_insert_self .., ?_, .set _ (.of_regs (.refl _ t) rfl) List.mem_cons_self⟩
    rw [Tladon.shadowsDone_set_ready]
    exact Tladon.get_set_flag rfl ..

/-- The swap makes the shadow tables active, keeps the former ones 1,040 ticks and counts the epoch. -/
theorem calSwap_swaps (p : Nat) (s : State) :
    let t := s.tladon p
    t.calRuns = true → t.shadowsDone = true → t.get TR.CAL_CTRL_FREEZE = 0 → t.count s.now % 65536 = 0 →
    TlRuns (.calSwap p) p s fun u =>
      u.cal.shadow = [] ∧ u.cal.retired = t.cal.active ∧ u.cal.retireAt = some (s.now + 1040) ∧
      u.cal.active = t.cal.shadow.foldl (fun m x => SMap.insert x.1 x.2 m) t.cal.active ∧
      u.get TR.CAL_STATUS_EPOCH = (t.get TR.CAL_STATUS_EPOCH + 1) % 4 ∧ u.get TR.CAL_STATUS_READY = 0 ∧
      OnlyTlRegs [TR.CAL_STATUS_EPOCH, TR.CAL_STATUS_SWAPS, TR.CAL_STATUS_READY] t u := by
  intro t hruns hdone hfreeze hframe
  refine .of_exec rfl rfl (Tladon.calSwap_due hruns hdone hfreeze hframe)
    ⟨rfl, rfl, rfl, rfl, ?_, Tladon.get_set_self .., ?_⟩
  · rw [Tladon.get_set_other (by decide), Tladon.get_add_other (by decide), Tladon.get_addMod_self]
    rfl
  · refine (((OnlyTlRegs.of_regs (.refl _ t) ?_).addMod 1 (by simp)).add 1 (by simp)).set 0 (by simp)
    rfl

/-- A Tladon in CONFIGURED with lock at a frame boundary, every channel OFF, that has completed the tables of the other
three interpolators. -/
def swapReady : State :=
  { State.reset with tl := [(0, { Tladon.reset with
      regs := RegFile.sets [(TR.ID_STATE_STATE, 2), (TR.TIME_STATUS_PLL_LOCK, 1)] []
      cal := { Tladon.reset.cal with shadow := [(1024, []), (1025, []), (1026, [])] } })] }

/-- With every channel OFF three tables are all. -/
theorem swapReady_shadowsDone : (swapReady.tladon 0).shadowsDone = true := by
  rw [Tladon.shadowsDone, List.all_eq_true]
  intro i hi
  have hlt : i < 1027 := List.mem_range.1 hi
  by_cases hchan : i < 1024
  · have hmode : (swapReady.tladon 0).get (TR.CH_CFG_MODE (i / 2)) = 0 := by
      refine RegFile.get_sets_other _ (fun x hx => (Fld.key_ne_of_addr_lt (Nat.lt_add_right _ ?_) ?_).symm) []
      all_goals revert x; decide
    rw [Tladon.participates, if_pos hchan, Tladon.off_eq hmode]
    rfl
  · have hthree : i = 1024 ∨ i = 1025 ∨ i = 1026 := by omega
    rcases hthree with rfl | rfl | rfl <;> decide

/-- The conditions of a swap can be met. -/
theorem calSwap_conditions_met :
    let t := swapReady.tladon 0
    t.calRuns = true ∧ t.shadowsDone = true ∧ t.get TR.CAL_CTRL_FREEZE = 0 ∧ t.count swapReady.now % 65536 = 0 :=
  ⟨by decide, swapReady_shadowsDone, by decide, by decide⟩

/-- The retired tables are released. -/
theorem calRetire_releases (p d : Nat) (s : State) :
    let t := s.tladon p
    t.cal.retireAt = some d → d ≤ s.now →
    TlRuns (.calRetire p) p s fun u =>
      u.cal = { t.cal with hist := [], retired := [], retireAt := none, started := d } ∧ OnlyTlRegs [] t u := by
  intro t hat hdue
  exact .of_exec rfl rfl (Tladon.calRetire_due hat hdue) ⟨rfl, .of_regs (.refl _ t) rfl⟩

/-- Past CAL_TMO the histograms start again with CAL_STALL. -/
theorem calTimeout_restarts (p : Nat) (s : State) :
    let t := s.tladon p
    t.calRuns = true → t.cal.started + max 1 (t.get TR.CAL_CTRL_CAL_TMO) * 65536 ≤ s.now →
    TlRuns (.calTimeout p) p s fun u =>
      u.cal = { t.cal with hist := [], shadow := [], started := s.now } ∧ u.get TR.CAL_STATUS_CAL_STALL = 1 ∧
      u.get TR.CAL_STATUS_READY = 0 ∧ OnlyTlRegs [TR.CAL_STATUS_CAL_STALL, TR.CAL_STATUS_READY] t u := by
  intro t hruns hdue
  refine .of_exec rfl rfl (Tladon.calTimeout_due hruns hdue) ⟨rfl, ?_, ?_, .sets _ (.of_regs (.refl _ t) rfl) (by simp)⟩
  · rw [Tladon.sets_cons, Tladon.sets_cons, Tladon.sets_nil, Tladon.get_set_other (by decide), Tladon.get_set_self]
    rfl
  · rw [Tladon.sets_cons, Tladon.sets_cons, Tladon.sets_nil, Tladon.get_set_self]
    rfl

/-- A write to CAL_CTRL takes its fields, and EN written from 0 to 1 starts the histograms. -/
theorem calCtrlWrite_configures (p v : Nat) (s : State) :
    let t := s.tladon p
    TlRuns (.calCtrlWrite p v) p s fun u =>
      u.get TR.CAL_CTRL_CAL_TMO = bits 23 16 v ∧ u.get TR.CAL_CTRL_CD_LOG2 = bits 12 8 v ∧
      u.get TR.CAL_CTRL_FREEZE = bits 1 1 v ∧ u.get TR.CAL_CTRL_EN = bits 0 0 v ∧
      (t.get TR.CAL_CTRL_EN = 0 → bit 0 v = true →
        u.cal = { t.cal with hist := [], shadow := [], started := s.now }) ∧
      (t.get TR.CAL_CTRL_EN ≠ 0 ∨ bit 0 v = false → u.cal = t.cal) ∧
      OnlyTlRegs [TR.CAL_CTRL_CAL_TMO, TR.CAL_CTRL_CD_LOG2, TR.CAL_CTRL_FREEZE, TR.CAL_CTRL_EN] t u := by
  intro t
  have hread {f : Fld} (hf : (f, bits f.hi f.lo v) ∈ Tladon.calCtrlFields v) :
      (t.calCtrlWrite s.now v).get f = bits f.hi f.lo v := Tladon.calCtrlWrite_get hf s.now t
  have hstored : OnlyTlRegs [TR.CAL_CTRL_CAL_TMO, TR.CAL_CTRL_CD_LOG2, TR.CAL_CTRL_FREEZE, TR.CAL_CTRL_EN] t
      (t.sets (Tladon.calCtrlFields v)) := .sets _ (.refl _ t) (by simp [Tladon.calCtrlFields])
  refine .of_exec rfl rfl rfl ⟨hread ?_, hread ?_, hread ?_, hread ?_,
    fun hwas hen => Tladon.calCtrlWrite_starts hwas hen s.now, fun h => Tladon.calCtrlWrite_continues h s.now,
    hstored.of_regs (t.calCtrlWrite_regs s.now v)⟩
  all_goals simp [Tladon.calCtrlFields, TR.CAL_CTRL_CAL_TMO, TR.CAL_CTRL_CD_LOG2, TR.CAL_CTRL_FREEZE, TR.CAL_CTRL_EN]

/-- Settles O5, clause by clause. -/
theorem calibrationCommands : Obligations.CalibrationCommands :=
  ⟨ditherConversion_counts_rejects_or_builds, calSwap_swaps, calRetire_releases, calTimeout_restarts,
    calCtrlWrite_configures⟩

end Sys2Proof.Machine
end

section
/-! SUPPORT. Twin samplers (spec/06): what a command of one sampler leaves, and what the reference, enable,
configuration, arm, force, disarm and trim commands do (O6). -/

namespace Sys2Proof

/-- The register of a sampler's lengths in the index. -/
theorem TR.regAt_sampgLen : ∀ g < 8,
    regAt TR.rows (TR.SAMPG_LEN g) = some [TR.SAMPG_LEN_POST4 g, TR.SAMPG_LEN_PRE4 g] := by decide

end Sys2Proof

namespace Sys2Proof.Machine

open Sys2Proof

/-- A write by access codes changes the fields of its register only. -/
theorem OnlyTlRegs.write {l fs : List Fld} {s t : Tladon} (open' : Bool) (v : Nat) (h : OnlyTlRegs l s t)
    (hfs : ∀ f ∈ fs, f ∈ l) : OnlyTlRegs l s { t with regs := t.regs.write open' fs v } :=
  fun f hf => (RegFile.get_write_other open' v (fun g hg => hf g (hfs g hg)) t.regs).trans (h f hf)

/-- Of the samplers only `g` differs, and of the registers only the listed ones. -/
def OnlySamp (g : Nat) (l : List Fld) (t u : Tladon) : Prop := (∀ h, h ≠ g → u.samp h = t.samp h) ∧ OnlyTlRegs l t u

namespace OnlySamp

variable {g : Nat} {l : List Fld} {t u : Tladon} {f : Fld}

/-- Nothing differs where nothing happens. -/
theorem refl (g : Nat) (l : List Fld) (t : Tladon) : OnlySamp g l t t := ⟨fun _ _ => rfl, .refl l t⟩

/-- A change of the sampler. -/
theorem modSamp (k : Sampler → Sampler) (h : OnlySamp g l t u) (hg : TR.SAMPG_STATE_STATE g ∈ l) :
    OnlySamp g l t (u.modSamp g k) :=
  ⟨fun j hj => (Tladon.samp_modSamp_other hj k u).trans (h.1 j hj), Tladon.modSamp_regs k h.2 hg⟩

/-- A store to a listed register. -/
theorem set (v : Nat) (h : OnlySamp g l t u) (hf : f ∈ l) : OnlySamp g l t (u.set f v) := ⟨h.1, .set v h.2 hf⟩

/-- Stores to listed registers. -/
theorem sets (m : List (Fld × Nat)) (h : OnlySamp g l t u) (hm : ∀ x ∈ m, x.1 ∈ l) : OnlySamp g l t (u.sets m) :=
  ⟨h.1, .sets m h.2 hm⟩

end OnlySamp

namespace Tladon

/-! ### The reference buffer (R181, R182) -/

/-- A write to SAMP_REF stores EN, clears READY and starts or stops the buffer. -/
theorem refWrite_stores {now : Nat} {en : Bool} {t : Tladon} (hpart : t.tl512t = false)
    (hoff : en = true → t.get TR.SAMP_REF_EN = 0) :
    (t.refWrite now en).refAt = (if en then some (now + 270336) else none) ∧
    (t.refWrite now en).regs = (t.sets [(TR.SAMP_REF_EN, b2n en), (TR.SAMP_REF_READY, 0)]).regs := by
  cases en
  · have hstop : t.refWrite now false =
        ({ t with refAt := none }.sets [(TR.SAMP_REF_EN, 0), (TR.SAMP_REF_READY, 0)]).markCold := by
      simp [refWrite, hasSamp, hpart]
    rw [hstop]
    exact ⟨rfl, rfl⟩
  · have hstart : t.refWrite now true =
        { t with refAt := some (now + 270336) }.sets [(TR.SAMP_REF_EN, 1), (TR.SAMP_REF_READY, 0)] := by
      simp [refWrite, hasSamp, hpart, on_eq_false.2 (hoff rfl)]
    rw [hstart]
    exact ⟨rfl, rfl⟩

/-! ### Enable (R183, R184) -/

/-- An OFF sampler that is enabled runs from now. -/
theorem sampEn_on {now g : Nat} {t : Tladon} (hpart : t.tl512t = false) (hoff : (t.samp g).st = 0) :
    t.sampEn now g true =
      (t.set (TR.SAMPG_CFG_EN g) 1).modSamp g fun s => { s with st := 1, since := now } := by
  simp [sampEn, hasSamp, hpart, hoff, b2n]

/-- A sampler that is disabled goes OFF and drops its capture. -/
theorem sampEn_off {now g : Nat} {t : Tladon} (hpart : t.tl512t = false) :
    t.sampEn now g false = (t.set (TR.SAMPG_CFG_EN g) 0).modSamp g fun s =>
      { s with st := 0, trig := none, cap := none, disarm := false } := by
  simp [sampEn, hasSamp, hpart, b2n]

/-! ### Configuration (R185, R186, R192) -/

/-- A write to the lengths in OFF or RUNNING stores them and shows whether the capture is too long. -/
theorem sampCfg_len_taken {now g v : Nat} {t : Tladon} (hpart : t.tl512t = false) (hg : g < 8)
    (hst : (t.samp g).st ≤ 1) :
    t.sampCfg now g 4 v =
      let w : Tladon := { t with regs := t.regs.write false [TR.SAMPG_LEN_POST4 g, TR.SAMPG_LEN_PRE4 g] v }
      w.set (TR.SAMPG_STATE_CFG_ERR g) (b2n (decide (4096 < w.preOf g + w.postOf g))) := by
  have hopen : (t.samp g).st = 0 ∨ (t.samp g).st = 1 := by omega
  have haddr : TR.SAMPG_CFG g + 4 = TR.SAMPG_LEN g := by
    unfold TR.SAMPG_CFG TR.SAMPG_LEN
    omega
  simp [sampCfg, hasSamp, hpart, hopen, haddr, TR.regAt_sampgLen g hg]

/-- A write to the lengths in another state is ignored with its flag. -/
theorem sampCfg_len_ignored {now g v : Nat} {t : Tladon} (hpart : t.tl512t = false) (hst : 1 < (t.samp g).st) :
    t.sampCfg now g 4 v = t.set (TR.SAMPG_STATE_WR_IGNORED g) 1 := by
  have hshut : ¬((t.samp g).st = 0 ∨ (t.samp g).st = 1) := by omega
  simp [sampCfg, hasSamp, hpart, hshut]

/-- CFG_ERR has no part in the lengths. -/
theorem lengths_set_cfgErr (g v : Nat) (t : Tladon) :
    (t.set (TR.SAMPG_STATE_CFG_ERR g) v).preOf g = t.preOf g ∧
    (t.set (TR.SAMPG_STATE_CFG_ERR g) v).postOf g = t.postOf g := by
  have hread {f : Fld} (hf : f.addr = TR.SAMPG_LEN g) (hlo : f.lo < 32) :
      (t.set (TR.SAMPG_STATE_CFG_ERR g) v).get f = t.get f :=
    get_set_other (Fld.key_ne_of_addr_lt (hf ▸ Nat.add_lt_add_right (by decide) _) hlo) v t
  rw [preOf, postOf, hread rfl (show 0 < 32 by decide), hread rfl (show 16 < 32 by decide)]
  exact ⟨rfl, rfl⟩

/-! ### Masks of samplers (R183, R184, R186, R188, R194) -/

/-- A pass over the samplers, whose steps each change their own sampler, does to sampler `g` what its own step does;
`R` is what that step reads beside the sampler, and no step changes it. -/
theorem samp_foldl {α : Type} {F : Tladon → Nat → Tladon} {k : Nat → List Fld} (hF : ∀ u h, OnlySamp h (k h) u (F u h))
    {g : Nat} (hg : g < 8) {t : Tladon} {x : Sampler} {R : Tladon → α} (hR : ∀ u h, R (F u h) = R u)
    (hself : ∀ u, u.samp g = t.samp g → R u = R t → (F u g).samp g = x) : ((List.range 8).foldl F t).samp g = x := by
  obtain ⟨before, after, hsplit⟩ := List.append_of_mem (List.mem_range.2 hg)
  have hnodup : (before ++ g :: after).Nodup := hsplit ▸ List.nodup_range
  obtain ⟨-, htail, hcross⟩ := List.nodup_append.1 hnodup
  obtain ⟨hnot, -⟩ := List.nodup_cons.1 htail
  have hbefore : (before.foldl F t).samp g = t.samp g ∧ R (before.foldl F t) = R t :=
    List.foldlRecOn (motive := fun u => u.samp g = t.samp g ∧ R u = R t) before F ⟨rfl, rfl⟩ fun u hu h hh =>
      ⟨((hF u h).1 g (hcross h hh g List.mem_cons_self).symm).trans hu.1, (hR u h).trans hu.2⟩
  rw [hsplit, List.foldl_append, List.foldl_cons]
  exact List.foldlRecOn (motive := fun u => u.samp g = x) after F (hself _ hbefore.1 hbefore.2) fun u hu h hh =>
    ((hF u h).1 g fun e : g = h => hnot (e ▸ hh)).trans hu

/-- ARM of one sampler. -/
def armStep (now mask : Nat) (t : Tladon) (g : Nat) : Tladon :=
  if bit g mask && (t.samp g).st == 1 && !t.on (TR.SAMPG_STATE_CFG_ERR g) then
    t.modSamp g fun s => { s with st := 2, trig := none, cold := !t.refReady now }
  else t

/-- FORCE of one sampler. -/
def forceStep (now mask : Nat) (t : Tladon) (g : Nat) : Tladon :=
  if bit g mask then t.sampEvent g (now + 1) (now + 1, 2, 0) else t

/-- DISARM of one sampler of the mask. -/
def disarmStep (mask : Nat) (t : Tladon) (g : Nat) : Tladon := if bit g mask then t.modSamp g Tladon.disarm else t

section running

variable {now mask : Nat} {t : Tladon} (hpart : t.tl512t = false) (hrun : t.running = true)

include hpart hrun

/-- On a running part with samplers ARM is a pass over them. -/
theorem armMask_eq : t.armMask now mask = (List.range 8).foldl (armStep now mask) t := by
  rw [armMask, if_pos (by simp [hasSamp, hpart, hrun])]
  rfl

/-- On a running part with samplers FORCE is a pass over them. -/
theorem forceMask_eq : t.forceMask now mask = (List.range 8).foldl (forceStep now mask) t := by
  rw [forceMask, if_pos (by simp [hasSamp, hpart, hrun])]
  rfl

end running

/-- ARM of one sampler changes that sampler and its state register. -/
theorem armStep_onlySamp (now mask : Nat) (t : Tladon) (g : Nat) :
    OnlySamp g [TR.SAMPG_STATE_STATE g] t (t.armStep now mask g) := by
  unfold armStep
  split
  · exact (OnlySamp.refl ..).modSamp _ List.mem_cons_self
  · exact .refl ..

/-- DISARM of one sampler changes that sampler and its state register. -/
theorem disarmStep_onlySamp (mask : Nat) (t : Tladon) (g : Nat) :
    OnlySamp g [TR.SAMPG_STATE_STATE g] t (t.disarmStep mask g) := by
  unfold disarmStep
  split
  · exact (OnlySamp.refl ..).modSamp _ List.mem_cons_self
  · exact .refl ..

/-- An event changes its sampler, the sampler's state register and its count of missed events. -/
theorem sampEvent_onlySamp (g e : Nat) (tr : Nat × Nat × Nat) (t : Tladon) :
    OnlySamp g [TR.SAMPG_STATE_STATE g, TR.SAMPG_CNT_MISSED g] t (t.sampEvent g e tr) :=
  ⟨fun _ hh => sampEvent_samp_other hh e tr t, sampEvent_regs e tr (.refl _ t) (by simp) (by simp)⟩

/-- FORCE of one sampler changes that sampler, its state register and its count of missed events. -/
theorem forceStep_onlySamp (now mask : Nat) (t : Tladon) (g : Nat) :
    OnlySamp g [TR.SAMPG_STATE_STATE g, TR.SAMPG_CNT_MISSED g] t (t.forceStep now mask g) := by
  unfold forceStep
  split
  · exact sampEvent_onlySamp ..
  · exact .refl ..

/-- A pass over the samplers changes the registers that its steps change. -/
theorem foldl_onlyTlRegs {F : Tladon → Nat → Tladon} {k : Nat → List Fld} {l : List Fld}
    (hF : ∀ t g, OnlySamp g (k g) t (F t g)) (hk : ∀ g < 8, ∀ f ∈ k g, f ∈ l) (t : Tladon) :
    OnlyTlRegs l t ((List.range 8).foldl F t) :=
  .foldl _ (.refl l t) fun x g hg hx => hx.trans ((hF x g).2.mono (hk g (List.mem_range.1 hg)))

/-- A changed sampler leaves the reference buffer ready or not. -/
theorem refReady_modSamp (now g : Nat) (k : Sampler → Sampler) (t : Tladon) :
    (t.modSamp g k).refReady now = t.refReady now := by
  have hlock : (t.modSamp g k).locked = t.locked := by
    rw [locked_eq, locked_eq, get_modSamp_other (Fld.key_ne_of_addr_lt (Nat.lt_add_right _ (by decide)) (by decide))]
  rw [refReady, refReady, hlock]
  rfl

/-- ARM of one sampler leaves every CFG_ERR and the reference buffer. -/
theorem armStep_leaves (g now mask : Nat) (t : Tladon) (h : Nat) :
    (t.armStep now mask h).on (TR.SAMPG_STATE_CFG_ERR g) = t.on (TR.SAMPG_STATE_CFG_ERR g) ∧
    (t.armStep now mask h).refReady now = t.refReady now := by
  have hkey : (TR.SAMPG_STATE_CFG_ERR g).key ≠ (TR.SAMPG_STATE_STATE h).key := by
    simp only [Fld.key, TR.SAMPG_STATE_CFG_ERR, TR.SAMPG_STATE_STATE, TR.SAMPG_STATE]
    omega
  unfold armStep
  split
  · exact ⟨by rw [on_eq, on_eq, get_modSamp_other hkey], refReady_modSamp ..⟩
  · exact ⟨rfl, rfl⟩

/-- ARM arms a running sampler of the mask without CFG_ERR. -/
theorem armMask_samp {now mask g : Nat} {t : Tladon} (hpart : t.tl512t = false) (hrun : t.running = true) (hg : g < 8)
    (hbit : bit g mask = true) (hst : (t.samp g).st = 1) (herr : t.get (TR.SAMPG_STATE_CFG_ERR g) = 0) :
    (t.armMask now mask).samp g = { t.samp g with st := 2, trig := none, cold := !t.refReady now } := by
  rw [armMask_eq hpart hrun]
  refine samp_foldl (armStep_onlySamp now mask) hg
    (R := fun u => (u.on (TR.SAMPG_STATE_CFG_ERR g), u.refReady now)) (fun u h => ?_) fun u hsamp hread => ?_
  · obtain ⟨hon, hready⟩ := armStep_leaves g now mask u h
    exact Prod.ext hon hready
  · obtain ⟨hon, hready⟩ := Prod.mk.inj hread
    rw [armStep, if_pos (by simp [hbit, hsamp, hst, hon, on_eq_false.2 herr]), samp_modSamp_self, hsamp, hready]

/-- FORCE of one sampler leaves the pre-trigger lengths. -/
theorem preOf_forceStep (g now mask : Nat) (t : Tladon) (h : Nat) : (t.forceStep now mask h).preOf g = t.preOf g := by
  have hkeys : ∀ f ∈ [TR.SAMPG_STATE_STATE h, TR.SAMPG_CNT_MISSED h], (TR.SAMPG_LEN_PRE4 g).key ≠ f.key := by
    simp only [List.forall_mem_cons, Fld.key, TR.SAMPG_STATE_STATE, TR.SAMPG_STATE, TR.SAMPG_CNT_MISSED, TR.SAMPG_CNT,
      TR.SAMPG_LEN_PRE4, TR.SAMPG_LEN]
    exact ⟨by omega, by omega, nofun⟩
  rw [preOf, preOf, (forceStep_onlySamp now mask t h).2 _ hkeys]

/-- FORCE gives an armed sampler of the mask with enough history the command trigger of the next tick. -/
theorem forceMask_samp {now mask g : Nat} {t : Tladon} (hpart : t.tl512t = false) (hrun : t.running = true) (hg : g < 8)
    (hbit : bit g mask = true) (hst : (t.samp g).st = 2) (htrig : (t.samp g).trig = none)
    (hpre : t.preOf g / 2 ≤ now + 1 - (t.samp g).since) :
    (t.forceMask now mask).samp g = { t.samp g with trig := some (now + 1, 2, 0) } := by
  rw [forceMask_eq hpart hrun]
  refine samp_foldl (forceStep_onlySamp now mask) hg (R := preOf g) (preOf_forceStep g now mask)
    fun u hsamp hread => ?_
  rw [← hsamp] at hst htrig hpre ⊢
  rw [← hread] at hpre
  rw [forceStep, if_pos hbit, (sampEvent_takes hst htrig hpre).1, if_neg (Nat.lt_irrefl _), ← hst]

/-- DISARM disarms the samplers of the mask. -/
theorem disarmMask_samp {g : Nat} (hg : g < 8) (mask : Nat) (t : Tladon) :
    (t.disarmMask mask).samp g = if bit g mask then Tladon.disarm (t.samp g) else t.samp g := by
  refine samp_foldl (disarmStep_onlySamp mask) hg (R := fun _ => ()) (fun _ _ => rfl) fun u hsamp _ => ?_
  rw [disarmStep, ← hsamp]
  split
  · exact samp_modSamp_self ..
  · rfl

/-- DISARM of a waiting sampler returns it to RUNNING. -/
theorem disarm_waiting {s : Sampler} (h : s.st = 2 ∨ s.st = 3) : disarm s = { s with st := 1, trig := none } := if_pos h

/-- DISARM of a sampler that captures, is frozen or holds off marks it. -/
theorem disarm_busy {s : Sampler} (h : s.st = 4 ∨ s.st = 5 ∨ s.st = 6) : disarm s = { s with disarm := true } := by
  have hnot : ¬(s.st = 2 ∨ s.st = 3) := by omega
  rw [disarm, if_neg hnot, if_pos h]

/-! ### Trims (R179) -/

/-- A write to SAMP_g_TRIM stores its fields and marks a running capture. -/
theorem trimWrite_trim {now g v : Nat} {t : Tladon} (hpart : t.tl512t = false) :
    t.trimWrite now g 0 v =
      (t.sets [(TR.SAMPG_TRIM_OFFS g, bits 25 16 v), (TR.SAMPG_TRIM_GAIN g, bits 11 0 v)]).modSamp g fun s =>
        { s with
          trimAt := some now
          cap := if s.st = 4 then s.cap.map (fun c => { c with trim := true }) else s.cap } := by
  simp [trimWrite, hasSamp, hpart]

end Tladon

end Sys2Proof.Machine
end

section
/-! PROOF. The sampler commands (O6): one theorem for each clause. -/

namespace Sys2Proof.Machine

open Sys2Proof

/-- SAMP_REF.EN schedules READY or drops it. -/
theorem sampRefWrite_schedules (p : Nat) (en : Bool) (s : State) :
    let t := s.tladon p
    t.tl512t = false → (en = true → t.get TR.SAMP_REF_EN = 0) →
    TlRuns (.sampRefWrite p en) p s fun u =>
      u.refAt = (if en then some (s.now + 270336) else none) ∧ u.get TR.SAMP_REF_EN = b2n en ∧
      u.get TR.SAMP_REF_READY = 0 ∧ OnlyTlRegs [TR.SAMP_REF_EN, TR.SAMP_REF_READY] t u := by
  intro t hpart hoff
  obtain ⟨href, hregs⟩ := Tladon.refWrite_stores (now := s.now) hpart hoff
  have hread (f : Fld) : (t.refWrite s.now en).get f =
      (t.sets [(TR.SAMP_REF_EN, b2n en), (TR.SAMP_REF_READY, 0)]).get f := congrArg (RegFile.get f) hregs
  have hapart : ([(TR.SAMP_REF_EN, b2n en), (TR.SAMP_REF_READY, 0)].map fun x => x.1.key).Nodup :=
    show [TR.SAMP_REF_EN.key, TR.SAMP_REF_READY.key].Nodup by decide
  refine .of_exec rfl rfl rfl ⟨href, ?_, ?_, (OnlyTlRegs.sets _ (.refl _ t) (by simp)).of_regs hregs⟩
  · rw [hread]
    exact Tladon.get_sets_flag hapart rfl (by simp) t
  · rw [hread]
    exact RegFile.get_sets_of_mem hapart (v := 0) (by simp) t.regs

/-- READY follows the reference buffer. -/
theorem sampRefReady_follows (p : Nat) (s : State) :
    let t := s.tladon p
    t.refReady s.now = true →
    TlRuns (.sampRefReady p) p s fun u => u.get TR.SAMP_REF_READY = 1 ∧ OnlyTlRegs [TR.SAMP_REF_READY] t u := by
  intro t hready
  exact .of_exec rfl rfl (if_pos hready) ⟨Tladon.get_set_self .., (OnlyTlRegs.refl _ t).set 1 (by simp)⟩

/-- EN of a sampler starts it, or drops its capture. -/
theorem sampEnWrite_starts_or_drops (p g : Nat) (en : Bool) (s : State) :
    let t := s.tladon p
    t.tl512t = false → (en = true → (t.samp g).st = 0) →
    TlRuns (.sampEnWrite p g en) p s fun u =>
      u.get (TR.SAMPG_CFG_EN g) = b2n en ∧ (u.samp g).st = b2n en ∧
      (en = true → (u.samp g).since = s.now) ∧ (en = false → (u.samp g).cap = none ∧ (u.samp g).trig = none) ∧
      (∀ h, h ≠ g → u.samp h = t.samp h) ∧ OnlyTlRegs [TR.SAMPG_CFG_EN g, TR.SAMPG_STATE_STATE g] t u := by
  intro t hpart hoff
  have hkey : (TR.SAMPG_CFG_EN g).key ≠ (TR.SAMPG_STATE_STATE g).key :=
    Fld.key_ne_of_addr_lt (Nat.add_lt_add_right (by decide) _) (show 0 < 32 by decide)
  have henable (v : Nat) (k : Sampler → Sampler) :
      ((t.set (TR.SAMPG_CFG_EN g) v).modSamp g k).get (TR.SAMPG_CFG_EN g) = v % 2 ∧
      OnlySamp g [TR.SAMPG_CFG_EN g, TR.SAMPG_STATE_STATE g] t ((t.set (TR.SAMPG_CFG_EN g) v).modSamp g k) :=
    ⟨(Tladon.get_modSamp_other hkey k _).trans (Tladon.get_set_self ..),
      ((OnlySamp.refl g _ t).set v (by simp)).modSamp k (by simp)⟩
  cases en
  · obtain ⟨hen, hother, hregs⟩ := henable 0 _
    refine .of_exec rfl rfl (Tladon.sampEn_off hpart) ⟨hen, ?_, nofun, fun _ => ?_, hother, hregs⟩
    all_goals simp [b2n]
  · obtain ⟨hen, hother, hregs⟩ := henable 1 _
    refine .of_exec rfl rfl (Tladon.sampEn_on hpart (hoff rfl)) ⟨hen, ?_, fun _ => ?_, nofun, hother, hregs⟩
    all_goals simp [b2n]

/-- A length written in OFF or RUNNING is taken. -/
theorem sampCfgWrite_taken (p g v : Nat) (s : State) :
    let t := s.tladon p
    t.tl512t = false → g < 8 → (t.samp g).st ≤ 1 →
    TlRuns (.sampCfgWrite p g 4 v) p s fun u =>
      u.get (TR.SAMPG_LEN_POST4 g) = bits 25 16 v ∧ u.get (TR.SAMPG_LEN_PRE4 g) = bits 9 0 v ∧
      u.get (TR.SAMPG_STATE_CFG_ERR g) = b2n (4096 < u.preOf g + u.postOf g) ∧ u.samps = t.samps ∧
      OnlyTlRegs [TR.SAMPG_LEN_POST4 g, TR.SAMPG_LEN_PRE4 g, TR.SAMPG_STATE_CFG_ERR g] t u := by
  intro t hpart hg hst
  have hread {f : Fld} (hf : f ∈ [TR.SAMPG_LEN_POST4 g, TR.SAMPG_LEN_PRE4 g]) (w : Nat) :
      ({ t with regs := t.regs.write false [TR.SAMPG_LEN_POST4 g, TR.SAMPG_LEN_PRE4 g] v }.set
        (TR.SAMPG_STATE_CFG_ERR g) w).get f = RegFile.written false v f (t.get f) := by
    have ok := TR.regAt_fields (TR.regAt_sampgLen g hg)
    have hkey : f.key ≠ (TR.SAMPG_STATE_CFG_ERR g).key := by
      refine Fld.key_ne_of_addr_lt ?_ (Nat.lt_of_le_of_lt (ok.fits f hf).1 (Nat.lt_succ_of_le (ok.fits f hf).2.1))
      rw [ok.addr f hf]
      exact Nat.add_lt_add_right (by decide) _
    rw [Tladon.get_set_other hkey]
    exact RegFile.get_write_of_mem false v ok hf t.regs
  refine .of_exec rfl rfl (Tladon.sampCfg_len_taken hpart hg hst) ⟨hread (by simp) _, hread (by simp) _, ?_, rfl,
    .set _ (.write false v (.refl _ t) (by simp)) (by simp)⟩
  rw [(Tladon.lengths_set_cfgErr ..).1, (Tladon.lengths_set_cfgErr ..).2]
  exact Tladon.get_set_flag rfl ..

/-- A length written in another state is ignored with its flag. -/
theorem sampCfgWrite_ignored (p g v : Nat) (s : State) :
    let t := s.tladon p
    t.tl512t = false → 1 < (t.samp g).st →
    TlRuns (.sampCfgWrite p g 4 v) p s fun u =>
      u.get (TR.SAMPG_STATE_WR_IGNORED g) = 1 ∧ u.samps = t.samps ∧ OnlyTlRegs [TR.SAMPG_STATE_WR_IGNORED g] t u := by
  intro t hpart hst
  exact .of_exec rfl rfl (Tladon.sampCfg_len_ignored hpart hst)
    ⟨Tladon.get_set_self .., rfl, (OnlyTlRegs.refl _ t).set 1 (by simp)⟩

/-- ARM arms every running sampler of the mask without CFG_ERR. -/
theorem sampArm_arms (p mask g : Nat) (s : State) :
    let t := s.tladon p
    t.tl512t = false → t.running = true → g < 8 → bit g mask = true → (t.samp g).st = 1 →
    t.get (TR.SAMPG_STATE_CFG_ERR g) = 0 →
    TlRuns (.sampArm p mask) p s fun u =>
      u.samp g = { t.samp g with st := 2, trig := none, cold := !t.refReady s.now } ∧
      OnlyTlRegs ((List.range 8).map TR.SAMPG_STATE_STATE) t u := by
  intro t hpart hrun hg hbit hst herr
  refine .of_exec rfl rfl rfl ⟨Tladon.armMask_samp hpart hrun hg hbit hst herr, ?_⟩
  rw [Tladon.armMask_eq hpart hrun]
  exact Tladon.foldl_onlyTlRegs (Tladon.armStep_onlySamp s.now mask) (by simpa using fun g hg => ⟨g, hg, rfl⟩) t

/-- FORCE gives an armed sampler of the mask its trigger. -/
theorem sampForce_triggers (p mask g : Nat) (s : State) :
    let t := s.tladon p
    t.tl512t = false → t.running = true → g < 8 → bit g mask = true → (t.samp g).st = 2 → (t.samp g).trig = none →
    t.preOf g / 2 ≤ s.now + 1 - (t.samp g).since →
    TlRuns (.sampForce p mask) p s fun u =>
      u.samp g = { t.samp g with trig := some (s.now + 1, 2, 0) } ∧
      OnlyTlRegs ((List.range 8).map TR.SAMPG_STATE_STATE ++ (List.range 8).map TR.SAMPG_CNT_MISSED) t u := by
  intro t hpart hrun hg hbit hst htrig hpre
  refine .of_exec rfl rfl rfl ⟨Tladon.forceMask_samp hpart hrun hg hbit hst htrig hpre, ?_⟩
  rw [Tladon.forceMask_eq hpart hrun]
  exact Tladon.foldl_onlyTlRegs (Tladon.forceStep_onlySamp s.now mask)
    (by simpa using fun g hg => ⟨.inl ⟨g, hg, rfl⟩, .inr ⟨g, hg, rfl⟩⟩) t

/-- DISARM returns the waiting samplers of the mask to RUNNING and marks the busy ones. -/
theorem sampDisarm_disarms (p mask g : Nat) (s : State) :
    let t := s.tladon p
    g < 8 →
    TlRuns (.sampDisarm p mask) p s fun u =>
      (bit g mask = true → ((t.samp g).st = 2 ∨ (t.samp g).st = 3) → (u.samp g).st = 1 ∧ (u.samp g).trig = none) ∧
      (bit g mask = true → ((t.samp g).st = 4 ∨ (t.samp g).st = 5 ∨ (t.samp g).st = 6) →
        u.samp g = { t.samp g with disarm := true }) ∧
      (bit g mask = false → u.samp g = t.samp g) ∧
      OnlyTlRegs ((List.range 8).map TR.SAMPG_STATE_STATE) t u := by
  intro t hg
  have hsamp := Tladon.disarmMask_samp hg mask t
  refine .of_exec rfl rfl rfl ⟨fun hbit hst => ?_, fun hbit hst => ?_, fun hbit => ?_,
    Tladon.foldl_onlyTlRegs (Tladon.disarmStep_onlySamp mask) (by simpa using fun g hg => ⟨g, hg, rfl⟩) t⟩
  · rw [hsamp, if_pos hbit, Tladon.disarm_waiting hst]
    exact ⟨rfl, rfl⟩
  · rw [hsamp, if_pos hbit, Tladon.disarm_busy hst]
  · rw [hsamp, if_neg (by simp [hbit])]

/-- A trim is taken and marks a running capture. -/
theorem sampTrimWrite_taken (p g v : Nat) (s : State) :
    let t := s.tladon p
    t.tl512t = false →
    TlRuns (.sampTrimWrite p g 0 v) p s fun u =>
      u.get (TR.SAMPG_TRIM_OFFS g) = bits 25 16 v ∧ u.get (TR.SAMPG_TRIM_GAIN g) = bits 11 0 v ∧
      (u.samp g).trimAt = some s.now ∧ (∀ h, h ≠ g → u.samp h = t.samp h) ∧
      ((t.samp g).st = 4 → (u.samp g).cap = (t.samp g).cap.map fun c => { c with trim := true }) ∧
      OnlyTlRegs [TR.SAMPG_TRIM_OFFS g, TR.SAMPG_TRIM_GAIN g, TR.SAMPG_STATE_STATE g] t u := by
  intro t hpart
  have haddr : TR.SAMPG_TRIM g < TR.SAMPG_STATE g := by
    unfold TR.SAMPG_TRIM TR.SAMPG_STATE
    omega
  have hkeys : ([(TR.SAMPG_TRIM_OFFS g, bits 25 16 v), (TR.SAMPG_TRIM_GAIN g, bits 11 0 v)].map
      fun x => x.1.key).Nodup := by simp [Fld.key, TR.SAMPG_TRIM_OFFS, TR.SAMPG_TRIM_GAIN]
  have honly (k : Sampler → Sampler) :
      OnlySamp g [TR.SAMPG_TRIM_OFFS g, TR.SAMPG_TRIM_GAIN g, TR.SAMPG_STATE_STATE g] t
        ((t.sets [(TR.SAMPG_TRIM_OFFS g, bits 25 16 v), (TR.SAMPG_TRIM_GAIN g, bits 11 0 v)]).modSamp g k) :=
    ((OnlySamp.refl g _ t).sets _ (by simp)).modSamp k (by simp)
  refine .of_exec rfl rfl (Tladon.trimWrite_trim hpart) ⟨?_, ?_, ?_, (honly _).1, fun hst => ?_, (honly _).2⟩
  · rw [Tladon.get_modSamp_other (Fld.key_ne_of_addr_lt haddr (show 16 < 32 by decide))]
    exact Tladon.get_sets_bits hkeys (f := TR.SAMPG_TRIM_OFFS g) (by simp [TR.SAMPG_TRIM_OFFS]) t
  · rw [Tladon.get_modSamp_other (Fld.key_ne_of_addr_lt haddr (show 0 < 32 by decide))]
    exact Tladon.get_sets_bits hkeys (f := TR.SAMPG_TRIM_GAIN g) (by simp [TR.SAMPG_TRIM_GAIN]) t
  · rw [Tladon.samp_modSamp_self]
  · rw [Tladon.samp_modSamp_self, Tladon.samp_sets, if_pos hst]

/-- Settles O6, clause by clause. -/
theorem samplerCommands : Obligations.SamplerCommands :=
  ⟨sampRefWrite_schedules, sampRefReady_follows, sampEnWrite_starts_or_drops, sampCfgWrite_taken, sampCfgWrite_ignored,
    sampArm_arms, sampForce_triggers, sampDisarm_disarms, sampTrimWrite_taken⟩

end Sys2Proof.Machine
end

section
/-! SUPPORT. The monitor converter (spec/06): what the start of a sweep, the timer and the end of a conversion do
(O8, O11). -/

namespace Sys2Proof.Machine

open Sys2Proof

namespace Tladon

/-! ### The start of a sweep (R203, R204) -/

/-- The sources that MON_MASK selects, lowest first. -/
def monSources (t : Tladon) : List Nat := (List.range 16).filter fun i => bit i (t.get TR.MON_MASK_MASK)

/-- In CONFIGURED and ACQUIRING without a sweep a start begins one at the next tick with the first source. -/
theorem monStart_starts {now n : Nat} {r : List Nat} {t : Tladon} (hrun : t.running = true) (hnone : t.sweep = none)
    (hsrc : t.monSources = n :: r) :
    t.monStart now = { t with sweep := some ⟨n :: r, now + 1, (t.count now + 1) % 2 ^ 42⟩ }.sets
      [(TR.MON_STATUS_BUSY, 1), (TR.MON_STATUS_SOURCE, n)] := by
  unfold monSources at hsrc
  simp [monStart, hrun, hnone, hsrc]

/-- BUSY and SOURCE stand apart. -/
theorem busy_source_keys (n : Nat) :
    ([(TR.MON_STATUS_BUSY, 1), (TR.MON_STATUS_SOURCE, n)].map fun x => x.1.key).Nodup :=
  show [TR.MON_STATUS_BUSY.key, TR.MON_STATUS_SOURCE.key].Nodup by decide

/-- A start while a sweep runs is counted as an overlap. -/
theorem monStart_overlaps {now : Nat} {t : Tladon} (hrun : t.running = true) (hsome : t.sweep ≠ none) :
    t.monStart now = t.add TR.MON_STATUS_OVERLAP 1 := by
  simp [monStart, hrun, Option.isSome_iff_ne_none.2 hsome]

/-- The timer starts a sweep at a frame boundary once its period has passed. -/
theorem monTimer_due {now : Nat} {t : Tladon} (hen : t.get TR.MON_CTRL_TIMER_EN ≠ 0) (hframe : t.count now % 65536 = 0)
    (hdue : t.monFrames + max 1 (t.get TR.MON_PERIOD_PERIOD) * 65536 ≤ now) :
    t.monTimer now = ({ t with monFrames := now } : Tladon).monStart now := by
  rw [monTimer, if_pos (by rw [on_eq_true.2 hen, hframe, decide_eq_true hdue]; rfl)]

/-! ### The end of a conversion (R205) -/

/-- What a conversion that ends stores. -/
def monFields (n code : Nat) (t : Tladon) : List (Fld × Nat) :=
  [(TR.MON_RESULT_SWEEP n, t.get TR.MON_STATUS_SWEEPS), (TR.MON_RESULT_VALID n, 1),
    (TR.MON_RESULT_CODE n, t.monCode n code)]

/-- A code has twelve bits. -/
theorem monCode_lt (n code : Nat) (t : Tladon) : t.monCode n code < 4096 := by
  unfold monCode
  split
  · decide
  · exact Nat.mod_lt _ (by decide)

/-- The fields of a result stand apart. -/
theorem monFields_keys (n code : Nat) (t : Tladon) : ((monFields n code t).map fun x => x.1.key).Nodup := by
  simp [monFields, Fld.key, TR.MON_RESULT_SWEEP, TR.MON_RESULT_VALID, TR.MON_RESULT_CODE]

/-- MON_STATUS is no result. -/
theorem monStatus_apart {f : Fld} (hf : f.addr = TR.MON_STATUS) (hlo : f.lo < 32) (n code : Nat) (t : Tladon) :
    ∀ x ∈ monFields n code t, f.key ≠ x.1.key := by
  have hlt : f.addr < TR.MON_RESULT n := by
    rw [hf]
    exact Nat.lt_add_right _ (by decide)
  simp only [monFields, List.forall_mem_cons]
  exact ⟨Fld.key_ne_of_addr_lt hlt hlo, Fld.key_ne_of_addr_lt hlt hlo, Fld.key_ne_of_addr_lt hlt hlo, nofun⟩

/-- The Tladon with a result stored and, where SEND asks for it in ACQUIRING, its word sent. -/
def monStored (n code start : Nat) (t : Tladon) : Tladon :=
  let w := t.sets (monFields n code t)
  if w.on TR.MON_CTRL_SEND && w.state == 3 then
    w.sendLow 3 (control 0x18 [(55, 52, n), (51, 40, t.monCode n code), (39, 32, t.get TR.MON_STATUS_SWEEPS),
      (31, 0, start)])
  else w

/-- Whether its word is sent or not, the registers hold the result. -/
theorem monStored_regs (n code start : Nat) (t : Tladon) :
    (t.monStored n code start).regs = (t.sets (monFields n code t)).regs := by
  unfold monStored
  extract_lets w
  split
  · exact (sendLow_fields ..).2.2.2.1
  · rfl

/-- What a conversion that ends changes of MON_STATUS. -/
def monShown : List Fld := [TR.MON_STATUS_SOURCE, TR.MON_STATUS_SWEEPS, TR.MON_STATUS_BUSY]

/-- The stored result stays while MON_STATUS follows, and no other register differs. -/
theorem monStored_result {n code start : Nat} {t u : Tladon} (h : OnlyTlRegs monShown (t.monStored n code start) u) :
    u.get (TR.MON_RESULT_CODE n) = t.monCode n code ∧ u.get (TR.MON_RESULT_VALID n) = 1 ∧
    u.get (TR.MON_RESULT_SWEEP n) = t.get TR.MON_STATUS_SWEEPS % 256 ∧
    OnlyTlRegs (TR.MON_RESULT_CODE n :: TR.MON_RESULT_VALID n :: TR.MON_RESULT_SWEEP n :: monShown) t u := by
  have hread {f : Fld} {v : Nat} (hf : (f, v) ∈ monFields n code t) : u.get f = v % f.size := by
    have hapart : ∀ g ∈ monShown, f.key ≠ g.key := by
      simp only [monShown, List.forall_mem_cons]
      exact ⟨(monStatus_apart rfl (by decide) n code t _ hf).symm, (monStatus_apart rfl (by decide) n code t _ hf).symm,
        (monStatus_apart rfl (by decide) n code t _ hf).symm, nofun⟩
    exact (h f hapart).trans ((congrArg (RegFile.get f) (t.monStored_regs n code start)).trans
      (RegFile.get_sets_of_mem (monFields_keys n code t) hf t.regs))
  have hstored : OnlyTlRegs (TR.MON_RESULT_CODE n :: TR.MON_RESULT_VALID n :: TR.MON_RESULT_SWEEP n :: monShown) t
      (t.monStored n code start) :=
    (OnlyTlRegs.sets (monFields n code t) (.refl _ t) (by simp [monFields])).of_regs (t.monStored_regs n code start)
  refine ⟨(hread (v := t.monCode n code) (by simp [monFields])).trans ?_, hread (v := 1) (by simp [monFields]),
    hread (v := t.get TR.MON_STATUS_SWEEPS) (by simp [monFields]), hstored.trans (h.mono (by simp [monShown]))⟩
  exact Nat.mod_eq_of_lt (monCode_lt n code t)

/-- Storing a result leaves the count of sweeps. -/
theorem monStored_sweeps (n code start : Nat) (t : Tladon) :
    (t.monStored n code start).get TR.MON_STATUS_SWEEPS = t.get TR.MON_STATUS_SWEEPS :=
  (congrArg (RegFile.get _) (t.monStored_regs n code start)).trans
    (get_sets_other _ (monStatus_apart rfl (by decide) n code t) t)

section due

variable {now code n t0 start : Nat} {t : Tladon} (hdue : t0 + 12800 ≤ now)

include hdue

/-- A conversion before the last goes on to the next source. -/
theorem monDone_next {m : Nat} {q : List Nat} (hsweep : t.sweep = some ⟨n :: m :: q, t0, start⟩) :
    t.monDone now code = { t.monStored n code start with
      sweep := some ⟨m :: q, t0 + 12800, (start + 12800) % 2 ^ 42⟩ }.set TR.MON_STATUS_SOURCE m := by
  rw [monDone, hsweep]
  exact if_pos hdue

/-- The last conversion ends the sweep, which is counted. -/
theorem monDone_last (hsweep : t.sweep = some ⟨[n], t0, start⟩) :
    t.monDone now code = ({ t.monStored n code start with sweep := none }.addMod TR.MON_STATUS_SWEEPS 1).set
      TR.MON_STATUS_BUSY 0 := by
  rw [monDone, hsweep]
  exact if_pos hdue

/-- The end of a conversion stores its result and shows in MON_STATUS alone. -/
theorem monDone_shows {r : List Nat} (hsweep : t.sweep = some ⟨n :: r, t0, start⟩) :
    OnlyTlRegs monShown (t.monStored n code start) (t.monDone now code) := by
  have hkept (x : Option Sweep) :
      OnlyTlRegs monShown (t.monStored n code start) { t.monStored n code start with sweep := x } :=
    .of_regs (.refl _ _) rfl
  cases r with
  | nil =>
    rw [monDone_last hdue hsweep]
    exact ((hkept none).addMod 1 (by simp [monShown])).set 0 (by simp [monShown])
  | cons m q =>
    rw [monDone_next hdue hsweep]
    exact (hkept _).set m (by simp [monShown])

end due

end Tladon

end Sys2Proof.Machine
end

section
/-! PROOF. The monitor commands (O8): one theorem for each clause. -/

namespace Sys2Proof.Machine

open Sys2Proof

/-- MON_GO starts a sweep with the first source of the mask. -/
theorem monGo_starts (p n : Nat) (r : List Nat) (s : State) :
    let t := s.tladon p
    t.running = true → t.sweep = none → ((List.range 16).filter fun i => bit i (t.get TR.MON_MASK_MASK)) = n :: r →
    TlRuns (.monGo p) p s fun u =>
      u.sweep = some ⟨n :: r, s.now + 1, (t.count s.now + 1) % 2 ^ 42⟩ ∧ u.get TR.MON_STATUS_BUSY = 1 ∧
      u.get TR.MON_STATUS_SOURCE = n % 16 ∧ OnlyTlRegs [TR.MON_STATUS_BUSY, TR.MON_STATUS_SOURCE] t u := by
  intro t hrun hnone hsrc
  have hread {f : Fld} {v : Nat} (hf : (f, v) ∈ [(TR.MON_STATUS_BUSY, 1), (TR.MON_STATUS_SOURCE, n)]) :
      RegFile.get f (t.regs.sets [(TR.MON_STATUS_BUSY, 1), (TR.MON_STATUS_SOURCE, n)]) = v % f.size :=
    RegFile.get_sets_of_mem (Tladon.busy_source_keys n) hf t.regs
  exact .of_exec rfl rfl (Tladon.monStart_starts hrun hnone hsrc)
    ⟨rfl, hread (v := 1) (by simp), hread (by simp), .sets _ (.of_regs (.refl _ t) rfl) (by simp)⟩

/-- MON_GO while a sweep runs is counted. -/
theorem monGo_overlaps (p : Nat) (s : State) :
    let t := s.tladon p
    t.running = true → t.sweep ≠ none →
    TlRuns (.monGo p) p s fun u =>
      u.get TR.MON_STATUS_OVERLAP = min (t.get TR.MON_STATUS_OVERLAP + 1) (TR.MON_STATUS_OVERLAP.size - 1) ∧
      u.sweep = t.sweep ∧ OnlyTlRegs [TR.MON_STATUS_OVERLAP] t u := by
  intro t hrun hsome
  exact .of_exec rfl rfl (Tladon.monStart_overlaps hrun hsome)
    ⟨Tladon.get_add_self .., rfl, (OnlyTlRegs.refl _ t).add 1 (by simp)⟩

/-- The timer starts a sweep once its period has passed. -/
theorem monTimerSweep_starts (p n : Nat) (r : List Nat) (s : State) :
    let t := s.tladon p
    t.get TR.MON_CTRL_TIMER_EN ≠ 0 → t.count s.now % 65536 = 0 →
    t.monFrames + max 1 (t.get TR.MON_PERIOD_PERIOD) * 65536 ≤ s.now →
    t.running = true → t.sweep = none → ((List.range 16).filter fun i => bit i (t.get TR.MON_MASK_MASK)) = n :: r →
    TlRuns (.monTimerSweep p) p s fun u =>
      u.monFrames = s.now ∧ u.sweep = some ⟨n :: r, s.now + 1, (t.count s.now + 1) % 2 ^ 42⟩ ∧
      OnlyTlRegs [TR.MON_STATUS_BUSY, TR.MON_STATUS_SOURCE] t u := by
  intro t hen hframe hdue hrun hnone hsrc
  exact .of_exec rfl rfl ((Tladon.monTimer_due hen hframe hdue).trans
    (Tladon.monStart_starts (t := { t with monFrames := s.now }) hrun hnone hsrc))
    ⟨rfl, rfl, .sets _ (.of_regs (.refl _ t) rfl) (by simp)⟩

/-- A conversion that ends stores its code and goes on, or ends the sweep. -/
theorem monConversionDone_stores (p code n : Nat) (r : List Nat) (t0 start : Nat) (s : State) :
    let t := s.tladon p
    t.sweep = some ⟨n :: r, t0, start⟩ → t0 + 12800 ≤ s.now →
    TlRuns (.monConversionDone p code) p s fun u =>
      u.get (TR.MON_RESULT_CODE n) = t.monCode n code ∧ u.get (TR.MON_RESULT_VALID n) = 1 ∧
      u.get (TR.MON_RESULT_SWEEP n) = t.get TR.MON_STATUS_SWEEPS % 256 ∧
      (∀ m q, r = m :: q →
        u.sweep = some ⟨r, t0 + 12800, (start + 12800) % 2 ^ 42⟩ ∧ u.get TR.MON_STATUS_SOURCE = m % 16) ∧
      (r = [] → u.sweep = none ∧ u.get TR.MON_STATUS_BUSY = 0 ∧
        u.get TR.MON_STATUS_SWEEPS = (t.get TR.MON_STATUS_SWEEPS + 1) % 256) ∧
      OnlyTlRegs [TR.MON_RESULT_CODE n, TR.MON_RESULT_VALID n, TR.MON_RESULT_SWEEP n, TR.MON_STATUS_SOURCE,
        TR.MON_STATUS_SWEEPS, TR.MON_STATUS_BUSY] t u := by
  intro t hsweep hdue
  obtain ⟨hcode, hvalid, hnum, honly⟩ := Tladon.monStored_result (Tladon.monDone_shows (code := code) hdue hsweep)
  refine .of_exec rfl rfl rfl ⟨hcode, hvalid, hnum, fun m q hr => ?_, fun hr => ?_, honly⟩
  · subst hr
    rw [Tladon.monDone_next hdue hsweep]
    exact ⟨rfl, Tladon.get_set_self ..⟩
  · subst hr
    rw [Tladon.monDone_last hdue hsweep]
    refine ⟨rfl, Tladon.get_set_self .., ?_⟩
    rw [Tladon.get_set_other (by decide), Tladon.get_addMod_self]
    exact congrArg (fun k => (k + 1) % 256) (t.monStored_sweeps n code start)

/-- Settles O8, clause by clause. -/
theorem monitorCommands : Obligations.MonitorCommands :=
  ⟨monGo_starts, monGo_overlaps, monTimerSweep_starts, monConversionDone_stores⟩

end Sys2Proof.Machine
end

section
/-! SUPPORT. Commands of a downlink (spec/08): which are obeyed and counted, what an obeyed one still finds, and what
the register commands, HOLD, RELEASE, CLAIM, REPLAY and RELINK do (O11). -/

namespace Sys2Proof.Machine

open Sys2Proof

namespace Tladon

/-! ### The obeyed downlink (R273, R274) -/

section gate

variable {d : Bool} {op arg : Nat} {t : Tladon} (f : Tladon → Tladon) (hheard : t.hears d = true)

include hheard

/-- A command for the obeyed downlink is obeyed and counted when it comes from there. -/
theorem gate'_of_obeyed (hop : op ∉ [0x0A, 0x10, 0x11]) (hfrom : t.obeyed = some d) (hstate : t.allowed op arg = true) :
    t.gate' d op arg f = f (t.add TR.LINK_CMD_CNT_OBEYED 1) := by
  simp only [List.mem_cons, List.not_mem_nil, or_false, not_or] at hop
  exact gate'_obeys f hheard (by simp [hop, hfrom]) hstate

/-- A command for the obeyed downlink is refused when it comes from the other. -/
theorem gate'_of_not_obeyed (hop : op ∉ [0x0A, 0x10, 0x11]) (hfrom : t.obeyed ≠ some d) :
    t.gate' d op arg f = t.refuse := by
  simp only [List.mem_cons, List.not_mem_nil, or_false, not_or] at hop
  exact gate'_refuses f hheard (by simp [hop, hfrom])

/-- REPLAY and RELINK are obeyed and counted from downlink A, and from B in mirror mode. -/
theorem gate'_of_copy (hop : op = 0x10 ∨ op = 0x11) (hcopy : d = false ∨ t.mirror = true)
    (hstate : t.allowed op arg = true) : t.gate' d op arg f = f (t.add TR.LINK_CMD_CNT_OBEYED 1) := by
  have hnotClaim : op ≠ 0x0A := by omega
  exact gate'_obeys f hheard (by simpa [hop, hnotClaim] using hcopy) hstate

/-- CLAIM is obeyed and counted from either downlink. -/
theorem gate'_of_claim : t.gate' d 0x0A arg f = f (t.add TR.LINK_CMD_CNT_OBEYED 1) := gate'_obeys f hheard rfl rfl

end gate

/-- The count of obeyed commands is no part of the state, of MON_MASK or of the uplinks in use. -/
theorem obeyed_count_leaves (n : Nat) (t : Tladon) :
    (t.add TR.LINK_CMD_CNT_OBEYED n).running = t.running ∧
    (t.add TR.LINK_CMD_CNT_OBEYED n).monSources = t.monSources ∧
    (t.add TR.LINK_CMD_CNT_OBEYED n).active = t.active := by
  have hread {f : Fld} (hf : f.key ≠ TR.LINK_CMD_CNT_OBEYED.key) :
      (t.add TR.LINK_CMD_CNT_OBEYED n).get f = t.get f := get_add_other hf n t
  refine ⟨?_, ?_, ?_⟩
  · rw [running, running, state_eq, state_eq, hread (by decide)]
  · rw [monSources, monSources, hread (by decide)]
  · rw [active, active, lanes, lanes, mirror, mirror, on_eq, on_eq, hread (f := TR.LINK_CFG_MIRROR) (by decide),
      hread (f := TR.LINK_CFG_BOND) (by decide)]

/-! ### The register commands (R272, R274, R275) -/

/-- The field of MON_MASK. -/
theorem fields_monMask (t : Tladon) : t.fields TR.MON_MASK = some [TR.MON_MASK_MASK] := by
  have hrow : regAt TR.rows TR.MON_MASK = some [TR.MON_MASK_MASK] := by decide
  rw [fields, hrow]
  rfl

/-- MON_MASK has no action of its own: a write stores by access code. -/
theorem write_monMask (now v : Nat) (t : Tladon) :
    t.write now TR.MON_MASK v = { t with regs := t.regs.write false [TR.MON_MASK_MASK] v } := by
  rw [write, fields_monMask]
  rfl

/-- A read of a register without a companion clears its RC fields and changes nothing else. -/
theorem readEffect_clears {a : Nat} {fs : List Fld} {t : Tladon} (hfields : t.fields a = some fs)
    (hcount : a ≠ TR.TIME_COUNT_LO) (hratio : a ≠ TR.SURVEY_RATIO_LO) (now free : Nat) :
    t.readEffect now free a = { t with regs := t.regs.clearRC fs } := by
  rw [readEffect, hfields]
  exact (if_neg hcount).trans (if_neg hratio)

/-- A word for the link leaves the registers. -/
theorem sendLow_regs (c : Nat) (w : Word64) (t : Tladon) : (t.sendLow c w).regs = t.regs := by simp

/-! ### HOLD and RELEASE (R235) -/

/-- A hold request stands in PAD_CTRL.HOLD and changes no other register. -/
theorem holdRequest_stores (now : Nat) (v : Bool) (t : Tladon) :
    (t.holdRequest now v).regs = (t.set TR.PAD_CTRL_HOLD (b2n v)).regs := rfl

/-- HOLD and RELEASE, once obeyed, set the hold request and change no register but it and the count. -/
theorem holdRequest_counted (now : Nat) (v : Bool) (t : Tladon) :
    ((t.add TR.LINK_CMD_CNT_OBEYED 1).holdRequest now v).get TR.PAD_CTRL_HOLD = b2n v ∧
    OnlyTlRegs [TR.LINK_CMD_CNT_OBEYED, TR.PAD_CTRL_HOLD] t ((t.add TR.LINK_CMD_CNT_OBEYED 1).holdRequest now v) := by
  have hfits : b2n v % TR.PAD_CTRL_HOLD.size = b2n v := by cases v <;> rfl
  exact ⟨(get_set_self ..).trans hfits,
    (((OnlyTlRegs.refl _ t).add 1 (by simp)).set _ (by simp)).of_regs (holdRequest_stores ..)⟩

/-! ### CLAIM (R280) -/

/-- A claim is stored at its downlink with the current tick, and its value and its mark in the registers. -/
theorem claim_eq (now : Nat) (d : Bool) (v : Nat) (t : Tladon) :
    t.claim now d v = (t.modDl d fun x => { x with claimAt := some now }).sets
      [(if d then TR.LINK_CLAIM_B_CLAIM else TR.LINK_CLAIM_A_CLAIM, v),
        (if d then TR.LINK_STATUS_CLAIM_B else TR.LINK_STATUS_CLAIM_A, 1)] := by
  cases d <;> rfl

/-- Changing a downlink. -/
theorem dl_modDl_self {d : Bool} {t : Tladon} (h : b2n d < t.dls.length) (f : Downlink → Downlink) :
    (t.modDl d f).dl d = f (t.dl d) := by
  simp [modDl, dl, List.getD_eq_getElem?_getD, List.getElem?_eq_getElem h]

/-! ### REPLAY and RELINK (R258, R263) -/

/-- Changing an uplink. -/
theorem up_modUp_self {k : Nat} {t : Tladon} (h : k < t.ups.length) (f : Uplink → Uplink) :
    (t.modUp k f).up k = f (t.up k) := by
  simp [modUp, up, List.getD_eq_getElem?_getD, List.getElem?_eq_getElem h]

/-- REPLAY leaves the registers. -/
theorem replayCmd_regs (d : Bool) (k n : Nat) (t : Tladon) : (t.replayCmd d k n).regs = t.regs := by
  unfold replayCmd
  extract_lets j
  split <;> rfl

/-- RELINK leaves the registers. -/
theorem relinkCmd_regs (now : Nat) (d : Bool) (mask : Nat) (t : Tladon) : (t.relinkCmd now d mask).regs = t.regs := rfl

section replay

variable {d : Bool} {k : Nat} {t : Tladon} (hlen : k + 2 * b2n d < t.ups.length)

include hlen

/-- REPLAY of a block that the uplink holds queues it; of another it queues a NACK. -/
theorem replayCmd_queues (hactive : t.active.contains (k + 2 * b2n d) = true) (n : Nat) :
    ((t.up (k + 2 * b2n d)).held.contains (n % 128, false) = true →
      ((t.replayCmd d k n).up (k + 2 * b2n d)).replays = (t.up (k + 2 * b2n d)).replays ++ [n % 128]) ∧
    ((t.up (k + 2 * b2n d)).held.contains (n % 128, false) = false →
      ((t.replayCmd d k n).up (k + 2 * b2n d)).nacks = (t.up (k + 2 * b2n d)).nacks ++ [n % 128]) := by
  rw [replayCmd, if_pos hactive, up_modUp_self hlen]
  refine ⟨fun hheld => ?_, fun hlost => ?_⟩
  · rw [if_pos hheld]
  · rw [if_neg (by rw [hlost]; decide)]

/-- RELINK mutes a masked uplink of the downlink's copy to the end of the next frame. -/
theorem relinkCmd_mute {mask : Nat} (hmask : bit k (mask % 16) = true) (now : Nat) :
    ((t.relinkCmd now d mask).up (k + 2 * b2n d)).mute = now + 131072 - t.count now % 65536 := by
  simp [relinkCmd, up, List.getD_eq_getElem?_getD, List.getElem?_eq_getElem hlen, hmask]

end replay

end Tladon

/-- A register command from the obeyed downlink completes: it is counted and has its effect `f` with the next free
value, and the other Tladons stay. -/
theorem Runs.of_obeyed {c : Instr} {p op arg : Nat} {d : Bool} (f : Nat → Nat → Tladon → Tladon) {s : State}
    {post : State → Prop} (h : exec c s = s.tlCmd p fun now free t => t.gate' d op arg (f now free))
    (hop : op ∉ [0x0A, 0x10, 0x11]) (hheard : (s.tladon p).hears d = true) (hfrom : (s.tladon p).obeyed = some d)
    (hstate : (s.tladon p).allowed op arg = true)
    (hp : ∀ z, z.tladon p = f s.now (Config.freeValue s.freeCnt) ((s.tladon p).add TR.LINK_CMD_CNT_OBEYED 1) →
      z.freeCnt = s.freeCnt + 1 → (∀ q, q ≠ p → z.tladon q = s.tladon q) → post z) : Runs c s post := by
  obtain ⟨z, hz, hself, hfree, hother⟩ := State.tladon_tlCmd p (fun now free t => t.gate' d op arg (f now free)) s
  exact .of_exec (h.trans hz) (hp z (hself.trans (Tladon.gate'_of_obeyed _ hheard hop hfrom hstate)) hfree hother)

end Sys2Proof.Machine
end

section
/-! PROOF. The downlink commands (O11): one theorem for each clause. -/

namespace Sys2Proof.Machine

open Sys2Proof

/-- REG_WRITE writes and returns what then reads. -/
theorem regWrite_returns (p : Nat) (d : Bool) (tag a v : Nat) (s : State) :
    let t := s.tladon p
    let w := (t.add TR.LINK_CMD_CNT_OBEYED 1).write s.now a v
    t.hears d = true → t.obeyed = some d → t.allowed 0x01 a = true →
    Runs (.regWrite p d tag a v) s fun z =>
      z.tladon p = w.sendLow 1 (Tladon.regData tag a (w.peek s.now (Config.freeValue s.freeCnt) a)) ∧
      z.freeCnt = s.freeCnt + 1 ∧ ∀ q, q ≠ p → z.tladon q = s.tladon q := by
  intro t w hheard hfrom hstate
  exact .of_obeyed (fun now free => Tladon.regWrite now free tag a v) rfl (by decide) hheard hfrom hstate
    fun z hself hfree hother => ⟨hself, hfree, hother⟩

/-- REG_WRITE of MON_MASK stores the mask. -/
theorem regWrite_monMask (p : Nat) (d : Bool) (tag v : Nat) (s : State) :
    let t := s.tladon p
    t.hears d = true → t.obeyed = some d → t.allowed 0x01 TR.MON_MASK = true →
    Runs (.regWrite p d tag TR.MON_MASK v) s fun z =>
      (z.tladon p).get TR.MON_MASK_MASK = bits 15 0 v ∧
      OnlyTlRegs [TR.LINK_CMD_CNT_OBEYED, TR.MON_MASK_MASK] t (z.tladon p) := by
  intro t hheard hfrom hstate
  refine .of_obeyed (fun now free => Tladon.regWrite now free tag TR.MON_MASK v) rfl (by decide) hheard hfrom hstate
    fun z hself _ _ => ?_
  rw [hself, Tladon.regWrite, Tladon.write_monMask]
  refine ⟨?_, .sendLow 1 _ (.write false v (.add 1 (.refl _ t) (by simp)) (by simp))⟩
  rw [Tladon.get, Tladon.sendLow_regs]
  exact RegFile.get_write_of_mem false v (TR.regAt_fields (a := TR.MON_MASK) (by decide)) List.mem_cons_self _

/-- REG_READ returns the value and clears the RC fields. -/
theorem regRead_clears (p : Nat) (d : Bool) (tag a : Nat) (fs : List Fld) (s : State) :
    let t := s.tladon p
    t.hears d = true → t.obeyed = some d → t.allowed 0x02 a = true → t.fields a = some fs →
    a ≠ TR.TIME_COUNT_LO → a ≠ TR.SURVEY_RATIO_LO →
    Runs (.regRead p d tag a) s fun z =>
      (z.tladon p).regs = RegFile.clearRC fs (t.add TR.LINK_CMD_CNT_OBEYED 1).regs ∧
      (z.tladon p).ups = ({ t with regs := RegFile.clearRC fs (t.add TR.LINK_CMD_CNT_OBEYED 1).regs }.sendLow 1
        (Tladon.regData tag a ((t.add TR.LINK_CMD_CNT_OBEYED 1).peek s.now (Config.freeValue s.freeCnt) a))).ups ∧
      ∀ q, q ≠ p → z.tladon q = s.tladon q := by
  intro t hheard hfrom hstate hfields hcount hratio
  refine .of_obeyed (fun now free => Tladon.regRead now free tag a) rfl (by decide) hheard hfrom hstate
    fun z hself _ hother => ?_
  rw [hself, Tladon.regRead, Tladon.readEffect_clears (t := t.add TR.LINK_CMD_CNT_OBEYED 1) hfields hcount hratio]
  exact ⟨Tladon.sendLow_regs .., rfl, hother⟩

/-- REG_PEEK returns the value and changes no register. -/
theorem regPeek_returns (p : Nat) (d : Bool) (tag a : Nat) (s : State) :
    let t := s.tladon p
    t.hears d = true → t.obeyed = some d → t.allowed 0x03 a = true →
    Runs (.regPeek p d tag a) s fun z =>
      (z.tladon p).ups = ((t.add TR.LINK_CMD_CNT_OBEYED 1).sendLow 1
        (Tladon.regData tag a ((t.add TR.LINK_CMD_CNT_OBEYED 1).peek s.now (Config.freeValue s.freeCnt) a))).ups ∧
      OnlyTlRegs [TR.LINK_CMD_CNT_OBEYED] t (z.tladon p) ∧ ∀ q, q ≠ p → z.tladon q = s.tladon q := by
  intro t hheard hfrom hstate
  refine .of_obeyed (fun now free => Tladon.regPeek now free tag a) rfl (by decide) hheard hfrom hstate
    fun z hself _ hother => ?_
  rw [hself]
  exact ⟨rfl, .sendLow 1 _ (.add 1 (.refl _ t) (by simp)), hother⟩

/-- MON_SWEEP starts a sweep. -/
theorem monSweep_starts (p : Nat) (d : Bool) (n : Nat) (r : List Nat) (s : State) :
    let t := s.tladon p
    t.hears d = true → t.obeyed = some d → t.running = true → t.sweep = none →
    ((List.range 16).filter fun i => bit i (t.get TR.MON_MASK_MASK)) = n :: r →
    TlRuns (.monSweep p d) p s fun u =>
      u.sweep = some ⟨n :: r, s.now + 1, (t.count s.now + 1) % 2 ^ 42⟩ ∧
      OnlyTlRegs [TR.LINK_CMD_CNT_OBEYED, TR.MON_STATUS_BUSY, TR.MON_STATUS_SOURCE] t u := by
  intro t hheard hfrom hrun hnone hsrc
  obtain ⟨hrunning, hsources, -⟩ := t.obeyed_count_leaves 1
  have hcount : OnlyTlRegs [TR.LINK_CMD_CNT_OBEYED, TR.MON_STATUS_BUSY, TR.MON_STATUS_SOURCE] t
      (t.add TR.LINK_CMD_CNT_OBEYED 1) := .add 1 (.refl _ t) (by simp)
  exact .of_exec rfl rfl ((Tladon.gate'_of_obeyed (op := 0x05) (arg := 0) _ hheard (by decide) hfrom hrun).trans
    (Tladon.monStart_starts (hrunning.trans hrun) hnone (hsources.trans hsrc)))
    ⟨rfl, .sets _ (hcount.of_regs rfl) (by simp)⟩

/-- HOLD and RELEASE set the hold request. -/
theorem hold_release_request (p : Nat) (d : Bool) (s : State) :
    let t := s.tladon p
    t.hears d = true → t.obeyed = some d → t.allowed 0x06 0 = true →
    (TlRuns (.hold p d) p s fun u =>
      u.get TR.PAD_CTRL_HOLD = 1 ∧ OnlyTlRegs [TR.LINK_CMD_CNT_OBEYED, TR.PAD_CTRL_HOLD] t u) ∧
    TlRuns (.release p d) p s fun u =>
      u.get TR.PAD_CTRL_HOLD = 0 ∧ OnlyTlRegs [TR.LINK_CMD_CNT_OBEYED, TR.PAD_CTRL_HOLD] t u := by
  intro t hheard hfrom hstate
  exact ⟨.of_exec rfl rfl (Tladon.gate'_of_obeyed _ hheard (by decide) hfrom hstate)
      (Tladon.holdRequest_counted s.now true t),
    .of_exec rfl rfl (Tladon.gate'_of_obeyed _ hheard (by decide) hfrom hstate)
      (Tladon.holdRequest_counted s.now false t)⟩

/-- HOLD from a downlink that is not obeyed is refused and counted. -/
theorem hold_refused (p : Nat) (d : Bool) (s : State) :
    let t := s.tladon p
    t.hears d = true → t.obeyed ≠ some d →
    TlRuns (.hold p d) p s fun u =>
      u.get TR.LINK_CMD_CNT_REFUSED = min (t.get TR.LINK_CMD_CNT_REFUSED + 1) (TR.LINK_CMD_CNT_REFUSED.size - 1) ∧
      u.pad = t.pad ∧ OnlyTlRegs [TR.LINK_CMD_CNT_REFUSED] t u := by
  intro t hheard hfrom
  exact .of_exec rfl rfl (Tladon.gate'_of_not_obeyed _ hheard (by decide) hfrom)
    ⟨Tladon.get_add_self .., rfl, .add 1 (.refl _ t) (by simp)⟩

/-- CLAIM makes the claim of its downlink valid. -/
theorem claim_valid (p : Nat) (d : Bool) (v : Nat) (s : State) :
    let t := s.tladon p
    t.hears d = true → t.dls.length = 2 →
    TlRuns (.claim p d v) p s fun u =>
      (u.dl d).claimAt = some s.now ∧
      u.get (if d then TR.LINK_CLAIM_B_CLAIM else TR.LINK_CLAIM_A_CLAIM) = v % 2 ^ 32 ∧
      u.get (if d then TR.LINK_STATUS_CLAIM_B else TR.LINK_STATUS_CLAIM_A) = 1 ∧
      OnlyTlRegs [TR.LINK_CMD_CNT_OBEYED, if d then TR.LINK_CLAIM_B_CLAIM else TR.LINK_CLAIM_A_CLAIM,
        if d then TR.LINK_STATUS_CLAIM_B else TR.LINK_STATUS_CLAIM_A] t u := by
  intro t hheard hlen
  have hdl : b2n d < t.dls.length := by cases d <;> simp [b2n, hlen]
  have hkey : (if d then TR.LINK_CLAIM_B_CLAIM else TR.LINK_CLAIM_A_CLAIM).key ≠
      (if d then TR.LINK_STATUS_CLAIM_B else TR.LINK_STATUS_CLAIM_A).key := by cases d <;> decide
  have hvalue : (if d then TR.LINK_CLAIM_B_CLAIM else TR.LINK_CLAIM_A_CLAIM).size = 2 ^ 32 := by cases d <;> rfl
  have hmark : 1 % (if d then TR.LINK_STATUS_CLAIM_B else TR.LINK_STATUS_CLAIM_A).size = 1 := by cases d <;> rfl
  refine .of_exec rfl rfl ((Tladon.gate'_of_claim _ hheard).trans (Tladon.claim_eq ..)) ⟨?_, ?_, ?_, ?_⟩
  · exact congrArg Downlink.claimAt (Tladon.dl_modDl_self (t := t.add TR.LINK_CMD_CNT_OBEYED 1) hdl _)
  · rw [Tladon.sets_cons, Tladon.sets_cons, Tladon.sets_nil, Tladon.get_set_other hkey, Tladon.get_set_self, hvalue]
  · rw [Tladon.sets_cons, Tladon.sets_cons, Tladon.sets_nil, Tladon.get_set_self, hmark]
  · exact .sets _ (((OnlyTlRegs.refl _ t).add 1 (by simp)).of_regs rfl) (by simp)

/-- REPLAY queues the held block or a NACK. -/
theorem replay_queues (p : Nat) (d : Bool) (k n : Nat) (s : State) :
    let t := s.tladon p
    t.hears d = true → (d = false ∨ t.mirror = true) → t.allowed 0x10 0 = true →
    t.active.contains (k + 2 * b2n d) = true → k + 2 * b2n d < t.ups.length →
    TlRuns (.replay p d k n) p s fun u =>
      ((t.up (k + 2 * b2n d)).held.contains (n % 128, false) = true →
        (u.up (k + 2 * b2n d)).replays = (t.up (k + 2 * b2n d)).replays ++ [n % 128]) ∧
      ((t.up (k + 2 * b2n d)).held.contains (n % 128, false) = false →
        (u.up (k + 2 * b2n d)).nacks = (t.up (k + 2 * b2n d)).nacks ++ [n % 128]) ∧
      OnlyTlRegs [TR.LINK_CMD_CNT_OBEYED] t u := by
  intro t hheard hcopy hstate hactive hlen
  obtain ⟨-, -, huplinks⟩ := t.obeyed_count_leaves 1
  obtain ⟨hreplay, hnack⟩ := Tladon.replayCmd_queues (t := t.add TR.LINK_CMD_CNT_OBEYED 1) hlen (huplinks ▸ hactive) n
  exact .of_exec rfl rfl (Tladon.gate'_of_copy _ hheard (by decide) hcopy hstate)
    ⟨hreplay, hnack, .of_regs (.add 1 (.refl _ t) (by simp)) (Tladon.replayCmd_regs ..)⟩

/-- RELINK mutes the masked uplinks to the end of the next frame. -/
theorem relink_mutes (p : Nat) (d : Bool) (mask k : Nat) (s : State) :
    let t := s.tladon p
    t.hears d = true → (d = false ∨ t.mirror = true) → t.allowed 0x11 0 = true →
    bit k (mask % 16) = true → k + 2 * b2n d < t.ups.length →
    TlRuns (.relink p d mask) p s fun u =>
      (u.up (k + 2 * b2n d)).mute = s.now + 131072 - t.count s.now % 65536 ∧
      OnlyTlRegs [TR.LINK_CMD_CNT_OBEYED] t u := by
  intro t hheard hcopy hstate hmask hlen
  exact .of_exec rfl rfl (Tladon.gate'_of_copy _ hheard (by decide) hcopy hstate)
    ⟨Tladon.relinkCmd_mute (t := t.add TR.LINK_CMD_CNT_OBEYED 1) hlen hmask s.now,
      .of_regs (.add 1 (.refl _ t) (by simp)) (Tladon.relinkCmd_regs ..)⟩

/-- Settles O11, clause by clause. -/
theorem downlinkCommands : Obligations.DownlinkCommands :=
  ⟨regWrite_returns, regWrite_monMask, regRead_clears, regPeek_returns, monSweep_starts, hold_release_request,
    hold_refused, claim_valid, replay_queues, relink_mutes⟩

end Sys2Proof.Machine
end

section
/-! SUPPORT. The Paddock (spec/07): what a drain of a hit queue, the close and the release of a slot, a hold request and
a write of the configuration do (O9). -/

namespace Sys2Proof.Machine

open Sys2Proof

/-- 1 stands for true. -/
theorem b2n_eq_one_iff {b : Bool} : b2n b = 1 ↔ b = true := by cases b <;> decide

namespace Tladon

/-! ### Slots (R211) -/

/-- Slots follow SLOT_SHIFT; commands that leave it leave every tick in its slot. -/
theorem slotOf_of_onlyTlRegs {l : List Fld} {t u : Tladon} (h : OnlyTlRegs l t u)
    (hl : ∀ f ∈ l, TR.TIME_CTRL_SLOT_SHIFT.key ≠ f.key) (tick : Nat) : u.slotOf tick = t.slotOf tick := by
  rw [slotOf, slotShift, h _ hl, ← slotShift, ← slotOf]

/-- The counts of a group stand above the registers of the Paddock as a whole. -/
theorem key_ne_group {f h : Fld} {g : Nat} (hf : f.addr = TR.PAD_GRP g) (haddr : h.addr < TR.PAD_GRP 0)
    (hlo : h.lo < 32) : h.key ≠ f.key := Fld.key_ne_of_addr_lt (hf ▸ Nat.lt_add_right _ haddr) hlo

/-- What leaves the slots of the Paddock leaves each slot. -/
theorem slot_of_slots {t u : Tladon} (h : u.pad.slots = t.pad.slots) (k : Nat) : u.slot k = t.slot k :=
  congrArg (SMap.getD Slot.empty k) h

/-! ### Draining (R208, R210, R211, R213) -/

/-- A drain of group `g` has taken the oldest word of channel `c`: `r` is left, and the turn passes on (R210). -/
def takeWord (g c : Nat) (r : List HWord) (t : Tladon) : Tladon :=
  (t.modChan c fun x => { x with q := r }).modPad fun p => { p with
    rr := p.rr.mapIdx fun i v => if i = g then (c % 64 + 1) % 64 else v }

/-- A word joins its slot, and HWM keeps the largest fill (R211). -/
def storeWord (w : HWord) (t : Tladon) : Tladon :=
  let u := t.modSlot (t.slotOf w.tick) fun x => { x with words := x.words ++ [w] }
  { u with regs := u.regs.raise TR.PAD_HWM_HWM u.fill }

/-- The taken word leaves its queue; the other channels and the registers stay. -/
theorem takeWord_onlyChan (g c : Nat) (r : List HWord) (l : List Fld) (t : Tladon) :
    ((t.takeWord g c r).chan c).q = r ∧ OnlyChan c l t (t.takeWord g c r) :=
  ⟨congrArg Chan.q (chan_modChan_self c (fun x => { x with q := r }) t),
    .of_eq ((OnlyChan.refl c l t).modChan fun x => { x with q := r }) rfl rfl⟩

/-- A corrected word is counted; that leaves what taking it left, but for the count. -/
theorem countTaken_leaves (g c : Nat) (r : List HWord) (corrected : Bool) (t : Tladon) :
    (((t.takeWord g c r).countIf corrected (TR.PAD_GRP_CORR g)).chan c).q = r ∧
    OnlyChan c [TR.PAD_GRP_CORR g] t ((t.takeWord g c r).countIf corrected (TR.PAD_GRP_CORR g)) := by
  obtain ⟨htaken, honly⟩ := t.takeWord_onlyChan g c r [TR.PAD_GRP_CORR g]
  refine ⟨?_, honly.countIf corrected (by simp)⟩
  cases corrected <;> exact htaken

/-- A stored word stands last in the slot of its tick; the other slots stay, and of the registers HWM alone may
change. -/
theorem storeWord_slot (w : HWord) (t : Tladon) :
    (t.storeWord w).slot (t.slotOf w.tick) =
      { t.slot (t.slotOf w.tick) with words := (t.slot (t.slotOf w.tick)).words ++ [w] } ∧
    (∀ k, k ≠ t.slotOf w.tick → (t.storeWord w).slot k = t.slot k) ∧
    (∀ c, (t.storeWord w).chan c = t.chan c) ∧ OnlyTlRegs [TR.PAD_HWM_HWM] t (t.storeWord w) :=
  ⟨slot_modSlot_self .., fun _ hk => slot_modSlot_other hk _ t, fun _ => rfl,
    .set (f := TR.PAD_HWM_HWM) _ (.of_regs (u := t.modSlot ..) (.refl _ t) rfl) (by simp)⟩

section drain

variable {now g c : Nat} {w : HWord} {r : List HWord} {t : Tladon} (hfrom : t.drainFrom g = some c)
  (hqueue : (t.chan c).q = w :: r)

include hfrom hqueue

/-- A drain of a readable word stores it while there is room, and counts a corrected one (R210, R211). -/
theorem drain_readable {err : Nat} (herr : err < 2) (hroom : t.fill < 98304) :
    t.drain now g err = ((t.takeWord g c r).countIf (err == 1) (TR.PAD_GRP_CORR g)).storeWord w := by
  have hfill : ((t.takeWord g c r).countIf (err == 1) (TR.PAD_GRP_CORR g)).fill = t.fill := by simp [fill, takeWord]
  rw [countIf] at hfill ⊢
  simp only [beq_iff_eq] at hfill ⊢
  simp only [drain, hfrom, hqueue, if_neg (Nat.ne_of_lt herr)]
  exact if_neg (hfill ▸ Nat.not_le.2 hroom)

/-- A drain of an uncorrectable word counts it and marks the oldest open slot (R213). -/
theorem drain_uncorrectable :
    t.drain now g 2 = ((t.takeWord g c r).add (TR.PAD_GRP_UNCORR g) 1).modSlot (t.oldestOpen now)
      fun x => { x with loss := true } := by
  simp only [drain, hfrom, hqueue, if_true]
  rfl

end drain

/-! ### Closing and release (R212, R214) -/

/-- In triggered operation a slot whose time has come closes with its words in the order of R212. -/
theorem slotClose_triggered {now k : Nat} {t : Tladon} (hstate : t.state = 3)
    (hpassed : t.passed now ((t.slotTick (k + 1) + 2560) % 2 ^ 42) = true) (hopen : (t.slot k).closed = false)
    (hmode : t.get TR.PAD_CFG_MODE = 0) (corr : Nat) (bad : List Nat) :
    t.slotClose now k corr bad =
      t.modSlot k fun x => { x with closed := true, words := sortBy wordBefore x.words } := by
  rw [slotClose, if_pos ⟨hstate, hpassed, hopen⟩]
  exact if_neg (ne_true_of_eq_false (on_eq_false.2 hmode))

/-- A closed slot that no word on its way and no accept needs is released once it is old enough. -/
theorem slotRelease_unneeded {now k : Nat} {t : Tladon} (hclosed : (t.slot k).closed = true)
    (hpins : (t.slot k).pins = 0) (hold : 0 < dist (t.count now) ((t.slotTick k + 31 + 65536) % 2 ^ 42)) (hacc : t.pad.accQ = []) :
    t.slotRelease now k = t.modPad fun p => { p with slots := SMap.erase k p.slots } := by
  simp only [slotRelease, hclosed, hpins, hold, hacc, List.any_nil, beq_self_eq_true, decide_true, Bool.or_true,
    Bool.and_true, Bool.not_false, if_true]

/-- A released slot reads as an open one without words; the others stay. -/
theorem slot_erase (k : Nat) (t : Tladon) :
    (t.modPad fun p => { p with slots := SMap.erase k p.slots }).slot k = Slot.empty ∧
    ∀ j, j ≠ k → (t.modPad fun p => { p with slots := SMap.erase k p.slots }).slot j = t.slot j :=
  ⟨congrArg (Option.getD · Slot.empty) (SMap.find_erase_self k t.pad.slots),
    fun _ hj => congrArg (Option.getD · Slot.empty) (SMap.find_erase_other hj t.pad.slots)⟩

/-! ### Hold and configuration (R218, R235, R243) -/

/-- The requested hold takes effect at its slot boundary. -/
theorem holdChange_due {now d : Nat} {t : Tladon} (hdue : t.pad.holdDue = some d) (hnow : d ≤ now) :
    t.holdChange now =
      (t.set TR.PAD_STATUS_HOLD (t.get TR.PAD_CTRL_HOLD)).modPad fun p => { p with holdDue := none } := by
  simp only [holdChange, hdue, if_pos hnow]

/-- In ACQUIRING the configuration is closed. -/
theorem padConfig_acquiring {t : Tladon} (h : t.state = 3) (a v : Nat) :
    t.padConfig a v = t.set TR.PAD_STATUS_WR_IGNORED 1 := if_pos h

/-- The fields of PAD_WIN. -/
def padWinFields : List Fld := [TR.PAD_WIN_W_PRE, TR.PAD_WIN_W_POST]

/-- PAD_WIN holds the two lengths of the window. -/
theorem regAt_padWin : regAt TR.rows TR.PAD_WIN = some padWinFields := by decide

/-- Outside ACQUIRING a write to PAD_WIN stores the window and shows whether it is too long or empty. -/
theorem padConfig_win {t : Tladon} (h : t.state ≠ 3) (v : Nat) :
    t.padConfig TR.PAD_WIN v =
      let w : Tladon := { t with regs := t.regs.write false padWinFields v }
      w.set TR.PAD_STATUS_CFG_ERR (b2n (decide (4096 < w.get TR.PAD_WIN_W_PRE + w.get TR.PAD_WIN_W_POST)
        || w.get TR.PAD_WIN_W_POST == 0)) := by
  rw [padConfig, if_neg h, regAt_padWin]

/-- A written window reads back. -/
theorem get_write_padWin {f : Fld} (hf : f ∈ padWinFields) (v : Nat) (t : Tladon) :
    get f { t with regs := t.regs.write false padWinFields v } = bits f.hi f.lo v := by
  have hacc : ∀ f ∈ padWinFields, f.acc = .rw := by decide
  refine (RegFile.get_write_of_mem false v (TR.regAt_fields regAt_padWin) hf t.regs).trans ?_
  rw [RegFile.written, hacc f hf]

end Tladon

end Sys2Proof.Machine
end

section
/-! PROOF. The Paddock's intake (O9): one theorem for each clause. -/

namespace Sys2Proof.Machine

open Sys2Proof

/-! ### Draining -/

/-- A readable word goes from its queue to its slot. -/
theorem hitQueueDrain_stores (p g c : Nat) (w : HWord) (r : List HWord) (err : Nat) (s : State) :
    let t := s.tladon p
    t.drainFrom g = some c → (t.chan c).q = w :: r → err < 2 → t.fill < 98304 →
    TlRuns (.hitQueueDrain p g err) p s fun u =>
      (u.chan c).q = r ∧ (∀ d, d ≠ c → u.chan d = t.chan d) ∧
      u.slot (t.slotOf w.tick) = { t.slot (t.slotOf w.tick) with words := (t.slot (t.slotOf w.tick)).words ++ [w] } ∧
      (∀ k, k ≠ t.slotOf w.tick → u.slot k = t.slot k) ∧
      (err = 1 → u.get (TR.PAD_GRP_CORR g) = min (t.get (TR.PAD_GRP_CORR g) + 1) ((TR.PAD_GRP_CORR g).size - 1)) ∧
      (err = 0 → u.get (TR.PAD_GRP_CORR g) = t.get (TR.PAD_GRP_CORR g)) ∧
      OnlyTlRegs [TR.PAD_GRP_CORR g, TR.PAD_HWM_HWM] t u := by
  intro t hfrom hqueue herr hroom
  obtain ⟨htaken, hchans, hregs⟩ := t.countTaken_leaves g c r (err == 1)
  have hshift := Tladon.slotOf_of_onlyTlRegs hregs
    (by simpa using Tladon.key_ne_group rfl (by decide) (by decide)) w.tick
  obtain ⟨hslot, hothers, hchan, hhwm⟩ := ((t.takeWord g c r).countIf (err == 1) (TR.PAD_GRP_CORR g)).storeWord_slot w
  rw [hshift] at hslot hothers
  have hcorr := hhwm (TR.PAD_GRP_CORR g) (by simpa using (Tladon.key_ne_group rfl (by decide) (by decide)).symm)
  have hslots (k : Nat) : ((t.takeWord g c r).countIf (err == 1) (TR.PAD_GRP_CORR g)).slot k = t.slot k :=
    Tladon.slot_of_slots (by simp [Tladon.takeWord]) k
  refine .of_exec rfl rfl (Tladon.drain_readable hfrom hqueue herr hroom)
    ⟨(congrArg Chan.q (hchan c)).trans htaken, fun d hd => (hchan d).trans (hchans d hd), hslot.trans (by rw [hslots]),
      fun k hk => (hothers k hk).trans (hslots k), ?_, ?_, (hregs.mono (by simp)).trans (hhwm.mono (by simp))⟩
  · rintro rfl
    exact hcorr.trans (Tladon.get_add_self ..)
  · rintro rfl
    exact hcorr

/-- An uncorrectable word is counted, and marks the oldest open slot. -/
theorem hitQueueDrain_marks (p g c : Nat) (w : HWord) (r : List HWord) (s : State) :
    let t := s.tladon p
    t.drainFrom g = some c → (t.chan c).q = w :: r →
    TlRuns (.hitQueueDrain p g 2) p s fun u =>
      (u.chan c).q = r ∧ (u.slot (t.oldestOpen s.now)).loss = true ∧
      (u.slot (t.oldestOpen s.now)).words = (t.slot (t.oldestOpen s.now)).words ∧
      u.get (TR.PAD_GRP_UNCORR g) = min (t.get (TR.PAD_GRP_UNCORR g) + 1) ((TR.PAD_GRP_UNCORR g).size - 1) ∧
      OnlyTlRegs [TR.PAD_GRP_UNCORR g] t u := by
  intro t hfrom hqueue
  obtain ⟨htaken, -, hregs⟩ := t.takeWord_onlyChan g c r [TR.PAD_GRP_UNCORR g]
  have hslot := Tladon.slot_modSlot_self (t.oldestOpen s.now) (fun x => { x with loss := true })
    ((t.takeWord g c r).add (TR.PAD_GRP_UNCORR g) 1)
  have hwords := congrArg Slot.words hslot
  exact .of_exec rfl rfl (Tladon.drain_uncorrectable hfrom hqueue)
    ⟨htaken, congrArg Slot.loss hslot, hwords, Tladon.get_add_self ..,
      (hregs.add 1 (by simp)).of_regs rfl⟩

/-! ### Closing and release -/

/-- A slot whose time has come closes. -/
theorem slotClose_closes (p k corr : Nat) (bad : List Nat) (s : State) :
    let t := s.tladon p
    t.state = 3 → t.passed s.now ((t.slotTick (k + 1) + 2560) % 2 ^ 42) = true → (t.slot k).closed = false →
    t.get TR.PAD_CFG_MODE = 0 →
    TlRuns (.slotClose p k corr bad) p s fun u =>
      u.slot k = { t.slot k with closed := true, words := sortBy Tladon.wordBefore (t.slot k).words } ∧
      (∀ j, j ≠ k → u.slot j = t.slot j) ∧ OnlyTlRegs [] t u := by
  intro t hstate hpassed hopen hmode
  exact .of_exec rfl rfl (Tladon.slotClose_triggered hstate hpassed hopen hmode corr bad)
    ⟨Tladon.slot_modSlot_self .., fun j hj => Tladon.slot_modSlot_other hj _ t, .of_regs (.refl _ t) rfl⟩

/-- A closed slot that nothing needs is released. -/
theorem slotRelease_releases (p k : Nat) (s : State) :
    let t := s.tladon p
    (t.slot k).closed = true → (t.slot k).pins = 0 →
    0 < Tladon.dist (t.count s.now) ((t.slotTick k + 31 + 65536) % 2 ^ 42) → t.pad.accQ = [] →
    TlRuns (.slotRelease p k) p s fun u =>
      u.slot k = Slot.empty ∧ (∀ j, j ≠ k → u.slot j = t.slot j) ∧ OnlyTlRegs [] t u := by
  intro t hclosed hpins hold hacc
  obtain ⟨hself, hother⟩ := t.slot_erase k
  exact .of_exec rfl rfl (Tladon.slotRelease_unneeded hclosed hpins hold hacc)
    ⟨hself, hother, .of_regs (.refl _ t) rfl⟩

/-! ### Hold and configuration -/

/-- A hold request shows and waits for the next slot boundary. -/
theorem padCtrlWrite_requests (p : Nat) (hold : Bool) (s : State) :
    let t := s.tladon p
    TlRuns (.padCtrlWrite p hold) p s fun u =>
      u.get TR.PAD_CTRL_HOLD = b2n hold ∧
      u.pad.holdDue = some (s.now + (Tladon.dist (t.slotTick (t.slotOf (t.count s.now) + 1)) (t.count s.now)).toNat) ∧
      OnlyTlRegs [TR.PAD_CTRL_HOLD] t u := by
  intro t
  exact .of_exec rfl rfl rfl ⟨Tladon.get_set_flag (f := TR.PAD_CTRL_HOLD) rfl hold t, rfl,
    .of_regs (.set (b2n hold) (.refl _ t) (by simp)) (Tladon.holdRequest_stores s.now hold t)⟩

/-- STATUS takes the requested hold. -/
theorem padHoldChange_takes (p d : Nat) (s : State) :
    let t := s.tladon p
    t.pad.holdDue = some d → d ≤ s.now →
    TlRuns (.padHoldChange p) p s fun u =>
      u.get TR.PAD_STATUS_HOLD = t.get TR.PAD_CTRL_HOLD % 2 ∧ u.pad.holdDue = none ∧
      OnlyTlRegs [TR.PAD_STATUS_HOLD] t u := by
  intro t hdue hnow
  exact .of_exec rfl rfl (Tladon.holdChange_due hdue hnow)
    ⟨Tladon.get_set_self TR.PAD_STATUS_HOLD _ t, rfl, .of_regs (.set _ (.refl _ t) (by simp)) rfl⟩

/-- In ACQUIRING a configuration write is ignored with its flag. -/
theorem padConfigWrite_ignored (p a v : Nat) (s : State) :
    let t := s.tladon p
    t.state = 3 →
    TlRuns (.padConfigWrite p a v) p s fun u =>
      u.get TR.PAD_STATUS_WR_IGNORED = 1 ∧ OnlyTlRegs [TR.PAD_STATUS_WR_IGNORED] t u := by
  intro t hstate
  exact .of_exec rfl rfl (Tladon.padConfig_acquiring hstate a v)
    ⟨Tladon.get_set_self .., .set 1 (.refl _ t) (by simp)⟩

/-- Outside ACQUIRING a write to PAD_WIN is taken, and CFG_ERR shows a window that is too long or empty. -/
theorem padConfigWrite_window (p v : Nat) (s : State) :
    let t := s.tladon p
    t.state ≠ 3 →
    TlRuns (.padConfigWrite p TR.PAD_WIN v) p s fun u =>
      u.get TR.PAD_WIN_W_PRE = bits 27 16 v ∧ u.get TR.PAD_WIN_W_POST = bits 12 0 v ∧
      (u.get TR.PAD_STATUS_CFG_ERR = 1 ↔ 4096 < bits 27 16 v + bits 12 0 v ∨ bits 12 0 v = 0) ∧
      OnlyTlRegs [TR.PAD_WIN_W_PRE, TR.PAD_WIN_W_POST, TR.PAD_STATUS_CFG_ERR] t u := by
  intro t hstate
  have hpre := Tladon.get_write_padWin (f := TR.PAD_WIN_W_PRE) (by decide) v t
  have hpost := Tladon.get_write_padWin (f := TR.PAD_WIN_W_POST) (by decide) v t
  refine .of_exec rfl rfl (Tladon.padConfig_win hstate v)
    ⟨(Tladon.get_set_other (by decide) _ _).trans hpre, (Tladon.get_set_other (by decide) _ _).trans hpost, ?_,
      .set _ (.write false v (.refl _ t) (by simp [Tladon.padWinFields])) (by simp)⟩
  rw [Tladon.get_set_flag rfl, hpre, hpost, b2n_eq_one_iff, Bool.or_eq_true, decide_eq_true_iff, beq_iff_eq]
  rfl

/-- Settles O9, clause by clause. -/
theorem paddockIntake : Obligations.PaddockIntake :=
  ⟨hitQueueDrain_stores, hitQueueDrain_marks, slotClose_closes, slotRelease_releases, padCtrlWrite_requests,
    padHoldChange_takes, padConfigWrite_ignored, padConfigWrite_window⟩

end Sys2Proof.Machine
end

section
/-! SUPPORT. The downlink receivers of a Tladon (spec/08): what a cell does in and out of cell lock, and what the loss
of lock and the end of a claim leave (O13). -/

namespace Sys2Proof.Machine

open Sys2Proof

/-- A cell of downlink `d` completes with what it makes of its Tladon; the other Tladons stay. -/
theorem Runs.of_cell {p w raw : Nat} {d : Bool} {s : State} {u : Tladon} {post : State → Prop}
    (hu : ∀ free, (s.tladon p).cell s.now free d w raw = u)
    (hp : ∀ z, z.tladon p = u → (∀ q, q ≠ p → z.tladon q = s.tladon q) → post z) :
    Runs (.downlinkCellRx p d w raw) s post := by
  obtain ⟨z, hz, hself, -, hother⟩ := State.tladon_tlCmd p (fun now free t => t.cell now free d w raw) s
  exact .of_exec hz (hp z (hself.trans (hu _)) hother)

namespace Tladon

/-! ### The registers of a downlink -/

/-- The mark of cell lock of a downlink. -/
def lockFld (d : Bool) : Fld := if d then TR.LINK_STATUS_LOCK_B else TR.LINK_STATUS_LOCK_A

/-- The mark of a valid claim of a downlink. -/
def claimFld (d : Bool) : Fld := if d then TR.LINK_STATUS_CLAIM_B else TR.LINK_STATUS_CLAIM_A

/-- Cell lock is its mark. -/
theorem cellLock_eq (d : Bool) (t : Tladon) : t.cellLock d = t.on (lockFld d) := rfl

/-- The mark of cell lock stands apart from that of the claim. -/
theorem claimFld_key_ne_lockFld (d : Bool) : (claimFld d).key ≠ (lockFld d).key := by cases d <;> decide

/-- A cleared mark reads 0. -/
theorem get_set_zero (f : Fld) (t : Tladon) : (t.set f 0).get f = 0 := (get_set_self f 0 t).trans (Nat.zero_mod _)

/-- A downlink whose data are not those of an idle one is one of the Tladon's. -/
theorem dl_lt_of_ne_idle {d : Bool} {t : Tladon} (h : t.dl d ≠ Downlink.idle) : b2n d < t.dls.length :=
  Decidable.byContradiction fun hlen => h (by
    rw [dl, List.getD_eq_getElem?_getD, List.getElem?_eq_none (Nat.not_lt.1 hlen), Option.getD_none])

/-- A downlink with CDR lock is one of the Tladon's. -/
theorem dl_lt_of_cdr {d : Bool} {t : Tladon} (h : (t.dl d).cdr = true) : b2n d < t.dls.length :=
  dl_lt_of_ne_idle fun e => by rw [e] at h; exact nomatch h

/-- Both downlinks of a Tladon with two are its own. -/
theorem dl_lt_of_two {t : Tladon} (h : t.dls.length = 2) (d : Bool) : b2n d < t.dls.length := by
  cases d <;> simp [b2n, h]

/-! ### Loss of cell lock (R268, R280) -/

/-- A lost lock with no command in progress ends the claim and starts the counts of cells again. -/
theorem loseLock_idle {d : Bool} {t : Tladon} (hlen : b2n d < t.dls.length) (hcmd : (t.dl d).cmd = none) :
    t.loseLock d = ((t.dropClaim d).set (lockFld d) 0).modDl d fun x => { x with good := 0, bad := 0 } := by
  have hnone : (((t.dropClaim d).set (lockFld d) 0).dl d).cmd = none :=
    (congrArg Downlink.cmd (dl_modDl_self hlen _)).trans hcmd
  rw [loseLock, ← lockFld]
  simp only [hnone]

/-- A lost lock with no command in progress clears the marks of the lock and the claim, and no other register. -/
theorem loseLock_clears {d : Bool} {t : Tladon} (hlen : b2n d < t.dls.length) (hcmd : (t.dl d).cmd = none) :
    (t.loseLock d).cellLock d = false ∧ (t.loseLock d).get (claimFld d) = 0 ∧
    (t.loseLock d).dls.length = t.dls.length ∧ OnlyTlRegs [lockFld d, claimFld d] t (t.loseLock d) := by
  rw [loseLock_idle hlen hcmd]
  refine ⟨(cellLock_eq d _).trans (on_eq_false.2 (get_set_zero ..)),
    (get_set_other (claimFld_key_ne_lockFld d) 0 _).trans (get_set_zero (claimFld d) (t.modDl d _)),
    (List.length_mapIdx ..).trans (List.length_mapIdx ..), ?_⟩
  have hclaim : OnlyTlRegs [lockFld d, claimFld d] t (t.dropClaim d) :=
    .set (f := claimFld d) 0 (.of_regs (u := t.modDl d _) (.refl _ t) rfl) (by simp)
  exact (hclaim.set 0 (by simp)).of_regs rfl

/-- Cell lock, if there was any, has ended: what stands before CDR lock is cleared. -/
theorem endLock_clears {d : Bool} {t : Tladon} (hlen : b2n d < t.dls.length) (hcmd : (t.dl d).cmd = none) :
    let u := if t.cellLock d then t.loseLock d else t
    b2n d < u.dls.length ∧ u.cellLock d = false ∧ OnlyTlRegs [lockFld d, claimFld d] t u := by
  intro u
  by_cases hlock : t.cellLock d = true
  · obtain ⟨hlost, -, hdls, hregs⟩ := loseLock_clears hlen hcmd
    have hu : u = t.loseLock d := if_pos hlock
    rw [hu]
    exact ⟨hdls ▸ hlen, hlost, hregs⟩
  · have hu : u = t := if_neg hlock
    rw [hu]
    exact ⟨hlen, eq_false_of_ne_true hlock, .refl _ t⟩

/-- A claim that no CLAIM has renewed for 4,096 Datum cycles ends. -/
theorem claimExpiry_due {now at' : Nat} {d : Bool} {t : Tladon} (hclaim : (t.dl d).claimAt = some at')
    (hdue : at' + 131072 ≤ now) : t.claimExpiry now d = t.dropClaim d := by
  simp only [claimExpiry, hclaim, if_pos hdue]

/-! ### Cells (R267, R268) -/

section cell

variable {w : Nat} {d : Bool} {t : Tladon} (hpowered : t.powered = true) (hstate : t.state ≠ 0)
  (hcdr : (t.dl d).cdr = true)

include hpowered hstate hcdr

/-- The receiver of a downlink with CDR lock runs in every state but POWERED. -/
theorem receives : (t.powered && t.state != 0 && (t.dl d).cdr) = true := by simp [hpowered, hstate, hcdr]

/-- Outside cell lock the sixteenth good cell in a row gives cell lock. -/
theorem cell_locks (hlock : t.cellLock d = false) (hcell : goodCell w = true) (hgood : (t.dl d).good = 15)
    (now free raw : Nat) :
    t.cell now free d w raw = (t.modDl d fun x => { x with good := 0, bad := 0 }).set (lockFld d) 1 := by
  rw [cell, if_pos (receives hpowered hstate hcdr)]
  simp [hlock, hcell, hgood, lockFld]

/-- In cell lock a failing cell that is not the eighth in a row is counted. -/
theorem cell_fails (hlock : t.cellLock d = true) (hcell : goodCell w = false) (hbad : (t.dl d).bad + 1 ≠ 8)
    (now free raw : Nat) :
    t.cell now free d w raw = (t.add (errUncorr d) 1).modDl d fun x => { x with bad := (t.dl d).bad + 1 } := by
  rw [cell, if_pos (receives hpowered hstate hcdr), if_pos hlock, if_neg (ne_true_of_eq_false hcell)]
  exact if_neg hbad

/-- In cell lock the eighth failing cell in a row ends the lock. -/
theorem cell_loses (hlock : t.cellLock d = true) (hcell : goodCell w = false) (hbad : (t.dl d).bad = 7)
    (now free raw : Nat) : t.cell now free d w raw = (t.add (errUncorr d) 1).loseLock d := by
  rw [cell, if_pos (receives hpowered hstate hcdr), if_pos hlock, if_neg (ne_true_of_eq_false hcell)]
  exact if_pos (congrArg (· + 1) hbad)

/-- In cell lock a good cell is counted when it is corrected, and its contents are taken. -/
theorem cell_decodes {data : Nat} {corr : Bool} (hlock : t.cellLock d = true) (hcell : goodCell w = true)
    (hdecode : decodeCell w = some (data, corr)) (now free raw : Nat) :
    t.cell now free d w raw =
      ((t.modDl d fun x => { x with bad := 0 }).countIf corr (errCorr d)).cellBody now free d data raw := by
  rw [cell, if_pos (receives hpowered hstate hcdr), if_pos hlock, if_pos hcell]
  simp only [hdecode]
  rfl

end cell

section body

variable {d : Bool} {data : Nat} {t : Tladon} (hmark : bit 37 data = false) (hcmd : (t.dl d).cmd = none)

include hmark hcmd

/-- A cell without a marker and without a command brings its accept, from the obeyed downlink only (R26, R269). -/
theorem cellBody_accept (hstart : bit 32 data = false) (now free raw : Nat) :
    t.cellBody now free d data raw = t.modPad fun x => { x with
      arriving := x.arriving ++ if bit 54 data ∧ t.obeyed = some d then [(now + 32, bits 53 38 data)] else [] } := by
  have hcmd' (f : Paddock → Paddock) : ((t.modPad f).dl d).cmd = none := hcmd
  by_cases haccept : bit 54 data ∧ t.obeyed = some d
  · simp only [cellBody, hmark, hstart, commandWord, if_pos haccept, hcmd', Bool.false_eq_true, if_false]
  · simp only [cellBody, hmark, hstart, commandWord, if_neg haccept, hcmd, Bool.false_eq_true, if_false,
      List.append_nil]
    rfl

/-- A cell that starts a command of a known opcode opens it, from the tick at which the cell began (R271, R272). -/
theorem cellBody_start {n : Nat} (haccept : bit 54 data = false) (hstart : bit 32 data = true)
    (hop : cmdCells (bits 31 24 (bits 31 0 data)) = some n) (now free raw : Nat) :
    t.cellBody now free d data raw = t.modDl d fun x => { x with cmd := some ⟨[bits 31 0 data], now - 32⟩ } := by
  simp [cellBody, hmark, haccept, hstart, commandWord, hcmd, hop]

end body

/-- What stands when the contents of a good cell are taken: of the Tladon only the count of its failing cells and,
where it was corrected, CORR have changed. -/
theorem goodCell_counted {d : Bool} {t : Tladon} (hcdr : (t.dl d).cdr = true) (corr : Bool) :
    let u := (t.modDl d fun x => { x with bad := 0 }).countIf corr (errCorr d)
    u.dl d = { t.dl d with bad := 0 } ∧ u.pad = t.pad ∧ u.obeyed = t.obeyed ∧ u.dls.length = t.dls.length ∧
    (corr = true → u.get (errCorr d) = min (t.get (errCorr d) + 1) ((errCorr d).size - 1)) ∧
    OnlyTlRegs (if corr then [errCorr d] else []) t u := by
  intro u
  have hdl : (t.modDl d fun x => { x with bad := 0 }).dl d = { t.dl d with bad := 0 } :=
    dl_modDl_self (dl_lt_of_cdr hcdr) _
  have hlen : (t.modDl d fun x => { x with bad := 0 }).dls.length = t.dls.length := List.length_mapIdx ..
  cases corr with
  | false => exact ⟨hdl, rfl, rfl, hlen, nofun, .of_regs (.refl _ t) rfl⟩
  | true =>
    exact ⟨hdl, rfl, rfl, hlen, fun _ => get_add_self (errCorr d) 1 _,
      .add (s := t) 1 (.of_regs (.refl _ t) rfl) (by simp)⟩

/-- In LISTENING and CONFIGURED a write of LINK_CFG waits for the next frame boundary. -/
theorem linkCfg_waits {t : Tladon} (h : t.state = 1 ∨ t.state = 2) (now v : Nat) :
    t.linkCfg now v =
      { t with linkDue := some (v, if t.locked then now + (65536 - t.count now % 65536) else now) } :=
  if_pos (by simpa using h)

end Tladon

end Sys2Proof.Machine
end

section
/-! PROOF. The downlink receivers of a Tladon (O13): one theorem for each clause. -/

namespace Sys2Proof.Machine

open Sys2Proof

/-! ### Cells -/

/-- The sixteenth good cell in a row gives cell lock. -/
theorem downlinkCellRx_locks (p : Nat) (d : Bool) (w raw : Nat) (s : State) :
    let t := s.tladon p
    t.powered = true → t.state ≠ 0 → (t.dl d).cdr = true → t.cellLock d = false → Tladon.goodCell w = true →
    (t.dl d).good = 15 →
    Runs (.downlinkCellRx p d w raw) s fun z => let u := z.tladon p
      u.cellLock d = true ∧ OnlyTlRegs [Tladon.lockFld d] t u ∧ ∀ q, q ≠ p → z.tladon q = s.tladon q := by
  intro t hpowered hstate hcdr hlock hcell hgood
  have hone : 1 % (Tladon.lockFld d).size = 1 := by cases d <;> rfl
  refine .of_cell (Tladon.cell_locks hpowered hstate hcdr hlock hcell hgood s.now · raw) fun z hself hother => ?_
  rw [hself]
  refine ⟨(Tladon.cellLock_eq d _).trans (Tladon.on_eq_true.2 ?_),
    .set (s := t) 1 (.of_regs (.refl _ t) rfl) (by simp), hother⟩
  rw [Tladon.get_set_self, hone]
  exact Nat.one_ne_zero

/-- A failing cell in cell lock counts in UNCORR. -/
theorem downlinkCellRx_counts (p : Nat) (d : Bool) (w raw : Nat) (s : State) :
    let t := s.tladon p
    t.powered = true → t.state ≠ 0 → (t.dl d).cdr = true → t.cellLock d = true → Tladon.goodCell w = false →
    t.dls.length = 2 → (t.dl d).bad + 1 ≠ 8 →
    Runs (.downlinkCellRx p d w raw) s fun z => let u := z.tladon p
      u.get (Tladon.errUncorr d) = min (t.get (Tladon.errUncorr d) + 1) ((Tladon.errUncorr d).size - 1) ∧
      (u.dl d).bad = (t.dl d).bad + 1 ∧ u.pad = t.pad ∧
      OnlyTlRegs [Tladon.errUncorr d] t u ∧ ∀ q, q ≠ p → z.tladon q = s.tladon q := by
  intro t hpowered hstate hcdr hlock hcell hlen hbad
  refine .of_cell (Tladon.cell_fails hpowered hstate hcdr hlock hcell hbad s.now · raw) fun z hself hother => ?_
  rw [hself]
  exact ⟨Tladon.get_add_self .., congrArg Downlink.bad
    (Tladon.dl_modDl_self (t := t.add (Tladon.errUncorr d) 1) (Tladon.dl_lt_of_two hlen d) _), rfl,
    .of_regs (.add 1 (.refl _ t) (by simp)) rfl, hother⟩

/-- The eighth failing cell in a row ends the lock and the claim. -/
theorem downlinkCellRx_loses (p : Nat) (d : Bool) (w raw : Nat) (s : State) :
    let t := s.tladon p
    t.powered = true → t.state ≠ 0 → (t.dl d).cdr = true → t.cellLock d = true → Tladon.goodCell w = false →
    (t.dl d).bad = 7 → (t.dl d).cmd = none →
    Runs (.downlinkCellRx p d w raw) s fun z => let u := z.tladon p
      u.cellLock d = false ∧ u.get (Tladon.claimFld d) = 0 ∧
      OnlyTlRegs [Tladon.errUncorr d, Tladon.lockFld d, Tladon.claimFld d] t u ∧
      ∀ q, q ≠ p → z.tladon q = s.tladon q := by
  intro t hpowered hstate hcdr hlock hcell hbad hcmd
  obtain ⟨hlost, hclaim, -, hregs⟩ :=
    Tladon.loseLock_clears (t := t.add (Tladon.errUncorr d) 1) (Tladon.dl_lt_of_cdr hcdr) hcmd
  refine .of_cell (Tladon.cell_loses hpowered hstate hcdr hlock hcell hbad s.now · raw) fun z hself hother => ?_
  rw [hself]
  exact ⟨hlost, hclaim, (OnlyTlRegs.add 1 (.refl _ t) (by simp)).trans (hregs.mono (by simp)), hother⟩

/-- A good cell without a command is counted when it is corrected, and brings its accept. -/
theorem downlinkCellRx_accepts (p : Nat) (d : Bool) (w raw data : Nat) (corr : Bool) (s : State) :
    let t := s.tladon p
    t.powered = true → t.state ≠ 0 → (t.dl d).cdr = true → t.cellLock d = true → Tladon.goodCell w = true →
    Tladon.decodeCell w = some (data, corr) → bit 37 data = false → bit 32 data = false → (t.dl d).cmd = none →
    Runs (.downlinkCellRx p d w raw) s fun z => let u := z.tladon p
      u.pad.arriving = t.pad.arriving ++
        (if bit 54 data ∧ t.obeyed = some d then [(s.now + 32, bits 53 38 data)] else []) ∧
      (corr = true → u.get (Tladon.errCorr d) = min (t.get (Tladon.errCorr d) + 1) ((Tladon.errCorr d).size - 1)) ∧
      OnlyTlRegs (if corr then [Tladon.errCorr d] else []) t u ∧ ∀ q, q ≠ p → z.tladon q = s.tladon q := by
  intro t hpowered hstate hcdr hlock hcell hdecode hmark hstart hcmd
  obtain ⟨hdl, hpad, hobeyed, -, hcorr, hregs⟩ := Tladon.goodCell_counted hcdr corr
  refine .of_cell (fun free => (Tladon.cell_decodes hpowered hstate hcdr hlock hcell hdecode s.now free raw).trans
    (Tladon.cellBody_accept hmark (by rw [hdl]; exact hcmd) hstart s.now free raw)) fun z hself hother => ?_
  rw [hself]
  refine ⟨?_, hcorr, hregs.of_regs rfl, hother⟩
  rw [← hobeyed, ← hpad]
  rfl

/-- A good cell that starts a command opens it. -/
theorem downlinkCellRx_opens (p : Nat) (d : Bool) (w raw data n : Nat) (s : State) :
    let t := s.tladon p
    t.powered = true → t.state ≠ 0 → (t.dl d).cdr = true → t.cellLock d = true → Tladon.goodCell w = true →
    Tladon.decodeCell w = some (data, false) → bit 54 data = false → bit 37 data = false → bit 32 data = true →
    (t.dl d).cmd = none → Tladon.cmdCells (bits 31 24 (bits 31 0 data)) = some n → t.dls.length = 2 →
    Runs (.downlinkCellRx p d w raw) s fun z => let u := z.tladon p
      (u.dl d).cmd = some ⟨[bits 31 0 data], s.now - 32⟩ ∧ OnlyTlRegs [] t u ∧
      ∀ q, q ≠ p → z.tladon q = s.tladon q := by
  intro t hpowered hstate hcdr hlock hcell hdecode haccept hmark hstart hcmd hop hlen
  obtain ⟨hdl, -, -, hdls, -, hregs⟩ := Tladon.goodCell_counted hcdr false
  refine .of_cell (fun free => (Tladon.cell_decodes hpowered hstate hcdr hlock hcell hdecode s.now free raw).trans
    (Tladon.cellBody_start hmark (by rw [hdl]; exact hcmd) haccept hstart hop s.now free raw)) fun z hself hother => ?_
  rw [hself]
  exact ⟨congrArg Downlink.cmd (Tladon.dl_modDl_self (hdls ▸ Tladon.dl_lt_of_two hlen d) _), hregs.of_regs rfl, hother⟩

/-! ### CDR lock, the claim and LINK_CFG -/

/-- CDR lock starts the count of good cells. -/
theorem tladonDlCdrLock_starts (p : Nat) (d : Bool) (s : State) :
    let t := s.tladon p
    t.powered = true → t.state ≠ 0 → t.dls.length = 2 →
    TlRuns (.tladonDlCdrLock p d) p s fun u => (u.dl d).cdr = true ∧ (u.dl d).good = 0 ∧ OnlyTlRegs [] t u := by
  intro t hpowered hstate hlen
  have hdl := Tladon.dl_modDl_self (Tladon.dl_lt_of_two hlen d) fun x => { x with cdr := true, good := 0 }
  have hruns : (t.powered && t.state != 0) = true := by simp [hpowered, hstate]
  exact .of_exec rfl rfl (if_pos hruns)
    ⟨congrArg Downlink.cdr hdl, congrArg Downlink.good hdl, .of_regs (.refl _ t) rfl⟩

/-- CDR loss ends cell lock. -/
theorem tladonDlCdrLoss_ends (p : Nat) (d : Bool) (s : State) :
    let t := s.tladon p
    t.dls.length = 2 → (t.dl d).cmd = none →
    TlRuns (.tladonDlCdrLoss p d) p s fun u =>
      (u.dl d).cdr = false ∧ u.cellLock d = false ∧ OnlyTlRegs [Tladon.lockFld d, Tladon.claimFld d] t u := by
  intro t hlen hcmd
  obtain ⟨hdls, hlock, hregs⟩ := Tladon.endLock_clears (Tladon.dl_lt_of_two hlen d) hcmd
  exact .of_exec rfl rfl rfl ⟨congrArg Downlink.cdr (Tladon.dl_modDl_self hdls _), hlock, hregs.of_regs rfl⟩

/-- A claim that is not renewed ends. -/
theorem claimExpiry_ends (p : Nat) (d : Bool) (at' : Nat) (s : State) :
    let t := s.tladon p
    (t.dl d).claimAt = some at' → at' + 131072 ≤ s.now → t.dls.length = 2 →
    TlRuns (.claimExpiry p d) p s fun u =>
      (u.dl d).claimAt = none ∧ u.get (Tladon.claimFld d) = 0 ∧ OnlyTlRegs [Tladon.claimFld d] t u := by
  intro t hclaim hdue hlen
  exact .of_exec rfl rfl (Tladon.claimExpiry_due hclaim hdue)
    ⟨congrArg Downlink.claimAt (Tladon.dl_modDl_self (Tladon.dl_lt_of_two hlen d) _),
      Tladon.get_set_zero (Tladon.claimFld d) _,
      .set (s := t) (f := Tladon.claimFld d) 0 (.of_regs (.refl _ t) rfl) (by simp)⟩

/-- A write of LINK_CFG waits for the next frame boundary. -/
theorem linkCfgWrite_waits (p v : Nat) (s : State) :
    let t := s.tladon p
    t.state = 1 ∨ t.state = 2 →
    TlRuns (.linkCfgWrite p v) p s fun u =>
      u.linkDue = some (v, if t.locked then s.now + (65536 - t.count s.now % 65536) else s.now) ∧
      OnlyTlRegs [] t u := by
  intro t hstate
  exact .of_exec rfl rfl (Tladon.linkCfg_waits hstate s.now v) ⟨rfl, .of_regs (.refl _ t) rfl⟩

/-- Settles O13, clause by clause. -/
theorem downlinkReceiver : Obligations.DownlinkReceiver :=
  ⟨downlinkCellRx_locks, downlinkCellRx_counts, downlinkCellRx_loses, downlinkCellRx_accepts, downlinkCellRx_opens,
    tladonDlCdrLock_starts, tladonDlCdrLoss_ends, claimExpiry_ends, linkCfgWrite_waits⟩

end Sys2Proof.Machine
end

section
/-! SUPPORT. Trigger decisions, the accepts on their way, the re-timer of primitives and the self-trigger: what each
operation does (O20). -/

namespace Sys2Proof.Machine

open Sys2Proof

/-- Of one list of registers, or of a longer one, no other differs. -/
theorem OnlyRegs.mono {l m : List Fld} {s t : State} (h : OnlyRegs l s t) (hlm : l ⊆ m) : OnlyRegs m s t :=
  fun f hf => h f fun g hg => hf g (hlm hg)

/-- Registers that two steps leave. -/
theorem OnlyRegs.trans {l : List Fld} {s t u : State} (h : OnlyRegs l s t) (k : OnlyRegs l t u) : OnlyRegs l s u :=
  fun f hf => (k f hf).trans (h f hf)

namespace State

/-- A field that reads 0 is no flag. -/
theorem won_eq_false {f : Fld} {s : State} : s.won f = false ↔ s.wget f = 0 := by simp [won_eq]

/-- A fold that emits where a condition holds emits for those that meet it, where emissions leave the condition. -/
theorem foldl_emit {α : Type} {c : α → State → Bool} (o : α → Out) (hc : ∀ a x s, c a (s.emit x) = c a s) (l : List α)
    (s : State) : l.foldl (fun s p => if c p s then s.emit (o p) else s) s =
      { s with out := s.out ++ (l.filter fun p => c p s).map o } := by
  induction l generalizing s with
  | nil => simp
  | cons a l ih =>
    have hkeep (p : α) : c p (s.emit (o a)) = c p s := hc p _ s
    rw [List.foldl_cons, ih]
    cases h : c a s
    · simp [h]
    · simp only [h, hkeep, if_true, List.filter_cons, List.map_cons]
      simp [emit]

/-! ### Decisions (R298–R301, R304) -/

/-- The registers by which a decision is taken: paired operation, the state of Wonan, MODE, the enables of the links
and the time of release. -/
def decisionRegs : List Fld :=
  [WR.PAIR_CFG_EN, WR.SYS_STATE_STATE, WR.MUS_CFG_MODE, WR.MUS_CFG_TL0_EN, WR.MUS_CFG_TL1_EN, WR.ADM_PRIM_CFG_UPMAX,
    WR.ADM_PRIM_CFG_LAT]

/-- They stand apart from the count of decisions of each source. -/
theorem decisionRegs_apart : ∀ t < 3, ∀ f ∈ decisionRegs, f.key ≠ (WR.MUS_SRC_CNT_DECISIONS t).key := by decide

/-- A counted decision leaves the registers by which it is taken. -/
theorem countDecision_leaves {t : Nat} (ht : t < 3) (s : State) : let u := s.wadd (WR.MUS_SRC_CNT_DECISIONS t) 1
    u.pairOn = s.pairOn ∧ u.isRun = s.isRun ∧ u.musMode = s.musMode ∧ (∀ l, u.tlEn l = s.tlEn l) ∧
    ∀ slot, u.releaseTick slot = s.releaseTick slot := by
  intro u
  have hget {f : Fld} (hf : f ∈ decisionRegs) : u.wget f = s.wget f :=
    wget_wadd_other (decisionRegs_apart t ht f hf) 1 s
  refine ⟨?_, ?_, ?_, fun l => ?_, fun slot => ?_⟩
  · rw [pairOn, pairOn, won_eq, won_eq, hget (by simp [decisionRegs])]
  · rw [isRun, isRun, ws_eq, ws_eq, hget (by simp [decisionRegs])]
  · rw [musMode, musMode, hget (by simp [decisionRegs])]
  · rw [tlEn, tlEn, won_eq, won_eq, won_eq, won_eq, hget (by simp [decisionRegs]), hget (by simp [decisionRegs])]
  · rw [releaseTick, releaseTick, lat, lat, hget (by simp [decisionRegs]), hget (by simp [decisionRegs])]

/-- Without a partner nothing is told. -/
theorem tellPartner_unpaired {s : State} (h : s.pairOn = false) (src word : Nat) : s.tellPartner src word = s := by
  unfold tellPartner plSend
  rw [h]
  rfl

/-- An idle block is passed over (R298). -/
theorem tlBlock_idle (t : Nat) (s : State) : s.tlBlock t 2 0 = s := if_pos ⟨rfl, rfl⟩

/-- A block with another header is counted as an error (R298). -/
theorem tlBlock_invalid {hdr word : Nat} (hhdr : hdr ≠ 1) (hidle : ¬ (hdr = 2 ∧ word = 0)) (t : Nat) (s : State) :
    s.tlBlock t hdr word = s.wadd (WR.MUS_SRC_CNT_CRC_ERR t) 1 := by
  rw [tlBlock, if_neg hidle]
  exact if_pos (.inl hhdr)

/-- In triggered operation an ACCEPT of an enabled link is counted and queued for the downlinks (R299–R301). -/
theorem tlBlock_accept {t word : Nat} {s : State} (ht : t < 3) (hok : decisionOk word = true)
    (hcode : bits 63 60 word = 1) (hen : s.tlEn t = true) (hpair : s.pairOn = false) (hrun : s.isRun = true)
    (hmode : s.musMode = 0) :
    s.tlBlock t 1 word = (s.wadd (WR.MUS_SRC_CNT_DECISIONS t) 1).queueAccept t
      (extend (2 ^ 40) (bits 39 0 word : Nat) (s.tick / 32 : Nat)) (bits 59 52 word) (s.tick + 192) := by
  obtain ⟨kpair, krun, kmode, ken, -⟩ := countDecision_leaves ht s
  have hvalid : ¬ ((1 : Nat) ≠ 1 ∨ (!decisionOk word) = true ∨ bits 63 60 word ≠ 1 ∧ bits 63 60 word ≠ 2) := by
    simp [hok, hcode]
  rw [tlBlock, if_neg fun h => absurd h.1 (by decide), if_neg hvalid]
  simp [ken, hen, tellPartner_unpaired (kpair.trans hpair), krun, hrun, kmode, hmode, hcode]

/-- In triggered operation the self-trigger's accept is counted and queued 224 ticks after the release (R304). -/
theorem selfAccept_triggered {s : State} (hpair : s.pairOn = false) (hmode : s.musMode = 0) (slot : Nat) :
    s.selfAccept slot = (s.wadd (WR.MUS_SRC_CNT_DECISIONS 2) 1).queueAccept 2 slot (s.wget WR.MUS_SELF_CFG_CLASS)
      (s.releaseTick slot + 224) := by
  obtain ⟨kpair, -, kmode, -, krelease⟩ := countDecision_leaves (t := 2) (by decide) s
  simp [selfAccept, tellPartner_unpaired (kpair.trans hpair), kmode, hmode, krelease]

/-! ### Accepts at a cell boundary (R301, R302) -/

/-- An event that opens leaves the accepts on their way. -/
theorem openEv_accs (key : Int) (num : Nat) (slot : Int) (cls tref : Nat) (due : Int) (own : Bool) (s : State) :
    (s.openEv key num slot cls tref due own).mus.accs = s.mus.accs := by
  unfold openEv
  extract_lets mask ports e t
  split
  · exact List.foldlRecOn (motive := fun x : State => x.mus.accs = s.mus.accs) ports _ rfl fun _ hx _ _ => hx
  · rfl

/-- Without a partner a forwarded accept opens the next event (R297, R302). -/
theorem openTriggered_unpaired {s : State} (hbuild : s.building' = true) (hpair : s.pairOn = false) (slot : Int)
    (cls : Nat) (own : Bool) :
    s.openTriggered slot cls own =
      (s.openEv s.mus.nextEv s.mus.nextEv slot cls (s.slotRef slot) s.tick own).modMus fun m =>
        { m with nextEv := s.mus.nextEv + 1 } := by
  have hmay : s.mayOpen slot = true := by simp [mayOpen, hpair]
  simp [openTriggered, hbuild, hmay, hpair]

/-- An accept has been sent to the ports that take accepts, and none waits. -/
def sentAccept (slot : Int) (s : State) : State :=
  { s with
    mus := { s.mus with accs := [] }
    out := s.out ++ ((List.range 48).filter fun p => s.takesAccept p).map fun p => .dlAccept p (unsigned 16 slot) }

/-- The one accept that waits is sent, and opens an event. -/
theorem forwardCell_one {a : AccIn} {s : State} (haccs : s.mus.accs = [a]) (hcell : a.cell ≤ s.tick / 32) :
    s.forwardCell = (s.sentAccept a.slot).openTriggered a.slot a.cls true := by
  have hfold := foldl_emit (c := takesAccept) (fun p => .dlAccept p (unsigned 16 a.slot)) (fun _ _ _ => rfl)
    (List.range 48) (s.modMus fun m => { m with accs := [] })
  have hlater : ¬ s.tick / 32 < a.cell := Nat.not_lt.2 hcell
  simp only [forwardCell, haccs, modMus, List.filter_cons, List.filter_nil, hcell, hlater, decide_true, decide_false,
    if_true, sortBy, List.foldl_cons, List.foldl_nil, insertBy, List.isEmpty_nil, Bool.false_eq_true, if_false]
  exact congrArg (openTriggered a.slot a.cls true) hfold

/-! ### Primitives and the self-trigger (R303, R305, R417–R420) -/

/-- A firing leaves the windows of primitives and the captured slots; it counts where it is withheld. -/
theorem selfFire_leaves (slot : Int) (s : State) :
    (s.selfFire slot).mus.caps = s.mus.caps ∧ (s.selfFire slot).mus.prims = s.mus.prims ∧
    OnlyRegs [WR.MUS_SELF_CNT_SHED] s (s.selfFire slot) := by
  unfold selfFire
  extract_lets t
  split
  · exact ⟨rfl, rfl, .refl _ s⟩
  · split
    · exact ⟨rfl, rfl, .wadd (t := t) 1 (.of_wr (.refl _ s) rfl) (by simp)⟩
    · exact ⟨rfl, rfl, .of_wr (.refl _ s) rfl⟩

/-- The evaluation of a captured slot leaves the windows and the captured slots. -/
theorem selfEval_leaves (slot : Nat) (l : List Prim) (s : State) :
    (s.selfEval slot l).mus.caps = s.mus.caps ∧ (s.selfEval slot l).mus.prims = s.mus.prims ∧
    OnlyRegs [WR.MUS_SELF_CNT_SHED] s (s.selfEval slot l) := by
  unfold selfEval
  split
  · exact ⟨rfl, rfl, .refl _ s⟩
  · split
    · exact ⟨rfl, rfl, .of_wr (.refl _ s) rfl⟩
    · exact selfFire_leaves slot s

/-- A capture keeps the contributions of the ports in event building, and the slot leaves the combination (R420). -/
theorem capture_keeps (slot : Nat) (s : State) :
    (∃ c, SMap.find slot (s.capture slot).mus.caps = some c ∧
      c.prims = (SMap.getD [] slot s.mus.prims).filter fun x => s.portState x.port == 4) ∧
    SMap.find slot (s.capture slot).mus.prims = none ∧
    OnlyRegs [WR.ADM_PRIM_STAT_LATE, WR.ADM_PRIM_STAT_MARGIN_MIN, WR.MUS_SELF_CNT_SHED] s (s.capture slot) := by
  unfold capture
  extract_lets got late n margin t u
  obtain ⟨hcaps, hprims, hregs⟩ := u.selfEval_leaves slot got
  have hu : OnlyRegs [WR.ADM_PRIM_STAT_LATE, WR.ADM_PRIM_STAT_MARGIN_MIN, WR.MUS_SELF_CNT_SHED] s u :=
    .of_wr (t := t) (.wset margin (.wadd n (.refl _ s) (by simp)) (by simp)) rfl
  refine ⟨⟨⟨got, late⟩, ?_, rfl⟩, ?_, hu.trans (hregs.mono (by simp))⟩
  · rw [hcaps]
    exact SMap.find_insert_self ..
  · rw [hprims]
    exact SMap.find_erase_self ..

/-- A candidate that opens, or is shed, leaves the captured slots and is counted. -/
theorem openCand_leaves (slot : Nat) (l : List Prim) (s : State) :
    (s.openCand slot l).mus.caps = s.mus.caps ∧
    OnlyRegs [WR.MUS_SPEC_CNT_COUNT 8, WR.MUS_SPEC_CNT_COUNT 0] s (s.openCand slot l) := by
  unfold openCand
  split
  · exact ⟨rfl, .refl _ s⟩
  · split
    · exact ⟨rfl, .refl _ s⟩
    · split
      · exact ⟨rfl, .wadd 1 (.refl _ s) (by simp)⟩
      · split
        · exact ⟨rfl, .refl _ s⟩
        · exact ⟨rfl, .wadd (t := s.modMus _) 1 (.of_wr (.refl _ s) rfl) (by simp)⟩

/-- A release sends the slot's two cells and forgets the slots up to it (R417–R419). -/
theorem releaseCell_sends (slot : Nat) (s : State) : let cap := SMap.getD ⟨[], []⟩ slot s.mus.caps
    (s.releaseCell slot).out = s.out ++ [.po 0 (s.poCell 0 slot cap), .po 1 (s.poCell 1 slot cap)] ∧
    (s.releaseCell slot).mus.caps = s.mus.caps.filter (fun x => decide (slot < x.1)) ∧
    OnlyRegs [WR.MUS_SPEC_CNT_COUNT 8, WR.MUS_SPEC_CNT_COUNT 0] s (s.releaseCell slot) := by
  intro cap
  unfold releaseCell
  extract_lets t u
  obtain ⟨hcaps, hregs⟩ := u.openCand_leaves slot cap.prims
  refine ⟨((k_openCand slot cap.prims u).1 .out rfl).trans ?_, hcaps, hregs⟩
  exact List.append_assoc ..

/-- A firing after the hold-off, with nothing shed, is recorded and starts the next hold-off (R303). -/
theorem selfFire_free {slot : Int} {s : State} (hfree : s.selfFree slot = true)
    (hspec : s.wget WR.MUS_STATUS_SHED_SPEC = 0) (hself : s.wget WR.MUS_STATUS_SHED_SELF = 0) :
    s.selfFire slot = s.modMus fun m => { m with
      selfFrom := some (slot + s.wget WR.MUS_SELF_CFG_HO + 1), fired := m.fired ++ [(slot, true)] } := by
  have hkept : ¬ (s.won WR.MUS_STATUS_SHED_SELF ||
      s.won WR.MUS_STATUS_SHED_SPEC && s.won WR.MUS_SELF_CFG_CONTENT && s.musMode == 2) = true := by
    simp [won_eq_false.2 hself, won_eq_false.2 hspec]
  rw [selfFire, if_neg (by simp [hfree])]
  exact if_neg hkept

end State

end Sys2Proof.Machine
end

section
/-! PROOF. Trigger decisions, the self-trigger and the primitives' way to the PO links (O20): one theorem for each
clause. -/

namespace Sys2Proof.Machine

open Sys2Proof

/-- An idle block is passed over, and one that is no decision is counted as an error. -/
theorem tlDecisionRx_idle_or_invalid (link : Bool) (hdr word : Nat) (s : State) :
    (hdr = 2 → word = 0 → Runs (.tlDecisionRx link hdr word) s fun z => z = s) ∧
    (hdr ≠ 1 → ¬ (hdr = 2 ∧ word = 0) → Runs (.tlDecisionRx link hdr word) s fun z =>
      z.wget (WR.MUS_SRC_CNT_CRC_ERR (b2n link)) =
        min (s.wget (WR.MUS_SRC_CNT_CRC_ERR (b2n link)) + 1) ((WR.MUS_SRC_CNT_CRC_ERR (b2n link)).size - 1) ∧
      OnlyRegs [WR.MUS_SRC_CNT_CRC_ERR (b2n link)] s z) := by
  refine ⟨?_, fun hhdr hidle => ?_⟩
  · rintro rfl rfl
    exact .of_exec (congrArg Host.Outcome.next (State.tlBlock_idle _ s)) rfl
  · exact .of_exec (congrArg Host.Outcome.next (State.tlBlock_invalid hhdr hidle _ s))
      ⟨State.wget_wadd_self .., .wadd 1 (.refl _ s) (by simp)⟩

/-- An ACCEPT is counted and leaves for the downlinks 192 ticks later. -/
theorem tlDecisionRx_accepts (link : Bool) (word : Nat) (s : State) : let t := b2n link
    State.decisionOk word = true → bits 63 60 word = 1 → s.tlEn t = true → s.pairOn = false → s.isRun = true →
    s.musMode = 0 →
    Runs (.tlDecisionRx link 1 word) s fun z =>
      z.wget (WR.MUS_SRC_CNT_DECISIONS t) =
        min (s.wget (WR.MUS_SRC_CNT_DECISIONS t) + 1) ((WR.MUS_SRC_CNT_DECISIONS t).size - 1) ∧
      z.mus.accs = s.mus.accs ++ [⟨(s.tick + 192 + 31) / 32, t,
        State.extend (2 ^ 40) (bits 39 0 word : Nat) (s.tick / 32 : Nat), bits 59 52 word⟩] ∧
      OnlyRegs [WR.MUS_SRC_CNT_DECISIONS t] s z := by
  intro t hok hcode hen hpair hrun hmode
  have ht : t < 3 := by cases link <;> decide
  exact .of_exec (congrArg Host.Outcome.next (State.tlBlock_accept ht hok hcode hen hpair hrun hmode))
    ⟨State.wget_wadd_self .., rfl, .of_wr (.wadd 1 (.refl _ s) List.mem_cons_self) rfl⟩

/-- At a cell boundary the one waiting accept goes to every port that takes accepts, and opens the next event. -/
theorem acceptForward_sends (a : AccIn) (s : State) :
    s.isRun = true → s.musMode = 0 → s.tick % 32 = 0 → s.mus.accs = [a] → a.cell ≤ s.tick / 32 →
    s.building' = true → s.pairOn = false →
    Runs .acceptForward s fun z =>
      z.out = s.out ++ ((List.range 48).filter fun p => s.takesAccept p).map (fun p => .dlAccept p (unsigned 16 a.slot)) ∧
      z.mus.accs = [] ∧ z.mus.nextEv = s.mus.nextEv + 1 ∧ OnlyRegs [] s z := by
  intro hrun hmode htick haccs hcell hbuild hpair
  have hdue : (s.isRun && s.musMode == 0 && s.tick % 32 == 0) = true := by simp [hrun, hmode, htick]
  refine .of_exec (congrArg Host.Outcome.next ((if_pos hdue).trans ((State.forwardCell_one haccs hcell).trans
    (State.openTriggered_unpaired (s := s.sentAccept a.slot) hbuild hpair ..)))) ?_
  refine ⟨?_, ?_, rfl, ?_⟩
  · exact (k_openEv ..).1 .out rfl
  · exact State.openEv_accs ..
  · exact .of_wr (.refl _ s) ((k_openEv ..).1 .wr rfl)

/-- A slot is captured 10 ticks before its release. -/
theorem primitiveCapture_captures (slot : Nat) (s : State) :
    s.tick + 10 = s.releaseTick slot →
    Runs (.primitiveCapture slot) s fun z =>
      (∃ c, SMap.find slot z.mus.caps = some c ∧
        c.prims = (SMap.getD [] slot s.mus.prims).filter fun x => s.portState x.port == 4) ∧
      SMap.find slot z.mus.prims = none ∧
      OnlyRegs [WR.ADM_PRIM_STAT_LATE, WR.ADM_PRIM_STAT_MARGIN_MIN, WR.MUS_SELF_CNT_SHED] s z :=
  fun hdue => .of_exec (congrArg Host.Outcome.next (if_pos hdue)) (s.capture_keeps slot)

/-- The PO cells of a slot leave in its release tick. -/
theorem poCellRelease_sends (slot : Nat) (s : State) : let cap := SMap.getD ⟨[], []⟩ slot s.mus.caps
    s.tick = s.releaseTick slot → 2 ≤ s.ws →
    Runs (.poCellRelease slot) s fun z =>
      z.out = s.out ++ [.po 0 (s.poCell 0 slot cap), .po 1 (s.poCell 1 slot cap)] ∧
      z.mus.caps = s.mus.caps.filter (fun x => decide (slot < x.1)) ∧
      OnlyRegs [WR.MUS_SPEC_CNT_COUNT 8, WR.MUS_SPEC_CNT_COUNT 0] s z :=
  fun hdue hws => .of_exec (congrArg Host.Outcome.next (if_pos ⟨hdue, hws⟩)) (s.releaseCell_sends slot)

/-- An accept of the self-trigger counts as a decision and follows the release by 224 ticks. -/
theorem selfTriggerAccept_queues (slot : Nat) (s : State) :
    s.isRun = true → (s.mus.fired.any fun x => x.1 == (slot : Int) && x.2) = true → s.releaseTick slot ≤ s.tick →
    s.musMode = 0 → s.pairOn = false →
    Runs (.selfTriggerAccept slot) s fun z =>
      z.wget (WR.MUS_SRC_CNT_DECISIONS 2) =
        min (s.wget (WR.MUS_SRC_CNT_DECISIONS 2) + 1) ((WR.MUS_SRC_CNT_DECISIONS 2).size - 1) ∧
      z.mus.accs = s.mus.accs ++ [⟨(s.releaseTick slot + 224 + 31) / 32, 2, slot, s.wget WR.MUS_SELF_CFG_CLASS⟩] ∧
      z.mus.fired = s.mus.fired.filter (fun x => x.1 != (slot : Int)) ∧
      OnlyRegs [WR.MUS_SRC_CNT_DECISIONS 2] s z := by
  intro hrun hfired hdue hmode hpair
  have hready : (s.isRun && (s.mus.fired.any fun x => x.1 == (slot : Int) && x.2) &&
      decide (s.releaseTick slot ≤ s.tick)) = true := by simp only [hrun, hfired, hdue, decide_true, Bool.and_self]
  let t := s.modMus fun m => { m with fired := m.fired.filter fun x => x.1 != (slot : Int) }
  refine .of_exec ((if_pos hready).trans (congrArg Host.Outcome.next
    (State.selfAccept_triggered (s := t) hpair hmode slot))) ?_
  exact ⟨State.wget_wadd_self .., rfl, rfl,
    .of_wr (t := t.wadd (WR.MUS_SRC_CNT_DECISIONS 2) 1) (.wadd 1 (.of_wr (.refl _ s) rfl) (by simp)) rfl⟩

/-- A content test with enough hits fires, and one with too few does not. -/
theorem selfTriggerContentTest_fires (slot : Nat) (s : State) :
    (s.mus.fired.any fun x => x.1 == (slot : Int) && !x.2) = true →
    (s.mus.cands.any fun c => c.slot == (slot : Int) && c.complete) = true →
    s.wget WR.MUS_STATUS_SHED_SPEC = 0 → s.wget WR.MUS_STATUS_SHED_SELF = 0 →
    (s.wget WR.MUS_SELF_THR1_MIN_HITS ≤ s.contentHits slot → s.selfFree slot = true →
      Runs (.selfTriggerContentTest slot) s fun z =>
        z.mus.fired = s.mus.fired.filter (fun x => x.1 != (slot : Int)) ++ [((slot : Int), true)] ∧
        z.mus.selfFrom = some (slot + s.wget WR.MUS_SELF_CFG_HO + 1) ∧ OnlyRegs [] s z) ∧
    (s.contentHits slot < s.wget WR.MUS_SELF_THR1_MIN_HITS →
      Runs (.selfTriggerContentTest slot) s fun z =>
        z.mus.fired = s.mus.fired.filter (fun x => x.1 != (slot : Int)) ∧ OnlyRegs [] s z) := by
  intro hwait hdone hspec hself
  have hready : ((s.mus.fired.any fun x => x.1 == (slot : Int) && !x.2) &&
      s.mus.cands.any fun c => c.slot == (slot : Int) && c.complete) = true := by rw [hwait, hdone]; rfl
  have hshed := State.won_eq_false.2 hspec
  let t := s.modMus fun m => { m with fired := m.fired.filter fun x => x.1 != (slot : Int) }
  refine ⟨fun hhits hfree => ?_, fun hhits => ?_⟩
  · have hpass : (s.won WR.MUS_STATUS_SHED_SPEC ||
        decide (s.wget WR.MUS_SELF_THR1_MIN_HITS ≤ s.contentHits slot)) = true := by simp [hhits]
    exact .of_exec ((if_pos hready).trans (congrArg Host.Outcome.next
      ((if_pos hpass).trans (State.selfFire_free (s := t) hfree hspec hself)))) ⟨rfl, rfl, .of_wr (.refl _ s) rfl⟩
  · have hfail : ¬ (s.won WR.MUS_STATUS_SHED_SPEC ||
        decide (s.wget WR.MUS_SELF_THR1_MIN_HITS ≤ s.contentHits slot)) = true := by simp [hshed, hhits]
    exact .of_exec ((if_pos hready).trans (congrArg Host.Outcome.next (if_neg hfail))) ⟨rfl, .of_wr (.refl _ s) rfl⟩

/-- Settles O20, clause by clause. -/
theorem triggersAndPrimitives : Obligations.TriggersAndPrimitives :=
  ⟨tlDecisionRx_idle_or_invalid, tlDecisionRx_accepts, acceptForward_sends, primitiveCapture_captures,
    poCellRelease_sends, selfTriggerAccept_queues, selfTriggerContentTest_fires⟩

end Sys2Proof.Machine
end

section
/-! SUPPORT. The debug module (spec/16 R518, R521, R522): what a halt, a resume, an abstract command and an access of the
system bus do (O36). -/

namespace Sys2Proof.Machine

open Sys2Proof

namespace Core

/-- A control and status register reads what was written, cut to 32 bits. -/
@[simp] theorem csrGet_csrSet_self (r v : Nat) (c : Core) : (c.csrSet r v).csrGet r = v % 2 ^ 32 := by
  unfold csrGet csrSet
  dsimp only
  split
  · next h => rw [SMap.getD, SMap.find_erase_self, h]; rfl
  · exact SMap.getD_insert_self ..

/-- A write of a control and status register leaves the others. -/
theorem csrGet_csrSet_other {q r : Nat} (h : q ≠ r) (v : Nat) (c : Core) : (c.csrSet r v).csrGet q = c.csrGet q := by
  unfold csrGet csrSet
  dsimp only
  split
  · rw [SMap.getD, SMap.find_erase_other h, SMap.getD]
  · exact SMap.getD_insert_other h ..

/-- A core that enters debug mode: dpc and dcsr keep its pc and privilege with the cause, and its reservation is lost
(R518, R522). -/
def enterDebug (cause : Nat) (c : Core) : Core :=
  { (c.csrSet csrDpc c.pc).csrSet csrDcsr
      (2 ^ 30 + (c.csrGet csrDcsr &&& 0x9E14) + cause * 64 + if c.user then 0 else 3) with halted := true, lr := none }

/-- A core that leaves debug mode goes on at dpc in the privilege of dcsr. -/
def leaveDebug (c : Core) : Core :=
  { c with pc := c.csrGet csrDpc, user := c.csrGet csrDcsr % 4 == 0, halted := false }

/-- What a start by MSIP may make of a core: one that waits at address 0 goes on in core memory (R644). -/
def MayStart (c d : Core) : Prop := d = c ∨ c.pc = 0 ∧ d = { c with pc := 0x10000000 }

/-- A core that has started does not start again. -/
theorem MayStart.trans {c d e : Core} (h : MayStart c d) (k : MayStart d e) : MayStart c e := by
  rcases h with rfl | ⟨hpc, rfl⟩
  · exact k
  · rcases k with rfl | ⟨hzero, -⟩
    · exact .inr ⟨hpc, rfl⟩
    · exact absurd hzero (Nat.succ_ne_zero _)

/-- A start by MSIP changes the pc only, and only where it is 0. -/
theorem MayStart.leaves {c d : Core} (h : MayStart c d) :
    d.x = c.x ∧ d.csr = c.csr ∧ d.user = c.user ∧ d.halted = c.halted ∧ (c.pc ≠ 0 → d.pc = c.pc) := by
  rcases h with rfl | ⟨hpc, rfl⟩
  · exact ⟨rfl, rfl, rfl, rfl, fun _ => rfl⟩
  · exact ⟨rfl, rfl, rfl, rfl, fun h => absurd hpc h⟩

end Core

namespace State

/-! ### Cores -/

/-- Equal cores read alike. -/
theorem core_of_cores {s t : State} (h : t.cores = s.cores) (k : Nat) : t.core k = s.core k :=
  congrArg (List.getD · k Core.reset) h

/-- A changed core reads as changed. -/
theorem core_modCore_self {n : Nat} {s : State} (h : n < s.cores.length) (f : Core → Core) :
    (s.modCore n f).core n = f (s.core n) := by
  simp [modCore, core, List.getD_eq_getElem?_getD, List.getElem?_eq_getElem h]

/-- The other cores read as before. -/
theorem core_modCore_other {k n : Nat} (h : k ≠ n) (f : Core → Core) (s : State) :
    (s.modCore n f).core k = s.core k := by
  simp [modCore, core, List.getD_eq_getElem?_getD, List.getElem?_mapIdx, h]

/-- A core that does not exist stays as after reset. -/
theorem core_modCore_absent {n : Nat} {s : State} (h : s.cores.length ≤ n) (f : Core → Core) :
    (s.modCore n f).core n = s.core n := by
  simp [modCore, core, List.getD_eq_getElem?_getD, List.getElem?_eq_none h]

/-- MSIP may start each core that waits. -/
theorem msipStart_core (k : Nat) (s : State) : (s.core k).MayStart (s.msipStart.core k) := by
  unfold msipStart
  split
  · refine List.foldlRecOn (motive := fun x : State => (s.core k).MayStart (x.core k)) _ _ (.inl rfl)
      fun x hx n _ => hx.trans ?_
    split
    · next hwait =>
      simp only [Bool.and_eq_true, beq_iff_eq] at hwait
      obtain ⟨⟨-, hpc⟩, -⟩ := hwait
      by_cases hk : k = n + 1
      · subst hk
        rcases Nat.lt_or_ge (n + 1) x.cores.length with hlen | hlen
        · exact .inr ⟨hpc, core_modCore_self hlen _⟩
        · exact .inl (core_modCore_absent hlen _)
      · exact .inl (core_modCore_other hk _ x)
    · exact .inl rfl
  · exact .inl rfl

/-! ### Halt and resume (R518, R522) -/

/-- A running hart that is halted gives its reserved item back and enters debug mode. -/
theorem haltHart_running {n : Nat} {s : State} (h : (s.core n).halted = false) (cause : Nat) :
    s.haltHart n cause = ((s.unreserve n).modCore n (Core.enterDebug cause)).syncTimers :=
  if_neg (ne_true_of_eq_false h)

/-- A halted hart stays halted. -/
theorem haltHart_halted {n : Nat} {s : State} (h : (s.core n).halted = true) (cause : Nat) : s.haltHart n cause = s :=
  if_pos h

/-- A halted hart that is resumed leaves debug mode. -/
theorem resumeHart_halted {n : Nat} {s : State} (h : (s.core n).halted = true) :
    s.resumeHart n = (s.modCore n Core.leaveDebug).msipStart.syncTimers := if_pos h

/-- A running hart goes on. -/
theorem resumeHart_running {n : Nat} {s : State} (h : (s.core n).halted = false) : s.resumeHart n = s :=
  if_neg (ne_true_of_eq_false h)

/-- A hart that is halted reads as one that has entered debug mode; the other cores stay. -/
theorem haltHart_core {n : Nat} {s : State} (hlen : n < s.cores.length) (h : (s.core n).halted = false) (cause : Nat) :
    (s.haltHart n cause).core n = (s.core n).enterDebug cause ∧ ∀ k, k ≠ n → (s.haltHart n cause).core k = s.core k := by
  have hcores : (s.unreserve n).cores = s.cores := (k_unreserve n s).1 .cores rfl
  rw [haltHart_running h]
  refine ⟨?_, fun k hk => ?_⟩
  · exact (core_modCore_self (hcores ▸ hlen) _).trans (congrArg _ (core_of_cores hcores n))
  · exact (core_modCore_other hk _ _).trans (core_of_cores hcores k)

/-! ### Abstract commands (R518) -/

/-- An abstract command starts with the hart selected and `data` in data0. -/
def withCommand (n data : Nat) (s : State) : State := s.modDbg fun d => { d with hartsel := n, data0 := data }

/-- The first error is kept in cmderr. -/
theorem cmdErr_first {s : State} (h : s.dbg.cmderr = 0) (e : Nat) :
    s.cmdErr e = s.modDbg fun d => { d with cmderr := e } := by simp [cmdErr, modDbg, h]

/-- While cmderr stands no command is taken. -/
theorem abstractCmd_after_error {s : State} (h : s.dbg.cmderr ≠ 0) (v : Nat) : s.abstractCmd v = s := if_pos h

/-- A command other than Access Register is not supported. -/
theorem abstractCmd_unsupported {v : Nat} {s : State} (hnone : s.dbg.cmderr = 0) (hop : bits 31 24 v ≠ 0) :
    s.abstractCmd v = s.cmdErr 2 := by simp [abstractCmd, hnone, hop]

/-- `v` is an Access Register command that moves one register of 32 bits. -/
structure MovesRegister (v : Nat) : Prop where
  access : bits 31 24 v = 0
  single : bit 19 v = false
  transfer : bit 17 v = true
  width : bits 22 20 v = 2

section move

variable {v : Nat} {s : State} (hmove : MovesRegister v) (hnone : s.dbg.cmderr = 0)

include hmove hnone

/-- Of a running hart no register is moved. -/
theorem abstractCmd_running (hrun : s.hart.halted = false) : s.abstractCmd v = s.cmdErr 4 := by
  obtain ⟨haccess, hsingle, htransfer, hwidth⟩ := hmove
  simp [abstractCmd, hnone, haccess, hsingle, htransfer, hwidth, hrun]

variable (hhalt : s.hart.halted = true)

include hhalt

/-- A general register is read into data0. -/
theorem abstractCmd_readGpr {r : Nat} (hread : bit 16 v = false) (hreg : v % 65536 = 0x1000 + r) (hr : r < 32) :
    s.abstractCmd v = s.modDbg fun d => { d with data0 := s.hart.x.getD r 0 } := by
  obtain ⟨haccess, hsingle, htransfer, hwidth⟩ := hmove
  have hgpr : 0x1000 + r < 0x1020 := Nat.add_lt_add_left hr _
  simp [abstractCmd, hnone, haccess, hsingle, htransfer, hwidth, hhalt, hread, hreg, hgpr]

/-- A general register but x0 is written with data0. -/
theorem abstractCmd_writeGpr {r : Nat} (hwrite : bit 16 v = true) (hreg : v % 65536 = 0x1000 + r) (hpos : 0 < r)
    (hr : r < 32) :
    s.abstractCmd v = s.modCore s.dbg.hartsel fun c => { c with x := c.x.set r s.dbg.data0 } := by
  obtain ⟨haccess, hsingle, htransfer, hwidth⟩ := hmove
  have hgpr : 0x1000 + r < 0x1020 := Nat.add_lt_add_left hr _
  simp [abstractCmd, hnone, haccess, hsingle, htransfer, hwidth, hhalt, hwrite, hreg, hgpr, Nat.ne_of_gt hpos]

/-- A write of x0 is ignored. -/
theorem abstractCmd_writeZero (hwrite : bit 16 v = true) (hreg : v % 65536 = 0x1000) : s.abstractCmd v = s := by
  obtain ⟨haccess, hsingle, htransfer, hwidth⟩ := hmove
  simp [abstractCmd, hnone, haccess, hsingle, htransfer, hwidth, hhalt, hwrite, hreg]

/-- A control and status register is read into data0. -/
theorem abstractCmd_readCsr {r : Nat} (hread : bit 16 v = false) (hreg : v % 65536 = r) (hr : r < 0x1000)
    (hcsr : csrHere r = true) :
    s.abstractCmd v = (s.csrRead s.dbg.hartsel r).2.modDbg fun d =>
      { d with data0 := (s.csrRead s.dbg.hartsel r).1 } := by
  obtain ⟨haccess, hsingle, htransfer, hwidth⟩ := hmove
  have hgpr : ¬ 0x1000 ≤ r := Nat.not_le.2 hr
  simp [abstractCmd, hnone, haccess, hsingle, htransfer, hwidth, hhalt, hread, hreg, hgpr, hcsr]

/-- A control and status register that is not read-only is written with data0. -/
theorem abstractCmd_writeCsr {r : Nat} (hwrite : bit 16 v = true) (hreg : v % 65536 = r) (hr : r < 0xC00)
    (hcsr : csrHere r = true) : s.abstractCmd v = s.csrWrite s.dbg.hartsel r s.dbg.data0 := by
  obtain ⟨haccess, hsingle, htransfer, hwidth⟩ := hmove
  have hgpr : ¬ 0x1000 ≤ r := by omega
  have hro : ¬ 0xC00 ≤ r := Nat.not_le.2 hr
  simp [abstractCmd, hnone, haccess, hsingle, htransfer, hwidth, hhalt, hwrite, hreg, hgpr, hro, hcsr]

end move

/-- mscratch takes every value. -/
theorem csrWrite_mscratch (n v : Nat) (s : State) :
    s.csrWrite n 0x340 v = s.modCore n (Core.csrSet 0x340 (v % 2 ^ 32)) := rfl

/-! ### The system bus (R518, R521) -/

/-- A plain register stands in the register blocks. -/
theorem regionOf_of_plain {a : Nat} (h : a ∈ plainRegs) : regionOf a = .regs := by
  rcases mem_plainRegs.1 h with rfl | rfl | rfl | rfl <;> rfl

/-- No PMP checks the debug agent (R514). -/
theorem pmpData_debug (a n : Nat) (w : Bool) (s : State) : s.pmpData 9 a n w = true := if_neg (by decide)

/-- The debug agent reads a plain register without a side effect. -/
theorem busRead_plain {a : Nat} (h : a ∈ plainRegs) (err : Nat) (s : State) :
    s.busRead 9 a err = ((s.regWord a, none), s) := by
  rw [busRead_normal (pmpData_debug ..) (plain_range h).2, regRead_of_plain h]

/-- So it does through the system bus. -/
theorem loadAt_plain {a : Nat} (h : a ∈ plainRegs) (rd err : Nat) (u : Upset) (s : State) :
    s.loadAt 9 rd a 4 err u = (some (s.regWord a, none), s) := by
  rw [loadAt, regionOf_of_plain h, busRead_plain h]
  rfl

/-- The debug agent stores a plain register by its access codes. -/
theorem storeAt_plain {a : Nat} (h : a ∈ plainRegs) (v : Nat) (u : Upset) (s : State) :
    s.storeAt 9 a 4 v u = s.wstore a v := by
  have hwrite : s.busWrite 9 a v = s.wstore a v := by
    rw [busWrite, if_pos (pmpData_debug ..), regWrite_of_plain h]
  rw [storeAt, regionOf_of_plain h, ← hwrite]
  exact if_pos rfl

/-- A store changes the registers as it does beside another debug module. -/
theorem wstore_wr_of_wr {s t : State} (h : t.wr = s.wr) (a v : Nat) : (t.wstore a v).wr = (s.wstore a v).wr := by
  unfold wstore wget
  rw [h]
  split
  · rfl
  · exact h

/-- A system-bus access starts at `a`; `clear` first clears sberror. -/
def sbStart (clear : Bool) (a : Nat) (s : State) : State :=
  s.modDbg fun d => { d with sbaddr := a, sberror := if clear then 0 else d.sberror }

/-- Without a standing error the access starts as with `clear`. -/
theorem sbStart_of_ready {clear : Bool} {s : State} (h : clear = true ∨ s.dbg.sberror = 0) (a : Nat) :
    s.sbStart clear a = s.sbStart true a := by
  rcases h with rfl | h
  · rfl
  · have hclear : (if clear then 0 else s.dbg.sberror) = 0 := by rw [h, ite_self]
    exact congrArg (fun e => { s with dbg := { s.dbg with sbaddr := a, sberror := e } }) hclear

/-- With autoincrement the address moves on to `next` where the access had no error. -/
def sbAdvance (inc : Bool) (next : Nat) (s : State) : State :=
  if inc && s.dbg.sberror == 0 then s.modDbg fun d => { d with sbaddr := next % 2 ^ 32 } else s

/-- Without an error the address moves on with autoincrement. -/
theorem sbAdvance_ready {next : Nat} {s : State} (hnone : s.dbg.sberror = 0) (hnext : next < 2 ^ 32) (inc : Bool) :
    s.sbAdvance inc next = s.modDbg fun d => { d with sbaddr := if inc then next else d.sbaddr } := by
  have hmod : next % 2 ^ 32 = next := Nat.mod_eq_of_lt hnext
  cases inc
  · rfl
  · simp only [sbAdvance, hnone, hmod, beq_self_eq_true, Bool.and_self, if_true]

/-- After an error the address stays. -/
theorem sbAdvance_after_error {s : State} (h : s.dbg.sberror ≠ 0) (inc : Bool) (next : Nat) :
    s.sbAdvance inc next = s := by simp [sbAdvance, h]

/-- A standing error stops the access. -/
theorem sbAccess_after_error {s : State} (h : s.dbg.sberror ≠ 0) (write : Bool) (k v err : Nat) (inc : Bool) (u : Upset) :
    s.sbAccess write k v err inc u = s := by simp [sbAccess, h]

section access

variable {k a : Nat} {s : State} (hactive : s.dbg.active = true) (hnone : s.dbg.sberror = 0)

include hactive hnone

/-- A width over 32 bits sets sberror 4. -/
theorem sbAccess_wide (hk : 2 < k) (write : Bool) (v err : Nat) (inc : Bool) (u : Upset) :
    s.sbAccess write k v err inc u = s.modDbg fun d => { d with sberror := 4 } := by
  simp [sbAccess, hactive, hnone, hk, sbErr, modDbg]

variable (hk : k ≤ 2)

include hk

/-- A misaligned access sets sberror 3. -/
theorem sbAccess_misaligned (hmis : s.dbg.sbaddr % 2 ^ k ≠ 0) (write : Bool) (v err : Nat) (inc : Bool) (u : Upset) :
    s.sbAccess write k v err inc u = s.modDbg fun d => { d with sberror := 3 } := by
  simp [sbAccess, hactive, hnone, Nat.not_lt.2 hk, sbBytes, hmis, sbErr, modDbg]

variable (haddr : s.dbg.sbaddr = a) (hali : a % 2 ^ k = 0)

include haddr hali

/-- A read of a value, or of a fault, ends the load and shows the value in sbdata0. -/
theorem sbAccess_read {err : Nat} {u : Upset} {x : Nat × Option Nat} (hload : s.loadAt 9 0 a (2 ^ k) err u = (some x, s))
    (v : Nat) (inc : Bool) :
    s.sbAccess false k v err inc u =
      (endLoad 9 a (x, s.modDbg fun d => { d with sbdata := x.1 })).sbAdvance inc (a + 2 ^ k) := by
  simp [sbAccess, sbAdvance, hactive, hnone, Nat.not_lt.2 hk, sbBytes, haddr, hali, hload]

/-- A write stores the value cut to its width. -/
theorem sbAccess_write (v err : Nat) (inc : Bool) (u : Upset) :
    s.sbAccess true k v err inc u =
      (s.storeAt 9 a (2 ^ k) (v % 2 ^ (8 * 2 ^ k)) u).sbAdvance inc (a + 2 ^ k) := by
  simp [sbAccess, sbAdvance, hactive, hnone, Nat.not_lt.2 hk, sbBytes, haddr, hali]

end access

end State
end Sys2Proof.Machine
end

section
/-! PROOF. The debug module (O36): one theorem for each clause. -/

namespace Sys2Proof.Machine

open Sys2Proof

/-! ### Halt and resume -/

/-- A halt of a hart out of reset saves its pc and privilege with cause 3 and takes its reservation. -/
theorem debugHalt_halts (n : Nat) (s : State) : let c := s.core n
    n < s.cores.length → s.hartUp = true → c.halted = false →
    Runs (.debugHalt n) s fun z =>
      (z.core n).halted = true ∧ (z.core n).lr = none ∧ (z.core n).csrGet csrDpc = c.pc % 2 ^ 32 ∧
      (z.core n).csrGet csrDcsr = (2 ^ 30 + (c.csrGet csrDcsr &&& 0x9E14) + 3 * 64 + if c.user then 0 else 3) % 2 ^ 32 ∧
      (z.core n).x = c.x ∧ (z.core n).pc = c.pc ∧ (∀ k, k ≠ n → z.core k = s.core k) ∧ OnlyRegs [] s z := by
  intro c hlen hup hrun
  obtain ⟨hself, hother⟩ := State.haltHart_core hlen hrun 3
  refine .of_exec (congrArg Host.Outcome.next (if_pos hup)) ?_
  rw [hself]
  refine ⟨rfl, rfl, ?_, ?_, rfl, rfl, hother, .of_wr (.refl _ s) ((k_haltHart ..).1 .wr rfl)⟩
  · exact (Core.csrGet_csrSet_other (by decide) _ (c.csrSet csrDpc c.pc)).trans (Core.csrGet_csrSet_self ..)
  · exact Core.csrGet_csrSet_self ..

/-- A halt of a hart in reset or of a halted one does nothing. -/
theorem debugHalt_ignored (n : Nat) (s : State) :
    s.hartUp = false ∨ (s.core n).halted = true → Runs (.debugHalt n) s fun z => z = s := by
  refine fun h => .of_exec rfl ?_
  rcases h with hdown | hhalt
  · exact if_neg (ne_true_of_eq_false hdown)
  · rw [State.haltHart_halted hhalt, ite_self]

/-- A resume restores the pc and the privilege. -/
theorem debugResume_resumes (n : Nat) (s : State) : let c := s.core n
    n < s.cores.length → s.dbg.active = true → c.halted = true →
    Runs (.debugResume n) s fun z =>
      (z.core n).halted = false ∧ (z.core n).user = (c.csrGet csrDcsr % 4 == 0) ∧
      (c.csrGet csrDpc ≠ 0 → (z.core n).pc = c.csrGet csrDpc) ∧ (z.core n).x = c.x ∧ (z.core n).csr = c.csr ∧
      OnlyRegs [] s z := by
  intro c hlen hactive hhalt
  have hself : (s.modCore n Core.leaveDebug).core n = c.leaveDebug := State.core_modCore_self hlen _
  obtain ⟨hx, hcsr, huser, hhalted, hpc⟩ := ((s.modCore n Core.leaveDebug).msipStart_core n).leaves
  rw [hself] at hx hcsr huser hhalted hpc
  exact .of_exec (congrArg Host.Outcome.next ((if_pos hactive).trans (State.resumeHart_halted hhalt)))
    ⟨hhalted, huser, hpc, hx, hcsr, .of_wr (.refl _ s) ((k_msipStart ..).1 .wr rfl)⟩

/-- A resume by an inactive debug module or of a running hart does nothing. -/
theorem debugResume_ignored (n : Nat) (s : State) :
    s.dbg.active = false ∨ (s.core n).halted = false → Runs (.debugResume n) s fun z => z = s := by
  refine fun h => .of_exec rfl ?_
  rcases h with hoff | hrun
  · exact if_neg (ne_true_of_eq_false hoff)
  · rw [State.resumeHart_running hrun, ite_self]

/-! ### Abstract commands -/

/-- An active debug module takes an abstract command with its hart and data0. -/
theorem Runs.of_abstractCmd {n v data : Nat} {s t : State} {post : State → Prop} (hactive : s.dbg.active = true)
    (h : (s.withCommand n data).abstractCmd v = t) (hp : post t) : Runs (.debugAbstractCommand n v data) s post :=
  .of_exec (congrArg Host.Outcome.next ((if_pos hactive).trans h)) hp

/-- An abstract command moves a register of a halted hart to or from data0, and sets cmderr 4 for a running one. -/
theorem debugAbstractCommand_moves (n v data : Nat) (s : State) : let c := s.core n
    n < s.cores.length → s.dbg.active = true → s.dbg.cmderr = 0 → bits 31 24 v = 0 → bit 19 v = false → bit 17 v = true →
    bits 22 20 v = 2 →
    (c.halted = false → Runs (.debugAbstractCommand n v data) s fun z =>
      z = { s with dbg := { s.dbg with hartsel := n, data0 := data, cmderr := 4 } }) ∧
    (∀ r, c.halted = true → bit 16 v = false → v % 65536 = 0x1000 + r → r < 32 →
      Runs (.debugAbstractCommand n v data) s fun z =>
        z = { s with dbg := { s.dbg with hartsel := n, data0 := c.x.getD r 0 } }) ∧
    (∀ r, c.halted = true → bit 16 v = true → v % 65536 = 0x1000 + r → 0 < r → r < 32 →
      Runs (.debugAbstractCommand n v data) s fun z =>
        z.core n = { c with x := c.x.set r data } ∧ (∀ k, k ≠ n → z.core k = s.core k) ∧
        z.dbg = { s.dbg with hartsel := n, data0 := data } ∧ z.wr = s.wr) ∧
    (c.halted = true → bit 16 v = true → v % 65536 = 0x1000 →
      Runs (.debugAbstractCommand n v data) s fun z =>
        z = { s with dbg := { s.dbg with hartsel := n, data0 := data } }) ∧
    (c.halted = true → bit 16 v = false → v % 65536 = 0xF14 →
      Runs (.debugAbstractCommand n v data) s fun z =>
        z = { s with dbg := { s.dbg with hartsel := n, data0 := n + 1 } }) ∧
    (c.halted = true → bit 16 v = true → v % 65536 = 0x340 →
      Runs (.debugAbstractCommand n v data) s fun z =>
        (z.core n).csrGet 0x340 = data % 2 ^ 32 ∧ (z.core n).x = c.x ∧ (∀ k, k ≠ n → z.core k = s.core k) ∧ z.wr = s.wr) := by
  intro c hlen hactive hnone haccess hsingle htransfer hwidth
  have hmove : State.MovesRegister v := ⟨haccess, hsingle, htransfer, hwidth⟩
  let t := s.withCommand n data
  have hnone' : t.dbg.cmderr = 0 := hnone
  have hself (f : Core → Core) : (t.modCore n f).core n = f c := State.core_modCore_self (s := t) hlen f
  refine ⟨fun hrun => ?_, fun r hhalt hread hreg hr => ?_, fun r hhalt hwrite hreg hpos hr => ?_,
    fun hhalt hwrite hreg => ?_, fun hhalt hread hreg => ?_, fun hhalt hwrite hreg => ?_⟩
  · exact .of_abstractCmd hactive ((State.abstractCmd_running hmove hnone' hrun).trans (State.cmdErr_first hnone' 4)) rfl
  · exact .of_abstractCmd hactive (State.abstractCmd_readGpr hmove hnone' hhalt hread hreg hr) rfl
  · exact .of_abstractCmd hactive (State.abstractCmd_writeGpr hmove hnone' hhalt hwrite hreg hpos hr)
      ⟨hself _, fun k hk => State.core_modCore_other hk _ t, rfl, rfl⟩
  · exact .of_abstractCmd hactive (State.abstractCmd_writeZero hmove hnone' hhalt hwrite hreg) rfl
  · exact .of_abstractCmd hactive (State.abstractCmd_readCsr hmove hnone' hhalt hread hreg (by decide) (by decide)) rfl
  · refine .of_abstractCmd hactive ((State.abstractCmd_writeCsr hmove hnone' hhalt hwrite hreg (by decide)
      (by decide)).trans (State.csrWrite_mscratch ..)) ?_
    have hcore : (t.modCore n (Core.csrSet 0x340 (data % 2 ^ 32))).core n = c.csrSet 0x340 (data % 2 ^ 32) := hself _
    exact ⟨(congrArg (Core.csrGet 0x340) hcore).trans ((Core.csrGet_csrSet_self ..).trans (Nat.mod_mod ..)),
      (congrArg Core.x hcore :), fun k hk => State.core_modCore_other hk _ t, rfl⟩

/-- An inactive debug module ignores an abstract command; another command sets cmderr 2, and a standing cmderr stops
every command. -/
theorem debugAbstractCommand_refused (n v data : Nat) (s : State) :
    (s.dbg.active = false → Runs (.debugAbstractCommand n v data) s fun z => z = s) ∧
    (s.dbg.active = true → s.dbg.cmderr = 0 → bits 31 24 v ≠ 0 → Runs (.debugAbstractCommand n v data) s fun z =>
      z = { s with dbg := { s.dbg with hartsel := n, data0 := data, cmderr := 2 } }) ∧
    (s.dbg.active = true → s.dbg.cmderr ≠ 0 → Runs (.debugAbstractCommand n v data) s fun z =>
      z = { s with dbg := { s.dbg with hartsel := n, data0 := data } }) := by
  let t := s.withCommand n data
  refine ⟨fun hoff => ?_, fun hactive hnone hop => ?_, fun hactive herr => ?_⟩
  · exact .of_exec (congrArg Host.Outcome.next (if_neg (ne_true_of_eq_false hoff))) rfl
  · exact .of_abstractCmd hactive ((State.abstractCmd_unsupported (s := t) hnone hop).trans
      (State.cmdErr_first (s := t) hnone 2)) rfl
  · exact .of_abstractCmd hactive (State.abstractCmd_after_error (s := t) herr v) rfl

/-! ### The system bus -/

/-- An active debug module starts an access of the system bus. -/
theorem Runs.of_sbAccess {clear write inc : Bool} {k a data err f p q : Nat} {s t : State} {post : State → Prop}
    (hactive : s.dbg.active = true)
    (h : (s.sbStart clear a).sbAccess write k data err inc ⟨f, p, q⟩ = t) (hp : post t) :
    Runs (.debugSysbusAccess clear write k a data inc err f p q) s post :=
  .of_exec (congrArg Host.Outcome.next ((if_pos hactive).trans h)) hp

/-- An access of the system bus reads or writes a plain register, or sets sberror. -/
theorem debugSysbusAccess_accesses (clear : Bool) (k a data : Nat) (inc : Bool) (err f p q : Nat) (s : State) :
    s.dbg.active = true → clear = true ∨ s.dbg.sberror = 0 →
    (a ∈ [WR.MEM_CTRL, WR.ADM_PACE_CFG, WR.CMP_CTRL, WR.MUS_CFG] →
      (Runs (.debugSysbusAccess clear false 2 a data inc err f p q) s fun z =>
        z.dbg = { s.dbg with sbaddr := if inc then a + 4 else a, sberror := 0, sbdata := s.regWord a } ∧
        z.out = s.out ++ [.load 9 a (s.regWord a) none] ∧ z.wr = s.wr ∧ z.mem = s.mem) ∧
      (Runs (.debugSysbusAccess clear true 2 a data inc err f p q) s fun z =>
        z.dbg = { s.dbg with sbaddr := if inc then a + 4 else a, sberror := 0 } ∧
        z.wr = (s.wstore a (data % 2 ^ 32)).wr ∧ z.out = s.out ∧ z.mem = s.mem)) ∧
    (∀ w, k ≤ 2 → a % 2 ^ k ≠ 0 → Runs (.debugSysbusAccess clear w k a data inc err f p q) s fun z =>
      z = { s with dbg := { s.dbg with sbaddr := a, sberror := 3 } }) ∧
    (∀ w, 2 < k → Runs (.debugSysbusAccess clear w k a data inc err f p q) s fun z =>
      z = { s with dbg := { s.dbg with sbaddr := a, sberror := 4 } }) ∧
    (k ≤ 2 → a % 2 ^ k = 0 → regionOf a = .unmapped →
      Runs (.debugSysbusAccess clear false k a data inc err f p q) s fun z =>
        z.dbg.sberror = 2 ∧ z.dbg.sbaddr = a ∧ z.out = s.out ++ [.load 9 a 0 (some 2)] ∧ z.wr = s.wr ∧ z.mem = s.mem) := by
  intro hactive hready
  let t := s.sbStart true a
  have hstart : s.sbStart clear a = t := State.sbStart_of_ready hready a
  refine ⟨fun hplain => ?_, fun w hk hmis => ?_, fun w hk => ?_, fun hk hali hun => ?_⟩
  · have hnext : a + 4 < 2 ^ 32 := Nat.lt_of_lt_of_le (Nat.add_lt_add_right (State.plain_range hplain).2 4) (by decide)
    have hali : a % 2 ^ 2 = 0 := by rcases State.mem_plainRegs.1 hplain with rfl | rfl | rfl | rfl <;> rfl
    have hread := (State.sbAccess_read (s := t) hactive rfl (Nat.le_refl 2) rfl hali
      (State.loadAt_plain hplain 0 err ⟨f, p, q⟩ t) data inc).trans (State.sbAdvance_ready rfl hnext inc)
    have hdbg := (k_wstore a (data % 2 ^ 32) t).1 .dbg rfl
    have hwrite := (State.sbAccess_write (s := t) hactive rfl (Nat.le_refl 2) rfl hali data err inc ⟨f, p, q⟩).trans
      ((congrArg (State.sbAdvance inc _) (State.storeAt_plain hplain (data % 2 ^ 32) ⟨f, p, q⟩ t)).trans
        (State.sbAdvance_ready (congrArg Dbg.sberror hdbg) hnext inc))
    refine ⟨.of_sbAccess hactive ((congrArg _ hstart).trans hread) ⟨rfl, rfl, rfl, rfl⟩,
      .of_sbAccess hactive ((congrArg _ hstart).trans hwrite) ⟨?_, State.wstore_wr_of_wr (s := s) (t := t) rfl .., ?_, ?_⟩⟩
    · exact congrArg (fun d : Dbg => { d with sbaddr := if inc then a + 4 else d.sbaddr }) hdbg
    · exact (k_wstore ..).1 .out rfl
    · exact (k_wstore ..).1 .mem rfl
  · exact .of_sbAccess hactive ((congrArg _ hstart).trans (State.sbAccess_misaligned (s := t) hactive rfl hk hmis ..)) rfl
  · exact .of_sbAccess hactive ((congrArg _ hstart).trans (State.sbAccess_wide (s := t) hactive rfl hk ..)) rfl
  · have hload : t.loadAt 9 0 a (2 ^ k) err ⟨f, p, q⟩ = (some (0, some 2), t) := if_pos hun
    exact .of_sbAccess hactive ((congrArg _ hstart).trans ((State.sbAccess_read (s := t) hactive rfl hk rfl hali hload
      data inc).trans (State.sbAdvance_after_error (Nat.succ_ne_zero 1) ..))) ⟨rfl, rfl, rfl, rfl, rfl⟩

/-- A standing sberror stops an access, and an inactive debug module does nothing. -/
theorem debugSysbusAccess_stopped (clear write : Bool) (k a data : Nat) (inc : Bool) (err f p q : Nat) (s : State) :
    (s.dbg.active = true → clear = false → s.dbg.sberror ≠ 0 →
      Runs (.debugSysbusAccess clear write k a data inc err f p q) s fun z =>
        z = { s with dbg := { s.dbg with sbaddr := a } }) ∧
    (s.dbg.active = false → Runs (.debugSysbusAccess clear write k a data inc err f p q) s fun z => z = s) := by
  refine ⟨?_, fun hoff => .of_exec (congrArg Host.Outcome.next (if_neg (ne_true_of_eq_false hoff))) rfl⟩
  rintro hactive rfl herr
  exact .of_sbAccess hactive (State.sbAccess_after_error (s := s.sbStart false a) herr ..) rfl

/-- Settles O36, clause by clause. -/
theorem debugModule : Obligations.DebugModule :=
  ⟨debugHalt_halts, debugHalt_ignored, debugResume_resumes, debugResume_ignored, debugAbstractCommand_moves,
    debugAbstractCommand_refused, debugSysbusAccess_accesses, debugSysbusAccess_stopped⟩

end Sys2Proof.Machine
end

section
/-! SUPPORT. Packet queues (spec/10): what a store of a queue shows, what a count before it leaves, and what a
producer's word, a read, a flush and a change of mode do (O21). -/

namespace Sys2Proof.Machine

open Sys2Proof

/-- A queue with a word more in normal service. -/
def Queue.entered (data : Nat) (eop bad : Bool) (q : Queue) : Queue :=
  let words := q.words ++ [⟨data, eop, eop && bad⟩]
  { q with words := words, visible := words.length, packet := if eop then 0 else q.packet + 1, inPacket := !eop }

namespace State

/-! ### A store of a queue (R339, R343, R344) -/

/-- The registers that show what queue `n` holds. -/
def queueShown (n : Nat) : List Fld :=
  [WR.Q_STATUS_EMPTY n, WR.Q_STATUS_FULL n, WR.Q_STATUS_OPEN n, WR.Q_STATUS_DISCARDING n, WR.Q_LEVEL_WORDS n,
    WR.Q_VIS_VISIBLE n, WR.Q_LEVEL_PKTS n, WR.Q_VIS_HWM n]

/-- The registers of queue `n` that record its mode and its losses. -/
def queueMarks (n : Nat) : List Fld :=
  [WR.Q_CTRL_STAGED n, WR.Q_STATUS_OVERRUN n, WR.Q_LOSS_BROKEN n, WR.Q_LOSS_REWOUND n, WR.Q_LOSS_DROPPED n]

/-- What a queue shows stands at different keys. -/
theorem queueShown_nodup (n : Nat) : ((queueShown n).map Fld.key).Nodup := by
  simp only [queueShown, List.map_cons, List.map_nil, List.nodup_cons, List.mem_cons, List.not_mem_nil, or_false,
    not_false_iff, List.nodup_nil, and_true, Fld.key, WR.Q_STATUS_EMPTY, WR.Q_STATUS_FULL, WR.Q_STATUS_OPEN,
    WR.Q_STATUS_DISCARDING, WR.Q_STATUS, WR.Q_LEVEL_WORDS, WR.Q_LEVEL_PKTS, WR.Q_LEVEL, WR.Q_VIS_VISIBLE,
    WR.Q_VIS_HWM, WR.Q_VIS]
  omega

/-- NOTIFY_EN and the marks of a queue stand apart from what shows its words. -/
theorem queueShown_apart (n : Nat) :
    ∀ f ∈ WR.Q_CTRL_NOTIFY_EN n :: queueMarks n, ∀ g ∈ queueShown n, f.key ≠ g.key := by
  simp only [queueMarks, queueShown, List.forall_mem_cons, List.not_mem_nil, false_imp_iff, implies_true, and_true,
    Fld.key, WR.Q_CTRL_NOTIFY_EN, WR.Q_CTRL_STAGED, WR.Q_CTRL, WR.Q_STATUS_OVERRUN, WR.Q_STATUS_EMPTY,
    WR.Q_STATUS_FULL, WR.Q_STATUS_OPEN, WR.Q_STATUS_DISCARDING, WR.Q_STATUS, WR.Q_LOSS_BROKEN, WR.Q_LOSS_REWOUND,
    WR.Q_LOSS_DROPPED, WR.Q_LOSS, WR.Q_LEVEL_WORDS, WR.Q_LEVEL_PKTS, WR.Q_LEVEL, WR.Q_VIS_VISIBLE, WR.Q_VIS_HWM,
    WR.Q_VIS]
  omega

/-- NOTIFY_EN stands apart from the marks of a queue. -/
theorem queueMarks_apart (n : Nat) : ∀ g ∈ queueMarks n, (WR.Q_CTRL_NOTIFY_EN n).key ≠ g.key := by
  simp only [queueMarks, List.forall_mem_cons, List.not_mem_nil, false_imp_iff, implies_true, and_true, Fld.key,
    WR.Q_CTRL_NOTIFY_EN, WR.Q_CTRL_STAGED, WR.Q_CTRL, WR.Q_STATUS_OVERRUN, WR.Q_STATUS, WR.Q_LOSS_BROKEN,
    WR.Q_LOSS_REWOUND, WR.Q_LOSS_DROPPED, WR.Q_LOSS]
  omega

/-- In `z` queue `n` is `q`, as its registers show, and else nothing that a queue or a register holds differs from
`t`. -/
structure QueueStored (n : Nat) (q : Queue) (t z : State) : Prop where
  self : z.queue n = q
  others : ∀ m, m ≠ n → z.queue m = t.queue m
  regs : OnlyRegs (queueShown n) t z
  level : z.wget (WR.Q_LEVEL_WORDS n) = q.words.length % 65536
  out : z.out = t.out

/-- A queue that does not notify is stored. -/
theorem putQueue_stored {n : Nat} {t : State} (hquiet : t.wget (WR.Q_CTRL_NOTIFY_EN n) = 0) (q : Queue) :
    QueueStored n q t (t.putQueue n q) := by
  unfold putQueue
  extract_lets before stored shown raised
  have hregs : OnlyRegs (queueShown n) t raised :=
    .wset _ (.wsets (t := stored) _ (.of_wr (.refl _ t) rfl) (by simp [queueShown])) (by simp [queueShown])
  have hen : raised.won (WR.Q_CTRL_NOTIFY_EN n) = false :=
    won_eq_false.2 ((hregs _ (queueShown_apart n _ List.mem_cons_self)).trans hquiet)
  rw [if_neg fun h => by simp [hen] at h]
  refine ⟨SMap.getD_insert_self .., fun m hm => SMap.getD_insert_other hm .., hregs, ?_, rfl⟩
  have hlevel : raised.wget (WR.Q_LEVEL_WORDS n) = shown.wget (WR.Q_LEVEL_WORDS n) :=
    wget_wraise_other (Fld.key_ne_of_addr_lt (Nat.add_lt_add_right (by decide) _) (show 0 < 32 by decide)) _ _
  have hkeys : (((queueShown n).map Fld.key).take 7).Nodup := (queueShown_nodup n).sublist (List.take_sublist ..)
  refine hlevel.trans (RegFile.get_sets_of_mem ?_ (by simp) _)
  exact hkeys

variable {n : Nat} {q : Queue} {l : List Fld} {s t z : State}

/-- A store after a change of marks: NOTIFY_EN is read as before. -/
theorem putQueue_marked (hquiet : s.wget (WR.Q_CTRL_NOTIFY_EN n) = 0) (h : OnlyRegs l s t) (hl : l ⊆ queueMarks n)
    (q : Queue) : QueueStored n q t (t.putQueue n q) :=
  putQueue_stored ((h _ fun g hg => queueMarks_apart n g (hl hg)).trans hquiet) q

namespace QueueStored

/-- The marks are left by a store. -/
theorem mark (k : QueueStored n q t z) {f : Fld} (hf : f ∈ queueMarks n) : z.wget f = t.wget f :=
  k.regs f (queueShown_apart n f (List.mem_cons_of_mem _ hf))

/-- What differs after marks and a store. -/
theorem onlyRegs (k : QueueStored n q t z) (h : OnlyRegs l s t) : OnlyRegs (queueShown n ++ l) s z :=
  (h.mono (List.subset_append_right ..)).trans (k.regs.mono (List.subset_append_left ..))

end QueueStored

/-! ### Marks before a store -/

/-- A conditional count counts where its condition holds. -/
theorem wget_wcountIf_self (b : Bool) (f : Fld) (s : State) :
    (s.wcountIf b f).wget f = if b then min (s.wget f + 1) (f.size - 1) else s.wget f := by
  cases b
  · rfl
  · exact wget_wadd_self ..

/-- A conditional count leaves the queues, the emitted words and the other registers. -/
theorem wcountIf_leaves (b : Bool) (f : Fld) (s : State) :
    (s.wcountIf b f).queues = s.queues ∧ (s.wcountIf b f).out = s.out ∧ OnlyRegs [f] s (s.wcountIf b f) := by
  cases b
  · exact ⟨rfl, rfl, .refl _ s⟩
  · exact ⟨rfl, rfl, .wadd 1 (.refl _ s) List.mem_cons_self⟩

/-- An overrun of a queue other than 12 sets OVERRUN (R340). -/
theorem qOverrun_eq (hn : n ≠ 12) (s : State) : s.qOverrun n = s.wset (WR.Q_STATUS_OVERRUN n) 1 := if_neg hn

/-- A queue stored after an overrun: OVERRUN is set and the loss counted (R340–R342). -/
theorem overrun_stored {f : Fld} (hf : f ∈ queueMarks n) (haddr : f.addr = WR.Q_LOSS n)
    (hquiet : s.wget (WR.Q_CTRL_NOTIFY_EN n) = 0)
    (hz : z = ((s.wset (WR.Q_STATUS_OVERRUN n) 1).wadd f 1).putQueue n q) :
    z.queue n = q ∧ z.wget (WR.Q_STATUS_OVERRUN n) = 1 ∧ z.wget f = min (s.wget f + 1) (f.size - 1) ∧
    (∀ m, m ≠ n → z.queue m = s.queue m) ∧ OnlyRegs (queueShown n ++ [WR.Q_STATUS_OVERRUN n, f]) s z := by
  subst hz
  have hoverrun : WR.Q_STATUS_OVERRUN n ∈ queueMarks n := by simp [queueMarks]
  have hapart : (WR.Q_STATUS_OVERRUN n).key ≠ f.key :=
    Fld.key_ne_of_addr_lt (haddr ▸ Nat.add_lt_add_right (by decide) _) (show 4 < 32 by decide)
  have hregs : OnlyRegs [WR.Q_STATUS_OVERRUN n, f] s ((s.wset (WR.Q_STATUS_OVERRUN n) 1).wadd f 1) :=
    .wadd 1 (.wset 1 (.refl _ s) (by simp)) (by simp)
  have k := putQueue_marked hquiet hregs (by simp [hoverrun, hf]) q
  refine ⟨k.self, ?_, ?_, k.others, k.onlyRegs hregs⟩
  · rw [k.mark hoverrun, wget_wadd_other hapart, wget_wset_self]
    rfl
  · rw [k.mark hf, wget_wadd_self, wget_wset_other hapart.symm]

/-! ### A producer's word (R339–R345, R347, R348) -/

/-- A word offered to a queue that is present, takes words and holds no producer back goes by the queue's mode. -/
theorem offer_eq (hhere : s.qHere n = true) (hdiscard : (s.queue n).discard = false) (hheld : (s.queue n).held = [])
    (data : Nat) (eop bad : Bool) :
    s.offer n data eop bad = if s.staged n then s.offerStaged n data eop bad (s.queue n)
      else s.offerNormal n data eop bad (s.queue n) := by
  simp [offer, hhere, hdiscard, hheld]

/-- A producer that waits is held back by a full queue (R340). -/
theorem offerNormal_waits (hfull : qFull n q = true) (hwaits : qWaits n = true) (data : Nat) (eop bad : Bool)
    (s : State) :
    s.offerNormal n data eop bad q = s.putQueue n { q with held := q.held ++ [⟨data, eop, bad⟩] } :=
  (if_pos hfull).trans (if_pos hwaits)

/-- Where its producer does not wait, a full queue refuses the first word of a packet (R340, R342). -/
theorem offerNormal_drops (hfull : qFull n q = true) (hwaits : qWaits n = false) (hn : n ≠ 12) (hpacket : q.packet = 0)
    (data : Nat) (eop bad : Bool) (s : State) :
    s.offerNormal n data eop bad q = ((s.wset (WR.Q_STATUS_OVERRUN n) 1).wadd (WR.Q_LOSS_DROPPED n) 1).putQueue n
      { q with discard := !eop, inPacket := !eop } := by
  rw [← qOverrun_eq hn]
  exact (if_pos hfull).trans ((if_neg (ne_true_of_eq_false hwaits)).trans (if_pos hpacket))

/-- Where its producer does not wait, a full queue closes the packet in progress with an abort marker (R340, R341). -/
theorem offerNormal_aborts (hfull : qFull n q = true) (hwaits : qWaits n = false) (hn : n ≠ 12) (hpacket : q.packet ≠ 0)
    (data : Nat) (eop bad : Bool) (s : State) :
    s.offerNormal n data eop bad q = ((s.wset (WR.Q_STATUS_OVERRUN n) 1).wadd (WR.Q_LOSS_BROKEN n) 1).putQueue n
      { q with words := q.words ++ [⟨0, true, true⟩], packet := 0, discard := !eop, inPacket := !eop } := by
  rw [← qOverrun_eq hn]
  exact (if_pos hfull).trans ((if_neg (ne_true_of_eq_false hwaits)).trans (if_neg hpacket))

/-- The words of a queue with room after a word in normal service (R340, R345). -/
theorem offer_room {data : Nat} {eop bad : Bool} (hhere : s.qHere n = true) (hdiscard : (s.queue n).discard = false)
    (hheld : (s.queue n).held = []) (hnormal : s.staged n = false) (hroom : qFull n (s.queue n) = false)
    (hquiet : s.wget (WR.Q_CTRL_NOTIFY_EN n) = 0) :
    ((s.offer n data eop bad).queue n).words = (s.queue n).words ++ [⟨data, eop, eop && bad⟩] ∧
    (s.offer n data eop bad).wget (WR.Q_LEVEL_WORDS n) = ((s.queue n).words.length + 1) % 65536 ∧
    (s.offer n data eop bad).wget (WR.Q_LOSS_BROKEN n) =
      (if eop && bad then min (s.wget (WR.Q_LOSS_BROKEN n) + 1) 255 else s.wget (WR.Q_LOSS_BROKEN n)) ∧
    (∀ m, m ≠ n → (s.offer n data eop bad).queue m = s.queue m) ∧
    OnlyRegs (queueShown n ++ [WR.Q_LOSS_BROKEN n]) s (s.offer n data eop bad) := by
  obtain ⟨hqueues, -, hregs⟩ := wcountIf_leaves (eop && bad) (WR.Q_LOSS_BROKEN n) s
  rw [offer_eq hhere hdiscard hheld, if_neg (ne_true_of_eq_false hnormal), offerNormal,
    if_neg (ne_true_of_eq_false hroom)]
  have k := putQueue_marked hquiet hregs (by simp [queueMarks])
    ((s.queue n).entered data eop bad)
  refine ⟨congrArg Queue.words k.self, ?_, (k.mark (by simp [queueMarks])).trans (wget_wcountIf_self ..),
    fun m hm => (k.others m hm).trans (congrArg (SMap.getD Queue.empty m) hqueues), k.onlyRegs hregs⟩
  exact k.level.trans (congrArg (· % 65536) List.length_append)

/-- The last word of a good packet commits it (R347). -/
theorem offerStaged_commits (hroom : qFull n q = false) (data : Nat) (s : State) :
    s.offerStaged n data true false q = s.putQueue n (q.entered data true false) :=
  (if_neg (ne_true_of_eq_false hroom)).trans (if_neg Bool.false_ne_true)

/-- The last word of a bad packet rewinds it (R348). -/
theorem offerStaged_rewinds (hroom : qFull n q = false) (data : Nat) (s : State) :
    s.offerStaged n data true true q = s.qRewind n true q :=
  (if_neg (ne_true_of_eq_false hroom)).trans (if_pos rfl)

/-! ### Reads, flushes and changes of mode (R344, R351, R352) -/

/-- Nothing visible, nothing read. -/
theorem pop_none (h : s.qVisible n = 0) (err : Nat) : s.pop n err = (none, false, s) := by
  unfold pop
  extract_lets q
  split
  · rfl
  · exact if_pos h

/-- No producer held back, nothing offered. -/
theorem offerHeld_none (h : (s.queue n).held = []) : s.offerHeld n = s := by
  unfold offerHeld
  simp only [h]

/-- What a queue holds after its oldest word has been taken. -/
def withoutHead (r : List QWord) (n : Nat) (s : State) : Queue :=
  { s.queue n with
    words := r
    visible := (s.queue n).visible - 1
    packet := if s.staged n then (s.queue n).packet else min (s.queue n).packet r.length }

/-- A clean read takes the oldest word, where no producer is held back (R344). -/
theorem pop_clean {w : QWord} {r : List QWord} (hwords : (s.queue n).words = w :: r) (hvisible : s.qVisible n ≠ 0)
    (hheld : (s.queue n).held = []) (hquiet : s.wget (WR.Q_CTRL_NOTIFY_EN n) = 0) :
    s.pop n 0 = (some w, false, s.putQueue n (s.withoutHead r n)) := by
  have k := putQueue_stored hquiet (s.withoutHead r n)
  have hback : (s.putQueue n (s.withoutHead r n)).offerHeld n = s.putQueue n (s.withoutHead r n) :=
    offerHeld_none ((congrArg Queue.held k.self).trans hheld)
  have hpoison : ((0 : Nat) == 2 || (n == 0 && (0 : Nat) != 0)) = false := by simp
  unfold pop
  simp only [hwords]
  rw [if_neg hvisible, hpoison]
  exact congrArg (fun x => (some w, false, x)) hback

/-- A flush of a queue that does not notify empties it (R351). -/
theorem flush_empties (hquiet : s.wget (WR.Q_CTRL_NOTIFY_EN n) = 0) : let q := s.queue n
    ((s.flush n).queue n).words = [] ∧ ((s.flush n).queue n).discard = q.inPacket ∧
    (s.flush n).wget (WR.Q_LOSS_DROPPED n) =
      (if q.inPacket && !q.discard then min (s.wget (WR.Q_LOSS_DROPPED n) + 1) 65535
        else s.wget (WR.Q_LOSS_DROPPED n)) ∧
    (∀ m, m ≠ n → (s.flush n).queue m = s.queue m) ∧
    OnlyRegs (queueShown n ++ [WR.Q_LOSS_DROPPED n]) s (s.flush n) := by
  intro q
  obtain ⟨hqueues, -, hregs⟩ := wcountIf_leaves (q.inPacket && !q.discard) (WR.Q_LOSS_DROPPED n) s
  have k := putQueue_marked hquiet hregs (by simp [queueMarks])
    { Queue.empty with inPacket := q.inPacket, discard := q.inPacket }
  exact ⟨congrArg Queue.words k.self, congrArg Queue.discard k.self,
    (k.mark (by simp [queueMarks])).trans (wget_wcountIf_self ..),
    fun m hm => (k.others m hm).trans (congrArg (SMap.getD Queue.empty m) hqueues), k.onlyRegs hregs⟩

/-- STAGED of an empty queue between packets changes (R352). -/
theorem writeStaged_empty {v : Bool} (hchange : b2n v ≠ s.wget (WR.Q_CTRL_STAGED n)) (hwords : (s.queue n).words = [])
    (hpacket : (s.queue n).inPacket = false) :
    s.writeStaged n v = (s.wset (WR.Q_CTRL_STAGED n) (b2n v)).putQueue n (s.queue n) :=
  (if_neg hchange).trans (if_pos (by simp [hwords, hpacket]))

/-- A change of STAGED is ignored while the queue holds words (R352). -/
theorem writeStaged_ignored {v : Bool} (hchange : b2n v ≠ s.wget (WR.Q_CTRL_STAGED n))
    (hwords : (s.queue n).words ≠ []) :
    s.writeStaged n v = s.wset (WR.Q_STATUS_WR_IGNORED n) 1 :=
  (if_neg hchange).trans (if_neg (by simp [hwords]))

end State

end Sys2Proof.Machine
end

section
/-! PROOF. Packet queues (O21): one theorem for each clause. -/

namespace Sys2Proof.Machine

open Sys2Proof

/-- In normal service a word enters a queue that is not full. -/
theorem queueWrite_enters (n data : Nat) (eop bad : Bool) (s : State) : let q := s.queue n
    s.qHere n = true → q.discard = false → q.held = [] → s.staged n = false → State.qFull n q = false →
    s.wget (WR.Q_CTRL_NOTIFY_EN n) = 0 →
    Runs (.queueWrite n data eop bad) s fun z =>
      (z.queue n).words = q.words ++ [⟨data, eop, eop && bad⟩] ∧
      z.wget (WR.Q_LEVEL_WORDS n) = (q.words.length + 1) % 65536 ∧
      z.wget (WR.Q_LOSS_BROKEN n) =
        (if eop && bad then min (s.wget (WR.Q_LOSS_BROKEN n) + 1) 255 else s.wget (WR.Q_LOSS_BROKEN n)) ∧
      (∀ m, m ≠ n → z.queue m = s.queue m) ∧ OnlyRegs (State.queueShown n ++ [WR.Q_LOSS_BROKEN n]) s z :=
  fun hhere hdiscard hheld hnormal hroom hquiet =>
    .of_exec rfl (State.offer_room hhere hdiscard hheld hnormal hroom hquiet)

/-- A full queue in normal service holds a producer that waits back, and loses words of one that does not. -/
theorem queueWrite_full (n data : Nat) (eop bad : Bool) (s : State) : let q := s.queue n
    s.qHere n = true → q.discard = false → q.held = [] → s.staged n = false → State.qFull n q = true →
    s.wget (WR.Q_CTRL_NOTIFY_EN n) = 0 →
    (State.qWaits n = true →
      Runs (.queueWrite n data eop bad) s fun z =>
        z.queue n = { q with held := [⟨data, eop, bad⟩] } ∧ (∀ m, m ≠ n → z.queue m = s.queue m) ∧
        OnlyRegs (State.queueShown n) s z) ∧
    (State.qWaits n = false → n ≠ 12 → q.packet = 0 →
      Runs (.queueWrite n data eop bad) s fun z =>
        (z.queue n).words = q.words ∧ (z.queue n).discard = !eop ∧ z.wget (WR.Q_STATUS_OVERRUN n) = 1 ∧
        z.wget (WR.Q_LOSS_DROPPED n) = min (s.wget (WR.Q_LOSS_DROPPED n) + 1) 65535 ∧
        (∀ m, m ≠ n → z.queue m = s.queue m) ∧
        OnlyRegs (State.queueShown n ++ [WR.Q_STATUS_OVERRUN n, WR.Q_LOSS_DROPPED n]) s z) ∧
    (State.qWaits n = false → n ≠ 12 → q.packet ≠ 0 →
      Runs (.queueWrite n data eop bad) s fun z =>
        (z.queue n).words = q.words ++ [⟨0, true, true⟩] ∧ (z.queue n).discard = !eop ∧
        z.wget (WR.Q_STATUS_OVERRUN n) = 1 ∧
        z.wget (WR.Q_LOSS_BROKEN n) = min (s.wget (WR.Q_LOSS_BROKEN n) + 1) 255 ∧
        (∀ m, m ≠ n → z.queue m = s.queue m) ∧
        OnlyRegs (State.queueShown n ++ [WR.Q_STATUS_OVERRUN n, WR.Q_LOSS_BROKEN n]) s z) := by
  intro q hhere hdiscard hheld hnormal hfull hquiet
  have hoffer : s.offer n data eop bad = s.offerNormal n data eop bad q :=
    (State.offer_eq hhere hdiscard hheld ..).trans (if_neg (ne_true_of_eq_false hnormal))
  refine ⟨fun hwaits => ?_, fun hwaits hn hpacket => ?_, fun hwaits hn hpacket => ?_⟩
  · have k := State.putQueue_stored hquiet { q with held := q.held ++ [⟨data, eop, bad⟩] }
    refine .of_exec (congrArg Host.Outcome.next (hoffer.trans (State.offerNormal_waits hfull hwaits ..)))
      ⟨k.self.trans ?_, k.others, k.regs⟩
    rw [hheld, List.nil_append]
  · obtain ⟨hself, hoverrun, hlost, hothers, hregs⟩ := State.overrun_stored (by simp [State.queueMarks]) rfl hquiet
      (hoffer.trans (State.offerNormal_drops hfull hwaits hn hpacket ..))
    exact .of_exec rfl ⟨(congrArg Queue.words hself).trans rfl, congrArg Queue.discard hself, hoverrun, hlost, hothers,
      hregs⟩
  · obtain ⟨hself, hoverrun, hlost, hothers, hregs⟩ := State.overrun_stored (by simp [State.queueMarks]) rfl hquiet
      (hoffer.trans (State.offerNormal_aborts hfull hwaits hn hpacket ..))
    exact .of_exec rfl ⟨congrArg Queue.words hself, congrArg Queue.discard hself, hoverrun, hlost, hothers, hregs⟩

/-- In staged mode the last word commits its packet, or rewinds it where it is bad. -/
theorem queueWrite_staged (n data : Nat) (bad : Bool) (s : State) : let q := s.queue n
    s.qHere n = true → q.discard = false → q.held = [] → s.staged n = true → State.qFull n q = false →
    s.wget (WR.Q_CTRL_NOTIFY_EN n) = 0 →
    (bad = false →
      Runs (.queueWrite n data true bad) s fun z =>
        (z.queue n).words = q.words ++ [⟨data, true, false⟩] ∧ (z.queue n).visible = q.words.length + 1 ∧
        (z.queue n).packet = 0 ∧ (∀ m, m ≠ n → z.queue m = s.queue m) ∧ OnlyRegs (State.queueShown n) s z) ∧
    (bad = true →
      Runs (.queueWrite n data true bad) s fun z =>
        (z.queue n).words = q.words.take q.visible ∧ (z.queue n).packet = 0 ∧
        z.wget (WR.Q_LOSS_REWOUND n) = min (s.wget (WR.Q_LOSS_REWOUND n) + 1) 255 ∧
        (∀ m, m ≠ n → z.queue m = s.queue m) ∧
        OnlyRegs (State.queueShown n ++ [WR.Q_LOSS_REWOUND n]) s z) := by
  intro q hhere hdiscard hheld hstaged hroom hquiet
  have hoffer : s.offer n data true bad = s.offerStaged n data true bad q :=
    (State.offer_eq hhere hdiscard hheld ..).trans (if_pos hstaged)
  constructor
  · rintro rfl
    have k := State.putQueue_stored hquiet (q.entered data true false)
    exact .of_exec (congrArg Host.Outcome.next (hoffer.trans (State.offerStaged_commits hroom ..)))
      ⟨congrArg Queue.words k.self, (congrArg Queue.visible k.self).trans List.length_append,
        congrArg Queue.packet k.self, k.others, k.regs⟩
  · rintro rfl
    have hregs : OnlyRegs [WR.Q_LOSS_REWOUND n] s (s.wadd (WR.Q_LOSS_REWOUND n) 1) :=
      .wadd 1 (.refl _ s) List.mem_cons_self
    have k := State.putQueue_marked hquiet hregs (by simp [State.queueMarks])
      { q with words := q.words.take q.visible, packet := 0, inPacket := false, discard := false }
    exact .of_exec (congrArg Host.Outcome.next (hoffer.trans (State.offerStaged_rewinds hroom ..)))
      ⟨congrArg Queue.words k.self, congrArg Queue.packet k.self,
        (k.mark (by simp [State.queueMarks])).trans (State.wget_wadd_self ..), k.others, k.onlyRegs hregs⟩

/-- A clean read takes the oldest visible word. -/
theorem queueRead_takes_head (n : Nat) (w : QWord) (r : List QWord) (s : State) : let q := s.queue n
    n ≠ 10 → s.qHere n = true → q.words = w :: r → s.qVisible n ≠ 0 → q.held = [] →
    s.wget (WR.Q_CTRL_NOTIFY_EN n) = 0 →
    Runs (.queueRead n 0) s fun z =>
      z.out = s.out ++ [.word n w.data w.eop w.broken false] ∧ (z.queue n).words = r ∧
      (z.queue n).visible = q.visible - 1 ∧ (∀ m, m ≠ n → z.queue m = s.queue m) ∧
      OnlyRegs (State.queueShown n) s z := by
  intro q hn hhere hwords hvisible hheld hquiet
  have k := State.putQueue_stored hquiet (s.withoutHead r n)
  have hexec : execQueueRead n 0 s =
      .next ((s.putQueue n (s.withoutHead r n)).emit (.word n w.data w.eop w.broken false)) := by
    rw [execQueueRead, if_neg hn, if_pos hhere, State.pop_clean hwords hvisible hheld hquiet]
  exact .of_exec hexec ⟨congrArg (· ++ _) k.out, congrArg Queue.words k.self, congrArg Queue.visible k.self, k.others,
    .of_wr k.regs rfl⟩

/-- A read that finds no visible word does nothing. -/
theorem queueRead_nothing (n err : Nat) (s : State) :
    n ≠ 10 → s.qVisible n = 0 → Runs (.queueRead n err) s fun z => z = s := by
  intro hn hvisible
  refine .of_exec (t := s) ((if_neg hn).trans ?_) rfl
  rw [State.pop_none hvisible]
  exact ite_self _

/-- A flush empties the queue and counts the packet in progress. -/
theorem queueFlush_empties (n : Nat) (s : State) : let q := s.queue n
    s.qHere n = true → s.wget (WR.Q_CTRL_NOTIFY_EN n) = 0 →
    Runs (.queueFlush n) s fun z =>
      (z.queue n).words = [] ∧ (z.queue n).discard = q.inPacket ∧
      z.wget (WR.Q_LOSS_DROPPED n) =
        (if q.inPacket && !q.discard then min (s.wget (WR.Q_LOSS_DROPPED n) + 1) 65535
          else s.wget (WR.Q_LOSS_DROPPED n)) ∧
      (∀ m, m ≠ n → z.queue m = s.queue m) ∧ OnlyRegs (State.queueShown n ++ [WR.Q_LOSS_DROPPED n]) s z :=
  fun hhere hquiet => .of_exec (congrArg Host.Outcome.next (if_pos hhere)) (State.flush_empties hquiet)

/-- The mode of an empty queue between packets changes; while it holds words the write is ignored. -/
theorem queueStagedWrite_changes_or_ignored (n : Nat) (v : Bool) (s : State) : let q := s.queue n
    s.qHere n = true → b2n v ≠ s.wget (WR.Q_CTRL_STAGED n) → s.wget (WR.Q_CTRL_NOTIFY_EN n) = 0 →
    (q.words = [] → q.inPacket = false →
      Runs (.queueStagedWrite n v) s fun z =>
        z.wget (WR.Q_CTRL_STAGED n) = b2n v ∧ z.queue n = q ∧
        OnlyRegs (State.queueShown n ++ [WR.Q_CTRL_STAGED n]) s z) ∧
    (q.words ≠ [] →
      Runs (.queueStagedWrite n v) s fun z =>
        z.wget (WR.Q_STATUS_WR_IGNORED n) = 1 ∧ z.queue n = q ∧ OnlyRegs [WR.Q_STATUS_WR_IGNORED n] s z) := by
  intro q hhere hchange hquiet
  refine ⟨fun hwords hpacket => ?_, fun hwords => ?_⟩
  · have hregs : OnlyRegs [WR.Q_CTRL_STAGED n] s (s.wset (WR.Q_CTRL_STAGED n) (b2n v)) :=
      .wset _ (.refl _ s) List.mem_cons_self
    have k := State.putQueue_marked hquiet hregs (by simp [State.queueMarks]) q
    have hread : (s.wset (WR.Q_CTRL_STAGED n) (b2n v)).wget (WR.Q_CTRL_STAGED n) = b2n v :=
      (State.wget_wset_self ..).trans (b2n_mod_size rfl v)
    exact .of_exec (congrArg Host.Outcome.next ((if_pos hhere).trans (State.writeStaged_empty hchange hwords hpacket)))
      ⟨(k.mark List.mem_cons_self).trans hread, k.self, k.onlyRegs hregs⟩
  · exact .of_exec (congrArg Host.Outcome.next ((if_pos hhere).trans (State.writeStaged_ignored hchange hwords)))
      ⟨State.wget_wset_self .., rfl, .wset 1 (.refl _ s) List.mem_cons_self⟩

/-- Q14_WTAG offers WDATA to queue 14; a write to another Qn_WTAG is ignored. -/
theorem qWtagWrite_offers (v : Nat) (s : State) : let q := s.queue 14
    q.discard = false → q.held = [] → s.staged 14 = false → State.qFull 14 q = false → s.variant ≠ 2 →
    s.wget (WR.Q_CTRL_NOTIFY_EN 14) = 0 →
    (Runs (.qWtagWrite 14 v) s fun z =>
      (z.queue 14).words = q.words ++ [⟨s.wget (WR.Q_WDATA_LO_WDATA 14) + 2 ^ 32 * s.wget (WR.Q_WDATA_HI_WDATA 14),
        bit 0 v, bit 0 v && bit 1 v⟩] ∧ (∀ m, m ≠ 14 → z.queue m = s.queue m)) ∧
    ∀ n, n ≠ 14 → Runs (.qWtagWrite n v) s fun z => z = s := by
  intro q hdiscard hheld hnormal hroom _ hquiet
  have hhere : s.qHere 14 = true := by simp [State.qHere]
  obtain ⟨hwords, -, -, hothers, -⟩ := State.offer_room (eop := bit 0 v) (bad := bit 1 v)
    (data := s.wget (WR.Q_WDATA_LO_WDATA 14) + 2 ^ 32 * s.wget (WR.Q_WDATA_HI_WDATA 14)) hhere hdiscard hheld hnormal
    hroom hquiet
  exact ⟨.of_exec rfl ⟨hwords, hothers⟩, fun n hn => .of_exec (if_neg hn) rfl⟩

/-- Settles O21, clause by clause. -/
theorem packetQueues : Obligations.PacketQueues :=
  ⟨queueWrite_enters, queueWrite_full, queueWrite_staged, queueRead_takes_head, queueRead_nothing, queueFlush_empties,
    queueStagedWrite_changes_or_ignored, qWtagWrite_offers⟩

end Sys2Proof.Machine
end

section
/-! SUPPORT. Compression (spec/11): what the change of an engine's state shows, and what the completion of a record and
its way into the reorder table do (O23, O24). -/

namespace Sys2Proof.Machine

open Sys2Proof

/-- The output area of a record that `engine` completed (R360, R375). -/
def CmpJob.area (engine : Nat) (stored unver : Bool) (stream : List Nat) (addr : Nat) (j : CmpJob) : Area :=
  let a : Area := ⟨j.ctx0, j.ctx1, [], engine, j.poison, j.vfail, stored, unver, addr⟩
  let body := State.wordBytes j.body
  let header := State.payloadHeader a (j.pre && !stored) body.length stream.length (crc32c body)
  { a with payload := header ++ stream }

/-- The payload of an area is its header and the stream (R375). -/
theorem CmpJob.area_payload (engine : Nat) (stored unver : Bool) (stream : List Nat) (addr : Nat) (j : CmpJob) :
    (j.area engine stored unver stream addr).payload =
      State.payloadHeader (j.area engine stored unver stream addr) (j.pre && !stored) (State.wordBytes j.body).length
        stream.length (crc32c (State.wordBytes j.body)) ++ stream := rfl

/-- An area put into the reorder table is in it. -/
theorem mem_insertBy_self {α : Type} (le : α → α → Bool) (x : α) (l : List α) : x ∈ insertBy le x l := by
  induction l with
  | nil => exact List.mem_cons_self
  | cons y l ih =>
    rw [insertBy]
    split
    · exact List.mem_cons_of_mem _ ih
    · exact List.mem_cons_self

namespace State

variable {e : Nat} {j : CmpJob} {s : State}

/-! ### The registers of compression -/

/-- The registers that show an engine's state. -/
def engShown (e : Nat) : List Fld := [WR.CMP_ENG_STATUS_STATE e, WR.CMP_STATUS_ENABLED, WR.CMP_STATUS_ALL_OFF]

/-- The registers that show why an engine is FAULTY. -/
def faultShown (e : Nat) : List Fld := [WR.CMP_ENG_STATUS_CAUSE e, WR.CMP_STATUS_ENG_FAULT]

/-- The registers that count a record that `engine` completed. -/
def completionRegs (engine : Nat) : List Fld :=
  [WR.CMP_IN_LO_COUNT, WR.CMP_IN_HI_COUNT, WR.CMP_OUT_LO_COUNT, WR.CMP_OUT_HI_COUNT, WR.CMP_FORMER_RECORDS,
    WR.CMP_ENG_CNT_RECORDS engine, WR.MUS_LEDGER_IN_USE, WR.CMP_REORDER_DEPTH, WR.CMP_REORDER_HWM]

/-- The keys of an engine's registers. -/
theorem engKeys (e : Nat) :
    (WR.CMP_ENG_CTRL_EN e).key = 32 * (0x40050100 + 0x20 * e) ∧
    (WR.CMP_ENG_STATUS_STATE e).key = 32 * (0x40050104 + 0x20 * e) ∧
    (WR.CMP_ENG_STATUS_MISMATCH_RUN e).key = 32 * (0x40050104 + 0x20 * e) + 3 ∧
    (WR.CMP_ENG_STATUS_SELFTEST_FAIL e).key = 32 * (0x40050104 + 0x20 * e) + 4 ∧
    (WR.CMP_ENG_STATUS_CAUSE e).key = 32 * (0x40050104 + 0x20 * e) + 8 ∧
    (WR.CMP_ENG_CNT_OVERSIZE e).key = 32 * (0x40050108 + 0x20 * e) ∧
    (WR.CMP_ENG_CNT_VERIFY_FAIL e).key = 32 * (0x40050108 + 0x20 * e) + 8 ∧
    (WR.CMP_ENG_CNT_RECORDS e).key = 32 * (0x40050108 + 0x20 * e) + 16 ∧
    (WR.CMP_ENG_FAIL_LO_SEQ e).key = 32 * (0x4005010C + 0x20 * e) ∧
    (WR.CMP_ENG_FAIL_HI_SEQ e).key = 32 * (0x40050110 + 0x20 * e) :=
  ⟨rfl, rfl, rfl, rfl, rfl, rfl, rfl, rfl, rfl, rfl⟩

/-- The keys of the registers that the engines share. -/
theorem cmpKeys :
    WR.CMP_STATUS_ENABLED.key = 32 * 0x40050004 ∧ WR.CMP_STATUS_ALL_OFF.key = 32 * 0x40050004 + 16 ∧
    WR.CMP_STATUS_ENG_FAULT.key = 32 * 0x40050004 + 17 ∧ WR.CMP_STATUS_FORMER_FAULT.key = 32 * 0x40050004 + 19 ∧
    WR.CMP_IN_LO_COUNT.key = 32 * 0x40050010 ∧ WR.CMP_IN_HI_COUNT.key = 32 * 0x40050014 ∧
    WR.CMP_OUT_LO_COUNT.key = 32 * 0x40050018 ∧ WR.CMP_OUT_HI_COUNT.key = 32 * 0x4005001C ∧
    WR.CMP_FALLBACK_OVERSIZE.key = 32 * 0x40050020 ∧ WR.CMP_FALLBACK_VERIFY_FAIL.key = 32 * 0x40050020 + 16 ∧
    WR.CMP_FORMER_RECORDS.key = 32 * 0x40050024 + 16 ∧
    WR.CMP_REORDER_DEPTH.key = 32 * 0x4005002C ∧ WR.CMP_REORDER_HWM.key = 32 * 0x4005002C + 8 :=
  ⟨rfl, rfl, rfl, rfl, rfl, rfl, rfl, rfl, rfl, rfl, rfl, rfl, rfl⟩

/-- An engine's state is shown apart from its other registers and from what all engines count. -/
theorem engShown_apart (e : Nat) :
    ∀ f ∈ [WR.CMP_ENG_CTRL_EN e, WR.CMP_ENG_STATUS_MISMATCH_RUN e, WR.CMP_ENG_STATUS_CAUSE e,
        WR.CMP_ENG_CNT_OVERSIZE e, WR.CMP_ENG_CNT_VERIFY_FAIL e, WR.CMP_ENG_FAIL_LO_SEQ e, WR.CMP_STATUS_ENG_FAULT,
        WR.CMP_FALLBACK_OVERSIZE, WR.CMP_FALLBACK_VERIFY_FAIL],
      ∀ g ∈ engShown e, f.key ≠ g.key := by
  simp only [engShown, List.forall_mem_cons, List.not_mem_nil, false_imp_iff, implies_true, and_true, engKeys, cmpKeys]
  omega

/-- Why an engine is FAULTY is shown apart from its enable, its state and its last mismatch. -/
theorem faultShown_apart (e : Nat) :
    ∀ f ∈ [WR.CMP_ENG_CTRL_EN e, WR.CMP_ENG_STATUS_MISMATCH_RUN e, WR.CMP_ENG_STATUS_STATE e],
      ∀ g ∈ faultShown e, f.key ≠ g.key := by
  simp only [faultShown, List.forall_mem_cons, List.not_mem_nil, false_imp_iff, implies_true, and_true, engKeys, cmpKeys]
  omega

/-- A completion is counted apart from an engine's enable and last mismatch and from FORMER_FAULT. -/
theorem completionRegs_apart (e engine : Nat) :
    ∀ f ∈ [WR.CMP_ENG_CTRL_EN e, WR.CMP_ENG_STATUS_MISMATCH_RUN e, WR.CMP_STATUS_FORMER_FAULT],
      ∀ g ∈ completionRegs engine, f.key ≠ g.key := by
  have hledger : WR.MUS_LEDGER_IN_USE.key < 32 * 0x40050000 := by decide
  simp only [completionRegs, List.forall_mem_cons, List.not_mem_nil, false_imp_iff, implies_true, and_true, engKeys,
    cmpKeys]
  omega

/-- An engine's last mismatch is shown apart from its enable. -/
theorem mismatch_apart (e : Nat) : (WR.CMP_ENG_CTRL_EN e).key ≠ (WR.CMP_ENG_STATUS_MISMATCH_RUN e).key := by
  simp only [engKeys]
  omega

/-- Equal flags of registers that read alike. -/
theorem won_congr {f : Fld} {s t : State} (h : t.wget f = s.wget f) : t.won f = s.won f := by rw [won_eq, won_eq, h]

/-! ### The state of an engine (R373, R381) -/

/-- A change of an engine's state is shown in STATE, ENABLED and ALL_OFF. -/
theorem setEng_onlyRegs (e st : Nat) (s : State) : OnlyRegs (engShown e) s (s.setEng e st) :=
  .wsets _ (.wset st (.refl _ s) (by simp [engShown])) (by simp [engShown])

/-- The state an engine is set to is read. -/
theorem engState_setEng {st : Nat} (hst : st < 8) (e : Nat) (s : State) : (s.setEng e st).engState e = st := by
  unfold setEng engState
  extract_lets t m
  have hregs : OnlyRegs [WR.CMP_STATUS_ENABLED, WR.CMP_STATUS_ALL_OFF] t
      (t.wsets [(WR.CMP_STATUS_ENABLED, m), (WR.CMP_STATUS_ALL_OFF, b2n (m == 0))]) := .wsets _ (.refl _ t) (by simp)
  have hapart : ∀ g ∈ [WR.CMP_STATUS_ENABLED, WR.CMP_STATUS_ALL_OFF], (WR.CMP_ENG_STATUS_STATE e).key ≠ g.key := by
    simp only [List.forall_mem_cons, List.not_mem_nil, false_imp_iff, implies_true, and_true, engKeys, cmpKeys]
    omega
  exact (hregs _ hapart).trans ((wget_wset_self ..).trans (Nat.mod_eq_of_lt hst))

/-- An engine at rest is IDLE where it is enabled, else OFF. -/
theorem engState_engRest (e : Nat) (s : State) :
    (s.engRest e).engState e = if s.won (WR.CMP_ENG_CTRL_EN e) then 0 else 3 :=
  engState_setEng (by split <;> decide) e s

/-- A fault is shown with the state of the engine. -/
theorem engFault_onlyRegs (e cause : Nat) (s : State) : OnlyRegs (faultShown e ++ engShown e) s (s.engFault e cause) :=
  .wsets _ ((setEng_onlyRegs e 4 s).mono (List.subset_append_right ..)) (by simp [faultShown])

/-- A FAULTY engine shows its cause, and CMP_STATUS that an engine is FAULTY. -/
theorem engFault_shows {cause : Nat} (hcause : cause < 16) (e : Nat) (s : State) :
    (s.engFault e cause).engState e = 4 ∧ (s.engFault e cause).wget (WR.CMP_ENG_STATUS_CAUSE e) = cause ∧
    (s.engFault e cause).wget WR.CMP_STATUS_ENG_FAULT = 1 := by
  have hregs : OnlyRegs (faultShown e) (s.setEng e 4) (s.engFault e cause) :=
    .wsets _ (.refl _ _) (by simp [faultShown])
  have hkeys : ([(WR.CMP_ENG_STATUS_CAUSE e, cause), (WR.CMP_STATUS_ENG_FAULT, 1)].map fun p => p.1.key).Nodup := by
    simp only [List.map_cons, List.map_nil, List.nodup_cons, List.mem_singleton, List.not_mem_nil, not_false_iff,
      List.nodup_nil, and_true, engKeys, cmpKeys]
    omega
  exact ⟨(hregs _ (faultShown_apart e _ (by simp))).trans (engState_setEng (by decide) e s),
    (RegFile.get_sets_of_mem hkeys List.mem_cons_self _).trans (Nat.mod_eq_of_lt hcause),
    RegFile.get_sets_of_mem hkeys (List.mem_cons_of_mem _ List.mem_cons_self) _⟩

/-- The engine of a completed record has none: it is FAULTY where its mismatch lasted, else at rest (R373, R381). -/
theorem freeUnit_engine (he : e ≠ 31) (hfind : SMap.find e s.cmp.engs = some j) : let z := s.freeUnit e
    z.cmp = { s.cmp with engs := SMap.erase e s.cmp.engs } ∧
    z.engState e = (if j.lasting then 4 else if s.won (WR.CMP_ENG_CTRL_EN e) then 0 else 3) ∧
    OnlyRegs (faultShown e ++ engShown e) s z := by
  intro z
  let t := s.modCmp fun c => { c with engs := SMap.erase e c.engs }
  have hz : z = if j.lasting then t.engFault e 1 else t.engRest e := by simp only [z, t, freeUnit, if_neg he, hfind]
  have hregs {u : State} (h : OnlyRegs (faultShown e ++ engShown e) t u) :
      OnlyRegs (faultShown e ++ engShown e) s u := h
  rw [hz]
  cases j.lasting
  · exact ⟨rfl, engState_engRest .., hregs ((setEng_onlyRegs e _ t).mono (List.subset_append_right ..))⟩
  · exact ⟨rfl, (engFault_shows (by decide) ..).1, hregs (engFault_onlyRegs e 1 t)⟩

/-! ### Dispatch (R359, R374) -/

/-- A record that waits to be dispatched again is dispatched first. -/
theorem dispatch_redo {r : List CmpJob} (hcan : s.canDispatch = true) (hredo : s.cmp.redo = j :: r) (poison : Bool) :
    s.dispatch poison = ((s.modCmp fun c => { c with redo := r }).dispatchJob j).getD s := by
  unfold dispatch
  rw [hcan, hredo]
  rfl

/-- A record goes to the lowest idle engine. -/
theorem dispatchJob_engine (hserves : s.formerServes = false)
    (hidle : (List.range s.engCount).find? (fun e => s.engState e == 0) = some e) (j : CmpJob) :
    s.dispatchJob j = some ((s.modCmp fun c => { c with
      engs := SMap.insert e { j with pre := s.won WR.CMP_CTRL_PRECODE } c.engs }).setEng e 1) := by
  unfold dispatchJob
  rw [hserves, hidle]
  rfl

/-- Where no engine is enabled a record goes to the former. -/
theorem dispatchJob_former (hserves : s.formerServes = true) (hfree : s.cmp.former = none) (j : CmpJob) :
    s.dispatchJob j = some (s.modCmp fun c => { c with former := some { j with pre := false } }) := by
  unfold dispatchJob
  rw [hserves, hfree]
  rfl

/-- An idle engine can take a record. -/
theorem canDispatch_engine (hserves : s.formerServes = false)
    (hidle : (List.range s.engCount).find? (fun e => s.engState e == 0) = some e) : s.canDispatch = true := by
  unfold canDispatch
  rw [if_neg (ne_true_of_eq_false hserves)]
  exact List.any_eq_true.2 ⟨e, List.mem_of_find?_eq_some hidle, List.find?_some (p := fun e => s.engState e == 0) hidle⟩

/-- A free former can take a record. -/
theorem canDispatch_former (hserves : s.formerServes = true) (hfree : s.cmp.former = none) : s.canDispatch = true := by
  unfold canDispatch
  rw [if_pos hserves, hfree]
  rfl

/-! ### The completion of a record (R361, R362, R375, R380) -/

/-- In `u` the record of `engine` has entered the reorder table and no record waits; the engines hold what they hold in
`s`, and of the registers only the counts of completions read differently. -/
structure Entered (engine : Nat) (j : CmpJob) (stored unver : Bool) (stream : List Nat) (s u : State) : Prop where
  table : ∃ addr, j.area engine stored unver stream addr ∈ u.cmp.table
  waiting : u.cmp.waiting = []
  engs : u.cmp.engs = s.cmp.engs
  regs : OnlyRegs (completionRegs engine) s u

/-- Registers that a byte counter leaves. -/
theorem addBytes_onlyRegs {l : List Fld} {t : State} {lo hi : Fld} (n : Nat) (h : OnlyRegs l s t) (hlo : lo ∈ l)
    (hhi : hi ∈ l) : OnlyRegs l s (t.addBytes lo hi n) :=
  .wsets _ h (by simp [hlo, hhi])

/-- The storage of a record is shown in IN_USE. -/
theorem freeRecord_onlyRegs (seq : Nat) (s : State) : OnlyRegs [WR.MUS_LEDGER_IN_USE] s (s.freeRecord seq) := by
  unfold freeRecord
  split
  · exact .of_wr (.wset _ (.refl _ s) List.mem_cons_self) rfl
  · exact .refl _ s

/-- Compression holds nothing of a record's storage. -/
theorem freeRecord_cmp (seq : Nat) (s : State) : (s.freeRecord seq).cmp = s.cmp := (k_freeRecord seq s).1 .cmp rfl

/-- The depth of the table is shown in two registers. -/
theorem showReorder_onlyRegs (s : State) : OnlyRegs [WR.CMP_REORDER_DEPTH, WR.CMP_REORDER_HWM] s s.showReorder :=
  .wset _ (.wset _ (.refl _ s) (by simp)) (by simp)

/-- The only record that waits enters a table with room, and its unit is free. -/
theorem fillTable_single {a : Area} (hwaiting : s.cmp.waiting = [a]) (hroom : s.cmp.table.length < 64) :
    s.fillTable = (s.modCmp fun c => { c with
      waiting := []
      table := insertBy (fun x y => decide (recSeq x.ctx0 ≤ recSeq y.ctx0)) a c.table }).showReorder.freeUnit
        a.engine := by
  unfold fillTable
  rw [hwaiting]
  exact if_pos hroom

/-- Where no record waits nothing enters the table. -/
theorem fillTable_none (hwaiting : s.cmp.waiting = []) : s.fillTable = s := by
  unfold fillTable
  rw [hwaiting]

/-- A completed record waits for the reorder table as the area `a`; its bytes and its completion are counted and its
storage is free. -/
def recordCounted (engine : Nat) (j : CmpJob) (a : Area) (s : State) : State :=
  let body := wordBytes j.body
  let t := ((s.fresh 20).2.addBytes WR.CMP_IN_LO_COUNT WR.CMP_IN_HI_COUNT body.length).addBytes WR.CMP_OUT_LO_COUNT
    WR.CMP_OUT_HI_COUNT a.payload.length
  let t := t.modCmp fun c => { c with
    waiting := c.waiting ++ [a]
    inMs := c.inMs + body.length, outMs := c.outMs + a.payload.length
    inS := c.inS + body.length, outS := c.outS + a.payload.length }
  let t := if engine = 31 then t.wadd WR.CMP_FORMER_RECORDS 1 else t.wadd (WR.CMP_ENG_CNT_RECORDS engine) 1
  t.freeRecord (recSeq j.ctx0)

/-- A completion counts the record's area and fills the table. -/
theorem complete_eq (engine : Nat) (j : CmpJob) (stored unver : Bool) (stream : List Nat) (s : State) :
    s.complete engine j stored unver stream =
      (s.recordCounted engine j (j.area engine stored unver stream (s.fresh 20).1)).fillTable := rfl

/-- A counted record waits behind those that wait; the table and what the engines hold stay. -/
theorem recordCounted_effect (engine : Nat) (j : CmpJob) (a : Area) (s : State) : let u := s.recordCounted engine j a
    u.cmp.waiting = s.cmp.waiting ++ [a] ∧ u.cmp.table = s.cmp.table ∧ u.cmp.engs = s.cmp.engs ∧
    OnlyRegs (completionRegs engine) s u := by
  unfold recordCounted
  extract_lets body t1 t2 t3
  have h1 : OnlyRegs (completionRegs engine) s t1 :=
    addBytes_onlyRegs _ (addBytes_onlyRegs (t := (s.fresh 20).2) _ (.refl _ s) (by simp [completionRegs])
      (by simp [completionRegs])) (by simp [completionRegs]) (by simp [completionRegs])
  have h2 : OnlyRegs (completionRegs engine) s t2 := .of_wr h1 rfl
  have h3 : t3.cmp = t2.cmp ∧ OnlyRegs (completionRegs engine) s t3 := by
    unfold t3
    split
    · exact ⟨rfl, .wadd 1 h2 (by simp [completionRegs])⟩
    · exact ⟨rfl, .wadd 1 h2 (by simp [completionRegs])⟩
  have hcmp : (t3.freeRecord (recSeq j.ctx0)).cmp = t2.cmp := (freeRecord_cmp ..).trans h3.1
  rw [hcmp]
  exact ⟨rfl, rfl, rfl, h3.2.trans ((freeRecord_onlyRegs _ t3).mono (by simp [completionRegs]))⟩

/-- A completed record enters a table with room for which none waits, and its unit is free. -/
theorem complete_enters (hwaiting : s.cmp.waiting = []) (hroom : s.cmp.table.length < 64) (engine : Nat) (j : CmpJob)
    (stored unver : Bool) (stream : List Nat) :
    ∃ u, s.complete engine j stored unver stream = u.freeUnit engine ∧ Entered engine j stored unver stream s u := by
  obtain ⟨hwait, htable, hengs, hregs⟩ :=
    recordCounted_effect engine j (j.area engine stored unver stream (s.fresh 20).1) s
  rw [complete_eq, fillTable_single (by rw [hwait, hwaiting]; rfl) (by rwa [htable])]
  exact ⟨_, rfl, ⟨_, mem_insertBy_self ..⟩, rfl, hengs,
    hregs.trans ((showReorder_onlyRegs _).mono (by simp [completionRegs]))⟩

/-- A record that `engine` completed has entered the table, and the engine is FAULTY where its mismatch lasted, else at
rest. -/
theorem complete_engine (he : e < 16) (hfind : SMap.find e s.cmp.engs = some j) (hwaiting : s.cmp.waiting = [])
    (hroom : s.cmp.table.length < 64) (k : CmpJob) (stored unver : Bool) (stream : List Nat) :
    let z := s.complete e k stored unver stream
    (∃ addr, k.area e stored unver stream addr ∈ z.cmp.table) ∧ z.cmp.waiting = [] ∧ SMap.find e z.cmp.engs = none ∧
    z.engState e = (if j.lasting then 4 else if s.won (WR.CMP_ENG_CTRL_EN e) then 0 else 3) ∧
    OnlyRegs (completionRegs e ++ (faultShown e ++ engShown e)) s z := by
  intro z
  obtain ⟨u, hu, hin⟩ := complete_enters hwaiting hroom e k stored unver stream
  obtain ⟨hcmp, hstate, hregs⟩ := freeUnit_engine (by omega) ((congrArg (SMap.find e) hin.engs).trans hfind)
  have hen : u.won (WR.CMP_ENG_CTRL_EN e) = s.won (WR.CMP_ENG_CTRL_EN e) :=
    won_congr (hin.regs _ (completionRegs_apart e e _ (by simp)))
  rw [show z = u.freeUnit e from hu, hcmp, hstate, hen]
  exact ⟨hin.table, hin.waiting, SMap.find_erase_self .., rfl,
    (hin.regs.mono (List.subset_append_left ..)).trans (hregs.mono (List.subset_append_right ..))⟩

/-! ### The forms of a record (R370–R374) -/

/-- What records a mismatch of an engine with a record. -/
def mismatchFields (e seq : Nat) : List (Fld × Nat) :=
  [(WR.CMP_ENG_STATUS_MISMATCH_RUN e, 1), (WR.CMP_ENG_FAIL_LO_SEQ e, seq), (WR.CMP_ENG_FAIL_HI_SEQ e, seq / 2 ^ 32)]

/-- What records a mismatch stands at different keys. -/
theorem mismatchFields_keys (e seq : Nat) : ((mismatchFields e seq).map fun p => p.1.key).Nodup := by
  simp only [mismatchFields, List.map_cons, List.map_nil, List.nodup_cons, List.mem_cons, List.not_mem_nil, or_false,
    not_false_iff, List.nodup_nil, and_true, engKeys]
  omega

/-- A mismatch is recorded apart from its counts. -/
theorem mismatchFields_apart (e seq : Nat) :
    ∀ f ∈ [WR.CMP_ENG_CNT_VERIFY_FAIL e, WR.CMP_FALLBACK_VERIFY_FAIL],
      ∀ p ∈ mismatchFields e seq, f.key ≠ p.1.key := by
  simp only [mismatchFields, List.forall_mem_cons, List.not_mem_nil, false_imp_iff, implies_true, and_true, engKeys,
    cmpKeys]
  omega

/-- Two counters at different keys count side by side. -/
theorem wget_wadd_wadd {f g : Fld} (h : f.key ≠ g.key) (s : State) :
    ((s.wadd f 1).wadd g 1).wget f = min (s.wget f + 1) (f.size - 1) ∧
    ((s.wadd f 1).wadd g 1).wget g = min (s.wget g + 1) (g.size - 1) :=
  ⟨(wget_wadd_other h ..).trans (wget_wadd_self ..),
    (wget_wadd_self ..).trans (by rw [wget_wadd_other h.symm])⟩

/-- An engine counts apart from what all engines count. -/
theorem fallback_apart (e : Nat) :
    (WR.CMP_ENG_CNT_OVERSIZE e).key ≠ WR.CMP_FALLBACK_OVERSIZE.key ∧
    (WR.CMP_ENG_CNT_VERIFY_FAIL e).key ≠ WR.CMP_FALLBACK_VERIFY_FAIL.key := by
  simp only [engKeys, cmpKeys]
  omega

/-- An engine that falls back builds the stored form of its record. -/
theorem fallBack_effect (e : Nat) (k : CmpJob) (s : State) : let z := s.fallBack e k
    z.engState e = 2 ∧ SMap.find e z.cmp.engs = some k ∧ OnlyRegs (engShown e) s z :=
  ⟨engState_setEng (by decide) .., SMap.find_insert_self .., setEng_onlyRegs e 2 (s.modCmp _)⟩

section form

variable (hfind : SMap.find e s.cmp.engs = some j) (hstate : s.engState e = 1)

include hfind hstate

/-- A form longer than the stored form falls back to it and is counted (R370). -/
theorem formDone_oversize (hlong : storedSize (8 * j.body.length) < (s.formOf j).length) (ok : Bool) :
    let z := s.formDone e ok
    z.engState e = 2 ∧ SMap.find e z.cmp.engs = some j ∧
    z.wget (WR.CMP_ENG_CNT_OVERSIZE e) = min (s.wget (WR.CMP_ENG_CNT_OVERSIZE e) + 1) 255 ∧
    z.wget WR.CMP_FALLBACK_OVERSIZE = min (s.wget WR.CMP_FALLBACK_OVERSIZE + 1) 65535 := by
  have hdone : s.formDone e ok =
      ((s.wadd (WR.CMP_ENG_CNT_OVERSIZE e) 1).wadd WR.CMP_FALLBACK_OVERSIZE 1).fallBack e j := by
    unfold formDone
    rw [hfind]
    exact (if_neg (not_not_intro hstate)).trans (if_pos hlong)
  rw [hdone]
  obtain ⟨hbuilds, hjob, hregs⟩ := fallBack_effect e j
    ((s.wadd (WR.CMP_ENG_CNT_OVERSIZE e) 1).wadd WR.CMP_FALLBACK_OVERSIZE 1)
  obtain ⟨hown, hall⟩ := wget_wadd_wadd (fallback_apart e).1 s
  exact ⟨hbuilds, hjob, (hregs _ (engShown_apart e _ (by simp))).trans hown,
    (hregs _ (engShown_apart e _ (by simp))).trans hall⟩

/-- A mismatch falls back to the stored form and is recorded (R373). -/
theorem formDone_mismatch (hshort : (s.formOf j).length ≤ storedSize (8 * j.body.length)) :
    let z := s.formDone e false
    z.engState e = 2 ∧
    SMap.find e z.cmp.engs = some { j with vfail := true, lasting := s.won (WR.CMP_ENG_STATUS_MISMATCH_RUN e) } ∧
    z.wget (WR.CMP_ENG_STATUS_MISMATCH_RUN e) = 1 ∧ z.wget (WR.CMP_ENG_FAIL_LO_SEQ e) = recSeq j.ctx0 % 2 ^ 32 ∧
    z.wget (WR.CMP_ENG_CNT_VERIFY_FAIL e) = min (s.wget (WR.CMP_ENG_CNT_VERIFY_FAIL e) + 1) 255 ∧
    z.wget WR.CMP_FALLBACK_VERIFY_FAIL = min (s.wget WR.CMP_FALLBACK_VERIFY_FAIL + 1) 65535 := by
  let t := (s.wadd (WR.CMP_ENG_CNT_VERIFY_FAIL e) 1).wadd WR.CMP_FALLBACK_VERIFY_FAIL 1
  let l := mismatchFields e (recSeq j.ctx0)
  let k := { j with vfail := true, lasting := s.won (WR.CMP_ENG_STATUS_MISMATCH_RUN e) }
  have hdone : s.formDone e false = (t.wsets l).fallBack e k := by
    unfold formDone
    rw [hfind]
    exact (if_neg (not_not_intro hstate)).trans (if_neg (Nat.not_lt.2 hshort))
  rw [hdone]
  obtain ⟨hbuilds, hjob, hregs⟩ := fallBack_effect e k (t.wsets l)
  obtain ⟨hown, hall⟩ := wget_wadd_wadd (fallback_apart e).2 s
  have hleft {f : Fld} (hf : f ∈ [WR.CMP_ENG_CNT_VERIFY_FAIL e, WR.CMP_FALLBACK_VERIFY_FAIL]) :
      (t.wsets l).wget f = t.wget f :=
    RegFile.get_sets_other l (mismatchFields_apart e _ f hf) _
  have hrecorded {f : Fld} {v : Nat} (hf : (f, v) ∈ l) : (t.wsets l).wget f = v % f.size :=
    RegFile.get_sets_of_mem (mismatchFields_keys e _) hf _
  exact ⟨hbuilds, hjob,
    (hregs _ (engShown_apart e _ (by simp))).trans (hrecorded List.mem_cons_self),
    (hregs _ (engShown_apart e _ (by simp))).trans (hrecorded (List.mem_cons_of_mem _ List.mem_cons_self)),
    (hregs _ (engShown_apart e _ (by simp))).trans ((hleft (by simp)).trans hown),
    (hregs _ (engShown_apart e _ (by simp))).trans ((hleft (by simp)).trans hall)⟩

/-- A form that the inflater verified completes the record (R361). -/
theorem formDone_verified (hshort : (s.formOf j).length ≤ storedSize (8 * j.body.length)) :
    s.formDone e true = (s.wset (WR.CMP_ENG_STATUS_MISMATCH_RUN e) 0).complete e j false false (s.formOf j) := by
  unfold formDone
  rw [hfind]
  exact (if_neg (not_not_intro hstate)).trans (if_neg (Nat.not_lt.2 hshort))

end form

section stored

variable (hwaiting : s.cmp.waiting = [])

include hwaiting

/-- A stored form that verifies completes the record (R371). -/
theorem storedDone_verified (hfind : SMap.find e s.cmp.engs = some j) (hstate : s.engState e = 2) :
    s.storedDone e true false = s.complete e j true false (storedForm (wordBytes j.body)) := by
  unfold storedDone
  rw [hfind]
  exact if_neg (by simp [hstate, hwaiting])

/-- A stored form that does not verify sends the record to another engine (R373). -/
theorem storedDone_mismatch (hfind : SMap.find e s.cmp.engs = some j) (hstate : s.engState e = 2) :
    s.storedDone e false false = (s.modCmp fun c => { c with
      engs := SMap.erase e c.engs, redo := c.redo ++ [{ j with vfail := false, lasting := false }] }).engFault e 2 := by
  unfold storedDone
  rw [hfind]
  exact if_neg (by simp [hstate, hwaiting])

/-- The former completes its record after it counted its mismatches (R374). -/
theorem formerDone_completes (hformer : s.cmp.former = some j) (bad : Nat) :
    let t := s.wcountIf (bad != 0) WR.CMP_FORMER_REWRITES
    s.formerDone bad =
      (if bad = 2 then (t.wadd WR.CMP_FORMER_UNVERIFIED 1).wset WR.CMP_STATUS_FORMER_FAULT 1 else t).complete 31 j true
        (bad == 2) (storedForm (wordBytes j.body)) := by
  unfold formerDone
  rw [hformer]
  exact if_neg (by simp [hwaiting])

end stored

end State

end Sys2Proof.Machine
end

section
/-! PROOF. A record through an engine and through the former (O23): one theorem for each clause. -/

namespace Sys2Proof.Machine

open Sys2Proof

/-- A record to be dispatched again goes to the lowest idle engine. -/
theorem cmpDispatch_to_engine (poison : Bool) (e : Nat) (j : CmpJob) (r : List CmpJob) (s : State) :
    s.isRun = true → s.formerServes = false → (List.range s.engCount).find? (fun e => s.engState e == 0) = some e →
    s.cmp.redo = j :: r →
    Runs (.cmpDispatch poison) s fun z =>
      z.cmp = { s.cmp with redo := r, engs := SMap.insert e { j with pre := s.won WR.CMP_CTRL_PRECODE } s.cmp.engs } ∧
      z.engState e = 1 ∧ OnlyRegs [WR.CMP_ENG_STATUS_STATE e, WR.CMP_STATUS_ENABLED, WR.CMP_STATUS_ALL_OFF] s z ∧
      z.queues = s.queues := by
  intro hrun hserves hidle hredo
  let t := s.modCmp fun c => { c with redo := r }
  have hdispatch : s.dispatch poison = _ :=
    (State.dispatch_redo (State.canDispatch_engine hserves hidle) hredo poison).trans
      (congrArg (Option.getD · s) (State.dispatchJob_engine (s := t) hserves hidle j))
  exact .of_exec (congrArg Host.Outcome.next ((if_pos hrun).trans hdispatch))
    ⟨rfl, State.engState_setEng (by decide) .., State.setEng_onlyRegs e 1 (t.modCmp _), rfl⟩

/-- Where no engine is enabled a record to be dispatched again goes to the former. -/
theorem cmpDispatch_to_former (poison : Bool) (j : CmpJob) (r : List CmpJob) (s : State) :
    s.isRun = true → s.formerServes = true → s.cmp.former = none → s.cmp.redo = j :: r →
    Runs (.cmpDispatch poison) s fun z =>
      z.cmp = { s.cmp with redo := r, former := some { j with pre := false } } ∧ OnlyRegs [] s z ∧
      z.queues = s.queues := by
  intro hrun hserves hfree hredo
  have hdispatch : s.dispatch poison = _ :=
    (State.dispatch_redo (State.canDispatch_former hserves hfree) hredo poison).trans
      (congrArg (Option.getD · s)
        (State.dispatchJob_former (s := s.modCmp fun c => { c with redo := r }) hserves hfree j))
  exact .of_exec (congrArg Host.Outcome.next ((if_pos hrun).trans hdispatch)) ⟨rfl, .of_wr (.refl _ s) rfl, rfl⟩

/-- A form that is too long or does not verify falls back; one that verifies completes the record. -/
theorem cmpFormDone_falls_back_or_completes (e : Nat) (ok : Bool) (j : CmpJob) (s : State) :
    e < 16 → SMap.find e s.cmp.engs = some j → s.engState e = 1 →
    Runs (.cmpFormDone e ok) s fun z =>
      (storedSize (8 * j.body.length) < (s.formOf j).length →
        z.engState e = 2 ∧ SMap.find e z.cmp.engs = some j ∧
        z.wget (WR.CMP_ENG_CNT_OVERSIZE e) = min (s.wget (WR.CMP_ENG_CNT_OVERSIZE e) + 1) 255 ∧
        z.wget WR.CMP_FALLBACK_OVERSIZE = min (s.wget WR.CMP_FALLBACK_OVERSIZE + 1) 65535) ∧
      ((s.formOf j).length ≤ storedSize (8 * j.body.length) → ok = false →
        z.engState e = 2 ∧
        SMap.find e z.cmp.engs = some { j with vfail := true, lasting := s.won (WR.CMP_ENG_STATUS_MISMATCH_RUN e) } ∧
        z.wget (WR.CMP_ENG_STATUS_MISMATCH_RUN e) = 1 ∧
        z.wget (WR.CMP_ENG_FAIL_LO_SEQ e) = State.recSeq j.ctx0 % 2 ^ 32 ∧
        z.wget (WR.CMP_ENG_CNT_VERIFY_FAIL e) = min (s.wget (WR.CMP_ENG_CNT_VERIFY_FAIL e) + 1) 255 ∧
        z.wget WR.CMP_FALLBACK_VERIFY_FAIL = min (s.wget WR.CMP_FALLBACK_VERIFY_FAIL + 1) 65535) ∧
      ((s.formOf j).length ≤ storedSize (8 * j.body.length) → ok = true → s.cmp.waiting = [] → s.cmp.table.length < 64 →
        j.lasting = false →
        (∃ a ∈ z.cmp.table, a.ctx0 = j.ctx0 ∧ a.ctx1 = j.ctx1 ∧ a.engine = e ∧ a.stored = false ∧
          a.payload = State.payloadHeader a j.pre (State.wordBytes j.body).length (s.formOf j).length
            (crc32c (State.wordBytes j.body)) ++ s.formOf j) ∧
        z.cmp.waiting = [] ∧ SMap.find e z.cmp.engs = none ∧
        z.engState e = (if s.won (WR.CMP_ENG_CTRL_EN e) then 0 else 3) ∧
        z.wget (WR.CMP_ENG_STATUS_MISMATCH_RUN e) = 0) := by
  intro he hfind hstate
  refine .of_exec rfl ⟨fun hlong => State.formDone_oversize hfind hstate hlong ok, fun hshort hok => ?_,
    fun hshort hok hwaiting hroom hlasting => ?_⟩
  · subst hok
    exact State.formDone_mismatch hfind hstate hshort
  · subst hok
    let t := s.wset (WR.CMP_ENG_STATUS_MISMATCH_RUN e) 0
    rw [State.formDone_verified hfind hstate hshort]
    obtain ⟨⟨addr, htable⟩, hwait, hnone, hrest, hregs⟩ :=
      State.complete_engine (s := t) he hfind hwaiting hroom j false false (s.formOf j)
    have hen : t.won (WR.CMP_ENG_CTRL_EN e) = s.won (WR.CMP_ENG_CTRL_EN e) :=
      State.won_congr (State.wget_wset_other (State.mismatch_apart e) ..)
    refine ⟨⟨_, htable, rfl, rfl, rfl, rfl, ?_⟩, hwait, hnone, ?_, ?_⟩
    · rw [CmpJob.area_payload, Bool.not_false, Bool.and_true]
    · rw [hrest, hlasting, hen]
      rfl
    · refine (hregs _ ?_).trans (State.wget_wset_self ..)
      simp only [List.forall_mem_append]
      exact ⟨State.completionRegs_apart e e _ (by simp), State.faultShown_apart e _ (by simp),
        State.engShown_apart e _ (by simp)⟩

/-- A stored form that verifies completes the record; one that does not sends it to another engine. -/
theorem cmpStoredDone_completes_or_sends_on (e : Nat) (j : CmpJob) (s : State) :
    e < 16 → SMap.find e s.cmp.engs = some j → s.engState e = 2 → s.cmp.waiting = [] → s.cmp.table.length < 64 →
    (Runs (.cmpStoredDone e true false) s fun z =>
      (∃ a ∈ z.cmp.table, a.ctx0 = j.ctx0 ∧ a.ctx1 = j.ctx1 ∧ a.engine = e ∧ a.stored = true ∧ a.vfail = j.vfail ∧
        a.payload = State.payloadHeader a false (State.wordBytes j.body).length (storedForm (State.wordBytes j.body)).length
          (crc32c (State.wordBytes j.body)) ++ storedForm (State.wordBytes j.body)) ∧
      z.cmp.waiting = [] ∧ SMap.find e z.cmp.engs = none ∧
      z.engState e = (if j.lasting then 4 else if s.won (WR.CMP_ENG_CTRL_EN e) then 0 else 3)) ∧
    Runs (.cmpStoredDone e false false) s fun z =>
      z.cmp = { s.cmp with engs := SMap.erase e s.cmp.engs, redo := s.cmp.redo ++ [{ j with vfail := false, lasting := false }] } ∧
      z.engState e = 4 ∧ z.wget (WR.CMP_ENG_STATUS_CAUSE e) = 2 ∧ z.wget WR.CMP_STATUS_ENG_FAULT = 1 := by
  intro he hfind hstate hwaiting hroom
  constructor
  · obtain ⟨⟨addr, htable⟩, hwait, hnone, hrest, -⟩ :=
      State.complete_engine he hfind hwaiting hroom j true false (storedForm (State.wordBytes j.body))
    exact .of_exec (congrArg Host.Outcome.next (State.storedDone_verified hwaiting hfind hstate))
      ⟨⟨_, htable, rfl, rfl, rfl, rfl, rfl, by
        rw [CmpJob.area_payload, Bool.not_true, Bool.and_false]⟩, hwait, hnone, hrest⟩
  · exact .of_exec (congrArg Host.Outcome.next (State.storedDone_mismatch hwaiting hfind hstate))
      ⟨rfl, State.engFault_shows (by decide) ..⟩

/-- The former completes its record. -/
theorem formerRecordDone_completes (bad : Nat) (j : CmpJob) (s : State) :
    s.cmp.former = some j → s.cmp.waiting = [] → s.cmp.table.length < 64 →
    Runs (.formerRecordDone bad) s fun z =>
      (∃ a ∈ z.cmp.table, a.ctx0 = j.ctx0 ∧ a.ctx1 = j.ctx1 ∧ a.engine = 31 ∧ a.stored = true ∧ a.unver = (bad == 2) ∧
        a.payload = State.payloadHeader a false (State.wordBytes j.body).length (storedForm (State.wordBytes j.body)).length
          (crc32c (State.wordBytes j.body)) ++ storedForm (State.wordBytes j.body)) ∧
      z.cmp.former = none ∧ z.cmp.waiting = [] ∧
      (bad = 2 → z.wget WR.CMP_STATUS_FORMER_FAULT = 1) := by
  intro hformer hwaiting hroom
  let t := s.wcountIf (bad != 0) WR.CMP_FORMER_REWRITES
  let marked := if bad = 2 then (t.wadd WR.CMP_FORMER_UNVERIFIED 1).wset WR.CMP_STATUS_FORMER_FAULT 1 else t
  have hcmp : marked.cmp = s.cmp := by
    have ht : t.cmp = s.cmp := (k_wcountIf _ _ s).1 .cmp rfl
    unfold marked
    split
    · exact ht
    · exact ht
  obtain ⟨u, hu, ⟨addr, htable⟩, hwait, -, hregs⟩ := State.complete_enters (s := marked) (by rw [hcmp, hwaiting])
    (by rwa [hcmp]) 31 j true (bad == 2) (storedForm (State.wordBytes j.body))
  have hfree : u.freeUnit 31 = u.modCmp fun c => { c with former := none } := if_pos rfl
  refine .of_exec (congrArg Host.Outcome.next ((State.formerDone_completes hwaiting hformer bad).trans (hu.trans hfree)))
    ⟨⟨_, htable, rfl, rfl, rfl, rfl, rfl, ?_⟩, rfl, hwait, fun hbad => ?_⟩
  · rw [CmpJob.area_payload, Bool.not_true, Bool.and_false]
  · refine (hregs _ (State.completionRegs_apart 31 31 _ (by simp))).trans ?_
    unfold marked
    rw [if_pos hbad]
    exact State.wget_wset_self ..

/-- Settles O23, clause by clause. -/
theorem compressionEngines : Obligations.CompressionEngines :=
  ⟨cmpDispatch_to_engine, cmpDispatch_to_former, cmpFormDone_falls_back_or_completes,
    cmpStoredDone_completes_or_sends_on, formerRecordDone_completes⟩

end Sys2Proof.Machine
end

section
/-! SUPPORT. The reorder table, the ratio windows and the control of engines (spec/11): what the release of a record, the
end of a window and a write of EN or CMP_CTRL do (O24). -/

namespace Sys2Proof

/-- No number is smaller than 0. -/
theorem foldl_min_zero (l : List Nat) : l.foldl min 0 = 0 := by
  induction l with
  | nil => rfl
  | cons x l ih => rwa [List.foldl_cons, Nat.zero_min]

/-- The smallest number of a list that holds 0 is 0. -/
theorem foldl_min_eq_zero {l : List Nat} (h : 0 ∈ l) (a : Nat) : l.foldl min a = 0 := by
  induction l generalizing a with
  | nil => exact nomatch h
  | cons x l ih =>
    rw [List.foldl_cons]
    rcases List.mem_cons.1 h with rfl | h
    · rw [Nat.min_zero]
      exact foldl_min_zero l
    · exact ih h _

/-- A field of one bit is a flag. -/
theorem bits_ne_zero (i v : Nat) : (bits i i v != 0) = bit i v := by
  have hsize : i + 1 - i = 1 := by omega
  unfold bits bit
  rw [hsize, Nat.pow_one]
  rcases Nat.mod_two_eq_zero_or_one (v / 2 ^ i) with h | h <;> rw [h] <;> rfl

end Sys2Proof

namespace Sys2Proof.Machine

open Sys2Proof

/-- The fields of CMP_CTRL. -/
def cmpCtrlFields : List Fld :=
  [WR.CMP_CTRL_NICE_LEN, WR.CMP_CTRL_CHAIN_MAX, WR.CMP_CTRL_LAZY, WR.CMP_CTRL_BYPASS, WR.CMP_CTRL_PRECODE]

/-- CMP_CTRL holds five fields. -/
theorem regAt_cmpCtrl : regAt WR.rows WR.CMP_CTRL = some cmpCtrlFields := by decide

namespace State

variable {e : Nat} {s : State}

/-! ### The reorder table (R362–R364) -/

/-- What CMP_REL stores of a number. -/
def relFields (n : Nat) : List (Fld × Nat) :=
  [(WR.CMP_REL_LO_REL, n % 2 ^ 32), (WR.CMP_REL_HI_REL, n / 2 ^ 32 % 2 ^ 32)]

/-- The halves of CMP_REL stand apart. -/
theorem relFields_keys (n : Nat) : ((relFields n).map fun p => p.1.key).Nodup := by
  change [WR.CMP_REL_LO_REL.key, WR.CMP_REL_HI_REL.key].Nodup
  decide

/-- CMP_REL holds 64 bits of the number it is set to. -/
theorem relNext_setRel (n : Nat) (s : State) : (s.setRel n).relNext = n % 2 ^ 64 := by
  have hlo : (s.setRel n).wget WR.CMP_REL_LO_REL = n % 2 ^ 32 % 2 ^ 32 :=
    RegFile.get_sets_of_mem (relFields_keys n) List.mem_cons_self _
  have hhi : (s.setRel n).wget WR.CMP_REL_HI_REL = n / 2 ^ 32 % 2 ^ 32 % 2 ^ 32 :=
    RegFile.get_sets_of_mem (relFields_keys n) (List.mem_cons_of_mem _ List.mem_cons_self) _
  rw [relNext, hlo, hhi]
  omega

/-- No number that somebody holds is passed over (R364). -/
theorem relNext_passOver (hrel : s.relNext < 2 ^ 64) (hlive : s.relNext ∈ s.liveSeqs) :
    s.passOver.relNext = s.relNext := by
  unfold passOver
  extract_lets r d n
  have hd : d r = 0 := (congrArg (· % 2 ^ 64) (Nat.add_sub_cancel_left ..)).trans (Nat.mod_self _)
  have hn : n = 0 := foldl_min_eq_zero (hd ▸ List.mem_map_of_mem hlive) _
  rw [relNext_setRel, hn, Nat.add_zero, Nat.mod_mod, Nat.mod_eq_of_lt hrel]

/-- A record of the table is held by somebody. -/
theorem recSeq_mem_liveSeqs {a : Area} (ha : a ∈ s.cmp.table) : recSeq a.ctx0 ∈ s.liveSeqs := by
  simp only [liveSeqs, List.mem_append, List.mem_map]
  exact .inl (.inl (.inl (.inl (.inl ⟨a, ha, rfl⟩))))

/-- The release moves CMP_REL on, shows the table and offers the release word to queue 1 (R363). -/
theorem releaseNext_eq {a : Area} (hrel : s.relNext < 2 ^ 64) (hwaiting : s.cmp.waiting = [])
    (hnext : s.cmp.table.find? (fun x => recSeq x.ctx0 == s.relNext) = some a) :
    s.releaseNext = (((s.passOver.modCmp fun c => { c with
      table := c.table.filter (fun x => recSeq x.ctx0 != s.relNext), areas := c.areas ++ [a] }).setRel
        ((s.relNext + 1) % 2 ^ 64)).showReorder).offer 1 (releaseWord a) true false := by
  have hseq : recSeq a.ctx0 = s.relNext := by simpa using List.find?_some hnext
  have hpass : s.passOver.cmp = s.cmp := (k_passOver s).1 .cmp rfl
  have hr : s.passOver.relNext = s.relNext :=
    relNext_passOver hrel (hseq ▸ recSeq_mem_liveSeqs (List.mem_of_find?_eq_some hnext))
  unfold releaseNext
  simp only [hr, hpass, hnext]
  rw [fillTable_none]
  exact (congrArg Cmp.waiting hpass).trans hwaiting

/-- The record that is next leaves the table for the output areas (R362, R363). -/
theorem releaseNext_cmp {a : Area} (hrel : s.relNext < 2 ^ 64) (hwaiting : s.cmp.waiting = [])
    (hnext : s.cmp.table.find? (fun x => recSeq x.ctx0 == s.relNext) = some a) :
    s.releaseNext.cmp = { s.cmp with
      table := s.cmp.table.filter (fun x => recSeq x.ctx0 != s.relNext), areas := s.cmp.areas ++ [a] } := by
  have hpass : s.passOver.cmp = s.cmp := (k_passOver s).1 .cmp rfl
  rw [releaseNext_eq hrel hwaiting hnext, ← hpass]
  exact (k_offer ..).1 .cmp rfl

/-! ### The ratio windows (R380) -/

/-- The ratio of a window with payload. -/
theorem ratioOf_pos {o : Nat} (ho : 0 < o) (i : Nat) (s : State) : s.ratioOf i o = (min 65535 (i * 256 / o), s) :=
  if_neg (Nat.ne_of_gt ho)

/-- The 1 ms window with payload shows its ratio and starts again; a ratio below the declared one is marked. -/
theorem ratioWindow_ms (ho : 0 < s.cmp.outMs) : let z := s.ratioWindow false
    z.wget WR.CMP_RATIO_RATIO_1MS = min 65535 (s.cmp.inMs * 256 / s.cmp.outMs) ∧
    z.cmp = { s.cmp with inMs := 0, outMs := 0 } ∧
    (min 65535 (s.cmp.inMs * 256 / s.cmp.outMs) < s.decl 0x0B 0 256 → z.wget WR.CMP_STATUS_RATIO_LOW = 1) ∧
    OnlyRegs [WR.CMP_RATIO_RATIO_1MS, WR.CMP_STATUS_RATIO_LOW] s z ∧ z.freeCnt = s.freeCnt := by
  let r := min 65535 (s.cmp.inMs * 256 / s.cmp.outMs)
  let t := (s.wset WR.CMP_RATIO_RATIO_1MS r).modCmp fun c => { c with inMs := 0, outMs := 0 }
  have hz : s.ratioWindow false = if r < s.decl 0x0B 0 256 then t.wset WR.CMP_STATUS_RATIO_LOW 1 else t := by
    unfold ratioWindow
    rw [ratioOf_pos ho]
    rfl
  have hratio : t.wget WR.CMP_RATIO_RATIO_1MS = r :=
    (wget_wset_self ..).trans (Nat.mod_eq_of_lt (Nat.lt_of_le_of_lt (Nat.min_le_left ..) (by decide)))
  have hregs : OnlyRegs [WR.CMP_RATIO_RATIO_1MS, WR.CMP_STATUS_RATIO_LOW] s t :=
    .of_wr (.wset r (.refl _ s) (by simp)) rfl
  rw [hz]
  split
  · exact ⟨(wget_wset_other (by decide) ..).trans hratio, rfl, fun _ => wget_wset_self .., hregs.wset 1 (by simp), rfl⟩
  · next hhigh => exact ⟨hratio, rfl, fun hlow => absurd hlow hhigh, hregs, rfl⟩

/-- The 1 s window with payload shows its ratio and starts again. -/
theorem ratioWindow_s (ho : 0 < s.cmp.outS) : let z := s.ratioWindow true
    z.wget WR.CMP_RATIO_RATIO_1S = min 65535 (s.cmp.inS * 256 / s.cmp.outS) ∧
    z.cmp = { s.cmp with inS := 0, outS := 0 } ∧ OnlyRegs [WR.CMP_RATIO_RATIO_1S] s z ∧ z.freeCnt = s.freeCnt := by
  let r := min 65535 (s.cmp.inS * 256 / s.cmp.outS)
  have hz : s.ratioWindow true = (s.wset WR.CMP_RATIO_RATIO_1S r).modCmp fun c => { c with inS := 0, outS := 0 } := by
    unfold ratioWindow
    rw [ratioOf_pos ho]
    rfl
  rw [hz]
  exact ⟨(wget_wset_self ..).trans (Nat.mod_eq_of_lt (Nat.lt_of_le_of_lt (Nat.min_le_left ..) (by decide))), rfl,
    .of_wr (.wset r (.refl _ s) (by simp)) rfl, rfl⟩

/-! ### The control of engines (R381–R383) -/

/-- A write of EN of an engine that is present (R381). -/
theorem writeEngEn_effect (he : e < s.engCount) (v : Bool) : let z := s.writeEngEn e v
    z.wget (WR.CMP_ENG_CTRL_EN e) = b2n v ∧
    z.engState e = (if s.engState e = 0 ∨ s.engState e = 3 then (if v then 0 else 3) else s.engState e) ∧
    OnlyRegs (WR.CMP_ENG_CTRL_EN e :: engShown e) s z := by
  let t := s.wset (WR.CMP_ENG_CTRL_EN e) (b2n v)
  have hen : t.wget (WR.CMP_ENG_CTRL_EN e) = b2n v := (wget_wset_self ..).trans (b2n_mod_size rfl v)
  have hon : t.won (WR.CMP_ENG_CTRL_EN e) = v := by rw [won_eq, hen]; cases v <;> rfl
  have hstate : t.engState e = s.engState e := wget_wset_other (engShown_apart e _ (by simp) _ (by simp [engShown])).symm ..
  have hregs : OnlyRegs (WR.CMP_ENG_CTRL_EN e :: engShown e) s t := .wset _ (.refl _ s) List.mem_cons_self
  have hz : s.writeEngEn e v = if s.engState e = 0 ∨ s.engState e = 3 then t.engRest e else t := by
    rw [← hstate]
    exact if_neg (Nat.not_le.2 he)
  rw [hz]
  split
  · have hrest : OnlyRegs (engShown e) t (t.engRest e) := setEng_onlyRegs e _ t
    exact ⟨(hrest _ (engShown_apart e _ (by simp))).trans hen, by rw [engState_engRest, hon],
      hregs.trans (hrest.mono (List.subset_cons_self ..))⟩
  · exact ⟨hen, hstate, hregs⟩

/-- SELFTEST_FAIL is shown apart from the state and the fault of the engine. -/
theorem selftest_apart (e : Nat) :
    (WR.CMP_ENG_STATUS_STATE e).key ≠ (WR.CMP_ENG_STATUS_SELFTEST_FAIL e).key ∧
    (WR.CMP_ENG_STATUS_CAUSE e).key ≠ (WR.CMP_ENG_STATUS_SELFTEST_FAIL e).key ∧
    WR.CMP_STATUS_ENG_FAULT.key ≠ (WR.CMP_ENG_STATUS_SELFTEST_FAIL e).key := by
  simp only [engKeys, cmpKeys]
  omega

/-- In HELD and ADMITTED a write of CMP_CTRL is taken (R383). -/
theorem wget_cmpCtrl_open (hopen : s.isOpen = true) {f : Fld} (hf : f ∈ cmpCtrlFields) (v : Nat) :
    (s.wstore WR.CMP_CTRL v).wget f = bits f.hi f.lo v := by
  have hacc : ∀ f ∈ cmpCtrlFields, f.acc = .rwa := by decide
  rw [wget_wstore regAt_cmpCtrl hf, RegFile.written, hacc f hf, hopen]
  rfl

/-- In other states a write of CMP_CTRL is refused. -/
theorem wstore_cmpCtrl_closed (hclosed : s.isOpen = false) (v : Nat) : (s.wstore WR.CMP_CTRL v).wr = s.wr := by
  rw [wstore_eq regAt_cmpCtrl, hclosed]
  rfl

/-- A write of CMP_CTRL leaves every other register. -/
theorem wstore_cmpCtrl_onlyRegs (v : Nat) (s : State) : OnlyRegs cmpCtrlFields s (s.wstore WR.CMP_CTRL v) := by
  intro f hf
  rw [wstore_eq regAt_cmpCtrl]
  exact RegFile.get_write_other _ _ hf _

end State

end Sys2Proof.Machine
end

section
/-! PROOF. The reorder table, the ratio windows and the control of engines (O24): one theorem for each clause. -/

namespace Sys2Proof.Machine

open Sys2Proof

/-- The record that is next leaves the table for the output areas. -/
theorem cmpReorderRelease_releases (a : Area) (s : State) :
    s.isRun = true → s.relNext < 2 ^ 64 → s.cmp.waiting = [] →
    s.cmp.table.find? (fun x => State.recSeq x.ctx0 == s.relNext) = some a →
    Runs .cmpReorderRelease s fun z =>
      z.cmp = { s.cmp with
        table := s.cmp.table.filter (fun x => State.recSeq x.ctx0 != s.relNext), areas := s.cmp.areas ++ [a] } :=
  fun hrun hrel hwaiting hnext =>
    .of_exec (congrArg Host.Outcome.next (if_pos hrun)) (State.releaseNext_cmp hrel hwaiting hnext)

/-- The end of a 1 ms window shows its ratio. -/
theorem cmpRatioWindow_ms (s : State) :
    0 < s.cmp.outMs →
    Runs (.cmpRatioWindow false) s fun z =>
      z.wget WR.CMP_RATIO_RATIO_1MS = min 65535 (s.cmp.inMs * 256 / s.cmp.outMs) ∧
      z.cmp = { s.cmp with inMs := 0, outMs := 0 } ∧
      (min 65535 (s.cmp.inMs * 256 / s.cmp.outMs) < s.decl 0x0B 0 256 → z.wget WR.CMP_STATUS_RATIO_LOW = 1) ∧
      OnlyRegs [WR.CMP_RATIO_RATIO_1MS, WR.CMP_STATUS_RATIO_LOW] s z ∧ z.freeCnt = s.freeCnt :=
  fun ho => .of_exec rfl (State.ratioWindow_ms ho)

/-- The end of a 1 s window shows its ratio. -/
theorem cmpRatioWindow_s (s : State) :
    0 < s.cmp.outS →
    Runs (.cmpRatioWindow true) s fun z =>
      z.wget WR.CMP_RATIO_RATIO_1S = min 65535 (s.cmp.inS * 256 / s.cmp.outS) ∧
      z.cmp = { s.cmp with inS := 0, outS := 0 } ∧ OnlyRegs [WR.CMP_RATIO_RATIO_1S] s z ∧ z.freeCnt = s.freeCnt :=
  fun ho => .of_exec rfl (State.ratioWindow_s ho)

/-- A write of EN turns an idle engine off and an engine that is off on. -/
theorem cmpEngEnWrite_rests (e : Nat) (v : Bool) (s : State) :
    e < s.engCount →
    Runs (.cmpEngEnWrite e v) s fun z =>
      z.wget (WR.CMP_ENG_CTRL_EN e) = b2n v ∧
      z.engState e = (if s.engState e = 0 ∨ s.engState e = 3 then (if v then 0 else 3) else s.engState e) ∧
      OnlyRegs [WR.CMP_ENG_CTRL_EN e, WR.CMP_ENG_STATUS_STATE e, WR.CMP_STATUS_ENABLED, WR.CMP_STATUS_ALL_OFF] s z :=
  fun he => .of_exec rfl (State.writeEngEn_effect he v)

/-- REENABLE takes a FAULTY engine into its self-test. -/
theorem cmpReenable_tests (e : Nat) (s : State) :
    e < s.engCount → s.engState e = 4 →
    Runs (.cmpReenable e) s fun z =>
      z.engState e = 5 ∧ OnlyRegs [WR.CMP_ENG_STATUS_STATE e, WR.CMP_STATUS_ENABLED, WR.CMP_STATUS_ALL_OFF] s z :=
  fun he hfaulty => .of_exec (congrArg Host.Outcome.next (if_pos ⟨he, hfaulty⟩))
    ⟨State.engState_setEng (by decide) e s, State.setEng_onlyRegs e 5 s⟩

/-- The self-test leaves the engine resting, or FAULTY with cause 3. -/
theorem cmpReenableDone_rests_or_faults (e : Nat) (s : State) :
    s.engState e = 5 →
    (Runs (.cmpReenableDone e true) s fun z =>
      z.engState e = (if s.won (WR.CMP_ENG_CTRL_EN e) then 0 else 3) ∧ z.wget (WR.CMP_ENG_STATUS_CAUSE e) = 0 ∧
      OnlyRegs [WR.CMP_ENG_STATUS_STATE e, WR.CMP_ENG_STATUS_CAUSE e, WR.CMP_STATUS_ENABLED, WR.CMP_STATUS_ALL_OFF] s z) ∧
    Runs (.cmpReenableDone e false) s fun z =>
      z.engState e = 4 ∧ z.wget (WR.CMP_ENG_STATUS_CAUSE e) = 3 ∧ z.wget (WR.CMP_ENG_STATUS_SELFTEST_FAIL e) = 1 ∧
      z.wget WR.CMP_STATUS_ENG_FAULT = 1 := by
  intro htest
  constructor
  · let t := s.wset (WR.CMP_ENG_STATUS_CAUSE e) 0
    have hen : t.won (WR.CMP_ENG_CTRL_EN e) = s.won (WR.CMP_ENG_CTRL_EN e) :=
      State.won_congr (State.wget_wset_other (State.faultShown_apart e _ (by simp) _ (by simp [State.faultShown])) ..)
    have hrest : OnlyRegs (State.engShown e) t (t.engRest e) := State.setEng_onlyRegs e _ t
    exact .of_exec (t := t.engRest e) (if_pos htest)
      ⟨(State.engState_engRest e t).trans (by rw [hen]),
        (hrest _ (State.engShown_apart e _ (by simp))).trans (State.wget_wset_self ..),
        .trans (t := t) (.wset 0 (.refl _ s) (by simp)) (hrest.mono (by simp [State.engShown]))⟩
  · let t := s.engFault e 3
    obtain ⟨hfaulty, hcause, hfault⟩ := State.engFault_shows (cause := 3) (by decide) e s
    obtain ⟨hstate', hcause', hfault'⟩ := State.selftest_apart e
    exact .of_exec (t := t.wset (WR.CMP_ENG_STATUS_SELFTEST_FAIL e) 1) (if_pos htest)
      ⟨(State.wget_wset_other hstate' ..).trans hfaulty, (State.wget_wset_other hcause' ..).trans hcause,
        State.wget_wset_self .., (State.wget_wset_other hfault' ..).trans hfault⟩

/-- A write of CMP_CTRL is taken in HELD and ADMITTED and refused in other states. -/
theorem cmpBypassWrite_taken_or_refused (v : Nat) (s : State) :
    Runs (.cmpBypassWrite v) s fun z =>
      (s.ws = 2 ∨ s.ws = 3 → z.won WR.CMP_CTRL_BYPASS = bit 1 v ∧ z.won WR.CMP_CTRL_PRECODE = bit 0 v ∧
        z.won WR.CMP_CTRL_LAZY = bit 2 v ∧ z.wget WR.CMP_CTRL_CHAIN_MAX = bits 15 8 v ∧
        z.wget WR.CMP_CTRL_NICE_LEN = bits 24 16 v) ∧
      (¬ (s.ws = 2 ∨ s.ws = 3) → z.wr = s.wr) ∧
      OnlyRegs [WR.CMP_CTRL_NICE_LEN, WR.CMP_CTRL_CHAIN_MAX, WR.CMP_CTRL_LAZY, WR.CMP_CTRL_BYPASS, WR.CMP_CTRL_PRECODE] s z := by
  have hopen : s.isOpen = true ↔ s.ws = 2 ∨ s.ws = 3 := by simp [State.isOpen]
  refine .of_exec rfl ⟨fun h => ?_, fun h => ?_, State.wstore_cmpCtrl_onlyRegs v s⟩
  · have htaken {f : Fld} (hf : f ∈ cmpCtrlFields) := State.wget_cmpCtrl_open (hopen.2 h) hf v
    have hflag {f : Fld} (hf : f ∈ cmpCtrlFields) : (s.wstore WR.CMP_CTRL v).won f = (bits f.hi f.lo v != 0) := by
      rw [State.won_eq, htaken hf]
    exact ⟨(hflag (by decide)).trans (bits_ne_zero 1 v), (hflag (by decide)).trans (bits_ne_zero 0 v),
      (hflag (by decide)).trans (bits_ne_zero 2 v), htaken (by decide), htaken (by decide)⟩
  · exact State.wstore_cmpCtrl_closed (Bool.eq_false_iff.2 (mt hopen.1 h)) v

/-- Settles O24, clause by clause. -/
theorem reorderAndEngineControl : Obligations.ReorderAndEngineControl :=
  ⟨cmpReorderRelease_releases, cmpRatioWindow_ms, cmpRatioWindow_s, cmpEngEnWrite_rests, cmpReenable_tests,
    cmpReenableDone_rests_or_faults, cmpBypassWrite_taken_or_refused⟩

end Sys2Proof.Machine
end
